-- ==== Sys2Proof/Word.lean ====
section
/-! DEFINITION. The word and byte types of the model and their plainest arithmetic. -/

namespace Sys2Proof

/-- A byte. -/
abbrev Byte := BitVec 8
/-- A 32-bit register or packet word. -/
abbrev Word := BitVec 32
/-- A 64-bit register or packet word. -/
abbrev Word64 := BitVec 64

/-- Bits [hi:lo] of a number, the manual's notation for bit fields. -/
def bits (v hi lo : Nat) : Nat := v / 2 ^ lo % 2 ^ (hi + 1 - lo)

/-- Bit [n] of a number. -/
def bit (v n : Nat) : Bool := v / 2 ^ n % 2 == 1

/-- A counter that saturates at the largest value of its 32-bit field. -/
def satInc (c : Nat) : Nat := if c < 0xFFFFFFFF then c + 1 else c

/-- A counter that wraps in its 32-bit field. -/
def wrapInc (c : Nat) : Nat := (c + 1) % 2 ^ 32

/-- Adding to a counter that saturates in its 32-bit field. -/
def satAdd (c n : Nat) : Nat := min (c + n) 0xFFFFFFFF

/-- A counter of `w` bits that saturates. -/
def satIncW (w c : Nat) : Nat := if c + 1 < 2 ^ w then c + 1 else c

/-- 1 for true and 0 for false, as a one-bit field reads. -/
def b2n (b : Bool) : Nat := if b then 1 else 0

end Sys2Proof
end

