-- ==== Sys2Proof/Machine/StateTask.lean ====
section
/-! DEFINITION. The state of the host interface (chapter 02), of the task slots, tags, range locks and reply rings
(chapter 03), and the packet and reply formats (chapter 04). Every field's comment names its width, its rule and its
reset value. -/

namespace Sys2Proof.Machine

/-- A sparse map: (key, value) pairs, keys strictly rising. -/
abbrev SMap (α : Type) := List (Nat × α)

/-- The 64-byte command packet of Table 4.1 (R88), its fields as numbers of their stated widths. -/
structure Packet where
  opc : Nat
  flags : Nat
  cookie : Nat
  dlen : Nat
  vol : Nat
  addr : Nat
  dptr : Nat
  p0 : Nat
  p1 : Nat
  p2 : Nat
  p3 : Nat
  p4 : Nat
  p5 : Nat
  rsv : Nat
  chk : Nat
  deriving DecidableEq, Repr

/-- The part of a reply a command decides: STATUS, DETAIL, RESULT0 and RESULT1 (Table 4.4). -/
structure Reply where
  status : Nat
  detail : Nat := 0
  r0 : Nat := 0
  r1 : Nat := 0
  deriving DecidableEq, Repr

/-- The content of a 32-byte reply entry but for its phase bit (Table 4.4, R93). -/
structure Entry where
  cookie : Nat
  qid : Nat
  status : Nat
  detail : Nat
  tag : Nat
  r0 : Nat
  r1 : Nat
  deriving DecidableEq, Repr

/-- Where a command came from (R56, R68). -/
inductive Source where
  | queue (q : Nat)
  | footpath
  deriving DecidableEq, Repr

/-- How far an accepted command has come. -/
inductive Stage where
  /-- waits for a free range-lock entry (R78) -/
  | waitEntry
  /-- has a lock entry and waits for the grant (R77) -/
  | waitLock
  /-- waits for its fragment list (R92) -/
  | waitFrags
  /-- waits for Footpath data chunks (R98) -/
  | waitData
  /-- may carry out its opcode's effect -/
  | ready
  /-- its effect has begun and goes on -/
  | running
  /-- its final reply is known and not yet handed to the reply engine -/
  | finished
  /-- completed: its reply is with the reply engine (R83) -/
  | completed
  deriving DecidableEq, Repr

/-- A block of staged data that a covered read holds (R80). -/
structure Pin where
  lba : Nat
  /-- acceptance sequence number of the write that staged it -/
  seq : Nat
  /-- 4,096 bytes -/
  data : List Byte
  deriving DecidableEq, Repr

/-- One accepted command, from acceptance until its tag is freed. -/
structure Op where
  /-- device tag, 0 to 32,767 (R67) -/
  tag : Nat
  /-- acceptance sequence number, 64 bits (R69) -/
  seq : Nat
  src : Source
  /-- the reply ring of its queue (R58) -/
  ring : Nat
  pkt : Packet
  /-- ordering class F (R58, R76) -/
  classF : Bool
  /-- a covered class F read (R80) -/
  covered : Bool
  stage : Stage
  /-- the volume instance that passed check 5 (R94) -/
  volGen : Option Nat
  /-- the fragment list as read: (address, length) (R92) -/
  frags : List (Nat × Nat)
  /-- data bytes received over Footpath (R98) -/
  rx : List Byte
  /-- the next DATA SEQ awaited (R472) -/
  rxSeq : Nat
  /-- the chunk marked LAST has come (R98) -/
  rxLast : Bool := false
  /-- device lifetime in ms at its acceptance, or at its latest chunk (R98) -/
  rxAt : Nat := 0
  /-- output bytes bound for Footpath DATA chunks (R98) -/
  tx : List Byte
  /-- staged data pinned by a covered read (R80) -/
  pins : List Pin
  /-- LBAs of compressed blocks it has inflated (R305) -/
  inflated : List Nat
  /-- LBAs of compressed blocks that failed inflation (R305) -/
  inflateBad : List Nat
  /-- data has started moving (Table 3.11) -/
  moving : Bool
  /-- the mirror sequence number of its last mirror entry not yet confirmed (R24, R344) -/
  mirror : Option Nat
  /-- the write holds its lock and waits for staging or mirror room (R503) -/
  waitStaging : Bool
  /-- granules it holds in device bias: (first, count) (R43) -/
  granules : List (Nat × Nat)
  /-- the digest context it works in (R309) -/
  ctx : Option Nat
  reply : Option Reply
  /-- ended by an ABORT (Table 3.10) -/
  aborted : Bool
  /-- its reply is discarded (R54) -/
  discard : Bool
  /-- its reply is written after the reply of the command with this sequence number (Table 3.10) -/
  after : Option Nat
  /-- a value the command keeps for its own use between its steps -/
  aux : Nat
  /-- its bulk transfers still to come were discarded by an FLR that found the CXL.io stream Insecure (R50) -/
  mute : Bool := false
  /-- an FLR came while it ran: it flips no granule (R54) -/
  noFlip : Bool := false
  deriving DecidableEq, Repr

/-- A queue's settings (Table 3.1). -/
structure Queue where
  ring : Nat
  limit : Nat
  classF : Bool
  /-- the accepted QUEUE_DELETE's sequence number, once there is one (R59) -/
  deleting : Option Nat
  deriving DecidableEq, Repr

/-- A reply handed to the reply engine and not yet written (R73). -/
structure Waiting where
  entry : Entry
  /-- the tag it frees when it is written -/
  tag : Nat
  /-- it waits for the reply of the command with this sequence number -/
  after : Option Nat
  deriving DecidableEq, Repr

/-- A reply ring (Tables 3.6 and 3.22 to 3.24). -/
structure Ring where
  base : Nat
  sizeLog2 : Nat
  vector : Nat
  count : Nat
  time : Nat
  /-- RRH_HEAD.INDEX and WRAP (R72) -/
  head : Nat
  headWrap : Bool
  /-- RRH_TAIL.INDEX and WRAP (R71) -/
  tail : Nat
  tailWrap : Bool
  /-- RRH_STATUS.FULL_SEEN -/
  fullSeen : Bool
  /-- RRH_STATUS.INT_MASK -/
  intMask : Bool
  /-- RRH_STATUS.HEAD_ERR -/
  headErr : Bool
  /-- visible entries not yet signalled (R74) -/
  unsignalled : Nat
  /-- a RING_FULL notice was posted and no entry has been free since (R73) -/
  noticed : Bool
  /-- device lifetime in ms at which the ring last became full (R73) -/
  fullAt : Nat := 0
  /-- replies waiting for a free entry, in completion order (R73) -/
  waiting : List Waiting
  deriving DecidableEq, Repr

/-- A range-lock table entry (chapter 03, R77). -/
structure Lock where
  tag : Nat
  seq : Nat
  vol : Nat
  first : Nat
  count : Nat
  excl : Bool
  granted : Bool
  deriving DecidableEq, Repr

/-- The TSK block and all that the intake, the lock table and the reply engine hold. -/
structure Tsk where
  /-- queues other than queue 0 (R57, R58); 03_task_slots.md; reset: none -/
  queues : SMap Queue
  /-- HELD packets by queue, in the order they were latched (R61, R62); 03_task_slots.md; reset: none -/
  held : List (Nat × Packet)
  /-- accepted commands holding tags, in acceptance order (R67, R69); 03_task_slots.md; reset: none -/
  ops : List Op
  /-- 64-bit next acceptance sequence number, TSK_ACCEPT_SEQ (R69, Table 3.21); 03_task_slots.md; reset 1 -/
  nextSeq : Nat
  /-- blocks of WRITEs that ended without SUCCESS and that no later WRITE has covered: (volume, first, count, acceptance sequence number)
  (R80); 03_task_slots.md; reset: none -/
  failedWrites : List (Nat × Nat × Nat × Nat)
  /-- tags from this one up have never been used (R67); 03_task_slots.md; reset 0 -/
  freshTag : Nat
  /-- used tags now free, in the order they were freed (R67); 03_task_slots.md; reset: none -/
  freedTags : List Nat
  /-- TSK_TAGS.PEAK, 16 bits (Table 3.17); 03_task_slots.md; reset 0 -/
  peak : Nat
  /-- reply rings; ring 0 stands at key 0 (R70, R87); 03_task_slots.md; reset: ring 0 alone, disabled, SIZE_LOG2 6 -/
  rings : SMap Ring
  /-- TSK_RING0_CTRL.EN (Table 3.16); 03_task_slots.md; reset 0 -/
  ring0En : Bool
  /-- the overrun buffer: tagless replies by ring, at most 4,096 (R64); 03_task_slots.md; reset: empty -/
  overrun : List (Nat × Entry)
  /-- the event buffer, at most 1,024 (R75); 03_task_slots.md; reset: empty -/
  events : List Entry
  /-- the range-lock table, at most 16,384 entries (R77, R78); 03_task_slots.md; reset: empty -/
  locks : List Lock
  /-- TSK_HELD_SEL.GROUP, 14 bits (Table 3.19); 03_task_slots.md; reset 0 -/
  heldSel : Nat
  /-- TSK_ACCEPTED, 32 bits, wraps (Table 3.21); 03_task_slots.md; reset 0 -/
  accepted : Nat
  /-- TSK_OVERRUNS, 32 bits, saturates (Table 3.21); 03_task_slots.md; reset 0 -/
  overruns : Nat
  /-- TSK_OVERRUN_LASTQ, 20 bits (Table 3.21); 03_task_slots.md; reset 0 -/
  overrunLastQ : Nat
  /-- TSK_OVERRUN_UNREPLIED, 32 bits, saturates (Table 3.21); 03_task_slots.md; reset 0 -/
  overrunUnreplied : Nat
  /-- TSK_NOQUEUE_DROPPED, 32 bits, saturates (Table 3.21); 03_task_slots.md; reset 0 -/
  noqueueDropped : Nat
  /-- TSK_CRC_DROPPED, 32 bits, saturates (Table 3.21); 03_task_slots.md; reset 0 -/
  crcDropped : Nat
  /-- TSK_FWD_HITS, 32 bits, wraps (Table 3.21); 03_task_slots.md; reset 0 -/
  fwdHits : Nat
  /-- TSK_FWD_FALLBACKS, 32 bits, wraps (Table 3.21); 03_task_slots.md; reset 0 -/
  fwdFallbacks : Nat
  /-- TSK_EVENTS_LOST, 32 bits, saturates (Table 3.21); 03_task_slots.md; reset 0 -/
  eventsLost : Nat
  deriving DecidableEq, Repr

/-- One MSI-X table entry (R47, R501). -/
structure MsixEntry where
  addr : Nat
  data : Nat
  mask : Bool
  deriving DecidableEq, Repr

/-- One HDM decoder (R41). -/
structure HdmDecoder where
  /-- base host address -/
  base : Nat
  /-- bytes of device memory the decoder maps -/
  size : Nat
  /-- interleave ways: 1, 2, 4 or 8 -/
  ways : Nat
  /-- interleave granularity in bytes -/
  gran : Nat
  /-- this device's position in the interleave set -/
  pos : Nat
  committed : Bool
  /-- Error Not Committed -/
  error : Bool
  deriving DecidableEq, Repr

/-- A transaction the device issues to the host (R37, R38, R43). -/
inductive HostOp where
  /-- a bus-master write of a command's data on CXL.io: offset in its output stream, bytes, and the no-snoop attribute -/
  | bulkWrite (tag off len : Nat) (noSnoop : Bool)
  /-- a coherent read of a fragment list or a parameter block, which the device does not keep -/
  | rdShared (addr : Nat)
  /-- a partial-line write of a 32-byte reply entry -/
  | wrCur (addr : Nat)
  /-- the host's copies of a granule's 1,024 lines are taken away -/
  | rdOwnNoData (granule : Nat)
  deriving DecidableEq, Repr

/-- The HST block, the CXL link and what belongs to it (chapter 02). -/
structure Hst where
  /-- HST_LINK_STATUS.SPEED, 4 bits (Table 2.10); 02_cxl_attach.md; reset 0 -/
  speed : Nat
  /-- HST_LINK_STATUS.WIDTH, 4 bits (Table 2.10); 02_cxl_attach.md; reset 0 -/
  width : Nat
  /-- HST_LINK_STATUS.MODE, 2 bits: 0 down, 1 PCIe only, 2 CXL (Table 2.10, R30); 02_cxl_attach.md; reset 0 -/
  mode : Nat
  /-- HST_LINK_STATUS.LANE_REVERSED (Table 2.10); 02_cxl_attach.md; reset 0 -/
  laneReversed : Bool
  /-- HST_LINK_STATUS.IDE_IO_SECURE (Table 2.10, R49); 02_cxl_attach.md; reset 0 -/
  ideIo : Bool
  /-- HST_LINK_STATUS.IDE_CM_SECURE (Table 2.10, R49); 02_cxl_attach.md; reset 0 -/
  ideCm : Bool
  /-- the CXL.io stream is in the Insecure state and its traffic waits (R50); 02_cxl_attach.md; reset false (DESIGN CHOICE: no stream is set up, log entry 3) -/
  ioHeld : Bool
  /-- the CXL.cache/mem stream is in the Insecure state and its traffic waits (R50); 02_cxl_attach.md; reset false (DESIGN CHOICE, log entry 3) -/
  cmHeld : Bool
  /-- HST_LINK_EVENTS.DOWNTRAIN_SPEED (Table 2.11); 02_cxl_attach.md; reset 0 -/
  evSpeed : Bool
  /-- HST_LINK_EVENTS.DOWNTRAIN_WIDTH (Table 2.11); 02_cxl_attach.md; reset 0 -/
  evWidth : Bool
  /-- HST_LINK_EVENTS.IDE_FAIL_IO (Table 2.11); 02_cxl_attach.md; reset 0 -/
  evIdeIo : Bool
  /-- HST_LINK_EVENTS.IDE_FAIL_CM (Table 2.11); 02_cxl_attach.md; reset 0 -/
  evIdeCm : Bool
  /-- HST_LINK_EVENTS.FLR_DONE (Table 2.11); 02_cxl_attach.md; reset 0 -/
  evFlr : Bool
  /-- HST_ARENA.SIZE_CUR, 8 bits, units of 256 MiB (Table 2.12, R40); 02_cxl_attach.md; reset: from feature 0x01, default 0 -/
  arenaCur : Nat
  /-- HST_BIAS_FLIP_START.GRANULE, 19 bits (Table 2.13); 02_cxl_attach.md; reset 0 -/
  flipStart : Nat
  /-- HST_BIAS_FLIP_CTRL.COUNT, 20 bits (Table 2.14); 02_cxl_attach.md; reset 0 -/
  flipCount : Nat
  /-- HST_BIAS_FLIP_CTRL.TO_DEVICE (Table 2.14); 02_cxl_attach.md; reset 0 -/
  flipToDevice : Bool
  /-- HST_BIAS_FLIP_STATUS.BUSY (Table 2.15); 02_cxl_attach.md; reset 0 -/
  flipBusy : Bool
  /-- HST_BIAS_FLIP_STATUS.DONE (Table 2.15); 02_cxl_attach.md; reset 0 -/
  flipDone : Bool
  /-- HST_BIAS_FLIP_STATUS.REFUSED (Table 2.15); 02_cxl_attach.md; reset 0 -/
  flipRefused : Bool
  /-- granules in device bias, ascending (R42); 02_cxl_attach.md; reset: none (every granule in host bias) -/
  deviceBias : List Nat
  /-- HST_BIAS_CONFLICTS, 32 bits, saturates (Table 2.16); 02_cxl_attach.md; reset 0 -/
  biasConflicts : Nat
  /-- HST_BAR2_DROPPED, 32 bits, saturates (Table 2.16); 02_cxl_attach.md; reset 0 -/
  bar2Dropped : Nat
  /-- HST_GPF_COUNT, 32 bits, wraps (Table 2.16); 02_cxl_attach.md; reset 0 -/
  gpfCount : Nat
  /-- host lines the CXL.cache agent holds, at most 256 KiB (R38, R51); 02_cxl_attach.md; reset 0 -/
  hostLines : Nat
  /-- the two HDM decoders (R41); 02_cxl_attach.md; reset: uncommitted, all zero (DESIGN CHOICE for the uncommitted fields, log entry 3) -/
  hdm0 : HdmDecoder
  hdm1 : HdmDecoder
  /-- CXL RAS status bits set, by Table 2.9's rows in order (R52); 02_cxl_attach.md; reset: none (DESIGN CHOICE, log entry 3) -/
  ras : List Nat
  /-- the first uncorrectable error among `ras`, by Table 2.9's rows, with the address its header names: First Error Pointer and header log
  (R52); 02_cxl_attach.md; reset: none (DESIGN CHOICE, log entry 3) -/
  rasFirst : Option (Nat × Nat)
  /-- rows of Table 2.9 whose RAS mask bit is set (R52); 02_cxl_attach.md; reset: all six (PRESUMED: the CXL 2.0 default, log entry 3) -/
  rasMask : List Nat
  /-- rows of Table 2.9 whose RAS severity is fatal (R52); 02_cxl_attach.md; reset: the uncorrectable ones (PRESUMED: the CXL 2.0 default, log entry 3) -/
  rasFatal : List Nat
  /-- the function is in D3hot, else in D0 (R29, Table 2.4); 02_cxl_attach.md; reset false (PRESUMED: D0, log entry 3) -/
  d3hot : Bool
  /-- AER uncorrectable status bits set, sticky (R53, R54, Table 2.4); 02_cxl_attach.md; reset: none (PRESUMED: the PCI Express default, log entry 3) -/
  aer : List Nat
  /-- transactions issued to the host, newest first (R37, R38, R43); 02_cxl_attach.md; reset: none -/
  bus : List HostOp
  /-- viral enabled in the CXL devices DVSEC (R53); 02_cxl_attach.md; reset false (PRESUMED: the DVSEC default, log entry 3) -/
  viralEn : Bool
  /-- the device has signalled viral (R53); 02_cxl_attach.md; reset false -/
  viral : Bool
  /-- what CXL.mem reads were answered, newest first: (host address, 64 bytes, poison) (R41, R46); 02_cxl_attach.md; reset: none -/
  memAnswers : List (Nat × List Byte × Bool)
  /-- MSI-X Enable (R501); 02_cxl_attach.md; reset 0 -/
  msixEn : Bool
  /-- MSI-X Function Mask (R501); 02_cxl_attach.md; reset 0 -/
  msixFmask : Bool
  /-- MSI-X table entries that differ from the default of R501 (masked, zero), by vector; 02_cxl_attach.md; reset: none -/
  msixTable : SMap MsixEntry
  /-- vectors whose pending bit is set (R47); 02_cxl_attach.md; reset: none -/
  msixPending : List Nat
  /-- MSI-X messages sent, newest first: (address, data) (R47); 02_cxl_attach.md; reset: none -/
  msixSent : List (Nat × Nat)
  /-- SPDM secured session: 0 none, 1 session, 2 Crypto Officer, 3 User (R49, R330); 02_cxl_attach.md, 13_digest_security.md; reset 0 -/
  session : Nat
  /-- what SPDM exchanges on the DOE mailbox answered, newest first: KEY_ID and the signature of the attestation key (R49, R321); 02_cxl_attach.md; reset: none -/
  doe : List (List Byte)
  deriving DecidableEq, Repr

end Sys2Proof.Machine
end

