-- ==== Sys2Proof/Machine/StateEng.lean ====
section
/-! DEFINITION. The state of Waymark (chapter 11), of the compression engine (chapter 12), of digests, keys, milestones
and the security module (chapter 13) and of ageing, the margin planner and the self-tests (chapter 18). -/

namespace Sys2Proof.Machine

/-- One Waymark array unit; the first unit of a row carries the row's result word and VALID bit (R276, R277). -/
structure WUnit where
  /-- VALUE, 64 bits -/
  value : Nat
  /-- MASK, 64 bits -/
  mask : Nat
  /-- result word, 16 bits -/
  result : Nat
  valid : Bool
  deriving DecidableEq, Repr

/-- A Waymark table's registers (Table 11.5). -/
structure WTable where
  firstBank : Nat
  /-- WIDTH code, 2 bits -/
  width : Nat
  copies : Nat
  en : Bool
  ready : Bool
  clearing : Bool
  deriving DecidableEq, Repr

/-- A search in a table's queue: a Kite core's request (R255, R280). -/
structure WSearch where
  table : Nat
  run : Nat
  num : Nat
  key : List Word
  deriving DecidableEq, Repr

/-- The WAYC block and the Waymark arrays. -/
structure Way where
  /-- WAYC_TABLE0 to 7 (Table 11.5, R291); 11_waymark.md; reset: FIRST_BANK 0, WIDTH 0, COPIES 1, EN 0 -/
  tables : List WTable
  /-- array units and rows that are not zero and invalid, by number 4,096 × bank + unit (R276); 11_waymark.md; reset: none (DESIGN CHOICE, log entry 7) -/
  array : SMap WUnit
  /-- the shadow, where it is not zero and invalid, by the same number (R287); 11_waymark.md; reset: none -/
  shadow : SMap WUnit
  /-- WAYC_STATUS.CFG_REJECT (Table 11.6); 11_waymark.md; reset 0 -/
  cfgReject : Bool
  /-- WAYC_STATUS.LOST (Table 11.6); 11_waymark.md; reset 0 -/
  lost : Bool
  /-- searches queued, oldest first, at most 64 a table (R280); 11_waymark.md; reset: none -/
  queue : List WSearch
  /-- unit the sweep compares next (R288); 11_waymark.md; reset 0 -/
  sweepAt : Nat
  /-- WAYC_SEARCHES, 64 bits (Table 11.8); 11_waymark.md; reset 0 -/
  searches : Nat
  /-- WAYC_HITS, 32 bits, wraps (Table 11.8); 11_waymark.md; reset 0 -/
  hits : Nat
  /-- WAYC_MULTI, 32 bits, wraps (Table 11.8); 11_waymark.md; reset 0 -/
  multi : Nat
  /-- WAYC_UNIT_WRITES, 32 bits, wraps (Table 11.8); 11_waymark.md; reset 0 -/
  unitWrites : Nat
  /-- WAYC_SWEEP_PASSES, 32 bits, wraps (Table 11.8); 11_waymark.md; reset 0 -/
  sweepPasses : Nat
  /-- WAYC_SWEEP_REPAIRS, 32 bits, saturates (Table 11.8); 11_waymark.md; reset 0 -/
  sweepRepairs : Nat
  /-- WAYC_VERIFY_REPAIRS, 32 bits, saturates (Table 11.8); 11_waymark.md; reset 0 -/
  verifyRepairs : Nat
  /-- WAYC_LOST_ENTRIES, 32 bits, saturates (Table 11.8); 11_waymark.md; reset 0 -/
  lostEntries : Nat
  /-- WAYC_FORCED_SLOTS, 32 bits, saturates (Table 11.8); 11_waymark.md; reset 0 -/
  forcedSlots : Nat
  deriving DecidableEq, Repr

/-- A request class of the compression pipes (R294). -/
inductive PipeClass where
  | inlineC
  | command
  | kite
  deriving DecidableEq, Repr

/-- A request that holds or waits for a compression pipe (R293, R294). -/
structure PipeReq where
  cls : PipeClass
  /-- tag of the command, or of the run -/
  tag : Nat
  /-- instance number of a Kite request -/
  num : Nat
  decomp : Bool
  deriving DecidableEq, Repr

/-- The CMPC block. -/
structure Cmp where
  /-- CMPC_STATUS.VERIFY_FAIL (Table 12.6); 12_compression.md; reset 0 -/
  verifyFail : Bool
  /-- requests on the 8 compression pipes: CMPC_STATUS.COMP_BUSY (Table 12.6, R293); 12_compression.md; reset: none -/
  comp : SMap PipeReq
  /-- requests on the 8 decompression pipes: CMPC_STATUS.DECOMP_BUSY (Table 12.6, R293); 12_compression.md; reset: none -/
  decomp : SMap PipeReq
  /-- requests waiting for a pipe, oldest first; CMPC_CFG.CMD_QUEUED counts the command ones (Table 12.7, R294); 12_compression.md; reset: none -/
  waiting : List PipeReq
  /-- feature 0x04 as latched when each compression pipe was granted last (Table 12.5); 12_compression.md; reset: none -/
  gains : SMap Nat
  /-- class granted last on compression and on decompression pipes: 0 inline, 1 command, 2 Kite (R294); 12_compression.md; reset 2 (DESIGN CHOICE, log entry 7) -/
  lastComp : Nat
  lastDecomp : Nat
  /-- CMPC_IN_BYTES, 64 bits (Table 12.8); 12_compression.md; reset 0 -/
  inBytes : Nat
  /-- CMPC_OUT_BYTES, 64 bits (Table 12.8); 12_compression.md; reset 0 -/
  outBytes : Nat
  /-- CMPC_DEC_BYTES, 64 bits (Table 12.8); 12_compression.md; reset 0 -/
  decBytes : Nat
  /-- CMPC_NO_GAIN, 32 bits, wraps (Table 12.8); 12_compression.md; reset 0 -/
  noGain : Nat
  /-- CMPC_VERIFY_MISMATCH, 32 bits, saturates (Table 12.8); 12_compression.md; reset 0 -/
  verifyMismatch : Nat
  /-- CMPC_FORMAT_ERRORS, 32 bits, saturates (Table 12.8); 12_compression.md; reset 0 -/
  formatErrors : Nat
  /-- CMPC_INLINE_C, 32 bits, wraps (Table 12.8); 12_compression.md; reset 0 -/
  inlineC : Nat
  /-- CMPC_INLINE_U, 32 bits, wraps (Table 12.8); 12_compression.md; reset 0 -/
  inlineU : Nat
  /-- CMPC_INFLATE_FAIL, 32 bits, saturates (Table 12.8); 12_compression.md; reset 0 -/
  inflateFail : Nat
  deriving DecidableEq, Repr

/-- A digest context in use (R308, R309). -/
structure DigestCtx where
  /-- algorithm code of Table 13.1 -/
  alg : Nat
  /-- HMAC slot whose key the message uses -/
  hmac : Option Nat
  /-- message bytes absorbed so far -/
  data : List Byte
  /-- a Kite core's instance that holds it: (run, number); none for the command path -/
  kite : Option (Nat × Nat)
  /-- tags of the message's accepted parts not yet carried out, oldest first (R310) -/
  parts : List Nat
  /-- the message was ended while its first part still runs: cleared when that part ends (Table 3.11, R313) -/
  doomed : Bool
  /-- device lifetime in ms since which no part has been in progress or waiting (R313) -/
  since : Nat := 0
  deriving DecidableEq, Repr

/-- A key in the key log (R325): its identity and what it serves. -/
structure KeyRec where
  vol : Nat
  keyId : Nat
  /-- 0 volume in force, 1 foster, 2 pending import -/
  kind : Nat
  capacity : Nat
  attrs : Nat
  deriving DecidableEq, Repr

/-- One link's session keys (R328): Tether is link 0 and Trail port p is link 1 + p. -/
structure LinkKey where
  /-- identity of the retained secret, none before a session -/
  secret : Option Nat
  /-- derivation counter, 32 bits, of the sending direction -/
  counter : Nat
  /-- derivation counter of the receiving direction -/
  rxCounter : Nat
  /-- data packets sent under the key in force -/
  packets : Nat
  /-- device lifetime in ms at the derivation of the key in force -/
  since : Nat := 0
  deriving DecidableEq, Repr

/-- The SEC block and the security module. -/
structure Sec where
  /-- SEC_STATUS.APPROVED (Table 13.10, R330); 13_digest_security.md; reset 0 -/
  approved : Bool
  /-- SEC_STATUS.ERROR_STATE (Table 13.10, R332); 13_digest_security.md; reset 0 -/
  errorState : Bool
  /-- SEC_STATUS.POWERUP_DONE (Table 13.10, R331); 13_digest_security.md; reset 0 -/
  powerupDone : Bool
  /-- SEC_STATUS.FOOTPATH_USED (Table 13.10); 13_digest_security.md; reset 0 -/
  footpathUsed : Bool
  /-- a command outside the requester's role was accepted since the device reset (R330); 13_digest_security.md; reset false -/
  roleOut : Bool
  /-- SEC_SELFTEST.FAILED, 24 bits (Table 13.11); 13_digest_security.md; reset 0 -/
  selftestFailed : Nat
  /-- SEC_SELFTEST.AGE_H, 8 bits (Table 13.11); 13_digest_security.md; reset 0 -/
  ageH : Nat
  /-- device lifetime in ms at the last complete run, or at power-up's (R331); 13_digest_security.md; reset 0 (DESIGN CHOICE, log entry 9) -/
  testedAt : Nat
  /-- SEC_ALARM bits, 4 bits (Table 13.12); 13_digest_security.md; reset 0 -/
  alarm : Nat
  /-- SEC_DG_CTRL.IDLE_S, 12 bits (Table 13.13); 13_digest_security.md; reset 60 -/
  idleS : Nat
  /-- SEC_DG_CTX.PEAK (Table 13.14); 13_digest_security.md; reset 0 -/
  dgPeak : Nat
  /-- digest contexts in use, by number 0 to 63 (R308); 13_digest_security.md; reset: none -/
  contexts : SMap DigestCtx
  /-- context the hash pipe absorbs next, for the round robin (R312); 13_digest_security.md; reset 0 -/
  dgTurn : Nat
  /-- SEC_KEY_HITS, 32 bits, wraps (Table 13.16); 13_digest_security.md; reset 0 -/
  keyHits : Nat
  /-- SEC_KEY_MISSES, 32 bits, wraps (Table 13.16); 13_digest_security.md; reset 0 -/
  keyMisses : Nat
  /-- SEC_ZEROISE_COUNT, 32 bits, saturates (Table 13.16); 13_digest_security.md; reset 0 -/
  zeroises : Nat
  /-- SEC_ALARM_COUNT, 32 bits, saturates (Table 13.16); 13_digest_security.md; reset 0 -/
  alarms : Nat
  /-- SEC_DG_TIMEOUTS, 32 bits, saturates (Table 13.16); 13_digest_security.md; reset 0 -/
  dgTimeouts : Nat
  /-- SEC_DG_EXHAUSTED, 32 bits, saturates (Table 13.16); 13_digest_security.md; reset 0 -/
  exhausted : Nat
  /-- milestones M0 to M31, 48 bytes each, where not zero (R317); 13_digest_security.md; reset: zero -/
  milestones : SMap (List Byte)
  /-- SEC_MS_COUNT0 to 31, 32 bits, wrap (Table 13.15); 13_digest_security.md; reset 0 -/
  msCount : SMap Nat
  /-- HMAC key slots that hold a key, 0 to 63 (R326); 13_digest_security.md; reset: empty -/
  hmacKeys : SMap (List Byte)
  /-- key-log records in force, in the PJM key areas (R325); 13_digest_security.md; reset: blank PJM -/
  keyLog : List KeyRec
  /-- volumes whose key the key cache holds, most recently used first, at most 1,024 (R324); 13_digest_security.md; reset: none -/
  keyCache : List Nat
  /-- counter that gives keys and secrets their identity, the model's own; reset 1 -/
  nextKey : Nat
  /-- the working keys of the module are zeroised and derived again on use (R316); 13_digest_security.md; reset 0 -/
  rootGen : Nat
  /-- key generation held in the key log, 32 bits (R323, Table 19.22); 13_digest_security.md; reset 0 on a blank key log (DESIGN CHOICE,
  log entry 15) -/
  keyGen : Nat
  /-- DRBG instantiated and reseeded (R329); 13_digest_security.md; reset false -/
  drbgSeeded : Bool
  /-- link sessions: 0 Tether, 1 to 6 Trail ports (R328); 13_digest_security.md; reset: no session -/
  links : SMap LinkKey
  deriving DecidableEq, Repr

/-- A loop action taken on an island, latest first (R433). -/
inductive LoopAction where
  /-- one voltage step up -/
  | volt
  /-- one clock step down -/
  | clock
  deriving DecidableEq, Repr

/-- An island's margin and test state (R430 to R445). -/
structure IslandMargin where
  /-- planned target voltage, mV -/
  vTarget : Nat
  /-- target in force, mV -/
  vNow : Nat
  /-- planned clock cap, 1/32 of nominal -/
  cap : Nat
  /-- clock now, 1/32 of nominal -/
  now : Nat
  /-- slack in taps, 0 to 8 -/
  slack : Nat
  /-- degradation in ppm, 24 bits -/
  degradation : Nat
  /-- temperature in 0.1 °C -/
  temperature : Int
  /-- coverage age in hours, 16 bits -/
  coverAge : Nat
  /-- device lifetime in ms of the last coverage (R444) -/
  coveredAt : Nat
  /-- device lifetime in ms of the last measurement of degradation (R431) -/
  measuredAt : Nat
  /-- device lifetime in ms of the loop's last action or undo (R433) -/
  actedAt : Nat
  failed : Bool
  bankLost : Bool
  actions : List LoopAction
  /-- slices of the set still to run -/
  outstanding : Nat
  /-- 1/32 steps of thermal lowering in force (R436) -/
  thermal : Nat
  /-- VFLOOR at nominal clock of the last plan, mV (R438, R439) -/
  vFloor : Nat
  /-- predicted life in days (R439) -/
  life : Nat
  /-- the last plan clamped it (Table 18.8) -/
  clamped : Bool
  deriving DecidableEq, Repr

/-- What the planner measures on an island (R438, R439): the sweep gives for clock steps of 1/32 of nominal, from nominal
down, the lowest target in mV for SLACK_TARGET and the one for slack 2. -/
structure PlanIsland where
  island : Nat
  degradation : Nat
  sweep : List (Nat × Nat × Nat)
  /-- predicted life in days, from the fits of R439 (log entry 10) -/
  life : Nat
  deriving DecidableEq, Repr

/-- What the planner finds for a band (Table 18.3): the read-threshold offset + 8, the level-1 retry offsets + 8, and whether more
than 1 % of its sampled codewords needed level 1 or above. -/
structure PlanBand where
  band : Nat
  offset : Nat
  retry : List Nat
  often : Bool
  deriving DecidableEq, Repr

/-- A batch of the planner's measurements (Table 18.3). -/
structure PlanFound where
  islands : List PlanIsland
  bands : List PlanBand
  /-- the DRAM retrain window, lifetime in ms at its start -/
  window : Nat
  /-- links and DRAM channels, the bytes 0x310 to 0x3CF of log 0x04 -/
  measured : List Byte
  deriving DecidableEq, Repr

/-- What a plan has set for a band (Table 18.3). -/
structure BandPlan where
  offset : Nat
  retry : List Nat
  /-- patrol interval in days -/
  days : Nat
  deriving DecidableEq, Repr

/-- A finished plan as log 0x04 holds it (Table 18.8). -/
structure PlanLog where
  no : Nat
  partialPlan : Bool
  time : Nat
  duration : Nat
  life : Nat
  worst : Nat
  headroom : Nat
  bandsMoved : Nat
  bandsShort : Nat
  overrides : Nat
  window : Nat
  /-- by island: VTARGET, VFLOOR, CAP in MHz, SLACK, FLAGS, DEGRADATION, LIFE_DAYS -/
  islands : List (List Nat)
  /-- what the plan measured of the links and the DRAM channels, the bytes 0x310 to 0x3CF (log entry 8) -/
  measured : List Byte
  deriving DecidableEq, Repr

/-- The HLT block. -/
structure Hlt where
  /-- island margins, islands 0 to 44 (Table 18.12); 18_ageing_selftest.md; reset: as State.reset says (log entry 8) -/
  islands : List IslandMargin
  /-- HLT_POLICY_V.VMIN in mV (Table 18.10); 18_ageing_selftest.md; reset 650 -/
  vmin : Nat
  /-- HLT_POLICY_V.VMAX in mV (Table 18.10); 18_ageing_selftest.md; reset 850 -/
  vmax : Nat
  /-- HLT_POLICY_CLK.FLOOR in % (Table 18.11); 18_ageing_selftest.md; reset 85 -/
  floor : Nat
  /-- HLT_POLICY_CLK.SLACK in taps (Table 18.11); 18_ageing_selftest.md; reset 3 -/
  slackTarget : Nat
  /-- HLT_SEL.ISLAND, 6 bits (Table 18.12); 18_ageing_selftest.md; reset 0 -/
  sel : Nat
  /-- HLT_STATUS.PLAN_RUNNING (Table 18.9); 18_ageing_selftest.md; reset 0 -/
  planRunning : Bool
  /-- bands latched by the running plan: VMIN, VMAX, FLOOR, SLACK (R438) -/
  latched : Option (Nat × Nat × Nat × Nat)
  /-- tags of MARGIN_PLAN commands that wait for the plan (R440); 18_ageing_selftest.md; reset: none -/
  planTags : List Nat
  /-- HLT_STATUS.PAUSED (Table 18.9, R446); 18_ageing_selftest.md; reset 0 -/
  paused : Bool
  /-- the island whose slice runs: HLT_STATUS.SLICE_RUNNING (Table 18.9); 18_ageing_selftest.md; reset: none -/
  slice : Option Nat
  /-- the slice that runs is a measurement of the planner (R443); 18_ageing_selftest.md; reset false -/
  measuring : Bool
  /-- the TEST_CONTROL tag whose whole set runs on an island (R446); 18_ageing_selftest.md; reset: none -/
  testRun : Option (Nat × Nat)
  /-- HLT_STATUS.FORCED_ANNOUNCED (Table 18.9, R444); 18_ageing_selftest.md; reset 0 -/
  forced : Bool
  /-- HLT_FORCED_AT, 64 bits, lifetime in ms (Table 18.13); 18_ageing_selftest.md; reset 0 -/
  forcedAt : Nat
  /-- HLT_FORCED_ISLAND, 6 bits (Table 18.14); 18_ageing_selftest.md; reset 0 -/
  forcedIsland : Nat
  /-- HLT_STATUS.CFG_REJECT (Table 18.9); 18_ageing_selftest.md; reset 0 -/
  cfgReject : Bool
  /-- HLT_STATUS.AVS_FAULT (Table 18.9, R437); 18_ageing_selftest.md; reset 0 -/
  avsFault : Bool
  /-- failures of AVSBus writes since the last that succeeded: at 3 no target is lowered and the rail cannot rise (R437);
  18_ageing_selftest.md; reset 0 -/
  avsTries : Nat
  /-- thermal throttling lowers the caps: 100 °C was read and not yet less than 98 °C (R436); 18_ageing_selftest.md; reset false -/
  throttling : Bool
  /-- lifetime in ms of the last thermal step of the caps (R436); 18_ageing_selftest.md; reset 0 (DESIGN CHOICE, log entry 9) -/
  thermalAt : Nat
  /-- lifetime in ms of the last forced window (R444); 18_ageing_selftest.md; reset 0 -/
  lastForced : Nat
  /-- rail voltage commanded, in mV (R432, R437); 18_ageing_selftest.md; reset 800, the regulator's start before the first write (R484) -/
  rail : Nat
  /-- HLT_PLAN_NO, 32 bits (Table 18.14); 18_ageing_selftest.md; reset: from PJM, 0 on blank PJM -/
  planNo : Nat
  /-- HLT_LIFE.DAYS, 32 bits (Table 18.14); 18_ageing_selftest.md; reset: from PJM, 0 on blank PJM -/
  life : Nat
  /-- lifetime in ms at which the latest plan started, from which HLT_NEXT_PLAN counts (R440, Table 18.14); 18_ageing_selftest.md;
  reset: from PJM, 0 on blank PJM (DESIGN CHOICE, log entry 8) -/
  planStart : Nat
  /-- no plan has run since the cold start (R438); 18_ageing_selftest.md; reset true -/
  coldDue : Bool
  /-- what the running plan has measured so far (R438); 18_ageing_selftest.md; reset: nothing -/
  found : PlanFound
  /-- the last plan's record of log 0x04 (Table 18.8); 18_ageing_selftest.md; reset: none -/
  planLog : Option PlanLog
  /-- HLT_OVERRIDES at the last plan's end (Table 18.8, 0x024); 18_ageing_selftest.md; reset 0 -/
  planOverrides : Nat
  /-- HLT_OVERRIDES, 32 bits, saturates (Table 18.14); 18_ageing_selftest.md; reset 0 -/
  overrides : Nat
  /-- HLT_SLICES_DONE, 32 bits, wraps (Table 18.14); 18_ageing_selftest.md; reset 0 -/
  slicesDone : Nat
  /-- HLT_SLICES_ABORTED, 32 bits, wraps (Table 18.14); 18_ageing_selftest.md; reset 0 -/
  slicesAborted : Nat
  /-- HLT_FORCED_WINDOWS, 32 bits, saturates (Table 18.14); 18_ageing_selftest.md; reset 0 -/
  forcedWindows : Nat
  /-- HLT_RET_CHECKS, 32 bits, wraps (Table 18.14); 18_ageing_selftest.md; reset 0 -/
  retChecks : Nat
  /-- HLT_RET_LOST, 32 bits, saturates (Table 18.14); 18_ageing_selftest.md; reset 0 -/
  retLost : Nat
  /-- HLT_AVS_ERRORS, 32 bits, saturates (Table 18.14); 18_ageing_selftest.md; reset 0 -/
  avsErrors : Nat
  /-- by band: read-threshold and retry offsets and patrol interval, set by the plan (Table 18.3); 18_ageing_selftest.md; reset: none -/
  offsets : SMap BandPlan
  deriving DecidableEq, Repr

end Sys2Proof.Machine
end

