-- ==== Sys2Proof/Machine/StateMedia.lean ====
section
/-! DEFINITION. The state of the media map, the bands and the flash (chapter 05), and of the persistent journal memory,
the dump, patrol, spares, sanitise and format (chapter 06). -/

namespace Sys2Proof.Machine

/-- A map entry's form (Table 5.10); PAs are 44-bit numbers of 256-byte units (R117). -/
inductive MapForm where
  | zero
  | plain (pa : Nat)
  /-- compressed: PA and LEN field (units minus 1) -/
  | comp (pa len : Nat)
  /-- on a lost partner: the partner's PA, LEN and C -/
  | remote (pa len : Nat) (c : Bool)
  /-- a stored form outside Table 5.10: a map integrity error (R130) -/
  | bad
  deriving DecidableEq, Repr

/-- A leaf map entry (Table 5.9). -/
structure MapEntry where
  form : MapForm
  /-- bits [11:0] of the block's write sequence -/
  epoch : Nat
  deriving DecidableEq, Repr

/-- A directory entry (Table 5.8). -/
inductive DirEntry where
  | unmapped
  | extent (pa epoch : Nat)
  /-- LEAF: the PA of the flash copy when ON_FLASH is 1 -/
  | leaf (onFlash : Option Nat)
  deriving DecidableEq, Repr

/-- A leaf page in the leaf cache (R128, R134). -/
structure LeafPage where
  vol : Nat
  stretch : Nat
  /-- entries that differ from the never-written form (Zero, epoch 0), by block number -/
  entries : SMap MapEntry
  dirty : Bool
  deriving DecidableEq, Repr

/-- A stored block in a codeword: it begins at `unit` and holds the block's stored form (R303) under the key it was
encrypted with (R139, R140). The model keeps the stored form in plain, beside the key's identity; the ciphertext on the
flash is `Config.cipher` of both. -/
structure StoredBlock where
  unit : Nat
  /-- units it occupies -/
  len : Nat
  c : Bool
  data : List Byte
  keyId : Nat
  deriving DecidableEq, Repr

/-- A programmed codeword: its spare area (Table 5.6) and its content. -/
structure Codeword where
  vol : Nat
  /-- Table 5.7 -/
  kind : Nat
  used : Nat
  starts : Nat
  gcCopy : Bool
  foster : Bool
  lba : Nat
  wseq : Nat
  /-- stripe group of the segment, or 0xFFF -/
  group : Nat
  seg : Nat
  /-- blocks that begin in the codeword (KIND 0 and 1) -/
  blocks : List StoredBlock
  /-- leaf entries (KIND 2) -/
  entries : SMap MapEntry
  /-- plain bytes (KIND 3 and 4) -/
  raw : List Byte
  deriving DecidableEq, Repr

/-- Band states (Table 5.4). -/
inductive BandState where
  | free
  | opened
  | closed
  | drained
  | erasing
  | retired
  deriving DecidableEq, Repr

/-- The streams of Table 5.5. -/
inductive Stream where
  | sequential
  | hot
  | cold
  | gc
  | map
  | parity
  | replacement
  deriving DecidableEq, Repr

/-- A flash block's address on its channel (Table 6.2, BLOCKS) and its erase count. -/
structure FlashBlock where
  ce : Nat
  lun : Nat
  block : Nat
  erases : Nat
  deriving DecidableEq, Repr

/-- A band-table entry (R118, R119). -/
structure Band where
  state : BandState
  stream : Stream
  /-- one block per populated channel, channels ascending -/
  blocks : List FlashBlock
  /-- next codeword to program -/
  frontier : Nat
  /-- segments sealed -/
  segsSealed : Nat
  /-- valid units by segment, segments with none left out (chapter 05, Garbage collection) -/
  segValid : SMap Nat
  /-- copies out of it neither committed nor discarded (R148) -/
  copies : Nat
  /-- reads that resolved a location in it and have not finished (R148) -/
  reads : Nat
  /-- segments whose stripes have not released (R148) -/
  unreleased : List Nat
  /-- channels whose block failed and is retired at the erase (R122) -/
  failed : List Nat
  /-- codewords queued for relocation in this patrol pass (R171) -/
  reloc : Nat
  /-- it passed its patrol deadline (R170) -/
  overdue : Bool
  /-- the patrol deadline in force, lifetime in ms, from its first sealed segment on (R169) -/
  deadline : Nat
  /-- the codeword from which this patrol pass goes on (R169) -/
  patrolAt : Nat
  /-- lifetime in ms at which the first codeword of its unsealed segment was programmed (R121) -/
  firstAt : Nat := 0
  deriving DecidableEq, Repr

/-- One populated or unpopulated channel's block account (R172, Table 6.11). -/
structure Channel where
  number : Nat
  free : List FlashBlock
  good : Nat
  committed : Nat
  retired : Nat
  maxErase : Nat
  deriving DecidableEq, Repr

/-- A staged block: acknowledged or landing (R24), not yet released to flash. -/
structure Staged where
  vol : Nat
  lba : Nat
  data : List Byte
  /-- acceptance sequence number of its write -/
  seq : Nat
  /-- its write completed (R80) -/
  done : Bool
  /-- compressed length in bytes, once inline compression has judged the block: some 0 means stored uncompressed (R303) -/
  comp : Option Nat
  /-- its line was uncorrectable and no partner held it (Table 7.6) -/
  lost : Bool
  /-- mirror sequence number of the entry its write was sent under (R344) -/
  mirror : Option Nat
  deriving DecidableEq, Repr

/-- A volume (R103, R125). -/
structure Volume where
  capacity : Nat
  comp : Bool
  cold : Bool
  imported : Bool
  /-- the identity of its key in force (R323) -/
  keyId : Nat
  /-- tells a volume from a later one of the same number (R94) -/
  gen : Nat
  foster : Bool
  /-- first directory entry (R125) -/
  dirBase : Nat
  /-- directory entries that are not UNMAPPED, by stretch -/
  dir : SMap DirEntry
  /-- its bit in the format bitmap (R179) -/
  formatting : Bool
  deriving DecidableEq, Repr

/-- Journal records (Table 6.2), before their PASS and MORE bits. -/
inductive Record where
  | mapSet (vol lba : Nat) (e : MapEntry)
  | mapGc (vol lba : Nat) (e : MapEntry)
  | mapZero (vol lba count epoch : Nat)
  | dirSet (vol stretch : Nat) (d : DirEntry)
  | volSet (vol capacity attrs : Nat) (delete : Bool)
  | dirBase (vol first : Nat)
  | band (band state stream : Nat)
  | blocks (index b0 b1 : Nat)
  | segRel (band seg group : Nat)
  | wseqRes (ceiling : Nat)
  | ckpt (n : Nat)
  /-- a TYPE of 0xC to 0xF: a journal integrity error (R161) -/
  | bad
  deriving DecidableEq, Repr

/-- A record with its MORE bit (R153). -/
structure JRec where
  body : Record
  more : Bool
  deriving DecidableEq, Repr

/-- What a checkpoint root names (Table 6.3): its numbers, its pieces, and the directory and the bands as the pieces hold them (log entry
25). -/
structure Root where
  ckptNo : Nat
  jstart : Nat
  wseqCeil : Nat
  time : Nat
  volumes : SMap Volume
  bands : SMap Band
  /-- DIR_PIECES: the PA of the latest copy of each 1 MiB directory piece that was ever written, by piece (Table 6.3) -/
  dirPieces : SMap Nat := []
  /-- BAND_PIECES: the same of the band table -/
  bandPieces : SMap Nat := []
  deriving DecidableEq, Repr

/-- A journal spill: 1 MiB of the partner's records, kept in a Map band (R158). -/
structure Spill where
  /-- absolute number of its first record -/
  first : Nat
  recs : List JRec
  /-- PA of its first codeword -/
  pa : Nat
  deriving DecidableEq, Repr

/-- A power-loss dump (R162). -/
structure Dump where
  seq : Nat
  area : Nat
  complete : Bool
  consumed : Bool
  staging : List Staged
  tail : List JRec
  /-- identity of the dump key it is encrypted under -/
  key : Nat := 0
  deriving DecidableEq, Repr

/-- The progress record of Table 6.9. -/
structure Progress where
  /-- 0 none, 1 sanitise running, 2 format running, 3 sanitise ended, 4 format ended -/
  state : Nat
  mode : Nat
  keyStep : Bool
  failed : Bool
  pattern : Nat
  vol : Nat
  total : Nat
  done : Nat
  wseqMark : Nat
  /-- the bands that are its units, fixed at its start (Table 6.8, R179) -/
  units : List Nat
  deriving DecidableEq, Repr

/-- A format that waits for its walk (R179). -/
structure FormatWait where
  vol : Nat
  mode : Nat
  mark : Nat
  /-- the volume's units that are still counted valid until its walk reaches them: (band, segment, units) -/
  old : List (Nat × Nat × Nat)
  deriving DecidableEq, Repr

/-- A GC or relocation copy in progress (R146, R147). -/
structure GcCopy where
  vol : Nat
  lba : Nat
  srcPa : Nat
  epoch : Nat
  /-- first unit of the copy, once it is programmed -/
  dstPa : Nat
  /-- a patrol relocation (R171) -/
  reloc : Bool
  deriving DecidableEq, Repr

/-- A checkpoint in progress (R156). -/
structure Checkpoint where
  no : Nat
  jstart : Nat
  /-- the directory and the band table as its pieces hold them (R156 step 3) -/
  volumes : SMap Volume
  bands : SMap Band
  /-- the pieces that the root will name (R156 steps 3 and 5) -/
  dirPieces : SMap Nat := []
  bandPieces : SMap Nat := []
  /-- changed pieces still to be written: (of the band table, number) (R156 steps 3 and 4) -/
  left : List (Bool × Nat) := []
  deriving DecidableEq, Repr

/-- The media map, the flash, the journal and what survives in PJM. -/
structure Med where
  /-- populated channel count, MED_FLASH_CFG.CHANNELS, 6 bits (Table 5.15); 05_map_and_bands.md; reset 0 -/
  channels : Nat
  /-- MED_FLASH_CFG.LUNS_PER_CH, 6 bits (Table 5.15); 05_map_and_bands.md; reset 0 -/
  luns : Nat
  /-- MED_FLASH_CFG.PLANES, 3 bits (Table 5.15); 05_map_and_bands.md; reset 0 -/
  planes : Nat
  /-- MED_FLASH_CFG.BLOCK_MIB, 6 bits (Table 5.15); 05_map_and_bands.md; reset 0 -/
  blockMib : Nat
  /-- bytes of raw flash found at start-up (IDENTIFY 0x030); 04_command_packets.md; reset 0 -/
  rawBytes : Nat
  /-- MED_STATUS.CFG_REJECT (Table 5.16); 05_map_and_bands.md; reset 0 -/
  cfgReject : Bool
  /-- MED_STATUS.PROFILE_REFUSED (Table 5.16, R114); 05_map_and_bands.md; reset 0 -/
  profileRefused : Bool
  /-- MED_STATUS.GC_ACTIVE (Table 5.16); 05_map_and_bands.md; reset 0 -/
  gcActive : Bool
  /-- MED_GC_CTRL.START, 8 bits (Table 5.17); 05_map_and_bands.md; reset 30 -/
  gcStart : Nat
  /-- MED_GC_CTRL.URGENT, 8 bits (Table 5.17); 05_map_and_bands.md; reset 10 -/
  gcUrgent : Nat
  /-- MED_GC_CTRL.STRIPE_AWARE (Table 5.17); 05_map_and_bands.md; reset 1 -/
  stripeAware : Bool
  /-- MED_SEAL_TIMER.MS, 10 bits (Table 5.18); 05_map_and_bands.md; reset 50 -/
  sealMs : Nat
  /-- MED_LEAF_HITS, 32 bits, wraps (Table 5.19); 05_map_and_bands.md; reset 0 -/
  leafHits : Nat
  /-- MED_LEAF_MISSES, 32 bits, wraps (Table 5.19); 05_map_and_bands.md; reset 0 -/
  leafMisses : Nat
  /-- MED_GC_DISCARDS, 32 bits, wraps (Table 5.19); 05_map_and_bands.md; reset 0 -/
  gcDiscards : Nat
  /-- MED_EPOCH_MISMATCH, 32 bits, saturates (Table 5.19); 05_map_and_bands.md; reset 0 -/
  epochMismatch : Nat
  /-- MED_BANDS_RETIRED, 23 bits (Table 5.19); 05_map_and_bands.md; reset 0 at first start, restored from the checkpoint later -/
  bandsRetired : Nat
  /-- the volumes by number, 0 to 65,535 (R103, R125); 05_map_and_bands.md; reset: none -/
  volumes : SMap Volume
  /-- counter that gives each created volume its instance and each key its identity (R94, R323), the model's own; reset 0 -/
  nextGen : Nat
  /-- the leaf cache, most recently used page first (R134); 05_map_and_bands.md; reset: empty -/
  leafCache : List LeafPage
  /-- leaf pages being fetched: (volume, stretch) (R135); 05_map_and_bands.md; reset: none -/
  leafFetch : List (Nat × Nat)
  /-- leaf pages the leaf cache can hold, from the DRAM partition (R134, R186); 05_map_and_bands.md; reset 0 before BOOT -/
  leafCap : Nat
  /-- staging: landing and acknowledged blocks (R24, R80); 05_map_and_bands.md, 03_task_slots.md; reset: empty -/
  staging : List Staged
  /-- the band table (R118, R119); 05_map_and_bands.md; reset: empty -/
  bands : SMap Band
  /-- the patrol deadlines that the PJM control area holds across a device reset, by band (Table 6.1); 06_media_survival.md; reset: none -/
  deadlines : SMap Nat
  /-- programmed codewords by codeword address, PA / 16 (R115, R117); 05_map_and_bands.md; reset: blank flash -/
  flash : SMap Codeword
  /-- channels' block accounts (R118, R172); 05_map_and_bands.md, 06_media_survival.md; reset: empty before discovery -/
  chans : List Channel
  /-- next write sequence number, 64 bits (R132); 05_map_and_bands.md; reset 1 at first start (DESIGN CHOICE, log entry 4) -/
  wseq : Nat
  /-- WSEQ ceiling recorded in PJM (R154, Table 6.1); 06_media_survival.md; reset 0 before the first start -/
  wseqCeil : Nat
  /-- the own journal ring, records from JSTART of the newest valid root on (R150, R155); 06_media_survival.md; reset: blank PJM -/
  ring : List JRec
  /-- absolute number of the ring's first record kept, JSTART (Table 6.3); 06_media_survival.md; reset 0 -/
  jstart : Nat
  /-- the MAP journal buffer, at most 4,096 records (R154); 06_media_survival.md; reset: empty -/
  jbuf : List JRec
  /-- own checkpoint root slots 0 and 1 (R150, R157); 06_media_survival.md; reset: blank -/
  root0 : Option Root
  root1 : Option Root
  /-- the partner's journal ring, oldest first (R150, R158); 06_media_survival.md; reset: empty -/
  partnerRing : List JRec
  /-- absolute number of the partner ring's first record kept (R158); 06_media_survival.md; reset 0 -/
  partnerStart : Nat
  /-- the partner's checkpoint root slots 0 and 1 (R150, R158); 06_media_survival.md; reset: blank -/
  partnerRoot0 : Option Root
  partnerRoot1 : Option Root
  /-- journal spills of the partner's oldest records kept in a Map band (R158); 06_media_survival.md; reset: none -/
  spills : List Spill
  /-- the checkpoint in progress (R156); 06_media_survival.md; reset: none -/
  ckpt : Option Checkpoint
  /-- records have entered since the last checkpoint started (R156); 06_media_survival.md; reset false -/
  recSince : Bool
  /-- lifetime in ms at which the last checkpoint started (R156); 06_media_survival.md; reset 0 (DESIGN CHOICE, log entry 4) -/
  ckptAt : Nat
  /-- pieces that GC has marked as changed: (of the band table, number) (R145); 05_map_and_bands.md; reset: none -/
  pieceDirty : List (Bool × Nat)
  /-- blocks that GC has freed and host writes have not taken since free bands fell below URGENT (R143); 05_map_and_bands.md; reset 0 -/
  gcCredit : Nat
  /-- PJM has been initialised at first start (R159); 06_media_survival.md; reset false -/
  pjmInit : Bool
  /-- PJM is unreadable: no valid root or an uncorrectable line before the head (R161); 06_media_survival.md; reset false -/
  pjmBad : Bool
  /-- dumps in the dump areas A and B (R162); 06_media_survival.md; reset: none -/
  dumps : List Dump
  /-- the blocks of the dump areas A and B, by populated channel (R162); 06_media_survival.md; reset: none before the first start -/
  dumpBlocks : List (List FlashBlock)
  /-- MED_DUMP_STATUS.ACTIVE (Table 6.14); 06_media_survival.md; reset 0 -/
  dumpActive : Bool
  /-- MED_DUMP_STATUS.HELD (Table 6.14); 06_media_survival.md; reset 0 -/
  dumpHeld : Bool
  /-- MED_DUMP_STATUS.AREA (Table 6.14); 06_media_survival.md; reset: from PJM, 0 on blank PJM -/
  dumpArea : Nat
  /-- MED_DUMP_STATUS.WARM (Table 6.14); 06_media_survival.md; reset 0 -/
  dumpWarm : Bool
  /-- MED_DUMP_STATUS.LOST (Table 6.14, R166); 06_media_survival.md; reset: from PJM, 0 on blank PJM -/
  dumpLost : Bool
  /-- MED_DUMP_LAST_US, 32 bits (Table 6.16); 06_media_survival.md; reset: from PJM, 0 on blank PJM -/
  dumpUs : Nat
  /-- the running dump's purpose: a reset, Failover or Halt follows it (R452, R424, R425); 06_media_survival.md; reset 0 (none) -/
  dumpThen : Nat
  /-- MED_JOURNAL_STALLS, 32 bits, saturates (Table 6.16); 06_media_survival.md; reset 0 -/
  journalStalls : Nat
  /-- MED_PATROL_CTRL.RELOC_LEVEL, 2 bits (Table 6.15); 06_media_survival.md; reset 2 -/
  relocLevel : Nat
  /-- MED_PATROL_CTRL.BAND_LIMIT, 8 bits (Table 6.15); 06_media_survival.md; reset 20 -/
  bandLimit : Nat
  /-- MED_PATROL_CTRL.PAUSE (Table 6.15); 06_media_survival.md; reset 0 -/
  patrolPause : Bool
  /-- MED_PATROL_READS, 32 bits, wraps (Table 6.16); 06_media_survival.md; reset 0 -/
  patrolReads : Nat
  /-- MED_RELOCATIONS, 32 bits, wraps (Table 6.16); 06_media_survival.md; reset 0 -/
  relocations : Nat
  /-- blocks queued for relocation (R171); 06_media_survival.md; reset: none -/
  relocQueue : List GcCopy
  /-- copies read and programmed and not yet committed (R147); 05_map_and_bands.md; reset: none -/
  copies : List GcCopy
  /-- the band GC copies out of (R144); 05_map_and_bands.md; reset: none -/
  victim : Option Nat
  /-- bands that are the next victims whatever their score (R171); 06_media_survival.md; reset: none -/
  nextVictims : List Nat
  /-- spare state reached by the spare level, 2 bits (R173); 06_media_survival.md; reset: from PJM, 0 NORMAL on blank PJM -/
  spareState : Nat
  /-- MED_SPARES.HOLDUP_SENSE (Table 6.12, R407); 06_media_survival.md; reset: from PJM, 0 on blank PJM -/
  holdupRo : Bool
  /-- the progress record (Table 6.9); 06_media_survival.md; reset: STATE 0 on blank PJM -/
  progress : Progress
  /-- formats whose walk has not started, in acceptance order (R179); 06_media_survival.md; reset: none -/
  formats : List FormatWait
  /-- formats absorbed by a sanitise, whose events follow it (Table 6.10); 06_media_survival.md; reset: none -/
  absorbed : List Nat
  /-- blocks retired since manufacture (Table 6.11, 0x008); 06_media_survival.md; reset 0 -/
  blocksRetired : Nat
  /-- codewords read by patrol since manufacture (Table 6.11); 06_media_survival.md; reset 0 -/
  lifePatrol : Nat
  /-- blocks relocated since manufacture (Table 6.11); 06_media_survival.md; reset 0 -/
  lifeReloc : Nat
  /-- codewords reconstructed after failing level 3 since manufacture (Table 6.11); 06_media_survival.md; reset 0 -/
  lifeRecon : Nat
  /-- dumps completed since manufacture (Table 6.11); 06_media_survival.md; reset 0 -/
  lifeDumps : Nat
  /-- incomplete dumps found since manufacture (Table 6.11); 06_media_survival.md; reset 0 -/
  lifeLost : Nat
  /-- checkpoints written since manufacture (Table 6.11); 06_media_survival.md; reset 0 -/
  lifeCkpts : Nat
  /-- identity of the device map key in force (R128, R175); 13_digest_security.md; reset 0 -/
  mapKey : Nat
  /-- identity of the dump key in force (R162, R175); 13_digest_security.md; reset 0 -/
  dumpKey : Nat
  deriving DecidableEq, Repr

end Sys2Proof.Machine
end

