-- ==== Sys2Proof/Machine/StatePair.lean ====
section
/-! DEFINITION. The state of the Tether link and the twin pair (chapter 14) and of the Trail mesh and the stripe groups
(chapter 15). -/

namespace Sys2Proof.Machine

/-- The Tether messages of Table 14.3. -/
inductive TMsg where
  | hello (serial node w0 w1 w2 blocks limit : Nat) (pub proof : List Byte)
  | keyTransfer (vol : Nat) (install : Bool) (capacity attrs : Nat) (wrapped : List Byte)
  | mirrorWrite (seq vol op lba blocks : Nat) (data : List Byte)
  | mirrorConfirm (seq : Nat)
  | mirrorRelease (seq : Nat)
  | journal (first : Nat) (recs : List JRec)
  | journalConfirm (last : Nat)
  | root (no : Nat) (r : Root)
  | heartbeat (count state status : Nat)
  | blockRead (req vol lba blocks : Nat)
  | blockData (req status : Nat) (data : List Byte)
  | handback (wseq vol form lba : Nat) (data : List Byte)
  | cutover
  | yieldMsg
  | unpair
  deriving DecidableEq, Repr

/-- A message on its way out: the flits still to send (R336). -/
structure TOut where
  vc : Nat
  flits : Nat
  /-- flits already put on the link -/
  sent : Nat
  msg : TMsg
  deriving DecidableEq, Repr

/-- A link direction's layer (R335 to R338, R369 to R371). -/
structure LinkLayer where
  /-- data flits sent since the link's first, 64 bits: FSEQ is its low 12 bits (R338) -/
  txCount : Nat
  /-- data flits acknowledged in order -/
  txAcked : Nat
  /-- data flits accepted in order -/
  rxCount : Nat
  /-- the next header sent carries NAK (R337) -/
  nak : Bool
  /-- replays of the oldest unacknowledged flit without progress (R337) -/
  replays : Nat
  /-- flits sent on each channel (R336) -/
  sentOn : SMap Nat
  /-- freed count last received for each channel, extended (R336) -/
  freed : SMap Nat
  /-- flits accepted and freed on each channel, the counts of CRED (R335) -/
  rxFreed : SMap Nat
  deriving DecidableEq, Repr

/-- A mirror entry sent to the partner and not yet released (R343, R346). -/
structure MirrorOut where
  seq : Nat
  tag : Option Nat
  vol : Nat
  op : Nat
  lba : Nat
  blocks : Nat
  confirmed : Bool
  /-- superseded, aborted, ended without SUCCESS, or placed with its stripe closed or program complete (R346) -/
  releasable : Bool
  /-- absolute number past the last journal record that maps its blocks (R346) -/
  recs : Nat
  /-- segments that hold its blocks and whose stripes have not closed: (band, segment) (R346) -/
  segs : List (Nat × Nat)
  deriving DecidableEq, Repr

/-- A partner mirror entry held here (R343). -/
structure MirrorIn where
  seq : Nat
  vol : Nat
  op : Nat
  lba : Nat
  blocks : Nat
  data : List Byte
  deriving DecidableEq, Repr

/-- A claim in progress (R351). -/
structure ClaimState where
  /-- valid witnesses by index that have granted -/
  grants : List Nat
  refusals : List Nat
  number : Nat
  /-- device lifetime in ms at which the unanswered witnesses were last asked (R351) -/
  askedAt : Nat
  deriving DecidableEq, Repr

/-- A TETHER_PAIR in progress (R341). -/
structure Pairing where
  tag : Nat
  token : List Byte
  /-- the partner's HELLO has passed Table 14.5 -/
  agreed : Bool
  /-- number of the checkpoint whose root ends the initial copy -/
  base : Nat
  /-- device lifetime in ms at which the command took effect, from which its 10 s run (R341) -/
  since : Nat
  deriving DecidableEq, Repr

/-- A hand-back in progress at the survivor (R362). -/
structure Handback where
  /-- delta hand-back from the takeover mark -/
  delta : Bool
  pass : Nat
  /-- first WSEQ of the pass -/
  mark : Nat
  /-- blocks sent in the pass -/
  sent : Nat
  /-- the last pass runs; new commands to foster volumes wait -/
  last : Bool
  /-- the last pass has listed its blocks -/
  final : Bool
  /-- blocks the pass has still to send: (volume, LBA) -/
  todo : List (Nat × Nat)
  deriving DecidableEq, Repr

/-- A log 0x06 record (Table 14.18). -/
structure PairRecord where
  time : Nat
  event : Nat
  slot : Nat
  value : Nat
  deriving DecidableEq, Repr

/-- The PAIR block and the Tether port. -/
structure Pair where
  /-- PAIR_STATUS.STATE, 3 bits (Table 14.12, R340); 14_tether_pairs.md; reset: from PJM, 0 SOLO on blank PJM -/
  state : Nat
  /-- PAIR_STATUS.SUSPECT (Table 14.12); 14_tether_pairs.md; reset 0 -/
  suspect : Bool
  /-- PAIR_STATUS.MESH_MIRROR (Table 14.12); 14_tether_pairs.md; reset 0 -/
  meshMirror : Bool
  /-- PAIR_STATUS.FOSTERING (Table 14.12); 14_tether_pairs.md; reset: from PJM, 0 on blank PJM -/
  fostering : Bool
  /-- PAIR_STATUS.FENCED (Table 14.12); 14_tether_pairs.md; reset 0 -/
  fenced : Bool
  /-- PAIR_STATUS.LINK_UP (Table 14.12); 14_tether_pairs.md; reset 0 -/
  linkUp : Bool
  /-- PAIR_STATUS.RATE, 2 bits (Table 14.12); 14_tether_pairs.md; reset 0 -/
  rate : Nat
  /-- PAIR_STATUS.WIDTH, 4 bits (Table 14.12); 14_tether_pairs.md; reset 0 -/
  width : Nat
  /-- PAIR_PARTNER, 64 bits (Table 14.13); 14_tether_pairs.md; reset: from PJM, 0 on blank PJM -/
  partner : Nat
  /-- partner's node ID from its HELLO (Table 14.3); 14_tether_pairs.md; reset 0xFFFF -/
  partnerNode : Nat
  /-- pair ID, 64 bits (R341); 14_tether_pairs.md; reset: from PJM, 0 on blank PJM -/
  pairId : Nat
  /-- PAIR_WITNESS0 to 2: NODE 11 bits and VALID (Table 14.13); 14_tether_pairs.md; reset 0 -/
  witness : List (Nat × Bool)
  /-- PAIR_EVENTS bits [4:0] (Table 14.14); 14_tether_pairs.md; reset 0 -/
  events : Nat
  /-- PAIR_REPLAYS, 32 bits, saturates (Table 14.16); 14_tether_pairs.md; reset 0 -/
  replays : Nat
  /-- PAIR_GCM_FAILS, 32 bits, saturates (Table 14.16); 14_tether_pairs.md; reset 0 -/
  gcmFails : Nat
  /-- PAIR_LINK_RESETS, 32 bits, saturates (Table 14.16); 14_tether_pairs.md; reset 0 -/
  linkResets : Nat
  /-- PAIR_BAD_MESSAGES, 32 bits, saturates (Table 14.16); 14_tether_pairs.md; reset 0 -/
  badMessages : Nat
  /-- PAIR_MIRROR_WAITS, 32 bits, wraps (Table 14.16); 14_tether_pairs.md; reset 0 -/
  mirrorWaits : Nat
  /-- PAIR_HANDBACK_LEFT, 32 bits (Table 14.16); 14_tether_pairs.md; reset 0 -/
  handbackLeft : Nat
  /-- the Tether link layer (R335 to R338); 14_tether_pairs.md; reset: nothing sent or accepted -/
  link : LinkLayer
  /-- messages waiting for credits, in order within each channel (R336); 14_tether_pairs.md; reset: none -/
  out : List TOut
  /-- messages wholly sent over the Tether link or as TUNNEL, newest first (R339); 14_tether_pairs.md; reset: none -/
  sent : List TMsg
  /-- messages being received, by channel: bytes so far (R336); 14_tether_pairs.md; reset: none -/
  rxPart : SMap (List Byte)
  /-- the TETHER_PAIR in progress (R341); 14_tether_pairs.md; reset: none -/
  pairing : Option Pairing
  /-- own ECDH public key of the exchange under way, empty when none was sent (R341); 14_tether_pairs.md; reset: empty -/
  pub : List Byte
  /-- a HELLO that arrived before TETHER_PAIR (R341); 14_tether_pairs.md; reset: none -/
  helloIn : Option TMsg
  /-- the exchange with a returning partner, or the call to one that fosters, has been made (R361); 14_tether_pairs.md; reset false -/
  called : Bool
  /-- KEY_TRANSFER messages sent and not yet confirmed: (volume, tag) (R342); 14_tether_pairs.md; reset: none -/
  keyWaits : List (Nat × Nat)
  /-- tag of the TETHER_UNPAIR in progress (R348); 14_tether_pairs.md; reset: none -/
  unpairing : Option Nat
  /-- separation runs: no new MIRROR_WRITE (R348); 14_tether_pairs.md; reset false -/
  draining : Bool
  /-- the partner's UNPAIR arrived (R348); 14_tether_pairs.md; reset false -/
  unpairSeen : Bool
  /-- own UNPAIR sent (R348); 14_tether_pairs.md; reset false -/
  unpairSent : Bool
  /-- next mirror sequence number, 64 bits (R344); 14_tether_pairs.md; reset: from PJM, 1 on blank PJM (DESIGN CHOICE, log entry 9) -/
  mseq : Nat
  /-- the ceiling recorded in PJM (R344, Table 6.1); 14_tether_pairs.md; reset 0 on blank PJM -/
  mseqCeil : Nat
  /-- own entries at the partner: PAIR_MIRROR.OUT (R343, Table 14.15); 14_tether_pairs.md; reset: none -/
  entriesOut : List MirrorOut
  /-- the partner mirror region: PAIR_MIRROR.IN (R343, Table 14.15); 14_tether_pairs.md; reset: none -/
  entriesIn : List MirrorIn
  /-- absolute number of the first journal record the partner has not confirmed (R345); 14_tether_pairs.md; reset 0 -/
  jConfirmed : Nat
  /-- HEARTBEATs sent (R349); 14_tether_pairs.md; reset 0 -/
  beats : Nat
  /-- a HEARTBEAT has been accepted within the last 5 ms (R349, R354); 14_tether_pairs.md; reset false -/
  beating : Bool
  /-- device lifetime in ms at the last HEARTBEAT accepted, or where the wait for one began (R349, R361); 14_tether_pairs.md; reset 0 (DESIGN CHOICE, log entry 9) -/
  heardAt : Nat
  /-- device lifetime in ms at which the Tether link last trained (Table 14.6); 14_tether_pairs.md; reset 0 (DESIGN CHOICE, log entry 9) -/
  upAt : Nat
  /-- probes of this suspicion sent (R350); 14_tether_pairs.md; reset 0 -/
  probes : Nat
  /-- the claim in progress (R351); 14_tether_pairs.md; reset: none -/
  claim : Option ClaimState
  /-- claims made for this pair (R352); 14_tether_pairs.md; reset 0 -/
  claimNo : Nat
  /-- witness records: (pair ID, claimant) (R351, R352); 14_tether_pairs.md; reset: none on blank PJM -/
  records : List (Nat × Nat)
  /-- tags of TAKEOVER commands that wait for EVENT_TAKEOVER (R354); 14_tether_pairs.md; reset: none -/
  takeovers : List Nat
  /-- the WSEQ of step 3 of Table 14.7 (R356); 14_tether_pairs.md; reset: from PJM, 0 on blank PJM -/
  takeoverMark : Nat
  /-- step 4 of a takeover goes on: mirror entries wait to be replayed; whether TAKEOVER with PARAM0[0] at 1 won it (R356);
  14_tether_pairs.md; reset: none -/
  replaying : Option Bool
  /-- the mirrored root at takeover by CKPT_NO (Table 14.9); 14_tether_pairs.md; reset: none -/
  takeoverRoot : Option Nat
  /-- the partner directory: (volume, stretch) entries (R357); 14_tether_pairs.md; reset: empty -/
  partnerDir : List (Nat × Nat × DirEntry)
  /-- blocks whose entries the partner's journal changed after its leaf page was written, newest first (R357);
  14_tether_pairs.md; reset: none -/
  partnerMap : List (Nat × Nat × MapEntry)
  /-- the partner directory is complete (R357); 14_tether_pairs.md; reset false -/
  partnerDirReady : Bool
  /-- its pieces could not be reconstructed (R357, R358); 14_tether_pairs.md; reset false -/
  partnerDirLost : Bool
  /-- former foster volumes that TETHER_UNPAIR made ordinary and that still take over the partner's entries (R348); 14_tether_pairs.md;
  reset: none -/
  adopted : List Nat
  /-- the partner is READ_ONLY and fostered under R359; 14_tether_pairs.md; reset false -/
  partnerReadOnly : Bool
  /-- BLOCK_READs sent and not answered: (request, volume, LBA) (R359); 14_tether_pairs.md; reset: none -/
  reads : List (Nat × Nat × Nat)
  /-- blocks received by BLOCK_DATA, by (volume, LBA) (R359); 14_tether_pairs.md; reset: none -/
  readData : List (Nat × Nat × List Byte)
  /-- next BLOCK_READ request number (R359); 14_tether_pairs.md; reset 0 (DESIGN CHOICE, log entry 9) -/
  nextReq : Nat
  /-- own volumes are held (R353, R361); 14_tether_pairs.md; reset false -/
  held : Bool
  /-- the hand-back in progress (R362); 14_tether_pairs.md; reset: none -/
  handback : Option Handback
  /-- highest WSEQ handed back for a block at the rejoining device: (volume, LBA, WSEQ) (R362); 14_tether_pairs.md; reset: none -/
  handed : List (Nat × Nat × Nat)
  /-- log 0x06: pairings completed (Table 14.18); 14_tether_pairs.md; reset 0 on blank PJM -/
  pairings : Nat
  /-- log 0x06: takeovers (Table 14.18); 14_tether_pairs.md; reset 0 on blank PJM -/
  takeoverCount : Nat
  /-- log 0x06: hand-backs completed (Table 14.18); 14_tether_pairs.md; reset 0 on blank PJM -/
  handbacks : Nat
  /-- log 0x06: claims lost (Table 14.18); 14_tether_pairs.md; reset 0 on blank PJM -/
  claimsLost : Nat
  /-- log 0x06: Tether link resets since manufacture (Table 14.18); 14_tether_pairs.md; reset 0 on blank PJM -/
  lifeResets : Nat
  /-- log 0x06's records, newest first, at most 128 (Table 14.18); 14_tether_pairs.md; reset: none -/
  log : List PairRecord
  /-- records written since manufacture (Table 14.18); 14_tether_pairs.md; reset 0 on blank PJM -/
  logCount : Nat
  deriving DecidableEq, Repr

/-- A stripe record (Table 15.7); SEG and ORIG as (band, segment). -/
structure StripeRec where
  stripe : Nat
  group : Nat
  k : Nat
  m : Nat
  zero : Nat
  rebuilt : Nat
  seg : List (Nat × Nat)
  orig : List (Nat × Nat)
  deriving DecidableEq, Repr

/-- A coded codeword: 4,096 data bytes and the 18-byte descriptor (R377). -/
structure Coded where
  data : List Byte
  desc : List Byte
  deriving DecidableEq, Repr

/-- Trail packets by TYPE (Table 15.4). -/
inductive MBody where
  | linkHello (serial node shape : Nat) (pub signature : List Byte)
  | linkState (seq : Nat) (failed : List (Nat × Nat))
  | unreachable (id typ : Nat)
  | probe (sender target number : Nat)
  | probeAck (sender target number state status : Nat)
  | claim (claimant partner number : Nat) (release : Bool)
  | claimGrant (claimant partner number : Nat) (release : Bool)
  | claimRefuse (claimant partner number : Nat) (release : Bool) (holder : Nat)
  | tunnel (m : TMsg)
  | groupHello (k m index : Nat) (digest : List Byte)
  | intent (stripe d band seg : Nat)
  | intentReply (stripe answer lowest : Nat)
  | contrib (stripe p d j : Nat) (x : Coded)
  | close (stripe : Nat) (r : StripeRec)
  | parityDone (stripe j : Nat)
  | gossip (dead : List (Nat × Nat))
  | release (stripe : Nat)
  | resend (stripe d : Nat)
  | locate (request member band seg : Nat)
  | locateAns (request : Nat) (recs : List StripeRec)
  /-- `row` names a parity row; else `d` is a data position -/
  | reconReq (request stripe weight p n d : Nat) (row : Bool)
  | reconSlice (request p d : Nat) (row : Bool) (x : Coded)
  | rebuildPlan (stripe : Nat) (chain : List (Nat × Nat))
  | rebuildPart (stripe p d : Nat) (row : Bool) (x : Coded)
  | memberUpdate (index node : Nat)
  | memberMoved (stripe d : Nat) (row : Bool) (band seg : Nat)
  deriving DecidableEq, Repr

/-- A Trail packet sent (R369). -/
structure MPkt where
  dst : Nat
  src : Nat
  group : Nat
  pairId : Nat
  body : MBody
  deriving DecidableEq, Repr

/-- One Trail port (R366, R370, R373; Table 15.14). -/
structure Port where
  enabled : Bool
  up : Bool
  failed : Bool
  /-- neighbour session formed, with the neighbour's node ID (R368) -/
  neighbour : Option Nat
  link : LinkLayer
  /-- packets waiting for a credit, with their channel and the input they came by: a port, or 6 for this device's own (R370, R374) -/
  out : List (Nat × Nat × MPkt)
  /-- place in the repeating cycle of seven grants: 2 RECON, 4 CONTRIB, 1 REBUILD (R374) -/
  cycle : Nat
  /-- the input served last, by class (R374) -/
  lastIn : SMap Nat
  /-- device lifetime in ms at the link resets of the last second (R373) -/
  resets : List Nat
  /-- MESH_PORT_SAT, 32 bits, wraps (Table 15.20) -/
  sat : Nat
  deriving DecidableEq, Repr

/-- A group slot (Tables 15.17 to 15.19). -/
structure Group where
  id : Nat
  k : Nat
  m : Nat
  index : Nat
  /-- Table 15.18 STATE -/
  state : Nat
  lost : List Nat
  /-- node IDs by member index -/
  members : List Nat
  /-- member indices whose matching GROUP_HELLO has arrived -/
  hello : List Nat
  /-- members that have issued STRIPE_GROUP_LEAVE -/
  leaving : List Nat
  /-- this device's next stripe (R378) -/
  next : Nat
  /-- tag of the JOIN or LEAVE in progress -/
  tag : Option Nat
  /-- device lifetime in ms at which the join began, from which its 10 s run (R375) -/
  since : Nat
  closed : Nat
  rebuilds : Nat
  failedStripes : Nat
  deriving DecidableEq, Repr

/-- A stripe this device holds or primaries (R378 to R380). -/
structure Stripe where
  group : Nat
  num : Nat
  /-- opened as primary, with the deadline latched in ms (R378) -/
  opened : Option Nat
  /-- device lifetime in ms at which it was opened -/
  openedAt : Nat
  /-- accepted positions: (d, band, segment) -/
  accepted : List (Nat × Nat × Nat)
  /-- its position set is fixed: the record -/
  record : Option StripeRec
  /-- accumulator by codeword, present while it is held (R379) -/
  acc : SMap Coded
  /-- packets received: (d, p) -/
  got : List (Nat × Nat)
  /-- an accumulator is allotted (R379) -/
  hasAcc : Bool
  /-- its parity segment: (band, segment), once programmed (R380) -/
  parity : Option (Nat × Nat)
  /-- rows whose PARITY_DONE is known -/
  done : List Nat
  /-- dead positions (R383) -/
  dead : List Nat
  released : Bool
  deriving DecidableEq, Repr

/-- A segment of this device sealed into a group (R377, R378). -/
structure OwnSeg where
  band : Nat
  seg : Nat
  group : Nat
  /-- stripe it is offered to or in -/
  stripe : Nat
  d : Nat
  /-- 0 sealed, 1 offered, 2 accepted, 3 closed -/
  stage : Nat
  /-- its stripe's CLOSE has arrived (R378) -/
  fixed : Bool
  /-- rows that have sent PARITY_DONE -/
  rows : List Nat
  /-- its stripe's dead positions known here (R383) -/
  dead : List Nat
  /-- reported dead by GOSSIP -/
  gossiped : Bool
  /-- the ZERO mask of the stripe once closed -/
  zero : Nat
  deriving DecidableEq, Repr

/-- A reconstruction of a codeword (R386). -/
structure Recon where
  request : Nat
  /-- member node, band and segment of the codeword wanted -/
  node : Nat
  band : Nat
  seg : Nat
  p : Nat
  /-- the stripe record found -/
  record : Option StripeRec
  /-- units asked and not yet arrived: (position or row, is a row) -/
  waits : List (Nat × Bool)
  /-- units tried that could not be read -/
  bad : List (Nat × Bool)
  acc : Coded
  done : Bool
  exhausted : Bool
  /-- the codeword failed level 3 (Table 6.11, 0x020) -/
  failed3 : Bool := false
  deriving DecidableEq, Repr

/-- A rebuild onto this device (R387). -/
structure Rebuild where
  group : Nat
  /-- request number of the LOCATE that gathers the records -/
  request : Nat
  /-- member indices that have answered it -/
  answers : List Nat
  /-- stripes still to rebuild, the one in progress first -/
  todo : List StripeRec
  /-- units of the stripe in progress that could not be read -/
  bad : List (Nat × Bool)
  /-- partial codewords of the stripe in progress, by codeword -/
  part : SMap Coded
  rebuilt : Nat
  /-- device lifetime in ms at its start -/
  since : Nat
  failed : Nat
  gathered : Bool
  deriving DecidableEq, Repr

/-- A chain this device is a source of (R387). -/
structure Chain where
  group : Nat
  stripe : Nat
  /-- this device's unit: (position or row, is a row) -/
  unit : Nat × Bool
  /-- the node after this one, and this one's weight -/
  next : Nat
  weight : Nat
  /-- codewords that cannot be read here -/
  bad : List Nat
  /-- codewords not yet passed on -/
  left : List Nat
  deriving DecidableEq, Repr

/-- A GROUP_HELLO for a group not joined here yet (R375). -/
structure HelloSeen where
  src : Nat
  group : Nat
  k : Nat
  m : Nat
  index : Nat
  digest : List Byte
  deriving DecidableEq, Repr

/-- A LOCATE that waits for INDEX_READY (R381). -/
structure LocateWait where
  src : Nat
  group : Nat
  request : Nat
  member : Nat
  band : Nat
  seg : Nat
  deriving DecidableEq, Repr

/-- The MESH block, the Trail ports and the stripe groups. -/
structure Mesh where
  /-- MESH_CFG.NODE, 11 bits (Table 15.13); 15_trail_mesh.md; reset: from PJM, 0 on blank PJM -/
  node : Nat
  /-- MESH_CFG.CONFIGURED (Table 15.13); 15_trail_mesh.md; reset: from PJM, 0 on blank PJM -/
  configured : Bool
  /-- MESH_CFG.X_SIZE, Y_SIZE and Z_SIZE, sizes minus 1 (Table 15.13); 15_trail_mesh.md; reset: from PJM, 0 on blank PJM -/
  xs : Nat
  ys : Nat
  zs : Nat
  /-- MESH_CFG.WRAP, 3 bits (Table 15.13); 15_trail_mesh.md; reset: from PJM, 0 on blank PJM -/
  wrap : Nat
  /-- ports 0 to 5: MESH_PORTS and MESH_PORT_SAT (Tables 15.14 and 15.20); 15_trail_mesh.md; reset: disabled, down -/
  ports : List Port
  /-- MESH_STATUS.CFG_REJECT (Table 15.15); 15_trail_mesh.md; reset 0 -/
  cfgReject : Bool
  /-- MESH_STATUS.PARTITIONED (Table 15.15); 15_trail_mesh.md; reset 0 -/
  partitioned : Bool
  /-- MESH_STATUS.INDEX_READY (Table 15.15, R381); 15_trail_mesh.md; reset 0 -/
  indexReady : Bool
  /-- MESH_REBUILD_CTRL.RATE, 4 bits (Table 15.16); 15_trail_mesh.md; reset 4 -/
  rate : Nat
  /-- MESH_GROUP_SEL.SLOT, 3 bits (Table 15.17); 15_trail_mesh.md; reset 0 -/
  slotSel : Nat
  /-- group slots 0 to 7 in use (Tables 15.18 and 15.19); 15_trail_mesh.md; reset: from PJM, none on blank PJM -/
  groups : SMap Group
  /-- ID of the group given a segment last, plus 1 (R377); 15_trail_mesh.md; reset 0 (DESIGN CHOICE, log entry 9) -/
  turn : Nat
  /-- GROUP_HELLOs that arrived for a group not joined here (R375); 15_trail_mesh.md; reset: none -/
  helloSeen : List HelloSeen
  /-- failed links flooded: (node, port) (R373); 15_trail_mesh.md; reset: none -/
  failedLinks : List (Nat × Nat)
  /-- flood sequence numbers seen by origin node (Table 15.4); 15_trail_mesh.md; reset: none -/
  floods : SMap Nat
  /-- next flood sequence number (Table 15.4); 15_trail_mesh.md; reset 0 (DESIGN CHOICE, log entry 9) -/
  floodSeq : Nat
  /-- packets sent to a port, newest first: (port, channel, packet) (R369, R370); 15_trail_mesh.md; reset: none -/
  sent : List (Nat × Nat × MPkt)
  /-- stripes this device holds a row of or has opened (R378 to R384); 15_trail_mesh.md; reset: none -/
  stripes : List Stripe
  /-- own sealed segments offered or in stripes (R377 to R383); 15_trail_mesh.md; reset: none -/
  own : List OwnSeg
  /-- stripe records cached from other holders (R386); 15_trail_mesh.md; reset: none -/
  cache : List StripeRec
  /-- reconstructions in progress or complete (R386); 15_trail_mesh.md; reset: none -/
  recons : List Recon
  /-- LOCATEs sent for own segments after a restart: (request, band, segment) (R382); 15_trail_mesh.md; reset: none -/
  lookups : List (Nat × Nat × Nat)
  /-- LOCATEs that wait for INDEX_READY (R381); 15_trail_mesh.md; reset: none -/
  locates : List LocateWait
  /-- next request number of LOCATE and RECON_REQ (Table 15.4); 15_trail_mesh.md; reset 0 (DESIGN CHOICE, log entry 9) -/
  nextReq : Nat
  /-- the rebuild running on this device (R387); 15_trail_mesh.md; reset: none -/
  rebuild : Option Rebuild
  /-- segments rebuilt and remaining of the last rebuild by group (R108); 15_trail_mesh.md; reset: none -/
  rebuildDone : SMap (Nat × Nat)
  /-- rebuild chains this device is a source of (R387); 15_trail_mesh.md; reset: none -/
  chains : List Chain
  /-- rebuilt data segments not yet reported dead: (band, segment) (R385); 15_trail_mesh.md; reset: none -/
  replaced : List (Nat × Nat)
  /-- MESH_ACCUM.PEAK, 10 bits (Table 15.20); 15_trail_mesh.md; reset 0 -/
  accPeak : Nat
  /-- MESH_STRIPES_CLOSED, 32 bits, wraps (Table 15.20); 15_trail_mesh.md; reset 0 -/
  stripesClosed : Nat
  /-- MESH_ZERO_POSITIONS, 32 bits, wraps (Table 15.20); 15_trail_mesh.md; reset 0 -/
  zeroPositions : Nat
  /-- device lifetime in ms at the last sending of GOSSIP (R383); 15_trail_mesh.md; reset 0 (DESIGN CHOICE, log entry 9) -/
  gossipAt : Nat
  /-- MESH_LATE, 32 bits, saturates (Table 15.20); 15_trail_mesh.md; reset 0 -/
  late : Nat
  /-- MESH_ABANDONED, 32 bits, saturates (Table 15.20); 15_trail_mesh.md; reset 0 -/
  abandoned : Nat
  /-- MESH_RECON_DONE, 32 bits, wraps (Table 15.20); 15_trail_mesh.md; reset 0 -/
  reconDone : Nat
  /-- MESH_RECON_SERVED, 32 bits, wraps (Table 15.20); 15_trail_mesh.md; reset 0 -/
  reconServed : Nat
  /-- MESH_REPLAYS, 32 bits, saturates (Table 15.20); 15_trail_mesh.md; reset 0 -/
  replays : Nat
  /-- MESH_LINK_RESETS, 32 bits, saturates (Table 15.20); 15_trail_mesh.md; reset 0 -/
  linkResets : Nat
  /-- MESH_GCM_FAILS, 32 bits, saturates (Table 15.20); 15_trail_mesh.md; reset 0 -/
  gcmFails : Nat
  /-- MESH_BAD_PACKETS, 32 bits, saturates (Table 15.20); 15_trail_mesh.md; reset 0 -/
  badPackets : Nat
  /-- MESH_DETOURED, 32 bits, wraps (Table 15.20); 15_trail_mesh.md; reset 0 -/
  detoured : Nat
  deriving DecidableEq, Repr

end Sys2Proof.Machine
end

