-- ==== Sys2Proof/Syntax.lean ====
section
/-! DEFINITION. The commands of the block: one constructor of `Instr` per row of spec/opcode_table.json, with the operands
the command carries from outside. What the world outside the device answers (host reads, flash and DRAM checks, measured
values, a partner's or a neighbour's message) is an operand of the command it belongs to (log entry 10). -/

namespace Sys2Proof

open Sys2Proof.Machine

/-- The host's answer to a device read of its memory (R502): data, or an error or poison. -/
inductive HostRead where
  | data (bytes : List Byte)
  | error
  deriving DecidableEq, Repr

/-- What has become of a line since it was written with its check symbols: the symbols now in error, each with its difference from
the one written; none: the line is as it was written. The decoder's verdict follows from it (R20, R22, R188, R190). -/
abbrev LineCheck := List (Nat × Byte)

/-- What the flash and staging give to a block read: for a codeword address the effort level that read it
(0 to 3, R116), 4 when no level does, or 5 when it decodes and its CHECK does not match (R124); codewords not
listed read at level 0. The blocks whose staging
line is uncorrectable (R192). -/
structure MediaIn where
  levels : List (Nat × Nat) := []
  badStaged : List (Nat × Nat) := []
  deriving DecidableEq, Repr

/-- What the line code cannot correct as Waymark lines are read: array units, shadow units, and units whose row's result-word line it is
(R286, R287, R290). -/
structure WayCheck where
  arrays : List Nat := []
  shadows : List Nat := []
  results : List Nat := []
  deriving DecidableEq, Repr

/-- What a compression pipe's verify checker finds: agreement, or a difference in the compressed output or in the stored rewrite (R297,
R299). -/
inductive Checker where
  | agrees
  | differs
  | storedDiffers
  deriving DecidableEq, Repr

/-- Which reply REPLY_WRITE writes: a command's, a tagless one of the overrun buffer, or an event (R64, R73, R75). -/
inductive ReplySrc where
  | command
  | tagless
  | event
  deriving DecidableEq, Repr

/-- A host write outside BAR0 and BAR2: of MSI-X table entries, of the function mask or of MSI-X Enable (R47, R501); of the viral enable
of the CXL devices DVSEC (R53); of RAS mask and severity and the clearing of RAS status, by the rows of Table 2.9, and of AER status
(R52); and of the power state, D0 or D3hot (R29, Table 2.4). -/
inductive MsixWrite where
  | entry (vector addr data : Nat) (mask : Bool)
  /-- four bytes at a byte offset of BAR4, within the MSI-X table -/
  | word (offset value : Nat)
  | functionMask (mask : Bool)
  | enable (on : Bool)
  | viral (on : Bool)
  | rasClear (rows : List Nat)
  | aerClear (bits : List Nat)
  | rasMask (rows : List Nat)
  | rasSeverity (fatal : List Nat)
  | powerState (d3hot : Bool)
  deriving DecidableEq, Repr

/-- One flash block found by the device's start-up (R113, R183). -/
structure BoardIn where
  channels : Nat
  luns : Nat
  planes : Nat
  blockMib : Nat
  rawBytes : Nat
  /-- bytes 32 to 63 of the flash's parameter page, which the profile's MFR and MODEL are compared with (R457) -/
  page : List Byte
  /-- the page size, pages per block and blocks per LUN found agree with the profile -/
  profileOk : Bool
  /-- blocks found good on each populated channel, but for those taken for the dump areas -/
  blocks : List (List FlashBlock)
  /-- the good blocks of each populated channel that the dump areas A and B take at first start (R162) -/
  dumpAreas : List (List FlashBlock) := []
  /-- DRAM: rate code, x4, two ranks, density code, capacity in GiB, and ranks that trained -/
  rate : Nat
  x4 : Bool
  twoRanks : Bool
  density : Nat
  dramGib : Nat
  trainOk : Bool
  deriving DecidableEq, Repr

/-- What a start-up finds outside the device (R453 to R461, R475, R487). -/
structure BootIn where
  board : BoardIn
  /-- a second hash of the image differs from the first (R454) -/
  hashMismatch : Bool
  /-- known-answer tests that fail at power-up (R331) -/
  selftestFailed : Nat
  /-- FP_RXD is held low at step 2 (R475) -/
  service : Bool
  /-- journal lines read uncorrectable before the head (R161) -/
  pjmUncorrectable : Bool
  /-- slots of the own checkpoint roots whose CRC does not match (R157) -/
  badRoots : List Nat := []
  /-- dumps whose bodies cannot be read back (R166) -/
  dumpUnreadable : Bool
  /-- start-up time in ms -/
  ms : Nat
  /-- the staged blocks that a PAIRED partner's mirror gives back after an incomplete dump: (volume, LBA, data) (R166) -/
  mirror : List (Nat × Nat × List Byte)
  /-- effort levels of the codewords that open-band replay reads (R160) -/
  media : MediaIn
  deriving DecidableEq, Repr

/-- What a program completion places (R120, R139, R154). -/
inductive ProgItem where
  /-- staged blocks of volume `vol`, by LBA, into one codeword of the stream's open band -/
  | host (stream : Stream) (vol : Nat) (lbas : List Nat)
  /-- copies of GC, by (volume, LBA), with the effort levels at which their source codewords read (R146) -/
  | copies (list : List (Nat × Nat)) (media : MediaIn)
  /-- an extent stretch: 512 blocks of one stretch in order -/
  | extent (vol stretch : Nat)
  deriving DecidableEq, Repr

/-- A step of a DRAM sub-channel (R194 to R196, R200). -/
inductive DramOp where
  /-- a request arrives for a line: a read, or a write of the 64 bytes given, none where a byte is not written -/
  | arrive (sub line : Nat) (write : Bool) (data : List (Option Byte))
  /-- the scheduler serves the next request; what the line it reads holds in error -/
  | serve (sub : Nat) (check : LineCheck)
  deriving DecidableEq, Repr

/-- The engines a Kite core requests work of (R254). -/
inductive EngineId where
  | waymark
  | digest
  | compress
  | dma
  deriving DecidableEq, Repr

/-- A Tether flit as it arrives (Table 14.1), with the verdicts on its GCM tag under the
current and the next key (R338). -/
structure TetherFlit where
  fseq : Nat
  ackseq : Nat
  nak : Bool
  idle : Bool
  cred : List Nat
  vc : Nat
  som : Bool
  eom : Bool
  len : Nat
  payload : List Byte
  /-- TAG and CRC as they arrive -/
  tag : List Byte
  crc : Nat
  tagOk : Bool
  tagOkNext : Bool
  deriving DecidableEq, Repr

/-- A Trail flit as it arrives (Table 15.3). -/
structure TrailFlit where
  fseq : Nat
  ackseq : Nat
  nak : Bool
  idle : Bool
  /-- CRED: channel and freed count -/
  credCh : Nat
  cred : Nat
  /-- class, DL and ESC of CTL -/
  cls : Nat
  dl : Bool
  esc : Bool
  typ : Nat
  len : Nat
  /-- the reserved byte 0x0F, and above it CTL[15:4] -/
  reserved : Nat
  pkt : MPkt
  /-- TAG and CRC as they arrive -/
  tag : List Byte
  crc : Nat
  tagOk : Bool
  tagOkNext : Bool
  deriving DecidableEq, Repr

/-- The two bodies of MEMBER_UPDATE (Table 15.4). -/
inductive MemberChange where
  | node (index node : Nat)
  | moved (stripe d : Nat) (row : Bool) (band seg : Nat)
  deriving DecidableEq, Repr

/-- The inputs filtered by R405. -/
inductive FilteredInput where
  | pwrFail
  | perst
  | wake
  | fpRdy
  deriving DecidableEq, Repr

/-- What a DOE exchange does (R49, R330). -/
inductive DoeMsg where
  /-- a secured session is set up: 1 plain, 2 Crypto Officer, 3 User -/
  | session (role : Nat)
  | sessionEnd
  /-- IDE_KM keys for the CXL.io (false) or CXL.cache/mem (true) stream -/
  | ideKeys (cm : Bool)
  deriving DecidableEq, Repr

/-- A Kite general register g0 to g15 (Table 9.2). -/
abbrev Reg := Fin 16
/-- A Kite core, 8 × cluster + core (R203). -/
abbrev CoreId := Fin 64

/-- The commands of the block, in the order of spec/opcode_table.json. -/
inductive Instr where
  /-- SLOT_WRITE (R61): A BAR2 slot write reaches a task slot and latches, is dropped with CRC_MISMATCH, or overruns a HELD slot. -/
  | slotWrite (addr : Nat) (data : List Byte) (enables poisoned idePassed : Bool)
  /-- INTAKE_ACCEPT (R62): Once a tag is free and its queue is below its limit, the intake accepts a HELD packet and gives it a tag and an acceptance sequence number. -/
  | intakeAccept
  /-- LOCK_GRANT (R77): A waiting range-lock request is granted once no earlier-accepted conflicting entry remains. -/
  | lockGrant (tag : Nat)
  /-- LOCK_ENTRY_FREE (R78): A freed range-lock entry goes to the earliest-accepted command that is waiting for one. -/
  | lockEntryFree
  /-- STAGING_ADMIT (R503): A write that waits for staging or partner mirror space is admitted in acceptance order once the space frees. -/
  | stagingAdmit
  /-- FRAGMENT_LIST_READ (R92): The fragment list is read and checked, and the sum of its lengths is compared with DLEN at check 6. -/
  | fragmentListRead (tag : Nat) (host : HostRead)
  /-- COMMAND_COMPLETE (R83): A command's final reply is handed to the reply engine, which decides between it and an abort. -/
  | commandComplete (tag : Nat)
  /-- REPLY_WRITE (R71): The reply engine writes an entry at the ring tail with its phase bit once the ring has a free entry. -/
  | replyWrite (ring : Nat) (src : ReplySrc)
  /-- REPLY_WRITE_ERROR (R499): The host answers a reply-entry write with an error or poison, and the entry counts as written with a Deferred fault. -/
  | replyWriteError (ring : Nat) (src : ReplySrc)
  /-- RING_FULL_NOTICE (R73): A ring other than ring 0 stays full for 100 ms with a reply waiting, and a RING_FULL notice is posted to ring 0. -/
  | ringFullNotice (ring : Nat)
  /-- COALESCE_TIMEOUT (R74): The ring's coalescing time passes after its first unsignalled entry, and its MSI-X message is sent. -/
  | coalesceTimeout (ring : Nat)
  /-- MSIX_UNMASK (R501): A vector or the function is unmasked, or MSI-X is enabled, and pending messages are sent. -/
  | msixUnmask (w : MsixWrite)
  /-- RRH_HEAD_WRITE (R72): The host writes RRH_HEAD to release ring entries, or the write is ignored and sets HEAD_ERR. -/
  | rrhHeadWrite (ring value : Nat)
  /-- RRH_INT_MASK_CLEAR (R74): Clearing RRH_STATUS.INT_MASK with unsignalled entries present sends one message at once. -/
  | rrhIntMaskClear (ring value : Nat)
  /-- TSK_RING0_CTRL_WRITE (R70): A write to TSK_RING0_CTRL sets the size of ring 0 or enables ring 0 and queue 0. -/
  | tskRing0CtrlWrite (value : Nat)
  /-- HST_BIAS_FLIP_GO (R45): Writing GO starts a host-requested bias flip of a range of granules, or the flip is refused. -/
  | hstBiasFlipGo (value : Nat)
  /-- FLT_ACK_WRITE (R417): Writing FLT_ACK acknowledges the selected fault classes and writes one history record per class. -/
  | fltAckWrite (value : Nat)
  /-- FLT_SRC_WRITE (R416): Writing FLT_SRC.REACTION sets the configured reaction of the selected source, or is refused with CFG_REJECT. -/
  | fltSrcWrite (value : Nat)
  /-- FLT_CE_LIMIT_WRITE (R414): Writing FLT_CE_LIMIT sets the correction-storm limit, or is ignored with CFG_REJECT. -/
  | fltCeLimitWrite (value : Nat)
  /-- FP_LOCK_WRITE (R474): Writing 1 to GLB_CTRL.FP_LOCK makes the device refuse all later Footpath packets with NAK 5. -/
  | fpLockWrite (value : Nat)
  /-- MED_GC_CTRL_WRITE (R143): A write to MED_GC_CTRL sets the GC thresholds and the stripe term, or is ignored with CFG_REJECT. -/
  | medGcCtrlWrite (value : Nat)
  /-- MED_SEAL_TIMER_WRITE (R121): A write to MED_SEAL_TIMER sets the segment seal timer, or is ignored with CFG_REJECT. -/
  | medSealTimerWrite (value : Nat)
  /-- MED_PATROL_CTRL_WRITE (R171): A write to MED_PATROL_CTRL sets the relocation level, band limit or pause of patrol. -/
  | medPatrolCtrlWrite (value : Nat)
  /-- KCL_CFG_WRITE (R225): A write to KCL_CFG sets the ring size, quantum or preemption of a cluster, and the ring size waits until the cluster is not busy. -/
  | kclCfgWrite (cluster value : Nat)
  /-- WAYC_TABLE_ENABLE (R291): Setting EN of WAYC_TABLEt enables a table, clearing its entries and its shadow, or is refused with CFG_REJECT. -/
  | waycTableEnable (table value : Nat)
  /-- WAYC_TABLE_DISABLE (R291): Clearing EN of WAYC_TABLEt disables the table, frees its banks and discards its contents. -/
  | waycTableDisable (table value : Nat)
  /-- HLT_POLICY_WRITE (R434): A write to HLT_POLICY_V or HLT_POLICY_CLK sets the policy bands, or is ignored with CFG_REJECT. -/
  | hltPolicyWrite (clk : Bool) (value : Nat)
  /-- PAIR_WITNESS_WRITE (R351): A write to PAIR_WITNESSi names a witness node in SOLO, or is ignored with CFG_REJECT. -/
  | pairWitnessWrite (index value : Nat)
  /-- MESH_REBUILD_CTRL_WRITE (R387): A write to MESH_REBUILD_CTRL sets the rebuild rate limit, or is ignored with CFG_REJECT. -/
  | meshRebuildCtrlWrite (value : Nat)
  /-- SEC_DG_CTRL_WRITE (R313): A write to SEC_DG_CTRL sets the digest idle clearing time, or is ignored when out of range. -/
  | secDgCtrlWrite (value : Nat)
  /-- REGISTER_WRITE (R34): A BAR0 write to a register without behaviour of its own sets its fields under their access types. -/
  | registerWrite (offset size value : Nat)
  /-- IDENTIFY (R100): Writes the device or volume-list structure into the host buffer. -/
  | identify (tag : Nat)
  /-- GET_LOG (R100): Writes the bytes of the named log from an offset into the host buffer. -/
  | getLog (tag : Nat)
  /-- SET_FEATURE (R101): Sets a feature value, which takes effect as the feature table states. -/
  | setFeature (tag : Nat)
  /-- GET_FEATURE (R101): Returns the value of a feature in force and the value pending for it. -/
  | getFeature (tag : Nat)
  /-- FW_DOWNLOAD (R463): Writes image bytes into the firmware staging buffer, or directly into the NOR in ROM recovery. -/
  | fwDownload (tag : Nat) (host : HostRead)
  /-- FW_ACTIVATE (R464): Checks the staged slot, programs and reads back the NOR slot, and schedules activation. -/
  | fwActivate (tag : Nat) (nor : Bool)
  /-- ACTIVATION_RESET (R465): The activation reset starts 1 ms after an FW_ACTIVATE reply made with PARAM1[0] at 1. -/
  | activationReset
  /-- QUEUE_CREATE (R58): Creates a queue with its ring, in-flight limit and ordering class. -/
  | queueCreate (tag : Nat)
  /-- QUEUE_DELETE (R59): Stops a queue's slot from latching and deletes the queue once its earlier commands have replied. -/
  | queueDelete (tag : Nat)
  /-- RING_CREATE (R70): Creates a reply ring with its base, size, vector and coalescing values. -/
  | ringCreate (tag : Nat)
  /-- RING_DELETE (R60): Deletes a reply ring that no queue is bound to. -/
  | ringDelete (tag : Nat)
  /-- QUEUE_QUERY (R102): Reports a queue's settings, its slot state, the tags it holds and the next acceptance sequence number. -/
  | queueQuery (tag : Nat)
  /-- VOLUME_CREATE (R103): Creates a volume with its capacity, attributes and key, compacting the directory if needed. -/
  | volumeCreate (tag : Nat)
  /-- VOLUME_DELETE (R149): Destroys the volume key, unmaps the volume's directory entries and journals the change. -/
  | volumeDelete (tag : Nat)
  /-- VOLUME_QUERY (R103): Returns a volume's capacity and attribute bits. -/
  | volumeQuery (tag : Nat)
  /-- FORMAT (R179): Unmaps a volume, optionally replaces its key, records the WSEQ mark and sets the format bit. -/
  | format (tag : Nat)
  /-- FORMAT_WALK (R179): A format's band walk starts in acceptance order and counts the volume's old units invalid band by band. -/
  | formatWalk
  /-- READ (R137): Resolves and reads blocks through staging, the directory, the leaf entries, the flash and recovery, into the host buffer. -/
  | read (tag : Nat) (media : MediaIn)
  /-- WRITE (R24): Fetches host data into staging, mirrors it, and is acknowledged once the local and partner staging writes are confirmed. -/
  | write (tag : Nat) (host : HostRead)
  /-- TRIM (R104): Sets a range of blocks to the Zero form under an exclusive lock. -/
  | trim (tag : Nat)
  /-- FLUSH (R76): Completes when every earlier-accepted write, TRIM and WRITE_ZEROES to the volume has ended. -/
  | flush (tag : Nat)
  /-- COMPARE (R104): Compares host data with stored blocks and reports the first difference. -/
  | compare (tag : Nat) (host : HostRead) (media : MediaIn)
  /-- WRITE_ZEROES (R104): Writes a range of blocks in the Zero form under an exclusive lock. -/
  | writeZeroes (tag : Nat)
  /-- READ_TO_ARENA (R104): Reads blocks into the Result Arena, flipping the granules it touches to device bias and back. -/
  | readToArena (tag : Nat) (media : MediaIn)
  /-- COMPRESS (R297): Compresses the source on one pipe with verification and judges the minimum gain, with an optional stored fallback. -/
  | compress (tag : Nat) (host : HostRead) (checker : Checker)
  /-- DECOMPRESS (R300): Inflates a raw, zlib or gzip stream into the destination within its capacity. -/
  | decompress (tag : Nat) (host : HostRead)
  /-- DIGEST (R309): Absorbs one part of a message in a digest context and writes the digest on its final part. -/
  | digest (tag : Nat) (host : HostRead)
  /-- DIGEST_VERIFY (R314): Absorbs a message and compares its digest with the expected digest in constant time. -/
  | digestVerify (tag : Nat) (host expected : HostRead)
  /-- WAYMARK_LOAD (R283): Writes entry records into a Waymark table in order and extends M3 on success. -/
  | waymarkLoad (tag : Nat) (host : HostRead)
  /-- WAYMARK_SEARCH (R285): Searches a table for each key and writes one 8-byte result per key. -/
  | waymarkSearch (tag : Nat) (host : HostRead) (check : WayCheck)
  /-- WAYMARK_READ (R286): Reads entry records from copy 0 of a table. -/
  | waymarkRead (tag : Nat) (check : WayCheck)
  /-- PROGRAM_LOAD (R260): Fetches and checks a program image, measures it into M4 and places it in a slot. -/
  | programLoad (tag : Nat) (host : HostRead)
  /-- PROGRAM_UNLOAD (R262): Marks a program slot unloading and empties it once the runs that use it have ended. -/
  | programUnload (tag : Nat)
  /-- SCAN_RUN (R264): Starts a scan run: reads the parameter block, flips bias, places the shared areas and creates the instances. -/
  | scanRun (tag : Nat) (params : HostRead)
  /-- SCAN_AREA_PLACE (R264): A waiting run places its shared area on a cluster once the cluster can take it, in acceptance order. -/
  | scanAreaPlace (tag : Nat)
  /-- SCAN_STOP (R274): Ends a running SCAN_RUN with ABORTED. -/
  | scanStop (tag : Nat)
  /-- SCAN_QUERY (R275): Reports the blocks scanned and the instances running of a run. -/
  | scanQuery (tag : Nat)
  /-- SCAN_RUN_END (R273): A run ends once every instance has halted and every request has completed, or on its first ending event. -/
  | scanRunEnd (tag : Nat)
  /-- KEY_IMPORT (R326): Unwraps and stores an imported volume key or HMAC key and extends M2. -/
  | keyImport (tag : Nat) (host : HostRead)
  /-- KEY_DESTROY (R327): Destroys a pending volume key or empties an HMAC slot and extends M2. -/
  | keyDestroy (tag : Nat)
  /-- EXTEND (R317): Extends a host milestone with the command's value in acceptance order. -/
  | extend (tag : Nat) (host : HostRead)
  /-- ATTEST (R320): Reads all milestones at one instant and writes a signed attestation report. -/
  | attest (tag : Nat) (host : HostRead)
  /-- SELF_TEST (R331): Runs the selected known-answer tests and reports the tests that failed. -/
  | selfTest (tag failed : Nat)
  /-- SANITISE (R175): Runs the key step and then erases or overwrites the selected bands in the chosen mode. -/
  | sanitise (tag : Nat)
  /-- SANITISE_START (R177): A sanitise starts once the commands accepted before it have ended, and it writes its progress record. -/
  | sanitiseStart
  /-- SANITISE_UNIT_DONE (R177): A unit of sanitise or format progress completes and the progress record is updated. -/
  | sanitiseUnitDone (failed : List (Nat × Nat))
  /-- SANITISE_STATUS (R178): Reports sanitise or format progress from the progress record. -/
  | sanitiseStatus (tag : Nat)
  /-- TETHER_PAIR (R341): Pairs the device with its partner by HELLO exchange, ECDH and an initial transfer of root, journal and keys. -/
  | tetherPair (tag : Nat) (host : HostRead)
  /-- PAIR_HELLO_TIMEOUT (R341): No partner HELLO arrives within 10 s of a TETHER_PAIR, which then fails. -/
  | pairHelloTimeout
  /-- TETHER_UNPAIR (R348): Stops mirroring, waits for every entry to be released, exchanges UNPAIR and returns to SOLO. -/
  | tetherUnpair (tag : Nat)
  /-- TAKEOVER (R354): Starts the probe at once, or counts as a claim won when the host confirms the partner lost. -/
  | takeover (tag : Nat)
  /-- MESH_CONFIG (R367): Sets the node ID, the mesh sizes, the wrap bits and the enabled ports. -/
  | meshConfig (tag : Nat)
  /-- STRIPE_GROUP_JOIN (R375): Joins a stripe group and exchanges GROUP_HELLO until the group is ACTIVE. -/
  | stripeGroupJoin (tag : Nat) (host : HostRead)
  /-- STRIPE_GROUP_LEAVE (R375): Dissolves a stripe group once every member has issued the command. -/
  | stripeGroupLeave (tag : Nat)
  /-- REBUILD_START (R387): Rebuilds a lost member's segments onto this device stripe by stripe, using chained partial sums. -/
  | rebuildStart (tag : Nat)
  /-- REBUILD_STATUS (R108): Reports the segments rebuilt and the segments remaining. -/
  | rebuildStatus (tag : Nat)
  /-- POWER_SET (R396): Requests a power-state entry or arms Ballast, queuing behind a running transition. -/
  | powerSet (tag : Nat)
  /-- POWER_QUERY (R402): Reports the power state, any transition in progress and the queued target. -/
  | powerQuery (tag : Nat)
  /-- HEALTH_QUERY (R450): Writes the health page and reports the spare state. -/
  | healthQuery (tag : Nat)
  /-- MARGIN_PLAN (R440): Runs the margin planner now, joins a running plan, or replies at once. -/
  | marginPlan (tag : Nat)
  /-- TEST_CONTROL (R446): Pauses or resumes idle-time test slices, or runs the whole test set of one island now. -/
  | testControl (tag : Nat)
  /-- ABORT (R84): Finds a target by queue and cookie or by tag and queue, and aborts it under Table 3.10. -/
  | abort (tag : Nat)
  /-- NOP (R108): Returns its own acceptance sequence number. -/
  | nop (tag : Nat)
  /-- CONVENTIONAL_RESET (R452): PERST#, a hot reset or a link disable resets the host interface, sends YIELD, dumps and resets every island except AON and PJM. -/
  | conventionalReset (kind : Nat)
  /-- PERST_DEASSERT (R462): PERST# deasserts and the boot proceeds, a Ballast exit completes, or pins return from EXTEST. -/
  | perstDeassert
  /-- FLR (R54): A function-level reset deletes queues and rings, empties ring 0 and restores the host-interface defaults. -/
  | flr
  /-- POWER_ON (R451): Rails come into regulation with XTAL running and power-on reset is released. -/
  | powerOn
  /-- BOOT (R453): Boot ROM and Dwear check and measure the images, train DRAM, recover the map and set READY. -/
  | boot (found : BootIn)
  /-- LINK_TRAINING (R30): The host link trains and enters CXL mode or PCIe-only mode. -/
  | linkTraining (speed width : Nat) (alternate reversed : Bool)
  /-- LINK_DOWNTRAIN (R31): The link retrains to a lower rate or width without loss of commands. -/
  | linkDowntrain (speed width : Nat)
  /-- IDE_CHECK_FAIL (R50): An IDE check fails, and the stream enters the Insecure state, holding its traffic. -/
  | ideCheckFail (cm : Bool)
  /-- IDE_KEY_REFRESH (R50): The host sets up fresh IDE keys, and the traffic that waited resumes. -/
  | ideKeyRefresh (cm : Bool)
  /-- GPF_PHASE1 (R51): GPF phase 1 completes pending reply writes and releases held host lines. -/
  | gpfPhase1
  /-- GPF_PHASE2 (R51): GPF phase 2 completes the accepted Arena writes and increments HST_GPF_COUNT. -/
  | gpfPhase2
  /-- CXL_MEM_READ (R46): A host CXL.mem read of the Arena is decoded and served coherently, or poisoned outside the decoders. -/
  | cxlMemRead (addr : Nat) (check : LineCheck)
  /-- CXL_MEM_WRITE (R41): A host CXL.mem write to the Arena is served, or dropped outside every committed decoder. -/
  | cxlMemWrite (addr : Nat) (data : List (Option Byte)) (check : LineCheck)
  /-- HDM_DECODER_COMMIT (R41): The host commits an HDM decoder, which succeeds or reports Error Not Committed. -/
  | hdmDecoderCommit (index base size ways gran pos : Nat)
  /-- HANDSHAKE_TIMEOUT (R14): A line waits 20 µs of counted time at a bridge FIFO head, and a fault is raised. -/
  | handshakeTimeout (island sender : Nat)
  /-- ISLAND_IDLE_GATE (R390): An island idle for 20 µs in Run is clock-gated. -/
  | islandIdleGate (island : Nat)
  /-- ISLAND_WAKE (R392): A line reaching a gated island stalls in the bridge while the island wakes. -/
  | islandWake (island : Nat) (banksLost : Bool)
  /-- PROGRAM_COMPLETE (R154): A codeword program completes, and the MAP_SET records for its blocks enter the journal buffer. -/
  | programComplete (item : ProgItem)
  /-- SEGMENT_SEAL_TIMEOUT (R121): A segment's first data waits MED_SEAL_TIMER.MS, and the segment is padded and sealed. -/
  | segmentSealTimeout (band : Nat)
  /-- PROGRAM_FAIL (R122): A program status failure closes the band early and rewrites the failed codewords into the next band. -/
  | programFail (band channel : Nat)
  /-- ERASE_COMPLETE (R119): An erase finishes and the band becomes FREE, or a twice-failing block retires the band. -/
  | eraseComplete (band : Nat) (failed : List Nat)
  /-- JOURNAL_LINE_FLUSH (R154): A journal buffer line is written to PJM when it fills or 2 µs after its first record. -/
  | journalLineFlush
  /-- CHECKPOINT_START (R156): A checkpoint starts at 75 % ring fill or after 30 s with new records. -/
  | checkpointStart
  /-- CHECKPOINT_ROOT_WRITE (R156): Once the checkpoint's programs complete, the root is written and the ring tail moves. -/
  | checkpointRootWrite
  /-- LEAF_FETCH_COMPLETE (R135): A missed leaf page arrives from flash and is checked, or is recovered through the stripe group. -/
  | leafFetchComplete (vol stretch level : Nat)
  /-- PAGE_OUT (R136): Dirty leaf pages are written to a Map band when they exceed half the cache or fill a set. -/
  | pageOut (vol stretch : Nat)
  /-- GC_RUN (R143): Garbage collection runs below its thresholds and chooses the victim with the highest score. -/
  | gcRun
  /-- GC_COMMIT (R147): A copy's program completes, and its conditional MAP_GC commit is applied or the copy is discarded. -/
  | gcCommit (vol lba : Nat)
  /-- BAND_ERASE (R148): A DRAINED band is erased once its copies are committed, its stripes are released and its reads have ended. -/
  | bandErase (band : Nat)
  /-- PATROL_READ (R170): Patrol reads a band's codewords earliest deadline first within its bandwidth share. -/
  | patrolRead (cw level : Nat)
  /-- PATROL_OVERDUE (R170): A band passes its patrol deadline and is counted, with a Note fault. -/
  | patrolOverdue (band : Nat)
  /-- RELOCATION (R171): Blocks of a codeword that reached the relocation level are copied through a GC band. -/
  | relocation (vol lba : Nat)
  /-- PWR_FAIL_ASSERT (R163): PWR_FAIL_N passes its filter, the intake stops and the power-loss dump starts. -/
  | pwrFailAssert
  /-- DUMP_COMPLETE (R162): The dump trailer programs, DUMP_COMPLETE is set and the device enters dump-held. -/
  | dumpComplete (us : Nat)
  /-- WARM_RESTART (R165): PWR_FAIL_N deasserts with the rails good and the device restarts warm after the dump. -/
  | warmRestart
  /-- HOLDUP_SENSE_STUCK (R407): PWR_FAIL_N stays asserted 1 s after a dump with every rail good, and the device enters READ_ONLY. -/
  | holdupSenseStuck
  /-- REFRESH_DUE (R197): A rank's refresh interval expires and REFab is issued or postponed. -/
  | refreshDue (rank : Nat) (postpone : Bool)
  /-- MR4_POLL (R198): Every 32 ms the MR4 refresh-rate field is read and the refresh rate of each rank is chosen. -/
  | mr4Poll (rank field : Nat)
  /-- DQS_RETRACK (R202): Every 64 ms the DQS oscillator is read and the write DQ delays are adjusted. -/
  | dqsRetrack (rank : Nat) (moved : Bool)
  /-- DRAM_FULL_RETRAIN (R202): A channel is fully retrained in the retrain window while the device is idle. -/
  | dramFullRetrain (channel : Nat) (clean : List Nat)
  /-- SCRUB (R193): The scrub reads DRAM lines and writes corrected ones back. -/
  | scrub (line : Nat) (check : LineCheck)
  /-- DRAM_REQUEST (R194): A DRAM read or write request is queued and scheduled. -/
  | dramRequest (r : DramOp)
  /-- ROW_IDLE_TIMEOUT (R194): A bank's idle timer expires and its open row is closed. -/
  | rowIdleTimeout (sub bank : Nat)
  /-- NR_RESEED (R200): Every second the neighbour-refresh generator is reseeded from the entropy source. -/
  | nrReseed (channel : Nat)
  /-- INSTANCE_DISPATCH (R213): Dwear loads the program memory and context of a ready instance and starts it on a core. -/
  | instanceDispatch (core : CoreId)
  /-- QUANTUM_EXPIRY (R214): A dispatched instance runs a quantum while another waits, and it is preempted. -/
  | quantumExpiry (core : CoreId)
  /-- WAIT_PREEMPT (R214): An instance WAITING for 100 µs while another waits is preempted. -/
  | waitPreempt (core : CoreId)
  /-- CONTEXT_SAVE_DONE (R216): A preempted instance's context is saved to spill and the core is freed. -/
  | contextSaveDone (core : CoreId)
  /-- LANE_BLOCK_VISIBLE (R208): A scan lane writes a whole block into its ring and publishes it in work-list order. -/
  | laneBlockVisible (run num : Nat) (media : MediaIn)
  /-- WORKLIST_EXTEND (R267): Dwear resolves blocks and extends a lane's work list up to 2,048 blocks ahead. -/
  | worklistExtend (run num : Nat)
  /-- TIMER_EXPIRY (R222): A core timer reaches zero and sets its event. -/
  | timerExpiry (run num timer : Nat)
  /-- MBOX_DELIVER (R269): Dwear delivers a mailbox word from one instance to another. -/
  | mboxDeliver (run sender dest : Nat)
  /-- ENGINE_REQUEST_DONE (R254): A core's engine or DMA request completes and sets its event. -/
  | engineRequestDone (run num : Nat) (engine : EngineId) (check : LineCheck) (checker : Checker)
  /-- ADD (R236): ga := ga + gb, setting Z N C V. -/
  | kAdd (core : CoreId) (a b : Reg)
  /-- SUB (R236): ga := ga − gb, setting Z N C V. -/
  | kSub (core : CoreId) (a b : Reg)
  /-- ADC (R236): Adds with carry. -/
  | kAdc (core : CoreId) (a b : Reg)
  /-- SBC (R236): Subtracts with borrow. -/
  | kSbc (core : CoreId) (a b : Reg)
  /-- AND (R236): Bitwise AND. -/
  | kAnd (core : CoreId) (a b : Reg)
  /-- OR (R236): Bitwise OR. -/
  | kOr (core : CoreId) (a b : Reg)
  /-- XOR (R236): Bitwise XOR. -/
  | kXor (core : CoreId) (a b : Reg)
  /-- MOV (R236): ga := gb. -/
  | kMov (core : CoreId) (a b : Reg)
  /-- CMP (R236): Compares ga with gb and sets the flags. -/
  | kCmp (core : CoreId) (a b : Reg)
  /-- TST (R236): Tests ga AND gb and sets Z and N. -/
  | kTst (core : CoreId) (a b : Reg)
  /-- SHL (R236): Shifts left. -/
  | kShl (core : CoreId) (a b : Reg)
  /-- SHR (R236): Shifts right with zero fill. -/
  | kShr (core : CoreId) (a b : Reg)
  /-- SAR (R236): Shifts right with sign fill. -/
  | kSar (core : CoreId) (a b : Reg)
  /-- ROL (R236): Rotates left. -/
  | kRol (core : CoreId) (a b : Reg)
  /-- MUL (R236): Takes the low 32 bits of the product. -/
  | kMul (core : CoreId) (a b : Reg)
  /-- MULH (R236): Takes the high 32 bits of the unsigned product. -/
  | kMulh (core : CoreId) (a b : Reg)
  /-- ADDI (R237): Adds an immediate built from the EXT words. -/
  | kAddi (core : CoreId) (exts : List Nat) (a : Reg) (imm : Nat)
  /-- CMPI (R237): Compares with an immediate. -/
  | kCmpi (core : CoreId) (exts : List Nat) (a : Reg) (imm : Nat)
  /-- MOVI (R237): Loads an immediate. -/
  | kMovi (core : CoreId) (exts : List Nat) (a : Reg) (imm : Nat)
  /-- BEQ (R238): Branches when Z = 1. -/
  | kBeq (core : CoreId) (off : Nat)
  /-- BNE (R238): Branches when Z = 0. -/
  | kBne (core : CoreId) (off : Nat)
  /-- BCS (R238): Branches when C = 1. -/
  | kBcs (core : CoreId) (off : Nat)
  /-- BCC (R238): Branches when C = 0. -/
  | kBcc (core : CoreId) (off : Nat)
  /-- BMI (R238): Branches when N = 1. -/
  | kBmi (core : CoreId) (off : Nat)
  /-- BPL (R238): Branches when N = 0. -/
  | kBpl (core : CoreId) (off : Nat)
  /-- BMS (R238): Branches when M = 1. -/
  | kBms (core : CoreId) (off : Nat)
  /-- BMC (R238): Branches when M = 0. -/
  | kBmc (core : CoreId) (off : Nat)
  /-- BHI (R238): Branches on unsigned higher. -/
  | kBhi (core : CoreId) (off : Nat)
  /-- BLS (R238): Branches on unsigned lower or same. -/
  | kBls (core : CoreId) (off : Nat)
  /-- BGE (R238): Branches on signed greater or equal. -/
  | kBge (core : CoreId) (off : Nat)
  /-- BLT (R238): Branches on signed less than. -/
  | kBlt (core : CoreId) (off : Nat)
  /-- BGT (R238): Branches on signed greater than. -/
  | kBgt (core : CoreId) (off : Nat)
  /-- BLE (R238): Branches on signed less or equal. -/
  | kBle (core : CoreId) (off : Nat)
  /-- BAL (R238): Branches always. -/
  | kBal (core : CoreId) (off : Nat)
  /-- BVS (R238): Branches when V = 1. -/
  | kBvs (core : CoreId) (off : Nat)
  /-- LD (R239): Loads a 32-bit word from the data space. -/
  | kLd (core : CoreId) (a b : Reg) (check : LineCheck)
  /-- ST (R239): Stores a 32-bit word to the data space. -/
  | kSt (core : CoreId) (a b : Reg) (check : LineCheck)
  /-- LDB (R239): Loads a zero-extended byte. -/
  | kLdb (core : CoreId) (a b : Reg) (check : LineCheck)
  /-- STB (R239): Stores a byte. -/
  | kStb (core : CoreId) (a b : Reg) (check : LineCheck)
  /-- IN (R240): Reads an I/O port after the port and permission checks. -/
  | kIn (core : CoreId) (a b : Reg) (check : LineCheck)
  /-- OUT (R240): Writes an I/O port after the port and permission checks. -/
  | kOut (core : CoreId) (a b : Reg)
  /-- JMP (R239): Jumps to a register target. -/
  | kJmp (core : CoreId) (a : Reg)
  /-- CALL (R239): Calls a register target and writes the return address to lk. -/
  | kCall (core : CoreId) (a : Reg)
  /-- RET (R239): Returns to lk. -/
  | kRet (core : CoreId)
  /-- REP (R244): Runs the following STR as a loop of rc elements. -/
  | kRep (core : CoreId) (most : Nat) (check : LineCheck)
  /-- BRPT (R247): Starts a block repeat of n words governed by rc. -/
  | kBrpt (core : CoreId) (n : Nat)
  /-- COPY (R242): Copies an element from as to ad. -/
  | kCopy (core : CoreId) (wide : Bool) (check : LineCheck)
  /-- MATCH (R242): Compares elements at as and ad, counting matches in gr. -/
  | kMatch (core : CoreId) (wide : Bool) (r : Reg) (check : LineCheck)
  /-- SEEK (R242): Scans for an element equal to gr. -/
  | kSeek (core : CoreId) (wide : Bool) (r : Reg) (check : LineCheck)
  /-- PULL (R242): Moves an element from a port into memory at ad. -/
  | kPull (core : CoreId) (wide : Bool) (r : Reg) (check : LineCheck)
  /-- PUSH (R242): Moves an element from memory at as to a port. -/
  | kPush (core : CoreId) (wide : Bool) (r : Reg) (check : LineCheck)
  /-- FILL (R242): Writes the low bytes of gr at ad. -/
  | kFill (core : CoreId) (wide : Bool) (r : Reg) (check : LineCheck)
  /-- KITE_NOP (R239): The Kite NOP instruction does nothing. -/
  | kiteNop (core : CoreId)
  /-- WAIT (R221): Sleeps until an enabled event is pending. -/
  | kWait (core : CoreId)
  /-- HALT (R273): Ends the instance normally and frees any digest context it holds. -/
  | kHalt (core : CoreId)
  /-- TRAP (R249): Raises the TRAP exception. -/
  | kTrap (core : CoreId)
  /-- MOVSR (R230): Moves between a general register and a special register. -/
  | kMovsr (core : CoreId) (a : Reg) (toSpecial : Bool) (number : Fin 8)
  /-- LDPW (R239): Reads a program word. -/
  | kLdpw (core : CoreId) (a b : Reg) (check : LineCheck)
  /-- SCAN_DATA (R209): A read of SCAN_DATA returns the next 4 bytes from the lane ring and advances the read position, stalling if needed. -/
  | scanData (core : CoreId) (a b : Reg) (check : LineCheck)
  /-- SCAN_RELEASE (R209): A write to SCAN_RELEASE advances the read position and frees ring slots. -/
  | scanRelease (core : CoreId) (a b : Reg)
  /-- EV_CLEAR (R220): A write to EV_CLEAR clears latched events. -/
  | evClear (core : CoreId) (a b : Reg)
  /-- TIMER_LOAD (R222): A write to TIMER0 or TIMER1 loads or stops a core timer. -/
  | timerLoad (core : CoreId) (a b : Reg)
  /-- MBOX_RECV (R222): A read of MBOX_RECV takes the next inbound mailbox word, stalling while the mailbox is empty. -/
  | mboxRecv (core : CoreId) (a b : Reg)
  /-- MBOX_SEND (R269): A write to MBOX_SEND posts a word to another instance, stalling while the outbound queue is full. -/
  | mboxSend (core : CoreId) (a b : Reg)
  /-- WM_GO (R255): A write to WM_GO starts a Waymark search with the latched table and key. -/
  | wmGo (core : CoreId) (a b : Reg)
  /-- DG_OPEN (R256): A write to DG_OPEN opens a digest message in a context, or sets EXHAUSTED or NO_MESSAGE. -/
  | dgOpen (core : CoreId) (a b : Reg)
  /-- DG_FEED (R256): A write to DG_FEED absorbs bytes from DG_ADDR into the held message. -/
  | dgFeed (core : CoreId) (a b : Reg)
  /-- DG_FINAL (R256): A write to DG_FINAL completes the held digest. -/
  | dgFinal (core : CoreId) (a b : Reg)
  /-- CP_GO (R257): A write to CP_GO starts a compression or decompression request. -/
  | cpGo (core : CoreId) (a b : Reg)
  /-- DMA_PUT (R258): A write to DMA_PUT copies bytes to the latched offset of the run's destination. -/
  | dmaPut (core : CoreId) (a b : Reg)
  /-- DMA_APPEND (R258): A write to DMA_APPEND reserves the next free offset and copies bytes there. -/
  | dmaAppend (core : CoreId) (a b : Reg)
  /-- WAYMARK_SEARCH_QUEUE (R280): A queued search goes to a free copy and produces its result 8 cycles later. -/
  | waymarkSearchQueue (table : Nat) (check : WayCheck)
  /-- SWEEP_STEP (R288): The sweep compares a unit with its shadow in an idle or forced slot and repairs it if they differ. -/
  | sweepStep (forced : Bool) (upset : List (Nat × WUnit)) (arrayBad shadowBad : Bool)
  /-- TABLE_READY (R291): An enabled table finishes clearing and becomes READY. -/
  | tableReady (table : Nat)
  /-- PIPE_GRANT (R294): A free compression pipe is granted round-robin among the request classes. -/
  | pipeGrant (decomp : Bool)
  /-- INLINE_COMPRESS (R303): A block of a compressed volume is compressed on its way from staging to placement. -/
  | inlineCompress (vol lba : Nat) (checker : Checker)
  /-- INLINE_INFLATE (R305): A compressed block read by the host is inflated, or is recovered if inflation fails. -/
  | inlineInflate (tag lba : Nat) (media : MediaIn)
  /-- DIGEST_QUANTUM (R312): A hash pipe switches to the next ready context after absorbing a quantum. -/
  | digestQuantum
  /-- DG_IDLE_TIMEOUT (R313): An idle unfinished command-path context is cleared after IDLE_S seconds. -/
  | dgIdleTimeout (context : Nat)
  /-- SECURITY_ALARM (R316): A voltage, clock, temperature or crystal detector trips and the module zeroises. -/
  | securityAlarm (cause : Nat)
  /-- PERIODIC_SELFTEST (R331): The 24 h re-run of the self-tests runs in idle time. -/
  | periodicSelftest (failed : Nat)
  /-- KEY_UNWRAP (R324): A key-cache miss unwraps a volume key from the key log. -/
  | keyUnwrap (vol : Nat)
  /-- LINK_REKEY (R328): A link derives a new GCM key after 2^31 packets, 24 h or zeroisation. -/
  | linkRekey (link : Nat)
  /-- TETHER_FLIT_RECEIVE (R337): A Tether flit is checked for CRC, sequence and GCM, then accepted or NAKed. -/
  | tetherFlitReceive (f : TetherFlit)
  /-- TETHER_REPLAY_TIMEOUT (R337): No ACKSEQ progress for 4 µs replays the unacknowledged flits. -/
  | tetherReplayTimeout
  /-- TETHER_LINK_RESET (R337): Four replays without progress reset and retrain the Tether link. -/
  | tetherLinkReset (speed width : Nat)
  /-- HELLO (R341): A partner HELLO is checked for proof, witnesses and volumes. -/
  | hello (m : TMsg)
  /-- KEY_TRANSFER (R342): A partner key is installed or destroyed in the key log as a foster record. -/
  | keyTransfer (vol : Nat) (install : Bool) (capacity attrs : Nat)
  /-- MIRROR_WRITE (R343): A mirror entry is stored in the partner mirror and confirmed, or a resend is confirmed again. -/
  | mirrorWrite (seq vol op lba blocks : Nat) (data : List Byte)
  /-- MIRROR_CONFIRM (R24): The partner's confirmation lets a waiting write be acknowledged. -/
  | mirrorConfirm (seq : Nat)
  /-- MIRROR_RELEASE (R346): The partner frees every mirror entry up to the named number. -/
  | mirrorRelease (seq : Nat)
  /-- JOURNAL (R158): Partner journal records are stored in PJM and confirmed. -/
  | journal (first : Nat) (recs : List JRec)
  /-- JOURNAL_CONFIRM (R345): The home device may move its journal tail past the confirmed records. -/
  | journalConfirm (last : Nat)
  /-- ROOT (R158): A partner checkpoint root is stored in the partner slots. -/
  | root (no : Nat) (r : Root)
  /-- HEARTBEAT (R349): A partner heartbeat is accepted and clears SUSPECT. -/
  | heartbeat (count state status : Nat) (readOnly : Bool)
  /-- HEARTBEAT_SEND (R349): Every 100 µs the device sends HEARTBEAT. -/
  | heartbeatSend
  /-- HEARTBEAT_TIMEOUT (R349): No heartbeat for 5 ms sets SUSPECT. -/
  | heartbeatTimeout
  /-- PROBE_TIMER (R350): With SUSPECT set, the partner is probed over the mesh every 500 µs, four times. -/
  | probeTimer
  /-- CLAIM_RETRY (R351): Unanswered witnesses are asked again every 10 ms. -/
  | claimRetry
  /-- PARTNER_DIRECTORY_REBUILD (R357): The partner directory of the foster volumes is rebuilt in background. -/
  | partnerDirectoryRebuild (found : Bool)
  /-- BLOCK_READ (R359): A partner asks for blocks of its volumes and receives BLOCK_DATA. -/
  | blockRead (req vol lba blocks : Nat) (media : MediaIn)
  /-- BLOCK_DATA (R359): Blocks requested from a READ_ONLY partner arrive. -/
  | blockData (req status : Nat) (data : List Byte)
  /-- HANDBACK (R362): A block handed back by a survivor replaces one with a lower WSEQ. -/
  | handback (wseq vol form lba : Nat) (data : List Byte)
  /-- HANDBACK_PASS (R362): A copy pass of a hand-back ends, and the next pass or the last pass starts. -/
  | handbackPass (media : MediaIn)
  /-- CUTOVER (R362): The rejoining device serves its volumes and the pair returns to PAIRED. -/
  | cutover
  /-- YIELD (R355): The partner's YIELD is treated as four unanswered probes and a claim is made at once. -/
  | yieldMsg
  /-- UNPAIR (R348): The partner's UNPAIR completes the separation to SOLO. -/
  | unpair
  /-- TETHER_STABLE (R350): The Tether link runs 1 s without reset in MESH_MIRROR and PAIRED returns. -/
  | tetherStable
  /-- TRAIL_FLIT_RECEIVE (R371): A Trail flit is checked, accepted or discarded, and routed onward. -/
  | trailFlitReceive (port : Nat) (f : TrailFlit)
  /-- TRAIL_REPLAY_TIMEOUT (R371): A Trail port replays unacknowledged flits after 4 µs without progress. -/
  | trailReplayTimeout (port : Nat)
  /-- PORT_FAILED (R373): A Trail port fails, LINK_STATE is flooded and detours are computed. -/
  | portFailed (port : Nat)
  /-- LINK_HELLO (R368): A neighbour's LINK_HELLO is checked and the neighbour session is formed. -/
  | linkHello (port serial node shape : Nat) (pub : List Byte) (verified : Bool)
  /-- LINK_STATE (R373): A flooded link-state map is taken and the detour recomputed. -/
  | linkState (src seq : Nat) (failed : List (Nat × Nat))
  /-- UNREACHABLE (R373): A source learns that its packet had no route. -/
  | unreachable (src id typ : Nat)
  /-- PROBE (R352): The target device answers a probe with PROBE_ACK. -/
  | probe (src pairId sender target number : Nat)
  /-- PROBE_ACK (R350): A probe answer shows the link is at fault and mirroring moves to the mesh. -/
  | probeAck (src pairId sender target number state status : Nat)
  /-- CLAIM (R352): A witness grants, refuses or releases a pair claim. -/
  | claim (src pairId claimant partner number : Nat) (release : Bool)
  /-- CLAIM_GRANT (R351): A witness grant counts towards the majority that wins a claim. -/
  | claimGrant (src pairId claimant partner number : Nat) (release : Bool)
  /-- CLAIM_REFUSE (R353): Refusals from a majority lose the claim and fence the device. -/
  | claimRefuse (src pairId claimant partner number holder : Nat)
  /-- TUNNEL (R350): A Tether message carried over the mesh is delivered. -/
  | tunnel (src : Nat) (m : TMsg)
  /-- GROUP_HELLO (R375): A member's group values are compared until the group becomes ACTIVE. -/
  | groupHello (src group k m index : Nat) (digest : List Byte)
  /-- INTENT (R378): The primary opens or fills a stripe position and answers ACCEPT or LATE. -/
  | intent (src group stripe d band seg : Nat)
  /-- INTENT_REPLY (R378): A member sends its contributions on ACCEPT or offers its segment to the next stripe on LATE. -/
  | intentReply (src group stripe answer lowest : Nat)
  /-- STRIPE_DEADLINE (R378): A stripe's deadline fixes its position set and zero segments, and CLOSE is sent. -/
  | stripeDeadline (group stripe : Nat)
  /-- CONTRIB (R379): A weighted contribution is written or XORed into its accumulator. -/
  | contrib (src group stripe p d j : Nat) (x : Coded)
  /-- CLOSE (R378): A stripe record arrives at a holder or data member. -/
  | close (src group stripe : Nat) (r : StripeRec)
  /-- PARITY_PROGRAM (R380): A holder with every packet programs its parity segment and sends PARITY_DONE. -/
  | parityProgram (group stripe : Nat)
  /-- PARITY_DONE (R380): A row holder reports parity programmed; all m close the stripe. -/
  | parityDone (src group stripe j : Nat)
  /-- GOSSIP (R383): Dead positions reported by another member are recorded. -/
  | gossip (src group : Nat) (dead : List (Nat × Nat))
  /-- GOSSIP_SEND (R383): Every 100 ms a member sends its newly dead positions. -/
  | gossipSend
  /-- RELEASE (R384): A stripe is released and SEG_REL is journalled. -/
  | release (src group stripe : Nat)
  /-- RESEND (R382): A member resends its segment's contribution to a stripe. -/
  | resend (src group stripe d : Nat)
  /-- LOCATE (R381): A holder answers with stripe records from its index. -/
  | locate (src group request member band seg : Nat)
  /-- LOCATE_ANS (R386): Stripe records arrive for a reconstruction or rebuild. -/
  | locateAns (src request : Nat) (recs : List StripeRec)
  /-- RECON_REQ (R386): A source reads codewords, weights them and replies with RECON_SLICE. -/
  | reconReq (src group request stripe weight p n d : Nat) (row : Bool) (media : MediaIn)
  /-- RECON_SLICE (R386): A weighted slice is summed into a reconstruction of a codeword. -/
  | reconSlice (src request p d : Nat) (row : Bool) (x : Coded)
  /-- REBUILD_PLAN (R387): A source receives its place in a rebuild chain. -/
  | rebuildPlan (src group stripe : Nat) (chain : List (Nat × Nat)) (media : MediaIn)
  /-- REBUILD_PART (R387): A partial sum is added and forwarded, or programmed at the replacement. -/
  | rebuildPart (src group stripe p d : Nat) (row : Bool) (x : Coded)
  /-- MEMBER_UPDATE (R387): Holders set a rebuilt location or a new member node. -/
  | memberUpdate (src group : Nat) (u : MemberChange)
  /-- MEMBER_LOST (R385): A member silent or unreachable for 50 ms is held LOST and its open stripes resolve. -/
  | memberLost (group index : Nat)
  /-- STRIPE_INDEX_READY (R381): The stripe index finishes rebuilding after READY. -/
  | stripeIndexReady
  /-- GLIDE_IDLE_ENTRY (R395): 2 ms of idleness starts an automatic entry to Glide. -/
  | glideIdleEntry
  /-- MOORED_IDLE_ENTRY (R395): 500 ms of idleness starts an automatic entry to Moored. -/
  | mooredIdleEntry
  /-- TRANSITION_PHASE_END (R401): An entry phase ends at a safe point and the entry continues, reverses or completes. -/
  | transitionPhaseEnd (imageOk : Bool) (lost : List Nat)
  /-- COMMANDED_ENTRY_TIMEOUT (R396): A commanded entry not idle within 10 ms is refused with HOST_COMMAND. -/
  | commandedEntryTimeout
  /-- LINK_L2_ENTRY (R396): The link reaches L2 while Ballast is armed and the device enters Ballast. -/
  | linkL2Entry
  /-- BALLAST_ARM_EXPIRY (R396): The link is not in L2 10 s after arming and the arming ends. -/
  | ballastArmExpiry
  /-- MOORED_WAKE (R394): L1 exit, patrol due, retrain window or link traffic returns Moored to Run. -/
  | mooredWake (cause : Nat)
  /-- WAKE_N_ASSERT (R399): WAKE_N passes its filter and the device leaves Ballast for Moored and drives WAKE_N. -/
  | wakeNAssert
  /-- WAKE_STUCK (R406): WAKE_N held low 100 ms outside Ballast stops being a wake source. -/
  | wakeStuck
  /-- BROWN_OUT (R404): The AON regulator trips in low-power mode and the device goes to Moored. -/
  | brownOut
  /-- INPUT_GLITCH (R405): A filtered input reverts within 1 µs and its glitch counter increments. -/
  | inputGlitch (input : FilteredInput)
  /-- FP_RDY_IN_CHANGE (R470): FP_RDY_IN changes level and Footpath transmission starts or holds. -/
  | fpRdyInChange (level : Bool)
  /-- FAULT_RAISE (R413): A detector reports a fault, which sets its sticky bit and count and is queued for reaction. -/
  | faultRaise (src : Nat) (level : Option Nat)
  /-- FAULT_REACTION (R415): The fault at the queue head takes its reaction level, escalated if its class is unacknowledged. -/
  | faultReaction
  /-- QUIET_PERIOD_END (R420): The quiet timer runs a whole period and every class is acknowledged. -/
  | quietPeriodEnd
  /-- CONTAIN_READY (R422): The island under a Contain reset becomes ready again. -/
  | containReady (island : Nat)
  /-- SHADOW_WINDOW_END (R421): 50 µs after a Contain island is ready its detectors stop being shadowed. -/
  | shadowWindowEnd (island : Nat)
  /-- LOOP_ACTION (R433): Island slack below 2 taps takes the next voltage or clock action each 1 µs. -/
  | loopAction (island slack : Nat)
  /-- LOOP_UNDO (R433): Slack at target + 2 for 100 ms undoes the latest loop action. -/
  | loopUndo (island slack : Nat)
  /-- DEGRADATION_MEASURE (R431): Hourly the ring-oscillator pairs give each island's degradation. -/
  | degradationMeasure (island degradation : Nat)
  /-- THERMAL_THROTTLE (R436): At 100 °C island caps fall one step per ms and rise again after cooling. -/
  | thermalThrottle (readings : List Int)
  /-- AVS_WRITE_FAIL (R437): An unacknowledged or mismatched AVSBus write is retried and after three fails sets AVS_FAULT. -/
  | avsWriteFail
  /-- PLANNER_RUN (R438): The daily margin planner measures and applies a new plan. -/
  | plannerRun (island : Nat) (found : PlanFound)
  /-- PLAN_TIMEOUT (R438): A plan unfinished after 2 h is finished partial. -/
  | planTimeout
  /-- TEST_SLICE_START (R442): A test slice starts on an island idle for 100 µs. -/
  | testSliceStart (island : Nat)
  /-- TEST_SLICE_ABORT (R442): A demand aborts a slice and the island serves within 2 µs. -/
  | testSliceAbort (island : Nat)
  /-- TEST_SLICE_DONE (R445): A slice completes or fails, raising TEST_FAIL and rerunning the set. -/
  | testSliceDone (island : Nat) (ok crypto : Bool)
  /-- FORCED_WINDOW_ANNOUNCE (R444): An island's coverage age reaches 144 h and a forced window is announced. -/
  | forcedWindowAnnounce (island : Nat)
  /-- FORCED_WINDOW (R444): The forced window runs the island's outstanding slices without abort. -/
  | forcedWindow (island : Nat) (ok crypto : Bool)
  /-- FOOTPATH_COMMAND (R472): A Footpath COMMAND packet is checked and accepted into the acceptance sequence. -/
  | footpathCommand (bytes : List Byte) (crc : Nat)
  /-- FOOTPATH_DATA (R472): A DATA chunk is delivered in SEQ order to the command awaiting data. -/
  | footpathData (bytes : List Byte) (crc : Nat)
  /-- FOOTPATH_NAK (R471): A received NAK makes the device resend its last packet, dropping it after three. -/
  | footpathNak (bytes : List Byte) (crc : Nat)
  /-- FOOTPATH_BAUD (R473): A BAUD packet is echoed and both ends change rate. -/
  | footpathBaud (bytes : List Byte) (crc : Nat)
  /-- FOOTPATH_BREAK (R468): A 2 ms low on FP_RXD discards the packet in progress and returns to 1 Mbaud. -/
  | footpathBreak
  /-- PACKET_IDLE_TIMEOUT (R471): The line idles 32 bit times before a packet ends and NAK 2 is sent. -/
  | packetIdleTimeout
  /-- DATA_CHUNK_TIMEOUT (R98): 1 s without a DATA packet ends the awaiting command with LENGTH_SHORT. -/
  | dataChunkTimeout
  /-- FP_RXD_WAKE (R470): A low on FP_RXD in Moored wakes the device to Run. -/
  | fpRxdWake
  /-- BALLAST_EXIT (R399): PERST# asserted in Ballast, or in the Moored state awaiting the PERST# that completes a WAKE_N or brown-out exit, starts or completes the Ballast exit and resets only the host interface. -/
  | ballastExit
  /-- PWR_FAIL_DEASSERT (R487): PWR_FAIL_N deasserts outside a dump, which lets boot step 2 begin and ends the ignoring of the pin after a stuck hold-up sense. -/
  | pwrFailDeassert
  /-- WAKE_N_RELEASE (R406): WAKE_N is seen high again after being held low, and it becomes a wake source once more. -/
  | wakeNRelease
  /-- RAIL_LOSS (R488): The rails fall after the hold-up time, which ends the dump-held state, and AON loses its sticky state. -/
  | railLoss
  /-- DOE_MESSAGE (R49): An SPDM 1.2 or IDE_KM message on the DOE mailbox sets up or ends a secured session and its IDE keys, which changes the session role bits and APPROVED. -/
  | doeMessage (m : DoeMsg)
  /-- ILLEGAL_INSTRUCTION (R233): A Kite core fetches an unassigned encoding, such as 0x3FFF past the end of the image, and raises ILLEGAL_INSTRUCTION. -/
  | illegalInstruction (core : CoreId) (check : LineCheck)
  /-- TAP_INSTRUCTION (R497): An instruction shifted into the IEEE 1149.1 TAP takes effect, taking pin control only while PERST# is asserted. -/
  | tapInstruction (code : Nat)
  /-- TAP_RESET (R497): TRST_N low resets the TAP, which selects IDCODE. -/
  | tapReset
  /-- FOOTPATH_BAD_KIND (R469): A Footpath packet of a KIND the device does not take, REPLY included, is answered with NAK 3. -/
  | footpathBadKind (kind : Nat)
  /-- GROUP_HELLO_TIMEOUT (R375): A STRIPE_GROUP_JOIN that finds no agreement among the members within 10 s fails with INVALID_FIELD. -/
  | groupHelloTimeout (group : Nat)
  deriving DecidableEq, Repr

end Sys2Proof
end

