-- ==== Sys2Proof/Config.lean ====
section
/-! DEFINITION. What the manual leaves open: values that nothing constrains (no body, so no proof can see them), and the
secrets whose bytes the manual does not give. The state's counter `free` picks a fresh one each time (log entry 12). -/

namespace Sys2Proof

/-- A byte the manual calls undefined (log entry 12). -/
opaque Config.freeByte : Nat → Byte

/-- A number the manual leaves open (log entry 12). -/
opaque Config.freeNat : Nat → Nat

/-- Which of the distances that give the longest match the compressor takes, by input and position (R295 fixes the function of the engine,
not this choice; log entry 14). -/
opaque Config.matchChoice : List Byte → Nat → Nat

/-- The tables of a block of dynamic codes, as its header's bits, from how often each literal or length and each distance occurs in it (R295
says that they are built from the block's symbols, not how; log entry 14). -/
opaque Config.dynamicTables : List Nat → List Nat → List Bool

/-- The byte at a position of secret or random material: a private key's signature, a public key, a derived key or a
nonce, by the identity of the secret (R320, R323, R328; log entry 15). -/
opaque Config.secretByte : Nat → Nat → Byte

/-- The Diffie–Hellman secret shared with a partner or neighbour, as an identity, from both public keys (R341, R368;
log entry 15). -/
opaque Config.sharedSecret : List Byte → List Byte → Nat

/-- XTS-AES-256 encryption of a data unit under a key's identity, with its tweak of volume and LBA (R140, R323; log entry
15). -/
opaque Config.cipher : Nat → Nat → Nat → List Byte → List Byte

/-- XTS-AES-256 decryption of a data unit (R140, R323; log entry 15). -/
opaque Config.decipher : Nat → Nat → Nat → List Byte → List Byte

/-- The outcome of unwrapping a wrapped key with AES key wrap under the import key (R326; log entry 15). -/
opaque Config.unwrapKey : List Byte → Option (List Byte)

/-- Whether an ECDSA P-384 signature over a message verifies under a public key (R455; log entry 15). -/
opaque Config.verifySignature : List Byte → List Byte → List Byte → Bool

/-- The device serial number in the fuses (R32; log entry 16). -/
opaque Config.serial : Nat


end Sys2Proof
end

