-- ==== Sys2Proof/Machine/StateKite.lean ====
section
/-! DEFINITION. The state of the DRAM controllers (chapter 07), of the Kite clusters, cores, scan lanes and instances
(chapters 08 and 09) and of the resident programs and scan runs (chapter 10). -/

namespace Sys2Proof.Machine

/-- A request in a sub-channel's queue (R194). -/
structure DramReq where
  line : Nat
  write : Bool
  /-- the 64 bytes of a write, none where a byte is not written; a scrub's write-back lists none, since it writes the line's own
  corrected value (R193, R194) -/
  data : List (Option Byte)
  /-- requests that arrived later in its bank and were served first (R196) -/
  passed : Nat
  deriving DecidableEq, Repr

/-- A bank's state (R194, R195, R197, R200). -/
structure DramBank where
  openRow : Option Nat
  /-- in-order mode, with the line of the write it waits for (R195) -/
  inOrder : Option Nat
  /-- the rolling activate counter of refresh management (R197) -/
  raa : Nat
  /-- neighbour rows to activate before any other activate to the bank (R200) -/
  near : List Nat
  deriving DecidableEq, Repr

/-- One sub-channel's queues and banks. -/
structure SubChannel where
  /-- requests in arrival order; at most 64 reads and 64 writes (R194) -/
  queue : List DramReq
  draining : Bool
  banks : SMap DramBank
  deriving DecidableEq, Repr

/-- The DRC block and the DRAM controllers. -/
structure Drc where
  /-- DRC_CFG.RATE, 2 bits (Table 7.9); 07_dram.md; reset 0 -/
  rate : Nat
  /-- DRC_CFG.X4 (Table 7.9); 07_dram.md; reset 0 -/
  x4 : Bool
  /-- DRC_CFG.TWO_RANKS (Table 7.9); 07_dram.md; reset 0 -/
  twoRanks : Bool
  /-- DRC_CFG.DENSITY, 2 bits (Table 7.9); 07_dram.md; reset 0 -/
  density : Nat
  /-- DRC_CFG.CAPACITY in GiB, 8 bits (Table 7.9); 07_dram.md; reset 0 -/
  capacity : Nat
  /-- DRC_STATUS.TRAINED (Table 7.10); 07_dram.md; reset 0 -/
  trained : Bool
  /-- DRC_STATUS.ARENA_CLAMPED (Table 7.10, R186); 07_dram.md; reset 0 -/
  clamped : Bool
  /-- ranks refreshing at 2×, numbered 2c + n: DRC_STATUS.RATE2X, 8 bits (Table 7.10); 07_dram.md; reset 0 -/
  rate2x : List Nat
  /-- throttled channels: DRC_STATUS.THROTTLED, 4 bits (Table 7.10); 07_dram.md; reset 0 -/
  throttled : List Nat
  /-- channels in full retrain: DRC_STATUS.RETRAINING, 4 bits (Table 7.10); 07_dram.md; reset 0 -/
  retraining : List Nat
  /-- DRC_PARTITION.LEAF, 10 bits, units of 256 MiB (Table 7.11); 07_dram.md; reset 0 -/
  leaf : Nat
  /-- DRC_PARTITION.DIRECTORY in GiB, 6 bits (Table 7.11); 07_dram.md; reset 0 -/
  directory : Nat
  /-- working buffers in MiB, with the slack (Table 7.3); 07_dram.md; reset 0 -/
  working : Nat
  /-- marked device + 1 by 4 × channel + 2 × sub-channel + rank: DRC_MARK0 to 3 (Table 7.13); 07_dram.md; reset: from PJM, none on blank PJM -/
  marks : SMap Nat
  /-- when lines with every error in one device were corrected within the last 1 s, lifetime in ms, newest first, by 10 × (4 × channel + 2 × sub-channel + rank) + device (R191); 07_dram.md; reset: none -/
  corrections : SMap (List Nat)
  /-- DRC_REFRESH.CROSSINGS, 16 bits, saturates (Table 7.14); 07_dram.md; reset 0 -/
  crossings : Nat
  /-- DRC_REFRESH.MAX_OWED_2X, 16 bits (Table 7.14); 07_dram.md; reset 0 -/
  maxOwed : Nat
  /-- postponed refreshes owed by rank 2c + n (R197); 07_dram.md; reset: none -/
  owed : SMap Nat
  /-- refreshes issued by rank since power-on, the model's own count (R197); reset: none -/
  issued : SMap Nat
  /-- consecutive MR4 reads that called for 1× while at 2×, by rank (R198); 07_dram.md; reset: none -/
  calls1x : SMap Nat
  /-- last MR4 refresh-rate field by rank 2c + n, 4 bits each: DRC_TEMP (Table 7.15); 07_dram.md; reset 0 -/
  temp : SMap Nat
  /-- the per-channel 32-bit neighbour-refresh generators (R200); 07_dram.md; reset 0 (DESIGN CHOICE, log entry 5) -/
  gen : SMap Nat
  /-- write DQ delay adjustments made, by rank (R202); 07_dram.md; reset: none -/
  retracks : SMap Nat
  /-- sub-channels 0 to 7, numbered 2 × channel + sub-channel (R194); 07_dram.md; reset: empty queues, closed rows -/
  subs : SMap SubChannel
  /-- DRC_CORRECTED, 32 bits, saturates (Table 7.15); 07_dram.md; reset 0 -/
  corrected : Nat
  /-- DRC_UNCORRECTABLE, 32 bits, saturates (Table 7.15); 07_dram.md; reset 0 -/
  uncorrectable : Nat
  /-- DRC_INORDER, 32 bits, wraps (Table 7.15); 07_dram.md; reset 0 -/
  inorder : Nat
  /-- DRC_NR_COUNT, 32 bits, wraps (Table 7.15); 07_dram.md; reset 0 -/
  nrCount : Nat
  /-- DRC_SCRUB_PASSES, 32 bits, wraps (Table 7.15); 07_dram.md; reset 0 -/
  scrubPasses : Nat
  /-- next line the scrub reads (R193); 07_dram.md; reset 0 -/
  scrubLine : Nat
  /-- the profile asks for neighbour refresh of rows r ± 2 (R200, R458); 07_dram.md; reset false -/
  nrFar : Bool
  /-- RFM thresholds RAAIMT and RAAMMT of the profile, 16 bits each, 0 without RFM (R197, R458); 07_dram.md; reset 0 (DESIGN CHOICE: before the first BOOT, log entry 5) -/
  raaImt : Nat
  raaMmt : Nat
  /-- the profile's row scramble ROW_XOR, 32 bits (R200, R458); 07_dram.md; reset 0 (DESIGN CHOICE: before the first BOOT, log entry 5) -/
  rowXor : Nat
  /-- refresh management commands issued, by 64 × sub-channel + bank (R197); 07_dram.md; reset: none -/
  rfms : SMap Nat
  /-- activates, newest first: (sub-channel, bank, row) (R200); 07_dram.md; reset: none -/
  acts : List (Nat × Nat × Nat)
  /-- bytes that requests have written, by line, outside the Arena (R194, R195); 07_dram.md; reset: none -/
  lines : SMap (List Byte)
  /-- what reads of requests returned, newest first: (line, bytes, poison) (R195); 07_dram.md; reset: none -/
  answers : List (Nat × List Byte × Bool)
  /-- lifetime in ms of each channel's last full training (R202); 07_dram.md; reset: none -/
  lastRetrain : SMap Nat
  /-- poisoned DRAM lines (R192); 07_dram.md; reset: none -/
  poisoned : List Nat
  deriving DecidableEq, Repr

/-- The 1-bit flags of `fl` (Table 9.3). -/
structure Flags where
  z : Bool := false
  n : Bool := false
  c : Bool := false
  v : Bool := false
  m : Bool := false
  deriving DecidableEq, Repr

/-- A core's architectural registers as an instance carries them (Tables 9.2, 9.3 and 8.7). -/
structure Regs where
  /-- g0 to g15 -/
  g : List Word
  pc : Nat
  fl : Flags
  bs : Nat
  be : Nat
  active : Bool
  /-- event enables [8:0] -/
  ev : Nat
  /-- the 64-bit cycle count cyh ‖ cyl (R231) -/
  cycles : Nat
  /-- the holding register that reads of cyh return (R231) -/
  cyHold : Nat
  deriving DecidableEq, Repr

/-- A block on a lane's work list or in its ring (R206 to R208, R267). -/
structure LaneBlock where
  vol : Nat
  lba : Nat
  zero : Bool
  recon : Bool
  unrec : Bool
  staging : Bool
  data : List Byte
  /-- acceptance sequence number of the write that staged it, for a block in staging -/
  seq : Nat := 0
  /-- the map entry it resolved to, while it is still to be read (R267) -/
  entry : Option MapEntry
  /-- the band its flash location lies in, pinned until it is read (R267, R148) -/
  band : Option Nat
  deriving DecidableEq, Repr

/-- An instance's lane position: its work list beyond the ring, its ring and its read position (R208, R266). -/
structure Lane where
  /-- resolved blocks not yet in the ring, in work-list order -/
  work : List LaneBlock
  /-- relative blocks of the run not yet resolved for this lane: the next and the end -/
  next : Nat
  stop : Nat
  /-- visible blocks from the read position on -/
  ring : List LaneBlock
  /-- bytes of the first visible block already passed -/
  used : Nat
  /-- byte offset of the read position in the ring window (Table 8.4) -/
  offset : Nat
  /-- ring memory written by the lane, by window offset -/
  mem : SMap Byte
  /-- blocks wholly passed (R275) -/
  passed : Nat
  deriving DecidableEq, Repr

/-- One core's engine ports: parameter latches, the request in flight and its results (Tables 9.18 to 9.21). -/
structure Ports where
  wmTable : Nat
  wmKey : List Word
  wmBusy : Bool
  /-- the 8-byte Waymark result -/
  wmResult : Nat
  dgAddr : Nat
  /-- the digest context held -/
  dgCtx : Option Nat
  dgBusy : Bool
  /-- bytes a running DG_FEED absorbs; none: a running DG_FINAL -/
  dgFeed : Option (List Byte)
  /-- data-space address of the bytes still to absorb -/
  dgFrom : Nat
  dgExhausted : Bool
  dgCleared : Bool
  dgDone : Bool
  dgNoMessage : Bool
  dgOut : List Byte
  cpMode : Nat
  cpSrc : Nat
  cpSrcLen : Nat
  cpDst : Nat
  cpDstCap : Nat
  cpBusy : Bool
  /-- the running request's mode, source bytes, destination and capacity -/
  cpReq : Option (Nat × List Byte × Nat × Nat)
  /-- data-space address of its source -/
  cpFrom : Nat
  cpResult : Nat
  cpOutLen : Nat
  dmaSrc : Nat
  dmaLen : Nat
  dmaDstLo : Nat
  dmaDstHi : Nat
  dmaBusy : Bool
  /-- the running transfer: destination offset and bytes -/
  dmaReq : Option (Nat × List Byte)
  /-- data-space address of its source -/
  dmaFrom : Nat
  dmaOffset : Nat
  dmaFull : Bool
  dmaError : Bool
  deriving DecidableEq, Repr

/-- Where an instance is (R212 to R215). -/
inductive InstState where
  | ready
  | dispatched (core : Nat)
  | saved
  | ended
  deriving DecidableEq, Repr

/-- A program instance (chapters 08 and 10). -/
structure Instance where
  /-- tag of its SCAN_RUN -/
  run : Nat
  /-- instance number j (R265) -/
  num : Nat
  cluster : Nat
  state : InstState
  regs : Regs
  /-- latched events (Table 8.9 bits 3 to 8) -/
  latched : Nat
  timer0 : Nat
  timer1 : Nat
  /-- inbound mailbox, at most 8 words (R222) -/
  inbox : List Word
  /-- outbound queue, at most 8 words (R222) -/
  outbox : List Word
  /-- local data memory that is not zero, by address -/
  localMem : SMap Byte
  lane : Lane
  ports : Ports
  /-- it was dispatched before: its context is restored and its ring discarded (R215) -/
  resumed : Bool
  /-- lifetime in ms at its last dispatch (R214) -/
  since : Nat := 0
  /-- the spill slot of its saved context (R217) -/
  spill : Option Nat := none
  /-- poisoned lines of local data memory and of the ring window, by data-space address / 64 (R22, R23) -/
  poison : List Nat := []
  deriving DecidableEq, Repr

/-- A core (Table 8.6). -/
structure Core where
  /-- state code 0 to 7 -/
  state : Nat
  /-- program slot and load whose image the core holds (R213) -/
  image : Option Nat
  /-- the instance dispatched: (run tag, number) -/
  inst : Option (Nat × Nat)
  /-- poisoned lines of program memory, of 32 words each (R21, R22) -/
  poison : List Nat := []
  deriving DecidableEq, Repr

/-- A SCAN_RUN's shared area on one cluster (R204, R264). -/
structure Area where
  run : Nat
  units : Nat
  mem : SMap Byte
  /-- poisoned lines, by offset / 64 (R22, R23) -/
  poison : List Nat := []
  deriving DecidableEq, Repr

/-- A Kite cluster (Tables 8.12 to 8.15). -/
structure Cluster where
  /-- KCL_STATUS.POWERED; 08_kite_clusters.md; reset 0 -/
  powered : Bool
  /-- KCL_STATUS.TEST; 08_kite_clusters.md; reset 0 -/
  test : Bool
  /-- KCL_STATUS.CFG_REJECT; 08_kite_clusters.md; reset 0 -/
  cfgReject : Bool
  /-- KCL_CFG.RING as written, 2 bits (Table 8.14); 08_kite_clusters.md; reset 1 -/
  ringCfg : Nat
  /-- the ring size code in force (R225); 08_kite_clusters.md; reset 1 -/
  ringNow : Nat
  /-- KCL_CFG.QUANTUM, 8 bits; 08_kite_clusters.md; reset 10 -/
  quantum : Nat
  /-- KCL_CFG.PREEMPT; 08_kite_clusters.md; reset 1 -/
  preempt : Bool
  /-- KCL_LANE_BYTES, 64 bits; 08_kite_clusters.md; reset 0 -/
  laneBytes : Nat
  /-- KCL_PREEMPTS.DONE, 24 bits, wraps; 08_kite_clusters.md; reset 0 -/
  preempts : Nat
  /-- KCL_PREEMPTS.SKIPPED, 8 bits, saturates; 08_kite_clusters.md; reset 0 -/
  skipped : Nat
  /-- KCL_FAULTS, 32 bits, saturates; 08_kite_clusters.md; reset 0 -/
  faults : Nat
  /-- KCL_LANE_FULL_US, 32 bits, wraps; 08_kite_clusters.md; reset 0 -/
  laneFullUs : Nat
  /-- KCL_STARVE_US, 32 bits, wraps; 08_kite_clusters.md; reset 0 -/
  starveUs : Nat
  /-- KCL_STAGING_BLOCKS, 32 bits, wraps; 08_kite_clusters.md; reset 0 -/
  stagingBlocks : Nat
  /-- KCL_RECON_BLOCKS, 32 bits, saturates; 08_kite_clusters.md; reset 0 -/
  reconBlocks : Nat
  /-- shared areas resident, at most 8; 08_kite_clusters.md; reset: none -/
  areas : List Area
  deriving DecidableEq, Repr

/-- A resident program (R259, R262). -/
structure Program where
  /-- tells this load from others of the slot (R213) -/
  load : Nat
  entry : Nat
  /-- SHARED_UNITS -/
  units : Nat
  /-- permission map, 128 bits (R223) -/
  perm : Nat
  code : List Nat
  data : List Byte
  /-- the PROGRAM_UNLOAD accepted for it (R262) -/
  unloading : Bool
  deriving DecidableEq, Repr

/-- A scan run (R264 to R275). -/
structure Run where
  tag : Nat
  seq : Nat
  vol : Nat
  first : Nat
  count : Nat
  slot : Nat
  /-- instances M (R265) -/
  m : Nat
  params : List Byte
  dlen : Nat
  /-- next free append offset (R270) -/
  nextFree : Nat
  /-- delivered extent (R271) -/
  extent : Nat
  /-- hub of each relative block assigned so far (R266) -/
  hubs : SMap Nat
  /-- blocks resolved when their hub was assigned, pinned until their lane takes them (R505, R267) -/
  found : SMap LaneBlock := []
  /-- LBAs of blocks delivered with RECON, and with UNRECOVERED, ascending (R273) -/
  recon : List Nat
  unrec : List Nat
  /-- clusters whose area is still to be placed (R264) -/
  unplaced : List Nat
  /-- instances have been created -/
  started : Bool
  /-- the first ending event's reply (R273) -/
  ending : Option Reply
  deriving DecidableEq, Repr

/-- All Kite state. -/
structure Kite where
  /-- clusters KC0 to KC7 (R203); 08_kite_clusters.md; reset: Table 8.12 to 8.15 -/
  clusters : List Cluster
  /-- cores 0 to 63, numbered 8 × cluster + core (R203, R212); 08_kite_clusters.md; reset: state 7 OFF -/
  cores : List Core
  /-- instances in creation order (chapter 08); 08_kite_clusters.md; reset: none -/
  insts : List Instance
  /-- instances waiting for a core, in the order in which they became ready: (run, number) (R214); 08_kite_clusters.md; reset: none -/
  readyQ : List (Nat × Nat)
  /-- mailbox words on their way through Dwear: (run, sender, destination, word) (R269); 10_scan_programs.md; reset: none -/
  mail : List (Nat × Nat × Nat × Word)
  /-- resident programs by slot, 0 to 255 (R262); 10_scan_programs.md; reset: every slot empty -/
  programs : SMap Program
  /-- counter that tells program loads apart, the model's own; reset 0 -/
  nextLoad : Nat
  /-- scan runs in acceptance order (R264); 10_scan_programs.md; reset: none -/
  runs : List Run
  /-- spill slots per hub, KCL_SPILL.USED + FREE (R217, Table 8.16); 08_kite_clusters.md; reset 0 before BOOT -/
  spillSlots : Nat
  deriving DecidableEq, Repr

end Sys2Proof.Machine
end

