-- ==== Sys2Proof/Machine/StateSys.lean ====
section
/-! DEFINITION. The state of the power-state machine and the filtered inputs (chapter 16), of the fault collector
(chapter 17), of start-up, firmware and the Footpath port (chapter 19) and of the pins and the TAP (chapter 20). -/

namespace Sys2Proof.Machine

/-- An outcome record of log 0x03 (Table 16.7). -/
structure PowerRecord where
  time : Nat
  target : Nat
  outcome : Nat
  refuser : Nat
  source : Nat
  deriving DecidableEq, Repr

/-- A POWER_SET that waits or runs: its tag (none for an automatic entry) and target (R396, R402). -/
structure PowerReq where
  tag : Option Nat
  target : Nat
  /-- source code of log 0x03: 0 automatic, 1 host, 2 Footpath -/
  source : Nat
  deriving DecidableEq, Repr

/-- A transition in progress (Table 16.2). -/
structure Transition where
  req : PowerReq
  /-- state it started from -/
  origin : Nat
  /-- phases of the entry already done -/
  phase : Nat
  /-- it is to reverse at its next safe point, with this refuser (R400, R401) -/
  abort : Option Nat
  /-- an exit phase of Table 16.2 (towards Run, or Ballast to Moored) -/
  exit : Bool
  deriving DecidableEq, Repr

/-- The PWR block. -/
structure Pwr where
  /-- PWR_STATUS.STATE, 2 bits (Table 16.8); 16_power_states.md; reset 0 Run -/
  state : Nat
  /-- the transition running: PWR_STATUS.IN_TRANSITION and TARGET (Table 16.8); 16_power_states.md; reset: none -/
  trans : Option Transition
  /-- a commanded entry that waits up to 10 ms for idleness (R396); 16_power_states.md; reset: none -/
  waitIdle : Option PowerReq
  /-- GLB_LIFETIME at which that wait began (R396); 16_power_states.md; reset 0 (DESIGN CHOICE, log entry 9) -/
  waitFrom : Nat
  /-- the queued POWER_SET: PWR_STATUS.QUEUED and QUEUED_TARGET (Table 16.8, R402); 16_power_states.md; reset: none -/
  queued : Option PowerReq
  /-- PWR_STATUS.BALLAST_ARMED (Table 16.8, R396); 16_power_states.md; reset 0 -/
  armed : Bool
  /-- GLB_LIFETIME at the reply that armed Ballast (R396); 16_power_states.md; reset 0 (DESIGN CHOICE, log entry 9) -/
  armedAt : Nat
  /-- the link is in L1 or L2/L3 Ready: 0 L0, 1 L1, 2 L2 (R394, R396); 16_power_states.md; reset 0 -/
  linkPm : Nat
  /-- PWR_STATUS.REG_LOWPOWER (Table 16.8, R403); 16_power_states.md; reset 0 -/
  lowPower : Bool
  /-- PWR_STATUS.WAKE_DRIVEN (Table 16.8, R399); 16_power_states.md; reset 0 -/
  wakeDriven : Bool
  /-- PWR_STATUS.EXIT_PENDING (Table 16.8, R399); 16_power_states.md; reset 0 -/
  exitPending : Bool
  /-- a Ballast exit by PERST# is under way and waits for the deassertion (R399); 16_power_states.md; reset false -/
  exitPerst : Bool
  /-- PWR_EVENTS.BROWNOUT (Table 16.9); 16_power_states.md; reset 0 -/
  evBrownout : Bool
  /-- PWR_EVENTS.WAKE_STUCK (Table 16.9); 16_power_states.md; reset 0 -/
  evWakeStuck : Bool
  /-- PWR_EVENTS.HOLDUP_SENSE (Table 16.9); 16_power_states.md; reset: from PJM, 0 on blank PJM -/
  evHoldup : Bool
  /-- PWR_EVENTS.ARM_EXPIRED (Table 16.9); 16_power_states.md; reset 0 -/
  evArmExpired : Bool
  /-- PWR_EVENTS.PATROL_MISSED (Table 16.9); 16_power_states.md; reset 0 -/
  evPatrolMissed : Bool
  /-- PWR_INPUTS.PWR_FAIL_N (Table 16.10); 16_power_states.md; reset 1 -/
  pwrFailN : Bool
  /-- PWR_INPUTS.PERST_N (Table 16.10); 16_power_states.md; reset 1 -/
  perstN : Bool
  /-- PWR_INPUTS.WAKE_N (Table 16.10); 16_power_states.md; reset 1 -/
  wakeN : Bool
  /-- PWR_INPUTS.FP_RDY_IN (Table 16.10); 16_power_states.md; reset 0 -/
  fpRdyIn : Bool
  /-- PWR_INPUTS.RAILS_GOOD (Table 16.10); 16_power_states.md; reset 0 -/
  railsGood : Bool
  /-- GLB_LIFETIME at which WAKE_N was last seen to go low (R406); 16_power_states.md; reset 0 (DESIGN CHOICE, log entry 9) -/
  wakeAt : Nat
  /-- GLB_LIFETIME from which an asserted PWR_FAIL_N is counted: its assertion, or the end of its dump (R407); 16_power_states.md;
  reset 0 (DESIGN CHOICE, log entry 9) -/
  failFrom : Nat
  /-- WAKE_N is no wake source until seen high (R406); 16_power_states.md; reset false -/
  wakeIgnored : Bool
  /-- PWR_FAIL_N is ignored until seen deasserted (R407); 16_power_states.md; reset false -/
  pwrFailIgnored : Bool
  /-- a hold-up sense found stuck in Ballast, recorded in AON (R407); 16_power_states.md; reset false -/
  holdupNoted : Bool
  /-- PWR_GLITCH_PWRFAIL, 32 bits, saturates (Table 16.11); 16_power_states.md; reset 0 -/
  glitchPwrFail : Nat
  /-- PWR_GLITCH_PERST, 32 bits, saturates (Table 16.11); 16_power_states.md; reset 0 -/
  glitchPerst : Nat
  /-- PWR_GLITCH_WAKE, 32 bits, saturates (Table 16.11); 16_power_states.md; reset 0 -/
  glitchWake : Nat
  /-- PWR_GLITCH_FP, 32 bits, saturates (Table 16.11); 16_power_states.md; reset 0 -/
  glitchFp : Nat
  /-- PWR_ENTERED0 to 2, 32 bits, wrap, by target index (Table 16.11); 16_power_states.md; reset 0 -/
  entered : SMap Nat
  /-- PWR_REFUSED0 to 2, 32 bits, saturate (Table 16.11); 16_power_states.md; reset 0 -/
  refused : SMap Nat
  /-- PWR_ABORTED0 to 2, 32 bits, saturate (Table 16.11); 16_power_states.md; reset 0 -/
  aborted : SMap Nat
  /-- PWR_BROWNOUTS, 32 bits, saturates (Table 16.11); 16_power_states.md; reset 0 -/
  brownouts : Nat
  /-- PWR_REFUSER_t_r, 32 bits, saturate, by 8t + r (Table 16.11); 16_power_states.md; reset 0 -/
  refusers : SMap Nat
  /-- log 0x03's counts since manufacture, by 8t + r (Table 16.7); 16_power_states.md; reset 0 on blank PJM -/
  lifeRefusers : SMap Nat
  /-- log 0x03's entries completed since manufacture, by target (Table 16.7); 16_power_states.md; reset 0 on blank PJM -/
  lifeEntered : SMap Nat
  /-- log 0x03's brown-outs since manufacture (Table 16.7); 16_power_states.md; reset 0 on blank PJM -/
  lifeBrownouts : Nat
  /-- log 0x03's outcome records, newest first (Table 16.7); 16_power_states.md; reset: none -/
  records : List PowerRecord
  /-- outcome records written since manufacture (Table 16.7); 16_power_states.md; reset 0 -/
  recordCount : Nat
  /-- ms of continuous idleness (R395); 16_power_states.md; reset 0 -/
  idleMs : Nat
  /-- the idle time at the last refusal of an automatic entry to Glide and to Moored, from which the next attempt's is measured (R395);
  16_power_states.md; reset 0 -/
  glideFrom : Nat
  mooredFrom : Nat
  /-- islands clock-gated (R390, R392); 16_power_states.md; reset: none -/
  gated : List Nat
  /-- islands whose SRAM banks are on retention (R391); 16_power_states.md; reset: none -/
  retained : List Nat
  deriving DecidableEq, Repr

/-- A fault waiting in the collector's queue (R426). -/
structure PendingFault where
  src : Nat
  /-- the level the owning chapter names for this occurrence, when it names one (R416) -/
  level : Option Nat
  /-- the sticky bit was clear before it (R427) -/
  fresh : Bool
  /-- its owner asks for EVENT_FAULT (R427) -/
  asks : Bool
  /-- the source's count after it -/
  count : Nat
  deriving DecidableEq, Repr

/-- A history record (Table 17.5). -/
structure FaultRecord where
  time : Nat
  src : Nat
  cls : Nat
  level : Nat
  configured : Nat
  flags : Nat
  deriving DecidableEq, Repr

/-- The FLT block, in AON. -/
structure Flt where
  /-- FLT_STATUS.HALTED (Table 17.8, R425); 17_fault_collector.md; reset 0 -/
  halted : Bool
  /-- FLT_STATUS.CFG_REJECT (Table 17.8); 17_fault_collector.md; reset 0 -/
  cfgReject : Bool
  /-- FLT_STATUS.QUEUE_OVERFLOW (Table 17.8); 17_fault_collector.md; reset 0 -/
  queueOverflow : Bool
  /-- unacknowledged classes with the level held: FLT_STATUS.UNACK and LEVEL (Table 17.8, R417); 17_fault_collector.md; reset: none -/
  unack : SMap Nat
  /-- FLT_QUIET.PERIOD, 13 bits, in force (Table 17.10, R420); 17_fault_collector.md; reset 100 -/
  period : Nat
  /-- the quiet timer in ms, which FLT_QUIET.REMAIN shows in 13 bits and units of 100 ms (Table 17.10, R420); 17_fault_collector.md; reset 0 -/
  remain : Nat
  /-- FLT_SEL.SOURCE, 9 bits (Table 17.11); 17_fault_collector.md; reset 0 -/
  sel : Nat
  /-- configured reactions that differ from the default: FLT_SRC.REACTION (Table 17.12); 17_fault_collector.md; reset: none (DEFAULT) -/
  reaction : SMap Nat
  /-- FLT_CE_LIMIT.LIMIT, 16 bits (Table 17.13); 17_fault_collector.md; reset 4,096 -/
  ceLimit : Nat
  /-- FLT_LAST.DETAIL, 15 bits (Table 17.14); 17_fault_collector.md; reset 0 -/
  lastDetail : Nat
  /-- FLT_LAST.SHADOWED (Table 17.14); 17_fault_collector.md; reset 0 -/
  lastShadowed : Bool
  /-- FLT_RECOVERY_COUNT, 32 bits, saturates (Table 17.15); 17_fault_collector.md; reset 0 -/
  recoveries : Nat
  /-- source counts, 32 bits, saturate: FLT_SRC_COUNT (Table 17.15, R413); 17_fault_collector.md; reset 0 -/
  counts : SMap Nat
  /-- FLT_SHADOWED, 32 bits, saturates (Table 17.15); 17_fault_collector.md; reset 0 -/
  shadowed : Nat
  /-- FLT_QUEUE_DROPS, 32 bits, saturates (Table 17.15); 17_fault_collector.md; reset 0 -/
  queueDrops : Nat
  /-- FLT_ESCALATIONS, 32 bits, saturates (Table 17.15); 17_fault_collector.md; reset 0 -/
  escalations : Nat
  /-- FLT_REACTIONS0 to 4, 32 bits, saturate (Table 17.15); 17_fault_collector.md; reset 0 -/
  reactions : SMap Nat
  /-- sources whose sticky bit is set: FLT_STICKY0 to 15 (Table 17.15, R413); 17_fault_collector.md; reset: none -/
  sticky : List Nat
  /-- the collector's queue, at most 64 (R426); 17_fault_collector.md; reset: empty -/
  queue : List PendingFault
  /-- faults their detectors hold while the queue is full (R426); 17_fault_collector.md; reset: none -/
  held : List PendingFault
  /-- times of the corrections within the last second by island (R414); 17_fault_collector.md; reset: none -/
  corrections : SMap (List Nat)
  /-- when the limit was last passed, by island (R414); 17_fault_collector.md; reset: none -/
  storms : SMap Nat
  /-- islands in a Contain reset (R422); 17_fault_collector.md; reset: none -/
  containing : List Nat
  /-- islands ready again and still in their 50 µs shadow window (R421); 17_fault_collector.md; reset: none -/
  windows : List Nat
  /-- a Failover runs and shadows every detector until READY (R421); 17_fault_collector.md; reset false -/
  failover : Bool
  /-- the EVENT_FAULT a Failover posts once ring 0 is enabled (R424); 17_fault_collector.md; reset: none -/
  failoverEvent : Option FaultRecord
  /-- READY has been set since the last device reset (R419); 17_fault_collector.md; reset false -/
  readySeen : Bool
  /-- history records, newest first, at most 4,096 (R428); 17_fault_collector.md; reset: none -/
  history : List FaultRecord
  /-- records written since manufacture (Table 17.5); 17_fault_collector.md; reset 0 on blank PJM -/
  recordCount : Nat
  /-- Halts since manufacture (Table 17.5); 17_fault_collector.md; reset 0 on blank PJM -/
  halts : Nat
  /-- Failovers since manufacture (Table 17.5); 17_fault_collector.md; reset 0 on blank PJM -/
  failovers : Nat
  /-- FAULT_N driven low (R425); 17_fault_collector.md; reset false -/
  faultN : Bool
  deriving DecidableEq, Repr

/-- A firmware image and configuration block in a NOR slot or in the staging buffer, as the checks of R455 read
them: bytes from slot offset 0, unlisted bytes reading 0xFF. -/
abbrev SlotBytes := SMap Byte

/-- A NOR slot (Tables 19.3 and 19.7). -/
structure NorSlot where
  bytes : SlotBytes
  /-- PRIMARY_STATE coding of Table 19.7 -/
  state : Nat
  version : Nat
  digest : List Byte
  deriving DecidableEq, Repr

/-- The Footpath packets the device sends (Table 19.9). -/
inductive FpPacket where
  /-- a reply, with the tag that is freed once it is sent (R67) -/
  | reply (tag : Option Nat) (bytes : List Byte)
  | data (last : Bool) (seq : Nat) (bytes : List Byte)
  | nak (reason expect : Nat)
  | baud (n : Nat)
  deriving DecidableEq, Repr

/-- The GLB block, the boot state and the Footpath port. -/
structure Glb where
  /-- GLB_STATUS.READY (Table 19.14, R461); 19_startup_footpath.md; reset 0 -/
  ready : Bool
  /-- GLB_STATUS.ROM_RECOVERY (Table 19.14, R460); 19_startup_footpath.md; reset 0 -/
  romRecovery : Bool
  /-- GLB_STATUS.SERVICE_START (Table 19.14, R475); 19_startup_footpath.md; reset 0 -/
  serviceStart : Bool
  /-- GLB_STATUS.BOOTED_GOLDEN (Table 19.14); 19_startup_footpath.md; reset 0 -/
  bootedGolden : Bool
  /-- GLB_STATUS.ACTIVATE_PENDING (Table 19.14, R465); 19_startup_footpath.md; reset 0 -/
  activatePending : Bool
  /-- GLB_STATUS.LAST_RESET, 3 bits (Table 19.14); 19_startup_footpath.md; reset: from AON, 0 at power-on -/
  lastReset : Nat
  /-- GLB_CTRL.FP_LOCK (Table 19.15, R474); 19_startup_footpath.md; reset 0 -/
  fpLock : Bool
  /-- GLB_FW_VERSION, 32 bits (Table 19.17); 19_startup_footpath.md; reset: from image, 0 before the first boot (DESIGN CHOICE, log entry 6) -/
  fwVersion : Nat
  /-- GLB_START_MS, 16 bits (Table 19.17); 19_startup_footpath.md; reset 0 -/
  startMs : Nat
  /-- GLB_LIFETIME, 64 bits (Table 19.17); 19_startup_footpath.md; reset: from AON, 0 on a new device (DESIGN CHOICE, log entry 6) -/
  lifetime : Nat
  /-- the power-on reset is released, the rails in regulation and XTAL running (R451, R486); 19_startup_footpath.md; reset true -/
  poweredOn : Bool
  /-- the boot has not yet reached READY, ROM recovery or a stop since the last device reset (R453); 19_startup_footpath.md; reset true -/
  booting : Bool
  /-- slot excluded by a second-hash mismatch since the device reset: 0 none, 1 primary, 2 golden (R454); 19_startup_footpath.md; reset 0 -/
  excluded : Nat
  /-- a device reset waits for its dump or for PERST# (R452); 19_startup_footpath.md; reset false -/
  resetPending : Bool
  /-- configuration space answers (R462); 19_startup_footpath.md; reset false -/
  configReady : Bool
  /-- the primary and golden NOR slots (Table 19.3); 19_startup_footpath.md; reset: erased slots, state 4 (DESIGN CHOICE, log entry 6) -/
  primary : NorSlot
  golden : NorSlot
  /-- the staging buffer and its target, 0 primary, 1 golden (R463); 19_startup_footpath.md; reset: empty -/
  staged : SlotBytes
  stagedTarget : Option Nat
  /-- 64 KiB sectors erased by this ROM-recovery or service download (R460); 19_startup_footpath.md; reset: none -/
  erasedSectors : List Nat
  /-- what FW_ACTIVATE is programming into its target slot (R464); 19_startup_footpath.md; reset: none -/
  programming : Option SlotBytes
  /-- an activation reset waits 1 ms after its reply: the tag whose reply it follows (R465); 19_startup_footpath.md; reset: none -/
  activation : Option Nat
  /-- activations since manufacture (Table 19.7); 19_startup_footpath.md; reset 0 -/
  activations : Nat
  /-- golden boots since manufacture (Table 19.7); 19_startup_footpath.md; reset 0 -/
  goldenBoots : Nat
  /-- lifetime in ms of the last activation (Table 19.7); 19_startup_footpath.md; reset 0 -/
  lastActivation : Nat
  /-- fuses: the signing-key digest (R455); 19_startup_footpath.md; reset: zero bytes (DESIGN CHOICE, log entry 6) -/
  keyDigest : List Byte
  /-- the running image's slot was reprogrammed since boot (R466); 19_startup_footpath.md; reset false -/
  imageReplaced : Bool
  /-- subsystem vendor and device IDs (R32, Table 19.18); 02_cxl_attach.md; reset 0x1F7D, 0x0000 -/
  subsysVendor : Nat
  subsysId : Nat
  /-- the IDENTIFY firmware version text, 16 bytes (Table 19.4); 19_startup_footpath.md; reset: zeros -/
  versionText : List Byte
  /-- GLB_FP_STATUS.BAUD_N, 5 bits (Table 19.16); 19_startup_footpath.md; reset 25 -/
  baudN : Nat
  /-- GLB_FP_STATUS.ACTIVE (Table 19.16); 19_startup_footpath.md; reset 0 -/
  fpActive : Bool
  /-- GLB_LIFETIME at the last Footpath packet, from which ACTIVE holds for 1 s (Table 19.16); 19_startup_footpath.md; reset 0 (DESIGN CHOICE, log entry 9) -/
  fpAt : Nat
  /-- the COMMAND in the device's packet buffer that the intake has not taken yet (R470); 19_startup_footpath.md; reset: none -/
  fpHeld : Option Packet
  /-- packets waiting for FP_RDY_IN, oldest first (R470, R472); 19_startup_footpath.md; reset: none -/
  fpOut : List FpPacket
  /-- packets sent, newest first (R470); 19_startup_footpath.md; reset: none -/
  fpSent : List FpPacket
  /-- NAKs received in succession for the last packet sent (R471); 19_startup_footpath.md; reset 0 -/
  fpNaks : Nat
  /-- GLB_FP_COMMANDS, 32 bits, wraps (Table 19.17); 19_startup_footpath.md; reset 0 -/
  fpCommands : Nat
  /-- GLB_FP_NAKS_SENT, 32 bits, saturates (Table 19.17); 19_startup_footpath.md; reset 0 -/
  fpNaksSent : Nat
  /-- GLB_FP_NAKS_RECEIVED, 32 bits, saturates (Table 19.17); 19_startup_footpath.md; reset 0 -/
  fpNaksReceived : Nat
  /-- GLB_FP_DROPPED, 32 bits, saturates (Table 19.17); 19_startup_footpath.md; reset 0 -/
  fpDropped : Nat
  /-- FP_RXD is held low (R468, R475); 19_startup_footpath.md; reset false -/
  fpRxdLow : Bool
  /-- features in force by ID, where they differ from Table 4.9's defaults (R101); 04_command_packets.md; reset: none -/
  features : SMap Nat
  /-- TAP instruction register, 6 bits (R497); 20_pins_electrical.md; reset 0x02 IDCODE -/
  tapIr : Nat
  /-- the TAP controls the pins: EXTEST, CLAMP or HIGHZ in force while PERST# is asserted (R497); 20_pins_electrical.md; reset false -/
  tapPins : Bool
  /-- junction temperature last read, °C (R496); 20_pins_electrical.md; reset 25 (DESIGN CHOICE, log entry 6) -/
  junction : Int
  deriving DecidableEq, Repr

end Sys2Proof.Machine
end

