-- ==== Sys2Proof/Machine/State.lean ====
section
/-! DEFINITION. The state of the device, the reasons a command can stop, and the state after a power-on reset. -/

namespace Sys2Proof.Machine

open Sys2Proof

/-- The whole device. -/
structure State where
  /-- power states and filtered inputs (chapter 16) -/
  pwr : Pwr
  /-- fault collector (chapter 17) -/
  flt : Flt
  /-- start-up, firmware, Footpath, pins (chapters 19 and 20) -/
  glb : Glb
  /-- host attachment (chapter 02) -/
  hst : Hst
  /-- slots, tags, locks, rings (chapter 03) -/
  tsk : Tsk
  /-- media map, flash, PJM (chapters 05 and 06) -/
  med : Med
  /-- DRAM controllers (chapter 07) -/
  drc : Drc
  /-- Kite clusters and programs (chapters 08 to 10) -/
  kite : Kite
  /-- Waymark (chapter 11) -/
  way : Way
  /-- compression engine (chapter 12) -/
  cmp : Cmp
  /-- digests, keys, milestones (chapter 13) -/
  sec : Sec
  /-- margins and tests (chapter 18) -/
  hlt : Hlt
  /-- Tether link and twin pair (chapter 14) -/
  pair : Pair
  /-- Trail mesh and stripe groups (chapter 15) -/
  mesh : Mesh
  /-- host memory as the device has written it: (address, byte), addresses rising, an unlisted byte is one the
  device has not written (R38, R502) -/
  hostMem : List Host.Cell
  /-- Result Arena bytes by device address, rising, no zero byte listed (R40); 02_cxl_attach.md; reset: zero
  (DESIGN CHOICE, log entry 11) -/
  arena : List Host.Cell
  /-- the model's own counter: which free value the next open value is (log entry 12); reset 0 (DESIGN CHOICE) -/
  free : Nat
  /-- commands waiting, first in first out; reset: empty -/
  pending : List Instr
  deriving DecidableEq, Repr

/-- Faults a step can stop with: none. Every command of the table either has the effect the manual gives it or cannot
occur in the state at hand, which then stays as it is (log entry 13). -/
inductive Fault where
  deriving DecidableEq, Repr

/-- Refusals a step can stop with. -/
inductive Refusal where
  /-- raised by `exec`'s arm of a command that has no meaning yet; safe: the machine stops -/
  | notModelled (mnemonic : String)
  deriving DecidableEq, Repr

/-- Ring 0 as reset leaves it (R57, R70, Tables 3.14 to 3.16). -/
def Ring.zero : Ring :=
  { base := 0, sizeLog2 := 6, vector := 0, count := 1, time := 0, head := 0, headWrap := false, tail := 0,
    tailWrap := false, fullSeen := false, intMask := false, headErr := false, unsignalled := 0, noticed := false,
    waiting := [] }

/-- The TSK block after a device reset. -/
def Tsk.reset : Tsk :=
  { queues := [], held := [], ops := [], nextSeq := 1, failedWrites := [], freshTag := 0, freedTags := [], peak := 0,
    rings := [(0, Ring.zero)], ring0En := false, overrun := [], events := [], locks := [], heldSel := 0, accepted := 0,
    overruns := 0, overrunLastQ := 0, overrunUnreplied := 0, noqueueDropped := 0, crcDropped := 0, fwdHits := 0,
    fwdFallbacks := 0, eventsLost := 0 }

/-- An HDM decoder that is not committed. -/
def HdmDecoder.reset : HdmDecoder :=
  { base := 0, size := 0, ways := 1, gran := 256, pos := 0, committed := false, error := false }

/-- The HST block after a device reset. -/
def Hst.reset : Hst :=
  { speed := 0, width := 0, mode := 0, laneReversed := false, ideIo := false, ideCm := false, ioHeld := false,
    cmHeld := false, evSpeed := false, evWidth := false, evIdeIo := false, evIdeCm := false, evFlr := false,
    arenaCur := 0, flipStart := 0, flipCount := 0, flipToDevice := false, flipBusy := false, flipDone := false,
    flipRefused := false, deviceBias := [], biasConflicts := 0, bar2Dropped := 0, gpfCount := 0, hostLines := 0,
    hdm0 := HdmDecoder.reset, hdm1 := HdmDecoder.reset, ras := [], rasFirst := none, rasMask := List.range 6, rasFatal := [0, 1, 2, 3],
    d3hot := false, aer := [], bus := [], viralEn := false, viral := false, memAnswers := [],
    msixEn := false,
    msixFmask := false, msixTable := [], msixPending := [], msixSent := [], session := 0, doe := [] }

/-- The progress record of blank PJM. -/
def Progress.none : Progress :=
  { state := 0, mode := 0, keyStep := false, failed := false, pattern := 0, vol := 0, total := 0, done := 0,
    wseqMark := 0, units := [] }

/-- The media state of a new device before its first start. -/
def Med.reset : Med :=
  { channels := 0, luns := 0, planes := 0, blockMib := 0, rawBytes := 0, cfgReject := false, profileRefused := false,
    gcActive := false, gcStart := 30, gcUrgent := 10, stripeAware := true, sealMs := 50, leafHits := 0,
    leafMisses := 0, gcDiscards := 0, epochMismatch := 0, bandsRetired := 0, volumes := [], nextGen := 0,
    leafCache := [], leafFetch := [], leafCap := 0, staging := [], bands := [], deadlines := [], flash := [], chans := [], wseq := 1,
    wseqCeil := 0, ring := [], jstart := 0, jbuf := [], root0 := none, root1 := none, partnerRing := [],
    partnerStart := 0, partnerRoot0 := none, partnerRoot1 := none, spills := [], ckpt := none, recSince := false, ckptAt := 0, pieceDirty := [], gcCredit := 0,
    pjmInit := false, pjmBad := false, dumps := [], dumpBlocks := [], dumpActive := false, dumpHeld := false, dumpArea := 0,
    dumpWarm := false, dumpLost := false, dumpUs := 0, dumpThen := 0, journalStalls := 0, relocLevel := 2,
    bandLimit := 20, patrolPause := false, patrolReads := 0, relocations := 0, relocQueue := [], copies := [],
    victim := none, nextVictims := [], spareState := 0, holdupRo := false, progress := Progress.none, formats := [],
    absorbed := [], blocksRetired := 0, lifePatrol := 0, lifeReloc := 0, lifeRecon := 0, lifeDumps := 0,
    lifeLost := 0, lifeCkpts := 0, mapKey := 0, dumpKey := 0 }

/-- The DRAM controllers after a device reset. -/
def Drc.reset : Drc :=
  { rate := 0, x4 := false, twoRanks := false, density := 0, capacity := 0, trained := false, clamped := false,
    rate2x := [], throttled := [], retraining := [], leaf := 0, directory := 0, working := 0, marks := [],
    corrections := [], crossings := 0, maxOwed := 0, owed := [], issued := [], calls1x := [], temp := [], gen := [],
    retracks := [], subs := [], corrected := 0, uncorrectable := 0, inorder := 0, nrCount := 0, scrubPasses := 0,
    scrubLine := 0, nrFar := false, raaImt := 0, raaMmt := 0, rowXor := 0, rfms := [], acts := [], lines := [], answers := [],
    lastRetrain := [], poisoned := [] }

/-- A cluster after a device reset (Tables 8.12 to 8.15). -/
def Cluster.reset : Cluster :=
  { powered := false, test := false, cfgReject := false, ringCfg := 1, ringNow := 1, quantum := 10, preempt := true,
    laneBytes := 0, preempts := 0, skipped := 0, faults := 0, laneFullUs := 0, starveUs := 0, stagingBlocks := 0,
    reconBlocks := 0, areas := [] }

/-- The Kite state after a device reset: every core OFF. -/
def Kite.reset : Kite :=
  { clusters := List.replicate 8 Cluster.reset, cores := List.replicate 64 { state := 7, image := none, inst := none },
    insts := [], readyQ := [], mail := [], programs := [], nextLoad := 0, runs := [], spillSlots := 0 }

/-- A Waymark table after a device reset (Table 11.5). -/
def WTable.reset : WTable :=
  { firstBank := 0, width := 0, copies := 1, en := false, ready := false, clearing := false }

/-- Waymark after a device reset. -/
def Way.reset : Way :=
  { tables := List.replicate 8 WTable.reset, array := [], shadow := [], cfgReject := false, lost := false,
    queue := [], sweepAt := 0, searches := 0, hits := 0, multi := 0, unitWrites := 0,
    sweepPasses := 0, sweepRepairs := 0, verifyRepairs := 0, lostEntries := 0, forcedSlots := 0 }

/-- The compression engine after a device reset. -/
def Cmp.reset : Cmp :=
  { verifyFail := false, comp := [], decomp := [], waiting := [], gains := [], lastComp := 2, lastDecomp := 2, inBytes := 0,
    outBytes := 0, decBytes := 0, noGain := 0, verifyMismatch := 0, formatErrors := 0, inlineC := 0, inlineU := 0,
    inflateFail := 0 }

/-- The security state of a new device. -/
def Sec.reset : Sec :=
  { approved := false, errorState := false, powerupDone := false, footpathUsed := false,
    roleOut := false, selftestFailed := 0, ageH := 0, testedAt := 0, alarm := 0, idleS := 60, dgPeak := 0, contexts := [], dgTurn := 0, keyHits := 0,
    keyMisses := 0, zeroises := 0, alarms := 0, dgTimeouts := 0, exhausted := 0, milestones := [], msCount := [],
    hmacKeys := [], keyLog := [], keyCache := [], nextKey := 1, rootGen := 0, keyGen := 0, drbgSeeded := false, links := [] }

/-- An island's margins on a new device: full clock at the highest target, nothing measured (log entry 8). -/
def IslandMargin.reset : IslandMargin :=
  { vTarget := 850, vNow := 850, cap := 32, now := 32, slack := 0, degradation := 0, temperature := 250,
    coverAge := 0, coveredAt := 0, measuredAt := 0, actedAt := 0, failed := false, bankLost := false, actions := [], outstanding := 0, thermal := 0, vFloor := 650,
    life := 0, clamped := false }

/-- A plan that has measured nothing. -/
def PlanFound.none : PlanFound := { islands := [], bands := [], window := 0, measured := [] }

/-- The HLT block of a new device. -/
def Hlt.reset : Hlt :=
  { islands := List.replicate 45 IslandMargin.reset, vmin := 650, vmax := 850, floor := 85, slackTarget := 3, sel := 0,
    planRunning := false, latched := none, planTags := [], paused := false, slice := none, measuring := false, testRun := none,
    forced := false, forcedAt := 0, forcedIsland := 0, cfgReject := false, avsFault := false, avsTries := 0, thermalAt := 0,
    rail := 800, planNo := 0, life := 0, planStart := 0, coldDue := true,
    found := PlanFound.none, throttling := false, lastForced := 0, planLog := none, planOverrides := 0,
    overrides := 0, slicesDone := 0, slicesAborted := 0, forcedWindows := 0, retChecks := 0, retLost := 0,
    avsErrors := 0, offsets := [] }

/-- A link on which nothing has been sent or accepted. -/
def LinkLayer.reset : LinkLayer :=
  { txCount := 0, txAcked := 0, rxCount := 0, nak := false, replays := 0, sentOn := [], freed := [], rxFreed := [] }

/-- The pair state of a new device: SOLO. -/
def Pair.reset : Pair :=
  { state := 0, suspect := false, meshMirror := false, fostering := false, fenced := false, linkUp := false, rate := 0,
    width := 0, partner := 0, partnerNode := 0xFFFF, pairId := 0, witness := List.replicate 3 (0, false), events := 0,
    replays := 0, gcmFails := 0, linkResets := 0, badMessages := 0, mirrorWaits := 0, handbackLeft := 0,
    link := LinkLayer.reset, out := [], sent := [], rxPart := [], pairing := none, pub := [], helloIn := none, called := false, keyWaits := [], unpairing := none,
    draining := false, unpairSeen := false, unpairSent := false, mseq := 1, mseqCeil := 0, entriesOut := [], entriesIn := [],
    jConfirmed := 0, beats := 0, beating := false, heardAt := 0, upAt := 0, probes := 0, claim := none, claimNo := 0, records := [],
    takeovers := [], takeoverMark := 0, replaying := none, takeoverRoot := none, partnerDir := [], partnerMap := [], partnerDirReady := false, partnerDirLost := false, adopted := [],
    partnerReadOnly := false, reads := [], readData := [], nextReq := 0, held := false, handback := none, handed := [],
    pairings := 0, takeoverCount := 0, handbacks := 0, claimsLost := 0, lifeResets := 0, log := [], logCount := 0 }

/-- A Trail port that is disabled and down. -/
def Port.reset : Port :=
  { enabled := false, up := false, failed := false, neighbour := none, link := LinkLayer.reset, out := [], cycle := 0, lastIn := [],
    resets := [], sat := 0 }

/-- The mesh state of a new device. -/
def Mesh.reset : Mesh :=
  { node := 0, configured := false, xs := 0, ys := 0, zs := 0, wrap := 0, ports := List.replicate 6 Port.reset,
    cfgReject := false, partitioned := false, indexReady := false, rate := 4, slotSel := 0, groups := [], turn := 0,
    helloSeen := [], failedLinks := [], floods := [], floodSeq := 0, sent := [], stripes := [], own := [],
    cache := [], recons := [], lookups := [], locates := [], nextReq := 0, rebuild := none, rebuildDone := [], chains := [], replaced := [],
    accPeak := 0, stripesClosed := 0, zeroPositions := 0, gossipAt := 0, late := 0, abandoned := 0, reconDone := 0, reconServed := 0,
    replays := 0, linkResets := 0, gcmFails := 0, badPackets := 0, detoured := 0 }

/-- The power state after a device reset: Run, inputs inactive but the footpath ready line low (Table 16.10). -/
def Pwr.reset : Pwr :=
  { state := 0, trans := none, waitIdle := none, waitFrom := 0, queued := none, armed := false, armedAt := 0, linkPm := 0,
    lowPower := false, wakeAt := 0, failFrom := 0,
    wakeDriven := false, exitPending := false, exitPerst := false, evBrownout := false, evWakeStuck := false,
    evHoldup := false, evArmExpired := false, evPatrolMissed := false, pwrFailN := true, perstN := true, wakeN := true,
    fpRdyIn := false, railsGood := false, wakeIgnored := false, pwrFailIgnored := false, holdupNoted := false,
    glitchPwrFail := 0, glitchPerst := 0, glitchWake := 0, glitchFp := 0, entered := [], refused := [], aborted := [],
    brownouts := 0, refusers := [], lifeRefusers := [], lifeEntered := [], lifeBrownouts := 0, records := [],
    recordCount := 0, idleMs := 0, glideFrom := 0, mooredFrom := 0, gated := [], retained := [] }

/-- The fault collector of a new device. -/
def Flt.reset : Flt :=
  { halted := false, cfgReject := false, queueOverflow := false, unack := [], period := 100, remain := 0, sel := 0,
    reaction := [], ceLimit := 4096, lastDetail := 0, lastShadowed := false, recoveries := 0, counts := [],
    shadowed := 0, queueDrops := 0, escalations := 0, reactions := [], sticky := [], queue := [], held := [],
    corrections := [], storms := [], containing := [], windows := [], failover := false, failoverEvent := none,
    readySeen := false, history := [], recordCount := 0, halts := 0, failovers := 0, faultN := false }

/-- An erased NOR slot (Table 19.7, state 4). -/
def NorSlot.reset : NorSlot := { bytes := [], state := 4, version := 0, digest := List.replicate 48 0 }

/-- The GLB block of a new device at power-on. -/
def Glb.reset : Glb :=
  { ready := false, romRecovery := false, serviceStart := false, bootedGolden := false, activatePending := false,
    lastReset := 0, fpLock := false, fwVersion := 0, startMs := 0, lifetime := 0, poweredOn := true, booting := true,
    excluded := 0, resetPending := false, configReady := false, primary := NorSlot.reset, golden := NorSlot.reset,
    staged := [], stagedTarget := none, erasedSectors := [], programming := none, activation := none, activations := 0, goldenBoots := 0,
    lastActivation := 0, keyDigest := List.replicate 48 0, imageReplaced := false, subsysVendor := 0x1F7D,
    subsysId := 0, versionText := List.replicate 16 0, baudN := 25, fpActive := false, fpAt := 0, fpHeld := none,
    fpOut := [], fpSent := [], fpNaks := 0, fpCommands := 0, fpNaksSent := 0, fpNaksReceived := 0,
    fpDropped := 0, fpRxdLow := false, features := [], tapIr := 2, tapPins := false, junction := 25 }

/-- The machine right after a power-on reset, before BOOT (R451, R453): every field at the value its comment states. -/
def State.reset : State :=
  { pwr := Pwr.reset, flt := Flt.reset, glb := Glb.reset, hst := Hst.reset, tsk := Tsk.reset, med := Med.reset,
    drc := Drc.reset, kite := Kite.reset, way := Way.reset, cmp := Cmp.reset, sec := Sec.reset, hlt := Hlt.reset,
    pair := Pair.reset, mesh := Mesh.reset, hostMem := [], arena := [], free := 0, pending := [] }

end Sys2Proof.Machine
end

