-- ==== Sys2Proof/Machine/DramMap.lean ====
section
/-! DEFINITION. The DRAM partition of Table 7.3, and the lines that a range of Arena bytes touches (R185 to R187, R272). -/

namespace Sys2Proof.Machine

open Sys2Proof

/-! ### The partition (R185, R186) -/

/-- The regions of Table 7.3, in address order. -/
inductive DramRegion where
  | firmware
  | directory
  | staging
  | mirror
  | accumulation
  | shadow
  | working
  | spill
  | arena
  | leaf
  deriving DecidableEq, Repr

/-- MiB left for the leaf cache by an Arena of `a` units of 256 MiB on `c` GiB (Table 7.3). -/
def leafRemainder (c a : Nat) : Nat := 1024 * c - (3585 + 224 * c + 256 * a)

/-- The Arena in force: the pending size, or the largest that leaves 8 GiB to the leaf cache (R186). -/
def arenaFor (c pending : Nat) : Nat := min pending ((800 * c - 3585 - 8192) / 256)

/-- The leaf cache in units of 256 MiB: the remainder rounded down, at most 96 GiB (Table 7.3). -/
def leafUnits (c a : Nat) : Nat := min 384 (leafRemainder c a / 256)

/-- Working buffers in MiB, with the slack (Table 7.3). -/
def workingMib (c a : Nat) : Nat := 128 * c + (leafRemainder c a - 256 * leafUnits c a)

/-- The regions with their sizes in MiB (Table 7.3). -/
def partition (s : State) : List (DramRegion × Nat) :=
  let c := s.drc.capacity
  [ (.firmware, 2048), (.directory, 32 * c), (.staging, 512), (.mirror, 512), (.accumulation, 512), (.shadow, 1),
    (.working, s.drc.working), (.spill, 64 * c), (.arena, 256 * s.hst.arenaCur), (.leaf, 256 * s.drc.leaf) ]

/-- The region of a byte address among regions laid from an address on, with the offset in it. -/
def regionIn (l : List (DramRegion × Nat)) (a : Nat) : Option (DramRegion × Nat) :=
  match l with
  | [] => none
  | (r, n) :: rest => if a < n * 2 ^ 20 then some (r, a) else regionIn rest (a - n * 2 ^ 20)

/-- Byte address of a region's start. -/
def regionBase (l : List (DramRegion × Nat)) (r : DramRegion) : Nat :=
  match l with
  | [] => 0
  | (q, n) :: rest => if q = r then 0 else n * 2 ^ 20 + regionBase rest r

/-- DRAM line of an Arena address. -/
def arenaLine (s : State) (a : Nat) : Nat := (regionBase (partition s) .arena + a) / 64

/-! ### Ranges of lines (R23, R272) -/

/-- The partial lines of `n` bytes from an address on: (offset, count) within the bytes (R272). -/
def partialLines (a n : Nat) : List (Nat × Nat) :=
  let h := (64 - a % 64) % 64
  let t := (a + n) % 64
  if n = 0 then []
  else if a / 64 = (a + n - 1) / 64 then (if h = 0 ∧ t = 0 then [] else [(0, n)])
  else (if h = 0 then [] else [(0, h)]) ++ (if t = 0 then [] else [(n - t, t)])

/-- The partial lines of a write to the Arena that are poisoned: they take none of its bytes (R23). -/
def poisonedParts (s : State) (a n : Nat) : List (Nat × Nat) :=
  (partialLines a n).filter (fun x => s.drc.poisoned.contains (arenaLine s (a + x.1)))

/-- The stretch of a write's bytes that is written: what lies between its poisoned partial lines, from one offset up to another. -/
def writtenSpan (s : State) (a n : Nat) : Nat × Nat :=
  let bad := poisonedParts s a n
  let lo := ((bad.filter (fun x => x.1 == 0)).map (fun x => x.2)).sum
  let hi := n - ((bad.filter (fun x => x.1 != 0)).map (fun x => x.2)).sum
  (min lo hi, hi)

end Sys2Proof.Machine
end

