-- ==== Sys2Proof/Machine/Ops.lean ====
section
/-! DEFINITION. The shared operations: sparse maps, byte order, the host's memory and the Result Arena, fault raising,
event posting and command bookkeeping. -/

namespace Sys2Proof.Machine

open Sys2Proof

/-- An answer that is the next state. -/
abbrev Out := Host.Outcome State Fault Refusal

/-! ### Changing one block of the state -/

/-- Change the PWR part of the state. -/
def upPwr (s : State) (f : Pwr → Pwr) : State := { s with pwr := f s.pwr }
/-- Change the FLT part of the state. -/
def upFlt (s : State) (f : Flt → Flt) : State := { s with flt := f s.flt }
/-- Change the GLB part of the state. -/
def upGlb (s : State) (f : Glb → Glb) : State := { s with glb := f s.glb }
/-- Change the HST part of the state. -/
def upHst (s : State) (f : Hst → Hst) : State := { s with hst := f s.hst }
/-- Change the TSK part of the state. -/
def upTsk (s : State) (f : Tsk → Tsk) : State := { s with tsk := f s.tsk }
/-- Change the MED part of the state. -/
def upMed (s : State) (f : Med → Med) : State := { s with med := f s.med }
/-- Change the DRC part of the state. -/
def upDrc (s : State) (f : Drc → Drc) : State := { s with drc := f s.drc }
/-- Change the KITE part of the state. -/
def upKite (s : State) (f : Kite → Kite) : State := { s with kite := f s.kite }
/-- Change the WAY part of the state. -/
def upWay (s : State) (f : Way → Way) : State := { s with way := f s.way }
/-- Change the CMP part of the state. -/
def upCmp (s : State) (f : Cmp → Cmp) : State := { s with cmp := f s.cmp }
/-- Change the SEC part of the state. -/
def upSec (s : State) (f : Sec → Sec) : State := { s with sec := f s.sec }
/-- Change the HLT part of the state. -/
def upHlt (s : State) (f : Hlt → Hlt) : State := { s with hlt := f s.hlt }
/-- Change the PAIR part of the state. -/
def upPair (s : State) (f : Pair → Pair) : State := { s with pair := f s.pair }
/-- Change the MESH part of the state. -/
def upMesh (s : State) (f : Mesh → Mesh) : State := { s with mesh := f s.mesh }

/-- Idleness ends: the idle time starts again (R395). -/
def Pwr.busy (p : Pwr) : Pwr := { p with idleMs := 0, glideFrom := 0, mooredFrom := 0 }

/-! ### Sparse maps -/

/-- The value at a key. -/
def mget {α : Type} (m : SMap α) (k : Nat) : Option α :=
  match m with
  | [] => none
  | (j, v) :: rest => if j = k then some v else mget rest k

/-- The value at a key, or a default. -/
def mgetD {α : Type} (m : SMap α) (k : Nat) (d : α) : α := (mget m k).getD d

/-- Set a key, keeping keys rising. -/
def mset {α : Type} (m : SMap α) (k : Nat) (v : α) : SMap α :=
  match m with
  | [] => [(k, v)]
  | (j, w) :: rest =>
    if k < j then (k, v) :: (j, w) :: rest
    else if k = j then (k, v) :: rest
    else (j, w) :: mset rest k v

/-- Remove a key. -/
def mdel {α : Type} (m : SMap α) (k : Nat) : SMap α := m.filter (fun p => p.1 != k)

/-- Change the value at a key that is present. -/
def mmod {α : Type} (m : SMap α) (k : Nat) (f : α → α) : SMap α :=
  m.map (fun p => if p.1 = k then (p.1, f p.2) else p)

/-- Set a key to a number, listing no zero. -/
def mnum (m : SMap Nat) (k v : Nat) : SMap Nat := if v = 0 then mdel m k else mset m k v

/-- A list with its element at an index changed. -/
def lmod {α : Type} (l : List α) (i : Nat) (f : α → α) : List α :=
  match l, i with
  | [], _ => []
  | x :: xs, 0 => f x :: xs
  | x :: xs, i + 1 => x :: lmod xs i f

/-- Add a number to an ascending list without repeats. -/
def linsert (l : List Nat) (n : Nat) : List Nat :=
  match l with
  | [] => [n]
  | x :: xs => if n < x then n :: x :: xs else if n = x then x :: xs else x :: linsert xs n

/-- The numbers from `a` on, `n` of them. -/
def span (a n : Nat) : List Nat := (List.range n).map (a + ·)

/-! ### Bytes: little-endian fields (R6) -/

/-- The low `n` bytes of a number, least significant first (R6). -/
def le (n v : Nat) : List Byte :=
  match n with
  | 0 => []
  | n + 1 => BitVec.ofNat 8 v :: le n (v / 256)

/-- The number that bytes stand for, least significant first (R6). -/
def unle (b : List Byte) : Nat :=
  match b with
  | [] => 0
  | x :: xs => x.toNat + 256 * unle xs

/-- `n` bytes at an offset of a byte string; bytes past its end read zero. -/
def field (b : List Byte) (off n : Nat) : List Byte :=
  let d := (b.drop off).take n
  d ++ List.replicate (n - d.length) 0

/-- The number in `n` bytes at an offset. -/
def num (b : List Byte) (off n : Nat) : Nat := unle (field b off n)

/-- Zero bytes. -/
def zeros (n : Nat) : List Byte := List.replicate n 0

/-- The bytes of a most-significant-first number, for digests. -/
def be (n v : Nat) : List Byte := (le n v).reverse

/-- A byte string cut or zero-padded to a length. -/
def fit (n : Nat) (b : List Byte) : List Byte := field b 0 n

/-- A byte string with `new` written at an offset that lies within it. -/
def patch (b : List Byte) (off : Nat) (new : List Byte) : List Byte :=
  b.take off ++ new ++ b.drop (off + new.length)

/-! ### Memories: lists of cells with rising addresses -/

/-- The byte a memory lists at an address. -/
def cellAt (m : List Host.Cell) (a : Nat) : Option Byte := mget m a

/-- The cells of bytes laid from an address on. -/
def cellsOf (a : Nat) (b : List Byte) : List Host.Cell :=
  match b with
  | [] => []
  | x :: xs => (a, x) :: cellsOf (a + 1) xs

/-- Write bytes at an address into a memory in which every written byte is listed (the host's memory). -/
def storeAll (m : List Host.Cell) (a : Nat) (b : List Byte) : List Host.Cell :=
  m.filter (fun c => decide (c.1 < a)) ++ cellsOf a b ++ m.filter (fun c => decide (a + b.length ≤ c.1))

/-- Write bytes at an address into a memory in which an unlisted byte reads zero (the Result Arena). -/
def storeNonzero (m : List Host.Cell) (a : Nat) (b : List Byte) : List Host.Cell :=
  m.filter (fun c => decide (c.1 < a)) ++ (cellsOf a b).filter (fun c => c.2 != 0) ++
    m.filter (fun c => decide (a + b.length ≤ c.1))

/-- Read `n` bytes of a memory whose unlisted bytes read zero. -/
def loadZero (m : List Host.Cell) (a n : Nat) : List Byte :=
  (span a n).map (fun i => (cellAt m i).getD 0)

/-- The canonical form of a memory whose unlisted bytes read zero: addresses strictly rising, no zero byte listed. -/
def Memory.wf (m : List Host.Cell) : Bool :=
  match m with
  | [] => true
  | c :: rest => c.2 != 0 && rest.all (fun d => decide (c.1 < d.1)) && Memory.wf rest

/-- The canonical form of a memory in which every written byte is listed: addresses strictly rising. -/
def Memory.rising (m : List Host.Cell) : Bool :=
  match m with
  | [] => true
  | c :: rest => rest.all (fun d => decide (c.1 < d.1)) && Memory.rising rest

/-! ### Open values -/

/-- `n` bytes the manual leaves undefined, and the state that has used them up (log entry 12). -/
def freeBytes (s : State) (n : Nat) : List Byte × State :=
  ((List.range n).map (fun i => Config.freeByte (s.free + i)), { s with free := s.free + n })

/-- The contents of one block that the manual leaves open, and the state that has used them up. -/
def freeBlock (s : State) : List Byte × State := freeBytes s 4096

/-- A number the manual leaves open, below `n`, and the state that has used it up (log entry 12). -/
def freeBelow (s : State) (n : Nat) : Nat × State :=
  (Config.freeNat s.free % n, { s with free := s.free + 1 })

/-- A fresh identity of a key or of other secret material, and the state that has used it up (R323). -/
def freshKey (s : State) : Nat × State :=
  (s.sec.nextKey, { s with sec := { s.sec with nextKey := s.sec.nextKey + 1 } })

/-- `n` bytes of the secret material of an identity (log entry 15). -/
def secret (id n : Nat) : List Byte := (List.range n).map (fun i => Config.secretByte id i)

/-! ### Features (R101) -/

/-- A feature's default (Table 4.9). -/
def featureDefault (id : Nat) : Nat :=
  match id with
  | 2 => 100
  | 3 => 7
  | 5 => 10
  | 6 => 256
  | 7 => 10
  | 8 => 3
  | _ => 0

/-- A feature's largest and smallest value (Table 4.9). -/
def featureRange (id : Nat) : Option (Nat × Nat) :=
  match id with
  | 1 => some (0, 128)
  | 2 => some (1, 6000)
  | 3 => some (1, 60)
  | 4 => some (0, 50)
  | 5 => some (1, 50)
  | 6 => some (0, 4095)
  | 7 => some (6, 14)
  | 8 => some (0, 3)
  | 9 => some (0, 1)
  | _ => none

/-- The value set for a feature (R101). -/
def feature (s : State) (id : Nat) : Nat := mgetD s.glb.features id (featureDefault id)

/-! ### Islands and fault sources (R410 to R412) -/

def islAon : Nat := 0
def islPjm : Nat := 1
def islCtrl : Nat := 2
def islHost : Nat := 3
def islTask : Nat := 4
def islMap : Nat := 5
def islStripe : Nat := 6
def islTether : Nat := 7
/-- TRAILp -/
def islTrail (p : Nat) : Nat := 8 + p
/-- DRAMn -/
def islDram (n : Nat) : Nat := 14 + n
/-- FCHn -/
def islFch (n : Nat) : Nat := 18 + n
/-- LDPCn -/
def islLdpc (n : Nat) : Nat := 26 + n
def islCrypt : Nat := 30
def islCmp : Nat := 31
def islWay : Nat := 32
/-- KCn -/
def islKc (n : Nat) : Nat := 33 + n
/-- CWYn -/
def islCwy (n : Nat) : Nat := 41 + n

/-- The dump stops every island but AON, PJM, CTRL, HOST, TASK, MAP, CRYPT and the DRAM, FCH and CWY islands; in the dump-held state only AON,
PJM, HOST and TASK stay powered (R163, Table 6.4). -/
def dumpStops (s : State) (i : Nat) : Bool :=
  (s.med.dumpActive && (i == islStripe || decide (islTether ≤ i ∧ i < islDram 0) || decide (islLdpc 0 ≤ i ∧ i < islCrypt) ||
    decide (islCrypt < i ∧ i < islCwy 0))) ||
  (s.med.dumpHeld && !(i == islAon || i == islPjm || i == islHost || i == islTask))

/-- A Halt has stopped every island but AON, PJM and HOST (R425). -/
def haltStops (s : State) (i : Nat) : Bool := s.flt.faultN && !(i == islAon || i == islPjm || i == islHost)

/-- The work of the media stops: a dump is being written or held, or the device has halted (R163, R425). -/
def mediaStopped (s : State) : Bool := s.med.dumpActive || s.med.dumpHeld || s.flt.faultN

/-- An island is in a Contain reset, or a dump or a Halt has stopped it: requests to it wait and are issued again once it is ready (R15, R163,
R422, R425). -/
def inReset (s : State) (i : Nat) : Bool := s.flt.containing.contains i || dumpStops s i || haltStops s i

/-- Sub-source u of island i (R410). -/
def unit (i u : Nat) : Nat := 8 * i + u

def srcBrownout : Nat := 0x168
def srcHoldup : Nat := 0x169
def srcRail : Nat := 0x16A
def srcThrottle : Nat := 0x16B
def srcShutdown : Nat := 0x16C
def srcFlashProfile : Nat := 0x16D
def srcDramConfig : Nat := 0x16E
def srcSpares : Nat := 0x16F
def srcPatrol : Nat := 0x170
def srcDowntrain : Nat := 0x171
def srcWakeStuck : Nat := 0x172

/-- A source that can be raised (R410). -/
def srcImplemented (n : Nat) : Bool := decide (n ≤ 0x172)

/-- A source's class: 0 Correctable, 1 Deferred, 2 Uncorrectable-contained, 3 Fatal (Tables 17.2 and 17.3, R427). -/
def srcClass (n : Nat) : Nat :=
  if n < 0x168 then
    match n % 8 with
    | 0 => 0
    | 1 => 2
    | 2 => 2
    | 3 => 1
    | 4 => 2
    | 5 => 3
    | 6 => 1
    | _ => 0
  else if n = srcHoldup ∨ n = srcRail ∨ n = srcShutdown ∨ n = srcFlashProfile ∨ n = srcDramConfig then 3
  else 0

/-- A source's default reaction (Tables 17.2 and 17.3). -/
def srcDefault (n : Nat) : Nat :=
  if n < 0x168 then
    match n % 8 with
    | 0 => 1
    | 1 => 1
    | 2 => 2
    | 3 => 0
    | 4 => 1
    | 5 => if n / 8 < 2 then 4 else 3
    | 6 => 0
    | _ => 0
  else if n = srcRail then 3
  else if n = srcShutdown ∨ n = srcFlashProfile ∨ n = srcDramConfig then 4
  else 0

/-- A source whose reaction cannot be changed (Table 17.3). -/
def srcFixed (n : Nat) : Bool := n = srcHoldup || n = srcShutdown

/-- The configured level of a source (R416). -/
def srcLevel (s : State) (n : Nat) : Nat := mgetD s.flt.reaction n (srcDefault n)

/-- The start-up faults a Failover does not shadow (R421). -/
def startupFault (n : Nat) : Bool :=
  n = srcFlashProfile || n = srcDramConfig || n = unit islPjm 5 || n = srcHoldup || n = unit islCrypt 5

/-- The hub or hubs an island's bridges stand on, as island numbers (Table 1.1). -/
def islandHubs (i : Nat) : List Nat :=
  if i ≤ 4 then [41]
  else if i = 5 ∨ i = 7 then [42]
  else if i = 6 then [43]
  else if 8 ≤ i ∧ i ≤ 10 then [42]
  else if 11 ≤ i ∧ i ≤ 13 then [43]
  else if 14 ≤ i ∧ i ≤ 17 then [41 + (i - 14)]
  else if 18 ≤ i ∧ i ≤ 25 then [41 + (i - 18) / 2]
  else if 26 ≤ i ∧ i ≤ 29 then [41 + (i - 26)]
  else if i = 30 then [41, 42, 43, 44]
  else if i = 31 ∨ i = 32 then [44]
  else if 33 ≤ i ∧ i ≤ 40 then [41 + (i - 33) / 2]
  else if i = 41 then [42, 44]
  else if i = 42 then [41, 43]
  else if i = 43 then [42, 44]
  else if i = 44 then [43, 41]
  else []

/-- Whether a fault raised now is shadowed (R421). A detector that raises at island `i` stands on a bridge between `i` and
one of its neighbours; HANDSHAKE_TIMEOUT of `i` is shadowed when `i` or, for a hub, the island behind the bridge is in a
Contain window (`peer`). -/
def shadowed (s : State) (n : Nat) (peer : Option Nat) : Bool :=
  let inWindow := fun i => s.flt.containing.contains i || s.flt.windows.contains i
  (s.flt.failover && !startupFault n) ||
    (decide (n < 0x168) && n % 8 == 2 && (inWindow (n / 8) || (peer.map inWindow).getD false))

/-- Write a fault history record; the log keeps the newest 4,096 (R428). -/
def addHistory (s : State) (src cls level configured flags : Nat) : State :=
  { s with flt := { s.flt with
      history := ({ time := s.glb.lifetime, src, cls, level, configured, flags } :: s.flt.history).take 4096,
      recordCount := s.flt.recordCount + 1 } }

/-- FLT_LAST takes the latest fault (R427). -/
def setLast (s : State) (src cls level : Nat) (sh : Bool) : State :=
  { s with flt := { s.flt with lastDetail := src + cls * 512 + level * 4096, lastShadowed := sh } }

/-- A fault that takes no reaction: a history record with FLAGS[0], counted in FLT_SHADOWED (R421, R426). -/
def shadowFault (s : State) (src : Nat) (level : Nat) : State :=
  let s := addHistory s src (srcClass src) 0 level 1
  setLast { s with flt := { s.flt with shadowed := satInc s.flt.shadowed } } src (srcClass src) 0 true

/-- The sticky bit and count of a source (R413). -/
def countFault (s : State) (src : Nat) : State :=
  { s with flt := { s.flt with
      sticky := linsert s.flt.sticky src,
      counts := mset s.flt.counts src (satInc (mgetD s.flt.counts src 0)) } }

/-- One occurrence of a fault without the correction storm of R414: sticky bit and count, then shadowing, the Halt of
R507, or the collector's queue with its limit of 64 (R413, R421, R426, R507). -/
def raiseOne (s : State) (src : Nat) (level : Option Nat) (asks : Bool) (peer : Option Nat) : State :=
  let fresh := !s.flt.sticky.contains src
  let lvl := level.getD (srcLevel s src)
  let s := countFault s src
  if s.flt.halted then
    setLast (addHistory s src (srcClass src) 0 lvl 0) src (srcClass src) 0 false
  else if shadowed s src peer then shadowFault s src lvl
  else
    let f : PendingFault := { src, level, fresh, asks, count := mgetD s.flt.counts src 0 }
    if s.flt.queue.length < 64 then { s with flt := { s.flt with queue := s.flt.queue ++ [f] } }
    else if lvl ≤ 1 then
      { s with flt := { s.flt with queueDrops := satInc s.flt.queueDrops, queueOverflow := true } }
    else { s with flt := { s.flt with held := s.flt.held ++ [f] } }

/-- An occurrence of a fault at a source, with the correction storm of R414: a LINE_CORRECTED raised more than the limit
within 1 s raises UNIT_DEFERRED of its island once, and again only after a whole second in which the limit was not passed (R413,
R414). -/
def raiseAt (s : State) (src : Nat) (level : Option Nat) (asks : Bool) (peer : Option Nat) : State :=
  let s := raiseOne s src level asks peer
  if src < 0x168 ∧ src % 8 = 0 then
    let i := src / 8
    let now := s.glb.lifetime
    let times := now :: (mgetD s.flt.corrections i []).filter (fun t => decide (now < t + 1000))
    let s := { s with flt := { s.flt with corrections := mset s.flt.corrections i times } }
    if s.flt.ceLimit < times.length then
      let quiet := match mget s.flt.storms i with
        | some t => decide (t + 1000 ≤ now)
        | none => true
      let s := { s with flt := { s.flt with storms := mset s.flt.storms i now } }
      if quiet then raiseOne s (unit i 3) none false none else s
    else s
  else s

/-- A fault at its configured level (R413). -/
def raise (s : State) (src : Nat) : State := raiseAt s src none false none

/-! ### Events (R75, R110) -/

/-- Post an event to ring 0: it enters the event buffer, or is lost when 1,024 wait (R75). -/
def postEvent (s : State) (code detail r0 r1 : Nat) : State :=
  let e : Entry := { cookie := 0xFFFFFFFF, qid := 0, status := code, detail, tag := 0xFFFF, r0, r1 }
  if s.tsk.events.length < 1024 then { s with tsk := { s.tsk with events := s.tsk.events ++ [e] } }
  else { s with tsk := { s.tsk with eventsLost := satInc s.tsk.eventsLost } }

def evPairLost : Nat := 0x0801
def evReadOnly : Nat := 0x0802
def evSanitiseDone : Nat := 0x0803
def evFault : Nat := 0x0804
def evTakeover : Nat := 0x0805
def evRebuildDone : Nat := 0x0806

/-- Post a tagless reply through the overrun buffer of 4,096 (R64). -/
def postTagless (s : State) (ring : Nat) (e : Entry) : State :=
  if s.tsk.overrun.length < 4096 then { s with tsk := { s.tsk with overrun := s.tsk.overrun ++ [(ring, e)] } }
  else { s with tsk := { s.tsk with overrunUnreplied := satInc s.tsk.overrunUnreplied } }

/-! ### Queues, commands and their replies -/

/-- Status codes (Table 4.18). -/
def stSuccess : Nat := 0x0000
def stRecovered : Nat := 0x0002
def stStored : Nat := 0x0003
def stInvalidOpcode : Nat := 0x0101
def stInvalidField : Nat := 0x0102
def stLengthShort : Nat := 0x0103
def stLengthLong : Nat := 0x0104
def stCrc : Nat := 0x0105
def stOverrun : Nat := 0x0106
def stPort : Nat := 0x0107
def stQueueLimit : Nat := 0x0201
def stRingFull : Nat := 0x0202
def stUnrecovered : Nat := 0x0301
def stNoGain : Nat := 0x0401
def stVerify : Nat := 0x0402
def stExhausted : Nat := 0x0403
def stCleared : Nat := 0x0404
def stDecomp : Nat := 0x0405
def stDigestMismatch : Nat := 0x0406
def stAborted : Nat := 0x0501
def stTooLate : Nat := 0x0502
def stNotFound : Nat := 0x0503
def stReadOnly : Nat := 0x0601
def stSanitise : Nat := 0x0602
def stNotReady : Nat := 0x0603
def stPowerFail : Nat := 0x0604
def stProgramFault : Nat := 0x0701
def stPortDenied : Nat := 0x0704
def stNotLoaded : Nat := 0x0705

/-- SUCCESS with results. -/
def ok (r0 : Nat := 0) (r1 : Nat := 0) : Reply := { status := stSuccess, detail := 0, r0, r1 }

/-- INVALID_FIELD with its offset. -/
def bad (detail : Nat) : Reply := { status := stInvalidField, detail, r0 := 0, r1 := 0 }

/-- Queue 0's settings (R57). -/
def queueZero : Queue := { ring := 0, limit := 64, classF := false, deleting := none }

/-- A queue that exists (R57). -/
def queueAt (s : State) (q : Nat) : Option Queue := if q = 0 then some queueZero else mget s.tsk.queues q

/-- The queue number a reply carries: 0 for Footpath (R93). -/
def srcQueue (x : Source) : Nat :=
  match x with
  | .queue q => q
  | .footpath => 0

/-- The command holding a tag (R67). -/
def findOp (s : State) (tag : Nat) : Option Op := s.tsk.ops.find? (fun o => o.tag == tag)

/-- Change the command holding a tag. -/
def modOp (s : State) (tag : Nat) (f : Op → Op) : State :=
  { s with tsk := { s.tsk with ops := s.tsk.ops.map (fun o => if o.tag = tag then f o else o) } }

/-- A command's final reply is known; COMMAND_COMPLETE hands it to the reply engine (R83). It waits for no room any more (R503). -/
def finish (s : State) (tag : Nat) (r : Reply) : State :=
  modOp s tag (fun o => { o with stage := .finished, reply := some r, waitStaging := false })

/-- A command's effect has begun and goes on. -/
def running (s : State) (tag : Nat) : State := modOp s tag (fun o => { o with stage := .running })

/-- Tags held now: TSK_TAGS.IN_USE (R67). -/
def tagsInUse (s : State) : Nat := s.tsk.ops.length

/-- Tags a queue's commands hold (R62). -/
def queueTags (s : State) (q : Nat) : Nat := (s.tsk.ops.filter (fun o => o.src == .queue q)).length

/-- The next tag: the one freed earliest, else the lowest never used. R67 orders freed tags only; that they go before tags never used is the
model's choice (DESIGN CHOICE, log entry 60). -/
def nextTag (s : State) : Option Nat :=
  match s.tsk.freedTags with
  | t :: _ => some t
  | [] => if s.tsk.freshTag < 32768 then some s.tsk.freshTag else none

/-- Use up the next tag (R67). -/
def takeTag (s : State) : State :=
  match s.tsk.freedTags with
  | _ :: rest => { s with tsk := { s.tsk with freedTags := rest } }
  | [] => { s with tsk := { s.tsk with freshTag := s.tsk.freshTag + 1 } }

/-- A command has reached its end: its tag is freed (R67). -/
def dropOp (s : State) (tag : Nat) : State :=
  { s with tsk := { s.tsk with ops := s.tsk.ops.filter (fun o => o.tag != tag),
                                freedTags := s.tsk.freedTags ++ [tag] } }

/-- Release a command's range lock and staging pins (R78, R80, R86). -/
def releaseLock (s : State) (tag : Nat) : State :=
  modOp { s with tsk := { s.tsk with locks := s.tsk.locks.filter (fun l => l.tag != tag) } } tag
    (fun o => { o with pins := [] })

/-! ### Ring arithmetic (R71, R72) -/

/-- Entries of a ring. -/
def ringSize (r : Ring) : Nat := 2 ^ r.sizeLog2

/-- Position of an index and wrap bit on the doubled circle. -/
def ringPos (r : Ring) (i : Nat) (w : Bool) : Nat := i + b2n w * ringSize r

/-- Entries written and not released (R72). -/
def ringUsed (r : Ring) : Nat :=
  (ringPos r r.tail r.tailWrap + 2 * ringSize r - ringPos r r.head r.headWrap) % (2 * ringSize r)

/-- The ring is full (R72). -/
def ringFull (r : Ring) : Bool := decide (ringSize r ≤ ringUsed r)

/-- Ring 0 takes entries only while TSK_RING0_CTRL.EN is 1 (R70). -/
def ringActive (s : State) (n : Nat) : Bool := if n = 0 then s.tsk.ring0En else true

/-! ### The link (R30, R50) -/

/-- Bus-master traffic and MSI-X move: the link is up, the CXL.io stream is not held, and HOST is not in a Contain reset (R50,
R423). -/
def ioUp (s : State) : Bool := s.hst.mode != 0 && !s.hst.ioHeld && s.pwr.linkPm != 2 && !s.flt.containing.contains islHost

/-- CXL.cache traffic moves: the link is in CXL mode, its stream is not held, and HOST is not in a Contain reset (R30, R50, R423). -/
def cacheUp (s : State) : Bool := s.hst.mode == 2 && !s.hst.cmHeld && s.pwr.linkPm != 2 && !s.flt.containing.contains islHost

/-- CXL.cache in CXL mode, CXL.io in PCIe-only mode: the way of reply entries, fragment lists and
parameter blocks (R30, R38). -/
def entryUp (s : State) : Bool := if s.hst.mode = 2 then cacheUp s else ioUp s

/-- An MSI-X message that falls due: sent, or its pending bit set while it cannot be sent (R47, R50, R501). -/
def msixSend (s : State) (v : Nat) : State :=
  let e := mgetD s.hst.msixTable v { addr := 0, data := 0, mask := true }
  if s.hst.msixEn && !s.hst.msixFmask && !e.mask && ioUp s then
    { s with hst := { s.hst with msixSent := (e.addr, e.data) :: s.hst.msixSent } }
  else { s with hst := { s.hst with msixPending := linsert s.hst.msixPending v } }

/-- Send every pending message that can now be sent (R47, R501). -/
def msixFlush (s : State) : State :=
  let due := s.hst.msixPending
  due.foldl (fun s v => msixSend { s with hst := { s.hst with msixPending := s.hst.msixPending.filter (· != v) } } v) s

/-! ### A command's data stream (R92, R96, R98, R270) -/

/-- The command came over Footpath (R98). -/
def fromFootpath (o : Op) : Bool := o.src == .footpath

/-- Write bytes at an offset of a fragment stream into host memory (R92, R502). -/
def writeFrags (m : List Host.Cell) (frags : List (Nat × Nat)) (off : Nat) (b : List Byte) : List Host.Cell :=
  match frags with
  | [] => m
  | (a, n) :: rest =>
    if n ≤ off then writeFrags m rest (off - n) b
    else
      let here := b.take (n - off)
      writeFrags (if here.isEmpty then m else storeAll m (a + off) here) rest 0 (b.drop (n - off))

/-- The stream a packet's DPTR describes: the list read, or one buffer of DLEN bytes (R96). -/
def opFrags (o : Op) : List (Nat × Nat) :=
  if bit o.pkt.flags 0 then o.frags else [(o.pkt.dptr, o.pkt.dlen)]

/-- The device issues a transaction to the host. -/
def issue (s : State) (x : HostOp) : State := { s with hst := { s.hst with bus := x :: s.hst.bus } }

/-- The no-snoop attribute of every bulk transfer of a command: FLAGS.NOSNOOP (R37). -/
def noSnoop (o : Op) : Bool := bit o.pkt.flags 1

/-- Bytes go to the Result Arena: whole lines are good again, and a poisoned line takes no partial write (R23, R192). -/
def arenaWrite (s : State) (a : Nat) (b : List Byte) : State :=
  let w := writtenSpan s a b.length
  let first := arenaLine s (64 * ((a + 63) / 64))
  let last := arenaLine s (64 * ((a + b.length) / 64))
  let s := { s with arena := storeNonzero s.arena (a + w.1) ((b.take w.2).drop w.1) }
  if s.drc.poisoned.isEmpty then s
  else upDrc s (fun d => { d with poisoned := d.poisoned.filter (fun l => !(decide (first ≤ l) && decide (l < last))) })

/-- Write output at an offset of the command's DPTR stream, or append it to the Footpath output (R98). A transfer that an FLR discarded
writes nothing (R50). -/
def deliver (s : State) (o : Op) (off : Nat) (b : List Byte) : State :=
  if fromFootpath o then modOp s o.tag (fun p => { p with tx := p.tx ++ b })
  else if o.mute then s
  else issue { s with hostMem := writeFrags s.hostMem (opFrags o) off b } (.bulkWrite o.tag off b.length (noSnoop o))

/-- Write output at the command's ADDR: host memory, the Result Arena with DST_ARENA, or Footpath chunks (R98, R105). -/
def deliverAddr (s : State) (o : Op) (b : List Byte) : State :=
  if bit o.pkt.flags 2 then arenaWrite s o.pkt.addr b
  else if fromFootpath o then modOp s o.tag (fun p => { p with tx := p.tx ++ b })
  else if o.mute then s
  else issue { s with hostMem := storeAll s.hostMem o.pkt.addr b } (.bulkWrite o.tag 0 b.length (noSnoop o))

/-- The data a command takes in: the host's answer, or the Footpath chunks received (R98). None while the host's answer
does not have the length the command reads, or the link holds it up. A read that an FLR discarded gives an error, since its data
never comes (R50; log entry 69). -/
def input (s : State) (o : Op) (h : HostRead) (len : Nat) : Option HostRead :=
  if fromFootpath o then some (.data (o.rx.take len))
  else if o.mute then some .error
  else if !ioUp s then none
  else
    match h with
    | .data b => if b.length = len then some (.data b) else none
    | .error => some .error

/-! ### Bias granules (R42 to R44) -/

/-- Granules that bytes of the Arena touch: (first, count) (R42). -/
def granulesOf (a n : Nat) : Nat × Nat := if n = 0 then (a / 65536, 0) else (a / 65536, (a + n - 1) / 65536 - a / 65536 + 1)

/-- Granules a running command holds (R44). -/
def heldGranules (s : State) : List Nat :=
  s.tsk.ops.flatMap (fun o => o.granules.flatMap (fun g => span g.1 g.2))

/-- Granules go to device bias: for each one in host bias the host's copies of its lines are taken away first (R43). Where CXL.cache cannot
carry those requests (PCIe-only mode, the link down, an Insecure stream) the manual does not say whether the flip waits: the model flips at
once and issues none (DESIGN CHOICE, log entry 70). -/
def toDeviceBias (s : State) (l : List Nat) : State :=
  let s := if cacheUp s then (l.filter (fun g => !s.hst.deviceBias.contains g)).foldl (fun s g => issue s (.rdOwnNoData g)) s else s
  { s with hst := { s.hst with deviceBias := l.foldl linsert s.hst.deviceBias } }

/-- A command flips the granules of its destination to device bias and holds them (R43). After an FLR it flips none (R54). -/
def flipToDevice (s : State) (o : Op) (a n : Nat) : State :=
  let g := granulesOf a n
  if o.discard || o.noFlip then s
  else modOp (toDeviceBias s (span g.1 g.2)) o.tag (fun p => { p with granules := p.granules ++ [g] })

/-- A command's granules return to host bias, but for those another command still holds (R43, R44). -/
def flipBack (s : State) (tag : Nat) : State :=
  match findOp s tag with
  | none => s
  | some o =>
    let mine := o.granules.flatMap (fun g => span g.1 g.2)
    let s := modOp s tag (fun p => { p with granules := [] })
    let others := heldGranules s
    { s with hst := { s.hst with
        deviceBias := s.hst.deviceBias.filter (fun g => !(mine.contains g && !others.contains g)) } }

/-- Bytes of the Arena in force (R40). -/
def arenaBytes (s : State) : Nat := s.hst.arenaCur * 0x10000000

end Sys2Proof.Machine
end

