-- ==== Sys2Proof/Machine/Crc.lean ====
section
/-! DEFINITION. The checksums: CRC-32C (R89), CRC-32 (R335, gzip), Adler-32 (zlib) and GF(2^8) of R20 with the stripe
coefficients of R376. -/

namespace Sys2Proof.Machine

open Sys2Proof

/-- One bit of a reflected CRC with a reflected generator. -/
def crcBit (poly x : Nat) : Nat := if x % 2 = 1 then x / 2 ^^^ poly else x / 2

/-- A CRC state with one byte taken in. -/
def crcByte (poly x : Nat) (b : Byte) : Nat :=
  let f := crcBit poly
  f (f (f (f (f (f (f (f (x ^^^ b.toNat))))))))

/-- A reflected 32-bit CRC with initial value and final XOR of all ones. -/
def crcOf (poly : Nat) (m : List Byte) : Nat := m.foldl (crcByte poly) 0xFFFFFFFF ^^^ 0xFFFFFFFF

/-- CRC-32C: generator 0x1EDC6F41, reflected (R89). -/
def crc32c (m : List Byte) : Nat := crcOf 0x82F63B78 m

/-- CRC-32: generator 0x04C11DB7, reflected (R335, R301). -/
def crc32 (m : List Byte) : Nat := crcOf 0xEDB88320 m

/-- Adler-32 of a zlib stream's content (R301). -/
def adler32 (m : List Byte) : Nat :=
  let r := m.foldl (fun (p : Nat × Nat) b => let a := (p.1 + b.toNat) % 65521; (a, (p.2 + a) % 65521)) (1, 0)
  r.2 * 65536 + r.1

/-! ### GF(2^8) with polynomial 0x11D (R20) -/

/-- A product, by `n` bits of the second factor, least significant first. -/
def gfMulBits (a b : Nat) (n : Nat) : Nat :=
  match n with
  | 0 => 0
  | n + 1 =>
    let a2 := if a < 128 then 2 * a else (2 * a) ^^^ 0x11D
    (if b % 2 = 1 then a else 0) ^^^ gfMulBits a2 (b / 2) n

/-- The product of two field elements (R20). -/
def gfMul (a b : Nat) : Nat := gfMulBits a b 8

/-- The inverse of a field element: its 254th power. -/
def gfInv (a : Nat) : Nat :=
  let s := fun x => gfMul x x
  let a2 := s a
  let a4 := s a2
  let a8 := s a4
  let a16 := s a8
  let a32 := s a16
  let a64 := s a32
  let a128 := s a64
  gfMul a2 (gfMul a4 (gfMul a8 (gfMul a16 (gfMul a32 (gfMul a64 a128)))))

/-- The coefficient of data position d in parity row j: 1 / (j XOR (m + d)) (R376). -/
def stripeCoef (m j d : Nat) : Nat := gfInv (j ^^^ (m + d))

/-- Bytes multiplied by a field element. -/
def gfScale (w : Nat) (b : List Byte) : List Byte := b.map (fun x => BitVec.ofNat 8 (gfMul w x.toNat))

/-- Bytes added in the field: XOR. -/
def gfAdd (a b : List Byte) : List Byte := (a.zip b).map (fun p => p.1 ^^^ p.2)

end Sys2Proof.Machine
end

