-- ==== Sys2Proof/Machine/Inflate.lean ====
section
/-! DEFINITION. Inflation with its framings and its error conditions (R300 to R302, R305), and the framings the compressor
writes (R296, R299). -/

namespace Sys2Proof.Machine

open Sys2Proof

/-- Why inflation stops: a condition of R301 with its DETAIL and input offset, or the capacity (R302). -/
inductive InfStop where
  | malformed (detail offset : Nat)
  | overflow
  deriving DecidableEq, Repr

/-- The unread bits of an input, least significant bit of each byte first, and the bits already read. -/
structure Bits where
  rest : List Bool
  pos : Nat

/-- An input's bits. -/
def bitsOf (b : List Byte) : Bits := { rest := b.flatMap (fun x => (List.range 8).map (fun i => x.getLsbD i)), pos := 0 }

/-- The byte that holds the bit read last. -/
def Bits.at (r : Bits) : Nat := (r.pos - 1) / 8

/-- A malformed stream found at the bit read last (R301). -/
def Bits.stop {α : Type} (r : Bits) (detail : Nat) : Except InfStop α := .error (.malformed detail r.at)

/-- Read one bit; the input's end is condition 7 (R301). -/
def Bits.one (r : Bits) : Except InfStop (Bool × Bits) :=
  match r.rest with
  | [] => .error (.malformed 7 (r.pos / 8))
  | b :: bs => .ok (b, { rest := bs, pos := r.pos + 1 })

/-- Read `n` bits as a number, first bit least significant. -/
def Bits.take (r : Bits) (n : Nat) : Except InfStop (Nat × Bits) :=
  match n with
  | 0 => .ok (0, r)
  | n + 1 => do
    let (b, r) ← r.one
    let (v, r) ← r.take n
    pure (b2n b + 2 * v, r)

/-- Skip to the next byte boundary. -/
def Bits.align (r : Bits) : Bits :=
  let k := (8 - r.pos % 8) % 8
  { rest := r.rest.drop k, pos := r.pos + k }

/-- A prefix code: how many codes of each length 1 to 15 there are, and the symbols in code order. -/
structure Prefix where
  counts : List Nat
  symbols : List Nat

/-- The canonical code of the lengths of symbols 0, 1, …. -/
def prefixOf (lengths : List Nat) : Prefix :=
  let idx := lengths.zip (List.range lengths.length)
  { counts := (span 1 15).map (fun n => (lengths.filter (· == n)).length),
    symbols := (span 1 15).flatMap (fun n => (idx.filter (fun p => p.1 == n)).map (·.2)) }

/-- Codes left unused after all lengths: none when over-subscribed. -/
def codesLeft (counts : List Nat) : Option Nat :=
  counts.foldl (fun (left : Option Nat) c =>
    match left with
    | none => none
    | some l => if 2 * l < c then none else some (2 * l - c)) (some 1)

/-- A code a stream may carry: complete, or a distance code of one symbol (R301, DETAIL 3). -/
def Prefix.valid (p : Prefix) (distance : Bool) : Bool :=
  match codesLeft p.counts with
  | none => false
  | some 0 => true
  | some _ => distance && p.symbols.length == 1

/-- Read a symbol; a code the table does not hold is condition 3. -/
def Prefix.read (p : Prefix) (counts : List Nat) (code first index : Nat) (r : Bits) : Except InfStop (Nat × Bits) :=
  match counts with
  | [] => r.stop 3
  | c :: more => do
    let (b, r) ← r.one
    let code := 2 * code + b2n b
    if code < first + c then pure (p.symbols.getD (index + (code - first)) 0, r)
    else p.read more code (2 * (first + c)) (index + c) r

/-- Read a symbol of a code. -/
def Prefix.symbol (p : Prefix) (r : Bits) : Except InfStop (Nat × Bits) := p.read p.counts 0 0 0 r

/-- Lengths of length symbols 257 to 285 (RFC 1951): base and extra bits. -/
def lengthBase : List (Nat × Nat) :=
  [(3, 0), (4, 0), (5, 0), (6, 0), (7, 0), (8, 0), (9, 0), (10, 0)] ++
  [(11, 1), (13, 1), (15, 1), (17, 1), (19, 2), (23, 2), (27, 2), (31, 2)] ++
  [(35, 3), (43, 3), (51, 3), (59, 3), (67, 4), (83, 4), (99, 4), (115, 4)] ++
  [(131, 5), (163, 5), (195, 5), (227, 5), (258, 0)]

/-- Distances of distance symbols 0 to 29 (RFC 1951): base and extra bits. -/
def distBase : List (Nat × Nat) :=
  [(1, 0), (2, 0), (3, 0), (4, 0), (5, 1), (7, 1), (9, 2), (13, 2)] ++
  [(17, 3), (25, 3), (33, 4), (49, 4), (65, 5), (97, 5), (129, 6), (193, 6)] ++
  [(257, 7), (385, 7), (513, 8), (769, 8), (1025, 9), (1537, 9), (2049, 10), (3073, 10)] ++
  [(4097, 11), (6145, 11), (8193, 12), (12289, 12), (16385, 13), (24577, 13)]

/-- The output so far, newest byte first, with its length and the capacity. -/
structure InfOut where
  rev : List Byte
  len : Nat
  cap : Nat

/-- Append a byte within the capacity (R302). -/
def InfOut.push (o : InfOut) (b : Byte) : Except InfStop InfOut :=
  if o.len < o.cap then .ok { o with rev := b :: o.rev, len := o.len + 1 } else .error .overflow

/-- Copy `n` bytes from a distance back. -/
def InfOut.copy (o : InfOut) (d n : Nat) : Except InfStop InfOut :=
  match n with
  | 0 => .ok o
  | n + 1 => do
    let o ← o.push (o.rev.getD (d - 1) 0)
    o.copy d n

/-- The symbols of a compressed block up to its end-of-block code. -/
def infCodes (fuel : Nat) (lit dist : Prefix) (r : Bits) (o : InfOut) : Except InfStop (Bits × InfOut) :=
  match fuel with
  | 0 => .error (.malformed 7 (r.pos / 8))
  | fuel + 1 => do
    let (s, r) ← lit.symbol r
    if s < 256 then
      let o ← o.push (BitVec.ofNat 8 s)
      infCodes fuel lit dist r o
    else if s = 256 then pure (r, o)
    else if 285 < s then r.stop 3
    else
      let lb := lengthBase.getD (s - 257) (0, 0)
      let (x, r) ← r.take lb.2
      let (d, r) ← dist.symbol r
      if 29 < d then r.stop 3
      else
        let db := distBase.getD d (0, 0)
        let (y, r) ← r.take db.2
        if o.len < db.1 + y then r.stop 4
        else
          let o ← o.copy (db.1 + y) (lb.1 + x)
          infCodes fuel lit dist r o

/-- `n` bytes of a stored block. -/
def infStored (n : Nat) (r : Bits) (o : InfOut) : Except InfStop (Bits × InfOut) :=
  match n with
  | 0 => .ok (r, o)
  | n + 1 => do
    let (v, r) ← r.take 8
    let o ← o.push (BitVec.ofNat 8 v)
    infStored n r o

/-- The code lengths of a dynamic block, newest first, until `want` are read. -/
def infLengths (fuel : Nat) (p : Prefix) (want : Nat) (r : Bits) (rev : List Nat) : Except InfStop (List Nat × Bits) :=
  match fuel with
  | 0 => r.stop 3
  | fuel + 1 =>
    if want ≤ rev.length then (if rev.length = want then .ok (rev.reverse, r) else r.stop 3)
    else do
      let (s, r) ← p.symbol r
      if s < 16 then infLengths fuel p want r (s :: rev)
      else if s = 16 then
        match rev with
        | [] => r.stop 3
        | last :: _ =>
          let (n, r) ← r.take 2
          infLengths fuel p want r (List.replicate (3 + n) last ++ rev)
      else if s = 17 then
        let (n, r) ← r.take 3
        infLengths fuel p want r (List.replicate (3 + n) 0 ++ rev)
      else
        let (n, r) ← r.take 7
        infLengths fuel p want r (List.replicate (11 + n) 0 ++ rev)

/-- Read `n` three-bit code lengths. -/
def infClens (n : Nat) (r : Bits) : Except InfStop (List Nat × Bits) :=
  match n with
  | 0 => .ok ([], r)
  | n + 1 => do
    let (v, r) ← r.take 3
    let (vs, r) ← infClens n r
    pure (v :: vs, r)

/-- The order in which code-length code lengths stand (RFC 1951). -/
def clenOrder : List Nat := [16, 17, 18, 0, 8, 7, 9, 6, 10, 5] ++ [11, 4, 12, 3, 13, 2, 14, 1, 15]

/-- The two codes of a dynamic block (R301, DETAIL 3). -/
def infTables (r : Bits) : Except InfStop (Prefix × Prefix × Bits) := do
  let (hlit, r) ← r.take 5
  let (hdist, r) ← r.take 5
  let (hclen, r) ← r.take 4
  let (cl, r) ← infClens (hclen + 4) r
  let at' := (clenOrder.zip cl)
  let clens := (List.range 19).map (fun i => ((at'.find? (fun p => p.1 == i)).map (·.2)).getD 0)
  let cp := prefixOf clens
  if !cp.valid false then r.stop 3
  else
    let (ls, r) ← infLengths 400 cp (hlit + 257 + (hdist + 1)) r []
    let lit := prefixOf (ls.take (hlit + 257))
    let dist := prefixOf (ls.drop (hlit + 257))
    if !lit.valid false || !dist.valid true then r.stop 3 else pure (lit, dist, r)

/-- The fixed codes of BTYPE 01. -/
def fixedLit : Prefix :=
  prefixOf (List.replicate 144 8 ++ List.replicate 112 9 ++ List.replicate 24 7 ++ List.replicate 8 8)
def fixedDist : Prefix := prefixOf (List.replicate 32 5)

/-- The blocks of a raw stream up to its final one. -/
def infBlocks (fuel : Nat) (r : Bits) (o : InfOut) : Except InfStop (Bits × InfOut) :=
  match fuel with
  | 0 => .error (.malformed 7 (r.pos / 8))
  | fuel + 1 => do
    let (fin, r) ← r.one
    let (typ, r) ← r.take 2
    let step : Except InfStop (Bits × InfOut) :=
      if typ = 0 then do
        let (len, r) ← r.align.take 16
        let (nlen, r) ← r.take 16
        if len + nlen = 0xFFFF then infStored len r o else r.stop 5
      else if typ = 1 then infCodes r.rest.length fixedLit fixedDist r o
      else if typ = 2 then do
        let (lit, dist, r) ← infTables r
        infCodes r.rest.length lit dist r o
      else r.stop 2
    let (r, o) ← step
    if fin then pure (r, o) else infBlocks fuel r o

/-- A raw stream: its output and the input bytes it takes. -/
def inflateRaw (b : List Byte) (cap : Nat) : Except InfStop (List Byte × Nat) := do
  let (r, o) ← infBlocks (8 * b.length + 1) (bitsOf b) { rev := [], len := 0, cap }
  pure (o.rev.reverse, (r.pos + 7) / 8)

/-- Skip a zero-terminated field of a gzip header. -/
def skipText (b : List Byte) (off : Nat) : Option Nat :=
  match b with
  | [] => none
  | x :: xs => if x = 0 then some (off + 1) else skipText xs (off + 1)

/-- The length of a framing's header, or condition 1 or 7 (R300). -/
def frameHeader (framing : Nat) (b : List Byte) : Except InfStop Nat :=
  let short : Except InfStop Nat := .error (.malformed 7 b.length)
  let wrong := fun (off : Nat) => (.error (.malformed 1 off) : Except InfStop Nat)
  if framing = 0 then .ok 0
  else if framing = 1 then
    if b.length < 1 then short
    else
      let cmf := num b 0 1
      if cmf % 16 != 8 || decide (7 < cmf / 16) then wrong 0
      else if b.length < 2 then short
      else
        let flg := num b 1 1
        if (cmf * 256 + flg) % 31 != 0 || bit flg 5 then wrong 1 else .ok 2
  else
    if num b 0 1 != 0x1F && decide (0 < b.length) then wrong 0
    else if num b 1 1 != 0x8B && decide (1 < b.length) then wrong 1
    else if num b 2 1 != 8 && decide (2 < b.length) then wrong 2
    else if decide (3 < b.length) && num b 3 1 / 32 != 0 then wrong 3
    else if b.length < 10 then short
    else
      let flg := num b 3 1
      let p := 10
      let extra := if bit flg 2 then (if b.length < p + 2 then none else some (p + 2 + num b p 2)) else some p
      let name := match extra with
        | none => none
        | some p => if b.length < p then none else if bit flg 3 then skipText (b.drop p) p else some p
      let comment := match name with
        | none => none
        | some p => if bit flg 4 then skipText (b.drop p) p else some p
      match comment with
      | none => short
      | some p =>
        if bit flg 1 then
          if b.length < p + 2 then short
          else if num b p 2 != crc32 (b.take p) % 65536 then wrong (p + 1)
          else .ok (p + 2)
        else .ok p

/-- Inflate a framed stream within a capacity (R300 to R302). -/
def inflate (framing : Nat) (b : List Byte) (cap : Nat) : Except InfStop (List Byte) := do
  let h ← frameHeader framing b
  let shift : Except InfStop (List Byte × Nat) :=
    match inflateRaw (b.drop h) cap with
    | .ok v => .ok v
    | .error (.malformed d o) => .error (.malformed d (o + h))
    | .error .overflow => .error .overflow
  let (out, used) ← shift
  let p := h + used
  let tail := if framing = 0 then 0 else if framing = 1 then 4 else 8
  if b.length < p + tail then .error (.malformed 7 b.length)
  else
    let sumOk :=
      if framing = 0 then true
      else if framing = 1 then unle (field b p 4).reverse == adler32 out
      else num b p 4 == crc32 out
    if !sumOk then .error (.malformed 6 (p + 3))
    else if framing == 2 && num b (p + 4) 4 != out.length % 2 ^ 32 then .error (.malformed 6 (p + 7))
    else if p + tail < b.length then .error (.malformed 8 (p + tail))
    else pure out

/-- A framing's header and trailer around a raw stream (Table 12.2). -/
def frame (framing : Nat) (lazyMatch : Bool) (raw content : List Byte) : List Byte :=
  if framing = 1 then
    [0x78, if lazyMatch then 0x9C else 0x5E] ++ raw ++ be 4 (adler32 content)
  else if framing = 2 then
    [0x1F, 0x8B, 0x08, 0, 0, 0, 0, 0, 0, 0xFF] ++ raw ++ le 4 (crc32 content) ++ le 4 (content.length % 2 ^ 32)
  else raw

/-- Stored blocks of 65,535 bytes but the last (R299). -/
def storedBlocks (fuel : Nat) (b : List Byte) : List Byte :=
  match fuel with
  | 0 => []
  | fuel + 1 =>
    let n := min b.length 65535
    [if b.length ≤ 65535 then 1 else 0] ++ le 2 n ++ le 2 (0xFFFF - n) ++ b.take n ++
      (if b.length ≤ 65535 then [] else storedBlocks fuel (b.drop 65535))

/-- Whether an output of `o` bytes meets a minimum gain on `n` input bytes (R298). -/
def gainMet (g n o : Nat) : Bool := if g = 0 then decide (o < n) else decide (o * 100 ≤ n * (100 - g))

/-- Inflation of an inline block of 4,096 bytes from its stored units: the stream, then zero padding (R303, R305). -/
def inflateBlock (b : List Byte) : Option (List Byte) :=
  match inflateRaw b 4096 with
  | .ok (out, used) => if out.length = 4096 ∧ (b.drop used).all (· == 0) then some out else none
  | .error _ => none

end Sys2Proof.Machine
end

