-- ==== Sys2Proof/Machine/Deflate.lean ====
section
/-! DEFINITION. The compressor's DEFLATE stream (R295): greedy and lazy matching in a 32 KiB window, static and dynamic tables. -/

namespace Sys2Proof.Machine

open Sys2Proof

/-- What the compressor makes of the input: a byte as it is, or a match of a length at a distance. -/
inductive LzToken where
  | byte (b : Byte)
  | copy (len dist : Nat)
  deriving DecidableEq, Repr

/-- Bytes that agree at the front of two inputs, up to a limit. -/
def agreeLen (a b : List Byte) (most : Nat) : Nat :=
  match most, a, b with
  | n + 1, x :: xs, y :: ys => if x = y then agreeLen xs ys n + 1 else 0
  | _, _, _ => 0

/-- The match at a position with a distance: it may run into the bytes it produces itself. -/
def matchLen (input : List Byte) (pos dist most : Nat) : Nat := agreeLen (input.drop pos) (input.drop (pos - dist)) most

/-- The longest match at a position, and the distances that give it: none below three bytes. `most` is what the block has left (R295). -/
def longest (input : List Byte) (pos most : Nat) : Nat × List Nat :=
  let l := (span 1 (min 32768 pos)).map (fun d => (d, matchLen input pos d (min 258 most)))
  let n := (l.map (·.2)).foldl max 0
  if n < 3 then (0, []) else (n, (l.filter (fun x => x.2 == n)).map (·.1))

/-- The tokens of a block that begins at a position, of `n` bytes. Greedy matching takes the longest match; lazy matching puts it off by one
position where the next one gives a longer match, and asks anew there (DEDUCED). Which of several distances that give the longest match is
taken is open (R295; log entry 14). -/
def lzTokens (fuel : Nat) (lazyMatch : Bool) (input : List Byte) (pos n : Nat) : List LzToken :=
  match fuel with
  | 0 => []
  | fuel + 1 =>
    if n = 0 then []
    else
      let m := longest input pos n
      if m.1 = 0 || (lazyMatch && decide (m.1 < (longest input (pos + 1) (n - 1)).1)) then
        LzToken.byte (input.getD pos 0) :: lzTokens fuel lazyMatch input (pos + 1) (n - 1)
      else
        let d := match m.2 with
          | [d] => d
          | l => l.getD (Config.matchChoice input pos % l.length) 1
        LzToken.copy m.1 d :: lzTokens fuel lazyMatch input (pos + m.1) (n - m.1)

/-- A number's low `n` bits, least significant first. -/
def lowBits (v n : Nat) : List Bool := (List.range n).map (fun i => bit v i)

/-- The first code of a length in a canonical code. -/
def firstCode (counts : List Nat) (n : Nat) : Nat := (counts.take (n - 1)).foldl (fun c k => 2 * (c + k)) 0

/-- A symbol's code as it stands in the stream, most significant bit first; none where the code does not hold it. -/
def Prefix.code (p : Prefix) (sym : Nat) : List Bool :=
  match p.symbols.findIdx? (· == sym) with
  | none => []
  | some k =>
    let ends := (List.range 15).map (fun i => (p.counts.take (i + 1)).sum)
    match ends.findIdx? (fun e => decide (k < e)) with
    | none => []
    | some i => (lowBits (firstCode p.counts (i + 1) + (k - (p.counts.take i).sum)) (i + 1)).reverse

/-- The last entry of a table of bases that does not lie above a value. -/
def baseOf (l : List (Nat × Nat)) (v : Nat) : Nat := (l.filter (fun x => decide (x.1 ≤ v))).length - 1

/-- The symbols of a token with their extra bits: literal or length, then distance (RFC 1951). -/
def tokenSyms (t : LzToken) : Nat × Option Nat :=
  match t with
  | .byte b => (b.toNat, none)
  | .copy len dist => (257 + baseOf lengthBase len, some (baseOf distBase dist))

/-- A token's bits under a block's two codes. -/
def tokenBits (lit dist : Prefix) (t : LzToken) : List Bool :=
  match t with
  | .byte b => lit.code b.toNat
  | .copy len d =>
    let i := baseOf lengthBase len
    let j := baseOf distBase d
    let x := lengthBase.getD i (0, 0)
    let y := distBase.getD j (0, 0)
    lit.code (257 + i) ++ lowBits (len - x.1) x.2 ++ dist.code j ++ lowBits (d - y.1) y.2

/-- How often each of `n` symbols occurs. -/
def symCounts (l : List Nat) (n : Nat) : List Nat := (List.range n).map (fun i => (l.filter (· == i)).length)

/-- A block's bits: BFINAL, BTYPE, the tables of BTYPE 10, the tokens and the end of the block. How a dynamic block's code table is built from
its symbols is open (R295; log entry 14). -/
def blockBits (dynamicTables last : Bool) (l : List LzToken) : List Bool :=
  if dynamicTables then
    let syms := l.map tokenSyms
    let head := Config.dynamicTables (symCounts (syms.map (·.1) ++ [256]) 286) (symCounts (syms.filterMap (·.2)) 30)
    match infTables { rest := head, pos := 0 } with
    | .ok (lit, dist, _) => [last, false, true] ++ head ++ l.flatMap (tokenBits lit dist) ++ lit.code 256
    | .error _ => [last, false, true] ++ head
  else [last, true, false] ++ l.flatMap (tokenBits fixedLit fixedDist) ++ fixedLit.code 256

/-- The blocks of a stream: one with static tables, one for every 65,536 bytes with dynamic ones (R295). -/
def streamBits (fuel : Nat) (lazyMatch dynamicTables : Bool) (input : List Byte) (pos : Nat) : List Bool :=
  match fuel with
  | 0 => []
  | fuel + 1 =>
    let n := if dynamicTables then min 65536 (input.length - pos) else input.length - pos
    let last := decide (input.length ≤ pos + n)
    blockBits dynamicTables last (lzTokens n lazyMatch input pos n) ++
      (if last then [] else streamBits fuel lazyMatch dynamicTables input (pos + n))

/-- Bits packed into bytes, the last one padded with zero bits (R295). -/
def packBits (fuel : Nat) (l : List Bool) : List Byte :=
  match fuel with
  | 0 => []
  | fuel + 1 =>
    if l.isEmpty then []
    else BitVec.ofNat 8 ((List.range 8).foldl (fun v i => v + b2n (l.getD i false) * 2 ^ i) 0) :: packBits fuel (l.drop 8)

/-- The compressor's raw stream (R295). -/
def deflate (lazyMatch dynamicTables : Bool) (input : List Byte) : List Byte :=
  let bits := streamBits (input.length / 65536 + 1) lazyMatch dynamicTables input 0
  packBits ((bits.length + 7) / 8) bits

/-- What the verify checker finds: agreement, or a difference in the compressed output or in the stored rewrite (R297, R299). -/
def checkerAgrees (v : Checker) (stored : Bool) : Bool :=
  match v with
  | .agrees => true
  | .differs => stored
  | .storedDiffers => !stored

/-- How a compression request ends (R297 to R299). -/
inductive CompEnd where
  | success (out : List Byte)
  | stored (out : List Byte)
  | noGain
  | mismatch
  deriving DecidableEq, Repr

/-- A framed stream inflates to exactly these bytes (R297). -/
def inflatesTo (framing : Nat) (out b : List Byte) : Bool :=
  match inflate framing out b.length with
  | .ok v => v == b
  | .error _ => false

/-- A compression request: the engine's output, checked by inflating it again, then judged; with STORE the input is stored instead where it
would end with NO_GAIN, and that output is verified in turn (R295 to R299). -/
def compressReq (framing : Nat) (lazyMatch dynamicTables store : Bool) (gain cap : Nat) (b : List Byte) (checker : Checker) : CompEnd :=
  let out := frame framing lazyMatch (deflate lazyMatch dynamicTables b) b
  let plain := frame framing lazyMatch (storedBlocks (b.length + 1) b) b
  let miss := if store && decide (plain.length ≤ cap) then (if checkerAgrees checker true then CompEnd.stored plain else CompEnd.mismatch)
    else CompEnd.noGain
  if cap < out.length then miss
  else if !checkerAgrees checker false || !inflatesTo framing out b then .mismatch
  else if gainMet gain b.length out.length then .success out
  else miss

end Sys2Proof.Machine
end

