-- ==== Sys2Proof/Machine/Digests.lean ====
section
/-! DEFINITION. The digest algorithms of Table 13.1 and HMAC (R307, R315): SHA-2 and SHA-3 as FIPS 180-4 and FIPS 202 define
them, and HMAC as FIPS 198-1 does. The manual names the algorithms and not their steps (log entry 18). -/

namespace Sys2Proof.Machine

open Sys2Proof

/-- Rotate a `w`-bit number right. -/
def rotr (w n x : Nat) : Nat := (x >>> n ||| x <<< (w - n)) % 2 ^ w

/-- SHA-256 round constants. -/
def k256 : List Nat :=
  [0x428A2F98, 0x71374491, 0xB5C0FBCF, 0xE9B5DBA5, 0x3956C25B, 0x59F111F1, 0x923F82A4, 0xAB1C5ED5] ++
  [0xD807AA98, 0x12835B01, 0x243185BE, 0x550C7DC3, 0x72BE5D74, 0x80DEB1FE, 0x9BDC06A7, 0xC19BF174] ++
  [0xE49B69C1, 0xEFBE4786, 0x0FC19DC6, 0x240CA1CC, 0x2DE92C6F, 0x4A7484AA, 0x5CB0A9DC, 0x76F988DA] ++
  [0x983E5152, 0xA831C66D, 0xB00327C8, 0xBF597FC7, 0xC6E00BF3, 0xD5A79147, 0x06CA6351, 0x14292967] ++
  [0x27B70A85, 0x2E1B2138, 0x4D2C6DFC, 0x53380D13, 0x650A7354, 0x766A0ABB, 0x81C2C92E, 0x92722C85] ++
  [0xA2BFE8A1, 0xA81A664B, 0xC24B8B70, 0xC76C51A3, 0xD192E819, 0xD6990624, 0xF40E3585, 0x106AA070] ++
  [0x19A4C116, 0x1E376C08, 0x2748774C, 0x34B0BCB5, 0x391C0CB3, 0x4ED8AA4A, 0x5B9CCA4F, 0x682E6FF3] ++
  [0x748F82EE, 0x78A5636F, 0x84C87814, 0x8CC70208, 0x90BEFFFA, 0xA4506CEB, 0xBEF9A3F7, 0xC67178F2]

/-- SHA-512 round constants. -/
def k512 : List Nat :=
  [0x428A2F98D728AE22, 0x7137449123EF65CD, 0xB5C0FBCFEC4D3B2F, 0xE9B5DBA58189DBBC, 0x3956C25BF348B538, 0x59F111F1B605D019, 0x923F82A4AF194F9B, 0xAB1C5ED5DA6D8118] ++
  [0xD807AA98A3030242, 0x12835B0145706FBE, 0x243185BE4EE4B28C, 0x550C7DC3D5FFB4E2, 0x72BE5D74F27B896F, 0x80DEB1FE3B1696B1, 0x9BDC06A725C71235, 0xC19BF174CF692694] ++
  [0xE49B69C19EF14AD2, 0xEFBE4786384F25E3, 0x0FC19DC68B8CD5B5, 0x240CA1CC77AC9C65, 0x2DE92C6F592B0275, 0x4A7484AA6EA6E483, 0x5CB0A9DCBD41FBD4, 0x76F988DA831153B5] ++
  [0x983E5152EE66DFAB, 0xA831C66D2DB43210, 0xB00327C898FB213F, 0xBF597FC7BEEF0EE4, 0xC6E00BF33DA88FC2, 0xD5A79147930AA725, 0x06CA6351E003826F, 0x142929670A0E6E70] ++
  [0x27B70A8546D22FFC, 0x2E1B21385C26C926, 0x4D2C6DFC5AC42AED, 0x53380D139D95B3DF, 0x650A73548BAF63DE, 0x766A0ABB3C77B2A8, 0x81C2C92E47EDAEE6, 0x92722C851482353B] ++
  [0xA2BFE8A14CF10364, 0xA81A664BBC423001, 0xC24B8B70D0F89791, 0xC76C51A30654BE30, 0xD192E819D6EF5218, 0xD69906245565A910, 0xF40E35855771202A, 0x106AA07032BBD1B8] ++
  [0x19A4C116B8D2D0C8, 0x1E376C085141AB53, 0x2748774CDF8EEB99, 0x34B0BCB5E19B48A8, 0x391C0CB3C5C95A63, 0x4ED8AA4AE3418ACB, 0x5B9CCA4F7763E373, 0x682E6FF3D6B2B8A3] ++
  [0x748F82EE5DEFB2FC, 0x78A5636F43172F60, 0x84C87814A1F0AB72, 0x8CC702081A6439EC, 0x90BEFFFA23631E28, 0xA4506CEBDE82BDE9, 0xBEF9A3F7B2C67915, 0xC67178F2E372532B] ++
  [0xCA273ECEEA26619C, 0xD186B8C721C0C207, 0xEADA7DD6CDE0EB1E, 0xF57D4F7FEE6ED178, 0x06F067AA72176FBA, 0x0A637DC5A2C898A6, 0x113F9804BEF90DAE, 0x1B710B35131C471B] ++
  [0x28DB77F523047D84, 0x32CAAB7B40C72493, 0x3C9EBE0A15C9BEBC, 0x431D67C49C100D4C, 0x4CC5D4BECB3E42B6, 0x597F299CFC657E2A, 0x5FCB6FAB3AD6FAEC, 0x6C44198C4A475817]

/-- SHA-256 initial hash. -/
def h256 : List Nat :=
  [0x6A09E667, 0xBB67AE85, 0x3C6EF372, 0xA54FF53A, 0x510E527F, 0x9B05688C, 0x1F83D9AB, 0x5BE0CD19]

/-- SHA-384 initial hash. -/
def h384 : List Nat :=
  [0xCBBB9D5DC1059ED8, 0x629A292A367CD507, 0x9159015A3070DD17, 0x152FECD8F70E5939, 0x67332667FFC00B31, 0x8EB44A8768581511, 0xDB0C2E0D64F98FA7, 0x47B5481DBEFA4FA4]

/-- SHA-512 initial hash. -/
def h512 : List Nat :=
  [0x6A09E667F3BCC908, 0xBB67AE8584CAA73B, 0x3C6EF372FE94F82B, 0xA54FF53A5F1D36F1, 0x510E527FADE682D1, 0x9B05688C2B3E6C1F, 0x1F83D9ABFB41BD6B, 0x5BE0CD19137E2179]

/-- The parameters in which SHA-256 and the 64-bit functions of SHA-2 differ: word bits, round constants and rotations. -/
structure Sha2 where
  w : Nat
  k : List Nat
  /-- rotations of the two big sigmas -/
  big : List Nat
  /-- rotations and shifts of the two small sigmas -/
  small : List Nat

def sha2Short : Sha2 := { w := 32, k := k256, big := [2, 13, 22, 6, 11, 25], small := [7, 18, 3, 17, 19, 10] }
def sha2Long : Sha2 := { w := 64, k := k512, big := [28, 34, 39, 14, 18, 41], small := [1, 8, 7, 19, 61, 6] }

def nth (l : List Nat) (i : Nat) : Nat := l.getD i 0

def Sha2.sig (p : Sha2) (i x : Nat) : Nat :=
  rotr p.w (nth p.big i) x ^^^ rotr p.w (nth p.big (i + 1)) x ^^^ rotr p.w (nth p.big (i + 2)) x

def Sha2.sml (p : Sha2) (i x : Nat) : Nat :=
  rotr p.w (nth p.small i) x ^^^ rotr p.w (nth p.small (i + 1)) x ^^^ x >>> nth p.small (i + 2)

/-- The message schedule: words are consumed from a window of the latest 16. -/
def Sha2.next (p : Sha2) (win : List Nat) : List Nat :=
  win.drop 1 ++
    [(p.sml 3 (nth win 14) + nth win 9 + p.sml 0 (nth win 1) + nth win 0) % 2 ^ p.w]

/-- One round on the eight working words. -/
def Sha2.round (p : Sha2) (k : Nat) (w : Nat) (v : List Nat) : List Nat :=
  match v with
  | [a, b, c, d, e, f, g, h] =>
    let ch := (e &&& f) ^^^ ((2 ^ p.w - 1 - e) &&& g)
    let maj := (a &&& b) ^^^ (a &&& c) ^^^ (b &&& c)
    let t1 := h + p.sig 3 e + ch + k + w
    let t2 := p.sig 0 a + maj
    [(t1 + t2) % 2 ^ p.w, a, b, c, (d + t1) % 2 ^ p.w, e, f, g]
  | _ => v

def Sha2.rounds (p : Sha2) (ks win v : List Nat) : List Nat :=
  match ks with
  | [] => v
  | k :: rest => p.rounds rest (p.next win) (p.round k (nth win 0) v)

/-- The words of a block, most significant byte first. -/
def Sha2.words (p : Sha2) (b : List Byte) (n : Nat) : List Nat :=
  match n with
  | 0 => []
  | n + 1 => unle (b.take (p.w / 8)).reverse :: p.words (b.drop (p.w / 8)) n

/-- Absorb `n` blocks. -/
def Sha2.blocks (p : Sha2) (b : List Byte) (n : Nat) (h : List Nat) : List Nat :=
  match n with
  | 0 => h
  | n + 1 =>
    let v := p.rounds p.k (p.words b 16) h
    p.blocks (b.drop (2 * p.w)) n ((h.zip v).map (fun x => (x.1 + x.2) % 2 ^ p.w))

/-- The whole hash: padding with 0x80, zeros and the bit length, then every block. -/
def Sha2.hash (p : Sha2) (h0 : List Nat) (size : Nat) (m : List Byte) : List Byte :=
  let blk := 2 * p.w
  let tail := p.w / 4
  let pad := (blk - (m.length + 1 + tail) % blk) % blk
  let padded := m ++ [0x80] ++ zeros pad ++ be tail (8 * m.length)
  ((p.blocks padded (padded.length / blk) h0).flatMap (fun x => be (p.w / 8) x)).take size

/-- Keccak round constants. -/
def keccakRc : List Nat :=
  [0x0000000000000001, 0x0000000000008082, 0x800000000000808A, 0x8000000080008000, 0x000000000000808B, 0x0000000080000001, 0x8000000080008081, 0x8000000000008009] ++
  [0x000000000000008A, 0x0000000000000088, 0x0000000080008009, 0x000000008000000A, 0x000000008000808B, 0x800000000000008B, 0x8000000000008089, 0x8000000000008003] ++
  [0x8000000000008002, 0x8000000000000080, 0x000000000000800A, 0x800000008000000A, 0x8000000080008081, 0x8000000000008080, 0x0000000080000001, 0x8000000080008008]

/-- Keccak rotations of lane x + 5y. -/
def keccakRho : List Nat :=
  [0x0, 0x1, 0x3E, 0x1C, 0x1B, 0x24, 0x2C, 0x6] ++
  [0x37, 0x14, 0x3, 0xA, 0x2B, 0x19, 0x27, 0x29] ++
  [0x2D, 0xF, 0x15, 0x8, 0x12, 0x2, 0x3D, 0x38] ++
  [0xE]

/-- Theta: every lane takes the parities of its neighbour columns. -/
def keccakTheta (a : List Nat) : List Nat :=
  let c := (List.range 5).map (fun x =>
    nth a x ^^^ nth a (x + 5) ^^^ nth a (x + 10) ^^^ nth a (x + 15) ^^^ nth a (x + 20))
  let d := (List.range 5).map (fun x => nth c ((x + 4) % 5) ^^^ rotr 64 63 (nth c ((x + 1) % 5)))
  (List.range 25).map (fun i => nth a i ^^^ nth d (i % 5))

/-- Rho and pi: lane (x, y) of the result is lane (x + 3y, x) rotated. -/
def keccakRhoPi (a : List Nat) : List Nat :=
  (List.range 25).map (fun i =>
    let j := (i % 5 + 3 * (i / 5)) % 5 + 5 * (i % 5)
    rotr 64 ((64 - nth keccakRho j) % 64) (nth a j))

/-- Chi, then iota with a round constant. -/
def keccakChi (a : List Nat) (rc : Nat) : List Nat :=
  (List.range 25).map (fun i =>
    let y := i / 5 * 5
    let v := nth a i ^^^ ((2 ^ 64 - 1 - nth a ((i + 1) % 5 + y)) &&& nth a ((i + 2) % 5 + y))
    if i = 0 then v ^^^ rc else v)

def keccakF (a : List Nat) : List Nat :=
  keccakRc.foldl (fun a rc => keccakChi (keccakRhoPi (keccakTheta a)) rc) a

/-- Absorb `n` blocks of `rate` bytes. -/
def keccakAbsorb (rate : Nat) (b : List Byte) (n : Nat) (a : List Nat) : List Nat :=
  match n with
  | 0 => a
  | n + 1 =>
    let blk := fit 200 (b.take rate)
    let a := (List.range 25).map (fun i => nth a i ^^^ num blk (8 * i) 8)
    keccakAbsorb rate (b.drop rate) n (keccakF a)

/-- SHA-3 with an output of `size` bytes. -/
def sha3 (size : Nat) (m : List Byte) : List Byte :=
  let rate := 200 - 2 * size
  let pad := rate - m.length % rate
  let padded := m ++ (if pad = 1 then [0x86] else [0x06] ++ zeros (pad - 2) ++ [0x80])
  ((keccakAbsorb rate padded (padded.length / rate) (List.replicate 25 0)).flatMap (le 8)).take size

/-- The size of a digest by its algorithm code (Table 4.14). -/
def digestSize (alg : Nat) : Nat :=
  match alg with
  | 0 => 32
  | 1 => 48
  | 2 => 64
  | 3 => 32
  | 4 => 48
  | 5 => 64
  | 8 => 32
  | 9 => 48
  | 10 => 64
  | _ => 0

/-- The digest of a message by its algorithm code, HMAC codes giving their hash (Table 4.14). -/
def hashAlg (alg : Nat) (m : List Byte) : List Byte :=
  match alg % 8 with
  | 0 => sha2Short.hash h256 32 m
  | 1 => sha2Long.hash h384 48 m
  | 2 => sha2Long.hash h512 64 m
  | 3 => sha3 32 m
  | 4 => sha3 48 m
  | _ => sha3 64 m

/-- SHA-384 (R261, R317). -/
def sha384 (m : List Byte) : List Byte := hashAlg 1 m

/-- HMAC under a key (R315). -/
def hmac (alg : Nat) (key m : List Byte) : List Byte :=
  let blk := if alg % 8 = 0 then 64 else 128
  let k := fit blk (if blk < key.length then hashAlg alg key else key)
  hashAlg alg (k.map (fun x => x ^^^ 0x5C) ++ hashAlg alg (k.map (fun x => x ^^^ 0x36) ++ m))

/-- The result of a finished digest message (R309, R315): `key` for the HMAC algorithms. -/
def digestOf (alg : Nat) (key m : List Byte) : List Byte := if 8 ≤ alg then hmac alg key m else hashAlg alg m

/-- An algorithm code of Table 4.14. -/
def algValid (alg : Nat) : Bool := alg ≤ 5 || (8 ≤ alg && alg ≤ 10)

end Sys2Proof.Machine
end

