-- ==== Sys2Proof/Machine/Operands.lean ====
section
/-! DEFINITION. Operand forms: the 64-byte packet of Table 4.1, the fields each opcode of the catalogue names with their
ranges (R90, R91, R98, R100 to R108), fragment lists (R92), and the immediates of Kite (R234). -/

namespace Sys2Proof.Machine

open Sys2Proof

/-! ### The packet (R88, R89) -/

/-- The fields of a 64-byte packet (Table 4.1). -/
def parsePacket (b : List Byte) : Packet :=
  { opc := num b 0x00 2, flags := num b 0x02 2, cookie := num b 0x04 4, dlen := num b 0x08 4, vol := num b 0x0C 4,
    addr := num b 0x10 8, dptr := num b 0x18 8, p0 := num b 0x20 4, p1 := num b 0x24 4, p2 := num b 0x28 4,
    p3 := num b 0x2C 4, p4 := num b 0x30 4, p5 := num b 0x34 4, rsv := num b 0x38 4, chk := num b 0x3C 4 }

/-- CHK agrees with bytes 0x00 to 0x3B (R89). -/
def chkOk (b : List Byte) : Bool := decide (crc32c (field b 0 0x3C) = num b 0x3C 4)

/-- The group of an opcode (Table 4.1). -/
def Packet.group (p : Packet) : Nat := p.opc / 256

/-- FLAGS.FRAG (Table 4.2). -/
def Packet.frag (p : Packet) : Bool := bit p.flags 0

/-- FLAGS.DST_ARENA (Table 4.2). -/
def Packet.arena (p : Packet) : Bool := bit p.flags 2

/-- FLAGS[8]: STORE of COMPRESS, EXTEND of DIGEST (Table 4.13). -/
def Packet.flag8 (p : Packet) : Bool := bit p.flags 8

/-- FLAGS.MORE of DIGEST (Table 4.13). -/
def Packet.more (p : Packet) : Bool := bit p.flags 9

/-- FLAGS.CONT of DIGEST (Table 4.13). -/
def Packet.cont (p : Packet) : Bool := bit p.flags 10

/-- Blocks of a data command: DLEN / 4,096, or PARAM0 for TRIM and WRITE_ZEROES (R104). -/
def Packet.blocks (p : Packet) : Nat := if p.opc = 0x0403 ∨ p.opc = 0x0406 then p.p0 else p.dlen / 4096

/-- The algorithm of a DIGEST names an HMAC (Table 4.14). -/
def Packet.hmacAlg (p : Packet) : Bool := decide (8 ≤ p.p4 ∧ p.p4 ≤ 10)

/-! ### The fields each opcode names (check 3 of Table 4.5) -/

/-- What the catalogue says of an opcode's fields: the FLAGS bits it defines, a further condition on FLAGS, and for each
other field none where it is reserved, or whether its value lies in its stated range. -/
structure Row where
  mask : Nat := 0
  flags : Bool := true
  dlen : Option Bool := none
  vol : Option Bool := none
  addr : Option Bool := none
  dptr : Option Bool := none
  p0 : Option Bool := none
  p1 : Option Bool := none
  p2 : Option Bool := none
  p3 : Option Bool := none
  p4 : Option Bool := none
  p5 : Option Bool := none

/-- A value between two bounds. -/
def within (v lo hi : Nat) : Option Bool := some (decide (lo ≤ v ∧ v ≤ hi))

/-- A multiple of a step between two bounds. -/
def stepped (v lo hi n : Nat) : Option Bool := some (decide (lo ≤ v ∧ v ≤ hi ∧ v % n = 0))

/-- Any value of the field. -/
def anyVal : Option Bool := some true

/-- VOL: a volume number from 0 to 65,535, its top byte zero (Table 4.1). -/
def volField (p : Packet) : Option Bool := within p.vol 0 65535

/-- The Admin group (R100, R101). R463 does not say at which check a FW_DOWNLOAD that ends above 0x00F0_0000 is found: the model judges it here,
at check 3 (DESIGN CHOICE, log entry 80). -/
def adminRow (p : Packet) : Option Row :=
  match p.opc with
  | 0x0101 => some { mask := 3, dptr := anyVal, dlen := within p.dlen 4096 4096, p0 := within p.p0 0 1,
                     p1 := some (decide (p.p0 = 1 ∨ p.p1 = 0)) }
  | 0x0102 => some { mask := 3, dptr := anyVal, dlen := stepped p.dlen 4 1048576 4, p0 := within p.p0 1 6,
                     p1 := some (decide (p.p1 % 4 = 0)) }
  | 0x0103 => some { p0 := within p.p0 1 9,
                     p1 := some (match featureRange p.p0 with
                       | some (lo, hi) => decide (lo ≤ p.p1 ∧ p.p1 ≤ hi)
                       | none => true) }
  | 0x0104 => some { p0 := within p.p0 1 9 }
  | 0x0105 => some { mask := 3, dptr := anyVal, dlen := stepped p.dlen 4096 1048576 4096,
                     p0 := some (decide (p.p0 % 4096 = 0 ∧ p.p0 + p.dlen ≤ 0xF00000)), p1 := within p.p1 0 1 }
  | 0x0106 => some { p0 := within p.p0 0 1, p1 := within p.p1 0 1 }
  | _ => none

/-- The Queue group (R102, Table 3.2). -/
def queueRow (p : Packet) : Option Row :=
  match p.opc with
  | 0x0201 => some { p0 := within p.p0 1 0xFFFFF, p1 := within p.p1 0 4095, p2 := within p.p2 1 256, p3 := within p.p3 0 1 }
  | 0x0202 => some { p0 := within p.p0 1 0xFFFFF }
  | 0x0203 => some { addr := some (decide (p.addr % 4096 = 0)), p0 := within p.p0 1 4095, p1 := within p.p1 6 16,
                     p2 := within p.p2 0 2047, p3 := within p.p3 1 256, p4 := within p.p4 0 1000 }
  | 0x0204 => some { p0 := within p.p0 1 4095 }
  | 0x0205 => some { p0 := within p.p0 0 0xFFFFF }
  | _ => none

/-- The Volume and Data groups (R103, R104). -/
def volumeRow (p : Packet) : Option Row :=
  let data := stepped p.dlen 4096 8388608 4096
  match p.opc with
  | 0x0301 => some { vol := volField p, addr := within p.addr 1 0x4000000000, p0 := within p.p0 0 7 }
  | 0x0302 => some { vol := volField p }
  | 0x0303 => some { vol := volField p }
  | 0x0304 => some { vol := volField p, p0 := within p.p0 0 1 }
  | 0x0401 => some { mask := 3, vol := volField p, addr := anyVal, dptr := anyVal, dlen := data }
  | 0x0402 => some { mask := 3, vol := volField p, addr := anyVal, dptr := anyVal, dlen := data }
  | 0x0403 => some { vol := volField p, addr := anyVal, p0 := some (decide (1 ≤ p.p0)) }
  | 0x0404 => some { vol := volField p }
  | 0x0405 => some { mask := 3, vol := volField p, addr := anyVal, dptr := anyVal, dlen := data }
  | 0x0406 => some { vol := volField p, addr := anyVal, p0 := some (decide (1 ≤ p.p0)) }
  | 0x0407 => some { vol := volField p, addr := anyVal, dptr := some (decide (p.dptr % 64 = 0)), dlen := data }
  | _ => none

/-- The Engine group (R105, R285, R286, R310, R311, R317). -/
def engineRow (p : Packet) : Option Row :=
  match p.opc with
  | 0x0501 => some { mask := 0x107, addr := anyVal, dptr := anyVal, dlen := within p.dlen 1 1048576,
                     p0 := some (decide (1 ≤ p.p0)), p1 := some (decide (p.p1 ≤ 15 ∧ p.p1 % 4 ≠ 3)),
                     p2 := some (decide (p.p2 ≤ 50 ∨ p.p2 = 255)) }
  | 0x0502 => some { mask := 7, addr := anyVal, dptr := anyVal, dlen := within p.dlen 1 1048576,
                     p0 := within p.p0 1 16777216, p1 := within p.p1 0 2 }
  | 0x0503 => some { mask := 0x707, addr := anyVal, dlen := anyVal,
                     dptr := some (p.dlen != 0 || (!p.frag && p.dptr == 0)),
                     p0 := some (if p.more then p.p0 == 0 else decide (digestSize p.p4 ≤ p.p0)),
                     p1 := some (if p.hmacAlg && !p.cont then decide (p.p1 ≤ 63) else p.p1 == 0),
                     p2 := some (if p.cont then decide (p.p2 ≤ 63) else p.p2 == 0),
                     p3 := some (if p.flag8 then decide (5 ≤ p.p3 ∧ p.p3 ≤ 31) else p.p3 == 0),
                     p4 := some (algValid p.p4) }
  | 0x0504 => some { mask := 0x603, addr := anyVal, dlen := anyVal,
                     dptr := some (p.dlen != 0 || (!p.frag && p.dptr == 0)),
                     p1 := some (if p.hmacAlg && !p.cont then decide (p.p1 ≤ 63) else p.p1 == 0),
                     p2 := some (if p.cont then decide (p.p2 ≤ 63) else p.p2 == 0),
                     p4 := some (algValid p.p4) }
  | 0x0505 => some { mask := 3, dptr := anyVal, dlen := some (decide (p.dlen % 32 = 0)), p0 := within p.p0 0 7,
                     p1 := within p.p1 0 4095 }
  | 0x0506 => some { mask := 7, addr := anyVal, dptr := anyVal, dlen := stepped p.dlen 8 1048576 8, p0 := anyVal,
                     p1 := within p.p1 0 7 }
  | 0x0507 => some { mask := 6, addr := anyVal, p0 := anyVal, p1 := within p.p1 0 7, p2 := within p.p2 0 4095,
                     p3 := within p.p3 1 4096 }
  | _ => none

/-- The Program group (R106, R260). -/
def programRow (p : Packet) : Option Row :=
  match p.opc with
  | 0x0601 => some { mask := 3, dptr := anyVal, dlen := within p.dlen 64 94272, p0 := within p.p0 0 255 }
  | 0x0602 => some { p0 := within p.p0 0 255 }
  | 0x0603 => some { mask := 7, flags := !(p.frag && p.arena), vol := volField p, addr := anyVal, dptr := anyVal,
                     dlen := some (decide (p.dlen % 64 = 0)), p0 := some (decide (1 ≤ p.p0)), p1 := within p.p1 0 255,
                     p2 := within p.p2 1 64, p3 := anyVal, p4 := anyVal, p5 := within p.p5 0 4096 }
  | 0x0604 => some { p0 := within p.p0 0 32767 }
  | 0x0605 => some { p0 := within p.p0 0 32767 }
  | _ => none

/-- The Security group (R107, R317, R331). -/
def securityRow (p : Packet) : Option Row :=
  match p.opc with
  | 0x0701 => some { vol := some (if p.p0 % 2 = 0 then decide (p.vol ≤ 65535) else p.vol == 0), dptr := anyVal,
                     dlen := some (if p.p0 % 2 = 0 then p.dlen == 40 else decide (24 ≤ p.dlen ∧ p.dlen ≤ 72 ∧ p.dlen % 8 = 0)),
                     p0 := within p.p0 0 1, p1 := some (if p.p0 % 2 = 0 then p.p1 == 0 else decide (p.p1 ≤ 63)) }
  | 0x0702 => some { vol := some (if p.p0 % 2 = 0 then decide (p.vol ≤ 65535) else p.vol == 0), p0 := within p.p0 0 1,
                     p1 := some (if p.p0 % 2 = 0 then p.p1 == 0 else decide (p.p1 ≤ 63)) }
  | 0x0703 => some { dptr := anyVal, dlen := within p.dlen 1 4096, p0 := within p.p0 5 31 }
  | 0x0704 => some { dptr := anyVal, dlen := within p.dlen 16 64, addr := anyVal, p0 := anyVal }
  | 0x0705 => some { p0 := within p.p0 0 2 }
  | 0x0706 => some { p0 := within p.p0 0 2, p1 := some (p.p0 == 2 || p.p1 == 0) }
  | 0x0707 => some { p0 := within p.p0 0 1, vol := some (if p.p0 = 1 then decide (p.vol ≤ 65535) else p.vol == 0) }
  | _ => none

/-- The Pair and mesh, Power and health, and Control groups (R108, R446). -/
def controlRow (p : Packet) : Option Row :=
  match p.opc with
  | 0x0801 => some { dptr := anyVal, dlen := within p.dlen 16 64 }
  | 0x0802 => some {}
  | 0x0803 => some { p0 := within p.p0 0 1 }
  | 0x0804 => some { p0 := within p.p0 0 2047, p1 := within p.p1 0 0x3FFF, p2 := within p.p2 0 63 }
  | 0x0805 =>
    let k := bits p.p1 4 0
    let m := bits p.p1 10 8
    let i := bits p.p1 20 16
    some { p0 := within p.p0 0 4095,
           p1 := some (decide (p.p1 = k + m * 256 + i * 65536 ∧ 1 ≤ k ∧ k ≤ 20 ∧ 1 ≤ m ∧ m ≤ 4 ∧ i < k + m)),
           dptr := anyVal, dlen := some (p.dlen == 2 * (k + m)) }
  | 0x0806 => some { p0 := within p.p0 0 4095 }
  | 0x0807 => some { p0 := within p.p0 0 4095, p1 := within p.p1 0 31 }
  | 0x0808 => some { p0 := within p.p0 0 4095 }
  | 0x0901 => some { p0 := within p.p0 0 3 }
  | 0x0902 => some {}
  | 0x0903 => some { dptr := anyVal, dlen := within p.dlen 4096 4096 }
  | 0x0904 => some { p0 := within p.p0 0 1 }
  | 0x0905 => some { p0 := within p.p0 0 2, p1 := some (if p.p0 = 2 then decide (2 ≤ p.p1 ∧ p.p1 ≤ 44) else p.p1 == 0) }
  | 0x0F01 => some { p0 := within p.p0 0 1, p1 := within p.p1 0 0xFFFFF, p2 := some (p.p0 == 0 || decide (p.p2 ≤ 32767)) }
  | 0x0F02 => some {}
  | _ => none

/-- The catalogue's row of a packet's opcode; none where OPC is not in the catalogue (check 1 of Table 4.5). -/
def catalogue (p : Packet) : Option Row :=
  match p.group with
  | 1 => adminRow p
  | 2 => queueRow p
  | 3 => volumeRow p
  | 4 => volumeRow p
  | 5 => engineRow p
  | 6 => programRow p
  | 7 => securityRow p
  | _ => controlRow p

/-- A field is right: its range holds, or it is reserved and zero (R8, R91). -/
def fieldOk (v : Nat) (r : Option Bool) : Bool := r.getD (v == 0)

/-- ADDR of the opcode is a host address that the command reads or writes (R98). -/
def addrIsHost (p : Packet) : Bool := !p.arena && (p.group == 5 || p.opc == 0x0704)

/-- Each field of Table 4.1 by ascending offset, with whether it is right (R91, R92, R98). -/
def Row.checks (r : Row) (p : Packet) (foot : Bool) : List (Nat × Bool) :=
  [(0x02, p.flags &&& r.mask == p.flags && r.flags && !(foot && p.frag)),
   (0x08, fieldOk p.dlen r.dlen),
   (0x0C, fieldOk p.vol r.vol),
   (0x10, fieldOk p.addr r.addr && !(foot && addrIsHost p && p.addr != 0)),
   (0x18, fieldOk p.dptr r.dptr && !(p.frag && p.dptr % 16 != 0) && !(foot && p.dptr != 0)),
   (0x20, fieldOk p.p0 r.p0), (0x24, fieldOk p.p1 r.p1), (0x28, fieldOk p.p2 r.p2), (0x2C, fieldOk p.p3 r.p3),
   (0x30, fieldOk p.p4 r.p4), (0x34, fieldOk p.p5 r.p5), (0x38, p.rsv == 0)]

/-- The lowest offending offset of a packet's fields (R91). -/
def Row.offends (r : Row) (p : Packet) (foot : Bool) : Option Nat :=
  ((r.checks p foot).find? (fun c => !c.2)).map (·.1)

/-! ### Fragment lists (R92, Table 4.3) -/

/-- Read a fragment list from its bytes: the descriptors up to END, or none where the list is refused. -/
def parseFrags (n : Nat) (b : List Byte) : Option (List (Nat × Nat)) :=
  match n with
  | 0 => none
  | n + 1 =>
    if b.length < 16 then none
    else
      let a := num b 0 8
      let len := num b 8 4
      let fl := num b 12 4
      if len = 0 ∨ 1 < fl then none
      else if fl = 1 then some [(a, len)]
      else (parseFrags n (b.drop 16)).map ((a, len) :: ·)

/-- Bytes a fragment list describes (R96). -/
def fragSum (f : List (Nat × Nat)) : Nat := (f.map (·.2)).sum

/-! ### Kite immediates (R234) -/

/-- The immediate of ADDI, CMPI and MOVI after its EXT words (R234, Table 9.6): the bits of the EXTs, first highest, before
the instruction's own 6 bits, sign-extended; with three EXTs the whole 32-bit value. -/
def kiteImm (exts : List Nat) (imm : Nat) : Word :=
  let v := exts.foldl (fun a e => a * 1024 + e % 1024) 0 * 64 + imm % 64
  let w := 6 + 10 * exts.length
  if 32 ≤ w then BitVec.ofNat 32 v
  else if bit v (w - 1) then BitVec.ofNat 32 (v + 2 ^ 32 - 2 ^ w)
  else BitVec.ofNat 32 v

end Sys2Proof.Machine
end

