-- ==== Sys2Proof/Machine/KiteOps.lean ====
section
/-! DEFINITION. Shared operations on Kite clusters, cores, instances and runs (chapters 08 to 10), and on milestones, the
approved mode and zeroisation (chapter 13), which reach each other. -/

namespace Sys2Proof.Machine

open Sys2Proof

/-! ### Clusters, cores, instances, runs -/

/-- An instance of a run, by number (R265). -/
def findInst (s : State) (run k : Nat) : Option Instance :=
  s.kite.insts.find? (fun i => i.run == run && i.num == k)

/-- Change an instance. -/
def modInst (s : State) (run k : Nat) (f : Instance → Instance) : State :=
  upKite s (fun q => { q with insts := q.insts.map (fun i => if i.run = run ∧ i.num = k then f i else i) })

/-- A core by number (R212). -/
def coreAt (s : State) (c : Nat) : Core := s.kite.cores.getD c { state := 7, image := none, inst := none }

/-- Change a core. -/
def modCore (s : State) (c : Nat) (f : Core → Core) : State := upKite s (fun q => { q with cores := lmod q.cores c f })

/-- A cluster by number (R203). -/
def clusterAt (s : State) (n : Nat) : Cluster := s.kite.clusters.getD n Cluster.reset

/-- Change a cluster. -/
def modCluster (s : State) (n : Nat) (f : Cluster → Cluster) : State :=
  upKite s (fun q => { q with clusters := lmod q.clusters n f })

/-- A cluster is busy while it holds a shared area, a dispatched instance or a test (R219). -/
def clusterBusy (s : State) (n : Nat) : Bool :=
  !(clusterAt s n).areas.isEmpty || (clusterAt s n).test || (List.range 8).any (fun i => (coreAt s (8 * n + i)).inst.isSome)

/-- A ring size written while the cluster was busy takes effect once it is not (Table 8.11). -/
def settleRing (s : State) (n : Nat) : State :=
  if clusterBusy s n then s else modCluster s n (fun c => { c with ringNow := c.ringCfg })

/-- A run by its tag (R264). -/
def findRun (s : State) (tag : Nat) : Option Run := s.kite.runs.find? (fun r => r.tag == tag)

/-- Change a run. -/
def modRun (s : State) (tag : Nat) (f : Run → Run) : State :=
  upKite s (fun q => { q with runs := q.runs.map (fun r => if r.tag = tag then f r else r) })

/-- Q in bytes of a ring size code (R208). -/
def ringBytes (code : Nat) : Nat := (code + 1) * 65536

/-- Bytes visible to the core (R208). -/
def Lane.avail (l : Lane) : Nat := 4096 * l.ring.length - l.used

/-- Every block of the list is in the ring (R209). -/
def Lane.drained (l : Lane) : Bool := l.work.isEmpty && decide (l.stop ≤ l.next)

/-- SCAN_STATUS.END: the work list is exhausted and every byte consumed (R209). -/
def Lane.ended (l : Lane) : Bool := l.drained && decide (l.avail = 0)

/-- Move the read position over visible bytes (R208, R209). -/
def Lane.advance (l : Lane) (q n : Nat) : Lane :=
  let u := l.used + n
  { l with ring := l.ring.drop (u / 4096), used := u % 4096, passed := l.passed + u / 4096, offset := (l.offset + n) % q }

/-- The pending event bits (R220, Table 8.9). -/
def pendingEvents (i : Instance) : Nat :=
  b2n (decide (0 < i.lane.avail)) + 2 * b2n i.lane.ended + 4 * b2n (!i.inbox.isEmpty) + i.latched / 8 * 8

/-- A core in WAITING whose instance has an enabled event pending resumes (R221). -/
def rouse (s : State) (run k : Nat) : State :=
  match findInst s run k with
  | some i =>
    match i.state with
    | .dispatched c =>
      if (coreAt s c).state = 3 ∧ pendingEvents i &&& i.regs.ev ≠ 0 then modCore s c (fun x => { x with state := 2 }) else s
    | _ => s
  | none => s

/-- A latched event is set; a core that waits for it resumes (R220, R221). -/
def latchEvent (s : State) (run k bitNo : Nat) : State :=
  rouse (modInst s run k (fun i => { i with latched := i.latched ||| 2 ^ bitNo })) run k

/-- Parameter latches and results of a new instance: all zero (Table 10.3). -/
def Ports.zero : Ports :=
  { wmTable := 0, wmKey := List.replicate 8 0, wmBusy := false, wmResult := 0, dgAddr := 0, dgCtx := none, dgBusy := false,
    dgFeed := none, dgFrom := 0, dgExhausted := false, dgCleared := false, dgDone := false, dgNoMessage := false, dgOut := [],
    cpMode := 0, cpSrc := 0, cpSrcLen := 0, cpDst := 0, cpDstCap := 0, cpBusy := false, cpReq := none, cpFrom := 0, cpResult := 0,
    cpOutLen := 0, dmaSrc := 0, dmaLen := 0, dmaDstLo := 0, dmaDstHi := 0, dmaBusy := false, dmaReq := none, dmaFrom := 0,
    dmaOffset := 0, dmaFull := false, dmaError := false }

/-- An engine or DMA request of the instance has not completed (R254, R273). -/
def Ports.busy (p : Ports) : Bool := p.wmBusy || p.dgBusy || p.cpBusy || p.dmaBusy

/-- One resolved read of a band has finished (R148). -/
def bandRead (s : State) (band : Option Nat) : State :=
  match band with
  | some b => upMed s (fun m => { m with bands := mmod m.bands b (fun x => { x with reads := x.reads - 1 }) })
  | none => s

/-- An instance ends: its core falls idle, the digest message it holds is discarded once a request of it has run to completion, the
locations it had resolved are free again, and it waits for nothing (R251, R273, R148). -/
def endInst (s : State) (run k : Nat) : State :=
  match findInst s run k with
  | none => s
  | some i =>
    if i.state = .ended then s
    else
      let s := match i.state with
        | .dispatched c => modCore s c (fun x => { x with state := 0, inst := none })
        | _ => s
      let s := if i.ports.dgBusy then s else
        upSec s (fun e => { e with contexts := e.contexts.filter (fun x => x.2.kite != some (run, k)) })
      let s := (i.lane.work ++ i.lane.ring).foldl (fun s b => bandRead s b.band) s
      let s := modInst s run k (fun i =>
        { i with state := .ended, spill := none, outbox := [],
                 lane := { i.lane with work := [], ring := [], next := i.lane.stop, used := 0 },
                 ports := if i.ports.dgBusy then i.ports else { i.ports with dgCtx := none, dgFeed := none } })
      upKite s (fun q => { q with readyQ := q.readyQ.filter (fun x => x != (run, k)) })

/-- An ending event of a run: the first decides the reply, and every instance stops (R273, Table 10.4). -/
def endRun (s : State) (tag : Nat) (r : Reply) : State :=
  match findRun s tag with
  | none => s
  | some x =>
    if x.ending.isSome then s
    else
      let s := x.found.foldl (fun s b => bandRead s b.2.band) s
      let s := modRun s tag (fun x => { x with ending := some r, found := [] })
      let s := (s.kite.insts.filter (fun i => i.run == tag)).foldl (fun s i => endInst s tag i.num) s
      upKite s (fun q => { q with mail := q.mail.filter (fun w => w.1 != tag) })

/-- Instances of a run that have not ended (R275). -/
def liveInsts (s : State) (tag : Nat) : Nat :=
  (s.kite.insts.filter (fun i => i.run == tag && i.state != .ended)).length

/-- A run not yet ended, by the tag of its SCAN_RUN (R274). -/
def runningScan (s : State) (tag : Nat) : Bool :=
  s.tsk.ops.any (fun o => o.tag == tag && o.pkt.opc == 0x0603 && o.stage != .finished && o.stage != .completed)

/-! ### The data address space (R204, R228; Table 8.2) -/

/-- Where a range of the data space lies. -/
inductive Region where
  | localData
  /-- the run's shared area, and the offset in it -/
  | shared (off : Nat)
  /-- the lane's ring window, and the offset in it -/
  | ring (off : Nat)
  deriving DecidableEq, Repr

/-- The run's shared area on the instance's cluster (R204). -/
def areaOf (s : State) (i : Instance) : Option Area := (clusterAt s i.cluster).areas.find? (fun a => a.run == i.run)

/-- The region that holds a whole range; none where some of it is unmapped (Table 8.2). -/
def region (s : State) (i : Instance) (a n : Nat) : Option Region :=
  let q := ringBytes (clusterAt s i.cluster).ringNow
  let size := match areaOf s i with
    | some x => x.units * 65536
    | none => 0
  if a + n ≤ 0x10000 then some .localData
  else if 0x100000 ≤ a ∧ a + n ≤ 0x100000 + size then some (.shared (a - 0x100000))
  else if 0x300000 - q ≤ a ∧ a + n ≤ 0x300000 then some (.ring (a - (0x300000 - q)))
  else none

/-- Shared memory serves the region: the area and the ring window (R241). -/
def Region.isShared (r : Region) : Bool :=
  match r with
  | .localData => false
  | _ => true

/-- Read bytes of a mapped range. A byte of the ring window that the lane has not written is open (log entry 12). -/
def dataRead (s : State) (i : Instance) (a n : Nat) : Option (List Byte) :=
  match region s i a n with
  | none => none
  | some .localData => some ((span a n).map (fun x => mgetD i.localMem x 0))
  | some (.shared off) => (areaOf s i).map (fun r => (span off n).map (fun x => mgetD r.mem x 0))
  | some (.ring off) =>
    some ((List.range n).map (fun j => (mget i.lane.mem (off + j)).getD (Config.freeByte (s.free + j))))

/-- Read bytes of a mapped range, using up the open values they may hold. -/
def dataTake (s : State) (i : Instance) (a n : Nat) : Option (List Byte × State) :=
  (dataRead s i a n).map (fun b => (b, { s with free := s.free + n }))

/-- Write bytes to a mapped range outside the ring window; none elsewhere (R204, R228). -/
def dataWrite (s : State) (i : Instance) (a : Nat) (b : List Byte) : Option State :=
  match region s i a b.length with
  | some .localData => some (modInst s i.run i.num (fun x => { x with localMem := storeNonzero x.localMem a b }))
  | some (.shared off) =>
    some (modCluster s i.cluster (fun c => { c with areas := c.areas.map (fun r =>
      if r.run = i.run then { r with mem := storeNonzero r.mem off b } else r) }))
  | _ => none

/-- A source range that an engine reads: the bytes that have changed since it was taken are open (Table 9.16; log entry 12). -/
def sourceNow (s : State) (i : Instance) (a : Nat) (b : List Byte) : List Byte × State :=
  match dataRead s i a b.length with
  | some now =>
    if now = b then (b, s)
    else
      let f := freeBytes s b.length
      (((b.zip now).zip f.1).map (fun x => if x.1.1 = x.1.2 then x.1.1 else x.2), f.2)
  | none => freeBytes s b.length

/-! ### Milestones and the approved mode (R317, R330, R500) -/

/-- Milestone n (R317). -/
def milestone (s : State) (n : Nat) : List Byte := mgetD s.sec.milestones n (zeros 48)

/-- The attestation public key as an uncompressed SEC 1 point: key material of identity 0 (R320; log entry 15). -/
def attestPublic : List Byte := 4 :: secret 0 96

/-- Extend milestone n: M := SHA-384(M followed by the value), and its count goes up by one (R317). -/
def extendMs (s : State) (n : Nat) (v : List Byte) : State :=
  upSec s (fun e => { e with
    milestones := mset e.milestones n (sha384 (mgetD e.milestones n (zeros 48) ++ v)),
    msCount := mset e.msCount n (wrapInc (mgetD e.msCount n 0)) })

/-- The 8-byte record that extends M2 (Table 13.17). -/
def msRecord (code kind target : Nat) : List Byte := le 8 (code + kind * 256 + target * 2 ^ 32)

/-- The conditions of R330 hold. -/
def approvedNow (s : State) : Bool :=
  s.sec.powerupDone && !s.sec.errorState && s.hst.ideIo && s.hst.ideCm && decide (2 ≤ s.hst.session) &&
    !s.sec.footpathUsed && !s.sec.roleOut

/-- SEC_STATUS.APPROVED follows its conditions, and each change extends M2 (R330, R500). -/
def reApprove (s : State) : State :=
  if approvedNow s = s.sec.approved then s
  else
    let s := upSec s (fun e => { e with approved := !e.approved })
    extendMs s 2 (msRecord (if s.sec.approved then 0x80 else 0x81) 0 0)

/-- A service the User role may use (R330). -/
def userService (opc : Nat) : Bool :=
  opc / 256 == 4 || opc / 256 == 5 || opc / 256 == 6 || opc == 0x0703 || opc == 0x0704

/-- An accepted command's source and role bear on the approved mode (R330). -/
def roleCheck (s : State) (src : Source) (opc : Nat) : State :=
  reApprove (upSec s (fun e => { e with
    footpathUsed := e.footpathUsed || src == .footpath,
    roleOut := e.roleOut || (s.hst.session == 3 && src != .footpath && !userService opc) }))

/-! ### Zeroisation (R316) -/

/-- Each link derives fresh session keys from its retained secret (R316, R328). -/
def rekeyLinks (now : Nat) (m : SMap LinkKey) : SMap LinkKey :=
  m.map (fun p => (p.1, if p.2.secret.isSome then
    { p.2 with counter := wrapInc p.2.counter, rxCounter := wrapInc p.2.rxCounter, packets := 0, since := now } else p.2))

/-- Zeroisation (Table 13.4): every digest message ends, the key cache, working keys, link session keys and DRBG state are
cleared; parts in progress or waiting fail with CONTEXT_CLEARED and the DETAIL of the trigger. -/
def zeroise (s : State) (detail : Nat) : State :=
  let parts := s.sec.contexts.flatMap (fun c => c.2.parts)
  let held := s.sec.contexts.filterMap (fun c => c.2.kite)
  let s := upSec s (fun e => { e with
    contexts := [], keyCache := [], rootGen := e.rootGen + 1, drbgSeeded := false, links := rekeyLinks s.glb.lifetime e.links,
    zeroises := satInc e.zeroises })
  let s := parts.foldl (fun s t => finish s t { status := stCleared, detail }) s
  held.foldl (fun s h =>
    let was := match findInst s h.1 h.2 with
      | some i => i.ports.dgBusy
      | none => false
    let s := modInst s h.1 h.2 (fun i => { i with ports := { i.ports with
      dgCtx := none, dgBusy := false, dgFeed := none, dgCleared := true, dgDone := false, dgOut := [] } })
    if was then latchEvent s h.1 h.2 6 else s) s

/-- The module enters the error state (R332). -/
def enterError (s : State) : State :=
  let s := zeroise s 2
  let s := upSec s (fun e => { e with errorState := true })
  let s := upGlb s (fun g => { g with ready := false })
  raise (reApprove s) (unit islCrypt 5)

end Sys2Proof.Machine
end

