-- ==== Sys2Proof/Machine/Checks.lean ====
section
/-! DEFINITION. How an accepted packet is checked: checks 1 to 5 of Table 4.5 (R94), with the conditions on objects and limits
that each chapter adds to check 5. -/

namespace Sys2Proof.Machine

open Sys2Proof

/-! ### Volumes as commands see them -/

/-- A volume that a command may name: it exists and is not an own volume that is held (R103, R353). -/
def volAt (s : State) (v : Nat) : Option Volume :=
  match mget s.med.volumes v with
  | some x => if s.pair.held && !x.foster then none else some x
  | none => none

/-- Stretches of a capacity in blocks (R125). -/
def stretches (c : Nat) : Nat := (c + 511) / 512

/-- Stretches provisioned (R125). -/
def provisioned (s : State) : Nat := (s.med.volumes.map (fun p => stretches p.2.capacity)).sum

/-- Stretches the directory region holds: 8 bytes an entry, at most 2^29 (R125). -/
def directoryLimit (s : State) : Nat := min (2 ^ 29) (s.drc.directory * 2 ^ 27)

/-- The partner holds a volume of this number: a foster key record (R342). -/
def partnerHas (s : State) (v : Nat) : Bool := s.sec.keyLog.any (fun k => k.vol == v && k.kind == 1)

/-- The device is READ_ONLY, from spares or from HOLDUP_SENSE (R173, R174). -/
def readOnly (s : State) : Bool := s.med.spareState == 3 || s.med.holdupRo

/-- The spare state that registers and logs report (R173). -/
def spareReport (s : State) : Nat := if s.med.holdupRo then 3 else s.med.spareState

/-- A sanitise is running, or accepted and not yet started (Table 4.18, Table 4.20). -/
def sanitising (s : State) : Bool :=
  s.med.progress.state == 1 || s.tsk.ops.any (fun o => o.pkt.opc == 0x0706 && o.stage != .finished && o.stage != .completed)

/-- A format of the volume runs or waits to run (R179). -/
def formatting (s : State) (v : Nat) : Bool :=
  match mget s.med.volumes v with
  | some x => x.formatting
  | none => false

/-! ### Check 4: the state allows the command (Table 4.18) -/

/-- A command that needs GLB_STATUS.READY (Table 4.18). -/
def needsReady (opc : Nat) : Bool :=
  let g := opc / 256
  g == 3 || g == 4 || g == 6 || g == 8 || opc == 0x0706

/-- A command that a sanitise shuts out (Table 4.18). -/
def sanitiseBars (opc : Nat) : Bool :=
  (opc / 256 == 3 && opc != 0x0303) || opc / 256 == 4 || opc == 0x0603 || opc == 0x0701 || opc == 0x0702 || opc == 0x0706

/-- A command that changes stored data (Table 4.18, READ_ONLY). -/
def writesData (opc : Nat) : Bool :=
  opc == 0x0402 || opc == 0x0403 || opc == 0x0406 || opc == 0x0304 || opc == 0x0301

/-- Opcodes that ROM recovery accepts (R460). -/
def recoveryServes (opc : Nat) : Bool := opc == 0x0101 || opc == 0x0105 || opc == 0x0106 || opc == 0x0F02

/-- Check 4 of Table 4.5: the state status a command meets, if any. The refusals are taken in the order NOT_READY,
SANITISE_IN_PROGRESS, READ_ONLY (log entry 19). In a service start SANITISE is accepted over Footpath (R475). -/
def checkState (s : State) (p : Packet) (foot : Bool) : Option Reply :=
  if s.glb.romRecovery && !recoveryServes p.opc then some { status := stNotReady }
  else if needsReady p.opc && !s.glb.ready && !(p.opc == 0x0706 && foot && s.glb.serviceStart) then some { status := stNotReady }
  else if sanitiseBars p.opc && sanitising s then some { status := stSanitise }
  else if (p.group == 4 || p.opc == 0x0603) && formatting s p.vol then some { status := stSanitise, detail := 1 }
  else if writesData p.opc && readOnly s then some { status := stReadOnly }
  else if p.opc == 0x0701 && (foot || s.hst.session < 1) then some (bad 0x20)
  else none

/-! ### Check 5: objects and limits -/

/-- The first condition that fails decides (R94). -/
def firstBad (l : List (Bool × Reply)) : Option Reply := (l.find? (fun c => !c.1)).map (·.2)

/-- A queue that check 5 may name: it exists and is not being deleted (R59). -/
def queueLive (s : State) (q : Nat) : Bool :=
  match queueAt s q with
  | some x => x.deleting.isNone
  | none => false

/-- A ring exists (R87). Ring 0 counts as existing while TSK_RING0_CTRL.EN is 0: R65 says no ring then exists, R54 that ring 0 is never
deleted (DESIGN CHOICE, log entry 78). -/
def ringExists (s : State) (r : Nat) : Bool := (mget s.tsk.rings r).isSome

/-- Some existing queue is bound to the ring (R60). -/
def ringBound (s : State) (r : Nat) : Bool := r == 0 || s.tsk.queues.any (fun q => q.2.ring == r)

/-- Check 5 of the Admin and Queue groups (R102, Table 3.2, R460). -/
def checkQueue (s : State) (p : Packet) : Option Reply :=
  match p.opc with
  | 0x0105 => firstBad [(!((s.glb.romRecovery || (s.glb.serviceStart && !s.drc.trained)) && p.p1 == 1), bad 0x24)]
  | 0x0201 => firstBad [((queueAt s p.p0).isNone, { status := stQueueLimit, detail := 1 }), (ringExists s p.p1, bad 0x24)]
  | 0x0202 => firstBad [(queueLive s p.p0, bad 0x20)]
  | 0x0203 => firstBad [(!ringExists s p.p0, { status := stQueueLimit, detail := 2 })]
  | 0x0204 => firstBad [(ringExists s p.p0 && !ringBound s p.p0, bad 0x20)]
  | 0x0205 => firstBad [((queueAt s p.p0).isSome, bad 0x20)]
  | _ => none

/-- A pending imported key for a volume (R326). -/
def pendingKey (s : State) (v : Nat) : Option KeyRec := s.sec.keyLog.find? (fun k => k.vol == v && k.kind == 2)

/-- Check 5 of the Volume and Data groups (R103, R104, R125, R326, R342). -/
def checkVolume (s : State) (p : Packet) : Option Reply :=
  if p.opc = 0x0301 then
    firstBad [
      ((mget s.med.volumes p.vol).isNone && !(s.pair.state != 0 && partnerHas s p.vol), { status := stQueueLimit, detail := 3 }),
      (decide (provisioned s + stretches p.addr ≤ directoryLimit s), { status := stQueueLimit, detail := 6 }),
      (!bit p.p0 2 || (pendingKey s p.vol).isSome, bad 0x20)]
  else
    match volAt s p.vol with
    | none => some (bad 0x0C)
    | some v =>
      if p.group = 3 ∨ p.opc = 0x0404 then none
      else
        firstBad [
          (decide (p.addr + p.blocks ≤ v.capacity), bad 0x10),
          (p.opc != 0x0407 || decide (p.dptr + p.dlen ≤ arenaBytes s), bad 0x18)]

/-- Units in an entry of a WIDTH code (R277). -/
def wUnits (width : Nat) : Nat := if width = 0 then 1 else if width = 1 then 2 else 4

/-- Bytes of an entry record of a WIDTH code (R282). -/
def recBytes (width : Nat) : Nat := if width = 0 then 32 else if width = 1 then 64 else 96

/-- A Waymark table's registers (Table 11.5). -/
def wTable (s : State) (t : Nat) : WTable := s.way.tables.getD t WTable.reset

/-- With DST_ARENA, ADDR + PARAM0 stays within the Arena in force (R504). -/
def arenaFits (s : State) (p : Packet) : Bool := !p.arena || decide (p.addr + p.p0 ≤ arenaBytes s)

/-- The message bytes that the parts of a context accepted so far bring to it (R310, R311). -/
def messageLen (s : State) (c : DigestCtx) : Nat :=
  c.data.length + (c.parts.map (fun t => match findOp s t with
    | some o => o.pkt.dlen
    | none => 0)).sum

/-- A command-path context that holds an unfinished message of the algorithm (Table 4.14, R310). A context whose final part
is accepted is finished with that part. -/
def contextFor (s : State) (p : Packet) : Option DigestCtx :=
  match mget s.sec.contexts p.p2 with
  | some c =>
    let closed := c.parts.any (fun t => match findOp s t with
      | some o => !o.pkt.more
      | none => false)
    if c.kite.isNone && c.alg == p.p4 && !closed then some c else none
  | none => none

/-- The lowest free digest context (R308). -/
def freeContext (s : State) : Option Nat := (List.range 64).find? (fun n => (mget s.sec.contexts n).isNone)

/-- Check 5 of the Engine group (R105, R282, R285, R286, R308 to R311, R504). -/
def checkEngine (s : State) (p : Packet) : Option Reply :=
  match p.opc with
  | 0x0501 => firstBad [(arenaFits s p, bad 0x10)]
  | 0x0502 => firstBad [(arenaFits s p, bad 0x10)]
  | 0x0505 =>
    let t := wTable s p.p0
    firstBad [
      (t.width == 3 || p.dlen % recBytes t.width == 0, bad 0x08),
      (t.en && t.ready, bad 0x20),
      (decide (p.p1 + p.dlen / recBytes t.width ≤ 4096), bad 0x24)]
  | 0x0506 =>
    let t := wTable s p.p1
    let k := 8 * wUnits t.width
    firstBad [
      (t.width == 3 || (p.dlen % k == 0 && decide (k ≤ p.dlen)), bad 0x08),
      (arenaFits s p, bad 0x10),
      (t.width == 3 || decide (8 * (p.dlen / k) ≤ p.p0), bad 0x20),
      (t.en && t.ready, bad 0x24)]
  | 0x0507 =>
    firstBad [(arenaFits s p, bad 0x10), ((wTable s p.p1).en, bad 0x24), (decide (p.p2 + p.p3 ≤ 4096), bad 0x2C)]
  | _ =>
    let ctx := contextFor s p
    let len := match ctx with
      | some c => messageLen s c
      | none => 0
    firstBad [
      (decide (len + p.dlen ≤ 2 ^ 61 - 1), bad 0x08),
      (p.opc == 0x0504 || p.more || arenaFits s p, bad 0x10),
      (!p.hmacAlg || p.cont || (mget s.sec.hmacKeys p.p1).isSome, bad 0x24),
      (!p.cont || ctx.isSome, bad 0x28),
      (p.cont || (freeContext s).isSome, { status := stExhausted })]

/-- The cluster instance j of a run is tied to (R265). -/
def instCluster (j : Nat) : Nat := 2 * (j % 4) + j / 4 % 2

/-- Instances of a run of N cores (R265). -/
def runSize (n : Nat) : Nat := max n 4

/-- Bytes of shared memory a shared area may take on a cluster: 2 MiB − 8 × Q (R204). -/
def areaRoom (c : Cluster) : Nat := 0x200000 - 8 * ringBytes c.ringNow

/-- A PROGRAM_LOAD into the slot is accepted and has not ended: the slot counts as occupied (DEDUCED, log entry 27). -/
def slotLoading (s : State) (slot : Nat) : Bool :=
  s.tsk.ops.any (fun o => o.pkt.opc == 0x0601 && o.pkt.p0 == slot && o.stage != .finished && o.stage != .completed)

/-- Check 5 of the Program group (R106, R262, R263, R274). -/
def checkProgram (s : State) (p : Packet) : Option Reply :=
  match p.opc with
  | 0x0601 => firstBad [((mget s.kite.programs p.p0).isNone && !slotLoading s p.p0, { status := stQueueLimit, detail := 5 })]
  | 0x0602 => firstBad [((mget s.kite.programs p.p0).isSome, { status := stNotLoaded })]
  | 0x0603 =>
    match volAt s p.vol with
    | none => some (bad 0x0C)
    | some v =>
      let prog := mget s.kite.programs p.p1
      firstBad [
        (!p.arena || (decide (p.dptr % 64 = 0) && decide (p.dptr + p.dlen ≤ arenaBytes s)), bad 0x18),
        (decide (p.addr + p.p0 ≤ v.capacity), bad 0x20),
        (match prog with
          | some g => !g.unloading
          | none => false, { status := stNotLoaded }),
        (match prog with
          | some g => (List.range (runSize p.p2)).all (fun j =>
              decide (g.units * 65536 ≤ areaRoom (clusterAt s (instCluster j))))
          | none => true, bad 0x24)]
  | _ => firstBad [(runningScan s p.p0, bad 0x20)]

/-- A context holds an unfinished HMAC message that uses the slot (R326). -/
def hmacInUse (s : State) (k : Nat) : Bool := s.sec.contexts.any (fun c => c.2.hmac == some k)

/-- The pair is SOLO and the device belongs to no stripe group (R176). -/
def standsAlone (s : State) : Bool := (s.pair.state == 0 && s.mesh.groups.isEmpty) || (s.glb.serviceStart && s.med.pjmBad)

/-- Check 5 of the Security group (R176, R326, R327, R506). -/
def checkSecurity (s : State) (p : Packet) : Option Reply :=
  match p.opc with
  | 0x0701 =>
    if p.p0 = 0 then firstBad [((mget s.med.volumes p.vol).isNone, { status := stQueueLimit, detail := 3 })]
    else firstBad [(!hmacInUse s p.p1, bad 0x24)]
  | 0x0702 =>
    if p.p0 = 0 then firstBad [((mget s.med.volumes p.vol).isNone, bad 0x0C)]
    else firstBad [(!hmacInUse s p.p1, bad 0x24)]
  | 0x0706 => firstBad [(standsAlone s, bad 0x20)]
  | 0x0707 => firstBad [(p.p0 == 0 || (volAt s p.vol).isSome, bad 0x0C)]
  | _ => none

/-- The group slot of a stripe group this device has joined (R375). -/
def groupSlot (s : State) (id : Nat) : Option (Nat × Group) := s.mesh.groups.find? (fun g => g.2.id == id)

/-- A coordinate of a node ID (R367). -/
def coord (node d : Nat) : Nat := if d = 0 then bits node 3 0 else if d = 1 then bits node 7 4 else bits node 10 8

/-- A dimension's size in MESH_CONFIG's PARAM1 (Table 4.17). -/
def cfgSize (p1 d : Nat) : Nat := (if d = 0 then bits p1 3 0 else if d = 1 then bits p1 7 4 else bits p1 10 8) + 1

/-- Port b of MESH_CONFIG leads somewhere: port 2d is dimension d's plus direction and 2d + 1 its minus direction (Table 15.2). -/
def portLeads (p : Packet) (b : Nat) : Bool :=
  let d := b / 2
  let n := cfgSize p.p1 d
  let atEdge := if b % 2 = 0 then coord p.p0 d + 1 == n else coord p.p0 d == 0
  n != 1 && (!atEdge || bit p.p1 (11 + d))

/-- Check 5 of the Pair and mesh, Power and health, and Control groups (R354, R367, R375, R387, Tables 14.5 and 15.2). -/
def checkControl (s : State) (p : Packet) : Option Reply :=
  match p.opc with
  | 0x0801 => firstBad [(s.pair.state == 0 || (s.pair.state == 3 && s.pair.fostering), bad 0x20)]
  | 0x0803 => firstBad [(!(s.pair.state == 0 || s.pair.state == 1 || s.pair.beating), bad 0x20)]
  | 0x0804 => firstBad [
      (s.mesh.groups.isEmpty && (List.range 3).all (fun d => decide (coord p.p0 d < cfgSize p.p1 d)), bad 0x20),
      ((List.range 3).all (fun d => !bit p.p1 (11 + d) || decide (2 < cfgSize p.p1 d)), bad 0x24),
      ((List.range 6).all (fun b => !bit p.p2 b || portLeads p b), bad 0x28)]
  | 0x0805 => firstBad [
      (s.mesh.configured && (groupSlot s p.p0).isNone, bad 0x20),
      (decide (s.mesh.groups.length < 8), { status := stQueueLimit, detail := 4 })]
  | 0x0806 => firstBad [((groupSlot s p.p0).isSome, bad 0x20)]
  | 0x0807 => firstBad [
      ((groupSlot s p.p0).isSome, bad 0x20),
      (match groupSlot s p.p0 with
        | some g => g.2.index == p.p1 && g.2.state != 4 && (s.mesh.rebuild.map (fun r => r.group)) != some p.p0
        | none => true, bad 0x24)]
  | 0x0808 => firstBad [((groupSlot s p.p0).isSome, bad 0x20)]
  | _ => none

/-- Check 5 of Table 4.5. -/
def checkObjects (s : State) (p : Packet) : Option Reply :=
  match p.group with
  | 1 => checkQueue s p
  | 2 => checkQueue s p
  | 3 => checkVolume s p
  | 4 => checkVolume s p
  | 5 => checkEngine s p
  | 6 => checkProgram s p
  | 7 => checkSecurity s p
  | _ => checkControl s p

/-- In the error state no command that needs the security module is carried out (R332). -/
def needsCrypt (opc : Nat) : Bool :=
  opc == 0x0501 || opc == 0x0502 || opc == 0x0503 || opc == 0x0504 || opc == 0x0505 || opc == 0x0704

/-- Checks 1 to 5 of Table 4.5 in order; the reply of the first that fails (R94). -/
def checkPacket (s : State) (p : Packet) (foot : Bool) : Option Reply :=
  match catalogue p with
  | none => some { status := stInvalidOpcode }
  | some row =>
    if foot && (p.group == 4 || p.group == 6) then some { status := stPort }
    else
      match row.offends p foot with
      | some off => some (bad off)
      | none =>
        match checkState s p foot with
        | some r => some r
        | none => checkObjects s p

end Sys2Proof.Machine
end

