-- ==== Sys2Proof/Machine/LinkOps.lean ====
section
/-! DEFINITION. Sending over the Tether link and over the Trail mesh: message sizes, channels and credits (R335 to R339, R369
to R371), and routing (R372, R373). -/

namespace Sys2Proof.Machine

open Sys2Proof

/-! ### Tether messages -/

/-- A message's virtual channel (Table 14.3). -/
def TMsg.vc (m : TMsg) : Nat :=
  match m with
  | .mirrorWrite .. => 0
  | .blockData .. => 0
  | .handback .. => 0
  | .journal .. => 1
  | .root .. => 1
  | _ => 2

/-- Body bytes of a message (Table 14.3). -/
def TMsg.bodyLen (m : TMsg) : Nat :=
  match m with
  | .hello .. => 177
  | .keyTransfer .. => 88
  | .mirrorWrite _ _ _ _ _ d => 24 + d.length
  | .journal _ r => 16 * r.length
  | .root .. => 65536
  | .heartbeat .. => 4
  | .blockRead .. => 20
  | .blockData _ _ d => 4 + d.length
  | .handback _ _ _ _ d => 16 + d.length
  | _ => 0

/-- Flits of a message: its 16-byte header and body in payloads of 224 bytes (R335, R339). -/
def TMsg.flits (m : TMsg) : Nat := (16 + m.bodyLen + 223) / 224

/-- Receive buffer of a Tether channel in flits (Table 14.2). -/
def tetherBuffer (vc : Nat) : Nat := if vc = 0 then 512 else if vc = 1 then 128 else 64

/-- Credits a sender holds on a channel (R336). -/
def LinkLayer.credits (l : LinkLayer) (buffer ch : Nat) : Nat := buffer + mgetD l.freed ch 0 - mgetD l.sentOn ch 0

/-- `n` data flits go out on a channel (R336, R338). -/
def LinkLayer.put (l : LinkLayer) (ch n : Nat) : LinkLayer :=
  { l with txCount := l.txCount + n, sentOn := mset l.sentOn ch (mgetD l.sentOn ch 0 + n) }

/-- Data packets sent under a link's key (R328). -/
def countPackets (s : State) (link n : Nat) : State :=
  upSec s (fun e => { e with links := mmod e.links link (fun k => { k with packets := k.packets + n }) })

/-- Put flits of the messages waiting on a channel on the link while credits and the 1,024 held flits allow (R336, R337). -/
def pumpList (link : LinkLayer) (vc : Nat) (l : List TOut) : LinkLayer × List TOut × List TMsg :=
  match l with
  | [] => (link, [], [])
  | m :: rest =>
    if m.vc ≠ vc then
      let r := pumpList link vc rest
      (r.1, m :: r.2.1, r.2.2)
    else
      let n := min (m.flits - m.sent) (min (link.credits (tetherBuffer vc) vc) (1024 - (link.txCount - link.txAcked)))
      let link := link.put vc n
      if m.sent + n = m.flits then
        let r := pumpList link vc rest
        (r.1, r.2.1, m.msg :: r.2.2)
      else (link, { m with sent := m.sent + n } :: rest, [])

/-- Send what the Tether link can take (R336). Nothing goes out while the link is down. -/
def pumpTether (s : State) : State :=
  if !s.pair.linkUp then s
  else
    [2, 1, 0].foldl (fun s vc =>
      let before := s.pair.link.txCount
      let r := pumpList s.pair.link vc s.pair.out
      countPackets (upPair s (fun p => { p with link := r.1, out := r.2.1, sent := r.2.2.reverse ++ p.sent })) 0
        (r.1.txCount - before)) s

/-! ### Trail packets -/

/-- A packet's class (Table 15.4). -/
def MBody.cls (b : MBody) : Nat :=
  match b with
  | .tunnel _ => 1
  | .contrib .. => 1
  | .reconReq .. => 2
  | .reconSlice .. => 2
  | .rebuildPart .. => 3
  | _ => 0

/-- A packet's TYPE code (Table 15.4). -/
def MBody.typ (b : MBody) : Nat :=
  match b with
  | .linkHello .. => 0x01
  | .linkState .. => 0x02
  | .unreachable .. => 0x03
  | .probe .. => 0x08
  | .probeAck .. => 0x09
  | .claim .. => 0x0A
  | .claimGrant .. => 0x0B
  | .claimRefuse .. => 0x0C
  | .tunnel _ => 0x0D
  | .groupHello .. => 0x10
  | .intent .. => 0x11
  | .intentReply .. => 0x12
  | .contrib .. => 0x14
  | .close .. => 0x15
  | .parityDone .. => 0x16
  | .gossip .. => 0x17
  | .release .. => 0x18
  | .resend .. => 0x19
  | .locate .. => 0x20
  | .locateAns .. => 0x21
  | .reconReq .. => 0x22
  | .reconSlice .. => 0x23
  | .rebuildPlan .. => 0x30
  | .rebuildPart .. => 0x31
  | .memberUpdate .. => 0x32
  | .memberMoved .. => 0x32

/-- The ID a packet carries, where it has one (Table 15.4). -/
def MPkt.ident (p : MPkt) : Nat :=
  match p.body with
  | .linkState seq _ => seq
  | .unreachable i _ => i
  | .probe .. => p.pairId
  | .probeAck .. => p.pairId
  | .claim .. => p.pairId
  | .claimGrant .. => p.pairId
  | .claimRefuse .. => p.pairId
  | .intent t .. => t
  | .intentReply t .. => t
  | .contrib t .. => t
  | .close t _ => t
  | .parityDone t _ => t
  | .release t => t
  | .resend t _ => t
  | .locate r .. => r
  | .locateAns r _ => r
  | .reconReq r .. => r
  | .reconSlice r .. => r
  | .rebuildPlan t _ => t
  | .rebuildPart t .. => t
  | _ => 0

/-- A dimension's size and wrap bit in the configuration in force (R367). -/
def meshSize (s : State) (d : Nat) : Nat := (if d = 0 then s.mesh.xs else if d = 1 then s.mesh.ys else s.mesh.zs) + 1

/-- The dimension wraps (R367). -/
def meshWraps (s : State) (d : Nat) : Bool := bit s.mesh.wrap d

/-- A node ID with one coordinate changed. -/
def withCoord (node d v : Nat) : Nat :=
  if d = 0 then node / 16 * 16 + v
  else if d = 1 then node / 256 * 256 + v * 16 + node % 16
  else v * 256 + node % 256

/-- The node that a node's port leads to, if it leads to one (Table 15.1, R367). -/
def neighbourOf (s : State) (node b : Nat) : Option Nat :=
  let d := b / 2
  let n := meshSize s d
  let c := coord node d
  if n = 1 then none
  else if b % 2 = 0 then
    if c + 1 < n then some (withCoord node d (c + 1)) else if meshWraps s d then some (withCoord node d 0) else none
  else if 0 < c then some (withCoord node d (c - 1))
  else if meshWraps s d then some (withCoord node d (n - 1))
  else none

/-- The opposite direction's port. -/
def oppositePort (b : Nat) : Nat := if b % 2 = 0 then b + 1 else b - 1

/-- The flooded map shows the link as failed (R373). -/
def linkFailed (s : State) (node b : Nat) : Bool :=
  s.mesh.failedLinks.contains (node, b) ||
    match neighbourOf s node b with
    | some n => s.mesh.failedLinks.contains (n, oppositePort b)
    | none => true

/-- Nodes reached from a frontier over links not failed, by `fuel` rounds (R373). -/
def reachFrom (s : State) (fuel : Nat) (seen frontier : List Nat) : List Nat :=
  match fuel with
  | 0 => seen
  | fuel + 1 =>
    let next := (frontier.flatMap (fun n => (List.range 6).filterMap (fun b =>
      if linkFailed s n b then none else neighbourOf s n b))).foldl (fun l n =>
        if seen.contains n || l.contains n then l else l ++ [n]) []
    if next.isEmpty then seen else reachFrom s fuel (seen ++ next) next

/-- Nodes of the configured mesh (R367). -/
def meshNodes (s : State) : List Nat :=
  (List.range (meshSize s 2)).flatMap (fun z => (List.range (meshSize s 1)).flatMap (fun y =>
    (List.range (meshSize s 0)).map (fun x => x + 16 * y + 256 * z)))

/-- Nodes this device reaches over the flooded map (R373). -/
def reachable (s : State) : List Nat := reachFrom s 2048 [s.mesh.node] [s.mesh.node]

/-- MESH_STATUS.PARTITIONED follows the flooded map (R373). -/
def rePartition (s : State) : State :=
  upMesh s (fun m => { m with
    partitioned := m.configured && (let r := reachable s; (meshNodes s).any (fun n => !r.contains n)) })

/-- The direction a packet takes in a dimension: the minimal one, plus when both are equal (R372). -/
def goesPlus (s : State) (d here there : Nat) : Bool :=
  let n := meshSize s d
  if meshWraps s d then decide (2 * ((there + n - here) % n) ≤ n) else decide (here < there)

/-- The port of the next hop by dimension order, and whether that hop crosses a wrap link (R372). -/
def nextPort (s : State) (dst : Nat) : Option (Nat × Bool) :=
  match (List.range 3).find? (fun d => coord s.mesh.node d != coord dst d) with
  | none => none
  | some d =>
    let here := coord s.mesh.node d
    let plus := goesPlus s d here (coord dst d)
    some (2 * d + (if plus then 0 else 1), if plus then here + 1 == meshSize s d else here == 0)

/-- A port by number. -/
def portAt (s : State) (b : Nat) : Port := s.mesh.ports.getD b Port.reset

/-- Change a port. -/
def modPort (s : State) (b : Nat) (f : Port → Port) : State := upMesh s (fun m => { m with ports := lmod m.ports b f })

/-- Receive buffer of a Trail channel in flits (R370). -/
def trailBuffer : Nat := 8

/-- A packet waiting at a port may go: its channel has a credit, and fewer than 128 flits are held (R370, R371). -/
def mayGo (q : Port) (x : Nat × Nat × MPkt) : Bool :=
  decide (0 < q.link.credits trailBuffer x.1) && decide (q.link.txCount - q.link.txAcked < 128)

/-- The class of each grant of the repeating cycle: 2 RECON, 4 CONTRIB, 1 REBUILD (R374). -/
def cycleClass (i : Nat) : Nat := if i < 2 then 2 else if i < 6 then 1 else 3

/-- The class that is granted next and the place in the cycle after it: CONTROL first, then the cycle without its empty classes (R374). -/
def grantClass (q : Port) (l : List (Nat × Nat × MPkt)) : Option (Nat × Nat) :=
  let has := fun (c : Nat) => l.any (fun x => x.1 / 3 == c)
  if has 0 then some (0, q.cycle)
  else ((List.range 7).find? (fun i => has (cycleClass ((q.cycle + i) % 7)))).map (fun i =>
    (cycleClass ((q.cycle + i) % 7), (q.cycle + i + 1) % 7))

/-- The next packet an output port grants, and the port after it: within the class the inputs are served round-robin (R374). -/
def grantNext (q : Port) : Option ((Nat × Nat × MPkt) × Port) :=
  let l := q.out.filter (mayGo q)
  match grantClass q l with
  | none => none
  | some (c, cycle) =>
    let mine := l.filter (fun x => x.1 / 3 == c)
    let last := mgetD q.lastIn c 6
    match ((List.range 7).map (fun i => (last + 1 + i) % 7)).findSome? (fun i => mine.find? (fun x => x.2.1 == i)) with
    | none => none
    | some x => some (x, { q with link := q.link.put x.1 1, out := q.out.erase x, cycle, lastIn := mset q.lastIn c x.2.1 })

/-- Grants one after the other while a packet may go: the port, and what it has sent, in order. -/
def grants (fuel : Nat) (q : Port) : Port × List (Nat × MPkt) :=
  match fuel with
  | 0 => (q, [])
  | fuel + 1 =>
    match grantNext q with
    | none => (q, [])
    | some (x, q) =>
      let r := grants fuel q
      (r.1, (x.1, x.2.2) :: r.2)

/-- Send what a port can take (R370, R371, R374); what goes on an escape channel is counted (Table 15.20). -/
def pumpPort (s : State) (b : Nat) : State :=
  let q := portAt s b
  if !q.up || q.failed then s
  else
    let r := grants q.out.length q
    let s := modPort s b (fun _ => r.1)
    countPackets (upMesh s (fun m => { m with
      sent := (r.2.map (fun x => (b, x.1, x.2))).reverse ++ m.sent,
      detoured := (m.detoured + (r.2.filter (fun x => x.1 % 3 == 2)).length) % 2 ^ 32 })) (1 + b) r.2.length

/-- Put a packet that came by an input (6: this device's own) at a port, on channel v of its class, and send what can go (R370). -/
def putPort (s : State) (b v from_ : Nat) (p : MPkt) : State :=
  pumpPort (modPort s b (fun x => { x with out := x.out ++ [(3 * p.body.cls + v, from_, p)] })) b

/-- Ports a detour can use now. -/
def livePorts (s : State) : List Nat := (List.range 6).filter (fun b => (portAt s b).up && !(portAt s b).failed)

/-- Route a packet onward (R372, R373): dimension order, the dateline channel after a wrap link of the same dimension, and the
escape channel on the detour once its next hop has failed. The detour's spanning tree is not fixed by the manual, so its
next hop is an open choice among the live ports (log entry 20). `from_` is the port it came in by, with its DL and ESC
bits. None: there is no route. -/
def routed (s : State) (p : MPkt) (from_ : Option (Nat × Bool × Bool)) : Option State :=
  match nextPort s p.dst with
  | none => none
  | some (b, crosses) =>
    let esc := match from_ with
      | some (_, _, e) => e
      | none => false
    let stays := match from_ with
      | some (q, dl, _) => dl && q / 2 == b / 2
      | none => false
    let input := match from_ with
      | some (q, _, _) => q
      | none => 6
    if !esc && !(portAt s b).failed && (portAt s b).enabled then some (putPort s b (if crosses || stays then 1 else 0) input p)
    else if !(reachable s).contains p.dst || (livePorts s).isEmpty then none
    else
      let r := freeBelow s (livePorts s).length
      some (putPort r.2 ((livePorts s).getD r.1 0) 2 input p)

/-- A packet of this device. -/
def ownPkt (s : State) (dst group : Nat) (b : MBody) : MPkt :=
  { dst, src := s.mesh.node, group, pairId := s.pair.pairId, body := b }

/-- Send a packet from this device; one without a route is dropped (R373). -/
def sendM (s : State) (dst group : Nat) (b : MBody) : State := (routed s (ownPkt s dst group b) none).getD s

/-- Pass on a packet for another node; its source is told when there is no route (R373). -/
def forwardM (s : State) (p : MPkt) (port : Nat) (dl esc : Bool) : State :=
  match routed s p (some (port, dl, esc)) with
  | some t => t
  | none => sendM s p.src p.group (.unreachable p.ident p.body.typ)

/-- The kinds of message that a diverted pair carries over the mesh (Table 14.6, R348, R362). -/
def sendT (s : State) (m : TMsg) : State :=
  if s.pair.meshMirror then sendM s s.pair.partnerNode 0xFFF (.tunnel m)
  else pumpTether (upPair s (fun p => { p with out := p.out ++ [{ vc := m.vc, flits := m.flits, sent := 0, msg := m }] }))

end Sys2Proof.Machine
end

