-- ==== Sys2Proof/Machine/MediaLayout.lean ====
section
/-! DEFINITION. The byte layouts of the media: map and directory entries (Tables 5.8 to 5.10), the spare area (Table 5.6), journal records
(Table 6.2), checkpoint roots (Table 6.3) and the progress record (Table 6.9), every number least significant byte first (R6). -/

namespace Sys2Proof.Machine

open Sys2Proof

/-! ### Map and directory entries -/

/-- The 64 bits of a map entry (Table 5.9). -/
def MapEntry.word (e : MapEntry) : Nat :=
  (match e.form with
    | .zero => 2 ^ 50
    | .plain pa => pa + 15 * 2 ^ 44
    | .comp pa len => pa + len * 2 ^ 44 + 2 ^ 49
    | .remote pa len c => pa + len * 2 ^ 44 + b2n c * 2 ^ 49 + 2 ^ 51
    | .bad => 3 * 2 ^ 50) + e.epoch * 2 ^ 52

/-- A map entry from its 64 bits: a word of no form of Table 5.10 is a map integrity error (R130). -/
def entryOfWord (w : Nat) : MapEntry :=
  let pa := bits w 43 0
  let len := bits w 48 44
  let c := bit w 49
  let z := bit w 50
  let r := bit w 51
  let whole := len == 15 && pa % 16 == 0
  let form : MapForm :=
    if z then (if !r && !c && len == 0 && pa == 0 then .zero else .bad)
    else if r then (if (c && decide (len ≤ 14)) || (!c && whole) then .remote pa len c else .bad)
    else if c then (if len ≤ 14 then .comp pa len else .bad)
    else if whole then .plain pa
    else .bad
  { form, epoch := bits w 63 52 }

/-- The 64 bits of a directory entry (Table 5.8). -/
def DirEntry.word (d : DirEntry) : Nat :=
  match d with
  | .unmapped => 0
  | .extent pa epoch => pa + 2 ^ 44 + epoch * 2 ^ 52
  | .leaf none => 2 ^ 45
  | .leaf (some pa) => pa + 2 ^ 45 + 2 ^ 46

/-- A directory entry from its 64 bits; TYPE 0b11 is not written (Table 5.8). -/
def dirOfWord (w : Nat) : DirEntry :=
  match bits w 45 44 with
  | 1 => .extent (bits w 43 0) (bits w 63 52)
  | 2 => .leaf (if bit w 46 then some (bits w 43 0) else none)
  | _ => .unmapped

/-! ### The spare area (Table 5.6) -/

/-- Bytes 0x00 to 0x1B of a codeword's spare area. -/
def Codeword.spareHead (c : Codeword) : List Byte :=
  le 2 c.vol ++ le 1 c.kind ++ le 1 c.used ++ le 2 c.starts ++ le 2 (b2n c.gcCopy + 2 * b2n c.foster) ++ le 8 (c.lba % 2 ^ 38) ++
    le 8 c.wseq ++ le 4 (c.group + 4096 * c.seg)

/-- The 32 bytes of a codeword's spare area: CHECK covers the data and the spare bytes before it (R123). -/
def Codeword.spare (c : Codeword) (data : List Byte) : List Byte := c.spareHead ++ le 4 (crc32c (data ++ c.spareHead))

/-- A spare area read back agrees with the data beside it (R124). -/
def spareOk (data spare : List Byte) : Bool := num spare 0x1C 4 == crc32c (data ++ field spare 0 0x1C)

/-! ### Journal records (Table 6.2) -/

/-- Records of the own journal ring (Table 6.1). -/
def ringCap : Nat := 1572864

/-- PASS of the record of an absolute number: 1 in an even pass of the ring (R152). -/
def passOf (n : Nat) : Bool := n / ringCap % 2 == 0

/-- A record's TYPE. -/
def Record.type (r : Record) : Nat :=
  match r with
  | .mapSet .. => 1
  | .mapGc .. => 2
  | .mapZero .. => 3
  | .dirSet .. => 4
  | .volSet .. => 5
  | .dirBase .. => 6
  | .band .. => 7
  | .blocks .. => 8
  | .segRel .. => 9
  | .wseqRes .. => 10
  | .ckpt .. => 11
  | .bad => 15

/-- WORD0[63:6] of a record, in place. -/
def Record.high (r : Record) : Nat :=
  match r with
  | .mapSet v lba _ => lba * 2 ^ 6 + v * 2 ^ 44
  | .mapGc v lba _ => lba * 2 ^ 6 + v * 2 ^ 44
  | .mapZero v lba _ _ => lba * 2 ^ 6 + v * 2 ^ 44
  | .dirSet v st _ => 512 * st * 2 ^ 6 + v * 2 ^ 44
  | .volSet v _ _ _ => v * 2 ^ 6
  | .dirBase v _ => v * 2 ^ 6
  | .band b st _ => b * 2 ^ 6 + st * 2 ^ 28
  | .blocks i _ _ => i * 2 ^ 6
  | .segRel b seg _ => b * 2 ^ 6 + seg * 2 ^ 28
  | .wseqRes _ => 0
  | .ckpt _ => 0
  | .bad => 0

/-- WORD1 of a record. -/
def Record.low (r : Record) : Nat :=
  match r with
  | .mapSet _ _ e => e.word
  | .mapGc _ _ e => e.word
  | .mapZero _ _ n epoch => n + epoch * 2 ^ 52
  | .dirSet _ _ d => d.word
  | .volSet _ cap attrs del => cap + attrs * 2 ^ 38 + b2n del * 2 ^ 41
  | .dirBase _ first => first
  | .band _ st t => if st = 1 then t else 0
  | .blocks _ b0 b1 => b0 + b1 * 2 ^ 32
  | .segRel _ _ g => g
  | .wseqRes c => c
  | .ckpt n => n
  | .bad => 0

/-- The 16 bytes of a record at an absolute number of its ring (R152). -/
def JRec.bytes (r : JRec) (n : Nat) : List Byte :=
  le 8 (r.body.type + 16 * b2n (passOf n) + 32 * b2n r.more + r.body.high) ++ le 8 r.body.low

/-- A record from the 16 bytes of a ring's line; none where TYPE is 0 or PASS is not the one expected, which ends replay (R152, R159). A TYPE
of 0xC to 0xF is a journal integrity error (R161). -/
def journalRecord (b : List Byte) (n : Nat) : Option JRec :=
  let w := num b 0 8
  let x := num b 8 8
  let v := bits w 59 44
  let lba := bits w 43 6
  if bits w 3 0 = 0 ∨ bit w 4 ≠ passOf n then none
  else
    let body : Record := match bits w 3 0 with
      | 1 => .mapSet v lba (entryOfWord x)
      | 2 => .mapGc v lba (entryOfWord x)
      | 3 => .mapZero v lba (bits x 31 0) (bits x 63 52)
      | 4 => .dirSet v (lba / 512) (dirOfWord x)
      | 5 => .volSet (bits w 21 6) (bits x 37 0) (bits x 40 38) (bit x 41)
      | 6 => .dirBase (bits w 21 6) (bits x 28 0)
      | 7 => .band (bits w 27 6) (bits w 30 28) (bits x 2 0)
      | 8 => .blocks (bits w 10 6) (bits x 31 0) (bits x 63 32)
      | 9 => .segRel (bits w 27 6) (bits w 37 28) (bits x 11 0)
      | 10 => .wseqRes x
      | 11 => .ckpt x
      | _ => .bad
    some { body, more := bit w 5 }

/-- Consecutive records as the ring holds them, from an absolute number on. -/
def recordsBytes (n : Nat) (l : List JRec) : List Byte :=
  match l with
  | [] => []
  | r :: rest => r.bytes n ++ recordsBytes (n + 1) rest

/-! ### Checkpoint roots (Table 6.3) -/

/-- A table of piece PAs: zero where a piece was never written. -/
def pieceTable (m : SMap Nat) (n : Nat) : List Byte := (List.range n).flatMap (fun i => le 8 (mgetD m i 0))

/-- Bytes 0x0000 to 0xFFFB of a root. -/
def Root.body (r : Root) : List Byte :=
  fit 0xFFFC (fit 0x100 (le 8 r.ckptNo ++ le 8 r.jstart ++ le 8 r.wseqCeil ++ le 8 r.time) ++ pieceTable r.dirPieces 4096 ++
    pieceTable r.bandPieces 1024)

/-- The 64 KiB of a root with its CRC (Table 6.3). -/
def Root.bytes (r : Root) : List Byte := r.body ++ le 4 (crc32c r.body)

/-- The bytes of a root slot are a valid root: CKPT_NO is not zero and the CRC matches (R157). -/
def rootOk (b : List Byte) : Bool := num b 0 8 != 0 && num b 0xFFFC 4 == crc32c (field b 0 0xFFFC)

/-! ### The progress record (Table 6.9) -/

/-- Bytes 0x00 to 0x1B of the progress record. -/
def Progress.body (p : Progress) : List Byte :=
  le 1 p.state ++ le 1 p.mode ++ le 2 (b2n p.keyStep + 2 * b2n p.failed) ++ le 4 p.pattern ++ le 4 p.vol ++ le 4 p.total ++ le 4 p.done ++
    le 8 p.wseqMark

/-- The 32 bytes of the progress record with its CHECK (R177). -/
def Progress.bytes (p : Progress) : List Byte := p.body ++ le 4 (crc32c p.body)

end Sys2Proof.Machine
end

