-- ==== Sys2Proof/Machine/MediaOps.lean ====
section
/-! DEFINITION. The media map and the flash as named operations: directory, leaf pages, map entries and valid units (R125 to
R137), the MAP journal and the write sequence (R132, R152 to R155), bands, segments and codewords (R115 to R124, R139). -/

namespace Sys2Proof.Machine

open Sys2Proof

/-! ### Directory and leaf pages -/

/-- A block that was never written (R130). -/
def entryZero : MapEntry := { form := .zero, epoch := 0 }

/-- Change a volume. -/
def volMod (s : State) (v : Nat) (f : Volume → Volume) : State := upMed s (fun m => { m with volumes := mmod m.volumes v f })

/-- A directory entry (R125, R127). -/
def dirAt (s : State) (v st : Nat) : DirEntry :=
  match mget s.med.volumes v with
  | some x => mgetD x.dir st .unmapped
  | none => .unmapped

/-- Set a directory entry, listing no UNMAPPED one. -/
def setDir (s : State) (v st : Nat) (d : DirEntry) : State :=
  volMod s v (fun x => { x with dir := if d = .unmapped then mdel x.dir st else mset x.dir st d })

/-- The page is the stretch's. -/
def LeafPage.is (p : LeafPage) (v st : Nat) : Bool := p.vol == v && p.stretch == st

/-- A resident leaf page (R134). -/
def pageAt (s : State) (v st : Nat) : Option LeafPage := s.med.leafCache.find? (fun p => p.is v st)

/-- Change a resident leaf page. -/
def modPage (s : State) (v st : Nat) (f : LeafPage → LeafPage) : State :=
  upMed s (fun m => { m with leafCache := m.leafCache.map (fun p => if p.is v st then f p else p) })

/-- Remove a leaf page from the cache. -/
def dropPage (s : State) (v st : Nat) : State :=
  upMed s (fun m => { m with leafCache := m.leafCache.filter (fun p => !p.is v st) })

/-- The set of the leaf cache a stretch falls into: 16 ways, by global stretch number (R134). -/
def leafSet (s : State) (v st : Nat) : Nat :=
  match mget s.med.volumes v with
  | some x => (x.dirBase + st) % max 1 (s.med.leafCap / 16)
  | none => 0

/-- Resident pages of a set, most recently used first. -/
def setPages (s : State) (n : Nat) : List LeafPage := s.med.leafCache.filter (fun p => leafSet s p.vol p.stretch == n)

/-- Stretches of a range of blocks. -/
def rangeStretches (lba n : Nat) : List Nat := if n = 0 then [] else span (lba / 512) ((lba + n - 1) / 512 - lba / 512 + 1)

/-- Some command in progress refers to the page (R134). -/
def pagePinned (s : State) (p : LeafPage) : Bool :=
  s.tsk.ops.any (fun o => (o.stage == .ready || o.stage == .running) && o.pkt.group == 4 && o.pkt.vol == p.vol &&
    (rangeStretches o.pkt.addr o.pkt.blocks).contains p.stretch)

/-- Make room in a stretch's set for its page: the least recently used clean page that is not pinned goes. None when there is no such page
(R134). -/
def leafRoom (s : State) (v st : Nat) : Option State :=
  let l := (setPages s (leafSet s v st)).filter (fun p => !p.is v st)
  if l.length < 16 then some s
  else
    match l.reverse.find? (fun p => !p.dirty && !pagePinned s p) with
    | some p => some (dropPage s p.vol p.stretch)
    | none => none

/-- Put a leaf page into the cache as the one used last, into the room its set has or makes (R134). -/
def addPage (s : State) (p : LeafPage) : State :=
  upMed ((leafRoom s p.vol p.stretch).getD s) (fun m => { m with leafCache := p :: m.leafCache.filter (fun q => !q.is p.vol p.stretch) })

/-- A resident page becomes the most recently used (R134). -/
def touchPage (s : State) (v st : Nat) : State :=
  match pageAt s v st with
  | some p => upMed s (fun m => { m with leafCache := p :: m.leafCache.filter (fun q => !q.is v st) })
  | none => s

/-! ### Physical addresses and valid units -/

/-- The band of a PA (R117). -/
def paBand (pa : Nat) : Nat := pa / 2 ^ 22
/-- The segment of a PA within its band (R117). -/
def paSeg (pa : Nat) : Nat := pa % 2 ^ 22 / 4096
/-- The byte offset of a PA in its codeword (R117). -/
def paByte (pa : Nat) : Nat := pa % 16 * 256
/-- The codeword address of a PA. -/
def paCw (pa : Nat) : Nat := pa / 16

/-- First unit and count of the units an entry occupies on this device's flash (R129, R130). -/
def MapForm.place (f : MapForm) : Option (Nat × Nat) :=
  match f with
  | .plain pa => some (pa, 16)
  | .comp pa len => some (pa, len + 1)
  | _ => none

/-- Change a band. -/
def bandMod (s : State) (b : Nat) (f : Band → Band) : State := upMed s (fun m => { m with bands := mmod m.bands b f })

/-- Valid units of a band. -/
def Band.valid (b : Band) : Nat := (b.segValid.map (·.2)).sum

/-- Units become valid. -/
def addUnits (s : State) (pa n : Nat) : State :=
  bandMod s (paBand pa) (fun b => { b with segValid := mnum b.segValid (paSeg pa) (mgetD b.segValid (paSeg pa) 0 + n) })

/-- Units stop being valid. -/
def subUnits (s : State) (pa n : Nat) : State :=
  bandMod s (paBand pa) (fun b => { b with segValid := mnum b.segValid (paSeg pa) (mgetD b.segValid (paSeg pa) 0 - n) })

/-- An entry's units stop being valid. -/
def releaseForm (s : State) (f : MapForm) : State :=
  match f.place with
  | some (pa, n) => subUnits s pa n
  | none => s

/-- An entry's units become valid. -/
def claimForm (s : State) (f : MapForm) : State :=
  match f.place with
  | some (pa, n) => addUnits s pa n
  | none => s

/-- The entries of a stretch's leaf page as its flash copy holds them (R128). -/
def leafOnFlash (s : State) (pa : Nat) : SMap MapEntry :=
  match mget s.med.flash (paCw pa) with
  | some c => c.entries
  | none => []

/-- Entry i of an extent (R127, R142). -/
def extentEntry (pa epoch i : Nat) : MapEntry := { form := .plain (pa + 16 * i), epoch := (epoch + i) % 4096 }

/-- Make a stretch a resident leaf page (R128, R142): an UNMAPPED one begins as an empty page, an EXTENT is split, a LEAF is read
from its flash copy when it is not resident. -/
def ensurePage (s : State) (v st : Nat) : State :=
  match dirAt s v st with
  | .unmapped =>
    setDir (addPage s { vol := v, stretch := st, entries := [], dirty := true }) v st (.leaf none)
  | .extent pa epoch =>
    setDir (addPage s { vol := v, stretch := st, entries := (List.range 512).map (fun i => (i, extentEntry pa epoch i)),
                        dirty := true }) v st (.leaf none)
  | .leaf onFlash =>
    match pageAt s v st, onFlash with
    | some _, _ => s
    | none, some pa => addPage s { vol := v, stretch := st, entries := leafOnFlash s pa, dirty := false }
    | none, none => addPage s { vol := v, stretch := st, entries := [], dirty := true }

/-- What the map says of a block; none when its leaf page is not resident (R137 steps 2 and 3). -/
def mapOf (s : State) (v lba : Nat) : Option MapEntry :=
  let st := lba / 512
  match dirAt s v st with
  | .unmapped => some entryZero
  | .extent pa epoch => some (extentEntry pa epoch (lba % 512))
  | .leaf _ => (pageAt s v st).map (fun p => mgetD p.entries (lba % 512) entryZero)

/-- What the map says of a block, its page read from flash where it is not resident. -/
def mapFull (s : State) (v lba : Nat) : MapEntry :=
  match mapOf s v lba, dirAt s v (lba / 512) with
  | some e, _ => e
  | none, .leaf (some pa) => mgetD (leafOnFlash s pa) (lba % 512) entryZero
  | none, _ => entryZero

/-- Set a block's map entry in DRAM, with the valid units of the old and the new form; its page is the one used last (R134, R154). -/
def applyEntry (s : State) (v lba : Nat) (e : MapEntry) : State :=
  if (mget s.med.volumes v).isNone then s
  else
    let st := lba / 512
    let i := lba % 512
    let s := touchPage (ensurePage s v st) v st
    let old := match pageAt s v st with
      | some p => mgetD p.entries i entryZero
      | none => entryZero
    let s := claimForm (releaseForm s old.form) e.form
    modPage s v st (fun p => { p with dirty := true, entries := if e = entryZero then mdel p.entries i else mset p.entries i e })

/-- Set a stretch to UNMAPPED, freeing everything it held (R149, R175, R179). -/
def unmapStretch (s : State) (v st : Nat) : State :=
  let free := fun (s : State) (l : SMap MapEntry) => l.foldl (fun s e => releaseForm s e.2.form) s
  let s := match dirAt s v st with
    | .unmapped => s
    | .extent pa _ => subUnits (subUnits s pa 4096) (pa + 4096) 4096
    | .leaf onFlash =>
      let s := match pageAt s v st, onFlash with
        | some p, _ => free s p.entries
        | none, some pa => free s (leafOnFlash s pa)
        | none, none => s
      match onFlash with
      | some pa => subUnits s pa 16
      | none => s
  setDir (dropPage s v st) v st .unmapped

/-- Set every directory entry of a volume to UNMAPPED. -/
def unmapVolume (s : State) (v : Nat) : State :=
  match mget s.med.volumes v with
  | some x => x.dir.foldl (fun s d => unmapStretch s v d.1) s
  | none => s

/-! ### The MAP journal (R152 to R155) -/

/-- Records the partner ring holds (Table 6.1). -/
def partnerCap : Nat := 393216

/-- Records as a group: MORE is 1 in every one but the last (R153). -/
def asGroup (l : List Record) : List JRec :=
  match l with
  | [] => []
  | [r] => [{ body := r, more := false }]
  | r :: rest => { body := r, more := true } :: asGroup rest

/-- The buffer and the ring have room for a map change of `n` records (R154, R155). -/
def jRoom (s : State) (n : Nat) : Bool := decide (s.med.jbuf.length + n ≤ 4096) && decide (s.med.ring.length < ringCap)

/-- A map change that must wait for the ring is counted (R155). -/
def jStall (s : State) : State :=
  if s.med.ring.length < ringCap then s else upMed s (fun m => { m with journalStalls := satInc m.journalStalls })

/-- Absolute number of the next record written to the ring (R155). -/
def jHead (s : State) : Nat := s.med.jstart + s.med.ring.length

/-- The partner is at hand: PAIRED, DEGRADED with mirroring over the mesh, or DEGRADED beside a READ_ONLY partner (R359, Tables 14.4 and
14.6). -/
def partnered (s : State) : Bool := s.pair.state == 2 || s.pair.meshMirror || (s.pair.state == 3 && s.pair.partnerReadOnly)

/-- Writes are mirrored: not any more while the pair separates (R348). -/
def mirroring (s : State) : Bool := partnered s && !s.pair.draining

/-- The initial copy to a new partner runs (R341 step 4). -/
def copying (s : State) : Bool := s.pair.state == 1 && s.pair.pairId != 0

/-- Records and roots go to the partner (R341, R345). -/
def journaling (s : State) : Bool := partnered s || copying s

/-- Records are written to PJM, and go to the partner while the pair mirrors (R154, R345). -/
def ringWrite (s : State) (l : List JRec) : State :=
  if l.isEmpty then s
  else
    let first := jHead s
    let s := upMed s (fun m => { m with ring := m.ring ++ l, recSince := true })
    if journaling s then sendT s (.journal first l) else s

/-- A record written straight to PJM, ahead of the buffer. Inside a group that has gone out in part it carries MORE as the group's records
do, so that it does not cut the group (R153, R154). -/
def ringStraight (s : State) (r : Record) : State :=
  ringWrite s [{ body := r, more := (s.med.ring.getLast?.map (fun x => x.more)).getD false }]

/-- One line of four records goes from the buffer to PJM (R154). -/
def flushLine (s : State) : State :=
  let n := min 4 (ringCap - s.med.ring.length)
  let l := s.med.jbuf.take n
  ringWrite (upMed s (fun m => { m with jbuf := m.jbuf.drop n })) l

/-- The whole buffer goes to PJM, line by line. -/
def flushAll (s : State) : State := (List.range ((s.med.jbuf.length + 3) / 4)).foldl (fun s _ => flushLine s) s

/-- A group of records enters the MAP journal buffer, which holds 4,096: older records go out to PJM first where it has no room for them
(R154). -/
def journal (s : State) (l : List Record) : State :=
  let excess := s.med.jbuf.length + l.length - 4096
  upMed ((List.range ((excess + 3) / 4)).foldl (fun s _ => flushLine s) s) (fun m => { m with jbuf := m.jbuf ++ asGroup l })

/-- Take `n` write sequence numbers, reserving 2^20 more at a time ahead of every buffered record (R132, R154). -/
def takeWseq (s : State) (n : Nat) : Nat × State :=
  let w := s.med.wseq
  let s := if w + n ≤ s.med.wseqCeil then s
    else
      let ceil := s.med.wseqCeil + 0x100000 * ((w + n - s.med.wseqCeil + 0xFFFFF) / 0x100000)
      let h := jHead s
      let s := upPair s (fun p => { p with entriesOut := p.entriesOut.map (fun e =>
        if h < e.recs then { e with recs := e.recs + 1 } else e) })
      ringStraight (upMed s (fun m => { m with wseqCeil := ceil })) (.wseqRes ceil)
  (w, upMed s (fun m => { m with wseq := w + n }))

/-! ### Bands and their states (R118 to R122) -/

/-- A band state's code in BAND records (Table 6.2). -/
def BandState.code (b : BandState) : Nat :=
  match b with
  | .free => 0
  | .opened => 1
  | .closed => 2
  | .drained => 3
  | .retired => 4
  | .erasing => 5

/-- A band state from its code. -/
def bandStateOf (n : Nat) : BandState :=
  match n with
  | 0 => .free
  | 1 => .opened
  | 2 => .closed
  | 3 => .drained
  | 5 => .erasing
  | _ => .retired

/-- A stream's code in BAND records (Table 6.2). -/
def Stream.code (t : Stream) : Nat :=
  match t with
  | .sequential => 0
  | .hot => 1
  | .cold => 2
  | .gc => 3
  | .map => 4
  | .parity => 5
  | .replacement => 6

/-- A stream from its code. -/
def streamOf (n : Nat) : Stream :=
  match n with
  | 0 => .sequential
  | 1 => .hot
  | 2 => .cold
  | 3 => .gc
  | 4 => .map
  | 5 => .parity
  | _ => .replacement

/-- Change a band's state, without a record. -/
def setBand (s : State) (b : Nat) (st : BandState) : State := bandMod s b (fun x => { x with state := st })

/-- A BAND record of a state other than OPEN. -/
def bandRec (b : Nat) (st : BandState) : Record := .band b st.code 0

/-- Segments of a band: one for each channel and MiB of block data (R117, R118). -/
def bandSegs (s : State) : Nat := s.med.channels * s.med.blockMib

/-- Populated channels in ascending order (R113). -/
def chanList (s : State) : List Nat :=
  if s.med.channels = 16 then (List.range 4).flatMap (fun n => span (8 * n) 4) else List.range s.med.channels

/-- The channel a codeword lies on (R117). -/
def cwChannel (s : State) (cw : Nat) : Nat := (chanList s).getD (cw % 2 ^ 18 % 256 % max 1 s.med.channels) 0

/-- A codeword's place in flash: its channel, the band's block there, and its codeword position within that block (R117). -/
def cwPlace (s : State) (cw : Nat) : Nat × Option FlashBlock × Nat :=
  let n := max 1 s.med.channels
  let p := cw % 256
  (cwChannel s cw, (mget s.med.bands (cw / 2 ^ 18)).bind (fun b => b.blocks[p % n]?), cw % 2 ^ 18 / 256 * (256 / n) + p / n)

/-- The FCH island of a codeword's channel: four channels each (R113). -/
def cwIsland (s : State) (cw : Nat) : Nat := islFch (cwChannel s cw / 4)

/-- Bands among a list that are CLOSED with no valid unit: they drain. A Parity band's segments are valid until their stripes are
released (Table 5.4, R144). -/
def drying (s : State) (l : List Nat) : List Nat :=
  l.eraseDups.filter (fun b => match mget s.med.bands b with
    | some x => x.state == .closed && x.segValid.isEmpty
    | none => false)

/-- Bands that have drained become DRAINED (Table 5.4). -/
def markDrained (s : State) (l : List Nat) : State := l.foldl (fun s b => setBand s b .drained) s

/-- Journal a change as one group, and each band among `touched` that it drains as a record of its own (R154). -/
def journalDrain (s : State) (l : List Record) (touched : List Nat) : State :=
  let dry := drying s touched
  dry.foldl (fun s b => journal s [bandRec b .drained]) (markDrained (journal s l) dry)

/-- Bands an entry's form lies in. -/
def formBands (f : MapForm) : List Nat :=
  match f.place with
  | some (pa, _) => [paBand pa]
  | none => []

/-- A map entry is set with its MAP_SET record, the split of an extent in the same group (R142, R153, R154). -/
def commitSet (s : State) (v lba : Nat) (e : MapEntry) : State :=
  let old := ((mapOf s v lba).map (fun x => x.form)).getD .zero
  let split := match dirAt s v (lba / 512) with
    | .extent _ _ => [Record.dirSet v (lba / 512) (.leaf none)]
    | _ => []
  journalDrain (applyEntry s v lba e) (split ++ [.mapSet v lba e]) (formBands old)

/-- The patrol interval of a band in ms: feature 0x03 in days, or the plan's when that is smaller (R169). -/
def patrolInterval (s : State) (b : Nat) : Nat :=
  let f := feature s 3
  (match mget s.hlt.offsets b with
    | some o => min f o.days
    | none => f) * 86400000

/-! ### Stripe groups take sealed segments (R376 to R378) -/

/-- Members of a group that hold row j of stripe t: index (t × m + j) mod n (R376). -/
def holderIdx (g : Group) (t j : Nat) : Nat := (t * g.m + j) % (g.k + g.m)

/-- Indices of the holders of a stripe. -/
def holderList (g : Group) (t : Nat) : List Nat := (List.range g.m).map (holderIdx g t)

/-- Indices of the data members of a stripe in ascending order: their positions are 0 to k − 1 (R376). -/
def dataMembers (g : Group) (t : Nat) : List Nat := (List.range (g.k + g.m)).filter (fun i => !(holderList g t).contains i)

/-- The node of a member. -/
def memberNode (g : Group) (i : Nat) : Nat := g.members.getD i 0

/-- The primary of a stripe: the holder of the lowest row that is not held LOST (R376, R384, Table 15.9). -/
def primaryOf (g : Group) (t : Nat) : Option Nat := (holderList g t).find? (fun i => !g.lost.contains i)

/-- The lowest stripe at or above `t` in which a member is a data member and some holder is not LOST (R378, Table 15.9). -/
def nextDataStripe (g : Group) (i t fuel : Nat) : Nat :=
  match fuel with
  | 0 => t
  | fuel + 1 => if (holderList g t).contains i || (primaryOf g t).isNone then nextDataStripe g i (t + 1) fuel else t

/-- Change one of the device's own sealed segments. -/
def modOwn (s : State) (band seg : Nat) (f : OwnSeg → OwnSeg) : State :=
  upMesh s (fun m => { m with own := m.own.map (fun o => if o.band = band ∧ o.seg = seg then f o else o) })

/-- Offer a sealed segment to its group: INTENT to the primary of the lowest stripe at or above `from_` and its own next one (R378). -/
def offerSeg (s : State) (g : Group) (band seg from_ : Nat) : State :=
  let t := nextDataStripe g g.index (max g.next from_) (2 * (g.k + g.m))
  let d := (dataMembers g t).findIdx (fun i => i == g.index)
  match primaryOf g t with
  | none => modOwn s band seg (fun o => { o with stage := 0 })
  | some i =>
    sendM (modOwn s band seg (fun o => { o with stripe := t, d, stage := 1, fixed := false })) (memberNode g i) g.id (.intent t d band seg)

/-- A group this device has joined, by ID. -/
def groupAt (s : State) (id : Nat) : Option Group := (groupSlot s id).map (·.2)

/-- Offer the sealed segment of a group that has waited longest, one at a time: an INTENT_REPLY names no segment (log entry 36). -/
def offerNext (s : State) (id : Nat) : State :=
  match groupAt s id with
  | none => s
  | some g =>
    let l := s.mesh.own.filter (fun o => o.group == id)
    if l.any (fun o => o.stage == 1) then s
    else
      match l.find? (fun o => o.stage == 0) with
      | some o => offerSeg s g o.band o.seg 0
      | none => s

/-- Groups that take sealed segments: ACTIVE, DEGRADED or REBUILDING (R377). -/
def takingGroups (s : State) : List Group :=
  (s.mesh.groups.map (·.2)).filter (fun g => g.state == 2 || g.state == 3 || g.state == 4)

/-- The group that takes the next segment: groups in turn, in ascending group ID; 0xFFF for a device with none (R377). -/
def nextGroup (s : State) : Nat × State :=
  let ids := (takingGroups s).map (fun g => g.id)
  match ids with
  | [] => (0xFFF, s)
  | _ =>
    let above := ids.filter (fun i => decide (s.mesh.turn ≤ i))
    let pick := (if above.isEmpty then ids else above).foldl min 0xFFF
    (pick, upMesh s (fun m => { m with turn := pick + 1 }))

/-! ### Codewords -/

/-- The group that the codewords written so far give a segment, or the next group in turn for a new one (R123, R377). -/
def segGroup (s : State) (b : Nat) (frontier : Nat) (stream : Stream) : Nat × State :=
  if stream = .parity then (0xFFF, s)
  else if frontier % 256 = 0 then nextGroup s
  else
    match mget s.med.flash (b * 2 ^ 18 + frontier - 1) with
    | some c => (c.group, s)
    | none => (0xFFF, s)

/-- A sealed segment is counted, and patrol counts from the first one (R119, R169). -/
def countSeal (s : State) (b : Nat) : State :=
  bandMod s b (fun x => { x with
    segsSealed := x.segsSealed + 1,
    deadline := if x.segsSealed = 0 then s.glb.lifetime + patrolInterval s b else x.deadline })

/-- A segment has a stripe to be released before its band's erase (R148). -/
def holdSeg (s : State) (b seg : Nat) : State := bandMod s b (fun x => { x with unreleased := linsert x.unreleased seg })

/-- The group of a sealed segment takes it and is offered it (R377, R378). -/
def takeSeg (s : State) (b seg : Nat) : State :=
  let group := match mget s.med.flash (b * 2 ^ 18 + 256 * seg) with
    | some c => c.group
    | none => 0xFFF
  if (groupAt s group).isNone then s
  else
    let o : OwnSeg := { band := b, seg, group, stripe := 0, d := 0, stage := 0, fixed := false, rows := [], dead := [], gossiped := false,
                        zero := 0 }
    offerNext (holdSeg (upMesh s (fun m => { m with own := m.own ++ [o] })) b seg) group

/-- A band whose last segment is sealed becomes CLOSED (R119, R121). -/
def closeFull (s : State) (b : Nat) : State :=
  match mget s.med.bands b with
  | none => s
  | some x =>
    if x.segsSealed = bandSegs s then journalDrain (journal (setBand s b .closed) [bandRec b .closed]) [] [b] else s

/-- A segment of a band is sealed (R119, R121, R377). -/
def sealSegment (s : State) (b seg : Nat) : State :=
  match mget s.med.bands b with
  | none => s
  | some x => closeFull (if x.stream = .parity then countSeal s b else takeSeg (countSeal s b) b seg) b

/-- Program one codeword at a band's frontier; the first of a segment starts its seal timer (R117, R121). -/
def programCw (s : State) (b : Nat) (c : Codeword) : State :=
  match mget s.med.bands b with
  | none => s
  | some x =>
    let s := upMed s (fun m => { m with flash := mset m.flash (b * 2 ^ 18 + x.frontier) c })
    let s := bandMod s b (fun x => { x with
      frontier := x.frontier + 1, firstAt := if x.frontier % 256 = 0 then s.glb.lifetime else x.firstAt })
    if (x.frontier + 1) % 256 = 0 then sealSegment s b (x.frontier / 256) else s

/-- A pad codeword (Table 5.7). -/
def padCw (group seg : Nat) : Codeword :=
  { vol := 0, kind := 5, used := 0, starts := 0, gcCopy := false, foster := false, lba := 0, wseq := 0, group, seg, blocks := [],
    entries := [], raw := [] }

/-- Fill a band's unsealed segment with pad codewords, which seals it (R121). -/
def padSegment (s : State) (b : Nat) : State :=
  match mget s.med.bands b with
  | none => s
  | some x =>
    if x.frontier % 256 = 0 then s
    else
      let g := segGroup s b x.frontier x.stream
      (List.range (256 - x.frontier % 256)).foldl (fun s _ => programCw s b (padCw g.1 (x.frontier / 256))) g.2

/-- Open bands of a stream that can take another codeword. -/
def openOf (s : State) (t : Stream) : Option Nat :=
  (s.med.bands.find? (fun b => b.2.state == .opened && b.2.stream == t && decide (b.2.frontier < 256 * bandSegs s))).map (·.1)

/-- A flash block's 32-bit field of a BLOCKS record (Table 6.2). -/
def FlashBlock.code (b : FlashBlock) : Nat := b.block + b.lun * 2 ^ 27 + b.ce * 2 ^ 29

/-- BLOCKS records of a band, two channels each (Table 6.2). -/
def blocksRecs (i : Nat) (l : List FlashBlock) : List Record :=
  match l with
  | a :: b :: rest => .blocks i a.code b.code :: blocksRecs (i + 2) rest
  | _ => []

/-- Bands of a stream that may be OPEN at once (Table 5.5). -/
def Stream.slots (t : Stream) : Nat :=
  match t with
  | .sequential => 1
  | .hot => 2
  | .cold => 2
  | .gc => 4
  | .map => 2
  | .parity => 4
  | .replacement => 1

/-- A stream has a free slot (R120). -/
def slotFree (s : State) (t : Stream) : Bool :=
  decide ((s.med.bands.filter (fun b => b.2.state == .opened && b.2.stream == t)).length < t.slots)

/-- Bands that are not RETIRED. -/
def liveBands (s : State) : List (Nat × Band) := s.med.bands.filter (fun b => b.2.state != .retired)

/-- FREE bands. -/
def freeBands (s : State) : Nat := (s.med.bands.filter (fun b => b.2.state == .free)).length

/-- Free bands are below a share of all bands in units of 0.1 % (R143). -/
def belowShare (s : State) (share : Nat) : Bool := decide (freeBands s * 1000 < share * (liveBands s).length)

/-- Free bands are below URGENT: MED_STATUS.GC_URGENT (R143). -/
def gcUrgent (s : State) : Bool := belowShare s s.med.gcUrgent

/-- Open the FREE band of the lowest number, its OPEN record and BLOCKS records in one group (R119, R153; the choice of the band is the
model's, log entry 21). Where this takes free bands below URGENT, host writes have no freed space to their credit yet (R143). -/
def openSlot (s : State) (t : Stream) : Option (Nat × State) :=
  match s.med.bands.find? (fun b => b.2.state == .free) with
  | none => none
  | some (b, x) =>
    let s := if gcUrgent s then s else upMed s (fun m => { m with gcCredit := 0 })
    let s := bandMod s b (fun x => { x with
      state := .opened, stream := t, frontier := 0, segsSealed := 0, segValid := [], copies := 0,
      reads := 0, unreleased := [], failed := [], reloc := 0, overdue := false, deadline := 0, patrolAt := 0, firstAt := 0 })
    some (b, journal s (.band b 1 t.code :: blocksRecs 0 x.blocks))

/-- Open a band for a stream in a slot of its own, or in the Replacement slot where it has none free (R120, R122). -/
def openBand (s : State) (t : Stream) : Option (Nat × State) :=
  if slotFree s t then openSlot s t else if slotFree s .replacement then openSlot s .replacement else none

/-- An open band of a stream with room, opening one when none has. -/
def bandFor (s : State) (t : Stream) : Option (Nat × State) :=
  match openOf s t with
  | some b => some (b, s)
  | none => openBand s t

/-! ### Ciphertext, descriptors and stored blocks (R139, R140, R377) -/

/-- A stored block's bytes as the flash holds them: its stored form under its key, tweaked by volume and LBA (R140). -/
def StoredBlock.onFlash (b : StoredBlock) (vol lba : Nat) : List Byte := fit (256 * b.len) (Config.cipher b.keyId vol lba b.data)

/-- The bytes of a codeword: the blocks that begin in it, each at its unit, with the tail of a block begun in the codeword before
it (Table 5.2, R139). -/
def cwBytes (s : State) (cw : Nat) : List Byte :=
  match mget s.med.flash cw with
  | none => zeros 4096
  | some c =>
    if !c.raw.isEmpty then fit 4096 c.raw
    else if c.kind = 2 then
      fit 4096 (Config.cipher s.med.mapKey c.vol c.lba ((List.range 512).flatMap (fun i => le 8 (mgetD c.entries i entryZero).word)))
    else if 3 ≤ c.kind then zeros 4096
    else
      let put := fun (b : List Byte) (x : StoredBlock × Nat) => fit 4096 (patch b (256 * x.1.unit) (x.1.onFlash c.vol x.2))
      let own := (c.blocks.zip (span c.lba c.blocks.length)).foldl put (zeros 4096)
      match mget s.med.flash (cw - 1) with
      | some p =>
        match (p.blocks.zip (span p.lba p.blocks.length)).getLast? with
        | some (b, l) =>
          if cw % 256 ≠ 0 ∧ p.kind = 1 ∧ 16 < b.unit + b.len then
            fit 4096 (patch own 0 ((b.onFlash p.vol l).drop (256 * (16 - b.unit))))
          else own
        | none => own
      | none => own

/-- A codeword's 18-byte descriptor (Table 15.5). -/
def descriptor (c : Codeword) : List Byte :=
  le 18 (c.vol + c.kind * 2 ^ 16 + c.used * 2 ^ 19 + c.starts * 2 ^ 24 + b2n c.gcCopy * 2 ^ 40 + b2n c.foster * 2 ^ 41 +
    c.lba % 2 ^ 38 * 2 ^ 42 + c.wseq % 2 ^ 64 * 2 ^ 80)

/-- The coded unit's codeword: its bytes and its descriptor, a parity codeword's being that of its spare area (R377, Table 15.6). An
unwritten codeword codes as zero. -/
def codedOf (s : State) (cw : Nat) : Coded :=
  match mget s.med.flash cw with
  | some c => { data := cwBytes s cw, desc := if c.kind = 3 then field c.raw 4096 18 else descriptor c }
  | none => { data := zeros 4096, desc := zeros 18 }

/-- A coded codeword multiplied by a coefficient (R379). -/
def Coded.scale (x : Coded) (w : Nat) : Coded := { data := gfScale w x.data, desc := gfScale w x.desc }

/-- The sum of two coded codewords (R379). -/
def Coded.add (x y : Coded) : Coded := { data := gfAdd x.data y.data, desc := gfAdd x.desc y.desc }

/-- The zero coded codeword. -/
def Coded.zero : Coded := { data := zeros 4096, desc := zeros 18 }

/-! ### Staging -/

/-- The newest completed staged version of a block (R80, R137 step 1). -/
def stagedAt (s : State) (v lba : Nat) : Option Staged :=
  (s.med.staging.reverse.find? (fun x => x.vol == v && x.lba == lba && x.done))

/-- Staged blocks that covered reads and scan lanes pin: (volume, LBA, sequence number of the write) (R80, R267). -/
def pinned (s : State) : List (Nat × Nat × Nat) :=
  s.tsk.ops.flatMap (fun o => o.pins.map (fun p => (o.pkt.vol, p.lba, p.seq))) ++
    (s.kite.insts.flatMap (fun i => i.lane.work) ++ s.kite.runs.flatMap (fun r => r.found.map (·.2))).filterMap (fun b =>
      if b.staging then some (b.vol, b.lba, b.seq) else none)

/-- Blocks of staging in use: those it holds, and those that have left it and are still pinned (R80, R503): 512 MiB. -/
def stagingUsed (s : State) : Nat :=
  s.med.staging.length +
    ((pinned s).eraseDups.filter (fun p => !s.med.staging.any (fun x => (x.vol, x.lba, x.seq) == p))).length

/-- Staging has room for `n` more blocks (Table 7.3, R503). -/
def stagingRoom (s : State) (n : Nat) : Bool := decide (stagingUsed s + n ≤ 131072)

/-- Older versions of a block and the version just placed leave staging (R132). -/
def unstage (s : State) (v lba seq : Nat) : State :=
  upMed s (fun m => { m with staging := m.staging.filter (fun x => !(x.vol == v && x.lba == lba && decide (x.seq ≤ seq) && x.done)) })

/-- The stored form of a block: compressed under static tables and lazy matching and padded to whole units (R303, R139), or its
4,096 bytes. -/
def storedForm (x : Staged) : List Byte :=
  match x.comp with
  | some 0 => x.data
  | some n => fit (256 * ((n + 255) / 256)) (deflate true false x.data)
  | none => x.data

/-- Units of a staged block's stored form. -/
def storedUnits (x : Staged) : Nat :=
  match x.comp with
  | some 0 => 16
  | some n => (n + 255) / 256
  | none => 16

/-- The staged block is stored compressed. -/
def storedComp (x : Staged) : Bool :=
  match x.comp with
  | some 0 => false
  | some _ => true
  | none => false

/-- Every byte of the block is zero (R131). -/
def allZero (b : List Byte) : Bool := b.all (· == 0)

/-! ### Checkpoint roots, pieces and spills (R145, R156 to R158) -/

/-- The newest valid root (R157). -/
def newestRoot (s : State) : Option Root :=
  match s.med.root0, s.med.root1 with
  | some a, some b => if a.ckptNo < b.ckptNo then some b else some a
  | some a, none => some a
  | none, b => b

/-- The pieces that a root names, or none before the first root: (of the band table, number, PA). -/
def rootPieces (r : Option Root) : List (Bool × Nat × Nat) :=
  match r with
  | some r => r.dirPieces.map (fun p => (false, p.1, p.2)) ++ r.bandPieces.map (fun p => (true, p.1, p.2))
  | none => []

/-- The pieces that the root being written names. -/
def ckptPieces (s : State) : List (Bool × Nat × Nat) :=
  match s.med.ckpt with
  | some c => c.dirPieces.map (fun p => (false, p.1, p.2)) ++ c.bandPieces.map (fun p => (true, p.1, p.2))
  | none => []

/-- PAs of the pieces and spills that are valid: named by the newest root or the root being written, and not superseded by a partner root
(R145). Each is 1 MiB: 256 codewords. -/
def keptRuns (s : State) : List Nat :=
  ((rootPieces (newestRoot s) ++ ckptPieces s).map (fun p => p.2.2)).eraseDups ++ s.med.spills.map (fun x => x.pa)

/-- The units of 1 MiB become valid. -/
def addRun (s : State) (pa : Nat) : State := (List.range 256).foldl (fun s i => addUnits s (pa + 16 * i) 16) s

/-- The units of 1 MiB stop being valid. -/
def subRun (s : State) (pa : Nat) : State := (List.range 256).foldl (fun s i => subUnits s (pa + 16 * i) 16) s

/-- A checkpoint in progress is abandoned: the pieces that only it names are not valid any more (R156, Table 6.5). -/
def dropCkpt (s : State) : State :=
  let old := (rootPieces (newestRoot s)).map (fun p => p.2.2)
  let new := ((ckptPieces s).map (fun p => p.2.2)).filter (fun pa => !old.contains pa)
  upMed (new.eraseDups.foldl subRun s) (fun m => { m with ckpt := none })

/-- An open Map band with room for `n` codewords in a row; the rest of a band that has less is filled with pads. -/
def mapRun (s : State) (n : Nat) : Option (Nat × State) :=
  match bandFor s .map with
  | none => none
  | some (b, s) =>
    match mget s.med.bands b with
    | none => none
    | some x =>
      let rest := 256 * bandSegs s - x.frontier
      if n ≤ rest then some (b, s)
      else
        bandFor ((List.range rest).foldl (fun s i =>
          let g := segGroup s b (x.frontier + i) .map
          programCw g.2 b (padCw g.1 ((x.frontier + i) / 256))) s) .map

/-- Write 1 MiB of checkpoint or journal data as KIND 4 codewords in a row: the PA of the first. No stored block begins in one, and their LBA
and WSEQ are open (log entry 12). The kind of a spill's codewords is not named: the model takes 4 as well (DESIGN CHOICE, log entry 25). -/
def writeRun (s : State) (raw : Nat → List Byte) : Option (Nat × State) :=
  match mapRun s 256 with
  | none => none
  | some (b, s) =>
    match mget s.med.bands b with
    | none => none
    | some x =>
      let pa := b * 2 ^ 22 + 16 * x.frontier
      some (pa, (List.range 256).foldl (fun s i =>
        let g := segGroup s b (x.frontier + i) .map
        let l := freeBelow g.2 (2 ^ 38)
        let w := freeBelow l.2 (2 ^ 64)
        programCw w.2 b { vol := 0, kind := 4, used := 16, starts := 0, gcCopy := false, foster := false, lba := l.1, wseq := w.1,
                          group := g.1, seg := (x.frontier + i) / 256, blocks := [], entries := [], raw := fit 4096 (raw i) }) (addRun s pa))

/-- Directory entries that are not UNMAPPED, by their number in the whole directory (R125). -/
def dirList (vols : SMap Volume) : List (Nat × DirEntry) :=
  vols.flatMap (fun v => v.2.dir.map (fun d => (v.2.dirBase + d.1, d.2)))

/-- The directory entry of a number (R125). -/
def dirEntryAt (s : State) (n : Nat) : DirEntry :=
  match s.med.volumes.find? (fun v => decide (v.2.dirBase ≤ n) && decide (n < v.2.dirBase + stretches v.2.capacity)) with
  | some v => mgetD v.2.dir (n - v.2.dirBase) .unmapped
  | none => .unmapped

/-- What is in one list and not in the other, either way. -/
def differs {α : Type} [BEq α] (a b : List α) : List α := a.filter (fun x => !b.contains x) ++ b.filter (fun x => !a.contains x)

/-- The 1 MiB directory pieces that hold an entry changed since the newest root, or are marked as changed: 131,072 entries each (R145,
R156). -/
def dirChanged (s : State) : List Nat :=
  let old := match newestRoot s with
    | some r => r.volumes
    | none => []
  let marked : List Nat := s.med.pieceDirty.filterMap (fun p => if p.1 then none else some p.2)
  let changed : List Nat := (differs (dirList s.med.volumes) (dirList old)).map (fun e => e.1 / 131072)
  (changed ++ marked).foldl linsert []

/-- A directory piece of 1 MiB as the flash holds it: one data unit under the map key, its number and 0xFFFF in the tweak (Tables 5.8 and
13.7). -/
def dirPiece (s : State) (p : Nat) : List Byte :=
  Config.cipher s.med.mapKey 0xFFFF p ((List.range 131072).flatMap (fun j => le 8 (dirEntryAt s (131072 * p + j)).word))

/-- What a band-table entry records of a band (R156). -/
def bandEntry (b : Nat × Band) : Nat × BandState × Stream × List Nat × Nat × Nat :=
  (b.1, b.2.state, b.2.stream, b.2.blocks.map FlashBlock.code, b.2.valid, b.2.segsSealed)

/-- The 1 MiB band-table pieces that have changed: entry b begins at byte 160 × b (R156; log entry 25). -/
def bandChanged (s : State) : List Nat :=
  let old := match newestRoot s with
    | some r => r.bands
    | none => []
  let marked : List Nat := s.med.pieceDirty.filterMap (fun p => if p.1 then some p.2 else none)
  let changed : List Nat := (differs (s.med.bands.map bandEntry) (old.map bandEntry)).map (fun e => e.1 * 160 / 1048576)
  (changed ++ marked).foldl linsert []

/-- Write one changed piece; a piece for which no band is to be had is left to be written. The 160 bytes of a band-table
entry have no layout in the manual, so what such a piece's codewords hold is open (log entries 12 and 25). -/
def writePiece (s : State) (table : Bool) (p : Nat) : State :=
  let f := freeBytes s (if table then 1048576 else 0)
  let bytes := if table then f.1 else dirPiece s p
  match writeRun f.2 (fun i => (bytes.drop (4096 * i)).take 4096) with
  | none => s
  | some (pa, s) =>
    upMed s (fun m => { m with
      pieceDirty := m.pieceDirty.filter (· != (table, p)),
      ckpt := m.ckpt.map (fun c => { c with
        left := c.left.filter (· != (table, p)),
        bandPieces := if table then mset c.bandPieces p pa else c.bandPieces,
        dirPieces := if table then c.dirPieces else mset c.dirPieces p pa }) })

/-- The changed pieces that a checkpoint has still to write are written (R156 step 3). -/
def writePieces (s : State) : State :=
  match s.med.ckpt with
  | some c => c.left.foldl (fun s p => writePiece s p.1 p.2) s
  | none => s

/-- Every piece of the checkpoint in progress is written (R156 step 4). -/
def piecesDone (s : State) : Bool :=
  match s.med.ckpt with
  | some c => c.left.isEmpty
  | none => true

/-- Valid units counted afresh from the map, the parity segments of stripes not released, rebuilt segments not yet reported dead, and the
pieces and spills that are valid (R145, R159, R384, R385). -/
def recount (s : State) : State :=
  let s := upMed s (fun m => { m with bands := m.bands.map (fun b => (b.1, { b.2 with segValid := [] })) })
  let entries := fun (s : State) (l : SMap MapEntry) => l.foldl (fun s e => claimForm s e.2.form) s
  let s := s.med.volumes.foldl (fun s v => v.2.dir.foldl (fun s d =>
    match d.2 with
    | .unmapped => s
    | .extent pa _ => addUnits (addUnits s pa 4096) (pa + 4096) 4096
    | .leaf onFlash =>
      let s := match onFlash with
        | some pa => addUnits s pa 16
        | none => s
      match pageAt s v.1 d.1, onFlash with
      | some p, _ => entries s p.entries
      | none, some pa => entries s (leafOnFlash s pa)
      | none, none => s) s) s
  let segs := s.mesh.stripes.filterMap (fun x => if x.released then none else x.parity) ++ s.mesh.replaced
  (keptRuns s).foldl addRun (segs.foldl (fun s p => addUnits s (p.1 * 2 ^ 22 + 4096 * p.2) 4096) s)

/-! ### Laying blocks into codewords (R139) -/

/-- A block to place: its LBA, write sequence, stored form and key. -/
structure ToPlace where
  lba : Nat
  wseq : Nat
  c : Bool
  data : List Byte
  keyId : Nat

/-- Units a block takes. -/
def ToPlace.units (t : ToPlace) : Nat := t.data.length / 256

/-- The blocks of a run with the unit each begins at, counted from the run's first codeword (R139). -/
def runUnits (u : Nat) (l : List ToPlace) : List (Nat × ToPlace) :=
  match l with
  | [] => []
  | t :: rest => (u, t) :: runUnits (u + t.units) rest

/-- The codeword n of a run: the blocks that begin in it, with USED, STARTS and the spare area of Table 5.6. A codeword in which
no block begins names the block that fills it. -/
def runCw (vol group seg n total : Nat) (gcCopy foster : Bool) (run : List (Nat × ToPlace)) : Codeword :=
  let mine := run.filter (fun x => x.1 / 16 == n)
  let head := match mine.head?, (run.filter (fun x => decide (x.1 < 16 * n))).getLast? with
    | some x, _ => (x.2.lba, x.2.wseq)
    | none, some x => (x.2.lba, x.2.wseq)
    | none, none => (0, 0)
  { vol, kind := if run.any (fun x => x.2.c) then 1 else 0, used := min 16 (total - 16 * n),
    starts := (mine.map (fun x => 2 ^ (x.1 % 16))).sum, gcCopy, foster, lba := head.1, wseq := head.2, group, seg,
    blocks := mine.map (fun x => { unit := x.1 % 16, len := x.2.units, c := x.2.c, data := x.2.data, keyId := x.2.keyId }),
    entries := [], raw := [] }

/-- A run obeys R139: LBA and write sequence rise by one, and it is one uncompressed block or compressed blocks only. -/
def runLegal (l : List ToPlace) : Bool :=
  match l with
  | [] => false
  | [_] => true
  | a :: b :: rest => a.c && b.c && b.lba == a.lba + 1 && b.wseq == a.wseq + 1 && runLegal (b :: rest)

/-- Program a run from a band's frontier on; answers the PA of its first unit. None where the run breaks R139 or does not fit the
segment. -/
def programRun (s : State) (b vol : Nat) (gcCopy foster : Bool) (l : List ToPlace) : Option (Nat × State) :=
  match mget s.med.bands b with
  | none => none
  | some x =>
    let total := (l.map ToPlace.units).sum
    let n := (total + 15) / 16
    if !runLegal l || total = 0 || 256 < x.frontier % 256 + n then none
    else
      let g := segGroup s b x.frontier x.stream
      let run := runUnits 0 l
      let s := (List.range n).foldl (fun s i =>
        programCw s b (runCw vol g.1 (x.frontier / 256) i total gcCopy foster run)) g.2
      some (b * 2 ^ 22 + 16 * x.frontier, s)

/-- The map form of a placed block. -/
def placedForm (pa : Nat) (t : ToPlace) : MapForm := if t.c then .comp pa (t.units - 1) else .plain pa

/-! ### Reading stored blocks (R116, R124, R137, R138) -/

/-- The level at which a codeword read (Table 5.3): 4 or more is unreadable. An unwritten codeword never reads. -/
def readLevel (s : State) (m : MediaIn) (cw : Nat) : Nat :=
  if (mget s.med.flash cw).isNone then 4 else ((m.levels.find? (fun x => x.1 == cw)).map (·.2)).getD 0

/-- Codewords that hold a block's units. -/
def cwsOf (pa n : Nat) : List Nat := span (pa / 16) ((pa + n - 1) / 16 - pa / 16 + 1)

/-- The identity check of a stored block against the codeword in which it begins (R138). -/
def identityOk (c : Codeword) (v lba pa epoch : Nat) (comp : Bool) : Bool :=
  let j := (c.blocks.filter (fun b => decide (b.unit < pa % 16))).length
  c.vol == v && c.lba + j == lba && (c.wseq + j) % 4096 == epoch && c.kind == (if comp then 1 else 0)

/-- The stored block that begins at a PA. -/
def storedAt (s : State) (pa : Nat) : Option StoredBlock :=
  match mget s.med.flash (paCw pa) with
  | some c => c.blocks.find? (fun b => b.unit == pa % 16)
  | none => none

/-- Valid blocks of a codeword: the map names them where they are (R171). -/
def validBlocks (s : State) (cw : Nat) : List GcCopy :=
  match mget s.med.flash cw with
  | none => []
  | some c =>
    (c.blocks.zip (span c.lba c.blocks.length)).filterMap (fun x =>
      let pa := 16 * cw + x.1.unit
      let e := mapFull s c.vol x.2
      if (e.form.place.map (·.1)) == some pa then
        some { vol := c.vol, lba := x.2, srcPa := pa, epoch := e.epoch, dstPa := 0, reloc := true } else none)

/-- A codeword that reached the relocation level: its valid blocks are queued for relocation; a leaf page is made dirty, so that
it is written anew (R171, R145). -/
def queueReloc (s : State) (cw : Nat) : State :=
  match mget s.med.flash cw with
  | none => s
  | some c =>
    if c.kind = 2 then
      let st := c.lba / 512
      if dirAt s c.vol st = .leaf (some (16 * cw)) ∧ (leafRoom s c.vol st).isSome then
        modPage (ensurePage s c.vol st) c.vol st (fun p => { p with dirty := true })
      else s
    else
      let l := (validBlocks s cw).filter (fun g => !s.med.relocQueue.any (fun q => q.srcPa == g.srcPa))
      upMed s (fun m => { m with relocQueue := m.relocQueue ++ l })

/-- The effects of the levels at which codewords read: relocation at the level of MED_PATROL_CTRL, and a Deferred fault of the FCH
island for a CHECK that does not match (R124, R171). -/
def levelEffects (s : State) (m : MediaIn) (cws : List Nat) : State :=
  cws.foldl (fun s cw =>
    let l := readLevel s m cw
    let s := if s.med.relocLevel ≤ l ∧ l ≤ 3 then queueReloc s cw else s
    if l = 5 then raise s (unit (cwIsland s cw) 3) else s) s

/-- What a read of one block finds (R137). -/
inductive Found where
  /-- its leaf page is not resident -/
  | miss (stretch : Nat)
  | data (b : List Byte)
  /-- stored compressed: the stored form (R305) -/
  | packed (b : List Byte)
  /-- codewords that are unreadable or fail the identity check, and the entry's first PA, units and C -/
  | lost (cws : List Nat) (pa units : Nat) (c : Bool)
  /-- stored on a lost partner: its PA, units and C -/
  | remote (pa units : Nat) (c : Bool)
  /-- its staging line was lost (Table 7.6), or the entry has no legal form (R130) -/
  | gone (fault : Bool)
  deriving DecidableEq, Repr

/-- Read a block at the location a map entry gives (R137 steps 3 to 5), with the codewords read. -/
def readEntry (s : State) (m : MediaIn) (v lba : Nat) (e : MapEntry) : Found × List Nat :=
  let at_ := fun (pa n : Nat) (c : Bool) =>
    let cws := cwsOf pa n
    let unread := cws.filter (fun w => decide (4 ≤ readLevel s m w))
    match mget s.med.flash (paCw pa), storedAt s pa with
    | some w, some b =>
      if !unread.isEmpty then (Found.lost unread pa n c, cws)
      else if !identityOk w v lba pa e.epoch c then (.lost [] pa n c, cws)
      else ((if c then .packed b.data else .data b.data), cws)
    | _, _ => (.lost unread pa n c, cws)
  match e.form with
  | .zero => (.data (zeros 4096), [])
  | .plain pa => at_ pa 16 false
  | .comp pa len => at_ pa (len + 1) true
  | .remote pa len c => (.remote pa (len + 1) c, [])
  | .bad => (.gone true, [])

/-- Resolve and read one block from the map on (R137 steps 2 to 5), with the codewords read. -/
def readMapped (s : State) (m : MediaIn) (v lba : Nat) : Found × List Nat :=
  match mapOf s v lba with
  | none => (.miss (lba / 512), [])
  | some e => readEntry s m v lba e

/-- Resolve and read one block, staging first (R137 step 1). -/
def readBlock (s : State) (m : MediaIn) (v lba : Nat) : Found × List Nat :=
  match stagedAt s v lba with
  | some x => if x.lost || (m.badStaged.contains (v, lba) && !mirroring s) then (.gone false, []) else (.data x.data, [])
  | none => readMapped s m v lba

/-- A staging line found uncorrectable: counted, an Uncorrectable-contained fault of a DRAM channel, fetched back from the partner
while mirroring, else the block is lost with a Fatal fault (R192, Table 7.6). Which channel holds the line is open. -/
def stagedBad (s : State) (v lba : Nat) : State :=
  let r := freeBelow s 4
  let s := upDrc r.2 (fun d => { d with uncorrectable := satInc d.uncorrectable })
  let s := raise s (unit (islDram r.1) 1)
  if mirroring s then s
  else
    raise (upMed s (fun m => { m with staging := m.staging.map (fun x =>
      if x.vol = v ∧ x.lba = lba ∧ x.done then { x with lost := true } else x) })) (unit (islDram r.1) 5)

/-- A miss of a leaf page: the page is fetched once, and the miss is counted (R134, R135). -/
def fetchLeaf (s : State) (v st : Nat) : State :=
  if s.med.leafFetch.contains (v, st) then s
  else upMed s (fun m => { m with leafFetch := m.leafFetch ++ [(v, st)], leafMisses := wrapInc m.leafMisses })

end Sys2Proof.Machine
end

