-- ==== Sys2Proof/Machine/PipeOps.lean ====
section
/-! DEFINITION. The compression and decompression pipes and the requests that wait for them (R293, R294). -/

namespace Sys2Proof.Machine

open Sys2Proof

/-- The pipes of a kind with the requests on them: 8 for compression, 8 for decompression (R293). -/
def Cmp.pipes (c : Cmp) (decomp : Bool) : SMap PipeReq := if decomp then c.decomp else c.comp

/-- Set the requests on the pipes of a kind. -/
def setPipes (s : State) (decomp : Bool) (l : SMap PipeReq) : State :=
  upCmp s (fun c => if decomp then { c with decomp := l } else { c with comp := l })

/-- The request has been given a pipe. -/
def hasPipe (s : State) (r : PipeReq) : Bool := (s.cmp.pipes r.decomp).any (fun p => p.2 == r)

/-- The request holds a pipe that can run it: CMP is in no Contain reset, after which a request on a pipe restarts (R15, R423). -/
def onPipe (s : State) (r : PipeReq) : Bool := hasPipe s r && !inReset s islCmp

/-- A minimum gain as a request on a compression pipe names it: 0xFF means feature 0x04, latched when the request started (R298, Table
12.5). -/
def gainOf (s : State) (r : PipeReq) (g : Nat) : Nat :=
  if g = 0xFF then
    (match s.cmp.comp.find? (fun p => p.2 == r) with
      | some p => mgetD s.cmp.gains p.1 (feature s 4)
      | none => feature s 4)
  else g

/-- The request waits for a pipe. -/
def pipeWaits (s : State) (r : PipeReq) : Bool := s.cmp.waiting.contains r

/-- A request asks for a pipe; the command class queues up to 256 (R294). -/
def askPipe (s : State) (r : PipeReq) : State :=
  if hasPipe s r || pipeWaits s r then s
  else if r.cls == .command && decide (256 ≤ (s.cmp.waiting.filter (fun x => x.cls == .command)).length) then s
  else upCmp s (fun c => { c with waiting := c.waiting ++ [r] })

/-- A request leaves its pipe or its queue. -/
def leavePipe (s : State) (r : PipeReq) : State :=
  upCmp s (fun c => { c with
    comp := c.comp.filter (fun p => p.2 != r), decomp := c.decomp.filter (fun p => p.2 != r),
    waiting := c.waiting.filter (· != r) })

/-- Requests of a command leave: its own, and the inflations of blocks it reads (Table 12.5). -/
def dropPipes (s : State) (tag : Nat) : State :=
  let of := fun (r : PipeReq) => r.tag == tag && (r.cls == .command || (r.cls == .inlineC && r.decomp))
  upCmp s (fun c => { c with
    comp := c.comp.filter (fun p => !of p.2), decomp := c.decomp.filter (fun p => !of p.2),
    waiting := c.waiting.filter (fun r => !of r) })

/-- A class's place in the round robin (R294). -/
def PipeClass.code (c : PipeClass) : Nat :=
  match c with
  | .inlineC => 0
  | .command => 1
  | .kite => 2

/-- The first waiting request of the first class after `last` that has one (R294). -/
def nextRequest (s : State) (decomp : Bool) (last : Nat) : Option PipeReq :=
  let of := fun (k : Nat) => s.cmp.waiting.find? (fun r => r.decomp == decomp && r.cls.code == k)
  [of ((last + 1) % 3), of ((last + 2) % 3), of (last % 3)].findSome? id

/-- The lowest free pipe of a kind. -/
def freePipe (s : State) (decomp : Bool) : Option Nat :=
  (List.range 8).find? (fun n => (mget (s.cmp.pipes decomp) n).isNone)

end Sys2Proof.Machine
end

