-- ==== Sys2Proof/Machine/TaskOps.lean ====
section
/-! DEFINITION. A command between acceptance and its reply: range locks (R76 to R79), coverage (R80), check 6 and arriving data
(R92, R96, R98), the effects of an abort (Table 3.11), completion and the reply entry (R83, R93). -/

namespace Sys2Proof.Machine

open Sys2Proof

/-! ### Range locks (Table 3.7) -/

/-- Blocks of the whole of any volume (Table 4.11). -/
def wholeVolume : Nat := 2 ^ 38

/-- The lock a command takes: first block, block count, exclusive (Table 3.7). -/
def lockOf (p : Packet) : Option (Nat × Nat × Bool) :=
  match p.opc with
  | 0x0401 => some (p.addr, p.blocks, false)
  | 0x0405 => some (p.addr, p.blocks, false)
  | 0x0407 => some (p.addr, p.blocks, false)
  | 0x0402 => some (p.addr, p.blocks, true)
  | 0x0403 => some (p.addr, p.blocks, true)
  | 0x0406 => some (p.addr, p.blocks, true)
  | 0x0304 => some (0, wholeVolume, true)
  | 0x0302 => some (0, wholeVolume, true)
  | _ => none

/-- WRITE, TRIM and WRITE_ZEROES (R24, R76, R343). -/
def isWrite (opc : Nat) : Bool := opc == 0x0402 || opc == 0x0403 || opc == 0x0406

/-- A command that reads blocks under the ordering classes (Table 3.7). -/
def isRead (opc : Nat) : Bool := opc == 0x0401 || opc == 0x0405 || opc == 0x0407

/-- Two entries name a common block and one of them is exclusive (R77). -/
def Lock.conflicts (a b : Lock) : Bool :=
  a.vol == b.vol && decide (a.first < b.first + b.count) && decide (b.first < a.first + a.count) && (a.excl || b.excl)

/-- A mirror entry that a takeover has still to replay holds blocks of the range, ahead of any host command (R356). -/
def replayHolds (s : State) (vol first count : Nat) : Bool :=
  s.pair.replaying.isSome &&
    s.pair.entriesIn.any (fun e => e.vol == vol && decide (e.lba < first + count) && decide (first < e.lba + e.blocks))

/-- No overlapping conflicting entry of an earlier-accepted command exists, nor a mirror entry still to be replayed (R77, R356). -/
def grantable (s : State) (l : Lock) : Bool :=
  !s.tsk.locks.any (fun m => decide (m.seq < l.seq) && m.conflicts l) && !replayHolds s l.vol l.first l.count

/-- The lock entry of a command. -/
def lockEntry (o : Op) : Option Lock :=
  (lockOf o.pkt).map (fun x => { tag := o.tag, seq := o.seq, vol := o.pkt.vol, first := x.1, count := x.2.1, excl := x.2.2,
                                 granted := false })

/-! ### Coverage of class F reads (R80) -/

/-- An incomplete command accepted earlier that changes the block, or a mirror entry still to be replayed (R80, R356). -/
def unsettled (s : State) (v lba : Nat) : Bool :=
  replayHolds s v lba 1 || s.tsk.ops.any (fun o => o.stage != .completed && o.pkt.vol == v &&
    match lockOf o.pkt with
    | some (a, n, true) => decide (a ≤ lba) && decide (lba < a + n)
    | _ => false)

/-- A WRITE accepted later than `seq` covers the block and ended without SUCCESS (R80). -/
def failedSince (s : State) (v lba seq : Nat) : Bool :=
  s.tsk.failedWrites.any (fun f => f.1 == v && decide (f.2.1 ≤ lba) && decide (lba < f.2.1 + f.2.2.1) && decide (seq < f.2.2.2))

/-- The staging pins of a covered read; none when it is not covered: the data of the last WRITE that covers each block must be whole in
staging (R80). -/
def coverage (s : State) (p : Packet) : Option (List Pin) :=
  (span p.addr p.blocks).mapM (fun lba =>
    if unsettled s p.vol lba then none
    else
      match stagedAt s p.vol lba with
      | some x => if x.lost || failedSince s p.vol lba x.seq then none else some { lba, seq := x.seq, data := x.data }
      | none => none)

/-- A WRITE that completes without SUCCESS is noted while data of an earlier write of its range is, or may come to be, in staging (R80). -/
def noteFailed (s : State) (o : Op) (r : Reply) : State :=
  if o.pkt.opc ≠ 0x0402 ∨ r.status = stSuccess then s
  else
    upTsk s (fun t => { t with failedWrites := ((o.pkt.vol, o.pkt.addr, o.pkt.blocks, o.seq) :: t.failedWrites).filter (fun f =>
      s.med.staging.any (fun x => x.vol == f.1 && decide (x.seq < f.2.2.2)) ||
        t.ops.any (fun x => x.pkt.opc == 0x0402 && x.pkt.vol == f.1 && decide (x.seq < f.2.2.2) && x.stage != .completed)) })

/-! ### Data a command takes in (R92, R96, R98) -/

/-- A command whose data comes in through DPTR. -/
def takesData (opc : Nat) : Bool :=
  opc == 0x0105 || opc == 0x0402 || opc == 0x0405 || (decide (0x0501 ≤ opc) && decide (opc ≤ 0x0506)) || opc == 0x0601 ||
    opc == 0x0701 || opc == 0x0703 || opc == 0x0704 || opc == 0x0801 || opc == 0x0805

/-- Bytes that Footpath chunks must deliver (R98). -/
def chunkNeed (p : Packet) : Nat := if p.opc = 0x0504 then p.dlen + digestSize p.p4 else p.dlen

/-- The stage a command reaches once it needs no lock or has been granted one: it awaits Footpath data, its fragment list, or
nothing (R92, R94, R98). -/
def afterLock (o : Op) : Stage :=
  if fromFootpath o then (if takesData o.pkt.opc && chunkNeed o.pkt != 0 && !o.rxLast then .waitData else .ready)
  else if o.pkt.frag then .waitFrags
  else .ready

/-! ### Digest messages (R308 to R310) -/

/-- The context a command's part belongs to. -/
def ctxOfTag (s : State) (tag : Nat) : Option (Nat × DigestCtx) := s.sec.contexts.find? (fun c => c.2.parts.contains tag)

/-- A context is cleared: its remaining parts, but for `tag`, fail with INVALID_FIELD and DETAIL 0x0028 (R310). -/
def clearCtx (s : State) (n tag : Nat) : State :=
  match mget s.sec.contexts n with
  | none => s
  | some c =>
    let s := upSec s (fun e => { e with contexts := mdel e.contexts n })
    (c.parts.filter (· != tag)).foldl (fun s t => finish s t (bad 0x28)) s

/-- A part leaves its message without success: the first part clears the context; a later one ends the message, whose first part
runs on (R310, Table 3.11). -/
def failPart (s : State) (tag : Nat) : State :=
  match ctxOfTag s tag with
  | none => s
  | some (n, c) =>
    if c.parts.head? = some tag then clearCtx s n tag
    else
      let s := (c.parts.tail.filter (· != tag)).foldl (fun s t => finish s t (bad 0x28)) s
      upSec s (fun e => { e with contexts := mmod e.contexts n (fun c => { c with parts := c.parts.take 1, doomed := true }) })

/-! ### Ending a command before its completion -/

/-- Mirror entries of a command that no longer stand for anything may be released, whether the partner has confirmed them or not (R86,
R346). -/
def freeMirror (s : State) (tag : Nat) : State :=
  upPair s (fun p => { p with entriesOut := p.entriesOut.map (fun e =>
    if e.tag = some tag then { e with releasable := true, tag := none } else e) })

/-- The destination bytes of a command up to its capacity become undefined; over Footpath nothing is sent (Table 4.18). -/
def spoil (s : State) (o : Op) : State :=
  if fromFootpath o && !bit o.pkt.flags 2 then s
  else
    let r := freeBytes s o.pkt.p0
    deliverAddr r.2 o r.1

/-- Data of a READ has been moved: its blocks were read, well or badly (Table 3.11, R109). -/
def dataMoved (o : Op) : Bool :=
  match o.reply with
  | some r => r.status == stSuccess || r.status == stRecovered || r.status == stUnrecovered
  | none => false

/-- The effects of an abort on what a command has done so far (Table 3.11, R86): its lock and pins are released, staged bytes and
mirror entries of an incomplete write go, its digest message ends, its destination is undefined where the table says so, no Footpath
output of it goes out, and its granules return to host bias. -/
def abandon (s : State) (o : Op) : State :=
  let s := dropPipes (releaseLock s o.tag) o.tag
  let s := upMed s (fun m => { m with staging := m.staging.filter (fun x => !(x.seq == o.seq && !x.done)) })
  let s := failPart (freeMirror s o.tag) o.tag
  let s := if o.pkt.opc = 0x0401 ∧ dataMoved o ∧ !fromFootpath o then
      let r := freeBytes s o.pkt.dlen
      deliver r.2 o 0 r.1
    else s
  let s := modOp s o.tag (fun x => { x with tx := [], mirror := none })
  let s := if o.pkt.opc = 0x0407 then
      let r := freeBytes s o.pkt.dlen
      arenaWrite r.2 o.pkt.dptr r.1
    else if o.pkt.opc = 0x0501 ∨ o.pkt.opc = 0x0502 then spoil s o
    else s
  flipBack s o.tag

/-- A command fails after acceptance without having moved data: its message, lock and tag go as R94 and R96 say. -/
def failEarly (s : State) (tag : Nat) (r : Reply) : State := finish (failPart (releaseLock s tag) tag) tag r

/-! ### Completion and the reply (R83, R93) -/

/-- The reply entry of a command (Table 4.4). -/
def entryOf (o : Op) (r : Reply) : Entry :=
  { cookie := o.pkt.cookie, qid := srcQueue o.src, status := r.status, detail := r.detail, tag := o.tag, r0 := r.r0, r1 := r.r1 }

/-- The 32 bytes of a reply entry with its phase bit (Table 4.4). -/
def entryBytes (e : Entry) (phase : Bool) : List Byte :=
  le 4 e.cookie ++ le 4 e.qid ++ le 2 e.status ++ le 2 e.detail ++ le 2 e.tag ++ le 2 0 ++ le 8 e.r0 ++ le 4 e.r1 ++ le 4 (b2n phase)

/-- Hand a reply to a ring's waiting replies (R73). -/
def toRing (s : State) (ring : Nat) (w : Waiting) : State :=
  upTsk s (fun t => { t with rings := mmod t.rings ring (fun r => { r with waiting := r.waiting ++ [w] }) })

/-- The chunks of Footpath output: up to 1,024 bytes each, the last marked (R98, Table 19.9). -/
def chunks (seq : Nat) (b : List Byte) (fuel : Nat) : List FpPacket :=
  match fuel with
  | 0 => []
  | fuel + 1 =>
    if b.isEmpty then []
    else .data (decide (b.length ≤ 1024)) seq (b.take 1024) :: chunks ((seq + 1) % 65536) (b.drop 1024) fuel

/-- Send what waits on the Footpath port while FP_RDY_IN is asserted; a reply sent frees its tag, and the rate changes once a BAUD
answer has gone out (R67, R470, R473). -/
def fpPump (s : State) : State :=
  if !s.pwr.fpRdyIn then s
  else
    let out := s.glb.fpOut
    let s := upGlb s (fun g => { g with fpOut := [], fpSent := out.reverse ++ g.fpSent, fpNaks := if out.isEmpty then g.fpNaks else 0 })
    out.foldl (fun s p => match p with
      | .reply (some t) _ => dropOp s t
      | .baud n => upGlb s (fun g => { g with baudN := n })
      | _ => s) s

/-- A completed command's reply goes to the reply engine: to its ring, or over Footpath behind its output, where its phase bit is
0; a discarded reply frees the tag at once (R54, R67, R83, R98). Its granules return to host bias here, before its reply is written: R43
and Table 2.8 say so, while R44 says once the last holder has written its reply (DESIGN CHOICE, log entry 76). -/
def handOver (s : State) (o : Op) (r : Reply) : State :=
  let s := modOp (flipBack (releaseLock (noteFailed s o r) o.tag) o.tag) o.tag (fun p => { p with stage := .completed })
  if o.discard then dropOp s o.tag
  else if fromFootpath o then
    let out := chunks 0 o.tx (o.tx.length / 1024 + 1) ++ [.reply (some o.tag) (entryBytes (entryOf o r) false)]
    fpPump (upGlb s (fun g => { g with fpOut := g.fpOut ++ out }))
  else toRing s o.ring { entry := entryOf o r, tag := o.tag, after := o.after }

/-- A command's last effect and its completion are one: its reply is known and handed to the reply engine, and no abort comes between
(R83). -/
def complete (s : State) (tag : Nat) (r : Reply) : State :=
  let s := finish s tag r
  match findOp s tag with
  | some o => handOver s o r
  | none => s

/-- Every command accepted before `seq` that writes the volume has completed (R76, FLUSH). -/
def writesEnded (s : State) (v seq : Nat) : Bool :=
  !s.tsk.ops.any (fun o => isWrite o.pkt.opc && o.pkt.vol == v && decide (o.seq < seq) && o.stage != .completed)

/-- A command accepted before `seq`, not yet ended, that a test picks. -/
def earlierOp (s : State) (seq : Nat) (f : Packet → Bool) : Bool :=
  s.tsk.ops.any (fun x => decide (x.seq < seq) && f x.pkt && x.stage != .finished && x.stage != .completed)

/-- A command that is accepted and incomplete (R83). -/
def Op.incomplete (o : Op) : Bool := o.stage != .completed

/-- SEC_STATUS.SELFTEST_RUNNING: a SELF_TEST is in progress (Table 13.10). -/
def selftestRunning (s : State) : Bool := s.tsk.ops.any (fun o => o.pkt.opc == 0x0705 && o.stage == .running)

/-! ### Admission of writes (R343, R344, R503) -/

/-- Blocks of data a write stages: none for TRIM and WRITE_ZEROES. -/
def stagedBlocks (p : Packet) : Nat := if p.opc = 0x0402 then p.blocks else 0

/-- Blocks that admitted writes are still to land. -/
def reserved (s : State) : Nat :=
  ((s.tsk.ops.filter (fun o => isWrite o.pkt.opc && o.stage == .ready && o.aux == 1)).map (fun o => stagedBlocks o.pkt)).sum

/-- Blocks of own entries the partner holds: 512 MiB are counted (R343). -/
def mirrorUsed (s : State) : Nat := ((s.pair.entriesOut.filter (fun e => e.op == 0)).map (fun e => e.blocks)).sum

/-- Garbage collection keeps pace with the write: while free bands are below URGENT, host writes are admitted only into space that GC has
freed since (R143). The manual gives no measure: the model counts a block for each codeword of a band that becomes FREE (DESIGN CHOICE, log entry
84). -/
def gcAdmits (s : State) (n : Nat) : Bool := !gcUrgent s || decide (n ≤ s.med.gcCredit)

/-- Staging has room for the write, and the partner mirror count while the device mirrors (R143, R343, R503). -/
def hasRoom (s : State) (p : Packet) : Bool :=
  let n := stagedBlocks p + reserved s
  stagingRoom s n && gcAdmits s n && (!mirroring s || decide (mirrorUsed s + n ≤ 131072))

/-- Writes accepted before a sequence number that are still to be admitted: those that wait for room, and while the device mirrors
every one whose effect has not begun (R344, R503). -/
def earlierWrites (s : State) (seq : Nat) : Bool :=
  s.tsk.ops.any (fun o => isWrite o.pkt.opc && decide (o.seq < seq) && o.aux == 0 &&
    (o.waitStaging || (mirroring s && o.stage != .running && o.stage != .finished && o.stage != .completed)))

end Sys2Proof.Machine
end

