-- ==== Sys2Proof/Machine/ResetOps.lean ====
section
/-! DEFINITION. What resets and power loss do: the host interface (R54, R398, R452), the power-loss dump (R162 to R164), the device
reset (R424, R425, R451, R452), and what each block keeps across it. -/

namespace Sys2Proof.Machine

open Sys2Proof

/-- The silicon revision this manual describes, as GLB_REV reads (Table 19.13). -/
def deviceRevision : Nat := 0x11

/-! ### Faults left waiting when a reset begins (R426) -/

/-- The faults still waiting take no reaction: each leaves a history record with FLAGS[0] and counts as shadowed. -/
def shadowQueue (s : State) : State :=
  let l := s.flt.queue ++ s.flt.held
  l.foldl (fun s f => shadowFault s f.src (f.level.getD (srcLevel s f.src))) (upFlt s (fun f => { f with queue := [], held := [] }))

/-! ### Digest contexts across an FLR (R313) -/

/-- An FLR clears every command-path message without a part in progress; one with a part in progress is cleared when it ends. -/
def flrContexts (s : State) : State :=
  upSec s (fun e => { e with contexts := (e.contexts.filter (fun c => c.2.kite.isSome || !c.2.parts.isEmpty)).map (fun c =>
    if c.2.kite.isSome then c else (c.1, { c.2 with parts := c.2.parts.take 1, doomed := true })) })

/-! ### The host interface -/

/-- Configuration space, MSI-X and the HDM decoders at their defaults, every granule in host bias, the link down. The Arena size
in force stays (R40, R398, R452). -/
def hostDown (s : State) : State := upHst s (fun h => { Hst.reset with arenaCur := h.arenaCur })

/-- Ring 0 emptied and disabled, with its base and size kept (R54). The manual names its head, its tail and EN; the model clears the rest of
ring 0's state with them: INT_MASK, FULL_SEEN, HEAD_ERR, its unsignalled entries and the replies that wait for it (DESIGN CHOICE, log
entry 71). -/
def emptyRing0 (r : Ring) : Ring := { Ring.zero with base := r.base, sizeLog2 := r.sizeLog2 }

/-- Every queue but queue 0 and every ring but ring 0 goes, and EN is 0 (R54, R398). -/
def dropQueues (s : State) : State :=
  upTsk s (fun t => { t with
    queues := [], rings := [(0, emptyRing0 (mgetD t.rings 0 Ring.zero))], ring0En := false, held := [], overrun := [] })

/-! ### The power-loss dump (R162 to R164) -/

/-- A pairing that ends without success leaves the device SOLO, without what it had from the other one (R341). -/
def soloAgain (s : State) : State :=
  let s := upSec s (fun e => { e with keyLog := e.keyLog.filter (fun k => k.kind != 1), links := e.links.filter (fun l => l.1 != 0) })
  let s := upMed s (fun m => { m with partnerRing := [], partnerStart := 0, partnerRoot0 := none, partnerRoot1 := none, spills := [] })
  upPair s (fun p => { p with
    state := 0, pairing := none, pub := [], helloIn := none, called := false, partner := 0, partnerNode := 0xFFFF, pairId := 0,
    held := false, entriesOut := [], entriesIn := [], keyWaits := [] })

/-- The pair commands in progress are forgotten; a pairing that was not complete leaves the device SOLO (log entry 34). -/
def dropPairing (s : State) : State :=
  let s := if s.pair.state = 1 then soloAgain s else s
  upPair s (fun p => { p with pairing := none, unpairing := none, takeovers := [], keyWaits := [] })

/-- A group that is not ACTIVE yet is forgotten with its STRIPE_GROUP_JOIN, and a dissolution goes on without its command (log entry
34). -/
def dropJoins (s : State) : State :=
  upMesh s (fun m => { m with groups := (m.groups.filter (fun g => g.2.state != 1)).map (fun g => (g.1, { g.2 with tag := none })) })

/-- Commands end with POWER_FAIL and the effects of an abort; a command whose final reply is known keeps it (R164, log entry
22). -/
def failIncomplete (s : State) : State :=
  let s := upGlb s (fun g => { g with programming := none })
  let open_ := s.tsk.ops.filter (fun o => o.stage != .completed && o.stage != .finished)
  let s := dropJoins (dropPairing (open_.foldl (fun s o => finish (abandon s o) o.tag { status := stPowerFail }) s))
  let s := (s.kite.insts.map (fun i => (i.run, i.num))).foldl (fun s i => endInst s i.1 i.2) s
  (List.range 8).foldl settleRing (upKite s (fun q => { q with
    runs := [], insts := [], mail := [], readyQ := [],
    clusters := q.clusters.map (fun c => { c with areas := [] }) }))

/-- Every accepted command and every HELD packet goes without a reply (R424, R425, R452). -/
def dropCommands (s : State) : State :=
  let s := failIncomplete s
  upTsk s (fun t => { t with
    ops := [], held := [], locks := [], overrun := [],
    rings := t.rings.map (fun r => (r.1, { r.2 with waiting := [] })) })

/-- The dump area that holds no unconsumed dump: 0 A, 1 B (R162, Table 6.5). -/
def freeArea (s : State) : Nat :=
  match s.med.dumps.find? (fun d => d.complete && !d.consumed) with
  | some d => 1 - d.area
  | none => 1 - s.med.dumpArea

/-- The journal tail of an unconsumed dump, which a new dump carries as well (Table 6.5). -/
def oldTail (s : State) : List JRec :=
  match s.med.dumps.find? (fun d => d.complete && !d.consumed) with
  | some d => d.tail
  | none => []

/-- A dump begins: READY falls, background work stops, a checkpoint in progress is abandoned, and the dump record is written with
DUMP_ACTIVE (R162, R163, Table 6.4). In the error state nothing is written into it (R164, R332). `purpose` names what follows
the dump: 0 the dump-held state, 1 a conventional reset, 2 a Failover, 3 a Halt, 4 an activation reset. -/
def startDump (s : State) (purpose : Nat) : State :=
  if s.med.dumpActive then upMed s (fun m => { m with dumpThen :=
    if purpose = 1 ∨ purpose = 4 then purpose else if m.dumpThen = 1 ∨ m.dumpThen = 4 then m.dumpThen else max m.dumpThen purpose })
  else
    let area := freeArea s
    let seq := (s.med.dumps.map (fun d => d.seq)).foldl max 0 + 1
    let write := !s.sec.errorState
    let d : Dump := { seq, area, complete := false, consumed := false,
                      staging := if write then s.med.staging.filter (fun x => x.done && !x.lost) else [],
                      tail := if write then oldTail s ++ s.med.jbuf else [], key := s.med.dumpKey }
    let s := dropCkpt (upGlb s (fun g => { g with ready := false }))
    upMed s (fun m => { m with
      dumps := d :: (m.dumps.filter (fun x => x.area != area)), dumpActive := true, dumpArea := area,
      dumpThen := purpose, gcActive := false, copies := [] })

/-! ### The device reset (R451) -/

/-- The channels' accounts with the blocks of every band counted as free: the boot takes out again those of the bands it recovers. A
RETIRED band has none of its own. -/
def Med.pooled (m : Med) : List Channel :=
  (m.chans.zip (List.range m.chans.length)).map (fun c =>
    { c.1 with free := c.1.free ++ m.bands.filterMap (fun b => if b.2.state = .retired then none else b.2.blocks[c.2]?) })

/-- What the media keep: the flash, the channels' accounts, and what PJM holds (R150, R161). -/
def Med.kept (m : Med) : Med :=
  { Med.reset with
    nextGen := m.nextGen, bandsRetired := m.bandsRetired, deadlines := m.bands.foldl (fun d b => mset d b.1 b.2.deadline) m.deadlines,
    dumpBlocks := m.dumpBlocks, ckptAt := m.ckptAt, chans := m.pooled, flash := m.flash, wseqCeil := m.wseqCeil,
    wseq := max 1 m.wseqCeil, ring := m.ring, jstart := m.jstart, root0 := m.root0, root1 := m.root1,
    partnerRing := m.partnerRing, partnerStart := m.partnerStart, partnerRoot0 := m.partnerRoot0,
    partnerRoot1 := m.partnerRoot1, spills := m.spills, pjmInit := m.pjmInit, pjmBad := m.pjmBad, dumps := m.dumps,
    dumpArea := m.dumpArea, dumpLost := m.dumpLost, dumpUs := m.dumpUs, spareState := m.spareState,
    holdupRo := m.holdupRo, progress := m.progress, formats := m.formats, absorbed := m.absorbed,
    blocksRetired := m.blocksRetired, lifePatrol := m.lifePatrol, lifeReloc := m.lifeReloc, lifeRecon := m.lifeRecon,
    lifeDumps := m.lifeDumps, lifeLost := m.lifeLost, lifeCkpts := m.lifeCkpts, mapKey := m.mapKey, dumpKey := m.dumpKey }

/-- What the security module keeps: the key log with its HMAC keys, the key identities given out, and the pair secret (R316, R325,
R341). Milestones and counters are reset (R317). -/
def Sec.kept (e : Sec) : Sec :=
  { Sec.reset with keyLog := e.keyLog, hmacKeys := e.hmacKeys, nextKey := e.nextKey, rootGen := e.rootGen,
                   keyGen := e.keyGen, links := e.links.filter (fun l => l.1 == 0) }

/-- An island after a device reset: the last plan's values, with no test failed and no bank lost since (R434, Table 18.13). -/
def IslandMargin.kept (i : IslandMargin) : IslandMargin :=
  { i with vNow := i.vTarget, now := i.cap, slack := 0, failed := false, bankLost := false, actions := [], outstanding := 0,
           thermal := 0 }

/-- What ageing keeps: the islands' plan and what AON and PJM hold; the policy returns to its defaults (chapter 18). -/
def Hlt.kept (h : Hlt) : Hlt :=
  { Hlt.reset with islands := h.islands.map IslandMargin.kept, rail := h.rail, planNo := h.planNo, planStart := h.planStart,
                   life := h.life, planLog := h.planLog, planOverrides := 0, coldDue := h.coldDue, lastForced := h.lastForced,
                   offsets := h.offsets.map (fun o => (o.1, { o.2 with offset := 8, retry := [] })) }

/-- What the pair keeps in PJM (R340, R344, R351, Table 14.18). -/
def Pair.kept (p : Pair) : Pair :=
  { Pair.reset with
    state := p.state, fostering := p.fostering, partner := p.partner, partnerNode := p.partnerNode, pairId := p.pairId,
    mseq := max 1 p.mseqCeil, mseqCeil := p.mseqCeil, claimNo := p.claimNo, records := p.records,
    takeoverMark := p.takeoverMark, takeoverRoot := p.takeoverRoot, partnerReadOnly := p.partnerReadOnly,
    pairings := p.pairings, takeoverCount := p.takeoverCount, handbacks := p.handbacks, claimsLost := p.claimsLost,
    lifeResets := p.lifeResets, log := p.log, logCount := p.logCount, adopted := p.adopted,
    partnerDir := if p.adopted.isEmpty then [] else p.partnerDir, partnerMap := if p.adopted.isEmpty then [] else p.partnerMap,
    partnerDirReady := !p.adopted.isEmpty && p.partnerDirReady, partnerDirLost := !p.adopted.isEmpty && p.partnerDirLost }

/-- What the mesh keeps: in PJM its configuration, its groups, and the segments and stripes not yet closed, without their accumulators
(R367, R382). The records of closed stripes go with DRAM, and STRIPE_INDEX_READY reads them from flash (R381); which positions are
known dead stays (log entry 37). A rebuild that ran is forgotten. -/
def Mesh.kept (m : Mesh) : Mesh :=
  { Mesh.reset with
    node := m.node, configured := m.configured, xs := m.xs, ys := m.ys, zs := m.zs, wrap := m.wrap,
    ports := m.ports.map (fun p => { Port.reset with enabled := p.enabled }), turn := m.turn,
    groups := m.groups.map (fun g => (g.1, if g.2.state = 4 then { g.2 with state := if g.2.lost.isEmpty then 2 else 3 } else g.2)),
    floodSeq := m.floodSeq, own := m.own.map (fun o => { o with gossiped := false }), replaced := m.replaced,
    stripes := m.stripes.map (fun t => { t with
      acc := [], got := [], hasAcc := false, record := if t.parity.isSome then none else t.record }) }

/-- What GLB keeps: AON's lifetime, the boot NOR, the fuses, the features, and the Footpath lock where the reset is a Failover
(R474, Table 19.17). -/
def Glb.kept (g : Glb) (cause : Nat) : Glb :=
  { Glb.reset with
    lastReset := cause, fpLock := g.fpLock && cause == 4, lifetime := g.lifetime, poweredOn := g.poweredOn,
    primary := g.primary, golden := g.golden, activations := g.activations, goldenBoots := g.goldenBoots,
    lastActivation := g.lastActivation, keyDigest := g.keyDigest, features := g.features, fpRxdLow := g.fpRxdLow,
    tapIr := g.tapIr, tapPins := g.tapPins, junction := g.junction, fwVersion := g.fwVersion }

/-- What PWR keeps: the levels of its inputs and what log 0x03 counts since manufacture (R409, Table 16.11). -/
def Pwr.kept (p : Pwr) : Pwr :=
  { Pwr.reset with
    pwrFailN := p.pwrFailN, perstN := p.perstN, wakeN := p.wakeN, fpRdyIn := p.fpRdyIn, railsGood := p.railsGood,
    wakeIgnored := p.wakeIgnored, pwrFailIgnored := p.pwrFailIgnored, evHoldup := p.evHoldup,
    lifeRefusers := p.lifeRefusers, lifeEntered := p.lifeEntered, lifeBrownouts := p.lifeBrownouts, records := p.records,
    recordCount := p.recordCount }

/-- What the fault collector keeps in AON and PJM; a Failover also keeps the unacknowledged classes (R413, R417, R424). -/
def Flt.kept (f : Flt) (failover : Bool) : Flt :=
  { Flt.reset with
    unack := if failover then f.unack else [], period := f.period, reaction := f.reaction, ceLimit := f.ceLimit,
    recoveries := f.recoveries, counts := f.counts, shadowed := f.shadowed, queueDrops := f.queueDrops,
    escalations := f.escalations, reactions := f.reactions, sticky := f.sticky, failover, failoverEvent :=
      (if failover then f.failoverEvent else none), history := f.history, recordCount := f.recordCount, halts := f.halts,
    failovers := f.failovers }

/-- Every island but AON and PJM is reset, DRAM is lost, milestones are cleared and the acceptance sequence restarts; the boot is
to follow (R317, R424, R451, R452). `cause` is the LAST_RESET code. The Arena size of feature 0x01 takes effect at a conventional reset and
not at a Failover (R40). -/
def deviceReset (s : State) (cause : Nat) : State :=
  let arena := if cause = 4 then s.hst.arenaCur else feature s 1
  { s with
    pwr := s.pwr.kept, flt := s.flt.kept (cause == 4), glb := s.glb.kept cause, hst := { Hst.reset with arenaCur := arena },
    tsk := Tsk.reset, med := s.med.kept, drc := { Drc.reset with marks := s.drc.marks, clamped := cause == 4 && s.drc.clamped }, kite := Kite.reset,
    way := Way.reset, cmp := Cmp.reset, sec := s.sec.kept, hlt := s.hlt.kept, pair := s.pair.kept, mesh := s.mesh.kept,
    arena := [] }

/-- AON has lost power: its sticky bits, counts and settings, and the readings it keeps, are at their reset values (R413, R488). The
lifetime counts on (log entry 6), and the VDD_CORE regulator starts again at 0.800 V (R484). -/
def loseAon (s : State) : State :=
  let s := upFlt s (fun f => { Flt.reset with history := f.history, recordCount := f.recordCount, halts := f.halts, failovers := f.failovers })
  let s := upPwr s (fun p => { p with wakeIgnored := false, pwrFailIgnored := false, holdupNoted := false })
  upHlt s (fun h => { h with rail := 800, islands := h.islands.map (fun i => { i with
    degradation := 0, coverAge := 0, coveredAt := s.glb.lifetime, temperature := 250 }) })

/-- EXTEST, CLAMP and HIGHZ hold the pins exactly while PERST# is asserted (R497). -/
def tapFollow (s : State) : State :=
  upGlb s (fun g => { g with tapPins := (g.tapIr == 0 || g.tapIr == 3 || g.tapIr == 4) && !s.pwr.perstN })

/-- A conventional reset begins (R452): HOST is reset at once, YIELD goes out, commands and HELD packets get no reply, and the
device writes a dump, unless one stands already or the boot has not gone so far. FAULT_N is released (R425). -/
def beginReset (s : State) (cause : Nat) : State :=
  let s := hostDown s
  let s := if s.pair.linkUp then sendT s .yieldMsg else s
  let s := shadowQueue (dropCommands s)
  let dumped := (s.flt.halted && !s.med.dumpActive) || s.med.dumpHeld || s.glb.booting || s.glb.romRecovery
  let s := upFlt s (fun f => { f with faultN := false, halted := false, unack := [], remain := 0 })
  if dumped then deviceReset s cause
  else
    let s := upGlb s (fun g => { g with resetPending := true, ready := false, lastReset := cause, configReady := false })
    startDump s (if cause = 5 then 4 else 1)

end Sys2Proof.Machine
end

