-- ==== Sys2Proof/Machine/PowerOps.lean ====
section
/-! DEFINITION. Power states as named operations (chapter 16): idleness, refusers, entries, exits, reversals and arming, and how an
accepted command meets them. -/

namespace Sys2Proof.Machine

open Sys2Proof

/-! ### Idleness and refusers (R395, R400) -/

/-- Opcodes whose acceptance neither wakes the device nor reverses an entry (R393, R401). -/
def powerExempt (opc : Nat) : Bool := opc == 0x0901 || opc == 0x0902 || opc == 0x0903 || opc == 0x0F02

/-- The device is idle but for waiting POWER_SET commands (R395). -/
def deviceIdle (s : State) : Bool :=
  s.tsk.ops.all (fun o => o.pkt.opc == 0x0901) && s.tsk.held.isEmpty && s.kite.insts.isEmpty && !s.med.gcActive &&
    s.med.copies.isEmpty && s.med.relocQueue.isEmpty && s.mesh.rebuild.isNone && s.med.ckpt.isNone

/-- The device has been idle for so many ms (R395). -/
def idleFor (s : State) (ms : Nat) : Bool := deviceIdle s && decide (ms ≤ s.pwr.idleMs)

/-- Flash I/O is off: the device is in Moored or Ballast (Tables 16.1 and 16.2). -/
def flashOff (s : State) : Bool := decide (2 ≤ s.pwr.state)

/-- A held stripe is not yet closed: it lacks its record, its parity or the PARITY_DONE of one of its m rows (R380, Table 16.3). -/
def stripeOpen (s : State) (x : Stripe) : Bool :=
  !x.released && (x.record.isNone || x.parity.isNone || match groupAt s x.group with
    | some g => (List.range g.m).any (fun j => !x.done.contains j)
    | none => false)

/-- The hour of the day that the last plan set for DRAM retrains (R202, Table 18.8). -/
def inRetrainWindow (s : State) : Bool :=
  match s.hlt.planLog with
  | some p => decide (p.window ≤ s.glb.lifetime) && decide ((s.glb.lifetime - p.window) % 86400000 < 3600000)
  | none => false

/-- A channel not retrained for 7 days takes its retrain in a forced window (R202, R444). -/
def retrainForced (s : State) (ch : Nat) : Bool :=
  decide (mgetD s.drc.lastRetrain ch 0 + 604800000 ≤ s.glb.lifetime) && s.hlt.forced && decide (s.hlt.forcedAt ≤ s.glb.lifetime)

/-- A DRAM retrain window is open: the plan's hour, or a forced window of a channel that is due (R202, R394). -/
def retrainOpen (s : State) : Bool := inRetrainWindow s || (List.range 4).any (retrainForced s)

/-- The lowest-coded refuser of Table 16.3 that applies to a target state (R400). HOST_COMMAND and a POWER_SET 3 from Footpath are
their callers'. -/
def refuser (s : State) (t : Nat) : Option Nat :=
  let now := s.glb.lifetime
  let due := fun (b : Nat × Band) =>
    b.2.deadline != 0 && (if t = 3 then decide (b.2.deadline ≤ now + 3600000)
      else decide (10 * b.2.deadline < 10 * now + patrolInterval s b.1))
  ([ (1, decide (2 ≤ t) && !s.med.staging.isEmpty),
     (2, if t = 3 then s.pair.state != 0
         else t == 2 && (!s.pair.entriesOut.isEmpty || (mirroring s && decide (s.pair.jConfirmed < jHead s)))),
     (3, if t = 3 then !s.mesh.groups.isEmpty
         else t == 2 && (s.mesh.own.any (fun o => o.stage == 1 || o.stage == 2) ||
           s.mesh.stripes.any (stripeOpen s))),
     (4, decide (2 ≤ t) && s.med.bands.any due),
     (5, decide (2 ≤ t) && (selftestRunning s || s.hlt.slice.isSome || s.hlt.forced)),
     (6, decide (100 ≤ s.glb.junction) || (decide (2 ≤ t) && !s.drc.throttled.isEmpty)),
     (7, decide (2 ≤ t) && s.glb.fpActive) ].find? (fun c => c.2)).map (·.1)

/-! ### Outcome records and replies (R400, Tables 16.4 and 16.7) -/

/-- An outcome record of log 0x03, which keeps the newest 32 (Table 16.7). -/
def powerRecord (s : State) (target outcome code source : Nat) : State :=
  upPwr s (fun p => { p with
    records := ({ time := s.glb.lifetime, target := target - 1, outcome, refuser := code, source } :: p.records).take 32,
    recordCount := p.recordCount + 1 })

/-- The counter of a target and refuser goes up by one, for the register and for log 0x03 (R400). -/
def countRefuser (s : State) (target code : Nat) : State :=
  let k := 8 * (target - 1) + code
  upPwr s (fun p => { p with
    refusers := mset p.refusers k (satInc (mgetD p.refusers k 0)),
    lifeRefusers := mset p.lifeRefusers k (mgetD p.lifeRefusers k 0 + 1) })

/-- The final reply of the POWER_SET behind a request, if one is (R402). -/
def replyPower (s : State) (r : PowerReq) (r1 : Nat) : State :=
  match r.tag with
  | some t => finish s t (ok 0 (s.pwr.state + r1))
  | none => s

/-- A request is refused before its first phase (R400). -/
def refusePower (s : State) (r : PowerReq) (code : Nat) : State :=
  let s := countRefuser s r.target code
  let s := upPwr s (fun p => { p with refused := mset p.refused (r.target - 1) (satInc (mgetD p.refused (r.target - 1) 0)) })
  replyPower (powerRecord s r.target 1 code r.source) r (4 + 32 * code)

/-! ### Entries and exits (Table 16.2) -/

/-- Phases of the entry from Run whose end is a state: 4 for Glide, 8 for Moored. -/
def phasesOf (state : Nat) : Nat := if state = 1 then 4 else if state = 2 then 8 else 0

/-- An entry's refusers are checked and its phases begin (R400). -/
def startEntry (s : State) (r : PowerReq) : State :=
  match refuser s r.target with
  | some c => refusePower s r c
  | none =>
    upPwr s (fun p => { p with trans := some { req := r, origin := p.state, phase := if r.target = 3 then 0 else phasesOf p.state,
                                               abort := none, exit := false } })

/-- The exit from Glide or Moored to a shallower state begins. -/
def startExit (s : State) (r : PowerReq) : State :=
  upPwr s (fun p => { p with trans := some { req := r, origin := p.state, phase := phasesOf p.state, abort := none, exit := true } })

/-- An exit that no POWER_SET asked for. -/
def wake (s : State) : State :=
  if s.pwr.trans.isNone ∧ (s.pwr.state = 1 ∨ s.pwr.state = 2) then startExit s { tag := none, target := 0, source := 0 } else s

/-- A GC pass or a rebuild that starts in Glide wakes the device (R393). -/
def wakeGlide (s : State) : State := if s.pwr.state = 1 then wake s else s

/-- A POWER_SET that no transition holds up (R396): a request for the state in force replies at once, one for a shallower state
exits, an entry waits for idleness, and target 3 arms Ballast. -/
def beginPower (s : State) (r : PowerReq) : State :=
  if r.target = 3 then
    if r.source = 2 then refusePower s r 7
    else
      match refuser s 3 with
      | some c => refusePower s r c
      | none =>
        let s := upPwr (replyPower s r 256) (fun p => { p with armed := true, armedAt := s.glb.lifetime })
        if s.pwr.state = 2 then s else startEntry s { tag := none, target := 2, source := r.source }
  else if r.target = s.pwr.state then replyPower s r 0
  else if r.target < s.pwr.state then startExit s r
  else if deviceIdle s then startEntry s r
  else upPwr s (fun p => { p with waitIdle := some r, waitFrom := s.glb.lifetime })

/-- A command waits that only a device in Run carries out (R393, R394). -/
def wakersWait (s : State) : Bool := s.tsk.ops.any (fun o => o.stage != .completed && o.stage != .finished && !powerExempt o.pkt.opc)

/-- The islands that Glide gates: all but AON, PJM and the link islands of TETHER and TRAIL (Table 16.1). -/
def glideIslands : List Nat := [2, 3, 4, 5, 6] ++ span 14 31

/-- A cluster that is not busy is powered off, and its cores read OFF with no image (R219). -/
def clusterOff (s : State) (n : Nat) : State :=
  if clusterBusy s n then s
  else
    (List.range 8).foldl (fun s i => modCore s (8 * n + i) (fun _ => { state := 7, image := none, inst := none }))
      (modCluster s n (fun c => { c with powered := false }))

/-- What ends with an entry phase of Table 16.2. -/
def entryPhase (s : State) (target phase : Nat) : State :=
  if target = 3 then
    if phase = 2 then { upWay s (fun _ => Way.reset) with arena := [] }
    else if phase = 3 then upPwr s (fun p => { p with lowPower := true })
    else s
  else
    match phase with
    | 1 => upPwr s (fun p => { p with gated := glideIslands.filter (fun i => s.hlt.slice != some i) })
    | 3 => upPwr s (fun p => { p with retained := glideIslands.filter (fun i => s.hlt.slice != some i) })
    | 4 => (List.range 8).foldl clusterOff s
    | 5 => flushAll s
    | 8 => upPwr s (fun p => { p with linkPm := if p.linkPm = 0 then 1 else p.linkPm })
    | _ => s

/-- Change an island's margin state. -/
def modIsland (s : State) (i : Nat) (f : IslandMargin → IslandMargin) : State :=
  upHlt s (fun h => { h with islands := lmod h.islands i f })

/-- An island's clock limit: its plan cap less the thermal steps (R432, R436). -/
def IslandMargin.limit (m : IslandMargin) : Nat := max 1 (m.cap - m.thermal)

/-- Every island's cap moves by one thermal step: down while the device throttles, else up to the plan cap (R436). -/
def thermalMove (s : State) : State :=
  let acts := s.hlt.throttling
  upHlt s (fun h => { h with
    thermalAt := s.glb.lifetime,
    islands := h.islands.map (fun m =>
      let t := { m with thermal := if acts then min (m.cap - 1) (m.thermal + 1) else m.thermal - 1 }
      { t with now := if acts then min t.now t.limit else if m.now = m.limit then t.limit else m.now }) })

/-- The thermal step that is due: 1 ms after the last while the device throttles, 10 ms after it while caps are still lowered (R436). -/
def thermalStep (s : State) : State :=
  if s.hlt.throttling then (if s.hlt.thermalAt + 1 ≤ s.glb.lifetime then thermalMove s else s)
  else if s.hlt.islands.any (fun m => m.thermal != 0) && decide (s.hlt.thermalAt + 10 ≤ s.glb.lifetime) then thermalMove s
  else s

/-- The cluster number of a Kite island. -/
def kiteIsland (i : Nat) : Option Nat := if 33 ≤ i ∧ i ≤ 40 then some (i - 33) else none

/-- A bank of an island is lost and rebuilt from its source: the Waymark array from the shadow, a cluster's program memory at its next
dispatch; what the others held was empty in an idle device or is in DRAM, AON and PJM (R447, Table 18.6). -/
def bankLoss (s : State) (i : Nat) : State :=
  let s := upHlt (modIsland s i (fun m => { m with bankLost := true })) (fun h => { h with retLost := satInc h.retLost })
  let s := raise s (unit i 3)
  let s := if i = islWay then upWay s (fun w => { w with array := w.shadow }) else s
  match kiteIsland i with
  | some n => (List.range 8).foldl (fun s k => modCore s (8 * n + k) (fun c => { c with image := none })) s
  | none => s

/-- What ends with an exit phase, which undoes its entry phase: before the retained islands serve, the bank of each is checked, and those
`lost` are rebuilt (R391, R447). How many banks an island has is not given: the model makes one check of each (DESIGN CHOICE, log entry 88). -/
def exitPhase (s : State) (phase : Nat) (lost : List Nat) : State :=
  match phase with
  | 8 => upPwr s (fun p => { p with linkPm := if p.linkPm = 1 then 0 else p.linkPm })
  | 7 => upDrc s (fun d => { d with owed := [] })
  | 3 =>
    let kept := s.pwr.retained
    let s := upHlt (upPwr s (fun p => { p with retained := [] })) (fun h => { h with retChecks := (h.retChecks + kept.length) % 2 ^ 32 })
    (kept.filter (fun i => lost.contains i)).foldl bankLoss s
  | 1 => upPwr s (fun p => { p with gated := [] })
  | _ => s

/-- The queued POWER_SET starts, or a waiting command wakes the device (R393, R402). -/
def nextPower (s : State) : State :=
  match s.pwr.queued with
  | some r => beginPower (upPwr s (fun p => { p with queued := none })) r
  | none => if wakersWait s then wake s else s

/-- Ballast is entered once the link is in L2: its refusers are checked again, and one that has appeared leaves the device in Moored
asking for PERST# (R396). -/
def enterBallast (s : State) : State :=
  let s := upPwr s (fun p => { p with armed := false })
  match refuser s 3 with
  | some c =>
    let s := powerRecord (countRefuser s 3 c) 3 1 c 1
    upPwr s (fun p => { p with
      refused := mset p.refused 2 (satInc (mgetD p.refused 2 0)), exitPending := true, wakeDriven := true })
  | none =>
    upPwr s (fun p => { p with trans := some { req := { tag := none, target := 3, source := 1 }, origin := 2, phase := 0,
                                               abort := none, exit := false } })

/-- An entry has done its last phase (Table 16.11, R402). -/
def completeEntry (s : State) (r : PowerReq) : State :=
  let i := r.target - 1
  let s := upPwr s (fun p => { p with
    trans := none, state := r.target, entered := mset p.entered i (wrapInc (mgetD p.entered i 0)),
    lifeEntered := mset p.lifeEntered i (mgetD p.lifeEntered i 0 + 1) })
  let s := replyPower (powerRecord s r.target 0 0 r.source) r 0
  if r.target = 2 && s.pwr.armed && s.pwr.linkPm == 2 then enterBallast s else nextPower s

/-- Patrol deadlines that passed in Ballast are counted at the exit (chapter 16). -/
def patrolMissed (s : State) : State :=
  let late := fun (b : Band) => b.deadline != 0 && decide (b.deadline ≤ s.glb.lifetime) && !b.overdue
  if s.med.bands.any (fun b => late b.2) then
    upPwr (upMed s (fun m => { m with bands := m.bands.map (fun b => if late b.2 then (b.1, { b.2 with overdue := true }) else b) }))
      (fun p => { p with evPatrolMissed := true })
  else s

/-- The hold-up sense is concluded stuck: READ_ONLY with cause HOLDUP_SENSE, and PWR_FAIL_N ignored until seen deasserted (R407). -/
def holdupStuck (s : State) : State :=
  let s := raise (upMed s (fun m => { m with holdupRo := true })) srcHoldup
  let s := upPwr s (fun p => { p with evHoldup := true, pwrFailIgnored := true, holdupNoted := false })
  postEvent s evReadOnly 2 0 0

/-- A Ballast exit has reached Moored: WAKE_N is driven unless PERST# began the exit (R399, R407). -/
def reachMoored (s : State) : State :=
  let s := upDrc (patrolMissed (upPwr s (fun p => { p with trans := none, state := 2 }))) (fun d => { d with owed := [] })
  let s := if s.pwr.exitPending then upPwr s (fun p => { p with wakeDriven := p.perstN }) else s
  if s.pwr.holdupNoted && !s.pwr.pwrFailN then holdupStuck s else s

/-- A reversal has reached Run: the entry is counted as aborted, and its POWER_SET replies (R400, R401). -/
def endAbort (s : State) (r : PowerReq) (code : Nat) : State :=
  let i := r.target - 1
  let s := upPwr s (fun p => { p with trans := none, state := 0 })
  let s := powerRecord (countRefuser s r.target code) r.target 2 code r.source
  let s := upPwr s (fun p => { p with aborted := mset p.aborted i (satInc (mgetD p.aborted i 0)) })
  nextPower (replyPower s r (8 + 32 * code))

/-- An exit has done its last phase. -/
def completeExit (s : State) (r : PowerReq) : State :=
  nextPower (replyPower (upPwr s (fun p => { p with trans := none, state := r.target })) r 0)

/-- A phase of the transition ends at its safe point: the entry goes on, reverses or completes; an exit goes back one phase
(R400, R401). -/
def phaseEnd (s : State) (t : Transition) (imageOk : Bool) (lost : List Nat) : State :=
  let set := fun (s : State) (t : Transition) => upPwr s (fun p => { p with trans := some t })
  if t.origin = 3 ∨ (t.exit ∧ t.req.target = 3) then
    -- Ballast to Moored: regulator, islands, image check, DRAM, SRAM
    if t.phase + 1 = 3 ∧ !imageOk then deviceReset s 0
    else
      let s := if t.phase = 0 then upPwr s (fun p => { p with lowPower := false }) else s
      if t.phase + 1 = 5 then reachMoored s else set s { t with phase := t.phase + 1 }
  else if t.exit then
    let s := exitPhase s t.phase lost
    let n := t.phase - 1
    match t.abort with
    | some c => if n = 0 then endAbort s t.req c else set s { t with phase := n }
    | none => if n ≤ phasesOf t.req.target then completeExit s t.req else set s { t with phase := n }
  else
    let s := entryPhase s t.req.target (t.phase + 1)
    let n := t.phase + 1
    let stop := match t.abort with
      | some c => some c
      | none => refuser s t.req.target
    if n = (if t.req.target = 3 then 3 else phasesOf t.req.target) ∧ t.abort.isNone then completeEntry s t.req
    else
      match stop with
      | none => set s { t with phase := n }
      | some c =>
        if t.req.target = 3 then
          let s := powerRecord (countRefuser s 3 c) 3 2 c t.req.source
          let s := upPwr s (fun p => { p with aborted := mset p.aborted 2 (satInc (mgetD p.aborted 2 0)), exitPending := true })
          set s { t with exit := true, phase := 0, abort := none }
        else set s { t with exit := true, phase := n, abort := some c }

/-! ### Accepted commands (R393, R394, R396, R401) -/

/-- An arming of Ballast ends without entry (R396). -/
def endArming (s : State) (byCommand : Bool) : State :=
  let s := upPwr s (fun p => { p with armed := false, evArmExpired := true })
  let s := if byCommand then countRefuser s 3 0 else s
  powerRecord s 3 4 0 1

/-- An accepted command meets the power state: it ends an arming, reverses an entry and wakes the device (R393, R394, R396, R401). -/
def powerAccept (s : State) (opc : Nat) : State :=
  let s := if s.pwr.armed && opc != 0x0902 then endArming s true else s
  if powerExempt opc then s
  else
    match s.pwr.trans with
    | some t =>
      if t.exit ∨ t.abort.isSome ∨ t.req.target = 3 then s
      else upPwr s (fun p => { p with trans := some { t with abort := some 0 } })
    | none => wake s

/-- The device can carry out a command's effect: it is in Run with no transition, or the command is one that wakes nothing (R392,
R401). -/
def awake (s : State) (opc : Nat) : Bool := powerExempt opc || (s.pwr.state == 0 && s.pwr.trans.isNone)

/-- The islands other than CTRL that a command's engine stands in and that a Contain reset can take (Table 1.1, R423). -/
def opIslands (opc : Nat) : List Nat :=
  if opc = 0x0501 ∨ opc = 0x0502 then [islCmp]
  else if opc = 0x0503 ∨ opc = 0x0504 ∨ (0x0701 ≤ opc ∧ opc ≤ 0x0704) then [islCrypt]
  else if 0x0505 ≤ opc ∧ opc ≤ 0x0507 then [islWay]
  else []

/-- The accepted command of an opcode that holds a tag and may carry out its effect, or go on with it. While its engine's island is in a
Contain reset it waits (R15). -/
def opFor (s : State) (tag opc : Nat) : Option Op :=
  match findOp s tag with
  | some o => if o.pkt.opc == opc && (o.stage == .ready || o.stage == .running) && awake s opc &&
      !(opIslands opc).any (inReset s) then some o else none
  | none => none

end Sys2Proof.Machine
end

