-- ==== Sys2Proof/Machine/Registers.lean ====
section
/-! DEFINITION. BAR0 register writes (R7, R8, R34): what each writable register of Table 2.6 does with a 32-bit write, and the
commands that carry one. -/

namespace Sys2Proof.Machine

open Sys2Proof

/-- BAR0 writes reach the registers: the link is up, HOST is not in reset, and the device is not halted (R30, R50, R425). -/
def barUp (s : State) : Bool :=
  s.hst.mode != 0 && !s.hst.ioHeld && s.pwr.linkPm != 2 && !s.flt.containing.contains islHost && !s.flt.halted

/-- A write-1-to-clear bit (R7). -/
def w1c (old : Bool) (v n : Nat) : Bool := old && !bit v n

/-! ### Reply rings and TSK (chapter 03) -/

/-- Write RRH_HEAD (R72). -/
def writeHead (s : State) (ring v : Nat) : State :=
  match mget s.tsk.rings ring with
  | none => s
  | some r =>
    let set := fun (x : Ring) => upTsk s (fun t => { t with rings := mset t.rings ring x })
    let i := bits v 15 0
    let w := bit v 16
    let n := ringSize r
    let moved := (ringPos r i w + 2 * n - ringPos r r.head r.headWrap) % (2 * n)
    if n ≤ i ∨ ringUsed r < moved then set { r with headErr := true }
    else
      let r' := { r with head := i, headWrap := w }
      set { r' with noticed := r.noticed && ringFull r' }

/-- Write RRH_STATUS (Table 3.24): clearing INT_MASK with unsignalled entries sends one message (R74). -/
def writeRingStatus (s : State) (ring v : Nat) : State :=
  match mget s.tsk.rings ring with
  | none => s
  | some r =>
    let r' := { r with fullSeen := w1c r.fullSeen v 2, headErr := w1c r.headErr v 4, intMask := bit v 3 }
    let send := r.intMask && !bit v 3 && r.unsignalled != 0
    let s := upTsk s (fun t => { t with rings := mset t.rings ring (if send then { r' with unsignalled := 0 } else r') })
    if send then msixSend s r.vector else s

/-- The EVENT_FAULT that a Failover leaves is posted once ring 0 is enabled (R424). -/
def postFailover (s : State) : State :=
  match s.flt.failoverEvent with
  | none => s
  | some f =>
    postEvent (upFlt s (fun x => { x with failoverEvent := none })) evFault (f.src + f.cls * 512 + f.level * 4096)
      (mgetD s.flt.counts f.src 0) 0

/-- Write TSK_RING0_CTRL (Table 3.16). -/
def writeRing0 (s : State) (v : Nat) : State :=
  if s.tsk.ring0En then s
  else
    let size := bits v 4 0
    let en := bit v 31 && decide (6 ≤ size) && decide (size ≤ 16)
    let s := upTsk s (fun t => { t with rings := mmod t.rings 0 (fun r => { r with sizeLog2 := size }), ring0En := en })
    if en then postFailover s else s

/-- Write one half of ring 0's base while it is disabled (Tables 3.14, 3.15). -/
def writeBase (s : State) (high : Bool) (v : Nat) : State :=
  if s.tsk.ring0En then s
  else upTsk s (fun t => { t with rings := mmod t.rings 0 (fun r =>
    { r with base := if high then r.base % 2 ^ 32 + v * 2 ^ 32 else r.base / 2 ^ 32 * 2 ^ 32 + v / 4096 * 4096 }) })

/-! ### HST (chapter 02) -/

/-- Write HST_BIAS_FLIP_CTRL: GO flips a range of granules, or is refused (R45, Table 2.14). A flip to device bias takes the host's copies
away as a command's does; while CXL.cache is absent or its stream Insecure the manual does not say what the flip does, and the model
completes it at once (DESIGN CHOICE, log entry 70). -/
def writeFlip (s : State) (v : Nat) : State :=
  let n := bits v 19 0
  let toDev := bit v 30
  let s := upHst s (fun h => { h with flipCount := n, flipToDevice := toDev })
  if !bit v 31 || s.hst.flipBusy then s
  else
    let g := span s.hst.flipStart n
    let held := heldGranules s
    if n = 0 ∨ s.hst.arenaCur * 4096 < s.hst.flipStart + n ∨ (!toDev ∧ g.any (fun x => held.contains x)) then
      upHst s (fun h => { h with flipRefused := true })
    else
      let s := upHst s (fun h => { h with flipDone := true })
      if toDev then toDeviceBias s g else upHst s (fun h => { h with deviceBias := h.deviceBias.filter (fun x => !g.contains x) })

/-! ### FLT (chapter 17) -/

/-- Write FLT_ACK: each selected class that is unacknowledged is acknowledged, with one history record (R420, R428). -/
def writeAck (s : State) (v : Nat) : State :=
  let l := s.flt.unack.filter (fun c => bit v c.1)
  let s := l.foldl (fun s c => addHistory s 0xFFFF c.1 0 0 4) s
  upFlt s (fun f =>
    let rest := f.unack.filter (fun c => !bit v c.1)
    { f with unack := rest, remain := if rest.isEmpty then 0 else f.remain })

/-- The levels a class may be given (R416). -/
def classRange (c : Nat) : Nat × Nat := if c = 0 then (0, 1) else if c = 1 then (0, 2) else if c = 2 then (1, 3) else (3, 4)

/-- Write FLT_SRC.REACTION of the source FLT_SEL selects (R416). -/
def writeSrc (s : State) (v : Nat) : State :=
  let n := s.flt.sel
  let r := bits v 7 5
  let range := classRange (srcClass n)
  if srcImplemented n && !srcFixed n && decide (range.1 ≤ r) && decide (r ≤ range.2) then
    upFlt s (fun f => { f with reaction := if r = srcDefault n then mdel f.reaction n else mset f.reaction n r })
  else upFlt s (fun f => { f with cfgReject := true })

/-- Write FLT_CE_LIMIT (Table 17.13). -/
def writeCeLimit (s : State) (v : Nat) : State :=
  let n := bits v 15 0
  upFlt s (fun f => if n < 16 then { f with cfgReject := true } else { f with ceLimit := n })

/-! ### GLB, MED, KCL, WAYC, HLT, PAIR, MESH, SEC -/

/-- Write GLB_CTRL (R474, Table 19.15). -/
def writeLock (s : State) (v : Nat) : State := upGlb s (fun g => { g with fpLock := g.fpLock || bit v 0 })

/-- Write MED_GC_CTRL (Table 5.17). -/
def writeGcCtrl (s : State) (v : Nat) : State :=
  let start := bits v 7 0
  let urgent := bits v 15 8
  upMed s (fun m => if urgent < 5 ∨ start ≤ urgent then { m with cfgReject := true }
    else { m with gcStart := start, gcUrgent := urgent, stripeAware := bit v 16 })

/-- Write MED_SEAL_TIMER (Table 5.18). -/
def writeSeal (s : State) (v : Nat) : State :=
  let n := bits v 9 0
  upMed s (fun m => if n = 0 ∨ 1000 < n then { m with cfgReject := true } else { m with sealMs := n })

/-- Write MED_PATROL_CTRL: a field written 0 outside its range is left as it was (Table 6.15). -/
def writePatrol (s : State) (v : Nat) : State :=
  let l := bits v 1 0
  let b := bits v 15 8
  upMed s (fun m => { m with relocLevel := if l = 0 then m.relocLevel else l, bandLimit := if b = 0 then m.bandLimit else b,
                             patrolPause := bit v 16 })

/-- Write KCL_CFG of a cluster: RING 3 and QUANTUM 0 are ignored with CFG_REJECT; the ring size waits until the cluster is not busy
(R225, Table 8.14). -/
def writeKcl (s : State) (n v : Nat) : State :=
  let ring := bits v 1 0
  let q := bits v 15 8
  settleRing (modCluster s n (fun c => { c with
    ringCfg := if ring = 3 then c.ringCfg else ring, quantum := if q = 0 then c.quantum else q, preempt := bit v 16,
    cfgReject := c.cfgReject || ring == 3 || q == 0 })) n

/-- The banks a table's fields name: F to F + w × K − 1 (R277, R291). -/
def tableBanks (t : WTable) : List Nat := span t.firstBank (wUnits t.width * t.copies)

/-- A bank belongs to another enabled table (R291). -/
def bankTaken (s : State) (t : Nat) (b : Nat) : Bool :=
  (List.range 8).any (fun u => u != t && (wTable s u).en && (tableBanks (wTable s u)).contains b)

/-- Remove the units of some banks from a bank-numbered map. -/
def clearBanks (m : SMap WUnit) (banks : List Nat) : SMap WUnit := m.filter (fun x => !banks.contains (x.1 / 4096))

/-- Set a table's registers. -/
def setTable (s : State) (t : Nat) (x : WTable) : State := upWay s (fun w => { w with tables := lmod w.tables t (fun _ => x) })

/-- Write WAYC_TABLEt (R291). -/
def writeTable (s : State) (t v : Nat) : State :=
  let old := wTable s t
  let new : WTable := { firstBank := bits v 3 0, width := bits v 5 4, copies := bits v 10 6, en := bit v 31, ready := false,
                        clearing := bit v 31 }
  let reject := upWay s (fun w => { w with cfgReject := true })
  if old.en then
    if new.en then reject
    else
      let b := tableBanks old
      upWay (setTable s t { old with en := false, ready := false, clearing := false }) (fun w => { w with
        array := clearBanks w.array b, shadow := clearBanks w.shadow b })
  else if !new.en then setTable s t new
  else
    let b := tableBanks new
    if new.width = 3 ∨ new.copies = 0 ∨ 16 < new.copies ∨ 16 < new.firstBank + b.length ∨ b.any (bankTaken s t) then reject
    else
      upWay (setTable s t new) (fun w => { w with
        shadow := clearBanks w.shadow b,
        array := w.array.map (fun x => if b.contains (x.1 / 4096) then (x.1, { x.2 with valid := false }) else x) })

/-- Write HLT_POLICY_V or HLT_POLICY_CLK (R434). -/
def writePolicy (s : State) (clk : Bool) (v : Nat) : State :=
  let reject := upHlt s (fun h => { h with cfgReject := true })
  if clk then
    let f := bits v 6 0
    let t := bits v 11 8
    if 50 ≤ f ∧ f ≤ 100 ∧ 2 ≤ t ∧ t ≤ 6 then upHlt s (fun h => { h with floor := f, slackTarget := t }) else reject
  else
    let a := bits v 9 0
    let b := bits v 25 16
    if 650 ≤ a ∧ a ≤ b ∧ b ≤ 850 then upHlt s (fun h => { h with vmin := a, vmax := b }) else reject

/-- Write PAIR_WITNESSi, in SOLO only (Table 14.13). -/
def writeWitness (s : State) (i v : Nat) : State :=
  if s.pair.state = 0 then upPair s (fun p => { p with witness := lmod p.witness i (fun _ => (bits v 10 0, bit v 31)) })
  else upPair s (fun p => { p with events := p.events ||| 1 })

/-- Write MESH_REBUILD_CTRL (Table 15.16). -/
def writeRebuildCtrl (s : State) (v : Nat) : State :=
  let r := bits v 3 0
  upMesh s (fun m => if r = 0 ∨ 12 < r then { m with cfgReject := true } else { m with rate := r })

/-- Write SEC_DG_CTRL (Table 13.13). -/
def writeDgCtrl (s : State) (v : Nat) : State :=
  let n := bits v 11 0
  if n = 0 ∨ 3600 < n then s else upSec s (fun e => { e with idleS := n })

/-! ### One 32-bit write at any BAR0 offset (R34) -/

/-- Write the blocks from GLB to FLT. -/
def writeLow (s : State) (off v : Nat) : State :=
  match off with
  | 0x0000C => writeLock s v
  | 0x10004 => upHst s (fun h => { h with evSpeed := w1c h.evSpeed v 0, evWidth := w1c h.evWidth v 1, evIdeIo := w1c h.evIdeIo v 2,
                                          evIdeCm := w1c h.evIdeCm v 3, evFlr := w1c h.evFlr v 4 })
  | 0x10020 => upHst s (fun h => { h with flipStart := bits v 18 0 })
  | 0x10024 => writeFlip s v
  | 0x10028 => upHst s (fun h => { h with flipDone := w1c h.flipDone v 1, flipRefused := w1c h.flipRefused v 2 })
  | 0x20000 => writeBase s false v
  | 0x20004 => writeBase s true v
  | 0x20008 => writeRing0 s v
  | 0x20020 => upTsk s (fun t => { t with heldSel := bits v 13 0 })
  | 0x30004 => upPwr s (fun p => { p with
      evBrownout := w1c p.evBrownout v 0, evWakeStuck := w1c p.evWakeStuck v 1, evHoldup := w1c p.evHoldup v 2,
      evArmExpired := w1c p.evArmExpired v 3, evPatrolMissed := w1c p.evPatrolMissed v 4 })
  | 0x40000 => upFlt s (fun f => { f with cfgReject := w1c f.cfgReject v 2, queueOverflow := w1c f.queueOverflow v 3 })
  | 0x40004 => writeAck s v
  | 0x40010 => upFlt s (fun f => { f with sel := bits v 8 0 })
  | 0x40014 => writeSrc s v
  | 0x4001C => writeCeLimit s v
  | _ => s

/-- Write the blocks from HLT to CMPC but KCL and WAYC_TABLE. -/
def writeHigh (s : State) (off v : Nat) : State :=
  match off with
  | 0x50000 => upHlt s (fun h => { h with cfgReject := w1c h.cfgReject v 4, avsFault := w1c h.avsFault v 5 })
  | 0x50004 => writePolicy s false v
  | 0x50008 => writePolicy s true v
  | 0x5000C => upHlt s (fun h => { h with sel := bits v 5 0 })
  | 0x60004 => upSec s (fun e => { e with selftestFailed := e.selftestFailed &&& (2 ^ 24 - 1 - bits v 23 0) })
  | 0x60008 => upSec s (fun e => { e with alarm := e.alarm &&& (15 - bits v 3 0) })
  | 0x6000C => writeDgCtrl s v
  | 0x70010 => writeWitness s 0 v
  | 0x70014 => writeWitness s 1 v
  | 0x70018 => writeWitness s 2 v
  | 0x70020 => upPair s (fun p => { p with events := p.events &&& (31 - bits v 4 0) })
  | 0x80008 => upMesh s (fun m => { m with cfgReject := w1c m.cfgReject v 0 })
  | 0x8000C => writeRebuildCtrl s v
  | 0x80010 => upMesh s (fun m => { m with slotSel := bits v 2 0 })
  | 0xA0004 => upMed s (fun m => { m with cfgReject := w1c m.cfgReject v 2 })
  | 0xA0008 => writeGcCtrl s v
  | 0xA000C => writeSeal s v
  | 0xA0108 => upMed s (fun m => { m with dumpWarm := w1c m.dumpWarm v 4, dumpLost := w1c m.dumpLost v 5 })
  | 0xA010C => writePatrol s v
  | 0xC0020 => upWay s (fun w => { w with cfgReject := w1c w.cfgReject v 0, lost := w1c w.lost v 1 })
  | 0xD0000 => upCmp s (fun c => { c with verifyFail := w1c c.verifyFail v 0 })
  | _ => s

/-- Write 32 bits at a BAR0 offset: the register named there acts on its fields, and any other location ignores the write (R34). -/
def write32 (s : State) (off v : Nat) : State :=
  if 0x100000 ≤ off ∧ off < 0x110000 then
    let r := (off - 0x100000) / 16
    if off % 16 = 0 then writeHead s r v else if off % 16 = 8 then writeRingStatus s r v else s
  else if 0xB0000 ≤ off ∧ off < 0xB0800 then
    let n := (off - 0xB0000) / 0x100
    if off % 0x100 = 8 then writeKcl s n v
    else if off % 0x100 = 0 then modCluster s n (fun c => { c with cfgReject := w1c c.cfgReject v 3 })
    else s
  else if 0xC0000 ≤ off ∧ off < 0xC0020 then (if off % 4 = 0 then writeTable s ((off - 0xC0000) / 4) v else s)
  else if 0x40100 ≤ off ∧ off < 0x40140 then
    let base := 8 * (off - 0x40100)
    upFlt s (fun f => { f with sticky := f.sticky.filter (fun n => !(decide (base ≤ n) && decide (n < base + 32) && bit v (n - base))) })
  else if off < 0x50000 then writeLow s off v
  else writeHigh s off v

/-! ### The commands -/

/-- A write that reaches BAR0, or none. -/
def onBar (s : State) (f : State → State) : Out := .next (if barUp s then f s else s)

/-- RRH_HEAD_WRITE (R72). -/
def execRrhHeadWrite (ring value : Nat) (s : State) : Out := onBar s (fun s => writeHead s ring value)
/-- RRH_INT_MASK_CLEAR: a write to RRH_STATUS (R74, Table 3.24). -/
def execRrhIntMaskClear (ring value : Nat) (s : State) : Out := onBar s (fun s => writeRingStatus s ring value)
/-- TSK_RING0_CTRL_WRITE (R70, Table 3.16). -/
def execTskRing0CtrlWrite (value : Nat) (s : State) : Out := onBar s (fun s => writeRing0 s value)
/-- HST_BIAS_FLIP_GO (R45). -/
def execHstBiasFlipGo (value : Nat) (s : State) : Out := onBar s (fun s => writeFlip s value)
/-- FLT_ACK_WRITE (R417, R420). -/
def execFltAckWrite (value : Nat) (s : State) : Out := onBar s (fun s => writeAck s value)
/-- FLT_SRC_WRITE (R416). -/
def execFltSrcWrite (value : Nat) (s : State) : Out := onBar s (fun s => writeSrc s value)
/-- FLT_CE_LIMIT_WRITE (R414). -/
def execFltCeLimitWrite (value : Nat) (s : State) : Out := onBar s (fun s => writeCeLimit s value)
/-- FP_LOCK_WRITE (R474). -/
def execFpLockWrite (value : Nat) (s : State) : Out := onBar s (fun s => writeLock s value)
/-- MED_GC_CTRL_WRITE (R143). -/
def execMedGcCtrlWrite (value : Nat) (s : State) : Out := onBar s (fun s => writeGcCtrl s value)
/-- MED_SEAL_TIMER_WRITE (R121). -/
def execMedSealTimerWrite (value : Nat) (s : State) : Out := onBar s (fun s => writeSeal s value)
/-- MED_PATROL_CTRL_WRITE (R171). -/
def execMedPatrolCtrlWrite (value : Nat) (s : State) : Out := onBar s (fun s => writePatrol s value)
/-- KCL_CFG_WRITE (R225). -/
def execKclCfgWrite (cluster value : Nat) (s : State) : Out := onBar s (fun s => writeKcl s cluster value)
/-- WAYC_TABLE_ENABLE: a write to WAYC_TABLEt with EN 1 (R291). -/
def execWaycTableEnable (table value : Nat) (s : State) : Out :=
  onBar s (fun s => if bit value 31 then writeTable s table value else s)
/-- WAYC_TABLE_DISABLE: a write to WAYC_TABLEt with EN 0 (R291). -/
def execWaycTableDisable (table value : Nat) (s : State) : Out :=
  onBar s (fun s => if bit value 31 then s else writeTable s table value)
/-- HLT_POLICY_WRITE (R434). -/
def execHltPolicyWrite (clk : Bool) (value : Nat) (s : State) : Out := onBar s (fun s => writePolicy s clk value)
/-- PAIR_WITNESS_WRITE (R351). -/
def execPairWitnessWrite (index value : Nat) (s : State) : Out := onBar s (fun s => writeWitness s index value)
/-- MESH_REBUILD_CTRL_WRITE (R387). -/
def execMeshRebuildCtrlWrite (value : Nat) (s : State) : Out := onBar s (fun s => writeRebuildCtrl s value)
/-- SEC_DG_CTRL_WRITE (R313). -/
def execSecDgCtrlWrite (value : Nat) (s : State) : Out := onBar s (fun s => writeDgCtrl s value)

/-- REGISTER_WRITE: an aligned 4- or 8-byte write anywhere in BAR0; an 8-byte write acts as two, the lower address first (R34). -/
def execRegisterWrite (offset size value : Nat) (s : State) : Out :=
  onBar s (fun s =>
    if 0x200000 < offset + size then s
    else if size = 4 ∧ offset % 4 = 0 then write32 s offset (value % 2 ^ 32)
    else if size = 8 ∧ offset % 8 = 0 then write32 (write32 s offset (value % 2 ^ 32)) (offset + 4) (value / 2 ^ 32 % 2 ^ 32)
    else s)

end Sys2Proof.Machine
end

