-- ==== Sys2Proof/Machine/Readback.lean ====
section
/-! DEFINITION. What a 32-bit BAR0 read returns: each register of the owning chapters' tables as a view of the state (R7, R34). The
health page of R450 carries some of them. -/

namespace Sys2Proof.Machine

open Sys2Proof

/-! ### Values several registers and logs share -/

/-- Spare blocks of a channel (R172). -/
def Channel.spare (c : Channel) : Nat := c.good - c.committed

/-- A channel's spare level in 0.01 %, rounded down (R172). -/
def Channel.level (c : Channel) : Nat := if c.committed = 0 then 0xFFFF else 10000 * c.spare / c.committed

/-- The element with the smallest key, the first of several. -/
def least {α : Type} (key : α → Nat) (l : List α) : Option α :=
  match l with
  | [] => none
  | x :: xs =>
    match least key xs with
    | none => some x
    | some y => if key y < key x then some y else some x

/-- One channel's exact spare level is below another's; a channel without committed blocks has none (R172). -/
def Channel.worse (x y : Channel) : Bool :=
  x.committed != 0 && (y.committed == 0 || decide (x.spare * y.committed < y.spare * x.committed))

/-- The channel with the lowest spare level, the first of several (R172). -/
def worstOf (l : List Channel) : Option Channel :=
  match l with
  | [] => none
  | x :: xs =>
    match worstOf xs with
    | none => some x
    | some y => if y.worse x then some y else some x

/-- The channel with the lowest spare level (R172). -/
def worstChannel (s : State) : Option Channel := worstOf s.med.chans

/-- The spare level reported (R172). -/
def spareLevel (s : State) : Nat := min 0xFFFF ((worstChannel s).map Channel.level |>.getD 0xFFFF)

/-- An island's nominal clock in MHz (Table 1.1). -/
def nominalMhz (i : Nat) : Nat :=
  if i = 0 then 25
  else if i = 1 then 400
  else if i = 2 ∨ i = 6 ∨ i = 30 ∨ i = 31 then 1200
  else if 14 ≤ i ∧ i ≤ 17 then 800
  else if 18 ≤ i ∧ i ≤ 25 then 900
  else if 33 ≤ i ∧ i ≤ 40 then 1600
  else if 41 ≤ i then 1400
  else 1000

/-- An island's margins. -/
def margin (s : State) (i : Nat) : IslandMargin := s.hlt.islands.getD i IslandMargin.reset

/-- An island's headroom in mV (R439). -/
def headroom (s : State) (i : Nat) : Nat := 850 - (margin s i).vFloor

/-- The island with the least headroom (Table 18.9). -/
def worstIsland (s : State) : Nat := ((least (headroom s) (List.range 45)).getD 0)

/-- Index of a ring of the newest `n` records, after `count` have been written. -/
def newestIndex (count n : Nat) : Nat := if count = 0 then 0 else (count - 1) % n

/-- The packed value of bits given by a list of set positions. -/
def bitSet (l : List Nat) : Nat := (l.eraseDups.map (fun n => 2 ^ n)).sum

/-- FP_RDY_OUT (R470). -/
def rdyOut (s : State) : Bool :=
  !(s.glb.booting && !s.glb.romRecovery) && s.pwr.state < 2 && s.glb.fpHeld.isNone &&
    decide ((s.tsk.ops.filter fromFootpath).length < 16) &&
    !(s.glb.fpLock && s.glb.fpOut.any (fun p => match p with
      | .nak 5 _ => true
      | _ => false))

/-- The VERSION field as it stands in a slot's bytes (Table 19.4). -/
def slotVersion (b : SlotBytes) : Nat := unle ((span 8 4).map (fun a => mgetD b a 0xFF))

/-! ### Status registers -/

/-- GLB_STATUS (Table 19.14). -/
def glbStatus (s : State) : Nat :=
  b2n s.glb.ready + 2 * b2n s.glb.romRecovery + 4 * b2n s.glb.serviceStart + 8 * b2n s.glb.bootedGolden +
    16 * b2n s.glb.activatePending + 32 * s.glb.lastReset

/-- HST_LINK_STATUS (Table 2.10). -/
def hstLinkStatus (s : State) : Nat :=
  s.hst.speed + 16 * s.hst.width + 256 * s.hst.mode + 1024 * b2n s.hst.laneReversed + 2048 * b2n s.hst.ideIo +
    4096 * b2n s.hst.ideCm

/-- FLT_STATUS (Table 17.8). -/
def fltStatus (s : State) : Nat :=
  b2n (!s.flt.unack.isEmpty) + 2 * b2n s.flt.halted + 4 * b2n s.flt.cfgReject + 8 * b2n s.flt.queueOverflow +
    256 * bitSet (s.flt.unack.map (·.1)) + (s.flt.unack.map (fun c => c.2 * 2 ^ (3 * c.1 + 12))).sum

/-- SEC_STATUS (Table 13.10). -/
def secStatus (s : State) : Nat :=
  b2n s.sec.approved + 2 * b2n s.sec.errorState + 4 * b2n s.sec.powerupDone + 8 * b2n (selftestRunning s) +
    16 * b2n (s.hst.session == 2) + 32 * b2n (s.hst.session == 3) + 64 * b2n s.sec.footpathUsed

/-- PWR_STATUS (Table 16.8). -/
def pwrStatus (s : State) : Nat :=
  s.pwr.state + 4 * b2n s.pwr.trans.isSome + 8 * ((s.pwr.trans.map (fun t => t.req.target)).getD 0) +
    32 * b2n s.pwr.queued.isSome + 64 * ((s.pwr.queued.map (fun t => t.target)).getD 0) + 256 * b2n s.pwr.armed +
    512 * b2n s.pwr.lowPower + 1024 * b2n s.pwr.wakeDriven + 2048 * b2n s.pwr.exitPending

/-- PAIR_STATUS (Table 14.12). -/
def pairStatus (s : State) : Nat :=
  s.pair.state + 8 * b2n s.pair.suspect + 16 * b2n s.pair.meshMirror + 32 * b2n s.pair.fostering + 64 * b2n s.pair.fenced +
    128 * b2n s.pair.linkUp + 256 * s.pair.rate + 1024 * s.pair.width

/-- A detour is in force: a failed link on a configured mesh (Table 15.15, R373). -/
def detourActive (s : State) : Bool := s.mesh.configured && !s.mesh.failedLinks.isEmpty

/-- MESH_STATUS (Table 15.15). -/
def meshStatus (s : State) : Nat :=
  b2n s.mesh.cfgReject + 2 * b2n s.mesh.partitioned + 4 * b2n (detourActive s) + 8 * b2n s.mesh.indexReady

/-- DRC_STATUS (Table 7.10). -/
def drcStatus (s : State) : Nat :=
  b2n s.drc.trained + 2 * b2n s.drc.clamped + 4 * bitSet s.drc.rate2x + 1024 * bitSet s.drc.throttled +
    16384 * bitSet s.drc.retraining

/-- DRC_MARK of a channel (Table 7.13). -/
def drcMark (s : State) (c : Nat) : Nat :=
  ((List.range 4).map (fun i => mgetD s.drc.marks (4 * c + i) 0 * 16 ^ i)).sum

/-- MED_JOURNAL (Table 6.13). -/
def medJournal (s : State) : Nat :=
  min 100 (100 * s.med.ring.length / ringCap) +
    256 * (if s.pair.state = 2 then min 100 (100 * s.med.partnerRing.length / partnerCap) else 0) + 65536 * b2n s.med.ckpt.isSome

/-- MED_DUMP_STATUS (Table 6.14). -/
def medDump (s : State) : Nat :=
  b2n s.med.dumpActive + 2 * b2n s.med.dumpHeld + 4 * b2n (s.med.dumps.any (fun d => d.complete && !d.consumed)) +
    8 * s.med.dumpArea + 16 * b2n s.med.dumpWarm + 32 * b2n s.med.dumpLost

/-- Bands in a state (Table 5.19). -/
def bandCount (s : State) (st : BandState) : Nat := (s.med.bands.filter (fun b => b.2.state == st)).length

/-- MED_PATROL_OVERDUE (Table 6.16). -/
def overdueBands (s : State) : Nat := (s.med.bands.filter (fun b => b.2.overdue)).length

/-- HLT_STATUS (Table 18.9). -/
def hltStatus (s : State) : Nat :=
  b2n s.hlt.planRunning + 2 * b2n s.hlt.slice.isSome + 4 * b2n s.hlt.paused + 8 * b2n s.hlt.forced + 16 * b2n s.hlt.cfgReject +
    32 * b2n s.hlt.avsFault + 256 * worstIsland s

/-! ### Reads by block (R34) -/

/-- Low and high half of a 64-bit value. -/
def half (v : Nat) (high : Bool) : Nat := if high then v / 2 ^ 32 % 2 ^ 32 else v % 2 ^ 32

/-- GLB and HST registers. -/
def readGlb (s : State) (off : Nat) : Nat :=
  match off with
  | 0x00 => 0x1F7D + 0x8640 * 2 ^ 16
  | 0x04 => deviceRevision
  | 0x08 => glbStatus s
  | 0x0C => b2n s.glb.fpLock
  | 0x10 => s.glb.fwVersion
  | 0x14 => if s.glb.stagedTarget.isSome then slotVersion s.glb.staged else 0
  | 0x18 => s.glb.startMs % 65536
  | 0x1C => half s.glb.lifetime false
  | 0x20 => s.glb.baudN + 32 * b2n s.glb.fpActive + 64 * b2n (rdyOut s) + 256 * (s.tsk.ops.filter fromFootpath).length
  | 0x24 => half s.glb.lifetime true
  | 0x28 => s.glb.fpCommands
  | 0x2C => s.glb.fpNaksSent
  | 0x30 => s.glb.fpNaksReceived
  | 0x34 => s.glb.fpDropped
  | 0x10000 => hstLinkStatus s
  | 0x10004 => b2n s.hst.evSpeed + 2 * b2n s.hst.evWidth + 4 * b2n s.hst.evIdeIo + 8 * b2n s.hst.evIdeCm + 16 * b2n s.hst.evFlr
  | 0x10010 => s.hst.arenaCur + 256 * feature s 1
  | 0x10020 => s.hst.flipStart
  | 0x10024 => s.hst.flipCount + 2 ^ 30 * b2n s.hst.flipToDevice
  | 0x10028 => b2n s.hst.flipBusy + 2 * b2n s.hst.flipDone + 4 * b2n s.hst.flipRefused
  | 0x10030 => s.hst.biasConflicts
  | 0x10034 => s.hst.bar2Dropped
  | 0x10038 => s.hst.gpfCount
  | _ => 0

/-- The HELD bits of the 64 queues TSK_HELD_SEL selects (Table 3.20). -/
def heldBits (s : State) : Nat := bitSet ((s.tsk.held.filter (fun h => h.1 / 64 == s.tsk.heldSel)).map (fun h => h.1 % 64))

/-- TSK, PWR and FLT registers. -/
def readTsk (s : State) (off : Nat) : Nat :=
  let r0 := mgetD s.tsk.rings 0 Ring.zero
  match off with
  | 0x20000 => half r0.base false
  | 0x20004 => half r0.base true
  | 0x20008 => r0.sizeLog2 + 2 ^ 31 * b2n s.tsk.ring0En
  | 0x20010 => half s.tsk.nextSeq false
  | 0x20014 => half s.tsk.nextSeq true
  | 0x20018 => tagsInUse s + 65536 * s.tsk.peak
  | 0x2001C => s.tsk.locks.length + 65536 * min 0xFFFF (s.tsk.ops.filter (fun o => o.stage == .waitEntry)).length
  | 0x20020 => s.tsk.heldSel
  | 0x20028 => half (heldBits s) false
  | 0x2002C => half (heldBits s) true
  | 0x20030 => s.tsk.accepted
  | 0x20034 => s.tsk.overruns
  | 0x20038 => s.tsk.overrunLastQ
  | 0x2003C => s.tsk.overrunUnreplied
  | 0x20040 => s.tsk.noqueueDropped
  | 0x20044 => s.tsk.crcDropped
  | 0x20048 => s.tsk.fwdHits
  | 0x2004C => s.tsk.fwdFallbacks
  | 0x20050 => s.tsk.eventsLost
  | 0x30000 => pwrStatus s
  | 0x30004 => b2n s.pwr.evBrownout + 2 * b2n s.pwr.evWakeStuck + 4 * b2n s.pwr.evHoldup + 8 * b2n s.pwr.evArmExpired +
      16 * b2n s.pwr.evPatrolMissed
  | 0x30008 => b2n s.pwr.pwrFailN + 2 * b2n s.pwr.perstN + 4 * b2n s.pwr.wakeN + 8 * b2n s.pwr.fpRdyIn + 16 * b2n s.pwr.railsGood
  | 0x30010 => s.pwr.glitchPwrFail
  | 0x30014 => s.pwr.glitchPerst
  | 0x30018 => s.pwr.glitchWake
  | 0x3001C => s.pwr.glitchFp
  | 0x30050 => s.pwr.brownouts
  | 0x40000 => fltStatus s
  | 0x40008 => s.flt.period + 65536 * ((s.flt.remain + 99) / 100)
  | 0x4000C => s.flt.recoveries
  | 0x40010 => s.flt.sel
  | 0x40014 => if srcImplemented s.flt.sel then srcClass s.flt.sel + 4 * srcDefault s.flt.sel + 32 * srcLevel s s.flt.sel +
      256 * b2n (srcFixed s.flt.sel) + 512 else 0
  | 0x40018 => mgetD s.flt.counts s.flt.sel 0
  | 0x4001C => s.flt.ceLimit
  | 0x40020 => s.flt.shadowed
  | 0x40024 => s.flt.queueDrops
  | 0x40028 => s.flt.escalations
  | 0x4002C => s.flt.lastDetail + 32768 * b2n s.flt.lastShadowed
  | _ =>
    if 0x30020 ≤ off ∧ off < 0x3002C then mgetD s.pwr.entered ((off - 0x30020) / 4) 0
    else if 0x30030 ≤ off ∧ off < 0x3003C then mgetD s.pwr.refused ((off - 0x30030) / 4) 0
    else if 0x30040 ≤ off ∧ off < 0x3004C then mgetD s.pwr.aborted ((off - 0x30040) / 4) 0
    else if 0x30100 ≤ off ∧ off < 0x30160 then mgetD s.pwr.refusers ((off - 0x30100) / 4) 0
    else if 0x40030 ≤ off ∧ off < 0x40044 then mgetD s.flt.reactions ((off - 0x40030) / 4) 0
    else if 0x40100 ≤ off ∧ off < 0x40140 then
      let base := 8 * (off - 0x40100)
      bitSet ((s.flt.sticky.filter (fun n => decide (base ≤ n) && decide (n < base + 32))).map (· - base))
    else 0

/-- HLT and SEC registers. -/
def readHlt (s : State) (off : Nat) : Nat :=
  let i := margin s s.hlt.sel
  let mhz := fun (c : Nat) => nominalMhz s.hlt.sel * c / 32
  match off with
  | 0x50000 => hltStatus s
  | 0x50004 => s.hlt.vmin + 65536 * s.hlt.vmax
  | 0x50008 => s.hlt.floor + 256 * s.hlt.slackTarget
  | 0x5000C => s.hlt.sel
  | 0x50010 => i.vTarget + 65536 * i.vNow
  | 0x50014 => mhz i.cap + 65536 * mhz i.now
  | 0x50018 => i.slack + 256 * i.degradation
  | 0x5001C => i.coverAge + 65536 * b2n i.failed
  | 0x50020 => s.hlt.planNo
  | 0x50024 => (s.hlt.planStart + 86400000 - s.glb.lifetime) / 1000
  | 0x50028 => s.hlt.life
  | 0x50030 => half s.hlt.forcedAt false
  | 0x50034 => half s.hlt.forcedAt true
  | 0x50038 => s.hlt.forcedIsland
  | 0x50040 => s.hlt.overrides
  | 0x50044 => s.hlt.slicesDone
  | 0x50048 => s.hlt.slicesAborted
  | 0x5004C => s.hlt.forcedWindows
  | 0x50050 => s.hlt.retChecks
  | 0x50054 => s.hlt.retLost
  | 0x50058 => s.hlt.avsErrors
  | 0x60000 => secStatus s
  | 0x60004 => s.sec.selftestFailed + 2 ^ 24 * s.sec.ageH
  | 0x60008 => s.sec.alarm
  | 0x6000C => s.sec.idleS
  | 0x60010 => s.sec.contexts.length + 256 * (s.sec.contexts.filter (fun c => c.2.kite.isSome)).length + 65536 * s.sec.dgPeak
  | 0x60014 => s.sec.keyHits
  | 0x60018 => s.sec.keyMisses
  | 0x6001C => s.sec.zeroises
  | 0x60020 => s.sec.alarms
  | 0x60024 => s.sec.dgTimeouts
  | 0x60028 => s.sec.exhausted
  | _ =>
    if 0x60100 ≤ off ∧ off < 0x60180 then mgetD s.sec.msCount ((off - 0x60100) / 4) 0
    else if 0x61000 ≤ off ∧ off < 0x61800 ∧ (off - 0x61000) % 0x40 < 48 then
      num (milestone s ((off - 0x61000) / 0x40)) ((off - 0x61000) % 0x40) 4
    else 0

/-- Entries in 64 KiB units (Table 14.15). -/
def mirrorUnits (blocks : Nat) : Nat := (blocks + 15) / 16

/-- PAIR and MESH registers. -/
def readPair (s : State) (off : Nat) : Nat :=
  let w := fun (i : Nat) => let x := s.pair.witness.getD i (0, false); x.1 + 2 ^ 31 * b2n x.2
  let g := mget s.mesh.groups s.mesh.slotSel
  match off with
  | 0x70000 => pairStatus s
  | 0x70004 => half s.pair.partner false
  | 0x70008 => half s.pair.partner true
  | 0x70010 => w 0
  | 0x70014 => w 1
  | 0x70018 => w 2
  | 0x70020 => s.pair.events
  | 0x70024 => mirrorUnits (mirrorUsed s) + 65536 * mirrorUnits ((s.pair.entriesIn.map (fun e => e.data.length / 4096)).sum)
  | 0x70030 => s.pair.replays
  | 0x70034 => s.pair.gcmFails
  | 0x70038 => s.pair.linkResets
  | 0x7003C => s.pair.badMessages
  | 0x70040 => s.pair.mirrorWaits
  | 0x70044 => s.pair.handbackLeft
  | 0x80000 => s.mesh.node + 2 ^ 11 * b2n s.mesh.configured + 2 ^ 12 * s.mesh.xs + 2 ^ 16 * s.mesh.ys + 2 ^ 20 * s.mesh.zs +
      2 ^ 23 * s.mesh.wrap
  | 0x80004 => ((List.range 6).map (fun p => (b2n (portAt s p).enabled + 2 * b2n (portAt s p).up + 4 * b2n (portAt s p).failed +
      8 * b2n ((portAt s p).enabled && linkFailed s s.mesh.node p && s.mesh.configured)) * 16 ^ p)).sum
  | 0x80008 => meshStatus s
  | 0x8000C => s.mesh.rate
  | 0x80010 => s.mesh.slotSel
  | 0x80014 => match g with
    | some x => x.id + 2 ^ 12 * x.k + 2 ^ 17 * x.m + 2 ^ 20 * x.index + 2 ^ 25 * x.state
    | none => 0
  | 0x80018 => match g with
    | some x => bitSet x.lost
    | none => 0
  | 0x80020 => (s.mesh.stripes.filter (fun x => x.hasAcc)).length + 65536 * s.mesh.accPeak
  | 0x80024 => s.mesh.stripesClosed
  | 0x80028 => s.mesh.zeroPositions
  | 0x8002C => s.mesh.late
  | 0x80030 => s.mesh.abandoned
  | 0x80034 => s.mesh.reconDone
  | 0x80038 => s.mesh.reconServed
  | 0x8003C => s.mesh.replays
  | 0x80040 => s.mesh.linkResets
  | 0x80044 => s.mesh.gcmFails
  | 0x80048 => s.mesh.badPackets
  | 0x8004C => s.mesh.detoured
  | _ => if 0x80050 ≤ off ∧ off < 0x80068 then (portAt s ((off - 0x80050) / 4)).sat else 0

/-- Saved contexts of a hub's clusters (Table 8.16). -/
def spillUsed (s : State) (hub : Nat) : Nat := (s.kite.insts.filter (fun i => i.cluster / 2 == hub && i.state == .saved)).length

/-- DRC and MED registers. -/
def readMed (s : State) (off : Nat) : Nat :=
  let m := s.med
  match off with
  | 0x90000 => s.drc.rate + 4 * b2n s.drc.x4 + 8 * b2n s.drc.twoRanks + 16 * s.drc.density + 64 * s.drc.capacity
  | 0x90004 => drcStatus s
  | 0x90008 => s.drc.leaf + 1024 * s.hst.arenaCur + 2 ^ 18 * s.drc.directory
  | 0x9000C => feature s 6 + 4096 * feature s 7
  | 0x90010 => drcMark s 0
  | 0x90014 => drcMark s 1
  | 0x90018 => drcMark s 2
  | 0x9001C => drcMark s 3
  | 0x90020 => s.drc.crossings + 65536 * s.drc.maxOwed
  | 0x90030 => s.drc.corrected
  | 0x90034 => s.drc.uncorrectable
  | 0x90038 => s.drc.inorder
  | 0x9003C => s.drc.nrCount
  | 0x90040 => s.drc.scrubPasses
  | 0x90044 => ((List.range 8).map (fun r => mgetD s.drc.temp r 0 % 16 * 16 ^ r)).sum
  | 0xA0000 => m.channels + 64 * m.luns + 4096 * m.planes + 32768 * m.blockMib
  | 0xA0004 => b2n m.gcActive + 2 * b2n (gcUrgent s) + 4 * b2n m.cfgReject +
      8 * b2n m.profileRefused
  | 0xA0008 => m.gcStart + 256 * m.gcUrgent + 65536 * b2n m.stripeAware
  | 0xA000C => m.sealMs
  | 0xA0010 => m.bands.length
  | 0xA0014 => bandCount s .free
  | 0xA0018 => (m.bands.filter (fun b => b.2.state == .drained && !b.2.unreleased.isEmpty)).length
  | 0xA001C => m.bandsRetired
  | 0xA0020 => m.leafHits
  | 0xA0024 => m.leafMisses
  | 0xA0028 => (m.leafCache.filter (fun p => p.dirty)).length
  | 0xA002C => (m.volumes.map (fun v => (v.2.dir.filter (fun d => match d.2 with
      | .extent _ _ => true
      | _ => false)).length)).sum
  | 0xA0030 => m.gcDiscards
  | 0xA0034 => m.epochMismatch
  | 0xA0100 => spareReport s + 4 * b2n m.holdupRo + 256 * spareLevel s +
      2 ^ 24 * ((worstChannel s).map (fun c => c.number) |>.getD 0)
  | 0xA0104 => medJournal s
  | 0xA0108 => medDump s
  | 0xA010C => m.relocLevel + 256 * m.bandLimit + 65536 * b2n m.patrolPause
  | 0xA0110 => half ((newestRoot s).map (fun r => r.ckptNo) |>.getD 0) false
  | 0xA0114 => half ((newestRoot s).map (fun r => r.ckptNo) |>.getD 0) true
  | 0xA0118 => m.journalStalls
  | 0xA011C => m.dumpUs
  | 0xA0120 => overdueBands s
  | 0xA0124 => m.patrolReads
  | 0xA0128 => m.relocations
  | 0xA012C => (least Channel.spare m.chans).map Channel.spare |>.getD 0
  | _ => 0

/-- The KCL registers of a cluster (Tables 8.12 to 8.15) and KCL_SPILL (Table 8.16). -/
def readKcl (s : State) (n off : Nat) : Nat :=
  let c := clusterAt s n
  match off with
  | 0x00 => b2n c.powered + 2 * b2n (clusterBusy s n) + 4 * b2n c.test + 8 * b2n c.cfgReject + 256 * c.areas.length +
      65536 * ((areaRoom c) / 65536 - (c.areas.map (fun a => a.units)).sum)
  | 0x04 => ((List.range 8).map (fun i => (coreAt s (8 * n + i)).state * 16 ^ i)).sum
  | 0x08 => c.ringCfg + 256 * c.quantum + 65536 * b2n c.preempt
  | 0x10 => half c.laneBytes false
  | 0x14 => half c.laneBytes true
  | 0x18 => c.preempts + 2 ^ 24 * c.skipped
  | 0x1C => c.faults
  | 0x20 => c.laneFullUs
  | 0x24 => c.starveUs
  | 0x28 => c.stagingBlocks
  | 0x2C => c.reconBlocks
  | _ => 0

/-- WAYC_BANK_OWNER (Table 11.7). -/
def bankOwner (s : State) : Nat :=
  ((List.range 16).map (fun b => (match (List.range 8).find? (fun t => (wTable s t).en && (tableBanks (wTable s t)).contains b) with
    | some t => t + 1
    | none => 0) * 16 ^ b)).sum

/-- WAYC and CMPC registers. -/
def readWay (s : State) (off : Nat) : Nat :=
  let w := s.way
  match off with
  | 0xC0020 => b2n w.cfgReject + 2 * b2n w.lost + 4 * feature s 9 +
      256 * bitSet ((List.range 8).filter (fun t => (wTable s t).ready)) +
      65536 * bitSet ((List.range 8).filter (fun t => (wTable s t).clearing))
  | 0xC0028 => half (bankOwner s) false
  | 0xC002C => half (bankOwner s) true
  | 0xC0030 => half w.searches false
  | 0xC0034 => half w.searches true
  | 0xC0038 => w.hits
  | 0xC003C => w.multi
  | 0xC0040 => w.unitWrites
  | 0xC0044 => w.sweepPasses
  | 0xC0048 => w.sweepRepairs
  | 0xC004C => w.verifyRepairs
  | 0xC0050 => w.lostEntries
  | 0xC0054 => w.forcedSlots
  | 0xD0000 => b2n s.cmp.verifyFail + 256 * bitSet (s.cmp.comp.map (·.1)) + 65536 * bitSet (s.cmp.decomp.map (·.1))
  | 0xD0004 => feature s 4 + 65536 * (s.cmp.waiting.filter (fun x => x.cls == .command)).length
  | 0xD0010 => half s.cmp.inBytes false
  | 0xD0014 => half s.cmp.inBytes true
  | 0xD0018 => half s.cmp.outBytes false
  | 0xD001C => half s.cmp.outBytes true
  | 0xD0020 => half s.cmp.decBytes false
  | 0xD0024 => half s.cmp.decBytes true
  | 0xD0028 => s.cmp.noGain
  | 0xD002C => s.cmp.verifyMismatch
  | 0xD0030 => s.cmp.formatErrors
  | 0xD0034 => s.cmp.inlineC
  | 0xD0038 => s.cmp.inlineU
  | 0xD003C => s.cmp.inflateFail
  | _ =>
    if 0xC0000 ≤ off ∧ off < 0xC0020 then
      let t := wTable s ((off - 0xC0000) / 4)
      t.firstBank + 16 * t.width + 64 * t.copies + 2 ^ 31 * b2n t.en
    else 0

/-- The registers of a reply ring (Tables 3.22 to 3.24); those of an absent ring read zero (R87). -/
def readRing (s : State) (n off : Nat) : Nat :=
  match mget s.tsk.rings n with
  | none => 0
  | some r =>
    match off with
    | 0 => r.head + 65536 * b2n r.headWrap
    | 4 => r.tail + 65536 * b2n r.tailWrap
    | 8 => b2n (ringActive s n) + 2 * b2n (ringFull r) + 4 * b2n r.fullSeen + 8 * b2n r.intMask + 16 * b2n r.headErr
    | _ => 0

/-- What an aligned 32-bit read at a BAR0 offset returns; zero where no register stands (R34). -/
def read32 (s : State) (off : Nat) : Nat :=
  if off % 4 ≠ 0 then 0
  else if 0x100000 ≤ off ∧ off < 0x110000 then readRing s ((off - 0x100000) / 16) (off % 16)
  else if off < 0x20000 then readGlb s off
  else if off < 0x50000 then readTsk s off
  else if off < 0x70000 then readHlt s off
  else if off < 0x90000 then readPair s off
  else if off < 0xB0000 then readMed s off
  else if off < 0xB0800 then readKcl s ((off - 0xB0000) / 0x100) (off % 0x100)
  else if off < 0xB0810 then
    let hub := (off - 0xB0800) / 4
    spillUsed s hub + 65536 * min 0xFFFF (s.kite.spillSlots - spillUsed s hub)
  else if 0xC0000 ≤ off ∧ off < 0xE0000 then readWay s off
  else 0

end Sys2Proof.Machine
end

