-- ==== Sys2Proof/Machine/Firmware.lean ====
section
/-! DEFINITION. Firmware slots, their checks, and the commands that download and activate images (chapter 19). -/

namespace Sys2Proof.Machine

open Sys2Proof

/-! ### Slot contents (R455, R456) -/

/-- Bytes of a slot; one never written reads 0xFF (R463). -/
def slotBytes (b : SlotBytes) (off n : Nat) : List Byte := (span off n).map (fun a => mgetD b a 0xFF)

/-- A number in a slot. -/
def slotNum (b : SlotBytes) (off n : Nat) : Nat := unle (slotBytes b off n)

/-- Lay bytes into a slot, listing no 0xFF byte. -/
def slotPut (b : SlotBytes) (off : Nat) (d : List Byte) : SlotBytes :=
  b.filter (fun c => decide (c.1 < off)) ++ (cellsOf off d).filter (fun c => c.2 != 0xFF) ++
    b.filter (fun c => decide (off + d.length ≤ c.1))

/-- Erase a range of a slot. -/
def slotErase (b : SlotBytes) (off n : Nat) : SlotBytes := b.filter (fun c => decide (c.1 < off) || decide (off + n ≤ c.1))

/-- Offset of the configuration block in a slot (R455). -/
def cfgOff : Nat := 0xEF0000

/-- LENGTH of the image (Table 19.4). -/
def imageLen (b : SlotBytes) : Nat := slotNum b 0x0C 4

/-- MAGIC, FORMAT and LENGTH of the image are correct (R455, Table 19.4). -/
def headerOk (b : SlotBytes) : Bool :=
  slotNum b 0 4 == 0x52455744 && slotNum b 4 2 == 1 && imageLen b % 4096 == 0 && decide (8192 ≤ imageLen b) &&
    decide (imageLen b ≤ cfgOff)

/-- KEY_ID is the fused key's digest and the signature verifies (R455). -/
def signatureOk (b : SlotBytes) (key : List Byte) : Bool :=
  slotBytes b 0x30 48 == key &&
    Config.verifySignature key (sha384 (slotBytes b 0 0x60 ++ slotBytes b 0x1000 (imageLen b - 0x1000))) (slotBytes b 0x60 96)

/-- LENGTH of the configuration block (Table 19.18). -/
def cfgLen (b : SlotBytes) : Nat := slotNum b (cfgOff + 8) 4

/-- The sections of a configuration block: (offset, length, stated length) (Table 19.18). -/
def cfgSections (b : SlotBytes) : List (Nat × Nat × Nat) :=
  [(slotNum b (cfgOff + 0x10) 4, slotNum b (cfgOff + 0x14) 4, 256), (slotNum b (cfgOff + 0x18) 4, slotNum b (cfgOff + 0x1C) 4, 128),
   (slotNum b (cfgOff + 0x20) 4, slotNum b (cfgOff + 0x24) 4, 128)]

/-- Two sections have no byte in common. -/
def apart (x y : Nat × Nat × Nat) : Bool := decide (x.1 + x.2.1 ≤ y.1) || decide (y.1 + y.2.1 ≤ x.1)

/-- The sections obey R456. -/
def sectionsOk (n : Nat) (l : List (Nat × Nat × Nat)) : Bool :=
  l.all (fun x => x.1 % 8 == 0 && x.2.1 == x.2.2 && decide (0x80 ≤ x.1) && decide (x.1 + x.2.1 ≤ n - 4)) &&
    match l with
    | [x, y, z] => apart x y && apart x z && apart y z
    | _ => true

/-- The configuration block passes the checks of R455 and R456. -/
def configOk (b : SlotBytes) : Bool :=
  let n := cfgLen b
  slotNum b cfgOff 4 == 0x46435744 && slotNum b (cfgOff + 4) 2 == 1 && decide (512 ≤ n) && decide (n ≤ 65536) && n % 8 == 0 &&
    slotNum b (cfgOff + n - 4) 4 == crc32c (slotBytes b cfgOff (n - 4)) &&
    b.all (fun c => decide (c.1 < cfgOff + n) || decide (cfgOff + 65536 ≤ c.1)) && sectionsOk n (cfgSections b)

/-- A slot's state as log 0x05 codes it: 0 valid, 1 header, 2 signature, 3 configuration, 4 erased (Table 19.7). -/
def slotState (b : SlotBytes) (key : List Byte) : Nat :=
  if (slotBytes b 0 0x60).all (· == 0xFF) then 4
  else if !headerOk b then 1
  else if !signatureOk b key then 2
  else if !configOk b then 3
  else 0

/-- The digest of an image, which M0 receives (R455). -/
def imageDigest (b : SlotBytes) : List Byte := sha384 (slotBytes b 0 (imageLen b))

/-- A slot as its bytes make it. -/
def slotOf (b : SlotBytes) (key : List Byte) : NorSlot :=
  let st := slotState b key
  { bytes := b, state := st, version := if st = 0 then slotVersion b else 0,
    digest := if st = 0 then imageDigest b else List.replicate 48 0 }

/-- The slot that the running firmware booted from. -/
def bootSlot (s : State) : SlotBytes := if s.glb.bootedGolden then s.glb.golden.bytes else s.glb.primary.bytes

/-- A field of a section of the booted slot's configuration block: 0 flash profile, 1 DRAM profile, 2 security configuration. -/
def cfgField (b : SlotBytes) (sect off n : Nat) : Nat := slotNum b (cfgOff + ((cfgSections b).getD sect (0, 0, 0)).1 + off) n

/-- SPARE_SHARE of the flash profile, r of R172 (Table 19.19). -/
def spareShare (s : State) : Nat := cfgField (bootSlot s) 0 0x27 1

/-! ### FW_DOWNLOAD and FW_ACTIVATE (R460, R463 to R466) -/

/-- The 64 KiB sectors bytes touch. -/
def sectorsOf (off n : Nat) : List Nat := span (off / 65536) ((off + n - 1) / 65536 - off / 65536 + 1)

/-- Download into the primary NOR slot itself, in ROM recovery: each sector is erased when it is first touched (R460). -/
def recoveryDownload (s : State) (off : Nat) (d : List Byte) : State :=
  upGlb s (fun g =>
    let fresh := (sectorsOf off d.length).filter (fun x => !g.erasedSectors.contains x)
    let b := slotPut (fresh.foldl (fun b x => slotErase b (65536 * x) 65536) g.primary.bytes) off d
    { g with primary := slotOf b g.keyDigest, erasedSectors := fresh.foldl linsert g.erasedSectors })

/-- Download into the staging buffer, emptied first when the other target was staged (R463). -/
def stageDownload (s : State) (target off : Nat) (d : List Byte) : State :=
  upGlb s (fun g =>
    let b := if g.stagedTarget = some target then g.staged else []
    { g with staged := slotPut b off d, stagedTarget := some target })

/-- Firmware commands act on the NOR itself: in ROM recovery, and in a service start while DRAM is untrained (R460, R475). -/
def norDirect (s : State) : Bool := s.glb.romRecovery || (s.glb.serviceStart && !s.drc.trained)

/-- FW_DOWNLOAD (R460, R463, R475). -/
def execFwDownload (tag : Nat) (host : HostRead) (s : State) : Out :=
  match opFor s tag 0x0105 with
  | none => .next s
  | some o =>
    match input s o host o.pkt.dlen with
    | none => .next s
    | some .error => .next (finish s tag (bad 0x18))
    | some (.data d) =>
      let s := if norDirect s then recoveryDownload s o.pkt.p0 d else stageDownload s o.pkt.p1 o.pkt.p0 d
      .next (finish s tag (ok 0 0))

/-- FW_ACTIVATE in ROM recovery: the primary slot is checked, and an activation reset follows the reply (R460). -/
def recoveryActivate (s : State) (o : Op) : State :=
  if o.pkt.p0 = 1 then finish s o.tag (bad 0x24)
  else if s.glb.primary.state ≠ 0 then
    finish s o.tag { bad 0x18 with r0 := if s.glb.primary.state = 3 then cfgOff else 0 }
  else finish (upGlb s (fun g => { g with activation := some o.tag })) o.tag (ok 0 s.glb.primary.version)

/-- Programming a slot begins: until it ends the slot is invalid, and a reset or PWR_FAIL_N that stops it leaves it so, held as erased (R464,
Table 19.11, log entry 23). -/
def startProgram (s : State) (golden : Bool) : State :=
  upGlb s (fun g =>
    let g := { g with programming := some g.staged }
    if golden then { g with golden := NorSlot.reset } else { g with primary := NorSlot.reset })

/-- The target slot takes what was staged when programming began; a read-back that differs leaves it invalid, with contents the manual does not give: it is
held as erased (R464, log entry 23). -/
def programSlot (s : State) (golden readBack : Bool) : State :=
  upGlb s (fun g =>
    let x : NorSlot := if readBack then slotOf (g.programming.getD []) g.keyDigest else NorSlot.reset
    let g := { g with programming := none, imageReplaced := g.imageReplaced || g.bootedGolden == golden }
    if golden then { g with golden := x } else { g with primary := x })

/-- The slot is programmed and read back: FW_ACTIVATE answers, and where PARAM1[0] is 1 the activation reset is to follow (R464, R465). -/
def endActivate (s : State) (o : Op) (nor : Bool) : State :=
  let version := slotVersion (s.glb.programming.getD [])
  let s := programSlot s (o.pkt.p0 == 1) nor
  if !nor then finish s o.tag (bad 0x28)
  else
    let s := upGlb s (fun g => { g with activations := g.activations + 1, lastActivation := g.lifetime })
    if o.pkt.p1 = 1 then finish (upGlb s (fun g => { g with activation := some o.tag })) o.tag (ok 0 version)
    else finish (upGlb s (fun g => { g with activatePending := true })) o.tag (ok 0 s.glb.fwVersion)

/-- FW_ACTIVATE (R460, R464, R465): its first occurrence checks the staged slot and begins to program the target, its next one ends the
programming; `nor`: the NOR's read-back agrees. -/
def execFwActivate (tag : Nat) (nor : Bool) (s : State) : Out :=
  match opFor s tag 0x0106 with
  | none => .next s
  | some o =>
    if o.stage = .running then .next (endActivate s o nor)
    else if norDirect s then .next (recoveryActivate s o)
    else
      let p := o.pkt
      let st := slotState s.glb.staged s.glb.keyDigest
      if s.glb.stagedTarget ≠ some p.p0 then .next (finish s tag (bad 0x20))
      else if p.p0 = 1 ∧ (s.glb.primary.state ≠ 0 ∨ p.p1 = 1) then .next (finish s tag (bad 0x24))
      else if st ≠ 0 then .next (finish s tag { bad 0x18 with r0 := if st = 3 then cfgOff else 0 })
      else if s.glb.programming.isSome then .next s
      else .next (running (startProgram s (p.p0 == 1)) tag)

/-- ACTIVATION_RESET: 1 ms after the reply of the FW_ACTIVATE is written (R465). -/
def execActivationReset (s : State) : Out :=
  match s.glb.activation with
  | none => .next s
  | some t =>
    if (findOp s t).isSome then .next s
    else .next (beginReset (upGlb s (fun g => { g with activation := none })) 5)

end Sys2Proof.Machine
end

