-- ==== Sys2Proof/Machine/Admin.lean ====
section
/-! DEFINITION. The Admin group's IDENTIFY, logs and features, and the Queue group (chapters 03 and 04). -/

namespace Sys2Proof.Machine

open Sys2Proof

/-- Output can leave the device for the command's destination: over Footpath, or over CXL.io (R50, R98). -/
def outUp (s : State) (o : Op) : Bool := fromFootpath o || ioUp s

/-! ### IDENTIFY (R100) -/

/-- The device structure. -/
def identifyDevice (s : State) : List Byte :=
  fit 4096 (le 2 0x1F7D ++ le 2 0x8640 ++ le 1 deviceRevision ++ zeros 3 ++ le 8 Config.serial ++ fit 16 s.glb.versionText ++
    le 4 1048576 ++ le 4 4096 ++ le 4 32768 ++ le 4 65536 ++ le 8 s.med.rawBytes ++
    le 8 ((s.med.volumes.map (fun v => v.2.capacity)).sum) ++ le 4 s.drc.capacity ++ le 4 s.hst.arenaCur ++
    le 2 (s.med.channels * s.med.luns) ++ le 1 s.med.channels ++ le 1 s.pair.state ++
    le 2 (if s.mesh.configured then s.mesh.node else 0xFFFF) ++ le 1 s.mesh.groups.length)

/-- Volume numbers from one on, at most 1,024. -/
def listedVolumes (s : State) (from_ : Nat) : List Nat :=
  ((s.med.volumes.map (·.1)).filter (fun v => decide (from_ ≤ v))).take 1024

/-- The volume-list structure: unused entries hold 0xFFFF_FFFF. -/
def identifyVolumes (s : State) (from_ : Nat) : List Byte :=
  let l := listedVolumes s from_
  l.flatMap (le 4) ++ List.replicate (4096 - 4 * l.length) 0xFF

/-- IDENTIFY (R100). -/
def execIdentify (tag : Nat) (s : State) : Out :=
  match opFor s tag 0x0101 with
  | none => .next s
  | some o =>
    if !outUp s o then .next s
    else if o.pkt.p0 = 0 then .next (finish (deliver s o 0 (identifyDevice s)) tag (ok 0 0))
    else .next (finish (deliver s o 0 (identifyVolumes s o.pkt.p1)) tag (ok (listedVolumes s o.pkt.p1).length 0))

/-! ### Logs (Table 4.8) -/

/-- A ring of the newest `n` records of `size` bytes, the newest at its index (Tables 16.7, 17.5, 14.18). -/
def logRing {α : Type} (n count size : Nat) (l : List α) (enc : α → List Byte) : List Byte :=
  (List.range n).flatMap (fun r => match l[(newestIndex count n + n - r) % n]? with
    | some x => fit size (enc x)
    | none => zeros size)

/-- Log 0x01, fault history (Table 17.5). -/
def log1 (s : State) : List Byte :=
  fit 64 (le 8 s.flt.recordCount ++ le 4 (newestIndex s.flt.recordCount 4096) ++ le 4 s.flt.halts ++ le 4 s.flt.failovers) ++
    logRing 4096 s.flt.recordCount 16 s.flt.history (fun x =>
      le 8 x.time ++ le 2 x.src ++ le 1 x.cls ++ le 1 x.level ++ le 1 x.configured ++ le 1 x.flags)

/-- Log 0x02, media health (Table 6.11). -/
def log2 (s : State) : List Byte :=
  let m := s.med
  le 1 (spareReport s) ++ le 1 ((worstChannel s).map (fun c => c.number) |>.getD 0) ++ le 2 (spareLevel s) ++ le 4 (overdueBands s) ++
    le 8 m.blocksRetired ++ le 8 m.lifePatrol ++ le 8 m.lifeReloc ++ le 8 m.lifeRecon ++ le 4 m.lifeDumps ++ le 4 m.lifeLost ++
    le 8 m.lifeCkpts ++ zeros 8 ++
    (List.range 32).flatMap (fun n => match m.chans.find? (fun c => c.number == n) with
      | some c => le 4 c.good ++ le 4 c.spare ++ le 4 c.retired ++ le 4 c.maxErase
      | none => zeros 16)

/-- Log 0x03, power-state refusers and aborts (Table 16.7). -/
def log3 (s : State) : List Byte :=
  let p := s.pwr
  fit 128 ((List.range 24).flatMap (fun k => le 4 (mgetD p.lifeRefusers k 0)) ++
      (List.range 3).flatMap (fun t => le 4 (mgetD p.lifeEntered t 0)) ++ le 4 p.lifeBrownouts ++ le 4 (newestIndex p.recordCount 32)) ++
    logRing 32 p.recordCount 8 p.records (fun x =>
      le 4 x.time ++ le 1 x.target ++ le 1 x.outcome ++ le 1 x.refuser ++ le 1 x.source)

/-- An island's 16 bytes of log 0x04. -/
def planIslandBytes (l : List Nat) : List Byte :=
  le 2 (l.getD 0 0) ++ le 2 (l.getD 1 0) ++ le 2 (l.getD 2 0) ++ le 1 (l.getD 3 0) ++ le 1 (l.getD 4 0) ++ le 4 (l.getD 5 0) ++
    le 4 (l.getD 6 0)

/-- Log 0x04, the last margin plan (Table 18.8). -/
def log4 (s : State) : List Byte :=
  match s.hlt.planLog with
  | none => zeros 1024
  | some p =>
    fit 1024 (fit 64 (le 4 p.no ++ le 4 (3 + 4 * b2n p.partialPlan) ++ le 8 p.time ++ le 4 p.duration ++ le 4 p.life ++ le 1 p.worst ++
      le 1 p.headroom ++ zeros 2 ++ le 4 p.bandsMoved ++ le 4 p.bandsShort ++ le 4 p.overrides ++ le 8 p.window) ++
      fit 720 (p.islands.flatMap planIslandBytes) ++ fit 192 p.measured)

/-- Log 0x05, firmware images and activation (Table 19.7). -/
def log5 (s : State) : List Byte :=
  let g := s.glb
  fit 128 (le 1 (b2n g.bootedGolden) ++ le 1 g.primary.state ++ le 1 g.golden.state ++ zeros 1 ++ le 4 g.primary.version ++
    le 4 g.golden.version ++ le 4 (if g.stagedTarget.isSome then slotVersion g.staged else 0) ++ fit 48 g.primary.digest ++
    fit 48 g.golden.digest ++ le 4 g.activations ++ le 4 g.goldenBoots ++ le 8 g.lastActivation)

/-- A group slot's 32 bytes of log 0x06. -/
def groupBytes (s : State) (n : Nat) : List Byte :=
  match mget s.mesh.groups n with
  | none => zeros 32
  | some g => fit 32 (le 2 g.id ++ le 1 g.k ++ le 1 g.m ++ le 1 g.index ++ le 1 g.state ++ zeros 2 ++ le 4 (bitSet g.lost) ++
      le 8 g.closed ++ le 4 g.rebuilds ++ le 4 g.failedStripes)

/-- Log 0x06, pair and stripe-group history (Table 14.18). -/
def log6 (s : State) : List Byte :=
  let p := s.pair
  let solo := p.state == 0
  fit 512 (le 1 p.state ++ le 1 (pairStatus s / 8 % 32) ++ zeros 2 ++ le 4 p.pairings ++ le 4 p.takeoverCount ++ le 4 p.handbacks ++
      le 4 p.claimsLost ++ le 4 p.lifeResets ++ le 8 (if solo then 0 else p.partner) ++ le 8 (if solo then 0 else p.pairId) ++
      le 8 (if p.fostering then p.takeoverMark else 0) ++ le 8 p.mseq ++ le 4 (newestIndex p.logCount 128) ++ zeros 4 ++
      (List.range 8).flatMap (groupBytes s)) ++
    logRing 128 p.logCount 16 p.log (fun x => le 8 x.time ++ le 1 x.event ++ le 1 x.slot ++ zeros 2 ++ le 4 x.value)

/-- A log's bytes by ID (Table 4.8). -/
def logBytes (s : State) (n : Nat) : List Byte :=
  match n with
  | 1 => log1 s
  | 2 => log2 s
  | 3 => log3 s
  | 4 => log4 s
  | 5 => log5 s
  | _ => log6 s

/-- GET_LOG (R100): bytes from the offset on, zeros past the log's end. -/
def execGetLog (tag : Nat) (s : State) : Out :=
  match opFor s tag 0x0102 with
  | none => .next s
  | some o =>
    if !outUp s o then .next s
    else
      let b := logBytes s o.pkt.p0
      .next (finish (deliver s o 0 (field b o.pkt.p1 o.pkt.dlen)) tag (ok b.length 0))

/-! ### Features (R101) -/

/-- SET_FEATURE: of two, the one accepted later overrides (R56, R101). -/
def execSetFeature (tag : Nat) (s : State) : Out :=
  match opFor s tag 0x0103 with
  | none => .next s
  | some o =>
    let p := o.pkt
    if earlierOp s o.seq (fun q => q.opc == 0x0103 && q.p0 == p.p0) then .next s
    else
    let s := upGlb s (fun g => { g with features := if p.p1 = featureDefault p.p0 then mdel g.features p.p0
                                                    else mset g.features p.p0 p.p1 })
    .next (finish s tag (ok 0 0))

/-- GET_FEATURE (R101): the Arena size in force is the one taken at the last conventional reset (R40). -/
def execGetFeature (tag : Nat) (s : State) : Out :=
  match opFor s tag 0x0104 with
  | none => .next s
  | some o =>
    let n := o.pkt.p0
    .next (finish s tag (ok (if n = 1 then s.hst.arenaCur else feature s n) (feature s n)))

/-! ### The Queue group (R57 to R60, R70, R102) -/

/-- QUEUE_CREATE (R58). -/
def execQueueCreate (tag : Nat) (s : State) : Out :=
  match opFor s tag 0x0201 with
  | none => .next s
  | some o =>
    let p := o.pkt
    match checkObjects s p with
    | some r => .next (finish s tag r)
    | none =>
      let q : Queue := { ring := p.p1, limit := p.p2, classF := p.p3 == 1, deleting := none }
      .next (finish (upTsk s (fun t => { t with queues := mset t.queues p.p0 q })) tag (ok 0 0))

/-- QUEUE_DELETE: it completes once the last reply of the queue's commands, and the last ABORTED of a packet dropped from its slot, has been
written (R59, R67). -/
def execQueueDelete (tag : Nat) (s : State) : Out :=
  match opFor s tag 0x0202 with
  | none => .next s
  | some o =>
    if s.tsk.ops.any (fun x => x.src == .queue o.pkt.p0 && x.tag != tag) || s.tsk.overrun.any (fun x => x.2.qid == o.pkt.p0) then
      .next (running s tag)
    else .next (finish (upTsk s (fun t => { t with queues := mdel t.queues o.pkt.p0 })) tag (ok 0 0))

/-- RING_CREATE (R70, Table 3.6). -/
def execRingCreate (tag : Nat) (s : State) : Out :=
  match opFor s tag 0x0203 with
  | none => .next s
  | some o =>
    let p := o.pkt
    match checkObjects s p with
    | some r => .next (finish s tag r)
    | none =>
      let r : Ring := { Ring.zero with base := p.addr, sizeLog2 := p.p1, vector := p.p2, count := p.p3, time := p.p4 }
      .next (finish (upTsk s (fun t => { t with rings := mset t.rings p.p0 r })) tag (ok 0 0))

/-- A reply is still to be written to the ring: a tagless one waits, or a command of a queue that was bound to it, such as the QUEUE_DELETE
that came through its own queue, holds its tag (R67). -/
def ringOwed (s : State) (r tag : Nat) : Bool :=
  s.tsk.overrun.any (fun x => x.1 == r) || s.tsk.ops.any (fun x => x.tag != tag && !fromFootpath x && x.ring == r)

/-- RING_DELETE (R60). No reply is ever bound for a ring that does not exist, so it waits for the replies still owed to the ring (R67;
DEDUCED, log entry 79). -/
def execRingDelete (tag : Nat) (s : State) : Out :=
  match opFor s tag 0x0204 with
  | none => .next s
  | some o =>
    match checkObjects s o.pkt with
    | some r => .next (finish s tag r)
    | none =>
      if ringOwed s o.pkt.p0 tag then .next (running s tag)
      else .next (finish (upTsk s (fun t => { t with rings := mdel t.rings o.pkt.p0 })) tag (ok 0 0))

/-- QUEUE_QUERY (R60, Table 4.10). -/
def execQueueQuery (tag : Nat) (s : State) : Out :=
  match opFor s tag 0x0205 with
  | none => .next s
  | some o =>
    let q := o.pkt.p0
    match queueAt s q with
    | none => .next (finish s tag (bad 0x20))
    | some x =>
      let held := s.tsk.held.any (fun h => h.1 == q)
      .next (finish s tag (ok s.tsk.nextSeq
        (x.ring + 4096 * x.limit + 2 ^ 21 * b2n x.classF + 2 ^ 22 * b2n held + 2 ^ 23 * queueTags s q)))

end Sys2Proof.Machine
end

