-- ==== Sys2Proof/Machine/LineCode.lean ====
section
/-! DEFINITION. The Reed–Solomon line codes: RS(72,64) of every on-chip line (R20 to R23) and RS(80,64) of every DRAM line with its
placement on devices and pins (R188 to R190). Both are linear, so what a decoder makes of a line depends on the symbols in error
alone; those are the operand `LineCheck` of a command that reads a line. -/

namespace Sys2Proof.Machine

open Sys2Proof

/-! ### Field and polynomials (R20) -/

/-- The power α^n of the field's generator. -/
def gfPow (n : Nat) : Nat :=
  match n with
  | 0 => 1
  | n + 1 => gfMul 2 (gfPow n)

/-- A polynomial's value, lowest coefficient first. -/
def gfEval (p : List Nat) (x : Nat) : Nat := p.foldr (fun c acc => c ^^^ gfMul acc x) 0

/-- The product of a polynomial, lowest coefficient first, with 1 + x·r. -/
def gfTimesLocator (p : List Nat) (r : Nat) : List Nat :=
  ((p ++ [0]).zip (0 :: p)).map (fun (c : Nat × Nat) => c.1 ^^^ gfMul r c.2)

/-- The generator polynomial g(x) = (x − α^0) … (x − α^(n−1)), highest coefficient first (R20, R188). -/
def rsGen (n : Nat) : List Nat :=
  match n with
  | 0 => [1]
  | n + 1 => gfTimesLocator (rsGen n) (gfPow n)

/-! ### The encoder (R20, R22, R188) -/

/-- One data byte enters the remainder register `r` of the division by g. -/
def rsFeed (g r : List Nat) (b : Byte) : List Nat :=
  let f := b.toNat ^^^ r.headD 0
  ((r.drop 1 ++ [0]).zip (g.drop 1)).map (fun (c : Nat × Nat) => c.1 ^^^ gfMul f c.2)

/-- The `n` check bytes of a line's data bytes, the code being systematic. -/
def rsCheck (n : Nat) (data : List Byte) : List Byte :=
  (data.foldl (rsFeed (rsGen n)) (List.replicate n 0)).map (BitVec.ofNat 8)

/-- An on-chip line as it is stored and carried: 64 data bytes and 8 check bytes (R20). -/
def line72 (data : List Byte) : List Byte := data ++ rsCheck 8 data

/-- A DRAM line as it is stored: 64 data bytes and 16 check bytes (R188). -/
def line80 (data : List Byte) : List Byte := data ++ rsCheck 16 data

/-! ### The decoder (R20, R22, R190) -/

/-- A pattern of symbol errors with each position once, none zero and none beyond the `len` symbols of a word. -/
def errorsOf (len : Nat) (e : LineCheck) : LineCheck :=
  ((List.range len).map (fun p => (p, (e.filter (fun x => x.1 == p)).foldl (fun a x => a ^^^ x.2) 0))).filter (fun x => x.2 != 0)

/-- The locator α^(len − 1 − p) of a position: byte p is the coefficient of that power (R20). -/
def locator (len p : Nat) : Nat := gfPow (len - 1 - p)

/-- The sum over an error pattern of value × locator^i. -/
def syndrome (len : Nat) (e : LineCheck) (i : Nat) : Nat :=
  e.foldl (fun a x => a ^^^ gfMul x.2.toNat (gfPow ((len - 1 - x.1) * i % 255))) 0

/-- The n syndromes of a word whose error pattern is `e`. -/
def syndromes (n len : Nat) (e : LineCheck) : List Nat := (List.range n).map (syndrome len e)

/-- The state of the Berlekamp–Massey search for the shortest error locator. -/
structure Search where
  c : List Nat
  b : List Nat
  l : Nat
  shift : Nat
  last : Nat

/-- Coefficient-wise sum of `p` and `k·x^m·q`. -/
def gfCombine (p : List Nat) (k m : Nat) (q : List Nat) : List Nat :=
  let q' := List.replicate m 0 ++ q.map (gfMul k)
  (List.range (max p.length q'.length)).map (fun i => p.getD i 0 ^^^ q'.getD i 0)

/-- One step of the search: `seen` holds the syndromes so far, the newest first. -/
def Search.next (x : Search) (k : Nat) (seen : List Nat) : Search :=
  let d := (x.c.zip seen).foldl (fun a p => a ^^^ gfMul p.1 p.2) 0
  if d = 0 then { x with shift := x.shift + 1 }
  else
    let c := gfCombine x.c (gfMul d (gfInv x.last)) x.shift x.b
    if 2 * x.l ≤ k then { c, b := x.c, l := k + 1 - x.l, shift := 1, last := d }
    else { x with c, shift := x.shift + 1 }

/-- The search over syndromes in order. -/
def Search.run (x : Search) (k : Nat) (seen syn : List Nat) : Search :=
  match syn with
  | [] => x
  | s :: rest => Search.run (x.next k (s :: seen)) (k + 1) (s :: seen) rest

/-- The locator polynomial of the unknown errors, from syndromes the erasures have been taken out of. -/
def errorLocator (syn : List Nat) : Search := Search.run { c := [1], b := [1], l := 0, shift := 1, last := 1 } 0 [] syn

/-- The formal derivative's value at `x`: the odd terms. -/
def gfDerivative (p : List Nat) (x : Nat) : Nat :=
  gfEval (((List.range (p.length - 1)).map (fun i => if i % 2 = 0 then p.getD (i + 1) 0 else 0))) x

/-- What a decoder with `n` check symbols takes as the errors of a word of `len` symbols, from its syndromes and the erased positions:
none where it detects more than it can correct (R190: 2e + f ≤ n). -/
def rsCorrection (n len : Nat) (syn erased : List Nat) : Option LineCheck :=
  let gamma := erased.foldl (fun p q => gfTimesLocator p (locator len q)) [1]
  let modified := (List.range n).map (fun i =>
    (List.range (i + 1)).foldl (fun a j => a ^^^ gfMul (gamma.getD j 0) (syn.getD (i - j) 0)) 0)
  let found := errorLocator (modified.drop erased.length)
  let at_ := (List.range len).filter (fun p => gfEval found.c (gfInv (locator len p)) == 0)
  if n < 2 * found.l + erased.length ∨ at_.length ≠ found.l then none
  else
    let places := (at_ ++ erased).eraseDups
    let psi := places.foldl (fun p q => gfTimesLocator p (locator len q)) [1]
    let omega := (List.range n).map (fun i =>
      (List.range (i + 1)).foldl (fun a j => a ^^^ gfMul (psi.getD j 0) (syn.getD (i - j) 0)) 0)
    let value := fun p =>
      let x := locator len p
      BitVec.ofNat 8 (gfMul x (gfMul (gfEval omega (gfInv x)) (gfInv (gfDerivative psi (gfInv x)))))
    let fix := errorsOf len (places.map (fun p => (p, value p)))
    if syndromes n len fix = syn then some fix else none

/-- What reading a line comes to: clean, corrected, detected as uncorrectable, or, beyond the code's distance, taken for another line
that differs from the one stored in the data bytes given. -/
inductive Verdict where
  | clean
  | corrected
  | uncorrectable
  | wrong (delta : List Byte)
  deriving DecidableEq, Repr

/-- The decoder's verdict on a word with symbols in error: `erased` are the positions of a marked device. -/
def rsVerdict (n len : Nat) (erased : List Nat) (e : LineCheck) : Verdict :=
  let e := errorsOf len e
  if e.isEmpty then .clean
  else
    match rsCorrection n len (syndromes n len e) erased with
    | none => .uncorrectable
    | some fix =>
      if fix = e then .corrected
      else
        let left := errorsOf 64 (e ++ fix)
        .wrong ((List.range 64).map (fun p => ((left.find? (fun x => x.1 == p)).map (·.2)).getD 0))

/-- The verdict of the on-chip code: up to 4 erroneous bytes are corrected (R20, R22). -/
def onChip (e : LineCheck) : Verdict := rsVerdict 8 72 [] e

/-- The data bytes delivered: those stored, but where the decoder took the line for another one. -/
def Verdict.deliver (v : Verdict) (b : List Byte) : List Byte :=
  match v with
  | .wrong delta => (b.zip delta).map (fun x => x.1 ^^^ x.2)
  | _ => b

/-- The verdict is a correction: the decoder counts one, whether or not it was right. -/
def Verdict.isCorrected (v : Verdict) : Bool :=
  match v with
  | .corrected => true
  | .wrong _ => true
  | _ => false

/-! ### DRAM devices and pins (R189, Table 7.4) -/

/-- The device that holds a symbol: 8 symbols a ×4 device, 16 a ×8 device. -/
def symbolDevice (x4 : Bool) (s : Nat) : Nat := if x4 then s / 8 else s / 16

/-- The symbols of a device. -/
def deviceSymbols (x4 : Bool) (d : Nat) : List Nat := if x4 then span (8 * d) 8 else span (16 * d) 16

/-- Beat and pin of a bit of a symbol; pins 0 to 31 are DQ[31:0], pins 32 to 39 are CB[7:0] (Table 7.4). -/
def symbolPin (x4 : Bool) (s b : Nat) : Nat × Nat :=
  if x4 then (2 * (s % 8) + b / 4, 4 * (s / 8) + b % 4) else (s % 16, 8 * (s / 16) + b)

/-- The symbol and bit that a pin carries at a beat. -/
def pinSymbol (x4 : Bool) (beat pin : Nat) : Nat × Nat :=
  if x4 then (8 * (pin / 4) + beat / 2, 4 * (beat % 2) + pin % 4) else (16 * (pin / 8) + beat, pin % 8)

/-- The BL16 burst of a codeword: for each beat the 40 bits on the pins (R188, R189). -/
def burstOf (x4 : Bool) (word : List Byte) : List Nat :=
  (List.range 16).map (fun beat => ((List.range 40).map (fun pin =>
    let x := pinSymbol x4 beat pin
    b2n ((word.getD x.1 0).getLsbD x.2) * 2 ^ pin)).sum)

/-- The verdict of the DRAM code in a sub-channel rank: a marked device's symbols are erasures (R190, Table 7.5). -/
def dramVerdict (x4 : Bool) (mark : Option Nat) (e : LineCheck) : Verdict :=
  rsVerdict 16 80 ((mark.map (deviceSymbols x4)).getD []) e

/-- The one device that holds every erroneous symbol, if there is one (R191). -/
def errorDevice (x4 : Bool) (e : LineCheck) : Option Nat :=
  match (errorsOf 80 e).map (fun x => symbolDevice x4 x.1) with
  | [] => none
  | d :: rest => if rest.all (· == d) then some d else none

end Sys2Proof.Machine
end

