-- ==== Sys2Proof/Machine/PairOps.lean ====
section
/-! DEFINITION. The twin pair as named operations: mirror entries and their release (R343 to R346), key transfers (R342), and log
0x06 (R364). -/

namespace Sys2Proof.Machine

open Sys2Proof

/-- Log 0x06 keeps the newest 128 records; slot 0xFF stands for pair events (Tables 14.18, 14.19). -/
def pairLog (s : State) (event slot value : Nat) : State :=
  upPair s (fun p => { p with
    log := ({ time := s.glb.lifetime, event, slot, value } :: p.log).take 128, logCount := p.logCount + 1 })

/-! ### Mirror entries -/

/-- Take the next mirror sequence number, reserving 2^20 more at a time (R344). -/
def takeMseq (s : State) : Nat × State :=
  (s.pair.mseq, upPair s (fun p => { p with
    mseqCeil := if p.mseq < p.mseqCeil then p.mseqCeil else p.mseqCeil + 0x100000, mseq := p.mseq + 1 }))

/-- Send a write to the partner as one MIRROR_WRITE; the command waits for its confirmation (R24, R343, R344). -/
def sendMirror (s : State) (o : Op) (op blocks : Nat) (data : List Byte) : State :=
  let r := takeMseq s
  let e : MirrorOut := { seq := r.1, tag := some o.tag, vol := o.pkt.vol, op, lba := o.pkt.addr, blocks, confirmed := false,
                         releasable := false, recs := 0, segs := [] }
  let s := upPair r.2 (fun p => { p with entriesOut := p.entriesOut ++ [e] })
  let s := modOp s o.tag (fun x => { x with mirror := some r.1, stage := .running })
  sendT s (.mirrorWrite r.1 o.pkt.vol op o.pkt.addr blocks data)

/-- An entry may be released: its blocks are placed and their stripes closed or programs complete, or it stands for nothing any
more, and the partner has confirmed the records that map it (R346). -/
def MirrorOut.free (e : MirrorOut) (s : State) : Bool :=
  (e.releasable || (e.op == 0 && !s.med.staging.any (fun x => x.mirror == some e.seq))) && e.segs.isEmpty &&
    decide (e.recs ≤ s.pair.jConfirmed)

/-- Entries that may be released, from the oldest on. -/
def freePrefix (s : State) (l : List MirrorOut) : List MirrorOut :=
  match l with
  | [] => []
  | e :: rest => if e.free s then e :: freePrefix s rest else []

/-- MIRROR_RELEASE names the newest entry up to which every entry may be released (R346). -/
def releaseMirror (s : State) : State :=
  let l := freePrefix s s.pair.entriesOut
  match l.getLast? with
  | none => s
  | some e =>
    let s := upPair s (fun p => { p with entriesOut := p.entriesOut.drop l.length })
    if partnered s then sendT s (.mirrorRelease e.seq) else s

/-- Change the entry of a mirror sequence number. -/
def modEntry (s : State) (q : Option Nat) (f : MirrorOut → MirrorOut) : State :=
  match q with
  | some n => upPair s (fun p => { p with entriesOut := p.entriesOut.map (fun e => if e.seq = n then f e else e) })
  | none => s

/-- Absolute number past the last record that has entered the journal (R346). -/
def recordsEnd (s : State) : Nat := jHead s + s.med.jbuf.length

/-! ### Key transfers (R342) -/

/-- Send KEY_TRANSFER for a volume; the command of the tag waits for it. -/
def sendKey (s : State) (vol : Nat) (install : Bool) (capacity attrs keyId : Nat) : State :=
  sendT s (.keyTransfer vol install capacity attrs (secret keyId 72))

/-- A KEY_TRANSFER message of the volume is still waiting to go out. -/
def keyQueued (s : State) (v : Nat) : Bool :=
  s.pair.out.any (fun m => match m.msg with
    | .keyTransfer vol _ _ _ _ => vol == v
    | _ => false)

/-- The command of a tag waits for the confirmation of its KEY_TRANSFER. -/
def awaitKey (s : State) (tag vol : Nat) : State :=
  running (upPair s (fun p => { p with keyWaits := p.keyWaits ++ [(vol, tag)] })) tag

/-- The partner has confirmed a command's KEY_TRANSFER. Table 14.3 has no message for it: the confirmation is the link's
acknowledgement of the message's flits, and over the mesh its delivery to the port (log entry 24). -/
def keyConfirmed (s : State) (o : Op) : Bool :=
  !partnered s || s.pair.meshMirror ||
    (!keyQueued s o.pkt.vol && o.aux != 0 && decide (o.aux ≤ s.pair.link.txAcked + 1))

/-- Note the count of flits sent once a waiting KEY_TRANSFER has wholly gone out; `aux` is that count plus 1. -/
def noteKeySent (s : State) (o : Op) : State :=
  if keyQueued s o.pkt.vol || o.aux != 0 then s else modOp s o.tag (fun x => { x with aux := s.pair.link.txCount + 1 })

/-- The command's KEY_TRANSFER wait is over. -/
def keyWaitOver (s : State) (tag : Nat) : State := upPair s (fun p => { p with keyWaits := p.keyWaits.filter (fun k => k.2 != tag) })

end Sys2Proof.Machine
end

