-- ==== Sys2Proof/Machine/ReconOps.lean ====
section
/-! DEFINITION. Reconstruction through a stripe group (R376, R386), the map of foster volumes (R357, R358), and reading a block by
every way of R137. -/

namespace Sys2Proof.Machine

open Sys2Proof

/-! ### Stripe arithmetic (R376) -/

/-- A unit of a stripe: a data position (false) or a parity row (true). -/
abbrev Unit2 := Nat × Bool

/-- The coefficient of position d in row j (R376). -/
def coef (m j d : Nat) : Nat := gfInv (j ^^^ (m + d))

/-- A unit as a combination of the k data units. -/
def unitVec (k m : Nat) (u : Unit2) : List Nat :=
  (List.range k).map (fun d => if u.2 then coef m u.1 d else if d = u.1 then 1 else 0)

/-- One column of an elimination over the field of R20: `done` holds a row for each column before `c`. -/
def eliminate (fuel c : Nat) (done rest : List (List Nat)) : Option (List (List Nat)) :=
  match fuel with
  | 0 => some done
  | fuel + 1 =>
    match rest.find? (fun r => r.getD c 0 != 0) with
    | none => none
    | some p =>
      let p := p.map (gfMul (gfInv (p.getD c 0)))
      let clear := fun (r : List Nat) => (r.zip p).map (fun x => x.1 ^^^ gfMul (r.getD c 0) x.2)
      let left := (rest.map clear).filter (fun r => r.any (· != 0))
      eliminate fuel (c + 1) (done.map clear ++ [p]) left

/-- The weights by which the units `src` sum to the unit `t`, where the units determine it (R376, R386). -/
def unitWeights (k m : Nat) (src : List Unit2) (t : Unit2) : Option (List Nat) :=
  let rows := (List.range k).map (fun d => src.map (fun u => (unitVec k m u).getD d 0) ++ [(unitVec k m t).getD d 0])
  (eliminate src.length 0 [] rows).map (fun l => l.map (fun r => r.getD src.length 0))

/-- Member index of a unit of stripe t. -/
def unitMember (g : Group) (t : Nat) (u : Unit2) : Nat :=
  if u.2 then holderIdx g t u.1 else (dataMembers g t).getD u.1 0

/-- Node of a unit. -/
def unitNode (g : Group) (t : Nat) (u : Unit2) : Nat := memberNode g (unitMember g t u)

/-- Hops between two nodes by minimal directions (R372). -/
def hops (s : State) (a b : Nat) : Nat :=
  ((List.range 3).map (fun d =>
    let n := meshSize s d
    let x := coord a d
    let y := coord b d
    let direct := max x y - min x y
    if meshWraps s d then min direct (n - direct) else direct)).sum

/-- Insert into a list sorted by a rank, after equals. -/
def rankInsert {α : Type} (f : α → Nat) (x : α) (l : List α) : List α :=
  match l with
  | [] => [x]
  | y :: ys => if f x < f y then x :: y :: ys else y :: rankInsert f x ys

/-- A list in ascending order of a rank. -/
def rankSort {α : Type} (f : α → Nat) (l : List α) : List α := l.foldl (fun acc x => rankInsert f x acc) []

/-- Bit d of a record's ZERO. -/
def StripeRec.isZero (r : StripeRec) (u : Unit2) : Bool := !u.2 && bit r.zero u.1

/-- The unit of a record has been rebuilt onto a replacement (Table 15.7). -/
def StripeRec.isRebuilt (r : StripeRec) (u : Unit2) : Bool := bit r.rebuilt (if u.2 then 24 + u.1 else u.1)

/-- The stripe this device holds or has opened. -/
def stripeAt (s : State) (group num : Nat) : Option Stripe := s.mesh.stripes.find? (fun x => x.group == group && x.num == num)

/-- Where this device has a unit of a stripe: its segment (R377, R380). -/
def ownUnit (s : State) (r : StripeRec) (u : Unit2) : Option (Nat × Nat) :=
  if u.2 then (stripeAt s r.group r.stripe).bind (fun x => x.parity) else r.seg[u.1]?

/-- The unit of a record that lies in a member's segment (R386). -/
def unitOf (s : State) (r : StripeRec) (node band seg : Nat) : Option Unit2 :=
  match groupAt s r.group with
  | none => none
  | some g =>
    match (List.range r.k).find? (fun d => !r.isZero (d, false) && r.orig[d]? == some (band, seg) &&
        unitNode g r.stripe (d, false) == node) with
    | some d => some (d, false)
    | none =>
      ((List.range r.m).find? (fun j => unitNode g r.stripe (j, true) == node && node == s.mesh.node &&
        ownUnit s r (j, true) == some (band, seg))).map (fun j => (j, true))

/-- Every stripe record known here: of the stripes held, and cached (R381, R386). -/
def knownRecs (s : State) : List StripeRec := s.mesh.stripes.filterMap (fun x => x.record) ++ s.mesh.cache

/-- The record that names a member's segment, if it is known here (R386). -/
def recOf (s : State) (node band seg : Nat) : Option StripeRec :=
  (knownRecs s).find? (fun r => (unitOf s r node band seg).isSome)

/-- The survivors to read: zero positions first, then fewest hops (R386). -/
def survivors (s : State) (g : Group) (r : StripeRec) (t : Unit2) (unread : List Unit2) : Option (List Unit2) :=
  let all := (List.range r.k).map (fun d => (d, false)) ++ (List.range r.m).map (fun j => (j, true))
  let usable := all.filter (fun u => u != t && !unread.contains u &&
    (r.isZero u || !g.lost.contains (unitMember g r.stripe u)))
  let l := (rankSort (fun u => if r.isZero u then 0 else 1 + hops s s.mesh.node (unitNode g r.stripe u)) usable).take r.k
  if l.length = r.k then some l else none

/-! ### Degraded reads (R386) -/

/-- Change a reconstruction. -/
def modRecon (s : State) (req : Nat) (f : Recon → Recon) : State :=
  upMesh s (fun m => { m with recons := m.recons.map (fun r => if r.request = req then f r else r) })

/-- A reconstruction is complete once no unit is awaited; one of a codeword that failed level 3 is counted (Table 6.11). -/
def settleRecon (s : State) (req : Nat) : State :=
  match s.mesh.recons.find? (fun r => r.request == req) with
  | some r =>
    if r.record.isSome && r.waits.isEmpty && !r.done && !r.exhausted then
      upMesh (upMed (modRecon s req (fun r => { r with done := true })) (fun m => { m with lifeRecon := m.lifeRecon + b2n r.failed3 }))
        (fun m => { m with reconDone := wrapInc m.reconDone })
    else s
  | none => s

/-- Ask the survivors of a reconstruction whose record is known for their codewords; a unit of this device is added at once. Fewer
than k readable survivors exhaust it. -/
def askUnits (s : State) (r : Recon) : State :=
  match r.record with
  | none => s
  | some rc =>
    match groupAt s rc.group, unitOf s rc r.node r.band r.seg with
    | some g, some t =>
      let plan := if rc.isRebuilt t then some [(t, 1)]
        else (survivors s g rc t r.bad).bind (fun src => (unitWeights rc.k rc.m src t).map (fun w => src.zip w))
      match plan with
      | none => modRecon s r.request (fun x => { x with exhausted := true })
      | some l =>
        let l := l.filter (fun x => !rc.isZero x.1)
        let mine := l.filter (fun x => unitNode g rc.stripe x.1 == s.mesh.node)
        let acc := mine.foldl (fun a x => match ownUnit s rc x.1 with
          | some (b, q) => a.add ((codedOf s (b * 2 ^ 18 + 256 * q + r.p)).scale x.2)
          | none => a) Coded.zero
        let away := l.filter (fun x => unitNode g rc.stripe x.1 != s.mesh.node)
        let s := modRecon s r.request (fun x => { x with acc, waits := away.map (·.1) })
        let s := away.foldl (fun s x =>
          sendM s (unitNode g rc.stripe x.1) rc.group (.reconReq r.request rc.stripe x.2 r.p 1 x.1.1 x.1.2)) s
        settleRecon s r.request
    | _, _ => modRecon s r.request (fun x => { x with exhausted := true })

/-- Groups joined here that a node is a member of. -/
def groupsWith (s : State) (node : Nat) : List Group := (s.mesh.groups.map (·.2)).filter (fun g => g.members.contains node)

/-- An own segment is protected once its stripe has closed. -/
def ownProtected (s : State) (band seg : Nat) : Bool :=
  s.mesh.own.any (fun o => o.band == band && o.seg == seg && o.stage == 3) ||
    s.mesh.stripes.any (fun x => x.parity == some (band, seg))

/-- The reconstruction of a codeword, if one has begun. -/
def reconOf (s : State) (node band seg p : Nat) : Option Recon :=
  s.mesh.recons.find? (fun r => r.node == node && r.band == band && r.seg == seg && r.p == p)

/-- A reconstruction under way or done is that of a codeword that failed level 3: counted once it is done (Table 6.11). -/
def noteLevel3 (s : State) (r : Recon) : State :=
  if r.failed3 then s
  else upMed (modRecon s r.request (fun x => { x with failed3 := true })) (fun m => { m with lifeRecon := m.lifeRecon + b2n r.done })

/-- Begin the reconstruction of codeword p of a member's segment: from a record known here, else by LOCATE to every other member of
the member's groups that is not LOST (R386). `l3`: the codeword failed level 3. -/
def startRecon (s : State) (node band seg p : Nat) (l3 : Bool) : State :=
  match reconOf s node band seg p with
  | some r => if l3 then noteLevel3 s r else s
  | none =>
    let req := s.mesh.nextReq
    let gs := groupsWith s node
    let rc := recOf s node band seg
    let none_ := gs.isEmpty || (node == s.mesh.node && !ownProtected s band seg && rc.isNone)
    let r : Recon := { request := req, node, band, seg, p, record := rc, waits := [], bad := [], acc := Coded.zero, done := false,
                       exhausted := none_, failed3 := l3 }
    let s := upMesh s (fun m => { m with nextReq := (m.nextReq + 1) % 2 ^ 64, recons := m.recons ++ [r] })
    if none_ then s
    else if rc.isSome then askUnits s r
    else
      gs.foldl (fun s g =>
        ((List.range g.members.length).filter (fun i => !g.lost.contains i && memberNode g i != s.mesh.node)).foldl (fun s i =>
          sendM s (memberNode g i) g.id (.locate req node band seg)) s) s

/-- A reconstructed codeword: none while it is on its way, some none when it is exhausted. -/
def reconData (s : State) (node band seg p : Nat) : Option (Option Coded) :=
  match reconOf s node band seg p with
  | some r => if r.exhausted then some none else if r.done then some (some r.acc) else none
  | none => none

/-! ### Reconstructed blocks (R137 step 7, R138) -/

/-- The identity check on a reconstructed codeword's descriptor (R138, Table 15.5). -/
def descOk (desc : List Byte) (v lba pa epoch : Nat) (c : Bool) : Bool :=
  let d := unle desc
  let j := ((List.range (pa % 16)).filter (fun i => bit d (24 + i))).length
  bits d 15 0 == v && bits d 79 42 + j == lba && (bits d 143 80 + j) % 4096 == epoch && bits d 18 16 == b2n c

/-- What became of a block looked for. -/
inductive Got where
  /-- its 4,096 bytes; `peer`: reconstructed or served from the partner -/
  | data (b : List Byte) (peer : Bool)
  /-- its stored form, to be inflated -/
  | packed (b : List Byte)
  /-- pair and stripe group are exhausted -/
  | failed
  /-- something it needs is on its way -/
  | wait
  deriving DecidableEq, Repr

/-- What a reconstruction of a stored block has come to. -/
inductive Rebuilt where
  /-- its stored form and its write sequence -/
  | stored (b : List Byte) (wseq : Nat)
  /-- the reconstruction fails the identity check (R138) -/
  | mismatch
  /-- pair and stripe group are exhausted -/
  | failed
  /-- something it needs is on its way -/
  | wait
  deriving DecidableEq, Repr

/-- Segment, codeword and band of a codeword address: its place in a reconstruction. -/
def reconAt (s : State) (node w : Nat) : Option Recon := reconOf s node (w / 2 ^ 18) (w % 2 ^ 18 / 256) (w % 256)

/-- A stored block of a node from the reconstructions of the codewords among `lost`, and from this device's own flash for the others: its
identity is checked on the codeword in which it begins, and it is decrypted (R137 steps 6 and 7). -/
def rebuiltOf (s : State) (node keyId v lba pa n epoch : Nat) (c : Bool) (lost : List Nat) : Rebuilt :=
  let got := (cwsOf pa n).map (fun w => if lost.contains w then reconData s node (w / 2 ^ 18) (w % 2 ^ 18 / 256) (w % 256)
    else some (some (codedOf s w)))
  if got.any (fun x => x == some none) then .failed
  else
    match got.mapM (fun x => x.bind id) with
    | none => .wait
    | some l =>
      match l.head? with
      | none => .failed
      | some h =>
        if !descOk h.desc v lba pa epoch c then .mismatch
        else
          let d := unle h.desc
          let j := ((List.range (pa % 16)).filter (fun i => bit d (24 + i))).length
          let stored := field (l.flatMap (fun x => x.data)) (256 * (pa % 16)) (256 * n)
          .stored (fit (256 * n) (Config.decipher keyId v lba stored)) (bits d 143 80 + j)

/-- Set the reconstructions of a stored block's lost codewords going, and see what they have come to. `l3` are those that failed level 3. -/
def rebuildStored (s : State) (node keyId v lba pa n epoch : Nat) (c : Bool) (lost l3 : List Nat) : Rebuilt × State :=
  let s := lost.foldl (fun s w => startRecon s node (w / 2 ^ 18) (w % 2 ^ 18 / 256) (w % 256) (l3.contains w)) s
  (if inReset s islStripe && !lost.isEmpty then .wait else rebuiltOf s node keyId v lba pa n epoch c lost, s)

/-- A block from the reconstruction of its lost codewords (R137 step 7). -/
def rebuildBlock (s : State) (node keyId v lba pa n epoch : Nat) (c : Bool) (lost l3 : List Nat) : Got × State :=
  let r := rebuildStored s node keyId v lba pa n epoch c lost l3
  match r.1 with
  | .wait => (.wait, r.2)
  | .stored b _ =>
    if c then
      match inflateBlock b with
      | some d => (.data d true, r.2)
      | none => (.failed, r.2)
    else (.data (fit 4096 b) true, r.2)
  | _ => (.failed, r.2)

/-- An identity check has failed: counted, with its Deferred fault of MAP (R138). -/
def countMismatch (s : State) : State :=
  raise (upMed s (fun x => { x with epochMismatch := satInc x.epochMismatch })) (unit islMap 3)

/-! ### The map of foster volumes (R357, R358) -/

/-- An entry of the partner's page with R set, but for the Zero form (R357). -/
def remoteEntry (e : MapEntry) : MapEntry :=
  match e.form with
  | .plain pa => { e with form := .remote pa 15 false }
  | .comp pa len => { e with form := .remote pa len true }
  | _ => e

/-- The identity of the partner's map key, under which its leaf pages are stored (R128; log entry 15). -/
def partnerMapKey (s : State) : Nat := 2 ^ 64 + s.pair.partner

/-- The entries of a leaf page from its stored bytes. -/
def pageEntries (key v first : Nat) (b : List Byte) : SMap MapEntry :=
  let p := fit 4096 (Config.decipher key v first b)
  ((List.range 512).map (fun i => (i, entryOfWord (num p (8 * i) 8)))).filter (fun e => e.2 != entryZero)

/-- The partner directory's entry of a stretch (R357). -/
def partnerDirAt (s : State) (v st : Nat) : DirEntry :=
  match s.pair.partnerDir.find? (fun e => e.1 == v && e.2.1 == st) with
  | some e => e.2.2
  | none => .unmapped

/-- A foster volume (Table 4.11). -/
def isFoster (s : State) (v : Nat) : Bool :=
  match mget s.med.volumes v with
  | some x => x.foster
  | none => false

/-- A volume whose UNMAPPED stretches take over the partner's: a foster volume, or one that was until TETHER_UNPAIR (R348, R357). -/
def inherits (s : State) (v : Nat) : Bool := isFoster s v || s.pair.adopted.contains v

/-- A page taken over from the partner: the entries its journal changed later replace those of the page, and each gets R set (R357). -/
def takePage (s : State) (v st : Nat) (l : SMap MapEntry) : State :=
  let l := (s.pair.partnerMap.reverse.filter (fun x => x.1 == v && x.2.1 / 512 == st)).foldl (fun l x =>
    if x.2.2 = entryZero then mdel l (x.2.1 % 512) else mset l (x.2.1 % 512) x.2.2) l
  setDir (addPage s { vol := v, stretch := st, entries := l.map (fun e => (e.1, remoteEntry e.2)), dirty := true }) v st (.leaf none)

/-- A page that cannot be had: every block of the stretch is Remote at no place, so that reading it fails as UNRECOVERED (R358; log
entry 33). -/
def lostPage (s : State) (v st : Nat) : State :=
  let l := (List.range 512).map (fun i => (i, ({ form := .remote 0 15 false, epoch := 0 } : MapEntry)))
  setDir (addPage s { vol := v, stretch := st, entries := l, dirty := true }) v st (.leaf none)

/-- Take over the partner's stretch of a foster volume whose own directory entry is UNMAPPED: an EXTENT gives Remote entries, a LEAF
is read by reconstructing the partner's page (R357). None while something it needs is on its way; some false when the page is
exhausted. -/
def inherit (s : State) (v st : Nat) : Option Bool × State :=
  if !inherits s v || dirAt s v st != .unmapped then (some true, s)
  else if !s.pair.partnerDirReady || (leafRoom s v st).isNone then (none, s)
  else if s.pair.partnerDirLost then (some false, s)
  else
    match partnerDirAt s v st with
    | .unmapped => (some true, s)
    | .extent pa epoch => (some true, takePage s v st ((List.range 512).map (fun i => (i, extentEntry pa epoch i))))
    | .leaf none => (some true, takePage s v st [])
    | .leaf (some pa) =>
      let w := paCw pa
      let s := startRecon s s.pair.partnerNode (w / 2 ^ 18) (w % 2 ^ 18 / 256) (w % 256) false
      match reconData s s.pair.partnerNode (w / 2 ^ 18) (w % 2 ^ 18 / 256) (w % 256) with
      | none => (none, s)
      | some none => (some false, s)
      | some (some x) =>
        let d := unle x.desc
        if bits d 15 0 = v ∧ bits d 79 42 = 512 * st ∧ bits d 18 16 = 2 then
          (some true, takePage s v st (pageEntries (partnerMapKey s) v (512 * st) x.data))
        else (some false, s)

/-- The map entry of a block of a foster volume whose partner EXTENT has not been split: Remote at ADDR + 16 × i (R357). -/
def lookup (s : State) (v lba : Nat) : Option MapEntry :=
  if inherits s v && s.pair.partnerDirReady && dirAt s v (lba / 512) == .unmapped then
    match partnerDirAt s v (lba / 512) with
    | .extent pa epoch => some (remoteEntry (extentEntry pa epoch (lba % 512)))
    | _ => mapOf s v lba
  else mapOf s v lba

/-! ### Reading a block (R137) -/

/-- The identity of the key of a volume. -/
def volKey (s : State) (v : Nat) : Nat :=
  match mget s.med.volumes v with
  | some x => x.keyId
  | none => 0

/-- The key cache holds the volume's key, or a lookup waits for its unwrap (R324). -/
def keyReady (s : State) (v : Nat) : Bool := s.sec.keyCache.contains v

/-- A lookup that finds the key: counted, and the entry is the most recently used (R324). -/
def keyHit (s : State) (v : Nat) : State :=
  upSec s (fun e => { e with keyHits := wrapInc e.keyHits, keyCache := v :: e.keyCache.filter (· != v) })

/-- A block of a lost partner: from the partner itself while it is READ_ONLY, else through the stripe group (R358, R359). -/
def remoteBlock (s : State) (v lba pa n epoch : Nat) (c : Bool) : Got × State :=
  let group := fun (s : State) => rebuildBlock s s.pair.partnerNode (volKey s v) v lba pa n epoch c (cwsOf pa n) []
  if !s.pair.partnerReadOnly then group s
  else
    match s.pair.readData.find? (fun x => x.1 == v && x.2.1 == lba) with
    | some x => if x.2.2.isEmpty then group s else (.data x.2.2 true, s)
    | none =>
      if s.pair.reads.any (fun x => x.2.1 == v && x.2.2 == lba) then (.wait, s)
      else
        let req := s.pair.nextReq
        let s := upPair s (fun p => { p with nextReq := (p.nextReq + 1) % 2 ^ 64, reads := p.reads ++ [(req, v, lba)] })
        (.wait, sendT s (.blockRead req v lba 1))

/-- What a block resolves to (R137 steps 1 to 4). -/
inductive Resolved where
  | staged (x : Staged)
  | entry (e : MapEntry)
  /-- the page that names it is exhausted -/
  | failed
  /-- its leaf page, or the partner's, is on its way -/
  | wait

/-- Resolve one block: staging, then the map; a foster volume takes over the partner's stretch (R137, R357). -/
def resolve (s : State) (v lba : Nat) : Resolved × State :=
  match stagedAt s v lba with
  | some x => (.staged x, s)
  | none =>
    let r := match partnerDirAt s v (lba / 512) with
      | .extent _ _ => if s.pair.partnerDirReady then (some true, s) else inherit s v (lba / 512)
      | _ => inherit s v (lba / 512)
    match r.1 with
    | none => (.wait, r.2)
    | some false => (.failed, r.2)
    | some true =>
      match lookup r.2 v lba with
      | none => (.wait, fetchLeaf r.2 v (lba / 512))
      | some e => (.entry e, r.2)

/-- An island that the read of a codeword passes through is in a Contain reset: its FCH or the LDPC of its hub (R15, R116). -/
def mediaHeld (s : State) (cw : Nat) : Bool := inReset s (cwIsland s cw) || inReset s (islLdpc (cwChannel s cw / 8))

/-- A codeword cannot be read and decrypted now: an island on its way is in a Contain reset (R15). -/
def flashHeld (s : State) (cw : Nat) : Bool := mediaHeld s cw || inReset s islCrypt

/-- Codewords of a list that fail level 3 (R116). -/
def failed3 (s : State) (m : MediaIn) (cws : List Nat) : List Nat := cws.filter (fun w => readLevel s m w == 4)

/-- Read a block at the location its map entry gives, or reconstruct it (R137 steps 4 to 7). `bad`: its stored form failed inflation. -/
def fetchEntry (s : State) (m : MediaIn) (v lba : Nat) (e : MapEntry) (bad : Bool) : Got × State :=
  let stored := fun (pa n : Nat) (c : Bool) =>
    if !keyReady s v || (cwsOf pa n).any (flashHeld s) then (Got.wait, s)
    else if bad then rebuildBlock s s.mesh.node (volKey s v) v lba pa n e.epoch c (cwsOf pa n) []
    else
      match (readEntry s m v lba e).1 with
      | .data b => (.data b false, s)
      | .packed b => (.packed b, s)
      | .lost cws _ _ _ =>
        rebuildBlock s s.mesh.node (volKey s v) v lba pa n e.epoch c (if cws.isEmpty then cwsOf pa n else cws) (failed3 s m cws)
      | _ => (.failed, s)
  match e.form with
  | .zero => (.data (zeros 4096) false, s)
  | .plain pa => stored pa 16 false
  | .comp pa len => stored pa (len + 1) true
  | .remote pa len c => if keyReady s v then remoteBlock s v lba pa (len + 1) e.epoch c else (.wait, s)
  | .bad => (.failed, raise s (unit islMap 3))

/-- Look for one block (R137). `bad`: its stored form failed inflation. -/
def getBlock (s : State) (m : MediaIn) (v lba : Nat) (bad : Bool) : Got × State :=
  let r := resolve s v lba
  match r.1 with
  | .staged x =>
    if m.badStaged.contains (v, lba) then
      (if mirroring s then .data x.data false else .failed, stagedBad r.2 v lba)
    else if x.lost then (.failed, r.2) else (.data x.data false, r.2)
  | .wait => (.wait, r.2)
  | .failed => (.failed, r.2)
  | .entry e => fetchEntry r.2 m v lba e bad

/-- A reconstruction that fails the identity check as well is counted too (R137 step 7, R138). -/
def rebuiltEffects (s : State) (node v lba pa n epoch : Nat) (c : Bool) (lost : List Nat) : State :=
  if rebuiltOf s node (volKey s v) v lba pa n epoch c lost = .mismatch then countMismatch s else s

/-- What reading a block at an entry's location leaves behind once it has ended: the effects of the levels its codewords read at, a
failed identity check counted with its fault, the key lookup, and a codeword that failed level 3 relocated with a fault (R124,
R138, R171, R324). -/
def entryEffects (s : State) (m : MediaIn) (v lba : Nat) (e : MapEntry) : State :=
  match e.form with
  | .remote pa len c =>
    if s.pair.partnerReadOnly then s else rebuiltEffects s s.pair.partnerNode v lba pa (len + 1) e.epoch c (cwsOf pa (len + 1))
  | f =>
    match f.place with
    | none => s
    | some (pa, n) =>
      let s := keyHit (levelEffects s m (cwsOf pa n)) v
      match (readEntry s m v lba e).1 with
      | .lost [] _ _ c => rebuiltEffects (countMismatch s) s.mesh.node v lba pa n e.epoch c (cwsOf pa n)
      | .lost cws _ _ c =>
        rebuiltEffects (cws.foldl (fun s w =>
          let s := queueReloc s w
          if readLevel s m w = 4 then raise s (unit (cwIsland s w) 3) else s) s) s.mesh.node v lba pa n e.epoch c cws
      | _ => s

/-- A lookup that found its leaf page in the cache: counted, and the page is the most recently used (R134). -/
def leafHit (s : State) (v st : Nat) : State :=
  match pageAt s v st with
  | none => s
  | some p => upMed s (fun m => { m with
      leafHits := wrapInc m.leafHits, leafCache := p :: m.leafCache.filter (fun q => !q.is v st) })

/-- What reading a block of a command leaves behind. -/
def readEffects (s : State) (m : MediaIn) (v lba : Nat) : State :=
  if (stagedAt s v lba).isSome then s
  else
    match mapOf s v lba with
    | none => s
    | some e => entryEffects (leafHit s v (lba / 512)) m v lba e

end Sys2Proof.Machine
end

