-- ==== Sys2Proof/Machine/DramOps.lean ====
section
/-! DEFINITION. DRAM as named operations (chapter 07): the partition of Table 7.3, the address map of R184 and R187, and what a
corrected or an uncorrectable line does to counters, marks and faults (R190 to R192). -/

namespace Sys2Proof.Machine

open Sys2Proof

/-- Lines of installed DRAM. -/
def dramLines (s : State) : Nat := s.drc.capacity * 2 ^ 24

/-! ### The address map (R184, R187) -/

/-- The channel of a line: by line, and in the Arena and Kite spill by 64 KiB granule. -/
def lineChannel (s : State) (line : Nat) : Nat :=
  match regionIn (partition s) (64 * line) with
  | some (.arena, off) => off / 65536 % 4
  | some (.spill, off) => off / 65536 % 4
  | _ => line % 4

/-- A line's address as the rest of the map takes it: where the channel is chosen by granule, the two bits of the granule number that
choose it and the two low bits, which then choose no channel, stand in for each other (R184, R187; log entry 68). -/
def lineInner (s : State) (line : Nat) : Nat :=
  match regionIn (partition s) (64 * line) with
  | some (.arena, _) => line / 4096 * 4096 + line % 4 * 1024 + line % 1024 / 4 * 4 + line / 1024 % 4
  | some (.spill, _) => line / 4096 * 4096 + line % 4 * 1024 + line % 1024 / 4 * 4 + line / 1024 % 4
  | _ => line

/-- A line's sub-channel, 2 × channel + sub-channel. -/
def lineSub (s : State) (line : Nat) : Nat := 2 * lineChannel s line + lineInner s line / 4 % 2

/-- Bank bits: 32 banks with ×8 devices, 16 with ×4 (R184). -/
def bankBits (s : State) : Nat := if s.drc.x4 then 4 else 5

/-- Column bits: 64 lines a row with ×8 devices, 128 with ×4. -/
def columnBits (s : State) : Nat := if s.drc.x4 then 7 else 6

/-- A line's column: the bits after those that select the bank (R184). -/
def lineColumn (s : State) (line : Nat) : Nat := lineInner s line / 2 ^ (3 + bankBits s) % 2 ^ columnBits s

/-- A line's rank on its channel: the bit after the column. -/
def lineRank (s : State) (line : Nat) : Nat := if s.drc.twoRanks then lineInner s line / 2 ^ 14 % 2 else 0

/-- A line's row: the remaining bits. -/
def lineRow (s : State) (line : Nat) : Nat := lineInner s line / 2 ^ (14 + b2n s.drc.twoRanks)

/-- A line's bank on its sub-channel, 32 × rank + bank: A[7:3] XOR row[4:0], of ×4 devices the low four bits. -/
def lineBank (s : State) (line : Nat) : Nat :=
  let b := (lineInner s line / 8) ^^^ lineRow s line
  32 * lineRank s line + b % 2 ^ bankBits s

/-- Rows of a bank. -/
def rowCount (s : State) : Nat := dramLines s / 2 ^ (14 + b2n s.drc.twoRanks)

/-- Bytes written over a line: those that are given. -/
def mergeBytes (old : List Byte) (new : List (Option Byte)) : List Byte := (old.zip new).map (fun x => x.2.getD x.1)

/-! ### Spill slots (R187, R217) -/

/-- The lines of a hub's spill slot that hold a saved context: two granules of the hub's channel, of which a context of 69,788 bytes fills
1,091 lines (R187, R217, Table 8.8; log entry 73). -/
def spillLines (s : State) (hub slot : Nat) : List Nat :=
  let base := regionBase (partition s) .spill / 64
  span (base + 1024 * (hub + 8 * slot)) 1024 ++ span (base + 1024 * (hub + 8 * slot + 4)) 67

/-- The lowest spill slot of a hub that no saved context takes (R217). -/
def freeSlot (s : State) (hub : Nat) : Option Nat :=
  (List.range (min s.kite.spillSlots (s.kite.insts.length + 1))).find? (fun k =>
    !(s.kite.insts.any (fun i => i.cluster / 2 == hub && i.state == .saved && i.spill == some k)))

/-! ### Corrected and uncorrectable lines (R190 to R192) -/

/-- The sub-channel rank of a line: 4 × channel + 2 × sub-channel + rank. -/
def lineGroup (s : State) (line : Nat) : Nat := 2 * lineSub s line + lineRank s line

/-- The marked device of a line's sub-channel rank, whose symbols the decoder takes as erasures (R190, R191). -/
def markedDevice (s : State) (line : Nat) : Option Nat := (mget s.drc.marks (lineGroup s line)).map (· - 1)

/-- The verdict of the DRAM line code on a read of a line (R190, Table 7.5). -/
def lineVerdict (s : State) (line : Nat) (check : LineCheck) : Verdict := dramVerdict s.drc.x4 (markedDevice s line) check

/-- A correction whose erroneous symbols all lie in one device counts towards its mark: the sixteenth within 1 s marks it, at most one
device a sub-channel rank, with a Deferred fault in a ×8 rank (R191). -/
def countDevice (s : State) (line : Nat) (device : Option Nat) : State :=
  match device with
  | none => s
  | some device =>
    let g := lineGroup s line
    let k := 10 * g + device
    let times := s.glb.lifetime :: (mgetD s.drc.corrections k []).filter (fun t => decide (s.glb.lifetime < t + 1000))
    let s := upDrc s (fun d => { d with corrections := mset d.corrections k times })
    if times.length < 16 ∨ (mget s.drc.marks g).isSome then s
    else
      let s := upDrc s (fun d => { d with marks := mset d.marks g (device + 1) })
      if s.drc.x4 then s else raise s (unit (islDram (g / 4)) 3)

/-- A corrected line: counted, a Correctable fault of its channel (R192). -/
def dramCorrected (s : State) (line : Nat) (check : LineCheck) : State :=
  countDevice (raise (upDrc s (fun d => { d with corrected := satInc d.corrected })) (unit (islDram (lineChannel s line)) 0)) line
    (errorDevice s.drc.x4 check)

/-- A line found uncorrectable: poisoned and counted, an Uncorrectable-contained fault of its channel, at the level its region names
(R192). -/
def dramBad (s : State) (line : Nat) (level : Option Nat) : State :=
  raiseAt (upDrc s (fun d => { d with uncorrectable := satInc d.uncorrectable, poisoned := linsert d.poisoned line }))
    (unit (islDram (lineChannel s line)) 1) level false none

end Sys2Proof.Machine
end

