-- ==== Sys2Proof/Machine/KiteCode.lean ====
section
/-! DEFINITION. The Kite instruction words: operations, their encoder and their decoder (R232 to R234, R242; Tables 9.4 to 9.11). -/

namespace Sys2Proof.Machine

open Sys2Proof

/-- Class 0b00 operations by code (Table 9.7). -/
inductive AluOp where
  | add | sub | adc | sbc | and | or | xor | mov | cmp | tst | shl | shr | sar | rol | mul | mulh
  deriving DecidableEq, Repr

/-- Class 0b01 operations (Table 9.8). -/
inductive ImmOp where
  | addi | cmpi | movi
  deriving DecidableEq, Repr

/-- Branch conditions by code (Table 9.9). -/
inductive Cond where
  | eq | ne | cs | cc | mi | pl | ms | mc | hi | ls | ge | lt | gt | le | al | vs
  deriving DecidableEq, Repr

/-- Loads, stores and port accesses (Table 9.10). -/
inductive MemOp where
  | ld | st | ldb | stb | inp | outp
  deriving DecidableEq, Repr

/-- String operations by code (Table 9.11). -/
inductive StrOp where
  | copy | matchOp | seek | pull | push | fill
  deriving DecidableEq, Repr

/-- A Kite instruction with its operands; EXT words belong to the instruction they prefix (R234). -/
inductive KOp where
  | alu (op : AluOp) (a b : Reg)
  /-- EXT words' imm10, first first, and the instruction's imm6 as their bits -/
  | imm (op : ImmOp) (exts : List Nat) (a : Reg) (imm : Nat)
  /-- `off` as its 8 bits -/
  | br (cond : Cond) (off : Nat)
  | mem (op : MemOp) (a b : Reg)
  | jmp (a : Reg)
  | call (a : Reg)
  | ret
  | rep
  | brpt (n : Nat)
  | str (wide : Bool) (op : StrOp) (r : Reg)
  | nop
  | wait
  | halt
  | trap
  | movsr (a : Reg) (toSpecial : Bool) (number : Fin 8)
  | ldpw (a b : Reg)
  deriving DecidableEq, Repr

/-- Class 0b00 op codes (Table 9.7). -/
def AluOp.code (o : AluOp) : Nat :=
  match o with
  | .add => 0 | .sub => 1 | .adc => 2 | .sbc => 3 | .and => 4 | .or => 5 | .xor => 6 | .mov => 7
  | .cmp => 8 | .tst => 9 | .shl => 10 | .shr => 11 | .sar => 12 | .rol => 13 | .mul => 14 | .mulh => 15

/-- The class 0b00 operation of a code. -/
def aluOf (n : Nat) : AluOp :=
  match n with
  | 0 => .add | 1 => .sub | 2 => .adc | 3 => .sbc | 4 => .and | 5 => .or | 6 => .xor | 7 => .mov
  | 8 => .cmp | 9 => .tst | 10 => .shl | 11 => .shr | 12 => .sar | 13 => .rol | 14 => .mul | _ => .mulh

/-- Class 0b01 op codes (Table 9.8). -/
def ImmOp.code (o : ImmOp) : Nat :=
  match o with
  | .addi => 0 | .cmpi => 1 | .movi => 2

/-- Condition codes (Table 9.9). -/
def Cond.code (c : Cond) : Nat :=
  match c with
  | .eq => 0 | .ne => 1 | .cs => 2 | .cc => 3 | .mi => 4 | .pl => 5 | .ms => 6 | .mc => 7
  | .hi => 8 | .ls => 9 | .ge => 10 | .lt => 11 | .gt => 12 | .le => 13 | .al => 14 | .vs => 15

/-- The condition of a code. -/
def condOf (n : Nat) : Cond :=
  match n with
  | 0 => .eq | 1 => .ne | 2 => .cs | 3 => .cc | 4 => .mi | 5 => .pl | 6 => .ms | 7 => .mc
  | 8 => .hi | 9 => .ls | 10 => .ge | 11 => .lt | 12 => .gt | 13 => .le | 14 => .al | _ => .vs

/-- Class 0b11 op codes of loads, stores and port accesses (Table 9.5). -/
def MemOp.code (o : MemOp) : Nat :=
  match o with
  | .ld => 0 | .st => 1 | .ldb => 2 | .stb => 3 | .inp => 4 | .outp => 5

/-- String operation codes (Table 9.11). -/
def StrOp.code (o : StrOp) : Nat :=
  match o with
  | .copy => 0 | .matchOp => 1 | .seek => 2 | .pull => 3 | .push => 4 | .fill => 5

/-- The string operation of a code; 6 and 7 are unassigned. -/
def strOf (n : Nat) : Option StrOp :=
  match n with
  | 0 => some .copy
  | 1 => some .matchOp
  | 2 => some .seek
  | 3 => some .pull
  | 4 => some .push
  | 5 => some .fill
  | _ => none

/-- A register field of 4 bits. -/
def regOf (n : Nat) : Reg := ⟨n % 16, Nat.mod_lt _ (by decide)⟩

/-- The words of an instruction, EXT words first (Tables 9.4 and 9.5). -/
def kiteEncode (k : KOp) : List Nat :=
  match k with
  | .alu op a b => [op.code * 256 + a.val * 16 + b.val]
  | .imm op exts a i => exts.map (fun e => 0x1C00 + e) ++ [0x1000 + op.code * 1024 + a.val * 64 + i]
  | .br c off => [0x2000 + c.code * 256 + off]
  | .mem op a b => [0x3000 + op.code * 256 + a.val * 16 + b.val]
  | .jmp a => [0x3600 + a.val * 16]
  | .call a => [0x3700 + a.val * 16]
  | .ret => [0x3800]
  | .rep => [0x3900]
  | .brpt n => [0x3A00 + n]
  | .str w op r => [0x3B00 + b2n w * 128 + op.code * 16 + r.val]
  | .nop => [0x3C00]
  | .wait => [0x3C10]
  | .halt => [0x3C20]
  | .trap => [0x3C30]
  | .movsr a d n => [0x3D00 + a.val * 16 + b2n d * 8 + n.val]
  | .ldpw a b => [0x3E00 + a.val * 16 + b.val]

/-- The fields that an encoding admits: at most three EXT words of 10 bits, the first with bits [9:6] zero when there are three, imm6 of 6
bits, off of 8 bits, n from 1 to 255, and COPY with a reserved operand field of zero (R234, Table 9.5). -/
def KOp.wf (k : KOp) : Bool :=
  match k with
  | .imm _ exts _ i =>
    decide (exts.length ≤ 3) && exts.all (fun e => decide (e < 1024)) && decide (i < 64) &&
      (exts.length != 3 || decide (exts.headD 0 < 64))
  | .br _ off => decide (off < 256)
  | .brpt n => decide (1 ≤ n) && decide (n < 256)
  | .str _ .copy r => r.val == 0
  | _ => true

/-- An EXT word. -/
def isExt (w : Nat) : Bool := decide (0x1C00 ≤ w) && decide (w < 0x2000)

/-- One word that is no EXT (Table 9.5); none where it is unassigned or a reserved field is not zero (R233). -/
def decodeWord (w : Nat) : Option KOp :=
  let a := regOf (w / 16)
  let b := regOf w
  let lo := w % 256
  if 0x4000 ≤ w then none
  else if w < 0x1000 then some (.alu (aluOf (w / 256)) a b)
  else if w < 0x2000 then
    let r := regOf (w / 64)
    if w < 0x1400 then some (.imm .addi [] r (w % 64))
    else if w < 0x1800 then some (.imm .cmpi [] r (w % 64))
    else if w < 0x1C00 then some (.imm .movi [] r (w % 64))
    else none
  else if w < 0x3000 then some (.br (condOf (w / 256 % 16)) lo)
  else
    match w / 256 % 16 with
    | 0 => some (.mem .ld a b)
    | 1 => some (.mem .st a b)
    | 2 => some (.mem .ldb a b)
    | 3 => some (.mem .stb a b)
    | 4 => some (.mem .inp a b)
    | 5 => some (.mem .outp a b)
    | 6 => if w % 16 = 0 then some (.jmp a) else none
    | 7 => if w % 16 = 0 then some (.call a) else none
    | 8 => if lo = 0 then some .ret else none
    | 9 => if lo = 0 then some .rep else none
    | 10 => if lo = 0 then none else some (.brpt lo)
    | 11 =>
      match strOf (lo / 16 % 8) with
      | some .copy => if lo % 16 = 0 then some (.str (decide (128 ≤ lo)) .copy 0) else none
      | some op => some (.str (decide (128 ≤ lo)) op b)
      | none => none
    | 12 =>
      if lo = 0 then some .nop
      else if lo = 0x10 then some .wait
      else if lo = 0x20 then some .halt
      else if lo = 0x30 then some .trap
      else none
    | 13 => some (.movsr a (decide (8 ≤ lo % 16)) ⟨lo % 8, Nat.mod_lt _ (by decide)⟩)
    | 14 => some (.ldpw a b)
    | _ => none

/-- The instruction at the head of a word list, with the words it takes: up to three EXT words before an ADDI, CMPI or MOVI (R234). -/
def decodeChain (exts : List Nat) (ws : List Nat) : Option (KOp × Nat) :=
  match ws with
  | [] => none
  | w :: rest =>
    if isExt w then (if exts.length < 3 then decodeChain (exts ++ [w % 1024]) rest else none)
    else
      match decodeWord w with
      | some (.imm op _ a i) =>
        if exts.length = 3 ∧ 64 ≤ exts.headD 0 then none else some (.imm op exts a i, exts.length + 1)
      | some k => if exts.isEmpty then some (k, 1) else none
      | none => none

/-- Decode the instruction at the head of a word list. -/
def kiteDecode (ws : List Nat) : Option (KOp × Nat) := decodeChain [] ws

end Sys2Proof.Machine
end

