-- ==== Sys2Proof/Machine/Flags.lean ====
section
/-! DEFINITION. The flag computations of Kite (R235 to R238, R243). -/

namespace Sys2Proof.Machine

open Sys2Proof

/-- Z and N of a result (R235). -/
def Flags.zn (f : Flags) (r : Word) : Flags := { f with z := r == 0, n := r.msb }

/-- Addition with carry in: the sum, with Z N C V (R235). -/
def addFlags (f : Flags) (a b : Word) (cin : Bool) : Word × Flags :=
  let sum := a.toNat + b.toNat + b2n cin
  let r := BitVec.ofNat 32 sum
  (r, { f.zn r with c := decide (2 ^ 32 ≤ sum), v := a.msb == b.msb && r.msb != a.msb })

/-- Subtraction with a borrow in: the difference, with Z N C V; C is 1 when no borrow occurs (R235). -/
def subFlags (f : Flags) (a b : Word) (bin : Bool) : Word × Flags :=
  let r := a - b - BitVec.ofNat 32 (b2n bin)
  (r, { f.zn r with c := decide (b.toNat + b2n bin ≤ a.toNat), v := a.msb != b.msb && r.msb != a.msb })

/-- The result of a shift by `n`, 0 to 31 (R236). -/
def shiftValue (op : AluOp) (a : Word) (n : Nat) : Word :=
  match op with
  | .shl => a <<< n
  | .shr => a >>> n
  | .sar => a.sshiftRight n
  | _ => a.rotateLeft n

/-- The last bit that a shift by `n`, 1 to 31, moved out; for ROL bit 0 of the result (R235). -/
def shiftCarry (op : AluOp) (a : Word) (n : Nat) : Bool :=
  match op with
  | .shl => a.getLsbD (32 - n)
  | .rol => (a.rotateLeft n).getLsbD 0
  | _ => a.getLsbD (n - 1)

/-- Shifts by 0 to 31: the result, with Z N, and C unless the count is 0 (R235, R236). -/
def shiftFlags (f : Flags) (op : AluOp) (a : Word) (n : Nat) : Word × Flags :=
  (shiftValue op a n, { f.zn (shiftValue op a n) with c := if n = 0 then f.c else shiftCarry op a n })

/-- A class 0b00 operation: the result, if `ga` takes one, and the flags (Table 9.7). -/
def alu (op : AluOp) (f : Flags) (a b : Word) : Option Word × Flags :=
  let put := fun (x : Word × Flags) => (some x.1, x.2)
  let logic := fun (r : Word) => (some r, f.zn r)
  match op with
  | .add => put (addFlags f a b false)
  | .sub => put (subFlags f a b false)
  | .adc => put (addFlags f a b f.c)
  | .sbc => put (subFlags f a b !f.c)
  | .and => logic (a &&& b)
  | .or => logic (a ||| b)
  | .xor => logic (a ^^^ b)
  | .mov => (some b, f)
  | .cmp => (none, (subFlags f a b false).2)
  | .tst => (none, f.zn (a &&& b))
  | .mul => logic (a * b)
  | .mulh => logic (BitVec.ofNat 32 (a.toNat * b.toNat / 2 ^ 32))
  | _ => put (shiftFlags f op a (b.toNat % 32))

/-- Cycles of a class 0b00 operation (Table 9.7). -/
def AluOp.cycles (op : AluOp) : Nat :=
  match op with
  | .mul => 2
  | .mulh => 3
  | _ => 1

/-- A class 0b01 operation (Table 9.8). -/
def immOp (op : ImmOp) (f : Flags) (a i : Word) : Option Word × Flags :=
  match op with
  | .addi =>
    let r := addFlags f a i false
    (some r.1, r.2)
  | .cmpi => (none, (subFlags f a i false).2)
  | .movi => (some i, f)

/-- Whether a branch is taken (Table 9.9). -/
def Cond.holds (c : Cond) (f : Flags) : Bool :=
  match c with
  | .eq => f.z
  | .ne => !f.z
  | .cs => f.c
  | .cc => !f.c
  | .mi => f.n
  | .pl => !f.n
  | .ms => f.m
  | .mc => !f.m
  | .hi => f.c && !f.z
  | .ls => !f.c || f.z
  | .ge => f.n == f.v
  | .lt => f.n != f.v
  | .gt => !f.z && f.n == f.v
  | .le => f.z || f.n != f.v
  | .al => true
  | .vs => f.v

/-- The target of a branch at `pc`: the next word and the signed offset, modulo 16,384 (R227, R238). -/
def branchTarget (pc off : Nat) : Nat := (pc + 1 + (if off < 128 then off else off + 16384 - 256)) % 16384

/-- Flags after MATCH and SEEK: how the operation ended (Table 9.12). -/
def strFlags (f : Flags) (op : StrOp) (stopped : Option (Word × Word)) : Flags :=
  match op, stopped with
  | .matchOp, some (x, y) => { (subFlags f x y false).2 with m := true, z := false }
  | .matchOp, none => { f with m := false, z := true, n := false, c := true, v := false }
  | .seek, some _ => { f with m := true, z := true }
  | .seek, none => { f with m := false, z := false }
  | _, _ => f

/-- The `fl` register's bits (Table 9.3). -/
def Flags.word (f : Flags) : Nat := b2n f.z + 2 * b2n f.n + 4 * b2n f.c + 8 * b2n f.v + 16 * b2n f.m

/-- Flags from a write of `fl` (Table 9.3). -/
def flagsOf (w : Nat) : Flags := { z := bit w 0, n := bit w 1, c := bit w 2, v := bit w 3, m := bit w 4 }

end Sys2Proof.Machine
end

