-- ==== Sys2Proof/Machine/KitePorts.lean ====
section
/-! DEFINITION. The I/O ports of a Kite core (R209, R210, R220 to R224, R253 to R258; Tables 8.4, 8.10 and 9.17 to 9.21). -/

namespace Sys2Proof.Machine

open Sys2Proof

/-- The outcome of a port access. -/
inductive PortRes where
  /-- done: the value read, and the state -/
  | done (v : Word) (s : State)
  /-- the core stalls -/
  | stall (s : State)
  /-- an exception by its code (Table 9.15) -/
  | fault (code : Nat)

/-- A word from a number. -/
def word (n : Nat) : Word := BitVec.ofNat 32 n

/-- Change an instance's ports. -/
def modPorts (s : State) (i : Instance) (f : Ports → Ports) : State :=
  modInst s i.run i.num (fun x => { x with ports := f x.ports })

/-- The run of an instance permits the port (R223). -/
def permitted (s : State) (i : Instance) (port : Nat) : Bool :=
  match (findRun s i.run).bind (fun r => mget s.kite.programs r.slot) with
  | some g => bit g.perm (port / 16)
  | none => false

/-! ### Scan stream (Table 8.4) -/

/-- The unread bytes of a lane's first two visible blocks. -/
def Lane.front (l : Lane) : List Byte := ((l.ring.take 2).flatMap (fun b => b.data)).drop l.used

/-- Q of an instance's cluster. -/
def ringOf (s : State) (i : Instance) : Nat := ringBytes (clusterAt s i.cluster).ringNow

/-- The read position moves over n bytes, or to the end of the list; none while too few are visible (R209, R210). -/
def lanePass (s : State) (i : Instance) (n : Nat) : Option State :=
  let l := i.lane
  if n ≤ l.avail ∨ l.drained then
    some (modInst s i.run i.num (fun x => { x with lane := x.lane.advance (ringOf s i) (min n l.avail) }))
  else none

/-- SCAN_DATA: the next bytes, zero-padded at the end (R209, R210). -/
def scanRead (s : State) (i : Instance) (n : Nat) : PortRes :=
  match lanePass s i n with
  | some t => .done (word (unle (field (i.lane.front.take (min n i.lane.avail)) 0 n))) t
  | none => .stall s

/-- SCAN_STATUS (Table 8.4): whole blocks visible are counted from the read position on (DEDUCED, log entry 28). -/
def scanStatus (i : Instance) : Nat :=
  let l := i.lane
  let flags := match l.ring with
    | b :: _ => 4 * b2n b.zero + 8 * b2n b.recon + 16 * b2n b.unrec + 32 * b2n b.staging
    | [] => 0
  b2n (decide (0 < l.avail)) + 2 * b2n l.ended + flags + 65536 * (l.avail / 4096)

/-- A value of the block at the read position; open where there is none (log entry 12). -/
def scanBlock (s : State) (i : Instance) (f : LaneBlock → Nat) : PortRes :=
  match i.lane.ring with
  | b :: _ => .done (word (f b)) s
  | [] =>
    let r := freeBelow s (2 ^ 32)
    .done (word r.1) r.2

/-! ### Reads (R224, R253) -/

/-- A result port: its value, or a stall while the request is incomplete (R254). -/
def resultPort (s : State) (busy : Bool) (v : Nat) : PortRes := if busy then .stall s else .done (word v) s

/-- The remaining count of a timer: below the last value known and above 0 while it runs, else open (R222; log entry 12). -/
def timerRead (s : State) (i : Instance) (n : Nat) : PortRes :=
  let v := if n = 0 then i.timer0 else i.timer1
  if v = 0 then .done 0 s
  else
    let r := freeBelow s v
    .done (word (r.1 + 1)) (modInst r.2 i.run i.num (fun x => if n = 0 then { x with timer0 := r.1 + 1 } else { x with timer1 := r.1 + 1 }))

/-- MBOX_RECV takes the next inbound word (R222). -/
def mboxTake (s : State) (i : Instance) : PortRes :=
  match i.inbox with
  | w :: rest => .done w (modInst s i.run i.num (fun x => { x with inbox := rest }))
  | [] => .stall s

/-- DG_STATUS (Table 9.19). -/
def dgStatus (p : Ports) : Nat :=
  b2n p.dgBusy + 2 * b2n p.dgCtx.isSome + 4 * b2n p.dgExhausted + 8 * b2n p.dgCleared + 16 * b2n p.dgDone + 32 * b2n p.dgNoMessage

/-- Read a port that IN may read; none where it is unassigned or its IN is PORT_DENIED. `n`: bytes asked of SCAN_DATA. -/
def portRead (s : State) (i : Instance) (core port n : Nat) : Option PortRes :=
  let p := i.ports
  let zero := some (PortRes.done 0 s)
  let val := fun (v : Nat) => some (PortRes.done (word v) s)
  match port with
  | 0x000 => some (scanRead s i n)
  | 0x001 => val (scanStatus i)
  | 0x002 => val i.lane.offset
  | 0x003 => zero
  | 0x004 => some (scanBlock s i (fun b => b.lba))
  | 0x005 => some (scanBlock s i (fun b => b.lba / 2 ^ 32))
  | 0x006 => some (scanBlock s i (fun b => b.vol))
  | 0x007 => val (ringOf s i)
  | 0x100 => val p.wmTable
  | 0x110 => zero
  | 0x111 => some (resultPort s p.wmBusy p.wmResult)
  | 0x112 => some (resultPort s p.wmBusy (p.wmResult / 2 ^ 32))
  | 0x113 => val (b2n p.wmBusy)
  | 0x200 => zero
  | 0x201 => zero
  | 0x202 => zero
  | 0x203 => zero
  | 0x204 => val (dgStatus p)
  | 0x300 => val p.cpMode
  | 0x301 => zero
  | 0x302 => zero
  | 0x303 => zero
  | 0x304 => zero
  | 0x305 => zero
  | 0x306 => some (resultPort s p.cpBusy p.cpResult)
  | 0x307 => some (resultPort s p.cpBusy p.cpOutLen)
  | 0x308 => val (b2n p.cpBusy)
  | 0x400 => val (pendingEvents i)
  | 0x401 => zero
  | 0x410 => some (timerRead s i 0)
  | 0x411 => some (timerRead s i 1)
  | 0x420 => some (mboxTake s i)
  | 0x421 => val (i.inbox.length + 16 * i.outbox.length)
  | 0x422 => zero
  | 0x430 => val core
  | 0x500 => zero
  | 0x501 => zero
  | 0x502 => zero
  | 0x503 => zero
  | 0x504 => zero
  | 0x505 => zero
  | 0x506 => some (resultPort s p.dmaBusy p.dmaOffset)
  | 0x507 => val (b2n p.dmaBusy + 2 * b2n p.dmaFull + 4 * b2n p.dmaError)
  | _ =>
    if 0x101 ≤ port ∧ port ≤ 0x108 then zero
    else if 0x210 ≤ port ∧ port ≤ 0x21F then some (resultPort s p.dgBusy (num p.dgOut (4 * (port - 0x210)) 4))
    else none

/-- IN and PULL: the checks of R224 and R240, then the read. -/
def portIn (s : State) (i : Instance) (core : Nat) (reg : Word) (n : Nat) : PortRes :=
  if 4096 ≤ reg.toNat ∨ !permitted s i reg.toNat then .fault 6
  else (portRead s i core reg.toNat n).getD (.fault 6)

/-! ### Engine requests (R254 to R258) -/

/-- WM_GO: the search enters its table's queue of 64 (R255, R280). -/
def wmStart (s : State) (i : Instance) : PortRes :=
  let t := i.ports.wmTable
  if i.ports.wmBusy ∨ 64 ≤ (s.way.queue.filter (fun q => q.table == t)).length then .stall s
  else
    let s := upWay s (fun w => { w with queue := w.queue ++ [{ table := t, run := i.run, num := i.num, key := i.ports.wmKey }] })
    .done 0 (modPorts s i (fun p => { p with wmBusy := true }))

/-- The digest message a core holds goes, and its context is free (R256). -/
def dgDrop (s : State) (i : Instance) : State :=
  modPorts (upSec s (fun e => { e with contexts := e.contexts.filter (fun c => c.2.kite != some (i.run, i.num)) })) i
    (fun p => { p with dgCtx := none })

/-- DG_OPEN (R256, R308). It stalls while a request of the held message runs (DEDUCED, log entry 28). In the error state the message
is cleared at once (R332). -/
def dgOpenPort (s : State) (i : Instance) (v : Nat) : PortRes :=
  if i.ports.dgBusy then .stall s
  else
    let alg := v % 16
    let slot := v / 256 % 64
    let s := modPorts (dgDrop s i) i (fun p => { p with
      dgExhausted := false, dgCleared := false, dgDone := false, dgNoMessage := false, dgOut := [] })
    if s.sec.errorState then .done 0 (modPorts s i (fun p => { p with dgCleared := true }))
    else if !algValid alg || (decide (8 ≤ alg) && (mget s.sec.hmacKeys slot).isNone) then
      .done 0 (modPorts s i (fun p => { p with dgNoMessage := true }))
    else
      match freeContext s with
      | none =>
        .done 0 (modPorts (upSec s (fun e => { e with exhausted := satInc e.exhausted })) i (fun p => { p with dgExhausted := true }))
      | some n =>
        let c : DigestCtx := { alg, hmac := if 8 ≤ alg then some slot else none, data := [], kite := some (i.run, i.num), parts := [],
                               doomed := false }
        let s := upSec s (fun e => { e with contexts := mset e.contexts n c, dgPeak := max e.dgPeak (e.contexts.length + 1) })
        .done 0 (modPorts s i (fun p => { p with dgCtx := some n }))

/-- DG_FEED (R254, R256). -/
def dgFeedPort (s : State) (i : Instance) (n : Nat) : PortRes :=
  if i.ports.dgBusy then .stall s
  else if i.ports.dgCtx.isNone then .done 0 (modPorts s i (fun p => { p with dgNoMessage := true }))
  else if n = 0 ∨ 1048576 < n then .done 0 (modPorts (dgDrop s i) i (fun p => { p with dgNoMessage := true }))
  else
    match dataTake s i i.ports.dgAddr n with
    | none => .fault 5
    | some (b, s) => .done 0 (modPorts s i (fun p => { p with dgBusy := true, dgFeed := some b, dgFrom := p.dgAddr, dgDone := false }))

/-- DG_FINAL (R254, R256). -/
def dgFinalPort (s : State) (i : Instance) : PortRes :=
  if i.ports.dgBusy then .stall s
  else if i.ports.dgCtx.isNone then .done 0 (modPorts s i (fun p => { p with dgNoMessage := true }))
  else .done 0 (modPorts s i (fun p => { p with dgBusy := true, dgFeed := none, dgDone := false }))

/-- A Kite core's request for a pipe (R294). -/
def kitePipe (i : Instance) (decomp : Bool) : PipeReq := { cls := .kite, tag := i.run, num := i.num, decomp }

/-- The port of the first latched value of CP_GO that is out of range (Table 9.20). -/
def cpBad (p : Ports) : Option Nat :=
  let g := p.cpMode / 256 % 256
  if p.cpMode / 2 % 4 = 3 ∨ (decide (50 < g) && g != 255) then some 0x300
  else if p.cpSrcLen = 0 ∨ 1048576 < p.cpSrcLen then some 0x302
  else if p.cpDstCap = 0 then some 0x304
  else none

/-- CP_GO (R254, R257). -/
def cpStart (s : State) (i : Instance) : PortRes :=
  let p := i.ports
  if p.cpBusy then .stall s
  else
    match cpBad p with
    | some port =>
      .done 0 (latchEvent (modPorts s i (fun p => { p with cpResult := stInvalidField + 65536 * port, cpOutLen := 0 })) i.run i.num 7)
    | none =>
      match dataTake s i p.cpSrc p.cpSrcLen, region s i p.cpDst p.cpDstCap with
      | some (b, s), some r =>
        (match r with
          | .ring _ => .fault 5
          | _ =>
            let s := modPorts s i (fun p => { p with cpBusy := true, cpReq := some (p.cpMode, b, p.cpDst, p.cpDstCap), cpFrom := p.cpSrc })
            .done 0 (askPipe s (kitePipe i (bit p.cpMode 0))))
      | _, _ => .fault 5

/-- DMA_PUT and DMA_APPEND (R254, R258, R270). A length out of its range is a source range that fails (DEDUCED, log entry 28). -/
def dmaStart (s : State) (i : Instance) (append : Bool) : PortRes :=
  let p := i.ports
  if p.dmaBusy then .stall s
  else if p.dmaLen = 0 ∨ 1048576 < p.dmaLen then .fault 5
  else
    match dataTake s i p.dmaSrc p.dmaLen, findRun s i.run with
    | some (b, s), some r =>
      let off := if append then r.nextFree else p.dmaDstLo + p.dmaDstHi * 2 ^ 32
      if r.dlen < off + p.dmaLen then
        .done 0 (modPorts s i (fun p => { p with dmaBusy := true, dmaReq := none, dmaFull := true, dmaError := false }))
      else
        let s := if append then modRun s i.run (fun r => { r with nextFree := off + p.dmaLen }) else s
        .done 0 (modPorts s i (fun p => { p with
          dmaBusy := true, dmaReq := some (off, b), dmaFrom := p.dmaSrc, dmaFull := false, dmaError := false,
          dmaOffset := if append then off % 2 ^ 32 else p.dmaOffset }))
    | _, _ => .fault 5

/-! ### Writes (R224, R253) -/

/-- SCAN_RELEASE (Table 8.4). -/
def scanReleasePort (s : State) (i : Instance) (v : Nat) : PortRes :=
  match lanePass s i (v / 4 * 4) with
  | some t => .done 0 t
  | none => .stall s

/-- MBOX_SEND (R222, R269). -/
def mboxPost (s : State) (i : Instance) (w : Word) : PortRes :=
  if 8 ≤ i.outbox.length then .stall s
  else .done 0 (modInst s i.run i.num (fun x => { x with outbox := x.outbox ++ [w] }))

/-- Write a port that OUT may write; none where it is unassigned or its OUT is PORT_DENIED. -/
def portWrite (s : State) (i : Instance) (port : Nat) (w : Word) : Option PortRes :=
  let v := w.toNat
  let set := fun (f : Ports → Ports) => some (PortRes.done 0 (modPorts s i f))
  match port with
  | 0x003 => some (scanReleasePort s i v)
  | 0x100 => set (fun p => { p with wmTable := v % 8 })
  | 0x110 => some (wmStart s i)
  | 0x200 => some (dgOpenPort s i v)
  | 0x201 => set (fun p => { p with dgAddr := v })
  | 0x202 => some (dgFeedPort s i v)
  | 0x203 => some (dgFinalPort s i)
  | 0x300 => set (fun p => { p with cpMode := v })
  | 0x301 => set (fun p => { p with cpSrc := v })
  | 0x302 => set (fun p => { p with cpSrcLen := v })
  | 0x303 => set (fun p => { p with cpDst := v })
  | 0x304 => set (fun p => { p with cpDstCap := v })
  | 0x305 => some (cpStart s i)
  | 0x401 => some (.done 0 (modInst s i.run i.num (fun x => { x with latched := x.latched &&& (0x1F8 ^^^ (v &&& 0x1F8)) })))
  | 0x410 => some (.done 0 (modInst s i.run i.num (fun x => { x with timer0 := v })))
  | 0x411 => some (.done 0 (modInst s i.run i.num (fun x => { x with timer1 := v })))
  | 0x422 => some (mboxPost s i w)
  | 0x500 => set (fun p => { p with dmaSrc := v })
  | 0x501 => set (fun p => { p with dmaLen := v })
  | 0x502 => set (fun p => { p with dmaDstLo := v })
  | 0x503 => set (fun p => { p with dmaDstHi := v })
  | 0x504 => some (dmaStart s i false)
  | 0x505 => some (dmaStart s i true)
  | _ => if 0x101 ≤ port ∧ port ≤ 0x108 then set (fun p => { p with wmKey := lmod p.wmKey (port - 0x101) (fun _ => w) }) else none

/-- OUT and PUSH: the checks of R224 and R240, then the write. -/
def portOut (s : State) (i : Instance) (reg w : Word) : PortRes :=
  if 4096 ≤ reg.toNat ∨ !permitted s i reg.toNat then .fault 6
  else (portWrite s i reg.toNat w).getD (.fault 6)

end Sys2Proof.Machine
end

