-- ==== Sys2Proof/Machine/KiteExec.lean ====
section
/-! DEFINITION. How a Kite core fetches, finishes, stalls and faults (R227, R231, R239, R241, R247 to R251), and its string elements
(R242 to R246). -/

namespace Sys2Proof.Machine

open Sys2Proof

/-! ### Registers -/

/-- A general register (Table 9.2). -/
def Regs.get (r : Regs) (n : Reg) : Word := r.g.getD n.val 0

/-- A general register written. -/
def Regs.put (r : Regs) (n : Reg) (w : Word) : Regs := { r with g := lmod r.g n.val (fun _ => w) }

/-- Registers by role: as, ad, rc and lk (Table 9.2). -/
def rAs : Reg := 12
def rAd : Reg := 13
def rRc : Reg := 14
def rLk : Reg := 15

/-! ### Fetch (R213, R227, R233, R234, R248) -/

/-- The word of a core's program memory: 0x3FFF beyond the image (R227). -/
def codeWord (s : State) (core pc : Nat) : Nat :=
  match (coreAt s core).image with
  | some l =>
    (match s.kite.programs.find? (fun p => p.2.load == l) with
      | some p => p.2.code.getD pc 0x3FFF
      | none => 0x3FFF)
  | none => 0x3FFF

/-- Four words from a pc on, modulo 16,384 (R227). -/
def codeWords (s : State) (core pc : Nat) : List Nat := (List.range 4).map (fun i => codeWord s core ((pc + i) % 16384))

/-- A word's line of program memory is poisoned (R21, R22). -/
def codePoisoned (s : State) (core pc : Nat) : Bool := (coreAt s core).poison.contains (pc / 32)

/-- Words that a fetch at a pc reads: an EXT chain reads on to its instruction, at most three EXT words (R234). -/
def fetchLength (ws : List Nat) : Nat :=
  match ws with
  | [] => 0
  | w :: rest => if w / 1024 = 7 then 1 + fetchLength rest else 1

/-- The fetch at a pc reads a poisoned line (R22, R249). -/
def fetchPoisoned (s : State) (core pc : Nat) : Bool :=
  (List.range (fetchLength (codeWords s core pc))).any (fun k => codePoisoned s core ((pc + k) % 16384))

/-- The instruction at an instance's pc, with its words; none for an unassigned word, a broken EXT chain, or an EXT at the end of an active
block (R233, R234, R248). -/
def kiteFetch (s : State) (core : Nat) (i : Instance) : Option (KOp × Nat) :=
  if fetchPoisoned s core i.regs.pc then none
  else
  match kiteDecode (codeWords s core i.regs.pc) with
  | some (k, n) => if i.regs.active ∧ i.regs.pc ≤ i.regs.be ∧ i.regs.be + 1 < i.regs.pc + n then none else some (k, n)
  | none => none

/-- The instance a core executes: the core is RUNNING, or STALLED and tries again (Table 8.6). -/
def executing (s : State) (core : Nat) : Option Instance :=
  let c := coreAt s core
  if c.state = 2 ∨ c.state = 4 then c.inst.bind (fun x => findInst s x.1 x.2) else none

/-! ### The end of an instruction -/

/-- An instruction that ends: the state with its effects, its registers but for pc, and a taken transfer. -/
structure KEnd where
  s : State
  regs : Regs
  jump : Option Nat := none
  cost : Nat := 1
  /-- accesses to shared memory, each waiting up to 7 cycles for the core port (R241) -/
  waits : Nat := 0

/-- What became of an instruction. -/
inductive KRes where
  | ends (e : KEnd)
  /-- the core is STALLED; the instruction is tried again -/
  | stalls (s : State)
  /-- an exception by its code (Table 9.15), with the reported pc -/
  | faults (s : State) (code pc : Nat)

/-- pc, ACTIVE and rc after an instruction of `n` words: a transfer, the end of a pass, or the next word (R247, R248). -/
def afterInstr (r : Regs) (n : Nat) (jump : Option Nat) : Regs :=
  match jump with
  | some t => { r with pc := t, active := r.active && decide (r.bs ≤ t) && decide (t ≤ r.be) }
  | none =>
    let next := (r.pc + n) % 16384
    if r.active && r.pc + n == r.be + 1 then
      (if 1 < (r.get rRc).toNat then { r.put rRc (r.get rRc - 1) with pc := r.bs }
       else { r.put rRc 0 with active := false, pc := next })
    else { r with pc := next }

/-- Cycles pass for an instance; waits for shared memory and stalls add open times (R231, R241; log entry 12). -/
def cyclesOf (s : State) (waits : Nat) (stalled : Bool) (cost : Nat) : Nat × State :=
  let w := freeBelow s (7 * waits + 1)
  let d := freeBelow w.2 (2 ^ 32)
  (cost + w.1 + (if stalled then d.1 else 0), d.2)

/-- An exception ends the run (R249, R251, R273). -/
def kiteFault (s : State) (core : Nat) (i : Instance) (code pc : Nat) : State :=
  let s := modCluster s (core / 8) (fun c => { c with faults := satInc c.faults })
  endRun s i.run { status := stProgramFault, detail := code, r1 := pc + core * 2 ^ 14 }

/-- An instruction of `n` words takes its outcome. -/
def kiteDone (core : Nat) (i : Instance) (n : Nat) (r : KRes) : State :=
  match r with
  | .ends e =>
    let t := cyclesOf e.s e.waits ((coreAt e.s core).state == 4) e.cost
    let regs := afterInstr e.regs n e.jump
    let s := modInst t.2 i.run i.num (fun x => { x with regs := { regs with cycles := (regs.cycles + t.1) % 2 ^ 64 } })
    if (coreAt s core).state = 4 then modCore s core (fun c => { c with state := 2 }) else s
  | .stalls s => modCore s core (fun c => { c with state := 4 })
  | .faults s code pc => kiteFault s core i code pc

/-- A core carries out the instruction at its pc if it is the one a test picks. -/
def kiteRun (core : CoreId) (s : State) (f : Instance → KOp → Nat → Option KRes) : Out :=
  match executing s core.val with
  | none => .next s
  | some i =>
    match kiteFetch s core.val i with
    | none => .next s
    | some (k, n) =>
      match f i k n with
      | some r => .next (kiteDone core.val i n r)
      | none => .next s

/-! ### Line code (R20 to R23, R249) -/

/-- Change the run's shared area on the instance's cluster. -/
def modArea (s : State) (i : Instance) (f : Area → Area) : State :=
  modCluster s i.cluster (fun c => { c with areas := c.areas.map (fun r => if r.run = i.run then f r else r) })

/-- The line that holds a data-space address is poisoned (R22). -/
def poisonedAt (s : State) (i : Instance) (a : Nat) : Bool :=
  match region s i a 1 with
  | some (.shared off) => (match areaOf s i with
    | some r => r.poison.contains (off / 64)
    | none => false)
  | some _ => i.poison.contains (a / 64)
  | none => false

/-- Some line of a range is poisoned. -/
def poisonedIn (s : State) (i : Instance) (a n : Nat) : Bool :=
  (List.range ((a + n + 63) / 64 - a / 64)).any (fun k => poisonedAt s i (64 * (a / 64 + k)))

/-- The line that holds an address is marked poisoned (R22). -/
def poisonAt (s : State) (i : Instance) (a : Nat) : State :=
  match region s i a 1 with
  | some (.shared off) => modArea s i (fun r => { r with poison := linsert r.poison (off / 64) })
  | some _ => modInst s i.run i.num (fun x => { x with poison := linsert x.poison (a / 64) })
  | none => s

/-- A lane whose ring memory has changed under its visible blocks. -/
def Lane.rewrite (l : Lane) (q : Nat) (m : SMap Byte) : Lane :=
  { l with mem := m, ring := ((List.range l.ring.length).zip l.ring).map (fun x =>
      { x.2 with data := (span ((l.offset + q - l.used + 4096 * x.1) % q) 4096).map (fun a => mgetD m a 0) }) }

/-- The storage of a data-space line takes the line that the decoder made of it (R22; log entry 10). -/
def replaceLine (s : State) (i : Instance) (a : Nat) (delta : List Byte) : State :=
  let base := 64 * (a / 64)
  let fix := fun (m : SMap Byte) (at_ : Nat) =>
    storeNonzero m at_ (((span at_ 64).zip delta).map (fun x => mgetD m x.1 0 ^^^ x.2))
  match region s i a 1 with
  | some .localData => modInst s i.run i.num (fun x => { x with localMem := fix x.localMem base })
  | some (.shared off) => modArea s i (fun r => { r with mem := fix r.mem (64 * (off / 64)) })
  | some (.ring off) =>
    let at_ := 64 * (off / 64)
    let fixed := fun (m : SMap Byte) => storeAll m at_ (((span at_ 64).zip delta).map (fun y => mgetD m y.1 0 ^^^ y.2))
    modInst s i.run i.num (fun x => { x with lane := x.lane.rewrite (ringOf s i) (fixed x.lane.mem) })
  | none => s

/-- What a decoded line is to its cluster: a Correctable fault for a correction, the LINE_UNCORRECTABLE fault for a detection (R22). -/
def lineFault (s : State) (i : Instance) (v : Verdict) : State :=
  match v with
  | .clean => s
  | .corrected => raise s (unit (islKc i.cluster) 0)
  | .wrong _ => raise s (unit (islKc i.cluster) 0)
  | .uncorrectable => raise s (unit (islKc i.cluster) 1)

/-- The line that holds an address is read and checked: `check` lists its symbols in error. A detected line is marked poisoned, and the
storage keeps what the decoder made of a corrected one (R22; log entry 10). -/
def checkLine (s : State) (i : Instance) (a : Nat) (check : LineCheck) : State :=
  if (region s i a 1).isNone ∨ poisonedAt s i a then s
  else
    let v := onChip check
    let s := lineFault s i v
    match v with
    | .uncorrectable => poisonAt s i a
    | .wrong delta => replaceLine s i a delta
    | _ => s

/-- One of the lines of a range that an engine reads is checked: which one is open (log entry 12). -/
def checkRange (s : State) (i : Instance) (a n : Nat) (check : LineCheck) : State :=
  if (errorsOf 72 check).isEmpty then s
  else
    let r := freeBelow s ((a + n + 63) / 64 - a / 64)
    checkLine r.2 i (64 * (a / 64 + r.1)) check

/-- The instance as the state holds it. -/
def instNow (s : State) (i : Instance) : Instance := (findInst s i.run i.num).getD i

/-! ### Plain instructions -/

/-- A class 0b00 instruction (R236). -/
def runAlu (s : State) (i : Instance) (op : AluOp) (a b : Reg) : KRes :=
  let r := alu op i.regs.fl (i.regs.get a) (i.regs.get b)
  let regs := { i.regs with fl := r.2 }
  .ends { s, regs := (match r.1 with
    | some w => regs.put a w
    | none => regs), cost := op.cycles }

/-- A class 0b01 instruction (R237). -/
def runImm (s : State) (i : Instance) (op : ImmOp) (exts : List Nat) (a : Reg) (imm : Nat) : KRes :=
  let r := immOp op i.regs.fl (i.regs.get a) (kiteImm exts imm)
  let regs := { i.regs with fl := r.2 }
  .ends { s, regs := (match r.1 with
    | some w => regs.put a w
    | none => regs), cost := 1 + exts.length }

/-- A branch (R238). -/
def runBranch (s : State) (i : Instance) (c : Cond) (off : Nat) : KRes :=
  if c.holds i.regs.fl then .ends { s, regs := i.regs, jump := some (branchTarget i.regs.pc off), cost := 2 }
  else .ends { s, regs := i.regs }

/-- Bytes a load or store moves. -/
def MemOp.size (op : MemOp) : Nat :=
  match op with
  | .ld => 4
  | .st => 4
  | _ => 1

/-- A load (R228, R239, R250). -/
def runLoad (s : State) (i : Instance) (op : MemOp) (a b : Reg) (check : LineCheck) : KRes :=
  let at_ := (i.regs.get b).toNat
  if at_ % op.size ≠ 0 ∨ (region s i at_ op.size).isNone then .faults s 5 i.regs.pc
  else
    let s := checkLine s i at_ check
    let i := instNow s i
    if poisonedAt s i at_ then .faults s 7 i.regs.pc
    else
      match region s i at_ op.size, dataTake s i at_ op.size with
      | some r, some (d, s) =>
        .ends { s, regs := i.regs.put a (word (unle d)), cost := if r.isShared then 3 else 2, waits := b2n r.isShared }
      | _, _ => .faults s 5 i.regs.pc

/-- A store: read, correct, merge and write; a line whose read finds it poisoned keeps its bytes (R23, R228, R239, R250). -/
def runStore (s : State) (i : Instance) (op : MemOp) (a b : Reg) (check : LineCheck) : KRes :=
  let at_ := (i.regs.get b).toNat
  let data := le op.size (i.regs.get a).toNat
  if at_ % op.size ≠ 0 ∨ (dataWrite s i at_ data).isNone then .faults s 5 i.regs.pc
  else
    let s := checkLine s i at_ check
    let i := instNow s i
    if poisonedAt s i at_ then .faults s 7 i.regs.pc
    else
      match region s i at_ op.size, dataWrite s i at_ data with
      | some r, some t => .ends { s := t, regs := i.regs, cost := if r.isShared then 2 else 1, waits := b2n r.isShared }
      | _, _ => .faults s 5 i.regs.pc

/-- Data-space address of the byte that lies so far past a lane's read position (Table 8.2). -/
def scanAddr (s : State) (i : Instance) (k : Nat) : Nat := 0x300000 - ringOf s i + (i.lane.offset + k) % ringOf s i

/-- One of the next bytes of the scan stream lies in a poisoned line. -/
def scanPoisoned (s : State) (i : Instance) (n : Nat) : Bool :=
  (List.range (min n i.lane.avail)).any (fun k => poisonedAt s i (scanAddr s i k))

/-- The line at a lane's read position is checked, where it has a byte to read. -/
def checkScan (s : State) (i : Instance) (check : LineCheck) : State :=
  if i.lane.avail = 0 then s else checkLine s i (scanAddr s i 0) check

/-- IN; a line of the ring that cannot be corrected counts where SCAN_DATA is read (R240, R249). -/
def runIn (s : State) (i : Instance) (core : Nat) (a b : Reg) (check : LineCheck) : KRes :=
  let port := i.regs.get b
  match portIn s i core port 4 with
  | .fault code => .faults s code i.regs.pc
  | .stall t => .stalls t
  | .done v t =>
    if port ≠ 0 then .ends { s := t, regs := i.regs.put a v, cost := 2 }
    else
      let s := checkScan s i check
      let i := instNow s i
      if scanPoisoned s i 4 then .faults s 7 i.regs.pc
      else
        match portIn s i core port 4 with
        | .done v t => .ends { s := t, regs := i.regs.put a v, cost := 2 }
        | .stall t => .stalls t
        | .fault code => .faults s code i.regs.pc

/-- OUT (R240). -/
def runOut (s : State) (i : Instance) (a b : Reg) : KRes :=
  match portOut s i (i.regs.get b) (i.regs.get a) with
  | .done _ t => .ends { s := t, regs := i.regs, cost := 2 }
  | .stall t => .stalls t
  | .fault code => .faults s code i.regs.pc

/-- MOVSR that writes a special register: fl and ev may be written (R230, Table 9.3). -/
def movsrWrite (s : State) (r : Regs) (w : Word) (number : Nat) : KRes :=
  match number with
  | 1 => .ends { s, regs := { r with fl := flagsOf w.toNat } }
  | 4 => .ends { s, regs := { r with ev := w.toNat % 512 } }
  | _ => .faults s 1 r.pc

/-- MOVSR that reads a special register; number 7 is none (R230, R231, Table 9.3). -/
def movsrRead (s : State) (r : Regs) (a : Reg) (number : Nat) : KRes :=
  match number with
  | 0 => .ends { s, regs := r.put a (word ((r.pc + 1) % 16384)) }
  | 1 => .ends { s, regs := r.put a (word r.fl.word) }
  | 2 => .ends { s, regs := r.put a (word r.bs) }
  | 3 => .ends { s, regs := r.put a (word (r.be + b2n r.active * 2 ^ 31)) }
  | 4 => .ends { s, regs := r.put a (word r.ev) }
  | 5 => .ends { s, regs := { r.put a (word r.cycles) with cyHold := r.cycles / 2 ^ 32 } }
  | 6 => .ends { s, regs := r.put a (word r.cyHold) }
  | _ => .faults s 1 r.pc

/-- MOVSR (R230, R231). -/
def runMovsr (s : State) (i : Instance) (a : Reg) (toSpecial : Bool) (number : Nat) : KRes :=
  if toSpecial then movsrWrite s i.regs (i.regs.get a) number else movsrRead s i.regs a number

/-- A line of program memory is read and checked: a detected line is marked poisoned (R21, R22). -/
def checkCode (s : State) (i : Instance) (core pc : Nat) (check : LineCheck) : State :=
  if codePoisoned s core pc then s
  else
    let v := onChip check
    let s := lineFault s i v
    if v = .uncorrectable then modCore s core (fun c => { c with poison := linsert c.poison (pc / 32) }) else s

/-- LDPW: a word of program memory as the decoder delivers it (R22, R239). -/
def runLdpw (s : State) (i : Instance) (core : Nat) (a b : Reg) (check : LineCheck) : KRes :=
  let at_ := (i.regs.get b).toNat
  if 16383 < at_ then .faults s 5 i.regs.pc
  else
    let s := checkCode s i core at_ check
    if codePoisoned s core at_ then .faults s 7 i.regs.pc
    else
      let v := match onChip check with
        | .wrong delta => codeWord s core at_ ^^^ num delta (2 * (at_ % 32)) 2
        | _ => codeWord s core at_
      .ends { s, regs := i.regs.put a (word (v % 16384)), cost := 2 }

/-- BRPT (R247, R250). -/
def runBrpt (s : State) (i : Instance) (n : Nat) : KRes :=
  let r := i.regs
  if 16383 < r.pc + n then .faults s 1 r.pc
  else if r.active then .faults s 4 r.pc
  else
    let r := { r with bs := r.pc + 1, be := r.pc + n }
    if r.get rRc = 0 then .ends { s, regs := r, jump := some ((r.be + 1) % 16384) }
    else .ends { s, regs := { r with active := true }, jump := some r.bs }

/-! ### String elements (R242, R243) -/

/-- What became of one element. -/
inductive ElemRes where
  /-- committed and advanced -/
  | done (s : State) (regs : Regs)
  /-- its test stopped it: x and y -/
  | stopped (x y : Word)
  | stall (s : State)
  | fault (s : State) (code : Nat)

/-- One element of `e` bytes: its checks in the order of R250, then its effect (R242). Lines in poison mark are met as they are read. -/
def strElem (s : State) (i : Instance) (core : Nat) (regs : Regs) (op : StrOp) (e : Nat) (r : Reg) : ElemRes :=
  let src := (regs.get rAs).toNat
  let dst := (regs.get rAd).toNat
  let next := fun (x : Regs) (p : Reg) => x.put p (x.get p + word e)
  let fault := fun (code : Nat) => ElemRes.fault s code
  let badSrc := poisonedAt s i src
  let badDst := poisonedAt s i dst
  let from_ := if src % e = 0 then dataRead s i src e else none
  let s := { s with free := s.free + e }
  let store := fun (s : State) (d : List Byte) (x : Regs) (bad : Bool) =>
    match (if dst % e = 0 then dataWrite s i dst d else none) with
    | none => fault 5
    | some t => if bad || badDst then fault 7 else ElemRes.done t x
  match op with
  | .copy =>
    match from_ with
    | none => fault 5
    | some d => store s d (next (next regs rAs) rAd) badSrc
  | .matchOp =>
    match from_, (if dst % e = 0 then dataTake s i dst e else none) with
    | some x, some (y, s) =>
      if badSrc || badDst then fault 7
      else if x = y then .done s (next (next (regs.put r (regs.get r + 1)) rAs) rAd)
      else .stopped (word (unle x)) (word (unle y))
    | _, _ => fault 5
  | .seek =>
    match from_ with
    | none => fault 5
    | some x =>
      if badSrc then fault 7
      else if unle x = (regs.get r).toNat % 256 ^ e then .stopped (word (unle x)) (word (unle x))
      else .done s (next regs rAs)
  | .pull =>
    if 4096 ≤ (regs.get r).toNat ∨ !permitted s i (regs.get r).toNat then fault 6
    else if dst % e ≠ 0 ∨ (dataWrite s i dst (zeros e)).isNone then
      (match portIn s i core (regs.get r) e with
        | .fault code => fault code
        | _ => fault 5)
    else
      match portIn s i core (regs.get r) e with
      | .fault code => fault code
      | .stall t => .stall t
      | .done v t => store t (le e v.toNat) (next regs rAd) ((regs.get r).toNat == 0 && scanPoisoned s i e)
  | .push =>
    match portOut s i (regs.get r) (match from_ with
      | some d => word (unle d)
      | none => 0) with
    | .fault code => fault code
    | res =>
      if from_.isNone then fault 5
      else if badSrc then fault 7
      else
        match res with
        | .stall t => .stall t
        | .done _ t => .done t (next regs rAs)
        | .fault code => fault code
  | .fill => store s (le e (regs.get r).toNat) (next regs rAd) false

/-- The line that an operation's first element reads is checked: its source, the ring's line for PULL from SCAN_DATA, or the line that
a partial write merges into. An element that faults or stalls before reads none (R22, R23, R250). -/
def checkElem (s : State) (i : Instance) (core : Nat) (op : StrOp) (e : Nat) (r : Reg) (check : LineCheck) : State :=
  match strElem s i core i.regs op e r with
  | .fault _ _ => s
  | .stall _ => s
  | _ =>
    match op with
    | .fill => checkLine s i (i.regs.get rAd).toNat check
    | .pull => if i.regs.get r = 0 then checkScan s i check else checkLine s i (i.regs.get rAd).toNat check
    | _ => checkLine s i (i.regs.get rAs).toNat check

/-- Elements done, with how the loop ended. -/
structure RepEnd where
  s : State
  regs : Regs
  /-- elements run, a stopped one with them -/
  ran : Nat
  stopped : Option (Word × Word)
  /-- a stall or an exception broke the loop -/
  broken : Option (Option Nat)

/-- The loop of R244, for at most `n` elements. An element's ports and memory act on the state before the next. -/
def repLoop (s : State) (run k core : Nat) (regs : Regs) (op : StrOp) (e : Nat) (r : Reg) (n ran : Nat) : RepEnd :=
  match n with
  | 0 => { s, regs, ran, stopped := none, broken := none }
  | n + 1 =>
    if regs.get rRc = 0 then { s, regs, ran, stopped := none, broken := none }
    else
      match findInst s run k with
      | none => { s, regs, ran, stopped := none, broken := none }
      | some i =>
        match strElem s i core regs op e r with
        | .done t x => repLoop t run k core (x.put rRc (x.get rRc - 1)) op e r n (ran + 1)
        | .stopped x y => { s, regs, ran := ran + 1, stopped := some (x, y), broken := none }
        | .stall t => { s := t, regs, ran, stopped := none, broken := some none }
        | .fault t code => { s := t, regs, ran, stopped := none, broken := some (some code) }

/-- 64-byte lines of shared memory that `n` bytes from an address reach (R246). -/
def sharedLines (s : State) (i : Instance) (a n : Nat) : Nat :=
  if n = 0 then 0
  else
    match region s i a 1 with
    | some r => if r.isShared then (a + n - 1) / 64 - a / 64 + 1 else 0
    | none => 0

/-- An operation reads at as. -/
def StrOp.readsAs (op : StrOp) : Bool := op == .copy || op == .matchOp || op == .seek || op == .push

/-- An operation reads or writes at ad. -/
def StrOp.usesAd (op : StrOp) : Bool := op == .copy || op == .matchOp || op == .pull || op == .fill

/-- PULL from a port other than SCAN_DATA, and PUSH, are costed per element (R246). -/
def perElement (op : StrOp) (port : Word) : Bool := op == .push || (op == .pull && port != 0)

/-- Shared lines that the elements run reach (R246). -/
def repLines (s : State) (i : Instance) (op : StrOp) (e ran : Nat) : Nat :=
  (if op.readsAs then sharedLines s i (i.regs.get rAs).toNat (e * ran) else 0) +
    (if op.usesAd then sharedLines s i (i.regs.get rAd).toNat (e * ran) else 0)

/-- Cycles of a REP string operation; one that goes on after a stall has started already (R244, R246, Table 9.16; with per-element costs
the lines still count: DEDUCED, log entry 28). -/
def repCost (s : State) (i : Instance) (core : Nat) (op : StrOp) (e : Nat) (r : Reg) (ran : Nat) : Nat :=
  (if (coreAt s core).state = 4 then 0 else 2) + (if perElement op (i.regs.get r) then 2 * ran else (e * ran + 15) / 16) +
    repLines s i op e ran

/-- Elements after which a preemption point requested after `most` of them falls: between groups of 16 bytes (R246). -/
def repGroups (e most : Nat) : Nat := (most + 16 / e - 1) / (16 / e) * (16 / e)

/-- Cycles pass while the pc stays at a REP whose loop was broken (R244, R251). -/
def repBreak (s : State) (i : Instance) (regs : Regs) (cost waits : Nat) : State :=
  let t := cyclesOf s waits false cost
  modInst t.2 i.run i.num (fun x => { x with regs := { regs with cycles := (regs.cycles + t.1) % 2 ^ 64 } })

/-- The operand register is one that REP excludes (R245). -/
def repConflict (op : StrOp) (r : Reg) : Bool := op != .copy && (r == rAs || r == rAd || r == rRc)

/-- How a repetition that has run ends: complete, suspended (a preemption point or a stalled port) or faulted (R244, R246). -/
def repEnd (i : Instance) (core : Nat) (op : StrOp) (more : Bool) (cost waits : Nat) (x : RepEnd) : KRes ⊕ State :=
  match x.broken with
  | some none => .inr (modCore (repBreak x.s i x.regs cost waits) core (fun c => { c with state := 4 }))
  | some (some code) => .inl (.faults (repBreak x.s i x.regs cost waits) code i.regs.pc)
  | none =>
    if x.stopped.isNone ∧ more then .inr (repBreak x.s i x.regs cost waits)
    else .inl (.ends { s := x.s, regs := { x.regs with fl := strFlags x.regs.fl op x.stopped }, cost, waits })

/-- REP with the STR after it (R244 to R246). `most` elements are done, and their group of 16 bytes with them, before a preemption point
is taken. -/
def runRep (s : State) (i : Instance) (core most : Nat) (check : LineCheck) : KRes ⊕ State :=
  let r := i.regs
  let at_ := (r.pc + 1) % 16384
  let w := codeWord s core at_
  if codePoisoned s core at_ then .inl (.faults s 7 r.pc)
  else if w / 256 ≠ 0x3B ∨ (r.active ∧ r.pc = r.be) then .inl (.faults s 2 r.pc)
  else
    match decodeWord w with
    | some (.str wide op reg) =>
      if repConflict op reg then .inl (.faults s 3 r.pc)
      else
        let e := if wide then 4 else 1
        let all := (r.get rRc).toNat
        let most := repGroups e most
        let s := if min all most = 0 then s else checkElem s i core op e reg check
        let x := repLoop s i.run i.num core r op e reg (min all most) 0
        let cost := repCost s i core op e reg x.ran
        let waits := repLines s i op e x.ran
        repEnd i core op (most < all) cost waits x
    | _ => .inl (.faults s 1 at_)

/-- A STR reached without REP: one element (R242, R244, R246). -/
def runStr (s : State) (i : Instance) (core : Nat) (wide : Bool) (op : StrOp) (r : Reg) (check : LineCheck) : KRes :=
  let e := if wide then 4 else 1
  let lines := repLines s i op e 1
  let cost := (if op = .seek ∨ op = .fill then 1 else 2) + (if lines = 0 then 0 else 1)
  let s := checkElem s i core op e r check
  let i := instNow s i
  match strElem s i core i.regs op e r with
  | .done t x => .ends { s := t, regs := { x with fl := strFlags x.fl op none }, cost, waits := lines }
  | .stopped x y =>
    .ends { s, regs := { i.regs with fl := strFlags i.regs.fl op (some (x, y)) }, cost, waits := lines }
  | .stall t => .stalls t
  | .fault t code => .faults t code i.regs.pc

end Sys2Proof.Machine
end

