-- ==== Sys2Proof/Machine/Volumes.lean ====
section
/-! DEFINITION. The Volume group (R103, R125, R126, R149, R179) and the walk of a format. -/

namespace Sys2Proof.Machine

open Sys2Proof

/-! ### The directory's runs (R125, R126) -/

/-- Directory entries `b` to `b + n - 1` are no volume's. -/
def runFree (s : State) (b n : Nat) : Bool :=
  s.med.volumes.all (fun v => decide (b + n ≤ v.2.dirBase) || decide (v.2.dirBase + stretches v.2.capacity ≤ b))

/-- The lowest contiguous free run of `n` directory entries, if there is one (R125). -/
def freeRun (s : State) (n : Nat) : Option Nat :=
  let starts := 0 :: s.med.volumes.map (fun v => v.2.dirBase + stretches v.2.capacity)
  (rankSort id starts).find? (fun b => runFree s b n && decide (b + n ≤ directoryLimit s))

/-- The volumes' runs moved together from entry 0 on: each volume's new first entry (R126). -/
def packed (at_ : Nat) (l : List (Nat × Volume)) : List (Nat × Nat) :=
  match l with
  | [] => []
  | v :: rest => (v.1, at_) :: packed (at_ + stretches v.2.capacity) rest

/-- Compact the directory: every run that moves is placed anew with a DIR_BASE record (R126). -/
def compactDir (s : State) : State :=
  (packed 0 (rankSort (fun v => v.2.dirBase) s.med.volumes)).foldl (fun s m =>
    if (mget s.med.volumes m.1).map (fun v => v.dirBase) = some m.2 then s
    else journal (volMod s m.1 (fun v => { v with dirBase := m.2 })) [.dirBase m.1 m.2]) s

/-- The first directory entry of a new volume, after a compaction where one is needed. -/
def placeRun (s : State) (n : Nat) : Nat × State :=
  match freeRun s n with
  | some b => (b, s)
  | none =>
    let s := compactDir s
    ((s.med.volumes.map (fun v => stretches v.2.capacity)).sum, s)

/-! ### Volumes -/

/-- VOLUME_CREATE's PARAM0 bits of a volume (Table 6.2). -/
def Volume.attrs (v : Volume) : Nat := b2n v.comp + 2 * b2n v.cold + 4 * b2n v.imported

/-- Put a volume into the map and the key log, with its records (R125, R153, R325). -/
def addVolume (s : State) (vol capacity attrs keyId : Nat) (foster : Bool) : State :=
  let r := placeRun s (stretches capacity)
  let v : Volume := { capacity, comp := bit attrs 0, cold := bit attrs 1, imported := bit attrs 2, keyId, gen := r.2.med.nextGen, foster,
                      dirBase := r.1, dir := [], formatting := false }
  let s := upMed r.2 (fun m => { m with volumes := mset m.volumes vol v, nextGen := m.nextGen + 1 })
  journal s [.volSet vol capacity attrs false, .dirBase vol r.1]

/-- A key-log record in force replaces one of the same volume and kind (R325). -/
def putKey (s : State) (k : KeyRec) : State :=
  upSec s (fun e => { e with
    keyLog := e.keyLog.filter (fun x => !(x.vol == k.vol && x.kind == k.kind)) ++ [k], keyCache := e.keyCache.filter (· != k.vol) })

/-- The keys of a volume in force are destroyed (R149, R325). -/
def dropKey (s : State) (vol : Nat) : State :=
  upSec s (fun e => { e with
    keyLog := e.keyLog.filter (fun x => !(x.vol == vol && x.kind != 2)), keyCache := e.keyCache.filter (· != vol) })

/-- Staged blocks of a volume go, and their mirror entries with them. -/
def unstageVolume (s : State) (vol : Nat) : State :=
  releaseMirror (upMed s (fun m => { m with staging := m.staging.filter (fun x => x.vol != vol) }))

/-- Remove a volume: its key, its staged blocks and its map, with the record of the deletion (R149). -/
def removeVolume (s : State) (vol : Nat) : State :=
  match mget s.med.volumes vol with
  | none => s
  | some v =>
    let s := unmapVolume (unstageVolume (dropKey s vol) vol) vol
    let s := upMed s (fun m => { m with volumes := mdel m.volumes vol, leafFetch := m.leafFetch.filter (fun x => x.1 != vol) })
    journalDrain s [.volSet vol v.capacity v.attrs true] (s.med.bands.map (·.1))

/-- The volume that passed check 5 is still the one of that number (R94). -/
def sameVolume (s : State) (o : Op) : Bool :=
  match volAt s o.pkt.vol with
  | some v => o.volGen == some v.gen
  | none => false

/-- VOLUME_CREATE: the volume takes its key, a run of directory entries and its records; beside a partner it completes once the
KEY_TRANSFER is confirmed, and fails where the partner's came first (R103, R126, R325, R326, R342, R365). -/
def execVolumeCreate (tag : Nat) (s : State) : Out :=
  match opFor s tag 0x0301 with
  | none => .next s
  | some o =>
    let p := o.pkt
    if o.stage = .running then
      let s := noteKeySent s o
      if partnerHas s p.vol then .next (finish (keyWaitOver (removeVolume s p.vol) tag) tag { status := stQueueLimit, detail := 3 })
      else if keyConfirmed s o then .next (finish (keyWaitOver s tag) tag (ok 0 0))
      else .next s
    else if readOnly s then .next (finish s tag { status := stReadOnly })
    else
      match checkObjects s p with
      | some r => .next (finish s tag r)
      | none =>
        if !jRoom s 8 then .next (jStall s)
        else
          let tells := partnered s
          let k := match pendingKey s p.vol with
            | some x => if bit p.p0 2 then (x.keyId, upSec s (fun e => { e with keyLog := e.keyLog.filter (· != x) })) else freshKey s
            | none => freshKey s
          let s := putKey k.2 { vol := p.vol, keyId := k.1, kind := 0, capacity := p.addr, attrs := p.p0 }
          let s := addVolume s p.vol p.addr p.p0 k.1 false
          if tells then .next (awaitKey (sendKey s p.vol true p.addr p.p0 k.1) tag p.vol)
          else .next (finish s tag (ok 0 0))

/-- VOLUME_DELETE under its exclusive lock (R76, R149, R342). -/
def execVolumeDelete (tag : Nat) (s : State) : Out :=
  match opFor s tag 0x0302 with
  | none => .next s
  | some o =>
    let p := o.pkt
    if o.stage = .running then
      let s := noteKeySent s o
      if keyConfirmed s o then .next (finish (keyWaitOver s tag) tag (ok 0 0)) else .next s
    else if !sameVolume s o then .next (finish s tag (bad 0x0C))
    else if !jRoom s 8 then .next (jStall s)
    else
      let tells := partnered s && !isFoster s p.vol
      let s := removeVolume s p.vol
      if tells then .next (awaitKey (sendKey s p.vol false 0 0 0) tag p.vol)
      else .next (finish s tag (ok 0 0))

/-- VOLUME_QUERY (R103, R174, R179). -/
def execVolumeQuery (tag : Nat) (s : State) : Out :=
  match opFor s tag 0x0303 with
  | none => .next s
  | some o =>
    match volAt s o.pkt.vol with
    | none => .next (finish s tag (bad 0x0C))
    | some v =>
      .next (finish s tag (ok v.capacity
        (b2n v.comp + 2 * b2n v.cold + 4 * b2n v.foster + 8 * b2n (readOnly s) + 16 * b2n v.formatting)))

/-! ### Format (R179, R180) -/

/-- The valid units that a stretch of the map names: (band, segment, units). -/
def stretchUnits (s : State) (v st : Nat) : List (Nat × Nat × Nat) :=
  let forms := fun (l : SMap MapEntry) => l.filterMap (fun e => e.2.form.place.map (fun x => (paBand x.1, paSeg x.1, x.2)))
  match dirAt s v st with
  | .unmapped => []
  | .extent pa _ => [(paBand pa, paSeg pa, 4096), (paBand pa, paSeg (pa + 4096), 4096)]
  | .leaf onFlash =>
    (match onFlash with
      | some pa => [(paBand pa, paSeg pa, 16)]
      | none => []) ++
    (match pageAt s v st, onFlash with
      | some p, _ => forms p.entries
      | none, some pa => forms (leafOnFlash s pa)
      | none, none => [])

/-- Records enter the journal one by one, lines going out to PJM while the buffer is full (R154). -/
def journalMany (s : State) (l : List Record) : State :=
  l.foldl (fun s r => journal (if s.med.jbuf.length < 4096 then s else flushLine s) [r]) s

/-- Set every directory entry of a volume to UNMAPPED and leave the bands' counts to the walk (R179). -/
def unmapFormat (s : State) (v : Nat) : State :=
  match mget s.med.volumes v with
  | none => s
  | some x =>
    let s := upMed s (fun m => { m with leafCache := m.leafCache.filter (fun p => p.vol != v) })
    let s := upPair s (fun p => { p with partnerDir := p.partnerDir.filter (fun e => e.1 != v) })
    let s := volMod s v (fun y => { y with dir := [], formatting := true })
    journalMany s (x.dir.map (fun d => Record.dirSet v d.1 .unmapped))

/-- FORMAT under its exclusive lock (R76, R179, R342). -/
def execFormat (tag : Nat) (s : State) : Out :=
  match opFor s tag 0x0304 with
  | none => .next s
  | some o =>
    let p := o.pkt
    if o.stage = .running then
      let s := noteKeySent s o
      if keyConfirmed s o then .next (finish (keyWaitOver s tag) tag (ok 0 0)) else .next s
    else if readOnly s then .next (finish s tag { status := stReadOnly })
    else if !sameVolume s o then .next (finish s tag (bad 0x0C))
    else if !jRoom s 1 then .next (jStall s)
    else
      match mget s.med.volumes p.vol with
      | none => .next s
      | some v =>
        let replace := bit p.p0 0
        let tells := replace && partnered s && !v.foster
        let k := if replace then freshKey s else (v.keyId, s)
        let s := if replace then
            volMod (putKey k.2 { vol := p.vol, keyId := k.1, kind := if v.foster then 1 else 0, capacity := v.capacity, attrs := v.attrs })
              p.vol (fun x => { x with keyId := k.1 })
          else s
        let s := unstageVolume s p.vol
        let old := v.dir.flatMap (fun d => stretchUnits s p.vol d.1)
        let s := unmapFormat s p.vol
        let w : FormatWait := { vol := p.vol, mode := p.p0 % 2, mark := s.med.wseq, old }
        let s := upMed s (fun m => { m with formats := m.formats ++ [w] })
        if tells then
          .next (awaitKey (sendKey s p.vol true v.capacity v.attrs k.1) tag p.vol)
        else .next (finish s tag (ok 0 0))

/-- Bands a walk reads: OPEN or CLOSED when it starts (R179). -/
def walkBands (s : State) : List Nat :=
  (s.med.bands.filter (fun b => b.2.state == .opened || b.2.state == .closed)).map (·.1)

/-- The units of a band whose codewords name the volume with a WSEQ below the mark are counted invalid (R179). They are those the map has not
named since the format's acceptance: the band's counts become what the map names in it, with what formats still waiting for their walk hold. -/
def walkBand (s : State) (b : Nat) : State :=
  let named := ((mget (recount s).med.bands b).map (fun x => x.segValid)).getD []
  let waiting := s.med.formats.flatMap (fun f => f.old.filter (fun u => u.1 == b))
  let s := bandMod s b (fun x => { x with segValid := waiting.foldl (fun m u => mnum m u.2.1 (mgetD m u.2.1 0 + u.2.2)) named })
  journalDrain s [] [b]

/-- A format ends: its progress record stays with STATE 4, the volume's bit falls unless another format of it waits, and its event is
posted (R180). -/
def endFormat (s : State) : State :=
  let p := s.med.progress
  let s := upMed s (fun m => { m with progress := { p with state := 4, units := [] } })
  let s := volMod s p.vol (fun v => { v with formatting := s.med.formats.any (fun f => f.vol == p.vol) })
  postEvent s evSanitiseDone 1 p.vol (b2n p.failed)

/-- FORMAT_WALK: the next format in acceptance order starts its walk, or the walk that runs takes one more band (R177 to R180). -/
def execFormatWalk (s : State) : Out :=
  if !s.glb.ready then .next s
  else
    let p := s.med.progress
    if p.state = 2 then
      match p.units[p.done]? with
      | none => .next (endFormat s)
      | some b =>
        let s := upMed (walkBand s b) (fun m => { m with progress := { p with done := p.done + 1 } })
        .next (if p.done + 1 = p.total then endFormat s else s)
    else if p.state = 1 then .next s
    else
      match s.med.formats with
      | [] => .next s
      | f :: rest =>
        let units := walkBands s
        let s := upMed s (fun m => { m with
          formats := rest,
          progress := { state := 2, mode := f.mode, keyStep := f.mode == 1, failed := false, pattern := 0, vol := f.vol,
                        total := units.length, done := 0, wseqMark := f.mark, units } })
        .next (if units.isEmpty then endFormat s else s)

/-! ### The key cache (R324) -/

/-- Volumes some operation of which is in flight: their keys are pinned (R324). -/
def keyPinned (s : State) (v : Nat) : Bool :=
  s.tsk.ops.any (fun o => (o.stage == .ready || o.stage == .running) && o.pkt.vol == v && (o.pkt.group == 4 || o.pkt.opc == 0x0603))

/-- The cache with room for one more key: the least recently used entry that is not pinned goes (R324). -/
def keyRoom (s : State) : Option (List Nat) :=
  if s.sec.keyCache.length < 1024 then some s.sec.keyCache
  else
    match s.sec.keyCache.reverse.find? (fun v => !keyPinned s v) with
    | some v => some (s.sec.keyCache.filter (· != v))
    | none => none

/-- KEY_UNWRAP: a lookup that missed gets the volume's key from the key log (R324, R325). In the error state the module gives no
key (R332). -/
def execKeyUnwrap (vol : Nat) (s : State) : Out :=
  if (mget s.med.volumes vol).isNone || s.sec.keyCache.contains vol || s.sec.errorState || inReset s islCrypt then .next s
  else
    match keyRoom s with
    | none => .next s
    | some l => .next (upSec s (fun e => { e with keyCache := vol :: l, keyMisses := wrapInc e.keyMisses }))

end Sys2Proof.Machine
end

