-- ==== Sys2Proof/Machine/Data.lean ====
section
/-! DEFINITION. The Data group (R24, R76, R80, R104, R131, R137, R343) and inline inflation (R305). -/

namespace Sys2Proof.Machine

open Sys2Proof

/-- New commands to foster volumes wait while the last pass of a hand-back runs (R362). -/
def fosterWaits (s : State) (v : Nat) : Bool :=
  isFoster s v && (match s.pair.handback with
    | some h => h.last
    | none => false)

/-! ### Reading (R80, R137, R305) -/

/-- One block of a command: its pinned data, or what the map gives, inflated once a pipe has inflated it. -/
def opBlock (s : State) (o : Op) (m : MediaIn) (lba : Nat) : Got × State :=
  match o.pins.find? (fun p => p.lba == lba) with
  | some p => (.data p.data false, s)
  | none =>
    let r := getBlock s m o.pkt.vol lba (o.inflateBad.contains lba)
    match r.1 with
    | .packed b =>
      if o.inflated.contains lba then
        match inflateBlock b with
        | some d => (.data d false, r.2)
        | none => (.failed, r.2)
      else (.wait, r.2)
    | g => (g, r.2)

/-- Every block of a command in LBA order. -/
def opBlocks (s : State) (o : Op) (m : MediaIn) (lbas : List Nat) : List (Nat × Got) × State :=
  match lbas with
  | [] => ([], s)
  | l :: rest =>
    let r := opBlock s o m l
    let t := opBlocks r.2 o m rest
    ((l, r.1) :: t.1, t.2)

/-- What one block of a read hands over: its bytes, or free bytes where it could not be read. -/
def gotBlock (s : State) (g : Got) : List Byte × State :=
  match g with
  | .data b _ => (b, s)
  | .packed _ => freeBlock s
  | .failed => freeBlock s
  | .wait => freeBlock s

/-- The bytes of the blocks read; a failed block's are undefined (Table 4.18). -/
def gotBytes (s : State) (l : List (Nat × Got)) : List Byte × State :=
  match l with
  | [] => ([], s)
  | x :: rest =>
    let f := gotBlock s x.2
    let r := gotBytes f.2 rest
    (f.1 ++ r.1, r.2)

/-- LBAs of blocks that could not be read. -/
def failedLbas (l : List (Nat × Got)) : List Nat := (l.filter (fun x => x.2 == .failed)).map (·.1)

/-- Blocks reconstructed, or served by a foster volume: all of them (R358). -/
def peerCount (s : State) (v : Nat) (l : List (Nat × Got)) : Nat :=
  if isFoster s v then l.length
  else (l.filter (fun x => match x.2 with
    | .data _ p => p
    | _ => false)).length

/-- The reply of a read (R109, R358): UNRECOVERED, RECOVERED_BY_PEER or SUCCESS. -/
def readReply (s : State) (v : Nat) (l : List (Nat × Got)) : Reply :=
  let f := failedLbas l
  let n := peerCount s v l
  match f with
  | x :: _ => { status := stUnrecovered, r0 := x, r1 := f.length }
  | [] => if n = 0 then ok 0 0 else { status := stRecovered, r1 := n }

/-- The blocks of a read command once every one is at hand; none, with what has been set going, while one is on its way. -/
def readAll (s : State) (o : Op) (m : MediaIn) : Option (List (Nat × Got)) × State :=
  let r := opBlocks s o m (span o.pkt.addr o.pkt.blocks)
  if r.1.any (fun x => x.2 == .wait) then (none, r.2) else (some r.1, r.2)

/-- What reading the command's blocks leaves behind. -/
def readMarks (s : State) (o : Op) (m : MediaIn) : State :=
  (span o.pkt.addr o.pkt.blocks).foldl (fun s lba =>
    if o.pins.any (fun p => p.lba == lba) then s else readEffects s m o.pkt.vol lba) s

/-- READ (R104, R137). -/
def execRead (tag : Nat) (media : MediaIn) (s : State) : Out :=
  match opFor s tag 0x0401 with
  | none => .next s
  | some o =>
    if !o.covered && !sameVolume s o then .next (failEarly s tag (bad 0x0C))
    else if fosterWaits s o.pkt.vol || !ioUp s then .next s
    else
      match readAll s o media with
      | (none, t) => .next t
      | (some l, t) =>
        let r := readReply t o.pkt.vol l
        let b := gotBytes (readMarks t o media) l
        .next (finish (deliver b.2 o 0 b.1) tag r)

/-- READ_TO_ARENA: the granules it touches are in device bias while it writes (R43, R104). -/
def execReadToArena (tag : Nat) (media : MediaIn) (s : State) : Out :=
  match opFor s tag 0x0407 with
  | none => .next s
  | some o =>
    if !o.covered && !sameVolume s o then .next (failEarly s tag (bad 0x0C))
    else if fosterWaits s o.pkt.vol then .next s
    else
      match readAll s o media with
      | (none, t) => .next t
      | (some l, t) =>
        let r := readReply t o.pkt.vol l
        let b := gotBytes (readMarks t o media) l
        let s := flipToDevice b.2 o o.pkt.dptr o.pkt.dlen
        .next (finish (arenaWrite s o.pkt.dptr b.1) tag r)

/-- The offset of the first byte in which two byte strings differ. -/
def firstDiff (at_ : Nat) (a b : List Byte) : Option Nat :=
  match a, b with
  | x :: xs, y :: ys => if x = y then firstDiff (at_ + 1) xs ys else some at_
  | _, _ => none

/-- COMPARE (R104, Table 4.12). -/
def execCompare (tag : Nat) (host : HostRead) (media : MediaIn) (s : State) : Out :=
  match opFor s tag 0x0405 with
  | none => .next s
  | some o =>
    if !o.covered && !sameVolume s o then .next (failEarly s tag (bad 0x0C))
    else if fosterWaits s o.pkt.vol then .next s
    else
      match input s o host o.pkt.dlen with
      | none => .next s
      | some .error => .next (finish (abandon s o) tag (bad 0x18))
      | some (.data given) =>
        match readAll s o media with
        | (none, t) => .next t
        | (some l, t) =>
          let t := readMarks t o media
          if !(failedLbas l).isEmpty then .next (finish t tag (readReply t o.pkt.vol l))
          else
            match firstDiff 0 given (gotBytes t l).1 with
            | some n => .next (finish t tag (ok n 1))
            | none => .next (finish t tag (ok 0xFFFFFFFFFFFFFFFF 0))

/-- INLINE_INFLATE: a compressed block that a command reads takes a decompression pipe of the inline class; once it has one, its
stored form is inflated, or fails and is recovered as an unreadable block (R294, R305). -/
def execInlineInflate (tag lba : Nat) (media : MediaIn) (s : State) : Out :=
  match findOp s tag with
  | none => .next s
  | some o =>
    let live := isRead o.pkt.opc && (o.stage == .ready || o.stage == .running) && decide (o.pkt.addr ≤ lba) &&
      decide (lba < o.pkt.addr + o.pkt.blocks) && !o.inflated.contains lba && !o.inflateBad.contains lba
    if !live then .next s
    else
      match (getBlock s media o.pkt.vol lba false).1 with
      | .packed b =>
        let r : PipeReq := { cls := .inlineC, tag, num := lba, decomp := true }
        if !onPipe s r then .next (askPipe s r)
        else
          let s := leavePipe s r
          match inflateBlock b with
          | some d =>
            .next (modOp (upCmp s (fun c => { c with decBytes := (c.decBytes + d.length) % 2 ^ 64 })) tag
              (fun x => { x with inflated := x.inflated ++ [lba] }))
          | none =>
            let s := raise (upCmp s (fun c => { c with inflateFail := satInc c.inflateFail })) (unit islCmp 3)
            .next (modOp s tag (fun x => { x with inflateBad := x.inflateBad ++ [lba] }))
      | _ => .next s

/-! ### Writing (R24, R80, R97, R132, R343, R503) -/

/-- A write's staged blocks become the newest versions: earlier versions of the same blocks are superseded and never placed (R132). -/
def settleStaged (s : State) (o : Op) : State :=
  let mine := (s.med.staging.filter (fun x => x.seq == o.seq)).map (fun x => (x.vol, x.lba))
  let s := upPair s (fun p => { p with entriesOut := p.entriesOut.map (fun e => if e.tag = some o.tag then { e with tag := none } else e) })
  releaseMirror (upMed s (fun m => { m with staging :=
    (m.staging.filter (fun x => x.seq == o.seq || !(x.done && mine.contains (x.vol, x.lba)))).map (fun x =>
      if x.seq = o.seq then { x with done := true } else x) }))

/-- Blocks with their data. -/
def cutBlocks (lba : Nat) (b : List Byte) (n : Nat) : List (Nat × List Byte) :=
  match n with
  | 0 => []
  | n + 1 => (lba, fit 4096 b) :: cutBlocks (lba + 1) (b.drop 4096) n

/-- The data of a write lands in staging, and takes of the space GC has freed (R24, R143). -/
def landWrite (s : State) (o : Op) (mirrored : Bool) (data : List Byte) : State :=
  let mirror := if mirrored then some s.pair.mseq else none
  upMed s (fun m => { m with gcCredit := m.gcCredit - o.pkt.blocks, staging := m.staging ++ (cutBlocks o.pkt.addr data o.pkt.blocks).map (fun x =>
    { vol := o.pkt.vol, lba := x.1, data := x.2, seq := o.seq, done := false, comp := none, lost := false, mirror }) })

/-- A write that must wait for room: the wait for partner mirror space is counted once (R343, R503). -/
def waitForRoom (s : State) (o : Op) : State :=
  if o.waitStaging then s
  else
    let n := stagedBlocks o.pkt + reserved s
    let s := if mirroring s && decide (131072 < mirrorUsed s + n) then
        upPair s (fun p => { p with mirrorWaits := wrapInc p.mirrorWaits }) else s
    modOp s o.tag (fun x => { x with waitStaging := true })

/-- The write is admitted now, or has been by STAGING_ADMIT (R503). -/
def admitted (s : State) (o : Op) : Bool := o.aux == 1 || (!o.waitStaging && hasRoom s o.pkt && !earlierWrites s o.seq)

/-- A write that ends without SUCCESS changes no block (R97, R111). -/
def dropWrite (s : State) (o : Op) (r : Reply) : State := releaseMirror (finish (abandon s o) o.tag r)

/-- WRITE: its data is fetched into staging and sent to the partner; it completes once the local staging and the partner's
are confirmed (R24, R83, R343). A device that has become READ_ONLY ends it (Table 4.20). -/
def execWrite (tag : Nat) (host : HostRead) (s : State) : Out :=
  match opFor s tag 0x0402 with
  | none => .next s
  | some o =>
    if readOnly s then .next (dropWrite s o { status := stReadOnly })
    else if !sameVolume s o then .next (dropWrite s o (bad 0x0C))
    else if o.stage = .running then
      if o.mirror.isSome then .next s else .next (complete (settleStaged s o) tag (ok 0 0))
    else if fosterWaits s o.pkt.vol then .next s
    else if !admitted s o then .next (waitForRoom s o)
    else
      match input s o host o.pkt.dlen with
      | none => .next s
      | some .error => .next (dropWrite s o (bad 0x18))
      | some (.data b) =>
        let mirrored := mirroring s && !isFoster s o.pkt.vol
        let s := landWrite s o mirrored b
        if mirrored then .next (sendMirror s o 0 o.pkt.blocks b)
        else .next (complete (settleStaged s o) tag (ok 0 0))

/-- The leaf pages of a range are at hand, or what is missing has been set going; a stretch that is to get its page has room for it in its
set; a stretch of a foster volume takes over the partner's entries first (R134, R135, R357). -/
def pagesReady (s : State) (v : Nat) (sts : List Nat) : Bool × State :=
  match sts with
  | [] => (true, s)
  | st :: rest =>
    let i := inherit s v st
    let r := pagesReady (match i.1, dirAt i.2 v st with
      | some false, _ => lostPage i.2 v st
      | some true, .leaf (some _) => if (pageAt i.2 v st).isSome then i.2 else fetchLeaf i.2 v st
      | some true, _ => (leafRoom i.2 v st).getD i.2
      | none, _ => i.2) v rest
    (r.1 && i.1.isSome && (match dirAt r.2 v st with
      | .leaf (some _) => (pageAt r.2 v st).isSome
      | _ => (leafRoom r.2 v st).isSome), r.2)

/-- A range takes the Zero form with the write sequence numbers it is given, as one group of records with the splits it causes (R132, R142,
R154). -/
def zeroRange (s : State) (v lba n : Nat) : State :=
  let w := takeWseq s n
  let s := w.2
  let touched := (span lba n).flatMap (fun l => match mapOf s v l with
    | some e => formBands e.form
    | none => [])
  let splits := (rangeStretches lba n).filterMap (fun st => match dirAt s v st with
    | .extent _ _ => some (Record.dirSet v st (.leaf none))
    | _ => none)
  let s := (List.range n).foldl (fun s i => applyEntry s v (lba + i) { form := .zero, epoch := (w.1 + i) % 4096 }) s
  journalDrain s (splits ++ [.mapZero v lba n (w.1 % 4096)]) touched.eraseDups

/-- Staged versions of the blocks of a range are superseded (R132). -/
def unstageRange (s : State) (v lba n seq : Nat) : State :=
  upMed s (fun m => { m with staging := m.staging.filter (fun x =>
    !(x.vol == v && decide (lba ≤ x.lba) && decide (x.lba < lba + n) && decide (x.seq ≤ seq) && x.done)) })

/-- TRIM and WRITE_ZEROES (R104, R131): the range takes the Zero form once the partner has confirmed, and the command completes. -/
def zeroCommand (s : State) (o : Op) (op : Nat) : State :=
  let p := o.pkt
  let apply := fun (s : State) =>
    let pages := pagesReady s p.vol (rangeStretches p.addr p.blocks)
    if !pages.1 then pages.2
    else if !jRoom pages.2 ((rangeStretches p.addr p.blocks).length + 2) then jStall pages.2
    else
      let s := unstageRange (zeroRange pages.2 p.vol p.addr p.blocks) p.vol p.addr p.blocks o.seq
      let s := upPair s (fun q => { q with entriesOut := q.entriesOut.map (fun e =>
        if e.tag = some o.tag then { e with tag := none, releasable := true, recs := recordsEnd s } else e) })
      complete (releaseMirror s) o.tag (ok 0 0)
  if readOnly s then dropWrite s o { status := stReadOnly }
  else if !sameVolume s o then dropWrite s o (bad 0x0C)
  else if o.stage = .running then (if o.mirror.isSome then s else apply s)
  else if fosterWaits s p.vol then s
  else if !admitted s o then waitForRoom s o
  else if mirroring s && !isFoster s p.vol then sendMirror s o op p.blocks []
  else apply (running s o.tag)

/-- TRIM (R104). -/
def execTrim (tag : Nat) (s : State) : Out :=
  match opFor s tag 0x0403 with
  | none => .next s
  | some o => .next (zeroCommand s o 1)

/-- WRITE_ZEROES (R104). -/
def execWriteZeroes (tag : Nat) (s : State) : Out :=
  match opFor s tag 0x0406 with
  | none => .next s
  | some o => .next (zeroCommand s o 2)

/-- FLUSH (R76). It takes no lock, so R94 rechecks no volume for it; where its volume was deleted after its acceptance the model ends it as
R94 ends a command at its lock (DESIGN CHOICE, log entry 77). -/
def execFlush (tag : Nat) (s : State) : Out :=
  match opFor s tag 0x0404 with
  | none => .next s
  | some o =>
    if !sameVolume s o then .next (finish s tag (bad 0x0C))
    else if writesEnded s o.pkt.vol o.seq then .next (finish s tag (ok 0 0))
    else .next (running s tag)

end Sys2Proof.Machine
end

