-- ==== Sys2Proof/Machine/Compression.lean ====
section
/-! DEFINITION. The compression engine: COMPRESS, DECOMPRESS, inline compression and the grant of its pipes (chapter 12). -/

namespace Sys2Proof.Machine

open Sys2Proof

/-- Output can leave for the command's ADDR: into the Result Arena, over Footpath or over CXL.io (R50, R98, R504). -/
def addrUp (s : State) (o : Op) : Bool := o.pkt.arena || outUp s o

/-- A command's request for a pipe. -/
def cmdPipe (tag : Nat) (decomp : Bool) : PipeReq := { cls := .command, tag, num := 0, decomp }

/-- PIPE_GRANT: a free pipe goes to the classes round-robin, and within a class in arrival order (R294). -/
def execPipeGrant (decomp : Bool) (s : State) : Out :=
  let last := if decomp then s.cmp.lastDecomp else s.cmp.lastComp
  match freePipe s decomp, nextRequest s decomp last with
  | some n, some r =>
    let s := upCmp s (fun c => { c with
      waiting := c.waiting.filter (· != r),
      lastComp := if decomp then c.lastComp else r.cls.code,
      lastDecomp := if decomp then r.cls.code else c.lastDecomp })
    .next (setPipes (if decomp then s else upCmp s (fun c => { c with gains := mset c.gains n (feature s 4) })) decomp
      (mset (s.cmp.pipes decomp) n r))
  | _, _ => .next s

/-- A verify failure: the fault and the counters of R297. -/
def verifyFailed (s : State) : State :=
  raise (upCmp s (fun c => { c with verifyFail := true, verifyMismatch := satInc c.verifyMismatch })) (unit islCmp 3)

/-- A destination in the Arena is flipped to device bias before output lands in it (R43). -/
def flipDest (s : State) (o : Op) (n : Nat) : State := if o.pkt.arena then flipToDevice s o o.pkt.addr n else s

/-- A command needs the security module, which is in its error state (R332). -/
def cryptEnds (s : State) (o : Op) : State := finish (abandon s o) o.tag { status := stCleared, detail := 2 }

/-- COMPRESS (R297 to R299). -/
def execCompress (tag : Nat) (host : HostRead) (checker : Checker) (s : State) : Out :=
  match opFor s tag 0x0501 with
  | none => .next s
  | some o =>
    let p := o.pkt
    if s.sec.errorState then .next (cryptEnds s o)
    else if !onPipe s (cmdPipe tag false) then .next (askPipe s (cmdPipe tag false))
    else if !addrUp s o then .next s
    else
      match input s o host p.dlen with
      | none => .next s
      | some .error => .next (finish (abandon s o) tag (bad 0x18))
      | some (.data b) =>
        let gain := gainOf s (cmdPipe tag false) p.p2
        let s := flipDest (leavePipe s (cmdPipe tag false)) o p.p0
        let s := upCmp s (fun c => { c with inBytes := (c.inBytes + b.length) % 2 ^ 64 })
        let wrote := fun (s : State) (out : List Byte) =>
          deliverAddr (upCmp s (fun c => { c with outBytes := (c.outBytes + out.length) % 2 ^ 64 })) o out
        let missed := fun (s : State) => upCmp s (fun c => { c with noGain := wrapInc c.noGain })
        match compressReq (bits p.p1 1 0) (bit p.p1 2) (bit p.p1 3) p.flag8 gain p.p0 b checker with
        | .success out => .next (finish (wrote s out) tag (ok out.length 0))
        | .stored out => .next (finish (wrote (missed s) out) tag { status := stStored, r0 := out.length })
        | .noGain => .next (finish (spoil (missed s) o) tag { status := stNoGain })
        | .mismatch => .next (finish (spoil (verifyFailed s) o) tag { status := stVerify })

/-- DECOMPRESS (R300 to R302). -/
def execDecompress (tag : Nat) (host : HostRead) (s : State) : Out :=
  match opFor s tag 0x0502 with
  | none => .next s
  | some o =>
    let p := o.pkt
    if s.sec.errorState then .next (cryptEnds s o)
    else if !onPipe s (cmdPipe tag true) then .next (askPipe s (cmdPipe tag true))
    else if !addrUp s o then .next s
    else
      match input s o host p.dlen with
      | none => .next s
      | some .error => .next (finish (abandon s o) tag (bad 0x18))
      | some (.data b) =>
        let s := flipDest (leavePipe s (cmdPipe tag true)) o p.p0
        match inflate (bits p.p1 1 0) b p.p0 with
        | .ok out =>
          let s := upCmp s (fun c => { c with decBytes := (c.decBytes + out.length) % 2 ^ 64 })
          .next (finish (deliverAddr s o out) tag (ok out.length 0))
        | .error .overflow => .next (finish (spoil s o) tag { status := stLengthLong, detail := 2, r1 := p.p0 })
        | .error (.malformed d off) =>
          let s := upCmp s (fun c => { c with formatErrors := satInc c.formatErrors })
          .next (finish (spoil s o) tag { status := stDecomp, detail := d, r0 := off })

/-- How inline compression judges a block: its stream's length, 0 where it is stored uncompressed, and whether verification failed
(R303, R304). -/
def inlineJudge (gain : Nat) (b : List Byte) (checker : Checker) : Nat × Bool :=
  let out := deflate true false b
  let units := (out.length + 255) / 256
  if !checkerAgrees checker false || inflateBlock (fit (256 * units) out) != some b then (0, true)
  else if units ≤ 15 ∧ gainMet gain 4096 (256 * units) then (out.length, false)
  else (0, false)

/-- INLINE_COMPRESS: a staged block of a compressed volume is compressed on its way to placement (R303, R304). -/
def execInlineCompress (vol lba : Nat) (checker : Checker) (s : State) : Out :=
  match mget s.med.volumes vol, stagedAt s vol lba with
  | some v, some x =>
    if !v.comp || x.comp.isSome || x.lost then .next s
    else
      let r : PipeReq := { cls := .inlineC, tag := vol, num := lba, decomp := false }
      if !onPipe s r then .next (askPipe s r)
      else
        let j := inlineJudge (gainOf s r 0xFF) x.data checker
        let s := leavePipe s r
        let s := if j.2 then verifyFailed s else s
        let s := upCmp s (fun c => if j.1 = 0 then { c with inlineU := wrapInc c.inlineU } else { c with inlineC := wrapInc c.inlineC })
        .next (upMed s (fun m => { m with staging := m.staging.map (fun y =>
          if y.vol = vol ∧ y.lba = lba ∧ y.seq = x.seq then { y with comp := some j.1 } else y) }))
  | _, _ => .next s

end Sys2Proof.Machine
end

