-- ==== Sys2Proof/Machine/DigestCmds.lean ====
section
/-! DEFINITION. DIGEST and DIGEST_VERIFY: parts, quanta, results and idle messages (R307 to R315). -/

namespace Sys2Proof.Machine

open Sys2Proof

/-- The milestone a command extends, if it extends one of the host's (R315, R317). -/
def extends_ (p : Packet) : Option Nat :=
  if p.opc = 0x0703 then some p.p0
  else if p.opc = 0x0503 ∧ p.flag8 ∧ !p.more then some p.p3
  else none

/-- Every command accepted earlier that extends the same milestone has extended it or ended (R318). -/
def turnOf (s : State) (o : Op) : Bool :=
  match extends_ o.pkt with
  | none => true
  | some m => !earlierOp s o.seq (fun p => extends_ p == some m)

/-- Bytes of the expected digest that follow a part's message bytes in what it fetched (R314). -/
def expectedLen (o : Op) : Nat := if o.pkt.opc = 0x0504 ∧ !o.pkt.more ∧ o.aux = 0 then digestSize o.pkt.p4 else 0

/-- The expected digest of a DIGEST_VERIFY: from ADDR, or behind the message bytes on Footpath (R98, R314). A part with MORE
compares nothing. -/
def expectedOf (s : State) (o : Op) (h : HostRead) : Option HostRead :=
  let n := digestSize o.pkt.p4
  if o.pkt.opc ≠ 0x0504 ∨ o.pkt.more then some (.data [])
  else if fromFootpath o then some (.data (fit n (o.rx.drop o.pkt.dlen)))
  else if !ioUp s then none
  else
    match h with
    | .data b => if b.length = n then some (.data b) else none
    | .error => some .error

/-- A part whose turn in its message has come fetches its bytes; an error zeroises (R309, R310, R314, R316). A fetch that an FLR discarded
is no such error: its part ends alone (DESIGN CHOICE, log entry 69). -/
def fetchPart (s : State) (o : Op) (host expected : HostRead) : State :=
  if s.sec.errorState then cryptEnds s o
  else
    match ctxOfTag s o.tag with
    | none => s
    | some (_, c) =>
      if c.parts.head? ≠ some o.tag ∨ o.stage ≠ .ready then s
      else
        match (if o.pkt.dlen = 0 then some (.data []) else input s o host o.pkt.dlen), expectedOf s o expected with
        | some .error, _ => if o.mute && !fromFootpath o then finish (abandon s o) o.tag (bad 0x18) else zeroise s 1
        | some (.data b), some .error => modOp s o.tag (fun x => { x with stage := .running, rx := b, aux := 1 })
        | some (.data b), some (.data e) => modOp s o.tag (fun x => { x with stage := .running, rx := b ++ e })
        | _, _ => s

/-- DIGEST: a part of a message begins (R309). -/
def execDigest (tag : Nat) (host : HostRead) (s : State) : Out :=
  match opFor s tag 0x0503 with
  | none => .next s
  | some o => .next (fetchPart s o host (.data []))

/-- DIGEST_VERIFY: a part of a message to compare begins (R314). -/
def execDigestVerify (tag : Nat) (host expected : HostRead) (s : State) : Out :=
  match opFor s tag 0x0504 with
  | none => .next s
  | some o => .next (fetchPart s o host expected)

/-- A context has bytes to absorb, or a part or message to end: the command whose part runs may write its result and extend its
milestone (R312, R315, R318). -/
def contextReady (s : State) (c : DigestCtx) : Bool :=
  match c.kite with
  | some (run, k) =>
    match findInst s run k with
    | some i => (match i.ports.dgFeed with
      | some b => !b.isEmpty
      | none => false)
    | none => false
  | none =>
    match c.parts.head?.bind (findOp s) with
    | some o => o.stage == .running && (o.pkt.more || (turnOf s o && (o.pkt.opc == 0x0504 || addrUp s o)))
    | none => false

/-- The next ready context, round-robin (R312). -/
def nextContext (s : State) : Option (Nat × DigestCtx) :=
  let l := s.sec.contexts.filter (fun c => contextReady s c.2)
  match l.find? (fun c => decide (s.sec.dgTurn ≤ c.1)) with
  | some c => some c
  | none => l.head?

/-- A part has absorbed all its bytes: it completes, and a final part frees the context (R309, R310, R314, R315). A digest that a poisoned
Arena line takes in part fails the command as a host error on ADDR does, and extends nothing (DEDUCED, log entry 86). -/
def endPart (s : State) (o : Op) (n : Nat) (c : DigestCtx) (data expected : List Byte) : State :=
  let free := fun (s : State) => clearCtx s n o.tag
  if o.pkt.more then
    let s := if c.doomed then free s else
      upSec s (fun e => { e with contexts := mset e.contexts n { c with data, parts := c.parts.tail, since := s.glb.lifetime } })
    complete s o.tag (ok 0 n)
  else
    let key := match c.hmac with
      | some k => mgetD s.sec.hmacKeys k []
      | none => []
    let d := digestOf c.alg key data
    let s := free s
    if o.pkt.opc = 0x0504 then
      if o.aux = 1 then complete s o.tag (bad 0x10)
      else complete s o.tag { status := if d = expected then stSuccess else stDigestMismatch }
    else
      let s := deliverAddr (flipDest s o d.length) o d
      if o.pkt.arena && writtenSpan s o.pkt.addr d.length != (0, d.length) then complete s o.tag (bad 0x10)
      else
        let s := match extends_ o.pkt with
          | some m => extendMs s m d
          | none => s
        complete s o.tag (ok 0 0)

/-- DIGEST_QUANTUM: a hash pipe absorbs up to 64 KiB of the next ready context (R312). -/
def execDigestQuantum (s : State) : Out :=
  match nextContext s with
  | none => .next s
  | some (n, c) =>
    let s := upSec s (fun e => { e with dgTurn := (n + 1) % 64 })
    match c.kite with
    | some (run, k) =>
      match findInst s run k with
      | some i =>
        let b := i.ports.dgFeed.getD []
        let now := sourceNow s i i.ports.dgFrom (b.take 65536)
        let s := upSec now.2 (fun e => { e with contexts := mset e.contexts n { c with data := c.data ++ now.1 } })
        .next (modInst s run k (fun i => { i with ports := { i.ports with
          dgFeed := some (b.drop 65536), dgFrom := i.ports.dgFrom + now.1.length } }))
      | none => .next s
    | none =>
      match c.parts.head?.bind (findOp s) with
      | none => .next s
      | some o =>
        let left := o.rx.length - expectedLen o
        let data := c.data ++ o.rx.take (min left 65536)
        if left ≤ 65536 then .next (endPart s o n c data (o.rx.drop left))
        else
          let s := upSec s (fun e => { e with contexts := mset e.contexts n { c with data } })
          .next (modOp s o.tag (fun x => { x with rx := x.rx.drop 65536 }))

/-- DG_IDLE_TIMEOUT: an unfinished command-path message without a part in progress or waiting is cleared after IDLE_S seconds (R313). -/
def execDgIdleTimeout (context : Nat) (s : State) : Out :=
  match mget s.sec.contexts context with
  | some c =>
    if !inReset s islCrypt ∧ c.kite.isNone ∧ c.parts.isEmpty ∧ c.since + 1000 * s.sec.idleS ≤ s.glb.lifetime then
      .next (upSec s (fun e => { e with contexts := mdel e.contexts context, dgTimeouts := satInc e.dgTimeouts }))
    else .next s
  | none => .next s

end Sys2Proof.Machine
end

