-- ==== Sys2Proof/Machine/Waymark.lean ====
section
/-! DEFINITION. The Waymark associative search engine (chapter 11): entries, searches, loads, the sweep and losses. -/

namespace Sys2Proof.Machine

open Sys2Proof

/-- A unit that is zero and invalid. -/
def WUnit.zero : WUnit := { value := 0, mask := 0, result := 0, valid := false }

/-- Set a unit of an array or of the shadow, listing none that is zero and invalid. -/
def unitSet (m : SMap WUnit) (n : Nat) (u : WUnit) : SMap WUnit := if u = WUnit.zero then mdel m n else mset m n u

/-- First unit, by number, of entry `e` in copy `c` of a table (R277): a bank holds 4,096 units, and w units follow each other per entry. -/
def entryAt (t : WTable) (c e : Nat) : Nat := 4096 * (t.firstBank + wUnits t.width * c) + e * wUnits t.width

/-- Units of entry `e` in copy `c` (R276, R277). -/
def entryUnits (t : WTable) (c e : Nat) : List Nat := span (entryAt t c e) (wUnits t.width)

/-- An array unit. -/
def unitOfArray (s : State) (n : Nat) : WUnit := mgetD s.way.array n WUnit.zero

/-- A shadow unit (R287). -/
def unitOfShadow (s : State) (n : Nat) : WUnit := mgetD s.way.shadow n WUnit.zero

/-- The array unit holds what its shadow holds (R288, R289): result words and VALID bits are not shadowed. -/
def unitAgrees (s : State) (n : Nat) : Bool :=
  (unitOfArray s n).value == (unitOfShadow s n).value && (unitOfArray s n).mask == (unitOfShadow s n).mask

/-- Rewrite an array unit from the shadow (R288, R289). -/
def unitRestore (s : State) (n : Nat) : State :=
  let h := unitOfShadow s n
  upWay s (fun w => { w with array := unitSet w.array n { unitOfArray s n with value := h.value, mask := h.mask } })

/-- Write one unit to the array and its shadow (R278, R287). -/
def unitWrite (s : State) (n value mask result : Nat) (valid : Bool) : State :=
  upWay s (fun w => { w with
    array := unitSet w.array n { value := value &&& mask, mask, result, valid },
    shadow := unitSet w.shadow n { value := value &&& mask, mask, result := 0, valid := false },
    unitWrites := wrapInc w.unitWrites })

/-- An entry takes its new content in every copy at one instant (R283). -/
def entryWrite (s : State) (t : WTable) (e result : Nat) (valid : Bool) (units : List (Nat × Nat)) : State :=
  (List.range t.copies).foldl (fun s c =>
    (units.zip (List.range units.length)).foldl (fun s x =>
      unitWrite s (entryAt t c e + x.2) x.1.1 x.1.2 (if x.2 = 0 then result else 0) (x.2 == 0 && valid)) s) s

/-! ### Damage and loss (R288, R290) -/

/-- The enabled table, and the entry in it, that a unit belongs to (R277). -/
def unitEntry (s : State) (n : Nat) : Option (WTable × Nat) :=
  (s.way.tables.find? (fun t => t.en && decide (4096 * t.firstBank ≤ n) &&
      decide (n < 4096 * (t.firstBank + wUnits t.width * t.copies)))).map
    (fun t => (t, (n - 4096 * t.firstBank) % (4096 * wUnits t.width) / wUnits t.width))

/-- An entry whose unit is lost in the array and in the shadow is cleared in every copy (R290). -/
def loseEntry (s : State) (n : Nat) : State :=
  let s := match unitEntry s n with
    | some (t, e) =>
      (List.range t.copies).foldl (fun s c => (entryUnits t c e).foldl (fun s u => unitWrite s u 0 0 0 false) s) s
    | none => unitWrite s n 0 0 0 false
  raise (upWay s (fun w => { w with lostEntries := satInc w.lostEntries, lost := true })) (unit islWay 1)

/-- The units of the shadow line that a unit's shadow lies in (R287). -/
def shadowLine (n : Nat) : List Nat := span (n / 4 * 4) 4

/-- An uncorrectable shadow line is counted and recorded at its channel, which the manual leaves open (R192; log entry 12). -/
def shadowDram (s : State) : State :=
  let ch := freeBelow s 4
  raise (upDrc ch.2 (fun d => { d with uncorrectable := satInc d.uncorrectable })) (unit (islDram ch.1) 1)

/-- A shadow line is rewritten from the array (Table 7.6). -/
def shadowRefill (s : State) (n : Nat) : State :=
  (shadowLine n).foldl (fun s u => upWay s (fun w => { w with
    shadow := unitSet w.shadow u { unitOfArray s u with result := 0, valid := false } })) s

/-- An array unit is rewritten from its shadow as the sweep does it (R288). -/
def sweepRepair (s : State) (n : Nat) : State :=
  raise (upWay (unitRestore s n) (fun w => { w with sweepRepairs := satInc w.sweepRepairs })) (unit islWay 0)

/-- Lines found uncorrectable: a result-word line loses its entries, a shadow line is rewritten from the array, an array unit from its shadow,
and an entry with both is lost (R288, R290, Table 7.6). A repair that a read finds is counted as one of the sweep's (DEDUCED, log entry 26). -/
def wayDamage (s : State) (c : WayCheck) : State :=
  let s := c.results.foldl loseEntry s
  let s := c.shadows.foldl (fun s n => (if c.arrays.contains n then loseEntry (shadowDram s) n else shadowRefill (shadowDram s) n)) s
  (c.arrays.filter (fun n => !c.shadows.contains n)).foldl sweepRepair s

/-- What a search finds damaged: result words and, on a verify, shadow lines; the compare itself has no line check (R289, R290). -/
def searchDamage (s : State) (c : WayCheck) : State :=
  let on := feature s 9 == 1
  let shadows := if on then c.shadows else []
  wayDamage s { c with shadows, arrays := c.arrays.filter (fun n => shadows.contains n) }

/-! ### Searching (R278, R279, R289) -/

/-- The key's words agree with a unit's (R278). -/
def unitMatches (k : Nat) (u : WUnit) : Bool := (k ^^^ u.value) &&& u.mask == 0

/-- Entry numbers that match a key in copy 0, ascending (R278, R279). -/
def matches_ (s : State) (t : WTable) (key : List Nat) : List Nat :=
  let w := wUnits t.width
  let base := entryAt t 0 0
  (s.way.array.filter (fun x => decide (base ≤ x.1) && decide (x.1 < base + 4096 * w) && (x.1 - base) % w == 0 && x.2.valid &&
    (List.range w).all (fun i => unitMatches (key.getD i 0) (unitOfArray s (x.1 + i))))).map (fun x => (x.1 - base) / w)

/-- The 8-byte result of a search, as a number (Table 11.1). -/
def resultOf (s : State) (t : WTable) (l : List Nat) (verified repaired : Bool) : Nat :=
  match l with
  | [] => b2n repaired * 2 ^ 45
  | e :: _ =>
    (unitOfArray s (entryAt t 0 e)).result + min l.length 255 * 2 ^ 16 + b2n (decide (2 ≤ l.length)) * 2 ^ 30 + 2 ^ 31 +
      e * 2 ^ 32 + b2n verified * 2 ^ 44 + b2n repaired * 2 ^ 45

/-- Search with verify on hit: at most four repairs, then the search repeated after the fourth answers (R289; DEDUCED, log entry
26). -/
def searchCheck (s : State) (t : WTable) (key : List Nat) (repairs : Nat) : (List Nat × Nat) × State :=
  let l := matches_ s t key
  match l with
  | [] => ((l, resultOf s t l false (decide (repairs < 4))), s)
  | e :: _ =>
    let wrong := (entryUnits t 0 e).filter (fun n => !unitAgrees s n)
    if wrong.isEmpty then ((l, resultOf s t l true (decide (repairs < 4))), s)
    else
      match repairs with
      | 0 => ((l, resultOf s t l false true), s)
      | r + 1 =>
        let s := (entryUnits t 0 e).foldl unitRestore s
        let s := raise (upWay s (fun w => { w with verifyRepairs := satInc w.verifyRepairs })) (unit islWay 0)
        if r = 0 then
          let l := matches_ s t key
          ((l, resultOf s t l false true), s)
        else searchCheck s t key r

/-- One search of an enabled, ready table, counted (R279, Table 11.8). -/
def search (s : State) (t : WTable) (key : List Nat) : Nat × State :=
  let r := if feature s 9 = 1 then searchCheck s t key 4
    else
      let l := matches_ s t key
      ((l, resultOf s t l false false), s)
  (r.1.2, upWay r.2 (fun w => { w with
    searches := (w.searches + 1) % 2 ^ 64,
    hits := if r.1.1.isEmpty then w.hits else wrapInc w.hits,
    multi := if 2 ≤ r.1.1.length then wrapInc w.multi else w.multi }))

/-- The answer of a table that is not enabled: NO_TABLE (R286, Table 11.1). -/
def searchNoTable (s : State) : Nat × State :=
  (2 ^ 29, upWay s (fun w => { w with searches := (w.searches + 1) % 2 ^ 64 }))

/-- Key words from bytes (R278). -/
def keyWords (b : List Byte) (w : Nat) : List Nat := (List.range w).map (fun i => num b (8 * i) 8)

/-- Search every key in order, gathering the results (R285). -/
def searchAll (s : State) (t : WTable) (b : List Byte) (n : Nat) : List Byte × State :=
  match n with
  | 0 => ([], s)
  | n + 1 =>
    let w := wUnits t.width
    let r := if t.en then search s t (keyWords b w) else searchNoTable s
    let q := searchAll r.2 t (b.drop (8 * w)) n
    (le 8 r.1 ++ q.1, q.2)

/-- WAYMARK_SEARCH (R285). Searches wait until the table is READY; one disabled meanwhile answers NO_TABLE (R291). -/
def execWaymarkSearch (tag : Nat) (host : HostRead) (check : WayCheck) (s : State) : Out :=
  match opFor s tag 0x0506 with
  | none => .next s
  | some o =>
    let t := wTable s o.pkt.p1
    if (t.en && !t.ready) || !addrUp s o then .next s
    else
      match input s o host o.pkt.dlen with
      | none => .next s
      | some .error => .next (finish (abandon s o) tag (bad 0x18))
      | some (.data b) =>
        let r := searchAll (searchDamage s check) t b (b.length / (8 * wUnits t.width))
        .next (complete (deliverAddr (flipDest r.2 o r.1.length) o r.1) tag (ok 0 0))

/-- A Kite search is granted a copy, and its result goes to the core that asked (R254, R280, R286). -/
def serveSearch (s : State) (q : WSearch) : State :=
  let t := wTable s q.table
  let s := upWay s (fun w => { w with queue := w.queue.erase q })
  let key := (List.range (wUnits t.width)).map (fun i =>
    (q.key.getD (2 * i) 0).toNat + (q.key.getD (2 * i + 1) 0).toNat * 2 ^ 32)
  let r := if t.en then search s t key else searchNoTable s
  let s := modInst r.2 q.run q.num (fun i => { i with ports := { i.ports with wmBusy := false, wmResult := r.1 } })
  latchEvent s q.run q.num 5

/-- WAYMARK_SEARCH_QUEUE: the head of a table's queue is granted a copy; searches before READY wait (R280, R286, R291). -/
def execWaymarkSearchQueue (table : Nat) (check : WayCheck) (s : State) : Out :=
  let t := wTable s table
  match s.way.queue.find? (fun q => q.table == table) with
  | none => .next s
  | some q => if (t.en && !t.ready) || inReset s islWay then .next s else .next (serveSearch (searchDamage s check) q)

/-! ### Loads and reads (R282 to R286) -/

/-- The units of an entry record (Table 11.2). -/
def recordUnits (b : List Byte) (w : Nat) : List (Nat × Nat) :=
  (List.range w).map (fun i => (num b (8 + 16 * i) 8, num b (16 + 16 * i) 8))

/-- Every reserved field of a record is zero (R283). -/
def recordClean (b : List Byte) (w : Nat) : Bool :=
  num b 2 2 / 2 == 0 && num b 4 4 == 0 && (b.drop (8 + 16 * w)).all (· == 0)

/-- Write records in ascending entry order up to one whose reserved fields are not zero: its index, if there is one (R283). -/
def loadRecords (s : State) (t : WTable) (e i : Nat) (b : List Byte) (n : Nat) : Option Nat × State :=
  match n with
  | 0 => (none, s)
  | n + 1 =>
    let size := recBytes t.width
    let r := b.take size
    let w := wUnits t.width
    if recordClean r w then
      loadRecords (entryWrite s t (e + i) (num r 0 2) (bit (num r 2 2) 0) (recordUnits r w)) t e (i + 1) (b.drop size) n
    else (some i, s)

/-- WAYMARK_LOAD (R282 to R284): loads are carried out in acceptance order, and one that ends with SUCCESS extends M3. -/
def execWaymarkLoad (tag : Nat) (host : HostRead) (s : State) : Out :=
  match opFor s tag 0x0505 with
  | none => .next s
  | some o =>
    let p := o.pkt
    let t := wTable s p.p0
    if s.sec.errorState then .next (cryptEnds s o)
    else if earlierOp s o.seq (fun q => q.opc == 0x0505) then .next s
    else if !(t.en && t.ready) then .next (finish s tag (bad 0x20))
    else
      match input s o host p.dlen with
      | none => .next s
      | some .error => .next (finish (abandon s o) tag (bad 0x18))
      | some (.data b) =>
        let n := p.dlen / recBytes t.width
        match loadRecords s t p.p1 0 b n with
        | (some i, s) => .next (finish s tag { status := stInvalidField, detail := 0x18, r0 := i })
        | (none, s) =>
          let d := le 1 p.p0 ++ le 1 t.width ++ le 1 t.copies ++ le 1 0 ++ le 2 p.p1 ++ le 2 n
          .next (complete (extendMs s 3 (sha384 (d ++ b))) tag (ok 0 0))

/-- The record of an entry in copy 0 (Table 11.2). -/
def entryRecord (s : State) (t : WTable) (e : Nat) : List Byte :=
  let u := (entryUnits t 0 e).map (unitOfArray s)
  let h := (u.head?).getD WUnit.zero
  fit (recBytes t.width) (le 2 h.result ++ le 2 (b2n h.valid) ++ le 4 0 ++ u.flatMap (fun x => le 8 x.value ++ le 8 x.mask))

/-- WAYMARK_READ; an entry whose line is uncorrectable is handled first and read as it stands then (R99, R286). -/
def execWaymarkRead (tag : Nat) (check : WayCheck) (s : State) : Out :=
  match opFor s tag 0x0507 with
  | none => .next s
  | some o =>
    let p := o.pkt
    let t := wTable s p.p1
    let need := p.p3 * recBytes t.width
    if !t.en then .next (finish s tag (bad 0x24))
    else if !t.ready || !addrUp s o then .next s
    else if p.p0 < need then .next (finish (spoil (flipDest s o p.p0) o) tag { status := stLengthLong, detail := 2, r0 := need, r1 := p.p0 })
    else
      let s := wayDamage s check
      let b := (span p.p2 p.p3).flatMap (entryRecord s t)
      .next (complete (deliverAddr (flipDest s o b.length) o b) tag (ok 0 0))

/-! ### Enabling and the sweep (R288, R291) -/

/-- TABLE_READY (R291). -/
def execTableReady (table : Nat) (s : State) : Out :=
  let t := wTable s table
  if t.en && t.clearing && !inReset s islWay then
    .next (upWay s (fun w => { w with tables := lmod w.tables table (fun t => { t with ready := true, clearing := false }) }))
  else .next s

/-- SWEEP_STEP: the sweep compares the next unit with its shadow and repairs it (R288, Table 7.6, R290). `upset` says which array units
were disturbed since the last step, `arrayBad` and `shadowBad` what the line code finds of the two
lines. -/
def execSweepStep (forced : Bool) (upset : List (Nat × WUnit)) (arrayBad shadowBad : Bool) (s : State) : Out :=
  if inReset s islWay then .next s
  else
    let s := upset.foldl (fun s u => upWay s (fun w => { w with array := if u.1 < 65536 then unitSet w.array u.1 u.2 else w.array })) s
    let n := s.way.sweepAt
    let s := wayDamage s { arrays := if arrayBad then [n] else [], shadows := if shadowBad then [n] else [] }
    let s := if unitAgrees s n then s else sweepRepair s n
    .next (upWay s (fun w => { w with
      sweepAt := (n + 1) % 65536,
      sweepPasses := if n = 65535 then wrapInc w.sweepPasses else w.sweepPasses,
      forcedSlots := if forced then satInc w.forcedSlots else w.forcedSlots }))

end Sys2Proof.Machine
end

