-- ==== Sys2Proof/Machine/Programs.lean ====
section
/-! DEFINITION. Programs and scan runs: images, slots, areas, instances and the end of a run (chapter 10, R212 to R218). -/

namespace Sys2Proof.Machine

open Sys2Proof

/-! ### Program images (R259 to R262) -/

/-- The first condition of Table 10.2 that an image breaks. -/
def imageFault (b : List Byte) (dlen : Nat) : Option Reply :=
  let field_ := fun (off : Nat) => ({ status := stInvalidField, detail := 0x18, r0 := off } : Reply)
  let words := num b 8 2
  let dataBytes := num b 12 4
  let wide := (List.range words).find? (fun i => decide (0x4000 ≤ num b (0x40 + 2 * i) 2))
  firstBad [
    (num b 0 4 == 0x4554494B, field_ 0),
    (crc32c (field b 0 0x3C) == num b 0x3C 4, field_ 0x3C),
    (num b 4 2 == 1, field_ 4), (num b 6 2 == 0, field_ 6), (num b 0x11 1 == 0, field_ 0x11), (num b 0x12 2 == 0, field_ 0x12),
    (decide (1 ≤ words ∧ words ≤ 16384), field_ 8), (decide (num b 10 2 < words), field_ 10), (decide (dataBytes ≤ 61440), field_ 12),
    (decide (num b 16 1 ≤ 24), field_ 16),
    (64 + 2 * words + dataBytes == dlen, field_ 8),
    (decide (num b 0x28 16 < 2 ^ 96), { status := stPortDenied }),
    (crc32c (b.drop 64) == num b 0x38 4, field_ 0x38),
    (wide.isNone, field_ (0x40 + 2 * wide.getD 0))]

/-- The program an image holds (Table 10.1). -/
def imageProgram (load : Nat) (b : List Byte) : Program :=
  let words := num b 8 2
  { load, entry := num b 10 2, units := num b 16 1, perm := num b 0x28 16,
    code := (List.range words).map (fun i => num b (0x40 + 2 * i) 2),
    data := field b (64 + 2 * words) (num b 12 4), unloading := false }

/-- PROGRAM_LOAD: images are checked and measured in acceptance order (R260, R261). -/
def execProgramLoad (tag : Nat) (host : HostRead) (s : State) : Out :=
  match opFor s tag 0x0601 with
  | none => .next s
  | some o =>
    if earlierOp s o.seq (fun q => q.opc == 0x0601) then .next s
    else
      match input s o host o.pkt.dlen with
      | none => .next s
      | some .error => .next (finish (abandon s o) tag (bad 0x18))
      | some (.data b) =>
        match imageFault b o.pkt.dlen with
        | some r => .next (finish s tag r)
        | none =>
          let s := extendMs s 4 (sha384 b)
          let s := upKite s (fun k => { k with
            programs := mset k.programs o.pkt.p0 (imageProgram k.nextLoad b), nextLoad := k.nextLoad + 1 })
          .next (finish s tag (ok 0 0))

/-- PROGRAM_UNLOAD: the slot empties once the last run accepted before that uses it has ended (R262). -/
def execProgramUnload (tag : Nat) (s : State) : Out :=
  match opFor s tag 0x0602 with
  | none => .next s
  | some o =>
    if earlierOp s o.seq (fun q => q.opc == 0x0603 && q.p1 == o.pkt.p0) then .next (running s tag)
    else .next (finish (upKite s (fun k => { k with programs := mdel k.programs o.pkt.p0 })) tag (ok 0 0))

/-! ### Starting a run (R264, R265, R268) -/

/-- Clusters that a run of M instances uses (R265). -/
def runClusters (m : Nat) : List Nat := ((List.range m).map instCluster).foldl linsert []

/-- Bytes of shared memory the areas of a cluster take. -/
def areaUsed (c : Cluster) : Nat := (c.areas.map (fun a => a.units * 65536)).sum

/-- The cluster can take an area of so many 64 KiB units now (R264). -/
def areaFits (c : Cluster) (units : Nat) : Bool :=
  decide (c.areas.length < 8) && decide (areaUsed c + units * 65536 ≤ areaRoom c)

/-- SHARED_UNITS of a run's program. -/
def runUnitsOf (s : State) (r : Run) : Nat :=
  match mget s.kite.programs r.slot with
  | some g => g.units
  | none => 0

/-- Place a run's shared area, filled with zeros, on each cluster that can take it, behind runs accepted earlier (R264 step 4). -/
def placeAreas (s : State) (r : Run) : State :=
  r.unplaced.foldl (fun s n =>
    if s.kite.runs.any (fun q => decide (q.seq < r.seq) && q.unplaced.contains n) || !areaFits (clusterAt s n) (runUnitsOf s r) then s
    else
      modRun (modCluster s n (fun c => { c with areas := c.areas ++ [{ run := r.tag, units := runUnitsOf s r, mem := [] }] })) r.tag
        (fun q => { q with unplaced := q.unplaced.filter (· != n) })) s

/-- Non-zero bytes laid from an address on. -/
def bytesFrom (m : SMap Byte) (a : Nat) (b : List Byte) : SMap Byte := m ++ (cellsOf a b).filter (fun c => c.2 != 0)

/-- A new instance (R265, R266, Table 10.3). -/
def newInst (r : Run) (g : Program) (j : Nat) : Instance :=
  let h := j % 4
  let k := j / 4
  let rh := (r.m - h + 3) / 4
  { run := r.tag, num := j, cluster := instCluster j, state := .ready,
    regs := { g := [BitVec.ofNat 32 j, BitVec.ofNat 32 r.m, BitVec.ofNat 32 r.params.length] ++ List.replicate 13 0,
              pc := g.entry, fl := {}, bs := 0, be := 0, active := false, ev := 0, cycles := 0, cyHold := 0 },
    latched := 0, timer0 := 0, timer1 := 0, inbox := [], outbox := [],
    localMem := bytesFrom (bytesFrom [] 0 g.data) 0xF000 r.params,
    lane := { work := [], next := r.count * k / rh, stop := r.count * (k + 1) / rh, ring := [], used := 0, offset := 0, mem := [], passed := 0 },
    ports := Ports.zero, resumed := false }

/-- Once every area is placed, the instances are created and become ready in instance order (R264 step 5). -/
def startInsts (s : State) (tag : Nat) : State :=
  match findRun s tag with
  | none => s
  | some r =>
    if r.started || !r.unplaced.isEmpty || r.ending.isSome then s
    else
      match mget s.kite.programs r.slot with
      | none => s
      | some g =>
        modRun (upKite s (fun k => { k with
          insts := k.insts ++ (List.range r.m).map (newInst r g),
          readyQ := k.readyQ ++ (List.range r.m).map (fun j => (tag, j)) })) tag (fun q => { q with started := true })

/-- A SCAN_RUN begins with its parameter block read (R264 steps 3 and 4). -/
def beginRun (s : State) (o : Op) (params : List Byte) : State :=
  let p := o.pkt
  let m := runSize p.p2
  let r : Run := { tag := o.tag, seq := o.seq, vol := p.vol, first := p.addr, count := p.p0, slot := p.p1, m, params, dlen := p.dlen,
                   nextFree := 0, extent := 0, hubs := [], recon := [], unrec := [], unplaced := runClusters m, started := false,
                   ending := none }
  let s := if p.arena then flipToDevice s o p.dptr p.dlen else s
  let s := running (upKite s (fun k => { k with runs := k.runs ++ [r] })) o.tag
  startInsts (placeAreas s r) o.tag

/-- A SCAN_RUN whose volume is gone or formatting since its acceptance still runs (Table 10.5); one whose parameter block is read starts, or
reads its fragment list next (R264). -/
def execScanRun (tag : Nat) (params : HostRead) (s : State) : Out :=
  match findOp s tag with
  | none => .next s
  | some o =>
    let p := o.pkt
    if p.opc ≠ 0x0603 ∨ !awake s p.opc ∨ !(o.stage == .waitFrags || o.stage == .ready) then .next s
    else if o.aux = 1 then (if o.stage = .ready then .next (beginRun s o o.rx) else .next s)
    else if !entryUp s then .next s
    else
      match (if p.p5 = 0 then HostRead.data [] else params) with
      | .error => .next (failEarly s tag (bad 0x20))
      | .data b =>
        if b.length ≠ p.p5 then .next s
        else
        let s := if p.p5 = 0 then s else issue s (.rdShared (p.p3 + 2 ^ 32 * p.p4))
        if o.stage = .waitFrags then .next (modOp s tag (fun x => { x with aux := 1, rx := b }))
        else .next (beginRun s o b)

/-- SCAN_AREA_PLACE: a waiting run places its shared area on the clusters that can take it (R264). -/
def execScanAreaPlace (tag : Nat) (s : State) : Out :=
  match findRun s tag with
  | none => .next s
  | some r => if r.ending.isSome then .next s else .next (startInsts (placeAreas s r) tag)

/-! ### Stopping, asking and ending (R273 to R275) -/

/-- A SCAN_RUN ends by a command: its run, or the command itself while it has none (Tables 3.11 and 10.4). -/
def stopRun (s : State) (tag : Nat) (r : Reply) : State :=
  match findRun s tag, findOp s tag with
  | some _, _ => endRun s tag r
  | none, some o => finish (abandon s o) tag r
  | none, none => s

/-- A run's reply is decided: an ending event came first, or its reply is with the reply engine (R273, R274). -/
def runDecided (s : State) (tag : Nat) : Bool :=
  !runningScan s tag || (match findRun s tag with
    | some r => r.ending.isSome
    | none => false)

/-- SCAN_STOP (R274). -/
def execScanStop (tag : Nat) (s : State) : Out :=
  match opFor s tag 0x0604 with
  | none => .next s
  | some o =>
    if runDecided s o.pkt.p0 then .next (finish s tag { status := stTooLate })
    else .next (finish (stopRun s o.pkt.p0 { status := stAborted }) tag (ok 0 0))

/-- SCAN_QUERY (R275). -/
def execScanQuery (tag : Nat) (s : State) : Out :=
  match opFor s tag 0x0605 with
  | none => .next s
  | some o =>
    let l := s.kite.insts.filter (fun i => i.run == o.pkt.p0)
    .next (finish s tag (ok ((l.map (fun i => i.lane.passed)).sum % 2 ^ 64) (liveInsts s o.pkt.p0)))

/-- The reply of a run that ends (Table 10.4). -/
def runReply (r : Run) : Reply :=
  match r.ending with
  | some x => if x.status = stPowerFail then x else { x with r0 := r.extent }
  | none =>
    match r.unrec with
    | lba :: _ => { status := stUnrecovered, r0 := lba, r1 := r.unrec.length }
    | [] =>
      if r.recon.isEmpty then ok r.extent 0 else { status := stRecovered, r0 := r.extent, r1 := r.recon.length }

/-- SCAN_RUN_END: every instance has halted or been stopped and every request has completed; the areas go and the command completes
(R273). -/
def execScanRunEnd (tag : Nat) (s : State) : Out :=
  match findRun s tag with
  | none => .next s
  | some r =>
    let mine := s.kite.insts.filter (fun i => i.run == tag)
    if !(r.started || r.ending.isSome) || mine.any (fun i => i.state != .ended || i.ports.busy) then .next s
    else
      let s := upKite s (fun k => { k with
        runs := k.runs.filter (fun q => q.tag != tag), insts := k.insts.filter (fun i => i.run != tag),
        clusters := k.clusters.map (fun c => { c with areas := c.areas.filter (fun a => a.run != tag) }) })
      .next (complete ((List.range 8).foldl settleRing s) tag (runReply r))

end Sys2Proof.Machine
end

