-- ==== Sys2Proof/Machine/KiteRun.lean ====
section
/-! DEFINITION. What Dwear, the scan lanes and the engines do for Kite instances: dispatch and preemption, work lists and lane blocks,
timers, mail and the end of engine requests (chapters 08 to 10). -/

namespace Sys2Proof.Machine

open Sys2Proof

/-! ### Dispatch and preemption (R212 to R217) -/

/-- An instance of the cluster waits for a core (R214). -/
def waitingInst (s : State) (n : Nat) : Option Instance :=
  (s.kite.readyQ.filterMap (fun x => findInst s x.1 x.2)).find? (fun i => i.cluster == n)

/-- A cluster is powered: its cores fall idle (R219). -/
def powerCluster (s : State) (n : Nat) : State :=
  if (clusterAt s n).powered then s
  else
    let s := modCluster s n (fun c => { c with powered := true })
    (span (8 * n) 8).foldl (fun s c => if (coreAt s c).state = 7 then modCore s c (fun x => { x with state := 0 }) else s) s

/-- A dispatch to a cluster in test aborts the test first (Table 8.11). -/
def stopKiteTest (s : State) (n : Nat) : State :=
  if !(clusterAt s n).test then s
  else
    let s := modCluster s n (fun c => { c with test := false })
    let s := upKite s (fun k => { k with cores := k.cores.map (fun c => if c.state = 6 then { c with state := 0 } else c) })
    if s.hlt.slice = some (islKc n) then upHlt s (fun h => { h with slice := none, measuring := false, slicesAborted := wrapInc h.slicesAborted }) else s

/-- A line of the spill slot that holds an instance's context is poisoned (R192, Table 7.6). -/
def spillPoisoned (s : State) (i : Instance) : Bool :=
  match i.spill with
  | some k => (spillLines s (i.cluster / 2) k).any (fun l => s.drc.poisoned.contains l)
  | none => false

/-- INSTANCE_DISPATCH: the instance that became ready first among its cluster's takes an idle core (R213, R214, R219). A saved context
restored from a poisoned line raises LINE_CODE_UNCORRECTABLE (R192; log entry 73). -/
def execInstanceDispatch (core : CoreId) (s : State) : Out :=
  let n := core.val / 8
  match waitingInst s n with
  | none => .next s
  | some i =>
    if s.flt.containing.contains (islKc n) then .next s
    else
      let s := powerCluster (stopKiteTest s n) n
      if (coreAt s core.val).state ≠ 0 then .next s
      else
        let load := ((findRun s i.run).bind (fun r => mget s.kite.programs r.slot)).map (fun g => g.load)
        let s := modInst s i.run i.num (fun x => { x with state := .dispatched core.val, since := s.glb.lifetime, spill := none })
        let s := upKite s (fun k => { k with readyQ := k.readyQ.erase (i.run, i.num) })
        let s := modCore s core.val (fun c => { state := 2, image := load, inst := some (i.run, i.num),
                                                poison := if c.image = load then c.poison else [] })
        if spillPoisoned s i then .next (kiteFault s core.val i 7 i.regs.pc) else .next s

/-- A preemption is requested of a core while another instance waits, unless the hub's spill is full; the cycles it has been STALLED count
in its run time (R214, R216, R217, R231). -/
def preempt (s : State) (core : Nat) : State :=
  let n := core / 8
  if !(clusterAt s n).preempt || (waitingInst s n).isNone then s
  else if s.kite.spillSlots ≤ spillUsed s (n / 2) then modCluster s n (fun c => { c with skipped := satIncW 8 c.skipped })
  else
    let s := match (if (coreAt s core).state = 4 then executing s core else none) with
      | some i =>
        let t := cyclesOf s 0 true 0
        modInst t.2 i.run i.num (fun x => { x with regs := { x.regs with cycles := (x.regs.cycles + t.1) % 2 ^ 64 } })
      | none => s
    modCore s core (fun c => { c with state := 5 })

/-- The instance on a core has run for KCL_CFG.QUANTUM ms since its dispatch (R214). -/
def quantumOver (s : State) (core : Nat) : Bool :=
  match (coreAt s core).inst.bind (fun x => findInst s x.1 x.2) with
  | some i => decide (i.since + (clusterAt s (core / 8)).quantum ≤ s.glb.lifetime)
  | none => false

/-- QUANTUM_EXPIRY: one quantum since the dispatch is over (R214). -/
def execQuantumExpiry (core : CoreId) (s : State) : Out :=
  let c := coreAt s core.val
  if quantumOver s core.val && (c.state == 2 || c.state == 3 || c.state == 4) then .next (preempt s core.val) else .next s

/-- WAIT_PREEMPT: the instance has been WAITING for 100 µs (R214). -/
def execWaitPreempt (core : CoreId) (s : State) : Out :=
  let c := coreAt s core.val
  if c.inst.isSome && c.state == 3 then .next (preempt s core.val) else .next s

/-- What a saved context keeps of its lane: the block at the read position when partly consumed; the others are read again (R215, Table
8.7). -/
def Lane.saved (l : Lane) (first q : Nat) : Lane :=
  let keep := if l.used = 0 then 0 else 1
  let again := match (l.ring.drop keep ++ l.work).head? with
    | some b => b.lba - first
    | none => l.next
  let base := (l.offset + q - l.used) % q
  { l with ring := l.ring.take keep, work := [], next := again,
           mem := if keep = 0 then [] else l.mem.filter (fun c => decide (base ≤ c.1) && decide (c.1 < base + 4096)) }

/-- CONTEXT_SAVE_DONE: once its engine requests have completed the instance is saved, its core is free and it waits for a core again
(R214 to R217). -/
def execContextSaveDone (core : CoreId) (s : State) : Out :=
  let c := coreAt s core.val
  match c.inst.bind (fun x => findInst s x.1 x.2) with
  | none => .next s
  | some i =>
    if c.state ≠ 5 ∨ i.ports.busy then .next s
    else
      let first := match findRun s i.run with
        | some r => r.first
        | none => 0
      let s := (i.lane.ring ++ i.lane.work).foldl (fun s b => bandRead s b.band) s
      let slot := freeSlot s (i.cluster / 2)
      let s := modInst s i.run i.num (fun x => { x with
        state := .saved, resumed := true, spill := slot, lane := x.lane.saved first (ringOf s i) })
      let s := upDrc s (fun d => { d with poisoned := match slot with
        | some k => d.poisoned.filter (fun l => !(spillLines s (i.cluster / 2) k).contains l)
        | none => d.poisoned })
      let s := upKite s (fun k => { k with readyQ := k.readyQ ++ [(i.run, i.num)] })
      let s := modCluster s i.cluster (fun c => { c with preempts := (c.preempts + 1) % 2 ^ 24 })
      .next (modCore s core.val (fun c => { c with state := 0, inst := none }))

/-! ### Work lists (R206, R266, R267, R505) -/

/-- The hub that holds a codeword's channel (R25, R266). -/
def hubOf (s : State) (pa : Nat) : Nat := cwChannel s (paCw pa) / 8

/-- A resolved block of a lane's work list (R206 step 1, R267). -/
def laneBlock (s : State) (v lba : Nat) : Option LaneBlock × State :=
  let x := resolve s v lba
  let b : LaneBlock := { vol := v, lba, zero := false, recon := false, unrec := false, staging := false, data := [], entry := none, band := none }
  match x.1 with
  | .wait => (none, x.2)
  | .failed => (some { b with zero := true, unrec := true }, x.2)
  | .staged y => (some (if y.lost then { b with zero := true, unrec := true } else { b with staging := true, data := y.data, seq := y.seq }), x.2)
  | .entry e =>
    if e.form = .zero then (some { b with zero := true }, x.2)
    else
      let band := e.form.place.map (fun p => paBand p.1)
      let s := leafHit x.2 v (lba / 512)
      let s := match band with
        | some n => bandMod s n (fun y => { y with reads := y.reads + 1 })
        | none => s
      (some { b with entry := some e, band }, s)

/-- The hub of a relative block of a run, assigned once, with the block as it is resolved then, pinned for the lane that takes it: its
codeword's hub, or that of the block before it, or 0 (R25, R266, R505). None while the map is on its way. -/
def assignHub (s : State) (tag rel : Nat) : Option Nat × State :=
  match findRun s tag with
  | none => (none, s)
  | some r =>
    match mget r.hubs rel with
    | some h => (some h, s)
    | none =>
      let x := laneBlock s r.vol (r.first + rel)
      match x.1 with
      | none => (none, x.2)
      | some b =>
        let keep := fun (s : State) (h : Nat) =>
          (some h, modRun s tag (fun r => { r with hubs := mset r.hubs rel h, found := mset r.found rel b }))
        match b.entry.bind (fun e => e.form.place.map (·.1)), rel with
        | some pa, _ => keep x.2 (hubOf x.2 pa)
        | none, 0 => keep x.2 0
        | none, rel + 1 =>
          match assignHub x.2 tag rel with
          | (some h, s) => keep s h
          | (none, s) => (none, bandRead s b.band)

/-- The block that a lane's list takes: as it was resolved when its hub was assigned, or, for a block read again after a preemption, as
it stands now (R215, R267, R505; log entry 74). -/
def takeBlock (s : State) (r : Run) (rel : Nat) : Option LaneBlock × State :=
  match mget r.found rel with
  | some b => (some b, modRun s r.tag (fun r => { r with found := mdel r.found rel }))
  | none => laneBlock s r.vol (r.first + rel)

/-- A lane's list goes on to its next block: none when it is exhausted, 2,048 blocks ahead, or waits for the map (R267). -/
def extendOne (s : State) (tag k : Nat) : Option State × State :=
  match findInst s tag k with
  | some i =>
    let l := i.lane
    if l.stop ≤ l.next ∨ 2048 ≤ l.work.length + l.ring.length then (none, s)
    else
      match assignHub s tag l.next with
      | (none, s) => (none, s)
      | (some h, s) =>
        let step := fun (s : State) (b : List LaneBlock) =>
          (some (modInst s tag k (fun x => { x with lane := { x.lane with next := x.lane.next + 1, work := x.lane.work ++ b } })), s)
        if h ≠ k % 4 then step s []
        else
          match (findRun s tag).map (fun r => takeBlock s r l.next) with
          | some (some b, s) => step s [b]
          | some (none, s) => (none, s)
          | none => (none, s)
  | _ => (none, s)

/-- Extend a list by up to `n` blocks of the run. -/
def extendList (s : State) (tag k n : Nat) : State :=
  match n with
  | 0 => s
  | n + 1 =>
    match extendOne s tag k with
    | (some s, _) => extendList s tag k n
    | (none, s) => s

/-- WORKLIST_EXTEND (R267). -/
def execWorklistExtend (run num : Nat) (s : State) : Out :=
  match findInst s run num with
  | none => .next s
  | some i =>
    match i.state with
    | .dispatched _ => .next (rouse (extendList s run num (i.lane.stop - i.lane.next)) run num)
    | _ => .next s

/-! ### Lane blocks (R206 to R208) -/

/-- A whole block is written into its slot and becomes visible (R208). -/
def publish (s : State) (i : Instance) (b : LaneBlock) : State :=
  let q := ringOf s i
  let l := i.lane
  let slot := (l.offset + q - l.used + 4096 * l.ring.length) % q
  let data := fit 4096 (if b.zero then [] else b.data)
  let shown := { b with data, entry := none, band := none }
  let s := bandRead s b.band
  let base := (0x300000 - q + slot) / 64
  let s := modInst s i.run i.num (fun x => { x with
    poison := x.poison.filter (fun l => !(decide (base ≤ l) && decide (l < base + 64)))
    lane := { x.lane with work := x.lane.work.drop 1, ring := x.lane.ring ++ [shown], mem := storeAll x.lane.mem slot data } })
  let s := modRun s i.run (fun r => { r with
    recon := if b.recon then linsert r.recon b.lba else r.recon, unrec := if b.unrec then linsert r.unrec b.lba else r.unrec })
  let s := modCluster s i.cluster (fun c => { c with
    laneBytes := (c.laneBytes + 4096) % 2 ^ 64,
    stagingBlocks := if b.staging then wrapInc c.stagingBlocks else c.stagingBlocks,
    reconBlocks := if b.recon then satInc c.reconBlocks else c.reconBlocks })
  rouse s i.run i.num

/-- The key under which a located block was stored is the volume's still: a deleted or re-keyed volume's blocks read no more (R149, R179;
DEDUCED, log entry 29). -/
def keyStands (s : State) (b : LaneBlock) (e : MapEntry) : Bool :=
  match e.form.place, mget s.med.volumes b.vol with
  | _, none => false
  | some (pa, _), some v =>
    (match storedAt s pa with
      | some x => x.keyId == v.keyId
      | none => true)
  | none, some _ => true

/-- Read the block at the head of a lane's list (R206, R207, R305): published, or still on its way. A block that failed inflation is marked
as one to recover. -/
def laneRead (s : State) (i : Instance) (b : LaneBlock) (m : MediaIn) : State :=
  let lost := { b with zero := true, unrec := true, recon := false }
  match b.entry with
  | none =>
    if b.staging ∧ m.badStaged.contains (b.vol, b.lba) then
      let t := stagedBad s b.vol b.lba
      publish t i (if mirroring s then b else { lost with staging := false })
    else publish s i b
  | some e =>
    if !keyStands s b e then publish s i lost
    else
      let r := fetchEntry s m b.vol b.lba e b.recon
      let done := fun (x : LaneBlock) => publish (entryEffects r.2 m b.vol b.lba e) i x
      match r.1 with
      | .wait => r.2
      | .failed => done lost
      | .data d peer => done { b with data := d, recon := b.recon || peer }
      | .packed d =>
        match inflateBlock d with
        | some x => done { b with data := x }
        | none =>
          let s := raise (upCmp r.2 (fun c => { c with inflateFail := satInc c.inflateFail })) (unit islCmp 3)
          modInst s i.run i.num (fun x => { x with lane := { x.lane with work := { b with recon := true } :: x.lane.work.drop 1 } })

/-- LANE_BLOCK_VISIBLE: a lane of a dispatched instance with a free slot reads the next block of its list (R208). -/
def execLaneBlockVisible (run num : Nat) (media : MediaIn) (s : State) : Out :=
  match findInst s run num with
  | none => .next s
  | some i =>
    match i.state, i.lane.work with
    | .dispatched c, b :: _ =>
      if (coreAt s c).state = 5 ∨ ringOf s i ≤ 4096 * i.lane.ring.length then .next s else .next (laneRead s i b media)
    | _, _ => .next s

/-! ### Timers and mail (R222, R269) -/

/-- TIMER_EXPIRY: a running timer reaches zero (R222). -/
def execTimerExpiry (run num timer : Nat) (s : State) : Out :=
  match findInst s run num with
  | none => .next s
  | some i =>
    if i.state = .ended ∨ 1 < timer ∨ (if timer = 0 then i.timer0 else i.timer1) = 0 then .next s
    else
      .next (latchEvent (modInst s run num (fun x => if timer = 0 then { x with timer0 := 0 } else { x with timer1 := 0 })) run num (3 + timer))

/-- The word as it arrives: its destination replaced by its sender (R269). -/
def mailWord (sender : Nat) (w : Word) : Word := word (w.toNat % 2 ^ 26 + sender * 2 ^ 26)

/-- A word reaches its destination: discarded where that has ended or does not exist; none while its mailbox is full (R269). -/
def mailTo (s : State) (run sender dest : Nat) (w : Word) : Option State :=
  match findInst s run dest with
  | none => some s
  | some d =>
    if d.state = .ended then some s
    else if 8 ≤ d.inbox.length then none
    else some (rouse (modInst s run dest (fun x => { x with inbox := x.inbox ++ [mailWord sender w] })) run dest)

/-- MBOX_DELIVER: the oldest word of a sender that has halted, or the head of a sender's outbound queue, goes to its destination (R269). -/
def execMboxDeliver (run sender dest : Nat) (s : State) : Out :=
  match s.kite.mail.find? (fun m => m.1 == run && m.2.1 == sender) with
  | some m =>
    if m.2.2.1 ≠ dest then .next s
    else
      match mailTo s run sender dest m.2.2.2 with
      | some t => .next (upKite t (fun k => { k with mail := k.mail.erase m }))
      | none => .next s
  | none =>
    match findInst s run sender with
    | some i =>
      (match i.outbox with
        | w :: rest =>
          if w.toNat / 2 ^ 26 ≠ dest then .next s
          else
            match mailTo s run sender dest w with
            | some t => .next (modInst t run sender (fun x => { x with outbox := rest }))
            | none => .next s
        | [] => .next s)
    | none => .next s

/-! ### Engine requests end (R254 to R258, R272) -/

/-- The message of an instance that has ended goes once its request has run to completion (R251, R273). -/
def dropEnded (s : State) (i : Instance) : State := if i.state = .ended then dgDrop s i else s

/-- A digest request ends: a feed is absorbed, or a final gives the digest and frees the context (R256, R310). A poisoned source line
zeroises (R316). -/
def digestDone (s : State) (i : Instance) (check : LineCheck) : State :=
  match i.ports.dgCtx.bind (fun n => (mget s.sec.contexts n).map (fun c => (n, c))) with
  | none => s
  | some (n, c) =>
    if !i.ports.dgBusy then s
    else
      match i.ports.dgFeed with
      | some b =>
        let s := checkRange s i i.ports.dgFrom b.length check
        if poisonedIn s (instNow s i) i.ports.dgFrom b.length then zeroise s 1
        else
          let now := sourceNow s (instNow s i) i.ports.dgFrom b
          let s := upSec now.2 (fun e => { e with contexts := mset e.contexts n { c with data := c.data ++ now.1 } })
          dropEnded (latchEvent (modPorts s i (fun p => { p with dgBusy := false, dgFeed := none })) i.run i.num 6) i
      | none =>
        let key := match c.hmac with
          | some k => mgetD s.sec.hmacKeys k []
          | none => []
        let s := upSec s (fun e => { e with contexts := mdel e.contexts n })
        latchEvent (modPorts s i (fun p => { p with
          dgBusy := false, dgCtx := none, dgDone := true, dgOut := digestOf c.alg key c.data })) i.run i.num 6

/-- A compression request ends with its status, DETAIL and output length (R257). -/
def cpEnd (s : State) (i : Instance) (status detail len : Nat) : State :=
  latchEvent (modPorts s i (fun p => { p with cpBusy := false, cpReq := none, cpResult := status + 65536 * detail, cpOutLen := len })) i.run i.num 7

/-- A compression request on its pipe runs (R257, R297 to R302; Table 12.5). Where its destination is undefined its bytes are open. -/
def compressDone (s : State) (i : Instance) (check : LineCheck) (checker : Checker) : State :=
  match i.ports.cpReq with
  | none => s
  | some (mode, b, dst, cap) =>
    let r := kitePipe i (bit mode 0)
    if !onPipe s r then askPipe s r
    else
      let gain := gainOf s r (mode / 256 % 256)
      let s := checkRange (leavePipe s r) i i.ports.cpFrom b.length check
      let lost := fun (s : State) =>
        let u := freeBytes s cap
        (dataWrite u.2 i dst u.1).getD u.2
      if poisonedIn s (instNow s i) i.ports.cpFrom b.length then cpEnd (lost s) i stInvalidField 0x301 0
      else
        let now := sourceNow s (instNow s i) i.ports.cpFrom b
        let s := now.2
        let out := fun (s : State) (d : List Byte) => (dataWrite s i dst d).getD s
        if bit mode 0 then
          match inflate (mode / 2 % 4) now.1 cap with
          | .ok d => cpEnd (out (upCmp s (fun c => { c with decBytes := (c.decBytes + d.length) % 2 ^ 64 })) d) i stSuccess 0 d.length
          | .error .overflow => cpEnd (lost s) i stLengthLong 2 0
          | .error (.malformed d _) =>
            cpEnd (lost (upCmp s (fun c => { c with formatErrors := satInc c.formatErrors }))) i stDecomp d 0
        else
          let s := upCmp s (fun c => { c with inBytes := (c.inBytes + b.length) % 2 ^ 64 })
          match compressReq (mode / 2 % 4) (bit mode 3) (bit mode 4) false gain cap now.1 checker with
          | .success d => cpEnd (out (upCmp s (fun c => { c with outBytes := (c.outBytes + d.length) % 2 ^ 64 })) d) i stSuccess 0 d.length
          | .stored _ => cpEnd (lost s) i stNoGain 0 0
          | .noGain => cpEnd (lost (upCmp s (fun c => { c with noGain := wrapInc c.noGain }))) i stNoGain 0 0
          | .mismatch => cpEnd (lost (verifyFailed s)) i stVerify 0 0

/-- Bytes go to the run's destination stream at an offset (R270). -/
def deliverRun (s : State) (o : Op) (off : Nat) (b : List Byte) : State :=
  if o.pkt.arena then arenaWrite s (o.pkt.dptr + off) b else deliver s o off b

/-- One of the partial lines that a delivery to the Arena merges into is read and checked; which one is open. A line taken for another
is that one from then on (R23, R190, R272; log entries 10 and 12). -/
def checkMerge (s : State) (a n : Nat) (check : LineCheck) : State :=
  let parts := (partialLines a n).filter (fun x => !s.drc.poisoned.contains (arenaLine s (a + x.1)))
  if parts.isEmpty then s
  else
    let r := freeBelow s parts.length
    let at_ := a + (parts.getD r.1 (0, 0)).1
    let line := arenaLine s at_
    let v := lineVerdict r.2 line check
    match v with
    | .clean => r.2
    | .uncorrectable => dramBad r.2 line none
    | _ =>
      let s := dramCorrected r.2 line check
      { s with arena := storeNonzero s.arena (64 * (at_ / 64)) (v.deliver (loadZero s.arena (64 * (at_ / 64)) 64)) }

/-- Source bytes of a request: those of a poisoned line are open (R22; log entry 12). -/
def sourceBytes (s : State) (i : Instance) (a : Nat) (b : List Byte) : List Byte × State :=
  let now := sourceNow s i a b
  if !poisonedIn s i a b.length then now
  else
    let f := freeBytes now.2 b.length
    (((List.range b.length).zip (now.1.zip f.1)).map (fun x => if poisonedAt s i (a + x.1) then x.2.2 else x.2.1), f.2)

/-- A DMA request ends: delivered, refused as FULL, or failed where it must merge into an Arena line that cannot be corrected: that line
takes nothing, the others are written, and the run ends. `check` is of the merged line where there is one, else of a source line
(R258, R270 to R272). -/
def dmaDone (s : State) (i : Instance) (check : LineCheck) : State :=
  let ends := fun (s : State) (bad_ : Bool) =>
    latchEvent (modPorts s i (fun p => { p with dmaBusy := false, dmaReq := none, dmaError := bad_ })) i.run i.num 8
  match i.ports.dmaReq, findOp s i.run with
  | some (off, b), some o =>
    if !o.pkt.arena && !ioUp s then s
    else
      let at_ := o.pkt.dptr + off
      let merges := o.pkt.arena && !(partialLines at_ b.length).isEmpty
      let s := if merges then checkMerge s at_ b.length check else checkRange s i i.ports.dmaFrom b.length check
      let now := sourceBytes s (instNow s i) i.ports.dmaFrom b
      let w := if merges then writtenSpan s at_ b.length else (0, b.length)
      let failed := merges && !(poisonedParts s at_ b.length).isEmpty
      let s := deliverRun now.2 o off now.1
      let s := if w.1 < w.2 then modRun s i.run (fun r => { r with extent := max r.extent (off + w.2) }) else s
      if failed then endRun (ends s true) i.run { status := stInvalidField, detail := 0x18 } else ends s false
  | _, _ => ends s false

/-- ENGINE_REQUEST_DONE: an instance's request completes and sets its event (R254, R273). -/
def execEngineRequestDone (run num : Nat) (engine : EngineId) (check : LineCheck) (checker : Checker) (s : State) : Out :=
  match findInst s run num with
  | none => .next s
  | some i =>
    match engine with
    | .waymark =>
      (match s.way.queue.find? (fun q => q.run == run && q.num == num) with
        | some q =>
          if s.way.queue.find? (fun x => x.table == q.table) = some q then
            let t := wTable s q.table
            if (t.en && !t.ready) || inReset s islWay then .next s else .next (serveSearch s q)
          else .next s
        | none => .next s)
    | .digest => if i.ports.dgBusy && !inReset s islCrypt then .next (digestDone s i check) else .next s
    | .compress => if i.ports.cpBusy then .next (compressDone s i check checker) else .next s
    | .dma => if i.ports.dmaBusy then .next (dmaDone s i check) else .next s

end Sys2Proof.Machine
end

