-- ==== Sys2Proof/Machine/Health.lean ====
section
/-! DEFINITION. Ageing, margins and in-service test (chapter 18): the control loop, thermal throttling, AVSBus, the margin planner, test
slices and forced windows, and HEALTH_QUERY, MARGIN_PLAN and TEST_CONTROL. -/

namespace Sys2Proof.Machine

open Sys2Proof

/-! ### The health page (R450) -/

/-- A signed number in 16 bits. -/
def int16 (x : Int) : List Byte := le 2 ((x + 65536) % 65536).toNat

/-- The hottest island: the lowest number among those of the highest temperature. -/
def hottest (s : State) : Nat :=
  (List.range 45).foldl (fun b i => if (margin s b).temperature < (margin s i).temperature then i else b) 0

/-- An island's 8 bytes of the health page. -/
def healthIsland (s : State) (i : Nat) : List Byte :=
  let m := margin s i
  int16 m.temperature ++ le 2 m.vNow ++ le 2 (nominalMhz i * m.now / 32) ++ le 1 m.slack ++
    le 1 (b2n (decide (m.now < 32)) + 2 * b2n m.failed + 4 * b2n m.bankLost)

/-- The health page (Table 18.15). -/
def healthPage (s : State) : List Byte :=
  let w := worstIsland s
  fit 4096 (fit 128 (le 2 1 ++ zeros 2 ++ le 4 (glbStatus s) ++ le 8 s.glb.lifetime ++ le 1 (spareReport s) ++
    le 1 ((worstChannel s).map (fun c => c.number) |>.getD 0) ++ le 2 (spareLevel s) ++ le 1 s.pwr.state ++ le 1 s.pair.state ++
    le 1 (pairStatus s / 8 % 32) ++ zeros 1 ++ le 4 (fltStatus s) ++ le 4 (secStatus s) ++ le 4 (hstLinkStatus s) ++
    le 4 s.hlt.life ++ le 1 w ++ le 1 (headroom s w) ++ le 1 (hottest s) ++ zeros 1 ++
    int16 ((margin s (hottest s)).temperature) ++ le 1 (b2n s.hlt.throttling) ++ zeros 1 ++
    le 4 s.med.bands.length ++ le 4 (bandCount s .free) ++ le 4 (overdueBands s) ++ le 4 (medJournal s) ++ le 4 (medDump s) ++
    le 4 (drcStatus s) ++ le 4 s.drc.corrected ++ le 4 s.drc.uncorrectable ++ (List.range 4).flatMap (fun c => le 4 (drcMark s c)) ++
    le 4 (meshStatus s)) ++ (List.range 45).flatMap (healthIsland s))

/-- HEALTH_QUERY (R450). -/
def execHealthQuery (tag : Nat) (s : State) : Out :=
  match opFor s tag 0x0903 with
  | none => .next s
  | some o => if !outUp s o then .next s else .next (finish (deliver s o 0 (healthPage s)) tag (ok 0 (spareReport s)))

/-! ### Rail, loop and throttling (R430 to R437) -/

/-- The rail cannot rise and no target is lowered: three AVSBus writes have failed and none has succeeded since (R437). -/
def avsStuck (s : State) : Bool := decide (3 ≤ s.hlt.avsTries)

/-- VDD_CORE: the highest island target plus 10 mV, never above 850 mV (R432). -/
def setRail (s : State) : State :=
  if avsStuck s then s
  else upHlt s (fun h => { h with rail := min 850 ((h.islands.map (fun i => i.vNow)).foldl max 0 + 10) })

/-- An override is counted and raises the island's UNIT_NOTE (R435). -/
def override (s : State) (i : Nat) : State := raise (upHlt s (fun h => { h with overrides := satInc h.overrides })) (unit i 7)

/-- The loop's next action on an island, in the order of Table 18.1, and whether it is an override. -/
def nextAction (s : State) (i : Nat) : Option (LoopAction × Bool) :=
  let m := margin s i
  let rise := !avsStuck s
  if rise ∧ m.vNow + 5 ≤ s.hlt.vmax then some (.volt, false)
  else if 1 < m.now ∧ s.hlt.floor * 32 ≤ (m.now - 1) * 100 then some (.clock, false)
  else if rise ∧ m.vNow + 5 ≤ 850 then some (.volt, true)
  else if 1 < m.now then some (.clock, true)
  else none

/-- LOOP_ACTION: an island's slack reads 1 or 0 and the loop takes its next action, but in a test slice (R433). -/
def execLoopAction (island slack : Nat) (s : State) : Out :=
  if 45 ≤ island ∨ 2 ≤ slack ∨ s.hlt.slice = some island ∨ s.pwr.state = 3 then .next s
  else
    let s := modIsland s island (fun m => { m with slack })
    match nextAction s island with
    | none => .next s
    | some (a, outside) =>
      let s := modIsland s island (fun m => match a with
        | .volt => { m with vNow := m.vNow + 5, actions := .volt :: m.actions, actedAt := s.glb.lifetime }
        | .clock => { m with now := m.now - 1, actions := .clock :: m.actions, actedAt := s.glb.lifetime })
      let s := setRail s
      .next (if outside then override s island else s)

/-- LOOP_UNDO: slack has read SLACK_TARGET + 2 or more for 100 ms since the loop last acted, and the loop undoes its latest action, until the
island is back at its plan (R433). -/
def execLoopUndo (island slack : Nat) (s : State) : Out :=
  if 45 ≤ island ∨ 8 < slack ∨ slack < s.hlt.slackTarget + 2 ∨ s.hlt.slice = some island ∨ s.pwr.state = 3 ∨
      s.glb.lifetime < (margin s island).actedAt + 100 then .next s
  else
    let stuck := avsStuck s
    let lower := fun (m : IslandMargin) => { m with vNow := if stuck then m.vNow else max m.vTarget (m.vNow - 5) }
    .next (setRail (modIsland s island (fun m =>
      let m := { m with slack, actedAt := s.glb.lifetime }
      match m.actions with
      | .volt :: rest => lower (if stuck then m else { m with actions := rest })
      | .clock :: rest => { m with actions := rest, now := min m.limit (m.now + 1) }
      | [] => if m.vTarget < m.vNow then lower m else m)))

/-- DEGRADATION_MEASURE: the measurement of an island's ring-oscillator pairs, an hour after the last one (R431). -/
def execDegradationMeasure (island degradation : Nat) (s : State) : Out :=
  if s.glb.lifetime < (margin s island).measuredAt + 3600000 then .next s
  else .next (modIsland s island (fun m => { m with degradation, measuredAt := s.glb.lifetime }))

/-- THERMAL_THROTTLE: the sensors are read, one reading for each island in 0.1 °C. At 100 °C or more the device throttles, until it reads
less than 98 °C: the first step of the caps comes at once, and the later ones with time (`thermalStep`). At 115 °C THERMAL_SHUTDOWN is raised
(R436, R496). -/
def execThermalThrottle (readings : List Int) (s : State) : Out :=
  if readings.length ≠ 45 then .next s
  else
    let top := readings.foldl max (readings.headD 0)
    let s := upGlb (upHlt s (fun h => { h with islands := (h.islands.zip readings).map (fun x => { x.1 with temperature := x.2 }) }))
      (fun g => { g with junction := top / 10 })
    let was := s.hlt.throttling
    let acts := decide (1000 ≤ top) || (was && decide (980 ≤ top))
    let s := upHlt s (fun h => { h with throttling := acts })
    let s := if acts && !was then raise (thermalMove s) srcThrottle else thermalStep s
    .next (if 1150 ≤ top then raise s srcShutdown else s)

/-- AVS_WRITE_FAIL: the regulator does not acknowledge a write, or the read-back differs by more than 10 mV. The third failure sets
AVS_FAULT with a Deferred fault of AON (R437). -/
def execAvsWriteFail (s : State) : Out :=
  let n := min 3 (s.hlt.avsTries + 1)
  let fresh := decide (s.hlt.avsTries = 2)
  let s := upHlt s (fun h => { h with avsErrors := satInc h.avsErrors, avsTries := n, avsFault := h.avsFault || fresh })
  .next (if fresh then raise s (unit islAon 3) else s)

/-! ### Slices (R441, R442) -/

/-- An island has work: a cluster its instances, a link or a channel what waits at it, an engine its requests, and any other island the work
that keeps the device from being idle (R395, R442; DEDUCED, log entry 89). -/
def islandBusy (s : State) (i : Nat) : Bool :=
  match kiteIsland i with
  | some n => clusterBusy s n
  | none =>
    if i = islTether then !s.pair.out.isEmpty
    else if islTrail 0 ≤ i ∧ i ≤ islTrail 5 then !(portAt s (i - 8)).out.isEmpty
    else if islDram 0 ≤ i ∧ i ≤ islDram 3 then
      s.drc.retraining.contains (i - 14) || s.drc.subs.any (fun x => x.1 / 2 == i - 14 && !x.2.queue.isEmpty)
    else if i = islCrypt then s.sec.contexts.any (fun c => !c.2.parts.isEmpty)
    else if i = islCmp then !(s.cmp.comp.isEmpty && s.cmp.decomp.isEmpty && s.cmp.waiting.isEmpty)
    else if i = islWay then !s.way.queue.isEmpty
    else !deviceIdle s

/-- A slice may start on an island: it and every other are free of slices, in Run or Glide, and it is idle (R441, R442). -/
def sliceFree (s : State) (i : Nat) : Bool :=
  !(s.hlt.slice.isSome || decide (2 ≤ s.pwr.state) || s.pwr.trans.isSome || islandBusy s i || inReset s i || s.med.dumpActive)

/-- A slice wakes only its island (R441). -/
def wakeFor (s : State) (i : Nat) : State :=
  upPwr s (fun p => { p with gated := p.gated.filter (· != i), retained := p.retained.filter (· != i) })

/-- After its slice an island goes back into Glide, where the device is in it or on its way there (R441). -/
def backToGlide (s : State) (i : Nat) : State :=
  let glides := match s.pwr.trans with
    | some t => !t.exit && decide (1 ≤ t.phase) && t.origin != 3
    | none => s.pwr.state == 1
  if glides && glideIslands.contains i then upPwr s (fun p => { p with gated := linsert p.gated i, retained := linsert p.retained i }) else s

/-- A slice ends, however it ends. -/
def endSlice (s : State) (i : Nat) : State :=
  let s := backToGlide (upHlt s (fun h => { h with slice := none, measuring := false })) i
  match kiteIsland i with
  | none => s
  | some n =>
    let s := modCluster s n (fun c => { c with test := false })
    settleRing ((List.range 8).foldl (fun s k =>
      modCore s (8 * n + k) (fun c => if c.state = 6 then { c with state := 0 } else c)) s) n

/-! ### The planner (R438 to R440) -/

/-- A plan starts with the policy bands latched (R438, Table 18.7). -/
def startPlan (s : State) : State :=
  upHlt s (fun h => { h with
    planRunning := true, latched := some (h.vmin, h.vmax, h.floor, h.slackTarget), planStart := s.glb.lifetime, coldDue := false,
    found := PlanFound.none })

/-- What a plan sets for an island. -/
structure Planned where
  cap : Nat
  target : Nat
  floorMv : Nat
  clamped : Bool
  slack : Nat
  deriving DecidableEq, Repr

/-- The plan of an island from its sweep under the latched bands (R438). The search for a target begins at VMIN. -/
def planOf (vmin vmax floor slack : Nat) (p : PlanIsland) : Planned :=
  let steps : List (Nat × Nat × Nat) := p.sweep.filter (fun (x : Nat × Nat × Nat) => decide (floor * 32 ≤ x.1 * 100) && decide (x.1 ≤ 32))
  let pick : Nat × Nat × Nat × Nat := match steps.find? (fun (x : Nat × Nat × Nat) => decide (max vmin x.2.1 ≤ vmax)) with
    | some x => (x.1, max vmin x.2.1, x.2.2, slack)
    | none => ((floor * 32 + 99) / 100, vmax, (steps.getLast?.map (fun (x : Nat × Nat × Nat) => x.2.2)).getD 0, 2)
  let least := max pick.2.2.1 650
  { cap := pick.1, target := min 850 (max pick.2.1 least), floorMv := pick.2.2.1, clamped := decide (pick.2.1 < least), slack := pick.2.2.2 }

/-- Apply the plan of an island through the loop: a higher target that the loop has raised stands, values are clamped to bands written
since the plan began, and a clamp is an override (R438, Table 18.7). -/
def applyIsland (s : State) (bands : Nat × Nat × Nat × Nat) (p : PlanIsland) : State :=
  let q := planOf bands.1 bands.2.1 bands.2.2.1 bands.2.2.2 p
  let same := bands == (s.hlt.vmin, s.hlt.vmax, s.hlt.floor, s.hlt.slackTarget)
  let target := if same then q.target else max s.hlt.vmin (min s.hlt.vmax q.target)
  let cap := if same then q.cap else max ((s.hlt.floor * 32 + 99) / 100) q.cap
  let stuck := avsStuck s
  let atNominal := ((p.sweep.find? (fun (x : Nat × Nat × Nat) => x.1 == 32)).map (fun x => x.2.2)).getD q.floorMv
  let s := modIsland s p.island (fun m =>
    let m := { m with vTarget := target, cap, vFloor := atNominal, degradation := p.degradation, life := min 0xFFFFFFFF p.life,
                      clamped := q.clamped }
    { m with
      vNow := if stuck || m.actions.contains .volt then max m.vNow target else target,
      now := if m.actions.contains .clock then min m.now m.limit else m.limit })
  if q.clamped then override s p.island else s

/-- An island's entry of log 0x04: FLAGS [0] capped below nominal, [1] clamped, [2] uncovered (Table 18.8). -/
def planRow (s : State) (bands : Nat × Nat × Nat × Nat) (l : List PlanIsland) (i : Nat) : List Nat :=
  let m := margin s i
  let q := (l.find? (fun p => p.island == i)).map (planOf bands.1 bands.2.1 bands.2.2.1 bands.2.2.2)
  [m.vTarget, (q.map (fun x => x.floorMv)).getD m.vFloor, nominalMhz i * m.cap / 32, (q.map (fun x => x.slack)).getD m.slack,
   b2n (decide (m.cap < 32)) + 2 * b2n m.clamped + 4 * b2n (decide (2 ≤ i) && decide (24 ≤ m.coverAge)), m.degradation, m.life]

/-- Apply what the plan found for a band: its offsets at the next read, and the patrol interval halved down to one day where more than
1 % of its codewords needed level 1 (Table 18.3). -/
def applyBand (s : State) (p : PlanBand) : State :=
  match mget s.med.bands p.band with
  | none => s
  | some b =>
    if b.state ≠ .closed then s
    else
      let f := feature s 3
      let now := ((mget s.hlt.offsets p.band).map (fun x => min f x.days)).getD f
      upHlt s (fun h => { h with offsets := mset h.offsets p.band {
          offset := p.offset, retry := p.retry, days := if p.often then max 1 (now / 2) else f } })

/-- A plan ends: its outputs are applied and written to log 0x04, and every MARGIN_PLAN that waits for it replies (R438 to R440, Table
18.8). -/
def finishPlan (s : State) (part : Bool) : State :=
  match s.hlt.latched with
  | none => s
  | some bands =>
    let f := s.hlt.found
    let moved := (f.bands.filter (fun b => ((mget s.hlt.offsets b.band).map (fun x => x.offset)).getD 8 != b.offset)).length
    let short := (f.bands.filter (fun b => b.often)).length
    let s := f.islands.foldl (fun s p => applyIsland s bands p) s
    let s := upHlt (setRail (f.bands.foldl applyBand s)) (fun h => { h with avsTries := 0 })
    let life := (s.hlt.islands.map (fun m => m.life)).foldl min 0xFFFFFFFF
    let log : PlanLog :=
      { no := s.hlt.planNo + 1, partialPlan := part, time := s.glb.lifetime, duration := s.glb.lifetime - s.hlt.planStart, life,
        worst := worstIsland s, headroom := headroom s (worstIsland s), bandsMoved := moved, bandsShort := short,
        overrides := s.hlt.overrides - s.hlt.planOverrides, window := f.window,
        islands := (List.range 45).map (planRow s bands f.islands), measured := f.measured }
    let tags := s.hlt.planTags
    let s := upHlt s (fun h => { h with
      planRunning := false, latched := none, planTags := [], planNo := wrapInc h.planNo, life, planLog := some log,
      planOverrides := h.overrides, found := PlanFound.none })
    tags.foldl (fun s t => finish s t (ok 0 0)) s

/-- The daily plan is due: 24 h after the start of the latest plan, or within 1 h after READY at a cold start (R438, R440). -/
def planDue (s : State) : Bool :=
  s.glb.ready && (s.hlt.coldDue || decide (s.hlt.planStart + 86400000 ≤ s.glb.lifetime))

/-- Add a batch of measurements, the latest of an island or band counting. -/
def PlanFound.add (a b : PlanFound) : PlanFound :=
  { islands := a.islands.filter (fun x => !b.islands.any (fun y => y.island == x.island)) ++ b.islands,
    bands := a.bands.filter (fun x => !b.bands.any (fun y => y.band == x.band)) ++ b.bands,
    window := if b.window = 0 then a.window else b.window,
    measured := if b.measured.isEmpty then a.measured else b.measured }

/-- A measurement takes its slice on an island (R443); a demand on a Kite cluster meets it as it meets a test (Table 8.11). -/
def startMeasure (s : State) (i : Nat) : State :=
  let s := wakeFor (upHlt s (fun h => { h with slice := some i, measuring := true })) i
  match kiteIsland i with
  | some n => modCluster s n (fun c => { c with test := true })
  | none => s

/-- A measurement's slice completes with what it found of its island and of bands; the plan ends once every island is measured (R438,
R443). -/
def endMeasure (s : State) (i : Nat) (found : PlanFound) : State :=
  let s := endSlice (upHlt s (fun h => { h with slicesDone := wrapInc h.slicesDone })) i
  let s := upHlt s (fun h => { h with found := h.found.add { found with islands := found.islands.filter (fun p => p.island == i) } })
  if (List.range 45).all (fun i => s.hlt.found.islands.any (fun p => p.island == i)) then finishPlan s false else s

/-- PLANNER_RUN: a due plan starts, and a running one measures one island after another in slices: the measurement of `island` takes its
slice, or ends with what it found. The sweep pauses while the device throttles (R438, R440, R443, Table 18.7). -/
def execPlannerRun (island : Nat) (found : PlanFound) (s : State) : Out :=
  if 45 ≤ island || s.hlt.throttling || (!s.hlt.planRunning && !planDue s) then .next s
  else
    let s := if s.hlt.planRunning then s else startPlan s
    if s.hlt.measuring then (if s.hlt.slice = some island then .next (endMeasure s island found) else .next s)
    else if sliceFree s island then .next (startMeasure s island)
    else .next s

/-- A measurement under way is given up with its plan. -/
def dropMeasure (s : State) : State :=
  match s.hlt.slice with
  | some i => if s.hlt.measuring then endSlice s i else s
  | none => s

/-- PLAN_TIMEOUT: a plan unfinished 2 h after its start ends with what it has measured (R438). -/
def execPlanTimeout (s : State) : Out :=
  if s.hlt.planRunning ∧ !s.flt.faultN ∧ s.hlt.planStart + 7200000 ≤ s.glb.lifetime then .next (finishPlan (dropMeasure s) true) else .next s

/-- MARGIN_PLAN (R440). -/
def execMarginPlan (tag : Nat) (s : State) : Out :=
  match opFor s tag 0x0904 with
  | none => .next s
  | some o =>
    if o.stage = .running then .next s
    else if bit o.pkt.p0 0 then .next (finish s tag (ok 0 0))
    else
      let s := if s.hlt.planRunning then s else startPlan s
      .next (running (upHlt s (fun h => { h with planTags := h.planTags ++ [tag] })) tag)

/-! ### Test slices and forced windows (R441 to R446) -/

/-- A new set of an island: 1 to 16 slices, a number the manual leaves open (Table 18.5). -/
def newSet (s : State) (i : Nat) : State :=
  let r := freeBelow s 16
  modIsland r.2 i (fun m => { m with outstanding := r.1 + 1 })

/-- The slices of an island's set still to run, a new set once none is left. -/
def needSet (s : State) (i : Nat) : State := if (margin s i).outstanding = 0 then newSet s i else s

/-- A Kite cluster under test has one core in state TEST, which the manual leaves open, or none where the slice is of another kind
(R212, Table 18.5). -/
def testCluster (s : State) (i : Nat) : State :=
  match kiteIsland i with
  | none => s
  | some n =>
    let s := modCluster s n (fun c => { c with test := true })
    let r := freeBelow s 9
    if r.1 < 8 ∧ (coreAt r.2 (8 * n + r.1)).state = 0 then modCore r.2 (8 * n + r.1) (fun c => { c with state := 6 }) else r.2

/-- TEST_SLICE_START: an island idle for 100 µs takes a slice, in Run or Glide, while slices are not paused (R441, R442, R446). -/
def execTestSliceStart (island : Nat) (s : State) : Out :=
  if island < 2 ∨ 45 ≤ island ∨ s.hlt.paused ∨ !sliceFree s island then .next s
  else .next (testCluster (needSet (wakeFor (upHlt s (fun h => { h with slice := some island })) island) island) island)

/-- TEST_SLICE_ABORT: a demand reaches the island under test or under measurement; the slice is counted as aborted and runs again later
(R442, R443). -/
def execTestSliceAbort (island : Nat) (s : State) : Out :=
  if s.hlt.slice = some island then
    .next (endSlice (upHlt s (fun h => { h with slicesAborted := wrapInc h.slicesAborted })) island)
  else .next s

/-- A test of an island fails: TEST_FAIL, and the set begins again; a crypto known-answer test also enters the error state
(R332, R445). -/
def testFails (s : State) (i : Nat) (crypto : Bool) : State :=
  let s := modIsland (newSet s i) i (fun m => { m with failed := true })
  let s := raise s (unit i 6)
  if crypto then enterError s else s

/-- TEST_SLICE_DONE: the slice completes, and with the last of the set the island is covered; or it fails (R444, R445). -/
def execTestSliceDone (island : Nat) (ok crypto : Bool) (s : State) : Out :=
  if s.hlt.slice ≠ some island ∨ s.hlt.measuring then .next s
  else
    let s := endSlice (upHlt s (fun h => { h with slicesDone := wrapInc h.slicesDone })) island
    if !ok then .next (testFails s island crypto)
    else
      .next (modIsland s island (fun m =>
        if m.outstanding ≤ 1 then { m with outstanding := m.outstanding - 1, coverAge := 0, coveredAt := s.glb.lifetime }
        else { m with outstanding := m.outstanding - 1 }))

/-- FORCED_WINDOW_ANNOUNCE: an island's coverage age has reached 144 h (R444). -/
def execForcedWindowAnnounce (island : Nat) (s : State) : Out :=
  let m := margin s island
  if island < 2 ∨ 45 ≤ island ∨ s.hlt.forced ∨ m.coverAge < 144 then .next s
  else
    .next (upHlt s (fun h => { h with
      forced := true, forcedIsland := island, forcedAt := s.glb.lifetime + (168 - m.coverAge) * 3600000 }))

/-- FORCED_WINDOW: the outstanding slices of the announced island, or the whole set of the island TEST_CONTROL named, run without
abort, in Run or Glide; windows are at least 100 ms apart (R441, R444, R446). A failure begins the set again (R445). -/
def execForcedWindow (island : Nat) (ok crypto : Bool) (s : State) : Out :=
  let named := match s.hlt.testRun with
    | some (_, i) => i == island
    | none => false
  let announced := s.hlt.forced && s.hlt.forcedIsland == island && decide (s.hlt.forcedAt ≤ s.glb.lifetime)
  let apart := s.hlt.forcedWindows == 0 || decide (s.hlt.lastForced + 100 ≤ s.glb.lifetime)
  if !(named || announced) || !apart || s.hlt.slice.isSome || decide (2 ≤ s.pwr.state) || s.pwr.trans.isSome ||
      s.med.dumpActive || inReset s island then .next s
  else
    let s := if named then newSet s island else needSet s island
    let n := (margin s island).outstanding
    let s := upHlt s (fun h => { h with
      forcedWindows := satInc h.forcedWindows, lastForced := s.glb.lifetime, slicesDone := (h.slicesDone + n) % 2 ^ 32 })
    let s := if ok then modIsland s island (fun m => { m with
        outstanding := 0, coverAge := 0, coveredAt := s.glb.lifetime }) else testFails s island crypto
    let s := if s.hlt.forced && s.hlt.forcedIsland == island && ok then upHlt s (fun h => { h with forced := false }) else s
    match s.hlt.testRun with
    | some (tag, i) => if i = island then .next (finish (upHlt s (fun h => { h with testRun := none })) tag (Sys2Proof.Machine.ok 0 0)) else .next s
    | none => .next s

/-- TEST_CONTROL (R446): PARAM0 2 waits for the forced window of its island, one after another. -/
def execTestControl (tag : Nat) (s : State) : Out :=
  match opFor s tag 0x0905 with
  | none => .next s
  | some o =>
    if o.stage = .running then .next s
    else if o.pkt.p0 = 0 then .next (finish (upHlt s (fun h => { h with paused := true })) tag (ok 0 0))
    else if o.pkt.p0 = 1 then .next (finish (upHlt s (fun h => { h with paused := false })) tag (ok 0 0))
    else if s.hlt.testRun.isSome then .next s
    else .next (running (upHlt s (fun h => { h with testRun := some (tag, o.pkt.p1) })) tag)

end Sys2Proof.Machine
end

