-- ==== Sys2Proof/Machine/Media.lean ====
section
/-! DEFINITION. What the media do by themselves: placing, sealing and failing (R118 to R122, R131, R139, R141, R154), the leaf cache
(R134 to R136), garbage collection (R143 to R148), erasing, patrol and relocation (R169 to R173), the journal and checkpoints (R154
to R156). -/

namespace Sys2Proof.Machine

open Sys2Proof

/-! ### The leaf cache (R134, R136) -/

/-- Write a page to a Map band as a KIND 2 codeword: the directory entry names the new copy, and its record is journalled (R128,
R136). Its WSEQ field is open (log entry 12). -/
def writePage (s : State) (p : LeafPage) : State :=
  match bandFor s .map with
  | none => s
  | some (b, s) =>
    match mget s.med.bands b with
    | none => s
    | some x =>
      let g := segGroup s b x.frontier .map
      let pa := b * 2 ^ 22 + 16 * x.frontier
      let w := freeBelow g.2 (2 ^ 64)
      let s := w.2
      let c : Codeword := { vol := p.vol, kind := 2, used := 16, starts := 1, gcCopy := false, foster := false, lba := 512 * p.stretch,
                            wseq := w.1, group := g.1, seg := x.frontier / 256, blocks := [], entries := p.entries, raw := [] }
      let old := match dirAt s p.vol p.stretch with
        | .leaf (some q) => some q
        | _ => none
      let s := addUnits s pa 16
      let s := match old with
        | some q => subUnits s q 16
        | none => s
      let s := modPage (setDir s p.vol p.stretch (.leaf (some pa))) p.vol p.stretch (fun q => { q with dirty := false })
      let s := journalDrain s [.dirSet p.vol p.stretch (.leaf (some pa))] (match old with
        | some q => [paBand q]
        | none => [])
      programCw s b c

/-- The EPOCH of every entry lies within the page: each is 12 bits of the entry's 64 (R135; DEDUCED, log entry 83). -/
def epochsWithin (l : SMap MapEntry) : Bool := l.all (fun e => decide (e.1 < 512) && decide (e.2.epoch < 4096))

/-- LEAF_FETCH_COMPLETE: a missed page arrives, is checked against its spare area, and is recovered through the stripe group where it
is unreadable or fails the check (R134, R135). -/
def execLeafFetchComplete (vol stretch level : Nat) (s : State) : Out :=
  if !s.med.leafFetch.contains (vol, stretch) then .next s
  else
    let drop := fun (s : State) => upMed s (fun m => { m with leafFetch := m.leafFetch.filter (· != (vol, stretch)) })
    match dirAt s vol stretch with
    | .leaf (some pa) =>
      let w := paCw pa
      match leafRoom s vol stretch with
      | none => .next s
      | some s =>
        let good := match mget s.med.flash w with
          | some c => decide (level ≤ 3) && c.kind == 2 && c.vol == vol && c.lba == 512 * stretch && epochsWithin c.entries
          | none => false
        if mediaHeld s w then .next s
        else if good then
          let s := drop (ensurePage s vol stretch)
          .next (if s.med.relocLevel ≤ level then queueReloc s w else s)
        else
          let s := if level = 5 then raise s (unit (cwIsland s w) 3) else s
          let s := startRecon s s.mesh.node (w / 2 ^ 18) (w % 2 ^ 18 / 256) (w % 256) (level == 4)
          match reconData s s.mesh.node (w / 2 ^ 18) (w % 2 ^ 18 / 256) (w % 256) with
          | some (some x) =>
            let d := unle x.desc
            if bits d 15 0 = vol ∧ bits d 79 42 = 512 * stretch ∧ bits d 18 16 = 2 then
              .next (drop (addPage s { vol, stretch, entries := pageEntries s.med.mapKey vol (512 * stretch) x.data, dirty := true }))
            else .next s
          | _ => .next s
    | _ => .next (drop s)

/-- Dirty pages among a list. -/
def dirtyPages (l : List LeafPage) : List LeafPage := l.filter (fun p => p.dirty)

/-- PAGE_OUT: while dirty pages exceed half of the cache or fill a set, the oldest goes to a Map band (R136). The rule does not say by which
age: the model takes the page longest unused, or added first (DESIGN CHOICE, log entry 81). -/
def execPageOut (vol stretch : Nat) (s : State) : Out :=
  match pageAt s vol stretch with
  | none => .next s
  | some p =>
    let all := dirtyPages s.med.leafCache
    let ways := dirtyPages (setPages s (leafSet s vol stretch))
    let oldest := fun (l : List LeafPage) => (l.getLast?.map (fun q => q.is vol stretch)).getD false
    if p.dirty && !mediaStopped s &&
        ((decide (s.med.leafCap < 2 * all.length) && oldest all) || (decide (16 ≤ ways.length) && oldest ways)) then
      (if jRoom s 4 then .next (writePage s p) else .next (jStall s))
    else .next s

/-! ### Placing blocks (R131, R132, R139, R141, R154) -/

/-- The newest version of a block waiting for placement. -/
def toPlace (s : State) (v lba : Nat) : Option Staged :=
  match stagedAt s v lba with
  | some x => if x.lost then none else some x
  | none => none

/-- The host stream of a volume's blocks (Table 5.5). -/
def hostStream (s : State) (v : Nat) : Stream :=
  match mget s.med.volumes v with
  | some x => if x.cold then .cold else .hot
  | none => .hot

/-- A run's first PA in a stream's open band, with the band: none where it does not fit the segment or no band is to be had. -/
def runPlace (s : State) (t : Stream) (units : Nat) : Option (Nat × Nat × State) :=
  match bandFor s t with
  | none => none
  | some (b, s) =>
    match mget s.med.bands b with
    | none => none
    | some x =>
      if units = 0 ∨ 256 < x.frontier % 256 + (units + 15) / 16 then none
      else some (b, b * 2 ^ 22 + 16 * x.frontier, s)

/-- The mirror entry of a placed block follows its segment to its stripe's close, and its record to the partner (R346). -/
def followMirror (s : State) (x : Staged) (b seg group : Nat) : State :=
  modEntry s x.mirror (fun e => { e with
    recs := recordsEnd s, segs := if group = 0xFFF ∨ e.segs.contains (b, seg) then e.segs else e.segs ++ [(b, seg)] })

/-- Place a run of staged blocks of a volume: their map entries, their records, their codewords; they leave staging (R139, R154). -/
def placeRunOf (s : State) (v : Nat) (t : Stream) (l : List Staged) : State :=
  let w := takeWseq s l.length
  let s := w.2
  let key := volKey s v
  let run : List ToPlace := (l.zip (span w.1 l.length)).map (fun x =>
    { lba := x.1.lba, wseq := x.2, c := storedComp x.1, data := fit (256 * storedUnits x.1) (storedForm x.1), keyId := key })
  match runPlace s t (run.map ToPlace.units).sum with
  | none => s
  | some (b, pa, s) =>
    let at_ := runUnits 0 run
    let s := at_.foldl (fun s x => commitSet s v x.2.lba { form := placedForm (pa + x.1) x.2, epoch := x.2.wseq % 4096 }) s
    match programRun s b v false (isFoster s v) run with
    | none => s
    | some (_, s) =>
      let group := match mget s.med.flash (paCw pa) with
        | some c => c.group
        | none => 0xFFF
      releaseMirror (l.foldl (fun s x => unstage (followMirror s x b (paSeg pa) group) v x.lba x.seq) s)

/-- A block of zeros takes the Zero form and no flash (R131). -/
def placeZero (s : State) (v : Nat) (x : Staged) : State :=
  let w := takeWseq s 1
  let s := commitSet w.2 v x.lba { form := .zero, epoch := w.1 % 4096 }
  releaseMirror (unstage (modEntry s x.mirror (fun e => { e with recs := recordsEnd s })) v x.lba x.seq)

/-- The run may be placed as R139 says: one uncompressed block, or compressed blocks of consecutive LBAs. -/
def stagedRun (l : List Staged) : Bool :=
  match l with
  | [] => false
  | [_] => true
  | a :: b :: rest => storedComp a && storedComp b && b.lba == a.lba + 1 && stagedRun (b :: rest)

/-- Staged blocks of a volume into one run of its stream (R131, R139, R303). -/
def placeHost (s : State) (t : Stream) (v : Nat) (lbas : List Nat) : State :=
  let pages := pagesReady s v (lbas.map (· / 512)).eraseDups
  if !pages.1 then pages.2
  else if !jRoom s (2 * lbas.length + 40) then jStall s
  else
    match lbas.mapM (toPlace s v), mget s.med.volumes v with
    | some l, some x =>
      let judged := l.all (fun y => !x.comp || allZero y.data || y.comp.isSome)
      match l with
      | [y] =>
        if allZero y.data then placeZero pages.2 v y
        else if judged && keyReady s v && t == hostStream s v then placeRunOf pages.2 v t l else pages.2
      | _ =>
        if judged && keyReady s v && t == hostStream s v && stagedRun l && !l.any (fun y => allZero y.data) then
          placeRunOf pages.2 v t l
        else pages.2
    | _, _ => pages.2

/-- The Host sequential band with its frontier at a segment boundary and two segments left (R141). -/
def seqBand (s : State) : Option (Nat × State) :=
  match bandFor s .sequential with
  | none => none
  | some (b, s) =>
    let s := padSegment s b
    match mget s.med.bands b with
    | some x =>
      if x.state == .opened ∧ x.frontier + 512 ≤ 256 * bandSegs s then some (b, s)
      else
        let s := (List.range (bandSegs s)).foldl (fun s _ => match mget s.med.bands b with
          | some y => if y.state == .opened then
              (List.range 256).foldl (fun s _ => programCw s b (padCw 0xFFF (y.frontier / 256))) s else s
          | none => s) s
        bandFor s .sequential
    | none => none

/-- A whole stretch of an uncompressed volume becomes an extent (R141). -/
def placeExtent (s : State) (v st : Nat) : State :=
  match (span (512 * st) 512).mapM (toPlace s v), mget s.med.volumes v with
  | some l, some x =>
    if x.comp || l.any (fun y => allZero y.data) || !keyReady s v then s
    else if !jRoom s 80 then jStall s
    else
      match seqBand s with
      | none => s
      | some (b, s) =>
        match mget s.med.bands b with
        | none => s
        | some y =>
          let w := takeWseq s 512
          let s := w.2
          let pa := b * 2 ^ 22 + 16 * y.frontier
          let touched := (stretchUnits s v st).map (·.1)
          let s := setDir (unmapStretch s v st) v st (.extent pa (w.1 % 4096))
          let s := addUnits (addUnits s pa 4096) (pa + 4096) 4096
          let s := journalDrain s [.dirSet v st (.extent pa (w.1 % 4096))] (touched.eraseDups.filter (· != b))
          let key := volKey s v
          let s := (l.zip (span w.1 512)).foldl (fun s z =>
            match programRun s b v false (isFoster s v) [{ lba := z.1.lba, wseq := z.2, c := false, data := fit 4096 z.1.data, keyId := key }] with
            | some (q, s) =>
              let group := match mget s.med.flash (paCw q) with
                | some c => c.group
                | none => 0xFFF
              unstage (followMirror s z.1 b (paSeg q) group) v z.1.lba z.1.seq
            | none => s) s
          releaseMirror s
  | _, _ => s

/-! ### Garbage collection (R143 to R148) -/

/-- A stored block to copy: its place, its write sequence and its content, from the flash or from a reconstruction of its first
codeword (R146). -/
def sourceBlock (s : State) (v lba srcPa epoch : Nat) : Option ToPlace :=
  match mget s.med.flash (paCw srcPa), storedAt s srcPa with
  | some c, some b =>
    let j := (c.blocks.filter (fun x => decide (x.unit < srcPa % 16))).length
    if identityOk c v lba srcPa epoch b.c then some { lba, wseq := c.wseq + j, c := b.c, data := b.data, keyId := b.keyId } else none
  | _, _ => none

/-- Copy stored blocks as one run into a GC band, keeping their write sequence numbers (R133, R146, R171). -/
def copyRun (s : State) (v : Nat) (l : List (GcCopy × ToPlace)) : State :=
  let run := l.map (·.2)
  match runPlace s .gc (run.map ToPlace.units).sum with
  | none => s
  | some (b, pa, s) =>
    match programRun s b v true (isFoster s v) run with
    | none => s
    | some (_, s) =>
      ((l.map (·.1)).zip (runUnits 0 run)).foldl (fun s x =>
        bandMod (upMed s (fun m => { m with copies := m.copies ++ [{ x.1 with dstPa := pa + x.2.1 }] })) (paBand x.1.srcPa)
          (fun y => { y with copies := y.copies + 1 })) s

/-- What reading a block to be copied gives. -/
inductive CopySrc where
  | got (t : ToPlace)
  /-- its reconstruction is on its way -/
  | wait
  /-- pair and stripe group are exhausted -/
  | gone

/-- Take a stored block from its source: from the flash where its codewords read and its identity agrees, else from the reconstruction of those
that do not, through the stripe group (R138, R146, R168). -/
def copySource (s : State) (m : MediaIn) (v lba : Nat) (e : MapEntry) : CopySrc × State :=
  match e.form.place with
  | none => (.gone, s)
  | some (pa, n) =>
    let cws := cwsOf pa n
    let c := match e.form with
      | .comp _ _ => true
      | _ => false
    if cws.any (mediaHeld s) then (.wait, s)
    else
      let unread := cws.filter (fun w => decide (4 ≤ readLevel s m w) || (reconAt s s.mesh.node w).isSome)
      match unread, sourceBlock s v lba pa e.epoch with
      | [], some t => (.got t, s)
      | _, _ =>
        let s := if unread.isEmpty then countMismatch s else s
        let r := rebuildStored s s.mesh.node (volKey s v) v lba pa n e.epoch c (if unread.isEmpty then cws else unread) (failed3 s m cws)
        match r.1 with
        | .stored b w => (.got { lba, wseq := w, c, data := b, keyId := volKey s v }, r.2)
        | .wait => (.wait, r.2)
        | _ => (.gone, r.2)

/-- Every block of a list from its source: none, with what has been set going, while one of them is not at hand. -/
def copySources (s : State) (m : MediaIn) (l : List (Nat × Nat)) : Option (List (GcCopy × ToPlace)) × State :=
  match l with
  | [] => (some [], s)
  | x :: rest =>
    let e := mapFull s x.1 x.2
    let a := copySource s m x.1 x.2 e
    let b := copySources a.2 m rest
    match a.1, b.1, e.form.place with
    | .got t, some l, some (pa, _) =>
      (some (({ vol := x.1, lba := x.2, srcPa := pa, epoch := e.epoch, dstPa := 0, reloc := false }, t) :: l), b.2)
    | _, _, _ => (none, b.2)

/-- A block's reconstruction has come to nothing: it stays where it is. -/
def copyGone (s : State) (g : GcCopy) : Bool :=
  match (mapFull s g.vol g.lba).form.place with
  | some (pa, n) => (cwsOf pa n).any (fun w => match reconAt s s.mesh.node w with
      | some r => r.exhausted
      | none => false)
  | none => true

/-- The valid blocks of a victim still to be copied, in source order (R146). -/
def victimNext (s : State) (b : Nat) : List (Nat × Nat) :=
  (((s.med.flash.filter (fun c => c.1 / 2 ^ 18 == b)).flatMap (fun c => validBlocks s c.1)).filter (fun g =>
    !s.med.copies.any (fun q => q.vol == g.vol && q.lba == g.lba && q.srcPa == g.srcPa) && !copyGone s g)).map (fun g => (g.vol, g.lba))

/-! ### The replay of a takeover (R356) -/

/-- A block is staged as a new write of the device's own, ahead of any host command (R356, R362). -/
def stageBlock (s : State) (v lba : Nat) (data : List Byte) : State :=
  upMed s (fun m => { m with staging := m.staging.filter (fun x => !(x.vol == v && x.lba == lba && x.done)) ++
    [{ vol := v, lba, data := fit 4096 data, seq := 0, done := true, comp := none, lost := false, mirror := none }] })

/-- Step 5: EVENT_TAKEOVER, for which TAKEOVER commands wait (R354). -/
def takeoverDone (s : State) (byCommand : Bool) : State :=
  let n := (s.sec.keyLog.filter (fun k => k.kind == 1)).length
  let s := postEvent s evTakeover (b2n byCommand) n 0
  let s := pairLog (upPair s (fun p => { p with events := p.events ||| 8, takeoverCount := p.takeoverCount + 1 })) 7 0xFF n
  let tags := s.pair.takeovers
  tags.foldl (fun s t => finish s t (ok 0 0)) (upPair s (fun p => { p with takeovers := [] }))

/-- Step 4: the mirror entries are replayed in mirror sequence order, each once staging has room for it; then step 5. -/
def replayFrom (s : State) (l : List MirrorIn) (byCommand : Bool) : State :=
  match l with
  | [] => takeoverDone (upPair s (fun p => { p with entriesIn := [], replaying := none })) byCommand
  | e :: rest =>
    if stagingRoom s e.blocks then
      replayFrom ((cutBlocks e.lba (if e.op = 0 then e.data else zeros (4096 * e.blocks)) e.blocks).foldl (fun s b =>
        stageBlock s e.vol b.1 b.2) s) rest byCommand
    else upPair s (fun p => { p with entriesIn := e :: rest })

/-- The replay of a takeover goes on. -/
def replayMirror (s : State) : State :=
  match s.pair.replaying with
  | some c => replayFrom s s.pair.entriesIn c
  | none => s

/-- PROGRAM_COMPLETE: a program completes and what it placed takes effect (R131, R139, R141, R146, R154). No encrypted data is
programmed in the error state (R332). -/
def execProgramComplete (item : ProgItem) (s : State) : Out :=
  if mediaStopped s || s.sec.errorState then .next s
  else
    match item with
    | .host t v lbas => .next (replayMirror (placeHost s t v lbas))
    | .extent v st => .next (placeExtent s v st)
    | .copies list media =>
      match s.med.victim, list.head? with
      | some b, some h =>
        if (victimNext s b).take list.length ≠ list ∨ !list.all (fun x => x.1 == h.1) then .next s
        else
          match copySources s media list with
          | (some l, s) => .next (copyRun s h.1 l)
          | (none, s) => .next s
      | _, _ => .next s

/-- Every other data position of the stripe of an own segment is dead (R144, R383). -/
def othersDead (s : State) (o : OwnSeg) : Bool :=
  match groupAt s o.group with
  | some g => o.stage == 3 && (List.range g.k).all (fun d => d == o.d || o.dead.contains d || bit o.zero d)
  | none => true

/-- L of a band as a fraction: segments whose stripes have every other segment dead, of its data segments. A segment of no stripe, or of one that
has been released, has none that lives (R144). -/
def bandL (s : State) (b : Nat × Band) : Nat × Nat :=
  let held := (s.mesh.own.filter (fun o => o.band == b.1 && !othersDead s o)).length
  if !s.med.stripeAware || b.2.segsSealed = 0 then (1, 1) else (b.2.segsSealed - held, b.2.segsSealed)

/-- A band's score of R144 as a fraction. -/
def bandScore (s : State) (b : Nat × Band) : Nat × Nat :=
  let cap := 4096 * bandSegs s
  let l := bandL s b
  ((cap - b.2.valid) * (l.2 + l.1), max 1 (2 * l.2 * cap))

/-- The CLOSED band of the highest score, the lower number among equals; Parity bands never (R144). Nor is a band that holds a rebuilt
segment not yet reported dead, which the map does not name and so could not be copied (R385, log entry 38). -/
def bestVictim (s : State) : Option Nat :=
  ((s.med.bands.filter (fun b => b.2.state == .closed && b.2.stream != .parity && !s.mesh.replaced.any (fun x => x.1 == b.1))).foldl (fun best b =>
    let x := bandScore s b
    match best with
    | none => some (b.1, x)
    | some (n, y) => if y.1 * x.2 < x.1 * y.2 then some (b.1, x) else some (n, y)) none).map (·.1)

/-- A valid spill in a victim is copied whole into an open Map band; the old copy then stops being valid (R145). -/
def moveSpill (s : State) (x : Spill) : State :=
  match writeRun s (fun i => recordsBytes (x.first + 256 * i) ((x.recs.drop (256 * i)).take 256)) with
  | none => s
  | some (pa, s) =>
    let s := upMed s (fun m => { m with spills := m.spills.map (fun y => if y.pa = x.pa then { y with pa } else y) })
    journalDrain (subRun s x.pa) [] [paBand x.pa]

/-- A run of 1 MiB has a codeword in the band. -/
def pieceIn (pa b : Nat) : Bool := paBand pa == b

/-- A Map victim: each valid leaf page is read into the cache and marked dirty, each valid piece is marked as changed, and each valid
spill is copied (R145). -/
def dirtyVictim (s : State) (b : Nat) : State :=
  let s := upMed s (fun m => { m with pieceDirty :=
    ((rootPieces (newestRoot s)).filter (fun p => pieceIn p.2.2 b)).foldl (fun l p =>
      if l.contains (p.1, p.2.1) then l else l ++ [(p.1, p.2.1)]) m.pieceDirty })
  let s := (s.med.spills.filter (fun x => pieceIn x.pa b)).foldl moveSpill s
  (s.med.flash.filter (fun c => c.1 / 2 ^ 18 == b && c.2.kind == 2)).foldl (fun s c =>
    if dirAt s c.2.vol (c.2.lba / 512) = .leaf (some (16 * c.1)) ∧ (leafRoom s c.2.vol (c.2.lba / 512)).isSome then
      modPage (ensurePage s c.2.vol (c.2.lba / 512)) c.2.vol (c.2.lba / 512) (fun p => { p with dirty := true })
    else s) s

/-- A victim is a CLOSED band with valid units left. -/
def victimLive (s : State) (b : Nat) : Bool :=
  match mget s.med.bands b with
  | some x => x.state == .closed && !x.segValid.isEmpty
  | none => false

/-- The band's own kind of garbage collection: a Map band's pages, pieces and spills are set on their way (R145). -/
def workVictim (s : State) (b : Nat) : State :=
  match mget s.med.bands b with
  | some x => if x.stream == .map then dirtyVictim s b else s
  | none => s

/-- In READ_ONLY GC and patrol go on only while every populated channel has a free good block for a new band: a FREE band, or free blocks to form
one (R174). -/
def bandToHave (s : State) : Bool := !readOnly s || decide (0 < freeBands s) || s.med.chans.all (fun c => !c.free.isEmpty)

/-- GC_RUN: below its threshold, or with a band that must go, garbage collection takes a victim; on a Map victim it goes on (R143 to R145, R171,
R174). -/
def execGcRun (s : State) : Out :=
  if !s.glb.ready || s.med.dumpActive || !bandToHave s || flashOff s then .next s
  else
    match s.med.victim with
    | some b => if victimLive s b then .next (workVictim s b) else .next (upMed s (fun m => { m with victim := none, gcActive := false }))
    | none =>
      let due := s.med.nextVictims.find? (victimLive s)
      let pick := match due with
        | some b => some b
        | none => if belowShare s s.med.gcStart then bestVictim s else none
      match pick with
      | none => .next (upMed s (fun m => { m with gcActive := false }))
      | some b =>
        .next (workVictim (wakeGlide (upMed s (fun m => { m with
          victim := some b, gcActive := true, nextVictims := m.nextVictims.filter (· != b) }))) b)

/-- The form of a copied block: only its PA changes (R147). -/
def MapForm.moved (f : MapForm) (pa : Nat) : MapForm :=
  match f with
  | .plain _ => .plain pa
  | .comp _ len => .comp pa len
  | x => x

/-- GC_COMMIT: the copy takes effect if the entry still holds the source's PA and EPOCH, in one group with the source band's DRAINED
record when it was the last; otherwise it is discarded (R147, R153). -/
def execGcCommit (vol lba : Nat) (s : State) : Out :=
  match s.med.copies.find? (fun g => g.vol == vol && g.lba == lba) with
  | none => .next s
  | some g =>
    let s1 := fetchLeaf s vol (lba / 512)
    match mapOf s vol lba with
    | none => .next s1
    | some e =>
      if !jRoom s 4 then .next (jStall s)
      else if (leafRoom s vol (lba / 512)).isNone then .next s
      else
        let src := paBand g.srcPa
        let s := upMed s (fun m => { m with copies := m.copies.erase g })
        let s := bandMod s src (fun x => { x with copies := x.copies - 1 })
        if (mget s.med.volumes vol).isSome ∧ e.form.place.map (·.1) = some g.srcPa ∧ e.epoch = g.epoch then
          let split := match dirAt s vol (lba / 512) with
            | .extent _ _ => [Record.dirSet vol (lba / 512) (.leaf none)]
            | _ => []
          let e2 : MapEntry := { e with form := e.form.moved g.dstPa }
          let s := applyEntry s vol lba e2
          let dry := drying s [src]
          let s := journal (markDrained s dry) (split ++ [.mapGc vol lba e2] ++ dry.map (fun b => bandRec b .drained))
          .next (if g.reloc then upMed s (fun m => { m with relocations := wrapInc m.relocations, lifeReloc := m.lifeReloc + 1 }) else s)
        else .next (upMed s (fun m => { m with gcDiscards := wrapInc m.gcDiscards }))

/-- RELOCATION: a queued block is copied through a GC band; a source that was unreadable comes from its reconstruction (R146, R171). -/
def execRelocation (vol lba : Nat) (s : State) : Out :=
  match s.med.relocQueue.find? (fun g => g.vol == vol && g.lba == lba) with
  | none => .next s
  | some g =>
    let drop := fun (s : State) => upMed s (fun m => { m with relocQueue := m.relocQueue.erase g })
    let e := mapFull s vol lba
    if mediaStopped s || flashOff s then .next s
    else if e.form.place.map (·.1) ≠ some g.srcPa ∨ e.epoch ≠ g.epoch then .next (drop s)
    else
      match copySource s { } vol lba e with
      | (.got t, s) => .next (copyRun (drop s) vol [(g, t)])
      | (.wait, s) => .next s
      | (.gone, s) => .next (drop s)

/-! ### Bands: sealing, failing, erasing (R118 to R122, R148, R172, R173) -/

/-- SEGMENT_SEAL_TIMEOUT: the first data of the open segment has waited for MED_SEAL_TIMER.MS; the segment is padded and sealed (R121). -/
def execSegmentSealTimeout (band : Nat) (s : State) : Out :=
  match mget s.med.bands band with
  | some x =>
    if x.state == .opened ∧ !mediaStopped s ∧ x.firstAt + s.med.sealMs ≤ s.glb.lifetime then
      (if jRoom s 4 then .next (padSegment s band) else .next (jStall s))
    else .next s
  | none => .next s

/-- PROGRAM_FAIL: the band closes early, and the failed block is retired when the band is erased (R122). What failed is still in
staging or at its source, and goes into the next band of the stream, or of the Replacement slot where the stream has no free one (R120). -/
def execProgramFail (band channel : Nat) (s : State) : Out :=
  match mget s.med.bands band with
  | none => .next s
  | some x =>
    if x.state != .opened ∨ !(chanList s).contains channel ∨ mediaStopped s then .next s
    else if !jRoom s 2 then .next (jStall s)
    else
      let s := bandMod s band (fun x => { x with
        state := .closed, failed := linsert x.failed channel,
        deadline := if x.deadline = 0 then s.glb.lifetime + patrolInterval s band else x.deadline })
      .next (journalDrain s [bandRec band .closed] [band])

/-- BAND_ERASE: a DRAINED band is erased once its copies are settled, its stripes released and its reads ended (R148). -/
def execBandErase (band : Nat) (s : State) : Out :=
  match mget s.med.bands band with
  | none => .next s
  | some x =>
    if x.state == .drained ∧ x.copies = 0 ∧ x.reads = 0 ∧ x.unreleased.isEmpty ∧ !mediaStopped s then
      if !jRoom s 1 then .next (jStall s) else .next (journal (setBand s band .erasing) [bandRec band .erasing])
    else .next s

/-- A channel's spare blocks (R172). -/
def chanSpares (c : Channel) : Nat := c.good - c.committed

/-- The spare state that the channels' accounts give (Table 6.7). -/
def spareLevelState (s : State) : Nat :=
  if s.med.chans.any (fun c => chanSpares c == 0) then 3
  else if s.med.chans.any (fun c => decide (chanSpares c * 100 < 2 * c.committed)) then 2
  else if s.med.chans.any (fun c => decide (chanSpares c * 10 < c.committed)) then 1
  else 0

/-- The device has become READ_ONLY: beside a partner it tells nothing over the link, since the partner learns of it from the
HEARTBEAT's status (R174); the event is posted (Table 6.7). -/
def enterReadOnly (s : State) (detail : Nat) : State := postEvent s evReadOnly detail 0 0

/-- The spare state moves on towards READ_ONLY with the level, each state it enters with its report (R173). -/
def spareStep (s : State) : State :=
  let n := spareLevelState s
  if n ≤ s.med.spareState then s
  else
    let s0 := s.med.spareState
    let s := upMed s (fun m => { m with spareState := n })
    let s := if s0 < 1 ∧ 1 ≤ n ∧ n ≤ 2 then raiseAt s srcSpares none true none else s
    let s := if s0 = 1 ∧ n = 2 then raiseAt s srcSpares none true none else s
    if n = 3 then enterReadOnly s 1 else s

/-- Retire a block of a channel (R172). -/
def retireBlock (s : State) (ch : Nat) : State :=
  spareStep (upMed s (fun m => { m with
    blocksRetired := m.blocksRetired + 1,
    chans := m.chans.map (fun c => if c.number = ch then { c with good := c.good - 1, retired := c.retired + 1 } else c) }))

/-- The free block with the lowest erase count (R118). Among equal counts the rule is silent: the model takes the first of the channel's list
(DESIGN CHOICE, log entry 82). -/
def leastWorn (l : List FlashBlock) : Option FlashBlock :=
  l.foldl (fun best b => match best with
    | none => some b
    | some x => if b.erases < x.erases then some b else some x) none

/-- Form a band from the least worn free block of each channel, as the lowest band number not in use, while fewer bands than the
smallest committed count are formed (R118, R172). -/
def formBand (s : State) : State :=
  let target := (s.med.chans.map (fun c => c.committed)).foldl min (2 ^ 22)
  if target ≤ (liveBands s).length ∨ s.med.chans.isEmpty then s
  else
    match s.med.chans.mapM (fun c => leastWorn c.free) with
    | none => s
    | some blocks =>
      let n := ((List.range (s.med.bands.length + 1)).find? (fun i => (mget s.med.bands i).isNone)).getD s.med.bands.length
      let b : Band := { state := .free, stream := .hot, blocks, frontier := 0, segsSealed := 0, segValid := [], copies := 0, reads := 0,
                        unreleased := [], failed := [], reloc := 0, overdue := false, deadline := 0, patrolAt := 0 }
      upMed s (fun m => { m with
        bands := mset m.bands n b,
        chans := (m.chans.zip blocks).map (fun x => { x.1 with free := x.1.free.erase x.2 }) })

/-- A band has been erased, `n` times over; nothing reconstructed of it stands any more, and a FREE band's space is to the credit of host writes
below URGENT (R143). With a block that failed its erase or had failed a program it is RETIRED: that block is
retired and the good ones return to the free pool (R119, R122, R172, R180). -/
def eraseBand (s : State) (band : Nat) (x : Band) (failed : List Nat) (n : Nat) : State :=
  let out := (failed.filter (fun c => (chanList s).contains c) ++ x.failed).eraseDups
  let worn := x.blocks.map (fun b => { b with erases := b.erases + n })
  let s := upMed s (fun m => { m with
    flash := m.flash.filter (fun c => c.1 / 2 ^ 18 != band),
    chans := (m.chans.zip worn).map (fun y => { y.1 with maxErase := max y.1.maxErase y.2.erases }) })
  let s := bandMod s band (fun x => { x with blocks := worn, segValid := [], failed := [], frontier := 0, segsSealed := 0, deadline := 0,
                                              patrolAt := 0, overdue := false, reloc := 0 })
  let s := upMesh s (fun m => { m with recons := m.recons.filter (fun r => !(r.node == m.node && r.band == band)) })
  if out.isEmpty then
    let s := journal (setBand s band .free) [bandRec band .free]
    upMed s (fun m => { m with gcCredit := if gcUrgent s then m.gcCredit + 256 * bandSegs s else m.gcCredit })
  else
    let s := journal (setBand s band .retired) [bandRec band .retired]
    let s := upMed s (fun m => { m with
      bandsRetired := m.bandsRetired + 1,
      chans := (m.chans.zip worn).map (fun y => if out.contains y.1.number then y.1 else { y.1 with free := y.1.free ++ [y.2] }) })
    formBand (out.foldl retireBlock s)

/-- ERASE_COMPLETE: `failed` names the channels whose block failed its erase twice (R119, R122, Table 6.6). -/
def execEraseComplete (band : Nat) (failed : List Nat) (s : State) : Out :=
  match mget s.med.bands band with
  | none => .next s
  | some x =>
    if x.state != .erasing ∨ mediaStopped s then .next s
    else if !jRoom s 1 then .next (jStall s)
    else .next (eraseBand s band x failed 1)

/-! ### Patrol (R169 to R171) -/

/-- The codeword holds a valid unit (R145, R169). -/
def cwValid (s : State) (cw : Nat) : Bool :=
  match mget s.med.flash cw with
  | none => false
  | some c =>
    if c.kind = 2 then dirAt s c.vol (c.lba / 512) == .leaf (some (16 * cw))
    else if c.kind = 3 then s.mesh.stripes.any (fun x => x.parity == some (cw / 2 ^ 18, cw % 2 ^ 18 / 256) && !x.released)
    else if c.kind = 4 then (keptRuns s).any (fun pa => decide (paCw pa ≤ cw) && decide (cw < paCw pa + 256))
    else if c.kind ≤ 1 then
      (c.blocks.zip (span c.lba c.blocks.length)).any (fun x =>
        (mapFull s c.vol x.2).form.place.map (·.1) == some (16 * cw + x.1.unit))
    else false

/-- Codewords of a band that patrol still reads in this pass: those of a CLOSED band that hold a valid unit, and every one of the sealed
segments of an OPEN band (R169). -/
def patrolLeft (s : State) (b : Nat) (x : Band) : List Nat :=
  let cws := fun (last : Nat) => (span x.patrolAt (last - x.patrolAt)).map (fun i => b * 2 ^ 18 + i)
  if x.state == .opened then cws (256 * x.segsSealed) else (cws x.frontier).filter (cwValid s)

/-- Bands that patrol reads, the earliest deadline first; one in which this pass has nothing left to read holds up no other (R170). -/
def patrolBand (s : State) : Option (Nat × Band) :=
  (s.med.bands.filter (fun b => (b.2.state == .closed || b.2.state == .opened) && b.2.deadline != 0 &&
      !(patrolLeft s b.1 b.2).isEmpty)).foldl (fun best b =>
    match best with
    | none => some b
    | some y => if b.2.deadline < y.2.deadline then some b else some y) none

/-- A band has finished a patrol read: its pass starts over, with the next deadline (R169). -/
def endPatrolPass (s : State) (b : Nat) : State :=
  bandMod s b (fun y => { y with patrolAt := 0, reloc := 0, overdue := false, deadline := s.glb.lifetime + patrolInterval s b })

/-- Bands whose pass was under way and in which nothing is left to read, since what was left has become invalid: their pass is finished. -/
def settlePatrol (s : State) : State :=
  ((s.med.bands.filter (fun b => (b.2.state == .closed || b.2.state == .opened) && b.2.deadline != 0 && b.2.patrolAt != 0 &&
    (patrolLeft s b.1 b.2).isEmpty)).map (·.1)).foldl endPatrolPass s

/-- Codewords queued for relocation in this pass exceed MED_PATROL_CTRL.BAND_LIMIT, in units of 0.1 % of the band's codewords (R171, Table
6.15). -/
def overLimit (s : State) (queued : Nat) : Bool := decide (s.med.bandLimit * 256 * bandSegs s < 1000 * queued)

/-- PATROL_READ: the next codeword of the band with the earliest deadline is read at an effort level; a band read to its end has
its next deadline (R169 to R171, R174). -/
def execPatrolRead (cw level : Nat) (s : State) : Out :=
  if s.med.patrolPause || !s.glb.ready || s.med.dumpActive || !bandToHave s || mediaHeld s cw || flashOff s then .next s
  else
    let s := settlePatrol s
    match patrolBand s with
    | none => .next s
    | some (b, x) =>
      if (patrolLeft s b x).head? ≠ some cw then .next s
      else
        let s := upMed s (fun m => { m with patrolReads := wrapInc m.patrolReads, lifePatrol := m.lifePatrol + 1 })
        let queued := b2n (decide (s.med.relocLevel ≤ level) && cwValid s cw)
        let s := if queued = 1 then queueReloc s cw else s
        let s := if 4 ≤ level then
            raise (startRecon s s.mesh.node b (cw % 2 ^ 18 / 256) (cw % 256) (level == 4)) (unit (cwIsland s cw) 3) else s
        let s := bandMod s b (fun x => { x with patrolAt := cw % 2 ^ 18 + 1, reloc := x.reloc + queued })
        let s := if overLimit s (x.reloc + queued) ∧ x.state == .closed ∧ !s.med.nextVictims.contains b then
            upMed s (fun m => { m with nextVictims := m.nextVictims ++ [b] }) else s
        .next (settlePatrol s)

/-- PATROL_OVERDUE: a band passes its deadline, counted with a Note fault once per deadline (R170). -/
def execPatrolOverdue (band : Nat) (s : State) : Out :=
  match mget s.med.bands band with
  | some x =>
    if x.deadline ≠ 0 ∧ x.deadline ≤ s.glb.lifetime ∧ !x.overdue ∧ (x.state == .closed ∨ x.state == .opened) then
      .next (raise (bandMod s band (fun x => { x with overdue := true })) srcPatrol)
    else .next s
  | none => .next s

/-! ### The journal and checkpoints (R154 to R156, R345) -/

/-- JOURNAL_LINE_FLUSH: a line goes from the buffer to PJM; while the ring is full, map changes wait and are counted (R154, R155). -/
def execJournalLineFlush (s : State) : Out :=
  if s.med.jbuf.isEmpty || mediaStopped s then .next s
  else if ringCap ≤ s.med.ring.length then .next (jStall s)
  else .next (flushLine s)

/-- The newest root's number. -/
def newestRootNo (s : State) : Nat :=
  max ((s.med.root0.map (fun r => r.ckptNo)).getD 0) ((s.med.root1.map (fun r => r.ckptNo)).getD 0)

/-- Steps 1 to 4 of a checkpoint: the CKPT record is written behind the records that wait, where the ring has room for them, and the dirty
pages and changed pieces go to Map bands (R156). What the pieces hold the model keeps with the root (log entry 25). -/
def startCkpt (s : State) : State :=
  let n := newestRootNo s + 1
  let s := if s.med.ring.length + s.med.jbuf.length < ringCap then flushAll s else s
  let jstart := jHead s
  let s := ringStraight s (.ckpt n)
  let s := (dirtyPages s.med.leafCache.reverse).foldl writePage s
  let root := newestRoot s
  let left := (dirChanged s).map (fun p => (false, p)) ++ (bandChanged s).map (fun p => (true, p))
  let c : Checkpoint := { no := n, jstart, volumes := s.med.volumes, bands := s.med.bands,
                          dirPieces := (root.map (fun r => r.dirPieces)).getD [], bandPieces := (root.map (fun r => r.bandPieces)).getD [], left }
  writePieces (upMed s (fun m => { m with ckpt := some c, recSince := false, ckptAt := s.glb.lifetime }))

/-- A checkpoint is due: the ring is three quarters full, or 30 s have passed since the last one started and something is recorded since
(R156). -/
def ckptDue (s : State) : Bool :=
  decide (1179648 ≤ s.med.ring.length) || (s.med.recSince && decide (s.med.ckptAt + 30000 ≤ s.glb.lifetime))

/-- CHECKPOINT_START: a checkpoint that is due starts, one at a time; its CKPT record needs a place in the ring (R155, R156). -/
def execCheckpointStart (s : State) : Out :=
  if s.med.ckpt.isSome || !s.glb.ready || s.med.dumpActive || s.sec.errorState || !ckptDue s || decide (ringCap ≤ s.med.ring.length) then .next s
  else .next (startCkpt s)

/-- The ring's tail moves to the newest root's JSTART, not past a record the partner has not confirmed (R156 step 6, R345). -/
def moveTail (s : State) : State :=
  match newestRoot s with
  | none => s
  | some r =>
    let goal := if journaling s then min r.jstart s.pair.jConfirmed else r.jstart
    upMed s (fun m => { m with ring := m.ring.drop (goal - m.jstart), jstart := max m.jstart goal })

/-- Write a root into its slot (R156 step 5). -/
def putRoot (s : State) (r : Root) : State :=
  upMed s (fun m => if r.ckptNo % 2 = 0 then { m with root0 := some r } else { m with root1 := some r })

/-- The pieces that only the older root names stop being valid (R145). -/
def dropPieces (s : State) (old : List Nat) : State :=
  let kept := (rootPieces (newestRoot s)).map (fun p => p.2.2)
  let gone := (old.filter (fun pa => !kept.contains pa)).eraseDups
  journalDrain (gone.foldl subRun s) [] (gone.map paBand).eraseDups

/-- CHECKPOINT_ROOT_WRITE: with every page and piece written the root is written and sent to the partner, the pieces it supersedes stop
being valid, and the ring's tail moves (R145, R156, R157, R345). -/
def execCheckpointRootWrite (s : State) : Out :=
  if mediaStopped s then .next s
  else
    let s := writePieces s
    match s.med.ckpt with
    | none => .next s
    | some c =>
      if !piecesDone s then .next s
      else
        let old := (rootPieces (newestRoot s)).map (fun p => p.2.2)
        let r : Root := { ckptNo := c.no, jstart := c.jstart, wseqCeil := s.med.wseqCeil, time := s.glb.lifetime, volumes := c.volumes,
                          bands := c.bands, dirPieces := c.dirPieces, bandPieces := c.bandPieces }
        let s := upMed (putRoot s r) (fun m => { m with ckpt := none, lifeCkpts := m.lifeCkpts + 1 })
        let s := dropPieces s old
        let s := if journaling s then sendT s (.root c.no r) else s
        .next (moveTail s)

/-! ### First start (R159, R172) -/

/-- Committed blocks of a channel: its good blocks less the share r in percent, rounded down (R172). -/
def committedBlocks (good share : Nat) : Nat := good * (100 - share) / 100

/-- PJM is initialised as at first start: committed counts, the spare state they give (R173), bands of the least worn blocks, new map and dump keys, and root 1 of an empty
map (R159, R172). -/
def blankPjm (s : State) (share : Nat) : State :=
  let mk := freshKey s
  let dk := freshKey mk.2
  let s := upMed dk.2 (fun m => { m with
    chans := m.chans.map (fun c => { c with committed := committedBlocks c.good share }), bands := [], flash := [], volumes := [],
    pjmInit := true, pjmBad := false, ckpt := none, pieceDirty := [], ckptAt := m.ckptAt, ring := [{ body := .ckpt 1, more := false }], jstart := 0, jbuf := [], root0 := none, root1 := none,
    partnerRing := [], partnerRoot0 := none, partnerRoot1 := none, spills := [], dumps := [], wseq := 1, wseqCeil := 0, formats := [],
    absorbed := [], mapKey := mk.1, dumpKey := dk.1, lifeCkpts := m.lifeCkpts + 1 })
  let s := upMesh (soloAgain s) (fun m => { m with groups := [], own := [], stripes := [], replaced := [] })
  let s := (List.range ((s.med.chans.map (fun c => c.committed)).foldl max 0)).foldl (fun s _ => formBand s) s
  spareStep (putRoot s { ckptNo := 1, jstart := 0, wseqCeil := 0, time := s.glb.lifetime, volumes := [], bands := s.med.bands })

end Sys2Proof.Machine
end

