-- ==== Sys2Proof/Machine/Mesh.lean ====
section
/-! DEFINITION. The shared operations of stripe groups: groups and their members, stripes and their records, contributions, liveness and
release (R375 to R384), and the MESH_CONFIG command (R367). -/

namespace Sys2Proof.Machine

open Sys2Proof

/-! ### Groups and members (R375) -/

/-- Change a group. -/
def modGroup (s : State) (id : Nat) (f : Group → Group) : State :=
  upMesh s (fun m => { m with groups := m.groups.map (fun g => if g.2.id = id then (g.1, f g.2) else g) })

/-- The index of a node in a group. -/
def memberIdx (g : Group) (node : Nat) : Option Nat := g.members.findIdx? (· == node)

/-- The other members of a group that are not held LOST. -/
def othersOf (g : Group) : List Nat := (List.range (g.k + g.m)).filter (fun i => i != g.index && !g.lost.contains i)

/-- Send a packet to every other member of a group that is not held LOST. -/
def sendOthers (s : State) (g : Group) (b : MBody) : State :=
  (othersOf g).foldl (fun s i => sendM s (memberNode g i) g.id b) s

/-- The group is formed: ACTIVE, DEGRADED or REBUILDING (Table 15.18). -/
def Group.formed (g : Group) : Bool := g.state == 2 || g.state == 3 || g.state == 4

/-- The digest of a member list that GROUP_HELLO carries (Table 15.4). -/
def listDigest (l : List Nat) : List Byte := sha384 (l.flatMap (le 2))

/-- GROUP_HELLO of this device (Table 15.4). -/
def helloBody (g : Group) : MBody := .groupHello g.k g.m g.index (listDigest g.members)

/-- A record of log 0x06 for a group's slot (Table 14.18). -/
def groupLog (s : State) (id event value : Nat) : State :=
  match groupSlot s id with
  | some x => pairLog s event x.1 value
  | none => s

/-- The row of a stripe that a member holds. -/
def rowOf (g : Group) (t i : Nat) : Option Nat := (List.range g.m).find? (fun j => holderIdx g t j == i)

/-- The data position of a member in a stripe. -/
def posOf (g : Group) (t i : Nat) : Option Nat := (dataMembers g t).findIdx? (· == i)

/-- The unit of a stripe that falls to a member. -/
def unitOfMember (g : Group) (t i : Nat) : Option Unit2 :=
  match rowOf g t i with
  | some j => some (j, true)
  | none => (posOf g t i).map (fun d => (d, false))

/-! ### Stripes -/

/-- Change a stripe held here. -/
def modStripe (s : State) (group num : Nat) (f : Stripe → Stripe) : State :=
  upMesh s (fun m => { m with stripes := m.stripes.map (fun x => if x.group = group ∧ x.num = num then f x else x) })

/-- A stripe of which nothing is known yet. -/
def newStripe (group num : Nat) : Stripe :=
  { group, num, opened := none, openedAt := 0, accepted := [], record := none, acc := [], got := [], hasAcc := false, parity := none, done := [],
    dead := [], released := false }

/-- Hold a stripe from now on. -/
def holdStripe (s : State) (group num : Nat) : State :=
  if (stripeAt s group num).isSome then s else upMesh s (fun m => { m with stripes := m.stripes ++ [newStripe group num] })

/-- The stripe's position set is fixed, or it is past that (R378). -/
def Stripe.isFixed (x : Stripe) : Bool := x.record.isSome || x.parity.isSome || x.released

/-- Accumulators there are (R379). -/
def accumulators : Nat := 508

/-- Accumulators in use (R379). -/
def accInUse (s : State) : Nat := (s.mesh.stripes.filter (fun x => x.hasAcc)).length

/-- Give a held stripe an accumulator; none while all are in use (R379). -/
def allot (s : State) (group num : Nat) : Option State :=
  match stripeAt s group num with
  | none => none
  | some x =>
    if x.hasAcc then some s
    else if accumulators ≤ accInUse s then none
    else
      let s := modStripe s group num (fun x => { x with hasAcc := true, acc := [], got := [] })
      some (upMesh s (fun m => { m with accPeak := max m.accPeak (accInUse s) }))

/-- The record that fixes a stripe with its accepted positions, every other one zero (R378, Table 15.7). -/
def recordFrom (g : Group) (t : Nat) (l : List (Nat × Nat × Nat)) : StripeRec :=
  let places := (List.range g.k).map (fun d => ((l.find? (fun a => a.1 == d)).map (·.2)).getD (0, 0))
  { stripe := t, group := g.id, k := g.k, m := g.m,
    zero := ((List.range g.k).map (fun d => if l.any (fun a => a.1 == d) then 0 else 2 ^ d)).sum,
    rebuilt := 0, seg := places, orig := places }

/-- Positions that a record counts as zero. -/
def StripeRec.zeroCount (r : StripeRec) : Nat := ((List.range r.k).filter (fun d => bit r.zero d)).length

/-- Fix a stripe's position set as its primary and send CLOSE to the other members (R378). -/
def fixStripe (s : State) (g : Group) (x : Stripe) (l : List (Nat × Nat × Nat)) : State :=
  let r := recordFrom g x.num l
  let before := (x.record.map StripeRec.zeroCount).getD 0
  let s := modStripe s g.id x.num (fun x => { x with accepted := l, record := some r })
  let s := upMesh s (fun m => { m with zeroPositions := (m.zeroPositions + (r.zeroCount - before)) % 2 ^ 32 })
  sendOthers s g (.close x.num r)

/-- Contributions of an own segment to some rows of its stripe (R379). -/
def contribute (s : State) (g : Group) (o : OwnSeg) (rows : List Nat) : State :=
  (rows.filter (fun j => !g.lost.contains (holderIdx g o.stripe j))).foldl (fun s j =>
    (List.range 256).foldl (fun s p =>
      sendM s (memberNode g (holderIdx g o.stripe j)) g.id
        (.contrib o.stripe p o.d j ((codedOf s (o.band * 2 ^ 18 + 256 * o.seg + p)).scale (coef g.m j o.d)))) s) s

/-- A holder abandons its accumulator, counts it, and asks the positions that stay for their contributions again (Table 15.9). -/
def abandonAcc (s : State) (g : Group) (num : Nat) (keep : List (Nat × Nat × Nat)) : State :=
  let s := modStripe s g.id num (fun x => { x with acc := [], got := [], hasAcc := false, accepted := keep })
  let s := upMesh s (fun m => { m with abandoned := satInc m.abandoned })
  keep.foldl (fun s a => sendM s (unitNode g num (a.1, false)) g.id (.resend num a.1)) s

/-- Packets of position d have come in part only (Table 15.9). -/
def Stripe.partly (x : Stripe) (d : Nat) : Bool := decide ((x.got.filter (fun a => a.1 == d)).length < 256)

/-! ### The stripe record's bytes (Table 15.7) -/

/-- A location: band in [21:0], segment in [31:22]. -/
def locWord (x : Nat × Nat) : Nat := x.1 + x.2 * 2 ^ 22

/-- The 256 bytes of a stripe record. -/
def StripeRec.bytes (r : StripeRec) : List Byte :=
  let locs := fun (l : List (Nat × Nat)) => (List.range 20).flatMap (fun d => le 4 (locWord (l.getD d (0, 0))))
  let b := le 8 r.stripe ++ le 2 r.group ++ le 1 r.k ++ le 1 r.m ++ le 4 r.zero ++ le 4 r.rebuilt ++ zeros 4 ++ locs r.seg ++ locs r.orig ++
    zeros 68
  b ++ le 4 (crc32c b)

/-- A stripe record from its 256 bytes; none where its CRC does not match. -/
def recordOf (b : List Byte) : Option StripeRec :=
  if crc32c (field b 0 0xFC) ≠ num b 0xFC 4 then none
  else
    let k := num b 0x0A 1
    let locs := fun off => (List.range k).map (fun d => let w := num b (off + 4 * d) 4; (w % 2 ^ 22, w / 2 ^ 22))
    some { stripe := num b 0 8, group := num b 8 2, k, m := num b 0x0B 1, zero := num b 0x0C 4, rebuilt := num b 0x10 4, seg := locs 0x18,
           orig := locs 0x68 }

/-! ### Programming a whole segment -/

/-- A band of a stream whose frontier lies at a segment's beginning: a segment begun is padded first. -/
def wholeSegBand (s : State) (t : Stream) : Option (Nat × State) :=
  bandFor (match openOf s t with
    | some b => padSegment s b
    | none => s) t

/-- Program 256 codewords as a band's next segment; it is sealed but offered to no stripe. Answers the segment. -/
def putSegment (s : State) (b : Nat) (l : List Codeword) : Nat × State :=
  match mget s.med.bands b with
  | none => (0, s)
  | some x =>
    let s := (l.zip (List.range 256)).foldl (fun s c =>
      upMed s (fun m => { m with flash := mset m.flash (b * 2 ^ 18 + x.frontier + c.2) c.1 })) s
    (x.frontier / 256, countSeal (bandMod s b (fun x => { x with frontier := x.frontier + 256 })) b)

/-- A KIND 3 codeword (Tables 5.6 and 15.6): 4,096 bytes, the descriptor parity and two bytes of the stripe record. -/
def parityCw (group seg : Nat) (data desc rec2 : List Byte) : Codeword :=
  { vol := 0, kind := 3, used := 16, starts := 0, gcCopy := false, foster := false, lba := 0, wseq := 0, group, seg, blocks := [],
    entries := [], raw := fit 4096 data ++ fit 18 desc ++ fit 2 rec2 }

/-- The stripe record that the spare bytes of a parity segment hold (Table 15.6). -/
def segRecord (s : State) (b seg : Nat) : Option StripeRec :=
  recordOf ((List.range 128).flatMap (fun p => match mget s.med.flash (b * 2 ^ 18 + 256 * seg + p) with
    | some c => field c.raw 4114 2
    | none => zeros 2))

/-- The last segment of a Parity band holds the band's records, once every other segment is programmed (R381). -/
def putRecords (s : State) (b : Nat) : State :=
  match mget s.med.bands b with
  | none => s
  | some x =>
    if x.frontier ≠ 256 * (bandSegs s - 1) then s
    else
      let seg := x.frontier / 256
      let recs := (List.range seg).flatMap (fun q => ((segRecord s b q).map StripeRec.bytes).getD [])
      closeFull (putSegment s b ((List.range 256).map (fun p => parityCw 0xFFF seg (field recs (4096 * p) 4096) [] []))).2 b

/-- Program a row as one parity segment; answers its place. None while no band can be had (R380). -/
def putParity (s : State) (r : StripeRec) (x : Nat → Coded) : Option ((Nat × Nat) × State) :=
  match wholeSegBand s .parity with
  | none => none
  | some (b, s) =>
    match mget s.med.bands b with
    | none => none
    | some y =>
      let rb := r.bytes
      let q := putSegment s b ((List.range 256).map (fun p =>
        parityCw r.group (y.frontier / 256) (x p).data (x p).desc (field rb (2 * (p % 128)) 2)))
      let s := addUnits (holdSeg q.2 b q.1) (b * 2 ^ 22 + 4096 * q.1) 4096
      some ((b, q.1), putRecords s b)

/-! ### Close, liveness and release (R380, R383, R384) -/

/-- A row's PARITY_DONE is known at a holder; the last one closes the stripe (R380). -/
def rowDone (s : State) (g : Group) (t j : Nat) : State :=
  match stripeAt s g.id t with
  | none => s
  | some x =>
    let all := fun (l : List Nat) => (List.range g.m).all (fun i => l.contains i)
    let s := modStripe s g.id t (fun x => { x with done := linsert x.done j })
    if all (linsert x.done j) && !all x.done && !x.released then
      upMesh (modGroup s g.id (fun g => { g with closed := g.closed + 1 })) (fun m => { m with stripesClosed := wrapInc m.stripesClosed })
    else s

/-- No mirror entry waits for this segment's stripe any more (R346). -/
def segSettled (s : State) (band seg : Nat) : State :=
  releaseMirror (upPair s (fun p => { p with
    entriesOut := p.entriesOut.map (fun e => { e with segs := e.segs.filter (fun x => x != (band, seg)) }) }))

/-- Rows of its stripe that have programmed parity are known at the data member; all m close the stripe there (R380). -/
def ownRows (s : State) (g : Group) (o : OwnSeg) (rows : List Nat) : State :=
  if (List.range g.m).all (fun j => rows.contains j) then
    segSettled (modOwn s o.band o.seg (fun o => { o with rows, stage := 3 })) o.band o.seg
  else modOwn s o.band o.seg (fun o => { o with rows })

/-- A segment holds no valid unit, and no copy into it waits for its commit (R383). -/
def segDead (s : State) (band seg : Nat) : Bool :=
  (match mget s.med.bands band with
    | some x => (mget x.segValid seg).isNone
    | none => true) &&
  !s.med.copies.any (fun c => c.dstPa != 0 && paBand c.dstPa == band && paSeg c.dstPa == seg)

/-- A segment's stripe is released: SEG_REL is journalled and its band no longer waits for it (R148, R384). -/
def releaseSeg (s : State) (band seg group : Nat) : State :=
  journal (bandMod s band (fun x => { x with unreleased := x.unreleased.filter (fun q => q != seg) })) [.segRel band seg group]

/-- A rebuilt data segment that is not reported dead yet ends so: its units count no more (R385). -/
def endReplaced (s : State) (band seg : Nat) : State :=
  if s.mesh.replaced.contains (band, seg) then
    let s := upMesh s (fun m => { m with replaced := m.replaced.filter (fun x => x != (band, seg)) })
    journalDrain (subUnits s (band * 2 ^ 22 + 4096 * seg) 4096) [] [band]
  else s

/-- A stripe's release at this device (R384). -/
def releaseHere (s : State) (group t : Nat) : State :=
  let s := (s.mesh.own.filter (fun o => o.group == group && o.stripe == t && decide (2 ≤ o.stage))).foldl (fun s o =>
    let s := endReplaced (releaseSeg s o.band o.seg group) o.band o.seg
    segSettled (upMesh s (fun m => { m with own := m.own.filter (fun q => !(q.band == o.band && q.seg == o.seg)) })) o.band o.seg) s
  match stripeAt s group t with
  | none => s
  | some x =>
    let s := match x.parity with
      | some (b, q) =>
        if x.released then s else journalDrain (subUnits (releaseSeg s b q group) (b * 2 ^ 22 + 4096 * q) 4096) [] [b]
      | none => s
    modStripe s group t (fun x => { newStripe group t with released := true, done := x.done })

/-- Every position of a stripe held here is dead or zero (R383). -/
def allDead (x : Stripe) : Bool :=
  match x.record with
  | some r => !x.released && (List.range r.k).all (fun d => bit r.zero d || x.dead.contains d)
  | none => false

/-- The primary releases a stripe whose positions are all dead (R384). -/
def tryRelease (s : State) (g : Group) (t : Nat) : State :=
  match stripeAt s g.id t with
  | some x =>
    if allDead x && primaryOf g t == some g.index then releaseHere (sendOthers s g (.release t)) g.id t else s
  | none => s

/-! ### MESH_CONFIG (R367) -/

/-- MESH_CONFIG: node ID, sizes, wrap bits and enabled ports, kept in PJM (R367, Table 4.17). -/
def execMeshConfig (tag : Nat) (s : State) : Out :=
  match opFor s tag 0x0804 with
  | none => .next s
  | some o =>
    match checkObjects s o.pkt with
    | some r => .next (finish s tag r)
    | none =>
      let p := o.pkt
      let s := upMesh s (fun m => { m with
        node := p.p0, configured := true, xs := bits p.p1 3 0, ys := bits p.p1 7 4, zs := bits p.p1 10 8, wrap := bits p.p1 13 11,
        ports := (m.ports.zip (List.range 6)).map (fun x =>
          if bit p.p2 x.2 then { x.1 with enabled := true } else { Port.reset with sat := x.1.sat }) })
      .next (finish (rePartition s) tag (ok 0 0))

end Sys2Proof.Machine
end

