-- ==== Sys2Proof/Machine/LinkLayout.lean ====
section
/-! DEFINITION. The bytes of what goes over the links: Tether flits and messages (Tables 14.1 and 14.3), Trail flits and packets (Tables 15.3,
15.4 and 14.17) and Footpath packets (Tables 19.8 and 19.9), every number least significant byte first (R6). -/

namespace Sys2Proof.Machine

open Sys2Proof

/-! ### Tether (R335, R339) -/

/-- HDR: FSEQ, ACKSEQ, NAK and IDLE. -/
def flitHdr (fseq ack : Nat) (nak idle : Bool) : List Byte := le 4 (fseq % 4096 + 4096 * (ack % 4096) + 2 ^ 24 * b2n nak + 2 ^ 25 * b2n idle)

/-- A flit's bytes before its TAG (Table 14.1). -/
def tetherHead (f : TetherFlit) : List Byte :=
  flitHdr f.fseq f.ackseq f.nak f.idle ++
    le 4 (f.cred.getD 0 0 % 1024 + 2 ^ 10 * (f.cred.getD 1 0 % 1024) + 2 ^ 20 * (f.cred.getD 2 0 % 1024)) ++
    (if f.idle then zeros 228 else le 4 (f.vc % 4 + 4 * b2n f.som + 8 * b2n f.eom + 16 * (f.len % 256)) ++ fit 224 (f.payload.take f.len))

/-- What a flit's CRC covers: its first 252 bytes (Table 14.1). -/
def tetherCovered (f : TetherFlit) : List Byte := tetherHead f ++ fit 16 f.tag

/-- The 256 bytes of a flit (Table 14.1). -/
def tetherBytes (f : TetherFlit) : List Byte := tetherCovered f ++ le 4 f.crc

/-- A received flit's CRC matches (R337). -/
def tetherCrcOk (f : TetherFlit) : Bool := f.crc == crc32 (tetherCovered f)

/-- A message's MTYPE (Table 14.3). -/
def TMsg.mtype (m : TMsg) : Nat :=
  match m with
  | .hello .. => 0x01
  | .keyTransfer .. => 0x02
  | .mirrorWrite .. => 0x03
  | .mirrorConfirm _ => 0x04
  | .mirrorRelease _ => 0x05
  | .journal .. => 0x06
  | .journalConfirm _ => 0x07
  | .root .. => 0x08
  | .heartbeat .. => 0x09
  | .blockRead .. => 0x0A
  | .blockData .. => 0x0B
  | .handback .. => 0x0C
  | .cutover => 0x0D
  | .yieldMsg => 0x0E
  | .unpair => 0x0F

/-- A message's ID (Table 14.3). -/
def TMsg.ident (m : TMsg) : Nat :=
  match m with
  | .keyTransfer v .. => v
  | .mirrorWrite n .. => n
  | .mirrorConfirm n => n
  | .mirrorRelease n => n
  | .journal n _ => n
  | .journalConfirm n => n
  | .root n _ => n
  | .heartbeat n .. => n
  | .blockRead n .. => n
  | .blockData n .. => n
  | .handback n .. => n
  | _ => 0

/-- A message's body (Table 14.3). -/
def TMsg.body (m : TMsg) : List Byte :=
  match m with
  | .hello serial node w0 w1 w2 blocks limit pub proof =>
    le 8 serial ++ le 2 node ++ le 2 w0 ++ le 2 w1 ++ le 2 w2 ++ le 8 blocks ++ le 8 limit ++ fit 97 pub ++ fit 48 proof
  | .keyTransfer _ install capacity attrs wrapped => le 4 (b2n install) ++ le 8 capacity ++ le 4 attrs ++ fit 72 wrapped
  | .mirrorWrite _ vol op lba blocks data => le 4 vol ++ le 4 op ++ le 8 lba ++ le 4 blocks ++ zeros 4 ++ data
  | .journal first recs => recordsBytes first recs
  | .root _ r => r.bytes
  | .heartbeat _ state status => le 1 state ++ le 1 status ++ zeros 2
  | .blockRead _ vol lba blocks => le 4 vol ++ zeros 4 ++ le 8 lba ++ le 4 blocks
  | .blockData _ status data => le 2 status ++ zeros 2 ++ data
  | .handback _ vol form lba data => le 4 vol ++ le 4 form ++ le 8 lba ++ data
  | _ => []

/-- A whole message: the 16-byte header and the body (R339). -/
def TMsg.bytes (m : TMsg) : List Byte := le 1 m.mtype ++ zeros 3 ++ le 4 m.body.length ++ le 8 m.ident ++ m.body

/-! ### Trail (R352, R369, R375) -/

/-- A claim's 24 bytes (Table 14.17). -/
def claimBytes (claimant partner number : Nat) (release : Bool) : List Byte := le 8 claimant ++ le 8 partner ++ le 4 number ++ le 4 (b2n release)

/-- A packet's payload (Tables 15.4 and 14.17). LINK_HELLO's certificate chain has no layout in the manual and is left out here; the widths of
a chain entry of REBUILD_PLAN and of the rebuilt location of MEMBER_UPDATE are not stated: the model takes those of the same quantities
elsewhere (DEDUCED, log entry 85). -/
def MBody.payload (b : MBody) : List Byte :=
  match b with
  | .linkHello serial node shape pub signature => le 8 serial ++ le 2 node ++ le 4 shape ++ fit 97 pub ++ fit 96 signature
  | .linkState _ failed => failed.flatMap (fun x => le 2 x.1 ++ le 2 x.2)
  | .unreachable _ typ => le 1 typ
  | .probe sender target number => le 8 sender ++ le 8 target ++ le 4 number ++ zeros 4
  | .probeAck sender target number state status => le 8 sender ++ le 8 target ++ le 4 number ++ zeros 4 ++ le 1 state ++ le 1 status ++ zeros 2
  | .claim c p n r => claimBytes c p n r
  | .claimGrant c p n r => claimBytes c p n r
  | .claimRefuse c p n r holder => claimBytes c p n r ++ le 8 holder
  | .tunnel m => m.bytes
  | .groupHello k m index digest => le 1 k ++ le 1 m ++ le 1 index ++ fit 48 digest
  | .intent _ d band seg => le 1 d ++ le 4 band ++ le 2 seg
  | .intentReply _ answer lowest => le 1 answer ++ le 8 lowest
  | .contrib _ _ _ _ x => fit 4096 x.data
  | .close _ r => r.bytes
  | .parityDone _ j => le 1 j
  | .gossip dead => dead.flatMap (fun x => le 8 x.1 ++ le 1 x.2 ++ zeros 3)
  | .release _ => []
  | .resend _ d => le 1 d
  | .locate _ member band seg => le 2 member ++ le 4 band ++ le 2 seg
  | .locateAns _ recs => recs.flatMap StripeRec.bytes
  | .reconReq _ stripe weight .. => le 8 stripe ++ le 1 weight
  | .reconSlice _ _ _ _ x => fit 4096 x.data
  | .rebuildPlan _ chain => chain.flatMap (fun x => le 2 x.1 ++ le 1 x.2)
  | .rebuildPart _ _ _ _ x => fit 4096 x.data
  | .memberUpdate index node => le 1 index ++ le 2 node
  | .memberMoved stripe d row band seg => le 8 stripe ++ le 1 (d + 32 * b2n row) ++ le 4 (locWord (band, seg))

/-- SUB of a coded packet: codeword, data position or parity row, and the count a request asks for; zero in other packets (Table 15.3). -/
def MBody.sub (b : MBody) : Nat :=
  let coded := fun (p d : Nat) (row : Bool) (n : Nat) => p + (if row then 2 ^ 13 * d + 2 ^ 15 else 2 ^ 8 * d) + 2 ^ 16 * n
  match b with
  | .contrib _ p d j _ => p + 2 ^ 8 * d + 2 ^ 13 * j
  | .reconReq _ _ _ p n d row => coded p d row n
  | .reconSlice _ p d row _ => coded p d row 0
  | .rebuildPart _ p d row _ => coded p d row 0
  | _ => 0

/-- AUX: a coded packet's weighted descriptor, with six zero bytes; zero in other packets (Table 15.3). -/
def MBody.aux (b : MBody) : List Byte :=
  match b with
  | .contrib _ _ _ _ x => fit 24 (fit 18 x.desc)
  | .reconSlice _ _ _ _ x => fit 24 (fit 18 x.desc)
  | .rebuildPart _ _ _ _ x => fit 24 (fit 18 x.desc)
  | _ => zeros 24

/-- A flit's bytes before its TAG: an idle one has LEN 0 (Table 15.3, R369). -/
def trailHead (f : TrailFlit) : List Byte :=
  let p := if f.idle then [] else f.pkt.body.payload
  flitHdr f.fseq f.ackseq f.nak f.idle ++ le 4 (f.cred % 1024 + 2 ^ 10 * f.credCh) ++ le 2 f.pkt.dst ++ le 2 f.pkt.src ++
    le 2 (f.cls % 4 + 4 * b2n f.dl + 8 * b2n f.esc + 16 * (f.reserved / 256)) ++ le 1 f.typ ++ le 1 f.reserved ++ le 2 f.len ++ le 2 f.pkt.group ++ le 4 f.pkt.body.sub ++
    le 8 f.pkt.ident ++ (if f.idle then zeros 24 else f.pkt.body.aux) ++ p

/-- What a flit's CRC covers (Table 15.3). -/
def trailCovered (f : TrailFlit) : List Byte := trailHead f ++ fit 16 f.tag

/-- The 76 + LEN bytes of a flit (Table 15.3, R369). -/
def trailBytes (f : TrailFlit) : List Byte := trailCovered f ++ le 4 f.crc

/-- A received flit's CRC matches (R371). -/
def trailCrcOk (f : TrailFlit) : Bool := f.crc == crc32 (trailCovered f)

/-! ### Footpath (R469) -/

/-- A packet's KIND and body (Table 19.9). -/
def FpPacket.body (p : FpPacket) : Nat × List Byte :=
  match p with
  | .reply _ bytes => (2, bytes)
  | .data last seq bytes => (3, le 4 (b2n last + 65536 * seq) ++ bytes)
  | .nak reason expect => (4, le 1 reason ++ zeros 1 ++ le 2 expect)
  | .baud n => (5, le 4 n)

/-- What a packet's CRC covers: LK and BODY (Table 19.8). -/
def fpCovered (kind : Nat) (body : List Byte) : List Byte := le 2 (body.length + 4096 * kind) ++ body

/-- A packet's CRC-32C (Table 19.8). -/
def fpCrc (kind : Nat) (body : List Byte) : Nat := crc32c (fpCovered kind body)

/-- A packet as it goes over the line: SYNC, LK, BODY and CRC (Table 19.8). -/
def fpBytes (kind : Nat) (body : List Byte) : List Byte := [0xA5, 0x5A] ++ fpCovered kind body ++ le 4 (fpCrc kind body)

/-- The bytes of a packet that the device sends. -/
def FpPacket.bytes (p : FpPacket) : List Byte := fpBytes p.body.1 p.body.2

end Sys2Proof.Machine
end

