-- ==== Sys2Proof/Machine/Links.lean ====
section
/-! DEFINITION. The link layers of the Tether port (R335 to R339) and of the Trail ports (R368 to R374): flits, replays, link resets,
neighbour sessions, failed ports and the flooded map. A message or packet that a flit completes comes as a command of its own
(log entry 31). -/

namespace Sys2Proof.Machine

open Sys2Proof

/-! ### Sequence numbers and credits (R335 to R337) -/

/-- Take an ACKSEQ: the count of acknowledged flits it extends to, if it is one of those sent (R337). -/
def LinkLayer.ack (l : LinkLayer) (ackseq : Nat) : LinkLayer :=
  let d := (ackseq + 1 + 4096 - l.txAcked % 4096) % 4096
  if d = 0 ∨ l.txCount < l.txAcked + d then l else { l with txAcked := l.txAcked + d, replays := 0 }

/-- Take a cumulative freed count of a channel; an old one returns no credit twice (R336). -/
def LinkLayer.credit (l : LinkLayer) (ch cred : Nat) : LinkLayer :=
  let f := mgetD l.freed ch 0
  let d := (cred + 1024 - f % 1024) % 1024
  if mgetD l.sentOn ch 0 < f + d then l else { l with freed := mset l.freed ch (f + d) }

/-- Flits sent and not acknowledged. -/
def LinkLayer.unacked (l : LinkLayer) : Nat := l.txCount - l.txAcked

/-- A data flit is accepted in order, and its buffer freed (R335, R337). -/
def LinkLayer.accept (l : LinkLayer) (ch : Nat) : LinkLayer :=
  { l with rxCount := l.rxCount + 1, nak := false, rxFreed := mset l.rxFreed ch (mgetD l.rxFreed ch 0 + 1) }

/-- After a link reset both ends take the counter after the higher one either side used (R338). -/
def rekeyLink (s : State) (link : Nat) : State :=
  upSec s (fun e => { e with links := mmod e.links link (fun k =>
    if k.secret.isSome then
      let c := (max k.counter k.rxCounter + 1) % 2 ^ 32
      { k with counter := c, rxCounter := c, packets := 0, since := s.glb.lifetime }
    else k) })

/-- The receiver adopts the next counter's key (R338). -/
def adoptNext (s : State) (link : Nat) : State :=
  upSec s (fun e => { e with links := mmod e.links link (fun k => { k with rxCounter := (k.rxCounter + 1) % 2 ^ 32 }) })

/-! ### Tether messages (R339) -/

/-- The channel of a message type; none for an unknown one (Table 14.3). -/
def mtypeVc (t : Nat) : Option Nat :=
  if t = 3 ∨ t = 0x0B ∨ t = 0x0C then some 0
  else if t = 6 ∨ t = 8 then some 1
  else if 1 ≤ t ∧ t ≤ 0x0F then some 2
  else none

/-- The body of a message has a length that its type allows (Table 14.3). `b`: the message from its header on. -/
def mtypeLen (t : Nat) (b : List Byte) (n : Nat) : Bool :=
  if t = 1 then n == 177
  else if t = 2 then n == 88
  else if t = 3 then (if num b 20 4 = 0 then n == 24 + 4096 * num b 32 4 else n == 24)
  else if t = 6 then n % 16 == 0 && decide (16 ≤ n) && decide (n ≤ 4096)
  else if t = 8 then n == 65536
  else if t = 9 then n == 4
  else if t = 0x0A then n == 20
  else if t = 0x0B then decide (4 ≤ n) && n % 4096 == 4
  else if t = 0x0C then (if num b 20 4 = 0 then n == 4112 else n == 16)
  else n == 0

/-- A whole message is one of Table 14.3 on its channel, with its LEN as its flits say (R339). -/
def messageOk (vc : Nat) (b : List Byte) : Bool :=
  decide (16 ≤ b.length) && mtypeVc (num b 0 1) == some vc && num b 4 4 == b.length - 16 && mtypeLen (num b 0 1) b (b.length - 16)

/-- A message is discarded (R339). -/
def badMessage (s : State) : State :=
  raise (upPair s (fun p => { p with badMessages := satInc p.badMessages })) (unit islTether 7)

/-- The part of a message received so far on a channel. -/
def setPart (s : State) (vc : Nat) (b : Option (List Byte)) : State :=
  upPair s (fun p => { p with rxPart := match b with
    | some x => mset p.rxPart vc x
    | none => mdel p.rxPart vc })

/-- The payload of an accepted flit joins its message; the last flit completes or discards it (R336, R339). -/
def takePayload (s : State) (f : TetherFlit) : State :=
  let part := mget s.pair.rxPart f.vc
  if 3 ≤ f.vc ∨ f.len = 0 ∨ 224 < f.len then badMessage (setPart s f.vc none)
  else
    let s := if f.som && part.isSome then badMessage s else s
    if !f.som && part.isNone then (if f.eom then badMessage s else s)
    else
      let b := (if f.som then [] else part.getD []) ++ fit f.len f.payload
      if !f.eom then setPart s f.vc (some b)
      else
        let s := setPart s f.vc none
        if messageOk f.vc b then s else badMessage s

/-! ### The Tether link (R337, R338) -/

/-- Replay the unacknowledged flits, which the register counts (R337, Table 14.16). -/
def replayTether (s : State) : State :=
  let n := s.pair.link.unacked
  if n = 0 ∨ 4 ≤ s.pair.link.replays then s
  else upPair s (fun p => { p with link := { p.link with replays := p.link.replays + 1 }, replays := satAdd p.replays n })

/-- Acknowledgements, credits and NAK of a good flit's header, and what can go out now (R335 to R337). -/
def takeTetherHeader (s : State) (f : TetherFlit) : State :=
  let s := upPair s (fun p => { p with
    link := (([0, 1, 2].zip f.cred).foldl (fun l c => l.credit c.1 c.2) (p.link.ack f.ackseq)) })
  pumpTether (if f.nak then replayTether s else s)

/-- A flit is discarded; the next header sent carries NAK (R337). -/
def nakTether (s : State) : State := upPair s (fun p => { p with link := { p.link with nak := true } })

/-- TETHER_FLIT_RECEIVE (R335 to R339): a data flit is accepted when its CRC, its FSEQ and its tag are right, the tag under the key in use or
the next one. -/
def execTetherFlitReceive (f : TetherFlit) (s : State) : Out :=
  if inReset s islTether then .next s
  else if !s.pair.linkUp then .next s
  else if !tetherCrcOk f then .next (nakTether s)
  else if f.idle then .next (takeTetherHeader s f)
  else if f.fseq ≠ s.pair.link.rxCount % 4096 then .next (nakTether s)
  else if !f.tagOk && !f.tagOkNext then
    .next (nakTether (upPair s (fun p => { p with gcmFails := satInc p.gcmFails })))
  else
    let s := if f.tagOk then s else adoptNext s 0
    let s := upPair s (fun p => { p with link := p.link.accept f.vc })
    .next (takeTetherHeader (takePayload s f) f)

/-- TETHER_REPLAY_TIMEOUT: 4 µs without ACKSEQ progress (R337). -/
def execTetherReplayTimeout (s : State) : Out :=
  if inReset s islTether then .next s else if s.pair.linkUp then .next (replayTether s) else .next s

/-- A link reset of the Tether port is counted and recorded; FSEQ, credits and messages are kept (R337, R338). -/
def tetherReset (s : State) : State :=
  let s := upPair s (fun p => { p with
    linkUp := false, rate := 0, width := 0, linkResets := satInc p.linkResets, lifeResets := p.lifeResets + 1,
    link := { p.link with replays := 0 } })
  raise (rekeyLink s 0) (unit islTether 7)

/-- The Tether island serves its link. -/
def tetherOn (s : State) : Bool :=
  s.glb.poweredOn && !s.flt.halted && !s.flt.containing.contains islTether && s.pwr.state != 3 && !s.med.dumpHeld

/-- TETHER_LINK_RESET: four replays without progress reset the link; a link that is down trains to a rate code and width of Table 14.12,
or stays down (R334, R337). -/
def execTetherLinkReset (speed width : Nat) (s : State) : Out :=
  if inReset s islTether then .next s
  else if !tetherOn s || (s.pair.linkUp && decide (s.pair.link.replays < 4)) then .next s
  else
    let s := if s.pair.linkUp then tetherReset s else s
    if (speed == 2 || speed == 3) && (width == 4 || width == 8) then
      .next (pumpTether (upPair s (fun p => { p with linkUp := true, rate := speed, width, upAt := s.glb.lifetime })))
    else .next s

/-! ### Routing around failed ports (R373) -/

/-- Send a packet on its way again; one of another source that has no route is answered with UNREACHABLE (R373). -/
def reroute (s : State) (p : MPkt) : State :=
  match routed s p none with
  | some t => t
  | none => if p.src = s.mesh.node then s else sendM s p.src p.group (.unreachable p.ident p.body.typ)

/-- Pass a flooded packet to every neighbour (R373). -/
def toNeighbours (s : State) (src : Nat) (b : MBody) : State :=
  (livePorts s).foldl (fun s q => match (portAt s q).neighbour with
    | some n => putPort s q 0 6 { dst := n, src, group := 0xFFF, pairId := s.pair.pairId, body := b }
    | none => s) s

/-- Flood this device's failed ports (R373). -/
def floodOwn (s : State) : State :=
  let l := s.mesh.failedLinks.filter (fun x => x.1 == s.mesh.node)
  let q := s.mesh.floodSeq
  toNeighbours (upMesh s (fun m => { m with floodSeq := (m.floodSeq + 1) % 2 ^ 64 })) s.mesh.node (.linkState q l)

/-- Packets a port holds unacknowledged, oldest first. -/
def heldPackets (s : State) (b : Nat) : List MPkt :=
  (((s.mesh.sent.filter (fun x => x.1 == b)).take (portAt s b).link.unacked).map (fun x => x.2.2)).reverse

/-- A port becomes FAILED: the map is flooded, and what it held goes by the detour (R373). -/
def failPort (s : State) (b : Nat) : State :=
  let q := portAt s b
  if q.failed then s
  else
    let held := heldPackets s b ++ q.out.map (·.2.2)
    let s := modPort s b (fun p => { p with failed := true, up := false, out := [] })
    let s := upMesh s (fun m => { m with failedLinks := (s.mesh.node, b) :: m.failedLinks })
    held.foldl reroute (floodOwn (rePartition s))

/-- PORT_FAILED: a port that lost its link has not retrained within 2 ms (R373). -/
def execPortFailed (port : Nat) (s : State) : Out :=
  if inReset s (islTrail port) then .next s
  else if 6 ≤ port || !(portAt s port).enabled || (portAt s port).failed then .next s else .next (failPort s port)

/-! ### A Trail port's link (R371) -/

/-- A link reset of a port is counted and recorded; the fourth within a second makes it FAILED (R371, R373). -/
def trailReset (s : State) (b : Nat) : State :=
  let s := modPort s b (fun p => { p with
    resets := s.glb.lifetime :: p.resets.filter (fun t => decide (s.glb.lifetime < t + 1000)), link := { p.link with replays := 0 } })
  let s := rekeyLink (upMesh s (fun m => { m with linkResets := satInc m.linkResets })) (1 + b)
  let s := raise s (unit (islTrail b) 7)
  if 4 ≤ (portAt s b).resets.length then failPort s b else s

/-- Replay a port's unacknowledged flits; the fourth replay without progress is followed by a link reset (R337, R371). -/
def replayTrail (s : State) (b : Nat) : State :=
  let n := (portAt s b).link.unacked
  if n = 0 then s
  else
    let s := modPort s b (fun p => { p with link := { p.link with replays := p.link.replays + 1 } })
    let s := upMesh s (fun m => { m with replays := satAdd m.replays n })
    if 4 ≤ (portAt s b).link.replays then trailReset s b else s

/-- TRAIL_REPLAY_TIMEOUT: 4 µs without ACKSEQ progress at a port (R371). -/
def execTrailReplayTimeout (port : Nat) (s : State) : Out :=
  if inReset s (islTrail port) then .next s
  else
    if (portAt s port).up && !(portAt s port).failed then .next (replayTrail s port) else .next s

/-- The class of a packet type; none for an unknown one (Table 15.4). -/
def typeClass (t : Nat) : Option Nat :=
  if t = 0x0D ∨ t = 0x14 then some 1
  else if t = 0x22 ∨ t = 0x23 then some 2
  else if t = 0x31 then some 3
  else if (1 ≤ t ∧ t ≤ 3) ∨ (8 ≤ t ∧ t ≤ 0x0C) ∨ (0x10 ≤ t ∧ t ≤ 0x12) ∨ (0x15 ≤ t ∧ t ≤ 0x19) ∨ t = 0x20 ∨ t = 0x21 ∨ t = 0x30 ∨
    t = 0x32 then some 0
  else none

/-- The payload length is within its type's limit; probe and claim packets have one length (R352, Tables 14.17, 15.4). -/
def typeLen (t n : Nat) : Bool :=
  if t = 8 ∨ t = 0x0A ∨ t = 0x0B then n == 24
  else if t = 9 then n == 28
  else if t = 0x0C then n == 32
  else
    decide (n ≤ (if t = 3 ∨ t = 0x16 ∨ t = 0x19 then 1 else if t = 0x10 then 51 else if t = 0x11 then 7 else if t = 0x12 ∨ t = 0x22 then 9
      else if t = 0x15 then 256 else if t = 0x18 then 0 else if t = 0x20 then 8 else if t = 0x32 then 13 else 4096))

/-- A packet is discarded (R371). -/
def badPacket (s : State) (b : Nat) : State :=
  raise (upMesh s (fun m => { m with badPackets := satInc m.badPackets })) (unit (islTrail b) 7)

/-- Acknowledgement, credit and NAK of a good flit's header, and what can go out now (R370, R371). -/
def takeTrailHeader (s : State) (b : Nat) (f : TrailFlit) : State :=
  let s := modPort s b (fun p => { p with link := (p.link.ack f.ackseq).credit f.credCh f.cred })
  pumpPort (if f.nak then replayTrail s b else s) b

/-- A flit is discarded; the next header sent carries NAK. -/
def nakTrail (s : State) (b : Nat) : State := modPort s b (fun p => { p with link := { p.link with nak := true } })

/-- The packet of an accepted flit: malformed ones are discarded, and one for another node goes on (R371 to R373). -/
def takePacket (s : State) (b : Nat) (f : TrailFlit) : State :=
  if typeClass f.typ ≠ some f.cls || f.pkt.body.typ != f.typ || f.reserved != 0 || !typeLen f.typ f.len then badPacket s b
  else if f.pkt.dst = s.mesh.node then s
  else forwardM s f.pkt b f.dl f.esc

/-- The channel a flit came on: 3 × class + v (R370). -/
def flitChannel (f : TrailFlit) : Nat := 3 * (f.cls % 4) + (if f.esc then 2 else if f.dl then 1 else 0)

/-- TRAIL_FLIT_RECEIVE (R369 to R374). -/
def execTrailFlitReceive (port : Nat) (f : TrailFlit) (s : State) : Out :=
  if inReset s (islTrail port) then .next s
  else
    let q := portAt s port
    if !q.up || q.failed then .next s
    else if !trailCrcOk f then .next (nakTrail s port)
    else if f.idle then .next (takeTrailHeader s port f)
    else if f.fseq ≠ q.link.rxCount % 4096 then .next (nakTrail s port)
    else if !f.tagOk && !f.tagOkNext then
      .next (nakTrail (upMesh s (fun m => { m with gcmFails := satInc m.gcmFails })) port)
    else
      let s := if f.tagOk then s else adoptNext s (1 + port)
      let s := modPort s port (fun p => { p with link := p.link.accept (flitChannel f) })
      .next (takeTrailHeader (takePacket s port f) port f)

/-! ### Neighbours and the flooded map (R368, R373) -/

/-- MESH_CONFIG's PARAM1 of the configuration in force (Table 4.17). -/
def meshShape (s : State) : Nat := s.mesh.xs + 16 * s.mesh.ys + 256 * s.mesh.zs + 2048 * s.mesh.wrap

/-- LINK_HELLO of a trained port: the neighbour's configuration, place and signature are checked, and the session is formed with this
end's own LINK_HELLO (R328, R368). -/
def execLinkHello (port _serial node shape : Nat) (pub : List Byte) (verified : Bool) (s : State) : Out :=
  if inReset s (islTrail port) then .next s
  else
    let q := portAt s port
    if 6 ≤ port || !s.mesh.configured || !q.enabled || q.failed || q.up || s.sec.errorState || s.flt.containing.contains (islTrail port) then
      .next s
    else if shape ≠ meshShape s || neighbourOf s s.mesh.node port != some node || !verified then
      .next (raise (failPort s port) (unit (islTrail port) 3))
    else
      let k := freshKey s
      let own := secret k.1 97
      let key : LinkKey := { secret := some (Config.sharedSecret own pub), counter := 0, rxCounter := 0, packets := 0, since := s.glb.lifetime }
      let sig := freeBytes k.2 96
      let s := upSec sig.2 (fun e => { e with links := mset e.links (1 + port) key })
      let s := modPort s port (fun p => { p with up := true, neighbour := some node })
      .next (putPort s port 0 6 (ownPkt s node 0xFFF (.linkHello Config.serial s.mesh.node (meshShape s) own sig.1)))

/-- LINK_STATE: a newer flood of a device replaces what it said before, and goes on to the neighbours (R373). -/
def execLinkState (src seq : Nat) (failed : List (Nat × Nat)) (s : State) : Out :=
  if inReset s islStripe then .next s
  else
    let old := match mget s.mesh.floods src with
      | some n => decide (seq ≤ n)
      | none => false
    if !s.mesh.configured || src == s.mesh.node || old then .next s
    else
      let kept := s.mesh.failedLinks.filter (fun x => x.1 != src)
      let s := upMesh s (fun m => { m with
        floods := mset m.floods src seq, failedLinks := failed.filter (fun x => !kept.contains x) ++ kept })
      .next (toNeighbours (rePartition s) src (.linkState seq failed))

/-- UNREACHABLE: a packet of this device had no route. A reconstruction whose request was dropped goes on without the units of nodes that
cannot be reached (R373, R386). -/
def execUnreachable (src id typ : Nat) (s : State) : Out :=
  if inReset s islStripe then .next s
  else
    match s.mesh.recons.find? (fun r => r.request == id) with
    | none => .next s
    | some r =>
      match r.record.bind (fun rc => (groupAt s rc.group).map (fun g => (rc, g))) with
      | none => .next s
      | some (rc, g) =>
        let up := reachable s
        let gone := r.waits.filter (fun u => !up.contains (unitNode g rc.stripe u))
        if typ ≠ 0x22 || r.done || r.exhausted || gone.isEmpty || src == s.mesh.node then .next s
        else
          let n := s.mesh.nextReq
          let s := upMesh s (fun m => { m with nextReq := (m.nextReq + 1) % 2 ^ 64 })
          let s := modRecon s id (fun x => { x with request := n, bad := x.bad ++ gone, waits := [] })
          .next (askUnits s { r with request := n, bad := r.bad ++ gone, waits := [] })

end Sys2Proof.Machine
end

