-- ==== Sys2Proof/Machine/Faults.lean ====
section
/-! DEFINITION. The fault collector's reactions (R413 to R428): levels and escalation, Contain, Failover and Halt, and the quiet
period. -/

namespace Sys2Proof.Machine

open Sys2Proof

/-! ### Contain (R422, R423, Table 17.16) -/

/-- A Contain reset of KCn: dispatched instances, shared areas and program memory are lost, and every run the cluster held ends with
PROGRAM_FAULT (R218, Table 10.4). -/
def containKite (s : State) (n : Nat) : State :=
  let runs := (clusterAt s n).areas.map (fun a => a.run) ++ (List.range 8).filterMap (fun i => (coreAt s (8 * n + i)).inst.map (·.1))
  let s := runs.eraseDups.foldl (fun s t => endRun s t { status := stProgramFault, r1 := 8 * n * 2 ^ 14 }) s
  let s := (span (8 * n) 8).foldl (fun s c =>
    modCore s c (fun x => { state := if x.state = 7 then 7 else 0, image := none, inst := none })) s
  settleRing (modCluster s n (fun c => { c with areas := [], test := false })) n

/-- The fate of the work inside an island (Table 17.16). Rows that only reissue what was in flight change nothing in a model whose
steps are whole; the register blocks keep their values (log entry 30). -/
def containWork (s : State) (i : Nat) : State :=
  if i = islTether then (if s.pair.linkUp then tetherReset s else s)
  else if 8 ≤ i ∧ i ≤ 13 then
    (if (portAt s (i - 8)).up then modPort (trailReset s (i - 8)) (i - 8) (fun p => { p with up := false }) else s)
  else if i = islCrypt then zeroise s 2
  else if 33 ≤ i ∧ i ≤ 40 then containKite s (i - 33)
  else s

/-- A Contain reset begins; one for an island already in one is the same reset. A gated island is woken into it, and a test slice on it
ends (R422). -/
def contain (s : State) (i : Nat) : State :=
  if 45 ≤ i ∨ s.flt.containing.contains i then s
  else
    let s := if s.hlt.slice = some i then endSlice s i else s
    let s := upPwr s (fun p => { p with gated := p.gated.filter (· != i), retained := p.retained.filter (· != i) })
    let s := upFlt s (fun f => { f with containing := linsert f.containing i, windows := f.windows.filter (· != i) })
    containWork s i

/-- CONTAIN_READY: the island is ready, and its shadow window runs; the host's link carries what waited, and a port's link is up again
(R421 to R423). -/
def execContainReady (island : Nat) (s : State) : Out :=
  if !s.flt.containing.contains island then .next s
  else
    let s := upFlt s (fun f => { f with
      containing := f.containing.filter (· != island), windows := linsert f.windows island })
    if island = islHost then .next (msixFlush s)
    else if 8 ≤ island ∧ island ≤ 13 then
      let q := portAt s (island - 8)
      if q.enabled && !q.failed && q.neighbour.isSome then
        .next (pumpPort (modPort s (island - 8) (fun p => { p with up := true })) (island - 8))
      else .next s
    else .next s

/-- SHADOW_WINDOW_END (R421). -/
def execShadowWindowEnd (island : Nat) (s : State) : Out :=
  .next (upFlt s (fun f => { f with windows := f.windows.filter (· != island) }))

/-! ### Failover and Halt (R424, R425) -/

/-- Steps 1 to 3 of a Failover; the device reset follows the dump (R424). -/
def failOver (s : State) (r : FaultRecord) : State :=
  let s := if s.pair.state = 2 ∨ s.pair.state = 3 then sendT s .yieldMsg else s
  let s := shadowQueue (dropCommands s)
  let s := upFlt s (fun f => { f with failover := true, failovers := f.failovers + 1, failoverEvent := some r, remain := 0 })
  if s.med.dumpHeld then deviceReset s 4
  else startDump (upGlb s (fun g => { g with resetPending := true, ready := false, lastReset := 4 })) 2

/-- FAULT_N is driven, and every island but AON, PJM and HOST stops: the links go down and the cores are off (R425 step 5). -/
def haltDone (s : State) : State :=
  let s := upKite (upFlt s (fun f => { f with faultN := true })) (fun k => { k with
    cores := List.replicate 64 { state := 7, image := none, inst := none } })
  let s := upPair s (fun p => { p with linkUp := false, rate := 0, width := 0, beating := false })
  upMesh (upGlb s (fun g => { g with ready := false })) (fun m => { m with ports := m.ports.map (fun p => { p with up := false }) })

/-- The AER status bit of an uncorrectable internal error, which reports a halt (R53; PRESUMED: bit 22 of PCI Express, log entry 3). -/
def aerInternal : Nat := 22

/-- Steps 1 to 4 of a Halt. FAULT_N follows the dump. Before the boot has reached READY, or after a dump, there is nothing to dump
(R425). -/
def halt (s : State) : State :=
  let s := upHst s (fun h => { h with viral := h.viral || h.viralEn, aer := linsert h.aer aerInternal })
  let s := if s.pair.linkUp then sendT s .yieldMsg else s
  let s := shadowQueue (dropCommands s)
  let s := upFlt s (fun f => { f with halted := true, halts := f.halts + 1, remain := 0 })
  if s.glb.booting || s.med.dumpHeld then haltDone s else startDump s 3

/-! ### Reactions (R415 to R420, R427, R428) -/

/-- Islands whose Contain is taken as Failover (R419). -/
def containFails (src : Nat) : Bool :=
  decide (src < 0x168) && ([0, 1, 2, 4, 5] ++ span 14 4 ++ span 41 4).contains (src / 8)

/-- Islands of the dump path: flash channels, their decoders and CRYPT (R429). -/
def onDumpPath (i : Nat) : Bool := decide (18 ≤ i) && decide (i ≤ 30)

/-- The level a fault reacts at before R419: the configured level, or one above the higher of it and the level held for its class
while that is unacknowledged (R416 to R418). -/
def escalated (s : State) (f : PendingFault) : Nat :=
  let cfg := f.level.getD (srcLevel s f.src)
  if srcClass f.src = 0 ∨ cfg = 0 then cfg
  else
    match mget s.flt.unack (srcClass f.src) with
    | some held => min 4 (max cfg held + 1)
    | none => cfg

/-- The level taken (R419). -/
def levelTaken (s : State) (f : PendingFault) : Nat :=
  let l := escalated s f
  let l := if l = 2 ∧ containFails f.src then 3 else l
  if l = 3 ∧ !s.flt.readySeen then 4 else l

/-- The reaction of the fault at the head of the queue, which has left it. -/
def react (s : State) (f : PendingFault) : State :=
  let cls := srcClass f.src
  let cfg := f.level.getD (srcLevel s f.src)
  let counting := cls != 0 && decide (1 ≤ cfg)
  let held := mget s.flt.unack cls
  let rose := counting && (match held with
    | some h => decide (max cfg h < escalated s f)
    | none => false)
  let level := levelTaken s f
  let forced := level != escalated s f
  let flags := 2 * b2n rose + 16 * b2n forced
  let r : FaultRecord := { time := s.glb.lifetime, src := f.src, cls, level, configured := cfg, flags }
  let period := feature s 2
  let s := upFlt s (fun x => { x with
    period, escalations := if rose then satInc x.escalations else x.escalations,
    reactions := mset x.reactions level (satInc (mgetD x.reactions level 0)),
    unack := if counting then mset x.unack cls (max level (held.getD 0)) else x.unack,
    remain := if counting then 100 * period else x.remain })
  let s := if cls != 0 || f.fresh then addHistory s f.src cls level cfg flags else s
  let s := setLast s f.src cls level false
  if level = 3 then failOver s r
  else
    let s := if f.fresh || decide (2 ≤ level) || rose || f.asks then
        postEvent s evFault (f.src + cls * 512 + level * 4096) f.count 0 else s
    if level = 4 then halt s
    else if level = 2 ∧ f.src < 0x168 then contain s (f.src / 8)
    else s

/-- FAULT_REACTION: the fault at the queue's head reacts, and one that its detector held takes its place; while a power-loss dump runs,
a reaction it would disturb waits (R426, R429). -/
def execFaultReaction (s : State) : Out :=
  match s.flt.queue with
  | [] => .next s
  | f :: rest =>
    let l := levelTaken s f
    if s.med.dumpActive && (decide (3 ≤ l) || (l == 2 && onDumpPath (f.src / 8))) then .next s
    else
      let s := upFlt s (fun x => { x with queue := rest ++ x.held.take 1, held := x.held.drop 1 })
      .next (react s f)

/-- FAULT_RAISE: a detector reports a fault, at a level where its chapter names one for the occurrence (R413, R416). -/
def execFaultRaise (src : Nat) (level : Option Nat) (s : State) : Out :=
  if !srcImplemented src || !s.glb.poweredOn || (match level with
    | some l => decide (4 < l)
    | none => false) then .next s
  else .next (raiseAt s src level false none)

/-- QUIET_PERIOD_END: the quiet timer has run out; every class is acknowledged, with a record for each, and the recovery is counted (R420, R428). -/
def execQuietPeriodEnd (s : State) : Out :=
  if s.flt.unack.isEmpty || s.flt.remain != 0 || s.flt.halted || s.flt.failover then .next s
  else
    let s := s.flt.unack.foldl (fun s c => addHistory s 0xFFFF c.1 0 0 8) s
    .next (upFlt s (fun f => { f with unack := [], remain := 0, recoveries := satInc f.recoveries }))

end Sys2Proof.Machine
end

