-- ==== Sys2Proof/Machine/Dump.lean ====
section
/-! DEFINITION. Power loss: the dump, the dump-held state, the warm restart and the loss of the rails (R162 to R166, R407, R408,
R487, R488). -/

namespace Sys2Proof.Machine

open Sys2Proof

/-! ### PWR_FAIL_N falls (R163, R164, R407) -/

/-- The device is past the point where a dump can start and has none standing: powered, booted, not halted, not already held. -/
def dumpable (s : State) : Bool :=
  s.glb.poweredOn && !s.glb.booting && !s.glb.romRecovery && !s.flt.halted && !s.med.dumpHeld

/-- What stops with step 2 of Table 6.4: the test slice, the transition under way and the requests behind it; every island is awake
again for the dump. -/
def stopWork (s : State) : State :=
  let s := match s.hlt.slice with
    | some i => endSlice (upHlt s (fun h => { h with slicesAborted := wrapInc h.slicesAborted })) i
    | none => s
  upPwr s (fun p => { p with
    state := 0, trans := none, waitIdle := none, queued := none, armed := false, gated := [], retained := [] })

/-- PWR_FAIL_ASSERT: PWR_FAIL_N has been low for 1 µs. Outside Ballast it starts a dump, unless the pin is ignored after a stuck
sense; in Ballast staging is empty and the level is only seen (R163, R164, R407). -/
def execPwrFailAssert (s : State) : Out :=
  if !s.pwr.pwrFailN || !s.glb.poweredOn then .next s
  else
    let s := upPwr s (fun p => { p with pwrFailN := false, failFrom := s.glb.lifetime })
    if s.pwr.pwrFailIgnored || !dumpable s || s.pwr.state == 3 then .next s
    else .next (startDump (stopWork (failIncomplete s)) 0)

/-- PWR_FAIL_DEASSERT: the pin is seen deasserted, which ends its being ignored and lets a boot begin (R407, R487). -/
def execPwrFailDeassert (s : State) : Out :=
  .next (upPwr s (fun p => { p with pwrFailN := true, pwrFailIgnored := false }))

/-! ### The end of a dump (R162, R424, R425, R452) -/

/-- The dump being written is marked complete in PJM, unless the error state kept it from writing (R162, R164). -/
def markDump (s : State) (us : Nat) : State :=
  upMed s (fun m => { m with
    dumps := m.dumps.map (fun d => if d.area = m.dumpArea ∧ !d.consumed then { d with complete := !s.sec.errorState } else d),
    dumpActive := false, dumpUs := us % 2 ^ 32, lifeDumps := if s.sec.errorState then m.lifeDumps else m.lifeDumps + 1 })

/-- The device reset that was waiting for its dump. HOST was reset at its start and may have trained again since, so what the host has
set up stays (R452, R462). -/
def finishReset (s : State) : State :=
  let h := s.hst
  let ready := s.glb.configReady
  let t := deviceReset s s.glb.lastReset
  upGlb { t with hst := { h with arenaCur := t.hst.arenaCur } } (fun g => { g with configReady := ready })

/-- DUMP_COMPLETE after `us` microseconds: the trailer has programmed. The device is dump-held, or goes on with the reset, the Failover
or the Halt that asked for the dump (Table 6.4 steps 7 and 8, R424, R425, R452). -/
def execDumpComplete (us : Nat) (s : State) : Out :=
  if !s.med.dumpActive then .next s
  else
    let s := markDump s us
    match s.med.dumpThen with
    | 0 => .next (upPwr (upMed s (fun m => { m with dumpHeld := true })) (fun p => { p with failFrom := s.glb.lifetime }))
    | 2 => .next (deviceReset s 4)
    | 3 => .next (haltDone s)
    | _ => .next (finishReset s)

/-! ### The warm restart (R165) -/

/-- A band left OPEN by the power loss is closed as after a program failure (R122, R165 step 3). -/
def closeOpen (s : State) (b : Nat) : State :=
  let s := bandMod s b (fun x => { x with
    state := .closed, deadline := if x.deadline = 0 then s.glb.lifetime + patrolInterval s b else x.deadline })
  journalDrain s [bandRec b .closed] [b]

/-- Steps 2 to 4 of the warm restart: the journal tail goes to PJM, every OPEN band is closed, and the dump is consumed. -/
def takeBackDump (s : State) : State :=
  let s := flushAll s
  let s := ((s.med.bands.filter (fun b => b.2.state == .opened)).map (·.1)).foldl closeOpen s
  upMed s (fun m => { m with
    dumps := m.dumps.map (fun d => { d with consumed := true }), dumpHeld := false, dumpWarm := true,
    bands := m.bands.map (fun b => (b.1, { b.2 with copies := 0, reads := 0 })), leafFetch := [] })

/-- Step 1: the islands that lost power are reset. Cores are off, keys must be unwrapped again, messages half done are gone, the
Waymark array is rebuilt from its shadow, links are down until they train, and register blocks keep their values (log entry 30). -/
def resetIslands (s : State) : State :=
  let s := upKite s (fun k => { k with
    cores := List.replicate 64 { state := 7, image := none, inst := none },
    clusters := k.clusters.map (fun c => { c with powered := false, test := false, areas := [] }) })
  let s := upWay s (fun w => { w with array := w.shadow, queue := [] })
  let s := upCmp s (fun c => { c with comp := [], decomp := [], waiting := [] })
  let s := upSec s (fun e => { e with keyCache := [], contexts := [], links := e.links.filter (fun l => l.1 == 0) })
  let s := upPair (rekeyLink s 0) (fun p => { p with linkUp := false, rate := 0, width := 0, beating := false })
  let s := (List.range 6).foldl (fun s b =>
    modPort (rekeyLink s (1 + b)) b (fun p => { p with up := false, neighbour := none })) s
  upMesh s (fun m => { m with recons := [] })

/-- The warm restart: queues, rings, tags, milestones and the acceptance sequence are kept, and READY is set again. -/
def warmRestart (s : State) : State :=
  let s := upDrc (takeBackDump (resetIslands s)) (fun d => { d with owed := [] })
  upGlb s (fun g => { g with ready := !s.sec.errorState, baudN := 25 })

/-- WARM_RESTART: in the dump-held state PWR_FAIL_N is found deasserted with every rail in regulation (R165). -/
def execWarmRestart (s : State) : Out :=
  if !s.med.dumpHeld || !s.pwr.railsGood then .next s
  else .next (warmRestart (upPwr s (fun p => { p with pwrFailN := true })))

/-- HOLDUP_SENSE_STUCK: PWR_FAIL_N has stayed asserted for 1 s after the dump with every rail good; the device restarts warm into
READ_ONLY. In Ballast the finding is noted for the exit (R407). -/
def execHoldupSenseStuck (s : State) : Out :=
  if s.pwr.pwrFailN || !s.pwr.railsGood || !s.glb.poweredOn || s.pwr.pwrFailIgnored ||
      decide (s.glb.lifetime ≤ s.pwr.failFrom + 1000) then .next s
  else if s.med.dumpHeld then .next (holdupStuck (warmRestart s))
  else if s.pwr.state = 3 then .next (upPwr s (fun p => { p with holdupNoted := true }))
  else .next s

/-- RAIL_LOSS: the rails fall once PWR_FAIL_N is asserted. Everything but the flash, PJM, the NOR and the fuses is lost; a dump not
yet complete stays so (R166, R408, R488). -/
def execRailLoss (s : State) : Out :=
  if s.pwr.pwrFailN || !s.glb.poweredOn then .next s
  else
    let s := loseAon (deviceReset s 0)
    .next (upPwr (upGlb s (fun g => { g with poweredOn := false })) (fun p => { p with railsGood := false }))

end Sys2Proof.Machine
end

