-- ==== Sys2Proof/Machine/PairMsgs.lean ====
section
/-! DEFINITION. What the Tether messages of a pair do: HELLO and the forming of a pair (R341), keys (R342), the partner's mirror, journal
and root (R343 to R347, R158), resending (R347, R361), separation (R348) and blocks read for the partner (R359). -/

namespace Sys2Proof.Machine

open Sys2Proof

/-! ### HELLO (R341, Table 14.5) -/

/-- Witness node IDs as HELLO carries them: 0xFFFF for none. -/
def witnessIds (s : State) : List Nat := s.pair.witness.map (fun w => if w.2 then w.1 else 0xFFFF)

/-- Provisioned blocks. -/
def provisionedBlocks (s : State) : Nat := (s.med.volumes.map (fun v => v.2.capacity)).sum

/-- The proof of a HELLO: HMAC-SHA-384 keyed with the token over the string "kreveari pair", the serial and the public key. -/
def helloProof (token : List Byte) (serial : Nat) (pub : List Byte) : List Byte :=
  hmac 1 token ([0x6B, 0x72, 0x65, 0x76, 0x65, 0x61, 0x72, 0x69, 0x20, 0x70, 0x61, 0x69, 0x72] ++ le 8 serial ++ pub)

/-- Send HELLO with a fresh public key. -/
def sendHello (s : State) (token : List Byte) : State :=
  let k := freshKey s
  let pub := secret k.1 97
  let w := witnessIds s
  let s := upPair k.2 (fun p => { p with pub })
  sendT s (.hello Config.serial (if s.mesh.configured then s.mesh.node else 0xFFFF) (w.getD 0 0xFFFF) (w.getD 1 0xFFFF) (w.getD 2 0xFFFF)
    (provisionedBlocks s) (512 * directoryLimit s) pub (helloProof token Config.serial pub))

/-- A pair session begins: the shared secret becomes the link's retained secret, and the pair ID follows from it (R328, R341). -/
def pairSession (s : State) (serial node : Nat) (pub : List Byte) : State :=
  let id := Config.sharedSecret s.pair.pub pub
  let s := upSec s (fun e => { e with
    links := mset e.links 0 { secret := some id, counter := 0, rxCounter := 0, packets := 0, since := s.glb.lifetime } })
  upPair s (fun p => { p with partner := serial, partnerNode := node, pairId := unle (secret (2 ^ 66 + id) 8) })

/-- Send KEY_TRANSFER for a list of volumes. -/
def sendKeys (s : State) (l : List (Nat × Volume)) : State :=
  l.foldl (fun s v => sendKey s v.1 true v.2.capacity v.2.attrs v.2.keyId) s

/-- A TETHER_PAIR is refused: a device that was PAIRING is SOLO again (Table 14.5). -/
def refusePair (s : State) (r : Reply) : State :=
  match s.pair.pairing with
  | none => s
  | some p =>
    let s := finish s p.tag r
    if s.pair.state = 1 then soloAgain s else upPair s (fun q => { q with pairing := none })

/-- Why a partner's HELLO is refused (Table 14.5). -/
def helloRefusal (s : State) (token : List Byte) (serial : Nat) (w : List Nat) (blocks limit : Nat) (pub proof : List Byte) :
    Option Reply :=
  let total := provisionedBlocks s + blocks
  if proof != helloProof token serial pub || rankSort id w != rankSort id (witnessIds s) then some (bad 0x18)
  else if 512 * directoryLimit s < total ∨ limit < total then some { status := stQueueLimit, detail := 6 }
  else none

/-! ### Hand-back: what it sends (R362) -/

/-- Foster volumes. -/
def fosterVols (s : State) : List (Nat × Volume) := s.med.volumes.filter (fun v => v.2.foster)

/-- The write sequence number of a block from its map entry: the codeword's, or for the Zero form the newest number with its epoch (R132,
R133). -/
def entryWseq (s : State) (e : MapEntry) : Nat :=
  match e.form.place with
  | some (pa, _) =>
    match mget s.med.flash (paCw pa) with
    | some c => c.wseq + (c.blocks.filter (fun b => decide (b.unit < pa % 16))).length
    | none => 0
  | none =>
    let top := s.med.wseq - 1
    top - (top % 4096 + 4096 - e.epoch) % 4096

/-- Blocks of the stretches of a foster volume that hold something, here or at the partner. -/
def handBlocks (s : State) (v : Nat × Volume) : List (Nat × Nat) :=
  let sts := (v.2.dir.map (·.1) ++ (s.pair.partnerDir.filter (fun e => e.1 == v.1)).map (fun e => e.2.1)).eraseDups
  (sts.flatMap (fun st => span (512 * st) (min 512 (v.2.capacity - 512 * st)))).map (fun l => (v.1, l))

/-- A block that this device wrote at or after a write sequence number. -/
def writtenSince (s : State) (mark v lba : Nat) : Bool :=
  dirAt s v (lba / 512) != .unmapped &&
    (match (mapFull s v lba).form with
      | .remote _ _ _ => false
      | _ => decide (mark ≤ entryWseq s (mapFull s v lba)))

/-- The blocks of a pass: every block, or those written from a write sequence number on. -/
def passBlocks (s : State) (from_ : Option Nat) : List (Nat × Nat) :=
  let l := (fosterVols s).flatMap (handBlocks s)
  match from_ with
  | none => l
  | some m => l.filter (fun x => writtenSince s m x.1 x.2)

/-- A hand-back begins: the foster volumes' keys go out and the first pass is listed (R362 steps 2 and 3). -/
def startHandback (s : State) (delta : Bool) : State :=
  let s := sendKeys s (fosterVols s)
  let todo := passBlocks s (if delta then some s.pair.takeoverMark else none)
  upPair s (fun p => { p with
    handback := some { delta, pass := 1, mark := s.med.wseq, sent := 0, last := false, final := false, todo }, handbackLeft := todo.length })

/-! ### The forming of a pair (R341) -/

/-- The partner's HELLO has passed: the session begins, and with it the initial copy, or the hand-back to a replacement (R341 steps 3 and
4, R362). -/
def agreePair (s : State) (p : Pairing) (serial node : Nat) (pub : List Byte) : State :=
  let s := pairSession s serial node pub
  if s.pair.state = 1 then
    let base := match s.med.ckpt with
      | some c => c.no + 1
      | none => newestRootNo s + 1
    let s := upPair s (fun q => { q with jConfirmed := jHead s, pairing := some { p with agreed := true, base } })
    let s := if s.med.ckpt.isNone then startCkpt s else s
    sendKeys s (s.med.volumes.filter (fun v => !v.2.foster))
  else startHandback (upPair s (fun q => { q with pairing := some { p with agreed := true } })) false

/-- Judge a partner's HELLO against the TETHER_PAIR in progress (R341 step 2). -/
def judgeHello (s : State) (m : TMsg) : State :=
  match m, s.pair.pairing with
  | .hello serial node w0 w1 w2 blocks limit pub proof, some p =>
    if p.agreed then s
    else
      match helloRefusal s p.token serial [w0, w1, w2] blocks limit pub proof with
      | some r => refusePair s r
      | none => agreePair s p serial node pub
  | _, _ => s

/-- A HELLO arrives: for the TETHER_PAIR in progress, ahead of one, or from the partner of a delta hand-back, which takes a new pair
secret (R341, R362 step 1). -/
def onHello (s : State) (m : TMsg) : State :=
  match m with
  | .hello serial node _ _ _ _ _ pub _ =>
    if s.pair.pairing.isSome then judgeHello s m
    else if s.pair.state = 0 then upPair s (fun p => { p with helloIn := some m })
    else if serial = s.pair.partner ∧ (s.pair.state = 4 ∨ (s.pair.state = 3 ∧ s.pair.fostering)) then
      let s := if s.pair.state = 3 then sendHello s [] else s
      pairSession s serial node pub
    else s
  | _ => s

/-! ### Keys (R325, R342) -/

/-- KEY_TRANSFER: a foster record of the key log, or a volume that a rejoining device creates held (R342, R362 step 2). -/
def onKeyTransfer (s : State) (vol : Nat) (install : Bool) (capacity attrs : Nat) : State :=
  let own := (mget s.med.volumes vol).isSome
  let record := fun (s : State) =>
    let k := freshKey s
    putKey k.2 { vol, keyId := k.1, kind := 1, capacity, attrs }
  if s.pair.state = 0 then s
  else if !install then upSec s (fun e => { e with keyLog := e.keyLog.filter (fun k => !(k.vol == vol && k.kind == 1)) })
  else if s.pair.state = 1 then
    if own then refusePair s { status := stQueueLimit, detail := 3 } else record s
  else if s.pair.state = 4 then
    if own then s
    else
      let k := freshKey s
      addVolume (putKey k.2 { vol, keyId := k.1, kind := 0, capacity, attrs }) vol capacity attrs k.1 false
  else if s.pair.fostering ∧ !s.pair.partnerReadOnly then s
  else record s

/-! ### The partner's mirror, journal and root (R158, R343 to R346) -/

/-- Insert a mirror entry in mirror sequence order. -/
def insertEntry (l : List MirrorIn) (e : MirrorIn) : List MirrorIn :=
  match l with
  | [] => [e]
  | x :: rest => if e.seq < x.seq then e :: x :: rest else if e.seq = x.seq then x :: rest else x :: insertEntry rest e

/-- The device stores for a partner: PAIRING, PAIRED, mirroring or returning. -/
def storesForPartner (s : State) : Bool := s.pair.state == 1 || partnered s || s.pair.state == 4

/-- MIRROR_WRITE: stored in the partner mirror region and confirmed; a resend is confirmed again (R343, R344). -/
def onMirrorWrite (s : State) (seq vol op lba blocks : Nat) (data : List Byte) : State :=
  if !storesForPartner s then s
  else if 2 < op ∨ data.length ≠ (if op = 0 then 4096 * blocks else 0) then badMessage s
  else
    sendT (upPair s (fun p => { p with entriesIn := insertEntry p.entriesIn { seq, vol, op, lba, blocks, data } })) (.mirrorConfirm seq)

/-- MIRROR_RELEASE: every entry up to the named one is freed (R346). -/
def onMirrorRelease (s : State) (seq : Nat) : State :=
  upPair s (fun p => { p with entriesIn := p.entriesIn.filter (fun e => decide (seq < e.seq)) })

/-- MIRROR_CONFIRM: the write that waits may be acknowledged (R24). -/
def onMirrorConfirm (s : State) (seq : Nat) : State :=
  let s := modEntry s (some seq) (fun e => { e with confirmed := true })
  releaseMirror (upTsk s (fun t => { t with ops := t.ops.map (fun o => if o.mirror = some seq then { o with mirror := none } else o) }))

/-- The newest root the partner has sent. -/
def partnerNewest (s : State) : Option Root :=
  match s.med.partnerRoot0, s.med.partnerRoot1 with
  | some a, some b => if a.ckptNo < b.ckptNo then some b else some a
  | some a, none => some a
  | none, b => b

/-- Journal spills that are not needed any more go, and their units in the Map bands with them (R145, R158). -/
def dropSpills (s : State) (gone : Spill → Bool) : State :=
  let l := s.med.spills.filter gone
  let s := upMed s (fun m => { m with spills := m.spills.filter (fun x => !gone x) })
  journalDrain (l.foldl (fun s x => subRun s x.pa) s) [] (l.map (fun x => paBand x.pa)).eraseDups

/-- The partner ring keeps its 393,216 newest records; those at or after JSTART of the partner's newest root go to a journal spill in an own
Map band first, 65,536 at a time; with no band to be had they stay where they are (R158). -/
def spillRing (s : State) (fuel : Nat) : State :=
  match fuel with
  | 0 => s
  | fuel + 1 =>
    if s.med.partnerRing.length ≤ partnerCap then s
    else
      let old := s.med.partnerRing.take 65536
      let keep := match partnerNewest s with
        | some r => decide (r.jstart < s.med.partnerStart + old.length)
        | none => true
      let first := s.med.partnerStart
      let shift := fun (s : State) => upMed s (fun m => { m with
        partnerRing := m.partnerRing.drop 65536, partnerStart := m.partnerStart + old.length })
      if !keep then spillRing (shift s) fuel
      else
        match writeRun s (fun i => recordsBytes (first + 256 * i) ((old.drop (256 * i)).take 256)) with
        | none => s
        | some (pa, s) => spillRing (shift (upMed s (fun m => { m with spills := m.spills ++ [{ first, recs := old, pa }] }))) fuel

/-- JOURNAL: the partner's records are stored in order and confirmed (R158, R345). -/
def onJournal (s : State) (first : Nat) (recs : List JRec) : State :=
  if !storesForPartner s then s
  else if recs.isEmpty ∨ 256 < recs.length then badMessage s
  else
    let m := s.med
    let empty := m.partnerRing.isEmpty && m.spills.isEmpty
    if !empty && decide (m.partnerStart + m.partnerRing.length < first) then s
    else
      let s := if empty then upMed s (fun m => { m with partnerStart := first, partnerRing := recs })
        else
          let new := recs.drop (m.partnerStart - first)
          let at_ := first - m.partnerStart
          upMed s (fun m => { m with
            partnerRing := m.partnerRing.take at_ ++ new ++ m.partnerRing.drop (at_ + new.length) })
      sendT (spillRing s 8) (.journalConfirm (first + recs.length - 1))

/-- JOURNAL_CONFIRM: the journal tail may move past the confirmed records (R345). -/
def onJournalConfirm (s : State) (last : Nat) : State :=
  if last < jHead s then releaseMirror (moveTail (upPair s (fun p => { p with jConfirmed := max p.jConfirmed (last + 1) }))) else s

/-- A partner root is stored in its slot, and what its JSTART makes unneeded goes (R158). -/
def storeRoot (s : State) (r : Root) : State :=
  upMed (dropSpills s (fun x => decide (x.first + x.recs.length ≤ r.jstart))) (fun m =>
    let gap := decide (m.partnerStart + m.partnerRing.length < r.jstart)
    { m with
      partnerRoot0 := if r.ckptNo % 2 = 0 then some r else m.partnerRoot0,
      partnerRoot1 := if r.ckptNo % 2 = 1 then some r else m.partnerRoot1,
      partnerRing := if gap then [] else m.partnerRing.drop (r.jstart - m.partnerStart),
      partnerStart := max m.partnerStart r.jstart })

/-- ROOT: stored; at a survivor, the root mirrored at the takeover starts the delta hand-back (R158, Table 14.9). -/
def onRoot (s : State) (no : Nat) (r : Root) : State :=
  if r.ckptNo ≠ no ∨ no = 0 then s
  else if s.pair.state = 3 ∧ s.pair.fostering ∧ !s.pair.partnerReadOnly then
    if s.pair.takeoverRoot = some no ∧ s.pair.handback.isNone then startHandback s true else s
  else if storesForPartner s then storeRoot s r
  else s

/-! ### Resending (R347, R361) -/

/-- A block as it stands, from staging or from the flash. -/
def blockNow (s : State) (v lba : Nat) : List Byte :=
  match (readBlock s { } v lba).1 with
  | .data b => b
  | .packed b => (inflateBlock b).getD (zeros 4096)
  | _ => zeros 4096

/-- The data of an entry to be resent: its staged blocks, or what has become of them (R347). -/
def entryData (s : State) (e : MirrorOut) : List Byte :=
  if e.op ≠ 0 then []
  else (span e.lba e.blocks).flatMap (fun l =>
    match s.med.staging.find? (fun x => x.vol == e.vol && x.lba == l && x.mirror == some e.seq) with
    | some x => x.data
    | none => blockNow s e.vol l)

/-- Send unreleased entries again. -/
def resendEntries (s : State) (l : List MirrorOut) : State :=
  l.foldl (fun s e => sendT s (.mirrorWrite e.seq e.vol e.op e.lba e.blocks (entryData s e))) s

/-- Send records of the own journal from a number on, 256 to a message. -/
def sendJournal (s : State) (from_ : Nat) (fuel : Nat) : State :=
  match fuel with
  | 0 => s
  | fuel + 1 =>
    let l := (s.med.ring.drop (from_ - s.med.jstart)).take 256
    if l.isEmpty then s else sendJournal (sendT s (.journal (max from_ s.med.jstart) l)) (max from_ s.med.jstart + l.length) fuel

/-- The journal from the newest root, with that root. -/
def resendJournal (s : State) : State :=
  match newestRoot s with
  | none => s
  | some r =>
    let s := upPair (sendT s (.root r.ckptNo r)) (fun p => { p with jConfirmed := r.jstart })
    sendJournal s r.jstart (s.med.ring.length / 256 + 1)

/-- Unreleased entries and the journal from the newest root go to a partner that is back (Table 14.9). -/
def resendAll (s : State) : State := resendJournal (resendEntries s s.pair.entriesOut)

/-! ### Separation (R348) -/

/-- The pair is separated: its secret, the partner's keys, journal and roots are destroyed. A device that fosters keeps the foster
volumes as its own (R348). -/
def separate (s : State) : State :=
  let mine := (fosterVols s).map (·.1)
  let tag := s.pair.unpairing
  let s := dropSpills s (fun _ => true)
  let s := upSec s (fun e => { e with
    keyLog := (e.keyLog.map (fun k => if k.kind = 1 ∧ mine.contains k.vol then { k with kind := 0 } else k)).filter (fun k => k.kind != 1),
    links := e.links.filter (fun l => l.1 != 0) })
  let s := upMed s (fun m => { m with
    volumes := m.volumes.map (fun v => (v.1, { v.2 with foster := false })), partnerRing := [], partnerStart := 0,
    partnerRoot0 := none, partnerRoot1 := none })
  let s := upPair s (fun p => { p with
    state := 0, suspect := false, meshMirror := false, fostering := false, fenced := false, partner := 0, pairId := 0,
    partnerNode := if mine.isEmpty then 0xFFFF else p.partnerNode, pairing := none, pub := [], helloIn := none, called := false,
    keyWaits := [], unpairing := none, draining := false, unpairSeen := false, unpairSent := false, entriesOut := [], entriesIn := [],
    beating := false, probes := 0, claim := none, takeoverMark := 0, takeoverRoot := none, partnerReadOnly := false, reads := [],
    readData := [], held := false, handback := none, handed := [], handbackLeft := 0, replaying := none, adopted := p.adopted ++ mine, out := [] })
  let s := pairLog s 2 0xFF 0
  match tag with
  | some t => finish s t (ok 0 0)
  | none => s

/-- The separation goes on. A device that fosters is separate once its takeover's replay is done (Table 14.11). Else UNPAIR is sent once every own entry has been released, and the pair is separate once both have sent it
(R348). -/
def trySeparate (s : State) : State :=
  if !s.pair.draining then s
  else if s.pair.fostering && !s.pair.partnerReadOnly then (if s.pair.replaying.isSome then s else separate s)
  else if !partnered s then s
  else
    let s := if s.pair.entriesOut.isEmpty && !s.pair.unpairSent then
        sendT (upPair s (fun p => { p with unpairSent := true })) .unpair else s
    if s.pair.unpairSent && s.pair.unpairSeen then separate s else s

/-- UNPAIR (R348). -/
def onUnpair (s : State) : State :=
  if s.pair.state = 0 then s else trySeparate (upPair s (fun p => { p with draining := true, unpairSeen := true }))

/-! ### Blocks for the partner (R359) -/

/-- A block of this device's flash or staging for BLOCK_DATA; none where it cannot be read. -/
def partnerBlock (s : State) (m : MediaIn) (v lba : Nat) : Option (List Byte) :=
  match stagedAt s v lba with
  | some x => if x.lost then none else some x.data
  | none =>
    match (readEntry s m v lba (mapFull s v lba)).1 with
    | .data b => some b
    | .packed b => inflateBlock b
    | _ => none

/-- BLOCK_READ is answered with BLOCK_DATA (R359). -/
def onBlockRead (s : State) (req vol lba blocks : Nat) (m : MediaIn) : State :=
  if s.pair.state = 0 then s
  else
    match mget s.med.volumes vol with
    | none => sendT s (.blockData req stUnrecovered [])
    | some v =>
      match (if lba + blocks ≤ v.capacity then (span lba blocks).mapM (partnerBlock s m vol) else none) with
      | some l => sendT s (.blockData req stSuccess l.flatten)
      | none => sendT s (.blockData req stUnrecovered [])

/-- BLOCK_DATA answers a request; a failure leaves the stripe group (R359). -/
def onBlockData (s : State) (req status : Nat) (data : List Byte) : State :=
  match s.pair.reads.find? (fun x => x.1 == req) with
  | none => s
  | some x =>
    upPair s (fun p => { p with
      reads := p.reads.filter (fun y => y.1 != req),
      readData := p.readData ++ [(x.2.1, x.2.2, if status = 0 then fit 4096 data else [])] })

/-! ### Blocks handed back (R362) -/

/-- HANDBACK: at the rejoining device a block with a higher WSEQ replaces one with a lower (R362). -/
def onHandback (s : State) (wseq vol form lba : Nat) (data : List Byte) : State :=
  match mget s.med.volumes vol with
  | none => s
  | some v =>
    let newer := !s.pair.handed.any (fun h => h.1 == vol && h.2.1 == lba && decide (wseq ≤ h.2.2))
    if s.pair.state ≠ 4 ∨ v.foster ∨ v.capacity ≤ lba ∨ !newer then s
    else if 1 < form ∨ data.length ≠ (if form = 0 then 4096 else 0) then badMessage s
    else
      let s := stageBlock s vol lba (if form = 0 then data else zeros 4096)
      upPair s (fun p => { p with handed := p.handed.filter (fun h => !(h.1 == vol && h.2.1 == lba)) ++ [(vol, lba, wseq)] })

/-- CUTOVER: the rejoining device serves its volumes, and its TETHER_PAIR replies (R362 step 5). -/
def onCutover (s : State) : State :=
  if s.pair.state ≠ 4 then s
  else
    let tag := s.pair.pairing.map (fun p => p.tag)
    let s := upPair s (fun p => { p with
      state := if p.meshMirror then 3 else 2, held := false, handed := [], pairing := none, suspect := false, probes := 0,
      events := p.events ||| 16 })
    let s := resendJournal (s.mesh.replaced.foldl (fun s x => endReplaced s x.1 x.2) s)
    match tag with
    | some t => finish (upPair (sendKeys s (s.med.volumes.filter (fun v => !v.2.foster))) (fun p => { p with pairings := p.pairings + 1 })) t
        (ok 0 2)
    | none => s

end Sys2Proof.Machine
end

