-- ==== Sys2Proof/Machine/PairRun.lean ====
section
/-! DEFINITION. The commands of the twin pair (chapter 14): pairing and separation, heartbeats, probes and claims, the takeover, and the
hand-back. -/

namespace Sys2Proof.Machine

open Sys2Proof

/-! ### Packets of the pair on the mesh (R352, Table 14.17) -/

/-- A packet of a pair, under a pair ID, to a node. -/
def sendPair (s : State) (dst pairId : Nat) (b : MBody) : State := (routed s { ownPkt s dst 0xFFF b with pairId } none).getD s

/-- PAIR_STATUS[7:3], as HEARTBEAT and PROBE_ACK carry it. -/
def pairStatusByte (s : State) : Nat := pairStatus s / 8 % 32

/-- Indices of the valid witnesses (R351). -/
def validWitnesses (s : State) : List Nat :=
  (List.range 3).filter (fun i => ((s.pair.witness.getD i (0, false)).2))

/-- The node of a witness. -/
def witnessNode (s : State) (i : Nat) : Nat := (s.pair.witness.getD i (0, false)).1

/-- Send a claim, or its release, to witnesses (R351, R352). -/
def sendClaim (s : State) (l : List Nat) (number : Nat) (release : Bool) : State :=
  l.foldl (fun s i => sendPair s (witnessNode s i) s.pair.pairId (.claim Config.serial s.pair.partner number release)) s

/-! ### Losing and finding the partner (R349, R350, R361, R365) -/

/-- SUSPECT is set: its event bit and its record (R349). -/
def suspectPartner (s : State) : State :=
  let s := upPair s (fun p => { p with beating := false })
  if s.pair.suspect then s
  else pairLog (upPair s (fun p => { p with suspect := true, probes := 0, events := p.events ||| 2 })) 3 0xFF 0

/-- The partner is heard: SUSPECT clears, and an unfinished claim is withdrawn (R349, R365). -/
def hearPartner (s : State) : State :=
  let s := match s.pair.claim with
    | some c => sendClaim s (validWitnesses s) c.number true
    | none => s
  upPair s (fun p => { p with beating := true, heardAt := s.glb.lifetime, suspect := false, probes := 0, claim := none })

/-- The state of a device whose partner is at hand (Table 14.6). -/
def pairedState (s : State) : Nat := if s.pair.meshMirror then 3 else 2

/-- REJOIN is entered, with the device's own volumes held (R353, R361). -/
def enterRejoin (s : State) : State :=
  pairLog (upPair s (fun p => { p with state := 4, fenced := false, held := true, called := false, heardAt := s.glb.lifetime })) 9 0xFF 0

/-- A replacement learns that its partner fosters: it joins in REJOIN, and the keys it was sent are its own volumes' (R362 step 2). -/
def becomeReplacement (s : State) : State :=
  let l := s.sec.keyLog.filter (fun k => k.kind == 1)
  let s := upSec s (fun e => { e with keyLog := e.keyLog.map (fun k => if k.kind = 1 then { k with kind := 0 } else k) })
  let s := l.foldl (fun s k => if (mget s.med.volumes k.vol).isSome then s else addVolume s k.vol k.capacity k.attrs k.keyId false) s
  enterRejoin s

/-! ### Takeover (R356 to R359, Table 14.7) -/

/-- Step 3: a foster volume for every foster record, and the takeover mark; the mirror entries of the foster volumes wait for step 4. -/
def fosterPartner (s : State) (byCommand : Bool) : State :=
  let l := s.sec.keyLog.filter (fun k => k.kind == 1)
  let mark := if s.pair.takeoverMark = 0 then s.med.wseq else s.pair.takeoverMark
  let root := match s.pair.takeoverRoot with
    | some n => some n
    | none => (partnerNewest s).map (fun r => r.ckptNo)
  let s := l.foldl (fun s k => if (mget s.med.volumes k.vol).isSome then s else addVolume s k.vol k.capacity k.attrs k.keyId true) s
  let s := upPair s (fun p => { p with
    state := 3, fostering := true, takeoverMark := mark, takeoverRoot := root, partnerDirReady := false, partnerDirLost := false })
  upPair s (fun p => { p with
    entriesIn := p.entriesIn.filter (fun e => isFoster s e.vol), replaying := some byCommand })

/-- A claim is won, by grants or by the host's word: steps 1 to 5 of Table 14.7; a separation under way then ends with the foster volumes
kept (R351, R354, R356, Table 14.11). Where TAKEOVER with PARAM0[0] = 0 started the claim, Table 4.19 (1: TAKEOVER command) and Table 14.7
(0: claim) differ on EVENT_TAKEOVER's DETAIL; the model posts 0 (DESIGN CHOICE, log entry 52). -/
def winClaim (s : State) (grants : Nat) (byCommand : Bool) : State :=
  let s := pairLog s 5 0xFF grants
  let s := upPair s (fun p => { p with
    claim := none, suspect := false, probes := 0, meshMirror := false, fenced := false, held := false, beating := false,
    partnerReadOnly := false, reads := [], readData := [], entriesOut := [], out := [], called := false })
  let s := postEvent s evPairLost (if byCommand then 2 else 1) s.pair.partner 0
  let s := upMed s (fun m => { m with staging := m.staging.map (fun x => { x with mirror := none }) })
  let s := upTsk s (fun t => { t with ops := t.ops.map (fun o => { o with mirror := none }) })
  trySeparate (replayMirror (fosterPartner s byCommand))

/-- A claim is lost: FENCED, with the own volumes held; a write that was waiting for its confirmation ends and changes no block. A
returning device stays held (R353, Table 14.9). -/
def loseClaim (s : State) (refusals : Nat) : State :=
  let s := pairLog (upPair s (fun p => { p with claim := none, claimsLost := p.claimsLost + 1, events := p.events ||| 4 })) 6 0xFF refusals
  let s := upPair s (fun p => { p with
    state := if p.state = 4 then 4 else 3, fenced := p.state != 4, meshMirror := false, held := true, probes := 0 })
  let waiting := s.tsk.ops.filter (fun o => isWrite o.pkt.opc && o.stage == .running && o.mirror.isSome)
  let s := waiting.foldl (fun s o => dropWrite s o (bad 0x0C)) s
  let tags := s.pair.takeovers
  tags.foldl (fun s t => finish s t (bad 0x20)) (upPair s (fun p => { p with takeovers := [] }))

/-- A claim is made: won at once with no witness valid, else asked of each (R351). -/
def startClaim (s : State) : State :=
  if s.pair.claim.isSome || s.pair.state == 0 || s.pair.state == 1 || s.pair.fenced then s
  else
    let s := upPair s (fun p => { p with claimNo := p.claimNo + 1 })
    let l := validWitnesses s
    if l.isEmpty then winClaim s 0 false
    else sendClaim (upPair s (fun p => { p with claim := some { grants := [], refusals := [], number := p.claimNo, askedAt := s.glb.lifetime } })) l s.pair.claimNo false

/-- The next probe, or the claim after four without an answer; a fenced device only calls (R350, R353). -/
def probeNext (s : State) : State :=
  if s.pair.fenced then sendPair s s.pair.partnerNode s.pair.pairId (.probe Config.serial s.pair.partner 1)
  else if s.pair.probes < 4 then
    let s := upPair s (fun p => { p with probes := p.probes + 1 })
    sendPair s s.pair.partnerNode s.pair.pairId (.probe Config.serial s.pair.partner s.pair.probes)
  else startClaim s

/-! ### What a partner's answer leads to (Table 14.9) -/

/-- The partner, which fosters nothing here, is reached: both resend, and the pair stands again. -/
def rejoinPartner (s : State) : State :=
  let s := resendAll (upPair s (fun p => { p with called := true }))
  upPair s (fun p => { p with state := pairedState s, held := false })

/-- A partner in a pair state, with its PAIR_STATUS[7:3], is at hand (R349, R353, R359, R361). `readOnly`: it is READ_ONLY; no message of
Table 14.3 carries that (log entry 35). -/
def meetPartner (s : State) (st status : Nat) (readOnly : Bool) : State :=
  let s := hearPartner s
  let fosters := bit status 2
  if s.pair.state = 1 then
    if st = 3 ∧ fosters ∧ s.pair.pairing.isSome then becomeReplacement s else s
  else if s.pair.fenced then enterRejoin s
  else if s.pair.state = 4 then
    if s.pair.pairing.isSome then s
    else if fosters then
      if s.pair.called then s
      else
        let s := sendHello (upPair s (fun p => { p with called := true })) []
        match newestRoot s with
        | some r => sendT s (.root r.ckptNo r)
        | none => s
    else if s.pair.fostering then upPair s (fun p => { p with state := 3, held := false })
    else rejoinPartner s
  else if st = 4 then
    if s.pair.fostering || s.pair.called then s
    else resendAll (upPair s (fun p => { p with called := true }))
  else
    let s := upPair s (fun p => { p with called := false })
    if readOnly && s.pair.state == 2 && !s.pair.fostering then
      replayMirror (fosterPartner (upPair s (fun p => { p with partnerReadOnly := true })) false)
    else s

/-! ### TETHER_PAIR and TETHER_UNPAIR (R341, R348) -/

/-- The initial copy is complete: the root of its checkpoint has gone out, the partner has confirmed the journal and taken the keys, and
its own root is here (R341 step 5). -/
def copyDone (s : State) (p : Pairing) : Bool :=
  p.agreed && decide (p.base ≤ newestRootNo s) && decide (jHead s ≤ s.pair.jConfirmed) && (partnerNewest s).isSome &&
    !s.pair.out.any (fun m => match m.msg with
      | .keyTransfer .. => true
      | _ => false)

/-- TETHER_PAIR: the token is read and HELLO goes out; the pair stands once the initial copy is complete (R341). -/
def execTetherPair (tag : Nat) (host : HostRead) (s : State) : Out :=
  match opFor s tag 0x0801 with
  | none => .next s
  | some o =>
    if o.stage = .running then
      match s.pair.pairing with
      | none => .next s
      | some p =>
        if s.pair.state ≠ 1 then .next s
        else if p.agreed ∧ s.med.ckpt.isNone ∧ newestRootNo s < p.base then .next (startCkpt s)
        else if copyDone s p then
          let s := upPair s (fun q => { q with
            state := 2, pairing := none, pairings := q.pairings + 1, beating := true, heardAt := s.glb.lifetime, called := false })
          .next (finish (pairLog s 1 0xFF s.pair.partnerNode) tag (ok 0 2))
        else .next s
    else if !(s.pair.state == 0 || (s.pair.state == 3 && s.pair.fostering)) || s.pair.pairing.isSome then .next (finish s tag (bad 0x20))
    else
      match input s o host o.pkt.dlen with
      | none => .next s
      | some .error => .next (finish s tag (bad 0x18))
      | some (.data token) =>
        let heard := s.pair.helloIn
        let s := upPair (running s tag) (fun p => { p with
          state := if p.state = 0 then 1 else p.state, pairing := some { tag, token, agreed := false, base := 0, since := s.glb.lifetime } })
        let s := sendHello s token
        match heard with
        | some m => .next (judgeHello (upPair s (fun p => { p with helloIn := none })) m)
        | none => .next s

/-- PAIR_HELLO_TIMEOUT: no partner HELLO within 10 s of the acceptance (Table 14.5). -/
def execPairHelloTimeout (s : State) : Out :=
  match s.pair.pairing with
  | some p => if p.agreed ∨ s.glb.lifetime < p.since + 10000 then .next s else .next (refusePair s (bad 0x20))
  | none => .next s

/-- TETHER_UNPAIR: at once in SOLO; a device that fosters keeps the foster volumes; else the mirrors drain and both sides exchange UNPAIR
(R348). -/
def execTetherUnpair (tag : Nat) (s : State) : Out :=
  match opFor s tag 0x0802 with
  | none => .next s
  | some o =>
    if o.stage = .running then .next (trySeparate s)
    else if s.pair.state = 0 then .next (finish s tag (ok 0 0))
    else
      .next (trySeparate (upPair (running s tag) (fun p => { p with unpairing := some tag, draining := true })))

/-- UNPAIR (R348). -/
def execUnpair (s : State) : Out :=
  if inReset s islTether then .next s else .next (onUnpair s)

/-- HELLO (R341, R362). -/
def execHello (m : TMsg) (s : State) : Out :=
  if inReset s islTether then .next s else .next (onHello s m)

/-- KEY_TRANSFER (R342). -/
def execKeyTransfer (vol : Nat) (install : Bool) (capacity attrs : Nat) (s : State) : Out :=
  if inReset s islTether then .next s else .next (onKeyTransfer s vol install capacity attrs)

/-! ### Mirroring (R158, R343 to R346) -/

/-- MIRROR_WRITE (R343, R344). -/
def execMirrorWrite (seq vol op lba blocks : Nat) (data : List Byte) (s : State) : Out :=
  if inReset s islTether then .next s else .next (onMirrorWrite s seq vol op lba blocks data)

/-- MIRROR_CONFIRM (R24, R344). -/
def execMirrorConfirm (seq : Nat) (s : State) : Out :=
  if inReset s islTether then .next s else .next (onMirrorConfirm s seq)

/-- MIRROR_RELEASE (R346). -/
def execMirrorRelease (seq : Nat) (s : State) : Out :=
  if inReset s islTether then .next s else .next (onMirrorRelease s seq)

/-- JOURNAL (R158, R345). -/
def execJournal (first : Nat) (recs : List JRec) (s : State) : Out :=
  if inReset s islTether then .next s else .next (onJournal s first recs)

/-- JOURNAL_CONFIRM (R345). -/
def execJournalConfirm (last : Nat) (s : State) : Out :=
  if inReset s islTether then .next s else .next (onJournalConfirm s last)

/-- ROOT (R158, Table 14.9). -/
def execRoot (no : Nat) (r : Root) (s : State) : Out :=
  if inReset s islTether then .next s else .next (onRoot s no r)

/-! ### Heartbeats, probes and claims (R349 to R355) -/

/-- HEARTBEAT (R349, R359, R361). -/
def execHeartbeat (count state status : Nat) (readOnly : Bool) (s : State) : Out :=
  if inReset s islTether then .next s
  else
    let _ := count
    if s.pair.state = 0 then .next s else .next (meetPartner s state status readOnly)

/-- HEARTBEAT_SEND (R349). -/
def execHeartbeatSend (s : State) : Out :=
  if inReset s islTether then .next s
  else if s.pair.state = 0 || s.flt.halted || s.med.dumpHeld then .next s
  else if !(s.pair.linkUp || s.pair.meshMirror) then .next (trySeparate s)
  else
    let s := upPair s (fun p => { p with beats := p.beats + 1 })
    .next (trySeparate (sendT s (.heartbeat s.pair.beats s.pair.state (pairStatusByte s))))

/-- HEARTBEAT_TIMEOUT: 5 ms without a HEARTBEAT (R349). -/
def execHeartbeatTimeout (s : State) : Out :=
  if inReset s islTether then .next s
  else if s.glb.lifetime < s.pair.heardAt + 5 then .next s
  else
    if partnered s || s.pair.state == 4 then .next (suspectPartner s) else .next (upPair s (fun p => { p with beating := false }))

/-- PROBE_TIMER: every 500 µs while SUSPECT or fenced, with a mesh configured (R350, R353). -/
def execProbeTimer (s : State) : Out :=
  if inReset s islTether then .next s
  else if !(s.pair.suspect || s.pair.fenced) || !s.mesh.configured || s.pair.claim.isSome then .next s else .next (probeNext s)

/-- CLAIM_RETRY: the unanswered witnesses are asked again (R351). -/
def execClaimRetry (s : State) : Out :=
  if inReset s islTether then .next s
  else
    match s.pair.claim with
    | none => .next s
    | some c =>
      if s.glb.lifetime < c.askedAt + 10 then .next s
      else
        let s := upPair s (fun p => { p with claim := some { c with askedAt := s.glb.lifetime } })
        .next (sendClaim s ((validWitnesses s).filter (fun i => !c.grants.contains i && !c.refusals.contains i)) c.number false)

/-- PROBE: answered by the device whose serial is TARGET (R352). -/
def execProbe (src pairId sender target number : Nat) (s : State) : Out :=
  if inReset s islStripe then .next s
  else if target ≠ Config.serial then .next s
  else .next (sendPair s src pairId (.probeAck sender target number s.pair.state (pairStatusByte s)))

/-- PROBE_ACK: the link is at fault, so that the pair goes over to the mesh with whatever is unconfirmed; a device that is fenced or
returns has reached its partner (R350, R353, Tables 14.6 and 14.9). -/
def execProbeAck (src pairId sender target number state status : Nat) (s : State) : Out :=
  if inReset s islStripe then .next s
  else
    let _ := (src, number)
    if pairId ≠ s.pair.pairId ∨ sender ≠ Config.serial ∨ target ≠ s.pair.partner ∨ !(s.pair.suspect || s.pair.fenced || s.pair.state == 4) then .next s
    else if s.pair.meshMirror then .next (hearPartner s)
    else
      let queued := s.pair.out
      let s := upPair (pairLog s 4 0xFF 0) (fun p => { p with meshMirror := true, out := [] })
      if s.pair.state = 4 ∨ s.pair.fenced then .next (meetPartner s state status false)
      else
        let s := hearPartner (upPair s (fun p => { p with state := 3 }))
        let s := queued.foldl (fun s m => sendT s m.msg) s
        let s := resendEntries s (s.pair.entriesOut.filter (fun e => !e.confirmed))
        .next (sendJournal s s.pair.jConfirmed (s.med.ring.length / 256 + 1))

/-- CLAIM: as a witness, the first claim recorded for a pair ID and its repeats are granted, one of the other serial is refused, and a
release by either device of the pair takes the record away (R351, R352). -/
def execClaim (src pairId claimant partner number : Nat) (release : Bool) (s : State) : Out :=
  if inReset s islStripe then .next s
  else
    let held := (s.pair.records.find? (fun r => r.1 == pairId)).map (·.2)
    if release then
      let s := if held = some claimant ∨ held = some partner then
          upPair s (fun p => { p with records := p.records.filter (fun r => r.1 != pairId) }) else s
      .next (sendPair s src pairId (.claimGrant claimant partner number true))
    else
      match held with
      | none =>
        .next (sendPair (upPair s (fun p => { p with records := p.records ++ [(pairId, claimant)] })) src pairId
          (.claimGrant claimant partner number false))
      | some h =>
        if h = claimant then .next (sendPair s src pairId (.claimGrant claimant partner number false))
        else .next (sendPair s src pairId (.claimRefuse claimant partner number false h))

/-- The witness that an answer to the claim in progress comes from, if it is one. -/
def claimAnswer (s : State) (src pairId claimant number : Nat) : Option (Nat × ClaimState) :=
  match s.pair.claim with
  | none => none
  | some c =>
    if pairId ≠ s.pair.pairId ∨ claimant ≠ Config.serial ∨ number ≠ c.number then none
    else ((validWitnesses s).find? (fun i => witnessNode s i == src)).map (fun i => (i, c))

/-- CLAIM_GRANT: grants from a majority of the valid witnesses win the claim (R351). -/
def execClaimGrant (src pairId claimant partner number : Nat) (release : Bool) (s : State) : Out :=
  if inReset s islStripe then .next s
  else
    let _ := partner
    match (if release then none else claimAnswer s src pairId claimant number) with
    | none => .next s
    | some (i, c) =>
      let c := { c with grants := linsert c.grants i, refusals := c.refusals.filter (· != i) }
      let s := upPair s (fun p => { p with claim := some c })
      if (validWitnesses s).length < 2 * c.grants.length then .next (winClaim s c.grants.length false) else .next s

/-- CLAIM_REFUSE: refusals from a majority lose it (R351, R353). -/
def execClaimRefuse (src pairId claimant partner number holder : Nat) (s : State) : Out :=
  if inReset s islStripe then .next s
  else
    let _ := (partner, holder)
    match claimAnswer s src pairId claimant number with
    | none => .next s
    | some (i, c) =>
      let c := { c with refusals := linsert c.refusals i, grants := c.grants.filter (· != i) }
      let s := upPair s (fun p => { p with claim := some c })
      if (validWitnesses s).length < 2 * c.refusals.length then .next (loseClaim s c.refusals.length) else .next s

/-- The partner's YIELD counts as four unanswered probes (R355). -/
def onYield (s : State) : State :=
  if partnered s then startClaim (upPair (suspectPartner s) (fun p => { p with probes := 4 })) else s

/-- YIELD (R355). -/
def execYieldMsg (s : State) : Out :=
  if inReset s islTether then .next s else .next (onYield s)

/-- TAKEOVER: starts the probe at once, or counts as a claim won; it completes with EVENT_TAKEOVER. Without a mesh nothing answers the
probe (R350, R354). -/
def execTakeover (tag : Nat) (s : State) : Out :=
  match opFor s tag 0x0803 with
  | none => .next s
  | some o =>
    if o.stage = .running then .next s
    else if s.pair.state ≤ 1 ∨ s.pair.beating then .next (finish s tag (bad 0x20))
    else if s.pair.fostering ∧ !s.pair.partnerReadOnly ∧ s.pair.state = 3 then .next (finish s tag (ok 0 0))
    else
      let s := upPair (running s tag) (fun p => { p with takeovers := p.takeovers ++ [tag] })
      if bit o.pkt.p0 0 then .next (winClaim s 0 true)
      else
        let s := suspectPartner s
        if s.pair.claim.isSome then .next s
        else if s.mesh.configured then .next (probeNext s)
        else .next (startClaim s)

/-- TETHER_STABLE: the Tether link has run for 1 s without a reset, and PAIRED returns (Table 14.6). -/
def execTetherStable (s : State) : Out :=
  if inReset s islTether then .next s
  else if !s.pair.meshMirror || !s.pair.linkUp || decide (s.glb.lifetime < s.pair.upAt + 1000) then .next s
  else
    .next (upPair s (fun p => { p with
      meshMirror := false, state := if p.state = 3 ∧ !p.fostering ∧ !p.fenced then 2 else p.state }))

/-! ### The partner directory (R357) -/

/-- The partner directory under construction: directory entries, and the blocks changed after their pages were written. -/
structure PartnerBuild where
  dir : List (Nat × Nat × DirEntry)
  map : List (Nat × Nat × MapEntry)

/-- Set a directory entry of the partner; a page written anew, or none, leaves no changed blocks behind. -/
def PartnerBuild.setDir (b : PartnerBuild) (v st : Nat) (d : DirEntry) : PartnerBuild :=
  let dir := b.dir.filter (fun e => !(e.1 == v && e.2.1 == st))
  let rest := b.map.filter (fun e => !(e.1 == v && e.2.1 / 512 == st))
  let split := match d, b.dir.find? (fun e => e.1 == v && e.2.1 == st) with
    | .leaf none, some (_, _, .extent pa epoch) => ((List.range 512).map (fun i => (v, 512 * st + i, extentEntry pa epoch i))).reverse
    | .leaf none, _ => b.map.filter (fun e => e.1 == v && e.2.1 / 512 == st)
    | _, _ => []
  { dir := if d = .unmapped then dir else dir ++ [(v, st, d)], map := split ++ rest }

/-- A block of the partner changes. -/
def PartnerBuild.setBlock (b : PartnerBuild) (v lba : Nat) (e : MapEntry) : PartnerBuild :=
  let b := match b.dir.find? (fun x => x.1 == v && x.2.1 == lba / 512) with
    | some _ => b
    | none => { b with dir := b.dir ++ [(v, lba / 512, DirEntry.leaf none)] }
  { b with map := (v, lba, e) :: b.map }

/-- A record of the partner's journal applies to its directory (R357, Table 6.2). -/
def PartnerBuild.apply (b : PartnerBuild) (r : Record) : PartnerBuild :=
  match r with
  | .mapSet v lba e => b.setBlock v lba e
  | .mapGc v lba e => b.setBlock v lba e
  | .mapZero v lba n epoch => (List.range n).foldl (fun b i => b.setBlock v (lba + i) { form := .zero, epoch := (epoch + i) % 4096 }) b
  | .dirSet v st d => b.setDir v st d
  | .volSet v _ _ delete =>
    if delete then { dir := b.dir.filter (fun e => e.1 != v), map := b.map.filter (fun e => e.1 != v) } else b
  | _ => b

/-- The partner's records from its newest root's JSTART, spills first (R357 step 2). -/
def partnerRecords (s : State) (from_ : Nat) : List Record :=
  let l := s.med.spills.map (fun x => (x.first, x.recs)) ++ [(s.med.partnerStart, s.med.partnerRing)]
  (l.flatMap (fun x => x.2.drop (from_ - x.1))).map (fun r => r.body)

/-- PARTNER_DIRECTORY_REBUILD: the pieces that the newest mirrored root names were reconstructed through the stripe group, or could not be
(R357, R358). -/
def execPartnerDirectoryRebuild (found : Bool) (s : State) : Out :=
  if inReset s islTether then .next s
  else if !s.pair.fostering || s.pair.partnerDirReady then .next s
  else
    match (if found then partnerNewest s else none) with
    | none => .next (upPair s (fun p => { p with partnerDirReady := true, partnerDirLost := true, partnerDir := [], partnerMap := [] }))
    | some r =>
      let start : PartnerBuild := { dir := r.volumes.flatMap (fun v => v.2.dir.map (fun d => (v.1, d.1, d.2))), map := [] }
      let b := (partnerRecords s r.jstart).foldl PartnerBuild.apply start
      .next (upPair s (fun p => { p with partnerDirReady := true, partnerDirLost := false, partnerDir := b.dir, partnerMap := b.map }))

/-! ### Blocks for and from the partner (R359) -/

/-- BLOCK_READ (R359). -/
def execBlockRead (req vol lba blocks : Nat) (media : MediaIn) (s : State) : Out :=
  if inReset s islTether then .next s else .next (onBlockRead s req vol lba blocks media)

/-- BLOCK_DATA (R359). -/
def execBlockData (req status : Nat) (data : List Byte) (s : State) : Out :=
  if inReset s islTether then .next s else .next (onBlockData s req status data)

/-! ### The hand-back (R362) -/

/-- HANDBACK (R362). -/
def execHandback (wseq vol form lba : Nat) (data : List Byte) (s : State) : Out :=
  if inReset s islTether then .next s else .next (onHandback s wseq vol form lba data)

/-- What a pass does with one block: none while something it needs is on its way, else the state and whether it was sent. A staged block
goes in a later pass, once it has a place; an unreadable one cannot go. -/
def handOne (s : State) (m : MediaIn) (v lba : Nat) : Option (Bool × State) × State :=
  let r := resolve s v lba
  let send := fun (s : State) (e : MapEntry) (b : List Byte) =>
    match e.form with
    | .zero => sendT s (.handback (entryWseq s e) v 1 lba [])
    | .remote _ _ _ =>
      let w := freeBelow s (max 1 s.pair.takeoverMark)
      sendT w.2 (.handback w.1 v 0 lba b)
    | _ => sendT s (.handback (entryWseq s e) v 0 lba b)
  match r.1 with
  | .wait => (none, r.2)
  | .entry e =>
    let g := fetchEntry r.2 m v lba e false
    match g.1 with
    | .wait => (none, g.2)
    | .failed => (some (false, g.2), g.2)
    | .data b _ => (some (true, send g.2 e b), g.2)
    | .packed b =>
      match inflateBlock b with
      | some d => (some (true, send g.2 e d), g.2)
      | none => (some (false, g.2), g.2)
  | _ => (some (false, r.2), r.2)

/-- One round over the blocks still to send: the state, the blocks left and the count sent. -/
def handRound (s : State) (m : MediaIn) (l : List (Nat × Nat)) : State × List (Nat × Nat) × Nat :=
  l.foldl (fun acc x =>
    match handOne acc.1 m x.1 x.2 with
    | (none, t) => (t, acc.2.1 ++ [x], acc.2.2)
    | (some (sent, t), _) => (t, acc.2.1, acc.2.2 + b2n sent)) (s, [], 0)

/-- No command of a foster volume is in flight, and none of its blocks is staged (R362 step 4). -/
def fosterQuiet (s : State) : Bool :=
  !s.tsk.ops.any (fun o => isFoster s o.pkt.vol && o.stage == .running && (isRead o.pkt.opc || isWrite o.pkt.opc)) &&
    !s.med.staging.any (fun x => isFoster s x.vol)

/-- CUTOVER is sent: the foster volumes go, their keys staying as the partner's; claims are released, and the pair is PAIRED again (R362
step 5). -/
def sendCutover (s : State) (h : Handback) : State :=
  let s := sendT s .cutover
  let keys := s.sec.keyLog.filter (fun k => k.kind == 1)
  let s := (fosterVols s).foldl (fun s v => removeVolume s v.1) s
  let s := upSec s (fun e => { e with keyLog := e.keyLog.filter (fun k => k.kind != 1) ++ keys })
  let s := sendClaim s (validWitnesses s) s.pair.claimNo true
  let s := pairLog (upPair s (fun p => { p with handbacks := p.handbacks + 1, events := p.events ||| 16 })) 8 0xFF h.sent
  let s := upMed s (fun m => { m with
    partnerRing := [], partnerStart := 0, partnerRoot0 := none, partnerRoot1 := none, spills := [] })
  let tag := s.pair.pairing.map (fun p => p.tag)
  let s := upPair s (fun p => { p with
    state := pairedState s, fostering := false, partnerReadOnly := false, takeoverMark := 0, takeoverRoot := none, partnerDir := [],
    partnerMap := [], partnerDirReady := false, partnerDirLost := false, reads := [], readData := [], handback := none,
    handbackLeft := 0, pairing := none, called := true, beating := true, heardAt := s.glb.lifetime })
  let s := sendKeys (resendJournal s) (s.med.volumes.filter (fun v => !v.2.foster))
  match tag with
  | some t => finish (upPair s (fun p => { p with pairings := p.pairings + 1 })) t (ok 0 2)
  | none => s

/-- A pass has sent its blocks: one that moved less than 64 MiB is followed by the last pass, once commands in flight have completed, and
the last pass by CUTOVER (R362 steps 3 and 4). -/
def endPass (s : State) (h : Handback) : State :=
  let set := fun (s : State) (h : Handback) => upPair s (fun p => { p with handback := some h, handbackLeft := h.todo.length })
  if h.final then sendCutover s h
  else if h.last ∨ h.sent < 16384 then
    let h := { h with last := true }
    if fosterQuiet s then
      set s { h with pass := h.pass + 1, sent := 0, final := true, todo := passBlocks s (some h.mark), mark := s.med.wseq }
    else set s h
  else set s { h with pass := h.pass + 1, sent := 0, todo := passBlocks s (some h.mark), mark := s.med.wseq }

/-- HANDBACK_PASS: the copy pass sends what is at hand, and at its end the next one starts (R362). -/
def execHandbackPass (media : MediaIn) (s : State) : Out :=
  if inReset s islTether then .next s
  else
    match s.pair.handback with
    | none => .next s
    | some h =>
      let r := handRound s media h.todo
      let h := { h with todo := r.2.1, sent := h.sent + r.2.2 }
      let s := upPair r.1 (fun p => { p with handback := some h, handbackLeft := h.todo.length })
      if h.todo.isEmpty then .next (endPass s h) else .next s

/-- CUTOVER (R362 step 5). -/
def execCutover (s : State) : Out :=
  if inReset s islTether then .next s else .next (onCutover s)

/-! ### Messages over the mesh (R350) -/

/-- TUNNEL: a Tether message carried over the mesh by the partner's node is taken as over the link (R350). -/
def execTunnel (src : Nat) (m : TMsg) (s : State) : Out :=
  if inReset s islStripe then .next s
  else if src ≠ s.pair.partnerNode ∨ s.pair.state = 0 then .next s
  else
    match m with
    | .hello .. => .next (onHello s m)
    | .keyTransfer vol install capacity attrs _ => .next (onKeyTransfer s vol install capacity attrs)
    | .mirrorWrite seq vol op lba blocks data => .next (onMirrorWrite s seq vol op lba blocks data)
    | .mirrorConfirm seq => .next (onMirrorConfirm s seq)
    | .mirrorRelease seq => .next (onMirrorRelease s seq)
    | .journal first recs => .next (onJournal s first recs)
    | .journalConfirm last => .next (onJournalConfirm s last)
    | .root no r => .next (onRoot s no r)
    | .heartbeat _ st status => .next (meetPartner s st status s.pair.partnerReadOnly)
    | .blockRead req vol lba blocks => .next (onBlockRead s req vol lba blocks { })
    | .blockData req status data => .next (onBlockData s req status data)
    | .handback wseq vol form lba data => .next (onHandback s wseq vol form lba data)
    | .cutover => .next (onCutover s)
    | .yieldMsg => .next (onYield s)
    | .unpair => .next (onUnpair s)

end Sys2Proof.Machine
end

