-- ==== Sys2Proof/Machine/Stripes.lean ====
section
/-! DEFINITION. Stripe groups at work (chapter 15): joining and leaving (R375), INTENT to PARITY_DONE (R378 to R380), the stripe index
(R381), resending (R382), liveness and release (R383, R384), and lost members (R385). -/

namespace Sys2Proof.Machine

open Sys2Proof

/-! ### Joining and leaving (R375) -/

/-- A joining group in which every other member has sent matching values is ACTIVE, and its command ends (R375). -/
def tryActive (s : State) (id : Nat) : State :=
  match groupAt s id with
  | none => s
  | some g =>
    if g.state = 1 && (List.range (g.k + g.m)).all (fun i => i == g.index || g.hello.contains i) then
      let s := groupLog (modGroup s id (fun g => { g with state := 2, tag := none })) id 10 id
      match g.tag with
      | some t => finish s t (ok 0 0)
      | none => s
    else s

/-- A GROUP_HELLO at a joining member: one that matches its values counts (R375). -/
def countHello (s : State) (src id k m index : Nat) (digest : List Byte) : State :=
  match groupAt s id with
  | none => s
  | some g =>
    if g.k = k && g.m = m && g.members[index]? == some src && index != g.index && digest == listDigest g.members then
      tryActive (modGroup s id (fun g => { g with hello := linsert g.hello index })) id
    else s

/-- A dissolving group that every member not held LOST has left is gone: its stripes are released, and the command ends (R375). -/
def tryDissolve (s : State) (id : Nat) : State :=
  match groupAt s id with
  | none => s
  | some g =>
    if g.state = 5 && (List.range (g.k + g.m)).all (fun i => g.lost.contains i || g.leaving.contains i) then
      let nums := ((s.mesh.stripes.filter (fun x => x.group == id)).map (fun x => x.num) ++
        (s.mesh.own.filter (fun o => o.group == id && decide (2 ≤ o.stage))).map (fun o => o.stripe)).eraseDups
      let s := nums.foldl (fun s t => releaseHere s id t) s
      let s := (s.mesh.own.filter (fun o => o.group == id)).foldl (fun s o =>
        segSettled (releaseSeg s o.band o.seg id) o.band o.seg) s
      let s := groupLog s id 11 id
      let s := upMesh s (fun m => { m with
        own := m.own.filter (fun o => o.group != id), stripes := m.stripes.filter (fun x => x.group != id),
        cache := m.cache.filter (fun r => r.group != id), chains := m.chains.filter (fun c => c.group != id),
        rebuild := m.rebuild.filter (fun r => r.group != id), groups := m.groups.filter (fun x => x.2.id != id) })
      match g.tag with
      | some t => finish s t (ok 0 0)
      | none => s
    else s

/-- STRIPE_GROUP_JOIN: the member list is read and judged, the lowest free slot taken, and GROUP_HELLO sent to every other member
(R375). -/
def execStripeGroupJoin (tag : Nat) (host : HostRead) (s : State) : Out :=
  match opFor s tag 0x0805 with
  | none => .next s
  | some o =>
    if o.stage = .running then .next s
    else
      let p := o.pkt
      match checkObjects s p with
      | some r => .next (finish s tag r)
      | none =>
        match input s o host p.dlen with
        | none => .next s
        | some .error => .next (finish s tag (bad 0x18))
        | some (.data b) =>
          let k := bits p.p1 4 0
          let m := bits p.p1 10 8
          let index := bits p.p1 20 16
          let l := (List.range (k + m)).map (fun i => num b (2 * i) 2)
          if l.eraseDups.length ≠ k + m || l.any (fun n => decide (2048 ≤ n)) || l[index]? != some s.mesh.node then
            .next (finish s tag (bad 0x24))
          else
            let slot := ((List.range 8).find? (fun i => (mget s.mesh.groups i).isNone)).getD 0
            let g : Group := { id := p.p0, k, m, index, state := 1, lost := [], members := l, hello := [], leaving := [], next := 0,
                               tag := some tag, since := s.glb.lifetime, closed := 0, rebuilds := 0, failedStripes := 0 }
            let seen := s.mesh.helloSeen.filter (fun h => h.group == p.p0)
            let s := upMesh (running s tag) (fun m => { m with
              groups := mset m.groups slot g, helloSeen := m.helloSeen.filter (fun h => h.group != p.p0) })
            let s := sendOthers s g (helloBody g)
            .next (tryActive (seen.foldl (fun s h => countHello s h.src h.group h.k h.m h.index h.digest) s) p.p0)

/-- A GROUP_HELLO at a formed group: a new node in the place of a LOST member is accepted and answered; a member's own is its leave
(R375; log entry 36). -/
def formedHello (s : State) (g : Group) (src k m index : Nat) (digest : List Byte) : State :=
  if g.k ≠ k || g.m ≠ m || decide (k + m ≤ index) || index == g.index then s
  else if g.lost.contains index && digest == listDigest (g.members.set index src) then
    let s := modGroup s g.id (fun g => { g with members := g.members.set index src })
    match groupAt s g.id with
    | some g => sendM s src g.id (helloBody g)
    | none => s
  else if g.members[index]? == some src && digest == listDigest g.members && !g.lost.contains index then
    tryDissolve (modGroup s g.id (fun g => { g with leaving := linsert g.leaving index })) g.id
  else s

/-- GROUP_HELLO: kept for a group not joined here yet, counted while joining, else judged against the formed group (R375). -/
def execGroupHello (src group k m index : Nat) (digest : List Byte) (s : State) : Out :=
  if inReset s islStripe then .next s
  else
    match groupAt s group with
    | none => .next (upMesh s (fun x => { x with
        helloSeen := x.helloSeen.filter (fun h => !(h.src == src && h.group == group)) ++ [{ src, group, k, m, index, digest }] }))
    | some g => .next (if g.state = 1 then countHello s src group k m index digest else formedHello s g src k m index digest)

/-- GROUP_HELLO_TIMEOUT: a join that has found no agreement for 10 s fails and its group is forgotten (R375). -/
def execGroupHelloTimeout (group : Nat) (s : State) : Out :=
  match groupAt s group with
  | none => .next s
  | some g =>
    if g.state ≠ 1 ∨ s.glb.lifetime < g.since + 10000 then .next s
    else
      let s := upMesh s (fun m => { m with groups := m.groups.filter (fun x => x.2.id != group) })
      match g.tag with
      | some t => .next (finish s t (bad 0x20))
      | none => .next s

/-- STRIPE_GROUP_LEAVE: the group dissolves, the other members hear of it, and it ends once every member has issued it (R375; log entry
36). -/
def execStripeGroupLeave (tag : Nat) (s : State) : Out :=
  match opFor s tag 0x0806 with
  | none => .next s
  | some o =>
    if o.stage = .running then .next s
    else
      match groupAt s o.pkt.p0 with
      | none => .next (finish s tag (bad 0x20))
      | some g =>
        if g.state = 1 ∨ g.state = 5 then .next (finish s tag (bad 0x20))
        else
          let s := modGroup (running s tag) g.id (fun g => { g with state := 5, tag := some tag, leaving := linsert g.leaving g.index })
          .next (tryDissolve (sendOthers s g (helloBody g)) g.id)

/-! ### Intent, deadline and close (R378) -/

/-- The lowest stripe from `t` on in which a member is a data member and whose set is not known here to be fixed (Table 15.4). -/
def openFor (s : State) (g : Group) (i t fuel : Nat) : Nat :=
  match fuel with
  | 0 => t
  | fuel + 1 =>
    if (holderList g t).contains i || ((stripeAt s g.id t).map Stripe.isFixed).getD false then openFor s g i (t + 1) fuel else t

/-- The answer to an INTENT (Table 15.4). -/
def answerIntent (s : State) (g : Group) (src i t answer : Nat) : State :=
  sendM s src g.id (.intentReply t answer (openFor s g i (if answer = 0 then t else t + 1) (g.k + g.m + s.mesh.stripes.length + 1)))

/-- INTENT: the primary opens the stripe, latches feature 0x05 and accepts until the set is fixed; the k-th position fixes it. It
waits while no accumulator is free. A position accepted before is accepted again (R378, R379; log entry 36). -/
def execIntent (src group stripe d band seg : Nat) (s : State) : Out :=
  if inReset s islStripe then .next s
  else
    match groupAt s group with
    | none => .next s
    | some g =>
      match memberIdx g src with
      | none => .next s
      | some i =>
        if !g.formed || posOf g stripe i != some d then .next s
        else if primaryOf g stripe != some g.index then .next (answerIntent s g src i stripe 2)
        else
          let x := (stripeAt s group stripe).getD (newStripe group stripe)
          let mine := x.accepted.contains (d, band, seg)
          let zeroed := (x.record.map (fun r => bit r.zero d)).getD false
          if mine && !x.released && !zeroed then .next (answerIntent s g src i stripe 0)
          else if x.isFixed || x.accepted.any (fun a => a.1 == d) then .next (answerIntent s g src i stripe 1)
          else
            match allot (holdStripe s group stripe) group stripe with
            | none => .next s
            | some s =>
              let l := x.accepted ++ [(d, band, seg)]
              let s := modStripe s group stripe (fun x => { x with
                opened := some (x.opened.getD (feature s 5)), openedAt := if x.opened.isSome then x.openedAt else s.glb.lifetime,
                accepted := l })
              let s := answerIntent s g src i stripe 0
              .next (if l.length = g.k then fixStripe s g x l else s)

/-- The own segment offered to or accepted by a stripe. -/
def ownIn (s : State) (group stripe : Nat) : Option OwnSeg :=
  s.mesh.own.find? (fun o => o.group == group && o.stripe == stripe && decide (1 ≤ o.stage))

/-- INTENT_REPLY: ACCEPT moves the next stripe past this one and sends the contributions; LATE offers the segment to the next stripe;
NOT_PRIMARY offers it again (R378, R379). -/
def execIntentReply (src group stripe answer lowest : Nat) (s : State) : Out :=
  if inReset s islStripe then .next s
  else
    match groupAt s group, ownIn s group stripe with
    | some g, some o =>
      if o.stage ≠ 1 ∨ (memberIdx g src).isNone then .next s
      else if answer = 0 then
        let s := modGroup (modOwn s o.band o.seg (fun o => { o with stage := 2 })) group (fun g => { g with next := max g.next (stripe + 1) })
        .next (offerNext (contribute s g o (List.range g.m)) group)
      else if answer = 1 then
        .next (offerSeg (upMesh s (fun m => { m with late := satInc m.late })) g o.band o.seg (max (stripe + 1) lowest))
      else .next (offerSeg s g o.band o.seg 0)
    | _, _ => .next s

/-- STRIPE_DEADLINE: its latched deadline having passed since it was opened, the primary fixes the set; every position not accepted becomes zero (R378). -/
def execStripeDeadline (group stripe : Nat) (s : State) : Out :=
  if inReset s islStripe then .next s
  else
    match groupAt s group, stripeAt s group stripe with
    | some g, some x =>
      let early := match x.opened with
        | some ms => decide (s.glb.lifetime < x.openedAt + ms)
        | none => true
      if early || x.isFixed || primaryOf g stripe != some g.index then .next s
      else .next (fixStripe s g x x.accepted)
    | _, _ => .next s

/-- A holder takes a stripe's record; positions that it newly calls zero and that contributed make it start afresh (R378, Table
15.9). -/
def closeHolder (s : State) (g : Group) (t : Nat) (r : StripeRec) : State :=
  let s := holdStripe s g.id t
  match stripeAt s g.id t with
  | none => s
  | some x =>
    if x.parity.isSome || x.released then s
    else
      let l := (List.range g.k).filterMap (fun d => if bit r.zero d then none else some (d, r.seg.getD d (0, 0)))
      let s := modStripe s g.id t (fun x => { x with record := some r, accepted := l })
      if x.got.any (fun a => bit r.zero a.1) then abandonAcc s g t l else s

/-- A data member learns that its stripe's set is fixed; where it is listed as zero its next stripe moves past it, and a segment that
had been accepted is offered anew (R378). -/
def closeMember (s : State) (g : Group) (t d : Nat) (r : StripeRec) : State :=
  let s := if bit r.zero d then modGroup s g.id (fun g => { g with next := max g.next (t + 1) }) else s
  match ownIn s g.id t with
  | none => s
  | some o =>
    if bit r.zero d then
      if o.stage = 2 then offerNext (modOwn s o.band o.seg (fun o => { o with stage := 0, rows := [] })) g.id else s
    else if r.seg[d]? == some (o.band, o.seg) then modOwn s o.band o.seg (fun o => { o with fixed := true, zero := r.zero })
    else s

/-- CLOSE (R378). -/
def execClose (src group stripe : Nat) (r : StripeRec) (s : State) : Out :=
  if inReset s islStripe then .next s
  else
    match groupAt s group with
    | none => .next s
    | some g =>
      if (memberIdx g src).isNone || !g.formed then .next s
      else
        match unitOfMember g stripe g.index with
        | some (_, true) => .next (closeHolder s g stripe r)
        | some (d, false) => .next (closeMember s g stripe d r)
        | none => .next s

/-! ### Contributions and parity (R379, R380) -/

/-- CONTRIB: the first packet for a codeword is written, later ones are added with XOR; one already received is discarded. A holder
without a free accumulator does not take it yet (R379, R389). -/
def execContrib (src group stripe p d j : Nat) (x : Coded) (s : State) : Out :=
  if inReset s islStripe then .next s
  else
    match groupAt s group with
    | none => .next s
    | some g =>
      if !g.formed || (memberIdx g src).bind (posOf g stripe) != some d || rowOf g stripe g.index != some j || decide (256 ≤ p) then .next s
      else
        let s1 := holdStripe s group stripe
        match stripeAt s1 group stripe with
        | none => .next s
        | some y =>
          let zeroed := (y.record.map (fun r => bit r.zero d)).getD false
          if y.parity.isSome || y.released || zeroed || y.got.contains (d, p) then .next s
          else
            match allot s1 group stripe with
            | none => .next s
            | some s => .next (modStripe s group stripe (fun y => { y with
                got := y.got ++ [(d, p)],
                acc := mset y.acc p (match mget y.acc p with
                  | some a => a.add x
                  | none => x) }))

/-- Every packet of every position of the record has come (R380). -/
def Stripe.full (x : Stripe) (r : StripeRec) : Bool :=
  (List.range r.k).all (fun d => bit r.zero d || !x.partly d)

/-- A row is programmed: the stripe is held with its parity, its accumulator is free, and PARITY_DONE goes to the other members
(R380). -/
def rowProgrammed (s : State) (g : Group) (t j : Nat) (place : Nat × Nat) : State :=
  let s := modStripe s g.id t (fun x => { x with parity := some place, acc := [], got := [], hasAcc := false })
  rowDone (sendOthers s g (.parityDone t j)) g t j

/-- PARITY_PROGRAM: the row becomes a parity segment once its record and every packet are there (R380). -/
def execParityProgram (group stripe : Nat) (s : State) : Out :=
  if inReset s islStripe then .next s
  else
    match groupAt s group, stripeAt s group stripe with
    | some g, some x =>
      match x.record, rowOf g stripe g.index with
      | some r, some j =>
        if x.parity.isSome || x.released || !x.full r then .next s
        else
          match putParity s r (fun p => mgetD x.acc p Coded.zero) with
          | none => .next s
          | some (place, s) => .next (tryRelease (rowProgrammed s g stripe j place) g stripe)
      | _, _ => .next s
    | _, _ => .next s

/-- PARITY_DONE (R380). -/
def execParityDone (src group stripe j : Nat) (s : State) : Out :=
  if inReset s islStripe then .next s
  else
    match groupAt s group with
    | none => .next s
    | some g =>
      if (memberIdx g src).bind (rowOf g stripe) != some j then .next s
      else
        match ownIn s group stripe with
        | some o => .next (if o.stage = 2 then ownRows s g o (linsert o.rows j) else s)
        | none => .next (rowDone s g stripe j)

/-! ### Resending and the index (R381, R382) -/

/-- RESEND: the contributions of a segment go again to the row that asks (R382, Table 15.9). -/
def execResend (src group stripe d : Nat) (s : State) : Out :=
  if inReset s islStripe then .next s
  else
    match groupAt s group, ownIn s group stripe with
    | some g, some o =>
      match (memberIdx g src).bind (rowOf g stripe) with
      | some j => .next (if o.d = d ∧ 2 ≤ o.stage then contribute s g o [j] else s)
      | none => .next s
    | _, _ => .next s

/-- Records of the index: of the stripes held here whose row is programmed (R381). -/
def indexRecs (s : State) (group : Nat) : List StripeRec :=
  (s.mesh.stripes.filter (fun x => x.group == group && x.parity.isSome && !x.released)).filterMap (fun x => x.record)

/-- A record names a member: its row, or a position that is not zero (R381). -/
def StripeRec.namesMember (r : StripeRec) (g : Group) (i : Nat) : Bool :=
  match unitOfMember g r.stripe i with
  | some u => !r.isZero u
  | none => false

/-- Answer a LOCATE from the index, or let it wait for INDEX_READY where no other holder can answer it (R381). -/
def answerLocate (s : State) (src group request member band seg : Nat) : State :=
  match groupAt s group with
  | none => s
  | some g =>
    let all := band == 0xFFFFFFFF
    let recs := (indexRecs s group).filter (fun r =>
      if all then ((memberIdx g member).map (r.namesMember g)).getD false else (unitOf s r member band seg).isSome)
    if !s.mesh.indexReady && (all || (recs.isEmpty && g.m == 1)) then
      upMesh s (fun m => { m with locates := m.locates ++ [{ src, group, request, member, band, seg }] })
    else if all || !recs.isEmpty then sendM s src group (.locateAns request recs)
    else s

/-- LOCATE (R381, R386). -/
def execLocate (src group request member band seg : Nat) (s : State) : Out :=
  if inReset s islStripe then .next s else .next (answerLocate s src group request member band seg)

/-- STRIPE_INDEX_READY: after READY the records of closed stripes have been read from the Parity bands; what waited is answered
(R381). -/
def execStripeIndexReady (s : State) : Out :=
  if inReset s islStripe then .next s
  else if !s.glb.ready || s.mesh.indexReady then .next s
  else
    let w := s.mesh.locates
    let s := upMesh s (fun m => { m with
      indexReady := true, locates := [],
      stripes := m.stripes.map (fun x => match x.parity, x.record with
        | some (b, q), none => { x with record := segRecord s b q }
        | _, _ => x) })
    .next (w.foldl (fun s x => answerLocate s x.src x.group x.request x.member x.band x.seg) s)

/-! ### Liveness and release (R383, R384) -/

/-- Own segments of a group that have died since the last GOSSIP (R383). -/
def newlyDead (s : State) (group : Nat) : List OwnSeg :=
  s.mesh.own.filter (fun o => o.group == group && decide (2 ≤ o.stage) && !o.gossiped && segDead s o.band o.seg)

/-- GOSSIP_SEND: every 100 ms the newly dead positions are named to the other members (R383). -/
def execGossipSend (s : State) : Out :=
  if inReset s islStripe || decide (s.glb.lifetime < s.mesh.gossipAt + 100) then .next s
  else
    let s := upMesh s (fun m => { m with gossipAt := s.glb.lifetime })
    .next ((s.mesh.groups.map (·.2)).foldl (fun s g =>
      let l := newlyDead s g.id
      if l.isEmpty then s
      else
        let s := l.foldl (fun s o => modOwn s o.band o.seg (fun o => { o with gossiped := true })) s
        sendOthers s g (.gossip (l.map (fun o => (o.stripe, o.d))))) s)

/-- A dead position of a stripe is recorded, by the holder and by a data member with a segment in it (R383). -/
def markDead (s : State) (g : Group) (t d : Nat) : State :=
  let s := modStripe s g.id t (fun x => { x with dead := linsert x.dead d })
  upMesh s (fun m => { m with own := m.own.map (fun o =>
    if o.group = g.id ∧ o.stripe = t ∧ 2 ≤ o.stage then { o with dead := linsert o.dead d } else o) })

/-- GOSSIP: the sender's own dead positions are recorded; the primary releases a stripe that is wholly dead. While the ring has no room for
its SEG_REL record the packet waits (R155, R383, R384). -/
def execGossip (src group : Nat) (dead : List (Nat × Nat)) (s : State) : Out :=
  if inReset s islStripe then .next s
  else
    match groupAt s group with
    | none => .next s
    | some g =>
      let l := dead.filter (fun x => (memberIdx g src).bind (posOf g x.1) == some x.2)
      if !jRoom s 1 then .next (jStall s)
      else .next (l.foldl (fun s x => tryRelease (markDead s g x.1 x.2) g x.1) s)

/-- RELEASE; it waits while the ring has no room for its SEG_REL record (R155, R384). -/
def execRelease (src group stripe : Nat) (s : State) : Out :=
  if inReset s islStripe then .next s
  else
    match groupAt s group with
    | none => .next s
    | some g => if (memberIdx g src).isNone then .next s
      else if !jRoom s 1 then .next (jStall s)
      else .next (releaseHere s group stripe)

end Sys2Proof.Machine
end

