-- ==== Sys2Proof/Machine/Rebuild.lean ====
section
/-! DEFINITION. Reconstruction served and received (R386), rebuild onto a replacement (R387, R388), and lost members (R385). -/

namespace Sys2Proof.Machine

open Sys2Proof

/-! ### Serving codewords (R386) -/

/-- Where this device has a unit of a stripe of a group. -/
def unitPlace (s : State) (group stripe : Nat) (u : Unit2) : Option (Nat × Nat) :=
  if u.2 then (stripeAt s group stripe).bind (fun x => x.parity)
  else (s.mesh.own.find? (fun o => o.group == group && o.stripe == stripe && o.d == u.1 && decide (2 ≤ o.stage))).map
    (fun o => (o.band, o.seg))

/-- The codeword p of a segment. -/
def cwOf (x : Nat × Nat) (p : Nat) : Nat := x.1 * 2 ^ 18 + 256 * x.2 + p

/-- A weighted codeword; its data is empty where it cannot be read here (log entry 39). -/
def weighted (s : State) (m : MediaIn) (place : Option (Nat × Nat)) (p w : Nat) : Coded :=
  match place with
  | none => { data := [], desc := [] }
  | some x => if 4 ≤ readLevel s m (cwOf x p) then { data := [], desc := [] } else (codedOf s (cwOf x p)).scale w

/-- A codeword whose CHECK does not match is a Deferred fault of its FCH island (R124). -/
def checkFaults (s : State) (m : MediaIn) (cws : List Nat) : State :=
  cws.foldl (fun s w => if readLevel s m w = 5 then raise s (unit (cwIsland s w) 3) else s) s

/-- RECON_REQ: the codewords are read, weighted and sent back (R386). -/
def execReconReq (src group request stripe weight p n d : Nat) (row : Bool) (media : MediaIn) (s : State) : Out :=
  if inReset s islStripe then .next s
  else if (groupAt s group).isNone then .next s
  else
    let place := unitPlace s group stripe (d, row)
    let cws := (place.map (fun x => (span p n).map (cwOf x))).getD []
    let s := (span p n).foldl (fun s q =>
      sendM s src group (.reconSlice request q d row (weighted s media place q weight))) (checkFaults s media cws)
    .next (upMesh s (fun m => { m with reconServed := (m.reconServed + n) % 2 ^ 32 }))

/-- RECON_SLICE: a slice is added; a source that could not read is left out and the survivors are asked anew (R386). -/
def execReconSlice (src request p d : Nat) (row : Bool) (x : Coded) (s : State) : Out :=
  if inReset s islStripe then .next s
  else
    match s.mesh.recons.find? (fun r => r.request == request) with
    | none => .next s
    | some r =>
      let from_ := match r.record with
        | some rc => (groupAt s rc.group).map (fun g => unitNode g rc.stripe (d, row))
        | none => none
      if r.p ≠ p ∨ !r.waits.contains (d, row) ∨ from_ ≠ some src then .next s
      else if x.data.isEmpty then
        let req := s.mesh.nextReq
        let s := modRecon s request (fun r => { r with request := req, bad := r.bad ++ [(d, row)], acc := Coded.zero, waits := [] })
        let s := upMesh s (fun m => { m with nextReq := (m.nextReq + 1) % 2 ^ 64 })
        match s.mesh.recons.find? (fun r => r.request == req) with
        | some r => .next (askUnits s r)
        | none => .next s
      else
        .next (settleRecon (modRecon s request (fun r => { r with acc := r.acc.add x, waits := r.waits.filter (· != (d, row)) })) request)

/-! ### Rebuild (R387, R388) -/

/-- Change the rebuild that runs. -/
def modRebuild (s : State) (f : Rebuild → Rebuild) : State := upMesh s (fun m => { m with rebuild := m.rebuild.map f })

/-- This device already has its unit of a stripe, or the stripe is released. -/
def hasUnit (s : State) (group stripe : Nat) (u : Unit2) : Bool :=
  (unitPlace s group stripe u).isSome || ((stripeAt s group stripe).map (fun x => x.released)).getD false

/-- A rebuilt codeword with the spare area its descriptor gives, its group from the record (R377, Table 15.5). -/
def rebuiltCw (group seg : Nat) (x : Coded) : Codeword :=
  let v := unle x.desc
  { vol := bits v 15 0, kind := bits v 18 16, used := bits v 23 19, starts := bits v 39 24, gcCopy := bit v 40, foster := bit v 41,
    lba := bits v 79 42, wseq := bits v 143 80, group, seg, blocks := [], entries := [], raw := fit 4096 x.data }

/-- A rebuilt data position takes a segment of a GC band; it counts as live until it may be reported dead, at once after the
hand-back (R385, R387; log entry 38). -/
def putData (s : State) (r : StripeRec) (d : Nat) (x : Nat → Coded) : Option ((Nat × Nat) × State) :=
  match wholeSegBand s .gc with
  | none => none
  | some (b, s) =>
    match mget s.med.bands b with
    | none => none
    | some y =>
      let q := putSegment s b ((List.range 256).map (fun p => rebuiltCw r.group (y.frontier / 256) (x p)))
      let o : OwnSeg := { band := b, seg := q.1, group := r.group, stripe := r.stripe, d, stage := 3, fixed := true,
                          rows := List.range r.m, dead := [], gossiped := false, zero := r.zero }
      let s := holdSeg (upMesh q.2 (fun m => { m with own := m.own ++ [o] })) b q.1
      let s := if s.pair.state = 2 then s
        else upMesh (addUnits s (b * 2 ^ 22 + 4096 * q.1) 4096) (fun m => { m with replaced := m.replaced ++ [(b, q.1)] })
      some ((b, q.1), closeFull s b)

/-- A record with a unit rebuilt at a new place (Table 15.7). -/
def StripeRec.moved (r : StripeRec) (u : Unit2) (place : Nat × Nat) : StripeRec :=
  { r with rebuilt := r.rebuilt ||| 2 ^ (if u.2 then 24 + u.1 else u.1), seg := if u.2 then r.seg else r.seg.set u.1 place }

/-- Program a rebuilt unit and tell the holders (R387 steps 4 and 5). None while no band can be had. -/
def programUnit (s : State) (g : Group) (r : StripeRec) (u : Unit2) (x : Nat → Coded) : Option State :=
  let put := if u.2 then
      (putParity s (r.moved u (0, 0)) x).map (fun y =>
        let s := modStripe (holdStripe y.2 g.id r.stripe) g.id r.stripe (fun z => { z with record := some (r.moved u y.1) })
        (y.1, rowProgrammed s g r.stripe u.1 y.1))
    else putData s r u.1 x
  put.map (fun y =>
    let s := modRebuild y.2 (fun b => { b with rebuilt := b.rebuilt + 1 })
    ((holderList g r.stripe).filter (fun i => i != g.index && !g.lost.contains i)).foldl (fun s i =>
      sendM s (memberNode g i) g.id (.memberMoved r.stripe u.1 u.2 y.1.1 y.1.2)) s)

/-- The rebuild has handled every stripe: EVENT_REBUILD_DONE, and the member is no longer LOST anywhere (R388). -/
def endRebuild (s : State) : State :=
  match s.mesh.rebuild with
  | none => s
  | some b =>
    let s := upMesh s (fun m => { m with rebuild := none, rebuildDone := mset m.rebuildDone b.group (b.rebuilt, 0) })
    let s := modGroup s b.group (fun g =>
      let lost := g.lost.filter (· != g.index)
      { g with lost, state := if lost.isEmpty then 2 else 3, rebuilds := g.rebuilds + 1, failedStripes := g.failedStripes + b.failed })
    let s := postEvent s evRebuildDone b.group b.rebuilt (if b.failed = 0 then 0 else 1)
    let s := if b.failed = 0 then groupLog s b.group 13 b.rebuilt else groupLog s b.group 14 b.failed
    match groupAt s b.group with
    | some g => sendOthers s g (.memberUpdate g.index s.mesh.node)
    | none => s

/-- The sources of a unit in a chain, ordered by hops, with their weights; none with fewer than k readable survivors (R387, R388). -/
def chainOf (s : State) (g : Group) (r : StripeRec) (u : Unit2) (unread : List Unit2) : Option (List (Unit2 × Nat)) :=
  ((survivors s g r u unread).bind (fun src => (unitWeights r.k r.m src u).map (fun w => src.zip w))).map
    (fun l => l.filter (fun x => !r.isZero x.1))

/-- Plan a stripe of the rebuild: true where nothing more is to be done for it (R387 steps 2 to 5). -/
def planStripe (s : State) (g : Group) (r : StripeRec) (unread : List Unit2) : Bool × State :=
  match unitOfMember g r.stripe g.index with
  | none => (true, s)
  | some u =>
    if r.isZero u || hasUnit s g.id r.stripe u then (true, s)
    else
      let failed := modRebuild s (fun b => { b with failed := b.failed + 1 })
      match chainOf s g r u unread with
      | none => (true, failed)
      | some [] => (true, (programUnit s g r u (fun _ => Coded.zero)).getD failed)
      | some l =>
        let chain := l.map (fun x => (unitNode g r.stripe x.1, x.2))
        let s := modRebuild s (fun b => { b with part := [], bad := unread })
        (false, chain.foldl (fun s x => sendM s x.1 g.id (.rebuildPlan r.stripe chain)) s)

/-- Go on with the stripes still to rebuild, in stripe order, up to one that must wait for its chain. -/
def planFrom (s : State) (g : Group) (l : List StripeRec) : State :=
  match l with
  | [] => endRebuild (modRebuild s (fun b => { b with todo := [] }))
  | r :: rest =>
    let x := planStripe (modRebuild s (fun b => { b with todo := r :: rest })) g r []
    if x.1 then planFrom x.2 g rest else x.2

/-- The records of every other member have come: the rebuild begins its stripes (R387). -/
def gatherDone (s : State) (g : Group) : State :=
  match s.mesh.rebuild with
  | none => s
  | some b =>
    if b.gathered || !(othersOf g).all (fun i => b.answers.contains i) then s
    else
      let todo := rankSort (fun r => r.stripe) b.todo
      planFrom (modRebuild s (fun b => { b with gathered := true })) g todo

/-- REBUILD_START: the reply says that the rebuild has begun; LOCATE gathers every record that names the index (R387). -/
def execRebuildStart (tag : Nat) (s : State) : Out :=
  match opFor s tag 0x0807 with
  | none => .next s
  | some o =>
    match checkObjects s o.pkt, groupAt s o.pkt.p0 with
    | some r, _ => .next (finish s tag r)
    | none, none => .next (finish s tag (bad 0x20))
    | none, some g =>
      if !g.formed then .next (finish s tag (bad 0x20))
      else if s.mesh.rebuild.isSome then .next (finish s tag (bad 0x24))
      else
        let req := s.mesh.nextReq
        let s := modGroup (finish s tag (ok 0 0)) g.id (fun g => { g with state := 4 })
        let s := upMesh s (fun m => { m with
          nextReq := (m.nextReq + 1) % 2 ^ 64,
          rebuild := some { group := g.id, request := req, answers := [], todo := [], bad := [], part := [], rebuilt := 0,
                            since := s.glb.lifetime, failed := 0,
                            gathered := false } })
        .next (gatherDone (sendOthers s g (.locate req s.mesh.node 0xFFFFFFFF 0)) g)

/-- REBUILD_STATUS: segments rebuilt and remaining (Table 4.17). -/
def execRebuildStatus (tag : Nat) (s : State) : Out :=
  match opFor s tag 0x0808 with
  | none => .next s
  | some o =>
    if (groupAt s o.pkt.p0).isNone then .next (finish s tag (bad 0x20))
    else
      match s.mesh.rebuild.filter (fun b => b.group == o.pkt.p0) with
      | some b => .next (finish s tag (ok b.rebuilt b.todo.length))
      | none =>
        let x := mgetD s.mesh.rebuildDone o.pkt.p0 (0, 0)
        .next (finish s tag (ok x.1 x.2))

/-- LOCATE_ANS: records for a reconstruction, for a rebuild's gathering, or for an own segment after a restart (R382, R386, R387). The
first answer to a reconstruction is used (R389). -/
def execLocateAns (src request : Nat) (recs : List StripeRec) (s : State) : Out :=
  if inReset s islStripe then .next s
  else
    let s := upMesh s (fun m => { m with cache := recs.filter (fun r => !m.cache.any (fun q => q.group == r.group && q.stripe == r.stripe)) ++
      m.cache })
    match s.mesh.rebuild.filter (fun b => b.request == request && !b.gathered) with
    | some b =>
      match groupAt s b.group with
      | none => .next s
      | some g =>
        match memberIdx g src with
        | none => .next s
        | some i => .next (gatherDone (modRebuild s (fun b => { b with
            answers := linsert b.answers i,
            todo := b.todo ++ recs.filter (fun r => r.group == g.id && !b.todo.any (fun q => q.stripe == r.stripe)) })) g)
    | none =>
      match s.mesh.lookups.find? (fun l => l.1 == request) with
      | some l =>
        let rows := recs.filterMap (fun r => (groupAt s r.group).bind (fun g => ((memberIdx g src).bind (rowOf g r.stripe)).map
          (fun j => (g, r, j))))
        .next (rows.foldl (fun s x =>
          match ownIn s x.1.id x.2.1.stripe with
          | some o => if o.band = l.2.1 ∧ o.seg = l.2.2 ∧ o.stage = 2 then ownRows s x.1 o (linsert o.rows x.2.2) else s
          | none => s) s)
      | none =>
        match s.mesh.recons.find? (fun r => r.request == request) with
        | none => .next s
        | some r =>
          if r.record.isSome then .next s
          else
            match recs.find? (fun q => (unitOf s q r.node r.band r.seg).isSome) with
            | none => .next s
            | some q => .next (askUnits (modRecon s request (fun r => { r with record := some q })) { r with record := some q })

/-- Change the chain of a stripe that passes through this device. -/
def modChain (s : State) (group stripe : Nat) (f : Chain → Chain) : State :=
  let l := s.mesh.chains.map (fun c => if c.group = group ∧ c.stripe = stripe then f c else c)
  upMesh s (fun m => { m with chains := l.filter (fun c => !c.left.isEmpty) })

/-- Pass on the partial sum of a codeword with this device's own weighted codeword added; where it cannot be read, or the sum named a
unit that could not be, the part is empty and names that unit (R387; log entry 39). -/
def passPart (s : State) (c : Chain) (p d : Nat) (row : Bool) (x : Coded) : State :=
  if !c.left.contains p then s
  else
    let s := modChain s c.group c.stripe (fun c => { c with left := c.left.filter (· != p) })
    if x.data.isEmpty then sendM s c.next c.group (.rebuildPart c.stripe p d row x)
    else if c.bad.contains p then sendM s c.next c.group (.rebuildPart c.stripe p c.unit.1 c.unit.2 { data := [], desc := [] })
    else
      match unitPlace s c.group c.stripe c.unit with
      | none => sendM s c.next c.group (.rebuildPart c.stripe p c.unit.1 c.unit.2 { data := [], desc := [] })
      | some y => sendM s c.next c.group (.rebuildPart c.stripe p d row (x.add ((codedOf s (cwOf y p)).scale c.weight)))

/-- REBUILD_PLAN: a source takes its place in the chain; the first one sends its codewords (R387 steps 2 and 3). -/
def execRebuildPlan (src group stripe : Nat) (chain : List (Nat × Nat)) (media : MediaIn) (s : State) : Out :=
  if inReset s islStripe then .next s
  else
    match groupAt s group, chain.findIdx? (fun x => x.1 == s.mesh.node) with
    | some g, some i =>
      match unitOfMember g stripe g.index, (memberIdx g src).bind (unitOfMember g stripe) with
      | some u, some t =>
        let place := unitPlace s group stripe u
        let cws := (place.map (fun x => (List.range 256).map (cwOf x))).getD []
        let unread := match place with
          | some x => (List.range 256).filter (fun p => decide (4 ≤ readLevel s media (cwOf x p)))
          | none => List.range 256
        let c : Chain := { group, stripe, unit := u, next := (chain.getD (i + 1) (src, 0)).1, weight := (chain.getD i (0, 0)).2, bad := unread,
                           left := List.range 256 }
        let s := upMesh (checkFaults s media cws) (fun m => { m with
          chains := m.chains.filter (fun c => !(c.group == group && c.stripe == stripe)) ++ [c] })
        if i = 0 then .next ((List.range 256).foldl (fun s p => passPart s { c with left := [p] } p t.1 t.2 Coded.zero) s) else .next s
      | _, _ => .next s
    | _, _ => .next s

/-- MESH_REBUILD_CTRL.RATE leaves room for one more rebuilt segment of 1 MiB: what the rebuild has programmed since its start stays within RATE GB/s
of the time passed, counted in whole ms with the one that runs (R387; DESIGN CHOICE, log entry 87). -/
def rebuildAdmits (s : State) (b : Rebuild) : Bool :=
  decide (1048576 * b.rebuilt < s.mesh.rate * 1000000 * (s.glb.lifetime - b.since + 1))

/-- A part that has come to the replacement: the last one completes the unit, which is programmed; an empty one names a source that
cannot be read, and the stripe is planned anew without it (R387). None while no band can be had, or the rate limit holds the unit back. -/
def takePart (s : State) (g : Group) (b : Rebuild) (r : StripeRec) (p d : Nat) (row : Bool) (x : Coded) : Option State :=
  let next := b.todo.drop 1
  if x.data.isEmpty then
    let y := planStripe s g r (b.bad ++ [(d, row)])
    some (if y.1 then planFrom y.2 g next else y.2)
  else
    let part := mset b.part p x
    if part.length < 256 then some (modRebuild s (fun b => { b with part }))
    else if !rebuildAdmits s b then none
    else
      match unitOfMember g r.stripe g.index with
      | none => none
      | some u => (programUnit s g r u (fun p => mgetD part p Coded.zero)).map (fun s => planFrom s g next)

/-- REBUILD_PART: added to and passed on at a source, collected at the replacement (R387 steps 3 and 4). -/
def execRebuildPart (src group stripe p d : Nat) (row : Bool) (x : Coded) (s : State) : Out :=
  if inReset s islStripe then .next s
  else
    match groupAt s group with
    | none => .next s
    | some g =>
      if (memberIdx g src).isNone || decide (256 ≤ p) then .next s
      else
        match s.mesh.rebuild, s.mesh.rebuild.bind (fun b => b.todo.head?) with
        | some b, some r =>
          if b.group = group ∧ b.gathered ∧ r.stripe = stripe then
            if (mget b.part p).isSome then .next s else .next ((takePart s g b r p d row x).getD s)
          else .next s
        | _, _ =>
          match s.mesh.chains.find? (fun c => c.group == group && c.stripe == stripe) with
          | some c => .next (passPart s c p d row x)
          | none => .next s

/-- MEMBER_UPDATE: the holders set a rebuilt location; or a member's rebuild is complete and its LOST bit clears (R387, R388). -/
def execMemberUpdate (src group : Nat) (u : MemberChange) (s : State) : Out :=
  if inReset s islStripe then .next s
  else
    match groupAt s group with
    | none => .next s
    | some g =>
      match u with
      | .node index node =>
        if src ≠ node ∨ index = g.index ∨ g.k + g.m ≤ index then .next s
        else
          .next (offerNext (modGroup s group (fun g =>
            let lost := g.lost.filter (· != index)
            { g with lost, members := g.members.set index node, state := if g.state = 3 ∧ lost.isEmpty then 2 else g.state })) group)
      | .moved stripe d row band seg =>
        if (memberIdx g src).isNone then .next s
        else
          let set_ := fun (r : StripeRec) => if r.group = group ∧ r.stripe = stripe then r.moved (d, row) (band, seg) else r
          .next (upMesh s (fun m => { m with
            stripes := m.stripes.map (fun x => { x with record := x.record.map set_ }), cache := m.cache.map set_ }))

/-! ### Lost members (R385) -/

/-- A lost data member at a holder of an open stripe (Table 15.9): a position not accepted becomes zero at the fixing; one accepted
whose packets are incomplete here is taken back by the primary, which fixes a fixed set again. -/
def loseData (s : State) (g : Group) (x : Stripe) (d : Nat) : State :=
  if !x.accepted.any (fun a => a.1 == d) || !x.partly d || primaryOf g x.num != some g.index then s
  else
    let keep := x.accepted.filter (fun a => a.1 != d)
    let s := if x.record.isSome then fixStripe s g x keep else modStripe s g.id x.num (fun y => { y with accepted := keep })
    abandonAcc s g x.num keep

/-- An own segment whose stripe lost a holder before its set was fixed here: INTENT goes to the new primary, or the segment to the next
stripe where no holder is left (Table 15.9). -/
def reIntent (s : State) (g : Group) (o : OwnSeg) : State :=
  match primaryOf g o.stripe with
  | some i => sendM (modOwn s o.band o.seg (fun o => { o with stage := 1 })) (memberNode g i) g.id (.intent o.stripe o.d o.band o.seg)
  | none => offerSeg s g o.band o.seg (o.stripe + 1)

/-- The primary of a stripe before a member was lost. -/
def wasPrimary (g : Group) (t index : Nat) : Bool := primaryOf { g with lost := g.lost.filter (· != index) } t == some index

/-- A member is held LOST (R385): its bit, a Deferred fault of STRIPE, log 0x06, and Table 15.9 for every open stripe; reconstructions
and a rebuild go on without its units. -/
def loseMember (s : State) (group index : Nat) : State :=
  let s := modGroup s group (fun g => { g with lost := linsert g.lost index, state := if g.state = 2 then 3 else g.state })
  let s := groupLog (raise s (unit islStripe 3)) group 12 index
  match groupAt s group with
  | none => s
  | some g =>
    let s := (s.mesh.stripes.filter (fun x => x.group == group && x.parity.isNone && !x.released)).foldl (fun s x =>
      match posOf g x.num index with
      | some d => loseData s g x d
      | none => s) s
    let s := (s.mesh.own.filter (fun o => o.group == group && (o.stage == 1 || o.stage == 2) && !o.fixed &&
      wasPrimary g o.stripe index)).foldl (fun s o => reIntent s g o) s
    let s := (s.mesh.stripes.filter (fun x => x.group == group)).foldl (fun s x => tryRelease s g x.num) s
    let s := (s.mesh.recons.filter (fun r => !r.done && !r.exhausted && (r.record.map (fun q => q.group)) == some group)).foldl (fun s r =>
      match r.record with
      | some q =>
        if r.waits.any (fun u => unitMember g q.stripe u == index) then askUnits s { r with acc := Coded.zero } else s
      | none => s) s
    let s := match s.mesh.rebuild with
      | some b =>
        if b.group ≠ group then s
        else if !b.gathered then gatherDone s g
        else
          match b.todo with
          | r :: rest =>
            let y := planStripe s g r b.bad
            if y.1 then planFrom y.2 g rest else y.2
          | [] => s
      | none => s
    tryDissolve s group

/-- MEMBER_LOST (R385). -/
def execMemberLost (group index : Nat) (s : State) : Out :=
  if inReset s islStripe then .next s
  else
    match groupAt s group with
    | none => .next s
    | some g =>
      if !(g.formed || g.state == 5) || index = g.index || g.k + g.m ≤ index || g.lost.contains index then .next s
      else .next (loseMember s group index)

end Sys2Proof.Machine
end

