-- ==== Sys2Proof/Machine/Recovery.lean ====
section
/-! DEFINITION. Recovery at power-up (R159 to R161, R166, R382): the newest root, the journal, the dump, open bands, staging, valid units,
stripe groups. -/

namespace Sys2Proof.Machine

open Sys2Proof

/-! ### The journal's groups (R153) -/

/-- Records collected into complete groups; an unfinished group at the end is dropped (R153, R159). -/
def groupsOf (acc : List Record) (l : List JRec) : List (List Record) :=
  match l with
  | [] => []
  | r :: rest => if r.more then groupsOf (acc ++ [r.body]) rest else (acc ++ [r.body]) :: groupsOf [] rest

/-- A flash block's address from a BLOCKS record (Table 6.2); its erase count is the block's own. -/
def blockOf (n : Nat) : FlashBlock := { ce := n / 2 ^ 29 % 8, lun := n / 2 ^ 27 % 4, block := n % 2 ^ 27, erases := 0 }

/-- A band just opened. -/
def openedBand (t : Stream) : Band :=
  { state := .opened, stream := t, blocks := [], frontier := 0, segsSealed := 0, segValid := [], copies := 0, reads := 0, unreleased := [],
    failed := [], reloc := 0, overdue := false, deadline := 0, patrolAt := 0 }

/-- A BAND record applied (Table 6.2): OPEN begins the entry anew, FREE gives its blocks back. -/
def replayBand (s : State) (b state stream : Nat) : State :=
  match bandStateOf state with
  | .opened => upMed s (fun m => { m with bands := mset m.bands b (openedBand (streamOf stream)) })
  | .free => upMed s (fun m => { m with bands := mdel m.bands b })
  | .retired => bandMod s b (fun x => { x with state := .retired, blocks := [] })
  | st => setBand s b st

/-- A DIR_SET applied (Table 6.2): a page without a flash copy keeps what the stretch held, so that an extent is split (R142). -/
def replayDir (s : State) (v st : Nat) (d : DirEntry) : State :=
  match d with
  | .leaf none => ensurePage s v st
  | _ => setDir (dropPage s v st) v st d

/-- A VOL_SET applied: the volume is created empty under its key-log record, or deleted (Table 6.2, R325). A volume with only a foster
record is a foster volume. -/
def replayVol (s : State) (vol capacity attrs : Nat) (delete : Bool) : State :=
  if delete then
    upMed s (fun m => { m with volumes := mdel m.volumes vol, leafCache := m.leafCache.filter (fun p => p.vol != vol) })
  else
    let own := s.sec.keyLog.find? (fun k => k.vol == vol && k.kind == 0)
    let peer := s.sec.keyLog.find? (fun k => k.vol == vol && k.kind == 1)
    let v : Volume := { capacity, comp := bit attrs 0, cold := bit attrs 1, imported := bit attrs 2,
                        keyId := ((own.orElse (fun _ => peer)).map (fun k => k.keyId)).getD 0, gen := s.med.nextGen,
                        foster := own.isNone && peer.isSome, dirBase := 0, dir := [], formatting := false }
    upMed s (fun m => { m with volumes := mset m.volumes vol v, nextGen := m.nextGen + 1 })

/-- A record applied, unconditionally; `at_` is the band that the group's last OPEN names, whose blocks BLOCKS records give (Table 6.2,
R153). -/
def replayRecord (x : Option Nat × State) (r : Record) : Option Nat × State :=
  let s := x.2
  match r with
  | .mapSet v lba e => (x.1, applyEntry s v lba e)
  | .mapGc v lba e => (x.1, applyEntry s v lba e)
  | .mapZero v lba n epoch => (x.1, (List.range n).foldl (fun s i => applyEntry s v (lba + i) { form := .zero, epoch := (epoch + i) % 4096 }) s)
  | .dirSet v st d => (x.1, replayDir s v st d)
  | .volSet v c a del => (x.1, replayVol s v c a del)
  | .dirBase v b => (x.1, volMod s v (fun y => { y with dirBase := b }))
  | .band b st t => (some b, replayBand s b st t)
  | .blocks _ b0 b1 =>
    (x.1, match x.1 with
      | some b => bandMod s b (fun y => { y with blocks := y.blocks ++ [blockOf b0, blockOf b1] })
      | none => s)
  | .segRel .. => x
  | .wseqRes _ => x
  | .ckpt _ => x
  | .bad => x

/-- A group applied (R153). -/
def replayGroup (s : State) (l : List Record) : State := (l.foldl replayRecord (none, s)).2

/-- Records from JSTART on, with the dump's journal tail behind them (R159). -/
def replayList (s : State) (r : Root) (tail : List JRec) : List JRec := s.med.ring.drop (r.jstart - s.med.jstart) ++ tail

/-! ### Bands after replay (R118, R160, R172) -/

/-- Codewords programmed in a band. -/
def programmed (s : State) (b : Nat) : Nat :=
  ((s.med.flash.filter (fun c => c.1 / 2 ^ 18 == b)).map (fun c => c.1 % 2 ^ 18 + 1)).foldl max 0

/-- Take a band's blocks out of the channels' free blocks, each with the erase count it has there. -/
def takeBlocks (s : State) (b : Nat) : State :=
  match mget s.med.bands b with
  | none => s
  | some x =>
    if x.blocks.length ≠ s.med.chans.length then s
    else
      let pairs := s.med.chans.zip x.blocks
      let own := pairs.map (fun y => ((y.1.free.find? (fun f => f.code == y.2.code)).getD y.2))
      upMed (bandMod s b (fun x => { x with blocks := own })) (fun m => { m with
        chans := pairs.map (fun y => { y.1 with free := y.1.free.filter (fun f => f.code != y.2.code) }) })

/-- Segments of a band whose stripes are not released: own ones and parity (R148, R382). -/
def heldSegs (s : State) (b : Nat) : List Nat :=
  ((s.mesh.own.filter (fun o => o.band == b)).map (fun o => o.seg)).foldl linsert
    (((s.mesh.stripes.filterMap (fun x => x.parity)).filter (fun p => p.1 == b)).map (fun p => p.2) |>.foldl linsert [])

/-- A band's entry after replay: its blocks, what is programmed in it, its stripes and its patrol deadline; nothing reads or copies it. -/
def settleBand (s : State) (b : Nat) : State :=
  let n := programmed s b
  let d := mgetD s.med.deadlines b 0
  takeBlocks (bandMod s b (fun x => { x with
    frontier := n, segsSealed := n / 256, segValid := [], copies := 0, reads := 0, unreleased := heldSegs s b, patrolAt := 0, reloc := 0,
    deadline := if d ≠ 0 then d else if 256 ≤ n then s.glb.lifetime + patrolInterval s b else 0 })) b

/-- The codeword after the last one of a band that records name (R160). -/
def namedEnd (l : List Record) (b : Nat) : Nat :=
  (l.filterMap (fun r => match r with
    | .mapSet _ _ e => e.form.place
    | _ => none)).foldl (fun n p => if paBand p.1 = b then max n ((p.1 + p.2 - 1) / 16 % 2 ^ 18 + 1) else n) 0

/-- MAP_SET records of the blocks that begin in a codeword (R160). -/
def blocksOf (cw : Nat) (c : Codeword) : List Record :=
  (c.blocks.zip (List.range c.blocks.length)).map (fun x =>
    let pa := 16 * cw + x.1.unit
    .mapSet c.vol (c.lba + x.2) { form := if x.1.c then .comp pa (x.1.len - 1) else .plain pa, epoch := (c.wseq + x.2) % 4096 })

/-- Read codewords from a frontier on, up to an erased or an unreadable one; the blocks of each but pads and GC copies are mapped
(R160). -/
def replayCws (s : State) (m : MediaIn) (l : List Nat) : State :=
  match l with
  | [] => s
  | cw :: rest =>
    match mget s.med.flash cw with
    | none => s
    | some c =>
      if 4 ≤ readLevel s m cw then s
      else if c.gcCopy || decide (2 ≤ c.kind) then replayCws s m rest
      else replayCws ((blocksOf cw c).foldl (fun s r => journal (replayGroup s [r]) [r]) s) m rest

/-- Open-band replay; the band is CLOSED after it. The frontier lies no lower than the newest root's, since records before JSTART are gone
(R160). -/
def replayOpen (s : State) (m : MediaIn) (r : Root) (recs : List Record) (b : Nat) : State :=
  let start := max (namedEnd recs b) (((mget r.bands b).map (fun x => if x.state = .opened then x.frontier else 0)).getD 0)
  let s := replayCws s m ((span start (256 * bandSegs s - start)).map (fun i => b * 2 ^ 18 + i))
  journal (bandMod s b (fun x => { x with state := .closed })) [bandRec b .closed]

/-- The bands after replay: FREE ones are formed afresh from the free blocks, and flash outside every band is erased (R118, R172). -/
def settleBands (s : State) : State :=
  let s := upMed s (fun m => { m with bands := m.bands.filter (fun b => b.2.state != .free) })
  let s := upMed s (fun m => { m with flash := m.flash.filter (fun c =>
    match mget m.bands (c.1 / 2 ^ 18) with
    | some x => x.state != .retired
    | none => false) })
  ((s.med.bands.filter (fun b => b.2.state != .retired)).map (·.1)).foldl settleBand s

/-- Form FREE bands until the smallest committed count of the channels is reached (R118, R172). -/
def formAll (s : State) : State :=
  (List.range ((s.med.chans.map (fun c => c.committed)).foldl max 0)).foldl (fun s _ => formBand s) s

/-! ### The dump (R162, R166) -/

/-- The newest complete unconsumed dump that the dump key in force opens (R159, R162). -/
def newestDump (s : State) : Option Dump :=
  (s.med.dumps.filter (fun d => d.complete && !d.consumed && d.key == s.med.dumpKey)).foldl (fun best d =>
    match best with
    | none => some d
    | some x => if x.seq < d.seq then some d else some x) none

/-- An incomplete dump was found: MED_DUMP_STATUS.LOST and a Fatal fault of the hold-up source; a PAIRED partner's mirror gives the missing
staging back (R166). -/
def dumpLost (s : State) (mirror : List (Nat × Nat × List Byte)) : State :=
  let s := raise (upMed s (fun m => { m with dumpLost := true, lifeLost := m.lifeLost + 1 })) srcHoldup
  if s.pair.state = 2 then mirror.foldl (fun s x => if (mget s.med.volumes x.1).isSome then stageBlock s x.1 x.2.1 x.2.2 else s) s else s

/-- The dump's staged writes are staged again, older than every new write; those of one block that a later one supersedes are skipped
(R132, R159). -/
def restoreStaging (s : State) (l : List Staged) : State :=
  let l := (rankSort (fun x => x.seq) l).filter (fun x => (mget s.med.volumes x.vol).isSome)
  let newest := l.filter (fun x => !l.any (fun y => y.vol == x.vol && y.lba == x.lba && decide (x.seq < y.seq)))
  let s := upMed s (fun m => { m with staging := newest.map (fun x => { x with seq := 0 }) ++ m.staging })
  let seqs := (newest.filterMap (fun x => x.mirror)).foldl linsert []
  if s.pair.state = 0 then s
  else
    upPair s (fun p => { p with entriesOut := seqs.map (fun n =>
      let mine := newest.filter (fun x => x.mirror == some n)
      { seq := n, tag := none, vol := (mine.head?.map (fun x => x.vol)).getD 0, op := 0, lba := (mine.map (fun x => x.lba)).foldl min (2 ^ 38),
        blocks := mine.length, confirmed := false, releasable := false, recs := 0, segs := [] }) })

/-- Dumps are taken back: an incomplete or unreadable one is reported, the newest complete one restores staging, all are consumed. -/
def takeDumps (s : State) (unreadable : Bool) (mirror : List (Nat × Nat × List Byte)) : State :=
  let lost := s.med.dumps.any (fun d => !d.consumed && (!d.complete || unreadable))
  let s := match newestDump s with
    | some d => if unreadable then s else restoreStaging s d.staging
    | none => s
  let s := if lost then dumpLost s mirror else s
  upMed s (fun m => { m with dumps := m.dumps.map (fun d => { d with consumed := true }) })

/-! ### Formats, pair and groups after a restart -/

/-- The format bits: a format that waits, walks, or was absorbed by the sanitise that runs; no other volume has its bit set (R178, R179). -/
def settleFormats (s : State) : State :=
  let s := upMed s (fun m => { m with
    volumes := m.volumes.map (fun v => (v.1, { v.2 with formatting := false })), formats := m.formats.map (fun f => { f with old := [] }) })
  let vols := s.med.formats.map (fun f => f.vol) ++ (if s.med.progress.state = 2 then [s.med.progress.vol] else []) ++ s.med.absorbed
  vols.foldl (fun s v => volMod s v (fun x => { x with formatting := true })) s

/-- A holder asks for the contributions of its unclosed stripes again, into fresh accumulators (R382). -/
def resumeStripes (s : State) : State :=
  (s.mesh.stripes.filter (fun x => x.parity.isNone && !x.released)).foldl (fun s x =>
    match groupAt s x.group, allot s x.group x.num with
    | some g, some s => x.accepted.foldl (fun s a => sendM s (unitNode g x.num (a.1, false)) g.id (.resend x.num a.1)) s
    | _, _ => s) s

/-- A member resends the segments its stripes had accepted and locates them; a segment that was only offered is offered afresh (R382; log
entry 36). -/
def resumeSegs (s : State) : State :=
  let s := (s.mesh.own.filter (fun o => o.stage == 2)).foldl (fun s o =>
    match groupAt s o.group with
    | none => s
    | some g =>
      let req := s.mesh.nextReq
      let s := upMesh s (fun m => { m with nextReq := (m.nextReq + 1) % 2 ^ 64, lookups := m.lookups ++ [(req, o.band, o.seg)] })
      let s := sendOthers s g (.locate req s.mesh.node o.band o.seg)
      contribute s g o ((List.range g.m).filter (fun j => !o.rows.contains j))) s
  let s := upMesh s (fun m => { m with own := m.own.map (fun o => if o.stage = 1 then { o with stage := 0 } else o) })
  (s.mesh.groups.map (fun g => g.2.id)).foldl offerNext s

/-! ### The whole recovery -/

/-- A volume's key is the one that the key log gives it, whatever was in force when the root was written (R325). -/
def settleKeys (s : State) : State :=
  upMed s (fun m => { m with volumes := m.volumes.map (fun v =>
    match s.sec.keyLog.find? (fun k => k.vol == v.1 && k.kind == (if v.2.foster then 1 else 0)) with
    | some k => (v.1, { v.2 with keyId := k.keyId })
    | none => v) })

/-- A root whose CRC does not match is not valid (R157). -/
def dropRoots (s : State) (slots : List Nat) : State :=
  upMed s (fun m => { m with
    root0 := if slots.contains 0 then none else m.root0, root1 := if slots.contains 1 then none else m.root1 })

/-- The records up to the end of the last complete group: an unfinished group is dropped and does not stay in the ring (R153, R159). -/
def wholeGroups (l : List JRec) : List JRec := (l.reverse.dropWhile (fun r => r.more)).reverse

/-- Recovery from the newest root (R159). -/
def recoverFrom (s : State) (r : Root) (unreadable : Bool) (mirror : List (Nat × Nat × List Byte)) (media : MediaIn) : State :=
  let s := upMed s (fun m => { m with
    volumes := r.volumes, bands := r.bands, leafCache := [], nextGen := r.volumes.foldl (fun n v => max n (v.2.gen + 1)) m.nextGen })
  let tail := match newestDump s with
    | some d => if unreadable then [] else d.tail
    | none => []
  let groups := groupsOf [] (replayList s r tail)
  let s := settleBands (groups.foldl replayGroup s)
  let s := settleKeys (upMed s (fun m => { m with ring := wholeGroups (m.ring ++ tail) }))
  let s := upPair s (fun p => { p with jConfirmed := min p.jConfirmed (jHead s) })
  let open_ := (s.med.bands.filter (fun b => b.2.state == .opened)).map (·.1)
  let s := open_.foldl (fun s b => replayOpen s media r groups.flatten b) s
  let s := takeDumps s unreadable mirror
  let s := recount (settleFormats (upMed s (fun m => { m with wseq := max 1 m.wseqCeil })))
  let s := formAll s
  let s := flushAll (journalDrain s [] (s.med.bands.map (·.1)))
  let s := if s.pair.state = 0 then s else enterRejoin s
  resumeSegs (resumeStripes s)

/-- Replay would meet a record of a TYPE that is not written (R161). -/
def badRecord (s : State) (r : Root) : Bool := (replayList s r []).any (fun x => x.body == .bad)

/-- Step 9 of the boot: at first start PJM is initialised, else the state is rebuilt. None: a PJM fault (R159, R161). -/
def recoverState (s : State) (share : Nat) (uncorrectable unreadable : Bool) (mirror : List (Nat × Nat × List Byte)) (media : MediaIn) :
    Option State :=
  if !s.med.pjmInit then some (blankPjm s share)
  else
    match newestRoot s with
    | none => none
    | some r => if uncorrectable || badRecord s r then none else some (recoverFrom s r unreadable mirror media)

end Sys2Proof.Machine
end

