-- ==== Sys2Proof/Machine/Boot.lean ====
section
/-! DEFINITION. BOOT: the boot sequence from the boot ROM's checks to READY (R453 to R461, R475). -/

namespace Sys2Proof.Machine

open Sys2Proof

/-- The boot may begin: power is good, PERST# and PWR_FAIL_N are deasserted, no dump or reset is under way, and no start-up fault waits for
its reaction (R425, R452, R487). -/
def bootable (s : State) : Bool :=
  s.glb.poweredOn && s.glb.booting && s.pwr.railsGood && s.pwr.perstN && (s.pwr.pwrFailN || s.pwr.pwrFailIgnored) && !s.med.dumpActive &&
    !s.glb.resetPending && !s.flt.halted && s.flt.queue.all (fun f => !startupFault f.src)

/-- A slot whose second hash differed is invalid until the next device reset, and log 0x05 codes it 5 (R454, Table 19.7). -/
def NorSlot.secondHash (x : NorSlot) : NorSlot := { x with state := 5, version := 0, digest := List.replicate 48 0 }

/-- Both slots as their bytes make them, but for a primary slot that this start has excluded (R454, R455). -/
def readSlots (s : State) : State :=
  upGlb s (fun g =>
    let p := slotOf g.primary.bytes g.keyDigest
    { g with primary := if g.excluded = 1 then p.secondHash else p, golden := slotOf g.golden.bytes g.keyDigest })

/-- The slot the boot ROM starts: the primary, else the golden one; none leads to ROM recovery (R453, R454, R460). -/
def bootChoice (s : State) : Option Bool :=
  if s.glb.primary.state = 0 ∧ s.glb.excluded ≠ 1 then some false
  else if s.glb.golden.state = 0 then some true
  else none

/-- ROM recovery (R460). -/
def romRecovery (s : State) : State := upGlb s (fun g => { g with romRecovery := true, booting := false, erasedSectors := [] })

/-- The security descriptor of the booted slot (Table 19.22). -/
def securityDescriptor (s : State) : List Byte :=
  let b := bootSlot s
  le 2 1 ++ le 1 deviceRevision ++ le 1 0 ++ le 4 s.sec.keyGen ++
    sha384 (slotBytes b (cfgOff + ((cfgSections b).getD 2 (0, 0, 0)).1) 128) ++ fit 8 s.glb.keyDigest

/-- Steps 5 and 6: what the image and its configuration block say is in force, and M0, M1 and M2 take their one extension of this boot;
a boot restarted with the other slot measures afresh (R32, R455, R459, R500; log entry 42). -/
def startImage (s : State) (golden : Bool) : State :=
  let s := upGlb s (fun g => { g with bootedGolden := golden, goldenBoots := if golden then g.goldenBoots + 1 else g.goldenBoots })
  let b := bootSlot s
  let ids := slotNum b (cfgOff + 0x0C) 4
  let s := upGlb s (fun g => { g with
    fwVersion := slotVersion b, versionText := slotBytes b 0x20 16, imageReplaced := false,
    subsysVendor := if ids = 0 then 0x1F7D else ids % 65536, subsysId := if ids = 0 then 0 else ids / 65536 })
  let s := upSec s (fun e => { e with milestones := [], msCount := [] })
  let s := extendMs s 0 (imageDigest b)
  let s := extendMs s 1 (sha384 (slotBytes b cfgOff (cfgLen b)))
  extendMs s 2 (securityDescriptor s)

/-- The power-up self-tests: bits 0 to 11 that fail enter the error state (R331). -/
def powerUpTests (s : State) (failed : Nat) : State :=
  let s := upSec s (fun e => { e with selftestFailed := failed % 4096, powerupDone := true, testedAt := s.glb.lifetime, drbgSeeded := failed % 4096 == 0 })
  if failed % 4096 = 0 then reApprove s else enterError s

/-- A start-up Fatal fault: at its configured reaction, and at reaction 0 in a service start (R475). -/
def startFault (s : State) (src : Nat) : State := raiseAt s src (if s.glb.serviceStart then some 0 else none) false none

/-! ### DRAM (R182, R183, R185, R186, R201) -/

/-- GiB of a configuration that Table 7.1 lists, by ×4, two ranks and density code. -/
def dramGibOf (x4 two : Bool) (density : Nat) : Option Nat :=
  match x4, two, density with
  | false, false, 0 => some 32
  | false, true, 0 => some 64
  | false, false, 1 => some 64
  | false, false, 2 => some 96
  | false, true, 1 => some 128
  | false, false, 3 => some 128
  | true, false, 0 => some 64
  | true, false, 1 => some 128
  | _, _, _ => none

/-- The DRAM found obeys Table 7.1 and the DRAM profile of the booted slot (R182, R183, Table 19.20). -/
def dramAgrees (s : State) (b : BoardIn) : Bool :=
  let f := fun off n => cfgField (bootSlot s) 1 off n
  dramGibOf b.x4 b.twoRanks b.density == some b.dramGib &&
    f 0 2 == (if b.rate = 1 then 4800 else if b.rate = 2 then 5600 else 6400) && decide (1 ≤ b.rate) && decide (b.rate ≤ 3) &&
    f 2 1 == (if b.x4 then 4 else 8) && f 3 1 == (if b.twoRanks then 2 else 1) && f 4 1 == 8 * (b.density + 1)

/-- Step 7: DRAM is trained and laid out; the Arena takes the size pending, clamped so that the leaf cache keeps 8 GiB (R185, R186,
R201). -/
def trainDram (s : State) (b : BoardIn) : State :=
  let pending := s.hst.arenaCur
  let a := arenaFor b.dramGib pending
  let s := upHst s (fun h => { h with arenaCur := a })
  let leaf := leafUnits b.dramGib a
  let s := upMed s (fun m => { m with leafCap := 65536 * leaf })
  let s := upKite s (fun k => { k with spillSlots := 128 * b.dramGib })
  upDrc s (fun d => { d with
    rate := b.rate, x4 := b.x4, twoRanks := b.twoRanks, density := b.density, capacity := b.dramGib, trained := true,
    clamped := d.clamped || decide (a < pending), leaf, directory := b.dramGib / 32, working := workingMib b.dramGib a,
    nrFar := cfgField (bootSlot s) 1 0x1C 1 == 1, raaImt := cfgField (bootSlot s) 1 0x14 2, raaMmt := cfgField (bootSlot s) 1 0x16 2,
    rowXor := cfgField (bootSlot s) 1 0x18 4, lastRetrain := (List.range 4).map (fun c => (c, s.glb.lifetime)) })

/-! ### Flash (R113, R114) -/

/-- The flash found obeys R113 and the flash profile of the booted slot (R114, R457, Table 19.19). -/
def flashAgrees (s : State) (b : BoardIn) : Bool :=
  let f := fun off n => cfgField (bootSlot s) 0 off n
  decide (b.rawBytes ≤ 2 ^ 49) && decide (b.rawBytes ≤ b.channels * b.luns * 2 ^ 39) && b.profileOk &&
    b.page == slotBytes (bootSlot s) (cfgOff + ((cfgSections (bootSlot s)).getD 0 (0, 0, 0)).1) 32 &&
    (b.channels == 16 || b.channels == 32) && decide (1 ≤ b.luns) && decide (b.luns ≤ 32) &&
    (b.blockMib == 4 || b.blockMib == 8 || b.blockMib == 16 || b.blockMib == 32) && b.blocks.length == b.channels &&
    f 0x22 1 == b.channels && f 0x23 1 * f 0x24 1 == b.luns && f 0x25 1 == b.planes && f 0x26 1 == b.blockMib &&
    decide (8 ≤ f 0x27 1) && decide (f 0x27 1 ≤ 20) && decide (800 ≤ f 0x20 2) && decide (f 0x20 2 ≤ 3600) && decide (13500 ≤ f 0x34 4)

/-- The channels as first found: every good block free. The blocks of the dump and key areas are not among them (R162, R325; DEDUCED, log
entry 43). -/
def newChannels (s : State) (b : BoardIn) : List Channel :=
  ((chanList s).zip b.blocks).map (fun x =>
    { number := x.1, free := x.2, good := x.2.length, committed := 0, retired := 0, maxErase := (x.2.map (fun y => y.erases)).foldl max 0 })

/-- The flash is taken into use: its shape, and at first start its good blocks and the dump areas (R162). -/
def takeFlash (s : State) (b : BoardIn) : State :=
  let s := upMed s (fun m => { m with
    channels := b.channels, luns := b.luns, planes := b.planes, blockMib := b.blockMib, rawBytes := b.rawBytes })
  if s.med.chans.isEmpty then upMed s (fun m => { m with chans := newChannels s b, dumpBlocks := b.dumpAreas }) else s

/-! ### READY (R407, R420, R461) -/

/-- READ_ONLY with cause HOLDUP_SENSE ends at a reset in which PWR_FAIL_N is found deasserted, a Failover being none (R407). -/
def endHoldup (s : State) : State :=
  if s.med.holdupRo && s.pwr.pwrFailN && s.glb.lastReset != 4 then upMed s (fun m => { m with holdupRo := false }) else s

/-- Step 10: READY, unless this is a service start; the quiet timer restarts after a Failover (R420, R461, R475). -/
def bootDone (s : State) (ms : Nat) : State :=
  let s := upGlb s (fun g => { g with booting := false, startMs := ms % 65536 })
  if s.glb.serviceStart then s
  else
    upFlt (upGlb s (fun g => { g with ready := true })) (fun f => { f with
      failover := false, readySeen := true, remain := if f.unack.isEmpty then f.remain else 100 * feature s 2 })

/-- Step 9: recovery; a journal that cannot be replayed is a Fatal fault of PJM, which halts the device but for a service start (R159, R161,
R475). -/
def bootRecover (s : State) (found : BootIn) : State :=
  match recoverState (dropRoots s found.badRoots) (spareShare s) found.pjmUncorrectable found.dumpUnreadable found.mirror found.media with
  | some s => bootDone (endHoldup s) found.ms
  | none =>
    let s := startFault (upMed s (fun m => { m with pjmBad := true })) (unit islPjm 5)
    if s.glb.serviceStart then bootDone s found.ms else s

/-- Step 8 on: a second hash that differs excludes the slot and restarts the boot, or on the golden image leads to ROM recovery; the flash
is checked against its profile before recovery (R114, R454). -/
def bootFlash (s : State) (golden : Bool) (found : BootIn) : State :=
  if s.drc.trained && found.hashMismatch then
    if golden then romRecovery (upGlb s (fun g => { g with excluded := 2, golden := g.golden.secondHash }))
    else upGlb s (fun g => { g with excluded := 1, primary := g.primary.secondHash })
  else if !flashAgrees s found.board then
    let s := startFault (upMed s (fun m => { m with profileRefused := true })) srcFlashProfile
    if s.glb.serviceStart then bootDone s found.ms else s
  else
    let s := takeFlash s found.board
    if s.drc.trained then bootRecover s found else bootDone s found.ms

/-- BOOT (R453). A start-up Fatal fault stops it before READY, and the reaction halts the device; a service start goes on without the
failed step (R475). -/
def execBoot (found : BootIn) (s : State) : Out :=
  if !bootable s then .next s
  else
    let s := readSlots (upGlb s (fun g => { g with serviceStart := found.service, fpRxdLow := found.service }))
    match bootChoice s with
    | none => .next (romRecovery s)
    | some golden =>
      let s := powerUpTests (startImage s golden) found.selftestFailed
      if s.sec.errorState then .next s
      else if dramAgrees s found.board && found.board.trainOk then .next (bootFlash (trainDram s found.board) golden found)
      else
        let s := startFault s srcDramConfig
        if s.glb.serviceStart then .next (bootFlash s golden found) else .next s

end Sys2Proof.Machine
end

