-- ==== Sys2Proof/Machine/Slots.lean ====
section
/-! DEFINITION. A packet's way in and a reply's way out: slot writes, the intake, range locks, fragment lists, completion, reply rings
and MSI-X (chapters 02 to 04). -/

namespace Sys2Proof.Machine

open Sys2Proof

/-! ### Slots (R35, R59, R61, R64, R65) -/

/-- A tagless reply on a queue's ring (R59, R61, R64). -/
def tagless (s : State) (q ring status detail r0 : Nat) (p : Packet) : State :=
  postTagless s ring { cookie := p.cookie, qid := q, status, detail, tag := 0xFFFF, r0, r1 := 0 }

/-- A slot holds a packet. -/
def slotHeld (s : State) (q : Nat) : Bool := s.tsk.held.any (fun h => h.1 == q)

/-- One 64-byte slot write (Table 3.3). -/
def slotWriteOne (s : State) (q : Nat) (b : List Byte) : State :=
  let p := parsePacket b
  match (if q = 0 ∧ !s.tsk.ring0En then none else queueAt s q) with
  | none => upTsk s (fun t => { t with noqueueDropped := satInc t.noqueueDropped })
  | some x =>
    if x.deleting.isSome then
      tagless (upTsk s (fun t => { t with noqueueDropped := satInc t.noqueueDropped })) q x.ring stAborted 1 0 p
    else if slotHeld s q then
      tagless (upTsk s (fun t => { t with overruns := satInc t.overruns, overrunLastQ := q })) q x.ring stOverrun
        (if chkOk b then 0 else 1) p.opc p
    else if chkOk b then upTsk s (fun t => { t with held := t.held ++ [(q, p)] })
    else tagless (upTsk s (fun t => { t with crcDropped := satInc t.crcDropped })) q x.ring stCrc 0 0 p

/-- The 64-byte packets of a TLP to consecutive slots (R35). -/
def slotWrites (s : State) (q : Nat) (b : List Byte) (n : Nat) : State :=
  match n with
  | 0 => s
  | n + 1 => slotWrites (slotWriteOne s q (b.take 64)) (q + 1) (b.drop 64) n

/-- SLOT_WRITE: a memory write TLP to BAR2 at a byte offset (R30, R35, R50). -/
def execSlotWrite (addr : Nat) (data : List Byte) (enables poisoned idePassed : Bool) (s : State) : Out :=
  if s.hst.mode = 0 ∨ s.pwr.linkPm = 2 then .next s
  else
    let n := data.length
    if addr % 64 = 0 ∧ n % 64 = 0 ∧ 64 ≤ n ∧ n ≤ 512 ∧ addr + n ≤ 0x4000000 ∧ enables ∧ !poisoned ∧ idePassed ∧ s.hst.mode = 2 ∧
        !s.hst.ioHeld ∧ !s.flt.containing.contains islHost then
      .next (slotWrites s (addr / 64) data (n / 64))
    else .next (upHst s (fun h => { h with bar2Dropped := satInc h.bar2Dropped }))

/-! ### Acceptance (R62, R67, R69, R94, R95) -/

/-- A digest part joins its context, or a new message takes the lowest free one (R308, R310). -/
def admitDigest (s : State) (o : Op) : State :=
  let p := o.pkt
  if p.cont then
    modOp (upSec s (fun e => { e with contexts := mmod e.contexts p.p2 (fun c => { c with parts := c.parts ++ [o.tag] }) })) o.tag
      (fun x => { x with ctx := some p.p2 })
  else
    match freeContext s with
    | none => s
    | some n =>
      let c : DigestCtx := { alg := p.p4, hmac := if p.hmacAlg then some p.p1 else none, data := [], kite := none,
                             parts := [o.tag], doomed := false }
      modOp (upSec s (fun e => { e with contexts := mset e.contexts n c, dgPeak := max e.dgPeak (e.contexts.length + 1) })) o.tag
        (fun x => { x with ctx := some n })

/-- A command takes a lock entry, or waits for a free one (R77, R78). -/
def admitLock (s : State) (o : Op) (l : Lock) : State :=
  if s.tsk.locks.length < 16384 ∧ !s.tsk.ops.any (fun x => x.stage == .waitEntry) then
    modOp (upTsk s (fun t => { t with locks := t.locks ++ [l] })) o.tag (fun x => { x with stage := .waitLock })
  else modOp s o.tag (fun x => { x with stage := .waitEntry })

/-- QUEUE_DELETE is accepted: the slot stops latching, and a HELD packet is answered with ABORTED (R59). -/
def admitDelete (s : State) (o : Op) : State :=
  let q := o.pkt.p0
  match mget s.tsk.queues q with
  | none => s
  | some x =>
    let held := s.tsk.held.filter (fun h => h.1 == q)
    let s := upTsk s (fun t => { t with
      queues := mmod t.queues q (fun x => { x with deleting := some o.seq }), held := t.held.filter (fun h => h.1 != q) })
    held.foldl (fun s h => tagless s q x.ring stAborted 1 0 h.2) s

/-- What acceptance does for a command that has passed checks 1 to 5. -/
def takeIn (s : State) (o : Op) : State :=
  let p := o.pkt
  let s := match p.opc with
    | 0x0202 => admitDelete s o
    | 0x0503 => admitDigest s o
    | 0x0504 => admitDigest s o
    | 0x0602 => upKite s (fun k => { k with programs := mmod k.programs p.p0 (fun g => { g with unloading := true }) })
    | _ => s
  let s := modOp s o.tag (fun x => { x with volGen := (mget s.med.volumes p.vol).map (fun v => v.gen), stage := afterLock o })
  match lockEntry o with
  | none => s
  | some l =>
    if o.classF && isRead p.opc then
      match coverage s p with
      | some pins =>
        modOp (upTsk s (fun t => { t with fwdHits := wrapInc t.fwdHits })) o.tag (fun x => { x with covered := true, pins })
      | none => admitLock (upTsk s (fun t => { t with fwdFallbacks := wrapInc t.fwdFallbacks })) o l
    else admitLock s o l

/-- Accept a packet: it takes a tag and the next acceptance sequence number, passes checks 1 to 5 and is admitted, or gets the reply
of the check that failed, and nothing else changes (R67, R69, R94, R95). -/
def acceptPacket (s : State) (src : Source) (p : Packet) (tag : Nat) : State :=
  let x := match src with
    | .queue q => (queueAt s q).getD queueZero
    | .footpath => queueZero
  let o : Op := { tag, seq := s.tsk.nextSeq, src, ring := x.ring, pkt := p, classF := x.classF, covered := false, stage := .ready,
                  volGen := none, frags := [], rx := [], rxSeq := 0, rxAt := s.glb.lifetime, tx := [], pins := [], inflated := [], inflateBad := [], moving := false,
                  mirror := none, waitStaging := false, granules := [], ctx := none, reply := none, aborted := false,
                  discard := false, after := none, aux := 0 }
  let checked := checkPacket s p (src == .footpath)
  let s := upTsk (takeTag s) (fun t => { t with
    ops := t.ops ++ [o], nextSeq := t.nextSeq + 1, accepted := wrapInc t.accepted, peak := max t.peak (t.ops.length + 1) })
  let s := match src with
    | .footpath => reApprove (upSec (upGlb s (fun g => { g with fpCommands := wrapInc g.fpCommands })) (fun e => { e with footpathUsed := true }))
    | .queue _ => s
  let s := upPwr s Pwr.busy
  match checked with
  | some r =>
    finish (if r.status = stExhausted then upSec s (fun e => { e with exhausted := satInc e.exhausted }) else s) tag r
  | none => takeIn (powerAccept (roleCheck s src p.opc) p.opc) o

/-- The intake takes packets: not while a dump, a Halt, a Failover or a reset holds it (R163, R424, R425, R452). -/
def intakeOpen (s : State) : Bool :=
  !s.med.dumpActive && !s.med.dumpHeld && !s.flt.halted && !s.glb.resetPending && !s.glb.booting &&
    !s.flt.containing.contains islTask

/-- The HELD packet the intake takes next: latched first among those whose queue is below its limit (R62). -/
def nextHeld (s : State) : Option (Nat × Packet) :=
  s.tsk.held.find? (fun h => match queueAt s h.1 with
    | some x => decide (queueTags s h.1 < x.limit)
    | none => false)

/-- A Footpath command takes a tag and is accepted, where the intake is open (R56, R68). -/
def acceptFootpath (s : State) (p : Packet) : State :=
  if !intakeOpen s then upGlb s (fun g => { g with fpHeld := some p })
  else
    match nextTag s with
    | some t => acceptPacket (upGlb s (fun g => { g with fpHeld := none })) .footpath p t
    | none => upGlb s (fun g => { g with fpHeld := some p })

/-- INTAKE_ACCEPT: the next waiting packet is accepted; one that waits in the Footpath buffer goes first, since R12 leaves the order
open (R56, R62, R67, R69, R94; log entry 32). -/
def execIntakeAccept (s : State) : Out :=
  if !intakeOpen s then .next s
  else
    match s.glb.fpHeld, nextTag s, nextHeld s with
    | some p, some _, _ => .next (acceptFootpath s p)
    | none, some t, some (q, p) =>
      .next (acceptPacket (upTsk s (fun k => { k with held := k.held.filter (fun h => h.1 != q) })) (.queue q) p t)
    | _, _, _ => .next s

/-! ### Range locks (R77 to R79, R94) -/

/-- LOCK_GRANT: a waiting lock with no earlier conflict is granted; a command whose volume has gone meanwhile fails (R77, R94). -/
def execLockGrant (tag : Nat) (s : State) : Out :=
  match findOp s tag, s.tsk.locks.find? (fun l => l.tag == tag && !l.granted) with
  | some o, some l =>
    if o.stage ≠ .waitLock ∨ !grantable s l then .next s
    else if (mget s.med.volumes o.pkt.vol).map (fun v => v.gen) ≠ o.volGen then .next (failEarly s tag (bad 0x0C))
    else
      let s := upTsk s (fun t => { t with locks := t.locks.map (fun m => if m.tag = tag then { m with granted := true } else m) })
      .next (modOp s tag (fun x => { x with stage := afterLock o }))
  | _, _ => .next s

/-- LOCK_ENTRY_FREE: the earliest-accepted command that waits for a table entry takes a free one (R78). -/
def execLockEntryFree (s : State) : Out :=
  if 16384 ≤ s.tsk.locks.length then .next s
  else
    match s.tsk.ops.find? (fun o => o.stage == .waitEntry) with
    | none => .next s
    | some o =>
      match lockEntry o with
      | none => .next s
      | some l => .next (modOp (upTsk s (fun t => { t with locks := t.locks ++ [l] })) o.tag (fun x => { x with stage := .waitLock }))

/-- STAGING_ADMIT: the earliest-accepted waiting write is admitted once staging, and the partner mirror count, have room for it
(R343, R503). -/
def execStagingAdmit (s : State) : Out :=
  match s.tsk.ops.find? (fun o => o.waitStaging) with
  | none => .next s
  | some o =>
    if hasRoom s o.pkt then .next (modOp s o.tag (fun x => { x with waitStaging := false, aux := 1 })) else .next s

/-! ### Check 6 (R92, R94, R96) -/

/-- A list read that has not yet reached its END, and could: with an END descriptor added it would be well formed. -/
def listShort (b : List Byte) : Bool :=
  (parseFrags 4096 b).isNone && (parseFrags 4096 (b.take (b.length / 16 * 16) ++ zeros 8 ++ le 4 1 ++ le 4 1)).isSome

/-- FRAGMENT_LIST_READ: the device reads the whole list; the list and its sum are checked (R92, R96, R502). A SCAN_RUN reads its
parameter block first (R264). -/
def execFragmentListRead (tag : Nat) (host : HostRead) (s : State) : Out :=
  match findOp s tag with
  | none => .next s
  | some o =>
    if o.stage ≠ .waitFrags ∨ !entryUp s ∨ (o.pkt.opc = 0x0603 ∧ o.aux = 0) then .next s
    else
      match host with
      | .error => .next (failEarly s tag (bad 0x18))
      | .data b =>
        if listShort b then .next s
        else
          let s := issue s (.rdShared o.pkt.dptr)
          match parseFrags 4096 b with
          | none => .next (failEarly s tag (bad 0x18))
          | some l =>
            let n := fragSum l
            if n < o.pkt.dlen then
              .next (failEarly s tag { status := stLengthShort, detail := 0, r0 := n, r1 := o.pkt.dlen })
            else if o.pkt.dlen < n then
              .next (failEarly s tag { status := stLengthLong, detail := 0, r0 := n, r1 := o.pkt.dlen })
            else .next (modOp s tag (fun x => { x with frags := l, stage := .ready }))

/-! ### Completion and replies (R48, R54, R67, R71 to R75, R83, R499) -/

/-- No command with this acceptance sequence number still holds its tag. -/
def replyGone (s : State) (after : Option Nat) : Bool :=
  match after with
  | some q => !s.tsk.ops.any (fun o => o.seq == q)
  | none => true

/-- COMMAND_COMPLETE: the final reply is handed to the reply engine (R83). A Footpath ABORT's reply waits for its target's (Table
3.10). -/
def execCommandComplete (tag : Nat) (s : State) : Out :=
  match findOp s tag with
  | none => .next s
  | some o =>
    match o.stage, o.reply with
    | .finished, some r => if fromFootpath o && !replyGone s o.after then .next s else .next (handOver s o r)
    | _, _ => .next s

/-- Send a ring's MSI-X message for its unsignalled entries, unless it is masked (R74). -/
def signal (s : State) (n : Nat) (r : Ring) : State :=
  if r.intMask || r.unsignalled == 0 then s
  else msixSend (upTsk s (fun t => { t with rings := mmod t.rings n (fun r => { r with unsignalled := 0 }) })) r.vector

/-- The ring after one entry: the tail advances and toggles its wrap bit after the last index (R71). -/
def Ring.pushed (r : Ring) : Ring :=
  let last := r.tail + 1 == ringSize r
  { r with tail := if last then 0 else r.tail + 1, tailWrap := r.tailWrap != last, unsignalled := r.unsignalled + 1 }

/-- The ring after one entry at a lifetime, which is the time it became full where it now is (R71, R73). -/
def Ring.written (r : Ring) (now : Nat) : Ring :=
  if ringFull r.pushed then { r.pushed with fullAt := now } else r.pushed

/-- Write one entry at a ring's tail; an entry the host answers with an error counts as written (R71, R74, R499). -/
def writeEntry (s : State) (n : Nat) (r : Ring) (e : Entry) (landed : Bool) : State :=
  let s := if s.hst.mode = 2 then issue s (.wrCur (r.base + 32 * r.tail)) else s
  let s := if landed then { s with hostMem := storeAll s.hostMem (r.base + 32 * r.tail) (entryBytes e (!r.tailWrap)) } else s
  let r' := r.written s.glb.lifetime
  let s := upTsk s (fun t => { t with rings := mset t.rings n r' })
  if r.count ≤ r'.unsignalled then signal s n r' else s

/-- Remove the first element that satisfies a test. -/
def dropFirst {α : Type} (f : α → Bool) (l : List α) : List α :=
  match l with
  | [] => []
  | x :: xs => if f x then xs else x :: dropFirst f xs

/-- Write the next reply of a kind to a ring, where one waits and the ring can take it (R64, R67, R73, R75). -/
def writeReply (s : State) (n : Nat) (src : ReplySrc) (landed : Bool) : Option State :=
  match mget s.tsk.rings n with
  | none => none
  | some r =>
    if !ringActive s n || ringFull r || !entryUp s then none
    else
      match src with
      | .command =>
        match r.waiting.find? (fun w => replyGone s w.after) with
        | none => none
        | some w =>
          let s := writeEntry s n { r with waiting := dropFirst (fun x => x == w) r.waiting } w.entry landed
          some (dropOp s w.tag)
      | .tagless =>
        match s.tsk.overrun.find? (fun x => x.1 == n) with
        | none => none
        | some x => some (writeEntry (upTsk s (fun t => { t with overrun := dropFirst (fun y => y.1 == n) t.overrun })) n r x.2 landed)
      | .event =>
        match s.tsk.events with
        | [] => none
        | e :: rest => if n ≠ 0 then none else some (writeEntry (upTsk s (fun t => { t with events := rest })) n r e landed)

/-- REPLY_WRITE (R48, R67, R71 to R75). -/
def execReplyWrite (ring : Nat) (src : ReplySrc) (s : State) : Out := .next ((writeReply s ring src true).getD s)

/-- REPLY_WRITE_ERROR: the host answers the entry's CXL.cache write with an error or poison (R499). -/
def execReplyWriteError (ring : Nat) (src : ReplySrc) (s : State) : Out :=
  if s.hst.mode ≠ 2 then .next s
  else
    match writeReply s ring src false with
    | none => .next s
    | some t => .next (raiseAt t (unit islHost 3) none (!t.flt.sticky.contains (unit islHost 3)) none)

/-- RING_FULL_NOTICE: the ring has been full for 100 ms with a reply waiting, in the ring's queue or in the overrun buffer (R64, R73). -/
def execRingFullNotice (ring : Nat) (s : State) : Out :=
  match mget s.tsk.rings ring with
  | none => .next s
  | some r =>
    if ring = 0 ∨ !ringFull r ∨ (r.waiting.isEmpty ∧ !s.tsk.overrun.any (fun x => x.1 == ring)) ∨ r.noticed ∨
      s.glb.lifetime < r.fullAt + 100 then .next s
    else
      let s := upTsk s (fun t => { t with rings := mset t.rings ring { r with fullSeen := true, noticed := true } })
      .next (postEvent s stRingFull ring 0 0)

/-- COALESCE_TIMEOUT: the coalescing time has passed since the first unsignalled entry (R74). -/
def execCoalesceTimeout (ring : Nat) (s : State) : Out :=
  match mget s.tsk.rings ring with
  | none => .next s
  | some r => if r.time = 0 then .next s else .next (signal s ring r)

/-- A vector's MSI-X table entry (R501: masked, with address and data zero, where the host has set none). -/
def msixEntry (s : State) (v : Nat) : MsixEntry := mgetD s.hst.msixTable v { addr := 0, data := 0, mask := true }

/-- A 4-byte write of the MSI-X table: words 0 and 1 of an entry are its address, word 2 its data and bit 0 of word 3 its mask (R47). -/
def msixWord (e : MsixEntry) (word v : Nat) : MsixEntry :=
  match word with
  | 0 => { e with addr := e.addr / 2 ^ 32 * 2 ^ 32 + v / 4 * 4 }
  | 1 => { e with addr := e.addr % 2 ^ 32 + v * 2 ^ 32 }
  | 2 => { e with data := v }
  | _ => { e with mask := bit v 0 }

/-- MSIX_UNMASK: the host writes an MSI-X table entry, the function mask or MSI-X Enable, and messages that may now go are sent (R47,
R501). Entry v stands at BAR4 + 0x1_0000 + 16 × v. The host's other writes outside BAR0 and BAR2 stand here too (log entry 72): the
viral enable of the CXL devices DVSEC (R53); RAS mask and severity and the clearing of RAS and AER status (R52); and D0 or D3hot (R29). -/
def execMsixUnmask (w : MsixWrite) (s : State) : Out :=
  if s.hst.mode = 0 ∨ s.hst.ioHeld then .next s
  else
    match w with
    | .entry v addr data mask =>
      if 2048 ≤ v then .next s
      else .next (msixFlush (upHst s (fun h => { h with msixTable := mset h.msixTable v { addr, data, mask } })))
    | .word off v =>
      if off < 0x10000 ∨ 0x18000 ≤ off ∨ off % 4 ≠ 0 then .next s
      else
        let n := (off - 0x10000) / 16
        .next (msixFlush (upHst s (fun h => { h with msixTable := mset h.msixTable n (msixWord (msixEntry s n) (off % 16 / 4) v) })))
    | .functionMask m => .next (msixFlush (upHst s (fun h => { h with msixFmask := m })))
    | .enable e => .next (msixFlush (upHst s (fun h => { h with msixEn := e })))
    | .viral on => .next (upHst s (fun h => { h with viralEn := on }))
    | .rasClear rows => .next (upHst s (fun h => { h with
        ras := h.ras.filter (fun n => !rows.contains n), rasFirst := h.rasFirst.filter (fun x => !rows.contains x.1) }))
    | .aerClear bits => .next (upHst s (fun h => { h with aer := h.aer.filter (fun n => !bits.contains n) }))
    | .rasMask rows => .next (upHst s (fun h => { h with rasMask := (List.range 6).filter rows.contains }))
    | .rasSeverity fatal => .next (upHst s (fun h => { h with rasFatal := (List.range 4).filter fatal.contains }))
    | .powerState d3 => .next (upHst s (fun h => { h with d3hot := d3 }))

end Sys2Proof.Machine
end

