-- ==== Sys2Proof/Machine/Control.lean ====
section
/-! DEFINITION. The control commands: ABORT (R83 to R86) and NOP. -/

namespace Sys2Proof.Machine

open Sys2Proof

/-- Opcodes that can be aborted after acceptance: the Data group, the Engine group and SCAN_RUN (R85). -/
def abortable (opc : Nat) : Bool := opc / 256 == 4 || opc / 256 == 5 || opc == 0x0603

/-- An accepted command that an ABORT's packet names and that is no ABORT (R84). -/
def names (p : Packet) (o : Op) : Bool :=
  srcQueue o.src == p.p1 && o.pkt.opc != 0x0F01 && (if p.p0 = 0 then o.pkt.cookie == p.p2 else o.tag == p.p2)

/-- The HELD packet that an ABORT by queue and cookie names (R84). -/
def namedHeld (s : State) (p : Packet) : Option (Nat × Packet) :=
  if p.p0 = 0 then s.tsk.held.find? (fun h => h.1 == p.p1 && h.2.cookie == p.p2 && h.2.opc != 0x0F01) else none

/-- The commands named, in acceptance order (R69, R84). -/
def namedOps (s : State) (p : Packet) : List Op := rankSort (fun o => o.seq) (s.tsk.ops.filter (names p))

/-- A command is aborted: a SCAN_RUN ends as SCAN_STOP ends it, another one with the effects of Table 3.11 (R86). -/
def abortOp (s : State) (o : Op) : State :=
  modOp (if o.pkt.opc = 0x0603 then stopRun s o.tag { status := stAborted } else finish (abandon s o) o.tag { status := stAborted }) o.tag
    (fun x => { x with aborted := true })

/-- The outcome on an accepted command: one that has completed, that an earlier ABORT has ended, or that cannot be aborted stands; every
other one ends, its reply known or not (Table 3.10). -/
def abortNamed (s : State) (tag : Nat) (o : Op) : State :=
  if o.stage = .completed || o.aborted || !abortable o.pkt.opc || (o.pkt.opc == 0x0603 && (findRun s o.tag).isSome && runDecided s o.tag) then
    finish s tag { status := stTooLate }
  else modOp (finish (abortOp s o) tag (ok 0 0)) tag (fun x => { x with after := some o.seq })

/-- ABORT: an accepted, incomplete command is chosen before a HELD packet, and that before a command whose reply is not yet written
(R84, Table 3.10). It goes on while the power state changes (Table 3.12). -/
def execAbort (tag : Nat) (s : State) : Out :=
  match findOp s tag with
  | none => .next s
  | some a =>
    if a.pkt.opc ≠ 0x0F01 ∨ a.stage ≠ .ready then .next s
    else
      let l := namedOps s a.pkt
      match l.find? (fun o => o.stage != .completed), namedHeld s a.pkt, l.head? with
      | some o, _, _ => .next (abortNamed s tag o)
      | none, some h, _ =>
        let s := upTsk s (fun t => { t with held := t.held.filter (fun x => x != h) })
        .next (finish (tagless s h.1 (((queueAt s h.1).map (fun q => q.ring)).getD 0) stAborted 0 0 h.2) tag (ok 0 0))
      | none, none, some _ => .next (finish s tag { status := stTooLate })
      | none, none, none => .next (finish s tag { status := stNotFound })

/-- NOP: its own acceptance sequence number. -/
def execNop (tag : Nat) (s : State) : Out :=
  match opFor s tag 0x0F02 with
  | none => .next s
  | some o => .next (finish s tag (ok o.seq 0))

end Sys2Proof.Machine
end

