-- ==== Sys2Proof/Machine/Dram.lean ====
section
/-! DEFINITION. The DRAM controllers at work (chapter 07): scheduling (R194 to R196), refresh and its rate (R197 to R199), neighbour
refresh (R200), scrubbing and recovery (R192, R193), and retraining in service (R202). -/

namespace Sys2Proof.Machine

open Sys2Proof

/-- The controllers run: trained, and not in self-refresh or off (R201, Table 7.8). -/
def dramRuns (s : State) : Bool := s.drc.trained && decide (s.pwr.state < 2) && !s.med.dumpHeld && !s.flt.faultN

/-- Ranks on a channel. -/
def rankCount (s : State) : Nat := if s.drc.twoRanks then 2 else 1

/-- A rank 2c + n that is populated. -/
def rankThere (s : State) (rank : Nat) : Bool := decide (rank < 8) && decide (rank % 2 < rankCount s)

/-! ### Recovery from an uncorrectable line (R192, Table 7.6) -/

/-- One of a list, which one being open: the manual does not lay the objects of a region out (log entry 12). -/
def anyOf {α : Type} (s : State) (l : List α) : Option α × State :=
  match l with
  | [] => (none, s)
  | _ => let r := freeBelow s l.length; (l[r.1]?, r.2)

/-- The line holds good data again. -/
def unpoison (s : State) (line : Nat) : State := upDrc s (fun d => { d with poisoned := d.poisoned.filter (· != line) })

/-- A line of the leaf cache: a clean page is discarded; a dirty one is rebuilt as it was (Table 7.6). -/
def loseLeafLine (s : State) : State :=
  let r := anyOf s s.med.leafCache
  match r.1 with
  | some p => if p.dirty then r.2 else dropPage r.2 p.vol p.stretch
  | none => r.2

/-- A line of staging: fetched back from the partner while PAIRED, else the block is lost with a Fatal fault (Table 7.6). -/
def loseStagedLine (s : State) (line : Nat) : State :=
  if mirroring s then s
  else
    let r := anyOf s s.med.staging
    match r.1 with
    | none => r.2
    | some x =>
      raise (upMed r.2 (fun m => { m with staging := m.staging.map (fun y =>
        if y.vol = x.vol ∧ y.lba = x.lba ∧ y.seq = x.seq then { y with lost := true } else y) }))
        (unit (islDram (lineChannel s line)) 5)

/-- A line of stripe accumulation: the accumulator is abandoned and its contributions are requested again (Table 7.6). -/
def loseAccLine (s : State) : State :=
  let r := anyOf s (s.mesh.stripes.filter (fun x => x.hasAcc))
  match r.1 with
  | none => r.2
  | some x =>
    match groupAt r.2 x.group with
    | some g => abandonAcc r.2 g x.num x.accepted
    | none => r.2

/-- A line found uncorrectable, recovered as its region says. Directory, dirty leaf, partner mirror and Waymark shadow lines come back
as they were; working buffers, Kite spill and the Arena keep the poison; a firmware data line causes a Failover reaction, and
whether a firmware line is code or data is open (R192, Table 7.6). -/
def dramRecover (s : State) (line : Nat) : State :=
  match regionIn (partition s) (64 * line) with
  | some (.firmware, _) =>
    let r := freeBelow s 2
    unpoison (dramBad r.2 line (if r.1 = 0 then none else some 3)) line
  | some (.staging, _) => unpoison (loseStagedLine (dramBad s line none) line) line
  | some (.accumulation, _) => unpoison (loseAccLine (dramBad s line none)) line
  | some (.leaf, _) => unpoison (loseLeafLine (dramBad s line none)) line
  | some (.directory, _) => unpoison (dramBad s line none) line
  | some (.mirror, _) => unpoison (dramBad s line none) line
  | some (.shadow, _) => unpoison (dramBad s line none) line
  | some (.working, _) => dramBad s line none
  | some (.spill, _) => dramBad s line none
  | some (.arena, _) => dramBad s line none
  | none => dramBad s line none

/-- What a read of a line finds (R190 to R192). -/
def lineRead (s : State) (line : Nat) (check : LineCheck) : State :=
  match lineVerdict s line check with
  | .clean => s
  | .uncorrectable => dramRecover s line
  | _ => dramCorrected s line check

/-! ### What requests write and read (R194, R195) -/

/-- The Arena address of a line, where it lies in the Arena. -/
def arenaOf (s : State) (line : Nat) : Option Nat :=
  match regionIn (partition s) (64 * line) with
  | some (.arena, off) => some off
  | _ => none

/-- The 64 bytes a line holds: of the Arena its bytes, elsewhere what requests wrote; of a line none has written they are open (log
entry 12). -/
def lineBytes (s : State) (line : Nat) : List Byte × State :=
  match arenaOf s line with
  | some a => (loadZero s.arena a 64, s)
  | none =>
    match mget s.drc.lines line with
    | some b => (b, s)
    | none => freeBytes s 64

/-- A line takes 64 bytes and is good again. -/
def setLine (s : State) (line : Nat) (b : List Byte) : State :=
  let s := unpoison s line
  match arenaOf s line with
  | some a => { s with arena := storeNonzero s.arena a b }
  | none => upDrc s (fun d => { d with lines := mset d.lines line b })

/-- A write reaches the DRAM: of 64 bytes as it is; of fewer as read, correct, merge and write, which leaves a line that is or proves
uncorrectable as it was (R23, R194). A scrub's write-back leaves the line's value (R193). -/
def writeLine (s : State) (line : Nat) (data : List (Option Byte)) (check : LineCheck) : State :=
  if data.isEmpty then s
  else if data.all (fun b => b.isSome) then setLine s line (data.map (fun b => b.getD 0))
  else if s.drc.poisoned.contains line then s
  else
    let s := lineRead s line check
    if lineVerdict s line check = .uncorrectable then s
    else
      let r := lineBytes s line
      setLine r.2 line (mergeBytes ((lineVerdict s line check).deliver r.1) data)

/-- A read returns what the DRAM holds, poisoned where the line is uncorrectable (R192, R195). -/
def readLine (s : State) (line : Nat) (check : LineCheck) : State :=
  let r := lineBytes s line
  let v := lineVerdict s line check
  let bad := s.drc.poisoned.contains line || v == .uncorrectable
  let s := if s.drc.poisoned.contains line then r.2 else lineRead r.2 line check
  upDrc s (fun d => { d with answers := (line, v.deliver r.1, bad) :: d.answers })

/-! ### Scheduling (R194 to R196) -/

/-- A sub-channel with nothing queued and every row closed. -/
def SubChannel.idle : SubChannel := { queue := [], draining := false, banks := [] }

/-- A sub-channel. -/
def subAt (s : State) (sub : Nat) : SubChannel := mgetD s.drc.subs sub SubChannel.idle

/-- Change a sub-channel. -/
def modSub (s : State) (sub : Nat) (f : SubChannel → SubChannel) : State :=
  upDrc s (fun d => { d with subs := mset d.subs sub (f (mgetD d.subs sub SubChannel.idle)) })

/-- A bank of a sub-channel. -/
def SubChannel.bank (c : SubChannel) (b : Nat) : DramBank := mgetD c.banks b { openRow := none, inOrder := none, raa := 0, near := [] }

/-- Change a bank of a sub-channel. -/
def modBank (s : State) (sub b : Nat) (f : DramBank → DramBank) : State :=
  modSub s sub (fun c => { c with banks := mset c.banks b (f (c.bank b)) })

/-- Requests of a bank, oldest first. -/
def bankQueue (s : State) (c : SubChannel) (b : Nat) : List DramReq := c.queue.filter (fun r => lineBank s r.line == b)

/-- A write with a later read of the same line behind it: the first such line (R195). -/
def matched (l : List DramReq) : List Nat :=
  match l with
  | [] => []
  | r :: rest => if r.write && rest.any (fun q => !q.write && q.line == r.line) then r.line :: matched rest else matched rest

/-- A bank goes into in-order mode where a queued read matches an earlier queued write at a line in its open row; the mode lasts until
that write has been issued (R195). -/
def enterInOrder (s : State) (sub b : Nat) : State :=
  let c := subAt s sub
  let k := c.bank b
  if k.inOrder.isSome then s
  else
    match (matched (bankQueue s c b)).find? (fun l => k.openRow == some (lineRow s l)) with
    | none => s
    | some l => upDrc (modBank s sub b (fun k => { k with inOrder := some l })) (fun d => { d with inorder := wrapInc d.inorder })

/-- Writes queued. -/
def writesIn (c : SubChannel) : Nat := (c.queue.filter (fun r => r.write)).length

/-- The drain of writes begins at 48 lines and ends at 16 (R194). -/
def setDrain (c : SubChannel) : SubChannel :=
  { c with draining := if 48 ≤ writesIn c then true else if writesIn c ≤ 16 then false else c.draining }

/-- A read behind an earlier write of its line waits for it (R195). -/
def readWaits (l : List DramReq) (r : DramReq) : Bool :=
  (l.takeWhile (fun q => q != r)).any (fun q => q.write && q.line == r.line)

/-- The first of a list in the open row, else the first (R194). -/
def rowFirst (s : State) (k : DramBank) (l : List DramReq) : Option DramReq :=
  (l.find? (fun r => k.openRow == some (lineRow s r.line))).orElse (fun _ => l.head?)

/-- A bank serves in arrival order: in in-order mode, or after a request of it has been passed 32 times (R195, R196). -/
def strictBank (l : List DramReq) (k : DramBank) : Bool := k.inOrder.isSome || l.any (fun r => decide (32 ≤ r.passed))

/-- The request a bank would serve next, for reads or for writes (R194 to R196). -/
def bankPick (s : State) (c : SubChannel) (writes : Bool) (b : Nat) : Option DramReq :=
  let l := bankQueue s c b
  let k := c.bank b
  if strictBank l k then l.head?
  else if writes then rowFirst s k (l.filter (fun r => r.write))
  else rowFirst s k (l.filter (fun r => !r.write && !readWaits l r))

/-- What the banks of a sub-channel offer: reads, or writes while they drain or where no read can go (R194). -/
def offers (s : State) (c : SubChannel) : List DramReq :=
  let banks := (c.queue.map (fun r => lineBank s r.line)).eraseDups
  let reads := banks.filterMap (bankPick s c false)
  let writes := banks.filterMap (bankPick s c true)
  if c.draining then (if writes.isEmpty then reads else writes)
  else if reads.isEmpty then writes else reads

/-- Remove the first request equal to `r` from a queue; each older one of its bank has been passed once more (R196). -/
def takeReq (s : State) (r : DramReq) (l : List DramReq) : List DramReq :=
  match l with
  | [] => []
  | q :: rest =>
    if q = r then rest
    else (if lineBank s q.line = lineBank s r.line then { q with passed := q.passed + 1 } else q) :: takeReq s r rest

/-! ### Activates, refresh management and neighbour refresh (R197, R200) -/

/-- One activate to a row of a bank: it is counted in the bank's rolling counter, and a counter that reaches RAAIMT has a refresh
management command issued at once, which takes RAAIMT from it. Devices without RFM report thresholds of zero (R197, Table 19.20; log
entry 66). -/
def actRow (s : State) (sub b row : Nat) : State :=
  let n := ((subAt s sub).bank b).raa + 1
  let imt := s.drc.raaImt
  let due := imt != 0 && decide (imt ≤ n)
  let s := modBank s sub b (fun k => { k with raa := if imt = 0 then 0 else if due then n - imt else n })
  upDrc s (fun d => { d with
    acts := (sub, b, row) :: d.acts,
    rfms := if due then mset d.rfms (64 * sub + b) (mgetD d.rfms (64 * sub + b) 0 + 1) else d.rfms })

/-- The neighbours of a row that exist: r ± 1, and r ± 2 where the profile asks for it, next to one another under the row scramble (R200,
Table 19.20). -/
def neighbours (s : State) (row : Nat) : List Nat :=
  let p := row ^^^ s.drc.rowXor
  let near := (if 1 ≤ p then [p - 1] else []) ++ [p + 1]
  let far := if s.drc.nrFar then (if 2 ≤ p then [p - 2] else []) ++ [p + 2] else []
  ((near ++ far).map (· ^^^ s.drc.rowXor)).filter (fun r => decide (r < rowCount s))

/-- The neighbour activates a bank owes: activated and precharged in turn, not sampled, and counted (R200). -/
def actNear (s : State) (sub b : Nat) : State :=
  let l := ((subAt s sub).bank b).near
  let s := l.foldl (fun s r => actRow s sub b r) (modBank s sub b (fun k => { k with near := [] }))
  upDrc s (fun d => { d with nrCount := (d.nrCount + l.length) % 2 ^ 32 })

/-- A bank's open row is closed; the neighbour activates it owes follow. -/
def closeRow (s : State) (sub b : Nat) : State := actNear (modBank s sub b (fun k => { k with openRow := none })) sub b

/-- An activate to a row, after the neighbour activates the bank owes. It is sampled when the low k bits of the channel's generator are
zero, and its neighbours then go before any other activate to the bank (R200). How the generator goes on from one sample to the next is
open, so it takes a free value (log entry 5). -/
def activate (s : State) (sub b row : Nat) : State :=
  let s := actRow (closeRow s sub b) sub b row
  let ch := sub / 2
  let hit := mgetD s.drc.gen ch 0 % 2 ^ feature s 7 == 0
  let r := freeBelow s (2 ^ 32)
  let s := upDrc r.2 (fun d => { d with gen := mset d.gen ch r.1 })
  modBank s sub b (fun k => { k with openRow := some row, near := if hit then neighbours s row else [] })

/-- A request is issued: its row is opened, and closed at once where the idle timer is 0; the write that a bank in in-order mode waits for
ends the mode (R194, R195). -/
def issueReq (s : State) (sub : Nat) (r : DramReq) : State :=
  let b := lineBank s r.line
  let row := lineRow s r.line
  let s := modSub s sub (fun c => setDrain { c with queue := takeReq s r c.queue })
  let s := if ((subAt s sub).bank b).openRow = some row then s else activate s sub b row
  let s := if feature s 6 = 0 then closeRow s sub b else s
  let left := matched (bankQueue s (subAt s sub) b)
  let s := modBank s sub b (fun k => { k with inOrder := k.inOrder.filter (fun l => !(r.write && r.line == l) || left.contains l) })
  enterInOrder s sub b

/-- DRAM_REQUEST. A request that arrives takes one of 64 places of its queue. The next one served is chosen under R194 to R196; which bank
of several goes first is open, so it is a free value (log entry 40). A channel in full retrain serves none (R202). -/
def execDramRequest (r : DramOp) (s : State) : Out :=
  if !dramRuns s then .next s
  else
    match r with
    | .arrive sub line write data =>
      let c := subAt s sub
      if dramLines s ≤ line ∨ lineSub s line ≠ sub ∨ (write ∧ data.length ≠ 64) ∨
          64 ≤ (c.queue.filter (fun q => q.write == write)).length then .next s
      else
        let q : DramReq := { line, write, data := if write then data else [], passed := 0 }
        let s := modSub s sub (fun c => setDrain { c with queue := c.queue ++ [q] })
        .next (enterInOrder s sub (lineBank s line))
    | .serve sub check =>
      if 8 ≤ sub ∨ s.drc.retraining.contains (sub / 2) then .next s
      else
        let x := anyOf s (offers s (subAt s sub))
        match x.1 with
        | none => .next s
        | some q =>
          let s := issueReq x.2 sub q
          .next (if q.write then writeLine s q.line q.data check else readLine s q.line check)

/-- ROW_IDLE_TIMEOUT: the bank's open row closes where no request for it is queued (R194). -/
def execRowIdleTimeout (sub bank : Nat) (s : State) : Out :=
  let c := subAt s sub
  let k := c.bank bank
  if (bankQueue s c bank).any (fun r => k.openRow == some (lineRow s r.line)) || k.openRow.isNone then .next s
  else .next (closeRow s sub bank)

/-- NR_RESEED: the channel's generator takes a value of the entropy source (R200). -/
def execNrReseed (channel : Nat) (s : State) : Out :=
  if 4 ≤ channel then .next s
  else
    let r := freeBelow s (2 ^ 32)
    .next (upDrc r.2 (fun d => { d with gen := mset d.gen channel r.1 }))

/-! ### Refresh (R197 to R199) -/

/-- Refreshes that a rank owes. -/
def owedOf (s : State) (rank : Nat) : Nat := mgetD s.drc.owed rank 0

/-- The banks of a sub-channel that a rank's refresh reaches. -/
def rankBanks (s : State) (sub rank : Nat) : List Nat := ((subAt s sub).banks.map (·.1)).filter (fun b => b / 32 == rank % 2)

/-- `n` refreshes reach a bank: its row is closed and its activate counter falls by RAAIMT for each; the neighbour activates it owes follow
them (R197, Table 7.8). -/
def refreshBank (s : State) (sub b n : Nat) : State :=
  closeRow (modBank s sub b (fun k => { k with raa := k.raa - n * s.drc.raaImt })) sub b

/-- `n` refreshes of a rank are issued (R197). -/
def refresh (s : State) (rank n : Nat) : State :=
  let close := fun (s : State) (sub : Nat) => (rankBanks s sub rank).foldl (fun s b => refreshBank s sub b n) s
  let s := if n = 0 then s else [2 * (rank / 2), 2 * (rank / 2) + 1].foldl close s
  upDrc s (fun d => { d with issued := mset d.issued rank (mgetD d.issued rank 0 + n) })

/-- The channel's queues hold a request for the rank. -/
def rankBusy (s : State) (rank : Nat) : Bool :=
  [2 * (rank / 2), 2 * (rank / 2) + 1].any (fun u => (subAt s u).queue.any (fun r => lineRank s r.line == rank % 2))

/-- REFRESH_DUE: postponed at 1× while the rank's banks are busy and fewer than 4 are owed after those that must go first; else issued
with every one owed (R197). -/
def execRefreshDue (rank : Nat) (postpone : Bool) (s : State) : Out :=
  if !dramRuns s || !rankThere s rank then .next s
  else
    let n := owedOf s rank
    if postpone && rankBusy s rank && !s.drc.rate2x.contains rank then
      let s := if n = 4 then upDrc (refresh s rank 4) (fun d => { d with owed := mset d.owed rank 0 }) else s
      .next (upDrc s (fun d => { d with owed := mset d.owed rank (owedOf s rank + 1) }))
    else .next (upDrc (refresh s rank (n + 1)) (fun d => { d with owed := mset d.owed rank 0 }))

/-- What an MR4 refresh-rate field calls for: 0 1×, 1 2×, 2 above the device's range. The values are those of JESD79-5, which the manual
cites and does not print (PRESUMED, log entry 41). -/
def mr4Calls (field : Nat) : Nat := if field % 8 ≤ 2 then 0 else if field % 8 ≤ 4 then 1 else 2

/-- A rank goes to 2×; refreshes owed are issued at once and the crossing is counted (R198, R199). -/
def goTwice (s : State) (rank : Nat) : State :=
  if s.drc.rate2x.contains rank then s
  else
    let n := owedOf s rank
    let s := upDrc s (fun d => { d with
      rate2x := linsert d.rate2x rank, owed := mset d.owed rank 0,
      crossings := if n = 0 then d.crossings else satIncW 16 d.crossings, maxOwed := max d.maxOwed n })
    refresh s rank n

/-- A rank at 2× returns to 1× after two consecutive reads that call for it (R198). -/
def goOnce (s : State) (rank : Nat) : State :=
  if !s.drc.rate2x.contains rank then s
  else if mgetD s.drc.calls1x rank 0 = 0 then upDrc s (fun d => { d with calls1x := mset d.calls1x rank 1 })
  else upDrc s (fun d => { d with rate2x := d.rate2x.filter (· != rank), calls1x := mset d.calls1x rank 0 })

/-- A rank of the channel reported above its range at its last MR4 read (R198). -/
def channelHot (s : State) (ch : Nat) : Bool :=
  [2 * ch, 2 * ch + 1].any (fun r => rankThere s r && mr4Calls (mgetD s.drc.temp r 0) == 2)

/-- MR4_POLL (R198, R199). -/
def execMr4Poll (rank field : Nat) (s : State) : Out :=
  if !dramRuns s || !rankThere s rank then .next s
  else
    let ch := rank / 2
    let s := upDrc s (fun d => { d with temp := mset d.temp rank (field % 16) })
    let s := if mr4Calls field = 0 then goOnce s rank
      else goTwice (upDrc s (fun d => { d with calls1x := mset d.calls1x rank 0 })) rank
    if channelHot s ch then
      if s.drc.throttled.contains ch then .next s
      else .next (raise (upDrc s (fun d => { d with throttled := linsert d.throttled ch })) (unit (islDram ch) 3))
    else .next (upDrc s (fun d => { d with throttled := d.throttled.filter (· != ch) }))

/-! ### Scrubbing and retraining (R193, R202) -/

/-- The channel of a line is in full retrain, and requests for it wait (R202). -/
def lineWaits (s : State) (line : Nat) : Bool := s.drc.retraining.contains (lineChannel s line)

/-- A corrected line is written back, unless a write to it is queued (R193). -/
def writeBack (s : State) (line : Nat) : State :=
  let sub := lineSub s line
  if (subAt s sub).queue.any (fun r => r.write && r.line == line) then s
  else
    let q : DramReq := { line, write := true, data := [], passed := 0 }
    enterInOrder (modSub s sub (fun c => setDrain { c with queue := c.queue ++ [q] })) sub (lineBank s line)

/-- SCRUB: the next line is read, and a corrected one is written back; the last line ends a pass (R193). The read waits while the channel
retrains, and while a correction would find the write queue full (R194, R202). -/
def execScrub (line : Nat) (check : LineCheck) (s : State) : Out :=
  let fix := (lineVerdict s line check).isCorrected
  if !dramRuns s || line != s.drc.scrubLine || decide (dramLines s ≤ line) || lineWaits s line ||
      (fix && decide (64 ≤ writesIn (subAt s (lineSub s line)))) then .next s
  else
    let s := lineRead s line check
    let s := if fix then writeBack s line else s
    .next (upDrc s (fun d => { d with
      scrubLine := if line + 1 = dramLines s then 0 else line + 1,
      scrubPasses := if line + 1 = dramLines s then wrapInc d.scrubPasses else d.scrubPasses }))

/-- DQS_RETRACK: the write DQ delays of a rank are adjusted where the oscillator has moved (R202). -/
def execDqsRetrack (rank : Nat) (moved : Bool) (s : State) : Out :=
  if !dramRuns s || !rankThere s rank || !moved then .next s
  else .next (upDrc s (fun d => { d with retracks := mset d.retracks rank (mgetD d.retracks rank 0 + 1) }))

/-- DRAM_FULL_RETRAIN: one channel at a time goes offline, in the plan's window once the device has been idle for 2 ms, or in a forced
window; its second occurrence ends the retrain, which clears the mark of each sub-channel rank whose marked device it found clean:
`clean` lists those ranks, 4 × channel + 2 × sub-channel + rank (R191, R202). -/
def execDramFullRetrain (channel : Nat) (clean : List Nat) (s : State) : Out :=
  if !dramRuns s || decide (4 ≤ channel) then .next s
  else if s.drc.retraining.contains channel then
    .next (upDrc s (fun d => { d with
      retraining := [], lastRetrain := mset d.lastRetrain channel s.glb.lifetime,
      marks := d.marks.filter (fun m => !(m.1 / 4 == channel && clean.contains m.1)) }))
  else if s.drc.retraining.isEmpty && ((inRetrainWindow s && idleFor s 2) || retrainForced s channel) then
    .next (upDrc s (fun d => { d with retraining := [channel] }))
  else .next s

end Sys2Proof.Machine
end

