-- ==== Sys2Proof/Machine/Footpath.lean ====
section
/-! DEFINITION. The Footpath port: its packets, NAKs, rate changes and data chunks (R98, R468 to R474). -/

namespace Sys2Proof.Machine

open Sys2Proof

/-- The port takes a packet: FP_RDY_OUT is asserted and the island behind it has power (R425, R470, Table 6.4). -/
def fpListens (s : State) : Bool := rdyOut s && s.glb.poweredOn && !s.med.dumpHeld && !s.flt.halted

/-- A packet waits for FP_RDY_IN and goes out (R470). -/
def fpSend (s : State) (p : FpPacket) : State := fpPump (upGlb s (fun g => { g with fpOut := g.fpOut ++ [p] }))

/-- A received packet is discarded with a NAK (R471, Table 19.9). -/
def fpNak (s : State) (reason expect : Nat) : State :=
  fpSend (upGlb s (fun g => { g with fpNaksSent := satInc g.fpNaksSent })) (.nak reason expect)

/-- Why a packet is discarded: a body length outside its KIND's range, a CRC that fails, or the lock (R471, R474). -/
def fpDiscard (s : State) (lenOk crcOk : Bool) : Option Nat :=
  if !lenOk then some 2 else if !crcOk then some 1 else if s.glb.fpLock then some 5 else none

/-- A packet that is not discarded marks the port active (Table 19.16). -/
def fpSeen (s : State) : State := upGlb s (fun g => { g with fpActive := true, fpAt := g.lifetime })

/-- Bytes that come in before FP_RDY_OUT is asserted again, while the packet buffer still holds a COMMAND: that packet is discarded with NAK
2 (R471; DEDUCED, log entry 90). -/
def fpOverrun (s : State) : State :=
  if s.glb.fpHeld.isSome && s.glb.poweredOn && decide (s.pwr.state < 2) && !s.med.dumpHeld && !s.flt.halted then
    fpNak (upGlb s (fun g => { g with fpHeld := none })) 2 0
  else s

/-- A command that still awaits data chunks; they may come before its lock is granted (R98). -/
def awaitsData (o : Op) : Bool :=
  fromFootpath o && takesData o.pkt.opc && chunkNeed o.pkt != 0 && !o.rxLast &&
    (o.stage == .waitData || o.stage == .waitLock || o.stage == .waitEntry)

/-- The accepted command that awaits data chunks (R472). -/
def fpAwaiting (s : State) : Option Op := s.tsk.ops.find? awaitsData

/-- A command's data came in with the wrong length (R98). -/
def fpWrongLength (s : State) (o : Op) (status : Nat) : State :=
  failEarly s o.tag { status, detail := 1, r0 := o.rx.length, r1 := chunkNeed o.pkt }

/-- The command that awaits data ends with LENGTH_SHORT: at a new COMMAND, a break or the 1 s limit (R98, R468, R472). -/
def fpCut (s : State) : State :=
  match fpAwaiting s with
  | some o => fpWrongLength s o stLengthShort
  | none => s

/-- FOOTPATH_COMMAND: a COMMAND packet ends a command that still awaits data, and is accepted; a wrong CHK is answered with
CRC_MISMATCH (R68, R471, R472, R474). -/
def execFootpathCommand (bytes : List Byte) (crc : Nat) (s : State) : Out :=
  if !fpListens s then .next (fpOverrun s)
  else
    match fpDiscard s (bytes.length == 64) (crc == fpCrc 1 bytes) with
    | some r => .next (fpNak s r 0)
    | none =>
      let s := fpCut (fpSeen s)
      let p := parsePacket bytes
      if chkOk bytes then .next (acceptFootpath s p)
      else
        .next (fpSend s (.reply none (entryBytes { cookie := p.cookie, qid := 0, status := stCrc, detail := 0, tag := 0xFFFF, r0 := 0, r1 := 0 } false)))

/-- A chunk is taken by the command that awaits it: too many bytes end it at once, the chunk marked LAST completes it or leaves it
short (R98). -/
def fpTake (s : State) (o : Op) (last : Bool) (data : List Byte) : State :=
  let o' := { o with rx := o.rx ++ data, rxSeq := (o.rxSeq + 1) % 65536, rxAt := s.glb.lifetime }
  let s := modOp s o.tag (fun _ => o')
  if chunkNeed o.pkt < o'.rx.length then fpWrongLength s o' stLengthLong
  else if !last then s
  else if o'.rx.length < chunkNeed o.pkt then fpWrongLength s o' stLengthShort
  else modOp s o.tag (fun x => { x with rxLast := true, stage := if o.stage = .waitData then .ready else o.stage })

/-- FOOTPATH_DATA: the body is a chunk header and 1 to 1,024 bytes, taken in SEQ order (R98, R471, R472). -/
def execFootpathData (bytes : List Byte) (crc : Nat) (s : State) : Out :=
  if !fpListens s then .next (fpOverrun s)
  else
    match fpDiscard s (decide (5 ≤ bytes.length) && decide (bytes.length ≤ 1028)) (crc == fpCrc 3 bytes) with
    | some r => .next (fpNak s r 0)
    | none =>
      match fpAwaiting s with
      | none => .next (fpNak s 4 0)
      | some o =>
        if num bytes 2 2 ≠ o.rxSeq then .next (fpNak s 4 o.rxSeq)
        else .next (fpTake (fpSeen s) o (bit (num bytes 0 2) 0) (bytes.drop 4))

/-- FOOTPATH_NAK: the last packet sent goes out again; the third NAK in succession for it drops it (R471). A NAK of the wrong length or CRC
is discarded as any packet is. -/
def execFootpathNak (bytes : List Byte) (crc : Nat) (s : State) : Out :=
  if !fpListens s then .next (fpOverrun s)
  else if bytes.length ≠ 4 then .next (fpNak s 2 0)
  else if crc ≠ fpCrc 4 bytes then .next (fpNak s 1 0)
  else
    let s := upGlb (fpSeen s) (fun g => { g with fpNaksReceived := satInc g.fpNaksReceived })
    match s.glb.fpSent with
    | [] => .next s
    | p :: _ =>
      if 2 ≤ s.glb.fpNaks then .next (upGlb s (fun g => { g with fpNaks := 0, fpDropped := satInc g.fpDropped }))
      else
        let again := match p with
          | .reply _ b => FpPacket.reply none b
          | q => q
        .next (upGlb s (fun g => { g with
          fpNaks := g.fpNaks + 1,
          fpSent := if s.pwr.fpRdyIn then again :: g.fpSent else g.fpSent,
          fpOut := if s.pwr.fpRdyIn then g.fpOut else again :: g.fpOut }))

/-- FOOTPATH_BAUD: a rate from 25 / 1 to 25 / 25 Mbaud is echoed at the old rate, and both ends change (R473). -/
def execFootpathBaud (bytes : List Byte) (crc : Nat) (s : State) : Out :=
  if !fpListens s then .next (fpOverrun s)
  else
    match fpDiscard s (bytes.length == 4) (crc == fpCrc 5 bytes) with
    | some r => .next (fpNak s r 0)
    | none =>
      let n := num bytes 0 4
      if n = 0 ∨ 25 < n then .next s else .next (fpSend (fpSeen s) (.baud n))

/-- FOOTPATH_BREAK: any packet in progress is discarded without a NAK, the command that awaits data ends, and the rate returns to 1
Mbaud (R98, R468, Table 19.11). -/
def execFootpathBreak (s : State) : Out :=
  if !s.glb.poweredOn || s.pwr.state == 3 || s.med.dumpHeld || s.flt.halted then .next s
  else .next (upGlb (fpCut s) (fun g => { g with baudN := 25 }))

/-- PACKET_IDLE_TIMEOUT: the line has been idle for 32 bit times before a packet's end (R471). -/
def execPacketIdleTimeout (s : State) : Out := if fpListens s then .next (fpNak s 2 0) else .next s

/-- DATA_CHUNK_TIMEOUT: 1 s has passed since its acceptance or latest chunk for the command that awaits data (R98). -/
def execDataChunkTimeout (s : State) : Out :=
  match fpAwaiting s with
  | some o => if s.glb.lifetime < o.rxAt + 1000 then .next s else .next (fpCut s)
  | none => .next s

/-- FOOTPATH_BAD_KIND: any KIND the device does not take is answered with NAK 3 (R469). -/
def execFootpathBadKind (kind : Nat) (s : State) : Out :=
  if kind == 1 || kind == 3 || kind == 4 || kind == 5 then .next s
  else if !fpListens s then .next (fpOverrun s)
  else .next (fpNak s 3 0)

end Sys2Proof.Machine
end

