-- ==== Sys2Proof/Machine/Kite.lean ====
section
/-! DEFINITION. The Kite instructions (chapter 09): each acts when a core executes and the word at its pc is that instruction. -/

namespace Sys2Proof.Machine

open Sys2Proof

/-- The instruction at a core's pc, if it is `op`, ends as `f` says. -/
def kiteOp (core : CoreId) (op : KOp) (s : State) (f : Instance → KRes) : Out :=
  kiteRun core s (fun i k _ => if k = op then some (f i) else none)

/-! ### Class 0b00 (R236, Table 9.7) -/

/-- ADD (R236). -/
def execKAdd (core : CoreId) (a b : Reg) (s : State) : Out :=
  kiteOp core (.alu .add a b) s (fun i => runAlu s i .add a b)

/-- SUB (R236). -/
def execKSub (core : CoreId) (a b : Reg) (s : State) : Out :=
  kiteOp core (.alu .sub a b) s (fun i => runAlu s i .sub a b)

/-- ADC (R236). -/
def execKAdc (core : CoreId) (a b : Reg) (s : State) : Out :=
  kiteOp core (.alu .adc a b) s (fun i => runAlu s i .adc a b)

/-- SBC (R236). -/
def execKSbc (core : CoreId) (a b : Reg) (s : State) : Out :=
  kiteOp core (.alu .sbc a b) s (fun i => runAlu s i .sbc a b)

/-- AND (R236). -/
def execKAnd (core : CoreId) (a b : Reg) (s : State) : Out :=
  kiteOp core (.alu .and a b) s (fun i => runAlu s i .and a b)

/-- OR (R236). -/
def execKOr (core : CoreId) (a b : Reg) (s : State) : Out :=
  kiteOp core (.alu .or a b) s (fun i => runAlu s i .or a b)

/-- XOR (R236). -/
def execKXor (core : CoreId) (a b : Reg) (s : State) : Out :=
  kiteOp core (.alu .xor a b) s (fun i => runAlu s i .xor a b)

/-- MOV (R236). -/
def execKMov (core : CoreId) (a b : Reg) (s : State) : Out :=
  kiteOp core (.alu .mov a b) s (fun i => runAlu s i .mov a b)

/-- CMP (R236). -/
def execKCmp (core : CoreId) (a b : Reg) (s : State) : Out :=
  kiteOp core (.alu .cmp a b) s (fun i => runAlu s i .cmp a b)

/-- TST (R236). -/
def execKTst (core : CoreId) (a b : Reg) (s : State) : Out :=
  kiteOp core (.alu .tst a b) s (fun i => runAlu s i .tst a b)

/-- SHL (R236). -/
def execKShl (core : CoreId) (a b : Reg) (s : State) : Out :=
  kiteOp core (.alu .shl a b) s (fun i => runAlu s i .shl a b)

/-- SHR (R236). -/
def execKShr (core : CoreId) (a b : Reg) (s : State) : Out :=
  kiteOp core (.alu .shr a b) s (fun i => runAlu s i .shr a b)

/-- SAR (R236). -/
def execKSar (core : CoreId) (a b : Reg) (s : State) : Out :=
  kiteOp core (.alu .sar a b) s (fun i => runAlu s i .sar a b)

/-- ROL (R236). -/
def execKRol (core : CoreId) (a b : Reg) (s : State) : Out :=
  kiteOp core (.alu .rol a b) s (fun i => runAlu s i .rol a b)

/-- MUL (R236). -/
def execKMul (core : CoreId) (a b : Reg) (s : State) : Out :=
  kiteOp core (.alu .mul a b) s (fun i => runAlu s i .mul a b)

/-- MULH (R236). -/
def execKMulh (core : CoreId) (a b : Reg) (s : State) : Out :=
  kiteOp core (.alu .mulh a b) s (fun i => runAlu s i .mulh a b)

/-! ### Class 0b01 (R234, R237, Table 9.8) -/

/-- ADDI with its EXT words (R234, R237). -/
def execKAddi (core : CoreId) (exts : List Nat) (a : Reg) (imm : Nat) (s : State) : Out :=
  kiteOp core (.imm .addi exts a imm) s (fun i => runImm s i .addi exts a imm)

/-- CMPI with its EXT words (R234, R237). -/
def execKCmpi (core : CoreId) (exts : List Nat) (a : Reg) (imm : Nat) (s : State) : Out :=
  kiteOp core (.imm .cmpi exts a imm) s (fun i => runImm s i .cmpi exts a imm)

/-- MOVI with its EXT words (R234, R237). -/
def execKMovi (core : CoreId) (exts : List Nat) (a : Reg) (imm : Nat) (s : State) : Out :=
  kiteOp core (.imm .movi exts a imm) s (fun i => runImm s i .movi exts a imm)

/-! ### Branches (R238, Table 9.9) -/

/-- BEQ (R238). -/
def execKBeq (core : CoreId) (off : Nat) (s : State) : Out :=
  kiteOp core (.br .eq off) s (fun i => runBranch s i .eq off)

/-- BNE (R238). -/
def execKBne (core : CoreId) (off : Nat) (s : State) : Out :=
  kiteOp core (.br .ne off) s (fun i => runBranch s i .ne off)

/-- BCS (R238). -/
def execKBcs (core : CoreId) (off : Nat) (s : State) : Out :=
  kiteOp core (.br .cs off) s (fun i => runBranch s i .cs off)

/-- BCC (R238). -/
def execKBcc (core : CoreId) (off : Nat) (s : State) : Out :=
  kiteOp core (.br .cc off) s (fun i => runBranch s i .cc off)

/-- BMI (R238). -/
def execKBmi (core : CoreId) (off : Nat) (s : State) : Out :=
  kiteOp core (.br .mi off) s (fun i => runBranch s i .mi off)

/-- BPL (R238). -/
def execKBpl (core : CoreId) (off : Nat) (s : State) : Out :=
  kiteOp core (.br .pl off) s (fun i => runBranch s i .pl off)

/-- BMS (R238). -/
def execKBms (core : CoreId) (off : Nat) (s : State) : Out :=
  kiteOp core (.br .ms off) s (fun i => runBranch s i .ms off)

/-- BMC (R238). -/
def execKBmc (core : CoreId) (off : Nat) (s : State) : Out :=
  kiteOp core (.br .mc off) s (fun i => runBranch s i .mc off)

/-- BHI (R238). -/
def execKBhi (core : CoreId) (off : Nat) (s : State) : Out :=
  kiteOp core (.br .hi off) s (fun i => runBranch s i .hi off)

/-- BLS (R238). -/
def execKBls (core : CoreId) (off : Nat) (s : State) : Out :=
  kiteOp core (.br .ls off) s (fun i => runBranch s i .ls off)

/-- BGE (R238). -/
def execKBge (core : CoreId) (off : Nat) (s : State) : Out :=
  kiteOp core (.br .ge off) s (fun i => runBranch s i .ge off)

/-- BLT (R238). -/
def execKBlt (core : CoreId) (off : Nat) (s : State) : Out :=
  kiteOp core (.br .lt off) s (fun i => runBranch s i .lt off)

/-- BGT (R238). -/
def execKBgt (core : CoreId) (off : Nat) (s : State) : Out :=
  kiteOp core (.br .gt off) s (fun i => runBranch s i .gt off)

/-- BLE (R238). -/
def execKBle (core : CoreId) (off : Nat) (s : State) : Out :=
  kiteOp core (.br .le off) s (fun i => runBranch s i .le off)

/-- BAL (R238). -/
def execKBal (core : CoreId) (off : Nat) (s : State) : Out :=
  kiteOp core (.br .al off) s (fun i => runBranch s i .al off)

/-- BVS (R238). -/
def execKBvs (core : CoreId) (off : Nat) (s : State) : Out :=
  kiteOp core (.br .vs off) s (fun i => runBranch s i .vs off)

/-! ### Loads, stores and ports (R239, R240) -/

/-- LD (R228, R239). -/
def execKLd (core : CoreId) (a b : Reg) (check : LineCheck) (s : State) : Out :=
  kiteOp core (.mem .ld a b) s (fun i => runLoad s i .ld a b check)

/-- ST (R228, R239). -/
def execKSt (core : CoreId) (a b : Reg) (check : LineCheck) (s : State) : Out :=
  kiteOp core (.mem .st a b) s (fun i => runStore s i .st a b check)

/-- LDB (R228, R239). -/
def execKLdb (core : CoreId) (a b : Reg) (check : LineCheck) (s : State) : Out :=
  kiteOp core (.mem .ldb a b) s (fun i => runLoad s i .ldb a b check)

/-- STB (R228, R239). -/
def execKStb (core : CoreId) (a b : Reg) (check : LineCheck) (s : State) : Out :=
  kiteOp core (.mem .stb a b) s (fun i => runStore s i .stb a b check)

/-- IN (R240). -/
def execKIn (core : CoreId) (a b : Reg) (check : LineCheck) (s : State) : Out :=
  kiteOp core (.mem .inp a b) s (fun i => runIn s i core.val a b check)

/-- OUT (R240). -/
def execKOut (core : CoreId) (a b : Reg) (s : State) : Out :=
  kiteOp core (.mem .outp a b) s (fun i => runOut s i a b)

/-- An IN from, or an OUT to, one port; the register that names the port decides whether it is that access. -/
def kitePort (core : CoreId) (op : MemOp) (a b : Reg) (port : Nat → Bool) (s : State) (f : Instance → KRes) : Out :=
  kiteRun core s (fun i k _ => if k = .mem op a b ∧ port (i.regs.get b).toNat then some (f i) else none)

/-- SCAN_DATA: an IN from port 0x000 (R209, R210). -/
def execScanData (core : CoreId) (a b : Reg) (check : LineCheck) (s : State) : Out :=
  kitePort core .inp a b (· == 0x000) s (fun i => runIn s i core.val a b check)

/-- SCAN_RELEASE: an OUT to port 0x003 (R209, R210). -/
def execScanRelease (core : CoreId) (a b : Reg) (s : State) : Out :=
  kitePort core .outp a b (· == 0x003) s (fun i => runOut s i a b)

/-- EV_CLEAR: an OUT to port 0x401 (R220). -/
def execEvClear (core : CoreId) (a b : Reg) (s : State) : Out :=
  kitePort core .outp a b (· == 0x401) s (fun i => runOut s i a b)

/-- TIMER0 and TIMER1: an OUT to port 0x410 or 0x411 (R222). -/
def execTimerLoad (core : CoreId) (a b : Reg) (s : State) : Out :=
  kitePort core .outp a b (fun p => p == 0x410 || p == 0x411) s (fun i => runOut s i a b)

/-- MBOX_RECV: an IN from port 0x420 (R222). -/
def execMboxRecv (core : CoreId) (a b : Reg) (s : State) : Out :=
  kitePort core .inp a b (· == 0x420) s (fun i => runIn s i core.val a b [])

/-- MBOX_SEND: an OUT to port 0x422 (R222, R269). -/
def execMboxSend (core : CoreId) (a b : Reg) (s : State) : Out :=
  kitePort core .outp a b (· == 0x422) s (fun i => runOut s i a b)

/-- WM_GO: an OUT to port 0x110 (R255). -/
def execWmGo (core : CoreId) (a b : Reg) (s : State) : Out :=
  kitePort core .outp a b (· == 0x110) s (fun i => runOut s i a b)

/-- DG_OPEN: an OUT to port 0x200 (R256). -/
def execDgOpen (core : CoreId) (a b : Reg) (s : State) : Out :=
  kitePort core .outp a b (· == 0x200) s (fun i => runOut s i a b)

/-- DG_FEED: an OUT to port 0x202 (R256). -/
def execDgFeed (core : CoreId) (a b : Reg) (s : State) : Out :=
  kitePort core .outp a b (· == 0x202) s (fun i => runOut s i a b)

/-- DG_FINAL: an OUT to port 0x203 (R256). -/
def execDgFinal (core : CoreId) (a b : Reg) (s : State) : Out :=
  kitePort core .outp a b (· == 0x203) s (fun i => runOut s i a b)

/-- CP_GO: an OUT to port 0x305 (R257). -/
def execCpGo (core : CoreId) (a b : Reg) (s : State) : Out :=
  kitePort core .outp a b (· == 0x305) s (fun i => runOut s i a b)

/-- DMA_PUT: an OUT to port 0x504 (R258). -/
def execDmaPut (core : CoreId) (a b : Reg) (s : State) : Out :=
  kitePort core .outp a b (· == 0x504) s (fun i => runOut s i a b)

/-- DMA_APPEND: an OUT to port 0x505 (R258, R270). -/
def execDmaAppend (core : CoreId) (a b : Reg) (s : State) : Out :=
  kitePort core .outp a b (· == 0x505) s (fun i => runOut s i a b)

/-! ### Transfers, string operations and the system (R239 to R249) -/

/-- JMP (R239). -/
def execKJmp (core : CoreId) (a : Reg) (s : State) : Out :=
  kiteOp core (.jmp a) s (fun i => .ends { s, regs := i.regs, jump := some ((i.regs.get a).toNat % 16384), cost := 2 })

/-- CALL: the target is read before lk is written (R239). -/
def execKCall (core : CoreId) (a : Reg) (s : State) : Out :=
  kiteOp core (.call a) s (fun i =>
    .ends { s, regs := i.regs.put rLk (word ((i.regs.pc + 1) % 16384)), jump := some ((i.regs.get a).toNat % 16384), cost := 2 })

/-- RET (R239). -/
def execKRet (core : CoreId) (s : State) : Out :=
  kiteOp core .ret s (fun i => .ends { s, regs := i.regs, jump := some ((i.regs.get rLk).toNat % 16384), cost := 2 })

/-- REP with the STR that follows it; after `most` elements a preemption point is taken (R244 to R246). -/
def execKRep (core : CoreId) (most : Nat) (check : LineCheck) (s : State) : Out :=
  match executing s core.val with
  | none => .next s
  | some i =>
    match kiteFetch s core.val i with
    | some (.rep, _) =>
      (match runRep s i core.val most check with
        | .inl r => .next (kiteDone core.val i 2 r)
        | .inr t => .next t)
    | _ => .next s

/-- BRPT (R247). -/
def execKBrpt (core : CoreId) (n : Nat) (s : State) : Out :=
  kiteOp core (.brpt n) s (fun i => runBrpt s i n)

/-- STR COPY (R242). -/
def execKCopy (core : CoreId) (wide : Bool) (check : LineCheck) (s : State) : Out :=
  kiteOp core (.str wide .copy 0) s (fun i => runStr s i core.val wide .copy 0 check)

/-- STR MATCH (R242, R243). -/
def execKMatch (core : CoreId) (wide : Bool) (r : Reg) (check : LineCheck) (s : State) : Out :=
  kiteOp core (.str wide .matchOp r) s (fun i => runStr s i core.val wide .matchOp r check)

/-- STR SEEK (R242, R243). -/
def execKSeek (core : CoreId) (wide : Bool) (r : Reg) (check : LineCheck) (s : State) : Out :=
  kiteOp core (.str wide .seek r) s (fun i => runStr s i core.val wide .seek r check)

/-- STR PULL (R242). -/
def execKPull (core : CoreId) (wide : Bool) (r : Reg) (check : LineCheck) (s : State) : Out :=
  kiteOp core (.str wide .pull r) s (fun i => runStr s i core.val wide .pull r check)

/-- STR PUSH (R242). -/
def execKPush (core : CoreId) (wide : Bool) (r : Reg) (check : LineCheck) (s : State) : Out :=
  kiteOp core (.str wide .push r) s (fun i => runStr s i core.val wide .push r check)

/-- STR FILL (R242). -/
def execKFill (core : CoreId) (wide : Bool) (r : Reg) (check : LineCheck) (s : State) : Out :=
  kiteOp core (.str wide .fill r) s (fun i => runStr s i core.val wide .fill r check)

/-- NOP (R239). -/
def execKiteNop (core : CoreId) (s : State) : Out := kiteOp core .nop s (fun i => .ends { s, regs := i.regs })

/-- WAIT: continues while an enabled event is pending, else the core sleeps at it (R221). The cycles of the sleep are open. -/
def execKWait (core : CoreId) (s : State) : Out :=
  match executing s core.val with
  | none => .next s
  | some i =>
    match kiteFetch s core.val i with
    | some (.wait, n) =>
      if pendingEvents i &&& i.regs.ev ≠ 0 then .next (kiteDone core.val i n (.ends { s, regs := i.regs }))
      else
        let t := cyclesOf s 0 true 0
        .next (modCore (modInst t.2 i.run i.num (fun x => { x with regs := { x.regs with cycles := (x.regs.cycles + t.1) % 2 ^ 64 } }))
          core.val (fun c => { c with state := 3 }))
    | _ => .next s

/-- HALT: the instance ends; words it has sent stay with Dwear (R269, R273). -/
def execKHalt (core : CoreId) (s : State) : Out :=
  match executing s core.val with
  | none => .next s
  | some i =>
    match kiteFetch s core.val i with
    | some (.halt, _) =>
      let s := upKite s (fun k => { k with
        mail := k.mail ++ i.outbox.map (fun w => (i.run, i.num, w.toNat / 2 ^ 26, w)) })
      .next (settleRing (endInst s i.run i.num) (core.val / 8))
    | _ => .next s

/-- TRAP (R249). -/
def execKTrap (core : CoreId) (s : State) : Out := kiteOp core .trap s (fun i => .faults s 8 i.regs.pc)

/-- MOVSR (R230, R231). -/
def execKMovsr (core : CoreId) (a : Reg) (toSpecial : Bool) (number : Fin 8) (s : State) : Out :=
  kiteOp core (.movsr a toSpecial number) s (fun i => runMovsr s i a toSpecial number.val)

/-- LDPW (R239). -/
def execKLdpw (core : CoreId) (a b : Reg) (check : LineCheck) (s : State) : Out :=
  kiteOp core (.ldpw a b) s (fun i => runLdpw s i core.val a b check)

/-- ILLEGAL_INSTRUCTION: what a core fetches is no instruction, or the line it fetches from is or proves poisoned, which comes first. A
fetched line that is corrected is a Correctable fault, and the instruction runs as its own row says (R22, R233, R234, R248 to R250). -/
def execIllegalInstruction (core : CoreId) (check : LineCheck) (s : State) : Out :=
  match executing s core.val with
  | none => .next s
  | some i =>
    let s := checkCode s i core.val i.regs.pc check
    if fetchPoisoned s core.val i.regs.pc then .next (kiteFault s core.val i 7 i.regs.pc)
    else
      match kiteFetch s core.val i with
      | none => .next (kiteFault s core.val i 1 i.regs.pc)
      | some _ => .next s

end Sys2Proof.Machine
end

