-- ==== Sys2Proof/Machine/Link.lean ====
section
/-! DEFINITION. The host link and the host's side of the device: training (R30, R31), IDE and DOE (R49, R50), GPF (R51), CXL.mem and the HDM
decoders (R41, R46), resets of the host interface and of the device (R54, R451, R452, R462), the bridges (R14) and the TAP (R497). -/

namespace Sys2Proof.Machine

open Sys2Proof

/-! ### RAS status bits, by the rows of Table 2.9 -/

def rasInternal : Nat := 1
def rasAddress : Nat := 2
def rasIde : Nat := 3
def rasEcc : Nat := 5

/-- A CXL RAS error is reported: its status bit, and for the first uncorrectable one that is not masked the error pointer with its address
(R52; log entry 3). -/
def logRas (s : State) (n addr : Nat) : State :=
  upHst s (fun h => { h with
    ras := linsert h.ras n, rasFirst := if n == rasEcc || h.rasMask.contains n then h.rasFirst else h.rasFirst.or (some (n, addr)) })

/-! ### Training -/

/-- LINK_TRAINING: the link trains; CXL mode needs the alternate protocol and 8 GT/s or more (R30, R462). `reversed`: the lanes came up
reversed. -/
def execLinkTraining (speed width : Nat) (alternate reversed : Bool) (s : State) : Out :=
  let ok := decide (1 ≤ speed) && decide (speed ≤ 5) && (width == 1 || width == 2 || width == 4 || width == 8)
  if !ok || s.hst.mode != 0 || !s.glb.poweredOn || !s.pwr.perstN || s.pwr.state == 3 || s.flt.containing.contains islHost then .next s
  else
    let s := upHst s (fun h => { h with speed, width, laneReversed := reversed, mode := if alternate && decide (3 ≤ speed) then 2 else 1 })
    .next (upGlb s (fun g => { g with configReady := true }))

/-- LINK_DOWNTRAIN: the link retrains to a lower rate or width and loses nothing (R31). In CXL mode it runs at 8 GT/s or more (Table 2.1). -/
def execLinkDowntrain (speed width : Nat) (s : State) : Out :=
  let h := s.hst
  let ok := decide (1 ≤ speed) && decide (speed ≤ 5) && (width == 1 || width == 2 || width == 4 || width == 8) &&
    (h.mode == 1 || decide (3 ≤ speed)) && (decide (speed < h.speed) || decide (width < h.width))
  if h.mode = 0 || !ok then .next s
  else
    .next (raise (upHst s (fun h => { h with
      speed, width, evSpeed := h.evSpeed || decide (speed < h.speed), evWidth := h.evWidth || decide (width < h.width) })) srcDowntrain)

/-! ### IDE and DOE (R49, R50, R330) -/

/-- IDE_CHECK_FAIL: the stream is Insecure and its traffic waits (R50, Table 2.9). -/
def execIdeCheckFail (cm : Bool) (s : State) : Out :=
  if s.hst.mode = 0 || !(if cm then s.hst.ideCm else s.hst.ideIo) then .next s
  else
    let s := upHst s (fun h => if cm then { h with ideCm := false, cmHeld := true, evIdeCm := true }
      else { h with ideIo := false, ioHeld := true, evIdeIo := true })
    .next (reApprove (raise (logRas s rasIde 0) (unit islHost 4)))

/-- Keys for a stream take effect: it is secure, and traffic that waited for them goes on (R49, R50). -/
def ideSecure (s : State) (cm : Bool) : State :=
  let s := upHst s (fun h => if cm then { h with ideCm := true, cmHeld := false } else { h with ideIo := true, ioHeld := false })
  reApprove (msixFlush s)

/-- IDE_KEY_REFRESH: fresh keys for a stream whose traffic waits, inside a secured session (R50). -/
def execIdeKeyRefresh (cm : Bool) (s : State) : Out :=
  if s.hst.session = 0 || s.sec.errorState || !(if cm then s.hst.cmHeld else s.hst.ioHeld) then .next s else .next (ideSecure s cm)

/-- DOE_MESSAGE: a secured session begins, in which the device identifies itself with KEY_ID and a signature of its attestation key,
whose bytes are open; a session ends; or IDE_KM sets up a stream's keys in it. The error state signs nothing (R49, R330,
R332; log entries 12 and 15). -/
def execDoeMessage (m : DoeMsg) (s : State) : Out :=
  if s.hst.mode = 0 || !s.glb.configReady || s.sec.errorState || s.pwr.linkPm == 2 then .next s
  else
    match m with
    | .session role =>
      if role < 1 ∨ 3 < role then .next s
      else
        let sig := freeBytes s 96
        .next (reApprove (upHst sig.2 (fun h => { h with session := role, doe := (sha384 attestPublic ++ sig.1) :: h.doe })))
    | .sessionEnd => .next (reApprove (upHst s (fun h => { h with session := 0 })))
    | .ideKeys cm => if s.hst.session = 0 then .next s else .next (ideSecure s cm)

/-! ### GPF (R51) -/

/-- Write every reply of a kind that a ring can take. -/
def drainKind (s : State) (ring : Nat) (src : ReplySrc) (fuel : Nat) : State :=
  match fuel with
  | 0 => s
  | fuel + 1 =>
    match writeReply s ring src true with
    | some t => drainKind t ring src fuel
    | none => s

/-- Write every pending reply of a ring that it can take. -/
def drainRing (s : State) (ring : Nat) : State :=
  let n := ((mget s.tsk.rings ring).map (fun r => r.waiting.length)).getD 0
  let s := drainKind s ring .command n
  let s := drainKind s ring .tagless s.tsk.overrun.length
  drainKind s ring .event s.tsk.events.length

/-- GPF_PHASE1: pending reply writes complete and the host lines held are released. -/
def execGpfPhase1 (s : State) : Out :=
  if !cacheUp s then .next s
  else
    let s := (s.tsk.rings.map (·.1)).foldl drainRing s
    .next (upHst s (fun h => { h with hostLines := 0 }))

/-- GPF_PHASE2: Arena writes accepted are in DRAM already, and the phase is counted. -/
def execGpfPhase2 (s : State) : Out :=
  if s.hst.mode ≠ 2 then .next s else .next (upHst s (fun h => { h with gpfCount := wrapInc h.gpfCount }))

/-! ### CXL.mem (R41, R42, R46) -/

/-- The device address a committed decoder gives a host address: its share of the interleave set, from `first` on (R41). -/
def HdmDecoder.map (d : HdmDecoder) (first a : Nat) : Option Nat :=
  if !d.committed || decide (a < d.base) || decide (d.base + d.size * d.ways ≤ a) then none
  else
    let off := a - d.base
    if off / d.gran % d.ways = d.pos then some (first + off / (d.gran * d.ways) * d.gran + off % d.gran) else none

/-- The Arena address of a host address (R41). -/
def hdmDecode (s : State) (a : Nat) : Option Nat :=
  match s.hst.hdm0.map 0 a with
  | some x => some x
  | none => s.hst.hdm1.map s.hst.hdm0.size a

/-- CXL.mem requests are served: CXL mode, the stream secure or in clear, HOST serving, DRAM out of self-refresh (R50, R423, Table
16.1). -/
def memUp (s : State) : Bool :=
  cacheUp s && !s.flt.containing.contains islHost && !s.flt.halted && s.drc.trained && decide (s.pwr.state ≤ 1) && !s.med.dumpHeld

/-- An access to a granule in device bias is served coherently and counted (R46). -/
def biasConflict (s : State) (a : Nat) : State :=
  if s.hst.deviceBias.contains (a / 65536) then upHst s (fun h => { h with biasConflicts := satInc h.biasConflicts }) else s

/-- Answer a CXL.mem read. -/
def answerMem (s : State) (a : Nat) (b : List Byte) (poison : Bool) : State :=
  upHst s (fun h => { h with memAnswers := (a, b, poison) :: h.memAnswers })

/-- A read of an Arena line: its bytes, or poison where its codeword is uncorrectable or was poisoned before (R192, Tables 2.7, 2.9). -/
def serveRead (s : State) (addr a : Nat) (check : LineCheck) : State :=
  let line := arenaLine s a
  let v := lineVerdict s line check
  let b := v.deliver (loadZero s.arena a 64)
  if s.drc.poisoned.contains line then
    answerMem (raise (logRas s rasInternal addr) (unit (islDram (lineChannel s line)) 1)) addr b true
  else
    match v with
    | .clean => answerMem s addr b false
    | .uncorrectable => answerMem (dramBad (logRas s rasInternal addr) line none) addr b true
    | _ => answerMem (dramCorrected (logRas s rasEcc addr) line check) addr b false

/-- CXL_MEM_READ: a host read of one 64-byte line; outside every committed decoder it returns all ones with poison (R41, R46). A channel in
full retrain makes it wait (R202). -/
def execCxlMemRead (addr : Nat) (check : LineCheck) (s : State) : Out :=
  if !memUp s || addr % 64 != 0 then .next s
  else
    match hdmDecode s addr with
    | none => .next (answerMem (logRas s rasAddress addr) addr (List.replicate 64 0xFF) true)
    | some a => if s.drc.retraining.contains (lineChannel s (arenaLine s a)) then .next s
      else .next (serveRead (biasConflict s a) addr a check)

/-- A write of an Arena line. A partial one reads, corrects and merges: an uncorrectable line stays poisoned and takes nothing (R23). -/
def serveWrite (s : State) (addr a : Nat) (data : List (Option Byte)) (check : LineCheck) : State :=
  let line := arenaLine s a
  let v := lineVerdict s line check
  let put := fun (s : State) (old : List Byte) => { s with arena := storeNonzero s.arena a (mergeBytes old data) }
  let old := loadZero s.arena a 64
  if data.all (fun b => b.isSome) then
    put (upDrc s (fun d => { d with poisoned := d.poisoned.filter (· != line) })) old
  else if s.drc.poisoned.contains line then s
  else
    match v with
    | .clean => put s old
    | .uncorrectable => dramBad s line none
    | _ => put (dramCorrected (logRas s rasEcc addr) line check) (v.deliver old)

/-- CXL_MEM_WRITE: a host write to one 64-byte line, byte by byte enabled; outside every committed decoder it is dropped (R41, R46). A
channel in full retrain makes it wait (R202). -/
def execCxlMemWrite (addr : Nat) (data : List (Option Byte)) (check : LineCheck) (s : State) : Out :=
  if !memUp s || addr % 64 != 0 || data.length != 64 then .next s
  else
    match hdmDecode s addr with
    | none => .next (logRas s rasAddress addr)
    | some a => if s.drc.retraining.contains (lineChannel s (arenaLine s a)) then .next s
      else .next (serveWrite (biasConflict s a) addr a data check)

/-- HDM_DECODER_COMMIT: the decoder takes its settings and commits, or reports Error Not Committed (R40, R41). -/
def execHdmDecoderCommit (index base size ways gran pos : Nat) (s : State) : Out :=
  if s.hst.mode = 0 || !s.glb.configReady || s.hst.ioHeld then .next s
  else
    let h := s.hst
    let other := if index = 0 then (if h.hdm1.committed then h.hdm1.size else 0) else h.hdm0.size
    let legal := (ways == 1 || ways == 2 || ways == 4 || ways == 8) && decide (pos < ways) &&
      [256, 512, 1024, 2048, 4096, 8192, 16384].contains gran && base % 0x10000000 == 0 && size % 0x10000000 == 0 &&
      decide (0 < arenaBytes s) && decide (size + other ≤ arenaBytes s) && (index == 0 || h.hdm0.committed)
    let d : HdmDecoder := { base, size, ways, gran, pos, committed := legal, error := !legal }
    if index = 0 then .next (upHst s (fun h => { h with hdm0 := d }))
    else if index = 1 then .next (upHst s (fun h => { h with hdm1 := d }))
    else .next s

/-! ### FLR (R54) -/

/-- What the HST block keeps across an FLR: the link, its events and counters, the Arena, and the sticky RAS and AER status; both IDE
streams end with configuration space. -/
def Hst.flr (h : Hst) : Hst :=
  { h with
    ideIo := false, ideCm := false, ioHeld := false, cmHeld := false, evFlr := true, flipBusy := false, deviceBias := [],
    hostLines := 0, hdm0 := HdmDecoder.reset, hdm1 := HdmDecoder.reset, viralEn := false, msixEn := false, msixFmask := false,
    msixTable := [], msixPending := [], session := 0, rasMask := List.range 6, rasFatal := [0, 1, 2, 3], d3hot := false }

/-- An accepted command under an FLR. Of a host command the reply is discarded, and a transfer that waits for fresh keys with it (R50); a
SCAN_RUN ends, and a completed command's reply is gone with its ring. From now on the command flips no granule, and one it held is in host
bias. A QUEUE_DELETE that still waits is over, whatever its source. -/
def flrOp (s : State) (o : Op) : State :=
  let done := o.stage == .finished || o.stage == .completed
  if o.pkt.opc = 0x0202 ∧ !done then dropOp s o.tag
  else if fromFootpath o then modOp s o.tag (fun x => { x with granules := [], noFlip := true })
  else if o.stage = .completed then dropOp s o.tag
  else
    let s := modOp s o.tag (fun x => { x with discard := true, granules := [], noFlip := true, mute := x.mute || s.hst.ioHeld })
    if o.pkt.opc = 0x0603 ∧ o.stage ≠ .finished then stopRun s o.tag { status := stAborted } else s

/-- FLR: the host interface is reset, and nothing behind it (R54, R313). -/
def execFlr (s : State) : Out :=
  if s.hst.mode = 0 || !s.glb.configReady || s.pwr.linkPm == 2 || s.flt.containing.contains islHost then .next s
  else .next (reApprove (flrContexts (upHst (dropQueues (s.tsk.ops.foldl flrOp s)) Hst.flr)))

/-! ### Resets (R451, R452, R462) -/

/-- PERST# belongs to a Ballast exit: the device is in Ballast, leaves it, or awaits it in Moored (R399). -/
def inBallast (s : State) : Bool :=
  s.pwr.state == 3 || s.pwr.exitPending || (match s.pwr.trans with
    | some t => t.origin == 3
    | none => false)

/-- CONVENTIONAL_RESET: 1 PERST#, 2 hot reset, 3 link disable (Table 19.1, R452). -/
def execConventionalReset (kind : Nat) (s : State) : Out :=
  if !s.glb.poweredOn || inBallast s then .next s
  else if kind = 1 then
    if !s.pwr.perstN then .next s
    else .next (beginReset (tapFollow (upPwr s (fun p => { p with perstN := false }))) 1)
  else if (kind = 2 ∨ kind = 3) ∧ s.hst.mode ≠ 0 ∧ s.pwr.linkPm ≠ 2 then .next (beginReset s kind)
  else .next s

/-- PERST_DEASSERT: configuration space answers, a Ballast exit by PERST# is complete, and the pins leave EXTEST (R399, R462, R497). -/
def execPerstDeassert (s : State) : Out :=
  if s.pwr.perstN then .next s
  else
    let s := upPwr s (fun p => { p with perstN := true, exitPending := false, exitPerst := false, linkPm := 0 })
    .next (tapFollow (upGlb s (fun g => { g with configReady := true })))

/-- POWER_ON: the rails are in regulation, XTAL runs and the power-on reset is released (R451, R486). -/
def execPowerOn (s : State) : Out :=
  let s := upPwr s (fun p => { p with railsGood := true })
  if s.glb.poweredOn then .next s
  else
    let s := deviceReset s 0
    .next (upHlt (upGlb s (fun g => { g with poweredOn := true })) (fun h => { h with coldDue := true }))

/-! ### Bridges and gating (R14, R390, R392, R447) -/

/-- Two islands stand at the ends of one bridge (Table 1.1). -/
def bridged (a b : Nat) : Bool := (islandHubs a).contains b || (islandHubs b).contains a

/-- A device reset holds an island: every one but AON and PJM, while PERST# is asserted, without power, in Ballast, and until the boot has
started it (R10, R451, R452). -/
def heldInReset (s : State) (i : Nat) : Bool :=
  decide (2 ≤ i) && (!s.pwr.perstN || !s.glb.poweredOn || s.glb.booting || s.pwr.state == 3)

/-- HANDSHAKE_TIMEOUT: a line from `sender` has waited 20 µs of counted time for `island`; no time is counted while that island wakes,
is held in reset or retrains its channel (R14, R421). A forced test window is one step (log entry 2), so none is open here. -/
def execHandshakeTimeout (island sender : Nat) (s : State) : Out :=
  if 45 ≤ island || !bridged island sender || s.pwr.gated.contains island || s.pwr.retained.contains island ||
      inReset s island || heldInReset s island || s.drc.retraining.any (fun c => islDram c == island) then .next s
  else .next (raiseAt s (unit island 2) none false (some sender))

/-- ISLAND_IDLE_GATE: an island idle for 20 µs in Run is clock-gated; AON and PJM never are (R390). -/
def execIslandIdleGate (island : Nat) (s : State) : Out :=
  if island < 2 ∨ 45 ≤ island ∨ s.pwr.state ≠ 0 ∨ s.pwr.trans.isSome ∨ islandBusy s island ∨ s.hlt.slice = some island then .next s
  else .next (upPwr s (fun p => { p with gated := linsert p.gated island }))

/-- ISLAND_WAKE: a line reaches a gated or retained island, which wakes; a bank on retention is checked first (R392, R447). -/
def execIslandWake (island : Nat) (banksLost : Bool) (s : State) : Out :=
  if !(s.pwr.gated.contains island || s.pwr.retained.contains island) then .next s
  else
    let kept := s.pwr.retained.contains island
    let s := upPwr s (fun p => { p with gated := p.gated.filter (· != island), retained := p.retained.filter (· != island) })
    if !kept then .next s
    else
      let s := upHlt s (fun h => { h with retChecks := wrapInc h.retChecks })
      .next (if banksLost then bankLoss s island else s)

/-! ### The TAP (R497) -/

/-- TAP_INSTRUCTION: codes that Table 20.17 does not list act as BYPASS; EXTEST, CLAMP and HIGHZ take the pins only while PERST# is
asserted. -/
def execTapInstruction (code : Nat) (s : State) : Out :=
  .next (tapFollow (upGlb s (fun g => { g with tapIr := code })))

/-- TAP_RESET: TRST_N low selects IDCODE. -/
def execTapReset (s : State) : Out := .next (tapFollow (upGlb s (fun g => { g with tapIr := 2 })))

end Sys2Proof.Machine
end

