-- ==== Sys2Proof/Machine/Power.lean ====
section
/-! DEFINITION. The commands of the power-state machine and its filtered inputs (chapter 16). -/

namespace Sys2Proof.Machine

open Sys2Proof

/-- POWER_SET (R396, R402): queued behind a transition or a waiting entry, replacing the request queued there; a commanded entry
that waited begins once the device is idle. -/
def execPowerSet (tag : Nat) (s : State) : Out :=
  match opFor s tag 0x0901 with
  | none => .next s
  | some o =>
    let r : PowerReq := { tag := some tag, target := o.pkt.p0, source := if fromFootpath o then 2 else 1 }
    if o.stage = .running then
      if s.pwr.waitIdle = some r ∧ s.pwr.trans.isNone ∧ deviceIdle s then
        .next (startEntry (upPwr s (fun p => { p with waitIdle := none })) r)
      else .next s
    else
      let s := running s tag
      if s.pwr.trans.isSome ∨ s.pwr.waitIdle.isSome then
        let s := match s.pwr.queued with
          | some q => replyPower (if q.target = 0 then s else powerRecord s q.target 3 0 q.source) q 16
          | none => s
        .next (upPwr s (fun p => { p with queued := some r }))
      else .next (beginPower s r)

/-- POWER_QUERY (R402). -/
def execPowerQuery (tag : Nat) (s : State) : Out :=
  match opFor s tag 0x0902 with
  | none => .next s
  | some _ =>
    let queued := match s.pwr.queued, s.pwr.trans with
      | some q, _ => q.target
      | none, some t => t.req.target
      | none, none => s.pwr.state
    .next (finish s tag (ok 0 (s.pwr.state + 4 * b2n s.pwr.trans.isSome + 8 * queued)))

/-- An automatic entry is tried after `ms` of idleness: no transition runs, nothing is queued (R395). -/
def autoEntry (s : State) (target bitNo ms : Nat) : State :=
  if bit (feature s 8) bitNo && idleFor s ms && s.pwr.trans.isNone && s.pwr.queued.isNone && s.pwr.waitIdle.isNone &&
      decide (s.pwr.state < target) && s.glb.ready then
    startEntry s { tag := none, target, source := 0 }
  else s

/-- GLIDE_IDLE_ENTRY: after 2 ms of idleness; a refusal starts the 2 ms again (R395). -/
def execGlideIdleEntry (s : State) : Out :=
  let t := autoEntry s 1 0 (s.pwr.glideFrom + 2)
  let refused := t.pwr.trans.isNone && t.pwr.recordCount != s.pwr.recordCount
  .next (if refused then upPwr t (fun p => { p with glideFrom := p.idleMs }) else t)

/-- MOORED_IDLE_ENTRY: after 500 ms of idleness; a refusal starts the 500 ms again (R395). -/
def execMooredIdleEntry (s : State) : Out :=
  let t := autoEntry s 2 1 (s.pwr.mooredFrom + 500)
  let refused := t.pwr.trans.isNone && t.pwr.recordCount != s.pwr.recordCount
  .next (if refused then upPwr t (fun p => { p with mooredFrom := p.idleMs }) else t)

/-- TRANSITION_PHASE_END (R400, R401, Table 16.2); `imageOk`: the Dwear image in DRAM agrees with M0 at a Ballast exit; `lost`: the
islands whose retained bank fails its check (R447). -/
def execTransitionPhaseEnd (imageOk : Bool) (lost : List Nat) (s : State) : Out :=
  match s.pwr.trans with
  | none => .next s
  | some t => .next (phaseEnd s t imageOk lost)

/-- COMMANDED_ENTRY_TIMEOUT: the entry that waited 10 ms is refused with HOST_COMMAND, and a queued request starts (R396,
R402). -/
def execCommandedEntryTimeout (s : State) : Out :=
  match s.pwr.waitIdle with
  | none => .next s
  | some r => if deviceIdle s ∨ s.glb.lifetime < s.pwr.waitFrom + 10 then .next s
    else .next (nextPower (refusePower (upPwr s (fun p => { p with waitIdle := none })) r 0))

/-- LINK_L2_ENTRY: the link reaches L2; an armed device in Moored enters Ballast (R396). -/
def execLinkL2Entry (s : State) : Out :=
  if s.hst.mode = 0 ∨ s.pwr.linkPm = 2 then .next s
  else
    let s := upPwr s (fun p => { p with linkPm := 2 })
    if s.pwr.armed && s.pwr.state == 2 && s.pwr.trans.isNone then .next (enterBallast s) else .next s

/-- BALLAST_ARM_EXPIRY: 10 s have passed since the arming and the link is not in L2 (R396). -/
def execBallastArmExpiry (s : State) : Out :=
  if s.pwr.armed ∧ s.pwr.linkPm ≠ 2 ∧ s.pwr.armedAt + 10000 ≤ s.glb.lifetime then .next (endArming s false) else .next s

/-- MOORED_WAKE (R394): 0 the host moves the link out of L1, 1 a link message needs another island, 2 a patrol deadline falls due,
3 a DRAM retrain window opens. -/
def execMooredWake (cause : Nat) (s : State) : Out :=
  if s.pwr.state ≠ 2 ∨ s.pwr.trans.isSome then .next s
  else
    match cause with
    | 0 => if s.pwr.linkPm = 1 then .next (wake (upPwr s (fun p => { p with linkPm := 0 }))) else .next s
    | 1 => .next (wake s)
    | 2 => if s.med.bands.any (fun b => b.2.deadline != 0 && decide (b.2.deadline ≤ s.glb.lifetime)) then .next (wake s) else .next s
    | 3 => if retrainOpen s then .next (wake s) else .next s
    | _ => .next s

/-- The exit from Ballast to Moored begins (Table 16.2). -/
def ballastExit (s : State) : State :=
  upPwr s (fun p => { p with trans := some { req := { tag := none, target := 2, source := 0 }, origin := 3, phase := 0, abort := none,
                                             exit := true } })

/-- WAKE_N_ASSERT: WAKE_N passes its filter; a device in Ballast leaves it for Moored (R399, R406). -/
def execWakeNAssert (s : State) : Out :=
  if !s.pwr.wakeN then .next s
  else
    let s := upPwr s (fun p => { p with wakeN := false, wakeAt := s.glb.lifetime })
    if s.pwr.state = 3 ∧ s.pwr.trans.isNone ∧ !s.pwr.wakeDriven ∧ !s.pwr.wakeIgnored then
      .next (ballastExit (upPwr s (fun p => { p with exitPending := true })))
    else .next s

/-- WAKE_STUCK: the board has held WAKE_N low for more than 100 ms outside Ballast (R406). -/
def execWakeStuck (s : State) : Out :=
  if s.pwr.state = 3 ∨ s.pwr.wakeN ∨ s.pwr.wakeDriven ∨ s.pwr.wakeIgnored ∨
      s.glb.lifetime ≤ s.pwr.wakeAt + 100 then .next s
  else .next (raise (upPwr s (fun p => { p with evWakeStuck := true, wakeIgnored := true })) srcWakeStuck)

/-- WAKE_N_RELEASE: WAKE_N is seen high and is a wake source again (R406). -/
def execWakeNRelease (s : State) : Out :=
  if s.pwr.wakeN then .next s else .next (upPwr s (fun p => { p with wakeN := true, wakeIgnored := false }))

/-- BROWN_OUT: in low-power mode, or in an entry to Ballast, the device goes to Moored and asks for PERST#; in normal mode the trip
is a rail fault (R404, Table 16.6). -/
def execBrownOut (s : State) : Out :=
  let entering := match s.pwr.trans with
    | some t => t.req.target == 3 && !t.exit
    | none => false
  if s.pwr.lowPower || entering then
    let s := upPwr s (fun p => { p with
      lowPower := false, evBrownout := true, brownouts := satInc p.brownouts, lifeBrownouts := p.lifeBrownouts + 1 })
    let s := raise s srcBrownout
    if s.pwr.state = 3 ∧ s.pwr.trans.isSome then .next s
    else .next (ballastExit (upPwr s (fun p => { p with exitPending := true })))
  else .next (raise s srcRail)

/-- INPUT_GLITCH: a filtered input's level reverts within 1 µs; only its counter moves (R405). -/
def execInputGlitch (input : FilteredInput) (s : State) : Out :=
  .next (upPwr s (fun p => match input with
    | .pwrFail => { p with glitchPwrFail := satInc p.glitchPwrFail }
    | .perst => { p with glitchPerst := satInc p.glitchPerst }
    | .wake => { p with glitchWake := satInc p.glitchWake }
    | .fpRdy => { p with glitchFp := satInc p.glitchFp }))

/-- FP_RDY_IN_CHANGE: transmission over Footpath starts or holds (R405, R470). -/
def execFpRdyInChange (level : Bool) (s : State) : Out := .next (fpPump (upPwr s (fun p => { p with fpRdyIn := level })))

/-- FP_RXD_WAKE: a low level on FP_RXD in Moored wakes the device to Run (R394, R470). -/
def execFpRxdWake (s : State) : Out := if s.pwr.state = 2 then .next (wake s) else .next s

/-- BALLAST_EXIT: PERST# is asserted in Ballast, where it begins the exit, or while a WAKE_N or brown-out exit awaits it. The host
interface is reset, and nothing else (R398, R399). -/
def execBallastExit (s : State) : Out :=
  let leaving := match s.pwr.trans with
    | some t => t.origin == 3
    | none => false
  if !(s.pwr.state == 3 || leaving || s.pwr.exitPending) || !s.pwr.perstN then .next s
  else
    let s := dropQueues (hostDown s)
    let s := upGlb s (fun g => { g with configReady := false })
    let s := tapFollow (upPwr s (fun p => { p with perstN := false, wakeDriven := false, exitPerst := true, linkPm := 0 }))
    if s.pwr.state = 3 ∧ s.pwr.trans.isNone then .next (ballastExit s) else .next s

end Sys2Proof.Machine
end

