-- ==== Sys2Proof/Machine/Security.lean ====
section
/-! DEFINITION. The Security group: keys, milestones, attestation, self-tests and sanitise (chapters 06 and 13). -/

namespace Sys2Proof.Machine

open Sys2Proof

/-! ### Keys (R325 to R327, R500, R506) -/

/-- KEY_IMPORT: the wrapped key is read and unwrapped, its record is programmed and M2 is extended (R326, R500, R506). -/
def execKeyImport (tag : Nat) (host : HostRead) (s : State) : Out :=
  match opFor s tag 0x0701 with
  | none => .next s
  | some o =>
    let p := o.pkt
    match input s o host p.dlen with
    | none => .next s
    | some .error => .next (finish (abandon s o) tag (bad 0x18))
    | some (.data b) =>
      match Config.unwrapKey b with
      | none => .next (finish s tag (bad 0x18))
      | some k =>
        if p.p0 = 0 then
          let id := freshKey s
          let s := putKey id.2 { vol := p.vol, keyId := id.1, kind := 2, capacity := 0, attrs := 0 }
          .next (finish (extendMs s 2 (msRecord 1 0 p.vol)) tag (ok 0 0))
        else
          let s := upSec s (fun e => { e with hmacKeys := mset e.hmacKeys p.p1 (fit (p.dlen - 8) k) })
          .next (finish (extendMs s 2 (msRecord 1 1 p.p1)) tag (ok 0 0))

/-- KEY_DESTROY: a pending volume key or an HMAC slot is destroyed, and M2 is extended though there was none (R327, R500). -/
def execKeyDestroy (tag : Nat) (s : State) : Out :=
  match opFor s tag 0x0702 with
  | none => .next s
  | some o =>
    let p := o.pkt
    if p.p0 = 0 then
      let s := upSec s (fun e => { e with keyLog := e.keyLog.filter (fun k => !(k.vol == p.vol && k.kind == 2)) })
      .next (finish (extendMs s 2 (msRecord 2 0 p.vol)) tag (ok 0 0))
    else
      let s := upSec s (fun e => { e with hmacKeys := mdel e.hmacKeys p.p1 })
      .next (finish (extendMs s 2 (msRecord 2 1 p.p1)) tag (ok 0 0))

/-! ### Milestones and attestation (R317 to R321) -/

/-- EXTEND: in acceptance order among the commands that extend the same milestone (R317, R318). -/
def execExtend (tag : Nat) (host : HostRead) (s : State) : Out :=
  match opFor s tag 0x0703 with
  | none => .next s
  | some o =>
    if !turnOf s o then .next s
    else
      match input s o host o.pkt.dlen with
      | none => .next s
      | some .error => .next (finish (abandon s o) tag (bad 0x18))
      | some (.data b) => .next (finish (extendMs s o.pkt.p0 b) tag (ok 0 0))

/-- A command that extends some milestone when it ends with SUCCESS (R284, R261, R318, R500). -/
def extending (p : Packet) : Bool :=
  (extends_ p).isSome || p.opc == 0x0505 || p.opc == 0x0601 || p.opc == 0x0701 || p.opc == 0x0702

/-- The signed part of the report, bytes 0x000 to 0x71F (Table 13.6). -/
def reportBody (s : State) (o : Op) (nonce : List Byte) : List Byte :=
  le 2 1 ++ le 2 o.pkt.dlen ++ le 4 0 ++ le 8 Config.serial ++ le 2 0x1F7D ++ le 2 0x8640 ++ le 1 deviceRevision ++
    le 1 (b2n s.sec.approved + 2 * b2n s.sec.errorState + 4 * b2n (s.hst.session == 2)) ++ le 2 0 ++ le 8 o.seq ++
    fit 16 s.glb.versionText ++ fit 64 nonce ++
    (List.range 32).flatMap (fun n => le 4 (mgetD s.sec.msCount n 0)) ++ (List.range 32).flatMap (milestone s) ++
    sha384 attestPublic

/-- ATTEST: all milestones at one instant, after every earlier extending command; the signature's values come from the DRBG and are
open (R318, R320, R321; log entry 12). -/
def execAttest (tag : Nat) (host : HostRead) (s : State) : Out :=
  match opFor s tag 0x0704 with
  | none => .next s
  | some o =>
    let p := o.pkt
    if s.sec.errorState then .next (cryptEnds s o)
    else if earlierOp s o.seq extending || !addrUp s o then .next s
    else
      match input s o host p.dlen with
      | none => .next s
      | some .error => .next (finish (abandon s o) tag (bad 0x18))
      | some (.data b) =>
        if p.p0 < 1920 then .next (finish (spoil s o) tag { status := stLengthLong, detail := 2, r0 := 1920, r1 := p.p0 })
        else
          let sig := freeBytes s 96
          .next (finish (deliverAddr sig.2 o (reportBody s o b ++ sig.1)) tag (ok 1920 0))

/-! ### Self-tests, alarms and link keys (R316, R328, R331, R332) -/

/-- The tests a run takes: all, the cryptographic ones, or the Kite programs (R331). -/
def testMask (sel : Nat) : Nat := if sel = 0 then 0xFF0FFF else if sel = 1 then 0xFFF else 0xFF0000

/-- A run of the self-tests ends with these tests failed (R331, R332). -/
def testsEnd (s : State) (sel failed : Nat) : State :=
  let f := failed &&& testMask sel
  let s := upSec s (fun e => { e with
    selftestFailed := e.selftestFailed ||| f, ageH := if sel = 0 then 0 else e.ageH,
    testedAt := if sel = 0 then s.glb.lifetime else e.testedAt })
  let s := (List.range 8).foldl (fun s n => if bit f (16 + n) then raise s (unit (islKc n) 6) else s) s
  if f % 4096 = 0 || s.sec.errorState then s else enterError s

/-- SELF_TEST: the selected tests begin, and then end with those that failed (R331). -/
def execSelfTest (tag failed : Nat) (s : State) : Out :=
  match opFor s tag 0x0705 with
  | none => .next s
  | some o =>
    if o.stage = .ready then .next (running s tag)
    else .next (finish (testsEnd s o.pkt.p0 failed) tag (ok (failed &&& testMask o.pkt.p0) 0))

/-- PERIODIC_SELFTEST: the re-run of every 24 h ends (R331): 24 h have passed since the last complete run (DEDUCED, log entry 2). -/
def execPeriodicSelftest (failed : Nat) (s : State) : Out :=
  if s.sec.powerupDone && !inReset s islCrypt && decide (s.sec.testedAt + 86400000 ≤ s.glb.lifetime) then .next (testsEnd s 0 failed) else .next s

/-- SECURITY_ALARM: a detector of Table 13.3 trips: 0 voltage, 1 clock, 2 temperature, 3 crystal (R316). -/
def execSecurityAlarm (cause : Nat) (s : State) : Out :=
  if 3 < cause then .next s
  else
    let s := upSec s (fun e => { e with alarm := e.alarm ||| 2 ^ cause, alarms := satInc e.alarms })
    .next (raise (zeroise s 2) (unit islCrypt 4))

/-- LINK_REKEY: after 2^31 packets or 24 h a link derives its next key from its retained secret (R328). -/
def execLinkRekey (link : Nat) (s : State) : Out :=
  .next (upSec s (fun e => { e with links := mmod e.links link (fun k =>
    if k.secret.isSome && !inReset s islCrypt && (decide (2 ^ 31 ≤ k.packets) || decide (k.since + 86400000 ≤ s.glb.lifetime)) then
      { k with counter := wrapInc k.counter, packets := 0, since := s.glb.lifetime }
    else k) }))

/-! ### Sanitise (R175 to R180) -/

/-- SANITISE waits until the commands accepted before it have ended (R177). -/
def execSanitise (tag : Nat) (s : State) : Out :=
  match opFor s tag 0x0706 with
  | none => .next s
  | some _ => .next (running s tag)

/-- A new key for every existing volume (R175). -/
def renewKeys (s : State) (l : List (Nat × Volume)) : State :=
  l.foldl (fun s v =>
    let k := freshKey s
    volMod (putKey k.2 { vol := v.1, keyId := k.1, kind := if v.2.foster then 1 else 0, capacity := v.2.capacity, attrs := v.2.attrs })
      v.1 (fun x => { x with keyId := k.1, dir := [] })) s

/-- The key step: every volume key destroyed, new keys, map and dump keys replaced, every directory entry UNMAPPED, leaf cache and staging
emptied (R175). What the older pieces and spills hold is under the destroyed map key: they are not valid any more, and the next checkpoint
writes the pieces again (DESIGN CHOICE, log entry 25). -/
def keyStep (s : State) : State :=
  let vols := s.med.volumes
  let pieces := (rootPieces (newestRoot s)).map (fun p => (p.1, p.2.1))
  let bare := fun (r : Root) => { r with dirPieces := [], bandPieces := [] }
  let s := upSec s (fun e => { e with keyLog := [], keyCache := [], keyGen := wrapInc e.keyGen })
  let s := renewKeys s vols
  let mk := freshKey s
  let dk := freshKey mk.2
  let s := upMed dk.2 (fun m => { m with
    mapKey := mk.1, dumpKey := dk.1, leafCache := [], leafFetch := [], staging := [], relocQueue := [], copies := [], victim := none,
    ckpt := none, root0 := m.root0.map bare, root1 := m.root1.map bare, spills := [], pieceDirty := pieces,
    bands := m.bands.map (fun b => (b.1, { b.2 with segValid := [], copies := 0 })) })
  releaseMirror (journalMany s (vols.flatMap (fun v => v.2.dir.map (fun d => Record.dirSet v.1 d.1 .unmapped))))

/-- A sanitise's units: the bands to erase, and in modes 1 and 2 one more for the dump areas and spares (Table 6.8). -/
def sanitiseUnits (s : State) (mode : Nat) : List Nat :=
  if mode = 0 then
    (s.med.bands.filter (fun b => b.2.state == .opened || b.2.state == .closed || b.2.state == .drained || b.2.state == .erasing)).map (·.1)
  else s.med.bands.map (·.1)

/-- A sanitise ends: its record stays with STATE 3, its event and those of the formats it absorbed are posted (R180, Table 6.10). -/
def endSanitise (s : State) : State :=
  let p := s.med.progress
  let l := s.med.absorbed
  let s := upMed s (fun m => { m with progress := { p with state := 3, units := [] }, absorbed := [] })
  let s := postEvent s evSanitiseDone 0 0 (b2n p.failed)
  l.foldl (fun s v => postEvent (volMod s v (fun x => { x with formatting := false })) evSanitiseDone 1 v (b2n p.failed)) s

/-- The key step of the sanitise the record names, after which its units are fixed (R175, R177, Table 6.8). -/
def sanitiseKeys (s : State) : State :=
  let s := keyStep s
  let p := s.med.progress
  let units := sanitiseUnits s p.mode
  let total := units.length + (if p.mode = 0 then 0 else 1)
  let s := upMed s (fun m => { m with progress := { p with keyStep := true, units, total, done := 0 } })
  if total = 0 then endSanitise s else s

/-- SANITISE_START: in a service start without valid PJM state PJM is initialised as at first start (R475); the record is written, formats are absorbed, the command replies and the key step follows (R175, R177, Table 6.10).
In the error state no key is made, and the sanitise waits (R332). -/
def execSanitiseStart (s : State) : Out :=
  match s.tsk.ops.find? (fun o => o.pkt.opc == 0x0706 && o.stage == .running) with
  | none => .next s
  | some o =>
    if earlierOp s o.seq (fun _ => true) || s.sec.errorState then .next s
    else
      let s := if s.glb.serviceStart && s.med.pjmBad then blankPjm s (spareShare s) else s
      let now := s.med.progress
      let absorbed := (if now.state = 2 then [now.vol] else []) ++ s.med.formats.map (fun f => f.vol)
      let s := upMed s (fun m => { m with
        formats := [], absorbed,
        progress := { state := 1, mode := o.pkt.p0, keyStep := false, failed := false, pattern := o.pkt.p1, vol := 0, total := 0,
                      done := 0, wseqMark := 0, units := [] } })
      .next (sanitiseKeys (finish s o.tag (ok 0 0)))

/-- The blocks of a dump area or spare unit: each erased `n` times more, but for those that failed. -/
def wornBlocks (l : List FlashBlock) (out : List Nat) (n : Nat) : List FlashBlock :=
  (l.filter (fun b => !out.contains b.code)).map (fun b => { b with erases := b.erases + n })

/-- A channel's spares and dump blocks after the unit: a block that failed is gone, and the least worn spare takes a dump block's place (R162,
R172, R180). -/
def eraseChannel (c : Channel) (dump : List FlashBlock) (out : List Nat) (n : Nat) : Channel × List FlashBlock :=
  let free := wornBlocks c.free out n
  let kept := wornBlocks dump out n
  let add := (rankSort (fun b => b.erases) free).take (dump.length - kept.length)
  ({ c with free := free.filter (fun b => !add.contains b), maxErase := (free.map (fun b => b.erases)).foldl max c.maxErase }, kept ++ add)

/-- The unit of dump areas and spares: the dumps are gone and every such block has been erased; each that failed is retired (Table 6.8,
R180). -/
def eraseSpares (s : State) (failed : List (Nat × Nat)) (n : Nat) : State :=
  let gone := failed.filter (fun f => (s.med.chans.zip (s.med.dumpBlocks ++ List.replicate s.med.chans.length [])).any (fun c =>
    c.1.number == f.1 && (c.1.free ++ c.2).any (fun b => b.code == f.2)))
  let next := (s.med.chans.zip (s.med.dumpBlocks ++ List.replicate s.med.chans.length [])).map (fun c =>
    eraseChannel c.1 c.2 ((gone.filter (fun f => f.1 == c.1.number)).map (·.2)) n)
  let s := upMed s (fun m => { m with dumps := [], chans := next.map (·.1), dumpBlocks := next.map (·.2) })
  (gone.map (·.1)).foldl retireBlock s

/-- A unit of the running sanitise completes; `failed` names the blocks that failed their erase or the read-back of mode 2, by channel and
block (R180). -/
def sanitiseUnit (s : State) (failed : List (Nat × Nat)) : State :=
  let p := s.med.progress
  let n := if p.mode = 2 then 2 else 1
  let s := match p.units[p.done]? with
    | some b =>
      (match mget s.med.bands b with
        | none => s
        | some x => if x.state == .retired then s else eraseBand s b x ((failed.map (·.1)).eraseDups) n)
    | none => eraseSpares s failed.eraseDups n
  let s := upMed s (fun m => { m with progress := { p with done := p.done + 1, failed := p.failed || (!failed.isEmpty && p.mode != 0) } })
  if p.done + 1 = p.total then endSanitise s else s

/-- SANITISE_UNIT_DONE: a unit of the sanitise or format that the progress record names completes (R177, R179, R180). -/
def execSanitiseUnitDone (failed : List (Nat × Nat)) (s : State) : Out :=
  let p := s.med.progress
  if (!s.glb.ready && !s.glb.serviceStart) || s.med.dumpActive || s.med.dumpHeld then .next s
  else if p.state = 1 then
    (if s.sec.errorState then .next s else if p.keyStep then .next (sanitiseUnit s failed) else .next (sanitiseKeys s))
  else if p.state = 2 then
    match p.units[p.done]? with
    | none => .next (endFormat s)
    | some b =>
      let s := upMed (walkBand s b) (fun m => { m with progress := { p with done := p.done + 1 } })
      .next (if p.done + 1 = p.total then endFormat s else s)
  else .next s

/-- SANITISE_STATUS's results from the record (R178). -/
def statusOf (s : State) (p : Packet) : Nat × Nat :=
  let r := s.med.progress
  let from_ := (r.done, r.mode + 4 * b2n (r.state == 1 || r.state == 2) + 8 * b2n r.failed +
    65536 * (if r.total = 0 then 10000 else r.done * 10000 / r.total))
  if p.p0 = 0 then (if r.state = 1 ∨ r.state = 3 then from_ else (0, 0))
  else if (r.state = 2 ∨ r.state = 4) ∧ r.vol = p.vol ∧ !(s.med.formats.any (fun f => f.vol == p.vol)) then from_
  else
    match s.med.formats.find? (fun f => f.vol == p.vol) with
    | some f => (0, f.mode + 4)
    | none => if s.med.absorbed.contains p.vol then (0, 4) else (0, 0)

/-- SANITISE_STATUS (R178). -/
def execSanitiseStatus (tag : Nat) (s : State) : Out :=
  match opFor s tag 0x0707 with
  | none => .next s
  | some o => .next (finish s tag (ok (statusOf s o.pkt).1 (statusOf s o.pkt).2))

end Sys2Proof.Machine
end

