-- ==== Sys2Proof/Machine/Dispatch.lean ====
section
/-! DEFINITION. The meaning of each command: one arm per constructor of `Instr`. -/

namespace Sys2Proof.Machine

def exec (i : Instr) (s : State) : Host.Outcome State Fault Refusal :=
  match i with
  | .slotWrite addr data enables poisoned idePassed => Sys2Proof.Machine.execSlotWrite addr data enables poisoned idePassed s
  | .intakeAccept => Sys2Proof.Machine.execIntakeAccept s
  | .lockGrant tag => Sys2Proof.Machine.execLockGrant tag s
  | .lockEntryFree => Sys2Proof.Machine.execLockEntryFree s
  | .stagingAdmit => Sys2Proof.Machine.execStagingAdmit s
  | .fragmentListRead tag host => Sys2Proof.Machine.execFragmentListRead tag host s
  | .commandComplete tag => Sys2Proof.Machine.execCommandComplete tag s
  | .replyWrite ring src => Sys2Proof.Machine.execReplyWrite ring src s
  | .replyWriteError ring src => Sys2Proof.Machine.execReplyWriteError ring src s
  | .ringFullNotice ring => Sys2Proof.Machine.execRingFullNotice ring s
  | .coalesceTimeout ring => Sys2Proof.Machine.execCoalesceTimeout ring s
  | .msixUnmask w => Sys2Proof.Machine.execMsixUnmask w s
  | .rrhHeadWrite ring value => Sys2Proof.Machine.execRrhHeadWrite ring value s
  | .rrhIntMaskClear ring value => Sys2Proof.Machine.execRrhIntMaskClear ring value s
  | .tskRing0CtrlWrite value => Sys2Proof.Machine.execTskRing0CtrlWrite value s
  | .hstBiasFlipGo value => Sys2Proof.Machine.execHstBiasFlipGo value s
  | .fltAckWrite value => Sys2Proof.Machine.execFltAckWrite value s
  | .fltSrcWrite value => Sys2Proof.Machine.execFltSrcWrite value s
  | .fltCeLimitWrite value => Sys2Proof.Machine.execFltCeLimitWrite value s
  | .fpLockWrite value => Sys2Proof.Machine.execFpLockWrite value s
  | .medGcCtrlWrite value => Sys2Proof.Machine.execMedGcCtrlWrite value s
  | .medSealTimerWrite value => Sys2Proof.Machine.execMedSealTimerWrite value s
  | .medPatrolCtrlWrite value => Sys2Proof.Machine.execMedPatrolCtrlWrite value s
  | .kclCfgWrite cluster value => Sys2Proof.Machine.execKclCfgWrite cluster value s
  | .waycTableEnable table value => Sys2Proof.Machine.execWaycTableEnable table value s
  | .waycTableDisable table value => Sys2Proof.Machine.execWaycTableDisable table value s
  | .hltPolicyWrite clk value => Sys2Proof.Machine.execHltPolicyWrite clk value s
  | .pairWitnessWrite index value => Sys2Proof.Machine.execPairWitnessWrite index value s
  | .meshRebuildCtrlWrite value => Sys2Proof.Machine.execMeshRebuildCtrlWrite value s
  | .secDgCtrlWrite value => Sys2Proof.Machine.execSecDgCtrlWrite value s
  | .registerWrite offset size value => Sys2Proof.Machine.execRegisterWrite offset size value s
  | .identify tag => Sys2Proof.Machine.execIdentify tag s
  | .getLog tag => Sys2Proof.Machine.execGetLog tag s
  | .setFeature tag => Sys2Proof.Machine.execSetFeature tag s
  | .getFeature tag => Sys2Proof.Machine.execGetFeature tag s
  | .fwDownload tag host => Sys2Proof.Machine.execFwDownload tag host s
  | .fwActivate tag nor => Sys2Proof.Machine.execFwActivate tag nor s
  | .activationReset => Sys2Proof.Machine.execActivationReset s
  | .queueCreate tag => Sys2Proof.Machine.execQueueCreate tag s
  | .queueDelete tag => Sys2Proof.Machine.execQueueDelete tag s
  | .ringCreate tag => Sys2Proof.Machine.execRingCreate tag s
  | .ringDelete tag => Sys2Proof.Machine.execRingDelete tag s
  | .queueQuery tag => Sys2Proof.Machine.execQueueQuery tag s
  | .volumeCreate tag => Sys2Proof.Machine.execVolumeCreate tag s
  | .volumeDelete tag => Sys2Proof.Machine.execVolumeDelete tag s
  | .volumeQuery tag => Sys2Proof.Machine.execVolumeQuery tag s
  | .format tag => Sys2Proof.Machine.execFormat tag s
  | .formatWalk => Sys2Proof.Machine.execFormatWalk s
  | .read tag media => Sys2Proof.Machine.execRead tag media s
  | .write tag host => Sys2Proof.Machine.execWrite tag host s
  | .trim tag => Sys2Proof.Machine.execTrim tag s
  | .flush tag => Sys2Proof.Machine.execFlush tag s
  | .compare tag host media => Sys2Proof.Machine.execCompare tag host media s
  | .writeZeroes tag => Sys2Proof.Machine.execWriteZeroes tag s
  | .readToArena tag media => Sys2Proof.Machine.execReadToArena tag media s
  | .compress tag host checker => Sys2Proof.Machine.execCompress tag host checker s
  | .decompress tag host => Sys2Proof.Machine.execDecompress tag host s
  | .digest tag host => Sys2Proof.Machine.execDigest tag host s
  | .digestVerify tag host expected => Sys2Proof.Machine.execDigestVerify tag host expected s
  | .waymarkLoad tag host => Sys2Proof.Machine.execWaymarkLoad tag host s
  | .waymarkSearch tag host check => Sys2Proof.Machine.execWaymarkSearch tag host check s
  | .waymarkRead tag check => Sys2Proof.Machine.execWaymarkRead tag check s
  | .programLoad tag host => Sys2Proof.Machine.execProgramLoad tag host s
  | .programUnload tag => Sys2Proof.Machine.execProgramUnload tag s
  | .scanRun tag params => Sys2Proof.Machine.execScanRun tag params s
  | .scanAreaPlace tag => Sys2Proof.Machine.execScanAreaPlace tag s
  | .scanStop tag => Sys2Proof.Machine.execScanStop tag s
  | .scanQuery tag => Sys2Proof.Machine.execScanQuery tag s
  | .scanRunEnd tag => Sys2Proof.Machine.execScanRunEnd tag s
  | .keyImport tag host => Sys2Proof.Machine.execKeyImport tag host s
  | .keyDestroy tag => Sys2Proof.Machine.execKeyDestroy tag s
  | .extend tag host => Sys2Proof.Machine.execExtend tag host s
  | .attest tag host => Sys2Proof.Machine.execAttest tag host s
  | .selfTest tag failed => Sys2Proof.Machine.execSelfTest tag failed s
  | .sanitise tag => Sys2Proof.Machine.execSanitise tag s
  | .sanitiseStart => Sys2Proof.Machine.execSanitiseStart s
  | .sanitiseUnitDone failed => Sys2Proof.Machine.execSanitiseUnitDone failed s
  | .sanitiseStatus tag => Sys2Proof.Machine.execSanitiseStatus tag s
  | .tetherPair tag host => Sys2Proof.Machine.execTetherPair tag host s
  | .pairHelloTimeout => Sys2Proof.Machine.execPairHelloTimeout s
  | .tetherUnpair tag => Sys2Proof.Machine.execTetherUnpair tag s
  | .takeover tag => Sys2Proof.Machine.execTakeover tag s
  | .meshConfig tag => Sys2Proof.Machine.execMeshConfig tag s
  | .stripeGroupJoin tag host => Sys2Proof.Machine.execStripeGroupJoin tag host s
  | .stripeGroupLeave tag => Sys2Proof.Machine.execStripeGroupLeave tag s
  | .rebuildStart tag => Sys2Proof.Machine.execRebuildStart tag s
  | .rebuildStatus tag => Sys2Proof.Machine.execRebuildStatus tag s
  | .powerSet tag => Sys2Proof.Machine.execPowerSet tag s
  | .powerQuery tag => Sys2Proof.Machine.execPowerQuery tag s
  | .healthQuery tag => Sys2Proof.Machine.execHealthQuery tag s
  | .marginPlan tag => Sys2Proof.Machine.execMarginPlan tag s
  | .testControl tag => Sys2Proof.Machine.execTestControl tag s
  | .abort tag => Sys2Proof.Machine.execAbort tag s
  | .nop tag => Sys2Proof.Machine.execNop tag s
  | .conventionalReset kind => Sys2Proof.Machine.execConventionalReset kind s
  | .perstDeassert => Sys2Proof.Machine.execPerstDeassert s
  | .flr => Sys2Proof.Machine.execFlr s
  | .powerOn => Sys2Proof.Machine.execPowerOn s
  | .boot found => Sys2Proof.Machine.execBoot found s
  | .linkTraining speed width alternate reversed => Sys2Proof.Machine.execLinkTraining speed width alternate reversed s
  | .linkDowntrain speed width => Sys2Proof.Machine.execLinkDowntrain speed width s
  | .ideCheckFail cm => Sys2Proof.Machine.execIdeCheckFail cm s
  | .ideKeyRefresh cm => Sys2Proof.Machine.execIdeKeyRefresh cm s
  | .gpfPhase1 => Sys2Proof.Machine.execGpfPhase1 s
  | .gpfPhase2 => Sys2Proof.Machine.execGpfPhase2 s
  | .cxlMemRead addr check => Sys2Proof.Machine.execCxlMemRead addr check s
  | .cxlMemWrite addr data check => Sys2Proof.Machine.execCxlMemWrite addr data check s
  | .hdmDecoderCommit index base size ways gran pos => Sys2Proof.Machine.execHdmDecoderCommit index base size ways gran pos s
  | .handshakeTimeout island sender => Sys2Proof.Machine.execHandshakeTimeout island sender s
  | .islandIdleGate island => Sys2Proof.Machine.execIslandIdleGate island s
  | .islandWake island banksLost => Sys2Proof.Machine.execIslandWake island banksLost s
  | .programComplete item => Sys2Proof.Machine.execProgramComplete item s
  | .segmentSealTimeout band => Sys2Proof.Machine.execSegmentSealTimeout band s
  | .programFail band channel => Sys2Proof.Machine.execProgramFail band channel s
  | .eraseComplete band failed => Sys2Proof.Machine.execEraseComplete band failed s
  | .journalLineFlush => Sys2Proof.Machine.execJournalLineFlush s
  | .checkpointStart => Sys2Proof.Machine.execCheckpointStart s
  | .checkpointRootWrite => Sys2Proof.Machine.execCheckpointRootWrite s
  | .leafFetchComplete vol stretch level => Sys2Proof.Machine.execLeafFetchComplete vol stretch level s
  | .pageOut vol stretch => Sys2Proof.Machine.execPageOut vol stretch s
  | .gcRun => Sys2Proof.Machine.execGcRun s
  | .gcCommit vol lba => Sys2Proof.Machine.execGcCommit vol lba s
  | .bandErase band => Sys2Proof.Machine.execBandErase band s
  | .patrolRead cw level => Sys2Proof.Machine.execPatrolRead cw level s
  | .patrolOverdue band => Sys2Proof.Machine.execPatrolOverdue band s
  | .relocation vol lba => Sys2Proof.Machine.execRelocation vol lba s
  | .pwrFailAssert => Sys2Proof.Machine.execPwrFailAssert s
  | .dumpComplete us => Sys2Proof.Machine.execDumpComplete us s
  | .warmRestart => Sys2Proof.Machine.execWarmRestart s
  | .holdupSenseStuck => Sys2Proof.Machine.execHoldupSenseStuck s
  | .refreshDue rank postpone => Sys2Proof.Machine.execRefreshDue rank postpone s
  | .mr4Poll rank field => Sys2Proof.Machine.execMr4Poll rank field s
  | .dqsRetrack rank moved => Sys2Proof.Machine.execDqsRetrack rank moved s
  | .dramFullRetrain channel clean => Sys2Proof.Machine.execDramFullRetrain channel clean s
  | .scrub line check => Sys2Proof.Machine.execScrub line check s
  | .dramRequest r => Sys2Proof.Machine.execDramRequest r s
  | .rowIdleTimeout sub bank => Sys2Proof.Machine.execRowIdleTimeout sub bank s
  | .nrReseed channel => Sys2Proof.Machine.execNrReseed channel s
  | .instanceDispatch core => Sys2Proof.Machine.execInstanceDispatch core s
  | .quantumExpiry core => Sys2Proof.Machine.execQuantumExpiry core s
  | .waitPreempt core => Sys2Proof.Machine.execWaitPreempt core s
  | .contextSaveDone core => Sys2Proof.Machine.execContextSaveDone core s
  | .laneBlockVisible run num media => Sys2Proof.Machine.execLaneBlockVisible run num media s
  | .worklistExtend run num => Sys2Proof.Machine.execWorklistExtend run num s
  | .timerExpiry run num timer => Sys2Proof.Machine.execTimerExpiry run num timer s
  | .mboxDeliver run sender dest => Sys2Proof.Machine.execMboxDeliver run sender dest s
  | .engineRequestDone run num engine check checker => Sys2Proof.Machine.execEngineRequestDone run num engine check checker s
  | .kAdd core a b => Sys2Proof.Machine.execKAdd core a b s
  | .kSub core a b => Sys2Proof.Machine.execKSub core a b s
  | .kAdc core a b => Sys2Proof.Machine.execKAdc core a b s
  | .kSbc core a b => Sys2Proof.Machine.execKSbc core a b s
  | .kAnd core a b => Sys2Proof.Machine.execKAnd core a b s
  | .kOr core a b => Sys2Proof.Machine.execKOr core a b s
  | .kXor core a b => Sys2Proof.Machine.execKXor core a b s
  | .kMov core a b => Sys2Proof.Machine.execKMov core a b s
  | .kCmp core a b => Sys2Proof.Machine.execKCmp core a b s
  | .kTst core a b => Sys2Proof.Machine.execKTst core a b s
  | .kShl core a b => Sys2Proof.Machine.execKShl core a b s
  | .kShr core a b => Sys2Proof.Machine.execKShr core a b s
  | .kSar core a b => Sys2Proof.Machine.execKSar core a b s
  | .kRol core a b => Sys2Proof.Machine.execKRol core a b s
  | .kMul core a b => Sys2Proof.Machine.execKMul core a b s
  | .kMulh core a b => Sys2Proof.Machine.execKMulh core a b s
  | .kAddi core exts a imm => Sys2Proof.Machine.execKAddi core exts a imm s
  | .kCmpi core exts a imm => Sys2Proof.Machine.execKCmpi core exts a imm s
  | .kMovi core exts a imm => Sys2Proof.Machine.execKMovi core exts a imm s
  | .kBeq core off => Sys2Proof.Machine.execKBeq core off s
  | .kBne core off => Sys2Proof.Machine.execKBne core off s
  | .kBcs core off => Sys2Proof.Machine.execKBcs core off s
  | .kBcc core off => Sys2Proof.Machine.execKBcc core off s
  | .kBmi core off => Sys2Proof.Machine.execKBmi core off s
  | .kBpl core off => Sys2Proof.Machine.execKBpl core off s
  | .kBms core off => Sys2Proof.Machine.execKBms core off s
  | .kBmc core off => Sys2Proof.Machine.execKBmc core off s
  | .kBhi core off => Sys2Proof.Machine.execKBhi core off s
  | .kBls core off => Sys2Proof.Machine.execKBls core off s
  | .kBge core off => Sys2Proof.Machine.execKBge core off s
  | .kBlt core off => Sys2Proof.Machine.execKBlt core off s
  | .kBgt core off => Sys2Proof.Machine.execKBgt core off s
  | .kBle core off => Sys2Proof.Machine.execKBle core off s
  | .kBal core off => Sys2Proof.Machine.execKBal core off s
  | .kBvs core off => Sys2Proof.Machine.execKBvs core off s
  | .kLd core a b check => Sys2Proof.Machine.execKLd core a b check s
  | .kSt core a b check => Sys2Proof.Machine.execKSt core a b check s
  | .kLdb core a b check => Sys2Proof.Machine.execKLdb core a b check s
  | .kStb core a b check => Sys2Proof.Machine.execKStb core a b check s
  | .kIn core a b check => Sys2Proof.Machine.execKIn core a b check s
  | .kOut core a b => Sys2Proof.Machine.execKOut core a b s
  | .kJmp core a => Sys2Proof.Machine.execKJmp core a s
  | .kCall core a => Sys2Proof.Machine.execKCall core a s
  | .kRet core => Sys2Proof.Machine.execKRet core s
  | .kRep core most check => Sys2Proof.Machine.execKRep core most check s
  | .kBrpt core n => Sys2Proof.Machine.execKBrpt core n s
  | .kCopy core wide check => Sys2Proof.Machine.execKCopy core wide check s
  | .kMatch core wide r check => Sys2Proof.Machine.execKMatch core wide r check s
  | .kSeek core wide r check => Sys2Proof.Machine.execKSeek core wide r check s
  | .kPull core wide r check => Sys2Proof.Machine.execKPull core wide r check s
  | .kPush core wide r check => Sys2Proof.Machine.execKPush core wide r check s
  | .kFill core wide r check => Sys2Proof.Machine.execKFill core wide r check s
  | .kiteNop core => Sys2Proof.Machine.execKiteNop core s
  | .kWait core => Sys2Proof.Machine.execKWait core s
  | .kHalt core => Sys2Proof.Machine.execKHalt core s
  | .kTrap core => Sys2Proof.Machine.execKTrap core s
  | .kMovsr core a toSpecial number => Sys2Proof.Machine.execKMovsr core a toSpecial number s
  | .kLdpw core a b check => Sys2Proof.Machine.execKLdpw core a b check s
  | .scanData core a b check => Sys2Proof.Machine.execScanData core a b check s
  | .scanRelease core a b => Sys2Proof.Machine.execScanRelease core a b s
  | .evClear core a b => Sys2Proof.Machine.execEvClear core a b s
  | .timerLoad core a b => Sys2Proof.Machine.execTimerLoad core a b s
  | .mboxRecv core a b => Sys2Proof.Machine.execMboxRecv core a b s
  | .mboxSend core a b => Sys2Proof.Machine.execMboxSend core a b s
  | .wmGo core a b => Sys2Proof.Machine.execWmGo core a b s
  | .dgOpen core a b => Sys2Proof.Machine.execDgOpen core a b s
  | .dgFeed core a b => Sys2Proof.Machine.execDgFeed core a b s
  | .dgFinal core a b => Sys2Proof.Machine.execDgFinal core a b s
  | .cpGo core a b => Sys2Proof.Machine.execCpGo core a b s
  | .dmaPut core a b => Sys2Proof.Machine.execDmaPut core a b s
  | .dmaAppend core a b => Sys2Proof.Machine.execDmaAppend core a b s
  | .waymarkSearchQueue table check => Sys2Proof.Machine.execWaymarkSearchQueue table check s
  | .sweepStep forced upset arrayBad shadowBad => Sys2Proof.Machine.execSweepStep forced upset arrayBad shadowBad s
  | .tableReady table => Sys2Proof.Machine.execTableReady table s
  | .pipeGrant decomp => Sys2Proof.Machine.execPipeGrant decomp s
  | .inlineCompress vol lba checker => Sys2Proof.Machine.execInlineCompress vol lba checker s
  | .inlineInflate tag lba media => Sys2Proof.Machine.execInlineInflate tag lba media s
  | .digestQuantum => Sys2Proof.Machine.execDigestQuantum s
  | .dgIdleTimeout context => Sys2Proof.Machine.execDgIdleTimeout context s
  | .securityAlarm cause => Sys2Proof.Machine.execSecurityAlarm cause s
  | .periodicSelftest failed => Sys2Proof.Machine.execPeriodicSelftest failed s
  | .keyUnwrap vol => Sys2Proof.Machine.execKeyUnwrap vol s
  | .linkRekey link => Sys2Proof.Machine.execLinkRekey link s
  | .tetherFlitReceive f => Sys2Proof.Machine.execTetherFlitReceive f s
  | .tetherReplayTimeout => Sys2Proof.Machine.execTetherReplayTimeout s
  | .tetherLinkReset speed width => Sys2Proof.Machine.execTetherLinkReset speed width s
  | .hello m => Sys2Proof.Machine.execHello m s
  | .keyTransfer vol install capacity attrs => Sys2Proof.Machine.execKeyTransfer vol install capacity attrs s
  | .mirrorWrite seq vol op lba blocks data => Sys2Proof.Machine.execMirrorWrite seq vol op lba blocks data s
  | .mirrorConfirm seq => Sys2Proof.Machine.execMirrorConfirm seq s
  | .mirrorRelease seq => Sys2Proof.Machine.execMirrorRelease seq s
  | .journal first recs => Sys2Proof.Machine.execJournal first recs s
  | .journalConfirm last => Sys2Proof.Machine.execJournalConfirm last s
  | .root no r => Sys2Proof.Machine.execRoot no r s
  | .heartbeat count state status readOnly => Sys2Proof.Machine.execHeartbeat count state status readOnly s
  | .heartbeatSend => Sys2Proof.Machine.execHeartbeatSend s
  | .heartbeatTimeout => Sys2Proof.Machine.execHeartbeatTimeout s
  | .probeTimer => Sys2Proof.Machine.execProbeTimer s
  | .claimRetry => Sys2Proof.Machine.execClaimRetry s
  | .partnerDirectoryRebuild found => Sys2Proof.Machine.execPartnerDirectoryRebuild found s
  | .blockRead req vol lba blocks media => Sys2Proof.Machine.execBlockRead req vol lba blocks media s
  | .blockData req status data => Sys2Proof.Machine.execBlockData req status data s
  | .handback wseq vol form lba data => Sys2Proof.Machine.execHandback wseq vol form lba data s
  | .handbackPass media => Sys2Proof.Machine.execHandbackPass media s
  | .cutover => Sys2Proof.Machine.execCutover s
  | .yieldMsg => Sys2Proof.Machine.execYieldMsg s
  | .unpair => Sys2Proof.Machine.execUnpair s
  | .tetherStable => Sys2Proof.Machine.execTetherStable s
  | .trailFlitReceive port f => Sys2Proof.Machine.execTrailFlitReceive port f s
  | .trailReplayTimeout port => Sys2Proof.Machine.execTrailReplayTimeout port s
  | .portFailed port => Sys2Proof.Machine.execPortFailed port s
  | .linkHello port serial node shape pub verified => Sys2Proof.Machine.execLinkHello port serial node shape pub verified s
  | .linkState src seq failed => Sys2Proof.Machine.execLinkState src seq failed s
  | .unreachable src id typ => Sys2Proof.Machine.execUnreachable src id typ s
  | .probe src pairId sender target number => Sys2Proof.Machine.execProbe src pairId sender target number s
  | .probeAck src pairId sender target number state status => Sys2Proof.Machine.execProbeAck src pairId sender target number state status s
  | .claim src pairId claimant partner number release => Sys2Proof.Machine.execClaim src pairId claimant partner number release s
  | .claimGrant src pairId claimant partner number release => Sys2Proof.Machine.execClaimGrant src pairId claimant partner number release s
  | .claimRefuse src pairId claimant partner number holder => Sys2Proof.Machine.execClaimRefuse src pairId claimant partner number holder s
  | .tunnel src m => Sys2Proof.Machine.execTunnel src m s
  | .groupHello src group k m index digest => Sys2Proof.Machine.execGroupHello src group k m index digest s
  | .intent src group stripe d band seg => Sys2Proof.Machine.execIntent src group stripe d band seg s
  | .intentReply src group stripe answer lowest => Sys2Proof.Machine.execIntentReply src group stripe answer lowest s
  | .stripeDeadline group stripe => Sys2Proof.Machine.execStripeDeadline group stripe s
  | .contrib src group stripe p d j x => Sys2Proof.Machine.execContrib src group stripe p d j x s
  | .close src group stripe r => Sys2Proof.Machine.execClose src group stripe r s
  | .parityProgram group stripe => Sys2Proof.Machine.execParityProgram group stripe s
  | .parityDone src group stripe j => Sys2Proof.Machine.execParityDone src group stripe j s
  | .gossip src group dead => Sys2Proof.Machine.execGossip src group dead s
  | .gossipSend => Sys2Proof.Machine.execGossipSend s
  | .release src group stripe => Sys2Proof.Machine.execRelease src group stripe s
  | .resend src group stripe d => Sys2Proof.Machine.execResend src group stripe d s
  | .locate src group request member band seg => Sys2Proof.Machine.execLocate src group request member band seg s
  | .locateAns src request recs => Sys2Proof.Machine.execLocateAns src request recs s
  | .reconReq src group request stripe weight p n d row media => Sys2Proof.Machine.execReconReq src group request stripe weight p n d row media s
  | .reconSlice src request p d row x => Sys2Proof.Machine.execReconSlice src request p d row x s
  | .rebuildPlan src group stripe chain media => Sys2Proof.Machine.execRebuildPlan src group stripe chain media s
  | .rebuildPart src group stripe p d row x => Sys2Proof.Machine.execRebuildPart src group stripe p d row x s
  | .memberUpdate src group u => Sys2Proof.Machine.execMemberUpdate src group u s
  | .memberLost group index => Sys2Proof.Machine.execMemberLost group index s
  | .stripeIndexReady => Sys2Proof.Machine.execStripeIndexReady s
  | .glideIdleEntry => Sys2Proof.Machine.execGlideIdleEntry s
  | .mooredIdleEntry => Sys2Proof.Machine.execMooredIdleEntry s
  | .transitionPhaseEnd imageOk lost => Sys2Proof.Machine.execTransitionPhaseEnd imageOk lost s
  | .commandedEntryTimeout => Sys2Proof.Machine.execCommandedEntryTimeout s
  | .linkL2Entry => Sys2Proof.Machine.execLinkL2Entry s
  | .ballastArmExpiry => Sys2Proof.Machine.execBallastArmExpiry s
  | .mooredWake cause => Sys2Proof.Machine.execMooredWake cause s
  | .wakeNAssert => Sys2Proof.Machine.execWakeNAssert s
  | .wakeStuck => Sys2Proof.Machine.execWakeStuck s
  | .brownOut => Sys2Proof.Machine.execBrownOut s
  | .inputGlitch input => Sys2Proof.Machine.execInputGlitch input s
  | .fpRdyInChange level => Sys2Proof.Machine.execFpRdyInChange level s
  | .faultRaise src level => Sys2Proof.Machine.execFaultRaise src level s
  | .faultReaction => Sys2Proof.Machine.execFaultReaction s
  | .quietPeriodEnd => Sys2Proof.Machine.execQuietPeriodEnd s
  | .containReady island => Sys2Proof.Machine.execContainReady island s
  | .shadowWindowEnd island => Sys2Proof.Machine.execShadowWindowEnd island s
  | .loopAction island slack => Sys2Proof.Machine.execLoopAction island slack s
  | .loopUndo island slack => Sys2Proof.Machine.execLoopUndo island slack s
  | .degradationMeasure island degradation => Sys2Proof.Machine.execDegradationMeasure island degradation s
  | .thermalThrottle readings => Sys2Proof.Machine.execThermalThrottle readings s
  | .avsWriteFail => Sys2Proof.Machine.execAvsWriteFail s
  | .plannerRun island found => Sys2Proof.Machine.execPlannerRun island found s
  | .planTimeout => Sys2Proof.Machine.execPlanTimeout s
  | .testSliceStart island => Sys2Proof.Machine.execTestSliceStart island s
  | .testSliceAbort island => Sys2Proof.Machine.execTestSliceAbort island s
  | .testSliceDone island ok crypto => Sys2Proof.Machine.execTestSliceDone island ok crypto s
  | .forcedWindowAnnounce island => Sys2Proof.Machine.execForcedWindowAnnounce island s
  | .forcedWindow island ok crypto => Sys2Proof.Machine.execForcedWindow island ok crypto s
  | .footpathCommand bytes crc => Sys2Proof.Machine.execFootpathCommand bytes crc s
  | .footpathData bytes crc => Sys2Proof.Machine.execFootpathData bytes crc s
  | .footpathNak bytes crc => Sys2Proof.Machine.execFootpathNak bytes crc s
  | .footpathBaud bytes crc => Sys2Proof.Machine.execFootpathBaud bytes crc s
  | .footpathBreak => Sys2Proof.Machine.execFootpathBreak s
  | .packetIdleTimeout => Sys2Proof.Machine.execPacketIdleTimeout s
  | .dataChunkTimeout => Sys2Proof.Machine.execDataChunkTimeout s
  | .fpRxdWake => Sys2Proof.Machine.execFpRxdWake s
  | .ballastExit => Sys2Proof.Machine.execBallastExit s
  | .pwrFailDeassert => Sys2Proof.Machine.execPwrFailDeassert s
  | .wakeNRelease => Sys2Proof.Machine.execWakeNRelease s
  | .railLoss => Sys2Proof.Machine.execRailLoss s
  | .doeMessage m => Sys2Proof.Machine.execDoeMessage m s
  | .illegalInstruction core check => Sys2Proof.Machine.execIllegalInstruction core check s
  | .tapInstruction code => Sys2Proof.Machine.execTapInstruction code s
  | .tapReset => Sys2Proof.Machine.execTapReset s
  | .footpathBadKind kind => Sys2Proof.Machine.execFootpathBadKind kind s
  | .groupHelloTimeout group => Sys2Proof.Machine.execGroupHelloTimeout group s

end Sys2Proof.Machine
end

