-- ==== Sys2Proof/Machine/Tick.lean ====
section
/-! DEFINITION. What passes with time when no command waits: 1 ms of device lifetime. -/

namespace Sys2Proof.Machine

open Sys2Proof

/-! ### The tick of an empty queue -/

/-- 1 ms of a cluster's lanes: with the ring full, and with the core STALLED on scan data (Table 8.15; log entry 2). -/
def tickCluster (k : Kite) (n : Nat) (c : Cluster) : Cluster :=
  let on := k.insts.filter (fun i => i.cluster == n && match i.state with
    | .dispatched _ => true
    | _ => false)
  let full := on.filter (fun i => decide (16 * (c.ringNow + 1) ≤ i.lane.ring.length))
  let starved := on.filter (fun i => i.lane.ring.isEmpty && (!i.lane.work.isEmpty || decide (i.lane.next < i.lane.stop)) &&
    match i.state with
    | .dispatched x => (k.cores.map (fun y => y.state)).getD x 0 == 4
    | _ => false)
  { c with laneFullUs := (c.laneFullUs + 1000 * full.length) % 2 ^ 32, starveUs := (c.starveUs + 1000 * starved.length) % 2 ^ 32 }

/-- What counts 1 ms: GLB_LIFETIME, the idle time or its new start (R395), FP_STATUS.ACTIVE, which falls 1 s after the last packet,
the quiet timer, MESH_PORT_SAT of a port with packets waiting and no credit, and the clusters' lane counters (log entry 2). -/
def tickMs (s : State) : State :=
  { s with
    glb := { s.glb with
      lifetime := s.glb.lifetime + 1, fpActive := s.glb.fpActive && decide (s.glb.lifetime + 1 < s.glb.fpAt + 1000) },
    pwr := if deviceIdle s then { s.pwr with idleMs := s.pwr.idleMs + 1 } else s.pwr.busy,
    flt := { s.flt with remain := s.flt.remain - 1 },
    mesh := { s.mesh with ports := s.mesh.ports.map (fun p =>
      if !p.out.isEmpty && !p.out.any (mayGo p) then { p with sat := (p.sat + 1000) % 2 ^ 32 } else p) },
    kite := { s.kite with clusters := (s.kite.clusters.zip (List.range s.kite.clusters.length)).map (fun x => tickCluster s.kite x.2 x.1) } }

/-- What counts hours since an act: the self-test's age and the coverage ages of the clusters and interfaces. -/
def tickAges (s : State) : State :=
  { s with
    sec := { s.sec with ageH := min 255 ((s.glb.lifetime - s.sec.testedAt) / 3600000) },
    hlt := { s.hlt with
      islands := s.hlt.islands.take 2 ++ (s.hlt.islands.drop 2).map (fun i => { i with
        coverAge := min 65535 ((s.glb.lifetime - i.coveredAt) / 3600000) }) } }

/-- 1 ms of device lifetime passes: the counters count, and the caps take the thermal step that is due; at each second the ages
are read anew (log entry 2). Without power nothing counts. -/
def tick (s : State) : State :=
  if !s.glb.poweredOn then s
  else
    let s := thermalStep (tickMs s)
    if s.glb.lifetime % 1000 = 0 then tickAges s else s

end Sys2Proof.Machine
end

