-- ==== Sys2Proof/Safety.lean ====
section
/-! DEFINITION. What a safe run is, the parts of the state that a frame names, and the invariant that every step keeps. -/

namespace Sys2Proof.Machine

open Sys2Proof

/-- A step that goes on: it neither faults nor refuses. -/
def Safe (s : State) : Prop := ∃ t, step s = .next t

/-- The parts of the state, as frames name them. -/
inductive Part where
  | pwr | flt | glb | hst | tsk | med | drc | kite | way | cmp | sec | hlt | pair | mesh | hostMem | arena | free
  deriving DecidableEq, Repr

/-- A part of `t` holds what it held in `s`. -/
def Part.kept (p : Part) (s t : State) : Prop :=
  match p with
  | .pwr => t.pwr = s.pwr
  | .flt => t.flt = s.flt
  | .glb => t.glb = s.glb
  | .hst => t.hst = s.hst
  | .tsk => t.tsk = s.tsk
  | .med => t.med = s.med
  | .drc => t.drc = s.drc
  | .kite => t.kite = s.kite
  | .way => t.way = s.way
  | .cmp => t.cmp = s.cmp
  | .sec => t.sec = s.sec
  | .hlt => t.hlt = s.hlt
  | .pair => t.pair = s.pair
  | .mesh => t.mesh = s.mesh
  | .hostMem => t.hostMem = s.hostMem
  | .arena => t.arena = s.arena
  | .free => t.free = s.free

/-- The frame of a command: the waiting commands and every part that is not listed are as before. -/
def ChangesOnly (ps : List Part) (s t : State) : Prop := t.pending = s.pending ∧ ∀ p, p ∉ ps → p.kept s t

/-- The parts of the state that a command may change (every other part, and the queue, is as before). -/
def touches (i : Instr) : List Part :=
  match i with
  | .slotWrite _ _ _ _ _ => [.hst, .tsk]
  | .intakeAccept => [.pwr, .glb, .tsk, .kite, .sec]
  | .lockGrant _ => [.tsk, .sec]
  | .lockEntryFree => [.tsk]
  | .stagingAdmit => [.tsk]
  | .fragmentListRead _ _ => [.hst, .tsk, .sec]
  | .commandComplete _ => [.glb, .hst, .tsk]
  | .replyWrite _ _ => [.hst, .tsk, .hostMem]
  | .replyWriteError _ _ => [.flt, .hst, .tsk, .hostMem]
  | .ringFullNotice _ => [.tsk]
  | .coalesceTimeout _ => [.hst, .tsk]
  | .msixUnmask _ => [.hst]
  | .rrhHeadWrite _ _ => [.tsk]
  | .rrhIntMaskClear _ _ => [.hst, .tsk]
  | .tskRing0CtrlWrite _ => [.flt, .tsk]
  | .hstBiasFlipGo _ => [.hst]
  | .fltAckWrite _ => [.flt]
  | .fltSrcWrite _ => [.flt]
  | .fltCeLimitWrite _ => [.flt]
  | .fpLockWrite _ => [.glb]
  | .medGcCtrlWrite _ => [.med]
  | .medSealTimerWrite _ => [.med]
  | .medPatrolCtrlWrite _ => [.med]
  | .kclCfgWrite _ _ => [.kite]
  | .waycTableEnable _ _ => [.way]
  | .waycTableDisable _ _ => [.way]
  | .hltPolicyWrite _ _ => [.hlt]
  | .pairWitnessWrite _ _ => [.pair]
  | .meshRebuildCtrlWrite _ => [.mesh]
  | .secDgCtrlWrite _ => [.sec]
  | .registerWrite _ _ _ => [.pwr, .flt, .glb, .hst, .tsk, .med, .kite, .way, .cmp, .sec, .hlt, .pair, .mesh]
  | .identify _ => [.hst, .tsk, .hostMem]
  | .getLog _ => [.hst, .tsk, .hostMem]
  | .setFeature _ => [.glb, .tsk]
  | .getFeature _ => [.tsk]
  | .fwDownload _ _ => [.glb, .tsk]
  | .fwActivate _ _ => [.glb, .tsk]
  | .activationReset => [.pwr, .flt, .glb, .hst, .tsk, .med, .drc, .kite, .way, .cmp, .sec, .hlt, .pair, .mesh, .hostMem, .arena, .free]
  | .queueCreate _ => [.tsk]
  | .queueDelete _ => [.tsk]
  | .ringCreate _ => [.tsk]
  | .ringDelete _ => [.tsk]
  | .queueQuery _ => [.tsk]
  | .volumeCreate _ => [.tsk, .med, .sec, .pair, .mesh, .free]
  | .volumeDelete _ => [.tsk, .med, .sec, .pair, .mesh, .free]
  | .volumeQuery _ => [.tsk]
  | .format _ => [.tsk, .med, .sec, .pair, .mesh, .free]
  | .formatWalk => [.tsk, .med, .sec, .pair, .mesh, .free]
  | .read _ _ => [.flt, .hst, .tsk, .med, .drc, .sec, .pair, .mesh, .hostMem, .free]
  | .write _ _ => [.glb, .hst, .tsk, .med, .drc, .cmp, .sec, .pair, .mesh, .hostMem, .arena, .free]
  | .trim _ => [.glb, .hst, .tsk, .med, .drc, .cmp, .sec, .pair, .mesh, .hostMem, .arena, .free]
  | .flush _ => [.tsk]
  | .compare _ _ _ => [.flt, .hst, .tsk, .med, .drc, .cmp, .sec, .pair, .mesh, .hostMem, .arena, .free]
  | .writeZeroes _ => [.glb, .hst, .tsk, .med, .drc, .cmp, .sec, .pair, .mesh, .hostMem, .arena, .free]
  | .readToArena _ _ => [.flt, .hst, .tsk, .med, .drc, .sec, .pair, .mesh, .arena, .free]
  | .compress _ _ _ => [.flt, .hst, .tsk, .med, .drc, .cmp, .sec, .pair, .hostMem, .arena, .free]
  | .decompress _ _ => [.hst, .tsk, .med, .drc, .cmp, .sec, .pair, .hostMem, .arena, .free]
  | .digest _ _ => [.hst, .tsk, .med, .drc, .kite, .cmp, .sec, .pair, .hostMem, .arena, .free]
  | .digestVerify _ _ _ => [.hst, .tsk, .med, .drc, .kite, .cmp, .sec, .pair, .hostMem, .arena, .free]
  | .waymarkLoad _ _ => [.glb, .hst, .tsk, .med, .drc, .way, .cmp, .sec, .pair, .hostMem, .arena, .free]
  | .waymarkSearch _ _ _ => [.flt, .glb, .hst, .tsk, .med, .drc, .way, .cmp, .sec, .pair, .hostMem, .arena, .free]
  | .waymarkRead _ _ => [.flt, .glb, .hst, .tsk, .drc, .way, .hostMem, .arena, .free]
  | .programLoad _ _ => [.hst, .tsk, .med, .drc, .kite, .cmp, .sec, .pair, .hostMem, .arena, .free]
  | .programUnload _ => [.tsk, .kite]
  | .scanRun _ _ => [.hst, .tsk, .kite, .sec]
  | .scanAreaPlace _ => [.kite]
  | .scanStop _ => [.hst, .tsk, .med, .drc, .kite, .cmp, .sec, .pair, .hostMem, .arena, .free]
  | .scanQuery _ => [.tsk]
  | .scanRunEnd _ => [.glb, .hst, .tsk, .kite]
  | .keyImport _ _ => [.hst, .tsk, .med, .drc, .cmp, .sec, .pair, .hostMem, .arena, .free]
  | .keyDestroy _ => [.tsk, .sec]
  | .extend _ _ => [.hst, .tsk, .med, .drc, .cmp, .sec, .pair, .hostMem, .arena, .free]
  | .attest _ _ => [.hst, .tsk, .med, .drc, .cmp, .sec, .pair, .hostMem, .arena, .free]
  | .selfTest _ _ => [.flt, .glb, .tsk, .kite, .sec]
  | .sanitise _ => [.tsk]
  | .sanitiseStart => [.flt, .tsk, .med, .sec, .pair, .mesh, .free]
  | .sanitiseUnitDone _ => [.flt, .tsk, .med, .sec, .pair, .mesh, .free]
  | .sanitiseStatus _ => [.tsk]
  | .tetherPair _ _ => [.tsk, .med, .sec, .pair, .mesh, .free]
  | .pairHelloTimeout => [.tsk, .med, .sec, .pair]
  | .tetherUnpair _ => [.tsk, .med, .sec, .pair, .mesh, .free]
  | .takeover _ => [.tsk, .med, .sec, .pair, .mesh, .free]
  | .meshConfig _ => [.tsk, .mesh]
  | .stripeGroupJoin _ _ => [.tsk, .sec, .pair, .mesh, .free]
  | .stripeGroupLeave _ => [.tsk, .med, .sec, .pair, .mesh, .free]
  | .rebuildStart _ => [.tsk, .med, .sec, .pair, .mesh, .free]
  | .rebuildStatus _ => [.tsk]
  | .powerSet _ => [.pwr, .tsk]
  | .powerQuery _ => [.tsk]
  | .healthQuery _ => [.hst, .tsk, .hostMem]
  | .marginPlan _ => [.tsk, .hlt]
  | .testControl _ => [.tsk, .hlt]
  | .abort _ => [.hst, .tsk, .med, .drc, .kite, .cmp, .sec, .pair, .hostMem, .arena, .free]
  | .nop _ => [.tsk]
  | .conventionalReset _ => [.pwr, .flt, .glb, .hst, .tsk, .med, .drc, .kite, .way, .cmp, .sec, .hlt, .pair, .mesh, .hostMem, .arena, .free]
  | .perstDeassert => [.pwr, .glb]
  | .flr => [.hst, .tsk, .med, .drc, .kite, .cmp, .sec, .pair, .hostMem, .arena, .free]
  | .powerOn => [.pwr, .flt, .glb, .hst, .tsk, .med, .drc, .kite, .way, .cmp, .sec, .hlt, .pair, .mesh, .arena]
  | .boot _ => [.flt, .glb, .hst, .tsk, .med, .drc, .kite, .sec, .pair, .mesh, .free]
  | .linkTraining _ _ _ _ => [.glb, .hst]
  | .linkDowntrain _ _ => [.flt, .hst]
  | .ideCheckFail _ => [.flt, .hst, .sec]
  | .ideKeyRefresh _ => [.hst, .sec]
  | .gpfPhase1 => [.hst, .tsk, .hostMem]
  | .gpfPhase2 => [.hst]
  | .cxlMemRead _ _ => [.flt, .hst, .drc]
  | .cxlMemWrite _ _ _ => [.flt, .hst, .drc, .arena]
  | .hdmDecoderCommit _ _ _ _ _ _ => [.hst]
  | .handshakeTimeout _ _ => [.flt]
  | .islandIdleGate _ => [.pwr]
  | .islandWake _ _ => [.pwr, .flt, .kite, .way, .hlt]
  | .programComplete _ => [.flt, .tsk, .med, .sec, .pair, .mesh, .free]
  | .segmentSealTimeout _ => [.med, .sec, .pair, .mesh, .free]
  | .programFail _ _ => [.med, .sec, .pair, .mesh, .free]
  | .eraseComplete _ _ => [.flt, .tsk, .med, .sec, .pair, .mesh, .free]
  | .journalLineFlush => [.med, .sec, .pair, .mesh, .free]
  | .checkpointStart => [.med, .sec, .pair, .mesh, .free]
  | .checkpointRootWrite => [.med, .sec, .pair, .mesh, .free]
  | .leafFetchComplete _ _ _ => [.flt, .med, .sec, .mesh, .free]
  | .pageOut _ _ => [.med, .sec, .pair, .mesh, .free]
  | .gcRun => [.pwr, .med, .sec, .pair, .mesh, .free]
  | .gcCommit _ _ => [.med, .sec, .pair, .mesh, .free]
  | .bandErase _ => [.med, .sec, .pair, .mesh, .free]
  | .patrolRead _ _ => [.flt, .med, .sec, .mesh, .free]
  | .patrolOverdue _ => [.flt, .med]
  | .relocation _ _ => [.flt, .med, .sec, .pair, .mesh, .free]
  | .pwrFailAssert => [.pwr, .glb, .hst, .tsk, .med, .drc, .kite, .cmp, .sec, .hlt, .pair, .mesh, .hostMem, .arena, .free]
  | .dumpComplete _ => [.pwr, .flt, .glb, .hst, .tsk, .med, .drc, .kite, .way, .cmp, .sec, .hlt, .pair, .mesh, .arena]
  | .warmRestart => [.pwr, .glb, .med, .drc, .kite, .way, .cmp, .sec, .pair, .mesh, .free]
  | .holdupSenseStuck => [.pwr, .flt, .glb, .tsk, .med, .drc, .kite, .way, .cmp, .sec, .pair, .mesh, .free]
  | .refreshDue _ _ => [.drc]
  | .mr4Poll _ _ => [.flt, .drc]
  | .dqsRetrack _ _ => [.drc]
  | .dramFullRetrain _ _ => [.drc]
  | .scrub _ _ => [.flt, .med, .drc, .sec, .mesh, .free]
  | .dramRequest _ => [.flt, .med, .drc, .sec, .mesh, .arena, .free]
  | .rowIdleTimeout _ _ => [.drc]
  | .nrReseed _ => [.drc, .free]
  | .instanceDispatch _ => [.med, .kite, .sec, .hlt]
  | .quantumExpiry _ => [.kite, .free]
  | .waitPreempt _ => [.kite, .free]
  | .contextSaveDone _ => [.med, .drc, .kite]
  | .laneBlockVisible _ _ _ => [.flt, .med, .drc, .kite, .cmp, .sec, .pair, .mesh, .free]
  | .worklistExtend _ _ => [.med, .kite, .sec, .mesh, .free]
  | .timerExpiry _ _ _ => [.kite]
  | .mboxDeliver _ _ _ => [.kite]
  | .engineRequestDone _ _ _ _ _ => [.flt, .hst, .tsk, .med, .drc, .kite, .way, .cmp, .sec, .hostMem, .arena, .free]
  | .kAdd _ _ _ => [.med, .kite, .sec, .free]
  | .kSub _ _ _ => [.med, .kite, .sec, .free]
  | .kAdc _ _ _ => [.med, .kite, .sec, .free]
  | .kSbc _ _ _ => [.med, .kite, .sec, .free]
  | .kAnd _ _ _ => [.med, .kite, .sec, .free]
  | .kOr _ _ _ => [.med, .kite, .sec, .free]
  | .kXor _ _ _ => [.med, .kite, .sec, .free]
  | .kMov _ _ _ => [.med, .kite, .sec, .free]
  | .kCmp _ _ _ => [.med, .kite, .sec, .free]
  | .kTst _ _ _ => [.med, .kite, .sec, .free]
  | .kShl _ _ _ => [.med, .kite, .sec, .free]
  | .kShr _ _ _ => [.med, .kite, .sec, .free]
  | .kSar _ _ _ => [.med, .kite, .sec, .free]
  | .kRol _ _ _ => [.med, .kite, .sec, .free]
  | .kMul _ _ _ => [.med, .kite, .sec, .free]
  | .kMulh _ _ _ => [.med, .kite, .sec, .free]
  | .kAddi _ _ _ _ => [.med, .kite, .sec, .free]
  | .kCmpi _ _ _ _ => [.med, .kite, .sec, .free]
  | .kMovi _ _ _ _ => [.med, .kite, .sec, .free]
  | .kBeq _ _ => [.med, .kite, .sec, .free]
  | .kBne _ _ => [.med, .kite, .sec, .free]
  | .kBcs _ _ => [.med, .kite, .sec, .free]
  | .kBcc _ _ => [.med, .kite, .sec, .free]
  | .kBmi _ _ => [.med, .kite, .sec, .free]
  | .kBpl _ _ => [.med, .kite, .sec, .free]
  | .kBms _ _ => [.med, .kite, .sec, .free]
  | .kBmc _ _ => [.med, .kite, .sec, .free]
  | .kBhi _ _ => [.med, .kite, .sec, .free]
  | .kBls _ _ => [.med, .kite, .sec, .free]
  | .kBge _ _ => [.med, .kite, .sec, .free]
  | .kBlt _ _ => [.med, .kite, .sec, .free]
  | .kBgt _ _ => [.med, .kite, .sec, .free]
  | .kBle _ _ => [.med, .kite, .sec, .free]
  | .kBal _ _ => [.med, .kite, .sec, .free]
  | .kBvs _ _ => [.med, .kite, .sec, .free]
  | .kLd _ _ _ _ => [.flt, .med, .kite, .sec, .free]
  | .kSt _ _ _ _ => [.flt, .med, .kite, .sec, .free]
  | .kLdb _ _ _ _ => [.flt, .med, .kite, .sec, .free]
  | .kStb _ _ _ _ => [.flt, .med, .kite, .sec, .free]
  | .kIn _ _ _ _ => [.flt, .med, .kite, .sec, .free]
  | .kOut _ _ _ => [.med, .kite, .way, .cmp, .sec, .free]
  | .kJmp _ _ => [.med, .kite, .sec, .free]
  | .kCall _ _ => [.med, .kite, .sec, .free]
  | .kRet _ => [.med, .kite, .sec, .free]
  | .kRep _ _ _ => [.flt, .med, .kite, .way, .cmp, .sec, .free]
  | .kBrpt _ _ => [.med, .kite, .sec, .free]
  | .kCopy _ _ _ => [.flt, .med, .kite, .way, .cmp, .sec, .free]
  | .kMatch _ _ _ _ => [.flt, .med, .kite, .way, .cmp, .sec, .free]
  | .kSeek _ _ _ _ => [.flt, .med, .kite, .way, .cmp, .sec, .free]
  | .kPull _ _ _ _ => [.flt, .med, .kite, .way, .cmp, .sec, .free]
  | .kPush _ _ _ _ => [.flt, .med, .kite, .way, .cmp, .sec, .free]
  | .kFill _ _ _ _ => [.flt, .med, .kite, .way, .cmp, .sec, .free]
  | .kiteNop _ => [.med, .kite, .sec, .free]
  | .kWait _ => [.med, .kite, .sec, .free]
  | .kHalt _ => [.med, .kite, .sec]
  | .kTrap _ => [.med, .kite, .sec, .free]
  | .kMovsr _ _ _ _ => [.med, .kite, .sec, .free]
  | .kLdpw _ _ _ _ => [.flt, .med, .kite, .sec, .free]
  | .scanData _ _ _ _ => [.flt, .med, .kite, .sec, .free]
  | .scanRelease _ _ _ => [.med, .kite, .way, .cmp, .sec, .free]
  | .evClear _ _ _ => [.med, .kite, .way, .cmp, .sec, .free]
  | .timerLoad _ _ _ => [.med, .kite, .way, .cmp, .sec, .free]
  | .mboxRecv _ _ _ => [.flt, .med, .kite, .sec, .free]
  | .mboxSend _ _ _ => [.med, .kite, .way, .cmp, .sec, .free]
  | .wmGo _ _ _ => [.med, .kite, .way, .cmp, .sec, .free]
  | .dgOpen _ _ _ => [.med, .kite, .way, .cmp, .sec, .free]
  | .dgFeed _ _ _ => [.med, .kite, .way, .cmp, .sec, .free]
  | .dgFinal _ _ _ => [.med, .kite, .way, .cmp, .sec, .free]
  | .cpGo _ _ _ => [.med, .kite, .way, .cmp, .sec, .free]
  | .dmaPut _ _ _ => [.med, .kite, .way, .cmp, .sec, .free]
  | .dmaAppend _ _ _ => [.med, .kite, .way, .cmp, .sec, .free]
  | .waymarkSearchQueue _ _ => [.flt, .drc, .kite, .way, .free]
  | .sweepStep _ _ _ _ => [.flt, .drc, .way, .free]
  | .tableReady _ => [.way]
  | .pipeGrant _ => [.cmp]
  | .inlineCompress _ _ _ => [.flt, .med, .cmp]
  | .inlineInflate _ _ _ => [.flt, .tsk, .cmp]
  | .digestQuantum => [.glb, .hst, .tsk, .drc, .kite, .sec, .hostMem, .arena, .free]
  | .dgIdleTimeout _ => [.sec]
  | .securityAlarm _ => [.flt, .tsk, .kite, .sec]
  | .periodicSelftest _ => [.flt, .glb, .tsk, .kite, .sec]
  | .keyUnwrap _ => [.sec]
  | .linkRekey _ => [.sec]
  | .tetherFlitReceive _ => [.flt, .sec, .pair]
  | .tetherReplayTimeout => [.pair]
  | .tetherLinkReset _ _ => [.flt, .sec, .pair]
  | .hello _ => [.tsk, .med, .sec, .pair, .mesh, .free]
  | .keyTransfer _ _ _ _ => [.tsk, .med, .sec, .pair, .mesh, .free]
  | .mirrorWrite _ _ _ _ _ _ => [.flt, .sec, .pair, .mesh, .free]
  | .mirrorConfirm _ => [.tsk, .sec, .pair, .mesh, .free]
  | .mirrorRelease _ => [.pair]
  | .journal _ _ => [.flt, .med, .sec, .pair, .mesh, .free]
  | .journalConfirm _ => [.med, .sec, .pair, .mesh, .free]
  | .root _ _ => [.med, .sec, .pair, .mesh, .free]
  | .heartbeat _ _ _ _ => [.tsk, .med, .sec, .pair, .mesh, .free]
  | .heartbeatSend => [.tsk, .med, .sec, .pair, .mesh, .free]
  | .heartbeatTimeout => [.pair]
  | .probeTimer => [.tsk, .med, .sec, .pair, .mesh, .free]
  | .claimRetry => [.sec, .pair, .mesh, .free]
  | .partnerDirectoryRebuild _ => [.pair]
  | .blockRead _ _ _ _ _ => [.sec, .pair, .mesh, .free]
  | .blockData _ _ _ => [.pair]
  | .handback _ _ _ _ _ => [.flt, .med, .pair]
  | .handbackPass _ => [.flt, .tsk, .med, .sec, .pair, .mesh, .free]
  | .cutover => [.tsk, .med, .sec, .pair, .mesh, .free]
  | .yieldMsg => [.tsk, .med, .sec, .pair, .mesh, .free]
  | .unpair => [.tsk, .med, .sec, .pair, .mesh, .free]
  | .tetherStable => [.pair]
  | .trailFlitReceive _ _ => [.flt, .sec, .mesh, .free]
  | .trailReplayTimeout _ => [.flt, .sec, .mesh, .free]
  | .portFailed _ => [.sec, .mesh, .free]
  | .linkHello _ _ _ _ _ _ => [.flt, .sec, .mesh, .free]
  | .linkState _ _ _ => [.sec, .mesh]
  | .unreachable _ _ _ => [.med, .sec, .mesh, .free]
  | .probe _ _ _ _ _ => [.sec, .mesh, .free]
  | .probeAck _ _ _ _ _ _ _ => [.tsk, .med, .sec, .pair, .mesh, .free]
  | .claim _ _ _ _ _ _ => [.sec, .pair, .mesh, .free]
  | .claimGrant _ _ _ _ _ _ => [.tsk, .med, .sec, .pair, .mesh, .free]
  | .claimRefuse _ _ _ _ _ _ => [.hst, .tsk, .med, .drc, .cmp, .sec, .pair, .mesh, .hostMem, .arena, .free]
  | .tunnel _ _ => [.flt, .tsk, .med, .sec, .pair, .mesh, .free]
  | .groupHello _ _ _ _ _ _ => [.tsk, .med, .sec, .pair, .mesh, .free]
  | .intent _ _ _ _ _ _ => [.sec, .mesh, .free]
  | .intentReply _ _ _ _ _ => [.sec, .mesh, .free]
  | .stripeDeadline _ _ => [.sec, .mesh, .free]
  | .contrib _ _ _ _ _ _ _ => [.mesh]
  | .close _ _ _ _ => [.sec, .mesh, .free]
  | .parityProgram _ _ => [.med, .sec, .pair, .mesh, .free]
  | .parityDone _ _ _ _ => [.sec, .pair, .mesh, .free]
  | .gossip _ _ _ => [.med, .sec, .pair, .mesh, .free]
  | .gossipSend => [.sec, .mesh, .free]
  | .release _ _ _ => [.med, .sec, .pair, .mesh, .free]
  | .resend _ _ _ _ => [.sec, .mesh, .free]
  | .locate _ _ _ _ _ _ => [.sec, .mesh, .free]
  | .locateAns _ _ _ => [.tsk, .med, .sec, .pair, .mesh, .free]
  | .reconReq _ _ _ _ _ _ _ _ _ _ => [.flt, .sec, .mesh, .free]
  | .reconSlice _ _ _ _ _ _ => [.med, .sec, .mesh, .free]
  | .rebuildPlan _ _ _ _ _ => [.flt, .sec, .mesh, .free]
  | .rebuildPart _ _ _ _ _ _ _ => [.tsk, .med, .sec, .pair, .mesh, .free]
  | .memberUpdate _ _ _ => [.sec, .mesh, .free]
  | .memberLost _ _ => [.flt, .tsk, .med, .sec, .pair, .mesh, .free]
  | .stripeIndexReady => [.sec, .mesh, .free]
  | .glideIdleEntry => [.pwr, .tsk]
  | .mooredIdleEntry => [.pwr, .tsk]
  | .transitionPhaseEnd _ _ => [.pwr, .flt, .glb, .hst, .tsk, .med, .drc, .kite, .way, .cmp, .sec, .hlt, .pair, .mesh, .arena, .free]
  | .commandedEntryTimeout => [.pwr, .tsk]
  | .linkL2Entry => [.pwr]
  | .ballastArmExpiry => [.pwr]
  | .mooredWake _ => [.pwr]
  | .wakeNAssert => [.pwr]
  | .wakeStuck => [.pwr, .flt]
  | .brownOut => [.pwr, .flt]
  | .inputGlitch _ => [.pwr]
  | .fpRdyInChange _ => [.pwr, .glb, .tsk]
  | .faultRaise _ _ => [.flt]
  | .faultReaction => [.pwr, .flt, .glb, .hst, .tsk, .med, .drc, .kite, .way, .cmp, .sec, .hlt, .pair, .mesh, .hostMem, .arena, .free]
  | .quietPeriodEnd => [.flt]
  | .containReady _ => [.flt, .hst, .sec, .mesh]
  | .shadowWindowEnd _ => [.flt]
  | .loopAction _ _ => [.flt, .hlt]
  | .loopUndo _ _ => [.hlt]
  | .degradationMeasure _ _ => [.hlt]
  | .thermalThrottle _ => [.flt, .glb, .hlt]
  | .avsWriteFail => [.flt, .hlt]
  | .plannerRun _ _ => [.pwr, .flt, .tsk, .kite, .hlt]
  | .planTimeout => [.pwr, .flt, .tsk, .kite, .hlt]
  | .testSliceStart _ => [.pwr, .kite, .hlt, .free]
  | .testSliceAbort _ => [.pwr, .kite, .hlt]
  | .testSliceDone _ _ _ => [.pwr, .flt, .glb, .tsk, .kite, .sec, .hlt, .free]
  | .forcedWindowAnnounce _ => [.hlt]
  | .forcedWindow _ _ _ => [.flt, .glb, .tsk, .kite, .sec, .hlt, .free]
  | .footpathCommand _ _ => [.pwr, .glb, .tsk, .kite, .sec]
  | .footpathData _ _ => [.glb, .tsk, .sec]
  | .footpathNak _ _ => [.glb, .tsk]
  | .footpathBaud _ _ => [.glb, .tsk]
  | .footpathBreak => [.glb, .tsk, .sec]
  | .packetIdleTimeout => [.glb, .tsk]
  | .dataChunkTimeout => [.tsk, .sec]
  | .fpRxdWake => [.pwr]
  | .ballastExit => [.pwr, .glb, .hst, .tsk]
  | .pwrFailDeassert => [.pwr]
  | .wakeNRelease => [.pwr]
  | .railLoss => [.pwr, .flt, .glb, .hst, .tsk, .med, .drc, .kite, .way, .cmp, .sec, .hlt, .pair, .mesh, .arena]
  | .doeMessage _ => [.hst, .sec, .free]
  | .illegalInstruction _ _ => [.flt, .med, .kite, .sec]
  | .tapInstruction _ => [.glb]
  | .tapReset => [.glb]
  | .footpathBadKind _ => [.glb, .tsk]
  | .groupHelloTimeout _ => [.tsk, .mesh]

/-- What every step keeps: the Result Arena lists no zero byte and both memories list their bytes by rising address. -/
def Inv (s : State) : Prop := Memory.wf s.arena = true ∧ Memory.rising s.hostMem = true

/-- A core executes an instruction of `n` words: it runs an instance (or tries again while STALLED), and the word at its pc is `k`
(R213, R227; Table 8.6). -/
abbrev Executes (s : State) (core : CoreId) (i : Instance) (k : KOp) (n : Nat) : Prop :=
  executing s core.val = some i ∧ kiteFetch s core.val i = some (k, n)

end Sys2Proof.Machine
end

