-- ==== Sys2Proof/Certificates/Slice0/Obligations.lean ====
section
/-! DEFINITION. The statements about the model. -/

open Sys2Proof Sys2Proof.Machine

/-- Slot writes, acceptance, range locks, staging admission, a fragment list's read and a command's completion have the effect their rules give and complete. -/
def Obligations.IntakeAndLocksComplete : Prop :=
  -- SLOT_WRITE: with the link in CXL mode, a whole 64-byte write with a right CHK to the empty slot of an existing queue latches the packet as HELD, and nothing else changes.
  (∀ (s : State) (q : Nat) (x : Queue) (b : List Byte),
    q < 0x100000 → queueAt s q = some x → x.deleting = none → (q = 0 → s.tsk.ring0En = true) → slotHeld s q = false →
    b.length = 64 → chkOk b = true → s.hst.mode = 2 → s.hst.ioHeld = false → s.pwr.linkPm ≠ 2 →
    s.flt.containing.contains islHost = false →
    exec (.slotWrite (64 * q) b true false true) s =
      .next { s with tsk := { s.tsk with held := s.tsk.held ++ [(q, parsePacket b)] } }) ∧
  -- SLOT_WRITE: a write to a slot that holds a packet overruns it: the held packet stays, TSK_OVERRUNS counts, and TSK_OVERRUN_LASTQ names the queue.
  (∀ (s : State) (q : Nat) (x : Queue) (b : List Byte),
    q < 0x100000 → queueAt s q = some x → x.deleting = none → (q = 0 → s.tsk.ring0En = true) → slotHeld s q = true →
    b.length = 64 → s.hst.mode = 2 → s.hst.ioHeld = false → s.pwr.linkPm ≠ 2 →
    s.flt.containing.contains islHost = false →
    ∃ t, exec (.slotWrite (64 * q) b true false true) s = .next t ∧ t.tsk.held = s.tsk.held ∧
      t.tsk.overruns = satInc s.tsk.overruns ∧ t.tsk.overrunLastQ = q ∧ ChangesOnly [.tsk] s t) ∧
  -- INTAKE_ACCEPT: with the intake open and a tag free, the packet latched first among queues below their limit is accepted: a command with it holds the tag and the next acceptance sequence number, its slot is EMPTY, and no other slot newly holds a packet.
  (∀ (s : State) (q tag : Nat) (p : Packet),
    intakeOpen s = true → s.glb.fpHeld = none → nextTag s = some tag → nextHeld s = some (q, p) →
    ∃ t, exec .intakeAccept s = .next t ∧ t.tsk.nextSeq = s.tsk.nextSeq + 1 ∧ t.tsk.accepted = wrapInc s.tsk.accepted ∧
      (∃ o ∈ t.tsk.ops, o.tag = tag ∧ o.seq = s.tsk.nextSeq ∧ o.src = .queue q ∧ o.pkt = p) ∧
      slotHeld t q = false ∧ (∀ h ∈ t.tsk.held, h ∈ s.tsk.held)) ∧
  -- LOCK_GRANT: a waiting lock that no earlier conflicting entry stands before is granted, and its command goes on.
  (∀ (s : State) (tag : Nat) (o : Op) (l : Lock),
    findOp s tag = some o → s.tsk.locks.find? (fun l => l.tag == tag && !l.granted) = some l → o.stage = .waitLock →
    grantable s l = true → (mget s.med.volumes o.pkt.vol).map (fun v => v.gen) = o.volGen →
    exec (.lockGrant tag) s = .next { s with tsk := { s.tsk with
      locks := s.tsk.locks.map (fun m => if m.tag = tag then { m with granted := true } else m),
      ops := s.tsk.ops.map (fun x => if x.tag = tag then { x with stage := afterLock o } else x) } }) ∧
  -- LOCK_ENTRY_FREE: the earliest-accepted command that waits for a table entry takes a free one.
  (∀ (s : State) (o : Op) (l : Lock),
    s.tsk.locks.length < 16384 → s.tsk.ops.find? (fun o => o.stage == .waitEntry) = some o → lockEntry o = some l →
    exec .lockEntryFree s = .next { s with tsk := { s.tsk with
      locks := s.tsk.locks ++ [l],
      ops := s.tsk.ops.map (fun x => if x.tag = o.tag then { x with stage := .waitLock } else x) } }) ∧
  -- STAGING_ADMIT: the earliest-accepted write that waits for room is admitted once there is room.
  (∀ (s : State) (o : Op),
    s.tsk.ops.find? (fun o => o.waitStaging) = some o → hasRoom s o.pkt = true →
    exec .stagingAdmit s = .next { s with tsk := { s.tsk with
      ops := s.tsk.ops.map (fun x => if x.tag = o.tag then { x with waitStaging := false, aux := 1 } else x) } }) ∧
  -- FRAGMENT_LIST_READ: the list is read from DPTR over CXL.cache; a list whose lengths add up to DLEN is taken, and the command goes on.
  (∀ (s : State) (tag : Nat) (o : Op) (b : List Byte) (l : List (Nat × Nat)),
    findOp s tag = some o → o.stage = .waitFrags → entryUp s = true → (o.pkt.opc = 0x0603 → o.aux ≠ 0) →
    parseFrags 4096 b = some l → fragSum l = o.pkt.dlen →
    exec (.fragmentListRead tag (.data b)) s = .next { s with
      hst := { s.hst with bus := .rdShared o.pkt.dptr :: s.hst.bus },
      tsk := { s.tsk with ops := s.tsk.ops.map (fun x => if x.tag = tag then { x with frags := l, stage := .ready } else x) } }) ∧
  -- COMMAND_COMPLETE: a queue command whose final reply is known (for a WRITE, SUCCESS) is completed, and its reply entry waits at its queue's ring; besides the command tracker, only the granules it held in device bias change.
  (∀ (s : State) (tag : Nat) (o : Op) (r : Reply) (x : Ring),
    findOp s tag = some o → o.stage = .finished → o.reply = some r → fromFootpath o = false → o.discard = false →
    (o.pkt.opc = 0x0402 → r.status = stSuccess) → mget s.tsk.rings o.ring = some x →
    ∃ t, exec (.commandComplete tag) s = .next t ∧
      t.tsk.rings = mmod s.tsk.rings o.ring (fun x => { x with waiting := x.waiting ++
        [{ entry := entryOf o r, tag := o.tag, after := o.after }] }) ∧
      (findOp t tag).map (fun o => o.stage) = some .completed ∧ ChangesOnly [.tsk, .hst] s t)

/-- Reply entries, notices and messages: reply writes, ring notices, coalescing, MSI-X and the ring registers answer the next state the rules give. -/
def Obligations.RepliesComplete : Prop :=
  -- REPLY_WRITE of a command's reply: the entry goes to the ring tail with its phase bit, the tail moves on, and the command's tag is freed.
  (∀ (s : State) (n : Nat) (r : Ring) (w : Waiting),
    mget s.tsk.rings n = some r → ringActive s n = true → ringFull r = false → entryUp s = true →
    r.waiting.find? (fun w => replyGone s w.after) = some w → r.unsignalled + 1 < r.count →
    exec (.replyWrite n .command) s = .next { (if s.hst.mode = 2 then issue s (.wrCur (r.base + 32 * r.tail)) else s) with
      hostMem := storeAll s.hostMem (r.base + 32 * r.tail) (entryBytes w.entry (!r.tailWrap)),
      tsk := { s.tsk with
        rings := mset s.tsk.rings n (Ring.written { r with waiting := dropFirst (fun x => x == w) r.waiting } s.glb.lifetime),
        ops := s.tsk.ops.filter (fun o => o.tag != w.tag), freedTags := s.tsk.freedTags ++ [w.tag] } }) ∧
  -- REPLY_WRITE of an event: the oldest event of the buffer goes to ring 0.
  (∀ (s : State) (r : Ring) (e : Entry) (rest : List Entry),
    mget s.tsk.rings 0 = some r → ringActive s 0 = true → ringFull r = false → entryUp s = true →
    s.tsk.events = e :: rest → r.unsignalled + 1 < r.count →
    exec (.replyWrite 0 .event) s = .next { (if s.hst.mode = 2 then issue s (.wrCur (r.base + 32 * r.tail)) else s) with
      hostMem := storeAll s.hostMem (r.base + 32 * r.tail) (entryBytes e (!r.tailWrap)),
      tsk := { s.tsk with events := rest, rings := mset s.tsk.rings 0 (r.written s.glb.lifetime) } }) ∧
  -- REPLY_WRITE_ERROR: an entry the host answers with an error counts as written, its bytes do not land, and UNIT_DEFERRED of HOST is raised, which asks for an event where its sticky bit was clear.
  (∀ (s : State) (r : Ring) (e : Entry) (rest : List Entry),
    mget s.tsk.rings 0 = some r → ringActive s 0 = true → ringFull r = false → entryUp s = true → s.hst.mode = 2 →
    s.tsk.events = e :: rest → r.unsignalled + 1 < r.count →
    exec (.replyWriteError 0 .event) s = .next (raiseAt { s with
      hst := { s.hst with bus := .wrCur (r.base + 32 * r.tail) :: s.hst.bus },
      tsk := { s.tsk with events := rest, rings := mset s.tsk.rings 0 (r.written s.glb.lifetime) } }
      (unit islHost 3) none (!s.flt.sticky.contains (unit islHost 3)) none)) ∧
  -- RING_FULL_NOTICE: a ring that has been full for 100 ms with replies waiting and has not been noticed posts RING_FULL to ring 0 with its number, and RRH_STATUS.FULL_SEEN is set.
  (∀ (s : State) (n : Nat) (r : Ring),
    mget s.tsk.rings n = some r → n ≠ 0 → ringFull r = true → (r.waiting ≠ [] ∨ s.tsk.overrun.any (fun x => x.1 == n) = true) →
    r.noticed = false → r.fullAt + 100 ≤ s.glb.lifetime →
    exec (.ringFullNotice n) s = .next (postEvent { s with
      tsk := { s.tsk with rings := mset s.tsk.rings n { r with fullSeen := true, noticed := true } } } stRingFull n 0 0)) ∧
  -- COALESCE_TIMEOUT: a ring with unsignalled entries sends its MSI-X message, and none of its entries is unsignalled any more.
  (∀ (s : State) (n : Nat) (r : Ring),
    mget s.tsk.rings n = some r → r.time ≠ 0 → r.intMask = false → r.unsignalled ≠ 0 →
    exec (.coalesceTimeout n) s = .next (msixSend { s with
      tsk := { s.tsk with rings := mmod s.tsk.rings n (fun r => { r with unsignalled := 0 }) } } r.vector)) ∧
  -- MSIX_UNMASK: unmasking the one vector whose pending bit is set sends its message and clears the bit.
  (∀ (s : State) (v addr data : Nat),
    v < 2048 → s.hst.msixEn = true → s.hst.msixFmask = false → s.hst.msixPending = [v] → ioUp s = true →
    ∃ t, exec (.msixUnmask (.entry v addr data false)) s = .next t ∧
      t.hst.msixSent = (addr, data) :: s.hst.msixSent ∧ t.hst.msixPending = [] ∧
      t.hst.msixTable = mset s.hst.msixTable v { addr, data, mask := false } ∧ ChangesOnly [.hst] s t) ∧
  -- RRH_HEAD_WRITE: a head that releases entries the ring holds is taken.
  (∀ (s : State) (n v : Nat) (r : Ring),
    barUp s = true → mget s.tsk.rings n = some r → bits v 15 0 < ringSize r →
    (ringPos r (bits v 15 0) (bit v 16) + 2 * ringSize r - ringPos r r.head r.headWrap) % (2 * ringSize r) ≤ ringUsed r →
    ∃ x, exec (.rrhHeadWrite n v) s = .next { s with tsk := { s.tsk with rings := mset s.tsk.rings n x } } ∧
      x.head = bits v 15 0 ∧ x.headWrap = bit v 16 ∧ x.tail = r.tail ∧ x.tailWrap = r.tailWrap ∧ x.headErr = r.headErr ∧
      x.waiting = r.waiting) ∧
  -- RRH_HEAD_WRITE: an index past the ring's end leaves the head and sets HEAD_ERR.
  (∀ (s : State) (n v : Nat) (r : Ring),
    barUp s = true → mget s.tsk.rings n = some r → ringSize r ≤ bits v 15 0 →
    exec (.rrhHeadWrite n v) s = .next { s with tsk := { s.tsk with rings := mset s.tsk.rings n { r with headErr := true } } }) ∧
  -- RRH_INT_MASK_CLEAR: clearing INT_MASK with unsignalled entries sends one message.
  (∀ (s : State) (n v : Nat) (r : Ring),
    barUp s = true → mget s.tsk.rings n = some r → r.intMask = true → bit v 3 = false → r.unsignalled ≠ 0 →
    exec (.rrhIntMaskClear n v) s = .next (msixSend { s with tsk := { s.tsk with rings := mset s.tsk.rings n { r with
      fullSeen := r.fullSeen && !bit v 2, headErr := r.headErr && !bit v 4, intMask := false, unsignalled := 0 } } } r.vector)) ∧
  -- TSK_RING0_CTRL_WRITE: EN with a size exponent from 6 to 16 enables ring 0 at that size.
  (∀ (s : State) (v : Nat),
    barUp s = true → s.tsk.ring0En = false → bit v 31 = true → 6 ≤ bits v 4 0 → bits v 4 0 ≤ 16 → s.flt.failoverEvent = none →
    exec (.tskRing0CtrlWrite v) s = .next { s with tsk := { s.tsk with
      rings := mmod s.tsk.rings 0 (fun r => { r with sizeLog2 := bits v 4 0 }), ring0En := true } }) ∧
  -- MSIX_UNMASK: the writes of the other host registers outside BAR0 and BAR2 take effect: viral enable, RAS mask and status, AER status, D0 or D3hot.
  (∀ (s : State) (b : Bool) (rows : List Nat),
    s.hst.mode ≠ 0 → s.hst.ioHeld = false →
    exec (.msixUnmask (.viral b)) s = .next { s with hst := { s.hst with viralEn := b } } ∧
    exec (.msixUnmask (.rasMask rows)) s = .next { s with hst := { s.hst with rasMask := (List.range 6).filter rows.contains } } ∧
    exec (.msixUnmask (.rasSeverity rows)) s = .next { s with hst := { s.hst with rasFatal := (List.range 4).filter rows.contains } } ∧
    (∃ t, exec (.msixUnmask (.rasClear rows)) s = .next t ∧ (∀ n, n ∈ t.hst.ras ↔ n ∈ s.hst.ras ∧ n ∉ rows) ∧ ChangesOnly [.hst] s t) ∧
    (∃ t, exec (.msixUnmask (.aerClear rows)) s = .next t ∧ (∀ n, n ∈ t.hst.aer ↔ n ∈ s.hst.aer ∧ n ∉ rows) ∧ ChangesOnly [.hst] s t) ∧
    exec (.msixUnmask (.powerState b)) s = .next { s with hst := { s.hst with d3hot := b } })

/-- Register writes with rows of their own answer the next state their register's table gives, and change nothing else. -/
def Obligations.RegisterWritesComplete : Prop :=
  -- HST_BIAS_FLIP_GO: GO over granules within the Arena, to device bias, puts every one of them there and sets DONE; only HOST's state changes.
  (∀ (s : State) (v : Nat),
    barUp s = true → s.hst.flipBusy = false → bit v 31 = true → bit v 30 = true → bits v 19 0 ≠ 0 →
    s.hst.flipStart + bits v 19 0 ≤ s.hst.arenaCur * 4096 →
    ∃ t, exec (.hstBiasFlipGo v) s = .next t ∧ t.hst.flipDone = true ∧ t.hst.flipCount = bits v 19 0 ∧ t.hst.flipToDevice = true ∧
      t.hst.deviceBias = (span s.hst.flipStart (bits v 19 0)).foldl linsert s.hst.deviceBias ∧ ChangesOnly [.hst] s t) ∧
  -- FLT_ACK_WRITE: the selected classes are unacknowledged no more, and with none left the quiet timer stops.
  (∀ (s : State) (v : Nat), barUp s = true →
    ∃ t, exec (.fltAckWrite v) s = .next t ∧ t.flt.unack = s.flt.unack.filter (fun c => !bit v c.1) ∧
      (t.flt.unack = [] → t.flt.remain = 0) ∧ (t.flt.unack ≠ [] → t.flt.remain = s.flt.remain) ∧ ChangesOnly [.flt] s t) ∧
  -- FLT_SRC_WRITE: a level in the range of the selected source's class becomes its reaction.
  (∀ (s : State) (v : Nat),
    barUp s = true → srcImplemented s.flt.sel = true → srcFixed s.flt.sel = false →
    (classRange (srcClass s.flt.sel)).1 ≤ bits v 7 5 → bits v 7 5 ≤ (classRange (srcClass s.flt.sel)).2 →
    ∃ t, exec (.fltSrcWrite v) s = .next t ∧ t.flt.cfgReject = s.flt.cfgReject ∧
      t.flt.reaction = (if bits v 7 5 = srcDefault s.flt.sel then mdel s.flt.reaction s.flt.sel
        else mset s.flt.reaction s.flt.sel (bits v 7 5)) ∧ ChangesOnly [.flt] s t) ∧
  -- FLT_SRC_WRITE: a level outside the range, or one for a source that cannot be changed, sets CFG_REJECT and nothing else.
  (∀ (s : State) (v : Nat),
    barUp s = true → (srcImplemented s.flt.sel = false ∨ srcFixed s.flt.sel = true ∨ bits v 7 5 < (classRange (srcClass s.flt.sel)).1 ∨
      (classRange (srcClass s.flt.sel)).2 < bits v 7 5) →
    exec (.fltSrcWrite v) s = .next { s with flt := { s.flt with cfgReject := true } }) ∧
  -- FLT_CE_LIMIT_WRITE: a limit of 16 or more is taken, and a smaller one sets CFG_REJECT.
  (∀ (s : State) (v : Nat), barUp s = true →
    exec (.fltCeLimitWrite v) s = .next { s with flt := if bits v 15 0 < 16 then { s.flt with cfgReject := true }
      else { s.flt with ceLimit := bits v 15 0 } }) ∧
  -- FP_LOCK_WRITE: GLB_CTRL.FP_LOCK is set by a 1 and never cleared.
  (∀ (s : State) (v : Nat), barUp s = true →
    exec (.fpLockWrite v) s = .next { s with glb := { s.glb with fpLock := s.glb.fpLock || bit v 0 } }) ∧
  -- MED_GC_CTRL_WRITE: an urgent threshold of 5 or more below the start threshold is taken, and any other pair sets CFG_REJECT.
  (∀ (s : State) (v : Nat), barUp s = true →
    exec (.medGcCtrlWrite v) s = .next { s with med := if bits v 15 8 < 5 ∨ bits v 7 0 ≤ bits v 15 8 then { s.med with cfgReject := true }
      else { s.med with gcStart := bits v 7 0, gcUrgent := bits v 15 8, stripeAware := bit v 16 } }) ∧
  -- MED_SEAL_TIMER_WRITE: 1 to 1,000 ms is taken, and any other value sets CFG_REJECT.
  (∀ (s : State) (v : Nat), barUp s = true →
    exec (.medSealTimerWrite v) s = .next { s with med := if bits v 9 0 = 0 ∨ 1000 < bits v 9 0 then { s.med with cfgReject := true }
      else { s.med with sealMs := bits v 9 0 } }) ∧
  -- MED_PATROL_CTRL_WRITE: the fields are taken, and a level or a limit written 0 keeps its value.
  (∀ (s : State) (v : Nat), barUp s = true →
    exec (.medPatrolCtrlWrite v) s = .next { s with med := { s.med with
      relocLevel := if bits v 1 0 = 0 then s.med.relocLevel else bits v 1 0,
      bandLimit := if bits v 15 8 = 0 then s.med.bandLimit else bits v 15 8, patrolPause := bit v 16 } }) ∧
  -- HLT_POLICY_WRITE to HLT_POLICY_V: a rising pair from 650 to 850 mV is taken, and any other sets CFG_REJECT.
  (∀ (s : State) (v : Nat), barUp s = true →
    exec (.hltPolicyWrite false v) s = .next { s with
      hlt := if 650 ≤ bits v 9 0 ∧ bits v 9 0 ≤ bits v 25 16 ∧ bits v 25 16 ≤ 850 then { s.hlt with vmin := bits v 9 0, vmax := bits v 25 16 }
      else { s.hlt with cfgReject := true } }) ∧
  -- HLT_POLICY_WRITE to HLT_POLICY_CLK: a floor of 50 to 100 and a slack target of 2 to 6 are taken, and any other pair sets CFG_REJECT.
  (∀ (s : State) (v : Nat), barUp s = true →
    exec (.hltPolicyWrite true v) s = .next { s with
      hlt := if 50 ≤ bits v 6 0 ∧ bits v 6 0 ≤ 100 ∧ 2 ≤ bits v 11 8 ∧ bits v 11 8 ≤ 6 then { s.hlt with floor := bits v 6 0, slackTarget := bits v 11 8 }
      else { s.hlt with cfgReject := true } }) ∧
  -- PAIR_WITNESS_WRITE: in SOLO the witness entry is set; in any other state PAIR_EVENTS[0] is set instead.
  (∀ (s : State) (i v : Nat), barUp s = true →
    exec (.pairWitnessWrite i v) s = .next { s with pair := if s.pair.state = 0 then
        { s.pair with witness := lmod s.pair.witness i (fun _ => (bits v 10 0, bit v 31)) }
      else { s.pair with events := s.pair.events ||| 1 } }) ∧
  -- MESH_REBUILD_CTRL_WRITE: 1 to 12 is taken, and any other rate sets CFG_REJECT.
  (∀ (s : State) (v : Nat), barUp s = true →
    exec (.meshRebuildCtrlWrite v) s = .next { s with mesh := if bits v 3 0 = 0 ∨ 12 < bits v 3 0 then { s.mesh with cfgReject := true }
      else { s.mesh with rate := bits v 3 0 } })

/-- Writes to cluster and Waymark table registers, the digest idle time and BAR0 at large answer the next state their tables give. -/
def Obligations.TableAndClusterWritesComplete : Prop :=
  -- KCL_CFG_WRITE to a cluster that is not busy: RING 0 to 2 and a quantum of 1 or more are taken, and the ring size is in force at once.
  (∀ (s : State) (n v : Nat) (c : Cluster),
    barUp s = true → s.kite.clusters[n]? = some c → clusterBusy s n = false → bits v 1 0 ≠ 3 → bits v 15 8 ≠ 0 →
    ∃ t, exec (.kclCfgWrite n v) s = .next t ∧ ChangesOnly [.kite] s t ∧
      clusterAt t n = { c with ringCfg := bits v 1 0, ringNow := bits v 1 0, quantum := bits v 15 8, preempt := bit v 16 } ∧
      t.kite.cores = s.kite.cores ∧ t.kite.insts = s.kite.insts) ∧
  -- KCL_CFG_WRITE with RING 3 sets CFG_REJECT and leaves the ring size.
  (∀ (s : State) (n v : Nat) (c : Cluster),
    barUp s = true → s.kite.clusters[n]? = some c → bits v 1 0 = 3 →
    ∃ t, exec (.kclCfgWrite n v) s = .next t ∧ (clusterAt t n).cfgReject = true ∧ (clusterAt t n).ringCfg = c.ringCfg ∧ ChangesOnly [.kite] s t) ∧
  -- WAYC_TABLE_ENABLE: a disabled table takes its fields when its banks exist and no other enabled table has one; its shadow units clear, its array units are invalid, and the table is not READY.
  (∀ (s : State) (i v : Nat),
    barUp s = true → (wTable s i).en = false → bit v 31 = true → bits v 5 4 ≠ 3 → bits v 10 6 ≠ 0 → bits v 10 6 ≤ 16 →
    bits v 3 0 + wUnits (bits v 5 4) * bits v 10 6 ≤ 16 →
    (span (bits v 3 0) (wUnits (bits v 5 4) * bits v 10 6)).any (bankTaken s i) = false →
    exec (.waycTableEnable i v) s = .next { s with way := { s.way with
      tables := lmod s.way.tables i (fun _ => { firstBank := bits v 3 0, width := bits v 5 4, copies := bits v 10 6, en := true,
                                                ready := false, clearing := true }),
      shadow := clearBanks s.way.shadow (span (bits v 3 0) (wUnits (bits v 5 4) * bits v 10 6)),
      array := s.way.array.map (fun x => if (span (bits v 3 0) (wUnits (bits v 5 4) * bits v 10 6)).contains (x.1 / 4096) then
        (x.1, { x.2 with valid := false }) else x) } }) ∧
  -- WAYC_TABLE_DISABLE: an enabled table is disabled and the units of its banks are gone.
  (∀ (s : State) (i v : Nat),
    barUp s = true → (wTable s i).en = true → bit v 31 = false →
    exec (.waycTableDisable i v) s = .next { s with way := { s.way with
      tables := lmod s.way.tables i (fun _ => { wTable s i with en := false, ready := false, clearing := false }),
      array := clearBanks s.way.array (tableBanks (wTable s i)), shadow := clearBanks s.way.shadow (tableBanks (wTable s i)) } }) ∧
  -- SEC_DG_CTRL_WRITE: 1 to 3,600 s is taken, and any other value is ignored.
  (∀ (s : State) (v : Nat), barUp s = true →
    exec (.secDgCtrlWrite v) s = .next { s with sec := if bits v 11 0 = 0 ∨ 3600 < bits v 11 0 then s.sec
      else { s.sec with idleS := bits v 11 0 } }) ∧
  -- REGISTER_WRITE: a 4-byte write to HST_BIAS_FLIP_START sets its granule and nothing else.
  (∀ (s : State) (v : Nat), barUp s = true →
    exec (.registerWrite 0x10020 4 v) s = .next { s with hst := { s.hst with flipStart := bits (v % 2 ^ 32) 18 0 } }) ∧
  -- REGISTER_WRITE: an aligned 8-byte write acts as two 4-byte writes, the lower address first.
  (∀ (s u t : State) (off v : Nat),
    barUp s = true → off % 8 = 0 → off + 8 ≤ 0x200000 → v < 2 ^ 64 → exec (.registerWrite off 4 (v % 2 ^ 32)) s = .next u → barUp u = true →
    exec (.registerWrite (off + 4) 4 (v / 2 ^ 32)) u = .next t → exec (.registerWrite off 8 v) s = .next t) ∧
  -- REGISTER_WRITE: a write while BAR0 writes do not reach the registers changes nothing.
  (∀ (s : State) (off n v : Nat), barUp s = false → exec (.registerWrite off n v) s = .next s)

/-- Admin and Queue commands have the effect their rules give and end with the reply of their tables. -/
def Obligations.AdminCommandsComplete : Prop :=
  -- IDENTIFY with P0 = 0: the 4,096-byte device structure is moved to the data buffer, and the reply is SUCCESS.
  (∀ (s : State) (tag : Nat) (o : Op), opFor s tag 0x0101 = some o →
    outUp s o = true →
    o.pkt.p0 = 0 →
    exec (.identify tag) s = .next (finish (deliver s o 0 (identifyDevice s)) tag (ok 0 0))) ∧
  -- IDENTIFY with another P0: the volume list from P1 on is moved, and RESULT0 is the number of volumes listed.
  (∀ (s : State) (tag : Nat) (o : Op), opFor s tag 0x0101 = some o →
    outUp s o = true →
    o.pkt.p0 ≠ 0 →
    exec (.identify tag) s = .next (finish (deliver s o 0 (identifyVolumes s o.pkt.p1)) tag (ok (listedVolumes s o.pkt.p1).length 0))) ∧
  -- GET_LOG: DLEN bytes of the log from offset P1 on are moved, zeros past its end, and RESULT0 is the log's length.
  (∀ (s : State) (tag : Nat) (o : Op), opFor s tag 0x0102 = some o →
    outUp s o = true →
    exec (.getLog tag) s = .next (finish (deliver s o 0 (field (logBytes s o.pkt.p0) o.pkt.p1 o.pkt.dlen)) tag (ok (logBytes s o.pkt.p0).length 0))) ∧
  -- SET_FEATURE with no earlier SET_FEATURE of the same feature left: the feature P0 has the value P1, no other feature changes, and the reply is SUCCESS.
  (∀ (s : State) (tag : Nat) (o : Op), opFor s tag 0x0103 = some o →
    earlierOp s o.seq (fun q => q.opc == 0x0103 && q.p0 == o.pkt.p0) = false →
    ∃ t, exec (.setFeature tag) s = .next (finish t tag (ok 0 0)) ∧ feature t o.pkt.p0 = o.pkt.p1 ∧
      (∀ n, n ≠ o.pkt.p0 → feature t n = feature s n) ∧ ChangesOnly [.glb] s t) ∧
  -- GET_FEATURE: RESULT1 is the feature's value, and RESULT0 too, but for feature 0x01, whose RESULT0 is the Arena size in force.
  (∀ (s : State) (tag : Nat) (o : Op), opFor s tag 0x0104 = some o →
    exec (.getFeature tag) s = .next (finish s tag (ok (if o.pkt.p0 = 1 then s.hst.arenaCur else feature s o.pkt.p0) (feature s o.pkt.p0)))) ∧
  -- QUEUE_CREATE: the queue P0 exists with reply ring P1, outstanding limit P2 and the ordering class P3.
  (∀ (s : State) (tag : Nat) (o : Op), opFor s tag 0x0201 = some o →
    checkObjects s o.pkt = none →
    exec (.queueCreate tag) s = .next (finish (upTsk s (fun t => { t with
      queues := mset t.queues o.pkt.p0 (Queue.mk o.pkt.p1 o.pkt.p2 (o.pkt.p3 == 1) none) })) tag (ok 0 0))) ∧
  -- QUEUE_DELETE: once no other command of the queue is left and no ABORTED of a packet from its slot waits, the queue is gone and the reply is SUCCESS.
  (∀ (s : State) (tag : Nat) (o : Op), opFor s tag 0x0202 = some o →
    s.tsk.ops.any (fun x => x.src == .queue o.pkt.p0 && x.tag != tag) = false →
    s.tsk.overrun.any (fun x => x.2.qid == o.pkt.p0) = false →
    exec (.queueDelete tag) s = .next (finish (upTsk s (fun t => { t with queues := mdel t.queues o.pkt.p0 })) tag (ok 0 0))) ∧
  -- QUEUE_DELETE waits while another command of the queue has not had its reply written.
  (∀ (s : State) (tag : Nat) (o : Op), opFor s tag 0x0202 = some o →
    s.tsk.ops.any (fun x => x.src == .queue o.pkt.p0 && x.tag != tag) = true →
    exec (.queueDelete tag) s = .next (running s tag)) ∧
  -- RING_CREATE: ring P0 has its base, size, vector and coalescing values, its head and tail at 0 and its status clear.
  (∀ (s : State) (tag : Nat) (o : Op), opFor s tag 0x0203 = some o →
    checkObjects s o.pkt = none →
    exec (.ringCreate tag) s = .next (finish (upTsk s (fun t => { t with 
      rings := mset t.rings o.pkt.p0 { Ring.zero with
        base := o.pkt.addr, sizeLog2 := o.pkt.p1, vector := o.pkt.p2, count := o.pkt.p3, time := o.pkt.p4 } })) tag (ok 0 0))) ∧
  -- RING_DELETE: a ring that no queue uses and that no reply is owed to is gone.
  (∀ (s : State) (tag : Nat) (o : Op), opFor s tag 0x0204 = some o →
    checkObjects s o.pkt = none →
    ringOwed s o.pkt.p0 tag = false →
    exec (.ringDelete tag) s = .next (finish (upTsk s (fun t => { t with rings := mdel t.rings o.pkt.p0 })) tag (ok 0 0))) ∧
  -- QUEUE_QUERY: RESULT0 is the next acceptance sequence number and RESULT1 packs the queue's settings and occupancy.
  (∀ (s : State) (tag : Nat) (o : Op) (x : Queue), opFor s tag 0x0205 = some o →
    queueAt s o.pkt.p0 = some x →
    exec (.queueQuery tag) s = .next (finish s tag (ok s.tsk.nextSeq (x.ring + 4096 * x.limit + 2 ^ 21 * b2n x.classF +
      2 ^ 22 * b2n (s.tsk.held.any (fun h => h.1 == o.pkt.p0)) + 2 ^ 23 * queueTags s o.pkt.p0)))) ∧
  -- ABORT of an abortable command that is incomplete and not aborted before: that command ends as `abortOp` ends it (its final reply is ABORTED), and the ABORT's own reply, SUCCESS, is to be written after it.
  (∀ (s : State) (tag : Nat) (a o : Op), findOp s tag = some a →
    a.pkt.opc = 0x0F01 →
    a.stage = .ready →
    (namedOps s a.pkt).find? (fun o => o.stage != .completed) = some o →
    o.stage ≠ .completed →
    o.aborted = false →
    abortable o.pkt.opc = true →
    o.pkt.opc ≠ 0x0603 →
    exec (.abort tag) s = .next (modOp (finish (abortOp s o) tag (ok 0 0)) tag (fun x => { x with after := some o.seq }))) ∧
  -- ABORT that names nothing ends NOT_FOUND.
  (∀ (s : State) (tag : Nat) (a : Op), findOp s tag = some a →
    a.pkt.opc = 0x0F01 →
    a.stage = .ready →
    namedOps s a.pkt = [] →
    namedHeld s a.pkt = none →
    exec (.abort tag) s = .next (finish s tag { status := stNotFound })) ∧
  -- NOP: RESULT0 is its own acceptance sequence number.
  (∀ (s : State) (tag : Nat) (o : Op), opFor s tag 0x0F02 = some o →
    exec (.nop tag) s = .next (finish s tag (ok o.seq 0)))

/-- Firmware download, activation and the activation reset have the effect their rules give and complete. -/
def Obligations.FirmwareCommandsComplete : Prop :=
  -- FW_DOWNLOAD outside recovery: the bytes go into the staging buffer of target P1 at offset P0.
  (∀ (s : State) (tag : Nat) (o : Op) (host : HostRead) (d : List Byte), opFor s tag 0x0105 = some o →
    norDirect s = false →
    input s o host o.pkt.dlen = some (.data d) →
    exec (.fwDownload tag host) s = .next (finish (stageDownload s o.pkt.p1 o.pkt.p0 d) tag (ok 0 0))) ∧
  -- FW_DOWNLOAD in ROM recovery: the bytes go into the primary NOR slot itself, each 64 KiB sector erased when it is first touched.
  (∀ (s : State) (tag : Nat) (o : Op) (host : HostRead) (d : List Byte), opFor s tag 0x0105 = some o →
    norDirect s = true →
    input s o host o.pkt.dlen = some (.data d) →
    exec (.fwDownload tag host) s = .next (finish (recoveryDownload s o.pkt.p0 d) tag (ok 0 0))) ∧
  -- FW_ACTIVATE of a staged slot for target 0 that passes its checks begins to program the primary slot, which is invalid until that ends.
  (∀ (s : State) (tag : Nat) (o : Op) (nor : Bool), opFor s tag 0x0106 = some o →
    o.stage ≠ .running →
    norDirect s = false →
    s.glb.stagedTarget = some o.pkt.p0 →
    o.pkt.p0 = 0 →
    slotState s.glb.staged s.glb.keyDigest = 0 →
    s.glb.programming = none →
    exec (.fwActivate tag nor) s = .next (running (upGlb s (fun g => { g with programming := some g.staged, primary := NorSlot.reset })) tag)) ∧
  -- FW_ACTIVATE without PARAM1[0], its programming ended and read back: the primary slot holds what was programmed, the activation counts, the change is pending, and the reply is SUCCESS.
  (∀ (s : State) (tag : Nat) (o : Op) (b : SlotBytes), opFor s tag 0x0106 = some o →
    o.stage = .running →
    s.glb.programming = some b →
    o.pkt.p0 = 0 →
    o.pkt.p1 = 0 →
    o.tag = tag →
    ∃ t, exec (.fwActivate tag true) s = .next (finish t tag (ok 0 s.glb.fwVersion)) ∧ t.glb.primary = slotOf b s.glb.keyDigest ∧ t.glb.programming = none ∧
      t.glb.golden = s.glb.golden ∧ t.glb.activations = s.glb.activations + 1 ∧ t.glb.lastActivation = s.glb.lifetime ∧
      t.glb.activatePending = true ∧ ChangesOnly [.glb] s t) ∧
  -- FW_ACTIVATE with PARAM1[0] = 1, its programming ended and read back: the primary slot holds what was programmed, and an activation reset is to follow the reply.
  (∀ (s : State) (tag : Nat) (o : Op) (b : SlotBytes), opFor s tag 0x0106 = some o →
    o.stage = .running →
    s.glb.programming = some b →
    o.pkt.p0 = 0 →
    o.pkt.p1 = 1 →
    o.tag = tag →
    ∃ t, exec (.fwActivate tag true) s = .next (finish t tag (ok 0 (slotVersion b))) ∧ t.glb.primary = slotOf b s.glb.keyDigest ∧ t.glb.programming = none ∧
      t.glb.golden = s.glb.golden ∧ t.glb.activations = s.glb.activations + 1 ∧ t.glb.activation = some tag ∧ ChangesOnly [.glb] s t) ∧
  -- FW_ACTIVATE of a staged slot that fails its checks ends INVALID_FIELD 0x18 and changes no slot.
  (∀ (s : State) (tag : Nat) (o : Op) (nor : Bool), opFor s tag 0x0106 = some o →
    o.stage ≠ .running →
    norDirect s = false →
    s.glb.stagedTarget = some o.pkt.p0 →
    o.pkt.p0 = 0 →
    slotState s.glb.staged s.glb.keyDigest ≠ 0 →
    slotState s.glb.staged s.glb.keyDigest ≠ 3 →
    exec (.fwActivate tag nor) s = .next (finish s tag (bad 0x18))) ∧
  -- ACTIVATION_RESET: once the reply of the FW_ACTIVATE has been written, the device begins a reset of cause 5.
  (∀ (s : State) (tag : Nat), s.glb.activation = some tag →
    findOp s tag = none →
    exec .activationReset s = .next (beginReset (upGlb s (fun g => { g with activation := none })) 5))

/-- Volume commands, the format walk and the key unwrap have the effect their rules give and complete. -/
def Obligations.VolumeCommandsComplete : Prop :=
  -- VOLUME_CREATE without a partner: the volume gets a fresh key, its record in the key log and its directory, and the reply is SUCCESS.
  (∀ (s : State) (tag : Nat) (o : Op), opFor s tag 0x0301 = some o →
    o.stage ≠ .running →
    readOnly s = false →
    checkObjects s o.pkt = none →
    jRoom s 8 = true →
    pendingKey s o.pkt.vol = none →
    partnered s = false →
    exec (.volumeCreate tag) s = .next (finish (addVolume (putKey (freshKey s).2 { vol := o.pkt.vol, keyId := (freshKey s).1, kind := 0, capacity := o.pkt.addr, attrs := o.pkt.p0 })
      o.pkt.vol o.pkt.addr o.pkt.p0 (freshKey s).1 false) tag (ok 0 0))) ∧
  -- VOLUME_DELETE of a volume no partner mirrors: its map, its key and its staged blocks go, and the reply is SUCCESS.
  (∀ (s : State) (tag : Nat) (o : Op), opFor s tag 0x0302 = some o →
    o.stage ≠ .running →
    sameVolume s o = true →
    jRoom s 8 = true →
    (partnered s && !isFoster s o.pkt.vol) = false →
    exec (.volumeDelete tag) s = .next (finish (removeVolume s o.pkt.vol) tag (ok 0 0))) ∧
  -- VOLUME_QUERY: RESULT0 is the capacity and RESULT1 the attributes and states of the volume.
  (∀ (s : State) (tag : Nat) (o : Op) (v : Volume), opFor s tag 0x0303 = some o →
    volAt s o.pkt.vol = some v →
    exec (.volumeQuery tag) s = .next (finish s tag (ok v.capacity (b2n v.comp + 2 * b2n v.cold + 4 * b2n v.foster + 8 * b2n (readOnly s) + 16 * b2n v.formatting)))) ∧
  -- FORMAT that keeps the key: the staged blocks go, every directory entry of the volume is UNMAPPED, the walk is queued with the write sequence number of its start, and the reply is SUCCESS.
  (∀ (s : State) (tag : Nat) (o : Op) (v : Volume), opFor s tag 0x0304 = some o →
    o.stage ≠ .running →
    readOnly s = false →
    sameVolume s o = true →
    jRoom s 1 = true →
    mget s.med.volumes o.pkt.vol = some v →
    bit o.pkt.p0 0 = false →
    let u := unmapFormat (unstageVolume s o.pkt.vol) o.pkt.vol
    exec (.format tag) s = .next (finish (upMed u (fun m => { m with formats := m.formats ++
      [(⟨o.pkt.vol, o.pkt.p0 % 2, u.med.wseq, v.dir.flatMap (fun d => stretchUnits (unstageVolume s o.pkt.vol) o.pkt.vol d.1)⟩ : FormatWait)] })) tag (ok 0 0))) ∧
  -- FORMAT_WALK with no walk running starts the earliest format: PRG shows it with its units, none of them done.
  (∀ (s : State) (f : FormatWait) (rest : List FormatWait), s.glb.ready = true →
    s.med.progress.state = 0 →
    s.med.formats = f :: rest →
    walkBands s ≠ [] →
    ∃ t, exec .formatWalk s = .next t ∧ t.med.formats = rest ∧ t.med.progress.state = 2 ∧ t.med.progress.vol = f.vol ∧
      t.med.progress.units = walkBands s ∧ t.med.progress.done = 0 ∧ t.med.progress.total = (walkBands s).length ∧ ChangesOnly [.med] s t) ∧
  -- FORMAT_WALK with a walk running takes one more band.
  (∀ (s : State) (b : Nat), s.glb.ready = true →
    s.med.progress.state = 2 →
    s.med.progress.units[s.med.progress.done]? = some b →
    s.med.progress.done + 1 < s.med.progress.total →
    exec .formatWalk s = .next (upMed (walkBand s b) (fun m => { m with progress := { s.med.progress with done := s.med.progress.done + 1 } }))) ∧
  -- KEY_UNWRAP, with the key cache's island running: the key of a volume that is not cached enters the cache and CRY_KEY_MISSES counts.
  (∀ (s : State) (vol : Nat) (l : List Nat), (mget s.med.volumes vol).isSome = true →
    s.sec.keyCache.contains vol = false →
    s.sec.errorState = false →
    inReset s islCrypt = false →
    keyRoom s = some l →
    exec (.keyUnwrap vol) s = .next { s with
      sec := { s.sec with keyCache := vol :: l, keyMisses := wrapInc s.sec.keyMisses } })

/-- READ, READ_TO_ARENA, COMPARE and the inline inflation have the effect their rules give and complete. -/
def Obligations.ReadCommandsComplete : Prop :=
  -- READ: once every block is at hand, their bytes go to the data buffer in LBA order and the reply says how they were read.
  (∀ (s : State) (tag : Nat) (o : Op) (media : MediaIn) (l : List (Nat × Got)) (t : State), opFor s tag 0x0401 = some o →
    sameVolume s o = true →
    fosterWaits s o.pkt.vol = false →
    ioUp s = true →
    readAll s o media = (some l, t) →
    exec (.read tag media) s = .next (finish (deliver (gotBytes (readMarks t o media) l).2 o 0 (gotBytes (readMarks t o media) l).1) tag (readReply t o.pkt.vol l))) ∧
  -- A block that staging holds reads as the staged bytes, and looking for it changes nothing.
  (∀ (s : State) (m : MediaIn) (v lba : Nat) (x : Staged), stagedAt s v lba = some x →
    x.lost = false →
    m.badStaged.contains (v, lba) = false →
    getBlock s m v lba false = (.data x.data false, s)) ∧
  -- READ that waits for a map page, a key or a reconstruction stays accepted: what it set going stands, and it runs again later.
  (∀ (s : State) (tag : Nat) (o : Op) (media : MediaIn) (t : State), opFor s tag 0x0401 = some o →
    sameVolume s o = true →
    fosterWaits s o.pkt.vol = false →
    ioUp s = true →
    readAll s o media = (none, t) →
    exec (.read tag media) s = .next (t)) ∧
  -- READ_TO_ARENA: the bytes land in the Result Arena at DPTR, whose granules are in device bias.
  (∀ (s : State) (tag : Nat) (o : Op) (media : MediaIn) (l : List (Nat × Got)) (t : State), opFor s tag 0x0407 = some o →
    sameVolume s o = true →
    fosterWaits s o.pkt.vol = false →
    readAll s o media = (some l, t) →
    exec (.readToArena tag media) s = .next (finish (arenaWrite (flipToDevice (gotBytes (readMarks t o media) l).2 o o.pkt.dptr o.pkt.dlen) o.pkt.dptr
      (gotBytes (readMarks t o media) l).1) tag (readReply t o.pkt.vol l))) ∧
  -- COMPARE of equal bytes: SUCCESS with RESULT0 all ones and RESULT1 0.
  (∀ (s : State) (tag : Nat) (o : Op) (host : HostRead) (media : MediaIn) (given : List Byte) (l : List (Nat × Got)) (t : State), opFor s tag 0x0405 = some o →
    sameVolume s o = true →
    fosterWaits s o.pkt.vol = false →
    input s o host o.pkt.dlen = some (.data given) →
    readAll s o media = (some l, t) →
    failedLbas l = [] →
    firstDiff 0 given (gotBytes (readMarks t o media) l).1 = none →
    exec (.compare tag host media) s = .next (finish (readMarks t o media) tag (ok 0xFFFFFFFFFFFFFFFF 0))) ∧
  -- COMPARE of different bytes: RESULT0 is the offset of the first difference and RESULT1 is 1.
  (∀ (s : State) (tag : Nat) (o : Op) (host : HostRead) (media : MediaIn) (given : List Byte) (l : List (Nat × Got)) (t : State) (n : Nat), opFor s tag 0x0405 = some o →
    sameVolume s o = true →
    fosterWaits s o.pkt.vol = false →
    input s o host o.pkt.dlen = some (.data given) →
    readAll s o media = (some l, t) →
    failedLbas l = [] →
    firstDiff 0 given (gotBytes (readMarks t o media) l).1 = some n →
    exec (.compare tag host media) s = .next (finish (readMarks t o media) tag (ok n 1))) ∧
  -- INLINE_INFLATE: with a pipe, a compressed block that a command reads is inflated once, and CMPC_DEC_BYTES counts its bytes.
  (∀ (s : State) (tag lba : Nat) (media : MediaIn) (o : Op) (b d : List Byte), findOp s tag = some o →
    isRead o.pkt.opc = true →
    o.stage = .ready →
    o.pkt.addr ≤ lba →
    lba < o.pkt.addr + o.pkt.blocks →
    o.inflated.contains lba = false →
    o.inflateBad.contains lba = false →
    (getBlock s media o.pkt.vol lba false).1 = .packed b →
    onPipe s { cls := .inlineC, tag := tag, num := lba, decomp := true } = true →
    inflateBlock b = some d →
    ∃ u, exec (.inlineInflate tag lba media) s = .next (modOp (upCmp u (fun c => { c with decBytes := (c.decBytes + d.length) % 2 ^ 64 })) tag
      (fun x => { x with inflated := x.inflated ++ [lba] })) ∧ u = leavePipe s { cls := .inlineC, tag := tag, num := lba, decomp := true })

/-- WRITE, TRIM, WRITE_ZEROES and FLUSH have the effect their rules give and complete. -/
def Obligations.WriteCommandsComplete : Prop :=
  -- WRITE without a partner: its blocks land in staging as the newest versions, done, and it completes with SUCCESS.
  (∀ (s : State) (tag : Nat) (o : Op) (host : HostRead) (b : List Byte), opFor s tag 0x0402 = some o →
    readOnly s = false →
    sameVolume s o = true →
    o.stage ≠ .running →
    fosterWaits s o.pkt.vol = false →
    admitted s o = true →
    input s o host o.pkt.dlen = some (.data b) →
    mirroring s = false →
    exec (.write tag host) s = .next (complete (settleStaged (landWrite s o false b) o) tag (ok 0 0))) ∧
  -- WRITE beside a partner: its blocks land in staging and are sent to the partner's mirror, and the command goes on.
  (∀ (s : State) (tag : Nat) (o : Op) (host : HostRead) (b : List Byte), opFor s tag 0x0402 = some o →
    readOnly s = false →
    sameVolume s o = true →
    o.stage ≠ .running →
    fosterWaits s o.pkt.vol = false →
    admitted s o = true →
    input s o host o.pkt.dlen = some (.data b) →
    mirroring s = true →
    isFoster s o.pkt.vol = false →
    exec (.write tag host) s = .next (sendMirror (landWrite s o true b) o 0 o.pkt.blocks b)) ∧
  -- WRITE whose mirror entry the partner has confirmed: its blocks become the newest versions and it completes.
  (∀ (s : State) (tag : Nat) (o : Op) (host : HostRead), opFor s tag 0x0402 = some o →
    readOnly s = false →
    sameVolume s o = true →
    o.stage = .running →
    o.mirror = none →
    exec (.write tag host) s = .next (complete (settleStaged s o) tag (ok 0 0))) ∧
  -- WRITE on a device that is READ_ONLY ends READ_ONLY and changes no block.
  (∀ (s : State) (tag : Nat) (o : Op) (host : HostRead), opFor s tag 0x0402 = some o →
    readOnly s = true →
    exec (.write tag host) s = .next (dropWrite s o { status := stReadOnly })) ∧
  -- TRIM without a partner, its map pages resident and the journal with room: every block of the range takes the Zero form under fresh write sequence numbers, staged versions are superseded, and it completes.
  (∀ (s : State) (tag : Nat) (o : Op) (u : State), opFor s tag 0x0403 = some o →
    readOnly s = false →
    sameVolume s o = true →
    o.stage ≠ .running →
    fosterWaits s o.pkt.vol = false →
    admitted s o = true →
    mirroring s = false →
    pagesReady (running s tag) o.pkt.vol (rangeStretches o.pkt.addr o.pkt.blocks) = (true, u) →
    jRoom u ((rangeStretches o.pkt.addr o.pkt.blocks).length + 2) = true →
    o.tag = tag →
    ∃ t, exec (.trim tag) s = .next (complete (releaseMirror t) tag (ok 0 0)) ∧
      ChangesOnly [.pair] (unstageRange (zeroRange u o.pkt.vol o.pkt.addr o.pkt.blocks) o.pkt.vol o.pkt.addr o.pkt.blocks o.seq) t) ∧
  -- WRITE_ZEROES without a partner, its map pages resident and the journal with room: every block of the range takes the Zero form under fresh write sequence numbers, staged versions are superseded, and it completes.
  (∀ (s : State) (tag : Nat) (o : Op) (u : State), opFor s tag 0x0406 = some o →
    readOnly s = false →
    sameVolume s o = true →
    o.stage ≠ .running →
    fosterWaits s o.pkt.vol = false →
    admitted s o = true →
    mirroring s = false →
    pagesReady (running s tag) o.pkt.vol (rangeStretches o.pkt.addr o.pkt.blocks) = (true, u) →
    jRoom u ((rangeStretches o.pkt.addr o.pkt.blocks).length + 2) = true →
    o.tag = tag →
    ∃ t, exec (.writeZeroes tag) s = .next (complete (releaseMirror t) tag (ok 0 0)) ∧
      ChangesOnly [.pair] (unstageRange (zeroRange u o.pkt.vol o.pkt.addr o.pkt.blocks) o.pkt.vol o.pkt.addr o.pkt.blocks o.seq) t) ∧
  -- FLUSH: once every write of the volume accepted before it has ended, it completes.
  (∀ (s : State) (tag : Nat) (o : Op), opFor s tag 0x0404 = some o →
    sameVolume s o = true →
    writesEnded s o.pkt.vol o.seq = true →
    exec (.flush tag) s = .next (finish s tag (ok 0 0))) ∧
  -- FLUSH waits while a write of the volume accepted before it goes on.
  (∀ (s : State) (tag : Nat) (o : Op), opFor s tag 0x0404 = some o →
    sameVolume s o = true →
    writesEnded s o.pkt.vol o.seq = false →
    exec (.flush tag) s = .next (running s tag))

/-- Pipe grants, COMPRESS, DECOMPRESS and the inline compression have the effect their rules give and complete. -/
def Obligations.CompressionCommandsComplete : Prop :=
  -- PIPE_GRANT: a free compression pipe takes the next request in its class's turn, with feature 0x04 as it stands then, and the class is remembered.
  (∀ (s : State) (n : Nat) (r : PipeReq), freePipe s false = some n →
    nextRequest s false s.cmp.lastComp = some r →
    exec (.pipeGrant false) s = .next { s with
      cmp := { s.cmp with waiting := s.cmp.waiting.filter (· != r), lastComp := r.cls.code, gains := mset s.cmp.gains n (feature s 4),
                          comp := mset s.cmp.comp n r } }) ∧
  -- PIPE_GRANT: a free decompression pipe takes the next request in its class's turn, and the class is remembered.
  (∀ (s : State) (n : Nat) (r : PipeReq), freePipe s true = some n →
    nextRequest s true s.cmp.lastDecomp = some r →
    exec (.pipeGrant true) s = .next { s with
      cmp := { s.cmp with waiting := s.cmp.waiting.filter (· != r), lastDecomp := r.cls.code, decomp := mset s.cmp.decomp n r } }) ∧
  -- COMPRESS on its pipe with enough gain: the framed result goes to ADDR, and RESULT0 is its length.
  (∀ (s : State) (tag : Nat) (o : Op) (host : HostRead) (checker : Checker) (b out : List Byte), opFor s tag 0x0501 = some o →
    s.sec.errorState = false →
    onPipe s (cmdPipe tag false) = true →
    addrUp s o = true →
    input s o host o.pkt.dlen = some (.data b) →
    compressReq (bits o.pkt.p1 1 0) (bit o.pkt.p1 2) (bit o.pkt.p1 3) o.pkt.flag8 (gainOf s (cmdPipe tag false) o.pkt.p2) o.pkt.p0 b checker = .success out →
    ∃ u, exec (.compress tag host checker) s = .next (finish (deliverAddr (upCmp u (fun c => { c with outBytes := (c.outBytes + out.length) % 2 ^ 64 })) o out) tag (ok out.length 0)) ∧
      u = upCmp (flipDest (leavePipe s (cmdPipe tag false)) o o.pkt.p0) (fun c => { c with inBytes := (c.inBytes + b.length) % 2 ^ 64 })) ∧
  -- COMPRESS on its pipe without enough gain and ALLOW_STORED: the stored form goes to ADDR, STORED.
  (∀ (s : State) (tag : Nat) (o : Op) (host : HostRead) (checker : Checker) (b out : List Byte), opFor s tag 0x0501 = some o →
    s.sec.errorState = false →
    onPipe s (cmdPipe tag false) = true →
    addrUp s o = true →
    input s o host o.pkt.dlen = some (.data b) →
    compressReq (bits o.pkt.p1 1 0) (bit o.pkt.p1 2) (bit o.pkt.p1 3) o.pkt.flag8 (gainOf s (cmdPipe tag false) o.pkt.p2) o.pkt.p0 b checker = .stored out →
    ∃ u, exec (.compress tag host checker) s = .next (finish (deliverAddr (upCmp (upCmp u (fun c => { c with noGain := wrapInc c.noGain })) (fun c => { c with outBytes := (c.outBytes + out.length) % 2 ^ 64 })) o out) tag { status := stStored, r0 := out.length }) ∧
      u = upCmp (flipDest (leavePipe s (cmdPipe tag false)) o o.pkt.p0) (fun c => { c with inBytes := (c.inBytes + b.length) % 2 ^ 64 })) ∧
  -- COMPRESS on its pipe without enough gain: NO_GAIN, and the destination's bytes are open.
  (∀ (s : State) (tag : Nat) (o : Op) (host : HostRead) (checker : Checker) (b : List Byte), opFor s tag 0x0501 = some o →
    s.sec.errorState = false →
    onPipe s (cmdPipe tag false) = true →
    addrUp s o = true →
    input s o host o.pkt.dlen = some (.data b) →
    compressReq (bits o.pkt.p1 1 0) (bit o.pkt.p1 2) (bit o.pkt.p1 3) o.pkt.flag8 (gainOf s (cmdPipe tag false) o.pkt.p2) o.pkt.p0 b checker = .noGain →
    ∃ u, exec (.compress tag host checker) s = .next (finish (spoil (upCmp u (fun c => { c with noGain := wrapInc c.noGain })) o) tag { status := stNoGain }) ∧
      u = upCmp (flipDest (leavePipe s (cmdPipe tag false)) o o.pkt.p0) (fun c => { c with inBytes := (c.inBytes + b.length) % 2 ^ 64 })) ∧
  -- DECOMPRESS on its pipe of a sound stream: its bytes go to ADDR, and RESULT0 is their number.
  (∀ (s : State) (tag : Nat) (o : Op) (host : HostRead) (b out : List Byte), opFor s tag 0x0502 = some o →
    s.sec.errorState = false →
    onPipe s (cmdPipe tag true) = true →
    addrUp s o = true →
    input s o host o.pkt.dlen = some (.data b) →
    inflate (bits o.pkt.p1 1 0) b o.pkt.p0 = .ok out →
    ∃ u, exec (.decompress tag host) s = .next (finish (deliverAddr (upCmp u (fun c => { c with decBytes := (c.decBytes + out.length) % 2 ^ 64 })) o out) tag (ok out.length 0)) ∧
      u = flipDest (leavePipe s (cmdPipe tag true)) o o.pkt.p0) ∧
  -- DECOMPRESS whose output passes the capacity: LENGTH_ERROR with DETAIL 2 and the capacity.
  (∀ (s : State) (tag : Nat) (o : Op) (host : HostRead) (b : List Byte), opFor s tag 0x0502 = some o →
    s.sec.errorState = false →
    onPipe s (cmdPipe tag true) = true →
    addrUp s o = true →
    input s o host o.pkt.dlen = some (.data b) →
    inflate (bits o.pkt.p1 1 0) b o.pkt.p0 = .error .overflow →
    exec (.decompress tag host) s = .next (finish (spoil (flipDest (leavePipe s (cmdPipe tag true)) o o.pkt.p0) o) tag { status := stLengthLong, detail := 2, r1 := o.pkt.p0 })) ∧
  -- DECOMPRESS of a malformed stream: DECOMP_ERROR with the condition and its offset, and CMPC_FORMAT_ERRORS counts.
  (∀ (s : State) (tag : Nat) (o : Op) (host : HostRead) (b : List Byte) (d off : Nat), opFor s tag 0x0502 = some o →
    s.sec.errorState = false →
    onPipe s (cmdPipe tag true) = true →
    addrUp s o = true →
    input s o host o.pkt.dlen = some (.data b) →
    inflate (bits o.pkt.p1 1 0) b o.pkt.p0 = .error (.malformed d off) →
    exec (.decompress tag host) s = .next (finish (spoil (upCmp (flipDest (leavePipe s (cmdPipe tag true)) o o.pkt.p0) (fun c => { c with formatErrors := satInc c.formatErrors })) o) tag
      { status := stDecomp, detail := d, r0 := off })) ∧
  -- INLINE_COMPRESS on its pipe: the block's verdict (its stream's length, or 0 for uncompressed) is kept with it and counted.
  (∀ (s : State) (vol lba : Nat) (v : Volume) (x : Staged) (checker : Checker), mget s.med.volumes vol = some v →
    stagedAt s vol lba = some x →
    v.comp = true →
    x.comp = none →
    x.lost = false →
    onPipe s { cls := .inlineC, tag := vol, num := lba, decomp := false } = true →
    ∃ t, exec (.inlineCompress vol lba checker) s = .next t ∧ t.med.staging = s.med.staging.map (fun y => if y.vol = vol ∧ y.lba = lba ∧ y.seq = x.seq then
      { y with comp := some (inlineJudge (gainOf s { cls := .inlineC, tag := vol, num := lba, decomp := false } 0xFF) x.data checker).1 } else y) ∧ ChangesOnly [.flt, .cmp, .med] s t)

/-- DIGEST, DIGEST_VERIFY, the hash pipes' quanta and the idle timeout have the effect their rules give and complete. -/
def Obligations.DigestCommandsComplete : Prop :=
  -- DIGEST: a part whose turn has come takes its bytes and starts to be absorbed.
  (∀ (s : State) (tag : Nat) (o : Op) (host : HostRead) (n : Nat) (c : DigestCtx) (b : List Byte), opFor s tag 0x0503 = some o →
    s.sec.errorState = false →
    ctxOfTag s o.tag = some (n, c) →
    c.parts.head? = some o.tag →
    o.stage = .ready →
    o.pkt.dlen ≠ 0 →
    input s o host o.pkt.dlen = some (.data b) →
    expectedOf s o (.data []) = some (.data []) →
    exec (.digest tag host) s = .next (modOp s o.tag (fun x => { x with stage := .running, rx := b }))) ∧
  -- DIGEST_VERIFY: a part takes its bytes, and the last one the expected digest behind them.
  (∀ (s : State) (tag : Nat) (o : Op) (host expected : HostRead) (n : Nat) (c : DigestCtx) (b e : List Byte), opFor s tag 0x0504 = some o →
    s.sec.errorState = false →
    ctxOfTag s o.tag = some (n, c) →
    c.parts.head? = some o.tag →
    o.stage = .ready →
    o.pkt.dlen ≠ 0 →
    input s o host o.pkt.dlen = some (.data b) →
    expectedOf s o expected = some (.data e) →
    exec (.digestVerify tag host expected) s = .next (modOp s o.tag (fun x => { x with stage := .running, rx := b ++ e }))) ∧
  -- DIGEST_QUANTUM: the next ready context absorbs what is left of its part, and the part ends; the turn passes to the context after it.
  (∀ (s : State) (n : Nat) (c : DigestCtx) (o : Op), nextContext s = some (n, c) →
    c.kite = none →
    c.parts.head?.bind (findOp s) = some o →
    o.rx.length - expectedLen o ≤ 65536 →
    exec .digestQuantum s = .next (endPart (upSec s (fun e => { e with dgTurn := (n + 1) % 64 })) o n c
      (c.data ++ o.rx.take (o.rx.length - expectedLen o)) (o.rx.drop (o.rx.length - expectedLen o)))) ∧
  -- A part with MORE that has been absorbed leaves its bytes in the context, whose idle time starts anew, and ends with SUCCESS and the context's number.
  (∀ (s : State) (o : Op) (n : Nat) (c : DigestCtx) (data e : List Byte), o.pkt.more = true →
    c.doomed = false →
    endPart s o n c data e = complete (upSec s (fun x => { x with contexts := mset x.contexts n { c with data, parts := c.parts.tail, since := s.glb.lifetime } })) o.tag (ok 0 n)) ∧
  -- The last part of a DIGEST_VERIFY answers SUCCESS or DIGEST_MISMATCH by comparing the digest with the expected bytes, and frees the context.
  (∀ (s : State) (o : Op) (n : Nat) (c : DigestCtx) (data e : List Byte), o.pkt.more = false →
    o.pkt.opc = 0x0504 →
    o.aux ≠ 1 →
    c.hmac = none →
    endPart s o n c data e = complete (clearCtx s n o.tag) o.tag { status := if digestOf c.alg [] data = e then stSuccess else stDigestMismatch }) ∧
  -- DG_IDLE_TIMEOUT: an unfinished message of a command path that has been without a part for IDLE_S seconds is cleared, and DG_TIMEOUTS counts.
  (∀ (s : State) (n : Nat) (c : DigestCtx), inReset s islCrypt = false →
    mget s.sec.contexts n = some c →
    c.kite = none →
    c.parts = [] →
    c.since + 1000 * s.sec.idleS ≤ s.glb.lifetime →
    exec (.dgIdleTimeout n) s = .next (upSec s (fun e => { e with contexts := mdel e.contexts n, dgTimeouts := satInc e.dgTimeouts })))

/-- Waymark searches, loads, reads, table readiness and the sweep have the effect their rules give and complete. -/
def Obligations.WaymarkCommandsComplete : Prop :=
  -- WAYMARK_SEARCH of a table that is READY: what the line code finds damaged is handled, the keys are searched in order, and their results go to ADDR.
  (∀ (s : State) (tag : Nat) (o : Op) (host : HostRead) (check : WayCheck) (b : List Byte), opFor s tag 0x0506 = some o →
    (wTable s o.pkt.p1).en = true →
    (wTable s o.pkt.p1).ready = true →
    addrUp s o = true →
    input s o host o.pkt.dlen = some (.data b) →
    ∃ r, exec (.waymarkSearch tag host check) s = .next (complete (deliverAddr (flipDest r.2 o r.1.length) o r.1) tag (ok 0 0)) ∧
      r = searchAll (searchDamage s check) (wTable s o.pkt.p1) b (b.length / (8 * wUnits (wTable s o.pkt.p1).width))) ∧
  -- WAYMARK_SEARCH_QUEUE: the head of a ready table's queue is served, what the line code finds damaged being handled first.
  (∀ (s : State) (table : Nat) (check : WayCheck) (q : WSearch), inReset s islWay = false →
    s.way.queue.find? (fun q => q.table == table) = some q →
    (wTable s table).en = true →
    (wTable s table).ready = true →
    exec (.waymarkSearchQueue table check) s = .next (serveSearch (searchDamage s check) q)) ∧
  -- WAYMARK_LOAD of sound records: they enter the table and its shadow, and milestone M3 is extended by the digest of the load.
  (∀ (s : State) (tag : Nat) (o : Op) (host : HostRead) (b : List Byte) (u : State), opFor s tag 0x0505 = some o →
    s.sec.errorState = false →
    earlierOp s o.seq (fun q => q.opc == 0x0505) = false →
    (wTable s o.pkt.p0).en = true →
    (wTable s o.pkt.p0).ready = true →
    input s o host o.pkt.dlen = some (.data b) →
    loadRecords s (wTable s o.pkt.p0) o.pkt.p1 0 b (o.pkt.dlen / recBytes (wTable s o.pkt.p0).width) = (none, u) →
    exec (.waymarkLoad tag host) s = .next (complete (extendMs u 3 (sha384 (le 1 o.pkt.p0 ++ le 1 (wTable s o.pkt.p0).width ++ le 1 (wTable s o.pkt.p0).copies ++ le 1 0 ++ le 2 o.pkt.p1 ++
      le 2 (o.pkt.dlen / recBytes (wTable s o.pkt.p0).width) ++ b))) tag (ok 0 0))) ∧
  -- WAYMARK_LOAD of a record whose reserved fields are not zero: the records before it stay, and the command ends INVALID_FIELD with its index in RESULT0.
  (∀ (s : State) (tag : Nat) (o : Op) (host : HostRead) (b : List Byte) (u : State) (i : Nat), opFor s tag 0x0505 = some o →
    s.sec.errorState = false →
    earlierOp s o.seq (fun q => q.opc == 0x0505) = false →
    (wTable s o.pkt.p0).en = true →
    (wTable s o.pkt.p0).ready = true →
    input s o host o.pkt.dlen = some (.data b) →
    loadRecords s (wTable s o.pkt.p0) o.pkt.p1 0 b (o.pkt.dlen / recBytes (wTable s o.pkt.p0).width) = (some i, u) →
    exec (.waymarkLoad tag host) s = .next (finish u tag { status := stInvalidField, detail := 0x18, r0 := i })) ∧
  -- WAYMARK_READ: what the line code finds damaged is handled, and P3 entries from P2 on go to ADDR as records.
  (∀ (s : State) (tag : Nat) (o : Op) (check : WayCheck), opFor s tag 0x0507 = some o →
    (wTable s o.pkt.p1).en = true →
    (wTable s o.pkt.p1).ready = true →
    addrUp s o = true →
    o.pkt.p3 * recBytes (wTable s o.pkt.p1).width ≤ o.pkt.p0 →
    ∃ b, exec (.waymarkRead tag check) s = .next (complete (deliverAddr (flipDest (wayDamage s check) o b.length) o b) tag (ok 0 0)) ∧
      b = (span o.pkt.p2 o.pkt.p3).flatMap (entryRecord (wayDamage s check) (wTable s o.pkt.p1))) ∧
  -- WAYMARK_READ of more than the buffer holds ends LENGTH_ERROR, DETAIL 2, with both lengths.
  (∀ (s : State) (tag : Nat) (o : Op) (check : WayCheck), opFor s tag 0x0507 = some o →
    (wTable s o.pkt.p1).en = true →
    (wTable s o.pkt.p1).ready = true →
    addrUp s o = true →
    o.pkt.p0 < o.pkt.p3 * recBytes (wTable s o.pkt.p1).width →
    exec (.waymarkRead tag check) s = .next (finish (spoil (flipDest s o o.pkt.p0) o) tag
      { status := stLengthLong, detail := 2, r0 := o.pkt.p3 * recBytes (wTable s o.pkt.p1).width, r1 := o.pkt.p0 })) ∧
  -- TABLE_READY: a table that clears its entries becomes READY.
  (∀ (s : State) (table : Nat), inReset s islWay = false →
    (wTable s table).en = true →
    (wTable s table).clearing = true →
    exec (.tableReady table) s = .next (upWay s (fun w => { w with tables := lmod w.tables table (fun t => { t with ready := true, clearing := false }) }))) ∧
  -- SWEEP_STEP of a unit that agrees with its shadow repairs nothing and moves on.
  (∀ (s : State), inReset s islWay = false →
    unitAgrees s s.way.sweepAt = true →
    s.way.sweepAt ≠ 65535 →
    exec (.sweepStep false [] false false) s = .next (upWay s (fun w => { w with sweepAt := (s.way.sweepAt + 1) % 65536 }))) ∧
  -- SWEEP_STEP of a unit that differs from its shadow restores it, counts WAYC_SWEEP_REPAIRS and raises a Corrected fault of WAY.
  (∀ (s : State), inReset s islWay = false →
    unitAgrees s s.way.sweepAt = false →
    s.way.sweepAt ≠ 65535 →
    ∃ u, exec (.sweepStep false [] false false) s = .next (upWay u (fun w => { w with sweepAt := (s.way.sweepAt + 1) % 65536 })) ∧
      u = raise (upWay (unitRestore s s.way.sweepAt) (fun w => { w with sweepRepairs := satInc w.sweepRepairs })) (unit islWay 0))

/-- Program loads and unloads, scan runs, their areas, stop, query and end have the effect their rules give and complete. -/
def Obligations.ProgramCommandsComplete : Prop :=
  -- PROGRAM_LOAD of a sound image: milestone M4 is extended by the image's digest, the slot holds the program with a fresh load number.
  (∀ (s : State) (tag : Nat) (o : Op) (host : HostRead) (b : List Byte), opFor s tag 0x0601 = some o →
    earlierOp s o.seq (fun q => q.opc == 0x0601) = false →
    input s o host o.pkt.dlen = some (.data b) →
    imageFault b o.pkt.dlen = none →
    ∃ u, exec (.programLoad tag host) s = .next (finish (upKite u (fun k => { k with
        programs := mset k.programs o.pkt.p0 (imageProgram k.nextLoad b), nextLoad := k.nextLoad + 1 })) tag (ok 0 0)) ∧ u = extendMs s 4 (sha384 b)) ∧
  -- PROGRAM_LOAD of an image that fails its checks ends with their reply, and no slot and no milestone changes.
  (∀ (s : State) (tag : Nat) (o : Op) (host : HostRead) (b : List Byte) (r : Reply), opFor s tag 0x0601 = some o →
    earlierOp s o.seq (fun q => q.opc == 0x0601) = false →
    input s o host o.pkt.dlen = some (.data b) →
    imageFault b o.pkt.dlen = some r →
    exec (.programLoad tag host) s = .next (finish s tag r)) ∧
  -- PROGRAM_UNLOAD: once no run accepted before it uses the slot, the slot is empty.
  (∀ (s : State) (tag : Nat) (o : Op), opFor s tag 0x0602 = some o →
    earlierOp s o.seq (fun q => q.opc == 0x0603 && q.p1 == o.pkt.p0) = false →
    exec (.programUnload tag) s = .next (finish (upKite s (fun k => { k with programs := mdel k.programs o.pkt.p0 })) tag (ok 0 0))) ∧
  -- SCAN_RUN: with its parameter block read over CXL.cache and no fragment list, the run begins with it: it is recorded and its areas are placed as `beginRun` does.
  (∀ (s : State) (tag : Nat) (o : Op) (b : List Byte), findOp s tag = some o →
    o.pkt.opc = 0x0603 →
    awake s 0x0603 = true →
    o.stage = .ready →
    o.aux ≠ 1 →
    entryUp s = true →
    o.pkt.p5 = b.length →
    b ≠ [] →
    exec (.scanRun tag (.data b)) s = .next (beginRun { s with hst := { s.hst with bus := .rdShared (o.pkt.p3 + 2 ^ 32 * o.pkt.p4) :: s.hst.bus } } o b)) ∧
  -- A run whose areas are all placed and whose program is loaded starts: its M instances are created and become ready in instance order, each with its number in r0, M in r1 and the parameters' length in r2.
  (∀ (s : State) (tag : Nat) (r : Run) (g : Program), findRun s tag = some r →
    r.started = false →
    r.unplaced = [] →
    r.ending = none →
    mget s.kite.programs r.slot = some g →
    ∃ t, startInsts s tag = t ∧ t.kite.insts = s.kite.insts ++ (List.range r.m).map (newInst r g) ∧
      t.kite.readyQ = s.kite.readyQ ++ (List.range r.m).map (fun j => (tag, j)) ∧
      (∀ j, (newInst r g j).regs.g.take 3 = [BitVec.ofNat 32 j, BitVec.ofNat 32 r.m, BitVec.ofNat 32 r.params.length] ∧
        (newInst r g j).regs.pc = g.entry ∧ (newInst r g j).state = .ready) ∧ ChangesOnly [.kite] s t) ∧
  -- SCAN_AREA_PLACE: a run that waits places its areas where they fit now.
  (∀ (s : State) (tag : Nat) (r : Run), findRun s tag = some r →
    r.ending = none →
    exec (.scanAreaPlace tag) s = .next (startInsts (placeAreas s r) tag)) ∧
  -- SCAN_STOP of a run that is not decided ends it ABORTED and itself with SUCCESS.
  (∀ (s : State) (tag : Nat) (o : Op), opFor s tag 0x0604 = some o →
    runDecided s o.pkt.p0 = false →
    exec (.scanStop tag) s = .next (finish (stopRun s o.pkt.p0 { status := stAborted }) tag (ok 0 0))) ∧
  -- SCAN_STOP of a run whose end is decided ends ABORT_TOO_LATE.
  (∀ (s : State) (tag : Nat) (o : Op), opFor s tag 0x0604 = some o →
    runDecided s o.pkt.p0 = true →
    exec (.scanStop tag) s = .next (finish s tag { status := stTooLate })) ∧
  -- SCAN_QUERY: RESULT0 is the number of blocks its instances have passed, RESULT1 how many of them live.
  (∀ (s : State) (tag : Nat) (o : Op), opFor s tag 0x0605 = some o →
    exec (.scanQuery tag) s = .next (finish s tag (ok (((s.kite.insts.filter (fun i => i.run == o.pkt.p0)).map (fun i => i.lane.passed)).sum % 2 ^ 64) (liveInsts s o.pkt.p0)))) ∧
  -- SCAN_RUN_END: once every instance of a started run has ended and no request of it is open, run, instances and areas go and its reply is known.
  (∀ (s : State) (tag : Nat) (r : Run), findRun s tag = some r →
    r.started = true →
    (s.kite.insts.filter (fun i => i.run == tag)).any (fun i => i.state != .ended || i.ports.busy) = false →
    ∃ u, exec (.scanRunEnd tag) s = .next (complete ((List.range 8).foldl settleRing u) tag (runReply r)) ∧ u = upKite s (fun k => { k with
      runs := k.runs.filter (fun q => q.tag != tag), insts := k.insts.filter (fun i => i.run != tag),
      clusters := k.clusters.map (fun c => { c with areas := c.areas.filter (fun a => a.run != tag) }) }))

/-- Key import and destroy, milestones, attestation, self-tests, the alarm and link re-keying have the effect their rules give and complete. -/
def Obligations.SecurityCommandsComplete : Prop :=
  -- KEY_IMPORT of a volume key that unwraps: a pending key record of the volume under a fresh identity, and M2 is extended by the record of the import.
  (∀ (s : State) (tag : Nat) (o : Op) (host : HostRead) (b k : List Byte), opFor s tag 0x0701 = some o →
    input s o host o.pkt.dlen = some (.data b) →
    Config.unwrapKey b = some k →
    o.pkt.p0 = 0 →
    exec (.keyImport tag host) s = .next (finish (extendMs (putKey (freshKey s).2 { vol := o.pkt.vol, keyId := (freshKey s).1, kind := 2, capacity := 0, attrs := 0 }) 2
      (msRecord 1 0 o.pkt.vol)) tag (ok 0 0))) ∧
  -- KEY_IMPORT of an HMAC key that unwraps: the key enters slot P1, and M2 is extended.
  (∀ (s : State) (tag : Nat) (o : Op) (host : HostRead) (b k : List Byte), opFor s tag 0x0701 = some o →
    input s o host o.pkt.dlen = some (.data b) →
    Config.unwrapKey b = some k →
    o.pkt.p0 = 1 →
    exec (.keyImport tag host) s = .next (finish (extendMs (upSec s (fun e => { e with hmacKeys := mset e.hmacKeys o.pkt.p1 (fit (o.pkt.dlen - 8) k) })) 2 (msRecord 1 1 o.pkt.p1)) tag (ok 0 0))) ∧
  -- KEY_DESTROY of a volume's pending key: the record goes, and M2 is extended.
  (∀ (s : State) (tag : Nat) (o : Op), opFor s tag 0x0702 = some o →
    o.pkt.p0 = 0 →
    exec (.keyDestroy tag) s = .next (finish (extendMs (upSec s (fun e => { e with keyLog := e.keyLog.filter (fun k => !(k.vol == o.pkt.vol && k.kind == 2)) })) 2 (msRecord 2 0 o.pkt.vol)) tag (ok 0 0))) ∧
  -- KEY_DESTROY of an HMAC slot.
  (∀ (s : State) (tag : Nat) (o : Op), opFor s tag 0x0702 = some o →
    o.pkt.p0 = 1 →
    exec (.keyDestroy tag) s = .next (finish (extendMs (upSec s (fun e => { e with hmacKeys := mdel e.hmacKeys o.pkt.p1 })) 2 (msRecord 2 1 o.pkt.p1)) tag (ok 0 0))) ∧
  -- EXTEND in its turn: milestone P0 is extended by the bytes read.
  (∀ (s : State) (tag : Nat) (o : Op) (host : HostRead) (b : List Byte), opFor s tag 0x0703 = some o →
    turnOf s o = true →
    input s o host o.pkt.dlen = some (.data b) →
    exec (.extend tag host) s = .next (finish (extendMs s o.pkt.p0 b) tag (ok 0 0))) ∧
  -- Extending a milestone sets it to the SHA-384 digest of its value followed by the data, and changes no other.
  (∀ (s : State) (n : Nat) (d : List Byte), mgetD (extendMs s n d).sec.milestones n (zeros 48) = sha384 (mgetD s.sec.milestones n (zeros 48) ++ d) ∧
      ∀ m, m ≠ n → mgetD (extendMs s n d).sec.milestones m (zeros 48) = mgetD s.sec.milestones m (zeros 48)) ∧
  -- ATTEST: the report of all milestones and the nonce goes to ADDR with a signature whose bytes are open, and RESULT0 is 1,920.
  (∀ (s : State) (tag : Nat) (o : Op) (host : HostRead) (b : List Byte), opFor s tag 0x0704 = some o →
    s.sec.errorState = false →
    earlierOp s o.seq extending = false →
    addrUp s o = true →
    input s o host o.pkt.dlen = some (.data b) →
    1920 ≤ o.pkt.p0 →
    exec (.attest tag host) s = .next (finish (deliverAddr (freeBytes s 96).2 o (reportBody s o b ++ (freeBytes s 96).1)) tag (ok 1920 0))) ∧
  -- SELF_TEST that runs ends with the selected tests that failed in RESULT0.
  (∀ (s : State) (tag : Nat) (o : Op) (failed : Nat), opFor s tag 0x0705 = some o →
    o.stage = .running →
    exec (.selfTest tag failed) s = .next (finish (testsEnd s o.pkt.p0 failed) tag (ok (failed &&& testMask o.pkt.p0) 0))) ∧
  -- SELF_TEST begins.
  (∀ (s : State) (tag : Nat) (o : Op) (failed : Nat), opFor s tag 0x0705 = some o →
    o.stage = .ready →
    exec (.selfTest tag failed) s = .next (running s tag)) ∧
  -- PERIODIC_SELFTEST 24 h or more after the last complete run: the re-run of every test ends as a SELF_TEST's tests do.
  (∀ (s : State) (failed : Nat), s.sec.powerupDone = true →
    inReset s islCrypt = false →
    s.sec.testedAt + 86400000 ≤ s.glb.lifetime →
    exec (.periodicSelftest failed) s = .next (testsEnd s 0 failed)) ∧
  -- Tests of which none failed change nothing but the time and age of the last full run.
  (∀ (s : State) (sel : Nat), testsEnd s sel 0 = upSec s (fun e => { e with ageH := if sel = 0 then 0 else e.ageH, testedAt := if sel = 0 then s.glb.lifetime else e.testedAt })) ∧
  -- SECURITY_ALARM: the cause's bit is set and counted, every digest, cached key and link key is zeroised, and CRYPT raises its alarm fault.
  (∀ (s : State) (cause : Nat), cause ≤ 3 →
    exec (.securityAlarm cause) s = .next (raise (zeroise (upSec s (fun e => { e with
      alarm := e.alarm ||| 2 ^ cause, alarms := satInc e.alarms })) 2) (unit islCrypt 4))) ∧
  -- Zeroising empties the digest contexts and the key cache.
  (∀ (s : State) (d : Nat), (zeroise s d).sec.contexts = [] ∧ (zeroise s d).sec.keyCache = []) ∧
  -- LINK_REKEY: a link with a secret that has sent 2^31 packets or derived its key 24 h ago counts its derivation on and starts its packets at 0; every other link is as before.
  (∀ (s : State) (link : Nat), inReset s islCrypt = false →
    exec (.linkRekey link) s = .next (upSec s (fun e => { e with links := mmod e.links link (fun k =>
      if k.secret.isSome && (decide (2 ^ 31 ≤ k.packets) || decide (k.since + 86400000 ≤ s.glb.lifetime)) then
        { k with counter := wrapInc k.counter, packets := 0, since := s.glb.lifetime }
      else k) })))

/-- SANITISE, its start, its units and its status have the effect their rules give and complete. -/
def Obligations.SanitiseCommandsComplete : Prop :=
  -- SANITISE waits for the commands accepted before it.
  (∀ (s : State) (tag : Nat) (o : Op), opFor s tag 0x0706 = some o →
    exec (.sanitise tag) s = .next (running s tag)) ∧
  -- SANITISE_START: once every earlier command has ended, formats are absorbed, the record is written, the command replies, and the key step follows.
  (∀ (s : State) (o : Op), s.tsk.ops.find? (fun o => o.pkt.opc == 0x0706 && o.stage == .running) = some o →
    earlierOp s o.seq (fun _ => true) = false →
    s.sec.errorState = false →
    s.glb.serviceStart = false →
    ∃ u, exec .sanitiseStart s = .next (sanitiseKeys (finish u o.tag (ok 0 0))) ∧ u.med.formats = [] ∧
      u.med.absorbed = (if s.med.progress.state = 2 then [s.med.progress.vol] else []) ++ s.med.formats.map (fun f => f.vol) ∧
      u.med.progress.state = 1 ∧ u.med.progress.mode = o.pkt.p0 ∧ u.med.progress.done = 0 ∧ ChangesOnly [.med] s u) ∧
  -- The key step leaves no staged block and no cached map page.
  (∀ (s : State), (keyStep s).med.staging = [] ∧ (keyStep s).med.leafCache = []) ∧
  -- SANITISE_UNIT_DONE of a sanitise whose key step is done: the unit the record names is taken as `sanitiseUnit` does, the blocks that failed being given.
  (∀ (s : State) (failed : List (Nat × Nat)), s.glb.ready = true →
    s.med.dumpActive = false →
    s.med.dumpHeld = false →
    s.med.progress.state = 1 →
    s.sec.errorState = false →
    s.med.progress.keyStep = true →
    exec (.sanitiseUnitDone failed) s = .next (sanitiseUnit s failed)) ∧
  -- SANITISE_STATUS: RESULT0 and RESULT1 report the record of the sanitise, or of the volume's format.
  (∀ (s : State) (tag : Nat) (o : Op), opFor s tag 0x0707 = some o →
    exec (.sanitiseStatus tag) s = .next (finish s tag (ok (statusOf s o.pkt).1 (statusOf s o.pkt).2)))

/-- TETHER_PAIR, its timeout, TETHER_UNPAIR and TAKEOVER have the effect their rules give and complete. -/
def Obligations.PairCommandsComplete : Prop :=
  -- TETHER_PAIR on a SOLO device without a pairing: with no HELLO heard yet, the token is taken, the pair state is PAIRING, and HELLO goes to the partner.
  (∀ (s : State) (tag : Nat) (o : Op) (host : HostRead) (token : List Byte), opFor s tag 0x0801 = some o →
    o.stage ≠ .running →
    s.pair.state = 0 →
    s.pair.pairing = none →
    input s o host o.pkt.dlen = some (.data token) →
    s.pair.helloIn = none →
    exec (.tetherPair tag host) s = .next (sendHello (upPair (running s tag) (fun p => { p with state := 1, pairing := some { tag, token, agreed := false, base := 0, since := s.glb.lifetime } })) token)) ∧
  -- TETHER_PAIR whose initial copy is complete: the pair is PAIRED, the pairing counts, and the reply is SUCCESS with RESULT1 2.
  (∀ (s : State) (tag : Nat) (o : Op) (host : HostRead) (p : Pairing), opFor s tag 0x0801 = some o →
    o.stage = .running →
    s.pair.pairing = some p →
    s.pair.state = 1 →
    (p.agreed && s.med.ckpt.isNone && decide (newestRootNo s < p.base)) = false →
    copyDone s p = true →
    exec (.tetherPair tag host) s = .next (finish (pairLog (upPair s (fun q => { q with
      state := 2, pairing := none, pairings := q.pairings + 1, beating := true, heardAt := s.glb.lifetime, called := false })) 1 0xFF s.pair.partnerNode) tag (ok 0 2))) ∧
  -- PAIR_HELLO_TIMEOUT 10 s or more after the pairing began: a pairing whose partner has not agreed is refused.
  (∀ (s : State) (p : Pairing), s.pair.pairing = some p →
    p.agreed = false →
    p.since + 10000 ≤ s.glb.lifetime →
    exec .pairHelloTimeout s = .next (refusePair s (bad 0x20))) ∧
  -- TETHER_UNPAIR on a SOLO device succeeds at once.
  (∀ (s : State) (tag : Nat) (o : Op), opFor s tag 0x0802 = some o →
    o.stage ≠ .running →
    s.pair.state = 0 →
    exec (.tetherUnpair tag) s = .next (finish s tag (ok 0 0))) ∧
  -- TETHER_UNPAIR of a pair that is not fostering: mirroring stops, and the devices separate once both have drained.
  (∀ (s : State) (tag : Nat) (o : Op), opFor s tag 0x0802 = some o →
    o.stage ≠ .running →
    s.pair.state ≠ 0 →
    s.pair.fostering = false →
    exec (.tetherUnpair tag) s = .next (trySeparate (upPair (running s tag) (fun p => { p with unpairing := some tag, draining := true })))) ∧
  -- TAKEOVER with FORCE of a partner that does not beat takes the claim at once.
  (∀ (s : State) (tag : Nat) (o : Op), opFor s tag 0x0803 = some o →
    o.stage ≠ .running →
    2 ≤ s.pair.state →
    s.pair.beating = false →
    s.pair.fostering = false →
    bit o.pkt.p0 0 = true →
    exec (.takeover tag) s = .next (winClaim (upPair (running s tag) (fun p => { p with takeovers := p.takeovers ++ [tag] })) 0 true)) ∧
  -- TAKEOVER while the partner beats ends INVALID_FIELD 0x20.
  (∀ (s : State) (tag : Nat) (o : Op), opFor s tag 0x0803 = some o →
    o.stage ≠ .running →
    s.pair.beating = true →
    exec (.takeover tag) s = .next (finish s tag (bad 0x20)))

/-- MESH_CONFIG and the stripe-group and rebuild commands have the effect their rules give and complete. -/
def Obligations.MeshCommandsComplete : Prop :=
  -- MESH_CONFIG: the node number, the shape, the wraps and the enabled ports are taken.
  (∀ (s : State) (tag : Nat) (o : Op), opFor s tag 0x0804 = some o →
    checkObjects s o.pkt = none →
    ∃ u, exec (.meshConfig tag) s = .next (finish (rePartition u) tag (ok 0 0)) ∧ u.mesh.configured = true ∧ u.mesh.node = o.pkt.p0 ∧ u.mesh.xs = bits o.pkt.p1 3 0 ∧
      u.mesh.ys = bits o.pkt.p1 7 4 ∧ u.mesh.zs = bits o.pkt.p1 10 8 ∧ u.mesh.wrap = bits o.pkt.p1 13 11 ∧
      u.mesh.ports = (s.mesh.ports.zip (List.range 6)).map (fun x => if bit o.pkt.p2 x.2 then { x.1 with enabled := true } else { Port.reset with sat := x.1.sat }) ∧
      ChangesOnly [.mesh] s u) ∧
  -- STRIPE_GROUP_JOIN of a sound member list: the group is joining at the first free slot, GROUP_HELLO goes to every other member, and the hellos already heard for it count.
  (∀ (s : State) (tag : Nat) (o : Op) (host : HostRead) (b : List Byte) (l : List Nat) (slot : Nat) (g : Group), opFor s tag 0x0805 = some o →
    o.stage ≠ .running →
    checkObjects s o.pkt = none →
    input s o host o.pkt.dlen = some (.data b) →
    l = (List.range (bits o.pkt.p1 4 0 + bits o.pkt.p1 10 8)).map (fun i => num b (2 * i) 2) →
    l.eraseDups.length = bits o.pkt.p1 4 0 + bits o.pkt.p1 10 8 →
    l.any (fun n => decide (2048 ≤ n)) = false →
    l[bits o.pkt.p1 20 16]? = some s.mesh.node →
    (List.range 8).find? (fun i => (mget s.mesh.groups i).isNone) = some slot →
    g = { id := o.pkt.p0, k := bits o.pkt.p1 4 0, m := bits o.pkt.p1 10 8, index := bits o.pkt.p1 20 16, state := 1, lost := [], members := l, hello := [], leaving := [], next := 0, tag := some tag, since := s.glb.lifetime, closed := 0, rebuilds := 0, failedStripes := 0 } →
    exec (.stripeGroupJoin tag host) s = .next (tryActive ((s.mesh.helloSeen.filter (fun h => h.group == o.pkt.p0)).foldl (fun s h => countHello s h.src h.group h.k h.m h.index h.digest)
      (sendOthers (upMesh (running s tag) (fun m => { m with
        groups := mset m.groups slot g, helloSeen := m.helloSeen.filter (fun h => h.group != o.pkt.p0) })) g (helloBody g))) o.pkt.p0)) ∧
  -- STRIPE_GROUP_LEAVE of an active group: it dissolves, this member leaves first, and the others hear it.
  (∀ (s : State) (tag : Nat) (o : Op) (g : Group), opFor s tag 0x0806 = some o →
    o.stage ≠ .running →
    groupAt s o.pkt.p0 = some g →
    g.state ≠ 1 →
    g.state ≠ 5 →
    exec (.stripeGroupLeave tag) s = .next (tryDissolve (sendOthers (modGroup (running s tag) g.id (fun g => { g with state := 5, tag := some tag, leaving := linsert g.leaving g.index })) g
      (helloBody g)) g.id)) ∧
  -- REBUILD_START of a formed group without a rebuild: it replies at once, the group rebuilds, and LOCATE goes to the other members.
  (∀ (s : State) (tag : Nat) (o : Op) (g : Group), opFor s tag 0x0807 = some o →
    checkObjects s o.pkt = none →
    groupAt s o.pkt.p0 = some g →
    g.formed = true →
    s.mesh.rebuild = none →
    exec (.rebuildStart tag) s = .next (gatherDone (sendOthers (upMesh (modGroup (finish s tag (ok 0 0)) g.id (fun g => { g with state := 4 })) (fun m => { m with
      nextReq := (m.nextReq + 1) % 2 ^ 64,
      rebuild := some { group := g.id, request := s.mesh.nextReq, answers := [], todo := [], bad := [], part := [], rebuilt := 0,
                        since := s.glb.lifetime, failed := 0, gathered := false } })) g (.locate s.mesh.nextReq s.mesh.node 0xFFFFFFFF 0)) g)) ∧
  -- REBUILD_STATUS while the group rebuilds: RESULT0 is the stripes rebuilt, RESULT1 those left.
  (∀ (s : State) (tag : Nat) (o : Op) (b : Rebuild), opFor s tag 0x0808 = some o →
    (groupAt s o.pkt.p0).isSome = true →
    s.mesh.rebuild = some b →
    b.group = o.pkt.p0 →
    exec (.rebuildStatus tag) s = .next (finish s tag (ok b.rebuilt b.todo.length)))

/-- POWER_SET, POWER_QUERY, HEALTH_QUERY, MARGIN_PLAN and TEST_CONTROL have the effect their rules give and complete. -/
def Obligations.PowerAndHealthCommandsComplete : Prop :=
  -- POWER_SET with no transition and no entry waiting: the transition to its target begins, or its entry waits for the device to be idle.
  (∀ (s : State) (tag : Nat) (o : Op), opFor s tag 0x0901 = some o →
    o.stage ≠ .running →
    s.pwr.trans = none →
    s.pwr.waitIdle = none →
    exec (.powerSet tag) s = .next (beginPower (running s tag) { tag := some tag, target := o.pkt.p0, source := if fromFootpath o then 2 else 1 })) ∧
  -- POWER_SET during a transition, with none queued, is queued.
  (∀ (s : State) (tag : Nat) (o : Op) (t : Transition), opFor s tag 0x0901 = some o →
    o.stage ≠ .running →
    s.pwr.trans = some t →
    s.pwr.queued = none →
    exec (.powerSet tag) s = .next (upPwr (running s tag) (fun p => { p with queued := some { tag := some tag, target := o.pkt.p0, source := if fromFootpath o then 2 else 1 } }))) ∧
  -- POWER_QUERY: RESULT1 packs the power state, TRANSITIONING and the state being gone to or queued.
  (∀ (s : State) (tag : Nat) (o : Op), opFor s tag 0x0902 = some o →
    s.pwr.trans = none →
    s.pwr.queued = none →
    exec (.powerQuery tag) s = .next (finish s tag (ok 0 (s.pwr.state + 8 * s.pwr.state)))) ∧
  -- HEALTH_QUERY: the health page is moved, and RESULT1 is the spare state.
  (∀ (s : State) (tag : Nat) (o : Op), opFor s tag 0x0903 = some o →
    outUp s o = true →
    exec (.healthQuery tag) s = .next (finish (deliver s o 0 (healthPage s)) tag (ok 0 (spareReport s)))) ∧
  -- MARGIN_PLAN: a plan starts unless one runs, and the command waits for its end.
  (∀ (s : State) (tag : Nat) (o : Op), opFor s tag 0x0904 = some o →
    o.stage ≠ .running →
    bit o.pkt.p0 0 = false →
    s.hlt.planRunning = false →
    exec (.marginPlan tag) s = .next (running (upHlt (startPlan s) (fun h => { h with planTags := h.planTags ++ [tag] })) tag)) ∧
  -- MARGIN_PLAN that only asks for the last plan's log replies at once.
  (∀ (s : State) (tag : Nat) (o : Op), opFor s tag 0x0904 = some o →
    o.stage ≠ .running →
    bit o.pkt.p0 0 = true →
    exec (.marginPlan tag) s = .next (finish s tag (ok 0 0))) ∧
  -- TEST_CONTROL 0 pauses the background tests.
  (∀ (s : State) (tag : Nat) (o : Op), opFor s tag 0x0905 = some o →
    o.stage ≠ .running →
    o.pkt.p0 = 0 →
    exec (.testControl tag) s = .next (finish (upHlt s (fun h => { h with paused := true })) tag (ok 0 0))) ∧
  -- TEST_CONTROL 1 lets them run on.
  (∀ (s : State) (tag : Nat) (o : Op), opFor s tag 0x0905 = some o →
    o.stage ≠ .running →
    o.pkt.p0 = 1 →
    exec (.testControl tag) s = .next (finish (upHlt s (fun h => { h with paused := false })) tag (ok 0 0))) ∧
  -- TEST_CONTROL 2 runs the set P1 as soon as no other set runs.
  (∀ (s : State) (tag : Nat) (o : Op), opFor s tag 0x0905 = some o →
    o.stage ≠ .running →
    o.pkt.p0 = 2 →
    s.hlt.testRun = none →
    exec (.testControl tag) s = .next (running (upHlt s (fun h => { h with testRun := some (tag, o.pkt.p1) })) tag))

/-- Resets, power-on and boot have the effect their rules give and complete. -/
def Obligations.ResetsAndBootComplete : Prop :=
  -- CONVENTIONAL_RESET by PERST#: the pin is low and a reset of cause 1 begins.
  (∀ (s : State), s.glb.poweredOn = true →
    inBallast s = false →
    s.pwr.perstN = true →
    exec (.conventionalReset 1) s = .next (beginReset (tapFollow (upPwr s (fun p => { p with perstN := false }))) 1)) ∧
  -- CONVENTIONAL_RESET by a hot reset or a link disable over a live link begins a reset of that cause.
  (∀ (s : State) (k : Nat), k = 2 ∨ k = 3 →
    s.glb.poweredOn = true →
    inBallast s = false →
    s.hst.mode ≠ 0 →
    s.pwr.linkPm ≠ 2 →
    exec (.conventionalReset k) s = .next (beginReset s k)) ∧
  -- What a device reset leaves: the command tracker, the Kite clusters, the Waymark and compression units and DRAM are at their reset values, but for the DRAM marks (and, after a Failover, the clamped flag), the Result Arena is zero and a boot follows; flash, the PJM ring, the fault history, the lifetime and host memory stay.
  (∀ (s : State) (cause : Nat), (deviceReset s cause).tsk = Tsk.reset ∧ (deviceReset s cause).kite = Kite.reset ∧ (deviceReset s cause).way = Way.reset ∧
      (deviceReset s cause).cmp = Cmp.reset ∧ (deviceReset s cause).arena = [] ∧ (deviceReset s cause).drc = { Drc.reset with marks := s.drc.marks, clamped := cause == 4 && s.drc.clamped } ∧
      (deviceReset s cause).glb.booting = true ∧ (deviceReset s cause).glb.ready = false ∧ (deviceReset s cause).glb.lastReset = cause ∧
      (deviceReset s cause).med.flash = s.med.flash ∧ (deviceReset s cause).med.ring = s.med.ring ∧ (deviceReset s cause).flt.history = s.flt.history ∧
      (deviceReset s cause).glb.lifetime = s.glb.lifetime ∧ (deviceReset s cause).hostMem = s.hostMem) ∧
  -- PERST_DEASSERT: the pin is high, and the configuration space answers.
  (∀ (s : State), s.pwr.perstN = false →
    exec .perstDeassert s = .next (tapFollow (upGlb (upPwr s (fun p => { p with
      perstN := true, exitPending := false, exitPerst := false, linkPm := 0 })) (fun g => { g with configReady := true })))) ∧
  -- FLR: the host interface is reset, queues and commands of the host go without a reply, and digest contexts of the host are freed.
  (∀ (s : State), s.hst.mode ≠ 0 →
    s.glb.configReady = true →
    s.pwr.linkPm ≠ 2 →
    s.flt.containing.contains islHost = false →
    exec .flr s = .next (reApprove (flrContexts (upHst (dropQueues (s.tsk.ops.foldl flrOp s)) Hst.flr)))) ∧
  -- POWER_ON of a device without power: the rails are good, the device is reset with cause 0, and a cold start is due.
  (∀ (s : State), s.glb.poweredOn = false →
    ∃ u, exec .powerOn s = .next (upHlt (upGlb u (fun g => { g with poweredOn := true })) (fun h => { h with coldDue := true })) ∧
      u = deviceReset (upPwr s (fun p => { p with railsGood := true })) 0) ∧
  -- BOOT without a valid slot enters ROM recovery.
  (∀ (s : State) (found : BootIn), bootable s = true →
    bootChoice (readSlots (upGlb s (fun g => { g with serviceStart := found.service, fpRxdLow := found.service }))) = none →
    exec (.boot found) s = .next (romRecovery (readSlots (upGlb s (fun g => { g with serviceStart := found.service, fpRxdLow := found.service }))))) ∧
  -- BOOT of a valid slot whose tests pass, with the DRAM its profile names: the image starts, DRAM is trained, and the boot goes on to flash.
  (∀ (s : State) (found : BootIn) (golden : Bool) (u : State), bootable s = true →
    bootChoice (readSlots (upGlb s (fun g => { g with serviceStart := found.service, fpRxdLow := found.service }))) = some golden →
    u = powerUpTests (startImage (readSlots (upGlb s (fun g => { g with serviceStart := found.service, fpRxdLow := found.service }))) golden) found.selftestFailed →
    u.sec.errorState = false →
    dramAgrees u found.board = true →
    found.board.trainOk = true →
    exec (.boot found) s = .next (bootFlash (trainDram u found.board) golden found)) ∧
  -- The boot's flash step, with matching hashes and the flash its profile names, takes the flash and recovers the state.
  (∀ (s : State) (golden : Bool) (found : BootIn), s.drc.trained = true →
    found.hashMismatch = false →
    flashAgrees s found.board = true →
    bootFlash s golden found = bootRecover (takeFlash s found.board) found) ∧
  -- Recovery that succeeds ends the boot: the device is READY, boots no longer, and states how long it took.
  (∀ (s u : State) (found : BootIn), recoverState (dropRoots s found.badRoots) (spareShare s) found.pjmUncorrectable found.dumpUnreadable found.mirror found.media = some u →
    (endHoldup u).glb.serviceStart = false →
    (bootRecover s found).glb.ready = true ∧ (bootRecover s found).glb.booting = false ∧
      (bootRecover s found).glb.startMs = found.ms % 65536)

/-- Link training, IDE, persistent flush, CXL.mem, decoder and island commands have the effect their rules give and complete. -/
def Obligations.LinkCommandsComplete : Prop :=
  -- LINK_TRAINING: the link is up at its speed and width, in CXL mode where the alternate protocol was negotiated at 8 GT/s or more and else in PCIe-only mode.
  (∀ (s : State) (speed width : Nat) (alternate reversed : Bool), 1 ≤ speed →
    speed ≤ 5 →
    width = 1 ∨ width = 2 ∨ width = 4 ∨ width = 8 →
    s.hst.mode = 0 →
    s.glb.poweredOn = true →
    s.pwr.perstN = true →
    s.pwr.state ≠ 3 →
    s.flt.containing.contains islHost = false →
    exec (.linkTraining speed width alternate reversed) s = .next { s with
      hst := { s.hst with speed, width, laneReversed := reversed, mode := if alternate && decide (3 ≤ speed) then 2 else 1 }, glb := { s.glb with configReady := true } }) ∧
  -- LINK_DOWNTRAIN: a lower speed or a lower width is taken, with the event bit of each that fell, and the DOWNTRAIN source is raised; in CXL mode the speed is 8 GT/s or more.
  (∀ (s : State) (speed width : Nat), s.hst.mode ≠ 0 →
    1 ≤ speed →
    speed ≤ 5 →
    s.hst.mode = 1 ∨ 3 ≤ speed →
    speed < s.hst.speed ∨ width < s.hst.width →
    width = 1 ∨ width = 2 ∨ width = 4 ∨ width = 8 →
    ∃ u, exec (.linkDowntrain speed width) s = .next (raise u srcDowntrain) ∧ u.hst.speed = speed ∧ u.hst.width = width ∧ u.hst.evSpeed = (s.hst.evSpeed || decide (speed < s.hst.speed)) ∧
      u.hst.evWidth = (s.hst.evWidth || decide (width < s.hst.width)) ∧ ChangesOnly [.hst] s u) ∧
  -- IDE_CHECK_FAIL: the stream goes insecure, its traffic waits, its event bit is set, and HOST raises class 4.
  (∀ (s : State), s.hst.mode ≠ 0 →
    s.hst.ideCm = true →
    ∃ u, exec (.ideCheckFail true) s = .next (reApprove (raise (logRas u rasIde 0) (unit islHost 4))) ∧
      u = upHst s (fun h => { h with ideCm := false, cmHeld := true, evIdeCm := true })) ∧
  -- IDE_KEY_REFRESH inside a session: the stream that waited is secure again, and interrupts that waited go out.
  (∀ (s : State), s.hst.session ≠ 0 →
    s.sec.errorState = false →
    s.hst.cmHeld = true →
    exec (.ideKeyRefresh true) s = .next (reApprove (msixFlush (upHst s (fun h => { h with ideCm := true, cmHeld := false }))))) ∧
  -- GPF_PHASE1: every ring's waiting entries are written, and the host lines held are released.
  (∀ (s : State), cacheUp s = true →
    exec .gpfPhase1 s = .next (upHst ((s.tsk.rings.map (·.1)).foldl drainRing s) (fun h => { h with hostLines := 0 }))) ∧
  -- GPF_PHASE2 is counted.
  (∀ (s : State), s.hst.mode = 2 →
    exec .gpfPhase2 s = .next { s with hst := { s.hst with gpfCount := wrapInc s.hst.gpfCount } }) ∧
  -- CXL_MEM_READ of an Arena line that is clean, in host bias and of a channel not in full retrain, answers its 64 bytes without poison.
  (∀ (s : State) (addr a : Nat) (check : LineCheck), memUp s = true →
    addr % 64 = 0 →
    hdmDecode s addr = some a →
    s.drc.retraining.contains (lineChannel s (arenaLine s a)) = false →
    s.hst.deviceBias.contains (a / 65536) = false →
    s.drc.poisoned.contains (arenaLine s a) = false →
    lineVerdict s (arenaLine s a) check = .clean →
    exec (.cxlMemRead addr check) s = .next { s with hst := { s.hst with memAnswers := (addr, loadZero s.arena a 64, false) :: s.hst.memAnswers } }) ∧
  -- CXL_MEM_READ outside every committed decoder answers all ones with poison and logs the error.
  (∀ (s : State) (addr : Nat) (c : LineCheck), memUp s = true →
    addr % 64 = 0 →
    hdmDecode s addr = none →
    exec (.cxlMemRead addr c) s = .next (answerMem (logRas s rasAddress addr) addr (List.replicate 64 0xFF) true)) ∧
  -- CXL_MEM_WRITE of a whole line in host bias, of a channel not in full retrain: exactly those 64 bytes of the Arena change, to the bytes written, and the line is poisoned no longer.
  (∀ (s : State) (addr a : Nat) (c : LineCheck) (data : List (Option Byte)), memUp s = true →
    addr % 64 = 0 →
    data.length = 64 →
    hdmDecode s addr = some a →
    s.drc.retraining.contains (lineChannel s (arenaLine s a)) = false →
    s.hst.deviceBias.contains (a / 65536) = false →
    data.all (fun b => b.isSome) = true →
    exec (.cxlMemWrite addr data c) s = .next { s with
      arena := storeNonzero s.arena a (mergeBytes (loadZero s.arena a 64) data),
      drc := { s.drc with poisoned := s.drc.poisoned.filter (· != arenaLine s a) } }) ∧
  -- HDM_DECODER_COMMIT of legal settings commits decoder 0.
  (∀ (s : State) (base size gran : Nat), s.hst.mode ≠ 0 →
    s.glb.configReady = true →
    s.hst.ioHeld = false →
    base % 0x10000000 = 0 →
    size % 0x10000000 = 0 →
    gran = 256 ∨ gran = 4096 →
    0 < arenaBytes s →
    size ≤ arenaBytes s →
    s.hst.hdm1.committed = false →
    exec (.hdmDecoderCommit 0 base size 1 gran 0) s = .next (upHst s (fun h => { h with
      hdm0 := { base, size, ways := 1, gran, pos := 0, committed := true, error := false } }))) ∧
  -- HDM_DECODER_COMMIT of settings that are not legal does not commit and reports the error.
  (∀ (s : State) (base size ways gran pos : Nat), s.hst.mode ≠ 0 →
    s.glb.configReady = true →
    s.hst.ioHeld = false →
    base % 0x10000000 ≠ 0 →
    exec (.hdmDecoderCommit 0 base size ways gran pos) s = .next (upHst s (fun h => { h with
      hdm0 := { base, size, ways, gran, pos, committed := false, error := true } }))) ∧
  -- HANDSHAKE_TIMEOUT: an island that neither wakes, nor is held in reset, nor retrains its channel, and did not answer a sender on a bridge of its own, raises class 2 with that sender.
  (∀ (s : State) (island sender : Nat), island < 45 →
    bridged island sender = true →
    s.pwr.gated.contains island = false →
    s.pwr.retained.contains island = false →
    inReset s island = false →
    heldInReset s island = false →
    s.drc.retraining.any (fun c => islDram c == island) = false →
    exec (.handshakeTimeout island sender) s = .next (raiseAt s (unit island 2) none false (some sender))) ∧
  -- ISLAND_IDLE_GATE: an idle island in Run is gated.
  (∀ (s : State) (i : Nat), 2 ≤ i →
    i < 45 →
    s.pwr.state = 0 →
    s.pwr.trans = none →
    islandBusy s i = false →
    s.hlt.slice ≠ some i →
    exec (.islandIdleGate i) s = .next { s with pwr := { s.pwr with gated := linsert s.pwr.gated i } }) ∧
  -- ISLAND_WAKE of a gated island ungates it.
  (∀ (s : State) (i : Nat) (lost : Bool), s.pwr.gated.contains i = true →
    s.pwr.retained.contains i = false →
    exec (.islandWake i lost) s = .next (upPwr s (fun p => { p with gated := p.gated.filter (· != i), retained := p.retained.filter (· != i) })))

/-- Programs, the journal, checkpoints, leaf pages and garbage collection have the effect their rules give and complete. -/
def Obligations.MediaCommandsComplete : Prop :=
  -- PROGRAM_COMPLETE of one all-zero block whose page and room are there: the block takes the zero form without a program, and a takeover's replay goes on.
  (∀ (s : State) (t : Stream) (v lba : Nat) (y : Staged) (x : Volume), mediaStopped s = false →
    s.sec.errorState = false →
    (pagesReady s v [lba / 512]).1 = true →
    jRoom s 42 = true →
    toPlace s v lba = some y →
    mget s.med.volumes v = some x →
    allZero y.data = true →
    exec (.programComplete (.host t v [lba])) s = .next (replayMirror (placeZero (pagesReady s v [lba / 512]).2 v y))) ∧
  -- PROGRAM_COMPLETE of a sequential stretch places it as one extent.
  (∀ (s : State) (v st : Nat), mediaStopped s = false →
    s.sec.errorState = false →
    exec (.programComplete (.extent v st)) s = .next (placeExtent s v st)) ∧
  -- PROGRAM_COMPLETE of the victim's next blocks of one volume, their sources at hand: they are copied as one run to the GC stream.
  (∀ (s u : State) (b : Nat) (list : List (Nat × Nat)) (media : MediaIn) (h : Nat × Nat) (l : List (GcCopy × ToPlace)), mediaStopped s = false →
    s.sec.errorState = false →
    s.med.victim = some b →
    list.head? = some h →
    (victimNext s b).take list.length = list →
    list.all (fun x => x.1 == h.1) = true →
    copySources s media list = (some l, u) →
    exec (.programComplete (.copies list media)) s = .next (copyRun u h.1 l)) ∧
  -- SEGMENT_SEAL_TIMEOUT of an open band whose first data has waited for MED_SEAL_TIMER.MS pads and seals its segment.
  (∀ (s : State) (b : Nat) (x : Band), mget s.med.bands b = some x →
    x.state = .opened →
    mediaStopped s = false →
    x.firstAt + s.med.sealMs ≤ s.glb.lifetime →
    jRoom s 4 = true →
    exec (.segmentSealTimeout b) s = .next (padSegment s b)) ∧
  -- PROGRAM_FAIL on a channel: the open band is closed with that channel recorded as failed, its patrol deadline set, and the close is journalled.
  (∀ (s : State) (b c : Nat) (x : Band), mget s.med.bands b = some x →
    x.state = .opened →
    (chanList s).contains c = true →
    mediaStopped s = false →
    jRoom s 2 = true →
    exec (.programFail b c) s = .next (journalDrain (upMed s (fun m => { m with
      bands := mmod m.bands b (fun x => { x with
        state := .closed, failed := linsert x.failed c,
        deadline := if x.deadline = 0 then s.glb.lifetime + patrolInterval s b else x.deadline }) })) [.band b BandState.closed.code 0] [b])) ∧
  -- ERASE_COMPLETE of an erasing band: its blocks count one more erase, and it is free, or retired where a channel failed.
  (∀ (s : State) (b : Nat) (failed : List Nat) (x : Band), mget s.med.bands b = some x →
    x.state = .erasing →
    mediaStopped s = false →
    jRoom s 1 = true →
    exec (.eraseComplete b failed) s = .next (eraseBand s b x failed 1)) ∧
  -- JOURNAL_LINE_FLUSH: up to four records leave the buffer in order and enter the ring.
  (∀ (s : State), s.med.jbuf.isEmpty = false →
    mediaStopped s = false →
    s.med.ring.length + 4 ≤ ringCap →
    exec .journalLineFlush s = .next (ringWrite (upMed s (fun m => { m with jbuf := m.jbuf.drop 4 })) (s.med.jbuf.take 4))) ∧
  -- CHECKPOINT_START, when due and with a place in the ring, takes the next number; nothing stands recorded since it, and its time is kept.
  (∀ (s : State), s.med.ckpt = none →
    s.glb.ready = true →
    s.med.dumpActive = false →
    s.sec.errorState = false →
    ckptDue s = true →
    s.med.ring.length < ringCap →
    exec .checkpointStart s = .next (startCkpt s)) ∧
  -- CHECKPOINT_ROOT_WRITE with all pieces written: the root enters the slot of its number's parity, the pieces it supersedes stop being valid, a journaling device sends it, and the tail moves on.
  (∀ (s u : State) (c : Checkpoint), mediaStopped s = false →
    u = writePieces s →
    u.med.ckpt = some c →
    piecesDone u = true →
    ∃ (r : Root) (t : State), r = {
        ckptNo := c.no, jstart := c.jstart, wseqCeil := u.med.wseqCeil, time := u.glb.lifetime, volumes := c.volumes,
        bands := c.bands, dirPieces := c.dirPieces, bandPieces := c.bandPieces } ∧
      t = dropPieces (upMed (putRoot u r) (fun m => { m with ckpt := none, lifeCkpts := m.lifeCkpts + 1 })) ((rootPieces (newestRoot u)).map (fun p => p.2.2)) ∧
      exec .checkpointRootWrite s = .next (moveTail (if journaling t then sendT t (.root c.no r) else t))) ∧
  -- LEAF_FETCH_COMPLETE of a page read well: the page is in the cache, and the fetch is over.
  (∀ (s u : State) (v st level pa : Nat) (c : Codeword), s.med.leafFetch.contains (v, st) = true →
    dirAt s v st = .leaf (some pa) →
    leafRoom s v st = some u →
    mget u.med.flash (paCw pa) = some c →
    mediaHeld u (paCw pa) = false →
    level ≤ 3 →
    level < (ensurePage u v st).med.relocLevel →
    c.kind = 2 →
    c.vol = v →
    c.lba = 512 * st →
    epochsWithin c.entries = true →
    exec (.leafFetchComplete v st level) s =
      .next (upMed (ensurePage u v st) (fun m => { m with leafFetch := m.leafFetch.filter (· != (v, st)) }))) ∧
  -- PAGE_OUT of the oldest dirty page, when half the cache is dirty, writes the page.
  (∀ (s : State) (v st : Nat) (p q : LeafPage), pageAt s v st = some p →
    p.dirty = true →
    mediaStopped s = false →
    jRoom s 4 = true →
    s.med.leafCap < 2 * (dirtyPages s.med.leafCache).length →
    (dirtyPages s.med.leafCache).getLast? = some q →
    q.is v st = true →
    exec (.pageOut v st) s = .next (writePage s p)) ∧
  -- GC_RUN without a victim, below the free share: the best-scored band is the victim, collection is active, Glide ends, and a Map victim's content is set on its way.
  (∀ (s : State) (b : Nat), s.glb.ready = true →
    s.med.dumpActive = false →
    bandToHave s = true →
    flashOff s = false →
    s.med.victim = none →
    s.med.nextVictims = [] →
    belowShare s s.med.gcStart = true →
    bestVictim s = some b →
    exec .gcRun s = .next (workVictim (wakeGlide (upMed s (fun m => { m with victim := some b, gcActive := true, nextVictims := m.nextVictims.filter (· != b) }))) b)) ∧
  -- GC_COMMIT of a copy whose source the map no longer names: the copy is discarded and counted, and the map is unchanged.
  (∀ (s : State) (v lba : Nat) (g : GcCopy) (e : MapEntry), s.med.copies.find? (fun g => g.vol == v && g.lba == lba) = some g →
    mapOf s v lba = some e →
    jRoom s 4 = true →
    (leafRoom s v (lba / 512)).isNone = false →
    e.epoch ≠ g.epoch →
    exec (.gcCommit v lba) s = .next (upMed s (fun m => { m with
      copies := m.copies.erase g, bands := mmod m.bands (paBand g.srcPa) (fun x => { x with copies := x.copies - 1 }),
      gcDiscards := wrapInc m.gcDiscards }))) ∧
  -- GC_COMMIT of a copy whose source the map still names: the entry moves to the copy under the same epoch, and the move is journalled, with the source band DRAINED in the same group when its last block left.
  (∀ (s u : State) (v lba : Nat) (g : GcCopy) (e : MapEntry) (pa : Option Nat) (n : Nat) (x : Volume), s.med.copies.find? (fun g => g.vol == v && g.lba == lba) = some g →
    mapOf s v lba = some e →
    jRoom s 4 = true →
    (leafRoom s v (lba / 512)).isNone = false →
    mget s.med.volumes v = some x →
    e.form.place = some (g.srcPa, n) →
    e.epoch = g.epoch →
    dirAt s v (lba / 512) = .leaf pa →
    g.reloc = false →
    u = applyEntry (bandMod (upMed s (fun m => { m with copies := m.copies.erase g })) (paBand g.srcPa) (fun x => { x with copies := x.copies - 1 })) v lba { e with form := e.form.moved g.dstPa } →
    exec (.gcCommit v lba) s = .next (journal (markDrained u (drying u [paBand g.srcPa]))
      ([.mapGc v lba { e with form := e.form.moved g.dstPa }] ++ (drying u [paBand g.srcPa]).map (fun b => bandRec b .drained)))) ∧
  -- BAND_ERASE of a drained band that nothing reads or copies and whose stripes are released: it is erasing, and its erase is journalled.
  (∀ (s : State) (b : Nat) (x : Band), mget s.med.bands b = some x →
    x.state = .drained →
    x.copies = 0 →
    x.reads = 0 →
    x.unreleased = [] →
    mediaStopped s = false →
    jRoom s 1 = true →
    exec (.bandErase b) s = .next (journal (upMed s (fun m => { m with
      bands := mmod m.bands b (fun x => { x with state := .erasing }) })) [.band b BandState.erasing.code 0]))

/-- Patrol, relocation, and the hold-up dump have the effect their rules give and complete. -/
def Obligations.PatrolAndDumpCommandsComplete : Prop :=
  -- PATROL_READ of the next codeword of the band with the earliest deadline, at a level below the relocation level: the read is counted, and the patrol stands behind it.
  (∀ (s : State) (b cw level : Nat) (x : Band), s.med.patrolPause = false →
    s.glb.ready = true →
    s.med.dumpActive = false →
    bandToHave s = true →
    mediaHeld s cw = false →
    flashOff s = false →
    patrolBand (settlePatrol s) = some (b, x) →
    (patrolLeft (settlePatrol s) b x).head? = some cw →
    level < (settlePatrol s).med.relocLevel →
    level < 4 →
    x.state = .opened →
    exec (.patrolRead cw level) s = .next (settlePatrol (bandMod (upMed (settlePatrol s) (fun m => { m with patrolReads := wrapInc m.patrolReads, lifePatrol := m.lifePatrol + 1 })) b
      (fun x => { x with patrolAt := cw % 2 ^ 18 + 1 })))) ∧
  -- PATROL_OVERDUE: a band past its deadline is marked overdue, and the PATROL source is raised.
  (∀ (s : State) (b : Nat) (x : Band), mget s.med.bands b = some x →
    x.deadline ≠ 0 →
    x.deadline ≤ s.glb.lifetime →
    x.overdue = false →
    x.state = .closed ∨ x.state = .opened →
    exec (.patrolOverdue b) s = .next (raise (upMed s (fun m => { m with bands := mmod m.bands b (fun x => { x with overdue := true }) })) srcPatrol)) ∧
  -- RELOCATION of a block the map still names, whose source is at hand: it leaves the queue, and its copy is programmed.
  (∀ (s u : State) (v lba n : Nat) (g : GcCopy) (t : ToPlace), s.med.relocQueue.find? (fun g => g.vol == v && g.lba == lba) = some g →
    mediaStopped s = false →
    flashOff s = false →
    (mapFull s v lba).form.place = some (g.srcPa, n) →
    (mapFull s v lba).epoch = g.epoch →
    copySource s { } v lba (mapFull s v lba) = (.got t, u) →
    exec (.relocation v lba) s = .next (copyRun (upMed u (fun m => { m with relocQueue := m.relocQueue.erase g })) v [(g, t)])) ∧
  -- PWR_FAIL_ASSERT in Run: incomplete commands end, work stops, and a dump begins.
  (∀ (s u : State), s.pwr.pwrFailN = true →
    s.glb.poweredOn = true →
    s.pwr.pwrFailIgnored = false →
    dumpable s = true →
    s.pwr.state ≠ 3 →
    u = upPwr s (fun p => { p with pwrFailN := false, failFrom := s.glb.lifetime }) →
    exec .pwrFailAssert s = .next (startDump (stopWork (failIncomplete u)) 0)) ∧
  -- The dump that begins in a device that writes none yet: READY falls, and it holds every whole staged block and the journal not yet in flash; in the error state it holds nothing.
  (∀ (s : State), s.med.dumpActive = false →
    (startDump s 0).glb.ready = false ∧ (startDump s 0).med.dumpActive = true ∧
      (startDump s 0).med.dumps.head?.map (fun d => (d.staging, d.tail, d.complete)) =
        some (if s.sec.errorState then [] else s.med.staging.filter (fun x => x.done && !x.lost), if s.sec.errorState then [] else oldTail s ++ s.med.jbuf, false)) ∧
  -- DUMP_COMPLETE of a power-fail dump: the dump is complete and states its time, and the device is dump-held.
  (∀ (s : State) (us : Nat), s.med.dumpActive = true →
    s.med.dumpThen = 0 →
    s.sec.errorState = false →
    exec (.dumpComplete us) s = .next (upPwr (upMed s (fun m => { m with
      dumps := m.dumps.map (fun d => if d.area = m.dumpArea ∧ !d.consumed then { d with complete := true } else d),
      dumpActive := false, dumpUs := us % 2 ^ 32, lifeDumps := m.lifeDumps + 1, dumpHeld := true }))
      (fun p => { p with failFrom := s.glb.lifetime }))) ∧
  -- WARM_RESTART of a dump-held device with power: the islands that lost power come back at their reset values, the dump is consumed, and the device is ready.
  (∀ (s : State), s.med.dumpHeld = true →
    s.pwr.railsGood = true →
    (takeBackDump (resetIslands (upPwr s (fun p => { p with pwrFailN := true })))).sec.errorState = false →
    exec .warmRestart s = .next (warmRestart (upPwr s (fun p => { p with pwrFailN := true }))) ∧
      (warmRestart (upPwr s (fun p => { p with pwrFailN := true }))).med.dumpHeld = false ∧
      (warmRestart (upPwr s (fun p => { p with pwrFailN := true }))).glb.ready = true) ∧
  -- HOLDUP_SENSE_STUCK of a dump-held device with power, whose pin has stayed low for more than 1 s since the dump: it restarts, the device is READ_ONLY, and the HOLDUP source and event are raised.
  (∀ (s : State), s.pwr.pwrFailN = false →
    s.pwr.railsGood = true →
    s.glb.poweredOn = true →
    s.pwr.pwrFailIgnored = false →
    s.pwr.failFrom + 1000 < s.glb.lifetime →
    s.med.dumpHeld = true →
    exec .holdupSenseStuck s = .next (holdupStuck (warmRestart s)))

/-- Refresh, temperature, training, scrub, requests and hammer reseeding of the DRAM have the effect their rules give and complete. -/
def Obligations.DramCommandsComplete : Prop :=
  -- REFRESH_DUE that is not postponed issues the refresh and all that are owed.
  (∀ (s : State) (rank : Nat), dramRuns s = true →
    rankThere s rank = true →
    exec (.refreshDue rank false) s = .next (upDrc (refresh s rank (owedOf s rank + 1)) (fun d => { d with owed := mset d.owed rank 0 }))) ∧
  -- REFRESH_DUE that is postponed for waiting requests, with fewer than four owed, owes one more.
  (∀ (s : State) (rank : Nat), dramRuns s = true →
    rankThere s rank = true →
    rankBusy s rank = true →
    s.drc.rate2x.contains rank = false →
    owedOf s rank ≠ 4 →
    exec (.refreshDue rank true) s = .next (upDrc s (fun d => { d with owed := mset d.owed rank (owedOf s rank + 1) }))) ∧
  -- MR4_POLL of a rank that calls for the higher rate: the rank refreshes at twice the rate, what is owed is issued, and a channel that is not hot is not throttled.
  (∀ (s : State) (rank field : Nat), dramRuns s = true →
    rankThere s rank = true →
    mr4Calls field ≠ 0 →
    channelHot (goTwice (upDrc s (fun d => { d with temp := mset d.temp rank (field % 16), calls1x := mset d.calls1x rank 0 })) rank) (rank / 2) = false →
    exec (.mr4Poll rank field) s = .next (upDrc (goTwice (upDrc s (fun d => { d with temp := mset d.temp rank (field % 16), calls1x := mset d.calls1x rank 0 })) rank)
      (fun d => { d with throttled := d.throttled.filter (· != rank / 2) }))) ∧
  -- MR4_POLL that makes a channel hot throttles it and raises class 3 of its island.
  (∀ (s u : State) (rank field : Nat), dramRuns s = true →
    rankThere s rank = true →
    mr4Calls field = 2 →
    u = goTwice (upDrc s (fun d => { d with temp := mset d.temp rank (field % 16), calls1x := mset d.calls1x rank 0 })) rank →
    channelHot u (rank / 2) = true →
    u.drc.throttled.contains (rank / 2) = false →
    exec (.mr4Poll rank field) s = .next (raise (upDrc u (fun d => { d with throttled := linsert d.throttled (rank / 2) })) (unit (islDram (rank / 2)) 3))) ∧
  -- DQS_RETRACK that moved the strobe is counted for its rank.
  (∀ (s : State) (rank : Nat), dramRuns s = true →
    rankThere s rank = true →
    exec (.dqsRetrack rank true) s = .next { s with drc := { s.drc with retracks := mset s.drc.retracks rank (mgetD s.drc.retracks rank 0 + 1) } }) ∧
  -- DRAM_FULL_RETRAIN of a channel begins, with none under retrain, in the plan's window on a device idle for 2 ms, or in a forced window.
  (∀ (s : State) (c : Nat) (clean : List Nat), dramRuns s = true →
    c < 4 →
    s.drc.retraining = [] →
    (inRetrainWindow s = true ∧ idleFor s 2 = true) ∨ retrainForced s c = true →
    exec (.dramFullRetrain c clean) s = .next { s with drc := { s.drc with retraining := [c] } }) ∧
  -- DRAM_FULL_RETRAIN that completes records its time and clears the mark of each sub-channel rank of the channel whose device it found clean.
  (∀ (s : State) (c : Nat) (clean : List Nat), dramRuns s = true →
    c < 4 →
    s.drc.retraining.contains c = true →
    exec (.dramFullRetrain c clean) s = .next { s with drc := { s.drc with
      retraining := [], lastRetrain := mset s.drc.lastRetrain c s.glb.lifetime,
      marks := s.drc.marks.filter (fun m => !(m.1 / 4 == c && clean.contains m.1)) } }) ∧
  -- SCRUB of the next line, found clean, steps to the line after it, or to line 0 with the pass counted.
  (∀ (s : State) (line : Nat) (check : LineCheck), dramRuns s = true →
    line = s.drc.scrubLine →
    line < dramLines s →
    lineWaits s line = false →
    lineVerdict s line check = .clean →
    exec (.scrub line check) s = .next { s with drc := { s.drc with
      scrubLine := if line + 1 = dramLines s then 0 else line + 1,
      scrubPasses := if line + 1 = dramLines s then wrapInc s.drc.scrubPasses else s.drc.scrubPasses } }) ∧
  -- SCRUB of the next line, found correctable with room in the write queue: the correction is acted on and the line's write-back queued before the step.
  (∀ (s u : State) (line : Nat) (check : LineCheck), dramRuns s = true →
    line = s.drc.scrubLine →
    line < dramLines s →
    lineWaits s line = false →
    (lineVerdict s line check).isCorrected = true →
    writesIn (subAt s (lineSub s line)) < 64 →
    u = writeBack (lineRead s line check) line →
    exec (.scrub line check) s = .next (upDrc u (fun d => { d with
      scrubLine := if line + 1 = dramLines u then 0 else line + 1,
      scrubPasses := if line + 1 = dramLines u then wrapInc d.scrubPasses else d.scrubPasses }))) ∧
  -- DRAM_REQUEST that arrives, a read or a write with its 64 bytes, joins the queue of its sub-channel.
  (∀ (s : State) (sub line : Nat) (w : Bool) (data : List (Option Byte)), dramRuns s = true →
    line < dramLines s →
    lineSub s line = sub →
    (w = true → data.length = 64) →
    ((subAt s sub).queue.filter (fun q => q.write == w)).length < 64 →
    exec (.dramRequest (.arrive sub line w data)) s = .next (enterInOrder (modSub s sub (fun c => setDrain { c with
      queue := c.queue ++ [{ line, write := w, data := if w then data else [], passed := 0 }] })) sub (lineBank s line))) ∧
  -- DRAM_REQUEST that is served: a request that may be served (which one is open) is issued; a write takes effect, and a read answers what the line holds and acts on its check.
  (∀ (s u : State) (sub : Nat) (check : LineCheck) (q : DramReq), dramRuns s = true →
    sub < 8 →
    s.drc.retraining.contains (sub / 2) = false →
    anyOf s (offers s (subAt s sub)) = (some q, u) →
    exec (.dramRequest (.serve sub check)) s = .next (if q.write then writeLine (issueReq u sub q) q.line q.data check
      else readLine (issueReq u sub q) q.line check)) ∧
  -- ROW_IDLE_TIMEOUT of a row no waiting request wants closes it, and the neighbour activates its bank owes follow.
  (∀ (s : State) (sub bank : Nat), ((subAt s sub).bank bank).openRow.isNone = false →
    (bankQueue s (subAt s sub) bank).any (fun r => ((subAt s sub).bank bank).openRow == some (lineRow s r.line)) = false →
    exec (.rowIdleTimeout sub bank) s = .next (closeRow s sub bank)) ∧
  -- NR_RESEED: the channel's generator gets a new value, which one is open.
  (∀ (s : State) (c : Nat), c < 4 →
    ∃ v, v < 2 ^ 32 ∧ exec (.nrReseed c) s = .next { s with free := s.free + 1, drc := { s.drc with gen := mset s.drc.gen c v } })

/-- The class 0b00 instructions of Kite give ga, the flags and the cycles of Table 9.7. -/
def Obligations.KiteArithmetic : Prop :=
  -- ADD: ga + gb; Z N C V.
  (∀ (s : State) (core : CoreId) (i : Instance) (n : Nat) (a b : Reg), Executes s core i (.alu .add a b) n →
    exec (.kAdd core a b) s = .next (kiteDone core.val i n (.ends { s, regs := ({ i.regs with fl := { i.regs.fl with z := (i.regs.get a + i.regs.get b) == 0, n := (i.regs.get a + i.regs.get b).msb, c := decide (2 ^ 32 ≤ (i.regs.get a).toNat + (i.regs.get b).toNat), v := decide ((i.regs.get a).toInt + (i.regs.get b).toInt ≠ (i.regs.get a + i.regs.get b).toInt) } } : Regs).put a (i.regs.get a + i.regs.get b), cost := 1 }))) ∧
  -- SUB: ga − gb; Z N C V.
  (∀ (s : State) (core : CoreId) (i : Instance) (n : Nat) (a b : Reg), Executes s core i (.alu .sub a b) n →
    exec (.kSub core a b) s = .next (kiteDone core.val i n (.ends { s, regs := ({ i.regs with fl := { i.regs.fl with z := (i.regs.get a - i.regs.get b) == 0, n := (i.regs.get a - i.regs.get b).msb, c := decide ((i.regs.get b).toNat ≤ (i.regs.get a).toNat), v := decide ((i.regs.get a).toInt - (i.regs.get b).toInt ≠ (i.regs.get a - i.regs.get b).toInt) } } : Regs).put a (i.regs.get a - i.regs.get b), cost := 1 }))) ∧
  -- ADC: ga + gb + C; Z N C V.
  (∀ (s : State) (core : CoreId) (i : Instance) (n : Nat) (a b : Reg), Executes s core i (.alu .adc a b) n →
    exec (.kAdc core a b) s = .next (kiteDone core.val i n (.ends { s, regs := ({ i.regs with fl := { i.regs.fl with z := (BitVec.ofNat 32 ((i.regs.get a).toNat + (i.regs.get b).toNat + b2n i.regs.fl.c)) == 0, n := (BitVec.ofNat 32 ((i.regs.get a).toNat + (i.regs.get b).toNat + b2n i.regs.fl.c)).msb, c := decide (2 ^ 32 ≤ (i.regs.get a).toNat + (i.regs.get b).toNat + b2n i.regs.fl.c), v := decide ((i.regs.get a).toInt + (i.regs.get b).toInt + b2n i.regs.fl.c ≠ (BitVec.ofNat 32 ((i.regs.get a).toNat + (i.regs.get b).toNat + b2n i.regs.fl.c)).toInt) } } : Regs).put a (BitVec.ofNat 32 ((i.regs.get a).toNat + (i.regs.get b).toNat + b2n i.regs.fl.c)), cost := 1 }))) ∧
  -- SBC: ga − gb − (1 − C); Z N C V.
  (∀ (s : State) (core : CoreId) (i : Instance) (n : Nat) (a b : Reg), Executes s core i (.alu .sbc a b) n →
    exec (.kSbc core a b) s = .next (kiteDone core.val i n (.ends { s, regs := ({ i.regs with fl := { i.regs.fl with z := (i.regs.get a - i.regs.get b - BitVec.ofNat 32 (b2n !i.regs.fl.c)) == 0, n := (i.regs.get a - i.regs.get b - BitVec.ofNat 32 (b2n !i.regs.fl.c)).msb, c := decide ((i.regs.get b).toNat + b2n (!i.regs.fl.c) ≤ (i.regs.get a).toNat), v := decide ((i.regs.get a).toInt - (i.regs.get b).toInt - b2n (!i.regs.fl.c) ≠ (i.regs.get a - i.regs.get b - BitVec.ofNat 32 (b2n !i.regs.fl.c)).toInt) } } : Regs).put a (i.regs.get a - i.regs.get b - BitVec.ofNat 32 (b2n !i.regs.fl.c)), cost := 1 }))) ∧
  -- AND: ga AND gb; Z N.
  (∀ (s : State) (core : CoreId) (i : Instance) (n : Nat) (a b : Reg), Executes s core i (.alu .and a b) n →
    exec (.kAnd core a b) s = .next (kiteDone core.val i n (.ends { s, regs := ({ i.regs with fl := { i.regs.fl with z := (i.regs.get a &&& i.regs.get b) == 0, n := (i.regs.get a &&& i.regs.get b).msb } } : Regs).put a (i.regs.get a &&& i.regs.get b), cost := 1 }))) ∧
  -- OR: ga OR gb; Z N.
  (∀ (s : State) (core : CoreId) (i : Instance) (n : Nat) (a b : Reg), Executes s core i (.alu .or a b) n →
    exec (.kOr core a b) s = .next (kiteDone core.val i n (.ends { s, regs := ({ i.regs with fl := { i.regs.fl with z := (i.regs.get a ||| i.regs.get b) == 0, n := (i.regs.get a ||| i.regs.get b).msb } } : Regs).put a (i.regs.get a ||| i.regs.get b), cost := 1 }))) ∧
  -- XOR: ga XOR gb; Z N.
  (∀ (s : State) (core : CoreId) (i : Instance) (n : Nat) (a b : Reg), Executes s core i (.alu .xor a b) n →
    exec (.kXor core a b) s = .next (kiteDone core.val i n (.ends { s, regs := ({ i.regs with fl := { i.regs.fl with z := (i.regs.get a ^^^ i.regs.get b) == 0, n := (i.regs.get a ^^^ i.regs.get b).msb } } : Regs).put a (i.regs.get a ^^^ i.regs.get b), cost := 1 }))) ∧
  -- MOV: gb; no flag.
  (∀ (s : State) (core : CoreId) (i : Instance) (n : Nat) (a b : Reg), Executes s core i (.alu .mov a b) n →
    exec (.kMov core a b) s = .next (kiteDone core.val i n (.ends { s, regs := ({ i.regs with fl := i.regs.fl } : Regs).put a (i.regs.get b), cost := 1 }))) ∧
  -- CMP: ga unchanged; Z N C V of ga − gb.
  (∀ (s : State) (core : CoreId) (i : Instance) (n : Nat) (a b : Reg), Executes s core i (.alu .cmp a b) n →
    exec (.kCmp core a b) s = .next (kiteDone core.val i n (.ends { s, regs := { i.regs with fl := { i.regs.fl with z := (i.regs.get a - i.regs.get b) == 0, n := (i.regs.get a - i.regs.get b).msb, c := decide ((i.regs.get b).toNat ≤ (i.regs.get a).toNat), v := decide ((i.regs.get a).toInt - (i.regs.get b).toInt ≠ (i.regs.get a - i.regs.get b).toInt) } }, cost := 1 }))) ∧
  -- TST: ga unchanged; Z N of ga AND gb.
  (∀ (s : State) (core : CoreId) (i : Instance) (n : Nat) (a b : Reg), Executes s core i (.alu .tst a b) n →
    exec (.kTst core a b) s = .next (kiteDone core.val i n (.ends { s, regs := { i.regs with fl := { i.regs.fl with z := (i.regs.get a &&& i.regs.get b) == 0, n := (i.regs.get a &&& i.regs.get b).msb } }, cost := 1 }))) ∧
  -- SHL: ga << gb[4:0]; Z N C.
  (∀ (s : State) (core : CoreId) (i : Instance) (n : Nat) (a b : Reg), Executes s core i (.alu .shl a b) n →
    exec (.kShl core a b) s = .next (kiteDone core.val i n (.ends { s, regs := ({ i.regs with fl := { i.regs.fl with z := (i.regs.get a <<< ((i.regs.get b).toNat % 32)) == 0, n := (i.regs.get a <<< ((i.regs.get b).toNat % 32)).msb, c := if ((i.regs.get b).toNat % 32) = 0 then i.regs.fl.c else (i.regs.get a).getLsbD (32 - ((i.regs.get b).toNat % 32)) } } : Regs).put a (i.regs.get a <<< ((i.regs.get b).toNat % 32)), cost := 1 }))) ∧
  -- SHR: ga >> gb[4:0], zero fill; Z N C.
  (∀ (s : State) (core : CoreId) (i : Instance) (n : Nat) (a b : Reg), Executes s core i (.alu .shr a b) n →
    exec (.kShr core a b) s = .next (kiteDone core.val i n (.ends { s, regs := ({ i.regs with fl := { i.regs.fl with z := (i.regs.get a >>> ((i.regs.get b).toNat % 32)) == 0, n := (i.regs.get a >>> ((i.regs.get b).toNat % 32)).msb, c := if ((i.regs.get b).toNat % 32) = 0 then i.regs.fl.c else (i.regs.get a).getLsbD (((i.regs.get b).toNat % 32) - 1) } } : Regs).put a (i.regs.get a >>> ((i.regs.get b).toNat % 32)), cost := 1 }))) ∧
  -- SAR: ga >> gb[4:0], sign fill; Z N C.
  (∀ (s : State) (core : CoreId) (i : Instance) (n : Nat) (a b : Reg), Executes s core i (.alu .sar a b) n →
    exec (.kSar core a b) s = .next (kiteDone core.val i n (.ends { s, regs := ({ i.regs with fl := { i.regs.fl with z := ((i.regs.get a).sshiftRight ((i.regs.get b).toNat % 32)) == 0, n := ((i.regs.get a).sshiftRight ((i.regs.get b).toNat % 32)).msb, c := if ((i.regs.get b).toNat % 32) = 0 then i.regs.fl.c else (i.regs.get a).getLsbD (((i.regs.get b).toNat % 32) - 1) } } : Regs).put a ((i.regs.get a).sshiftRight ((i.regs.get b).toNat % 32)), cost := 1 }))) ∧
  -- ROL: ga rotated left by gb[4:0]; Z N C.
  (∀ (s : State) (core : CoreId) (i : Instance) (n : Nat) (a b : Reg), Executes s core i (.alu .rol a b) n →
    exec (.kRol core a b) s = .next (kiteDone core.val i n (.ends { s, regs := ({ i.regs with fl := { i.regs.fl with z := ((i.regs.get a).rotateLeft ((i.regs.get b).toNat % 32)) == 0, n := ((i.regs.get a).rotateLeft ((i.regs.get b).toNat % 32)).msb, c := if ((i.regs.get b).toNat % 32) = 0 then i.regs.fl.c else ((i.regs.get a).rotateLeft ((i.regs.get b).toNat % 32)).getLsbD 0 } } : Regs).put a ((i.regs.get a).rotateLeft ((i.regs.get b).toNat % 32)), cost := 1 }))) ∧
  -- MUL: the low half of ga × gb, in 2 cycles; Z N.
  (∀ (s : State) (core : CoreId) (i : Instance) (n : Nat) (a b : Reg), Executes s core i (.alu .mul a b) n →
    exec (.kMul core a b) s = .next (kiteDone core.val i n (.ends { s, regs := ({ i.regs with fl := { i.regs.fl with z := (i.regs.get a * i.regs.get b) == 0, n := (i.regs.get a * i.regs.get b).msb } } : Regs).put a (i.regs.get a * i.regs.get b), cost := 2 }))) ∧
  -- MULH: the high half of the unsigned product, in 3 cycles; Z N.
  (∀ (s : State) (core : CoreId) (i : Instance) (n : Nat) (a b : Reg), Executes s core i (.alu .mulh a b) n →
    exec (.kMulh core a b) s = .next (kiteDone core.val i n (.ends { s, regs := ({ i.regs with fl := { i.regs.fl with z := (BitVec.ofNat 32 ((i.regs.get a).toNat * (i.regs.get b).toNat / 2 ^ 32)) == 0, n := (BitVec.ofNat 32 ((i.regs.get a).toNat * (i.regs.get b).toNat / 2 ^ 32)).msb } } : Regs).put a (BitVec.ofNat 32 ((i.regs.get a).toNat * (i.regs.get b).toNat / 2 ^ 32)), cost := 3 }))) ∧
  -- A RUNNING core that ends an instruction of n words, outside a block and without a jump or waits, takes the result, the pc behind the instruction, and its cycles.
  (∀ (i : Instance) (core n : Nat) (e : KEnd), (coreAt e.s core).state = 2 →
    e.waits = 0 →
    e.jump = none →
    e.regs.active = false →
    kiteDone core i n (.ends e) = modInst { e.s with free := e.s.free + 2 } i.run i.num (fun x => { x with regs := { e.regs with
      pc := (e.regs.pc + n) % 16384, cycles := (e.regs.cycles + e.cost) % 2 ^ 64 } }))

/-- ADDI, CMPI and MOVI give Table 9.8's result, flags and cycles, with the immediate formed as Table 9.6 says. -/
def Obligations.KiteImmediates : Prop :=
  -- ADDI: g + imm; Z N C V; 1 cycle and one for each EXT.
  (∀ (s : State) (core : CoreId) (i : Instance) (n : Nat) (exts : List Nat) (a : Reg) (imm : Nat), Executes s core i (.imm .addi exts a imm) n →
    exec (.kAddi core exts a imm) s = .next (kiteDone core.val i n (.ends { s, regs := ({ i.regs with fl := { i.regs.fl with z := (i.regs.get a + kiteImm exts imm) == 0, n := (i.regs.get a + kiteImm exts imm).msb, c := decide (2 ^ 32 ≤ (i.regs.get a).toNat + (kiteImm exts imm).toNat), v := decide ((i.regs.get a).toInt + (kiteImm exts imm).toInt ≠ (i.regs.get a + kiteImm exts imm).toInt) } } : Regs).put a (i.regs.get a + kiteImm exts imm), cost := 1 + exts.length }))) ∧
  -- CMPI: g unchanged; Z N C V of g − imm.
  (∀ (s : State) (core : CoreId) (i : Instance) (n : Nat) (exts : List Nat) (a : Reg) (imm : Nat), Executes s core i (.imm .cmpi exts a imm) n →
    exec (.kCmpi core exts a imm) s = .next (kiteDone core.val i n (.ends { s, regs := { i.regs with fl := { i.regs.fl with z := (i.regs.get a - kiteImm exts imm) == 0, n := (i.regs.get a - kiteImm exts imm).msb, c := decide ((kiteImm exts imm).toNat ≤ (i.regs.get a).toNat), v := decide ((i.regs.get a).toInt - (kiteImm exts imm).toInt ≠ (i.regs.get a - kiteImm exts imm).toInt) } }, cost := 1 + exts.length }))) ∧
  -- MOVI: imm; no flag.
  (∀ (s : State) (core : CoreId) (i : Instance) (n : Nat) (exts : List Nat) (a : Reg) (imm : Nat), Executes s core i (.imm .movi exts a imm) n →
    exec (.kMovi core exts a imm) s = .next (kiteDone core.val i n (.ends { s, regs := ({ i.regs with fl := i.regs.fl } : Regs).put a (kiteImm exts imm), cost := 1 + exts.length }))) ∧
  -- The immediate without EXT is imm6 sign-extended from bit 5.
  (∀ (m : Nat), m < 64 →
    kiteImm [] m = (BitVec.ofNat 6 m).signExtend 32) ∧
  -- With one EXT it is ext ‖ imm6 sign-extended from bit 15.
  (∀ (e m : Nat), e < 1024 →
    m < 64 →
    kiteImm [e] m = (BitVec.ofNat 16 (64 * e + m)).signExtend 32) ∧
  -- With two EXTs it is ext1 ‖ ext2 ‖ imm6 sign-extended from bit 25.
  (∀ (e f m : Nat), e < 1024 →
    f < 1024 →
    m < 64 →
    kiteImm [e, f] m = (BitVec.ofNat 26 (65536 * e + 64 * f + m)).signExtend 32) ∧
  -- With three EXTs it is ext1[5:0] ‖ ext2 ‖ ext3 ‖ imm6.
  (∀ (e f g m : Nat), e < 64 →
    f < 1024 →
    g < 1024 →
    m < 64 →
    kiteImm [e, f, g] m = BitVec.ofNat 32 (67108864 * e + 65536 * f + 64 * g + m))

/-- A Kite branch goes to the next word and its offset, modulo 16,384, exactly when its condition holds. Each branch whose condition holds ends in 2 cycles with a jump to (the next word + off) modulo 16,384, off as a signed 8-bit number; else it ends in 1 cycle without one. The conditions: -/
def Obligations.KiteBranches : Prop :=
  -- BEQ: Z = 1.
  (∀ (s : State) (core : CoreId) (i : Instance) (n off : Nat), Executes s core i (.br .eq off) n →
    exec (.kBeq core off) s = .next (kiteDone core.val i n (.ends (if i.regs.fl.z = true then { s, regs := i.regs, jump := some (((i.regs.pc : Int) + 1 + (BitVec.ofNat 8 off).toInt) % 16384).toNat, cost := 2 } else { s, regs := i.regs, cost := 1 })))) ∧
  -- BNE: Z = 0.
  (∀ (s : State) (core : CoreId) (i : Instance) (n off : Nat), Executes s core i (.br .ne off) n →
    exec (.kBne core off) s = .next (kiteDone core.val i n (.ends (if i.regs.fl.z = false then { s, regs := i.regs, jump := some (((i.regs.pc : Int) + 1 + (BitVec.ofNat 8 off).toInt) % 16384).toNat, cost := 2 } else { s, regs := i.regs, cost := 1 })))) ∧
  -- BCS: C = 1.
  (∀ (s : State) (core : CoreId) (i : Instance) (n off : Nat), Executes s core i (.br .cs off) n →
    exec (.kBcs core off) s = .next (kiteDone core.val i n (.ends (if i.regs.fl.c = true then { s, regs := i.regs, jump := some (((i.regs.pc : Int) + 1 + (BitVec.ofNat 8 off).toInt) % 16384).toNat, cost := 2 } else { s, regs := i.regs, cost := 1 })))) ∧
  -- BCC: C = 0.
  (∀ (s : State) (core : CoreId) (i : Instance) (n off : Nat), Executes s core i (.br .cc off) n →
    exec (.kBcc core off) s = .next (kiteDone core.val i n (.ends (if i.regs.fl.c = false then { s, regs := i.regs, jump := some (((i.regs.pc : Int) + 1 + (BitVec.ofNat 8 off).toInt) % 16384).toNat, cost := 2 } else { s, regs := i.regs, cost := 1 })))) ∧
  -- BMI: N = 1.
  (∀ (s : State) (core : CoreId) (i : Instance) (n off : Nat), Executes s core i (.br .mi off) n →
    exec (.kBmi core off) s = .next (kiteDone core.val i n (.ends (if i.regs.fl.n = true then { s, regs := i.regs, jump := some (((i.regs.pc : Int) + 1 + (BitVec.ofNat 8 off).toInt) % 16384).toNat, cost := 2 } else { s, regs := i.regs, cost := 1 })))) ∧
  -- BPL: N = 0.
  (∀ (s : State) (core : CoreId) (i : Instance) (n off : Nat), Executes s core i (.br .pl off) n →
    exec (.kBpl core off) s = .next (kiteDone core.val i n (.ends (if i.regs.fl.n = false then { s, regs := i.regs, jump := some (((i.regs.pc : Int) + 1 + (BitVec.ofNat 8 off).toInt) % 16384).toNat, cost := 2 } else { s, regs := i.regs, cost := 1 })))) ∧
  -- BMS: M = 1.
  (∀ (s : State) (core : CoreId) (i : Instance) (n off : Nat), Executes s core i (.br .ms off) n →
    exec (.kBms core off) s = .next (kiteDone core.val i n (.ends (if i.regs.fl.m = true then { s, regs := i.regs, jump := some (((i.regs.pc : Int) + 1 + (BitVec.ofNat 8 off).toInt) % 16384).toNat, cost := 2 } else { s, regs := i.regs, cost := 1 })))) ∧
  -- BMC: M = 0.
  (∀ (s : State) (core : CoreId) (i : Instance) (n off : Nat), Executes s core i (.br .mc off) n →
    exec (.kBmc core off) s = .next (kiteDone core.val i n (.ends (if i.regs.fl.m = false then { s, regs := i.regs, jump := some (((i.regs.pc : Int) + 1 + (BitVec.ofNat 8 off).toInt) % 16384).toNat, cost := 2 } else { s, regs := i.regs, cost := 1 })))) ∧
  -- BHI: C = 1 and Z = 0.
  (∀ (s : State) (core : CoreId) (i : Instance) (n off : Nat), Executes s core i (.br .hi off) n →
    exec (.kBhi core off) s = .next (kiteDone core.val i n (.ends (if i.regs.fl.c = true ∧ i.regs.fl.z = false then { s, regs := i.regs, jump := some (((i.regs.pc : Int) + 1 + (BitVec.ofNat 8 off).toInt) % 16384).toNat, cost := 2 } else { s, regs := i.regs, cost := 1 })))) ∧
  -- BLS: C = 0 or Z = 1.
  (∀ (s : State) (core : CoreId) (i : Instance) (n off : Nat), Executes s core i (.br .ls off) n →
    exec (.kBls core off) s = .next (kiteDone core.val i n (.ends (if i.regs.fl.c = false ∨ i.regs.fl.z = true then { s, regs := i.regs, jump := some (((i.regs.pc : Int) + 1 + (BitVec.ofNat 8 off).toInt) % 16384).toNat, cost := 2 } else { s, regs := i.regs, cost := 1 })))) ∧
  -- BGE: N = V.
  (∀ (s : State) (core : CoreId) (i : Instance) (n off : Nat), Executes s core i (.br .ge off) n →
    exec (.kBge core off) s = .next (kiteDone core.val i n (.ends (if i.regs.fl.n = i.regs.fl.v then { s, regs := i.regs, jump := some (((i.regs.pc : Int) + 1 + (BitVec.ofNat 8 off).toInt) % 16384).toNat, cost := 2 } else { s, regs := i.regs, cost := 1 })))) ∧
  -- BLT: N ≠ V.
  (∀ (s : State) (core : CoreId) (i : Instance) (n off : Nat), Executes s core i (.br .lt off) n →
    exec (.kBlt core off) s = .next (kiteDone core.val i n (.ends (if i.regs.fl.n ≠ i.regs.fl.v then { s, regs := i.regs, jump := some (((i.regs.pc : Int) + 1 + (BitVec.ofNat 8 off).toInt) % 16384).toNat, cost := 2 } else { s, regs := i.regs, cost := 1 })))) ∧
  -- BGT: Z = 0 and N = V.
  (∀ (s : State) (core : CoreId) (i : Instance) (n off : Nat), Executes s core i (.br .gt off) n →
    exec (.kBgt core off) s = .next (kiteDone core.val i n (.ends (if i.regs.fl.z = false ∧ i.regs.fl.n = i.regs.fl.v then { s, regs := i.regs, jump := some (((i.regs.pc : Int) + 1 + (BitVec.ofNat 8 off).toInt) % 16384).toNat, cost := 2 } else { s, regs := i.regs, cost := 1 })))) ∧
  -- BLE: Z = 1 or N ≠ V.
  (∀ (s : State) (core : CoreId) (i : Instance) (n off : Nat), Executes s core i (.br .le off) n →
    exec (.kBle core off) s = .next (kiteDone core.val i n (.ends (if i.regs.fl.z = true ∨ i.regs.fl.n ≠ i.regs.fl.v then { s, regs := i.regs, jump := some (((i.regs.pc : Int) + 1 + (BitVec.ofNat 8 off).toInt) % 16384).toNat, cost := 2 } else { s, regs := i.regs, cost := 1 })))) ∧
  -- BAL: always.
  (∀ (s : State) (core : CoreId) (i : Instance) (n off : Nat), Executes s core i (.br .al off) n →
    exec (.kBal core off) s = .next (kiteDone core.val i n (.ends { s, regs := i.regs, jump := some (((i.regs.pc : Int) + 1 + (BitVec.ofNat 8 off).toInt) % 16384).toNat, cost := 2 }))) ∧
  -- BVS: V = 1.
  (∀ (s : State) (core : CoreId) (i : Instance) (n off : Nat), Executes s core i (.br .vs off) n →
    exec (.kBvs core off) s = .next (kiteDone core.val i n (.ends (if i.regs.fl.v = true then { s, regs := i.regs, jump := some (((i.regs.pc : Int) + 1 + (BitVec.ofNat 8 off).toInt) % 16384).toNat, cost := 2 } else { s, regs := i.regs, cost := 1 }))))

/-- Kite loads, stores, port accesses, jumps, LDPW, TRAP and MOVSR have the effect of Table 9.10 and complete. A core that executes the instruction goes on as follows. -/
def Obligations.KiteTransfersComplete : Prop :=
  -- LD of a line that reads, corrected or not: the 32-bit word at gb enters ga; 2 cycles from local memory, 3 from shared memory.
  (∀ (s : State) (core : CoreId) (i : Instance) (n : Nat) (a b : Reg) (check : LineCheck) (r : Region) (d : List Byte) (t : State) (u : State), Executes s core i (.mem .ld a b) n →
    (i.regs.get b).toNat % 4 = 0 →
    (region s i (i.regs.get b).toNat 4).isNone = false →
    u = checkLine s i (i.regs.get b).toNat check →
    poisonedAt u (instNow u i) (i.regs.get b).toNat = false →
    region u (instNow u i) (i.regs.get b).toNat 4 = some r →
    dataTake u (instNow u i) (i.regs.get b).toNat 4 = some (d, t) →
    exec (.kLd core a b check) s = .next (kiteDone core.val i n (.ends { s := t, regs := (instNow u i).regs.put a (word (unle d)), cost := if r.isShared then 3 else 2, waits := b2n r.isShared }))) ∧
  -- LDB: the byte at gb, zero-extended, enters ga.
  (∀ (s : State) (core : CoreId) (i : Instance) (n : Nat) (a b : Reg) (check : LineCheck) (r : Region) (d : List Byte) (t : State) (u : State), Executes s core i (.mem .ldb a b) n →
    (region s i (i.regs.get b).toNat 1).isNone = false →
    u = checkLine s i (i.regs.get b).toNat check →
    poisonedAt u (instNow u i) (i.regs.get b).toNat = false →
    region u (instNow u i) (i.regs.get b).toNat 1 = some r →
    dataTake u (instNow u i) (i.regs.get b).toNat 1 = some (d, t) →
    exec (.kLdb core a b check) s = .next (kiteDone core.val i n (.ends { s := t, regs := (instNow u i).regs.put a (word (unle d)), cost := if r.isShared then 3 else 2, waits := b2n r.isShared }))) ∧
  -- ST over a line that reads: the word of ga is written at gb; 1 cycle to local memory, 2 to shared memory.
  (∀ (s : State) (core : CoreId) (i : Instance) (n : Nat) (a b : Reg) (check : LineCheck) (r : Region) (t : State) (u : State), Executes s core i (.mem .st a b) n →
    (i.regs.get b).toNat % 4 = 0 →
    (dataWrite s i (i.regs.get b).toNat (le 4 (i.regs.get a).toNat)).isNone = false →
    u = checkLine s i (i.regs.get b).toNat check →
    poisonedAt u (instNow u i) (i.regs.get b).toNat = false →
    region u (instNow u i) (i.regs.get b).toNat 4 = some r →
    dataWrite u (instNow u i) (i.regs.get b).toNat (le 4 (i.regs.get a).toNat) = some t →
    exec (.kSt core a b check) s = .next (kiteDone core.val i n (.ends { s := t, regs := (instNow u i).regs, cost := if r.isShared then 2 else 1, waits := b2n r.isShared }))) ∧
  -- STB: the low byte of ga is written at gb.
  (∀ (s : State) (core : CoreId) (i : Instance) (n : Nat) (a b : Reg) (check : LineCheck) (r : Region) (t : State) (u : State), Executes s core i (.mem .stb a b) n →
    (dataWrite s i (i.regs.get b).toNat (le 1 (i.regs.get a).toNat)).isNone = false →
    u = checkLine s i (i.regs.get b).toNat check →
    poisonedAt u (instNow u i) (i.regs.get b).toNat = false →
    region u (instNow u i) (i.regs.get b).toNat 1 = some r →
    dataWrite u (instNow u i) (i.regs.get b).toNat (le 1 (i.regs.get a).toNat) = some t →
    exec (.kStb core a b check) s = .next (kiteDone core.val i n (.ends { s := t, regs := (instNow u i).regs, cost := if r.isShared then 2 else 1, waits := b2n r.isShared }))) ∧
  -- A load of a line that is or proves poisoned raises LINE_CODE_UNCORRECTABLE.
  (∀ (s : State) (core : CoreId) (i : Instance) (n : Nat) (a b : Reg) (check : LineCheck) (u : State), Executes s core i (.mem .ld a b) n →
    (i.regs.get b).toNat % 4 = 0 →
    (region s i (i.regs.get b).toNat 4).isNone = false →
    u = checkLine s i (i.regs.get b).toNat check →
    poisonedAt u (instNow u i) (i.regs.get b).toNat = true →
    exec (.kLd core a b check) s = .next (kiteDone core.val i n (.faults u 7 (instNow u i).regs.pc))) ∧
  -- A word access at an address that is no multiple of 4 raises DATA_FAULT.
  (∀ (s : State) (core : CoreId) (i : Instance) (n : Nat) (a b : Reg) (check : LineCheck), Executes s core i (.mem .ld a b) n →
    (i.regs.get b).toNat % 4 ≠ 0 →
    exec (.kLd core a b check) s = .next (kiteDone core.val i n (.faults s 5 i.regs.pc))) ∧
  -- IN of a port but SCAN_DATA that answers: its value enters ga, in 2 cycles.
  (∀ (s : State) (core : CoreId) (i : Instance) (n : Nat) (a b : Reg) (check : LineCheck) (v : Word) (t : State), Executes s core i (.mem .inp a b) n →
    i.regs.get b ≠ 0 →
    portIn s i core.val (i.regs.get b) 4 = .done v t →
    exec (.kIn core a b check) s = .next (kiteDone core.val i n (.ends { s := t, regs := i.regs.put a v, cost := 2 }))) ∧
  -- IN of SCAN_DATA, whose ring lines read: the stream's next word enters ga, in 2 cycles.
  (∀ (s : State) (core : CoreId) (i : Instance) (n : Nat) (a b : Reg) (check : LineCheck) (v0 v : Word) (t0 u t : State), Executes s core i (.mem .inp a b) n →
    i.regs.get b = 0 →
    portIn s i core.val 0 4 = .done v0 t0 →
    u = checkScan s i check →
    scanPoisoned u (instNow u i) 4 = false →
    portIn u (instNow u i) core.val 0 4 = .done v t →
    exec (.kIn core a b check) s = .next (kiteDone core.val i n (.ends { s := t, regs := (instNow u i).regs.put a v, cost := 2 }))) ∧
  -- OUT of a port that takes the word ends in 2 cycles.
  (∀ (s : State) (core : CoreId) (i : Instance) (n : Nat) (a b : Reg) (v : Word) (t : State), Executes s core i (.mem .outp a b) n →
    portOut s i (i.regs.get b) (i.regs.get a) = .done v t →
    exec (.kOut core a b) s = .next (kiteDone core.val i n (.ends { s := t, regs := i.regs, cost := 2 }))) ∧
  -- A port register above 0xFFF raises PORT_DENIED.
  (∀ (s : State) (core : CoreId) (i : Instance) (n : Nat) (a b : Reg) (check : LineCheck), Executes s core i (.mem .inp a b) n →
    4096 ≤ (i.regs.get b).toNat →
    exec (.kIn core a b check) s = .next (kiteDone core.val i n (.faults s 6 i.regs.pc))) ∧
  -- JMP: pc := ga[13:0], in 2 cycles.
  (∀ (s : State) (core : CoreId) (i : Instance) (n : Nat) (a : Reg), Executes s core i (.jmp a) n →
    exec (.kJmp core a) s = .next (kiteDone core.val i n (.ends { s, regs := i.regs, jump := some ((i.regs.get a).toNat % 16384), cost := 2 }))) ∧
  -- CALL: lk := the next word, pc := the old ga[13:0].
  (∀ (s : State) (core : CoreId) (i : Instance) (n : Nat) (a : Reg), Executes s core i (.call a) n →
    exec (.kCall core a) s = .next (kiteDone core.val i n (.ends { s, regs := i.regs.put 15 (word ((i.regs.pc + 1) % 16384)), jump := some ((i.regs.get a).toNat % 16384), cost := 2 }))) ∧
  -- RET: pc := lk[13:0].
  (∀ (s : State) (core : CoreId) (i : Instance) (n : Nat), Executes s core i .ret n →
    exec (.kRet core) s = .next (kiteDone core.val i n (.ends { s, regs := i.regs, jump := some ((i.regs.get 15).toNat % 16384), cost := 2 }))) ∧
  -- NOP: nothing, in 1 cycle.
  (∀ (s : State) (core : CoreId) (i : Instance) (n : Nat), Executes s core i .nop n →
    exec (.kiteNop core) s = .next (kiteDone core.val i n (.ends { s, regs := i.regs, cost := 1 }))) ∧
  -- LDPW of a line that reads: the program word at gb, as the line code delivers it, zero-extended, enters ga.
  (∀ (s : State) (core : CoreId) (i : Instance) (n : Nat) (a b : Reg) (check : LineCheck) (u : State) (v : Nat), Executes s core i (.ldpw a b) n →
    (i.regs.get b).toNat ≤ 16383 →
    u = checkCode s i core.val (i.regs.get b).toNat check →
    codePoisoned u core.val (i.regs.get b).toNat = false →
    v = (match onChip check with | .wrong delta => codeWord u core.val (i.regs.get b).toNat ^^^ num delta (2 * ((i.regs.get b).toNat % 32)) 2 | _ => codeWord u core.val (i.regs.get b).toNat) →
    exec (.kLdpw core a b check) s = .next (kiteDone core.val i n (.ends { s := u, regs := i.regs.put a (word (v % 16384)), cost := 2 }))) ∧
  -- LDPW above word 16,383 raises DATA_FAULT.
  (∀ (s : State) (core : CoreId) (i : Instance) (n : Nat) (a b : Reg) (check : LineCheck), Executes s core i (.ldpw a b) n →
    16383 < (i.regs.get b).toNat →
    exec (.kLdpw core a b check) s = .next (kiteDone core.val i n (.faults s 5 i.regs.pc))) ∧
  -- TRAP raises TRAP.
  (∀ (s : State) (core : CoreId) (i : Instance) (n : Nat), Executes s core i .trap n →
    exec (.kTrap core) s = .next (kiteDone core.val i n (.faults s 8 i.regs.pc))) ∧
  -- MOVSR reads pc as the address of the next word.
  (∀ (s : State) (core : CoreId) (i : Instance) (n : Nat) (a : Reg), Executes s core i (.movsr a false 0) n →
    exec (.kMovsr core a false 0) s = .next (kiteDone core.val i n (.ends { s, regs := i.regs.put a (word ((i.regs.pc + 1) % 16384)) }))) ∧
  -- MOVSR writes fl from bits [4:0].
  (∀ (s : State) (core : CoreId) (i : Instance) (n : Nat) (a : Reg), Executes s core i (.movsr a true 1) n →
    exec (.kMovsr core a true 1) s = .next (kiteDone core.val i n (.ends { s, regs := { i.regs with fl := flagsOf (i.regs.get a).toNat } }))) ∧
  -- MOVSR of cyl reads the low half of the count and holds the high half.
  (∀ (s : State) (core : CoreId) (i : Instance) (n : Nat) (a : Reg), Executes s core i (.movsr a false 5) n →
    exec (.kMovsr core a false 5) s = .next (kiteDone core.val i n (.ends { s, regs := { i.regs.put a (word i.regs.cycles) with cyHold := i.regs.cycles / 2 ^ 32 } }))) ∧
  -- MOVSR of number 7 raises ILLEGAL_INSTRUCTION.
  (∀ (s : State) (core : CoreId) (i : Instance) (n : Nat) (a : Reg) (w : Bool), Executes s core i (.movsr a w 7) n →
    exec (.kMovsr core a w 7) s = .next (kiteDone core.val i n (.faults s 1 i.regs.pc))) ∧
  -- A RUNNING core whose instruction jumps, outside a block, goes on at the target.
  (∀ (i : Instance) (core n t : Nat) (e : KEnd), (coreAt e.s core).state = 2 →
    e.waits = 0 →
    e.jump = some t →
    e.regs.active = false →
    kiteDone core i n (.ends e) = modInst { e.s with free := e.s.free + 2 } i.run i.num (fun x => { x with regs := { e.regs with
      pc := t, cycles := (e.regs.cycles + e.cost) % 2 ^ 64 } }))

/-- Kite block repeats, WAIT, HALT, REP and the string operations have chapter 09's effect and complete. -/
def Obligations.KiteRepeatsComplete : Prop :=
  -- BRPT with rc not 0 enters its block.
  (∀ (s : State) (core : CoreId) (i : Instance) (n m : Nat), Executes s core i (.brpt m) n →
    i.regs.pc + m ≤ 16383 →
    i.regs.active = false →
    i.regs.get 14 ≠ 0 →
    exec (.kBrpt core m) s = .next (kiteDone core.val i n (.ends { s, regs := { i.regs with bs := i.regs.pc + 1, be := i.regs.pc + m, active := true }, jump := some (i.regs.pc + 1) }))) ∧
  -- BRPT with rc 0 skips its block.
  (∀ (s : State) (core : CoreId) (i : Instance) (n m : Nat), Executes s core i (.brpt m) n →
    i.regs.pc + m ≤ 16383 →
    i.regs.active = false →
    i.regs.get 14 = 0 →
    exec (.kBrpt core m) s = .next (kiteDone core.val i n (.ends { s, regs := { i.regs with bs := i.regs.pc + 1, be := i.regs.pc + m }, jump := some ((i.regs.pc + m + 1) % 16384) }))) ∧
  -- BRPT inside a block raises BRPT_NEST.
  (∀ (s : State) (core : CoreId) (i : Instance) (n m : Nat), Executes s core i (.brpt m) n →
    i.regs.pc + m ≤ 16383 →
    i.regs.active = true →
    exec (.kBrpt core m) s = .next (kiteDone core.val i n (.faults s 4 i.regs.pc))) ∧
  -- The last instruction of a pass goes back to bs while rc is above 1, with rc one less.
  (∀ (r : Regs) (n : Nat), r.active = true →
    r.pc + n = r.be + 1 →
    1 < (r.get 14).toNat →
    afterInstr r n none = { r.put 14 (r.get 14 - 1) with pc := r.bs }) ∧
  -- With rc 0 or 1 it leaves the block, with rc 0.
  (∀ (r : Regs) (n : Nat), r.active = true →
    r.pc + n = r.be + 1 →
    (r.get 14).toNat ≤ 1 →
    afterInstr r n none = { r.put 14 0 with active := false, pc := (r.pc + n) % 16384 }) ∧
  -- A taken transfer to a target outside bs to be ends the block with rc unchanged, and one inside keeps it.
  (∀ (r : Regs) (n t : Nat), r.active = true →
    afterInstr r n (some t) = { r with pc := t, active := decide (r.bs ≤ t ∧ t ≤ r.be) }) ∧
  -- WAIT with an enabled event pending goes on.
  (∀ (s : State) (core : CoreId) (i : Instance) (n : Nat), Executes s core i .wait n →
    pendingEvents i &&& i.regs.ev ≠ 0 →
    exec (.kWait core) s = .next (kiteDone core.val i n (.ends { s, regs := i.regs }))) ∧
  -- WAIT without one leaves the core WAITING at the same pc.
  (∀ (s : State) (core : CoreId) (i : Instance) (n : Nat), Executes s core i .wait n →
    pendingEvents i &&& i.regs.ev = 0 →
    ∃ c, exec (.kWait core) s = .next (modCore (modInst { s with free := s.free + 2 } i.run i.num (fun x => { x with regs := { x.regs with
      cycles := (x.regs.cycles + c) % 2 ^ 64 } })) core.val (fun c => { c with state := 3 }))) ∧
  -- HALT: the words still in the outbox go out, the instance ends, and its core falls idle.
  (∀ (s : State) (core : CoreId) (i : Instance) (n : Nat), Executes s core i .halt n →
    exec (.kHalt core) s = .next (settleRing (endInst (upKite s (fun k => { k with
      mail := k.mail ++ i.outbox.map (fun w => (i.run, i.num, w.toNat / 2 ^ 26, w)) })) i.run i.num) (core.val / 8))) ∧
  -- REP before a word that is no STR raises REP_MISUSE.
  (∀ (s : State) (core : CoreId) (i : Instance) (most : Nat) (check : LineCheck), Executes s core i .rep 1 →
    codePoisoned s core.val ((i.regs.pc + 1) % 16384) = false →
    codeWord s core.val ((i.regs.pc + 1) % 16384) / 256 ≠ 0x3B →
    exec (.kRep core most check) s = .next (kiteDone core.val i 2 (.faults s 2 i.regs.pc))) ∧
  -- REP before a STR that counts, tests or moves through g12 to g14 raises REP_CONFLICT.
  (∀ (s : State) (core : CoreId) (i : Instance) (most : Nat) (check : LineCheck) (w : Bool) (op : StrOp) (r : Reg), Executes s core i .rep 1 →
    codePoisoned s core.val ((i.regs.pc + 1) % 16384) = false →
    codeWord s core.val ((i.regs.pc + 1) % 16384) / 256 = 0x3B →
    (i.regs.active = true ∧ i.regs.pc = i.regs.be) = False →
    decodeWord (codeWord s core.val ((i.regs.pc + 1) % 16384)) = some (.str w op r) →
    op ≠ .copy →
    r = 12 ∨ r = 13 ∨ r = 14 →
    exec (.kRep core most check) s = .next (kiteDone core.val i 2 (.faults s 3 i.regs.pc))) ∧
  -- A REP that runs its loop to its end, without a stall or an exception, ends with the state and registers its elements left, the flags of Table 9.12 and the cycles of R246, behind the STR.
  (∀ (s : State) (core : CoreId) (i : Instance) (most : Nat) (check : LineCheck) (w : Bool) (op : StrOp) (r : Reg) (u : State) (x : RepEnd), Executes s core i .rep 1 →
    codePoisoned s core.val ((i.regs.pc + 1) % 16384) = false →
    codeWord s core.val ((i.regs.pc + 1) % 16384) / 256 = 0x3B →
    (i.regs.active = true ∧ i.regs.pc = i.regs.be) = False →
    decodeWord (codeWord s core.val ((i.regs.pc + 1) % 16384)) = some (.str w op r) →
    repConflict op r = false →
    (i.regs.get 14).toNat ≤ repGroups (if w then 4 else 1) most →
    u = (if (i.regs.get 14).toNat = 0 then s else checkElem s i core.val op (if w then 4 else 1) r check) →
    repLoop u i.run i.num core.val i.regs op (if w then 4 else 1) r (i.regs.get 14).toNat 0 = x →
    x.broken = none →
    exec (.kRep core most check) s = .next (kiteDone core.val i 2 (.ends {
      s := x.s, regs := { x.regs with fl := strFlags x.regs.fl op x.stopped },
      cost := repCost u i core.val op (if w then 4 else 1) r x.ran, waits := repLines u i op (if w then 4 else 1) x.ran }))) ∧
  -- COPY without REP, its line read, does one element of Table 9.11.
  (∀ (s : State) (core : CoreId) (i : Instance) (n : Nat) (w : Bool) (check : LineCheck) (u t : State) (x : Regs), Executes s core i (.str w .copy 0) n →
    u = checkElem s i core.val .copy (if w then 4 else 1) 0 check →
    strElem u (instNow u i) core.val (instNow u i).regs .copy (if w then 4 else 1) 0 = .done t x →
    exec (.kCopy core w check) s = .next (kiteDone core.val i n (.ends { s := t, regs := { x with fl := strFlags x.fl .copy none }, cost := 2 + (if repLines s i .copy (if w then 4 else 1) 1 = 0 then 0 else 1), waits := repLines s i .copy (if w then 4 else 1) 1 }))) ∧
  -- MATCH.
  (∀ (s : State) (core : CoreId) (i : Instance) (n : Nat) (w : Bool) (r : Reg) (check : LineCheck) (u t : State) (x : Regs), Executes s core i (.str w .matchOp r) n →
    u = checkElem s i core.val .matchOp (if w then 4 else 1) r check →
    strElem u (instNow u i) core.val (instNow u i).regs .matchOp (if w then 4 else 1) r = .done t x →
    exec (.kMatch core w r check) s = .next (kiteDone core.val i n (.ends { s := t, regs := { x with fl := strFlags x.fl .matchOp none }, cost := 2 + (if repLines s i .matchOp (if w then 4 else 1) 1 = 0 then 0 else 1), waits := repLines s i .matchOp (if w then 4 else 1) 1 }))) ∧
  -- SEEK.
  (∀ (s : State) (core : CoreId) (i : Instance) (n : Nat) (w : Bool) (r : Reg) (check : LineCheck) (u t : State) (x : Regs), Executes s core i (.str w .seek r) n →
    u = checkElem s i core.val .seek (if w then 4 else 1) r check →
    strElem u (instNow u i) core.val (instNow u i).regs .seek (if w then 4 else 1) r = .done t x →
    exec (.kSeek core w r check) s = .next (kiteDone core.val i n (.ends { s := t, regs := { x with fl := strFlags x.fl .seek none }, cost := 1 + (if repLines s i .seek (if w then 4 else 1) 1 = 0 then 0 else 1), waits := repLines s i .seek (if w then 4 else 1) 1 }))) ∧
  -- PULL.
  (∀ (s : State) (core : CoreId) (i : Instance) (n : Nat) (w : Bool) (r : Reg) (check : LineCheck) (u t : State) (x : Regs), Executes s core i (.str w .pull r) n →
    u = checkElem s i core.val .pull (if w then 4 else 1) r check →
    strElem u (instNow u i) core.val (instNow u i).regs .pull (if w then 4 else 1) r = .done t x →
    exec (.kPull core w r check) s = .next (kiteDone core.val i n (.ends { s := t, regs := { x with fl := strFlags x.fl .pull none }, cost := 2 + (if repLines s i .pull (if w then 4 else 1) 1 = 0 then 0 else 1), waits := repLines s i .pull (if w then 4 else 1) 1 }))) ∧
  -- PUSH.
  (∀ (s : State) (core : CoreId) (i : Instance) (n : Nat) (w : Bool) (r : Reg) (check : LineCheck) (u t : State) (x : Regs), Executes s core i (.str w .push r) n →
    u = checkElem s i core.val .push (if w then 4 else 1) r check →
    strElem u (instNow u i) core.val (instNow u i).regs .push (if w then 4 else 1) r = .done t x →
    exec (.kPush core w r check) s = .next (kiteDone core.val i n (.ends { s := t, regs := { x with fl := strFlags x.fl .push none }, cost := 2 + (if repLines s i .push (if w then 4 else 1) 1 = 0 then 0 else 1), waits := repLines s i .push (if w then 4 else 1) 1 }))) ∧
  -- FILL.
  (∀ (s : State) (core : CoreId) (i : Instance) (n : Nat) (w : Bool) (r : Reg) (check : LineCheck) (u t : State) (x : Regs), Executes s core i (.str w .fill r) n →
    u = checkElem s i core.val .fill (if w then 4 else 1) r check →
    strElem u (instNow u i) core.val (instNow u i).regs .fill (if w then 4 else 1) r = .done t x →
    exec (.kFill core w r check) s = .next (kiteDone core.val i n (.ends { s := t, regs := { x with fl := strFlags x.fl .fill none }, cost := 1 + (if repLines s i .fill (if w then 4 else 1) 1 = 0 then 0 else 1), waits := repLines s i .fill (if w then 4 else 1) 1 })))

/-- Each string element reads, tests, commits and advances as Table 9.11 says. -/
def Obligations.KiteStringElements : Prop :=
  -- COPY: e bytes at as are written at ad, and both advance by e.
  (∀ (s : State) (i : Instance) (core e : Nat) (regs : Regs) (r : Reg) (d : List Byte) (t : State), (regs.get 12).toNat % e = 0 →
    (regs.get 13).toNat % e = 0 →
    dataRead s i (regs.get 12).toNat e = some d →
    dataWrite { s with free := s.free + e } i (regs.get 13).toNat d = some t →
    poisonedAt s i (regs.get 12).toNat = false →
    poisonedAt s i (regs.get 13).toNat = false →
    strElem s i core regs .copy e r = .done t ((regs.put 12 (regs.get 12 + word e)).put 13 ((regs.put 12 (regs.get 12 + word e)).get 13 + word e))) ∧
  -- MATCH of equal elements adds 1 to gr and advances both addresses.
  (∀ (s : State) (i : Instance) (core e : Nat) (regs : Regs) (r : Reg) (d : List Byte) (t : State), (regs.get 12).toNat % e = 0 →
    (regs.get 13).toNat % e = 0 →
    dataRead s i (regs.get 12).toNat e = some d →
    dataTake { s with free := s.free + e } i (regs.get 13).toNat e = some (d, t) →
    poisonedAt s i (regs.get 12).toNat = false →
    poisonedAt s i (regs.get 13).toNat = false →
    strElem s i core regs .matchOp e r = .done t (((regs.put r (regs.get r + 1)).put 12 ((regs.put r (regs.get r + 1)).get 12 + word e)).put 13 (((regs.put r (regs.get r + 1)).put 12 ((regs.put r (regs.get r + 1)).get 12 + word e)).get 13 + word e))) ∧
  -- MATCH of different elements stops with both.
  (∀ (s : State) (i : Instance) (core e : Nat) (regs : Regs) (r : Reg) (d f : List Byte) (t : State), (regs.get 12).toNat % e = 0 →
    (regs.get 13).toNat % e = 0 →
    dataRead s i (regs.get 12).toNat e = some d →
    dataTake { s with free := s.free + e } i (regs.get 13).toNat e = some (f, t) →
    poisonedAt s i (regs.get 12).toNat = false →
    poisonedAt s i (regs.get 13).toNat = false →
    d ≠ f →
    strElem s i core regs .matchOp e r = .stopped (word (unle d)) (word (unle f))) ∧
  -- SEEK of an element equal to the low e bytes of gr stops; another advances as.
  (∀ (s : State) (i : Instance) (core e : Nat) (regs : Regs) (r : Reg) (d : List Byte), (regs.get 12).toNat % e = 0 →
    dataRead s i (regs.get 12).toNat e = some d →
    poisonedAt s i (regs.get 12).toNat = false →
    strElem s i core regs .seek e r = if unle d = (regs.get r).toNat % 256 ^ e then .stopped (word (unle d)) (word (unle d)) else .done { s with free := s.free + e } (regs.put 12 (regs.get 12 + word e))) ∧
  -- PULL: e bytes of the port are written at ad, which advances.
  (∀ (s : State) (i : Instance) (core e : Nat) (regs : Regs) (r : Reg) (v : Word) (u t : State), (regs.get r).toNat < 4096 →
    permitted s i (regs.get r).toNat = true →
    (regs.get 13).toNat % e = 0 →
    (dataWrite { s with free := s.free + e } i (regs.get 13).toNat (zeros e)).isNone = false →
    portIn { s with free := s.free + e } i core (regs.get r) e = .done v u →
    dataWrite u i (regs.get 13).toNat (le e v.toNat) = some t →
    poisonedAt s i (regs.get 13).toNat = false →
    ((regs.get r).toNat == 0 && scanPoisoned { s with free := s.free + e } i e) = false →
    strElem s i core regs .pull e r = .done t (regs.put 13 (regs.get 13 + word e))) ∧
  -- PUSH: e bytes at as, zero-extended, go to the port, and as advances.
  (∀ (s : State) (i : Instance) (core e : Nat) (regs : Regs) (r : Reg) (d : List Byte) (v : Word) (t : State), (regs.get 12).toNat % e = 0 →
    dataRead s i (regs.get 12).toNat e = some d →
    portOut { s with free := s.free + e } i (regs.get r) (word (unle d)) = .done v t →
    poisonedAt s i (regs.get 12).toNat = false →
    strElem s i core regs .push e r = .done t (regs.put 12 (regs.get 12 + word e))) ∧
  -- FILL: the low e bytes of gr are written at ad, which advances.
  (∀ (s : State) (i : Instance) (core e : Nat) (regs : Regs) (r : Reg) (t : State), (regs.get 13).toNat % e = 0 →
    dataWrite { s with free := s.free + e } i (regs.get 13).toNat (le e (regs.get r).toNat) = some t →
    poisonedAt s i (regs.get 13).toNat = false →
    strElem s i core regs .fill e r = .done t (regs.put 13 (regs.get 13 + word e)))

/-- The scan, event, mailbox and engine ports of Kite have the effect of their tables and complete. A core executes an IN or OUT whose register names the port, and its run permits the port. -/
def Obligations.KitePortsComplete : Prop :=
  -- SCAN_DATA with four bytes visible whose lines read: they enter ga, first byte lowest, and the lane's position moves over them.
  (∀ (s : State) (core : CoreId) (i : Instance) (n : Nat) (a b : Reg) (check : LineCheck) (u : State) (j : Instance), Executes s core i (.mem .inp a b) n →
    (i.regs.get b).toNat = 0x000 →
    permitted s i 0x000 = true →
    4 ≤ i.lane.avail →
    u = checkScan s i check →
    j = instNow u i →
    scanPoisoned u j 4 = false →
    permitted u j 0 = true →
    4 ≤ j.lane.avail →
    exec (.scanData core a b check) s = .next (kiteDone core.val i n (.ends { s := modInst u j.run j.num (fun x => { x with lane := x.lane.advance (ringOf u j) 4 }), regs := j.regs.put a (word (unle (field (j.lane.front.take 4) 0 4))), cost := 2 }))) ∧
  -- SCAN_DATA while too few are visible and more will come stalls.
  (∀ (s : State) (core : CoreId) (i : Instance) (n : Nat) (a b : Reg) (check : LineCheck), Executes s core i (.mem .inp a b) n →
    (i.regs.get b).toNat = 0x000 →
    permitted s i 0x000 = true →
    i.lane.avail < 4 →
    i.lane.drained = false →
    exec (.scanData core a b check) s = .next (kiteDone core.val i n (.stalls s))) ∧
  -- SCAN_RELEASE: the position moves over ga's bytes in whole words.
  (∀ (s : State) (core : CoreId) (i : Instance) (n : Nat) (a b : Reg), Executes s core i (.mem .outp a b) n →
    (i.regs.get b).toNat = 0x003 →
    permitted s i 0x003 = true →
    (i.regs.get a).toNat / 4 * 4 ≤ i.lane.avail →
    exec (.scanRelease core a b) s = .next (kiteDone core.val i n (.ends { s := modInst s i.run i.num (fun x => { x with lane := x.lane.advance (ringOf s i) ((i.regs.get a).toNat / 4 * 4) }), regs := i.regs, cost := 2 }))) ∧
  -- EV_CLEAR: each 1 in bits [8:3] of ga clears that latched event.
  (∀ (s : State) (core : CoreId) (i : Instance) (n : Nat) (a b : Reg), Executes s core i (.mem .outp a b) n →
    (i.regs.get b).toNat = 0x401 →
    permitted s i 0x401 = true →
    exec (.evClear core a b) s = .next (kiteDone core.val i n (.ends { s := modInst s i.run i.num (fun x => { x with latched := x.latched &&& (0x1F8 ^^^ ((i.regs.get a).toNat &&& 0x1F8)) }), regs := i.regs, cost := 2 }))) ∧
  -- TIMER_LOAD of timer 0.
  (∀ (s : State) (core : CoreId) (i : Instance) (n : Nat) (a b : Reg), Executes s core i (.mem .outp a b) n →
    (i.regs.get b).toNat = 0x410 →
    permitted s i 0x410 = true →
    exec (.timerLoad core a b) s = .next (kiteDone core.val i n (.ends { s := modInst s i.run i.num (fun x => { x with timer0 := (i.regs.get a).toNat }), regs := i.regs, cost := 2 }))) ∧
  -- TIMER_LOAD of timer 1.
  (∀ (s : State) (core : CoreId) (i : Instance) (n : Nat) (a b : Reg), Executes s core i (.mem .outp a b) n →
    (i.regs.get b).toNat = 0x411 →
    permitted s i 0x411 = true →
    exec (.timerLoad core a b) s = .next (kiteDone core.val i n (.ends { s := modInst s i.run i.num (fun x => { x with timer1 := (i.regs.get a).toNat }), regs := i.regs, cost := 2 }))) ∧
  -- MBOX_RECV takes the oldest inbound word.
  (∀ (s : State) (core : CoreId) (i : Instance) (n : Nat) (a b : Reg) (w : Word) (rest : List Word), Executes s core i (.mem .inp a b) n →
    (i.regs.get b).toNat = 0x420 →
    permitted s i 0x420 = true →
    i.inbox = w :: rest →
    exec (.mboxRecv core a b) s = .next (kiteDone core.val i n (.ends { s := modInst s i.run i.num (fun x => { x with inbox := rest }), regs := i.regs.put a (w), cost := 2 }))) ∧
  -- MBOX_RECV of an empty mailbox stalls.
  (∀ (s : State) (core : CoreId) (i : Instance) (n : Nat) (a b : Reg), Executes s core i (.mem .inp a b) n →
    (i.regs.get b).toNat = 0x420 →
    permitted s i 0x420 = true →
    i.inbox = [] →
    exec (.mboxRecv core a b) s = .next (kiteDone core.val i n (.stalls s))) ∧
  -- MBOX_SEND posts ga at the end of the outbox.
  (∀ (s : State) (core : CoreId) (i : Instance) (n : Nat) (a b : Reg), Executes s core i (.mem .outp a b) n →
    (i.regs.get b).toNat = 0x422 →
    permitted s i 0x422 = true →
    i.outbox.length < 8 →
    exec (.mboxSend core a b) s = .next (kiteDone core.val i n (.ends { s := modInst s i.run i.num (fun x => { x with outbox := x.outbox ++ [i.regs.get a] }), regs := i.regs, cost := 2 }))) ∧
  -- WM_GO: a search for the latched key enters its table's queue, and BUSY is set.
  (∀ (s : State) (core : CoreId) (i : Instance) (n : Nat) (a b : Reg), Executes s core i (.mem .outp a b) n →
    (i.regs.get b).toNat = 0x110 →
    permitted s i 0x110 = true →
    i.ports.wmBusy = false →
    (s.way.queue.filter (fun q => q.table == i.ports.wmTable)).length < 64 →
    exec (.wmGo core a b) s = .next (kiteDone core.val i n (.ends { s := modPorts (upWay s (fun w => { w with queue := w.queue ++ [{ table := i.ports.wmTable, run := i.run, num := i.num, key := i.ports.wmKey }] })) i (fun p => { p with wmBusy := true }), regs := i.regs, cost := 2 }))) ∧
  -- DG_OPEN while every context is taken: the held message goes, EXHAUSTED is set and counted.
  (∀ (s : State) (core : CoreId) (i : Instance) (n : Nat) (a b : Reg), Executes s core i (.mem .outp a b) n →
    (i.regs.get b).toNat = 0x200 →
    permitted s i 0x200 = true →
    i.ports.dgBusy = false →
    s.sec.errorState = false →
    algValid ((i.regs.get a).toNat % 16) = true →
    (i.regs.get a).toNat % 16 < 8 →
    freeContext (modPorts (dgDrop s i) i (fun p => { p with dgExhausted := false, dgCleared := false, dgDone := false, dgNoMessage := false, dgOut := [] })) = none →
    exec (.dgOpen core a b) s = .next (kiteDone core.val i n (.ends { s := modPorts (upSec (modPorts (dgDrop s i) i (fun p => { p with dgExhausted := false, dgCleared := false, dgDone := false, dgNoMessage := false, dgOut := [] })) (fun e => { e with exhausted := satInc e.exhausted })) i (fun p => { p with dgExhausted := true }), regs := i.regs, cost := 2 }))) ∧
  -- DG_OPEN with a context free: the message holds it, empty, and nothing else is set.
  (∀ (s : State) (core : CoreId) (i : Instance) (n : Nat) (a b : Reg) (u : State) (c : Nat), Executes s core i (.mem .outp a b) n →
    (i.regs.get b).toNat = 0x200 →
    permitted s i 0x200 = true →
    i.ports.dgBusy = false →
    s.sec.errorState = false →
    algValid ((i.regs.get a).toNat % 16) = true →
    (i.regs.get a).toNat % 16 < 8 →
    u = modPorts (dgDrop s i) i (fun p => { p with dgExhausted := false, dgCleared := false, dgDone := false, dgNoMessage := false, dgOut := [] }) →
    freeContext u = some c →
    exec (.dgOpen core a b) s = .next (kiteDone core.val i n (.ends { s := modPorts (upSec u (fun e => { e with contexts := mset e.contexts c { alg := (i.regs.get a).toNat % 16, hmac := none, data := [], kite := some (i.run, i.num), parts := [], doomed := false }, dgPeak := max e.dgPeak (e.contexts.length + 1) })) i (fun p => { p with dgCtx := some c }), regs := i.regs, cost := 2 }))) ∧
  -- DG_FEED of a mapped range of 1 byte to 1 MiB into a held message: its bytes wait, and BUSY is set.
  (∀ (s : State) (core : CoreId) (i : Instance) (n : Nat) (a b : Reg) (d : List Byte) (t : State), Executes s core i (.mem .outp a b) n →
    (i.regs.get b).toNat = 0x202 →
    permitted s i 0x202 = true →
    i.ports.dgBusy = false →
    i.ports.dgCtx.isNone = false →
    1 ≤ (i.regs.get a).toNat →
    (i.regs.get a).toNat ≤ 1048576 →
    dataTake s i i.ports.dgAddr (i.regs.get a).toNat = some (d, t) →
    exec (.dgFeed core a b) s = .next (kiteDone core.val i n (.ends { s := modPorts t i (fun p => { p with dgBusy := true, dgFeed := some d, dgFrom := p.dgAddr, dgDone := false }), regs := i.regs, cost := 2 }))) ∧
  -- DG_FINAL of a held message sets BUSY.
  (∀ (s : State) (core : CoreId) (i : Instance) (n : Nat) (a b : Reg), Executes s core i (.mem .outp a b) n →
    (i.regs.get b).toNat = 0x203 →
    permitted s i 0x203 = true →
    i.ports.dgBusy = false →
    i.ports.dgCtx.isNone = false →
    exec (.dgFinal core a b) s = .next (kiteDone core.val i n (.ends { s := modPorts s i (fun p => { p with dgBusy := true, dgFeed := none, dgDone := false }), regs := i.regs, cost := 2 }))) ∧
  -- CP_GO with legal latched values: the request is kept with its source's bytes, and asks for a pipe.
  (∀ (s : State) (core : CoreId) (i : Instance) (n : Nat) (a b : Reg) (d : List Byte) (t : State), Executes s core i (.mem .outp a b) n →
    (i.regs.get b).toNat = 0x305 →
    permitted s i 0x305 = true →
    i.ports.cpBusy = false →
    cpBad i.ports = none →
    dataTake s i i.ports.cpSrc i.ports.cpSrcLen = some (d, t) →
    region s i i.ports.cpDst i.ports.cpDstCap = some .localData →
    exec (.cpGo core a b) s = .next (kiteDone core.val i n (.ends { s := askPipe (modPorts t i (fun p => { p with cpBusy := true, cpReq := some (p.cpMode, d, p.cpDst, p.cpDstCap), cpFrom := p.cpSrc })) (kitePipe i (bit i.ports.cpMode 0)), regs := i.regs, cost := 2 }))) ∧
  -- CP_GO with an illegal latched value completes at once with INVALID_FIELD and its port.
  (∀ (s : State) (core : CoreId) (i : Instance) (n : Nat) (a b : Reg) (port : Nat), Executes s core i (.mem .outp a b) n →
    (i.regs.get b).toNat = 0x305 →
    permitted s i 0x305 = true →
    i.ports.cpBusy = false →
    cpBad i.ports = some port →
    exec (.cpGo core a b) s = .next (kiteDone core.val i n (.ends { s := latchEvent (modPorts s i (fun p => { p with cpResult := stInvalidField + 65536 * port, cpOutLen := 0 })) i.run i.num 7, regs := i.regs, cost := 2 }))) ∧
  -- DMA_PUT: the bytes are to go to the latched offset.
  (∀ (s : State) (core : CoreId) (i : Instance) (n : Nat) (a b : Reg) (d : List Byte) (t : State) (q : Run), Executes s core i (.mem .outp a b) n →
    (i.regs.get b).toNat = 0x504 →
    permitted s i 0x504 = true →
    i.ports.dmaBusy = false →
    1 ≤ i.ports.dmaLen →
    i.ports.dmaLen ≤ 1048576 →
    dataTake s i i.ports.dmaSrc i.ports.dmaLen = some (d, t) →
    findRun t i.run = some q →
    i.ports.dmaDstLo + i.ports.dmaDstHi * 2 ^ 32 + i.ports.dmaLen ≤ q.dlen →
    exec (.dmaPut core a b) s = .next (kiteDone core.val i n (.ends { s := modPorts (t) i (fun p => { p with dmaBusy := true, dmaReq := some (i.ports.dmaDstLo + i.ports.dmaDstHi * 2 ^ 32, d), dmaFrom := p.dmaSrc, dmaFull := false, dmaError := false }), regs := i.regs, cost := 2 }))) ∧
  -- DMA_APPEND: the bytes are to go behind the run's last, whose offset is the result, and the next free offset moves on.
  (∀ (s : State) (core : CoreId) (i : Instance) (n : Nat) (a b : Reg) (d : List Byte) (t : State) (q : Run), Executes s core i (.mem .outp a b) n →
    (i.regs.get b).toNat = 0x505 →
    permitted s i 0x505 = true →
    i.ports.dmaBusy = false →
    1 ≤ i.ports.dmaLen →
    i.ports.dmaLen ≤ 1048576 →
    dataTake s i i.ports.dmaSrc i.ports.dmaLen = some (d, t) →
    findRun t i.run = some q →
    q.nextFree + i.ports.dmaLen ≤ q.dlen →
    exec (.dmaAppend core a b) s = .next (kiteDone core.val i n (.ends { s := modPorts (modRun t i.run (fun r => { r with nextFree := q.nextFree + i.ports.dmaLen })) i (fun p => { p with dmaBusy := true, dmaReq := some (q.nextFree, d), dmaFrom := p.dmaSrc, dmaFull := false, dmaError := false, dmaOffset := (q.nextFree) % 2 ^ 32 }), regs := i.regs, cost := 2 })))

/-- Dispatch, preemption, lanes, timers, mailboxes and engine completions of Kite have the effect their rules give and complete. -/
def Obligations.KiteRuntimeComplete : Prop :=
  -- INSTANCE_DISPATCH: the instance that has waited longest goes to an idle core of its cluster, which runs it; a context saved in a poisoned line faults at once with code 7.
  (∀ (s u v : State) (core : CoreId) (i : Instance) (img : Option Nat), waitingInst s (core.val / 8) = some i →
    s.flt.containing.contains (islKc (core.val / 8)) = false →
    u = powerCluster (stopKiteTest s (core.val / 8)) (core.val / 8) →
    (coreAt u core.val).state = 0 →
    img = ((findRun u i.run).bind (fun r => mget u.kite.programs r.slot)).map (fun g => g.load) →
    v = modCore (upKite (modInst u i.run i.num (fun x => { x with state := .dispatched core.val, since := u.glb.lifetime, spill := none }))
      (fun k => { k with readyQ := k.readyQ.erase (i.run, i.num) })) core.val
      (fun c => { state := 2, image := img, inst := some (i.run, i.num), poison := if c.image = img then c.poison else [] }) →
    exec (.instanceDispatch core) s = .next (if spillPoisoned v i then kiteFault v core.val i 7 i.regs.pc else v)) ∧
  -- QUANTUM_EXPIRY of a core that has run its quantum and is not STALLED, with another instance waiting and a spill slot free: the core goes to SAVING.
  (∀ (s : State) (core : CoreId) (i : Instance), quantumOver s core.val = true →
    (coreAt s core.val).state = 2 ∨ (coreAt s core.val).state = 3 →
    (clusterAt s (core.val / 8)).preempt = true →
    waitingInst s (core.val / 8) = some i →
    spillUsed s (core.val / 8 / 2) < s.kite.spillSlots →
    exec (.quantumExpiry core) s = .next (modCore s core.val (fun c => { c with state := 5 }))) ∧
  -- QUANTUM_EXPIRY of a STALLED core does the same, and the cycles it has been stalled count in its run time.
  (∀ (s u : State) (core : CoreId) (i j : Instance) (n : Nat), quantumOver s core.val = true →
    (coreAt s core.val).state = 4 →
    (clusterAt s (core.val / 8)).preempt = true →
    waitingInst s (core.val / 8) = some i →
    spillUsed s (core.val / 8 / 2) < s.kite.spillSlots →
    executing s core.val = some j →
    cyclesOf s 0 true 0 = (n, u) →
    exec (.quantumExpiry core) s = .next (modCore (modInst u j.run j.num (fun x => { x with regs := { x.regs with cycles := (x.regs.cycles + n) % 2 ^ 64 } }))
      core.val (fun c => { c with state := 5 }))) ∧
  -- QUANTUM_EXPIRY without a spill slot is skipped and counted.
  (∀ (s : State) (core : CoreId) (i : Instance), quantumOver s core.val = true →
    (coreAt s core.val).state = 2 ∨ (coreAt s core.val).state = 3 ∨ (coreAt s core.val).state = 4 →
    (clusterAt s (core.val / 8)).preempt = true →
    waitingInst s (core.val / 8) = some i →
    s.kite.spillSlots ≤ spillUsed s (core.val / 8 / 2) →
    exec (.quantumExpiry core) s = .next (modCluster s (core.val / 8) (fun c => { c with skipped := satIncW 8 c.skipped }))) ∧
  -- WAIT_PREEMPT of a WAITING core, with another instance waiting and a spill slot free: it goes to SAVING.
  (∀ (s : State) (core : CoreId) (i : Instance), (coreAt s core.val).inst.isSome = true →
    (coreAt s core.val).state = 3 →
    (clusterAt s (core.val / 8)).preempt = true →
    waitingInst s (core.val / 8) = some i →
    spillUsed s (core.val / 8 / 2) < s.kite.spillSlots →
    exec (.waitPreempt core) s = .next (modCore s core.val (fun c => { c with state := 5 }))) ∧
  -- CONTEXT_SAVE_DONE of an instance with an empty lane: it is saved in the slot given, whose lines are good, and waits in the queue; the preemption is counted, and the core is idle.
  (∀ (s : State) (core : CoreId) (i : Instance) (r : Run) (k : Nat), (coreAt s core.val).inst.bind (fun x => findInst s x.1 x.2) = some i →
    (coreAt s core.val).state = 5 →
    i.ports.busy = false →
    findRun s i.run = some r →
    i.lane.ring = [] →
    i.lane.work = [] →
    freeSlot s (i.cluster / 2) = some k →
    ∃ u v, u = modInst s i.run i.num (fun x => { x with state := .saved, resumed := true, spill := some k, lane := x.lane.saved r.first (ringOf s i) }) ∧
      v = upKite (upDrc u (fun d => { d with poisoned := d.poisoned.filter (fun l => !(spillLines u (i.cluster / 2) k).contains l) }))
        (fun k => { k with readyQ := k.readyQ ++ [(i.run, i.num)] }) ∧
      exec (.contextSaveDone core) s = .next (modCore (modCluster v i.cluster (fun c => { c with preempts := (c.preempts + 1) % 2 ^ 24 }))
        core.val (fun c => { c with state := 0, inst := none }))) ∧
  -- LANE_BLOCK_VISIBLE of a block that has its bytes: it leaves the work list and is visible at the end of the ring.
  (∀ (s : State) (run num c : Nat) (i : Instance) (b : LaneBlock) (l : List LaneBlock) (m : MediaIn), findInst s run num = some i →
    i.state = .dispatched c →
    i.lane.work = b :: l →
    (coreAt s c).state ≠ 5 →
    4096 * i.lane.ring.length < ringOf s i →
    b.entry = none →
    b.staging = false →
    exec (.laneBlockVisible run num m) s = .next (publish s i b)) ∧
  -- WORKLIST_EXTEND: the list of a dispatched instance is extended as far as R267 allows.
  (∀ (s : State) (run num c : Nat) (i : Instance), findInst s run num = some i →
    i.state = .dispatched c →
    exec (.worklistExtend run num) s = .next (rouse (extendList s run num (i.lane.stop - i.lane.next)) run num)) ∧
  -- TIMER_EXPIRY of a timer that runs: it stops at 0 and latches its event.
  (∀ (s : State) (run num : Nat) (i : Instance), findInst s run num = some i →
    i.state ≠ .ended →
    i.timer1 ≠ 0 →
    exec (.timerExpiry run num 1) s = .next (latchEvent (modInst s run num (fun x => { x with timer1 := 0 })) run num 4)) ∧
  -- MBOX_DELIVER: the oldest posted word goes to the inbox its bits [31:26] name, with the sender's number in their place.
  (∀ (s : State) (run sender dest : Nat) (i d : Instance) (w : Word) (rest : List Word), s.kite.mail.find? (fun m => m.1 == run && m.2.1 == sender) = none →
    findInst s run sender = some i →
    i.outbox = w :: rest →
    w.toNat / 2 ^ 26 = dest →
    findInst s run dest = some d →
    d.state ≠ .ended →
    d.inbox.length < 8 →
    exec (.mboxDeliver run sender dest) s = .next (modInst (rouse (modInst s run dest (fun x => { x with inbox := x.inbox ++ [mailWord sender w] })) run dest)
      run sender (fun x => { x with outbox := rest }))) ∧
  -- ENGINE_REQUEST_DONE of a digest's feed whose lines read: its bytes join the message, BUSY falls and the event is latched; the message of an instance that has ended goes.
  (∀ (s u t : State) (run num n : Nat) (i : Instance) (c : DigestCtx) (b d : List Byte) (check : LineCheck) (checker : Checker), findInst s run num = some i →
    i.ports.dgBusy = true →
    inReset s islCrypt = false →
    i.ports.dgCtx = some n →
    mget s.sec.contexts n = some c →
    i.ports.dgFeed = some b →
    u = checkRange s i i.ports.dgFrom b.length check →
    poisonedIn u (instNow u i) i.ports.dgFrom b.length = false →
    sourceNow u (instNow u i) i.ports.dgFrom b = (d, t) →
    exec (.engineRequestDone run num .digest check checker) s = .next (dropEnded (latchEvent (modPorts (upSec t (fun e => { e with contexts := mset e.contexts n { c with data := c.data ++ d } })) i
      (fun p => { p with dgBusy := false, dgFeed := none })) i.run i.num 6) i)) ∧
  -- ENGINE_REQUEST_DONE of a DMA, its lines read and no merge with a poisoned Arena line: the bytes go to their offset in the destination, and the run's extent covers them.
  (∀ (s u t : State) (run num off : Nat) (i : Instance) (o : Op) (b d : List Byte) (check : LineCheck) (checker : Checker), findInst s run num = some i →
    i.ports.dmaBusy = true →
    i.ports.dmaReq = some (off, b) →
    findOp s i.run = some o →
    o.pkt.arena = true ∨ ioUp s = true →
    b ≠ [] →
    u = (if o.pkt.arena = true ∧ partialLines (o.pkt.dptr + off) b.length ≠ [] then checkMerge s (o.pkt.dptr + off) b.length check else checkRange s i i.ports.dmaFrom b.length check) →
    sourceBytes u (instNow u i) i.ports.dmaFrom b = (d, t) →
    poisonedParts u (o.pkt.dptr + off) b.length = [] →
    exec (.engineRequestDone run num .dma check checker) s = .next (latchEvent (modPorts
        (modRun (deliverRun t o off d) i.run (fun r => { r with extent := max r.extent (off + b.length) })) i
        (fun p => { p with dmaBusy := false, dmaReq := none, dmaError := false })) i.run i.num 8)) ∧
  -- ILLEGAL_INSTRUCTION at a word that is none, its line read, ends the run with PROGRAM_FAULT, DETAIL 1, and counts the fault of the cluster.
  (∀ (s u : State) (core : CoreId) (i : Instance) (check : LineCheck), executing s core.val = some i →
    u = checkCode s i core.val i.regs.pc check →
    fetchPoisoned u core.val i.regs.pc = false →
    kiteFetch u core.val i = none →
    exec (.illegalInstruction core check) s = .next (endRun (modCluster u (core.val / 8) (fun c => { c with faults := satInc c.faults })) i.run
      { status := stProgramFault, detail := 1, r1 := i.regs.pc + core.val * 2 ^ 14 }))

/-- Tether flits, replays and link resets have the effect their rules give and complete. -/
def Obligations.TetherLinkCommandsComplete : Prop :=
  -- TETHER_FLIT_RECEIVE of a flit with a bad CRC: it is discarded, and the next header sent carries NAK.
  (∀ (s : State) (f : TetherFlit), s.pair.linkUp = true →
    tetherCrcOk f = false →
    inReset s islTether = false →
    exec (.tetherFlitReceive f) s = .next { s with pair := { s.pair with link := { s.pair.link with nak := true } } }) ∧
  -- A good flit out of order is discarded the same way.
  (∀ (s : State) (f : TetherFlit), s.pair.linkUp = true →
    tetherCrcOk f = true →
    f.idle = false →
    f.fseq ≠ s.pair.link.rxCount % 4096 →
    inReset s islTether = false →
    exec (.tetherFlitReceive f) s = .next { s with pair := { s.pair with link := { s.pair.link with nak := true } } }) ∧
  -- A good flit in order is accepted and counted on its channel, its payload joins its message, and its header is taken.
  (∀ (s : State) (f : TetherFlit), s.pair.linkUp = true →
    tetherCrcOk f = true →
    f.idle = false →
    f.fseq = s.pair.link.rxCount % 4096 →
    f.tagOk = true →
    inReset s islTether = false →
    exec (.tetherFlitReceive f) s = .next (takeTetherHeader (takePayload (upPair s (fun p => { p with link := { p.link with
      rxCount := p.link.rxCount + 1, nak := false, rxFreed := mset p.link.rxFreed f.vc (mgetD p.link.rxFreed f.vc 0 + 1) } })) f) f)) ∧
  -- TETHER_REPLAY_TIMEOUT with flits unacknowledged replays them all, and counts them.
  (∀ (s : State), s.pair.linkUp = true →
    s.pair.link.unacked ≠ 0 →
    s.pair.link.replays < 4 →
    inReset s islTether = false →
    exec .tetherReplayTimeout s = .next { s with pair := { s.pair with
      link := { s.pair.link with replays := s.pair.link.replays + 1 }, replays := satAdd s.pair.replays s.pair.link.unacked } }) ∧
  -- TETHER_LINK_RESET of a link that is down trains it to a rate and width of Table 14.12, and what waits goes out.
  (∀ (s : State) (speed width : Nat), tetherOn s = true →
    s.pair.linkUp = false →
    speed = 2 ∨ speed = 3 →
    width = 4 ∨ width = 8 →
    inReset s islTether = false →
    exec (.tetherLinkReset speed width) s = .next (pumpTether (upPair s (fun p => { p with linkUp := true, rate := speed, width, upAt := s.glb.lifetime })))) ∧
  -- TETHER_LINK_RESET of a live link is for the fourth replay without progress: the reset is counted, the key derived anew, and the TETHER source raised, and the link trains.
  (∀ (s : State) (speed width : Nat), tetherOn s = true →
    s.pair.linkUp = true →
    4 ≤ s.pair.link.replays →
    speed = 3 →
    width = 8 →
    inReset s islTether = false →
    exec (.tetherLinkReset speed width) s = .next (pumpTether (upPair (tetherReset s) (fun p => { p with linkUp := true, rate := speed, width, upAt := s.glb.lifetime }))))

/-- The pair's messages, heartbeats and probes have the effect their rules give and complete. -/
def Obligations.TetherCommandsComplete : Prop :=
  -- HELLO before the TETHER_PAIR it is for waits.
  (∀ (s : State) (serial node w0 w1 w2 blocks limit : Nat) (pub proof : List Byte), s.pair.pairing = none →
    s.pair.state = 0 →
    inReset s islTether = false →
    exec (.hello (.hello serial node w0 w1 w2 blocks limit pub proof)) s = .next (upPair s (fun p => { p with helloIn := some (.hello serial node w0 w1 w2 blocks limit pub proof) }))) ∧
  -- HELLO that agrees with the TETHER_PAIR in progress starts the pair session; one that does not ends the command.
  (∀ (s : State) (p : Pairing) (serial node w0 w1 w2 blocks limit : Nat) (pub proof : List Byte), s.pair.pairing = some p →
    p.agreed = false →
    inReset s islTether = false →
    exec (.hello (.hello serial node w0 w1 w2 blocks limit pub proof)) s =
      .next (match helloRefusal s p.token serial [w0, w1, w2] blocks limit pub proof with
        | some r => refusePair s r
        | none => agreePair s p serial node pub)) ∧
  -- KEY_TRANSFER that installs a key, at a PAIRED device that fosters nothing: a foster record under a fresh identity enters the key log.
  (∀ (s : State) (vol capacity attrs : Nat), s.pair.state = 2 →
    s.pair.fostering = false →
    inReset s islTether = false →
    exec (.keyTransfer vol true capacity attrs) s = .next (putKey (freshKey s).2 { vol, keyId := (freshKey s).1, kind := 1, capacity, attrs })) ∧
  -- KEY_TRANSFER that destroys one takes the foster record away.
  (∀ (s : State) (vol capacity attrs : Nat), s.pair.state ≠ 0 →
    inReset s islTether = false →
    exec (.keyTransfer vol false capacity attrs) s = .next (upSec s (fun e => { e with keyLog := e.keyLog.filter (fun k => !(k.vol == vol && k.kind == 1)) }))) ∧
  -- MIRROR_WRITE at a device that stores for its partner: the entry is stored in mirror sequence order, and confirmed.
  (∀ (s : State) (seq vol lba blocks : Nat) (data : List Byte), storesForPartner s = true →
    data.length = 4096 * blocks →
    inReset s islTether = false →
    exec (.mirrorWrite seq vol 0 lba blocks data) s =
      .next (sendT (upPair s (fun p => { p with entriesIn := insertEntry p.entriesIn { seq, vol, op := 0, lba, blocks, data } })) (.mirrorConfirm seq))) ∧
  -- MIRROR_CONFIRM: the entry is confirmed, the command that waited for it goes on, and what can be released is.
  (∀ (s : State) (seq : Nat), inReset s islTether = false →
    exec (.mirrorConfirm seq) s = .next (releaseMirror (upTsk (upPair s (fun p => { p with
      entriesOut := p.entriesOut.map (fun e => if e.seq = seq then { e with confirmed := true } else e) }))
      (fun t => { t with ops := t.ops.map (fun o => if o.mirror = some seq then { o with mirror := none } else o) })))) ∧
  -- MIRROR_RELEASE frees every entry up to the one it names.
  (∀ (s : State) (seq : Nat), inReset s islTether = false →
    exec (.mirrorRelease seq) s = .next { s with pair := { s.pair with entriesIn := s.pair.entriesIn.filter (fun e => decide (seq < e.seq)) } }) ∧
  -- JOURNAL of the records that come next: they join the partner ring, and are confirmed by the last one's number.
  (∀ (s : State) (first : Nat) (recs : List JRec), storesForPartner s = true →
    1 ≤ recs.length →
    recs.length ≤ 256 →
    s.med.partnerRing.isEmpty = false →
    first = s.med.partnerStart + s.med.partnerRing.length →
    inReset s islTether = false →
    exec (.journal first recs) s = .next (sendT (spillRing (upMed s (fun m => { m with partnerRing := m.partnerRing ++ recs })) 8)
      (.journalConfirm (first + recs.length - 1)))) ∧
  -- JOURNAL_CONFIRM: the journal is confirmed up to the record named, and its tail may move on.
  (∀ (s : State) (last : Nat), last < jHead s →
    inReset s islTether = false →
    exec (.journalConfirm last) s = .next (releaseMirror (moveTail (upPair s (fun p => { p with jConfirmed := max p.jConfirmed (last + 1) }))))) ∧
  -- ROOT from the partner of a device that fosters nothing enters the slot of its number's parity.
  (∀ (s : State) (r : Root), r.ckptNo ≠ 0 →
    s.pair.fostering = false →
    storesForPartner s = true →
    inReset s islTether = false →
    exec (.root r.ckptNo r) s = .next (storeRoot s r)) ∧
  -- HEARTBEAT from a PAIRED partner: the partner is heard, SUSPECT clears, and a claim under way is withdrawn.
  (∀ (s u : State) (count status : Nat), s.pair.state = 2 →
    u = hearPartner s →
    u.pair.state = 2 →
    u.pair.fenced = false →
    inReset s islTether = false →
    exec (.heartbeat count 2 status false) s = .next (upPair u (fun p => { p with called := false }))) ∧
  -- A partner that is heard clears SUSPECT.
  (∀ (s : State), (hearPartner s).pair.suspect = false ∧ (hearPartner s).pair.beating = true ∧ (hearPartner s).pair.claim = none ∧ (hearPartner s).pair.probes = 0) ∧
  -- HEARTBEAT_SEND sends the count, the pair state and PAIR_STATUS[7:3], and counts.
  (∀ (s : State), s.pair.state ≠ 0 →
    s.pair.linkUp = true ∨ s.pair.meshMirror = true →
    s.flt.halted = false →
    s.med.dumpHeld = false →
    inReset s islTether = false →
    exec .heartbeatSend s = .next (trySeparate (sendT (upPair s (fun p => { p with beats := p.beats + 1 }))
      (.heartbeat (s.pair.beats + 1) s.pair.state (pairStatusByte (upPair s (fun p => { p with beats := p.beats + 1 }))))))) ∧
  -- HEARTBEAT_TIMEOUT at a PAIRED device 5 ms after the last HEARTBEAT: SUSPECT is set, with its event bit and its record.
  (∀ (s : State), partnered s = true →
    s.pair.suspect = false →
    s.pair.heardAt + 5 ≤ s.glb.lifetime →
    inReset s islTether = false →
    exec .heartbeatTimeout s = .next (pairLog (upPair s (fun p => { p with beating := false, suspect := true, probes := 0, events := p.events ||| 2 })) 3 0xFF 0)) ∧
  -- PROBE_TIMER while SUSPECT, before four probes: the next probe goes to the partner's node.
  (∀ (s : State), s.pair.suspect = true →
    s.mesh.configured = true →
    s.pair.claim = none →
    s.pair.fenced = false →
    s.pair.probes < 4 →
    inReset s islTether = false →
    exec .probeTimer s = .next (sendPair (upPair s (fun p => { p with probes := p.probes + 1 })) s.pair.partnerNode s.pair.pairId
      (.probe Config.serial s.pair.partner (s.pair.probes + 1)))) ∧
  -- PROBE_TIMER after four probes without an answer makes the claim.
  (∀ (s : State), s.pair.suspect = true →
    s.mesh.configured = true →
    s.pair.claim = none →
    s.pair.fenced = false →
    4 ≤ s.pair.probes →
    inReset s islTether = false →
    exec .probeTimer s = .next (startClaim s)) ∧
  -- CLAIM_RETRY, 10 ms after the last asking, asks the witnesses that have not answered again.
  (∀ (s : State) (c : ClaimState), s.pair.claim = some c →
    c.askedAt + 10 ≤ s.glb.lifetime →
    inReset s islTether = false →
    exec .claimRetry s = .next (sendClaim (upPair s (fun p => { p with claim := some { c with askedAt := s.glb.lifetime } })) ((validWitnesses s).filter (fun i => !c.grants.contains i && !c.refusals.contains i)) c.number false)) ∧
  -- PARTNER_DIRECTORY_REBUILD that could not find the pieces: the directory is lost, and foster reads know it.
  (∀ (s : State), s.pair.fostering = true →
    s.pair.partnerDirReady = false →
    inReset s islTether = false →
    exec (.partnerDirectoryRebuild false) s = .next (upPair s (fun p => { p with partnerDirReady := true, partnerDirLost := true, partnerDir := [], partnerMap := [] }))) ∧
  -- With the pieces, the partner's newest root and then its journal from there make the directory.
  (∀ (s : State) (r : Root) (b : PartnerBuild), s.pair.fostering = true →
    s.pair.partnerDirReady = false →
    partnerNewest s = some r →
    b = (partnerRecords s r.jstart).foldl PartnerBuild.apply { dir := r.volumes.flatMap (fun v => v.2.dir.map (fun d => (v.1, d.1, d.2))), map := [] } →
    inReset s islTether = false →
    exec (.partnerDirectoryRebuild true) s = .next (upPair s (fun p => { p with partnerDirReady := true, partnerDirLost := false, partnerDir := b.dir, partnerMap := b.map })))

/-- Blocks for the partner, the hand-back, the cut-over and a pair's separation have the effect their rules give and complete. -/
def Obligations.PairRecoveryCommandsComplete : Prop :=
  -- BLOCK_READ of blocks this device can read is answered with their data.
  (∀ (s : State) (req vol lba blocks : Nat) (m : MediaIn) (v : Volume) (l : List (List Byte)), s.pair.state ≠ 0 →
    mget s.med.volumes vol = some v →
    lba + blocks ≤ v.capacity →
    (span lba blocks).mapM (partnerBlock s m vol) = some l →
    inReset s islTether = false →
    exec (.blockRead req vol lba blocks m) s = .next (sendT s (.blockData req stSuccess l.flatten))) ∧
  -- BLOCK_READ that cannot be served whole is answered UNRECOVERED.
  (∀ (s : State) (req vol lba blocks : Nat) (m : MediaIn), s.pair.state ≠ 0 →
    mget s.med.volumes vol = none →
    inReset s islTether = false →
    exec (.blockRead req vol lba blocks m) s = .next (sendT s (.blockData req stUnrecovered []))) ∧
  -- BLOCK_DATA: the request it answers is over, and its block is at hand.
  (∀ (s : State) (req v lba : Nat) (data : List Byte), s.pair.reads.find? (fun x => x.1 == req) = some (req, v, lba) →
    inReset s islTether = false →
    exec (.blockData req 0 data) s = .next (upPair s (fun p => { p with
      reads := p.reads.filter (fun y => y.1 != req), readData := p.readData ++ [(v, lba, fit 4096 data)] }))) ∧
  -- HANDBACK at a rejoining device of a block newer than any handed before: it is staged, and its sequence number kept.
  (∀ (s : State) (w vol lba : Nat) (v : Volume) (data : List Byte), mget s.med.volumes vol = some v →
    s.pair.state = 4 →
    v.foster = false →
    lba < v.capacity →
    s.pair.handed.any (fun h => h.1 == vol && h.2.1 == lba && decide (w ≤ h.2.2)) = false →
    data.length = 4096 →
    inReset s islTether = false →
    exec (.handback w vol 0 lba data) s = .next (upPair (stageBlock s vol lba data) (fun p => { p with
      handed := p.handed.filter (fun h => !(h.1 == vol && h.2.1 == lba)) ++ [(vol, lba, w)] }))) ∧
  -- HANDBACK_PASS that sends its last block ends its pass.
  (∀ (s u : State) (h : Handback) (m : MediaIn) (n : Nat), s.pair.handback = some h →
    handRound s m h.todo = (u, [], n) →
    inReset s islTether = false →
    exec (.handbackPass m) s = .next (endPass (upPair u (fun p => { p with handback := some { h with todo := [], sent := h.sent + n }, handbackLeft := 0 })) { h with todo := [], sent := h.sent + n })) ∧
  -- CUTOVER at a device that rejoined without a TETHER_PAIR of its own: it is PAIRED, its volumes are no longer held, and its journal goes out again.
  (∀ (s : State), s.pair.state = 4 →
    s.pair.pairing = none →
    s.mesh.replaced = [] →
    s.pair.meshMirror = false →
    inReset s islTether = false →
    exec .cutover s = .next (resendJournal (upPair s (fun p => { p with
      state := 2, held := false, handed := [], pairing := none, suspect := false, probes := 0, events := p.events ||| 16 })))) ∧
  -- YIELD at a PAIRED device counts as four unanswered probes, and the claim is made.
  (∀ (s : State), partnered s = true →
    inReset s islTether = false →
    exec .yieldMsg s = .next (startClaim (upPair (suspectPartner s) (fun p => { p with probes := 4 })))) ∧
  -- A claim without valid witnesses is won at once.
  (∀ (s : State), s.pair.claim = none →
    s.pair.state = 2 →
    s.pair.fenced = false →
    validWitnesses s = [] →
    startClaim s = winClaim (upPair s (fun p => { p with claimNo := p.claimNo + 1 })) 0 false) ∧
  -- UNPAIR: the device drains its mirror, knows that the partner has asked, and the separation goes on.
  (∀ (s : State), s.pair.state ≠ 0 →
    inReset s islTether = false →
    exec .unpair s = .next (trySeparate (upPair s (fun p => { p with draining := true, unpairSeen := true })))) ∧
  -- A pair that has drained, has sent UNPAIR and has seen the partner's is separate: SOLO, without the pair's secret or the partner's keys and journal.
  (∀ (s : State), s.pair.draining = true →
    partnered s = true →
    s.pair.entriesOut = [] →
    s.pair.unpairSent = true →
    s.pair.unpairSeen = true →
    s.pair.unpairing = none →
    s.pair.fostering = false →
    trySeparate s = separate s ∧ (separate s).pair.state = 0 ∧ (separate s).pair.pairId = 0 ∧ (separate s).pair.entriesIn = [] ∧ (separate s).med.partnerRing = [] ∧ (separate s).med.partnerRoot0 = none ∧ (separate s).sec.keyLog.all (fun k => k.kind != 1) = true) ∧
  -- TETHER_STABLE 1 s after the link came up, while the pair goes over the mesh: it goes over the link again, and PAIRED returns.
  (∀ (s : State), s.pair.meshMirror = true →
    s.pair.linkUp = true →
    s.pair.state = 3 →
    s.pair.fostering = false →
    s.pair.fenced = false →
    s.pair.upAt + 1000 ≤ s.glb.lifetime →
    inReset s islTether = false →
    exec .tetherStable s = .next { s with pair := { s.pair with meshMirror := false, state := 2 } })

/-- Trail flits, ports, neighbours, floods, probes and claims have the effect their rules give and complete. -/
def Obligations.TrailCommandsComplete : Prop :=
  -- TRAIL_FLIT_RECEIVE of a good flit in order at a live port: it is accepted and counted on its channel, its packet is taken, and its header is taken.
  (∀ (s : State) (port : Nat) (f : TrailFlit), (portAt s port).up = true →
    (portAt s port).failed = false →
    trailCrcOk f = true →
    f.idle = false →
    f.fseq = (portAt s port).link.rxCount % 4096 →
    f.tagOk = true →
    inReset s (islTrail port) = false →
    exec (.trailFlitReceive port f) s = .next (takeTrailHeader (takePacket (modPort s port (fun p => { p with link := p.link.accept (flitChannel f) })) port f) port f)) ∧
  -- A flit with a bad CRC is discarded, and the next header sent carries NAK.
  (∀ (s : State) (port : Nat) (f : TrailFlit), (portAt s port).up = true →
    (portAt s port).failed = false →
    trailCrcOk f = false →
    inReset s (islTrail port) = false →
    exec (.trailFlitReceive port f) s = .next (modPort s port (fun p => { p with link := { p.link with nak := true } }))) ∧
  -- TRAIL_REPLAY_TIMEOUT with flits unacknowledged, before the fourth replay, replays them all and counts them.
  (∀ (s u : State) (port : Nat), (portAt s port).up = true →
    (portAt s port).failed = false →
    (portAt s port).link.unacked ≠ 0 →
    u = upMesh (modPort s port (fun p => { p with link := { p.link with replays := p.link.replays + 1 } })) (fun m => { m with replays := satAdd m.replays (portAt s port).link.unacked }) →
    (portAt u port).link.replays < 4 →
    inReset s (islTrail port) = false →
    exec (.trailReplayTimeout port) s = .next u) ∧
  -- PORT_FAILED: an enabled port becomes FAILED, the map is flooded, and what it held goes by the detour.
  (∀ (s : State) (port : Nat), port < 6 →
    (portAt s port).enabled = true →
    (portAt s port).failed = false →
    inReset s (islTrail port) = false →
    exec (.portFailed port) s = .next ((heldPackets s port ++ (portAt s port).out.map (·.2.2)).foldl reroute
      (floodOwn (rePartition (upMesh (modPort s port (fun p => { p with failed := true, up := false, out := [] }))
        (fun m => { m with failedLinks := (s.mesh.node, port) :: m.failedLinks })))))) ∧
  -- LINK_HELLO of the neighbour that the mesh names, with its signature verified: the session has a fresh key and counters of 0, and the port comes up and answers with its own LINK_HELLO.
  (∀ (s u : State) (port serial node shape : Nat) (pub : List Byte), port < 6 →
    s.mesh.configured = true →
    (portAt s port).enabled = true →
    (portAt s port).failed = false →
    (portAt s port).up = false →
    s.sec.errorState = false →
    s.flt.containing.contains (islTrail port) = false →
    shape = meshShape s →
    neighbourOf s s.mesh.node port = some node →
    u = modPort (upSec (freeBytes (freshKey s).2 96).2 (fun e => { e with links := mset e.links (1 + port) { secret := some (Config.sharedSecret (secret (freshKey s).1 97) pub), counter := 0, rxCounter := 0, packets := 0, since := s.glb.lifetime } })) port (fun p => { p with up := true, neighbour := some node }) →
    inReset s (islTrail port) = false →
    exec (.linkHello port serial node shape pub true) s = .next (putPort u port 0 6 (ownPkt u node 0xFFF
      (.linkHello Config.serial u.mesh.node (meshShape u) (secret (freshKey s).1 97) (freeBytes (freshKey s).2 96).1)))) ∧
  -- LINK_HELLO of another configuration, place or signature fails the port and raises its source.
  (∀ (s : State) (port serial node shape : Nat) (pub : List Byte), port < 6 →
    s.mesh.configured = true →
    (portAt s port).enabled = true →
    (portAt s port).failed = false →
    (portAt s port).up = false →
    s.sec.errorState = false →
    s.flt.containing.contains (islTrail port) = false →
    inReset s (islTrail port) = false →
    exec (.linkHello port serial node shape pub false) s = .next (raise (failPort s port) (unit (islTrail port) 3))) ∧
  -- LINK_STATE of a device not heard before: its failed ports enter the map, and the flood goes on.
  (∀ (s : State) (src seq : Nat) (l : List (Nat × Nat)), s.mesh.configured = true →
    src ≠ s.mesh.node →
    mget s.mesh.floods src = none →
    inReset s islStripe = false →
    exec (.linkState src seq l) s = .next (toNeighbours (rePartition (upMesh s (fun m => { m with
      floods := mset m.floods src seq,
      failedLinks := l.filter (fun x => !(s.mesh.failedLinks.filter (fun x => x.1 != src)).contains x) ++ s.mesh.failedLinks.filter (fun x => x.1 != src) }))) src (.linkState seq l))) ∧
  -- UNREACHABLE for a reconstruction that waits for nodes no longer reached: their units count as lost, and a request under a new number asks for others.
  (∀ (s : State) (src id : Nat) (r : Recon) (rc : StripeRec) (g : Group), s.mesh.recons.find? (fun r => r.request == id) = some r →
    r.record = some rc →
    groupAt s rc.group = some g →
    r.done = false →
    r.exhausted = false →
    (r.waits.filter (fun u => !(reachable s).contains (unitNode g rc.stripe u))).isEmpty = false →
    src ≠ s.mesh.node →
    inReset s islStripe = false →
    ∃ l, l = r.waits.filter (fun u => !(reachable s).contains (unitNode g rc.stripe u)) ∧
      exec (.unreachable src id 0x22) s = .next (askUnits (modRecon (upMesh s (fun m => { m with nextReq := (m.nextReq + 1) % 2 ^ 64 })) id
        (fun x => { x with request := s.mesh.nextReq, bad := x.bad ++ l, waits := [] })) { r with request := s.mesh.nextReq, bad := r.bad ++ l, waits := [] })) ∧
  -- PROBE for this device is answered with its pair state and status.
  (∀ (s : State) (src pairId sender target number : Nat), target = Config.serial →
    inReset s islStripe = false →
    exec (.probe src pairId sender target number) s = .next (sendPair s src pairId (.probeAck sender target number s.pair.state (pairStatusByte s)))) ∧
  -- PROBE_ACK at a device that already goes over the mesh: the partner is heard.
  (∀ (s : State) (src pairId sender target number state status : Nat), pairId = s.pair.pairId →
    sender = Config.serial →
    target = s.pair.partner →
    s.pair.suspect = true →
    s.pair.meshMirror = true →
    inReset s islStripe = false →
    exec (.probeAck src pairId sender target number state status) s = .next (hearPartner s)) ∧
  -- PROBE_ACK at a PAIRED device over its link: the pair goes over to the mesh, what waited and what is unconfirmed go again, and the journal from the last confirmed record.
  (∀ (s u : State) (src pairId sender target number state status : Nat), pairId = s.pair.pairId →
    sender = Config.serial →
    target = s.pair.partner →
    s.pair.suspect = true →
    s.pair.meshMirror = false →
    s.pair.state = 2 →
    s.pair.fenced = false →
    u = s.pair.out.foldl (fun s m => sendT s m.msg) (hearPartner (upPair (pairLog s 4 0xFF 0) (fun p => { p with meshMirror := true, out := [], state := 3 }))) →
    inReset s islStripe = false →
    ∃ v, v = resendEntries u (u.pair.entriesOut.filter (fun e => !e.confirmed)) ∧
      exec (.probeAck src pairId sender target number state status) s = .next (sendJournal v v.pair.jConfirmed (v.med.ring.length / 256 + 1))) ∧
  -- CLAIM at a witness that has recorded none for the pair: it records the claimant, and grants.
  (∀ (s : State) (src pairId claimant partner number : Nat), (s.pair.records.find? (fun r => r.1 == pairId)) = none →
    inReset s islStripe = false →
    exec (.claim src pairId claimant partner number false) s = .next (sendPair (upPair s (fun p => { p with records := p.records ++ [(pairId, claimant)] })) src pairId (.claimGrant claimant partner number false))) ∧
  -- CLAIM of another device than the one recorded is refused, with the holder named.
  (∀ (s : State) (src pairId claimant partner number holder : Nat), s.pair.records.find? (fun r => r.1 == pairId) = some (pairId, holder) →
    holder ≠ claimant →
    inReset s islStripe = false →
    exec (.claim src pairId claimant partner number false) s = .next (sendPair s src pairId (.claimRefuse claimant partner number false holder))) ∧
  -- CLAIM_GRANT from a witness that makes a majority of the valid ones wins the claim.
  (∀ (s : State) (src pairId claimant partner number i : Nat) (c : ClaimState), claimAnswer s src pairId claimant number = some (i, c) →
    (validWitnesses s).length < 2 * (linsert c.grants i).length →
    inReset s islStripe = false →
    exec (.claimGrant src pairId claimant partner number false) s = .next (winClaim (upPair s (fun p => { p with
      claim := some { c with grants := linsert c.grants i, refusals := c.refusals.filter (· != i) } })) (linsert c.grants i).length false)) ∧
  -- CLAIM_REFUSE from a witness that makes a majority loses it: FENCED, with the own volumes held.
  (∀ (s : State) (src pairId claimant partner number holder i : Nat) (c : ClaimState), claimAnswer s src pairId claimant number = some (i, c) →
    (validWitnesses s).length < 2 * (linsert c.refusals i).length →
    inReset s islStripe = false →
    exec (.claimRefuse src pairId claimant partner number holder) s = .next (loseClaim (upPair s (fun p => { p with
      claim := some { c with refusals := linsert c.refusals i, grants := c.grants.filter (· != i) } })) (linsert c.refusals i).length)) ∧
  -- TUNNEL of a MIRROR_RELEASE from the partner's node frees every entry up to the one it names.
  (∀ (s : State) (src seq : Nat), src = s.pair.partnerNode →
    s.pair.state ≠ 0 →
    inReset s islTether = false →
    inReset s islStripe = false →
    exec (.tunnel src (.mirrorRelease seq)) s = .next { s with pair := { s.pair with entriesIn := s.pair.entriesIn.filter (fun e => decide (seq < e.seq)) } }) ∧
  -- TUNNEL from the partner's node is taken as the message of the pair that it carries.
  (∀ (s : State) (src : Nat), src = s.pair.partnerNode →
    s.pair.state ≠ 0 →
    inReset s islTether = false →
    inReset s islStripe = false →
    (∀ a b c d e f g h i, exec (.tunnel src (.hello a b c d e f g h i)) s = exec (.hello (.hello a b c d e f g h i)) s) ∧
      (∀ v i c a k, exec (.tunnel src (.keyTransfer v i c a k)) s = exec (.keyTransfer v i c a) s) ∧
      (∀ q v o l n d, exec (.tunnel src (.mirrorWrite q v o l n d)) s = exec (.mirrorWrite q v o l n d) s) ∧
      (∀ q, exec (.tunnel src (.mirrorConfirm q)) s = exec (.mirrorConfirm q) s) ∧
      (∀ q, exec (.tunnel src (.mirrorRelease q)) s = exec (.mirrorRelease q) s) ∧
      (∀ f l, exec (.tunnel src (.journal f l)) s = exec (.journal f l) s) ∧
      (∀ n, exec (.tunnel src (.journalConfirm n)) s = exec (.journalConfirm n) s) ∧
      (∀ n r, exec (.tunnel src (.root n r)) s = exec (.root n r) s) ∧
      (∀ n a b, exec (.tunnel src (.heartbeat n a b)) s = exec (.heartbeat n a b s.pair.partnerReadOnly) s) ∧
      (∀ q v l n, exec (.tunnel src (.blockRead q v l n)) s = exec (.blockRead q v l n { }) s) ∧
      (∀ q a d, exec (.tunnel src (.blockData q a d)) s = exec (.blockData q a d) s) ∧
      (∀ w v f l d, exec (.tunnel src (.handback w v f l d)) s = exec (.handback w v f l d) s) ∧
      exec (.tunnel src .cutover) s = exec .cutover s ∧ exec (.tunnel src .yieldMsg) s = exec .yieldMsg s ∧
      exec (.tunnel src .unpair) s = exec .unpair s)

/-- Stripe group messages, segments and parity have the effect their rules give and complete. -/
def Obligations.StripeCommandsComplete : Prop :=
  -- GROUP_HELLO of a group not joined here is kept for the join.
  (∀ (s : State) (src group k m index : Nat) (d : List Byte), groupAt s group = none →
    inReset s islStripe = false →
    exec (.groupHello src group k m index d) s = .next (upMesh s (fun x => { x with
      helloSeen := x.helloSeen.filter (fun h => !(h.src == src && h.group == group)) ++ [{ src, group, k, m, index, digest := d }] }))) ∧
  -- GROUP_HELLO of a member of a group that is joining, with the same shape and list: the member is counted, and the group may become ACTIVE.
  (∀ (s : State) (src group k m index : Nat) (g : Group), groupAt s group = some g →
    g.state = 1 →
    g.k = k →
    g.m = m →
    g.members[index]? = some src →
    index ≠ g.index →
    inReset s islStripe = false →
    exec (.groupHello src group k m index (listDigest g.members)) s = .next (tryActive (modGroup s group (fun g => { g with hello := linsert g.hello index })) group)) ∧
  -- GROUP_HELLO_TIMEOUT of a group that has been joining for 10 s: it goes, and its command ends 0x0020.
  (∀ (s : State) (group tag : Nat) (g : Group), groupAt s group = some g →
    g.state = 1 →
    g.tag = some tag →
    g.since + 10000 ≤ s.glb.lifetime →
    exec (.groupHelloTimeout group) s = .next (finish (upMesh s (fun m => { m with groups := m.groups.filter (fun x => x.2.id != group) })) tag (bad 0x20))) ∧
  -- INTENT at the stripe's primary for a position that is free, with an accumulator to be had: the segment is accepted, and the last position fixes the stripe.
  (∀ (s u : State) (src group stripe d band seg i : Nat) (g : Group) (x : Stripe), groupAt s group = some g →
    memberIdx g src = some i →
    g.formed = true →
    posOf g stripe i = some d →
    primaryOf g stripe = some g.index →
    (stripeAt s group stripe).getD (newStripe group stripe) = x →
    x.isFixed = false →
    x.accepted.any (fun a => a.1 == d) = false →
    allot (holdStripe s group stripe) group stripe = some u →
    inReset s islStripe = false →
    ∃ v, v = answerIntent (modStripe u group stripe (fun x => { x with
        opened := some (x.opened.getD (feature u 5)), openedAt := if x.opened.isSome then x.openedAt else u.glb.lifetime,
        accepted := (((stripeAt s group stripe).getD (newStripe group stripe)).accepted ++ [(d, band, seg)]) })) g src i stripe 0 ∧
      exec (.intent src group stripe d band seg) s = .next (if (x.accepted ++ [(d, band, seg)]).length = g.k then fixStripe v g x (x.accepted ++ [(d, band, seg)]) else v)) ∧
  -- INTENT_REPLY ACCEPT of an offered segment: its place is taken, its contributions go to the parity holders, and the next segment is offered.
  (∀ (s : State) (src group stripe lowest : Nat) (g : Group) (o : OwnSeg), groupAt s group = some g →
    ownIn s group stripe = some o →
    o.stage = 1 →
    (memberIdx g src).isNone = false →
    inReset s islStripe = false →
    exec (.intentReply src group stripe 0 lowest) s = .next (offerNext (contribute
      (modGroup (modOwn s o.band o.seg (fun o => { o with stage := 2 })) group (fun g => { g with next := max g.next (stripe + 1) })) g o (List.range g.m)) group)) ∧
  -- INTENT_REPLY LATE: it is counted, and the segment is offered for a later stripe.
  (∀ (s : State) (src group stripe lowest : Nat) (g : Group) (o : OwnSeg), groupAt s group = some g →
    ownIn s group stripe = some o →
    o.stage = 1 →
    (memberIdx g src).isNone = false →
    inReset s islStripe = false →
    exec (.intentReply src group stripe 1 lowest) s = .next (offerSeg (upMesh s (fun m => { m with late := satInc m.late })) g o.band o.seg (max (stripe + 1) lowest))) ∧
  -- STRIPE_DEADLINE of an open stripe whose latched deadline has passed fixes it with what was accepted.
  (∀ (s : State) (group stripe ms : Nat) (g : Group) (x : Stripe), groupAt s group = some g →
    stripeAt s group stripe = some x →
    x.opened = some ms →
    x.openedAt + ms ≤ s.glb.lifetime →
    x.isFixed = false →
    primaryOf g stripe = some g.index →
    inReset s islStripe = false →
    exec (.stripeDeadline group stripe) s = .next (fixStripe s g x x.accepted)) ∧
  -- A stripe that is fixed keeps its record, and CLOSE with it goes to every other member.
  (∀ (s : State) (g : Group) (x : Stripe) (l : List (Nat × Nat × Nat)), x.record = none →
    fixStripe s g x l = sendOthers (upMesh (modStripe s g.id x.num (fun x => { x with accepted := l, record := some (recordFrom g x.num l) })) (fun m => { m with
      zeroPositions := (m.zeroPositions + (recordFrom g x.num l).zeroCount) % 2 ^ 32 })) g (.close x.num (recordFrom g x.num l))) ∧
  -- CONTRIB of a codeword not yet added, of a position not zero: it is added to the accumulator of its place.
  (∀ (s u : State) (src group stripe p d j : Nat) (x : Coded) (g : Group) (y : Stripe), groupAt s group = some g →
    g.formed = true →
    (memberIdx g src).bind (posOf g stripe) = some d →
    rowOf g stripe g.index = some j →
    p < 256 →
    stripeAt (holdStripe s group stripe) group stripe = some y →
    (y.record.map (fun r => bit r.zero d)).getD false = false →
    y.parity = none →
    y.released = false →
    y.got.contains (d, p) = false →
    allot (holdStripe s group stripe) group stripe = some u →
    inReset s islStripe = false →
    exec (.contrib src group stripe p d j x) s = .next (modStripe u group stripe (fun y => { y with
      got := y.got ++ [(d, p)], acc := mset y.acc p (match mget y.acc p with
        | some a => a.add x
        | none => x) }))) ∧
  -- CLOSE at a parity holder keeps the record of the stripe; at a data member it fixes the own segment it names.
  (∀ (s : State) (src group stripe d : Nat) (row : Bool) (r : StripeRec) (g : Group), groupAt s group = some g →
    (memberIdx g src).isNone = false →
    g.formed = true →
    unitOfMember g stripe g.index = some (d, row) →
    inReset s islStripe = false →
    exec (.close src group stripe r) s = .next (if row then closeHolder s g stripe r else closeMember s g stripe d r)) ∧
  -- PARITY_PROGRAM of a row with its record and every contribution: the parity segment is programmed, the others hear PARITY_DONE, and the row is done.
  (∀ (s u : State) (group stripe j : Nat) (g : Group) (x : Stripe) (r : StripeRec) (place : Nat × Nat), groupAt s group = some g →
    stripeAt s group stripe = some x →
    x.record = some r →
    rowOf g stripe g.index = some j →
    x.parity = none →
    x.released = false →
    x.full r = true →
    putParity s r (fun p => mgetD x.acc p Coded.zero) = some (place, u) →
    inReset s islStripe = false →
    exec (.parityProgram group stripe) s = .next (tryRelease (rowProgrammed u g stripe j place) g stripe)) ∧
  -- PARITY_DONE at a member whose segment waits for it: the row is known done.
  (∀ (s : State) (src group stripe j : Nat) (g : Group) (o : OwnSeg), groupAt s group = some g →
    (memberIdx g src).bind (rowOf g stripe) = some j →
    ownIn s group stripe = some o →
    o.stage = 2 →
    inReset s islStripe = false →
    exec (.parityDone src group stripe j) s = .next (ownRows s g o (linsert o.rows j))) ∧
  -- GOSSIP marks the sender's own positions dead, and their stripes may be released.
  (∀ (s : State) (src group : Nat) (l : List (Nat × Nat)) (g : Group), groupAt s group = some g →
    l.all (fun x => (memberIdx g src).bind (posOf g x.1) == some x.2) = true →
    jRoom s 1 = true →
    inReset s islStripe = false →
    exec (.gossip src group l) s = .next (l.foldl (fun s x => tryRelease (markDead s g x.1 x.2) g x.1) s)) ∧
  -- GOSSIP_SEND, 100 ms after the last, tells the other members of each newly dead position once.
  (∀ (s : State) (n : Nat) (g : Group), s.mesh.groups = [(n, g)] →
    (newlyDead s g.id).isEmpty = false →
    s.mesh.gossipAt + 100 ≤ s.glb.lifetime →
    inReset s islStripe = false →
    exec .gossipSend s = .next (sendOthers ((newlyDead s g.id).foldl (fun s o => modOwn s o.band o.seg (fun o => { o with gossiped := true }))
      (upMesh s (fun m => { m with gossipAt := s.glb.lifetime }))) g (.gossip ((newlyDead s g.id).map (fun o => (o.stripe, o.d)))))) ∧
  -- RELEASE from a member releases the stripe here.
  (∀ (s : State) (src group stripe : Nat) (g : Group), groupAt s group = some g →
    (memberIdx g src).isNone = false →
    jRoom s 1 = true →
    inReset s islStripe = false →
    exec (.release src group stripe) s = .next (releaseHere s group stripe)) ∧
  -- RESEND: the contributions of an accepted segment go to that row again.
  (∀ (s : State) (src group stripe j : Nat) (g : Group) (o : OwnSeg), groupAt s group = some g →
    ownIn s group stripe = some o →
    (memberIdx g src).bind (rowOf g stripe) = some j →
    2 ≤ o.stage →
    inReset s islStripe = false →
    exec (.resend src group stripe o.d) s = .next (contribute s g o [j]))

/-- Lookups, reconstruction, rebuild and members of a group have the effect their rules give and complete. -/
def Obligations.LookupAndRebuildCommandsComplete : Prop :=
  -- LOCATE of one segment that records of a ready index name is answered with those records.
  (∀ (s : State) (src group request member band seg : Nat) (g : Group), groupAt s group = some g →
    s.mesh.indexReady = true →
    band ≠ 0xFFFFFFFF →
    ((indexRecs s group).filter (fun r => (unitOf s r member band seg).isSome)).isEmpty = false →
    inReset s islStripe = false →
    exec (.locate src group request member band seg) s = .next (sendM s src group (.locateAns request ((indexRecs s group).filter (fun r => (unitOf s r member band seg).isSome))))) ∧
  -- LOCATE_ANS to a reconstruction without a record gives it one that names its unit, and its units are asked for.
  (∀ (s u : State) (src request : Nat) (l : List StripeRec) (r : Recon) (q : StripeRec), u.mesh.rebuild = none →
    u.mesh.lookups = [] →
    u.mesh.recons.find? (fun r => r.request == request) = some r →
    r.record = none →
    u = upMesh s (fun m => { m with cache := l.filter (fun r => !m.cache.any (fun q => q.group == r.group && q.stripe == r.stripe)) ++ m.cache }) →
    l.find? (fun q => (unitOf u q r.node r.band r.seg).isSome) = some q →
    inReset s islStripe = false →
    exec (.locateAns src request l) s = .next (askUnits (modRecon u request (fun r => { r with record := some q })) { r with record := some q })) ∧
  -- RECON_REQ for one codeword is answered with its weighted slice, and counted.
  (∀ (s : State) (src group request stripe w p d : Nat) (row : Bool) (m : MediaIn), (groupAt s group).isNone = false →
    unitPlace s group stripe (d, row) = none →
    inReset s islStripe = false →
    exec (.reconReq src group request stripe w p 1 d row m) s = .next (upMesh (sendM s src group (.reconSlice request p d row (weighted s m none p w)))
      (fun m => { m with reconServed := (m.reconServed + 1) % 2 ^ 32 }))) ∧
  -- RECON_SLICE that is waited for is added, and the last one completes the reconstruction.
  (∀ (s : State) (src request p d : Nat) (row : Bool) (x : Coded) (r : Recon) (rc : StripeRec) (g : Group), s.mesh.recons.find? (fun r => r.request == request) = some r →
    r.record = some rc →
    groupAt s rc.group = some g →
    unitNode g rc.stripe (d, row) = src →
    r.p = p →
    r.waits.contains (d, row) = true →
    x.data.isEmpty = false →
    inReset s islStripe = false →
    exec (.reconSlice src request p d row x) s = .next (settleRecon (modRecon s request (fun r => { r with acc := r.acc.add x, waits := r.waits.filter (· != (d, row)) })) request)) ∧
  -- REBUILD_PLAN at a member of the chain that is not its first keeps the chain's part for this device.
  (∀ (s : State) (src group stripe i t1 d : Nat) (t2 row : Bool) (chain : List (Nat × Nat)) (m : MediaIn) (g : Group), groupAt s group = some g →
    chain.findIdx? (fun x => x.1 == s.mesh.node) = some i →
    i ≠ 0 →
    unitOfMember g stripe g.index = some (d, row) →
    (memberIdx g src).bind (unitOfMember g stripe) = some (t1, t2) →
    unitPlace s group stripe (d, row) = none →
    inReset s islStripe = false →
    exec (.rebuildPlan src group stripe chain m) s = .next (upMesh s (fun m => { m with
      chains := m.chains.filter (fun c => !(c.group == group && c.stripe == stripe)) ++ [{ group, stripe, unit := (d, row), next := (chain.getD (i + 1) (src, 0)).1, weight := (chain.getD i (0, 0)).2, bad := List.range 256, left := List.range 256 }] }))) ∧
  -- REBUILD_PART at a member of a chain passes it on with its own part added.
  (∀ (s : State) (src group stripe p d : Nat) (row : Bool) (x : Coded) (g : Group) (c : Chain), groupAt s group = some g →
    (memberIdx g src).isNone = false →
    p < 256 →
    s.mesh.rebuild = none →
    s.mesh.chains.find? (fun c => c.group == group && c.stripe == stripe) = some c →
    inReset s islStripe = false →
    exec (.rebuildPart src group stripe p d row x) s = .next (passPart s c p d row x)) ∧
  -- MEMBER_UPDATE of a member's node: the member stands at that node and is lost no longer, and the group is ACTIVE with its last lost member back.
  (∀ (s : State) (src group index : Nat) (g : Group), groupAt s group = some g →
    index ≠ g.index →
    index < g.k + g.m →
    inReset s islStripe = false →
    exec (.memberUpdate src group (.node index src)) s = .next (offerNext (modGroup s group (fun g => { g with
      lost := g.lost.filter (· != index), members := g.members.set index src,
      state := if g.state = 3 ∧ (g.lost.filter (· != index)).isEmpty then 2 else g.state })) group)) ∧
  -- MEMBER_LOST of another member of a formed group: the effects of its loss follow.
  (∀ (s : State) (group index : Nat) (g : Group), groupAt s group = some g →
    g.formed = true →
    index ≠ g.index →
    index < g.k + g.m →
    g.lost.contains index = false →
    inReset s islStripe = false →
    exec (.memberLost group index) s = .next (loseMember s group index)) ∧
  -- A lost member's bit is set and an ACTIVE group with no stripe or segment of it under way, and no reconstruction or rebuild, is DEGRADED, with the source of STRIPE raised and the loss logged.
  (∀ (s u : State) (group index : Nat) (g : Group), u = groupLog (raise (modGroup s group (fun g => { g with lost := linsert g.lost index, state := if g.state = 2 then 3 else g.state })) (unit islStripe 3)) group 12 index →
    groupAt u group = some g →
    u.mesh.stripes = [] →
    u.mesh.own = [] →
    u.mesh.recons = [] →
    u.mesh.rebuild = none →
    loseMember s group index = tryDissolve u group) ∧
  -- STRIPE_INDEX_READY: the index serves with the records of the parity segments of closed stripes, and lookups that waited for it are answered.
  (∀ (s : State), s.glb.ready = true →
    s.mesh.indexReady = false →
    inReset s islStripe = false →
    exec .stripeIndexReady s = .next (s.mesh.locates.foldl (fun s x => answerLocate s x.src x.group x.request x.member x.band x.seg)
      (upMesh s (fun m => { m with
        indexReady := true, locates := [],
        stripes := m.stripes.map (fun x => match x.parity, x.record with
          | some (b, q), none => { x with record := segRecord s b q }
          | _, _ => x) }))))

/-- Power-state entries, exits and reversals answer the next state the rules give. -/
def Obligations.PowerTransitionsComplete : Prop :=
  -- GLIDE_IDLE_ENTRY: a device in Run, idle for 2 ms, with feature 0x08 bit 0 set, which no refuser holds up, begins an entry to Glide.
  (∀ (s : State), bit (feature s 8) 0 = true →
    idleFor s (s.pwr.glideFrom + 2) = true →
    s.pwr.trans = none →
    s.pwr.queued = none →
    s.pwr.waitIdle = none →
    s.glb.ready = true →
    s.pwr.state < 1 →
    refuser s 1 = none →
    exec .glideIdleEntry s = .next (upPwr s (fun p => { p with trans := some { req := { tag := none, target := 1, source := 0 }, origin := p.state, phase := phasesOf p.state, abort := none, exit := false } }))) ∧
  -- One that a refuser holds up is refused, and its 2 ms begin again.
  (∀ (s : State) (c : Nat), bit (feature s 8) 0 = true →
    idleFor s (s.pwr.glideFrom + 2) = true →
    s.pwr.trans = none →
    s.pwr.queued = none →
    s.pwr.waitIdle = none →
    s.glb.ready = true →
    s.pwr.state < 1 →
    refuser s 1 = some c →
    exec .glideIdleEntry s = .next (upPwr (refusePower s { tag := none, target := 1, source := 0 } c) (fun p => { p with glideFrom := p.idleMs }))) ∧
  -- MOORED_IDLE_ENTRY: a device shallower than Moored, idle for 500 ms, with feature 0x08 bit 1 set, which no refuser holds up, begins an entry to Moored.
  (∀ (s : State), bit (feature s 8) 1 = true →
    idleFor s (s.pwr.mooredFrom + 500) = true →
    s.pwr.trans = none →
    s.pwr.queued = none →
    s.pwr.waitIdle = none →
    s.glb.ready = true →
    s.pwr.state < 2 →
    refuser s 2 = none →
    exec .mooredIdleEntry s = .next (upPwr s (fun p => { p with trans := some { req := { tag := none, target := 2, source := 0 }, origin := p.state, phase := phasesOf p.state, abort := none, exit := false } }))) ∧
  -- One that a refuser holds up is refused, and its 500 ms begin again.
  (∀ (s : State) (c : Nat), bit (feature s 8) 1 = true →
    idleFor s (s.pwr.mooredFrom + 500) = true →
    s.pwr.trans = none →
    s.pwr.queued = none →
    s.pwr.waitIdle = none →
    s.glb.ready = true →
    s.pwr.state < 2 →
    refuser s 2 = some c →
    exec .mooredIdleEntry s = .next (upPwr (refusePower s { tag := none, target := 2, source := 0 } c) (fun p => { p with mooredFrom := p.idleMs }))) ∧
  -- A commanded entry that a refuser holds up is refused with its code.
  (∀ (s : State) (r : PowerReq) (c : Nat), refuser s r.target = some c →
    startEntry s r = refusePower s r c) ∧
  -- TRANSITION_PHASE_END of an entry that nothing stops, before its last phase: what the phase does is done, and the next phase begins.
  (∀ (s u : State) (t : Transition) (ok : Bool) (lost : List Nat), s.pwr.trans = some t →
    t.origin ≠ 3 →
    t.exit = false →
    t.abort = none →
    u = entryPhase s t.req.target (t.phase + 1) →
    refuser u t.req.target = none →
    t.phase + 1 ≠ (if t.req.target = 3 then 3 else phasesOf t.req.target) →
    exec (.transitionPhaseEnd ok lost) s = .next (upPwr u (fun p => { p with trans := some { t with phase := t.phase + 1 } }))) ∧
  -- The last phase of an entry that nothing stops completes it.
  (∀ (s : State) (t : Transition) (ok : Bool) (lost : List Nat), s.pwr.trans = some t →
    t.origin ≠ 3 →
    t.exit = false →
    t.abort = none →
    t.phase + 1 = (if t.req.target = 3 then 3 else phasesOf t.req.target) →
    exec (.transitionPhaseEnd ok lost) s = .next (completeEntry (entryPhase s t.req.target (t.phase + 1)) t.req)) ∧
  -- An entry to Glide or Moored that a command stops turns back at the phase's end.
  (∀ (s : State) (t : Transition) (ok : Bool) (lost : List Nat) (c : Nat), s.pwr.trans = some t →
    t.origin ≠ 3 →
    t.exit = false →
    t.req.target ≠ 3 →
    t.abort = some c →
    exec (.transitionPhaseEnd ok lost) s = .next (upPwr (entryPhase s t.req.target (t.phase + 1)) (fun p => { p with trans := some { t with exit := true, phase := t.phase + 1, abort := some c } }))) ∧
  -- An entry to Glide or Moored that a refuser stops turns back at the phase's end.
  (∀ (s u : State) (t : Transition) (ok : Bool) (lost : List Nat) (c : Nat), s.pwr.trans = some t →
    t.origin ≠ 3 →
    t.exit = false →
    t.req.target ≠ 3 →
    t.abort = none →
    t.phase + 1 ≠ phasesOf t.req.target →
    u = entryPhase s t.req.target (t.phase + 1) →
    refuser u t.req.target = some c →
    exec (.transitionPhaseEnd ok lost) s = .next (upPwr u (fun p => { p with trans := some { t with exit := true, phase := t.phase + 1, abort := some c } }))) ∧
  -- An entry to Ballast that a refuser stops is recorded as aborted, and leaves the device on its way out.
  (∀ (s u : State) (t : Transition) (ok : Bool) (lost : List Nat) (c : Nat), s.pwr.trans = some t →
    t.origin ≠ 3 →
    t.exit = false →
    t.req.target = 3 →
    t.abort = none →
    t.phase + 1 ≠ 3 →
    u = entryPhase s 3 (t.phase + 1) →
    refuser u 3 = some c →
    exec (.transitionPhaseEnd ok lost) s = .next (upPwr (upPwr (powerRecord (countRefuser u 3 c) 3 2 c t.req.source)
      (fun p => { p with aborted := mset p.aborted 2 (satInc (mgetD p.aborted 2 0)), exitPending := true }))
      (fun p => { p with trans := some { t with exit := true, phase := 0, abort := none } }))) ∧
  -- A reversal or an exit goes back one phase.
  (∀ (s : State) (t : Transition) (ok : Bool) (lost : List Nat), s.pwr.trans = some t →
    t.origin ≠ 3 →
    t.exit = true →
    t.req.target ≠ 3 →
    t.abort = none →
    phasesOf t.req.target < t.phase - 1 →
    exec (.transitionPhaseEnd ok lost) s = .next (upPwr (exitPhase s t.phase lost) (fun p => { p with trans := some { t with phase := t.phase - 1 } }))) ∧
  -- The last phase of an exit completes it: the device is in the state asked for.
  (∀ (s : State) (t : Transition) (ok : Bool) (lost : List Nat), s.pwr.trans = some t →
    t.origin ≠ 3 →
    t.exit = true →
    t.req.target ≠ 3 →
    t.abort = none →
    t.phase - 1 ≤ phasesOf t.req.target →
    exec (.transitionPhaseEnd ok lost) s = .next (completeExit (exitPhase s t.phase lost) t.req)) ∧
  -- The last phase of a reversal ends the entry as aborted.
  (∀ (s : State) (t : Transition) (ok : Bool) (lost : List Nat) (c : Nat), s.pwr.trans = some t →
    t.origin ≠ 3 →
    t.exit = true →
    t.req.target ≠ 3 →
    t.abort = some c →
    t.phase - 1 = 0 →
    exec (.transitionPhaseEnd ok lost) s = .next (endAbort (exitPhase s t.phase lost) t.req c)) ∧
  -- The first phase of an exit from Ballast leaves low-power mode.
  (∀ (s : State) (t : Transition) (ok : Bool) (lost : List Nat), s.pwr.trans = some t →
    t.origin = 3 ∨ (t.exit = true ∧ t.req.target = 3) →
    t.phase = 0 →
    exec (.transitionPhaseEnd ok lost) s = .next (upPwr (upPwr s (fun p => { p with lowPower := false })) (fun p => { p with trans := some { t with phase := 1 } }))) ∧
  -- The last phase of an exit from Ballast reaches Moored.
  (∀ (s : State) (t : Transition) (ok : Bool) (lost : List Nat), s.pwr.trans = some t →
    t.origin = 3 ∨ (t.exit = true ∧ t.req.target = 3) →
    t.phase = 4 →
    exec (.transitionPhaseEnd ok lost) s = .next (reachMoored s)) ∧
  -- The image check of an exit from Ballast that fails restarts the device as at power-on.
  (∀ (s : State) (t : Transition) (lost : List Nat), s.pwr.trans = some t →
    t.origin = 3 ∨ (t.exit = true ∧ t.req.target = 3) →
    t.phase = 2 →
    exec (.transitionPhaseEnd false lost) s = .next (deviceReset s 0)) ∧
  -- The middle phases of an exit from Ballast follow one another.
  (∀ (s : State) (t : Transition) (ok : Bool) (lost : List Nat), s.pwr.trans = some t →
    t.origin = 3 ∨ (t.exit = true ∧ t.req.target = 3) →
    t.phase = 1 ∨ (t.phase = 2 ∧ ok = true) ∨ t.phase = 3 →
    exec (.transitionPhaseEnd ok lost) s = .next (upPwr s (fun p => { p with trans := some { t with phase := t.phase + 1 } }))) ∧
  -- COMMANDED_ENTRY_TIMEOUT: an entry that waited 10 ms for idleness is refused with HOST_COMMAND, and a queued request starts.
  (∀ (s : State) (r : PowerReq), s.pwr.waitIdle = some r →
    deviceIdle s = false →
    s.pwr.waitFrom + 10 ≤ s.glb.lifetime →
    exec .commandedEntryTimeout s = .next (nextPower (refusePower (upPwr s (fun p => { p with waitIdle := none })) r 0))) ∧
  -- LINK_L2_ENTRY of a device that is not armed: the link is in L2.
  (∀ (s : State), s.hst.mode ≠ 0 →
    s.pwr.linkPm ≠ 2 →
    s.pwr.armed = false →
    exec .linkL2Entry s = .next (upPwr s (fun p => { p with linkPm := 2 }))) ∧
  -- LINK_L2_ENTRY of an armed device in Moored begins the entry to Ballast.
  (∀ (s : State), s.hst.mode ≠ 0 →
    s.pwr.linkPm ≠ 2 →
    s.pwr.armed = true →
    s.pwr.state = 2 →
    s.pwr.trans = none →
    exec .linkL2Entry s = .next (enterBallast (upPwr s (fun p => { p with linkPm := 2 })))) ∧
  -- BALLAST_ARM_EXPIRY: an arming ends when the link is not in L2 10 s after it.
  (∀ (s : State), s.pwr.armed = true →
    s.pwr.linkPm ≠ 2 →
    s.pwr.armedAt + 10000 ≤ s.glb.lifetime →
    exec .ballastArmExpiry s = .next (endArming s false))

/-- Wakes, pins, brown-outs, rail loss, DOE and the test access port answer the next state the rules give. -/
def Obligations.WakesAndPinsComplete : Prop :=
  -- MOORED_WAKE by the host moving the link out of L1.
  (∀ (s : State), s.pwr.state = 2 →
    s.pwr.trans = none →
    s.pwr.linkPm = 1 →
    exec (.mooredWake 0) s = .next (wake (upPwr s (fun p => { p with linkPm := 0 })))) ∧
  -- MOORED_WAKE by a link message, or by a DRAM retrain window that is open.
  (∀ (s : State) (k : Nat), s.pwr.state = 2 →
    s.pwr.trans = none →
    k = 1 ∨ (k = 3 ∧ retrainOpen s = true) →
    exec (.mooredWake k) s = .next (wake s)) ∧
  -- MOORED_WAKE by a patrol deadline that has fallen due.
  (∀ (s : State), s.pwr.state = 2 →
    s.pwr.trans = none →
    s.med.bands.any (fun b => b.2.deadline != 0 && decide (b.2.deadline ≤ s.glb.lifetime)) = true →
    exec (.mooredWake 2) s = .next (wake s)) ∧
  -- A wake from Glide or Moored begins the exit to Run.
  (∀ (s : State), s.pwr.trans = none →
    s.pwr.state = 1 ∨ s.pwr.state = 2 →
    wake s = startExit s { tag := none, target := 0, source := 0 }) ∧
  -- WAKE_N_ASSERT in Ballast: the pin is low, and the exit to Moored begins with PERST# awaited.
  (∀ (s : State), s.pwr.wakeN = true →
    s.pwr.state = 3 →
    s.pwr.trans = none →
    s.pwr.wakeDriven = false →
    s.pwr.wakeIgnored = false →
    exec .wakeNAssert s = .next (ballastExit (upPwr s (fun p => { p with wakeN := false, wakeAt := s.glb.lifetime, exitPending := true })))) ∧
  -- WAKE_N_ASSERT outside Ballast: the pin is low from now on, and nothing else changes.
  (∀ (s : State), s.pwr.wakeN = true →
    s.pwr.state ≠ 3 →
    exec .wakeNAssert s = .next (upPwr s (fun p => { p with wakeN := false, wakeAt := s.glb.lifetime }))) ∧
  -- WAKE_STUCK outside Ballast, after more than 100 ms, sets WAKE_STUCK, records its fault and stops WAKE_N as a wake source.
  (∀ (s : State), s.pwr.state ≠ 3 →
    s.pwr.wakeN = false →
    s.pwr.wakeDriven = false →
    s.pwr.wakeIgnored = false →
    s.pwr.wakeAt + 100 < s.glb.lifetime →
    exec .wakeStuck s = .next (raise (upPwr s (fun p => { p with evWakeStuck := true, wakeIgnored := true })) srcWakeStuck)) ∧
  -- WAKE_N_RELEASE: the pin is high, and a wake source again.
  (∀ (s : State), s.pwr.wakeN = false →
    exec .wakeNRelease s = .next (upPwr s (fun p => { p with wakeN := true, wakeIgnored := false }))) ∧
  -- BROWN_OUT in normal mode, while no transition runs, is a rail fault.
  (∀ (s : State), s.pwr.lowPower = false →
    s.pwr.trans = none →
    exec .brownOut s = .next (raise s srcRail)) ∧
  -- BROWN_OUT in low-power mode: normal mode, the event and its counts, a Note fault and the exit to Moored.
  (∀ (s u : State), s.pwr.lowPower = true →
    u = raise (upPwr s (fun p => { p with lowPower := false, evBrownout := true, brownouts := satInc p.brownouts, lifeBrownouts := p.lifeBrownouts + 1 })) srcBrownout →
    u.pwr.trans = none →
    exec .brownOut s = .next (ballastExit (upPwr u (fun p => { p with exitPending := true })))) ∧
  -- INPUT_GLITCH moves one counter and nothing else.
  (∀ (s : State), exec (.inputGlitch .pwrFail) s = .next (upPwr s (fun p => { p with glitchPwrFail := satInc p.glitchPwrFail })) ∧
      exec (.inputGlitch .perst) s = .next (upPwr s (fun p => { p with glitchPerst := satInc p.glitchPerst })) ∧
      exec (.inputGlitch .wake) s = .next (upPwr s (fun p => { p with glitchWake := satInc p.glitchWake })) ∧
      exec (.inputGlitch .fpRdy) s = .next (upPwr s (fun p => { p with glitchFp := satInc p.glitchFp }))) ∧
  -- FP_RDY_IN_CHANGE: the pin has its level, and packets that waited go out.
  (∀ (s : State) (l : Bool), exec (.fpRdyInChange l) s = .next (fpPump (upPwr s (fun p => { p with fpRdyIn := l })))) ∧
  -- FP_RXD_WAKE in Moored wakes the device.
  (∀ (s : State), s.pwr.state = 2 →
    exec .fpRxdWake s = .next (wake s)) ∧
  -- BALLAST_EXIT by PERST# in Ballast: the host interface is reset, its queues go, and the exit begins.
  (∀ (s u : State), s.pwr.state = 3 →
    s.pwr.perstN = true →
    s.pwr.trans = none →
    u = tapFollow (upPwr (upGlb (dropQueues (hostDown s)) (fun g => { g with configReady := false })) (fun p => { p with perstN := false, wakeDriven := false, exitPerst := true, linkPm := 0 })) →
    u.pwr.state = 3 →
    u.pwr.trans = none →
    exec .ballastExit s = .next (Sys2Proof.Machine.ballastExit u)) ∧
  -- PWR_FAIL_DEASSERT: the pin is high, and heeded again.
  (∀ (s : State), exec .pwrFailDeassert s = .next (upPwr s (fun p => { p with pwrFailN := true, pwrFailIgnored := false }))) ∧
  -- RAIL_LOSS with PWR_FAIL_N asserted: power goes, and with it what AON held.
  (∀ (s : State), s.pwr.pwrFailN = false →
    s.glb.poweredOn = true →
    exec .railLoss s = .next (upPwr (upGlb (loseAon (deviceReset s 0)) (fun g => { g with poweredOn := false })) (fun p => { p with railsGood := false }))) ∧
  -- DOE_MESSAGE that establishes a session gives it its role, and the device identifies itself.
  (∀ (s : State) (role : Nat), s.hst.mode ≠ 0 →
    s.glb.configReady = true →
    s.sec.errorState = false →
    s.pwr.linkPm ≠ 2 →
    1 ≤ role →
    role ≤ 3 →
    exec (.doeMessage (.session role)) s = .next (reApprove (upHst (freeBytes s 96).2 (fun h =>
      { h with session := role, doe := (sha384 attestPublic ++ (freeBytes s 96).1) :: h.doe })))) ∧
  -- DOE_MESSAGE that ends the session.
  (∀ (s : State), s.hst.mode ≠ 0 →
    s.glb.configReady = true →
    s.sec.errorState = false →
    s.pwr.linkPm ≠ 2 →
    exec (.doeMessage .sessionEnd) s = .next (reApprove (upHst s (fun h => { h with session := 0 })))) ∧
  -- DOE_MESSAGE of IDE keys in a session secures the link.
  (∀ (s : State) (cm : Bool), s.hst.mode ≠ 0 →
    s.glb.configReady = true →
    s.sec.errorState = false →
    s.pwr.linkPm ≠ 2 →
    s.hst.session ≠ 0 →
    exec (.doeMessage (.ideKeys cm)) s = .next (ideSecure s cm)) ∧
  -- TAP_INSTRUCTION loads the instruction register, and the pins follow it.
  (∀ (s : State) (code : Nat), exec (.tapInstruction code) s = .next (tapFollow (upGlb s (fun g => { g with tapIr := code })))) ∧
  -- TAP_RESET loads IDCODE.
  (∀ (s : State), exec .tapReset s = .next (tapFollow (upGlb s (fun g => { g with tapIr := 2 }))))

/-- Faults raised, reactions and recovery answer the next state the rules give. -/
def Obligations.FaultCommandsComplete : Prop :=
  -- FAULT_RAISE of an implemented source on a powered device is a fault at the level named, if one is.
  (∀ (s : State) (src : Nat) (level : Option Nat), srcImplemented src = true →
    s.glb.poweredOn = true →
    level.getD 0 ≤ 4 →
    exec (.faultRaise src level) s = .next (raiseAt s src level false none)) ∧
  -- FAULT_REACTION outside a dump: the fault at the queue's head reacts.
  (∀ (s : State) (f : PendingFault) (rest : List PendingFault), s.flt.queue = f :: rest →
    s.med.dumpActive = false →
    exec .faultReaction s = .next (react (upFlt s (fun x => { x with queue := rest ++ x.held.take 1, held := x.held.drop 1 })) f)) ∧
  -- QUIET_PERIOD_END with the quiet timer at 0: every class is acknowledged with a record, IN_FAULT falls, and the recovery is counted.
  (∀ (s : State), s.flt.unack.isEmpty = false →
    s.flt.remain = 0 →
    s.flt.halted = false →
    s.flt.failover = false →
    exec .quietPeriodEnd s = .next (upFlt (s.flt.unack.foldl (fun s c => addHistory s 0xFFFF c.1 0 0 8) s) (fun f => { f with unack := [], remain := 0, recoveries := satInc f.recoveries }))) ∧
  -- CONTAIN_READY of an island that is neither HOST nor a port: it serves, and its shadow window runs.
  (∀ (s : State) (i : Nat), s.flt.containing.contains i = true →
    i ≠ islHost →
    i < 8 ∨ 13 < i →
    exec (.containReady i) s = .next (upFlt s (fun f => { f with containing := f.containing.filter (· != i), windows := linsert f.windows i }))) ∧
  -- CONTAIN_READY of HOST: messages that waited go.
  (∀ (s : State), s.flt.containing.contains islHost = true →
    exec (.containReady islHost) s = .next (msixFlush (upFlt s (fun f => { f with containing := f.containing.filter (· != islHost), windows := linsert f.windows islHost })))) ∧
  -- CONTAIN_READY of an enabled port with its neighbour known: its link is up, and what waited goes.
  (∀ (s : State) (i : Nat) (u : State), s.flt.containing.contains i = true →
    8 ≤ i →
    i ≤ 13 →
    i ≠ islHost →
    u = upFlt s (fun f => { f with containing := f.containing.filter (· != i), windows := linsert f.windows i }) →
    (portAt u (i - 8)).enabled = true →
    (portAt u (i - 8)).failed = false →
    (portAt u (i - 8)).neighbour.isSome = true →
    exec (.containReady i) s = .next (pumpPort (modPort u (i - 8) (fun p => { p with up := true })) (i - 8))) ∧
  -- SHADOW_WINDOW_END ends the island's window.
  (∀ (s : State) (i : Nat), exec (.shadowWindowEnd i) s = .next (upFlt s (fun f => { f with windows := f.windows.filter (· != i) })))

/-- The control loop, throttling, the planner and in-service tests answer the next state the rules give. -/
def Obligations.HealthCommandsComplete : Prop :=
  -- LOOP_ACTION by voltage: 5 mV more, and the rail follows.
  (∀ (s u : State) (i slack : Nat), i < 45 →
    slack < 2 →
    s.hlt.slice ≠ some i →
    s.pwr.state ≠ 3 →
    u = modIsland s i (fun m => { m with slack := slack }) →
    nextAction u i = some (.volt, false) →
    exec (.loopAction i slack) s = .next (setRail (modIsland u i (fun m => { m with vNow := m.vNow + 5, actions := .volt :: m.actions, actedAt := u.glb.lifetime })))) ∧
  -- LOOP_ACTION by clock: one step less.
  (∀ (s u : State) (i slack : Nat), i < 45 →
    slack < 2 →
    s.hlt.slice ≠ some i →
    s.pwr.state ≠ 3 →
    u = modIsland s i (fun m => { m with slack := slack }) →
    nextAction u i = some (.clock, false) →
    exec (.loopAction i slack) s = .next (setRail (modIsland u i (fun m => { m with now := m.now - 1, actions := .clock :: m.actions, actedAt := u.glb.lifetime })))) ∧
  -- LOOP_ACTION outside the policy bands is counted as an override.
  (∀ (s u : State) (i slack : Nat), i < 45 →
    slack < 2 →
    s.hlt.slice ≠ some i →
    s.pwr.state ≠ 3 →
    u = modIsland s i (fun m => { m with slack := slack }) →
    nextAction u i = some (.volt, true) →
    exec (.loopAction i slack) s = .next (override (setRail (modIsland u i (fun m => { m with vNow := m.vNow + 5, actions := .volt :: m.actions, actedAt := u.glb.lifetime }))) i)) ∧
  -- LOOP_ACTION by clock below the policy floor is an override too.
  (∀ (s u : State) (i slack : Nat), i < 45 →
    slack < 2 →
    s.hlt.slice ≠ some i →
    s.pwr.state ≠ 3 →
    u = modIsland s i (fun m => { m with slack := slack }) →
    nextAction u i = some (.clock, true) →
    exec (.loopAction i slack) s = .next (override (setRail (modIsland u i (fun m => { m with now := m.now - 1, actions := .clock :: m.actions, actedAt := u.glb.lifetime }))) i)) ∧
  -- LOOP_UNDO after 100 ms of slack since the loop last acted, with the rail free to fall: the latest action, voltage or clock, is taken back, down to the island's plan.
  (∀ (s : State) (i slack : Nat), i < 45 →
    slack ≤ 8 →
    s.hlt.slackTarget + 2 ≤ slack →
    s.hlt.slice ≠ some i →
    s.pwr.state ≠ 3 →
    (margin s i).actedAt + 100 ≤ s.glb.lifetime →
    avsStuck s = false →
    exec (.loopUndo i slack) s = .next (setRail (modIsland s i (fun m =>
      let n := { m with slack := slack, actedAt := s.glb.lifetime }
      match m.actions with
      | .volt :: l => { n with actions := l, vNow := max m.vTarget (m.vNow - 5) }
      | .clock :: l => { n with actions := l, now := min m.limit (m.now + 1) }
      | [] => if m.vTarget < m.vNow then { n with vNow := max m.vTarget (m.vNow - 5) } else n)))) ∧
  -- DEGRADATION_MEASURE an hour after the island's last one records its degradation.
  (∀ (s : State) (i d : Nat), (margin s i).measuredAt + 3600000 ≤ s.glb.lifetime →
    exec (.degradationMeasure i d) s = .next (modIsland s i (fun m => { m with degradation := d, measuredAt := s.glb.lifetime }))) ∧
  -- THERMAL_THROTTLE reads 45 sensors: the junction is the highest reading, and throttling is in force from 100 °C until below 98 °C.
  (∀ (s : State) (l : List Int) (top : Int) (acts : Bool), l.length = 45 →
    top = l.foldl max (l.headD 0) →
    acts = (decide (1000 ≤ top) || (s.hlt.throttling && decide (980 ≤ top))) →
    ∃ t, exec (.thermalThrottle l) s = .next t ∧ t.glb.junction = top / 10 ∧ t.hlt.throttling = acts ∧
      t.hlt.islands.map (fun m => m.temperature) = ((s.hlt.islands.zip l).map (fun x => { x.1 with temperature := x.2 })).map (fun m => m.temperature)) ∧
  -- The first step of throttling lowers every cap by one, and no clock stands above its cap.
  (∀ (s u : State) (l : List Int) (top : Int), l.length = 45 →
    top = l.foldl max (l.headD 0) →
    1000 ≤ top →
    top < 1150 →
    s.hlt.throttling = false →
    u = upHlt (upGlb (upHlt s (fun h => { h with islands := (h.islands.zip l).map (fun x => { x.1 with temperature := x.2 }) })) (fun g => { g with junction := top / 10 })) (fun h => { h with throttling := true }) →
    exec (.thermalThrottle l) s = .next (raise (upHlt u (fun h => { h with
      thermalAt := s.glb.lifetime,
      islands := u.hlt.islands.map (fun m =>
        let n := { m with thermal := min (m.cap - 1) (m.thermal + 1) }
        { n with now := min n.now n.limit }) })) srcThrottle)) ∧
  -- AVS_WRITE_FAIL before the third failure is counted.
  (∀ (s : State), s.hlt.avsTries ≠ 2 →
    exec .avsWriteFail s = .next (upHlt s (fun h => { h with avsErrors := satInc h.avsErrors, avsTries := min 3 (h.avsTries + 1) }))) ∧
  -- AVS_WRITE_FAIL, the third in succession, sets AVS_FAULT with a Deferred fault of AON.
  (∀ (s : State), s.hlt.avsTries = 2 →
    exec .avsWriteFail s = .next (raise (upHlt s (fun h => { h with avsErrors := satInc h.avsErrors, avsTries := 3, avsFault := true })) (unit islAon 3))) ∧
  -- PLANNER_RUN of a due plan starts it, with the policy bands latched, and the measurement of a free island takes its slice.
  (∀ (s u : State) (i : Nat) (f : PlanFound), i < 45 →
    s.hlt.throttling = false →
    s.hlt.planRunning = false →
    planDue s = true →
    u = startPlan s →
    u.hlt.measuring = false →
    sliceFree u i = true →
    exec (.plannerRun i f) s = .next (startMeasure u i)) ∧
  -- PLANNER_RUN of a running plan: the measurement of a free island takes its slice.
  (∀ (s u : State) (i : Nat) (f : PlanFound), i < 45 →
    s.hlt.throttling = false →
    s.hlt.planRunning = true →
    u = s →
    u.hlt.measuring = false →
    sliceFree u i = true →
    exec (.plannerRun i f) s = .next (startMeasure u i)) ∧
  -- PLANNER_RUN of the island that its measurement holds ends that measurement with what it found.
  (∀ (s : State) (i : Nat) (f : PlanFound), i < 45 →
    s.hlt.throttling = false →
    s.hlt.planRunning = true →
    s.hlt.measuring = true →
    s.hlt.slice = some i →
    exec (.plannerRun i f) s = .next (endMeasure s i f)) ∧
  -- PLAN_TIMEOUT: a plan unfinished after 2 h ends with what it has measured, and the measurement under way is given up.
  (∀ (s : State), s.hlt.planRunning = true →
    s.flt.faultN = false →
    s.hlt.planStart + 7200000 ≤ s.glb.lifetime →
    exec .planTimeout s = .next (finishPlan (dropMeasure s) true)) ∧
  -- TEST_SLICE_START: an island that nothing keeps is woken for a slice and takes it.
  (∀ (s : State) (i : Nat), 2 ≤ i →
    i < 45 →
    s.hlt.paused = false →
    sliceFree s i = true →
    exec (.testSliceStart i) s = .next (testCluster (needSet (wakeFor (upHlt s (fun h => { h with slice := some i })) i) i) i)) ∧
  -- TEST_SLICE_ABORT: the slice ends, and is counted as aborted.
  (∀ (s : State) (i : Nat), s.hlt.slice = some i →
    exec (.testSliceAbort i) s = .next (endSlice (upHlt s (fun h => { h with slicesAborted := wrapInc h.slicesAborted })) i)) ∧
  -- TEST_SLICE_DONE with success: counted, one slice fewer, and with the last the island is covered.
  (∀ (s : State) (i : Nat) (c : Bool), s.hlt.slice = some i →
    s.hlt.measuring = false →
    exec (.testSliceDone i true c) s = .next (modIsland (endSlice (upHlt s (fun h => { h with slicesDone := wrapInc h.slicesDone })) i) i (fun m => if m.outstanding ≤ 1 then { m with outstanding := m.outstanding - 1, coverAge := 0, coveredAt := (endSlice (upHlt s (fun h => { h with slicesDone := wrapInc h.slicesDone })) i).glb.lifetime } else { m with outstanding := m.outstanding - 1 }))) ∧
  -- TEST_SLICE_DONE with failure: counted, and the island's test has failed.
  (∀ (s : State) (i : Nat) (c : Bool), s.hlt.slice = some i →
    s.hlt.measuring = false →
    exec (.testSliceDone i false c) s = .next (testFails (endSlice (upHlt s (fun h => { h with slicesDone := wrapInc h.slicesDone })) i) i c)) ∧
  -- FORCED_WINDOW_ANNOUNCE of an island not covered for 144 h: the window is due when its age reaches 168 h.
  (∀ (s : State) (i : Nat), 2 ≤ i →
    i < 45 →
    s.hlt.forced = false →
    144 ≤ (margin s i).coverAge →
    exec (.forcedWindowAnnounce i) s = .next (upHlt s (fun h => { h with forced := true, forcedIsland := i, forcedAt := s.glb.lifetime + (168 - (margin s i).coverAge) * 3600000 }))) ∧
  -- FORCED_WINDOW of the announced island with success, when it falls due: its slices run, it is covered, and the announcement ends.
  (∀ (s u : State) (i : Nat) (c : Bool), s.hlt.testRun = none →
    s.hlt.forced = true →
    s.hlt.forcedIsland = i →
    s.hlt.forcedAt ≤ s.glb.lifetime →
    s.hlt.forcedWindows = 0 ∨ s.hlt.lastForced + 100 ≤ s.glb.lifetime →
    s.hlt.slice = none →
    s.pwr.state < 2 →
    s.pwr.trans = none →
    s.med.dumpActive = false →
    inReset s i = false →
    u = needSet s i →
    u.hlt.testRun = none →
    u.hlt.forced = true →
    u.hlt.forcedIsland = i →
    exec (.forcedWindow i true c) s = .next (upHlt (modIsland (upHlt u (fun h => { h with
        forcedWindows := satInc h.forcedWindows, lastForced := u.glb.lifetime, slicesDone := (h.slicesDone + (margin u i).outstanding) % 2 ^ 32 })) i
      (fun m => { m with outstanding := 0, coverAge := 0, coveredAt := u.glb.lifetime })) (fun h => { h with forced := false })))

/-- Footpath packets, breaks and timeouts answer the next state the rules give. -/
def Obligations.FootpathCommandsComplete : Prop :=
  -- FOOTPATH_COMMAND of 64 good bytes with the right CHK: it ends a command that awaits data, and is accepted.
  (∀ (s : State) (b : List Byte) (crc : Nat), fpListens s = true →
    s.glb.fpLock = false →
    b.length = 64 →
    crc = fpCrc 1 b →
    chkOk b = true →
    exec (.footpathCommand b crc) s = .next (acceptFootpath (fpCut (fpSeen s)) (parsePacket b))) ∧
  -- FOOTPATH_COMMAND of 64 good bytes with a wrong CHK is answered with CRC_MISMATCH.
  (∀ (s : State) (b : List Byte) (crc : Nat), fpListens s = true →
    s.glb.fpLock = false →
    b.length = 64 →
    crc = fpCrc 1 b →
    chkOk b = false →
    exec (.footpathCommand b crc) s = .next (fpSend (fpCut (fpSeen s)) (.reply none (entryBytes { cookie := (parsePacket b).cookie, qid := 0, status := stCrc, detail := 0, tag := 0xFFFF, r0 := 0, r1 := 0 } false)))) ∧
  -- A COMMAND packet that does not hold 64 bytes is answered with NAK 2, one whose CRC fails with NAK 1, and a good one with NAK 5 while the port is locked.
  (∀ (s : State) (b : List Byte) (crc : Nat), fpListens s = true →
    (b.length ≠ 64 → exec (.footpathCommand b crc) s = .next (fpNak s 2 0)) ∧ (b.length = 64 → crc ≠ fpCrc 1 b → exec (.footpathCommand b crc) s = .next (fpNak s 1 0)) ∧
      (b.length = 64 → crc = fpCrc 1 b → s.glb.fpLock = true → exec (.footpathCommand b crc) s = .next (fpNak s 5 0))) ∧
  -- FOOTPATH_DATA in order for the command that awaits it: the chunk is taken.
  (∀ (s : State) (b : List Byte) (crc : Nat) (o : Op), fpListens s = true →
    s.glb.fpLock = false →
    5 ≤ b.length →
    b.length ≤ 1028 →
    crc = fpCrc 3 b →
    fpAwaiting s = some o →
    num b 2 2 = o.rxSeq →
    exec (.footpathData b crc) s = .next (fpTake (fpSeen s) o (bit (num b 0 2) 0) (b.drop 4))) ∧
  -- FOOTPATH_DATA out of order, or with no command awaiting data, is answered with NAK 4.
  (∀ (s : State) (b : List Byte) (crc : Nat), fpListens s = true →
    s.glb.fpLock = false →
    5 ≤ b.length →
    b.length ≤ 1028 →
    crc = fpCrc 3 b →
    (fpAwaiting s = none → exec (.footpathData b crc) s = .next (fpNak s 4 0)) ∧
      (∀ o, fpAwaiting s = some o → num b 2 2 ≠ o.rxSeq → exec (.footpathData b crc) s = .next (fpNak s 4 o.rxSeq))) ∧
  -- FOOTPATH_NAK of the last packet before the third in succession: it goes out again.
  (∀ (s : State) (b : List Byte) (crc : Nat) (q : FpPacket) (l : List FpPacket), fpListens s = true →
    b.length = 4 →
    crc = fpCrc 4 b →
    s.glb.fpSent = q :: l →
    s.glb.fpNaks < 2 →
    s.pwr.fpRdyIn = true →
    exec (.footpathNak b crc) s = .next (upGlb s (fun g => { g with
      fpActive := true, fpAt := g.lifetime, fpNaksReceived := satInc g.fpNaksReceived, fpNaks := g.fpNaks + 1,
      fpSent := (match q with | .reply _ b => .reply none b | q => q) :: g.fpSent }))) ∧
  -- FOOTPATH_NAK, the third in succession for a packet, drops it.
  (∀ (s : State) (b : List Byte) (crc : Nat) (q : FpPacket) (l : List FpPacket), fpListens s = true →
    b.length = 4 →
    crc = fpCrc 4 b →
    s.glb.fpSent = q :: l →
    2 ≤ s.glb.fpNaks →
    exec (.footpathNak b crc) s = .next (upGlb s (fun g => { g with
      fpActive := true, fpAt := g.lifetime, fpNaksReceived := satInc g.fpNaksReceived, fpNaks := 0, fpDropped := satInc g.fpDropped }))) ∧
  -- FOOTPATH_BAUD with n from 1 to 25 is echoed.
  (∀ (s : State) (b : List Byte) (crc : Nat), fpListens s = true →
    s.glb.fpLock = false →
    b.length = 4 →
    crc = fpCrc 5 b →
    1 ≤ num b 0 4 →
    num b 0 4 ≤ 25 →
    exec (.footpathBaud b crc) s = .next (fpSend (fpSeen s) (.baud (num b 0 4)))) ∧
  -- FOOTPATH_BREAK: the command that awaits data ends, and the rate is 1 Mbaud.
  (∀ (s : State), s.glb.poweredOn = true →
    s.pwr.state ≠ 3 →
    s.med.dumpHeld = false →
    s.flt.halted = false →
    exec .footpathBreak s = .next (upGlb (fpCut s) (fun g => { g with baudN := 25 }))) ∧
  -- PACKET_IDLE_TIMEOUT while the port takes packets: the packet is discarded with NAK 2.
  (∀ (s : State), fpListens s = true →
    exec .packetIdleTimeout s = .next (fpNak s 2 0)) ∧
  -- DATA_CHUNK_TIMEOUT, 1 s after the acceptance or latest chunk: the command that awaits data ends with LENGTH_SHORT.
  (∀ (s : State) (o : Op), fpAwaiting s = some o →
    o.rxAt + 1000 ≤ s.glb.lifetime →
    exec .dataChunkTimeout s = .next (failEarly s o.tag { status := stLengthShort, detail := 1, r0 := o.rx.length, r1 := chunkNeed o.pkt })) ∧
  -- FOOTPATH_BAD_KIND: a KIND the device does not take is answered with NAK 3.
  (∀ (s : State) (k : Nat), fpListens s = true →
    k ≠ 1 →
    k ≠ 3 →
    k ≠ 4 →
    k ≠ 5 →
    exec (.footpathBadKind k) s = .next (fpNak s 3 0))

/-- A step carries out the command at the front of the queue with the queue's rest (log entry 1). -/
def Obligations.StepRunsTheFrontCommand : Prop :=
  -- A step with a command at the front of the queue is that command carried out with the queue's rest.
  (∀ (c : Instr) (s : State), step { s with pending := c :: s.pending } = exec c s)

/-- With no command waiting, a step is 1 ms of device lifetime (the model's choice, log entry 2). -/
def Obligations.IdleStepIsATick : Prop :=
  -- A step on an empty queue answers the tick.
  (∀ (s : State), s.pending = [] →
    step s = .next (tick s)) ∧
  -- A tick of a device with power counts 1 ms of lifetime and leaves the queue, the commands, the media, the pair, the keys' error state, the power state, the host's link and both memories as they are.
  (∀ (s : State), s.glb.poweredOn = true →
    (tick s).glb.lifetime = s.glb.lifetime + 1 ∧ (tick s).pending = s.pending ∧ (tick s).tsk = s.tsk ∧ (tick s).med = s.med ∧ (tick s).pair = s.pair ∧
      (tick s).sec.errorState = s.sec.errorState ∧ (tick s).pwr.state = s.pwr.state ∧ (tick s).pwr.trans = s.pwr.trans ∧ (tick s).hst = s.hst ∧ (tick s).way = s.way ∧ (tick s).cmp = s.cmp ∧
      (tick s).hostMem = s.hostMem ∧ (tick s).arena = s.arena ∧ (tick s).free = s.free) ∧
  -- Without power nothing counts.
  (∀ (s : State), s.glb.poweredOn = false →
    tick s = s)

/-- What a command does not list as touched, and the queue, it leaves as it was. -/
def Obligations.FramePerCommand : Prop :=
  -- When a command answers a next state, the waiting commands and every part of the state that `touches` does not list for it are as before.
  (∀ (c : Instr) (s t : State), exec c s = .next t →
    ChangesOnly (touches c) s t)

/-- Which commands can change the Result Arena and the host's memory: every other command leaves every byte of them. -/
def Obligations.MemoriesKeptOutsideTheirFrame : Prop :=
  -- A command that lists neither memory leaves every byte of the Result Arena and of the host's memory as it was.
  (∀ (c : Instr) (s t : State) (a : Nat), exec c s = .next t →
    Part.arena ∉ touches c →
    Part.hostMem ∉ touches c →
    loadZero t.arena a 1 = loadZero s.arena a 1 ∧ cellAt t.hostMem a = cellAt s.hostMem a)

/-- No command ends a run: every step answers a next state (the model's choice for events that cannot occur, log entry 13). -/
def Obligations.EveryStepAnswersANextState : Prop :=
  -- Every step of every state answers a next state.
  (∀ (s : State), Safe s)

/-- The state after reset holds the invariant of both memories. -/
def Obligations.ResetHoldsTheInvariant : Prop :=
  -- The Result Arena of the reset state lists no zero byte and both memories list their bytes by rising address.
  (Inv State.reset)

/-- Every step keeps the invariant of both memories. -/
def Obligations.EveryStepKeepsTheInvariant : Prop :=
  -- From every state that holds the invariant, reached or not, a step leads to a state that holds it.
  (∀ (s t : State), Inv s →
    step s = .next t →
    Inv t)

/-- A read of the Result Arena or of the host's memory after a write gives the bytes written there and the old bytes elsewhere. -/
def Obligations.MemoryReadAfterWrite : Prop :=
  -- The Result Arena: an address within the write reads the byte written there, every other address what it read before.
  (∀ (m : List Host.Cell) (a x : Nat) (b : List Byte), (cellAt (storeNonzero m a b) x).getD 0 = if a ≤ x ∧ x < a + b.length then b.getD (x - a) 0 else (cellAt m x).getD 0) ∧
  -- The host's memory: an address within the write lists the byte written there, every other address what it listed before.
  (∀ (m : List Host.Cell) (a x : Nat) (b : List Byte), cellAt (storeAll m a b) x = if a ≤ x ∧ x < a + b.length then some (b.getD (x - a) 0) else cellAt m x)

/-- Decoding the words of a Kite instruction gives it back, and a decoded instruction's words are those read. -/
def Obligations.KiteEncodingRoundTrip : Prop :=
  -- Every well-formed instruction, with every operand at every value its encoding admits, decodes from its own words, whatever words follow, and takes exactly them.
  (∀ (k : KOp) (rest : List Nat), k.wf = true →
    kiteDecode (kiteEncode k ++ rest) = some (k, (kiteEncode k).length)) ∧
  -- Every instruction that decodes is well formed, and its words are the words read: each word sequence has one meaning.
  (∀ (ws : List Nat) (k : KOp) (n : Nat), kiteDecode ws = some (k, n) →
    k.wf = true ∧ kiteEncode k = ws.take n)

/-- After a WRITE that succeeds without a partner, the newest staged version of each of its blocks is its data, and of every other block what it was. -/
def Obligations.WriteThenRead : Prop :=
  -- A WRITE that lands and completes: each of its blocks has its data as the newest staged version, and every block outside its range the version it had.
  (∀ (s : State) (tag : Nat) (o : Op) (host : HostRead) (b : List Byte), opFor s tag 0x0402 = some o →
    o.stage = .ready →
    readOnly s = false →
    sameVolume s o = true →
    fosterWaits s o.pkt.vol = false →
    admitted s o = true →
    input s o host o.pkt.dlen = some (.data b) →
    mirroring s = false →
    (∀ x ∈ s.med.staging, x.seq ≠ o.seq) →
    ∃ t, exec (.write tag host) s = .next t ∧
      (∀ k, k < o.pkt.blocks → ∃ x, stagedAt t o.pkt.vol (o.pkt.addr + k) = some x ∧ x.data = fit 4096 (b.drop (4096 * k))) ∧
      (∀ v l, ¬ (v = o.pkt.vol ∧ o.pkt.addr ≤ l ∧ l < o.pkt.addr + o.pkt.blocks) → stagedAt t v l = stagedAt s v l))

/-- A fault after a Halt is recorded and takes no reaction. -/
def Obligations.HaltedCollector : Prop :=
  -- An occurrence of any source: its sticky bit is set, its count goes up by one, a history record is left, FLT_LAST takes it; nothing is queued to react, no reaction is counted, no event is posted, and nothing outside the collector changes.
  (∀ (s : State) (src : Nat) (level : Option Nat) (asks : Bool) (peer : Option Nat), s.flt.halted = true →
    ∃ t, raiseOne s src level asks peer = t ∧ src ∈ t.flt.sticky ∧ t.flt.counts = mset s.flt.counts src (satInc (mgetD s.flt.counts src 0)) ∧
      (t.flt.history.head?.map (fun r => (r.time, r.src))) = some (s.glb.lifetime, src) ∧ t.flt.recordCount = s.flt.recordCount + 1 ∧ t.flt.lastDetail % 512 = src % 512 ∧
      t.flt.queue = s.flt.queue ∧ t.flt.held = s.flt.held ∧ t.flt.reactions = s.flt.reactions ∧ t.flt.halted = true ∧ t.tsk = s.tsk ∧ ChangesOnly [.flt] s t)

/-- A counting fault of an unacknowledged class reacts one level above the higher of the configured and the held level, up to 4. -/
def Obligations.FaultEscalation : Prop :=
  -- A counting fault whose class is unacknowledged reacts one level above the higher of its configured level and the level held, up to level 4.
  (∀ (s : State) (f : PendingFault) (held : Nat), srcClass f.src ≠ 0 →
    f.level.getD (srcLevel s f.src) ≠ 0 →
    mget s.flt.unack (srcClass f.src) = some held →
    escalated s f = min 4 (max (f.level.getD (srcLevel s f.src)) held + 1)) ∧
  -- A correctable fault never escalates, nor one of a class that is acknowledged, whatever other classes hold.
  (∀ (s : State) (f : PendingFault), srcClass f.src = 0 ∨ mget s.flt.unack (srcClass f.src) = none →
    escalated s f = f.level.getD (srcLevel s f.src)) ∧
  -- A Contain of an island whose loss the device cannot bear is taken as Failover, and a Failover before READY as Halt.
  (∀ (s : State) (f : PendingFault), escalated s f = 2 →
    containFails f.src = true →
    (s.flt.readySeen = true → levelTaken s f = 3) ∧ (s.flt.readySeen = false → levelTaken s f = 4))

/-- A slice that fails raises TEST_FAIL, sets FAILED and begins its island's set again; a crypto failure enters the error state. -/
def Obligations.TestSliceFailure : Prop :=
  -- A failed slice of an island: HLT_ISLAND_TEST.FAILED is set, 1 to 16 slices are to run again, TEST_FAIL is raised, and a crypto failure enters the error state.
  (∀ (s : State) (i : Nat) (crypto : Bool), s.hlt.slice = some i →
    s.hlt.measuring = false →
    i < s.hlt.islands.length →
    ∃ u, exec (.testSliceDone i false crypto) s = .next (if crypto then enterError (raise u (unit i 6)) else raise u (unit i 6)) ∧
      (margin u i).failed = true ∧ 1 ≤ (margin u i).outstanding ∧ (margin u i).outstanding ≤ 16)

/-- Reading cyl and then cyh gives a consistent 64-bit count. -/
def Obligations.KiteCycleCount : Prop :=
  -- A read of cyl gives bits [31:0] and holds bits [63:32]; reads of cyh, whatever the count has become, give what was held.
  (∀ (s u : State) (r : Regs) (a b : Reg) (later : Nat), r.g.length = 16 →
    ∃ q, movsrRead s r a 5 = .ends { s, regs := q } ∧ q.get a = word r.cycles ∧
      movsrRead u { q with cycles := later } b 6 = .ends { s := u, regs := ({ q with cycles := later } : Regs).put b (word (r.cycles / 2 ^ 32)) })

/-- What reset leaves of the values the spec gives. -/
def Obligations.ResetValues : Prop :=
  -- No command is accepted or waiting, ring 0 alone stands, disabled, and no lock is held.
  (State.reset.pending = [] ∧ State.reset.tsk.ops = [] ∧ State.reset.tsk.locks = [] ∧ State.reset.tsk.rings = [(0, Ring.zero)] ∧ State.reset.tsk.ring0En = false) ∧
  -- The Result Arena reads zero at every address (the model's choice, log entry 11).
  (∀ a n, loadZero State.reset.arena a n = List.replicate n 0) ∧
  -- Every Kite core is OFF and holds nothing, and every Waymark table is disabled.
  ((∀ c ∈ State.reset.kite.cores, c.state = 7 ∧ c.image = none ∧ c.inst = none) ∧ State.reset.kite.cores.length = 64 ∧ State.reset.kite.insts = [] ∧ ∀ t ∈ State.reset.way.tables, t.en = false) ∧
  -- The features stand at the defaults of Table 4.9.
  (feature State.reset 1 = 0 ∧ feature State.reset 2 = 100 ∧ feature State.reset 3 = 7 ∧ feature State.reset 4 = 0 ∧ feature State.reset 5 = 10 ∧ feature State.reset 6 = 256 ∧ feature State.reset 7 = 10 ∧ feature State.reset 8 = 3 ∧ feature State.reset 9 = 0)
end

