-- ==== Sys2Proof/Laws/State.lean ====
section
/-! SUPPORT. One lemma for each part of the state and each operation that changes one part: what it holds afterwards. -/

namespace Sys2Proof.Machine

/-! ### upPwr -/

@[simp] theorem upPwr_pwr (s : State) (f : Pwr → Pwr) : (upPwr s f).pwr = f s.pwr := rfl
@[simp] theorem upPwr_flt (s : State) (f : Pwr → Pwr) : (upPwr s f).flt = s.flt := rfl
@[simp] theorem upPwr_glb (s : State) (f : Pwr → Pwr) : (upPwr s f).glb = s.glb := rfl
@[simp] theorem upPwr_hst (s : State) (f : Pwr → Pwr) : (upPwr s f).hst = s.hst := rfl
@[simp] theorem upPwr_tsk (s : State) (f : Pwr → Pwr) : (upPwr s f).tsk = s.tsk := rfl
@[simp] theorem upPwr_med (s : State) (f : Pwr → Pwr) : (upPwr s f).med = s.med := rfl
@[simp] theorem upPwr_drc (s : State) (f : Pwr → Pwr) : (upPwr s f).drc = s.drc := rfl
@[simp] theorem upPwr_kite (s : State) (f : Pwr → Pwr) : (upPwr s f).kite = s.kite := rfl
@[simp] theorem upPwr_way (s : State) (f : Pwr → Pwr) : (upPwr s f).way = s.way := rfl
@[simp] theorem upPwr_cmp (s : State) (f : Pwr → Pwr) : (upPwr s f).cmp = s.cmp := rfl
@[simp] theorem upPwr_sec (s : State) (f : Pwr → Pwr) : (upPwr s f).sec = s.sec := rfl
@[simp] theorem upPwr_hlt (s : State) (f : Pwr → Pwr) : (upPwr s f).hlt = s.hlt := rfl
@[simp] theorem upPwr_pair (s : State) (f : Pwr → Pwr) : (upPwr s f).pair = s.pair := rfl
@[simp] theorem upPwr_mesh (s : State) (f : Pwr → Pwr) : (upPwr s f).mesh = s.mesh := rfl
@[simp] theorem upPwr_hostMem (s : State) (f : Pwr → Pwr) : (upPwr s f).hostMem = s.hostMem := rfl
@[simp] theorem upPwr_arena (s : State) (f : Pwr → Pwr) : (upPwr s f).arena = s.arena := rfl
@[simp] theorem upPwr_free (s : State) (f : Pwr → Pwr) : (upPwr s f).free = s.free := rfl
@[simp] theorem upPwr_pending (s : State) (f : Pwr → Pwr) : (upPwr s f).pending = s.pending := rfl

/-! ### upFlt -/

@[simp] theorem upFlt_pwr (s : State) (f : Flt → Flt) : (upFlt s f).pwr = s.pwr := rfl
@[simp] theorem upFlt_flt (s : State) (f : Flt → Flt) : (upFlt s f).flt = f s.flt := rfl
@[simp] theorem upFlt_glb (s : State) (f : Flt → Flt) : (upFlt s f).glb = s.glb := rfl
@[simp] theorem upFlt_hst (s : State) (f : Flt → Flt) : (upFlt s f).hst = s.hst := rfl
@[simp] theorem upFlt_tsk (s : State) (f : Flt → Flt) : (upFlt s f).tsk = s.tsk := rfl
@[simp] theorem upFlt_med (s : State) (f : Flt → Flt) : (upFlt s f).med = s.med := rfl
@[simp] theorem upFlt_drc (s : State) (f : Flt → Flt) : (upFlt s f).drc = s.drc := rfl
@[simp] theorem upFlt_kite (s : State) (f : Flt → Flt) : (upFlt s f).kite = s.kite := rfl
@[simp] theorem upFlt_way (s : State) (f : Flt → Flt) : (upFlt s f).way = s.way := rfl
@[simp] theorem upFlt_cmp (s : State) (f : Flt → Flt) : (upFlt s f).cmp = s.cmp := rfl
@[simp] theorem upFlt_sec (s : State) (f : Flt → Flt) : (upFlt s f).sec = s.sec := rfl
@[simp] theorem upFlt_hlt (s : State) (f : Flt → Flt) : (upFlt s f).hlt = s.hlt := rfl
@[simp] theorem upFlt_pair (s : State) (f : Flt → Flt) : (upFlt s f).pair = s.pair := rfl
@[simp] theorem upFlt_mesh (s : State) (f : Flt → Flt) : (upFlt s f).mesh = s.mesh := rfl
@[simp] theorem upFlt_hostMem (s : State) (f : Flt → Flt) : (upFlt s f).hostMem = s.hostMem := rfl
@[simp] theorem upFlt_arena (s : State) (f : Flt → Flt) : (upFlt s f).arena = s.arena := rfl
@[simp] theorem upFlt_free (s : State) (f : Flt → Flt) : (upFlt s f).free = s.free := rfl
@[simp] theorem upFlt_pending (s : State) (f : Flt → Flt) : (upFlt s f).pending = s.pending := rfl

/-! ### upGlb -/

@[simp] theorem upGlb_pwr (s : State) (f : Glb → Glb) : (upGlb s f).pwr = s.pwr := rfl
@[simp] theorem upGlb_flt (s : State) (f : Glb → Glb) : (upGlb s f).flt = s.flt := rfl
@[simp] theorem upGlb_glb (s : State) (f : Glb → Glb) : (upGlb s f).glb = f s.glb := rfl
@[simp] theorem upGlb_hst (s : State) (f : Glb → Glb) : (upGlb s f).hst = s.hst := rfl
@[simp] theorem upGlb_tsk (s : State) (f : Glb → Glb) : (upGlb s f).tsk = s.tsk := rfl
@[simp] theorem upGlb_med (s : State) (f : Glb → Glb) : (upGlb s f).med = s.med := rfl
@[simp] theorem upGlb_drc (s : State) (f : Glb → Glb) : (upGlb s f).drc = s.drc := rfl
@[simp] theorem upGlb_kite (s : State) (f : Glb → Glb) : (upGlb s f).kite = s.kite := rfl
@[simp] theorem upGlb_way (s : State) (f : Glb → Glb) : (upGlb s f).way = s.way := rfl
@[simp] theorem upGlb_cmp (s : State) (f : Glb → Glb) : (upGlb s f).cmp = s.cmp := rfl
@[simp] theorem upGlb_sec (s : State) (f : Glb → Glb) : (upGlb s f).sec = s.sec := rfl
@[simp] theorem upGlb_hlt (s : State) (f : Glb → Glb) : (upGlb s f).hlt = s.hlt := rfl
@[simp] theorem upGlb_pair (s : State) (f : Glb → Glb) : (upGlb s f).pair = s.pair := rfl
@[simp] theorem upGlb_mesh (s : State) (f : Glb → Glb) : (upGlb s f).mesh = s.mesh := rfl
@[simp] theorem upGlb_hostMem (s : State) (f : Glb → Glb) : (upGlb s f).hostMem = s.hostMem := rfl
@[simp] theorem upGlb_arena (s : State) (f : Glb → Glb) : (upGlb s f).arena = s.arena := rfl
@[simp] theorem upGlb_free (s : State) (f : Glb → Glb) : (upGlb s f).free = s.free := rfl
@[simp] theorem upGlb_pending (s : State) (f : Glb → Glb) : (upGlb s f).pending = s.pending := rfl

/-! ### upHst -/

@[simp] theorem upHst_pwr (s : State) (f : Hst → Hst) : (upHst s f).pwr = s.pwr := rfl
@[simp] theorem upHst_flt (s : State) (f : Hst → Hst) : (upHst s f).flt = s.flt := rfl
@[simp] theorem upHst_glb (s : State) (f : Hst → Hst) : (upHst s f).glb = s.glb := rfl
@[simp] theorem upHst_hst (s : State) (f : Hst → Hst) : (upHst s f).hst = f s.hst := rfl
@[simp] theorem upHst_tsk (s : State) (f : Hst → Hst) : (upHst s f).tsk = s.tsk := rfl
@[simp] theorem upHst_med (s : State) (f : Hst → Hst) : (upHst s f).med = s.med := rfl
@[simp] theorem upHst_drc (s : State) (f : Hst → Hst) : (upHst s f).drc = s.drc := rfl
@[simp] theorem upHst_kite (s : State) (f : Hst → Hst) : (upHst s f).kite = s.kite := rfl
@[simp] theorem upHst_way (s : State) (f : Hst → Hst) : (upHst s f).way = s.way := rfl
@[simp] theorem upHst_cmp (s : State) (f : Hst → Hst) : (upHst s f).cmp = s.cmp := rfl
@[simp] theorem upHst_sec (s : State) (f : Hst → Hst) : (upHst s f).sec = s.sec := rfl
@[simp] theorem upHst_hlt (s : State) (f : Hst → Hst) : (upHst s f).hlt = s.hlt := rfl
@[simp] theorem upHst_pair (s : State) (f : Hst → Hst) : (upHst s f).pair = s.pair := rfl
@[simp] theorem upHst_mesh (s : State) (f : Hst → Hst) : (upHst s f).mesh = s.mesh := rfl
@[simp] theorem upHst_hostMem (s : State) (f : Hst → Hst) : (upHst s f).hostMem = s.hostMem := rfl
@[simp] theorem upHst_arena (s : State) (f : Hst → Hst) : (upHst s f).arena = s.arena := rfl
@[simp] theorem upHst_free (s : State) (f : Hst → Hst) : (upHst s f).free = s.free := rfl
@[simp] theorem upHst_pending (s : State) (f : Hst → Hst) : (upHst s f).pending = s.pending := rfl

/-! ### upTsk -/

@[simp] theorem upTsk_pwr (s : State) (f : Tsk → Tsk) : (upTsk s f).pwr = s.pwr := rfl
@[simp] theorem upTsk_flt (s : State) (f : Tsk → Tsk) : (upTsk s f).flt = s.flt := rfl
@[simp] theorem upTsk_glb (s : State) (f : Tsk → Tsk) : (upTsk s f).glb = s.glb := rfl
@[simp] theorem upTsk_hst (s : State) (f : Tsk → Tsk) : (upTsk s f).hst = s.hst := rfl
@[simp] theorem upTsk_tsk (s : State) (f : Tsk → Tsk) : (upTsk s f).tsk = f s.tsk := rfl
@[simp] theorem upTsk_med (s : State) (f : Tsk → Tsk) : (upTsk s f).med = s.med := rfl
@[simp] theorem upTsk_drc (s : State) (f : Tsk → Tsk) : (upTsk s f).drc = s.drc := rfl
@[simp] theorem upTsk_kite (s : State) (f : Tsk → Tsk) : (upTsk s f).kite = s.kite := rfl
@[simp] theorem upTsk_way (s : State) (f : Tsk → Tsk) : (upTsk s f).way = s.way := rfl
@[simp] theorem upTsk_cmp (s : State) (f : Tsk → Tsk) : (upTsk s f).cmp = s.cmp := rfl
@[simp] theorem upTsk_sec (s : State) (f : Tsk → Tsk) : (upTsk s f).sec = s.sec := rfl
@[simp] theorem upTsk_hlt (s : State) (f : Tsk → Tsk) : (upTsk s f).hlt = s.hlt := rfl
@[simp] theorem upTsk_pair (s : State) (f : Tsk → Tsk) : (upTsk s f).pair = s.pair := rfl
@[simp] theorem upTsk_mesh (s : State) (f : Tsk → Tsk) : (upTsk s f).mesh = s.mesh := rfl
@[simp] theorem upTsk_hostMem (s : State) (f : Tsk → Tsk) : (upTsk s f).hostMem = s.hostMem := rfl
@[simp] theorem upTsk_arena (s : State) (f : Tsk → Tsk) : (upTsk s f).arena = s.arena := rfl
@[simp] theorem upTsk_free (s : State) (f : Tsk → Tsk) : (upTsk s f).free = s.free := rfl
@[simp] theorem upTsk_pending (s : State) (f : Tsk → Tsk) : (upTsk s f).pending = s.pending := rfl

/-! ### upMed -/

@[simp] theorem upMed_pwr (s : State) (f : Med → Med) : (upMed s f).pwr = s.pwr := rfl
@[simp] theorem upMed_flt (s : State) (f : Med → Med) : (upMed s f).flt = s.flt := rfl
@[simp] theorem upMed_glb (s : State) (f : Med → Med) : (upMed s f).glb = s.glb := rfl
@[simp] theorem upMed_hst (s : State) (f : Med → Med) : (upMed s f).hst = s.hst := rfl
@[simp] theorem upMed_tsk (s : State) (f : Med → Med) : (upMed s f).tsk = s.tsk := rfl
@[simp] theorem upMed_med (s : State) (f : Med → Med) : (upMed s f).med = f s.med := rfl
@[simp] theorem upMed_drc (s : State) (f : Med → Med) : (upMed s f).drc = s.drc := rfl
@[simp] theorem upMed_kite (s : State) (f : Med → Med) : (upMed s f).kite = s.kite := rfl
@[simp] theorem upMed_way (s : State) (f : Med → Med) : (upMed s f).way = s.way := rfl
@[simp] theorem upMed_cmp (s : State) (f : Med → Med) : (upMed s f).cmp = s.cmp := rfl
@[simp] theorem upMed_sec (s : State) (f : Med → Med) : (upMed s f).sec = s.sec := rfl
@[simp] theorem upMed_hlt (s : State) (f : Med → Med) : (upMed s f).hlt = s.hlt := rfl
@[simp] theorem upMed_pair (s : State) (f : Med → Med) : (upMed s f).pair = s.pair := rfl
@[simp] theorem upMed_mesh (s : State) (f : Med → Med) : (upMed s f).mesh = s.mesh := rfl
@[simp] theorem upMed_hostMem (s : State) (f : Med → Med) : (upMed s f).hostMem = s.hostMem := rfl
@[simp] theorem upMed_arena (s : State) (f : Med → Med) : (upMed s f).arena = s.arena := rfl
@[simp] theorem upMed_free (s : State) (f : Med → Med) : (upMed s f).free = s.free := rfl
@[simp] theorem upMed_pending (s : State) (f : Med → Med) : (upMed s f).pending = s.pending := rfl

/-! ### upDrc -/

@[simp] theorem upDrc_pwr (s : State) (f : Drc → Drc) : (upDrc s f).pwr = s.pwr := rfl
@[simp] theorem upDrc_flt (s : State) (f : Drc → Drc) : (upDrc s f).flt = s.flt := rfl
@[simp] theorem upDrc_glb (s : State) (f : Drc → Drc) : (upDrc s f).glb = s.glb := rfl
@[simp] theorem upDrc_hst (s : State) (f : Drc → Drc) : (upDrc s f).hst = s.hst := rfl
@[simp] theorem upDrc_tsk (s : State) (f : Drc → Drc) : (upDrc s f).tsk = s.tsk := rfl
@[simp] theorem upDrc_med (s : State) (f : Drc → Drc) : (upDrc s f).med = s.med := rfl
@[simp] theorem upDrc_drc (s : State) (f : Drc → Drc) : (upDrc s f).drc = f s.drc := rfl
@[simp] theorem upDrc_kite (s : State) (f : Drc → Drc) : (upDrc s f).kite = s.kite := rfl
@[simp] theorem upDrc_way (s : State) (f : Drc → Drc) : (upDrc s f).way = s.way := rfl
@[simp] theorem upDrc_cmp (s : State) (f : Drc → Drc) : (upDrc s f).cmp = s.cmp := rfl
@[simp] theorem upDrc_sec (s : State) (f : Drc → Drc) : (upDrc s f).sec = s.sec := rfl
@[simp] theorem upDrc_hlt (s : State) (f : Drc → Drc) : (upDrc s f).hlt = s.hlt := rfl
@[simp] theorem upDrc_pair (s : State) (f : Drc → Drc) : (upDrc s f).pair = s.pair := rfl
@[simp] theorem upDrc_mesh (s : State) (f : Drc → Drc) : (upDrc s f).mesh = s.mesh := rfl
@[simp] theorem upDrc_hostMem (s : State) (f : Drc → Drc) : (upDrc s f).hostMem = s.hostMem := rfl
@[simp] theorem upDrc_arena (s : State) (f : Drc → Drc) : (upDrc s f).arena = s.arena := rfl
@[simp] theorem upDrc_free (s : State) (f : Drc → Drc) : (upDrc s f).free = s.free := rfl
@[simp] theorem upDrc_pending (s : State) (f : Drc → Drc) : (upDrc s f).pending = s.pending := rfl

/-! ### upKite -/

@[simp] theorem upKite_pwr (s : State) (f : Kite → Kite) : (upKite s f).pwr = s.pwr := rfl
@[simp] theorem upKite_flt (s : State) (f : Kite → Kite) : (upKite s f).flt = s.flt := rfl
@[simp] theorem upKite_glb (s : State) (f : Kite → Kite) : (upKite s f).glb = s.glb := rfl
@[simp] theorem upKite_hst (s : State) (f : Kite → Kite) : (upKite s f).hst = s.hst := rfl
@[simp] theorem upKite_tsk (s : State) (f : Kite → Kite) : (upKite s f).tsk = s.tsk := rfl
@[simp] theorem upKite_med (s : State) (f : Kite → Kite) : (upKite s f).med = s.med := rfl
@[simp] theorem upKite_drc (s : State) (f : Kite → Kite) : (upKite s f).drc = s.drc := rfl
@[simp] theorem upKite_kite (s : State) (f : Kite → Kite) : (upKite s f).kite = f s.kite := rfl
@[simp] theorem upKite_way (s : State) (f : Kite → Kite) : (upKite s f).way = s.way := rfl
@[simp] theorem upKite_cmp (s : State) (f : Kite → Kite) : (upKite s f).cmp = s.cmp := rfl
@[simp] theorem upKite_sec (s : State) (f : Kite → Kite) : (upKite s f).sec = s.sec := rfl
@[simp] theorem upKite_hlt (s : State) (f : Kite → Kite) : (upKite s f).hlt = s.hlt := rfl
@[simp] theorem upKite_pair (s : State) (f : Kite → Kite) : (upKite s f).pair = s.pair := rfl
@[simp] theorem upKite_mesh (s : State) (f : Kite → Kite) : (upKite s f).mesh = s.mesh := rfl
@[simp] theorem upKite_hostMem (s : State) (f : Kite → Kite) : (upKite s f).hostMem = s.hostMem := rfl
@[simp] theorem upKite_arena (s : State) (f : Kite → Kite) : (upKite s f).arena = s.arena := rfl
@[simp] theorem upKite_free (s : State) (f : Kite → Kite) : (upKite s f).free = s.free := rfl
@[simp] theorem upKite_pending (s : State) (f : Kite → Kite) : (upKite s f).pending = s.pending := rfl

/-! ### upWay -/

@[simp] theorem upWay_pwr (s : State) (f : Way → Way) : (upWay s f).pwr = s.pwr := rfl
@[simp] theorem upWay_flt (s : State) (f : Way → Way) : (upWay s f).flt = s.flt := rfl
@[simp] theorem upWay_glb (s : State) (f : Way → Way) : (upWay s f).glb = s.glb := rfl
@[simp] theorem upWay_hst (s : State) (f : Way → Way) : (upWay s f).hst = s.hst := rfl
@[simp] theorem upWay_tsk (s : State) (f : Way → Way) : (upWay s f).tsk = s.tsk := rfl
@[simp] theorem upWay_med (s : State) (f : Way → Way) : (upWay s f).med = s.med := rfl
@[simp] theorem upWay_drc (s : State) (f : Way → Way) : (upWay s f).drc = s.drc := rfl
@[simp] theorem upWay_kite (s : State) (f : Way → Way) : (upWay s f).kite = s.kite := rfl
@[simp] theorem upWay_way (s : State) (f : Way → Way) : (upWay s f).way = f s.way := rfl
@[simp] theorem upWay_cmp (s : State) (f : Way → Way) : (upWay s f).cmp = s.cmp := rfl
@[simp] theorem upWay_sec (s : State) (f : Way → Way) : (upWay s f).sec = s.sec := rfl
@[simp] theorem upWay_hlt (s : State) (f : Way → Way) : (upWay s f).hlt = s.hlt := rfl
@[simp] theorem upWay_pair (s : State) (f : Way → Way) : (upWay s f).pair = s.pair := rfl
@[simp] theorem upWay_mesh (s : State) (f : Way → Way) : (upWay s f).mesh = s.mesh := rfl
@[simp] theorem upWay_hostMem (s : State) (f : Way → Way) : (upWay s f).hostMem = s.hostMem := rfl
@[simp] theorem upWay_arena (s : State) (f : Way → Way) : (upWay s f).arena = s.arena := rfl
@[simp] theorem upWay_free (s : State) (f : Way → Way) : (upWay s f).free = s.free := rfl
@[simp] theorem upWay_pending (s : State) (f : Way → Way) : (upWay s f).pending = s.pending := rfl

/-! ### upCmp -/

@[simp] theorem upCmp_pwr (s : State) (f : Cmp → Cmp) : (upCmp s f).pwr = s.pwr := rfl
@[simp] theorem upCmp_flt (s : State) (f : Cmp → Cmp) : (upCmp s f).flt = s.flt := rfl
@[simp] theorem upCmp_glb (s : State) (f : Cmp → Cmp) : (upCmp s f).glb = s.glb := rfl
@[simp] theorem upCmp_hst (s : State) (f : Cmp → Cmp) : (upCmp s f).hst = s.hst := rfl
@[simp] theorem upCmp_tsk (s : State) (f : Cmp → Cmp) : (upCmp s f).tsk = s.tsk := rfl
@[simp] theorem upCmp_med (s : State) (f : Cmp → Cmp) : (upCmp s f).med = s.med := rfl
@[simp] theorem upCmp_drc (s : State) (f : Cmp → Cmp) : (upCmp s f).drc = s.drc := rfl
@[simp] theorem upCmp_kite (s : State) (f : Cmp → Cmp) : (upCmp s f).kite = s.kite := rfl
@[simp] theorem upCmp_way (s : State) (f : Cmp → Cmp) : (upCmp s f).way = s.way := rfl
@[simp] theorem upCmp_cmp (s : State) (f : Cmp → Cmp) : (upCmp s f).cmp = f s.cmp := rfl
@[simp] theorem upCmp_sec (s : State) (f : Cmp → Cmp) : (upCmp s f).sec = s.sec := rfl
@[simp] theorem upCmp_hlt (s : State) (f : Cmp → Cmp) : (upCmp s f).hlt = s.hlt := rfl
@[simp] theorem upCmp_pair (s : State) (f : Cmp → Cmp) : (upCmp s f).pair = s.pair := rfl
@[simp] theorem upCmp_mesh (s : State) (f : Cmp → Cmp) : (upCmp s f).mesh = s.mesh := rfl
@[simp] theorem upCmp_hostMem (s : State) (f : Cmp → Cmp) : (upCmp s f).hostMem = s.hostMem := rfl
@[simp] theorem upCmp_arena (s : State) (f : Cmp → Cmp) : (upCmp s f).arena = s.arena := rfl
@[simp] theorem upCmp_free (s : State) (f : Cmp → Cmp) : (upCmp s f).free = s.free := rfl
@[simp] theorem upCmp_pending (s : State) (f : Cmp → Cmp) : (upCmp s f).pending = s.pending := rfl

/-! ### upSec -/

@[simp] theorem upSec_pwr (s : State) (f : Sec → Sec) : (upSec s f).pwr = s.pwr := rfl
@[simp] theorem upSec_flt (s : State) (f : Sec → Sec) : (upSec s f).flt = s.flt := rfl
@[simp] theorem upSec_glb (s : State) (f : Sec → Sec) : (upSec s f).glb = s.glb := rfl
@[simp] theorem upSec_hst (s : State) (f : Sec → Sec) : (upSec s f).hst = s.hst := rfl
@[simp] theorem upSec_tsk (s : State) (f : Sec → Sec) : (upSec s f).tsk = s.tsk := rfl
@[simp] theorem upSec_med (s : State) (f : Sec → Sec) : (upSec s f).med = s.med := rfl
@[simp] theorem upSec_drc (s : State) (f : Sec → Sec) : (upSec s f).drc = s.drc := rfl
@[simp] theorem upSec_kite (s : State) (f : Sec → Sec) : (upSec s f).kite = s.kite := rfl
@[simp] theorem upSec_way (s : State) (f : Sec → Sec) : (upSec s f).way = s.way := rfl
@[simp] theorem upSec_cmp (s : State) (f : Sec → Sec) : (upSec s f).cmp = s.cmp := rfl
@[simp] theorem upSec_sec (s : State) (f : Sec → Sec) : (upSec s f).sec = f s.sec := rfl
@[simp] theorem upSec_hlt (s : State) (f : Sec → Sec) : (upSec s f).hlt = s.hlt := rfl
@[simp] theorem upSec_pair (s : State) (f : Sec → Sec) : (upSec s f).pair = s.pair := rfl
@[simp] theorem upSec_mesh (s : State) (f : Sec → Sec) : (upSec s f).mesh = s.mesh := rfl
@[simp] theorem upSec_hostMem (s : State) (f : Sec → Sec) : (upSec s f).hostMem = s.hostMem := rfl
@[simp] theorem upSec_arena (s : State) (f : Sec → Sec) : (upSec s f).arena = s.arena := rfl
@[simp] theorem upSec_free (s : State) (f : Sec → Sec) : (upSec s f).free = s.free := rfl
@[simp] theorem upSec_pending (s : State) (f : Sec → Sec) : (upSec s f).pending = s.pending := rfl

/-! ### upHlt -/

@[simp] theorem upHlt_pwr (s : State) (f : Hlt → Hlt) : (upHlt s f).pwr = s.pwr := rfl
@[simp] theorem upHlt_flt (s : State) (f : Hlt → Hlt) : (upHlt s f).flt = s.flt := rfl
@[simp] theorem upHlt_glb (s : State) (f : Hlt → Hlt) : (upHlt s f).glb = s.glb := rfl
@[simp] theorem upHlt_hst (s : State) (f : Hlt → Hlt) : (upHlt s f).hst = s.hst := rfl
@[simp] theorem upHlt_tsk (s : State) (f : Hlt → Hlt) : (upHlt s f).tsk = s.tsk := rfl
@[simp] theorem upHlt_med (s : State) (f : Hlt → Hlt) : (upHlt s f).med = s.med := rfl
@[simp] theorem upHlt_drc (s : State) (f : Hlt → Hlt) : (upHlt s f).drc = s.drc := rfl
@[simp] theorem upHlt_kite (s : State) (f : Hlt → Hlt) : (upHlt s f).kite = s.kite := rfl
@[simp] theorem upHlt_way (s : State) (f : Hlt → Hlt) : (upHlt s f).way = s.way := rfl
@[simp] theorem upHlt_cmp (s : State) (f : Hlt → Hlt) : (upHlt s f).cmp = s.cmp := rfl
@[simp] theorem upHlt_sec (s : State) (f : Hlt → Hlt) : (upHlt s f).sec = s.sec := rfl
@[simp] theorem upHlt_hlt (s : State) (f : Hlt → Hlt) : (upHlt s f).hlt = f s.hlt := rfl
@[simp] theorem upHlt_pair (s : State) (f : Hlt → Hlt) : (upHlt s f).pair = s.pair := rfl
@[simp] theorem upHlt_mesh (s : State) (f : Hlt → Hlt) : (upHlt s f).mesh = s.mesh := rfl
@[simp] theorem upHlt_hostMem (s : State) (f : Hlt → Hlt) : (upHlt s f).hostMem = s.hostMem := rfl
@[simp] theorem upHlt_arena (s : State) (f : Hlt → Hlt) : (upHlt s f).arena = s.arena := rfl
@[simp] theorem upHlt_free (s : State) (f : Hlt → Hlt) : (upHlt s f).free = s.free := rfl
@[simp] theorem upHlt_pending (s : State) (f : Hlt → Hlt) : (upHlt s f).pending = s.pending := rfl

/-! ### upPair -/

@[simp] theorem upPair_pwr (s : State) (f : Pair → Pair) : (upPair s f).pwr = s.pwr := rfl
@[simp] theorem upPair_flt (s : State) (f : Pair → Pair) : (upPair s f).flt = s.flt := rfl
@[simp] theorem upPair_glb (s : State) (f : Pair → Pair) : (upPair s f).glb = s.glb := rfl
@[simp] theorem upPair_hst (s : State) (f : Pair → Pair) : (upPair s f).hst = s.hst := rfl
@[simp] theorem upPair_tsk (s : State) (f : Pair → Pair) : (upPair s f).tsk = s.tsk := rfl
@[simp] theorem upPair_med (s : State) (f : Pair → Pair) : (upPair s f).med = s.med := rfl
@[simp] theorem upPair_drc (s : State) (f : Pair → Pair) : (upPair s f).drc = s.drc := rfl
@[simp] theorem upPair_kite (s : State) (f : Pair → Pair) : (upPair s f).kite = s.kite := rfl
@[simp] theorem upPair_way (s : State) (f : Pair → Pair) : (upPair s f).way = s.way := rfl
@[simp] theorem upPair_cmp (s : State) (f : Pair → Pair) : (upPair s f).cmp = s.cmp := rfl
@[simp] theorem upPair_sec (s : State) (f : Pair → Pair) : (upPair s f).sec = s.sec := rfl
@[simp] theorem upPair_hlt (s : State) (f : Pair → Pair) : (upPair s f).hlt = s.hlt := rfl
@[simp] theorem upPair_pair (s : State) (f : Pair → Pair) : (upPair s f).pair = f s.pair := rfl
@[simp] theorem upPair_mesh (s : State) (f : Pair → Pair) : (upPair s f).mesh = s.mesh := rfl
@[simp] theorem upPair_hostMem (s : State) (f : Pair → Pair) : (upPair s f).hostMem = s.hostMem := rfl
@[simp] theorem upPair_arena (s : State) (f : Pair → Pair) : (upPair s f).arena = s.arena := rfl
@[simp] theorem upPair_free (s : State) (f : Pair → Pair) : (upPair s f).free = s.free := rfl
@[simp] theorem upPair_pending (s : State) (f : Pair → Pair) : (upPair s f).pending = s.pending := rfl

/-! ### upMesh -/

@[simp] theorem upMesh_pwr (s : State) (f : Mesh → Mesh) : (upMesh s f).pwr = s.pwr := rfl
@[simp] theorem upMesh_flt (s : State) (f : Mesh → Mesh) : (upMesh s f).flt = s.flt := rfl
@[simp] theorem upMesh_glb (s : State) (f : Mesh → Mesh) : (upMesh s f).glb = s.glb := rfl
@[simp] theorem upMesh_hst (s : State) (f : Mesh → Mesh) : (upMesh s f).hst = s.hst := rfl
@[simp] theorem upMesh_tsk (s : State) (f : Mesh → Mesh) : (upMesh s f).tsk = s.tsk := rfl
@[simp] theorem upMesh_med (s : State) (f : Mesh → Mesh) : (upMesh s f).med = s.med := rfl
@[simp] theorem upMesh_drc (s : State) (f : Mesh → Mesh) : (upMesh s f).drc = s.drc := rfl
@[simp] theorem upMesh_kite (s : State) (f : Mesh → Mesh) : (upMesh s f).kite = s.kite := rfl
@[simp] theorem upMesh_way (s : State) (f : Mesh → Mesh) : (upMesh s f).way = s.way := rfl
@[simp] theorem upMesh_cmp (s : State) (f : Mesh → Mesh) : (upMesh s f).cmp = s.cmp := rfl
@[simp] theorem upMesh_sec (s : State) (f : Mesh → Mesh) : (upMesh s f).sec = s.sec := rfl
@[simp] theorem upMesh_hlt (s : State) (f : Mesh → Mesh) : (upMesh s f).hlt = s.hlt := rfl
@[simp] theorem upMesh_pair (s : State) (f : Mesh → Mesh) : (upMesh s f).pair = s.pair := rfl
@[simp] theorem upMesh_mesh (s : State) (f : Mesh → Mesh) : (upMesh s f).mesh = f s.mesh := rfl
@[simp] theorem upMesh_hostMem (s : State) (f : Mesh → Mesh) : (upMesh s f).hostMem = s.hostMem := rfl
@[simp] theorem upMesh_arena (s : State) (f : Mesh → Mesh) : (upMesh s f).arena = s.arena := rfl
@[simp] theorem upMesh_free (s : State) (f : Mesh → Mesh) : (upMesh s f).free = s.free := rfl
@[simp] theorem upMesh_pending (s : State) (f : Mesh → Mesh) : (upMesh s f).pending = s.pending := rfl

end Sys2Proof.Machine
end

