-- ==== Sys2Proof/Laws/Ops.lean ====
section
/-! SUPPORT. What the shared operations do: sparse maps, byte fields, memories and their canonical form, and the frames of the
operations on faults, events and commands. -/

namespace Sys2Proof.Machine

open Sys2Proof

/-! ### Frames -/

theorem ChangesOnly.refl (ps : List Part) (s : State) : ChangesOnly ps s s :=
  ⟨rfl, fun p _ => by cases p <;> rfl⟩

theorem ChangesOnly.trans {ps : List Part} {s t u : State} (h : ChangesOnly ps s t) (k : ChangesOnly ps t u) : ChangesOnly ps s u :=
  ⟨k.1.trans h.1, fun p hp => by
    have a := h.2 p hp
    have b := k.2 p hp
    cases p <;> simp only [Part.kept] at * <;> exact b.trans a⟩

theorem ChangesOnly.mono {ps qs : List Part} {s t : State} (h : ChangesOnly ps s t) (k : ∀ p, p ∈ ps → p ∈ qs) : ChangesOnly qs s t :=
  ⟨h.1, fun p hp => h.2 p (fun x => hp (k p x))⟩

/-! ### Sparse maps -/

theorem mget_mset_same {α : Type} (m : SMap α) (k : Nat) (v : α) : mget (mset m k v) k = some v := by
  induction m with
  | nil => simp [mset, mget]
  | cons x rest ih =>
    obtain ⟨j, w⟩ := x
    unfold mset
    by_cases h : k < j
    · simp [h, mget]
    · by_cases e : k = j
      · simp [e, mget]
      · simp [h, e, mget, ih, Ne.symm e]

theorem mget_mset_other {α : Type} (m : SMap α) (k j : Nat) (v : α) (h : j ≠ k) : mget (mset m k v) j = mget m j := by
  induction m with
  | nil => simp [mset, mget, Ne.symm h]
  | cons x rest ih =>
    obtain ⟨i, w⟩ := x
    unfold mset
    by_cases l : k < i
    · simp [l, mget, Ne.symm h]
    · by_cases e : k = i
      · subst e; simp [mget, Ne.symm h]
      · simp [l, e, mget, ih]

theorem mget_mdel_same {α : Type} (m : SMap α) (k : Nat) : mget (mdel m k) k = none := by
  induction m with
  | nil => rfl
  | cons x rest ih =>
    obtain ⟨i, w⟩ := x
    by_cases h : i = k
    · simpa [mdel, h] using ih
    · have : mdel ((i, w) :: rest) k = (i, w) :: mdel rest k := by simp [mdel, h]
      rw [this]
      simp [mget, h, ih]

theorem mget_mdel_other {α : Type} (m : SMap α) (k j : Nat) (h : j ≠ k) : mget (mdel m k) j = mget m j := by
  induction m with
  | nil => rfl
  | cons x rest ih =>
    obtain ⟨i, w⟩ := x
    by_cases e : i = k
    · have : mdel ((i, w) :: rest) k = mdel rest k := by simp [mdel, e]
      rw [this, ih]
      subst e
      simp [mget, Ne.symm h]
    · have : mdel ((i, w) :: rest) k = (i, w) :: mdel rest k := by simp [mdel, e]
      rw [this]
      simp [mget, ih]

/-! ### Commands holding tags -/

theorem modOp_frame (s : State) (tag : Nat) (f : Op → Op) : ChangesOnly [.tsk] s (modOp s tag f) :=
  ⟨rfl, fun p hp => by cases p <;> first | rfl | simp at hp⟩

theorem finish_frame (s : State) (tag : Nat) (r : Reply) : ChangesOnly [.tsk] s (finish s tag r) := modOp_frame s tag _

theorem findOp_modOp (s : State) (tag : Nat) (f : Op → Op) (o : Op) (h : findOp s tag = some o) (k : ∀ x, (f x).tag = x.tag) :
    findOp (modOp s tag f) tag = some (f o) := by
  have key : ∀ l : List Op, l.find? (fun x => x.tag == tag) = some o →
      (l.map (fun x => if x.tag = tag then f x else x)).find? (fun x => x.tag == tag) = some (f o) := by
    intro l
    induction l with
    | nil => intro h; simp at h
    | cons x xs ih =>
      intro h
      by_cases e : x.tag = tag
      · simp [e] at h
        subst h
        simp [k, e]
      · simp [e] at h
        simp only [List.map_cons, e, if_false]
        rw [List.find?_cons_of_neg (by simpa using e)]
        exact ih h
  exact key s.tsk.ops h

theorem findOp_finish (s : State) (tag : Nat) (r : Reply) (o : Op) (h : findOp s tag = some o) :
    findOp (finish s tag r) tag = some { o with stage := .finished, reply := some r, waitStaging := false } :=
  findOp_modOp s tag _ o h (fun _ => rfl)

/-! ### Faults and events -/

theorem addHistory_frame (s : State) (a b c d e : Nat) : ChangesOnly [.flt] s (addHistory s a b c d e) :=
  ⟨rfl, fun p hp => by cases p <;> first | rfl | simp at hp⟩

theorem raiseOne_frame (s : State) (src : Nat) (level : Option Nat) (asks : Bool) (peer : Option Nat) :
    ChangesOnly [.flt] s (raiseOne s src level asks peer) := by
  unfold raiseOne
  refine ⟨?_, fun p hp => ?_⟩
  · dsimp only
    split
    · rfl
    · split
      · rfl
      · split
        · rfl
        · split <;> rfl
  · dsimp only
    cases p <;> first | (simp at hp; done) | (split <;> first | rfl | (split <;> first | rfl | (split <;> first | rfl | (split <;> rfl))))

theorem raiseAt_frame (s : State) (src : Nat) (level : Option Nat) (asks : Bool) (peer : Option Nat) :
    ChangesOnly [.flt] s (raiseAt s src level asks peer) := by
  have up : ∀ (t : State) (f : Flt), ChangesOnly [.flt] t { t with flt := f } :=
    fun t f => ⟨rfl, fun p hp => by cases p <;> first | rfl | simp at hp⟩
  unfold raiseAt
  dsimp only
  split
  · have one := raiseOne_frame s src level asks peer
    split
    · split
      · exact ((one.trans (up _ _)).trans (up _ _)).trans (raiseOne_frame _ _ _ _ _)
      · exact (one.trans (up _ _)).trans (up _ _)
    · exact one.trans (up _ _)
  · exact raiseOne_frame s src level asks peer

theorem raise_frame (s : State) (src : Nat) : ChangesOnly [.flt] s (raise s src) := raiseAt_frame s src none false none

theorem postEvent_frame (s : State) (code detail r0 r1 : Nat) : ChangesOnly [.tsk] s (postEvent s code detail r0 r1) := by
  unfold postEvent
  dsimp only
  split <;> exact ⟨rfl, fun p hp => by cases p <;> first | rfl | simp at hp⟩

theorem postTagless_frame (s : State) (ring : Nat) (e : Entry) : ChangesOnly [.tsk] s (postTagless s ring e) := by
  unfold postTagless
  split <;> exact ⟨rfl, fun p hp => by cases p <;> first | rfl | simp at hp⟩

end Sys2Proof.Machine
end

