-- ==== Sys2Proof/Laws/Frames.lean ====
section
/-! SUPPORT. Frames: which parts of the state an operation may change, and the shared operations of every unit. -/

namespace Sys2Proof.Machine
open Sys2Proof

/-! ### Base -/

def OutFrame (ps : List Part) (s : State) (x : Out) : Prop := ∀ t, x = .next t → ChangesOnly ps s t
def OptFrame (ps : List Part) (s : State) (x : Option State) : Prop := ∀ t, x = some t → ChangesOnly ps s t
theorem OutFrame.next {ps s t} (h : ChangesOnly ps s t) : OutFrame ps s (.next t) := by intro u hu; cases hu; exact h
theorem OutFrame.fault {ps s} (r : Fault) : OutFrame ps s (.fault r) := by intro u hu; cases hu
theorem OptFrame.some {ps s t} (h : ChangesOnly ps s t) : OptFrame ps s (some t) := by intro u hu; cases hu; exact h
theorem OptFrame.none {ps s} : OptFrame ps s none := by intro u hu; cases hu
theorem OptFrame.of {ps s x t} (h : OptFrame ps s x) (e : x = Option.some t) : ChangesOnly ps s t := h t e
theorem OptFrame.getD {ps s x u} (h : OptFrame ps s x) (k : ChangesOnly ps s u) : ChangesOnly ps s (x.getD u) := by
  cases x with
  | none => exact k
  | some t => exact h t rfl
theorem ChangesOnly.step {ps qs : List Part} {s t u : State} (e : ChangesOnly qs u t) (k : (qs.all fun p => ps.contains p) = true) (h : ChangesOnly ps s u) : ChangesOnly ps s t :=
  h.trans (e.mono (fun p hp => by have := List.all_eq_true.1 k p hp; simpa using this))
theorem OutFrame.step {ps qs : List Part} {s u : State} {x : Out} (e : OutFrame qs u x) (k : (qs.all fun p => ps.contains p) = true) (h : ChangesOnly ps s u) : OutFrame ps s x :=
  fun t ht => ChangesOnly.step (e t ht) k h
theorem OptFrame.step {ps qs : List Part} {s u : State} {x : Option State} (e : OptFrame qs u x) (k : (qs.all fun p => ps.contains p) = true) (h : ChangesOnly ps s u) : OptFrame ps s x :=
  fun t ht => ChangesOnly.step (e t ht) k h
theorem ChangesOnly.set_pwr {ps s u} {y : _} (k : ps.contains .pwr = true) (h : ChangesOnly ps s u) : ChangesOnly ps s { u with pwr := y } :=
  h.trans ⟨rfl, fun p hp => by cases p <;> first | rfl | (simp at k; exact absurd k hp)⟩
theorem ChangesOnly.set_flt {ps s u} {y : _} (k : ps.contains .flt = true) (h : ChangesOnly ps s u) : ChangesOnly ps s { u with flt := y } :=
  h.trans ⟨rfl, fun p hp => by cases p <;> first | rfl | (simp at k; exact absurd k hp)⟩
theorem ChangesOnly.set_glb {ps s u} {y : _} (k : ps.contains .glb = true) (h : ChangesOnly ps s u) : ChangesOnly ps s { u with glb := y } :=
  h.trans ⟨rfl, fun p hp => by cases p <;> first | rfl | (simp at k; exact absurd k hp)⟩
theorem ChangesOnly.set_hst {ps s u} {y : _} (k : ps.contains .hst = true) (h : ChangesOnly ps s u) : ChangesOnly ps s { u with hst := y } :=
  h.trans ⟨rfl, fun p hp => by cases p <;> first | rfl | (simp at k; exact absurd k hp)⟩
theorem ChangesOnly.set_tsk {ps s u} {y : _} (k : ps.contains .tsk = true) (h : ChangesOnly ps s u) : ChangesOnly ps s { u with tsk := y } :=
  h.trans ⟨rfl, fun p hp => by cases p <;> first | rfl | (simp at k; exact absurd k hp)⟩
theorem ChangesOnly.set_med {ps s u} {y : _} (k : ps.contains .med = true) (h : ChangesOnly ps s u) : ChangesOnly ps s { u with med := y } :=
  h.trans ⟨rfl, fun p hp => by cases p <;> first | rfl | (simp at k; exact absurd k hp)⟩
theorem ChangesOnly.set_drc {ps s u} {y : _} (k : ps.contains .drc = true) (h : ChangesOnly ps s u) : ChangesOnly ps s { u with drc := y } :=
  h.trans ⟨rfl, fun p hp => by cases p <;> first | rfl | (simp at k; exact absurd k hp)⟩
theorem ChangesOnly.set_kite {ps s u} {y : _} (k : ps.contains .kite = true) (h : ChangesOnly ps s u) : ChangesOnly ps s { u with kite := y } :=
  h.trans ⟨rfl, fun p hp => by cases p <;> first | rfl | (simp at k; exact absurd k hp)⟩
theorem ChangesOnly.set_way {ps s u} {y : _} (k : ps.contains .way = true) (h : ChangesOnly ps s u) : ChangesOnly ps s { u with way := y } :=
  h.trans ⟨rfl, fun p hp => by cases p <;> first | rfl | (simp at k; exact absurd k hp)⟩
theorem ChangesOnly.set_cmp {ps s u} {y : _} (k : ps.contains .cmp = true) (h : ChangesOnly ps s u) : ChangesOnly ps s { u with cmp := y } :=
  h.trans ⟨rfl, fun p hp => by cases p <;> first | rfl | (simp at k; exact absurd k hp)⟩
theorem ChangesOnly.set_sec {ps s u} {y : _} (k : ps.contains .sec = true) (h : ChangesOnly ps s u) : ChangesOnly ps s { u with sec := y } :=
  h.trans ⟨rfl, fun p hp => by cases p <;> first | rfl | (simp at k; exact absurd k hp)⟩
theorem ChangesOnly.set_hlt {ps s u} {y : _} (k : ps.contains .hlt = true) (h : ChangesOnly ps s u) : ChangesOnly ps s { u with hlt := y } :=
  h.trans ⟨rfl, fun p hp => by cases p <;> first | rfl | (simp at k; exact absurd k hp)⟩
theorem ChangesOnly.set_pair {ps s u} {y : _} (k : ps.contains .pair = true) (h : ChangesOnly ps s u) : ChangesOnly ps s { u with pair := y } :=
  h.trans ⟨rfl, fun p hp => by cases p <;> first | rfl | (simp at k; exact absurd k hp)⟩
theorem ChangesOnly.set_mesh {ps s u} {y : _} (k : ps.contains .mesh = true) (h : ChangesOnly ps s u) : ChangesOnly ps s { u with mesh := y } :=
  h.trans ⟨rfl, fun p hp => by cases p <;> first | rfl | (simp at k; exact absurd k hp)⟩
theorem ChangesOnly.set_hostMem {ps s u} {y : _} (k : ps.contains .hostMem = true) (h : ChangesOnly ps s u) : ChangesOnly ps s { u with hostMem := y } :=
  h.trans ⟨rfl, fun p hp => by cases p <;> first | rfl | (simp at k; exact absurd k hp)⟩
theorem ChangesOnly.set_arena {ps s u} {y : _} (k : ps.contains .arena = true) (h : ChangesOnly ps s u) : ChangesOnly ps s { u with arena := y } :=
  h.trans ⟨rfl, fun p hp => by cases p <;> first | rfl | (simp at k; exact absurd k hp)⟩
theorem ChangesOnly.set_free {ps s u} {y : _} (k : ps.contains .free = true) (h : ChangesOnly ps s u) : ChangesOnly ps s { u with free := y } :=
  h.trans ⟨rfl, fun p hp => by cases p <;> first | rfl | (simp at k; exact absurd k hp)⟩
theorem ChangesOnly.ite {ps s a b} {c : Prop} [Decidable c] (h : ChangesOnly ps s a) (k : ChangesOnly ps s b) : ChangesOnly ps s (if c then a else b) := by
  split <;> assumption
theorem ChangesOnly.ite2 {α : Type} {ps s} {a b : α × State} {c : Prop} [Decidable c] (h : ChangesOnly ps s a.2) (k : ChangesOnly ps s b.2) : ChangesOnly ps s (if c then a else b).2 := by
  split <;> assumption
theorem ChangesOnly.ite1 {α : Type} {ps s} {a b : State × α} {c : Prop} [Decidable c] (h : ChangesOnly ps s a.1) (k : ChangesOnly ps s b.1) : ChangesOnly ps s (if c then a else b).1 := by
  split <;> assumption
theorem OutFrame.ite {ps s a b} {c : Prop} [Decidable c] (h : OutFrame ps s a) (k : OutFrame ps s b) : OutFrame ps s (if c then a else b) := by
  split <;> assumption
theorem OptFrame.ite {ps s a b} {c : Prop} [Decidable c] (h : OptFrame ps s a) (k : OptFrame ps s b) : OptFrame ps s (if c then a else b) := by
  split <;> assumption
def Opt2Frame {α : Type} (ps : List Part) (s : State) (x : Option (α × State)) : Prop := ∀ a t, x = some (a, t) → ChangesOnly ps s t
theorem Opt2Frame.some {α : Type} {ps s} {x : α × State} (h : ChangesOnly ps s x.2) : Opt2Frame ps s (some x) := by intro a t e; cases e; exact h
theorem Opt2Frame.none {α : Type} {ps s} : Opt2Frame (α := α) ps s none := by intro a t e; cases e
theorem Opt2Frame.of {α : Type} {ps s} {x : Option (α × State)} {a t} (h : Opt2Frame ps s x) (e : x = Option.some (a, t)) : ChangesOnly ps s t := h a t e
theorem Opt2Frame.ite {α : Type} {ps s} {a b : Option (α × State)} {c : Prop} [Decidable c] (h : Opt2Frame ps s a) (k : Opt2Frame ps s b) : Opt2Frame ps s (if c then a else b) := by split <;> assumption
theorem Opt2Frame.step {α : Type} {ps qs : List Part} {s u : State} {x : Option (α × State)} (e : Opt2Frame qs u x) (k : (qs.all fun p => ps.contains p) = true) (h : ChangesOnly ps s u) : Opt2Frame ps s x :=
  fun a t ht => ChangesOnly.step (e a t ht) k h
def PFrame (ps : List Part) (s : State) (x : PortRes) : Prop := match x with
  | .done _ t => ChangesOnly ps s t
  | .stall t => ChangesOnly ps s t
  | .fault _ => True
theorem PFrame.done {ps s t v} (h : ChangesOnly ps s t) : PFrame ps s (.done v t) := h
theorem PFrame.stall {ps s t} (h : ChangesOnly ps s t) : PFrame ps s (.stall t) := h
theorem PFrame.fault {ps s} (c : Nat) : PFrame ps s (.fault c) := trivial
theorem PFrame.ofDone {ps s x v t} (h : PFrame ps s x) (e : x = .done v t) : ChangesOnly ps s t := by subst e; exact h
theorem PFrame.ofStall {ps s x t} (h : PFrame ps s x) (e : x = .stall t) : ChangesOnly ps s t := by subst e; exact h
theorem PFrame.ite {ps s} {a b : PortRes} {c : Prop} [Decidable c] (h : PFrame ps s a) (k : PFrame ps s b) : PFrame ps s (if c then a else b) := by split <;> assumption
theorem PFrame.step {ps qs : List Part} {s u : State} {x : PortRes} (e : PFrame qs u x) (k : (qs.all fun p => ps.contains p) = true) (h : ChangesOnly ps s u) : PFrame ps s x := by
  cases x <;> first | exact ChangesOnly.step e k h | trivial
def KFrame (ps : List Part) (s : State) (x : KRes) : Prop := match x with
  | .ends e => ChangesOnly ps s e.s
  | .stalls t => ChangesOnly ps s t
  | .faults t _ _ => ChangesOnly ps s t
theorem KFrame.ends {ps s e} (h : ChangesOnly ps s e.s) : KFrame ps s (.ends e) := h
theorem KFrame.stalls {ps s t} (h : ChangesOnly ps s t) : KFrame ps s (.stalls t) := h
theorem KFrame.faults {ps s t c p} (h : ChangesOnly ps s t) : KFrame ps s (.faults t c p) := h
theorem KFrame.ite {ps s} {a b : KRes} {c : Prop} [Decidable c] (h : KFrame ps s a) (k : KFrame ps s b) : KFrame ps s (if c then a else b) := by split <;> assumption
theorem KFrame.step {ps qs : List Part} {s u : State} {x : KRes} (e : KFrame qs u x) (k : (qs.all fun p => ps.contains p) = true) (h : ChangesOnly ps s u) : KFrame ps s x := by
  cases x <;> exact ChangesOnly.step e k h
def EFrame (ps : List Part) (s : State) (x : ElemRes) : Prop := match x with
  | .done t _ => ChangesOnly ps s t
  | .stopped _ _ => True
  | .stall t => ChangesOnly ps s t
  | .fault t _ => ChangesOnly ps s t
theorem EFrame.done {ps s t r} (h : ChangesOnly ps s t) : EFrame ps s (.done t r) := h
theorem EFrame.stall {ps s t} (h : ChangesOnly ps s t) : EFrame ps s (.stall t) := h
theorem EFrame.fault {ps s t c} (h : ChangesOnly ps s t) : EFrame ps s (.fault t c) := h
theorem EFrame.stopped {ps s} (x y : Word) : EFrame ps s (.stopped x y) := trivial
theorem EFrame.ofDone {ps s x t r} (h : EFrame ps s x) (e : x = .done t r) : ChangesOnly ps s t := by subst e; exact h
theorem EFrame.ofStall {ps s x t} (h : EFrame ps s x) (e : x = .stall t) : ChangesOnly ps s t := by subst e; exact h
theorem EFrame.ofFault {ps s x t c} (h : EFrame ps s x) (e : x = .fault t c) : ChangesOnly ps s t := by subst e; exact h
theorem EFrame.ite {ps s} {a b : ElemRes} {c : Prop} [Decidable c] (h : EFrame ps s a) (k : EFrame ps s b) : EFrame ps s (if c then a else b) := by split <;> assumption
theorem EFrame.step {ps qs : List Part} {s u : State} {x : ElemRes} (e : EFrame qs u x) (k : (qs.all fun p => ps.contains p) = true) (h : ChangesOnly ps s u) : EFrame ps s x := by
  cases x <;> first | exact ChangesOnly.step e k h | trivial
theorem ChangesOnly.of2 {α : Type} {qs u t} {x : α × State} {a : α} (h : ChangesOnly qs u x.2) (e : x = (a, t)) : ChangesOnly qs u t := by subst e; exact h
theorem ChangesOnly.of1 {α : Type} {qs u t} {x : State × α} {a : α} (h : ChangesOnly qs u x.1) (e : x = (t, a)) : ChangesOnly qs u t := by subst e; exact h
theorem ChangesOnly.foldl2 {α β : Type} {ps : List Part} {s : State} {u : β × State} {f : β × State → α → β × State} {l : List α} (k : ∀ a x, ChangesOnly ps a.2 (f a x).2) (h : ChangesOnly ps s u.2) :
    ChangesOnly ps s (l.foldl f u).2 := by
  induction l generalizing u with
  | nil => exact h
  | cons x xs ih => exact ih (h.trans (k u x))
theorem ChangesOnly.foldl1 {α β : Type} {ps : List Part} {s : State} {u : State × β} {f : State × β → α → State × β} {l : List α} (k : ∀ a x, ChangesOnly ps a.1 (f a x).1) (h : ChangesOnly ps s u.1) :
    ChangesOnly ps s (l.foldl f u).1 := by
  induction l generalizing u with
  | nil => exact h
  | cons x xs ih => exact ih (h.trans (k u x))
theorem ChangesOnly.foldl {α : Type} {ps : List Part} {s u : State} {f : State → α → State} {l : List α} (k : ∀ a x, ChangesOnly ps a (f a x)) (h : ChangesOnly ps s u) :
    ChangesOnly ps s (l.foldl f u) := by
  induction l generalizing u with
  | nil => exact h
  | cons x xs ih => exact ih (h.trans (k u x))

/-! ### Ops -/

theorem upPwr_fr (s : State) (f : Machine.Pwr → Machine.Pwr) : ChangesOnly [.pwr] s (upPwr s f) := by
  unfold upPwr
  try dsimp only
  refine ChangesOnly.set_pwr (by decide) ?_
  exact ChangesOnly.refl _ _

theorem upFlt_fr (s : State) (f : Machine.Flt → Machine.Flt) : ChangesOnly [.flt] s (upFlt s f) := by
  unfold upFlt
  try dsimp only
  refine ChangesOnly.set_flt (by decide) ?_
  exact ChangesOnly.refl _ _

theorem upGlb_fr (s : State) (f : Machine.Glb → Machine.Glb) : ChangesOnly [.glb] s (upGlb s f) := by
  unfold upGlb
  try dsimp only
  refine ChangesOnly.set_glb (by decide) ?_
  exact ChangesOnly.refl _ _

theorem upHst_fr (s : State) (f : Machine.Hst → Machine.Hst) : ChangesOnly [.hst] s (upHst s f) := by
  unfold upHst
  try dsimp only
  refine ChangesOnly.set_hst (by decide) ?_
  exact ChangesOnly.refl _ _

theorem upTsk_fr (s : State) (f : Machine.Tsk → Machine.Tsk) : ChangesOnly [.tsk] s (upTsk s f) := by
  unfold upTsk
  try dsimp only
  refine ChangesOnly.set_tsk (by decide) ?_
  exact ChangesOnly.refl _ _

theorem upMed_fr (s : State) (f : Machine.Med → Machine.Med) : ChangesOnly [.med] s (upMed s f) := by
  unfold upMed
  try dsimp only
  refine ChangesOnly.set_med (by decide) ?_
  exact ChangesOnly.refl _ _

theorem upDrc_fr (s : State) (f : Machine.Drc → Machine.Drc) : ChangesOnly [.drc] s (upDrc s f) := by
  unfold upDrc
  try dsimp only
  refine ChangesOnly.set_drc (by decide) ?_
  exact ChangesOnly.refl _ _

theorem upKite_fr (s : State) (f : Machine.Kite → Machine.Kite) : ChangesOnly [.kite] s (upKite s f) := by
  unfold upKite
  try dsimp only
  refine ChangesOnly.set_kite (by decide) ?_
  exact ChangesOnly.refl _ _

theorem upWay_fr (s : State) (f : Machine.Way → Machine.Way) : ChangesOnly [.way] s (upWay s f) := by
  unfold upWay
  try dsimp only
  refine ChangesOnly.set_way (by decide) ?_
  exact ChangesOnly.refl _ _

theorem upCmp_fr (s : State) (f : Machine.Cmp → Machine.Cmp) : ChangesOnly [.cmp] s (upCmp s f) := by
  unfold upCmp
  try dsimp only
  refine ChangesOnly.set_cmp (by decide) ?_
  exact ChangesOnly.refl _ _

theorem upSec_fr (s : State) (f : Machine.Sec → Machine.Sec) : ChangesOnly [.sec] s (upSec s f) := by
  unfold upSec
  try dsimp only
  refine ChangesOnly.set_sec (by decide) ?_
  exact ChangesOnly.refl _ _

theorem upHlt_fr (s : State) (f : Machine.Hlt → Machine.Hlt) : ChangesOnly [.hlt] s (upHlt s f) := by
  unfold upHlt
  try dsimp only
  refine ChangesOnly.set_hlt (by decide) ?_
  exact ChangesOnly.refl _ _

theorem upPair_fr (s : State) (f : Machine.Pair → Machine.Pair) : ChangesOnly [.pair] s (upPair s f) := by
  unfold upPair
  try dsimp only
  refine ChangesOnly.set_pair (by decide) ?_
  exact ChangesOnly.refl _ _

theorem upMesh_fr (s : State) (f : Machine.Mesh → Machine.Mesh) : ChangesOnly [.mesh] s (upMesh s f) := by
  unfold upMesh
  try dsimp only
  refine ChangesOnly.set_mesh (by decide) ?_
  exact ChangesOnly.refl _ _

theorem freeBytes_fr (s : State) (n : Nat) : ChangesOnly [.free] s (freeBytes s n).2 := by
  unfold freeBytes
  try dsimp only
  refine ChangesOnly.set_free (by decide) ?_
  exact ChangesOnly.refl _ _

theorem freeBlock_fr (s : State) : ChangesOnly [.free] s (freeBlock s).2 := by
  unfold freeBlock
  try dsimp only
  refine ChangesOnly.step (freeBytes_fr _ _) (by decide) ?_
  exact ChangesOnly.refl _ _

theorem freeBelow_fr (s : State) (n : Nat) : ChangesOnly [.free] s (freeBelow s n).2 := by
  unfold freeBelow
  try dsimp only
  refine ChangesOnly.set_free (by decide) ?_
  exact ChangesOnly.refl _ _

theorem freshKey_fr (s : State) : ChangesOnly [.sec] s (freshKey s).2 := by
  unfold freshKey
  try dsimp only
  refine ChangesOnly.set_sec (by decide) ?_
  exact ChangesOnly.refl _ _

theorem addHistory_fr (s : State) (src : Nat) (cls : Nat) (level : Nat) (configured : Nat) (flags : Nat) : ChangesOnly [.flt] s (addHistory s src cls level configured flags) := by
  unfold addHistory
  try dsimp only
  refine ChangesOnly.set_flt (by decide) ?_
  exact ChangesOnly.refl _ _

theorem setLast_fr (s : State) (src : Nat) (cls : Nat) (level : Nat) (sh : Bool) : ChangesOnly [.flt] s (setLast s src cls level sh) := by
  unfold setLast
  try dsimp only
  refine ChangesOnly.set_flt (by decide) ?_
  exact ChangesOnly.refl _ _

theorem shadowFault_fr (s : State) (src : Nat) (level : Nat) : ChangesOnly [.flt] s (shadowFault s src level) := by
  unfold shadowFault
  try dsimp only
  refine ChangesOnly.step (setLast_fr _ _ _ _ _) (by decide) ?_
  refine ChangesOnly.set_flt (by decide) ?_
  refine ChangesOnly.step (addHistory_fr _ _ _ _ _ _) (by decide) ?_
  exact ChangesOnly.refl _ _

theorem countFault_fr (s : State) (src : Nat) : ChangesOnly [.flt] s (countFault s src) := by
  unfold countFault
  try dsimp only
  refine ChangesOnly.set_flt (by decide) ?_
  exact ChangesOnly.refl _ _

theorem raiseOne_fr (s : State) (src : Nat) (level : Option Nat) (asks : Bool) (peer : Option Nat) : ChangesOnly [.flt] s (raiseOne s src level asks peer) := by
  unfold raiseOne
  try dsimp only
  refine ChangesOnly.ite ?_ ?_
  · refine ChangesOnly.step (setLast_fr _ _ _ _ _) (by decide) ?_
    refine ChangesOnly.step (addHistory_fr _ _ _ _ _ _) (by decide) ?_
    refine ChangesOnly.step (countFault_fr _ _) (by decide) ?_
    exact ChangesOnly.refl _ _
  · refine ChangesOnly.ite ?_ ?_
    · refine ChangesOnly.step (shadowFault_fr _ _ _) (by decide) ?_
      refine ChangesOnly.step (countFault_fr _ _) (by decide) ?_
      exact ChangesOnly.refl _ _
    · refine ChangesOnly.ite ?_ ?_
      · refine ChangesOnly.set_flt (by decide) ?_
        refine ChangesOnly.step (countFault_fr _ _) (by decide) ?_
        exact ChangesOnly.refl _ _
      · refine ChangesOnly.ite ?_ ?_
        · refine ChangesOnly.set_flt (by decide) ?_
          refine ChangesOnly.step (countFault_fr _ _) (by decide) ?_
          exact ChangesOnly.refl _ _
        · refine ChangesOnly.set_flt (by decide) ?_
          refine ChangesOnly.step (countFault_fr _ _) (by decide) ?_
          exact ChangesOnly.refl _ _

theorem raiseAt_fr (s : State) (src : Nat) (level : Option Nat) (asks : Bool) (peer : Option Nat) : ChangesOnly [.flt] s (raiseAt s src level asks peer) := by
  unfold raiseAt
  try dsimp only
  refine ChangesOnly.ite ?_ ?_
  · refine ChangesOnly.ite ?_ ?_
    · refine ChangesOnly.ite ?_ ?_
      · refine ChangesOnly.step (raiseOne_fr _ _ _ _ _) (by decide) ?_
        refine ChangesOnly.set_flt (by decide) ?_
        refine ChangesOnly.step (raiseOne_fr _ _ _ _ _) (by decide) ?_
        exact ChangesOnly.refl _ _
      · refine ChangesOnly.set_flt (by decide) ?_
        refine ChangesOnly.step (raiseOne_fr _ _ _ _ _) (by decide) ?_
        exact ChangesOnly.refl _ _
    · refine ChangesOnly.set_flt (by decide) ?_
      refine ChangesOnly.step (raiseOne_fr _ _ _ _ _) (by decide) ?_
      exact ChangesOnly.refl _ _
  · refine ChangesOnly.step (raiseOne_fr _ _ _ _ _) (by decide) ?_
    exact ChangesOnly.refl _ _

theorem raise_fr (s : State) (src : Nat) : ChangesOnly [.flt] s (raise s src) := by
  unfold raise
  try dsimp only
  refine ChangesOnly.step (raiseAt_fr _ _ _ _ _) (by decide) ?_
  exact ChangesOnly.refl _ _

theorem postEvent_fr (s : State) (code : Nat) (detail : Nat) (r0 : Nat) (r1 : Nat) : ChangesOnly [.tsk] s (postEvent s code detail r0 r1) := by
  unfold postEvent
  try dsimp only
  refine ChangesOnly.ite ?_ ?_
  · refine ChangesOnly.set_tsk (by decide) ?_
    exact ChangesOnly.refl _ _
  · refine ChangesOnly.set_tsk (by decide) ?_
    exact ChangesOnly.refl _ _

theorem postTagless_fr (s : State) (ring : Nat) (e : Machine.Entry) : ChangesOnly [.tsk] s (postTagless s ring e) := by
  unfold postTagless
  try dsimp only
  refine ChangesOnly.ite ?_ ?_
  · refine ChangesOnly.set_tsk (by decide) ?_
    exact ChangesOnly.refl _ _
  · refine ChangesOnly.set_tsk (by decide) ?_
    exact ChangesOnly.refl _ _

theorem modOp_fr (s : State) (tag : Nat) (f : Machine.Op → Machine.Op) : ChangesOnly [.tsk] s (modOp s tag f) := by
  unfold modOp
  try dsimp only
  refine ChangesOnly.set_tsk (by decide) ?_
  exact ChangesOnly.refl _ _

theorem finish_fr (s : State) (tag : Nat) (r : Machine.Reply) : ChangesOnly [.tsk] s (finish s tag r) := by
  unfold finish
  try dsimp only
  refine ChangesOnly.step (modOp_fr _ _ _) (by decide) ?_
  exact ChangesOnly.refl _ _

theorem running_fr (s : State) (tag : Nat) : ChangesOnly [.tsk] s (running s tag) := by
  unfold running
  try dsimp only
  refine ChangesOnly.step (modOp_fr _ _ _) (by decide) ?_
  exact ChangesOnly.refl _ _

theorem takeTag_fr (s : State) : ChangesOnly [.tsk] s (takeTag s) := by
  unfold takeTag
  try dsimp only
  split
  · refine ChangesOnly.set_tsk (by decide) ?_
    exact ChangesOnly.refl _ _
  · refine ChangesOnly.set_tsk (by decide) ?_
    exact ChangesOnly.refl _ _

theorem dropOp_fr (s : State) (tag : Nat) : ChangesOnly [.tsk] s (dropOp s tag) := by
  unfold dropOp
  try dsimp only
  refine ChangesOnly.set_tsk (by decide) ?_
  exact ChangesOnly.refl _ _

theorem releaseLock_fr (s : State) (tag : Nat) : ChangesOnly [.tsk] s (releaseLock s tag) := by
  unfold releaseLock
  try dsimp only
  refine ChangesOnly.step (modOp_fr _ _ _) (by decide) ?_
  refine ChangesOnly.set_tsk (by decide) ?_
  exact ChangesOnly.refl _ _

theorem msixSend_fr (s : State) (v : Nat) : ChangesOnly [.hst] s (msixSend s v) := by
  unfold msixSend
  try dsimp only
  refine ChangesOnly.ite ?_ ?_
  · refine ChangesOnly.set_hst (by decide) ?_
    exact ChangesOnly.refl _ _
  · refine ChangesOnly.set_hst (by decide) ?_
    exact ChangesOnly.refl _ _

theorem msixFlush_fr (s : State) : ChangesOnly [.hst] s (msixFlush s) := by
  unfold msixFlush
  try dsimp only
  refine ChangesOnly.foldl (fun _ _ => ?_) ?_
  · refine ChangesOnly.step (msixSend_fr _ _) (by decide) ?_
    refine ChangesOnly.set_hst (by decide) ?_
    exact ChangesOnly.refl _ _
  · exact ChangesOnly.refl _ _

theorem issue_fr (s : State) (x : Machine.HostOp) : ChangesOnly [.hst] s (issue s x) := by
  unfold issue
  try dsimp only
  refine ChangesOnly.set_hst (by decide) ?_
  exact ChangesOnly.refl _ _

theorem arenaWrite_fr (s : State) (a : Nat) (b : List Byte) : ChangesOnly [.drc, .arena] s (arenaWrite s a b) := by
  unfold arenaWrite
  try dsimp only
  refine ChangesOnly.ite ?_ ?_
  · refine ChangesOnly.set_arena (by decide) ?_
    exact ChangesOnly.refl _ _
  · refine ChangesOnly.step (upDrc_fr _ _) (by decide) ?_
    refine ChangesOnly.set_arena (by decide) ?_
    exact ChangesOnly.refl _ _

theorem deliver_fr (s : State) (o : Machine.Op) (off : Nat) (b : List Byte) : ChangesOnly [.hst, .tsk, .hostMem] s (deliver s o off b) := by
  unfold deliver
  try dsimp only
  refine ChangesOnly.ite ?_ ?_
  · refine ChangesOnly.step (modOp_fr _ _ _) (by decide) ?_
    exact ChangesOnly.refl _ _
  · refine ChangesOnly.ite ?_ ?_
    · exact ChangesOnly.refl _ _
    · refine ChangesOnly.step (issue_fr _ _) (by decide) ?_
      refine ChangesOnly.set_hostMem (by decide) ?_
      exact ChangesOnly.refl _ _

theorem deliverAddr_fr (s : State) (o : Machine.Op) (b : List Byte) : ChangesOnly [.hst, .tsk, .drc, .hostMem, .arena] s (deliverAddr s o b) := by
  unfold deliverAddr
  try dsimp only
  refine ChangesOnly.ite ?_ ?_
  · refine ChangesOnly.step (arenaWrite_fr _ _ _) (by decide) ?_
    exact ChangesOnly.refl _ _
  · refine ChangesOnly.ite ?_ ?_
    · refine ChangesOnly.step (modOp_fr _ _ _) (by decide) ?_
      exact ChangesOnly.refl _ _
    · refine ChangesOnly.ite ?_ ?_
      · exact ChangesOnly.refl _ _
      · refine ChangesOnly.step (issue_fr _ _) (by decide) ?_
        refine ChangesOnly.set_hostMem (by decide) ?_
        exact ChangesOnly.refl _ _

theorem toDeviceBias_fr (s : State) (l : List Nat) : ChangesOnly [.hst] s (toDeviceBias s l) := by
  unfold toDeviceBias
  try dsimp only
  refine ChangesOnly.set_hst (by decide) ?_
  refine ChangesOnly.ite ?_ ?_
  · refine ChangesOnly.foldl (fun _ _ => ?_) ?_
    · refine ChangesOnly.step (issue_fr _ _) (by decide) ?_
      exact ChangesOnly.refl _ _
    · exact ChangesOnly.refl _ _
  · exact ChangesOnly.refl _ _

theorem flipToDevice_fr (s : State) (o : Machine.Op) (a : Nat) (n : Nat) : ChangesOnly [.hst, .tsk] s (flipToDevice s o a n) := by
  unfold flipToDevice
  try dsimp only
  refine ChangesOnly.ite ?_ ?_
  · exact ChangesOnly.refl _ _
  · refine ChangesOnly.step (modOp_fr _ _ _) (by decide) ?_
    refine ChangesOnly.step (toDeviceBias_fr _ _) (by decide) ?_
    exact ChangesOnly.refl _ _

theorem flipBack_fr (s : State) (tag : Nat) : ChangesOnly [.hst, .tsk] s (flipBack s tag) := by
  unfold flipBack
  try dsimp only
  split
  · exact ChangesOnly.refl _ _
  · refine ChangesOnly.set_hst (by decide) ?_
    refine ChangesOnly.step (modOp_fr _ _ _) (by decide) ?_
    exact ChangesOnly.refl _ _


end Sys2Proof.Machine
end

