-- ==== Sys2Proof/Laws/FrameUnits.lean ====
section
/-! SUPPORT. Frames of the operations of the units and of the register commands. -/

namespace Sys2Proof.Machine
open Sys2Proof

/-! ### KiteOps -/

theorem modInst_fr (s : State) (run : Nat) (k : Nat) (f : Machine.Instance → Machine.Instance) : ChangesOnly [.kite] s (modInst s run k f) := by
  unfold modInst
  try dsimp only
  refine ChangesOnly.step (upKite_fr _ _) (by decide) ?_
  exact ChangesOnly.refl _ _

theorem modCore_fr (s : State) (c : Nat) (f : Machine.Core → Machine.Core) : ChangesOnly [.kite] s (modCore s c f) := by
  unfold modCore
  try dsimp only
  refine ChangesOnly.step (upKite_fr _ _) (by decide) ?_
  exact ChangesOnly.refl _ _

theorem modCluster_fr (s : State) (n : Nat) (f : Machine.Cluster → Machine.Cluster) : ChangesOnly [.kite] s (modCluster s n f) := by
  unfold modCluster
  try dsimp only
  refine ChangesOnly.step (upKite_fr _ _) (by decide) ?_
  exact ChangesOnly.refl _ _

theorem settleRing_fr (s : State) (n : Nat) : ChangesOnly [.kite] s (settleRing s n) := by
  unfold settleRing
  try dsimp only
  refine ChangesOnly.ite ?_ ?_
  · exact ChangesOnly.refl _ _
  · refine ChangesOnly.step (modCluster_fr _ _ _) (by decide) ?_
    exact ChangesOnly.refl _ _

theorem modRun_fr (s : State) (tag : Nat) (f : Machine.Run → Machine.Run) : ChangesOnly [.kite] s (modRun s tag f) := by
  unfold modRun
  try dsimp only
  refine ChangesOnly.step (upKite_fr _ _) (by decide) ?_
  exact ChangesOnly.refl _ _

theorem rouse_fr (s : State) (run : Nat) (k : Nat) : ChangesOnly [.kite] s (rouse s run k) := by
  unfold rouse
  try dsimp only
  split
  · split
    · refine ChangesOnly.ite ?_ ?_
      · refine ChangesOnly.step (modCore_fr _ _ _) (by decide) ?_
        exact ChangesOnly.refl _ _
      · exact ChangesOnly.refl _ _
    · exact ChangesOnly.refl _ _
  · exact ChangesOnly.refl _ _

theorem latchEvent_fr (s : State) (run : Nat) (k : Nat) (bitNo : Nat) : ChangesOnly [.kite] s (latchEvent s run k bitNo) := by
  unfold latchEvent
  try dsimp only
  refine ChangesOnly.step (rouse_fr _ _ _) (by decide) ?_
  refine ChangesOnly.step (modInst_fr _ _ _ _) (by decide) ?_
  exact ChangesOnly.refl _ _

theorem bandRead_fr (s : State) (band : Option Nat) : ChangesOnly [.med] s (bandRead s band) := by
  unfold bandRead
  try dsimp only
  split
  · refine ChangesOnly.step (upMed_fr _ _) (by decide) ?_
    exact ChangesOnly.refl _ _
  · exact ChangesOnly.refl _ _

theorem endInst_fr (s : State) (run : Nat) (k : Nat) : ChangesOnly [.med, .kite, .sec] s (endInst s run k) := by
  unfold endInst
  try dsimp only
  split
  · exact ChangesOnly.refl _ _
  · refine ChangesOnly.ite ?_ ?_
    · exact ChangesOnly.refl _ _
    · refine ChangesOnly.step (upKite_fr _ _) (by decide) ?_
      refine ChangesOnly.step (modInst_fr _ _ _ _) (by decide) ?_
      refine ChangesOnly.foldl (fun _ _ => ?_) ?_
      · refine ChangesOnly.step (bandRead_fr _ _) (by decide) ?_
        exact ChangesOnly.refl _ _
      · refine ChangesOnly.ite ?_ ?_
        · split
          · refine ChangesOnly.step (modCore_fr _ _ _) (by decide) ?_
            exact ChangesOnly.refl _ _
          · exact ChangesOnly.refl _ _
        · refine ChangesOnly.step (upSec_fr _ _) (by decide) ?_
          split
          · refine ChangesOnly.step (modCore_fr _ _ _) (by decide) ?_
            exact ChangesOnly.refl _ _
          · exact ChangesOnly.refl _ _

theorem endRun_fr (s : State) (tag : Nat) (r : Machine.Reply) : ChangesOnly [.med, .kite, .sec] s (endRun s tag r) := by
  unfold endRun
  try dsimp only
  split
  · exact ChangesOnly.refl _ _
  · refine ChangesOnly.ite ?_ ?_
    · exact ChangesOnly.refl _ _
    · refine ChangesOnly.step (upKite_fr _ _) (by decide) ?_
      refine ChangesOnly.foldl (fun _ _ => ?_) ?_
      · refine ChangesOnly.step (endInst_fr _ _ _) (by decide) ?_
        exact ChangesOnly.refl _ _
      · refine ChangesOnly.step (modRun_fr _ _ _) (by decide) ?_
        refine ChangesOnly.foldl (fun _ _ => ?_) ?_
        · refine ChangesOnly.step (bandRead_fr _ _) (by decide) ?_
          exact ChangesOnly.refl _ _
        · exact ChangesOnly.refl _ _

theorem dataTake_fr (s : State) (i : Instance) (a n : Nat) : Opt2Frame [.free] s (dataTake s i a n) := by
  intro b t h
  unfold dataTake at h
  cases e : dataRead s i a n with
  | none => simp [e] at h
  | some d =>
    simp only [e, Option.map_some, Option.some.injEq, Prod.mk.injEq] at h
    rw [← h.2]
    exact ChangesOnly.set_free (by decide) (ChangesOnly.refl _ _)

theorem dataWrite_fr (s : State) (i : Machine.Instance) (a : Nat) (b : List Byte) : OptFrame [.kite] s (dataWrite s i a b) := by
  unfold dataWrite
  try dsimp only
  split
  · refine OptFrame.some ?_
    refine ChangesOnly.step (modInst_fr _ _ _ _) (by decide) ?_
    exact ChangesOnly.refl _ _
  · refine OptFrame.some ?_
    refine ChangesOnly.step (modCluster_fr _ _ _) (by decide) ?_
    exact ChangesOnly.refl _ _
  · exact OptFrame.none

theorem sourceNow_fr (s : State) (i : Machine.Instance) (a : Nat) (b : List Byte) : ChangesOnly [.free] s (sourceNow s i a b).2 := by
  unfold sourceNow
  try dsimp only
  split
  · refine ChangesOnly.ite2 ?_ ?_
    · try dsimp only
      exact ChangesOnly.refl _ _
    · try dsimp only
      refine ChangesOnly.step (freeBytes_fr _ _) (by decide) ?_
      exact ChangesOnly.refl _ _
  · refine ChangesOnly.step (freeBytes_fr _ _) (by decide) ?_
    exact ChangesOnly.refl _ _

theorem extendMs_fr (s : State) (n : Nat) (v : List Byte) : ChangesOnly [.sec] s (extendMs s n v) := by
  unfold extendMs
  try dsimp only
  refine ChangesOnly.step (upSec_fr _ _) (by decide) ?_
  exact ChangesOnly.refl _ _

theorem reApprove_fr (s : State) : ChangesOnly [.sec] s (reApprove s) := by
  unfold reApprove
  try dsimp only
  refine ChangesOnly.ite ?_ ?_
  · exact ChangesOnly.refl _ _
  · refine ChangesOnly.step (extendMs_fr _ _ _) (by decide) ?_
    refine ChangesOnly.step (upSec_fr _ _) (by decide) ?_
    exact ChangesOnly.refl _ _

theorem roleCheck_fr (s : State) (src : Machine.Source) (opc : Nat) : ChangesOnly [.sec] s (roleCheck s src opc) := by
  unfold roleCheck
  try dsimp only
  refine ChangesOnly.step (reApprove_fr _) (by decide) ?_
  refine ChangesOnly.step (upSec_fr _ _) (by decide) ?_
  exact ChangesOnly.refl _ _

theorem zeroise_fr (s : State) (detail : Nat) : ChangesOnly [.tsk, .kite, .sec] s (zeroise s detail) := by
  unfold zeroise
  try dsimp only
  refine ChangesOnly.foldl (fun _ _ => ?_) ?_
  · refine ChangesOnly.ite ?_ ?_
    · refine ChangesOnly.step (latchEvent_fr _ _ _ _) (by decide) ?_
      refine ChangesOnly.step (modInst_fr _ _ _ _) (by decide) ?_
      exact ChangesOnly.refl _ _
    · refine ChangesOnly.step (modInst_fr _ _ _ _) (by decide) ?_
      exact ChangesOnly.refl _ _
  · refine ChangesOnly.foldl (fun _ _ => ?_) ?_
    · refine ChangesOnly.step (finish_fr _ _ _) (by decide) ?_
      exact ChangesOnly.refl _ _
    · refine ChangesOnly.step (upSec_fr _ _) (by decide) ?_
      exact ChangesOnly.refl _ _

theorem enterError_fr (s : State) : ChangesOnly [.flt, .glb, .tsk, .kite, .sec] s (enterError s) := by
  unfold enterError
  try dsimp only
  refine ChangesOnly.step (raise_fr _ _) (by decide) ?_
  refine ChangesOnly.step (reApprove_fr _) (by decide) ?_
  refine ChangesOnly.step (upGlb_fr _ _) (by decide) ?_
  refine ChangesOnly.step (upSec_fr _ _) (by decide) ?_
  refine ChangesOnly.step (zeroise_fr _ _) (by decide) ?_
  exact ChangesOnly.refl _ _


/-! ### LinkOps -/

theorem countPackets_fr (s : State) (link : Nat) (n : Nat) : ChangesOnly [.sec] s (countPackets s link n) := by
  unfold countPackets
  try dsimp only
  refine ChangesOnly.step (upSec_fr _ _) (by decide) ?_
  exact ChangesOnly.refl _ _

theorem pumpTether_fr (s : State) : ChangesOnly [.sec, .pair] s (pumpTether s) := by
  unfold pumpTether
  try dsimp only
  refine ChangesOnly.ite ?_ ?_
  · exact ChangesOnly.refl _ _
  · refine ChangesOnly.foldl (fun _ _ => ?_) ?_
    · refine ChangesOnly.step (countPackets_fr _ _ _) (by decide) ?_
      refine ChangesOnly.step (upPair_fr _ _) (by decide) ?_
      exact ChangesOnly.refl _ _
    · exact ChangesOnly.refl _ _

theorem rePartition_fr (s : State) : ChangesOnly [.mesh] s (rePartition s) := by
  unfold rePartition
  try dsimp only
  refine ChangesOnly.step (upMesh_fr _ _) (by decide) ?_
  exact ChangesOnly.refl _ _

theorem modPort_fr (s : State) (b : Nat) (f : Machine.Port → Machine.Port) : ChangesOnly [.mesh] s (modPort s b f) := by
  unfold modPort
  try dsimp only
  refine ChangesOnly.step (upMesh_fr _ _) (by decide) ?_
  exact ChangesOnly.refl _ _

theorem pumpPort_fr (s : State) (b : Nat) : ChangesOnly [.sec, .mesh] s (pumpPort s b) := by
  unfold pumpPort
  try dsimp only
  refine ChangesOnly.ite ?_ ?_
  · exact ChangesOnly.refl _ _
  · refine ChangesOnly.step (countPackets_fr _ _ _) (by decide) ?_
    refine ChangesOnly.step (upMesh_fr _ _) (by decide) ?_
    refine ChangesOnly.step (modPort_fr _ _ _) (by decide) ?_
    exact ChangesOnly.refl _ _

theorem putPort_fr (s : State) (b : Nat) (v : Nat) (from_ : Nat) (p : Machine.MPkt) : ChangesOnly [.sec, .mesh] s (putPort s b v from_ p) := by
  unfold putPort
  try dsimp only
  refine ChangesOnly.step (pumpPort_fr _ _) (by decide) ?_
  refine ChangesOnly.step (modPort_fr _ _ _) (by decide) ?_
  exact ChangesOnly.refl _ _

theorem routed_fr (s : State) (p : Machine.MPkt) (from_ : Option (Nat × Bool × Bool)) : OptFrame [.sec, .mesh, .free] s (routed s p from_) := by
  unfold routed
  try dsimp only
  split
  · exact OptFrame.none
  · refine OptFrame.ite ?_ ?_
    · refine OptFrame.some ?_
      refine ChangesOnly.step (putPort_fr _ _ _ _ _) (by decide) ?_
      exact ChangesOnly.refl _ _
    · refine OptFrame.ite ?_ ?_
      · exact OptFrame.none
      · refine OptFrame.some ?_
        refine ChangesOnly.step (putPort_fr _ _ _ _ _) (by decide) ?_
        refine ChangesOnly.step (freeBelow_fr _ _) (by decide) ?_
        exact ChangesOnly.refl _ _

theorem sendM_fr (s : State) (dst : Nat) (group : Nat) (b : Machine.MBody) : ChangesOnly [.sec, .mesh, .free] s (sendM s dst group b) := by
  unfold sendM
  try dsimp only
  refine OptFrame.getD ?_ ?_
  · refine OptFrame.step (routed_fr _ _ _) (by decide) ?_
    exact ChangesOnly.refl _ _
  · exact ChangesOnly.refl _ _

theorem forwardM_fr (s : State) (p : Machine.MPkt) (port : Nat) (dl : Bool) (esc : Bool) : ChangesOnly [.sec, .mesh, .free] s (forwardM s p port dl esc) := by
  unfold forwardM
  try dsimp only
  split
  · refine ChangesOnly.step (OptFrame.of (routed_fr _ _ _) (by assumption)) (by decide) ?_
    exact ChangesOnly.refl _ _
  · refine ChangesOnly.step (sendM_fr _ _ _ _) (by decide) ?_
    exact ChangesOnly.refl _ _

theorem sendT_fr (s : State) (m : Machine.TMsg) : ChangesOnly [.sec, .pair, .mesh, .free] s (sendT s m) := by
  unfold sendT
  try dsimp only
  refine ChangesOnly.ite ?_ ?_
  · refine ChangesOnly.step (sendM_fr _ _ _ _) (by decide) ?_
    exact ChangesOnly.refl _ _
  · refine ChangesOnly.step (pumpTether_fr _) (by decide) ?_
    refine ChangesOnly.step (upPair_fr _ _) (by decide) ?_
    exact ChangesOnly.refl _ _


/-! ### MediaOps -/

theorem volMod_fr (s : State) (v : Nat) (f : Machine.Volume → Machine.Volume) : ChangesOnly [.med] s (volMod s v f) := by
  unfold volMod
  try dsimp only
  refine ChangesOnly.step (upMed_fr _ _) (by decide) ?_
  exact ChangesOnly.refl _ _

theorem setDir_fr (s : State) (v : Nat) (st : Nat) (d : Machine.DirEntry) : ChangesOnly [.med] s (setDir s v st d) := by
  unfold setDir
  try dsimp only
  refine ChangesOnly.step (volMod_fr _ _ _) (by decide) ?_
  exact ChangesOnly.refl _ _

theorem modPage_fr (s : State) (v : Nat) (st : Nat) (f : Machine.LeafPage → Machine.LeafPage) : ChangesOnly [.med] s (modPage s v st f) := by
  unfold modPage
  try dsimp only
  refine ChangesOnly.step (upMed_fr _ _) (by decide) ?_
  exact ChangesOnly.refl _ _

theorem dropPage_fr (s : State) (v : Nat) (st : Nat) : ChangesOnly [.med] s (dropPage s v st) := by
  unfold dropPage
  try dsimp only
  refine ChangesOnly.step (upMed_fr _ _) (by decide) ?_
  exact ChangesOnly.refl _ _

theorem leafRoom_fr (s : State) (v : Nat) (st : Nat) : OptFrame [.med] s (leafRoom s v st) := by
  unfold leafRoom
  try dsimp only
  refine OptFrame.ite ?_ ?_
  · refine OptFrame.some ?_
    exact ChangesOnly.refl _ _
  · split
    · refine OptFrame.some ?_
      refine ChangesOnly.step (dropPage_fr _ _ _) (by decide) ?_
      exact ChangesOnly.refl _ _
    · exact OptFrame.none

theorem addPage_fr (s : State) (p : Machine.LeafPage) : ChangesOnly [.med] s (addPage s p) := by
  unfold addPage
  try dsimp only
  refine ChangesOnly.step (upMed_fr _ _) (by decide) ?_
  refine OptFrame.getD ?_ ?_
  · refine OptFrame.step (leafRoom_fr _ _ _) (by decide) ?_
    exact ChangesOnly.refl _ _
  · exact ChangesOnly.refl _ _

theorem touchPage_fr (s : State) (v : Nat) (st : Nat) : ChangesOnly [.med] s (touchPage s v st) := by
  unfold touchPage
  try dsimp only
  split
  · refine ChangesOnly.step (upMed_fr _ _) (by decide) ?_
    exact ChangesOnly.refl _ _
  · exact ChangesOnly.refl _ _

theorem bandMod_fr (s : State) (b : Nat) (f : Machine.Band → Machine.Band) : ChangesOnly [.med] s (bandMod s b f) := by
  unfold bandMod
  try dsimp only
  refine ChangesOnly.step (upMed_fr _ _) (by decide) ?_
  exact ChangesOnly.refl _ _

theorem addUnits_fr (s : State) (pa : Nat) (n : Nat) : ChangesOnly [.med] s (addUnits s pa n) := by
  unfold addUnits
  try dsimp only
  refine ChangesOnly.step (bandMod_fr _ _ _) (by decide) ?_
  exact ChangesOnly.refl _ _

theorem subUnits_fr (s : State) (pa : Nat) (n : Nat) : ChangesOnly [.med] s (subUnits s pa n) := by
  unfold subUnits
  try dsimp only
  refine ChangesOnly.step (bandMod_fr _ _ _) (by decide) ?_
  exact ChangesOnly.refl _ _

theorem releaseForm_fr (s : State) (f : Machine.MapForm) : ChangesOnly [.med] s (releaseForm s f) := by
  unfold releaseForm
  try dsimp only
  split
  · refine ChangesOnly.step (subUnits_fr _ _ _) (by decide) ?_
    exact ChangesOnly.refl _ _
  · exact ChangesOnly.refl _ _

theorem claimForm_fr (s : State) (f : Machine.MapForm) : ChangesOnly [.med] s (claimForm s f) := by
  unfold claimForm
  try dsimp only
  split
  · refine ChangesOnly.step (addUnits_fr _ _ _) (by decide) ?_
    exact ChangesOnly.refl _ _
  · exact ChangesOnly.refl _ _

theorem ensurePage_fr (s : State) (v : Nat) (st : Nat) : ChangesOnly [.med] s (ensurePage s v st) := by
  unfold ensurePage
  try dsimp only
  split
  · refine ChangesOnly.step (setDir_fr _ _ _ _) (by decide) ?_
    refine ChangesOnly.step (addPage_fr _ _) (by decide) ?_
    exact ChangesOnly.refl _ _
  · refine ChangesOnly.step (setDir_fr _ _ _ _) (by decide) ?_
    refine ChangesOnly.step (addPage_fr _ _) (by decide) ?_
    exact ChangesOnly.refl _ _
  · split
    · exact ChangesOnly.refl _ _
    · refine ChangesOnly.step (addPage_fr _ _) (by decide) ?_
      exact ChangesOnly.refl _ _
    · refine ChangesOnly.step (addPage_fr _ _) (by decide) ?_
      exact ChangesOnly.refl _ _

theorem applyEntry_fr (s : State) (v : Nat) (lba : Nat) (e : Machine.MapEntry) : ChangesOnly [.med] s (applyEntry s v lba e) := by
  unfold applyEntry
  try dsimp only
  refine ChangesOnly.ite ?_ ?_
  · exact ChangesOnly.refl _ _
  · refine ChangesOnly.step (modPage_fr _ _ _ _) (by decide) ?_
    refine ChangesOnly.step (claimForm_fr _ _) (by decide) ?_
    refine ChangesOnly.step (releaseForm_fr _ _) (by decide) ?_
    refine ChangesOnly.step (touchPage_fr _ _ _) (by decide) ?_
    refine ChangesOnly.step (ensurePage_fr _ _ _) (by decide) ?_
    exact ChangesOnly.refl _ _

theorem unmapStretch_fr (s : State) (v : Nat) (st : Nat) : ChangesOnly [.med] s (unmapStretch s v st) := by
  unfold unmapStretch
  try dsimp only
  refine ChangesOnly.step (setDir_fr _ _ _ _) (by decide) ?_
  refine ChangesOnly.step (dropPage_fr _ _ _) (by decide) ?_
  split
  · exact ChangesOnly.refl _ _
  · refine ChangesOnly.step (subUnits_fr _ _ _) (by decide) ?_
    refine ChangesOnly.step (subUnits_fr _ _ _) (by decide) ?_
    exact ChangesOnly.refl _ _
  · split
    · refine ChangesOnly.step (subUnits_fr _ _ _) (by decide) ?_
      split
      · refine ChangesOnly.foldl (fun _ _ => ?_) ?_
        · refine ChangesOnly.step (releaseForm_fr _ _) (by decide) ?_
          exact ChangesOnly.refl _ _
        · exact ChangesOnly.refl _ _
      · refine ChangesOnly.foldl (fun _ _ => ?_) ?_
        · refine ChangesOnly.step (releaseForm_fr _ _) (by decide) ?_
          exact ChangesOnly.refl _ _
        · exact ChangesOnly.refl _ _
      · exact ChangesOnly.refl _ _
    · split
      · refine ChangesOnly.foldl (fun _ _ => ?_) ?_
        · refine ChangesOnly.step (releaseForm_fr _ _) (by decide) ?_
          exact ChangesOnly.refl _ _
        · exact ChangesOnly.refl _ _
      · refine ChangesOnly.foldl (fun _ _ => ?_) ?_
        · refine ChangesOnly.step (releaseForm_fr _ _) (by decide) ?_
          exact ChangesOnly.refl _ _
        · exact ChangesOnly.refl _ _
      · exact ChangesOnly.refl _ _

theorem unmapVolume_fr (s : State) (v : Nat) : ChangesOnly [.med] s (unmapVolume s v) := by
  unfold unmapVolume
  try dsimp only
  split
  · refine ChangesOnly.foldl (fun _ _ => ?_) ?_
    · refine ChangesOnly.step (unmapStretch_fr _ _ _) (by decide) ?_
      exact ChangesOnly.refl _ _
    · exact ChangesOnly.refl _ _
  · exact ChangesOnly.refl _ _

theorem jStall_fr (s : State) : ChangesOnly [.med] s (jStall s) := by
  unfold jStall
  try dsimp only
  refine ChangesOnly.ite ?_ ?_
  · exact ChangesOnly.refl _ _
  · refine ChangesOnly.step (upMed_fr _ _) (by decide) ?_
    exact ChangesOnly.refl _ _

theorem ringWrite_fr (s : State) (l : List Machine.JRec) : ChangesOnly [.med, .sec, .pair, .mesh, .free] s (ringWrite s l) := by
  unfold ringWrite
  try dsimp only
  refine ChangesOnly.ite ?_ ?_
  · exact ChangesOnly.refl _ _
  · refine ChangesOnly.ite ?_ ?_
    · refine ChangesOnly.step (sendT_fr _ _) (by decide) ?_
      refine ChangesOnly.step (upMed_fr _ _) (by decide) ?_
      exact ChangesOnly.refl _ _
    · refine ChangesOnly.step (upMed_fr _ _) (by decide) ?_
      exact ChangesOnly.refl _ _

theorem ringStraight_fr (s : State) (r : Machine.Record) : ChangesOnly [.med, .sec, .pair, .mesh, .free] s (ringStraight s r) := by
  unfold ringStraight
  try dsimp only
  refine ChangesOnly.step (ringWrite_fr _ _) (by decide) ?_
  exact ChangesOnly.refl _ _

theorem flushLine_fr (s : State) : ChangesOnly [.med, .sec, .pair, .mesh, .free] s (flushLine s) := by
  unfold flushLine
  try dsimp only
  refine ChangesOnly.step (ringWrite_fr _ _) (by decide) ?_
  refine ChangesOnly.step (upMed_fr _ _) (by decide) ?_
  exact ChangesOnly.refl _ _

theorem flushAll_fr (s : State) : ChangesOnly [.med, .sec, .pair, .mesh, .free] s (flushAll s) := by
  unfold flushAll
  try dsimp only
  refine ChangesOnly.foldl (fun _ _ => ?_) ?_
  · refine ChangesOnly.step (flushLine_fr _) (by decide) ?_
    exact ChangesOnly.refl _ _
  · exact ChangesOnly.refl _ _

theorem journal_fr (s : State) (l : List Machine.Record) : ChangesOnly [.med, .sec, .pair, .mesh, .free] s (journal s l) := by
  unfold journal
  try dsimp only
  refine ChangesOnly.step (upMed_fr _ _) (by decide) ?_
  refine ChangesOnly.foldl (fun _ _ => ?_) ?_
  · refine ChangesOnly.step (flushLine_fr _) (by decide) ?_
    exact ChangesOnly.refl _ _
  · exact ChangesOnly.refl _ _

theorem takeWseq_fr (s : State) (n : Nat) : ChangesOnly [.med, .sec, .pair, .mesh, .free] s (takeWseq s n).2 := by
  unfold takeWseq
  try dsimp only
  refine ChangesOnly.step (upMed_fr _ _) (by decide) ?_
  refine ChangesOnly.ite ?_ ?_
  · exact ChangesOnly.refl _ _
  · refine ChangesOnly.step (ringStraight_fr _ _) (by decide) ?_
    refine ChangesOnly.step (upMed_fr _ _) (by decide) ?_
    refine ChangesOnly.step (upPair_fr _ _) (by decide) ?_
    exact ChangesOnly.refl _ _

theorem setBand_fr (s : State) (b : Nat) (st : Machine.BandState) : ChangesOnly [.med] s (setBand s b st) := by
  unfold setBand
  try dsimp only
  refine ChangesOnly.step (bandMod_fr _ _ _) (by decide) ?_
  exact ChangesOnly.refl _ _

theorem markDrained_fr (s : State) (l : List Nat) : ChangesOnly [.med] s (markDrained s l) := by
  unfold markDrained
  try dsimp only
  refine ChangesOnly.foldl (fun _ _ => ?_) ?_
  · refine ChangesOnly.step (setBand_fr _ _ _) (by decide) ?_
    exact ChangesOnly.refl _ _
  · exact ChangesOnly.refl _ _

theorem journalDrain_fr (s : State) (l : List Machine.Record) (touched : List Nat) : ChangesOnly [.med, .sec, .pair, .mesh, .free] s (journalDrain s l touched) := by
  unfold journalDrain
  try dsimp only
  refine ChangesOnly.foldl (fun _ _ => ?_) ?_
  · refine ChangesOnly.step (journal_fr _ _) (by decide) ?_
    exact ChangesOnly.refl _ _
  · refine ChangesOnly.step (markDrained_fr _ _) (by decide) ?_
    refine ChangesOnly.step (journal_fr _ _) (by decide) ?_
    exact ChangesOnly.refl _ _

theorem commitSet_fr (s : State) (v : Nat) (lba : Nat) (e : Machine.MapEntry) : ChangesOnly [.med, .sec, .pair, .mesh, .free] s (commitSet s v lba e) := by
  unfold commitSet
  try dsimp only
  refine ChangesOnly.step (journalDrain_fr _ _ _) (by decide) ?_
  refine ChangesOnly.step (applyEntry_fr _ _ _ _) (by decide) ?_
  exact ChangesOnly.refl _ _

theorem modOwn_fr (s : State) (band : Nat) (seg : Nat) (f : Machine.OwnSeg → Machine.OwnSeg) : ChangesOnly [.mesh] s (modOwn s band seg f) := by
  unfold modOwn
  try dsimp only
  refine ChangesOnly.step (upMesh_fr _ _) (by decide) ?_
  exact ChangesOnly.refl _ _

theorem offerSeg_fr (s : State) (g : Machine.Group) (band : Nat) (seg : Nat) (from_ : Nat) : ChangesOnly [.sec, .mesh, .free] s (offerSeg s g band seg from_) := by
  unfold offerSeg
  try dsimp only
  split
  · refine ChangesOnly.step (modOwn_fr _ _ _ _) (by decide) ?_
    exact ChangesOnly.refl _ _
  · refine ChangesOnly.step (sendM_fr _ _ _ _) (by decide) ?_
    refine ChangesOnly.step (modOwn_fr _ _ _ _) (by decide) ?_
    exact ChangesOnly.refl _ _

theorem offerNext_fr (s : State) (id : Nat) : ChangesOnly [.sec, .mesh, .free] s (offerNext s id) := by
  unfold offerNext
  try dsimp only
  split
  · exact ChangesOnly.refl _ _
  · refine ChangesOnly.ite ?_ ?_
    · exact ChangesOnly.refl _ _
    · split
      · refine ChangesOnly.step (offerSeg_fr _ _ _ _ _) (by decide) ?_
        exact ChangesOnly.refl _ _
      · exact ChangesOnly.refl _ _

theorem nextGroup_fr (s : State) : ChangesOnly [.mesh] s (nextGroup s).2 := by
  unfold nextGroup
  try dsimp only
  split
  · try dsimp only
    exact ChangesOnly.refl _ _
  · try dsimp only
    refine ChangesOnly.step (upMesh_fr _ _) (by decide) ?_
    exact ChangesOnly.refl _ _

theorem segGroup_fr (s : State) (b : Nat) (frontier : Nat) (stream : Machine.Stream) : ChangesOnly [.mesh] s (segGroup s b frontier stream).2 := by
  unfold segGroup
  try dsimp only
  refine ChangesOnly.ite2 ?_ ?_
  · try dsimp only
    exact ChangesOnly.refl _ _
  · refine ChangesOnly.ite2 ?_ ?_
    · refine ChangesOnly.step (nextGroup_fr _) (by decide) ?_
      exact ChangesOnly.refl _ _
    · split
      · try dsimp only
        exact ChangesOnly.refl _ _
      · try dsimp only
        exact ChangesOnly.refl _ _

theorem countSeal_fr (s : State) (b : Nat) : ChangesOnly [.med] s (countSeal s b) := by
  unfold countSeal
  try dsimp only
  refine ChangesOnly.step (bandMod_fr _ _ _) (by decide) ?_
  exact ChangesOnly.refl _ _

theorem holdSeg_fr (s : State) (b : Nat) (seg : Nat) : ChangesOnly [.med] s (holdSeg s b seg) := by
  unfold holdSeg
  try dsimp only
  refine ChangesOnly.step (bandMod_fr _ _ _) (by decide) ?_
  exact ChangesOnly.refl _ _

theorem takeSeg_fr (s : State) (b : Nat) (seg : Nat) : ChangesOnly [.med, .sec, .mesh, .free] s (takeSeg s b seg) := by
  unfold takeSeg
  try dsimp only
  refine ChangesOnly.ite ?_ ?_
  · exact ChangesOnly.refl _ _
  · refine ChangesOnly.step (offerNext_fr _ _) (by decide) ?_
    refine ChangesOnly.step (holdSeg_fr _ _ _) (by decide) ?_
    refine ChangesOnly.step (upMesh_fr _ _) (by decide) ?_
    exact ChangesOnly.refl _ _

theorem closeFull_fr (s : State) (b : Nat) : ChangesOnly [.med, .sec, .pair, .mesh, .free] s (closeFull s b) := by
  unfold closeFull
  try dsimp only
  split
  · exact ChangesOnly.refl _ _
  · refine ChangesOnly.ite ?_ ?_
    · refine ChangesOnly.step (journalDrain_fr _ _ _) (by decide) ?_
      refine ChangesOnly.step (journal_fr _ _) (by decide) ?_
      refine ChangesOnly.step (setBand_fr _ _ _) (by decide) ?_
      exact ChangesOnly.refl _ _
    · exact ChangesOnly.refl _ _

theorem sealSegment_fr (s : State) (b : Nat) (seg : Nat) : ChangesOnly [.med, .sec, .pair, .mesh, .free] s (sealSegment s b seg) := by
  unfold sealSegment
  try dsimp only
  split
  · exact ChangesOnly.refl _ _
  · refine ChangesOnly.step (closeFull_fr _ _) (by decide) ?_
    refine ChangesOnly.ite ?_ ?_
    · refine ChangesOnly.step (countSeal_fr _ _) (by decide) ?_
      exact ChangesOnly.refl _ _
    · refine ChangesOnly.step (takeSeg_fr _ _ _) (by decide) ?_
      refine ChangesOnly.step (countSeal_fr _ _) (by decide) ?_
      exact ChangesOnly.refl _ _

theorem programCw_fr (s : State) (b : Nat) (c : Machine.Codeword) : ChangesOnly [.med, .sec, .pair, .mesh, .free] s (programCw s b c) := by
  unfold programCw
  try dsimp only
  split
  · exact ChangesOnly.refl _ _
  · refine ChangesOnly.ite ?_ ?_
    · refine ChangesOnly.step (sealSegment_fr _ _ _) (by decide) ?_
      refine ChangesOnly.step (bandMod_fr _ _ _) (by decide) ?_
      refine ChangesOnly.step (upMed_fr _ _) (by decide) ?_
      exact ChangesOnly.refl _ _
    · refine ChangesOnly.step (bandMod_fr _ _ _) (by decide) ?_
      refine ChangesOnly.step (upMed_fr _ _) (by decide) ?_
      exact ChangesOnly.refl _ _

theorem padSegment_fr (s : State) (b : Nat) : ChangesOnly [.med, .sec, .pair, .mesh, .free] s (padSegment s b) := by
  unfold padSegment
  try dsimp only
  split
  · exact ChangesOnly.refl _ _
  · refine ChangesOnly.ite ?_ ?_
    · exact ChangesOnly.refl _ _
    · refine ChangesOnly.foldl (fun _ _ => ?_) ?_
      · refine ChangesOnly.step (programCw_fr _ _ _) (by decide) ?_
        exact ChangesOnly.refl _ _
      · refine ChangesOnly.step (segGroup_fr _ _ _ _) (by decide) ?_
        exact ChangesOnly.refl _ _

theorem openSlot_fr (s : State) (t : Machine.Stream) : Opt2Frame [.med, .sec, .pair, .mesh, .free] s (openSlot s t) := by
  unfold openSlot
  try dsimp only
  split
  · exact Opt2Frame.none
  · refine Opt2Frame.some ?_
    try dsimp only
    refine ChangesOnly.step (journal_fr _ _) (by decide) ?_
    refine ChangesOnly.step (bandMod_fr _ _ _) (by decide) ?_
    refine ChangesOnly.ite ?_ ?_
    · exact ChangesOnly.refl _ _
    · refine ChangesOnly.step (upMed_fr _ _) (by decide) ?_
      exact ChangesOnly.refl _ _

theorem openBand_fr (s : State) (t : Machine.Stream) : Opt2Frame [.med, .sec, .pair, .mesh, .free] s (openBand s t) := by
  unfold openBand
  try dsimp only
  refine Opt2Frame.ite ?_ ?_
  · refine Opt2Frame.step (openSlot_fr _ _) (by decide) ?_
    exact ChangesOnly.refl _ _
  · refine Opt2Frame.ite ?_ ?_
    · refine Opt2Frame.step (openSlot_fr _ _) (by decide) ?_
      exact ChangesOnly.refl _ _
    · exact Opt2Frame.none

theorem bandFor_fr (s : State) (t : Machine.Stream) : Opt2Frame [.med, .sec, .pair, .mesh, .free] s (bandFor s t) := by
  unfold bandFor
  try dsimp only
  split
  · refine Opt2Frame.some ?_
    try dsimp only
    exact ChangesOnly.refl _ _
  · refine Opt2Frame.step (openBand_fr _ _) (by decide) ?_
    exact ChangesOnly.refl _ _

theorem unstage_fr (s : State) (v : Nat) (lba : Nat) (seq : Nat) : ChangesOnly [.med] s (unstage s v lba seq) := by
  unfold unstage
  try dsimp only
  refine ChangesOnly.step (upMed_fr _ _) (by decide) ?_
  exact ChangesOnly.refl _ _

theorem addRun_fr (s : State) (pa : Nat) : ChangesOnly [.med] s (addRun s pa) := by
  unfold addRun
  try dsimp only
  refine ChangesOnly.foldl (fun _ _ => ?_) ?_
  · refine ChangesOnly.step (addUnits_fr _ _ _) (by decide) ?_
    exact ChangesOnly.refl _ _
  · exact ChangesOnly.refl _ _

theorem subRun_fr (s : State) (pa : Nat) : ChangesOnly [.med] s (subRun s pa) := by
  unfold subRun
  try dsimp only
  refine ChangesOnly.foldl (fun _ _ => ?_) ?_
  · refine ChangesOnly.step (subUnits_fr _ _ _) (by decide) ?_
    exact ChangesOnly.refl _ _
  · exact ChangesOnly.refl _ _

theorem dropCkpt_fr (s : State) : ChangesOnly [.med] s (dropCkpt s) := by
  unfold dropCkpt
  try dsimp only
  refine ChangesOnly.step (upMed_fr _ _) (by decide) ?_
  refine ChangesOnly.foldl (fun _ _ => ?_) ?_
  · refine ChangesOnly.step (subRun_fr _ _) (by decide) ?_
    exact ChangesOnly.refl _ _
  · exact ChangesOnly.refl _ _

theorem mapRun_fr (s : State) (n : Nat) : Opt2Frame [.med, .sec, .pair, .mesh, .free] s (mapRun s n) := by
  unfold mapRun
  try dsimp only
  split
  · exact Opt2Frame.none
  · split
    · exact Opt2Frame.none
    · refine Opt2Frame.ite ?_ ?_
      · refine Opt2Frame.some ?_
        try dsimp only
        refine ChangesOnly.step (Opt2Frame.of (bandFor_fr _ _) (by assumption)) (by decide) ?_
        exact ChangesOnly.refl _ _
      · refine Opt2Frame.step (bandFor_fr _ _) (by decide) ?_
        refine ChangesOnly.foldl (fun _ _ => ?_) ?_
        · refine ChangesOnly.step (programCw_fr _ _ _) (by decide) ?_
          refine ChangesOnly.step (segGroup_fr _ _ _ _) (by decide) ?_
          exact ChangesOnly.refl _ _
        · refine ChangesOnly.step (Opt2Frame.of (bandFor_fr _ _) (by assumption)) (by decide) ?_
          exact ChangesOnly.refl _ _

theorem writeRun_fr (s : State) (raw : Nat → List Byte) : Opt2Frame [.med, .sec, .pair, .mesh, .free] s (writeRun s raw) := by
  unfold writeRun
  try dsimp only
  split
  · exact Opt2Frame.none
  · split
    · exact Opt2Frame.none
    · refine Opt2Frame.some ?_
      try dsimp only
      refine ChangesOnly.foldl (fun _ _ => ?_) ?_
      · refine ChangesOnly.step (programCw_fr _ _ _) (by decide) ?_
        refine ChangesOnly.step (freeBelow_fr _ _) (by decide) ?_
        refine ChangesOnly.step (freeBelow_fr _ _) (by decide) ?_
        refine ChangesOnly.step (segGroup_fr _ _ _ _) (by decide) ?_
        exact ChangesOnly.refl _ _
      · refine ChangesOnly.step (addRun_fr _ _) (by decide) ?_
        refine ChangesOnly.step (Opt2Frame.of (mapRun_fr _ _) (by assumption)) (by decide) ?_
        exact ChangesOnly.refl _ _

theorem writePiece_fr (s : State) (table : Bool) (p : Nat) : ChangesOnly [.med, .sec, .pair, .mesh, .free] s (writePiece s table p) := by
  unfold writePiece
  try dsimp only
  split
  · exact ChangesOnly.refl _ _
  · refine ChangesOnly.step (upMed_fr _ _) (by decide) ?_
    refine ChangesOnly.step (Opt2Frame.of (writeRun_fr _ _) (by assumption)) (by decide) ?_
    refine ChangesOnly.step (freeBytes_fr _ _) (by decide) ?_
    exact ChangesOnly.refl _ _

theorem writePieces_fr (s : State) : ChangesOnly [.med, .sec, .pair, .mesh, .free] s (writePieces s) := by
  unfold writePieces
  try dsimp only
  split
  · refine ChangesOnly.foldl (fun _ _ => ?_) ?_
    · refine ChangesOnly.step (writePiece_fr _ _ _) (by decide) ?_
      exact ChangesOnly.refl _ _
    · exact ChangesOnly.refl _ _
  · exact ChangesOnly.refl _ _

theorem recount_fr (s : State) : ChangesOnly [.med] s (recount s) := by
  unfold recount
  try dsimp only
  refine ChangesOnly.foldl (fun _ _ => ?_) ?_
  · refine ChangesOnly.step (addRun_fr _ _) (by decide) ?_
    exact ChangesOnly.refl _ _
  · refine ChangesOnly.foldl (fun _ _ => ?_) ?_
    · refine ChangesOnly.step (addUnits_fr _ _ _) (by decide) ?_
      exact ChangesOnly.refl _ _
    · refine ChangesOnly.foldl (fun _ _ => ?_) ?_
      · refine ChangesOnly.foldl (fun _ _ => ?_) ?_
        · split
          · exact ChangesOnly.refl _ _
          · refine ChangesOnly.step (addUnits_fr _ _ _) (by decide) ?_
            refine ChangesOnly.step (addUnits_fr _ _ _) (by decide) ?_
            exact ChangesOnly.refl _ _
          · split
            · refine ChangesOnly.foldl (fun _ _ => ?_) ?_
              · refine ChangesOnly.step (claimForm_fr _ _) (by decide) ?_
                exact ChangesOnly.refl _ _
              · split
                · refine ChangesOnly.step (addUnits_fr _ _ _) (by decide) ?_
                  exact ChangesOnly.refl _ _
                · exact ChangesOnly.refl _ _
            · refine ChangesOnly.foldl (fun _ _ => ?_) ?_
              · refine ChangesOnly.step (claimForm_fr _ _) (by decide) ?_
                exact ChangesOnly.refl _ _
              · split
                · refine ChangesOnly.step (addUnits_fr _ _ _) (by decide) ?_
                  exact ChangesOnly.refl _ _
                · exact ChangesOnly.refl _ _
            · split
              · refine ChangesOnly.step (addUnits_fr _ _ _) (by decide) ?_
                exact ChangesOnly.refl _ _
              · exact ChangesOnly.refl _ _
        · exact ChangesOnly.refl _ _
      · refine ChangesOnly.step (upMed_fr _ _) (by decide) ?_
        exact ChangesOnly.refl _ _

theorem programRun_fr (s : State) (b : Nat) (vol : Nat) (gcCopy : Bool) (foster : Bool) (l : List Machine.ToPlace) : Opt2Frame [.med, .sec, .pair, .mesh, .free] s (programRun s b vol gcCopy foster l) := by
  unfold programRun
  try dsimp only
  split
  · exact Opt2Frame.none
  · refine Opt2Frame.ite ?_ ?_
    · exact Opt2Frame.none
    · refine Opt2Frame.some ?_
      try dsimp only
      refine ChangesOnly.foldl (fun _ _ => ?_) ?_
      · refine ChangesOnly.step (programCw_fr _ _ _) (by decide) ?_
        exact ChangesOnly.refl _ _
      · refine ChangesOnly.step (segGroup_fr _ _ _ _) (by decide) ?_
        exact ChangesOnly.refl _ _

theorem queueReloc_fr (s : State) (cw : Nat) : ChangesOnly [.med] s (queueReloc s cw) := by
  unfold queueReloc
  try dsimp only
  split
  · exact ChangesOnly.refl _ _
  · refine ChangesOnly.ite ?_ ?_
    · refine ChangesOnly.ite ?_ ?_
      · refine ChangesOnly.step (modPage_fr _ _ _ _) (by decide) ?_
        refine ChangesOnly.step (ensurePage_fr _ _ _) (by decide) ?_
        exact ChangesOnly.refl _ _
      · exact ChangesOnly.refl _ _
    · refine ChangesOnly.step (upMed_fr _ _) (by decide) ?_
      exact ChangesOnly.refl _ _

theorem levelEffects_fr (s : State) (m : MediaIn) (cws : List Nat) : ChangesOnly [.flt, .med] s (levelEffects s m cws) := by
  unfold levelEffects
  try dsimp only
  refine ChangesOnly.foldl (fun _ _ => ?_) ?_
  · refine ChangesOnly.ite ?_ ?_
    · refine ChangesOnly.step (raise_fr _ _) (by decide) ?_
      refine ChangesOnly.ite ?_ ?_
      · refine ChangesOnly.step (queueReloc_fr _ _) (by decide) ?_
        exact ChangesOnly.refl _ _
      · exact ChangesOnly.refl _ _
    · refine ChangesOnly.ite ?_ ?_
      · refine ChangesOnly.step (queueReloc_fr _ _) (by decide) ?_
        exact ChangesOnly.refl _ _
      · exact ChangesOnly.refl _ _
  · exact ChangesOnly.refl _ _

theorem stagedBad_fr (s : State) (v : Nat) (lba : Nat) : ChangesOnly [.flt, .med, .drc, .free] s (stagedBad s v lba) := by
  unfold stagedBad
  try dsimp only
  refine ChangesOnly.ite ?_ ?_
  · refine ChangesOnly.step (raise_fr _ _) (by decide) ?_
    refine ChangesOnly.step (upDrc_fr _ _) (by decide) ?_
    refine ChangesOnly.step (freeBelow_fr _ _) (by decide) ?_
    exact ChangesOnly.refl _ _
  · refine ChangesOnly.step (raise_fr _ _) (by decide) ?_
    refine ChangesOnly.step (upMed_fr _ _) (by decide) ?_
    refine ChangesOnly.step (raise_fr _ _) (by decide) ?_
    refine ChangesOnly.step (upDrc_fr _ _) (by decide) ?_
    refine ChangesOnly.step (freeBelow_fr _ _) (by decide) ?_
    exact ChangesOnly.refl _ _

theorem fetchLeaf_fr (s : State) (v : Nat) (st : Nat) : ChangesOnly [.med] s (fetchLeaf s v st) := by
  unfold fetchLeaf
  try dsimp only
  refine ChangesOnly.ite ?_ ?_
  · exact ChangesOnly.refl _ _
  · refine ChangesOnly.step (upMed_fr _ _) (by decide) ?_
    exact ChangesOnly.refl _ _


/-! ### PipeOps -/

theorem setPipes_fr (s : State) (decomp : Bool) (l : Machine.SMap Machine.PipeReq) : ChangesOnly [.cmp] s (setPipes s decomp l) := by
  unfold setPipes
  try dsimp only
  refine ChangesOnly.step (upCmp_fr _ _) (by decide) ?_
  exact ChangesOnly.refl _ _

theorem askPipe_fr (s : State) (r : Machine.PipeReq) : ChangesOnly [.cmp] s (askPipe s r) := by
  unfold askPipe
  try dsimp only
  refine ChangesOnly.ite ?_ ?_
  · exact ChangesOnly.refl _ _
  · refine ChangesOnly.ite ?_ ?_
    · exact ChangesOnly.refl _ _
    · refine ChangesOnly.step (upCmp_fr _ _) (by decide) ?_
      exact ChangesOnly.refl _ _

theorem leavePipe_fr (s : State) (r : Machine.PipeReq) : ChangesOnly [.cmp] s (leavePipe s r) := by
  unfold leavePipe
  try dsimp only
  refine ChangesOnly.step (upCmp_fr _ _) (by decide) ?_
  exact ChangesOnly.refl _ _

theorem dropPipes_fr (s : State) (tag : Nat) : ChangesOnly [.cmp] s (dropPipes s tag) := by
  unfold dropPipes
  try dsimp only
  refine ChangesOnly.step (upCmp_fr _ _) (by decide) ?_
  exact ChangesOnly.refl _ _


/-! ### TaskOps -/

theorem noteFailed_fr (s : State) (o : Machine.Op) (r : Machine.Reply) : ChangesOnly [.tsk] s (noteFailed s o r) := by
  unfold noteFailed
  try dsimp only
  refine ChangesOnly.ite ?_ ?_
  · exact ChangesOnly.refl _ _
  · refine ChangesOnly.step (upTsk_fr _ _) (by decide) ?_
    exact ChangesOnly.refl _ _

theorem clearCtx_fr (s : State) (n : Nat) (tag : Nat) : ChangesOnly [.tsk, .sec] s (clearCtx s n tag) := by
  unfold clearCtx
  try dsimp only
  split
  · exact ChangesOnly.refl _ _
  · refine ChangesOnly.foldl (fun _ _ => ?_) ?_
    · refine ChangesOnly.step (finish_fr _ _ _) (by decide) ?_
      exact ChangesOnly.refl _ _
    · refine ChangesOnly.step (upSec_fr _ _) (by decide) ?_
      exact ChangesOnly.refl _ _

theorem failPart_fr (s : State) (tag : Nat) : ChangesOnly [.tsk, .sec] s (failPart s tag) := by
  unfold failPart
  try dsimp only
  split
  · exact ChangesOnly.refl _ _
  · refine ChangesOnly.ite ?_ ?_
    · refine ChangesOnly.step (clearCtx_fr _ _ _) (by decide) ?_
      exact ChangesOnly.refl _ _
    · refine ChangesOnly.step (upSec_fr _ _) (by decide) ?_
      refine ChangesOnly.foldl (fun _ _ => ?_) ?_
      · refine ChangesOnly.step (finish_fr _ _ _) (by decide) ?_
        exact ChangesOnly.refl _ _
      · exact ChangesOnly.refl _ _

theorem freeMirror_fr (s : State) (tag : Nat) : ChangesOnly [.pair] s (freeMirror s tag) := by
  unfold freeMirror
  try dsimp only
  refine ChangesOnly.step (upPair_fr _ _) (by decide) ?_
  exact ChangesOnly.refl _ _

theorem spoil_fr (s : State) (o : Machine.Op) : ChangesOnly [.hst, .tsk, .drc, .hostMem, .arena, .free] s (spoil s o) := by
  unfold spoil
  try dsimp only
  refine ChangesOnly.ite ?_ ?_
  · exact ChangesOnly.refl _ _
  · refine ChangesOnly.step (deliverAddr_fr _ _ _) (by decide) ?_
    refine ChangesOnly.step (freeBytes_fr _ _) (by decide) ?_
    exact ChangesOnly.refl _ _

theorem abandon_fr (s : State) (o : Machine.Op) : ChangesOnly [.hst, .tsk, .med, .drc, .cmp, .sec, .pair, .hostMem, .arena, .free] s (abandon s o) := by
  unfold abandon
  try dsimp only
  refine ChangesOnly.step (flipBack_fr _ _) (by decide) ?_
  refine ChangesOnly.ite ?_ ?_
  · refine ChangesOnly.step (arenaWrite_fr _ _ _) (by decide) ?_
    refine ChangesOnly.step (freeBytes_fr _ _) (by decide) ?_
    refine ChangesOnly.step (modOp_fr _ _ _) (by decide) ?_
    refine ChangesOnly.ite ?_ ?_
    · refine ChangesOnly.step (deliver_fr _ _ _ _) (by decide) ?_
      refine ChangesOnly.step (freeBytes_fr _ _) (by decide) ?_
      refine ChangesOnly.step (failPart_fr _ _) (by decide) ?_
      refine ChangesOnly.step (freeMirror_fr _ _) (by decide) ?_
      refine ChangesOnly.step (upMed_fr _ _) (by decide) ?_
      refine ChangesOnly.step (dropPipes_fr _ _) (by decide) ?_
      refine ChangesOnly.step (releaseLock_fr _ _) (by decide) ?_
      exact ChangesOnly.refl _ _
    · refine ChangesOnly.step (failPart_fr _ _) (by decide) ?_
      refine ChangesOnly.step (freeMirror_fr _ _) (by decide) ?_
      refine ChangesOnly.step (upMed_fr _ _) (by decide) ?_
      refine ChangesOnly.step (dropPipes_fr _ _) (by decide) ?_
      refine ChangesOnly.step (releaseLock_fr _ _) (by decide) ?_
      exact ChangesOnly.refl _ _
  · refine ChangesOnly.ite ?_ ?_
    · refine ChangesOnly.step (spoil_fr _ _) (by decide) ?_
      refine ChangesOnly.step (modOp_fr _ _ _) (by decide) ?_
      refine ChangesOnly.ite ?_ ?_
      · refine ChangesOnly.step (deliver_fr _ _ _ _) (by decide) ?_
        refine ChangesOnly.step (freeBytes_fr _ _) (by decide) ?_
        refine ChangesOnly.step (failPart_fr _ _) (by decide) ?_
        refine ChangesOnly.step (freeMirror_fr _ _) (by decide) ?_
        refine ChangesOnly.step (upMed_fr _ _) (by decide) ?_
        refine ChangesOnly.step (dropPipes_fr _ _) (by decide) ?_
        refine ChangesOnly.step (releaseLock_fr _ _) (by decide) ?_
        exact ChangesOnly.refl _ _
      · refine ChangesOnly.step (failPart_fr _ _) (by decide) ?_
        refine ChangesOnly.step (freeMirror_fr _ _) (by decide) ?_
        refine ChangesOnly.step (upMed_fr _ _) (by decide) ?_
        refine ChangesOnly.step (dropPipes_fr _ _) (by decide) ?_
        refine ChangesOnly.step (releaseLock_fr _ _) (by decide) ?_
        exact ChangesOnly.refl _ _
    · refine ChangesOnly.step (modOp_fr _ _ _) (by decide) ?_
      refine ChangesOnly.ite ?_ ?_
      · refine ChangesOnly.step (deliver_fr _ _ _ _) (by decide) ?_
        refine ChangesOnly.step (freeBytes_fr _ _) (by decide) ?_
        refine ChangesOnly.step (failPart_fr _ _) (by decide) ?_
        refine ChangesOnly.step (freeMirror_fr _ _) (by decide) ?_
        refine ChangesOnly.step (upMed_fr _ _) (by decide) ?_
        refine ChangesOnly.step (dropPipes_fr _ _) (by decide) ?_
        refine ChangesOnly.step (releaseLock_fr _ _) (by decide) ?_
        exact ChangesOnly.refl _ _
      · refine ChangesOnly.step (failPart_fr _ _) (by decide) ?_
        refine ChangesOnly.step (freeMirror_fr _ _) (by decide) ?_
        refine ChangesOnly.step (upMed_fr _ _) (by decide) ?_
        refine ChangesOnly.step (dropPipes_fr _ _) (by decide) ?_
        refine ChangesOnly.step (releaseLock_fr _ _) (by decide) ?_
        exact ChangesOnly.refl _ _

theorem failEarly_fr (s : State) (tag : Nat) (r : Machine.Reply) : ChangesOnly [.tsk, .sec] s (failEarly s tag r) := by
  unfold failEarly
  try dsimp only
  refine ChangesOnly.step (finish_fr _ _ _) (by decide) ?_
  refine ChangesOnly.step (failPart_fr _ _) (by decide) ?_
  refine ChangesOnly.step (releaseLock_fr _ _) (by decide) ?_
  exact ChangesOnly.refl _ _

theorem toRing_fr (s : State) (ring : Nat) (w : Machine.Waiting) : ChangesOnly [.tsk] s (toRing s ring w) := by
  unfold toRing
  try dsimp only
  refine ChangesOnly.step (upTsk_fr _ _) (by decide) ?_
  exact ChangesOnly.refl _ _

theorem fpPump_fr (s : State) : ChangesOnly [.glb, .tsk] s (fpPump s) := by
  unfold fpPump
  try dsimp only
  refine ChangesOnly.ite ?_ ?_
  · exact ChangesOnly.refl _ _
  · refine ChangesOnly.foldl (fun _ _ => ?_) ?_
    · split
      · refine ChangesOnly.step (dropOp_fr _ _) (by decide) ?_
        exact ChangesOnly.refl _ _
      · refine ChangesOnly.step (upGlb_fr _ _) (by decide) ?_
        exact ChangesOnly.refl _ _
      · exact ChangesOnly.refl _ _
    · refine ChangesOnly.step (upGlb_fr _ _) (by decide) ?_
      exact ChangesOnly.refl _ _

theorem handOver_fr (s : State) (o : Machine.Op) (r : Machine.Reply) : ChangesOnly [.glb, .hst, .tsk] s (handOver s o r) := by
  unfold handOver
  try dsimp only
  refine ChangesOnly.ite ?_ ?_
  · refine ChangesOnly.step (dropOp_fr _ _) (by decide) ?_
    refine ChangesOnly.step (modOp_fr _ _ _) (by decide) ?_
    refine ChangesOnly.step (flipBack_fr _ _) (by decide) ?_
    refine ChangesOnly.step (releaseLock_fr _ _) (by decide) ?_
    refine ChangesOnly.step (noteFailed_fr _ _ _) (by decide) ?_
    exact ChangesOnly.refl _ _
  · refine ChangesOnly.ite ?_ ?_
    · refine ChangesOnly.step (fpPump_fr _) (by decide) ?_
      refine ChangesOnly.step (upGlb_fr _ _) (by decide) ?_
      refine ChangesOnly.step (modOp_fr _ _ _) (by decide) ?_
      refine ChangesOnly.step (flipBack_fr _ _) (by decide) ?_
      refine ChangesOnly.step (releaseLock_fr _ _) (by decide) ?_
      refine ChangesOnly.step (noteFailed_fr _ _ _) (by decide) ?_
      exact ChangesOnly.refl _ _
    · refine ChangesOnly.step (toRing_fr _ _ _) (by decide) ?_
      refine ChangesOnly.step (modOp_fr _ _ _) (by decide) ?_
      refine ChangesOnly.step (flipBack_fr _ _) (by decide) ?_
      refine ChangesOnly.step (releaseLock_fr _ _) (by decide) ?_
      refine ChangesOnly.step (noteFailed_fr _ _ _) (by decide) ?_
      exact ChangesOnly.refl _ _

theorem complete_fr (s : State) (tag : Nat) (r : Machine.Reply) : ChangesOnly [.glb, .hst, .tsk] s (complete s tag r) := by
  unfold complete
  try dsimp only
  split
  · refine ChangesOnly.step (handOver_fr _ _ _) (by decide) ?_
    refine ChangesOnly.step (finish_fr _ _ _) (by decide) ?_
    exact ChangesOnly.refl _ _
  · refine ChangesOnly.step (finish_fr _ _ _) (by decide) ?_
    exact ChangesOnly.refl _ _


/-! ### ResetOps -/

theorem shadowQueue_fr (s : State) : ChangesOnly [.flt] s (shadowQueue s) := by
  unfold shadowQueue
  try dsimp only
  refine ChangesOnly.foldl (fun _ _ => ?_) ?_
  · refine ChangesOnly.step (shadowFault_fr _ _ _) (by decide) ?_
    exact ChangesOnly.refl _ _
  · refine ChangesOnly.step (upFlt_fr _ _) (by decide) ?_
    exact ChangesOnly.refl _ _

theorem flrContexts_fr (s : State) : ChangesOnly [.sec] s (flrContexts s) := by
  unfold flrContexts
  try dsimp only
  refine ChangesOnly.step (upSec_fr _ _) (by decide) ?_
  exact ChangesOnly.refl _ _

theorem hostDown_fr (s : State) : ChangesOnly [.hst] s (hostDown s) := by
  unfold hostDown
  try dsimp only
  refine ChangesOnly.step (upHst_fr _ _) (by decide) ?_
  exact ChangesOnly.refl _ _

theorem dropQueues_fr (s : State) : ChangesOnly [.tsk] s (dropQueues s) := by
  unfold dropQueues
  try dsimp only
  refine ChangesOnly.step (upTsk_fr _ _) (by decide) ?_
  exact ChangesOnly.refl _ _

theorem soloAgain_fr (s : State) : ChangesOnly [.med, .sec, .pair] s (soloAgain s) := by
  unfold soloAgain
  try dsimp only
  refine ChangesOnly.step (upPair_fr _ _) (by decide) ?_
  refine ChangesOnly.step (upMed_fr _ _) (by decide) ?_
  refine ChangesOnly.step (upSec_fr _ _) (by decide) ?_
  exact ChangesOnly.refl _ _

theorem dropPairing_fr (s : State) : ChangesOnly [.med, .sec, .pair] s (dropPairing s) := by
  unfold dropPairing
  try dsimp only
  refine ChangesOnly.step (upPair_fr _ _) (by decide) ?_
  refine ChangesOnly.ite ?_ ?_
  · refine ChangesOnly.step (soloAgain_fr _) (by decide) ?_
    exact ChangesOnly.refl _ _
  · exact ChangesOnly.refl _ _

theorem dropJoins_fr (s : State) : ChangesOnly [.mesh] s (dropJoins s) := by
  unfold dropJoins
  try dsimp only
  refine ChangesOnly.step (upMesh_fr _ _) (by decide) ?_
  exact ChangesOnly.refl _ _

theorem failIncomplete_fr (s : State) : ChangesOnly [.glb, .hst, .tsk, .med, .drc, .kite, .cmp, .sec, .pair, .mesh, .hostMem, .arena, .free] s (failIncomplete s) := by
  unfold failIncomplete
  try dsimp only
  refine ChangesOnly.foldl (fun _ _ => ?_) ?_
  · refine ChangesOnly.step (settleRing_fr _ _) (by decide) ?_
    exact ChangesOnly.refl _ _
  · refine ChangesOnly.step (upKite_fr _ _) (by decide) ?_
    refine ChangesOnly.foldl (fun _ _ => ?_) ?_
    · refine ChangesOnly.step (endInst_fr _ _ _) (by decide) ?_
      exact ChangesOnly.refl _ _
    · refine ChangesOnly.step (dropJoins_fr _) (by decide) ?_
      refine ChangesOnly.step (dropPairing_fr _) (by decide) ?_
      refine ChangesOnly.foldl (fun _ _ => ?_) ?_
      · refine ChangesOnly.step (finish_fr _ _ _) (by decide) ?_
        refine ChangesOnly.step (abandon_fr _ _) (by decide) ?_
        exact ChangesOnly.refl _ _
      · refine ChangesOnly.step (upGlb_fr _ _) (by decide) ?_
        exact ChangesOnly.refl _ _

theorem dropCommands_fr (s : State) : ChangesOnly [.glb, .hst, .tsk, .med, .drc, .kite, .cmp, .sec, .pair, .mesh, .hostMem, .arena, .free] s (dropCommands s) := by
  unfold dropCommands
  try dsimp only
  refine ChangesOnly.step (upTsk_fr _ _) (by decide) ?_
  refine ChangesOnly.step (failIncomplete_fr _) (by decide) ?_
  exact ChangesOnly.refl _ _

theorem startDump_fr (s : State) (purpose : Nat) : ChangesOnly [.glb, .med] s (startDump s purpose) := by
  unfold startDump
  try dsimp only
  refine ChangesOnly.ite ?_ ?_
  · refine ChangesOnly.step (upMed_fr _ _) (by decide) ?_
    exact ChangesOnly.refl _ _
  · refine ChangesOnly.step (upMed_fr _ _) (by decide) ?_
    refine ChangesOnly.step (dropCkpt_fr _) (by decide) ?_
    refine ChangesOnly.step (upGlb_fr _ _) (by decide) ?_
    exact ChangesOnly.refl _ _

theorem deviceReset_fr (s : State) (cause : Nat) : ChangesOnly [.pwr, .flt, .glb, .hst, .tsk, .med, .drc, .kite, .way, .cmp, .sec, .hlt, .pair, .mesh, .arena] s (deviceReset s cause) := by
  unfold deviceReset
  try dsimp only
  exact ⟨rfl, fun p hp => by cases p <;> first | rfl | exact absurd hp (by decide)⟩

theorem loseAon_fr (s : State) : ChangesOnly [.pwr, .flt, .hlt] s (loseAon s) := by
  unfold loseAon
  try dsimp only
  refine ChangesOnly.step (upHlt_fr _ _) (by decide) ?_
  refine ChangesOnly.step (upPwr_fr _ _) (by decide) ?_
  refine ChangesOnly.step (upFlt_fr _ _) (by decide) ?_
  exact ChangesOnly.refl _ _

theorem tapFollow_fr (s : State) : ChangesOnly [.glb] s (tapFollow s) := by
  unfold tapFollow
  try dsimp only
  refine ChangesOnly.step (upGlb_fr _ _) (by decide) ?_
  exact ChangesOnly.refl _ _

theorem beginReset_fr (s : State) (cause : Nat) : ChangesOnly [.pwr, .flt, .glb, .hst, .tsk, .med, .drc, .kite, .way, .cmp, .sec, .hlt, .pair, .mesh, .hostMem, .arena, .free] s (beginReset s cause) := by
  unfold beginReset
  try dsimp only
  refine ChangesOnly.ite ?_ ?_
  · refine ChangesOnly.step (deviceReset_fr _ _) (by decide) ?_
    refine ChangesOnly.step (upFlt_fr _ _) (by decide) ?_
    refine ChangesOnly.step (shadowQueue_fr _) (by decide) ?_
    refine ChangesOnly.step (dropCommands_fr _) (by decide) ?_
    refine ChangesOnly.ite ?_ ?_
    · refine ChangesOnly.step (sendT_fr _ _) (by decide) ?_
      refine ChangesOnly.step (hostDown_fr _) (by decide) ?_
      exact ChangesOnly.refl _ _
    · refine ChangesOnly.step (hostDown_fr _) (by decide) ?_
      exact ChangesOnly.refl _ _
  · refine ChangesOnly.step (startDump_fr _ _) (by decide) ?_
    refine ChangesOnly.step (upGlb_fr _ _) (by decide) ?_
    refine ChangesOnly.step (upFlt_fr _ _) (by decide) ?_
    refine ChangesOnly.step (shadowQueue_fr _) (by decide) ?_
    refine ChangesOnly.step (dropCommands_fr _) (by decide) ?_
    refine ChangesOnly.ite ?_ ?_
    · refine ChangesOnly.step (sendT_fr _ _) (by decide) ?_
      refine ChangesOnly.step (hostDown_fr _) (by decide) ?_
      exact ChangesOnly.refl _ _
    · refine ChangesOnly.step (hostDown_fr _) (by decide) ?_
      exact ChangesOnly.refl _ _


/-! ### PowerOps -/

theorem powerRecord_fr (s : State) (target : Nat) (outcome : Nat) (code : Nat) (source : Nat) : ChangesOnly [.pwr] s (powerRecord s target outcome code source) := by
  unfold powerRecord
  try dsimp only
  refine ChangesOnly.step (upPwr_fr _ _) (by decide) ?_
  exact ChangesOnly.refl _ _

theorem countRefuser_fr (s : State) (target : Nat) (code : Nat) : ChangesOnly [.pwr] s (countRefuser s target code) := by
  unfold countRefuser
  try dsimp only
  refine ChangesOnly.step (upPwr_fr _ _) (by decide) ?_
  exact ChangesOnly.refl _ _

theorem replyPower_fr (s : State) (r : Machine.PowerReq) (r1 : Nat) : ChangesOnly [.tsk] s (replyPower s r r1) := by
  unfold replyPower
  try dsimp only
  split
  · refine ChangesOnly.step (finish_fr _ _ _) (by decide) ?_
    exact ChangesOnly.refl _ _
  · exact ChangesOnly.refl _ _

theorem refusePower_fr (s : State) (r : Machine.PowerReq) (code : Nat) : ChangesOnly [.pwr, .tsk] s (refusePower s r code) := by
  unfold refusePower
  try dsimp only
  refine ChangesOnly.step (replyPower_fr _ _ _) (by decide) ?_
  refine ChangesOnly.step (powerRecord_fr _ _ _ _ _) (by decide) ?_
  refine ChangesOnly.step (upPwr_fr _ _) (by decide) ?_
  refine ChangesOnly.step (countRefuser_fr _ _ _) (by decide) ?_
  exact ChangesOnly.refl _ _

theorem startEntry_fr (s : State) (r : Machine.PowerReq) : ChangesOnly [.pwr, .tsk] s (startEntry s r) := by
  unfold startEntry
  try dsimp only
  split
  · refine ChangesOnly.step (refusePower_fr _ _ _) (by decide) ?_
    exact ChangesOnly.refl _ _
  · refine ChangesOnly.step (upPwr_fr _ _) (by decide) ?_
    exact ChangesOnly.refl _ _

theorem startExit_fr (s : State) (r : Machine.PowerReq) : ChangesOnly [.pwr] s (startExit s r) := by
  unfold startExit
  try dsimp only
  refine ChangesOnly.step (upPwr_fr _ _) (by decide) ?_
  exact ChangesOnly.refl _ _

theorem wake_fr (s : State) : ChangesOnly [.pwr] s (wake s) := by
  unfold wake
  try dsimp only
  refine ChangesOnly.ite ?_ ?_
  · refine ChangesOnly.step (startExit_fr _ _) (by decide) ?_
    exact ChangesOnly.refl _ _
  · exact ChangesOnly.refl _ _

theorem wakeGlide_fr (s : State) : ChangesOnly [.pwr] s (wakeGlide s) := by
  unfold wakeGlide
  try dsimp only
  refine ChangesOnly.ite ?_ ?_
  · refine ChangesOnly.step (wake_fr _) (by decide) ?_
    exact ChangesOnly.refl _ _
  · exact ChangesOnly.refl _ _

theorem beginPower_fr (s : State) (r : Machine.PowerReq) : ChangesOnly [.pwr, .tsk] s (beginPower s r) := by
  unfold beginPower
  try dsimp only
  refine ChangesOnly.ite ?_ ?_
  · refine ChangesOnly.ite ?_ ?_
    · refine ChangesOnly.step (refusePower_fr _ _ _) (by decide) ?_
      exact ChangesOnly.refl _ _
    · split
      · refine ChangesOnly.step (refusePower_fr _ _ _) (by decide) ?_
        exact ChangesOnly.refl _ _
      · refine ChangesOnly.ite ?_ ?_
        · refine ChangesOnly.step (upPwr_fr _ _) (by decide) ?_
          refine ChangesOnly.step (replyPower_fr _ _ _) (by decide) ?_
          exact ChangesOnly.refl _ _
        · refine ChangesOnly.step (startEntry_fr _ _) (by decide) ?_
          refine ChangesOnly.step (upPwr_fr _ _) (by decide) ?_
          refine ChangesOnly.step (replyPower_fr _ _ _) (by decide) ?_
          exact ChangesOnly.refl _ _
  · refine ChangesOnly.ite ?_ ?_
    · refine ChangesOnly.step (replyPower_fr _ _ _) (by decide) ?_
      exact ChangesOnly.refl _ _
    · refine ChangesOnly.ite ?_ ?_
      · refine ChangesOnly.step (startExit_fr _ _) (by decide) ?_
        exact ChangesOnly.refl _ _
      · refine ChangesOnly.ite ?_ ?_
        · refine ChangesOnly.step (startEntry_fr _ _) (by decide) ?_
          exact ChangesOnly.refl _ _
        · refine ChangesOnly.step (upPwr_fr _ _) (by decide) ?_
          exact ChangesOnly.refl _ _

theorem clusterOff_fr (s : State) (n : Nat) : ChangesOnly [.kite] s (clusterOff s n) := by
  unfold clusterOff
  try dsimp only
  refine ChangesOnly.ite ?_ ?_
  · exact ChangesOnly.refl _ _
  · refine ChangesOnly.foldl (fun _ _ => ?_) ?_
    · refine ChangesOnly.step (modCore_fr _ _ _) (by decide) ?_
      exact ChangesOnly.refl _ _
    · refine ChangesOnly.step (modCluster_fr _ _ _) (by decide) ?_
      exact ChangesOnly.refl _ _

theorem entryPhase_fr (s : State) (target : Nat) (phase : Nat) : ChangesOnly [.pwr, .med, .kite, .way, .sec, .pair, .mesh, .arena, .free] s (entryPhase s target phase) := by
  unfold entryPhase
  try dsimp only
  refine ChangesOnly.ite ?_ ?_
  · refine ChangesOnly.ite ?_ ?_
    · refine ChangesOnly.set_arena (by decide) ?_
      refine ChangesOnly.step (upWay_fr _ _) (by decide) ?_
      exact ChangesOnly.refl _ _
    · refine ChangesOnly.ite ?_ ?_
      · refine ChangesOnly.step (upPwr_fr _ _) (by decide) ?_
        exact ChangesOnly.refl _ _
      · exact ChangesOnly.refl _ _
  · split
    · refine ChangesOnly.step (upPwr_fr _ _) (by decide) ?_
      exact ChangesOnly.refl _ _
    · refine ChangesOnly.step (upPwr_fr _ _) (by decide) ?_
      exact ChangesOnly.refl _ _
    · refine ChangesOnly.foldl (fun _ _ => ?_) ?_
      · refine ChangesOnly.step (clusterOff_fr _ _) (by decide) ?_
        exact ChangesOnly.refl _ _
      · exact ChangesOnly.refl _ _
    · refine ChangesOnly.step (flushAll_fr _) (by decide) ?_
      exact ChangesOnly.refl _ _
    · refine ChangesOnly.step (upPwr_fr _ _) (by decide) ?_
      exact ChangesOnly.refl _ _
    · exact ChangesOnly.refl _ _

theorem modIsland_fr (s : State) (i : Nat) (f : Machine.IslandMargin → Machine.IslandMargin) : ChangesOnly [.hlt] s (modIsland s i f) := by
  unfold modIsland
  try dsimp only
  refine ChangesOnly.step (upHlt_fr _ _) (by decide) ?_
  exact ChangesOnly.refl _ _

theorem thermalMove_fr (s : State) : ChangesOnly [.hlt] s (thermalMove s) := by
  unfold thermalMove
  try dsimp only
  refine ChangesOnly.step (upHlt_fr _ _) (by decide) ?_
  exact ChangesOnly.refl _ _

theorem thermalStep_fr (s : State) : ChangesOnly [.hlt] s (thermalStep s) := by
  unfold thermalStep
  try dsimp only
  refine ChangesOnly.ite ?_ ?_
  · refine ChangesOnly.ite ?_ ?_
    · refine ChangesOnly.step (thermalMove_fr _) (by decide) ?_
      exact ChangesOnly.refl _ _
    · exact ChangesOnly.refl _ _
  · refine ChangesOnly.ite ?_ ?_
    · refine ChangesOnly.step (thermalMove_fr _) (by decide) ?_
      exact ChangesOnly.refl _ _
    · exact ChangesOnly.refl _ _

theorem bankLoss_fr (s : State) (i : Nat) : ChangesOnly [.flt, .kite, .way, .hlt] s (bankLoss s i) := by
  unfold bankLoss
  try dsimp only
  split
  · refine ChangesOnly.foldl (fun _ _ => ?_) ?_
    · refine ChangesOnly.step (modCore_fr _ _ _) (by decide) ?_
      exact ChangesOnly.refl _ _
    · refine ChangesOnly.ite ?_ ?_
      · refine ChangesOnly.step (upWay_fr _ _) (by decide) ?_
        refine ChangesOnly.step (raise_fr _ _) (by decide) ?_
        refine ChangesOnly.step (upHlt_fr _ _) (by decide) ?_
        refine ChangesOnly.step (modIsland_fr _ _ _) (by decide) ?_
        exact ChangesOnly.refl _ _
      · refine ChangesOnly.step (raise_fr _ _) (by decide) ?_
        refine ChangesOnly.step (upHlt_fr _ _) (by decide) ?_
        refine ChangesOnly.step (modIsland_fr _ _ _) (by decide) ?_
        exact ChangesOnly.refl _ _
  · refine ChangesOnly.ite ?_ ?_
    · refine ChangesOnly.step (upWay_fr _ _) (by decide) ?_
      refine ChangesOnly.step (raise_fr _ _) (by decide) ?_
      refine ChangesOnly.step (upHlt_fr _ _) (by decide) ?_
      refine ChangesOnly.step (modIsland_fr _ _ _) (by decide) ?_
      exact ChangesOnly.refl _ _
    · refine ChangesOnly.step (raise_fr _ _) (by decide) ?_
      refine ChangesOnly.step (upHlt_fr _ _) (by decide) ?_
      refine ChangesOnly.step (modIsland_fr _ _ _) (by decide) ?_
      exact ChangesOnly.refl _ _

theorem exitPhase_fr (s : State) (phase : Nat) (lost : List Nat) : ChangesOnly [.pwr, .flt, .drc, .kite, .way, .hlt] s (exitPhase s phase lost) := by
  unfold exitPhase
  try dsimp only
  split
  · refine ChangesOnly.step (upPwr_fr _ _) (by decide) ?_
    exact ChangesOnly.refl _ _
  · refine ChangesOnly.step (upDrc_fr _ _) (by decide) ?_
    exact ChangesOnly.refl _ _
  · refine ChangesOnly.foldl (fun _ _ => ?_) ?_
    · refine ChangesOnly.step (bankLoss_fr _ _) (by decide) ?_
      exact ChangesOnly.refl _ _
    · refine ChangesOnly.step (upHlt_fr _ _) (by decide) ?_
      refine ChangesOnly.step (upPwr_fr _ _) (by decide) ?_
      exact ChangesOnly.refl _ _
  · refine ChangesOnly.step (upPwr_fr _ _) (by decide) ?_
    exact ChangesOnly.refl _ _
  · exact ChangesOnly.refl _ _

theorem nextPower_fr (s : State) : ChangesOnly [.pwr, .tsk] s (nextPower s) := by
  unfold nextPower
  try dsimp only
  split
  · refine ChangesOnly.step (beginPower_fr _ _) (by decide) ?_
    refine ChangesOnly.step (upPwr_fr _ _) (by decide) ?_
    exact ChangesOnly.refl _ _
  · refine ChangesOnly.ite ?_ ?_
    · refine ChangesOnly.step (wake_fr _) (by decide) ?_
      exact ChangesOnly.refl _ _
    · exact ChangesOnly.refl _ _

theorem enterBallast_fr (s : State) : ChangesOnly [.pwr] s (enterBallast s) := by
  unfold enterBallast
  try dsimp only
  split
  · refine ChangesOnly.step (upPwr_fr _ _) (by decide) ?_
    refine ChangesOnly.step (powerRecord_fr _ _ _ _ _) (by decide) ?_
    refine ChangesOnly.step (countRefuser_fr _ _ _) (by decide) ?_
    refine ChangesOnly.step (upPwr_fr _ _) (by decide) ?_
    exact ChangesOnly.refl _ _
  · refine ChangesOnly.step (upPwr_fr _ _) (by decide) ?_
    refine ChangesOnly.step (upPwr_fr _ _) (by decide) ?_
    exact ChangesOnly.refl _ _

theorem completeEntry_fr (s : State) (r : Machine.PowerReq) : ChangesOnly [.pwr, .tsk] s (completeEntry s r) := by
  unfold completeEntry
  try dsimp only
  refine ChangesOnly.ite ?_ ?_
  · refine ChangesOnly.step (enterBallast_fr _) (by decide) ?_
    refine ChangesOnly.step (replyPower_fr _ _ _) (by decide) ?_
    refine ChangesOnly.step (powerRecord_fr _ _ _ _ _) (by decide) ?_
    refine ChangesOnly.step (upPwr_fr _ _) (by decide) ?_
    exact ChangesOnly.refl _ _
  · refine ChangesOnly.step (nextPower_fr _) (by decide) ?_
    refine ChangesOnly.step (replyPower_fr _ _ _) (by decide) ?_
    refine ChangesOnly.step (powerRecord_fr _ _ _ _ _) (by decide) ?_
    refine ChangesOnly.step (upPwr_fr _ _) (by decide) ?_
    exact ChangesOnly.refl _ _

theorem patrolMissed_fr (s : State) : ChangesOnly [.pwr, .med] s (patrolMissed s) := by
  unfold patrolMissed
  try dsimp only
  refine ChangesOnly.ite ?_ ?_
  · refine ChangesOnly.step (upPwr_fr _ _) (by decide) ?_
    refine ChangesOnly.step (upMed_fr _ _) (by decide) ?_
    exact ChangesOnly.refl _ _
  · exact ChangesOnly.refl _ _

theorem holdupStuck_fr (s : State) : ChangesOnly [.pwr, .flt, .tsk, .med] s (holdupStuck s) := by
  unfold holdupStuck
  try dsimp only
  refine ChangesOnly.step (postEvent_fr _ _ _ _ _) (by decide) ?_
  refine ChangesOnly.step (upPwr_fr _ _) (by decide) ?_
  refine ChangesOnly.step (raise_fr _ _) (by decide) ?_
  refine ChangesOnly.step (upMed_fr _ _) (by decide) ?_
  exact ChangesOnly.refl _ _

theorem reachMoored_fr (s : State) : ChangesOnly [.pwr, .flt, .tsk, .med, .drc] s (reachMoored s) := by
  unfold reachMoored
  try dsimp only
  refine ChangesOnly.ite ?_ ?_
  · refine ChangesOnly.step (holdupStuck_fr _) (by decide) ?_
    refine ChangesOnly.ite ?_ ?_
    · refine ChangesOnly.step (upPwr_fr _ _) (by decide) ?_
      refine ChangesOnly.step (upDrc_fr _ _) (by decide) ?_
      refine ChangesOnly.step (patrolMissed_fr _) (by decide) ?_
      refine ChangesOnly.step (upPwr_fr _ _) (by decide) ?_
      exact ChangesOnly.refl _ _
    · refine ChangesOnly.step (upDrc_fr _ _) (by decide) ?_
      refine ChangesOnly.step (patrolMissed_fr _) (by decide) ?_
      refine ChangesOnly.step (upPwr_fr _ _) (by decide) ?_
      exact ChangesOnly.refl _ _
  · refine ChangesOnly.ite ?_ ?_
    · refine ChangesOnly.step (upPwr_fr _ _) (by decide) ?_
      refine ChangesOnly.step (upDrc_fr _ _) (by decide) ?_
      refine ChangesOnly.step (patrolMissed_fr _) (by decide) ?_
      refine ChangesOnly.step (upPwr_fr _ _) (by decide) ?_
      exact ChangesOnly.refl _ _
    · refine ChangesOnly.step (upDrc_fr _ _) (by decide) ?_
      refine ChangesOnly.step (patrolMissed_fr _) (by decide) ?_
      refine ChangesOnly.step (upPwr_fr _ _) (by decide) ?_
      exact ChangesOnly.refl _ _

theorem endAbort_fr (s : State) (r : Machine.PowerReq) (code : Nat) : ChangesOnly [.pwr, .tsk] s (endAbort s r code) := by
  unfold endAbort
  try dsimp only
  refine ChangesOnly.step (nextPower_fr _) (by decide) ?_
  refine ChangesOnly.step (replyPower_fr _ _ _) (by decide) ?_
  refine ChangesOnly.step (upPwr_fr _ _) (by decide) ?_
  refine ChangesOnly.step (powerRecord_fr _ _ _ _ _) (by decide) ?_
  refine ChangesOnly.step (countRefuser_fr _ _ _) (by decide) ?_
  refine ChangesOnly.step (upPwr_fr _ _) (by decide) ?_
  exact ChangesOnly.refl _ _

theorem completeExit_fr (s : State) (r : Machine.PowerReq) : ChangesOnly [.pwr, .tsk] s (completeExit s r) := by
  unfold completeExit
  try dsimp only
  refine ChangesOnly.step (nextPower_fr _) (by decide) ?_
  refine ChangesOnly.step (replyPower_fr _ _ _) (by decide) ?_
  refine ChangesOnly.step (upPwr_fr _ _) (by decide) ?_
  exact ChangesOnly.refl _ _

theorem phaseEnd_fr (s : State) (t : Machine.Transition) (imageOk : Bool) (lost : List Nat) : ChangesOnly [.pwr, .flt, .glb, .hst, .tsk, .med, .drc, .kite, .way, .cmp, .sec, .hlt, .pair, .mesh, .arena, .free] s (phaseEnd s t imageOk lost) := by
  unfold phaseEnd
  try dsimp only
  refine ChangesOnly.ite ?_ ?_
  · refine ChangesOnly.ite ?_ ?_
    · refine ChangesOnly.step (deviceReset_fr _ _) (by decide) ?_
      exact ChangesOnly.refl _ _
    · refine ChangesOnly.ite ?_ ?_
      · refine ChangesOnly.step (reachMoored_fr _) (by decide) ?_
        refine ChangesOnly.ite ?_ ?_
        · refine ChangesOnly.step (upPwr_fr _ _) (by decide) ?_
          exact ChangesOnly.refl _ _
        · exact ChangesOnly.refl _ _
      · refine ChangesOnly.step (upPwr_fr _ _) (by decide) ?_
        refine ChangesOnly.ite ?_ ?_
        · refine ChangesOnly.step (upPwr_fr _ _) (by decide) ?_
          exact ChangesOnly.refl _ _
        · exact ChangesOnly.refl _ _
  · refine ChangesOnly.ite ?_ ?_
    · split
      · refine ChangesOnly.ite ?_ ?_
        · refine ChangesOnly.step (endAbort_fr _ _ _) (by decide) ?_
          refine ChangesOnly.step (exitPhase_fr _ _ _) (by decide) ?_
          exact ChangesOnly.refl _ _
        · refine ChangesOnly.step (upPwr_fr _ _) (by decide) ?_
          refine ChangesOnly.step (exitPhase_fr _ _ _) (by decide) ?_
          exact ChangesOnly.refl _ _
      · refine ChangesOnly.ite ?_ ?_
        · refine ChangesOnly.step (completeExit_fr _ _) (by decide) ?_
          refine ChangesOnly.step (exitPhase_fr _ _ _) (by decide) ?_
          exact ChangesOnly.refl _ _
        · refine ChangesOnly.step (upPwr_fr _ _) (by decide) ?_
          refine ChangesOnly.step (exitPhase_fr _ _ _) (by decide) ?_
          exact ChangesOnly.refl _ _
    · refine ChangesOnly.ite ?_ ?_
      · refine ChangesOnly.step (completeEntry_fr _ _) (by decide) ?_
        refine ChangesOnly.step (entryPhase_fr _ _ _) (by decide) ?_
        exact ChangesOnly.refl _ _
      · split
        · refine ChangesOnly.step (upPwr_fr _ _) (by decide) ?_
          refine ChangesOnly.step (entryPhase_fr _ _ _) (by decide) ?_
          exact ChangesOnly.refl _ _
        · refine ChangesOnly.ite ?_ ?_
          · refine ChangesOnly.step (upPwr_fr _ _) (by decide) ?_
            refine ChangesOnly.step (upPwr_fr _ _) (by decide) ?_
            refine ChangesOnly.step (powerRecord_fr _ _ _ _ _) (by decide) ?_
            refine ChangesOnly.step (countRefuser_fr _ _ _) (by decide) ?_
            refine ChangesOnly.step (entryPhase_fr _ _ _) (by decide) ?_
            exact ChangesOnly.refl _ _
          · refine ChangesOnly.step (upPwr_fr _ _) (by decide) ?_
            refine ChangesOnly.step (entryPhase_fr _ _ _) (by decide) ?_
            exact ChangesOnly.refl _ _

theorem endArming_fr (s : State) (byCommand : Bool) : ChangesOnly [.pwr] s (endArming s byCommand) := by
  unfold endArming
  try dsimp only
  refine ChangesOnly.step (powerRecord_fr _ _ _ _ _) (by decide) ?_
  refine ChangesOnly.ite ?_ ?_
  · refine ChangesOnly.step (countRefuser_fr _ _ _) (by decide) ?_
    refine ChangesOnly.step (upPwr_fr _ _) (by decide) ?_
    exact ChangesOnly.refl _ _
  · refine ChangesOnly.step (upPwr_fr _ _) (by decide) ?_
    exact ChangesOnly.refl _ _

theorem powerAccept_fr (s : State) (opc : Nat) : ChangesOnly [.pwr] s (powerAccept s opc) := by
  unfold powerAccept
  try dsimp only
  refine ChangesOnly.ite ?_ ?_
  · refine ChangesOnly.ite ?_ ?_
    · refine ChangesOnly.step (endArming_fr _ _) (by decide) ?_
      exact ChangesOnly.refl _ _
    · exact ChangesOnly.refl _ _
  · split
    · refine ChangesOnly.ite ?_ ?_
      · refine ChangesOnly.ite ?_ ?_
        · refine ChangesOnly.step (endArming_fr _ _) (by decide) ?_
          exact ChangesOnly.refl _ _
        · exact ChangesOnly.refl _ _
      · refine ChangesOnly.step (upPwr_fr _ _) (by decide) ?_
        refine ChangesOnly.ite ?_ ?_
        · refine ChangesOnly.step (endArming_fr _ _) (by decide) ?_
          exact ChangesOnly.refl _ _
        · exact ChangesOnly.refl _ _
    · refine ChangesOnly.step (wake_fr _) (by decide) ?_
      refine ChangesOnly.ite ?_ ?_
      · refine ChangesOnly.step (endArming_fr _ _) (by decide) ?_
        exact ChangesOnly.refl _ _
      · exact ChangesOnly.refl _ _


/-! ### Registers -/

theorem writeHead_fr (s : State) (ring : Nat) (v : Nat) : ChangesOnly [.tsk] s (writeHead s ring v) := by
  unfold writeHead
  try dsimp only
  split
  · exact ChangesOnly.refl _ _
  · refine ChangesOnly.ite ?_ ?_
    · refine ChangesOnly.step (upTsk_fr _ _) (by decide) ?_
      exact ChangesOnly.refl _ _
    · refine ChangesOnly.step (upTsk_fr _ _) (by decide) ?_
      exact ChangesOnly.refl _ _

theorem writeRingStatus_fr (s : State) (ring : Nat) (v : Nat) : ChangesOnly [.hst, .tsk] s (writeRingStatus s ring v) := by
  unfold writeRingStatus
  try dsimp only
  split
  · exact ChangesOnly.refl _ _
  · refine ChangesOnly.ite ?_ ?_
    · refine ChangesOnly.step (msixSend_fr _ _) (by decide) ?_
      refine ChangesOnly.step (upTsk_fr _ _) (by decide) ?_
      exact ChangesOnly.refl _ _
    · refine ChangesOnly.step (upTsk_fr _ _) (by decide) ?_
      exact ChangesOnly.refl _ _

theorem postFailover_fr (s : State) : ChangesOnly [.flt, .tsk] s (postFailover s) := by
  unfold postFailover
  try dsimp only
  split
  · exact ChangesOnly.refl _ _
  · refine ChangesOnly.step (postEvent_fr _ _ _ _ _) (by decide) ?_
    refine ChangesOnly.step (upFlt_fr _ _) (by decide) ?_
    exact ChangesOnly.refl _ _

theorem writeRing0_fr (s : State) (v : Nat) : ChangesOnly [.flt, .tsk] s (writeRing0 s v) := by
  unfold writeRing0
  try dsimp only
  refine ChangesOnly.ite ?_ ?_
  · exact ChangesOnly.refl _ _
  · refine ChangesOnly.ite ?_ ?_
    · refine ChangesOnly.step (postFailover_fr _) (by decide) ?_
      refine ChangesOnly.step (upTsk_fr _ _) (by decide) ?_
      exact ChangesOnly.refl _ _
    · refine ChangesOnly.step (upTsk_fr _ _) (by decide) ?_
      exact ChangesOnly.refl _ _

theorem writeBase_fr (s : State) (high : Bool) (v : Nat) : ChangesOnly [.tsk] s (writeBase s high v) := by
  unfold writeBase
  try dsimp only
  refine ChangesOnly.ite ?_ ?_
  · exact ChangesOnly.refl _ _
  · refine ChangesOnly.step (upTsk_fr _ _) (by decide) ?_
    exact ChangesOnly.refl _ _

theorem writeFlip_fr (s : State) (v : Nat) : ChangesOnly [.hst] s (writeFlip s v) := by
  unfold writeFlip
  try dsimp only
  refine ChangesOnly.ite ?_ ?_
  · refine ChangesOnly.step (upHst_fr _ _) (by decide) ?_
    exact ChangesOnly.refl _ _
  · refine ChangesOnly.ite ?_ ?_
    · refine ChangesOnly.step (upHst_fr _ _) (by decide) ?_
      refine ChangesOnly.step (upHst_fr _ _) (by decide) ?_
      exact ChangesOnly.refl _ _
    · refine ChangesOnly.ite ?_ ?_
      · refine ChangesOnly.step (toDeviceBias_fr _ _) (by decide) ?_
        refine ChangesOnly.step (upHst_fr _ _) (by decide) ?_
        refine ChangesOnly.step (upHst_fr _ _) (by decide) ?_
        exact ChangesOnly.refl _ _
      · refine ChangesOnly.step (upHst_fr _ _) (by decide) ?_
        refine ChangesOnly.step (upHst_fr _ _) (by decide) ?_
        refine ChangesOnly.step (upHst_fr _ _) (by decide) ?_
        exact ChangesOnly.refl _ _

theorem writeAck_fr (s : State) (v : Nat) : ChangesOnly [.flt] s (writeAck s v) := by
  unfold writeAck
  try dsimp only
  refine ChangesOnly.step (upFlt_fr _ _) (by decide) ?_
  refine ChangesOnly.foldl (fun _ _ => ?_) ?_
  · refine ChangesOnly.step (addHistory_fr _ _ _ _ _ _) (by decide) ?_
    exact ChangesOnly.refl _ _
  · exact ChangesOnly.refl _ _

theorem writeSrc_fr (s : State) (v : Nat) : ChangesOnly [.flt] s (writeSrc s v) := by
  unfold writeSrc
  try dsimp only
  refine ChangesOnly.ite ?_ ?_
  · refine ChangesOnly.step (upFlt_fr _ _) (by decide) ?_
    exact ChangesOnly.refl _ _
  · refine ChangesOnly.step (upFlt_fr _ _) (by decide) ?_
    exact ChangesOnly.refl _ _

theorem writeCeLimit_fr (s : State) (v : Nat) : ChangesOnly [.flt] s (writeCeLimit s v) := by
  unfold writeCeLimit
  try dsimp only
  refine ChangesOnly.step (upFlt_fr _ _) (by decide) ?_
  exact ChangesOnly.refl _ _

theorem writeLock_fr (s : State) (v : Nat) : ChangesOnly [.glb] s (writeLock s v) := by
  unfold writeLock
  try dsimp only
  refine ChangesOnly.step (upGlb_fr _ _) (by decide) ?_
  exact ChangesOnly.refl _ _

theorem writeGcCtrl_fr (s : State) (v : Nat) : ChangesOnly [.med] s (writeGcCtrl s v) := by
  unfold writeGcCtrl
  try dsimp only
  refine ChangesOnly.step (upMed_fr _ _) (by decide) ?_
  exact ChangesOnly.refl _ _

theorem writeSeal_fr (s : State) (v : Nat) : ChangesOnly [.med] s (writeSeal s v) := by
  unfold writeSeal
  try dsimp only
  refine ChangesOnly.step (upMed_fr _ _) (by decide) ?_
  exact ChangesOnly.refl _ _

theorem writePatrol_fr (s : State) (v : Nat) : ChangesOnly [.med] s (writePatrol s v) := by
  unfold writePatrol
  try dsimp only
  refine ChangesOnly.step (upMed_fr _ _) (by decide) ?_
  exact ChangesOnly.refl _ _

theorem writeKcl_fr (s : State) (n : Nat) (v : Nat) : ChangesOnly [.kite] s (writeKcl s n v) := by
  unfold writeKcl
  try dsimp only
  refine ChangesOnly.step (settleRing_fr _ _) (by decide) ?_
  refine ChangesOnly.step (modCluster_fr _ _ _) (by decide) ?_
  exact ChangesOnly.refl _ _

theorem setTable_fr (s : State) (t : Nat) (x : Machine.WTable) : ChangesOnly [.way] s (setTable s t x) := by
  unfold setTable
  try dsimp only
  refine ChangesOnly.step (upWay_fr _ _) (by decide) ?_
  exact ChangesOnly.refl _ _

theorem writeTable_fr (s : State) (t : Nat) (v : Nat) : ChangesOnly [.way] s (writeTable s t v) := by
  unfold writeTable
  try dsimp only
  refine ChangesOnly.ite ?_ ?_
  · refine ChangesOnly.ite ?_ ?_
    · refine ChangesOnly.step (upWay_fr _ _) (by decide) ?_
      exact ChangesOnly.refl _ _
    · refine ChangesOnly.step (upWay_fr _ _) (by decide) ?_
      refine ChangesOnly.step (setTable_fr _ _ _) (by decide) ?_
      exact ChangesOnly.refl _ _
  · refine ChangesOnly.ite ?_ ?_
    · refine ChangesOnly.step (setTable_fr _ _ _) (by decide) ?_
      exact ChangesOnly.refl _ _
    · refine ChangesOnly.ite ?_ ?_
      · refine ChangesOnly.step (upWay_fr _ _) (by decide) ?_
        exact ChangesOnly.refl _ _
      · refine ChangesOnly.step (upWay_fr _ _) (by decide) ?_
        refine ChangesOnly.step (setTable_fr _ _ _) (by decide) ?_
        exact ChangesOnly.refl _ _

theorem writePolicy_fr (s : State) (clk : Bool) (v : Nat) : ChangesOnly [.hlt] s (writePolicy s clk v) := by
  unfold writePolicy
  try dsimp only
  refine ChangesOnly.ite ?_ ?_
  · refine ChangesOnly.ite ?_ ?_
    · refine ChangesOnly.step (upHlt_fr _ _) (by decide) ?_
      exact ChangesOnly.refl _ _
    · refine ChangesOnly.step (upHlt_fr _ _) (by decide) ?_
      exact ChangesOnly.refl _ _
  · refine ChangesOnly.ite ?_ ?_
    · refine ChangesOnly.step (upHlt_fr _ _) (by decide) ?_
      exact ChangesOnly.refl _ _
    · refine ChangesOnly.step (upHlt_fr _ _) (by decide) ?_
      exact ChangesOnly.refl _ _

theorem writeWitness_fr (s : State) (i : Nat) (v : Nat) : ChangesOnly [.pair] s (writeWitness s i v) := by
  unfold writeWitness
  try dsimp only
  refine ChangesOnly.ite ?_ ?_
  · refine ChangesOnly.step (upPair_fr _ _) (by decide) ?_
    exact ChangesOnly.refl _ _
  · refine ChangesOnly.step (upPair_fr _ _) (by decide) ?_
    exact ChangesOnly.refl _ _

theorem writeRebuildCtrl_fr (s : State) (v : Nat) : ChangesOnly [.mesh] s (writeRebuildCtrl s v) := by
  unfold writeRebuildCtrl
  try dsimp only
  refine ChangesOnly.step (upMesh_fr _ _) (by decide) ?_
  exact ChangesOnly.refl _ _

theorem writeDgCtrl_fr (s : State) (v : Nat) : ChangesOnly [.sec] s (writeDgCtrl s v) := by
  unfold writeDgCtrl
  try dsimp only
  refine ChangesOnly.ite ?_ ?_
  · exact ChangesOnly.refl _ _
  · refine ChangesOnly.step (upSec_fr _ _) (by decide) ?_
    exact ChangesOnly.refl _ _

theorem writeLow_fr (s : State) (off : Nat) (v : Nat) : ChangesOnly [.pwr, .flt, .glb, .hst, .tsk] s (writeLow s off v) := by
  unfold writeLow
  try dsimp only
  split
  · refine ChangesOnly.step (writeLock_fr _ _) (by decide) ?_
    exact ChangesOnly.refl _ _
  · refine ChangesOnly.step (upHst_fr _ _) (by decide) ?_
    exact ChangesOnly.refl _ _
  · refine ChangesOnly.step (upHst_fr _ _) (by decide) ?_
    exact ChangesOnly.refl _ _
  · refine ChangesOnly.step (writeFlip_fr _ _) (by decide) ?_
    exact ChangesOnly.refl _ _
  · refine ChangesOnly.step (upHst_fr _ _) (by decide) ?_
    exact ChangesOnly.refl _ _
  · refine ChangesOnly.step (writeBase_fr _ _ _) (by decide) ?_
    exact ChangesOnly.refl _ _
  · refine ChangesOnly.step (writeBase_fr _ _ _) (by decide) ?_
    exact ChangesOnly.refl _ _
  · refine ChangesOnly.step (writeRing0_fr _ _) (by decide) ?_
    exact ChangesOnly.refl _ _
  · refine ChangesOnly.step (upTsk_fr _ _) (by decide) ?_
    exact ChangesOnly.refl _ _
  · refine ChangesOnly.step (upPwr_fr _ _) (by decide) ?_
    exact ChangesOnly.refl _ _
  · refine ChangesOnly.step (upFlt_fr _ _) (by decide) ?_
    exact ChangesOnly.refl _ _
  · refine ChangesOnly.step (writeAck_fr _ _) (by decide) ?_
    exact ChangesOnly.refl _ _
  · refine ChangesOnly.step (upFlt_fr _ _) (by decide) ?_
    exact ChangesOnly.refl _ _
  · refine ChangesOnly.step (writeSrc_fr _ _) (by decide) ?_
    exact ChangesOnly.refl _ _
  · refine ChangesOnly.step (writeCeLimit_fr _ _) (by decide) ?_
    exact ChangesOnly.refl _ _
  · exact ChangesOnly.refl _ _

theorem writeHigh_fr (s : State) (off : Nat) (v : Nat) : ChangesOnly [.med, .way, .cmp, .sec, .hlt, .pair, .mesh] s (writeHigh s off v) := by
  unfold writeHigh
  try dsimp only
  split
  · refine ChangesOnly.step (upHlt_fr _ _) (by decide) ?_
    exact ChangesOnly.refl _ _
  · refine ChangesOnly.step (writePolicy_fr _ _ _) (by decide) ?_
    exact ChangesOnly.refl _ _
  · refine ChangesOnly.step (writePolicy_fr _ _ _) (by decide) ?_
    exact ChangesOnly.refl _ _
  · refine ChangesOnly.step (upHlt_fr _ _) (by decide) ?_
    exact ChangesOnly.refl _ _
  · refine ChangesOnly.step (upSec_fr _ _) (by decide) ?_
    exact ChangesOnly.refl _ _
  · refine ChangesOnly.step (upSec_fr _ _) (by decide) ?_
    exact ChangesOnly.refl _ _
  · refine ChangesOnly.step (writeDgCtrl_fr _ _) (by decide) ?_
    exact ChangesOnly.refl _ _
  · refine ChangesOnly.step (writeWitness_fr _ _ _) (by decide) ?_
    exact ChangesOnly.refl _ _
  · refine ChangesOnly.step (writeWitness_fr _ _ _) (by decide) ?_
    exact ChangesOnly.refl _ _
  · refine ChangesOnly.step (writeWitness_fr _ _ _) (by decide) ?_
    exact ChangesOnly.refl _ _
  · refine ChangesOnly.step (upPair_fr _ _) (by decide) ?_
    exact ChangesOnly.refl _ _
  · refine ChangesOnly.step (upMesh_fr _ _) (by decide) ?_
    exact ChangesOnly.refl _ _
  · refine ChangesOnly.step (writeRebuildCtrl_fr _ _) (by decide) ?_
    exact ChangesOnly.refl _ _
  · refine ChangesOnly.step (upMesh_fr _ _) (by decide) ?_
    exact ChangesOnly.refl _ _
  · refine ChangesOnly.step (upMed_fr _ _) (by decide) ?_
    exact ChangesOnly.refl _ _
  · refine ChangesOnly.step (writeGcCtrl_fr _ _) (by decide) ?_
    exact ChangesOnly.refl _ _
  · refine ChangesOnly.step (writeSeal_fr _ _) (by decide) ?_
    exact ChangesOnly.refl _ _
  · refine ChangesOnly.step (upMed_fr _ _) (by decide) ?_
    exact ChangesOnly.refl _ _
  · refine ChangesOnly.step (writePatrol_fr _ _) (by decide) ?_
    exact ChangesOnly.refl _ _
  · refine ChangesOnly.step (upWay_fr _ _) (by decide) ?_
    exact ChangesOnly.refl _ _
  · refine ChangesOnly.step (upCmp_fr _ _) (by decide) ?_
    exact ChangesOnly.refl _ _
  · exact ChangesOnly.refl _ _

theorem write32_fr (s : State) (off : Nat) (v : Nat) : ChangesOnly [.pwr, .flt, .glb, .hst, .tsk, .med, .kite, .way, .cmp, .sec, .hlt, .pair, .mesh] s (write32 s off v) := by
  unfold write32
  try dsimp only
  refine ChangesOnly.ite ?_ ?_
  · refine ChangesOnly.ite ?_ ?_
    · refine ChangesOnly.step (writeHead_fr _ _ _) (by decide) ?_
      exact ChangesOnly.refl _ _
    · refine ChangesOnly.ite ?_ ?_
      · refine ChangesOnly.step (writeRingStatus_fr _ _ _) (by decide) ?_
        exact ChangesOnly.refl _ _
      · exact ChangesOnly.refl _ _
  · refine ChangesOnly.ite ?_ ?_
    · refine ChangesOnly.ite ?_ ?_
      · refine ChangesOnly.step (writeKcl_fr _ _ _) (by decide) ?_
        exact ChangesOnly.refl _ _
      · refine ChangesOnly.ite ?_ ?_
        · refine ChangesOnly.step (modCluster_fr _ _ _) (by decide) ?_
          exact ChangesOnly.refl _ _
        · exact ChangesOnly.refl _ _
    · refine ChangesOnly.ite ?_ ?_
      · refine ChangesOnly.ite ?_ ?_
        · refine ChangesOnly.step (writeTable_fr _ _ _) (by decide) ?_
          exact ChangesOnly.refl _ _
        · exact ChangesOnly.refl _ _
      · refine ChangesOnly.ite ?_ ?_
        · refine ChangesOnly.step (upFlt_fr _ _) (by decide) ?_
          exact ChangesOnly.refl _ _
        · refine ChangesOnly.ite ?_ ?_
          · refine ChangesOnly.step (writeLow_fr _ _ _) (by decide) ?_
            exact ChangesOnly.refl _ _
          · refine ChangesOnly.step (writeHigh_fr _ _ _) (by decide) ?_
            exact ChangesOnly.refl _ _

theorem onBar_fr {ps : List Part} (s : State) (f : State → State) (h : ∀ s, ChangesOnly ps s (f s)) : OutFrame ps s (onBar s f) := by
  unfold onBar
  refine OutFrame.next ?_
  refine ChangesOnly.ite ?_ ?_
  · exact h s
  · exact ChangesOnly.refl _ _

theorem execRrhHeadWrite_fr (ring : Nat) (value : Nat) (s : State) : OutFrame [.tsk] s (execRrhHeadWrite ring value s) := by
  unfold execRrhHeadWrite
  try dsimp only
  refine onBar_fr _ _ (fun _ => ?_)
  refine ChangesOnly.step (writeHead_fr _ _ _) (by decide) ?_
  exact ChangesOnly.refl _ _

theorem execRrhIntMaskClear_fr (ring : Nat) (value : Nat) (s : State) : OutFrame [.hst, .tsk] s (execRrhIntMaskClear ring value s) := by
  unfold execRrhIntMaskClear
  try dsimp only
  refine onBar_fr _ _ (fun _ => ?_)
  refine ChangesOnly.step (writeRingStatus_fr _ _ _) (by decide) ?_
  exact ChangesOnly.refl _ _

theorem execTskRing0CtrlWrite_fr (value : Nat) (s : State) : OutFrame [.flt, .tsk] s (execTskRing0CtrlWrite value s) := by
  unfold execTskRing0CtrlWrite
  try dsimp only
  refine onBar_fr _ _ (fun _ => ?_)
  refine ChangesOnly.step (writeRing0_fr _ _) (by decide) ?_
  exact ChangesOnly.refl _ _

theorem execHstBiasFlipGo_fr (value : Nat) (s : State) : OutFrame [.hst] s (execHstBiasFlipGo value s) := by
  unfold execHstBiasFlipGo
  try dsimp only
  refine onBar_fr _ _ (fun _ => ?_)
  refine ChangesOnly.step (writeFlip_fr _ _) (by decide) ?_
  exact ChangesOnly.refl _ _

theorem execFltAckWrite_fr (value : Nat) (s : State) : OutFrame [.flt] s (execFltAckWrite value s) := by
  unfold execFltAckWrite
  try dsimp only
  refine onBar_fr _ _ (fun _ => ?_)
  refine ChangesOnly.step (writeAck_fr _ _) (by decide) ?_
  exact ChangesOnly.refl _ _

theorem execFltSrcWrite_fr (value : Nat) (s : State) : OutFrame [.flt] s (execFltSrcWrite value s) := by
  unfold execFltSrcWrite
  try dsimp only
  refine onBar_fr _ _ (fun _ => ?_)
  refine ChangesOnly.step (writeSrc_fr _ _) (by decide) ?_
  exact ChangesOnly.refl _ _

theorem execFltCeLimitWrite_fr (value : Nat) (s : State) : OutFrame [.flt] s (execFltCeLimitWrite value s) := by
  unfold execFltCeLimitWrite
  try dsimp only
  refine onBar_fr _ _ (fun _ => ?_)
  refine ChangesOnly.step (writeCeLimit_fr _ _) (by decide) ?_
  exact ChangesOnly.refl _ _

theorem execFpLockWrite_fr (value : Nat) (s : State) : OutFrame [.glb] s (execFpLockWrite value s) := by
  unfold execFpLockWrite
  try dsimp only
  refine onBar_fr _ _ (fun _ => ?_)
  refine ChangesOnly.step (writeLock_fr _ _) (by decide) ?_
  exact ChangesOnly.refl _ _

theorem execMedGcCtrlWrite_fr (value : Nat) (s : State) : OutFrame [.med] s (execMedGcCtrlWrite value s) := by
  unfold execMedGcCtrlWrite
  try dsimp only
  refine onBar_fr _ _ (fun _ => ?_)
  refine ChangesOnly.step (writeGcCtrl_fr _ _) (by decide) ?_
  exact ChangesOnly.refl _ _

theorem execMedSealTimerWrite_fr (value : Nat) (s : State) : OutFrame [.med] s (execMedSealTimerWrite value s) := by
  unfold execMedSealTimerWrite
  try dsimp only
  refine onBar_fr _ _ (fun _ => ?_)
  refine ChangesOnly.step (writeSeal_fr _ _) (by decide) ?_
  exact ChangesOnly.refl _ _

theorem execMedPatrolCtrlWrite_fr (value : Nat) (s : State) : OutFrame [.med] s (execMedPatrolCtrlWrite value s) := by
  unfold execMedPatrolCtrlWrite
  try dsimp only
  refine onBar_fr _ _ (fun _ => ?_)
  refine ChangesOnly.step (writePatrol_fr _ _) (by decide) ?_
  exact ChangesOnly.refl _ _

theorem execKclCfgWrite_fr (cluster : Nat) (value : Nat) (s : State) : OutFrame [.kite] s (execKclCfgWrite cluster value s) := by
  unfold execKclCfgWrite
  try dsimp only
  refine onBar_fr _ _ (fun _ => ?_)
  refine ChangesOnly.step (writeKcl_fr _ _ _) (by decide) ?_
  exact ChangesOnly.refl _ _

theorem execWaycTableEnable_fr (table : Nat) (value : Nat) (s : State) : OutFrame [.way] s (execWaycTableEnable table value s) := by
  unfold execWaycTableEnable
  try dsimp only
  refine onBar_fr _ _ (fun _ => ?_)
  refine ChangesOnly.ite ?_ ?_
  · refine ChangesOnly.step (writeTable_fr _ _ _) (by decide) ?_
    exact ChangesOnly.refl _ _
  · exact ChangesOnly.refl _ _

theorem execWaycTableDisable_fr (table : Nat) (value : Nat) (s : State) : OutFrame [.way] s (execWaycTableDisable table value s) := by
  unfold execWaycTableDisable
  try dsimp only
  refine onBar_fr _ _ (fun _ => ?_)
  refine ChangesOnly.ite ?_ ?_
  · exact ChangesOnly.refl _ _
  · refine ChangesOnly.step (writeTable_fr _ _ _) (by decide) ?_
    exact ChangesOnly.refl _ _

theorem execHltPolicyWrite_fr (clk : Bool) (value : Nat) (s : State) : OutFrame [.hlt] s (execHltPolicyWrite clk value s) := by
  unfold execHltPolicyWrite
  try dsimp only
  refine onBar_fr _ _ (fun _ => ?_)
  refine ChangesOnly.step (writePolicy_fr _ _ _) (by decide) ?_
  exact ChangesOnly.refl _ _

theorem execPairWitnessWrite_fr (index : Nat) (value : Nat) (s : State) : OutFrame [.pair] s (execPairWitnessWrite index value s) := by
  unfold execPairWitnessWrite
  try dsimp only
  refine onBar_fr _ _ (fun _ => ?_)
  refine ChangesOnly.step (writeWitness_fr _ _ _) (by decide) ?_
  exact ChangesOnly.refl _ _

theorem execMeshRebuildCtrlWrite_fr (value : Nat) (s : State) : OutFrame [.mesh] s (execMeshRebuildCtrlWrite value s) := by
  unfold execMeshRebuildCtrlWrite
  try dsimp only
  refine onBar_fr _ _ (fun _ => ?_)
  refine ChangesOnly.step (writeRebuildCtrl_fr _ _) (by decide) ?_
  exact ChangesOnly.refl _ _

theorem execSecDgCtrlWrite_fr (value : Nat) (s : State) : OutFrame [.sec] s (execSecDgCtrlWrite value s) := by
  unfold execSecDgCtrlWrite
  try dsimp only
  refine onBar_fr _ _ (fun _ => ?_)
  refine ChangesOnly.step (writeDgCtrl_fr _ _) (by decide) ?_
  exact ChangesOnly.refl _ _

theorem execRegisterWrite_fr (offset : Nat) (size : Nat) (value : Nat) (s : State) : OutFrame [.pwr, .flt, .glb, .hst, .tsk, .med, .kite, .way, .cmp, .sec, .hlt, .pair, .mesh] s (execRegisterWrite offset size value s) := by
  unfold execRegisterWrite
  try dsimp only
  refine onBar_fr _ _ (fun _ => ?_)
  refine ChangesOnly.ite ?_ ?_
  · exact ChangesOnly.refl _ _
  · refine ChangesOnly.ite ?_ ?_
    · refine ChangesOnly.step (write32_fr _ _ _) (by decide) ?_
      exact ChangesOnly.refl _ _
    · refine ChangesOnly.ite ?_ ?_
      · refine ChangesOnly.step (write32_fr _ _ _) (by decide) ?_
        refine ChangesOnly.step (write32_fr _ _ _) (by decide) ?_
        exact ChangesOnly.refl _ _
      · exact ChangesOnly.refl _ _


end Sys2Proof.Machine
end

