-- ==== Sys2Proof/Laws/FrameAdmin.lean ====
section
/-! SUPPORT. Frames of the administration, firmware and volume commands. -/

namespace Sys2Proof.Machine
open Sys2Proof

/-! ### Firmware -/

theorem recoveryDownload_fr (s : State) (off : Nat) (d : List Byte) : ChangesOnly [.glb] s (recoveryDownload s off d) := by
  unfold recoveryDownload
  try dsimp only
  refine ChangesOnly.step (upGlb_fr _ _) (by decide) ?_
  exact ChangesOnly.refl _ _

theorem stageDownload_fr (s : State) (target : Nat) (off : Nat) (d : List Byte) : ChangesOnly [.glb] s (stageDownload s target off d) := by
  unfold stageDownload
  try dsimp only
  refine ChangesOnly.step (upGlb_fr _ _) (by decide) ?_
  exact ChangesOnly.refl _ _

theorem execFwDownload_fr (tag : Nat) (host : HostRead) (s : State) : OutFrame [.glb, .tsk] s (execFwDownload tag host s) := by
  unfold execFwDownload
  try dsimp only
  split
  · refine OutFrame.next ?_
    exact ChangesOnly.refl _ _
  · split
    · refine OutFrame.next ?_
      exact ChangesOnly.refl _ _
    · refine OutFrame.next ?_
      refine ChangesOnly.step (finish_fr _ _ _) (by decide) ?_
      exact ChangesOnly.refl _ _
    · refine OutFrame.next ?_
      refine ChangesOnly.step (finish_fr _ _ _) (by decide) ?_
      refine ChangesOnly.ite ?_ ?_
      · refine ChangesOnly.step (recoveryDownload_fr _ _ _) (by decide) ?_
        exact ChangesOnly.refl _ _
      · refine ChangesOnly.step (stageDownload_fr _ _ _ _) (by decide) ?_
        exact ChangesOnly.refl _ _

theorem recoveryActivate_fr (s : State) (o : Machine.Op) : ChangesOnly [.glb, .tsk] s (recoveryActivate s o) := by
  unfold recoveryActivate
  try dsimp only
  refine ChangesOnly.ite ?_ ?_
  · refine ChangesOnly.step (finish_fr _ _ _) (by decide) ?_
    exact ChangesOnly.refl _ _
  · refine ChangesOnly.ite ?_ ?_
    · refine ChangesOnly.step (finish_fr _ _ _) (by decide) ?_
      exact ChangesOnly.refl _ _
    · refine ChangesOnly.step (finish_fr _ _ _) (by decide) ?_
      refine ChangesOnly.step (upGlb_fr _ _) (by decide) ?_
      exact ChangesOnly.refl _ _

theorem startProgram_fr (s : State) (golden : Bool) : ChangesOnly [.glb] s (startProgram s golden) := by
  unfold startProgram
  try dsimp only
  refine ChangesOnly.step (upGlb_fr _ _) (by decide) ?_
  exact ChangesOnly.refl _ _

theorem programSlot_fr (s : State) (golden : Bool) (readBack : Bool) : ChangesOnly [.glb] s (programSlot s golden readBack) := by
  unfold programSlot
  try dsimp only
  refine ChangesOnly.step (upGlb_fr _ _) (by decide) ?_
  exact ChangesOnly.refl _ _

theorem endActivate_fr (s : State) (o : Machine.Op) (nor : Bool) : ChangesOnly [.glb, .tsk] s (endActivate s o nor) := by
  unfold endActivate
  try dsimp only
  refine ChangesOnly.ite ?_ ?_
  · refine ChangesOnly.step (finish_fr _ _ _) (by decide) ?_
    refine ChangesOnly.step (programSlot_fr _ _ _) (by decide) ?_
    exact ChangesOnly.refl _ _
  · refine ChangesOnly.ite ?_ ?_
    · refine ChangesOnly.step (finish_fr _ _ _) (by decide) ?_
      refine ChangesOnly.step (upGlb_fr _ _) (by decide) ?_
      refine ChangesOnly.step (upGlb_fr _ _) (by decide) ?_
      refine ChangesOnly.step (programSlot_fr _ _ _) (by decide) ?_
      exact ChangesOnly.refl _ _
    · refine ChangesOnly.step (finish_fr _ _ _) (by decide) ?_
      refine ChangesOnly.step (upGlb_fr _ _) (by decide) ?_
      refine ChangesOnly.step (upGlb_fr _ _) (by decide) ?_
      refine ChangesOnly.step (programSlot_fr _ _ _) (by decide) ?_
      exact ChangesOnly.refl _ _

theorem execFwActivate_fr (tag : Nat) (nor : Bool) (s : State) : OutFrame [.glb, .tsk] s (execFwActivate tag nor s) := by
  unfold execFwActivate
  try dsimp only
  split
  · refine OutFrame.next ?_
    exact ChangesOnly.refl _ _
  · refine OutFrame.ite ?_ ?_
    · refine OutFrame.next ?_
      refine ChangesOnly.step (endActivate_fr _ _ _) (by decide) ?_
      exact ChangesOnly.refl _ _
    · refine OutFrame.ite ?_ ?_
      · refine OutFrame.next ?_
        refine ChangesOnly.step (recoveryActivate_fr _ _) (by decide) ?_
        exact ChangesOnly.refl _ _
      · refine OutFrame.ite ?_ ?_
        · refine OutFrame.next ?_
          refine ChangesOnly.step (finish_fr _ _ _) (by decide) ?_
          exact ChangesOnly.refl _ _
        · refine OutFrame.ite ?_ ?_
          · refine OutFrame.next ?_
            refine ChangesOnly.step (finish_fr _ _ _) (by decide) ?_
            exact ChangesOnly.refl _ _
          · refine OutFrame.ite ?_ ?_
            · refine OutFrame.next ?_
              refine ChangesOnly.step (finish_fr _ _ _) (by decide) ?_
              exact ChangesOnly.refl _ _
            · refine OutFrame.ite ?_ ?_
              · refine OutFrame.next ?_
                exact ChangesOnly.refl _ _
              · refine OutFrame.next ?_
                refine ChangesOnly.step (running_fr _ _) (by decide) ?_
                refine ChangesOnly.step (startProgram_fr _ _) (by decide) ?_
                exact ChangesOnly.refl _ _

theorem execActivationReset_fr (s : State) : OutFrame [.pwr, .flt, .glb, .hst, .tsk, .med, .drc, .kite, .way, .cmp, .sec, .hlt, .pair, .mesh, .hostMem, .arena, .free] s (execActivationReset s) := by
  unfold execActivationReset
  try dsimp only
  split
  · refine OutFrame.next ?_
    exact ChangesOnly.refl _ _
  · refine OutFrame.ite ?_ ?_
    · refine OutFrame.next ?_
      exact ChangesOnly.refl _ _
    · refine OutFrame.next ?_
      refine ChangesOnly.step (beginReset_fr _ _) (by decide) ?_
      refine ChangesOnly.step (upGlb_fr _ _) (by decide) ?_
      exact ChangesOnly.refl _ _


/-! ### Admin -/

theorem execIdentify_fr (tag : Nat) (s : State) : OutFrame [.hst, .tsk, .hostMem] s (execIdentify tag s) := by
  unfold execIdentify
  try dsimp only
  split
  · refine OutFrame.next ?_
    exact ChangesOnly.refl _ _
  · refine OutFrame.ite ?_ ?_
    · refine OutFrame.next ?_
      exact ChangesOnly.refl _ _
    · refine OutFrame.ite ?_ ?_
      · refine OutFrame.next ?_
        refine ChangesOnly.step (finish_fr _ _ _) (by decide) ?_
        refine ChangesOnly.step (deliver_fr _ _ _ _) (by decide) ?_
        exact ChangesOnly.refl _ _
      · refine OutFrame.next ?_
        refine ChangesOnly.step (finish_fr _ _ _) (by decide) ?_
        refine ChangesOnly.step (deliver_fr _ _ _ _) (by decide) ?_
        exact ChangesOnly.refl _ _

theorem execGetLog_fr (tag : Nat) (s : State) : OutFrame [.hst, .tsk, .hostMem] s (execGetLog tag s) := by
  unfold execGetLog
  try dsimp only
  split
  · refine OutFrame.next ?_
    exact ChangesOnly.refl _ _
  · refine OutFrame.ite ?_ ?_
    · refine OutFrame.next ?_
      exact ChangesOnly.refl _ _
    · refine OutFrame.next ?_
      refine ChangesOnly.step (finish_fr _ _ _) (by decide) ?_
      refine ChangesOnly.step (deliver_fr _ _ _ _) (by decide) ?_
      exact ChangesOnly.refl _ _

theorem execSetFeature_fr (tag : Nat) (s : State) : OutFrame [.glb, .tsk] s (execSetFeature tag s) := by
  unfold execSetFeature
  try dsimp only
  split
  · refine OutFrame.next ?_
    exact ChangesOnly.refl _ _
  · refine OutFrame.ite ?_ ?_
    · refine OutFrame.next ?_
      exact ChangesOnly.refl _ _
    · refine OutFrame.next ?_
      refine ChangesOnly.step (finish_fr _ _ _) (by decide) ?_
      refine ChangesOnly.step (upGlb_fr _ _) (by decide) ?_
      exact ChangesOnly.refl _ _

theorem execGetFeature_fr (tag : Nat) (s : State) : OutFrame [.tsk] s (execGetFeature tag s) := by
  unfold execGetFeature
  try dsimp only
  split
  · refine OutFrame.next ?_
    exact ChangesOnly.refl _ _
  · refine OutFrame.next ?_
    refine ChangesOnly.step (finish_fr _ _ _) (by decide) ?_
    exact ChangesOnly.refl _ _

theorem execQueueCreate_fr (tag : Nat) (s : State) : OutFrame [.tsk] s (execQueueCreate tag s) := by
  unfold execQueueCreate
  try dsimp only
  split
  · refine OutFrame.next ?_
    exact ChangesOnly.refl _ _
  · split
    · refine OutFrame.next ?_
      refine ChangesOnly.step (finish_fr _ _ _) (by decide) ?_
      exact ChangesOnly.refl _ _
    · refine OutFrame.next ?_
      refine ChangesOnly.step (finish_fr _ _ _) (by decide) ?_
      refine ChangesOnly.step (upTsk_fr _ _) (by decide) ?_
      exact ChangesOnly.refl _ _

theorem execQueueDelete_fr (tag : Nat) (s : State) : OutFrame [.tsk] s (execQueueDelete tag s) := by
  unfold execQueueDelete
  try dsimp only
  split
  · refine OutFrame.next ?_
    exact ChangesOnly.refl _ _
  · refine OutFrame.ite ?_ ?_
    · refine OutFrame.next ?_
      refine ChangesOnly.step (running_fr _ _) (by decide) ?_
      exact ChangesOnly.refl _ _
    · refine OutFrame.next ?_
      refine ChangesOnly.step (finish_fr _ _ _) (by decide) ?_
      refine ChangesOnly.step (upTsk_fr _ _) (by decide) ?_
      exact ChangesOnly.refl _ _

theorem execRingCreate_fr (tag : Nat) (s : State) : OutFrame [.tsk] s (execRingCreate tag s) := by
  unfold execRingCreate
  try dsimp only
  split
  · refine OutFrame.next ?_
    exact ChangesOnly.refl _ _
  · split
    · refine OutFrame.next ?_
      refine ChangesOnly.step (finish_fr _ _ _) (by decide) ?_
      exact ChangesOnly.refl _ _
    · refine OutFrame.next ?_
      refine ChangesOnly.step (finish_fr _ _ _) (by decide) ?_
      refine ChangesOnly.step (upTsk_fr _ _) (by decide) ?_
      exact ChangesOnly.refl _ _

theorem execRingDelete_fr (tag : Nat) (s : State) : OutFrame [.tsk] s (execRingDelete tag s) := by
  unfold execRingDelete
  try dsimp only
  split
  · refine OutFrame.next ?_
    exact ChangesOnly.refl _ _
  · split
    · refine OutFrame.next ?_
      refine ChangesOnly.step (finish_fr _ _ _) (by decide) ?_
      exact ChangesOnly.refl _ _
    · refine OutFrame.ite ?_ ?_
      · refine OutFrame.next ?_
        refine ChangesOnly.step (running_fr _ _) (by decide) ?_
        exact ChangesOnly.refl _ _
      · refine OutFrame.next ?_
        refine ChangesOnly.step (finish_fr _ _ _) (by decide) ?_
        refine ChangesOnly.step (upTsk_fr _ _) (by decide) ?_
        exact ChangesOnly.refl _ _

theorem execQueueQuery_fr (tag : Nat) (s : State) : OutFrame [.tsk] s (execQueueQuery tag s) := by
  unfold execQueueQuery
  try dsimp only
  split
  · refine OutFrame.next ?_
    exact ChangesOnly.refl _ _
  · split
    · refine OutFrame.next ?_
      refine ChangesOnly.step (finish_fr _ _ _) (by decide) ?_
      exact ChangesOnly.refl _ _
    · refine OutFrame.next ?_
      refine ChangesOnly.step (finish_fr _ _ _) (by decide) ?_
      exact ChangesOnly.refl _ _


/-! ### PairOps -/

theorem pairLog_fr (s : State) (event : Nat) (slot : Nat) (value : Nat) : ChangesOnly [.pair] s (pairLog s event slot value) := by
  unfold pairLog
  try dsimp only
  refine ChangesOnly.step (upPair_fr _ _) (by decide) ?_
  exact ChangesOnly.refl _ _

theorem takeMseq_fr (s : State) : ChangesOnly [.pair] s (takeMseq s).2 := by
  unfold takeMseq
  try dsimp only
  refine ChangesOnly.step (upPair_fr _ _) (by decide) ?_
  exact ChangesOnly.refl _ _

theorem sendMirror_fr (s : State) (o : Machine.Op) (op : Nat) (blocks : Nat) (data : List Byte) : ChangesOnly [.tsk, .sec, .pair, .mesh, .free] s (sendMirror s o op blocks data) := by
  unfold sendMirror
  try dsimp only
  refine ChangesOnly.step (sendT_fr _ _) (by decide) ?_
  refine ChangesOnly.step (modOp_fr _ _ _) (by decide) ?_
  refine ChangesOnly.step (upPair_fr _ _) (by decide) ?_
  refine ChangesOnly.step (takeMseq_fr _) (by decide) ?_
  exact ChangesOnly.refl _ _

theorem releaseMirror_fr (s : State) : ChangesOnly [.sec, .pair, .mesh, .free] s (releaseMirror s) := by
  unfold releaseMirror
  try dsimp only
  split
  · exact ChangesOnly.refl _ _
  · refine ChangesOnly.ite ?_ ?_
    · refine ChangesOnly.step (sendT_fr _ _) (by decide) ?_
      refine ChangesOnly.step (upPair_fr _ _) (by decide) ?_
      exact ChangesOnly.refl _ _
    · refine ChangesOnly.step (upPair_fr _ _) (by decide) ?_
      exact ChangesOnly.refl _ _

theorem modEntry_fr (s : State) (q : Option Nat) (f : Machine.MirrorOut → Machine.MirrorOut) : ChangesOnly [.pair] s (modEntry s q f) := by
  unfold modEntry
  try dsimp only
  split
  · refine ChangesOnly.step (upPair_fr _ _) (by decide) ?_
    exact ChangesOnly.refl _ _
  · exact ChangesOnly.refl _ _

theorem sendKey_fr (s : State) (vol : Nat) (install : Bool) (capacity : Nat) (attrs : Nat) (keyId : Nat) : ChangesOnly [.sec, .pair, .mesh, .free] s (sendKey s vol install capacity attrs keyId) := by
  unfold sendKey
  try dsimp only
  refine ChangesOnly.step (sendT_fr _ _) (by decide) ?_
  exact ChangesOnly.refl _ _

theorem awaitKey_fr (s : State) (tag : Nat) (vol : Nat) : ChangesOnly [.tsk, .pair] s (awaitKey s tag vol) := by
  unfold awaitKey
  try dsimp only
  refine ChangesOnly.step (running_fr _ _) (by decide) ?_
  refine ChangesOnly.step (upPair_fr _ _) (by decide) ?_
  exact ChangesOnly.refl _ _

theorem noteKeySent_fr (s : State) (o : Machine.Op) : ChangesOnly [.tsk] s (noteKeySent s o) := by
  unfold noteKeySent
  try dsimp only
  refine ChangesOnly.ite ?_ ?_
  · exact ChangesOnly.refl _ _
  · refine ChangesOnly.step (modOp_fr _ _ _) (by decide) ?_
    exact ChangesOnly.refl _ _

theorem keyWaitOver_fr (s : State) (tag : Nat) : ChangesOnly [.pair] s (keyWaitOver s tag) := by
  unfold keyWaitOver
  try dsimp only
  refine ChangesOnly.step (upPair_fr _ _) (by decide) ?_
  exact ChangesOnly.refl _ _


/-! ### ReconOps -/

theorem modRecon_fr (s : State) (req : Nat) (f : Machine.Recon → Machine.Recon) : ChangesOnly [.mesh] s (modRecon s req f) := by
  unfold modRecon
  try dsimp only
  refine ChangesOnly.step (upMesh_fr _ _) (by decide) ?_
  exact ChangesOnly.refl _ _

theorem settleRecon_fr (s : State) (req : Nat) : ChangesOnly [.med, .mesh] s (settleRecon s req) := by
  unfold settleRecon
  try dsimp only
  split
  · refine ChangesOnly.ite ?_ ?_
    · refine ChangesOnly.step (upMesh_fr _ _) (by decide) ?_
      refine ChangesOnly.step (upMed_fr _ _) (by decide) ?_
      refine ChangesOnly.step (modRecon_fr _ _ _) (by decide) ?_
      exact ChangesOnly.refl _ _
    · exact ChangesOnly.refl _ _
  · exact ChangesOnly.refl _ _

theorem askUnits_fr (s : State) (r : Machine.Recon) : ChangesOnly [.med, .sec, .mesh, .free] s (askUnits s r) := by
  unfold askUnits
  try dsimp only
  split
  · exact ChangesOnly.refl _ _
  · split
    · split
      · refine ChangesOnly.step (modRecon_fr _ _ _) (by decide) ?_
        exact ChangesOnly.refl _ _
      · refine ChangesOnly.step (settleRecon_fr _ _) (by decide) ?_
        refine ChangesOnly.foldl (fun _ _ => ?_) ?_
        · refine ChangesOnly.step (sendM_fr _ _ _ _) (by decide) ?_
          exact ChangesOnly.refl _ _
        · refine ChangesOnly.step (modRecon_fr _ _ _) (by decide) ?_
          exact ChangesOnly.refl _ _
    · refine ChangesOnly.step (modRecon_fr _ _ _) (by decide) ?_
      exact ChangesOnly.refl _ _

theorem noteLevel3_fr (s : State) (r : Machine.Recon) : ChangesOnly [.med, .mesh] s (noteLevel3 s r) := by
  unfold noteLevel3
  try dsimp only
  refine ChangesOnly.ite ?_ ?_
  · exact ChangesOnly.refl _ _
  · refine ChangesOnly.step (upMed_fr _ _) (by decide) ?_
    refine ChangesOnly.step (modRecon_fr _ _ _) (by decide) ?_
    exact ChangesOnly.refl _ _

theorem startRecon_fr (s : State) (node : Nat) (band : Nat) (seg : Nat) (p : Nat) (l3 : Bool) : ChangesOnly [.med, .sec, .mesh, .free] s (startRecon s node band seg p l3) := by
  unfold startRecon
  try dsimp only
  split
  · refine ChangesOnly.ite ?_ ?_
    · refine ChangesOnly.step (noteLevel3_fr _ _) (by decide) ?_
      exact ChangesOnly.refl _ _
    · exact ChangesOnly.refl _ _
  · refine ChangesOnly.ite ?_ ?_
    · refine ChangesOnly.step (upMesh_fr _ _) (by decide) ?_
      exact ChangesOnly.refl _ _
    · refine ChangesOnly.ite ?_ ?_
      · refine ChangesOnly.step (askUnits_fr _ _) (by decide) ?_
        refine ChangesOnly.step (upMesh_fr _ _) (by decide) ?_
        exact ChangesOnly.refl _ _
      · refine ChangesOnly.foldl (fun _ _ => ?_) ?_
        · refine ChangesOnly.foldl (fun _ _ => ?_) ?_
          · refine ChangesOnly.step (sendM_fr _ _ _ _) (by decide) ?_
            exact ChangesOnly.refl _ _
          · exact ChangesOnly.refl _ _
        · refine ChangesOnly.step (upMesh_fr _ _) (by decide) ?_
          exact ChangesOnly.refl _ _

theorem rebuildStored_fr (s : State) (node : Nat) (keyId : Nat) (v : Nat) (lba : Nat) (pa : Nat) (n : Nat) (epoch : Nat) (c : Bool) (lost : List Nat) (l3 : List Nat) : ChangesOnly [.med, .sec, .mesh, .free] s (rebuildStored s node keyId v lba pa n epoch c lost l3).2 := by
  unfold rebuildStored
  try dsimp only
  refine ChangesOnly.foldl (fun _ _ => ?_) ?_
  · refine ChangesOnly.step (startRecon_fr _ _ _ _ _ _) (by decide) ?_
    exact ChangesOnly.refl _ _
  · exact ChangesOnly.refl _ _

theorem rebuildBlock_fr (s : State) (node : Nat) (keyId : Nat) (v : Nat) (lba : Nat) (pa : Nat) (n : Nat) (epoch : Nat) (c : Bool) (lost : List Nat) (l3 : List Nat) : ChangesOnly [.med, .sec, .mesh, .free] s (rebuildBlock s node keyId v lba pa n epoch c lost l3).2 := by
  unfold rebuildBlock
  try dsimp only
  split
  · try dsimp only
    refine ChangesOnly.step (rebuildStored_fr _ _ _ _ _ _ _ _ _ _ _) (by decide) ?_
    exact ChangesOnly.refl _ _
  · refine ChangesOnly.ite2 ?_ ?_
    · split
      · try dsimp only
        refine ChangesOnly.step (rebuildStored_fr _ _ _ _ _ _ _ _ _ _ _) (by decide) ?_
        exact ChangesOnly.refl _ _
      · try dsimp only
        refine ChangesOnly.step (rebuildStored_fr _ _ _ _ _ _ _ _ _ _ _) (by decide) ?_
        exact ChangesOnly.refl _ _
    · try dsimp only
      refine ChangesOnly.step (rebuildStored_fr _ _ _ _ _ _ _ _ _ _ _) (by decide) ?_
      exact ChangesOnly.refl _ _
  · try dsimp only
    refine ChangesOnly.step (rebuildStored_fr _ _ _ _ _ _ _ _ _ _ _) (by decide) ?_
    exact ChangesOnly.refl _ _

theorem countMismatch_fr (s : State) : ChangesOnly [.flt, .med] s (countMismatch s) := by
  unfold countMismatch
  try dsimp only
  refine ChangesOnly.step (raise_fr _ _) (by decide) ?_
  refine ChangesOnly.step (upMed_fr _ _) (by decide) ?_
  exact ChangesOnly.refl _ _

theorem takePage_fr (s : State) (v : Nat) (st : Nat) (l : Machine.SMap Machine.MapEntry) : ChangesOnly [.med] s (takePage s v st l) := by
  unfold takePage
  try dsimp only
  refine ChangesOnly.step (setDir_fr _ _ _ _) (by decide) ?_
  refine ChangesOnly.step (addPage_fr _ _) (by decide) ?_
  exact ChangesOnly.refl _ _

theorem lostPage_fr (s : State) (v : Nat) (st : Nat) : ChangesOnly [.med] s (lostPage s v st) := by
  unfold lostPage
  try dsimp only
  refine ChangesOnly.step (setDir_fr _ _ _ _) (by decide) ?_
  refine ChangesOnly.step (addPage_fr _ _) (by decide) ?_
  exact ChangesOnly.refl _ _

theorem inherit_fr (s : State) (v : Nat) (st : Nat) : ChangesOnly [.med, .sec, .mesh, .free] s (inherit s v st).2 := by
  unfold inherit
  try dsimp only
  refine ChangesOnly.ite2 ?_ ?_
  · try dsimp only
    exact ChangesOnly.refl _ _
  · refine ChangesOnly.ite2 ?_ ?_
    · try dsimp only
      exact ChangesOnly.refl _ _
    · refine ChangesOnly.ite2 ?_ ?_
      · try dsimp only
        exact ChangesOnly.refl _ _
      · split
        · try dsimp only
          exact ChangesOnly.refl _ _
        · try dsimp only
          refine ChangesOnly.step (takePage_fr _ _ _ _) (by decide) ?_
          exact ChangesOnly.refl _ _
        · try dsimp only
          refine ChangesOnly.step (takePage_fr _ _ _ _) (by decide) ?_
          exact ChangesOnly.refl _ _
        · split
          · try dsimp only
            refine ChangesOnly.step (startRecon_fr _ _ _ _ _ _) (by decide) ?_
            exact ChangesOnly.refl _ _
          · try dsimp only
            refine ChangesOnly.step (startRecon_fr _ _ _ _ _ _) (by decide) ?_
            exact ChangesOnly.refl _ _
          · refine ChangesOnly.ite2 ?_ ?_
            · try dsimp only
              refine ChangesOnly.step (takePage_fr _ _ _ _) (by decide) ?_
              refine ChangesOnly.step (startRecon_fr _ _ _ _ _ _) (by decide) ?_
              exact ChangesOnly.refl _ _
            · try dsimp only
              refine ChangesOnly.step (startRecon_fr _ _ _ _ _ _) (by decide) ?_
              exact ChangesOnly.refl _ _

theorem keyHit_fr (s : State) (v : Nat) : ChangesOnly [.sec] s (keyHit s v) := by
  unfold keyHit
  try dsimp only
  refine ChangesOnly.step (upSec_fr _ _) (by decide) ?_
  exact ChangesOnly.refl _ _

theorem remoteBlock_fr (s : State) (v : Nat) (lba : Nat) (pa : Nat) (n : Nat) (epoch : Nat) (c : Bool) : ChangesOnly [.med, .sec, .pair, .mesh, .free] s (remoteBlock s v lba pa n epoch c).2 := by
  unfold remoteBlock
  try dsimp only
  refine ChangesOnly.ite2 ?_ ?_
  · refine ChangesOnly.step (rebuildBlock_fr _ _ _ _ _ _ _ _ _ _ _) (by decide) ?_
    exact ChangesOnly.refl _ _
  · split
    · refine ChangesOnly.ite2 ?_ ?_
      · refine ChangesOnly.step (rebuildBlock_fr _ _ _ _ _ _ _ _ _ _ _) (by decide) ?_
        exact ChangesOnly.refl _ _
      · try dsimp only
        exact ChangesOnly.refl _ _
    · refine ChangesOnly.ite2 ?_ ?_
      · try dsimp only
        exact ChangesOnly.refl _ _
      · try dsimp only
        refine ChangesOnly.step (sendT_fr _ _) (by decide) ?_
        refine ChangesOnly.step (upPair_fr _ _) (by decide) ?_
        exact ChangesOnly.refl _ _

theorem resolve_fr (s : State) (v : Nat) (lba : Nat) : ChangesOnly [.med, .sec, .mesh, .free] s (resolve s v lba).2 := by
  unfold resolve
  try dsimp only
  split
  · try dsimp only
    exact ChangesOnly.refl _ _
  · split
    · try dsimp only
      split
      · refine ChangesOnly.ite2 ?_ ?_
        · try dsimp only
          exact ChangesOnly.refl _ _
        · refine ChangesOnly.step (inherit_fr _ _ _) (by decide) ?_
          exact ChangesOnly.refl _ _
      · refine ChangesOnly.step (inherit_fr _ _ _) (by decide) ?_
        exact ChangesOnly.refl _ _
    · try dsimp only
      split
      · refine ChangesOnly.ite2 ?_ ?_
        · try dsimp only
          exact ChangesOnly.refl _ _
        · refine ChangesOnly.step (inherit_fr _ _ _) (by decide) ?_
          exact ChangesOnly.refl _ _
      · refine ChangesOnly.step (inherit_fr _ _ _) (by decide) ?_
        exact ChangesOnly.refl _ _
    · split
      · try dsimp only
        refine ChangesOnly.step (fetchLeaf_fr _ _ _) (by decide) ?_
        split
        · refine ChangesOnly.ite2 ?_ ?_
          · try dsimp only
            exact ChangesOnly.refl _ _
          · refine ChangesOnly.step (inherit_fr _ _ _) (by decide) ?_
            exact ChangesOnly.refl _ _
        · refine ChangesOnly.step (inherit_fr _ _ _) (by decide) ?_
          exact ChangesOnly.refl _ _
      · try dsimp only
        split
        · refine ChangesOnly.ite2 ?_ ?_
          · try dsimp only
            exact ChangesOnly.refl _ _
          · refine ChangesOnly.step (inherit_fr _ _ _) (by decide) ?_
            exact ChangesOnly.refl _ _
        · refine ChangesOnly.step (inherit_fr _ _ _) (by decide) ?_
          exact ChangesOnly.refl _ _

theorem fetchEntry_fr (s : State) (m : MediaIn) (v : Nat) (lba : Nat) (e : Machine.MapEntry) (bad : Bool) : ChangesOnly [.flt, .med, .sec, .pair, .mesh, .free] s (fetchEntry s m v lba e bad).2 := by
  unfold fetchEntry
  try dsimp only
  split
  · try dsimp only
    exact ChangesOnly.refl _ _
  · refine ChangesOnly.ite2 ?_ ?_
    · try dsimp only
      exact ChangesOnly.refl _ _
    · refine ChangesOnly.ite2 ?_ ?_
      · refine ChangesOnly.step (rebuildBlock_fr _ _ _ _ _ _ _ _ _ _ _) (by decide) ?_
        exact ChangesOnly.refl _ _
      · split
        · try dsimp only
          exact ChangesOnly.refl _ _
        · try dsimp only
          exact ChangesOnly.refl _ _
        · refine ChangesOnly.step (rebuildBlock_fr _ _ _ _ _ _ _ _ _ _ _) (by decide) ?_
          exact ChangesOnly.refl _ _
        · try dsimp only
          exact ChangesOnly.refl _ _
  · refine ChangesOnly.ite2 ?_ ?_
    · try dsimp only
      exact ChangesOnly.refl _ _
    · refine ChangesOnly.ite2 ?_ ?_
      · refine ChangesOnly.step (rebuildBlock_fr _ _ _ _ _ _ _ _ _ _ _) (by decide) ?_
        exact ChangesOnly.refl _ _
      · split
        · try dsimp only
          exact ChangesOnly.refl _ _
        · try dsimp only
          exact ChangesOnly.refl _ _
        · refine ChangesOnly.step (rebuildBlock_fr _ _ _ _ _ _ _ _ _ _ _) (by decide) ?_
          exact ChangesOnly.refl _ _
        · try dsimp only
          exact ChangesOnly.refl _ _
  · refine ChangesOnly.ite2 ?_ ?_
    · refine ChangesOnly.step (remoteBlock_fr _ _ _ _ _ _ _) (by decide) ?_
      exact ChangesOnly.refl _ _
    · try dsimp only
      exact ChangesOnly.refl _ _
  · try dsimp only
    refine ChangesOnly.step (raise_fr _ _) (by decide) ?_
    exact ChangesOnly.refl _ _

theorem getBlock_fr (s : State) (m : MediaIn) (v : Nat) (lba : Nat) (bad : Bool) : ChangesOnly [.flt, .med, .drc, .sec, .pair, .mesh, .free] s (getBlock s m v lba bad).2 := by
  unfold getBlock
  try dsimp only
  split
  · refine ChangesOnly.ite2 ?_ ?_
    · try dsimp only
      refine ChangesOnly.step (stagedBad_fr _ _ _) (by decide) ?_
      refine ChangesOnly.step (resolve_fr _ _ _) (by decide) ?_
      exact ChangesOnly.refl _ _
    · refine ChangesOnly.ite2 ?_ ?_
      · try dsimp only
        refine ChangesOnly.step (resolve_fr _ _ _) (by decide) ?_
        exact ChangesOnly.refl _ _
      · try dsimp only
        refine ChangesOnly.step (resolve_fr _ _ _) (by decide) ?_
        exact ChangesOnly.refl _ _
  · try dsimp only
    refine ChangesOnly.step (resolve_fr _ _ _) (by decide) ?_
    exact ChangesOnly.refl _ _
  · try dsimp only
    refine ChangesOnly.step (resolve_fr _ _ _) (by decide) ?_
    exact ChangesOnly.refl _ _
  · refine ChangesOnly.step (fetchEntry_fr _ _ _ _ _ _) (by decide) ?_
    refine ChangesOnly.step (resolve_fr _ _ _) (by decide) ?_
    exact ChangesOnly.refl _ _

theorem rebuiltEffects_fr (s : State) (node : Nat) (v : Nat) (lba : Nat) (pa : Nat) (n : Nat) (epoch : Nat) (c : Bool) (lost : List Nat) : ChangesOnly [.flt, .med] s (rebuiltEffects s node v lba pa n epoch c lost) := by
  unfold rebuiltEffects
  try dsimp only
  refine ChangesOnly.ite ?_ ?_
  · refine ChangesOnly.step (countMismatch_fr _) (by decide) ?_
    exact ChangesOnly.refl _ _
  · exact ChangesOnly.refl _ _

theorem entryEffects_fr (s : State) (m : MediaIn) (v : Nat) (lba : Nat) (e : Machine.MapEntry) : ChangesOnly [.flt, .med, .sec] s (entryEffects s m v lba e) := by
  unfold entryEffects
  try dsimp only
  split
  · refine ChangesOnly.ite ?_ ?_
    · exact ChangesOnly.refl _ _
    · refine ChangesOnly.step (rebuiltEffects_fr _ _ _ _ _ _ _ _ _) (by decide) ?_
      exact ChangesOnly.refl _ _
  · split
    · exact ChangesOnly.refl _ _
    · split
      · refine ChangesOnly.step (rebuiltEffects_fr _ _ _ _ _ _ _ _ _) (by decide) ?_
        refine ChangesOnly.step (countMismatch_fr _) (by decide) ?_
        refine ChangesOnly.step (keyHit_fr _ _) (by decide) ?_
        refine ChangesOnly.step (levelEffects_fr _ _ _) (by decide) ?_
        exact ChangesOnly.refl _ _
      · refine ChangesOnly.step (rebuiltEffects_fr _ _ _ _ _ _ _ _ _) (by decide) ?_
        refine ChangesOnly.foldl (fun _ _ => ?_) ?_
        · refine ChangesOnly.ite ?_ ?_
          · refine ChangesOnly.step (raise_fr _ _) (by decide) ?_
            refine ChangesOnly.step (queueReloc_fr _ _) (by decide) ?_
            exact ChangesOnly.refl _ _
          · refine ChangesOnly.step (queueReloc_fr _ _) (by decide) ?_
            exact ChangesOnly.refl _ _
        · refine ChangesOnly.step (keyHit_fr _ _) (by decide) ?_
          refine ChangesOnly.step (levelEffects_fr _ _ _) (by decide) ?_
          exact ChangesOnly.refl _ _
      · refine ChangesOnly.step (keyHit_fr _ _) (by decide) ?_
        refine ChangesOnly.step (levelEffects_fr _ _ _) (by decide) ?_
        exact ChangesOnly.refl _ _

theorem leafHit_fr (s : State) (v : Nat) (st : Nat) : ChangesOnly [.med] s (leafHit s v st) := by
  unfold leafHit
  try dsimp only
  split
  · exact ChangesOnly.refl _ _
  · refine ChangesOnly.step (upMed_fr _ _) (by decide) ?_
    exact ChangesOnly.refl _ _

theorem readEffects_fr (s : State) (m : MediaIn) (v : Nat) (lba : Nat) : ChangesOnly [.flt, .med, .sec] s (readEffects s m v lba) := by
  unfold readEffects
  try dsimp only
  refine ChangesOnly.ite ?_ ?_
  · exact ChangesOnly.refl _ _
  · split
    · exact ChangesOnly.refl _ _
    · refine ChangesOnly.step (entryEffects_fr _ _ _ _ _) (by decide) ?_
      refine ChangesOnly.step (leafHit_fr _ _ _) (by decide) ?_
      exact ChangesOnly.refl _ _


/-! ### Volumes -/

theorem compactDir_fr (s : State) : ChangesOnly [.med, .sec, .pair, .mesh, .free] s (compactDir s) := by
  unfold compactDir
  try dsimp only
  refine ChangesOnly.foldl (fun _ _ => ?_) ?_
  · refine ChangesOnly.ite ?_ ?_
    · exact ChangesOnly.refl _ _
    · refine ChangesOnly.step (journal_fr _ _) (by decide) ?_
      refine ChangesOnly.step (volMod_fr _ _ _) (by decide) ?_
      exact ChangesOnly.refl _ _
  · exact ChangesOnly.refl _ _

theorem placeRun_fr (s : State) (n : Nat) : ChangesOnly [.med, .sec, .pair, .mesh, .free] s (placeRun s n).2 := by
  unfold placeRun
  try dsimp only
  split
  · try dsimp only
    exact ChangesOnly.refl _ _
  · try dsimp only
    refine ChangesOnly.step (compactDir_fr _) (by decide) ?_
    exact ChangesOnly.refl _ _

theorem addVolume_fr (s : State) (vol : Nat) (capacity : Nat) (attrs : Nat) (keyId : Nat) (foster : Bool) : ChangesOnly [.med, .sec, .pair, .mesh, .free] s (addVolume s vol capacity attrs keyId foster) := by
  unfold addVolume
  try dsimp only
  refine ChangesOnly.step (journal_fr _ _) (by decide) ?_
  refine ChangesOnly.step (upMed_fr _ _) (by decide) ?_
  refine ChangesOnly.step (placeRun_fr _ _) (by decide) ?_
  exact ChangesOnly.refl _ _

theorem putKey_fr (s : State) (k : Machine.KeyRec) : ChangesOnly [.sec] s (putKey s k) := by
  unfold putKey
  try dsimp only
  refine ChangesOnly.step (upSec_fr _ _) (by decide) ?_
  exact ChangesOnly.refl _ _

theorem dropKey_fr (s : State) (vol : Nat) : ChangesOnly [.sec] s (dropKey s vol) := by
  unfold dropKey
  try dsimp only
  refine ChangesOnly.step (upSec_fr _ _) (by decide) ?_
  exact ChangesOnly.refl _ _

theorem unstageVolume_fr (s : State) (vol : Nat) : ChangesOnly [.med, .sec, .pair, .mesh, .free] s (unstageVolume s vol) := by
  unfold unstageVolume
  try dsimp only
  refine ChangesOnly.step (releaseMirror_fr _) (by decide) ?_
  refine ChangesOnly.step (upMed_fr _ _) (by decide) ?_
  exact ChangesOnly.refl _ _

theorem removeVolume_fr (s : State) (vol : Nat) : ChangesOnly [.med, .sec, .pair, .mesh, .free] s (removeVolume s vol) := by
  unfold removeVolume
  try dsimp only
  split
  · exact ChangesOnly.refl _ _
  · refine ChangesOnly.step (journalDrain_fr _ _ _) (by decide) ?_
    refine ChangesOnly.step (upMed_fr _ _) (by decide) ?_
    refine ChangesOnly.step (unmapVolume_fr _ _) (by decide) ?_
    refine ChangesOnly.step (unstageVolume_fr _ _) (by decide) ?_
    refine ChangesOnly.step (dropKey_fr _ _) (by decide) ?_
    exact ChangesOnly.refl _ _

theorem execVolumeCreate_fr (tag : Nat) (s : State) : OutFrame [.tsk, .med, .sec, .pair, .mesh, .free] s (execVolumeCreate tag s) := by
  unfold execVolumeCreate
  try dsimp only
  split
  · refine OutFrame.next ?_
    exact ChangesOnly.refl _ _
  · refine OutFrame.ite ?_ ?_
    · refine OutFrame.ite ?_ ?_
      · refine OutFrame.next ?_
        refine ChangesOnly.step (finish_fr _ _ _) (by decide) ?_
        refine ChangesOnly.step (keyWaitOver_fr _ _) (by decide) ?_
        refine ChangesOnly.step (removeVolume_fr _ _) (by decide) ?_
        refine ChangesOnly.step (noteKeySent_fr _ _) (by decide) ?_
        exact ChangesOnly.refl _ _
      · refine OutFrame.ite ?_ ?_
        · refine OutFrame.next ?_
          refine ChangesOnly.step (finish_fr _ _ _) (by decide) ?_
          refine ChangesOnly.step (keyWaitOver_fr _ _) (by decide) ?_
          refine ChangesOnly.step (noteKeySent_fr _ _) (by decide) ?_
          exact ChangesOnly.refl _ _
        · refine OutFrame.next ?_
          refine ChangesOnly.step (noteKeySent_fr _ _) (by decide) ?_
          exact ChangesOnly.refl _ _
    · refine OutFrame.ite ?_ ?_
      · refine OutFrame.next ?_
        refine ChangesOnly.step (finish_fr _ _ _) (by decide) ?_
        exact ChangesOnly.refl _ _
      · split
        · refine OutFrame.next ?_
          refine ChangesOnly.step (finish_fr _ _ _) (by decide) ?_
          exact ChangesOnly.refl _ _
        · refine OutFrame.ite ?_ ?_
          · refine OutFrame.next ?_
            refine ChangesOnly.step (jStall_fr _) (by decide) ?_
            exact ChangesOnly.refl _ _
          · refine OutFrame.ite ?_ ?_
            · refine OutFrame.next ?_
              refine ChangesOnly.step (awaitKey_fr _ _ _) (by decide) ?_
              refine ChangesOnly.step (sendKey_fr _ _ _ _ _ _) (by decide) ?_
              refine ChangesOnly.step (addVolume_fr _ _ _ _ _ _) (by decide) ?_
              refine ChangesOnly.step (putKey_fr _ _) (by decide) ?_
              split
              · refine ChangesOnly.ite2 ?_ ?_
                · try dsimp only
                  refine ChangesOnly.step (upSec_fr _ _) (by decide) ?_
                  exact ChangesOnly.refl _ _
                · refine ChangesOnly.step (freshKey_fr _) (by decide) ?_
                  exact ChangesOnly.refl _ _
              · refine ChangesOnly.step (freshKey_fr _) (by decide) ?_
                exact ChangesOnly.refl _ _
            · refine OutFrame.next ?_
              refine ChangesOnly.step (finish_fr _ _ _) (by decide) ?_
              refine ChangesOnly.step (addVolume_fr _ _ _ _ _ _) (by decide) ?_
              refine ChangesOnly.step (putKey_fr _ _) (by decide) ?_
              split
              · refine ChangesOnly.ite2 ?_ ?_
                · try dsimp only
                  refine ChangesOnly.step (upSec_fr _ _) (by decide) ?_
                  exact ChangesOnly.refl _ _
                · refine ChangesOnly.step (freshKey_fr _) (by decide) ?_
                  exact ChangesOnly.refl _ _
              · refine ChangesOnly.step (freshKey_fr _) (by decide) ?_
                exact ChangesOnly.refl _ _

theorem execVolumeDelete_fr (tag : Nat) (s : State) : OutFrame [.tsk, .med, .sec, .pair, .mesh, .free] s (execVolumeDelete tag s) := by
  unfold execVolumeDelete
  try dsimp only
  split
  · refine OutFrame.next ?_
    exact ChangesOnly.refl _ _
  · refine OutFrame.ite ?_ ?_
    · refine OutFrame.ite ?_ ?_
      · refine OutFrame.next ?_
        refine ChangesOnly.step (finish_fr _ _ _) (by decide) ?_
        refine ChangesOnly.step (keyWaitOver_fr _ _) (by decide) ?_
        refine ChangesOnly.step (noteKeySent_fr _ _) (by decide) ?_
        exact ChangesOnly.refl _ _
      · refine OutFrame.next ?_
        refine ChangesOnly.step (noteKeySent_fr _ _) (by decide) ?_
        exact ChangesOnly.refl _ _
    · refine OutFrame.ite ?_ ?_
      · refine OutFrame.next ?_
        refine ChangesOnly.step (finish_fr _ _ _) (by decide) ?_
        exact ChangesOnly.refl _ _
      · refine OutFrame.ite ?_ ?_
        · refine OutFrame.next ?_
          refine ChangesOnly.step (jStall_fr _) (by decide) ?_
          exact ChangesOnly.refl _ _
        · refine OutFrame.ite ?_ ?_
          · refine OutFrame.next ?_
            refine ChangesOnly.step (awaitKey_fr _ _ _) (by decide) ?_
            refine ChangesOnly.step (sendKey_fr _ _ _ _ _ _) (by decide) ?_
            refine ChangesOnly.step (removeVolume_fr _ _) (by decide) ?_
            exact ChangesOnly.refl _ _
          · refine OutFrame.next ?_
            refine ChangesOnly.step (finish_fr _ _ _) (by decide) ?_
            refine ChangesOnly.step (removeVolume_fr _ _) (by decide) ?_
            exact ChangesOnly.refl _ _

theorem execVolumeQuery_fr (tag : Nat) (s : State) : OutFrame [.tsk] s (execVolumeQuery tag s) := by
  unfold execVolumeQuery
  try dsimp only
  split
  · refine OutFrame.next ?_
    exact ChangesOnly.refl _ _
  · split
    · refine OutFrame.next ?_
      refine ChangesOnly.step (finish_fr _ _ _) (by decide) ?_
      exact ChangesOnly.refl _ _
    · refine OutFrame.next ?_
      refine ChangesOnly.step (finish_fr _ _ _) (by decide) ?_
      exact ChangesOnly.refl _ _

theorem journalMany_fr (s : State) (l : List Machine.Record) : ChangesOnly [.med, .sec, .pair, .mesh, .free] s (journalMany s l) := by
  unfold journalMany
  try dsimp only
  refine ChangesOnly.foldl (fun _ _ => ?_) ?_
  · refine ChangesOnly.step (journal_fr _ _) (by decide) ?_
    refine ChangesOnly.ite ?_ ?_
    · exact ChangesOnly.refl _ _
    · refine ChangesOnly.step (flushLine_fr _) (by decide) ?_
      exact ChangesOnly.refl _ _
  · exact ChangesOnly.refl _ _

theorem unmapFormat_fr (s : State) (v : Nat) : ChangesOnly [.med, .sec, .pair, .mesh, .free] s (unmapFormat s v) := by
  unfold unmapFormat
  try dsimp only
  split
  · exact ChangesOnly.refl _ _
  · refine ChangesOnly.step (journalMany_fr _ _) (by decide) ?_
    refine ChangesOnly.step (volMod_fr _ _ _) (by decide) ?_
    refine ChangesOnly.step (upPair_fr _ _) (by decide) ?_
    refine ChangesOnly.step (upMed_fr _ _) (by decide) ?_
    exact ChangesOnly.refl _ _

theorem execFormat_fr (tag : Nat) (s : State) : OutFrame [.tsk, .med, .sec, .pair, .mesh, .free] s (execFormat tag s) := by
  unfold execFormat
  try dsimp only
  split
  · refine OutFrame.next ?_
    exact ChangesOnly.refl _ _
  · refine OutFrame.ite ?_ ?_
    · refine OutFrame.ite ?_ ?_
      · refine OutFrame.next ?_
        refine ChangesOnly.step (finish_fr _ _ _) (by decide) ?_
        refine ChangesOnly.step (keyWaitOver_fr _ _) (by decide) ?_
        refine ChangesOnly.step (noteKeySent_fr _ _) (by decide) ?_
        exact ChangesOnly.refl _ _
      · refine OutFrame.next ?_
        refine ChangesOnly.step (noteKeySent_fr _ _) (by decide) ?_
        exact ChangesOnly.refl _ _
    · refine OutFrame.ite ?_ ?_
      · refine OutFrame.next ?_
        refine ChangesOnly.step (finish_fr _ _ _) (by decide) ?_
        exact ChangesOnly.refl _ _
      · refine OutFrame.ite ?_ ?_
        · refine OutFrame.next ?_
          refine ChangesOnly.step (finish_fr _ _ _) (by decide) ?_
          exact ChangesOnly.refl _ _
        · refine OutFrame.ite ?_ ?_
          · refine OutFrame.next ?_
            refine ChangesOnly.step (jStall_fr _) (by decide) ?_
            exact ChangesOnly.refl _ _
          · split
            · refine OutFrame.next ?_
              exact ChangesOnly.refl _ _
            · refine OutFrame.ite ?_ ?_
              · refine OutFrame.next ?_
                refine ChangesOnly.step (awaitKey_fr _ _ _) (by decide) ?_
                refine ChangesOnly.step (sendKey_fr _ _ _ _ _ _) (by decide) ?_
                refine ChangesOnly.step (upMed_fr _ _) (by decide) ?_
                refine ChangesOnly.step (unmapFormat_fr _ _) (by decide) ?_
                refine ChangesOnly.step (unstageVolume_fr _ _) (by decide) ?_
                refine ChangesOnly.ite ?_ ?_
                · refine ChangesOnly.step (volMod_fr _ _ _) (by decide) ?_
                  refine ChangesOnly.step (putKey_fr _ _) (by decide) ?_
                  refine ChangesOnly.ite2 ?_ ?_
                  · refine ChangesOnly.step (freshKey_fr _) (by decide) ?_
                    exact ChangesOnly.refl _ _
                  · try dsimp only
                    exact ChangesOnly.refl _ _
                · exact ChangesOnly.refl _ _
              · refine OutFrame.next ?_
                refine ChangesOnly.step (finish_fr _ _ _) (by decide) ?_
                refine ChangesOnly.step (upMed_fr _ _) (by decide) ?_
                refine ChangesOnly.step (unmapFormat_fr _ _) (by decide) ?_
                refine ChangesOnly.step (unstageVolume_fr _ _) (by decide) ?_
                refine ChangesOnly.ite ?_ ?_
                · refine ChangesOnly.step (volMod_fr _ _ _) (by decide) ?_
                  refine ChangesOnly.step (putKey_fr _ _) (by decide) ?_
                  refine ChangesOnly.ite2 ?_ ?_
                  · refine ChangesOnly.step (freshKey_fr _) (by decide) ?_
                    exact ChangesOnly.refl _ _
                  · try dsimp only
                    exact ChangesOnly.refl _ _
                · exact ChangesOnly.refl _ _

theorem walkBand_fr (s : State) (b : Nat) : ChangesOnly [.med, .sec, .pair, .mesh, .free] s (walkBand s b) := by
  unfold walkBand
  try dsimp only
  refine ChangesOnly.step (journalDrain_fr _ _ _) (by decide) ?_
  refine ChangesOnly.step (bandMod_fr _ _ _) (by decide) ?_
  exact ChangesOnly.refl _ _

theorem endFormat_fr (s : State) : ChangesOnly [.tsk, .med] s (endFormat s) := by
  unfold endFormat
  try dsimp only
  refine ChangesOnly.step (postEvent_fr _ _ _ _ _) (by decide) ?_
  refine ChangesOnly.step (volMod_fr _ _ _) (by decide) ?_
  refine ChangesOnly.step (upMed_fr _ _) (by decide) ?_
  exact ChangesOnly.refl _ _

theorem execFormatWalk_fr (s : State) : OutFrame [.tsk, .med, .sec, .pair, .mesh, .free] s (execFormatWalk s) := by
  unfold execFormatWalk
  try dsimp only
  refine OutFrame.ite ?_ ?_
  · refine OutFrame.next ?_
    exact ChangesOnly.refl _ _
  · refine OutFrame.ite ?_ ?_
    · split
      · refine OutFrame.next ?_
        refine ChangesOnly.step (endFormat_fr _) (by decide) ?_
        exact ChangesOnly.refl _ _
      · refine OutFrame.next ?_
        refine ChangesOnly.ite ?_ ?_
        · refine ChangesOnly.step (endFormat_fr _) (by decide) ?_
          refine ChangesOnly.step (upMed_fr _ _) (by decide) ?_
          refine ChangesOnly.step (walkBand_fr _ _) (by decide) ?_
          exact ChangesOnly.refl _ _
        · refine ChangesOnly.step (upMed_fr _ _) (by decide) ?_
          refine ChangesOnly.step (walkBand_fr _ _) (by decide) ?_
          exact ChangesOnly.refl _ _
    · refine OutFrame.ite ?_ ?_
      · refine OutFrame.next ?_
        exact ChangesOnly.refl _ _
      · split
        · refine OutFrame.next ?_
          exact ChangesOnly.refl _ _
        · refine OutFrame.next ?_
          refine ChangesOnly.ite ?_ ?_
          · refine ChangesOnly.step (endFormat_fr _) (by decide) ?_
            refine ChangesOnly.step (upMed_fr _ _) (by decide) ?_
            exact ChangesOnly.refl _ _
          · refine ChangesOnly.step (upMed_fr _ _) (by decide) ?_
            exact ChangesOnly.refl _ _

theorem execKeyUnwrap_fr (vol : Nat) (s : State) : OutFrame [.sec] s (execKeyUnwrap vol s) := by
  unfold execKeyUnwrap
  try dsimp only
  refine OutFrame.ite ?_ ?_
  · refine OutFrame.next ?_
    exact ChangesOnly.refl _ _
  · split
    · refine OutFrame.next ?_
      exact ChangesOnly.refl _ _
    · refine OutFrame.next ?_
      refine ChangesOnly.step (upSec_fr _ _) (by decide) ?_
      exact ChangesOnly.refl _ _


end Sys2Proof.Machine
end

