-- ==== Sys2Proof/Laws/FrameData.lean ====
section
/-! SUPPORT. Frames of the data, media, engine and program commands. -/

namespace Sys2Proof.Machine
open Sys2Proof

/-! ### Data -/

theorem opBlock_fr (s : State) (o : Machine.Op) (m : MediaIn) (lba : Nat) : ChangesOnly [.flt, .med, .drc, .sec, .pair, .mesh, .free] s (opBlock s o m lba).2 := by
  unfold opBlock
  try dsimp only
  split
  · try dsimp only
    exact ChangesOnly.refl _ _
  · split
    · refine ChangesOnly.ite2 ?_ ?_
      · split
        · try dsimp only
          refine ChangesOnly.step (getBlock_fr _ _ _ _ _) (by decide) ?_
          exact ChangesOnly.refl _ _
        · try dsimp only
          refine ChangesOnly.step (getBlock_fr _ _ _ _ _) (by decide) ?_
          exact ChangesOnly.refl _ _
      · try dsimp only
        refine ChangesOnly.step (getBlock_fr _ _ _ _ _) (by decide) ?_
        exact ChangesOnly.refl _ _
    · try dsimp only
      refine ChangesOnly.step (getBlock_fr _ _ _ _ _) (by decide) ?_
      exact ChangesOnly.refl _ _

theorem opBlocks_fr (s : State) (o : Machine.Op) (m : MediaIn) (lbas : List Nat) : ChangesOnly [.flt, .med, .drc, .sec, .pair, .mesh, .free] s (opBlocks s o m lbas).2 := by
  unfold opBlocks
  try dsimp only
  split
  · try dsimp only
    exact ChangesOnly.refl _ _
  · try dsimp only
    refine ChangesOnly.step (opBlocks_fr _ _ _ _) (by decide) ?_
    refine ChangesOnly.step (opBlock_fr _ _ _ _) (by decide) ?_
    exact ChangesOnly.refl _ _

theorem gotBlock_fr (s : State) (g : Machine.Got) : ChangesOnly [.free] s (gotBlock s g).2 := by
  unfold gotBlock
  try dsimp only
  split
  · try dsimp only
    exact ChangesOnly.refl _ _
  · refine ChangesOnly.step (freeBlock_fr _) (by decide) ?_
    exact ChangesOnly.refl _ _
  · refine ChangesOnly.step (freeBlock_fr _) (by decide) ?_
    exact ChangesOnly.refl _ _
  · refine ChangesOnly.step (freeBlock_fr _) (by decide) ?_
    exact ChangesOnly.refl _ _

theorem gotBytes_fr (s : State) (l : List (Nat × Got)) : ChangesOnly [.free] s (gotBytes s l).2 := by
  induction l generalizing s with
  | nil => exact ChangesOnly.refl _ _
  | cons x xs ih =>
    simp only [gotBytes]
    with_reducible exact (gotBlock_fr s _).trans (ih _)

theorem readAll_fr (s : State) (o : Machine.Op) (m : MediaIn) : ChangesOnly [.flt, .med, .drc, .sec, .pair, .mesh, .free] s (readAll s o m).2 := by
  unfold readAll
  try dsimp only
  refine ChangesOnly.ite2 ?_ ?_
  · try dsimp only
    refine ChangesOnly.step (opBlocks_fr _ _ _ _) (by decide) ?_
    exact ChangesOnly.refl _ _
  · try dsimp only
    refine ChangesOnly.step (opBlocks_fr _ _ _ _) (by decide) ?_
    exact ChangesOnly.refl _ _

theorem readMarks_fr (s : State) (o : Machine.Op) (m : MediaIn) : ChangesOnly [.flt, .med, .sec] s (readMarks s o m) := by
  unfold readMarks
  try dsimp only
  refine ChangesOnly.foldl (fun _ _ => ?_) ?_
  · refine ChangesOnly.ite ?_ ?_
    · exact ChangesOnly.refl _ _
    · refine ChangesOnly.step (readEffects_fr _ _ _ _) (by decide) ?_
      exact ChangesOnly.refl _ _
  · exact ChangesOnly.refl _ _

theorem execRead_fr (tag : Nat) (media : MediaIn) (s : State) : OutFrame [.flt, .hst, .tsk, .med, .drc, .sec, .pair, .mesh, .hostMem, .free] s (execRead tag media s) := by
  unfold execRead
  try dsimp only
  split
  · refine OutFrame.next ?_
    exact ChangesOnly.refl _ _
  · refine OutFrame.ite ?_ ?_
    · refine OutFrame.next ?_
      refine ChangesOnly.step (failEarly_fr _ _ _) (by decide) ?_
      exact ChangesOnly.refl _ _
    · refine OutFrame.ite ?_ ?_
      · refine OutFrame.next ?_
        exact ChangesOnly.refl _ _
      · split
        · refine OutFrame.next ?_
          refine ChangesOnly.step (ChangesOnly.of2 (readAll_fr _ _ _) (by assumption)) (by decide) ?_
          exact ChangesOnly.refl _ _
        · refine OutFrame.next ?_
          refine ChangesOnly.step (finish_fr _ _ _) (by decide) ?_
          refine ChangesOnly.step (deliver_fr _ _ _ _) (by decide) ?_
          refine ChangesOnly.step (gotBytes_fr _ _) (by decide) ?_
          refine ChangesOnly.step (readMarks_fr _ _ _) (by decide) ?_
          refine ChangesOnly.step (ChangesOnly.of2 (readAll_fr _ _ _) (by assumption)) (by decide) ?_
          exact ChangesOnly.refl _ _

theorem execReadToArena_fr (tag : Nat) (media : MediaIn) (s : State) : OutFrame [.flt, .hst, .tsk, .med, .drc, .sec, .pair, .mesh, .arena, .free] s (execReadToArena tag media s) := by
  unfold execReadToArena
  try dsimp only
  split
  · refine OutFrame.next ?_
    exact ChangesOnly.refl _ _
  · refine OutFrame.ite ?_ ?_
    · refine OutFrame.next ?_
      refine ChangesOnly.step (failEarly_fr _ _ _) (by decide) ?_
      exact ChangesOnly.refl _ _
    · refine OutFrame.ite ?_ ?_
      · refine OutFrame.next ?_
        exact ChangesOnly.refl _ _
      · split
        · refine OutFrame.next ?_
          refine ChangesOnly.step (ChangesOnly.of2 (readAll_fr _ _ _) (by assumption)) (by decide) ?_
          exact ChangesOnly.refl _ _
        · refine OutFrame.next ?_
          refine ChangesOnly.step (finish_fr _ _ _) (by decide) ?_
          refine ChangesOnly.step (arenaWrite_fr _ _ _) (by decide) ?_
          refine ChangesOnly.step (flipToDevice_fr _ _ _ _) (by decide) ?_
          refine ChangesOnly.step (gotBytes_fr _ _) (by decide) ?_
          refine ChangesOnly.step (readMarks_fr _ _ _) (by decide) ?_
          refine ChangesOnly.step (ChangesOnly.of2 (readAll_fr _ _ _) (by assumption)) (by decide) ?_
          exact ChangesOnly.refl _ _

theorem execCompare_fr (tag : Nat) (host : HostRead) (media : MediaIn) (s : State) : OutFrame [.flt, .hst, .tsk, .med, .drc, .cmp, .sec, .pair, .mesh, .hostMem, .arena, .free] s (execCompare tag host media s) := by
  unfold execCompare
  try dsimp only
  split
  · refine OutFrame.next ?_
    exact ChangesOnly.refl _ _
  · refine OutFrame.ite ?_ ?_
    · refine OutFrame.next ?_
      refine ChangesOnly.step (failEarly_fr _ _ _) (by decide) ?_
      exact ChangesOnly.refl _ _
    · refine OutFrame.ite ?_ ?_
      · refine OutFrame.next ?_
        exact ChangesOnly.refl _ _
      · split
        · refine OutFrame.next ?_
          exact ChangesOnly.refl _ _
        · refine OutFrame.next ?_
          refine ChangesOnly.step (finish_fr _ _ _) (by decide) ?_
          refine ChangesOnly.step (abandon_fr _ _) (by decide) ?_
          exact ChangesOnly.refl _ _
        · split
          · refine OutFrame.next ?_
            refine ChangesOnly.step (ChangesOnly.of2 (readAll_fr _ _ _) (by assumption)) (by decide) ?_
            exact ChangesOnly.refl _ _
          · refine OutFrame.ite ?_ ?_
            · refine OutFrame.next ?_
              refine ChangesOnly.step (finish_fr _ _ _) (by decide) ?_
              refine ChangesOnly.step (readMarks_fr _ _ _) (by decide) ?_
              refine ChangesOnly.step (ChangesOnly.of2 (readAll_fr _ _ _) (by assumption)) (by decide) ?_
              exact ChangesOnly.refl _ _
            · split
              · refine OutFrame.next ?_
                refine ChangesOnly.step (finish_fr _ _ _) (by decide) ?_
                refine ChangesOnly.step (readMarks_fr _ _ _) (by decide) ?_
                refine ChangesOnly.step (ChangesOnly.of2 (readAll_fr _ _ _) (by assumption)) (by decide) ?_
                exact ChangesOnly.refl _ _
              · refine OutFrame.next ?_
                refine ChangesOnly.step (finish_fr _ _ _) (by decide) ?_
                refine ChangesOnly.step (readMarks_fr _ _ _) (by decide) ?_
                refine ChangesOnly.step (ChangesOnly.of2 (readAll_fr _ _ _) (by assumption)) (by decide) ?_
                exact ChangesOnly.refl _ _

theorem execInlineInflate_fr (tag : Nat) (lba : Nat) (media : MediaIn) (s : State) : OutFrame [.flt, .tsk, .cmp] s (execInlineInflate tag lba media s) := by
  unfold execInlineInflate
  try dsimp only
  split
  · refine OutFrame.next ?_
    exact ChangesOnly.refl _ _
  · refine OutFrame.ite ?_ ?_
    · refine OutFrame.next ?_
      exact ChangesOnly.refl _ _
    · split
      · refine OutFrame.ite ?_ ?_
        · refine OutFrame.next ?_
          refine ChangesOnly.step (askPipe_fr _ _) (by decide) ?_
          exact ChangesOnly.refl _ _
        · split
          · refine OutFrame.next ?_
            refine ChangesOnly.step (modOp_fr _ _ _) (by decide) ?_
            refine ChangesOnly.step (upCmp_fr _ _) (by decide) ?_
            refine ChangesOnly.step (leavePipe_fr _ _) (by decide) ?_
            exact ChangesOnly.refl _ _
          · refine OutFrame.next ?_
            refine ChangesOnly.step (modOp_fr _ _ _) (by decide) ?_
            refine ChangesOnly.step (raise_fr _ _) (by decide) ?_
            refine ChangesOnly.step (upCmp_fr _ _) (by decide) ?_
            refine ChangesOnly.step (leavePipe_fr _ _) (by decide) ?_
            exact ChangesOnly.refl _ _
      · refine OutFrame.next ?_
        exact ChangesOnly.refl _ _

theorem settleStaged_fr (s : State) (o : Machine.Op) : ChangesOnly [.med, .sec, .pair, .mesh, .free] s (settleStaged s o) := by
  unfold settleStaged
  try dsimp only
  refine ChangesOnly.step (releaseMirror_fr _) (by decide) ?_
  refine ChangesOnly.step (upMed_fr _ _) (by decide) ?_
  refine ChangesOnly.step (upPair_fr _ _) (by decide) ?_
  exact ChangesOnly.refl _ _

theorem landWrite_fr (s : State) (o : Machine.Op) (mirrored : Bool) (data : List Byte) : ChangesOnly [.med] s (landWrite s o mirrored data) := by
  unfold landWrite
  try dsimp only
  refine ChangesOnly.step (upMed_fr _ _) (by decide) ?_
  exact ChangesOnly.refl _ _

theorem waitForRoom_fr (s : State) (o : Machine.Op) : ChangesOnly [.tsk, .pair] s (waitForRoom s o) := by
  unfold waitForRoom
  try dsimp only
  refine ChangesOnly.ite ?_ ?_
  · exact ChangesOnly.refl _ _
  · refine ChangesOnly.step (modOp_fr _ _ _) (by decide) ?_
    refine ChangesOnly.ite ?_ ?_
    · refine ChangesOnly.step (upPair_fr _ _) (by decide) ?_
      exact ChangesOnly.refl _ _
    · exact ChangesOnly.refl _ _

theorem dropWrite_fr (s : State) (o : Machine.Op) (r : Machine.Reply) : ChangesOnly [.hst, .tsk, .med, .drc, .cmp, .sec, .pair, .mesh, .hostMem, .arena, .free] s (dropWrite s o r) := by
  unfold dropWrite
  try dsimp only
  refine ChangesOnly.step (releaseMirror_fr _) (by decide) ?_
  refine ChangesOnly.step (finish_fr _ _ _) (by decide) ?_
  refine ChangesOnly.step (abandon_fr _ _) (by decide) ?_
  exact ChangesOnly.refl _ _

theorem execWrite_fr (tag : Nat) (host : HostRead) (s : State) : OutFrame [.glb, .hst, .tsk, .med, .drc, .cmp, .sec, .pair, .mesh, .hostMem, .arena, .free] s (execWrite tag host s) := by
  unfold execWrite
  try dsimp only
  split
  · refine OutFrame.next ?_
    exact ChangesOnly.refl _ _
  · refine OutFrame.ite ?_ ?_
    · refine OutFrame.next ?_
      refine ChangesOnly.step (dropWrite_fr _ _ _) (by decide) ?_
      exact ChangesOnly.refl _ _
    · refine OutFrame.ite ?_ ?_
      · refine OutFrame.next ?_
        refine ChangesOnly.step (dropWrite_fr _ _ _) (by decide) ?_
        exact ChangesOnly.refl _ _
      · refine OutFrame.ite ?_ ?_
        · refine OutFrame.ite ?_ ?_
          · refine OutFrame.next ?_
            exact ChangesOnly.refl _ _
          · refine OutFrame.next ?_
            refine ChangesOnly.step (complete_fr _ _ _) (by decide) ?_
            refine ChangesOnly.step (settleStaged_fr _ _) (by decide) ?_
            exact ChangesOnly.refl _ _
        · refine OutFrame.ite ?_ ?_
          · refine OutFrame.next ?_
            exact ChangesOnly.refl _ _
          · refine OutFrame.ite ?_ ?_
            · refine OutFrame.next ?_
              refine ChangesOnly.step (waitForRoom_fr _ _) (by decide) ?_
              exact ChangesOnly.refl _ _
            · split
              · refine OutFrame.next ?_
                exact ChangesOnly.refl _ _
              · refine OutFrame.next ?_
                refine ChangesOnly.step (dropWrite_fr _ _ _) (by decide) ?_
                exact ChangesOnly.refl _ _
              · refine OutFrame.ite ?_ ?_
                · refine OutFrame.next ?_
                  refine ChangesOnly.step (sendMirror_fr _ _ _ _ _) (by decide) ?_
                  refine ChangesOnly.step (landWrite_fr _ _ _ _) (by decide) ?_
                  exact ChangesOnly.refl _ _
                · refine OutFrame.next ?_
                  refine ChangesOnly.step (complete_fr _ _ _) (by decide) ?_
                  refine ChangesOnly.step (settleStaged_fr _ _) (by decide) ?_
                  refine ChangesOnly.step (landWrite_fr _ _ _ _) (by decide) ?_
                  exact ChangesOnly.refl _ _

theorem pagesReady_fr (s : State) (v : Nat) (sts : List Nat) : ChangesOnly [.med, .sec, .mesh, .free] s (pagesReady s v sts).2 := by
  unfold pagesReady
  try dsimp only
  split
  · try dsimp only
    exact ChangesOnly.refl _ _
  · try dsimp only
    refine ChangesOnly.step (pagesReady_fr _ _ _) (by decide) ?_
    split
    · refine ChangesOnly.step (lostPage_fr _ _ _) (by decide) ?_
      refine ChangesOnly.step (inherit_fr _ _ _) (by decide) ?_
      exact ChangesOnly.refl _ _
    · refine ChangesOnly.ite ?_ ?_
      · refine ChangesOnly.step (inherit_fr _ _ _) (by decide) ?_
        exact ChangesOnly.refl _ _
      · refine ChangesOnly.step (fetchLeaf_fr _ _ _) (by decide) ?_
        refine ChangesOnly.step (inherit_fr _ _ _) (by decide) ?_
        exact ChangesOnly.refl _ _
    · refine OptFrame.getD ?_ ?_
      · refine OptFrame.step (leafRoom_fr _ _ _) (by decide) ?_
        refine ChangesOnly.step (inherit_fr _ _ _) (by decide) ?_
        exact ChangesOnly.refl _ _
      · refine ChangesOnly.step (inherit_fr _ _ _) (by decide) ?_
        exact ChangesOnly.refl _ _
    · refine ChangesOnly.step (inherit_fr _ _ _) (by decide) ?_
      exact ChangesOnly.refl _ _

theorem zeroRange_fr (s : State) (v : Nat) (lba : Nat) (n : Nat) : ChangesOnly [.med, .sec, .pair, .mesh, .free] s (zeroRange s v lba n) := by
  unfold zeroRange
  try dsimp only
  refine ChangesOnly.step (journalDrain_fr _ _ _) (by decide) ?_
  refine ChangesOnly.foldl (fun _ _ => ?_) ?_
  · refine ChangesOnly.step (applyEntry_fr _ _ _ _) (by decide) ?_
    exact ChangesOnly.refl _ _
  · refine ChangesOnly.step (takeWseq_fr _ _) (by decide) ?_
    exact ChangesOnly.refl _ _

theorem unstageRange_fr (s : State) (v : Nat) (lba : Nat) (n : Nat) (seq : Nat) : ChangesOnly [.med] s (unstageRange s v lba n seq) := by
  unfold unstageRange
  try dsimp only
  refine ChangesOnly.step (upMed_fr _ _) (by decide) ?_
  exact ChangesOnly.refl _ _

theorem zeroCommand_fr (s : State) (o : Machine.Op) (op : Nat) : ChangesOnly [.glb, .hst, .tsk, .med, .drc, .cmp, .sec, .pair, .mesh, .hostMem, .arena, .free] s (zeroCommand s o op) := by
  unfold zeroCommand
  try dsimp only
  refine ChangesOnly.ite ?_ ?_
  · refine ChangesOnly.step (dropWrite_fr _ _ _) (by decide) ?_
    exact ChangesOnly.refl _ _
  · refine ChangesOnly.ite ?_ ?_
    · refine ChangesOnly.step (dropWrite_fr _ _ _) (by decide) ?_
      exact ChangesOnly.refl _ _
    · refine ChangesOnly.ite ?_ ?_
      · refine ChangesOnly.ite ?_ ?_
        · exact ChangesOnly.refl _ _
        · refine ChangesOnly.ite ?_ ?_
          · refine ChangesOnly.step (pagesReady_fr _ _ _) (by decide) ?_
            exact ChangesOnly.refl _ _
          · refine ChangesOnly.ite ?_ ?_
            · refine ChangesOnly.step (jStall_fr _) (by decide) ?_
              refine ChangesOnly.step (pagesReady_fr _ _ _) (by decide) ?_
              exact ChangesOnly.refl _ _
            · refine ChangesOnly.step (complete_fr _ _ _) (by decide) ?_
              refine ChangesOnly.step (releaseMirror_fr _) (by decide) ?_
              refine ChangesOnly.step (upPair_fr _ _) (by decide) ?_
              refine ChangesOnly.step (unstageRange_fr _ _ _ _ _) (by decide) ?_
              refine ChangesOnly.step (zeroRange_fr _ _ _ _) (by decide) ?_
              refine ChangesOnly.step (pagesReady_fr _ _ _) (by decide) ?_
              exact ChangesOnly.refl _ _
      · refine ChangesOnly.ite ?_ ?_
        · exact ChangesOnly.refl _ _
        · refine ChangesOnly.ite ?_ ?_
          · refine ChangesOnly.step (waitForRoom_fr _ _) (by decide) ?_
            exact ChangesOnly.refl _ _
          · refine ChangesOnly.ite ?_ ?_
            · refine ChangesOnly.step (sendMirror_fr _ _ _ _ _) (by decide) ?_
              exact ChangesOnly.refl _ _
            · refine ChangesOnly.ite ?_ ?_
              · refine ChangesOnly.step (pagesReady_fr _ _ _) (by decide) ?_
                refine ChangesOnly.step (running_fr _ _) (by decide) ?_
                exact ChangesOnly.refl _ _
              · refine ChangesOnly.ite ?_ ?_
                · refine ChangesOnly.step (jStall_fr _) (by decide) ?_
                  refine ChangesOnly.step (pagesReady_fr _ _ _) (by decide) ?_
                  refine ChangesOnly.step (running_fr _ _) (by decide) ?_
                  exact ChangesOnly.refl _ _
                · refine ChangesOnly.step (complete_fr _ _ _) (by decide) ?_
                  refine ChangesOnly.step (releaseMirror_fr _) (by decide) ?_
                  refine ChangesOnly.step (upPair_fr _ _) (by decide) ?_
                  refine ChangesOnly.step (unstageRange_fr _ _ _ _ _) (by decide) ?_
                  refine ChangesOnly.step (zeroRange_fr _ _ _ _) (by decide) ?_
                  refine ChangesOnly.step (pagesReady_fr _ _ _) (by decide) ?_
                  refine ChangesOnly.step (running_fr _ _) (by decide) ?_
                  exact ChangesOnly.refl _ _

theorem execTrim_fr (tag : Nat) (s : State) : OutFrame [.glb, .hst, .tsk, .med, .drc, .cmp, .sec, .pair, .mesh, .hostMem, .arena, .free] s (execTrim tag s) := by
  unfold execTrim
  try dsimp only
  split
  · refine OutFrame.next ?_
    exact ChangesOnly.refl _ _
  · refine OutFrame.next ?_
    refine ChangesOnly.step (zeroCommand_fr _ _ _) (by decide) ?_
    exact ChangesOnly.refl _ _

theorem execWriteZeroes_fr (tag : Nat) (s : State) : OutFrame [.glb, .hst, .tsk, .med, .drc, .cmp, .sec, .pair, .mesh, .hostMem, .arena, .free] s (execWriteZeroes tag s) := by
  unfold execWriteZeroes
  try dsimp only
  split
  · refine OutFrame.next ?_
    exact ChangesOnly.refl _ _
  · refine OutFrame.next ?_
    refine ChangesOnly.step (zeroCommand_fr _ _ _) (by decide) ?_
    exact ChangesOnly.refl _ _

theorem execFlush_fr (tag : Nat) (s : State) : OutFrame [.tsk] s (execFlush tag s) := by
  unfold execFlush
  try dsimp only
  split
  · refine OutFrame.next ?_
    exact ChangesOnly.refl _ _
  · refine OutFrame.ite ?_ ?_
    · refine OutFrame.next ?_
      refine ChangesOnly.step (finish_fr _ _ _) (by decide) ?_
      exact ChangesOnly.refl _ _
    · refine OutFrame.ite ?_ ?_
      · refine OutFrame.next ?_
        refine ChangesOnly.step (finish_fr _ _ _) (by decide) ?_
        exact ChangesOnly.refl _ _
      · refine OutFrame.next ?_
        refine ChangesOnly.step (running_fr _ _) (by decide) ?_
        exact ChangesOnly.refl _ _


/-! ### Media -/

theorem writePage_fr (s : State) (p : Machine.LeafPage) : ChangesOnly [.med, .sec, .pair, .mesh, .free] s (writePage s p) := by
  unfold writePage
  try dsimp only
  split
  · exact ChangesOnly.refl _ _
  · split
    · refine ChangesOnly.step (Opt2Frame.of (bandFor_fr _ _) (by assumption)) (by decide) ?_
      exact ChangesOnly.refl _ _
    · refine ChangesOnly.step (programCw_fr _ _ _) (by decide) ?_
      refine ChangesOnly.step (journalDrain_fr _ _ _) (by decide) ?_
      refine ChangesOnly.step (modPage_fr _ _ _ _) (by decide) ?_
      refine ChangesOnly.step (setDir_fr _ _ _ _) (by decide) ?_
      split
      · refine ChangesOnly.step (subUnits_fr _ _ _) (by decide) ?_
        refine ChangesOnly.step (addUnits_fr _ _ _) (by decide) ?_
        refine ChangesOnly.step (freeBelow_fr _ _) (by decide) ?_
        refine ChangesOnly.step (segGroup_fr _ _ _ _) (by decide) ?_
        refine ChangesOnly.step (Opt2Frame.of (bandFor_fr _ _) (by assumption)) (by decide) ?_
        exact ChangesOnly.refl _ _
      · refine ChangesOnly.step (addUnits_fr _ _ _) (by decide) ?_
        refine ChangesOnly.step (freeBelow_fr _ _) (by decide) ?_
        refine ChangesOnly.step (segGroup_fr _ _ _ _) (by decide) ?_
        refine ChangesOnly.step (Opt2Frame.of (bandFor_fr _ _) (by assumption)) (by decide) ?_
        exact ChangesOnly.refl _ _

theorem execLeafFetchComplete_fr (vol : Nat) (stretch : Nat) (level : Nat) (s : State) : OutFrame [.flt, .med, .sec, .mesh, .free] s (execLeafFetchComplete vol stretch level s) := by
  unfold execLeafFetchComplete
  try dsimp only
  refine OutFrame.ite ?_ ?_
  · refine OutFrame.next ?_
    exact ChangesOnly.refl _ _
  · split
    · split
      · refine OutFrame.next ?_
        exact ChangesOnly.refl _ _
      · refine OutFrame.ite ?_ ?_
        · refine OutFrame.next ?_
          refine ChangesOnly.step (OptFrame.of (leafRoom_fr _ _ _) (by assumption)) (by decide) ?_
          exact ChangesOnly.refl _ _
        · refine OutFrame.ite ?_ ?_
          · refine OutFrame.next ?_
            refine ChangesOnly.ite ?_ ?_
            · refine ChangesOnly.step (queueReloc_fr _ _) (by decide) ?_
              refine ChangesOnly.step (upMed_fr _ _) (by decide) ?_
              refine ChangesOnly.step (ensurePage_fr _ _ _) (by decide) ?_
              refine ChangesOnly.step (OptFrame.of (leafRoom_fr _ _ _) (by assumption)) (by decide) ?_
              exact ChangesOnly.refl _ _
            · refine ChangesOnly.step (upMed_fr _ _) (by decide) ?_
              refine ChangesOnly.step (ensurePage_fr _ _ _) (by decide) ?_
              refine ChangesOnly.step (OptFrame.of (leafRoom_fr _ _ _) (by assumption)) (by decide) ?_
              exact ChangesOnly.refl _ _
          · split
            · refine OutFrame.ite ?_ ?_
              · refine OutFrame.next ?_
                refine ChangesOnly.step (upMed_fr _ _) (by decide) ?_
                refine ChangesOnly.step (addPage_fr _ _) (by decide) ?_
                refine ChangesOnly.step (startRecon_fr _ _ _ _ _ _) (by decide) ?_
                refine ChangesOnly.ite ?_ ?_
                · refine ChangesOnly.step (raise_fr _ _) (by decide) ?_
                  refine ChangesOnly.step (OptFrame.of (leafRoom_fr _ _ _) (by assumption)) (by decide) ?_
                  exact ChangesOnly.refl _ _
                · refine ChangesOnly.step (OptFrame.of (leafRoom_fr _ _ _) (by assumption)) (by decide) ?_
                  exact ChangesOnly.refl _ _
              · refine OutFrame.next ?_
                refine ChangesOnly.step (startRecon_fr _ _ _ _ _ _) (by decide) ?_
                refine ChangesOnly.ite ?_ ?_
                · refine ChangesOnly.step (raise_fr _ _) (by decide) ?_
                  refine ChangesOnly.step (OptFrame.of (leafRoom_fr _ _ _) (by assumption)) (by decide) ?_
                  exact ChangesOnly.refl _ _
                · refine ChangesOnly.step (OptFrame.of (leafRoom_fr _ _ _) (by assumption)) (by decide) ?_
                  exact ChangesOnly.refl _ _
            · refine OutFrame.next ?_
              refine ChangesOnly.step (startRecon_fr _ _ _ _ _ _) (by decide) ?_
              refine ChangesOnly.ite ?_ ?_
              · refine ChangesOnly.step (raise_fr _ _) (by decide) ?_
                refine ChangesOnly.step (OptFrame.of (leafRoom_fr _ _ _) (by assumption)) (by decide) ?_
                exact ChangesOnly.refl _ _
              · refine ChangesOnly.step (OptFrame.of (leafRoom_fr _ _ _) (by assumption)) (by decide) ?_
                exact ChangesOnly.refl _ _
    · refine OutFrame.next ?_
      refine ChangesOnly.step (upMed_fr _ _) (by decide) ?_
      exact ChangesOnly.refl _ _

theorem execPageOut_fr (vol : Nat) (stretch : Nat) (s : State) : OutFrame [.med, .sec, .pair, .mesh, .free] s (execPageOut vol stretch s) := by
  unfold execPageOut
  try dsimp only
  split
  · refine OutFrame.next ?_
    exact ChangesOnly.refl _ _
  · refine OutFrame.ite ?_ ?_
    · refine OutFrame.ite ?_ ?_
      · refine OutFrame.next ?_
        refine ChangesOnly.step (writePage_fr _ _) (by decide) ?_
        exact ChangesOnly.refl _ _
      · refine OutFrame.next ?_
        refine ChangesOnly.step (jStall_fr _) (by decide) ?_
        exact ChangesOnly.refl _ _
    · refine OutFrame.next ?_
      exact ChangesOnly.refl _ _

def Opt3Frame {α β : Type} (ps : List Part) (s : State) (x : Option (α × β × State)) : Prop := ∀ a b t, x = some (a, b, t) → ChangesOnly ps s t
theorem runPlace_fr (s : State) (t : Stream) (units : Nat) : Opt3Frame [.med, .sec, .pair, .mesh, .free] s (runPlace s t units) := by
  intro a b u h
  unfold runPlace at h
  split at h
  · cases h
  · split at h
    · cases h
    · split at h
      · cases h
      · cases h
        exact ChangesOnly.step (Opt2Frame.of (bandFor_fr _ _) (by assumption)) (by decide) (ChangesOnly.refl _ _)

theorem followMirror_fr (s : State) (x : Machine.Staged) (b : Nat) (seg : Nat) (group : Nat) : ChangesOnly [.pair] s (followMirror s x b seg group) := by
  unfold followMirror
  try dsimp only
  refine ChangesOnly.step (modEntry_fr _ _ _) (by decide) ?_
  exact ChangesOnly.refl _ _

theorem placeRunOf_fr (s : State) (v : Nat) (t : Stream) (l : List Staged) : ChangesOnly [.med, .sec, .pair, .mesh, .free] s (placeRunOf s v t l) := by
  unfold placeRunOf
  dsimp only
  split
  · exact ChangesOnly.step (takeWseq_fr _ _) (by decide) (ChangesOnly.refl _ _)
  · rename_i b pa u hu
    have h1 : ChangesOnly [.med, .sec, .pair, .mesh, .free] s u :=
      ChangesOnly.step (runPlace_fr _ _ _ _ _ _ hu) (by decide) (ChangesOnly.step (takeWseq_fr _ _) (by decide) (ChangesOnly.refl _ _))
    split
    · exact ChangesOnly.foldl (fun _ _ => ChangesOnly.step (commitSet_fr _ _ _ _) (by decide) (ChangesOnly.refl _ _)) h1
    · rename_i hv
      have h2 := Opt2Frame.of (programRun_fr _ _ _ _ _ _) hv
      refine ChangesOnly.step (releaseMirror_fr _) (by decide) (ChangesOnly.foldl (fun _ _ =>
        ChangesOnly.step (unstage_fr _ _ _ _) (by decide) (ChangesOnly.step (followMirror_fr _ _ _ _ _) (by decide) (ChangesOnly.refl _ _))) ?_)
      exact ChangesOnly.step h2 (by decide) (ChangesOnly.foldl (fun _ _ => ChangesOnly.step (commitSet_fr _ _ _ _) (by decide) (ChangesOnly.refl _ _)) h1)

theorem placeZero_fr (s : State) (v : Nat) (x : Machine.Staged) : ChangesOnly [.med, .sec, .pair, .mesh, .free] s (placeZero s v x) := by
  unfold placeZero
  try dsimp only
  refine ChangesOnly.step (releaseMirror_fr _) (by decide) ?_
  refine ChangesOnly.step (unstage_fr _ _ _ _) (by decide) ?_
  refine ChangesOnly.step (modEntry_fr _ _ _) (by decide) ?_
  refine ChangesOnly.step (commitSet_fr _ _ _ _) (by decide) ?_
  refine ChangesOnly.step (takeWseq_fr _ _) (by decide) ?_
  exact ChangesOnly.refl _ _

theorem placeHost_fr (s : State) (t : Machine.Stream) (v : Nat) (lbas : List Nat) : ChangesOnly [.med, .sec, .pair, .mesh, .free] s (placeHost s t v lbas) := by
  unfold placeHost
  try dsimp only
  refine ChangesOnly.ite ?_ ?_
  · refine ChangesOnly.step (pagesReady_fr _ _ _) (by decide) ?_
    exact ChangesOnly.refl _ _
  · refine ChangesOnly.ite ?_ ?_
    · refine ChangesOnly.step (jStall_fr _) (by decide) ?_
      exact ChangesOnly.refl _ _
    · split
      · split
        · refine ChangesOnly.ite ?_ ?_
          · refine ChangesOnly.step (placeZero_fr _ _ _) (by decide) ?_
            refine ChangesOnly.step (pagesReady_fr _ _ _) (by decide) ?_
            exact ChangesOnly.refl _ _
          · refine ChangesOnly.ite ?_ ?_
            · refine ChangesOnly.step (placeRunOf_fr _ _ _ _) (by decide) ?_
              refine ChangesOnly.step (pagesReady_fr _ _ _) (by decide) ?_
              exact ChangesOnly.refl _ _
            · refine ChangesOnly.step (pagesReady_fr _ _ _) (by decide) ?_
              exact ChangesOnly.refl _ _
        · refine ChangesOnly.ite ?_ ?_
          · refine ChangesOnly.step (placeRunOf_fr _ _ _ _) (by decide) ?_
            refine ChangesOnly.step (pagesReady_fr _ _ _) (by decide) ?_
            exact ChangesOnly.refl _ _
          · refine ChangesOnly.step (pagesReady_fr _ _ _) (by decide) ?_
            exact ChangesOnly.refl _ _
      · refine ChangesOnly.step (pagesReady_fr _ _ _) (by decide) ?_
        exact ChangesOnly.refl _ _

theorem seqBand_fr (s : State) : Opt2Frame [.med, .sec, .pair, .mesh, .free] s (seqBand s) := by
  unfold seqBand
  try dsimp only
  split
  · exact Opt2Frame.none
  · split
    · refine Opt2Frame.ite ?_ ?_
      · refine Opt2Frame.some ?_
        try dsimp only
        refine ChangesOnly.step (padSegment_fr _ _) (by decide) ?_
        refine ChangesOnly.step (Opt2Frame.of (bandFor_fr _ _) (by assumption)) (by decide) ?_
        exact ChangesOnly.refl _ _
      · refine Opt2Frame.step (bandFor_fr _ _) (by decide) ?_
        refine ChangesOnly.foldl (fun _ _ => ?_) ?_
        · split
          · refine ChangesOnly.ite ?_ ?_
            · refine ChangesOnly.foldl (fun _ _ => ?_) ?_
              · refine ChangesOnly.step (programCw_fr _ _ _) (by decide) ?_
                exact ChangesOnly.refl _ _
              · exact ChangesOnly.refl _ _
            · exact ChangesOnly.refl _ _
          · exact ChangesOnly.refl _ _
        · refine ChangesOnly.step (padSegment_fr _ _) (by decide) ?_
          refine ChangesOnly.step (Opt2Frame.of (bandFor_fr _ _) (by assumption)) (by decide) ?_
          exact ChangesOnly.refl _ _
    · exact Opt2Frame.none

theorem placeExtent_fr (s : State) (v : Nat) (st : Nat) : ChangesOnly [.med, .sec, .pair, .mesh, .free] s (placeExtent s v st) := by
  unfold placeExtent
  try dsimp only
  split
  · refine ChangesOnly.ite ?_ ?_
    · exact ChangesOnly.refl _ _
    · refine ChangesOnly.ite ?_ ?_
      · refine ChangesOnly.step (jStall_fr _) (by decide) ?_
        exact ChangesOnly.refl _ _
      · split
        · exact ChangesOnly.refl _ _
        · split
          · refine ChangesOnly.step (Opt2Frame.of (seqBand_fr _) (by assumption)) (by decide) ?_
            exact ChangesOnly.refl _ _
          · refine ChangesOnly.step (releaseMirror_fr _) (by decide) ?_
            refine ChangesOnly.foldl (fun _ _ => ?_) ?_
            · split
              · refine ChangesOnly.step (unstage_fr _ _ _ _) (by decide) ?_
                refine ChangesOnly.step (followMirror_fr _ _ _ _ _) (by decide) ?_
                refine ChangesOnly.step (Opt2Frame.of (programRun_fr _ _ _ _ _ _) (by assumption)) (by decide) ?_
                exact ChangesOnly.refl _ _
              · exact ChangesOnly.refl _ _
            · refine ChangesOnly.step (journalDrain_fr _ _ _) (by decide) ?_
              refine ChangesOnly.step (addUnits_fr _ _ _) (by decide) ?_
              refine ChangesOnly.step (addUnits_fr _ _ _) (by decide) ?_
              refine ChangesOnly.step (setDir_fr _ _ _ _) (by decide) ?_
              refine ChangesOnly.step (unmapStretch_fr _ _ _) (by decide) ?_
              refine ChangesOnly.step (takeWseq_fr _ _) (by decide) ?_
              refine ChangesOnly.step (Opt2Frame.of (seqBand_fr _) (by assumption)) (by decide) ?_
              exact ChangesOnly.refl _ _
  · exact ChangesOnly.refl _ _

theorem copyRun_fr (s : State) (v : Nat) (l : List (GcCopy × ToPlace)) : ChangesOnly [.med, .sec, .pair, .mesh, .free] s (copyRun s v l) := by
  unfold copyRun
  repeat' first
    | exact ChangesOnly.refl _ _
    | split
    | refine ChangesOnly.step (runPlace_fr _ _ _ _ _ _ (by assumption)) (by decide) ?_
    | refine ChangesOnly.step (Opt2Frame.of (programRun_fr _ _ _ _ _ _) (by assumption)) (by decide) ?_
    | refine ChangesOnly.step (bandMod_fr _ _ _) (by decide) ?_
    | refine ChangesOnly.step (upMed_fr _ _) (by decide) ?_
    | refine ChangesOnly.foldl (fun _ _ => ?_) ?_
    | dsimp only

theorem copySource_fr (s : State) (m : MediaIn) (v : Nat) (lba : Nat) (e : Machine.MapEntry) : ChangesOnly [.flt, .med, .sec, .mesh, .free] s (copySource s m v lba e).2 := by
  unfold copySource
  try dsimp only
  split
  · try dsimp only
    exact ChangesOnly.refl _ _
  · refine ChangesOnly.ite2 ?_ ?_
    · try dsimp only
      exact ChangesOnly.refl _ _
    · split
      · try dsimp only
        exact ChangesOnly.refl _ _
      · split
        · try dsimp only
          refine ChangesOnly.step (rebuildStored_fr _ _ _ _ _ _ _ _ _ _ _) (by decide) ?_
          refine ChangesOnly.ite ?_ ?_
          · refine ChangesOnly.step (countMismatch_fr _) (by decide) ?_
            exact ChangesOnly.refl _ _
          · exact ChangesOnly.refl _ _
        · try dsimp only
          refine ChangesOnly.step (rebuildStored_fr _ _ _ _ _ _ _ _ _ _ _) (by decide) ?_
          refine ChangesOnly.ite ?_ ?_
          · refine ChangesOnly.step (countMismatch_fr _) (by decide) ?_
            exact ChangesOnly.refl _ _
          · exact ChangesOnly.refl _ _
        · try dsimp only
          refine ChangesOnly.step (rebuildStored_fr _ _ _ _ _ _ _ _ _ _ _) (by decide) ?_
          refine ChangesOnly.ite ?_ ?_
          · refine ChangesOnly.step (countMismatch_fr _) (by decide) ?_
            exact ChangesOnly.refl _ _
          · exact ChangesOnly.refl _ _

theorem copySources_fr (s : State) (m : MediaIn) (l : List (Nat × Nat)) : ChangesOnly [.flt, .med, .sec, .mesh, .free] s (copySources s m l).2 := by
  unfold copySources
  try dsimp only
  split
  · try dsimp only
    exact ChangesOnly.refl _ _
  · split
    · try dsimp only
      refine ChangesOnly.step (copySources_fr _ _ _) (by decide) ?_
      refine ChangesOnly.step (copySource_fr _ _ _ _ _) (by decide) ?_
      exact ChangesOnly.refl _ _
    · try dsimp only
      refine ChangesOnly.step (copySources_fr _ _ _) (by decide) ?_
      refine ChangesOnly.step (copySource_fr _ _ _ _ _) (by decide) ?_
      exact ChangesOnly.refl _ _

theorem stageBlock_fr (s : State) (v : Nat) (lba : Nat) (data : List Byte) : ChangesOnly [.med] s (stageBlock s v lba data) := by
  unfold stageBlock
  try dsimp only
  refine ChangesOnly.step (upMed_fr _ _) (by decide) ?_
  exact ChangesOnly.refl _ _

theorem takeoverDone_fr (s : State) (byCommand : Bool) : ChangesOnly [.tsk, .pair] s (takeoverDone s byCommand) := by
  unfold takeoverDone
  try dsimp only
  refine ChangesOnly.foldl (fun _ _ => ?_) ?_
  · refine ChangesOnly.step (finish_fr _ _ _) (by decide) ?_
    exact ChangesOnly.refl _ _
  · refine ChangesOnly.step (upPair_fr _ _) (by decide) ?_
    refine ChangesOnly.step (pairLog_fr _ _ _ _) (by decide) ?_
    refine ChangesOnly.step (upPair_fr _ _) (by decide) ?_
    refine ChangesOnly.step (postEvent_fr _ _ _ _ _) (by decide) ?_
    exact ChangesOnly.refl _ _

theorem replayFrom_fr (s : State) (l : List Machine.MirrorIn) (byCommand : Bool) : ChangesOnly [.tsk, .med, .pair] s (replayFrom s l byCommand) := by
  unfold replayFrom
  try dsimp only
  split
  · refine ChangesOnly.step (takeoverDone_fr _ _) (by decide) ?_
    refine ChangesOnly.step (upPair_fr _ _) (by decide) ?_
    exact ChangesOnly.refl _ _
  · refine ChangesOnly.ite ?_ ?_
    · refine ChangesOnly.step (replayFrom_fr _ _ _) (by decide) ?_
      refine ChangesOnly.foldl (fun _ _ => ?_) ?_
      · refine ChangesOnly.step (stageBlock_fr _ _ _ _) (by decide) ?_
        exact ChangesOnly.refl _ _
      · exact ChangesOnly.refl _ _
    · refine ChangesOnly.step (upPair_fr _ _) (by decide) ?_
      exact ChangesOnly.refl _ _

theorem replayMirror_fr (s : State) : ChangesOnly [.tsk, .med, .pair] s (replayMirror s) := by
  unfold replayMirror
  try dsimp only
  split
  · refine ChangesOnly.step (replayFrom_fr _ _ _) (by decide) ?_
    exact ChangesOnly.refl _ _
  · exact ChangesOnly.refl _ _

theorem execProgramComplete_fr (item : ProgItem) (s : State) : OutFrame [.flt, .tsk, .med, .sec, .pair, .mesh, .free] s (execProgramComplete item s) := by
  unfold execProgramComplete
  try dsimp only
  refine OutFrame.ite ?_ ?_
  · refine OutFrame.next ?_
    exact ChangesOnly.refl _ _
  · split
    · refine OutFrame.next ?_
      refine ChangesOnly.step (replayMirror_fr _) (by decide) ?_
      refine ChangesOnly.step (placeHost_fr _ _ _ _) (by decide) ?_
      exact ChangesOnly.refl _ _
    · refine OutFrame.next ?_
      refine ChangesOnly.step (placeExtent_fr _ _ _) (by decide) ?_
      exact ChangesOnly.refl _ _
    · split
      · refine OutFrame.ite ?_ ?_
        · refine OutFrame.next ?_
          exact ChangesOnly.refl _ _
        · split
          · refine OutFrame.next ?_
            refine ChangesOnly.step (copyRun_fr _ _ _) (by decide) ?_
            refine ChangesOnly.step (ChangesOnly.of2 (copySources_fr _ _ _) (by assumption)) (by decide) ?_
            exact ChangesOnly.refl _ _
          · refine OutFrame.next ?_
            refine ChangesOnly.step (ChangesOnly.of2 (copySources_fr _ _ _) (by assumption)) (by decide) ?_
            exact ChangesOnly.refl _ _
      · refine OutFrame.next ?_
        exact ChangesOnly.refl _ _

theorem moveSpill_fr (s : State) (x : Machine.Spill) : ChangesOnly [.med, .sec, .pair, .mesh, .free] s (moveSpill s x) := by
  unfold moveSpill
  try dsimp only
  split
  · exact ChangesOnly.refl _ _
  · refine ChangesOnly.step (journalDrain_fr _ _ _) (by decide) ?_
    refine ChangesOnly.step (subRun_fr _ _) (by decide) ?_
    refine ChangesOnly.step (upMed_fr _ _) (by decide) ?_
    refine ChangesOnly.step (Opt2Frame.of (writeRun_fr _ _) (by assumption)) (by decide) ?_
    exact ChangesOnly.refl _ _

theorem dirtyVictim_fr (s : State) (b : Nat) : ChangesOnly [.med, .sec, .pair, .mesh, .free] s (dirtyVictim s b) := by
  unfold dirtyVictim
  try dsimp only
  refine ChangesOnly.foldl (fun _ _ => ?_) ?_
  · refine ChangesOnly.ite ?_ ?_
    · refine ChangesOnly.step (modPage_fr _ _ _ _) (by decide) ?_
      refine ChangesOnly.step (ensurePage_fr _ _ _) (by decide) ?_
      exact ChangesOnly.refl _ _
    · exact ChangesOnly.refl _ _
  · refine ChangesOnly.foldl (fun _ _ => ?_) ?_
    · refine ChangesOnly.step (moveSpill_fr _ _) (by decide) ?_
      exact ChangesOnly.refl _ _
    · refine ChangesOnly.step (upMed_fr _ _) (by decide) ?_
      exact ChangesOnly.refl _ _

theorem workVictim_fr (s : State) (b : Nat) : ChangesOnly [.med, .sec, .pair, .mesh, .free] s (workVictim s b) := by
  unfold workVictim
  try dsimp only
  split
  · refine ChangesOnly.ite ?_ ?_
    · refine ChangesOnly.step (dirtyVictim_fr _ _) (by decide) ?_
      exact ChangesOnly.refl _ _
    · exact ChangesOnly.refl _ _
  · exact ChangesOnly.refl _ _

theorem execGcRun_fr (s : State) : OutFrame [.pwr, .med, .sec, .pair, .mesh, .free] s (execGcRun s) := by
  unfold execGcRun
  try dsimp only
  refine OutFrame.ite ?_ ?_
  · refine OutFrame.next ?_
    exact ChangesOnly.refl _ _
  · split
    · refine OutFrame.ite ?_ ?_
      · refine OutFrame.next ?_
        refine ChangesOnly.step (workVictim_fr _ _) (by decide) ?_
        exact ChangesOnly.refl _ _
      · refine OutFrame.next ?_
        refine ChangesOnly.step (upMed_fr _ _) (by decide) ?_
        exact ChangesOnly.refl _ _
    · split
      · refine OutFrame.next ?_
        refine ChangesOnly.step (upMed_fr _ _) (by decide) ?_
        exact ChangesOnly.refl _ _
      · refine OutFrame.next ?_
        refine ChangesOnly.step (workVictim_fr _ _) (by decide) ?_
        refine ChangesOnly.step (wakeGlide_fr _) (by decide) ?_
        refine ChangesOnly.step (upMed_fr _ _) (by decide) ?_
        exact ChangesOnly.refl _ _

theorem execGcCommit_fr (vol : Nat) (lba : Nat) (s : State) : OutFrame [.med, .sec, .pair, .mesh, .free] s (execGcCommit vol lba s) := by
  unfold execGcCommit
  try dsimp only
  split
  · refine OutFrame.next ?_
    exact ChangesOnly.refl _ _
  · split
    · refine OutFrame.next ?_
      refine ChangesOnly.step (fetchLeaf_fr _ _ _) (by decide) ?_
      exact ChangesOnly.refl _ _
    · refine OutFrame.ite ?_ ?_
      · refine OutFrame.next ?_
        refine ChangesOnly.step (jStall_fr _) (by decide) ?_
        exact ChangesOnly.refl _ _
      · refine OutFrame.ite ?_ ?_
        · refine OutFrame.next ?_
          exact ChangesOnly.refl _ _
        · refine OutFrame.ite ?_ ?_
          · refine OutFrame.next ?_
            refine ChangesOnly.ite ?_ ?_
            · refine ChangesOnly.step (upMed_fr _ _) (by decide) ?_
              refine ChangesOnly.step (journal_fr _ _) (by decide) ?_
              refine ChangesOnly.step (markDrained_fr _ _) (by decide) ?_
              refine ChangesOnly.step (applyEntry_fr _ _ _ _) (by decide) ?_
              refine ChangesOnly.step (bandMod_fr _ _ _) (by decide) ?_
              refine ChangesOnly.step (upMed_fr _ _) (by decide) ?_
              exact ChangesOnly.refl _ _
            · refine ChangesOnly.step (journal_fr _ _) (by decide) ?_
              refine ChangesOnly.step (markDrained_fr _ _) (by decide) ?_
              refine ChangesOnly.step (applyEntry_fr _ _ _ _) (by decide) ?_
              refine ChangesOnly.step (bandMod_fr _ _ _) (by decide) ?_
              refine ChangesOnly.step (upMed_fr _ _) (by decide) ?_
              exact ChangesOnly.refl _ _
          · refine OutFrame.next ?_
            refine ChangesOnly.step (upMed_fr _ _) (by decide) ?_
            refine ChangesOnly.step (bandMod_fr _ _ _) (by decide) ?_
            refine ChangesOnly.step (upMed_fr _ _) (by decide) ?_
            exact ChangesOnly.refl _ _

theorem execRelocation_fr (vol : Nat) (lba : Nat) (s : State) : OutFrame [.flt, .med, .sec, .pair, .mesh, .free] s (execRelocation vol lba s) := by
  unfold execRelocation
  try dsimp only
  split
  · refine OutFrame.next ?_
    exact ChangesOnly.refl _ _
  · refine OutFrame.ite ?_ ?_
    · refine OutFrame.next ?_
      exact ChangesOnly.refl _ _
    · refine OutFrame.ite ?_ ?_
      · refine OutFrame.next ?_
        refine ChangesOnly.step (upMed_fr _ _) (by decide) ?_
        exact ChangesOnly.refl _ _
      · split
        · refine OutFrame.next ?_
          refine ChangesOnly.step (copyRun_fr _ _ _) (by decide) ?_
          refine ChangesOnly.step (upMed_fr _ _) (by decide) ?_
          refine ChangesOnly.step (ChangesOnly.of2 (copySource_fr _ _ _ _ _) (by assumption)) (by decide) ?_
          exact ChangesOnly.refl _ _
        · refine OutFrame.next ?_
          refine ChangesOnly.step (ChangesOnly.of2 (copySource_fr _ _ _ _ _) (by assumption)) (by decide) ?_
          exact ChangesOnly.refl _ _
        · refine OutFrame.next ?_
          refine ChangesOnly.step (upMed_fr _ _) (by decide) ?_
          refine ChangesOnly.step (ChangesOnly.of2 (copySource_fr _ _ _ _ _) (by assumption)) (by decide) ?_
          exact ChangesOnly.refl _ _

theorem execSegmentSealTimeout_fr (band : Nat) (s : State) : OutFrame [.med, .sec, .pair, .mesh, .free] s (execSegmentSealTimeout band s) := by
  unfold execSegmentSealTimeout
  try dsimp only
  split
  · refine OutFrame.ite ?_ ?_
    · refine OutFrame.ite ?_ ?_
      · refine OutFrame.next ?_
        refine ChangesOnly.step (padSegment_fr _ _) (by decide) ?_
        exact ChangesOnly.refl _ _
      · refine OutFrame.next ?_
        refine ChangesOnly.step (jStall_fr _) (by decide) ?_
        exact ChangesOnly.refl _ _
    · refine OutFrame.next ?_
      exact ChangesOnly.refl _ _
  · refine OutFrame.next ?_
    exact ChangesOnly.refl _ _

theorem execProgramFail_fr (band : Nat) (channel : Nat) (s : State) : OutFrame [.med, .sec, .pair, .mesh, .free] s (execProgramFail band channel s) := by
  unfold execProgramFail
  try dsimp only
  split
  · refine OutFrame.next ?_
    exact ChangesOnly.refl _ _
  · refine OutFrame.ite ?_ ?_
    · refine OutFrame.next ?_
      exact ChangesOnly.refl _ _
    · refine OutFrame.ite ?_ ?_
      · refine OutFrame.next ?_
        refine ChangesOnly.step (jStall_fr _) (by decide) ?_
        exact ChangesOnly.refl _ _
      · refine OutFrame.next ?_
        refine ChangesOnly.step (journalDrain_fr _ _ _) (by decide) ?_
        refine ChangesOnly.step (bandMod_fr _ _ _) (by decide) ?_
        exact ChangesOnly.refl _ _

theorem execBandErase_fr (band : Nat) (s : State) : OutFrame [.med, .sec, .pair, .mesh, .free] s (execBandErase band s) := by
  unfold execBandErase
  try dsimp only
  split
  · refine OutFrame.next ?_
    exact ChangesOnly.refl _ _
  · refine OutFrame.ite ?_ ?_
    · refine OutFrame.ite ?_ ?_
      · refine OutFrame.next ?_
        refine ChangesOnly.step (jStall_fr _) (by decide) ?_
        exact ChangesOnly.refl _ _
      · refine OutFrame.next ?_
        refine ChangesOnly.step (journal_fr _ _) (by decide) ?_
        refine ChangesOnly.step (setBand_fr _ _ _) (by decide) ?_
        exact ChangesOnly.refl _ _
    · refine OutFrame.next ?_
      exact ChangesOnly.refl _ _

theorem enterReadOnly_fr (s : State) (detail : Nat) : ChangesOnly [.tsk] s (enterReadOnly s detail) := by
  unfold enterReadOnly
  try dsimp only
  refine ChangesOnly.step (postEvent_fr _ _ _ _ _) (by decide) ?_
  exact ChangesOnly.refl _ _

theorem spareStep_fr (s : State) : ChangesOnly [.flt, .tsk, .med] s (spareStep s) := by
  unfold spareStep
  try dsimp only
  refine ChangesOnly.ite ?_ ?_
  · exact ChangesOnly.refl _ _
  · refine ChangesOnly.ite ?_ ?_
    · refine ChangesOnly.step (enterReadOnly_fr _ _) (by decide) ?_
      refine ChangesOnly.ite ?_ ?_
      · refine ChangesOnly.step (raiseAt_fr _ _ _ _ _) (by decide) ?_
        refine ChangesOnly.ite ?_ ?_
        · refine ChangesOnly.step (raiseAt_fr _ _ _ _ _) (by decide) ?_
          refine ChangesOnly.step (upMed_fr _ _) (by decide) ?_
          exact ChangesOnly.refl _ _
        · refine ChangesOnly.step (upMed_fr _ _) (by decide) ?_
          exact ChangesOnly.refl _ _
      · refine ChangesOnly.ite ?_ ?_
        · refine ChangesOnly.step (raiseAt_fr _ _ _ _ _) (by decide) ?_
          refine ChangesOnly.step (upMed_fr _ _) (by decide) ?_
          exact ChangesOnly.refl _ _
        · refine ChangesOnly.step (upMed_fr _ _) (by decide) ?_
          exact ChangesOnly.refl _ _
    · refine ChangesOnly.ite ?_ ?_
      · refine ChangesOnly.step (raiseAt_fr _ _ _ _ _) (by decide) ?_
        refine ChangesOnly.ite ?_ ?_
        · refine ChangesOnly.step (raiseAt_fr _ _ _ _ _) (by decide) ?_
          refine ChangesOnly.step (upMed_fr _ _) (by decide) ?_
          exact ChangesOnly.refl _ _
        · refine ChangesOnly.step (upMed_fr _ _) (by decide) ?_
          exact ChangesOnly.refl _ _
      · refine ChangesOnly.ite ?_ ?_
        · refine ChangesOnly.step (raiseAt_fr _ _ _ _ _) (by decide) ?_
          refine ChangesOnly.step (upMed_fr _ _) (by decide) ?_
          exact ChangesOnly.refl _ _
        · refine ChangesOnly.step (upMed_fr _ _) (by decide) ?_
          exact ChangesOnly.refl _ _

theorem retireBlock_fr (s : State) (ch : Nat) : ChangesOnly [.flt, .tsk, .med] s (retireBlock s ch) := by
  unfold retireBlock
  try dsimp only
  refine ChangesOnly.step (spareStep_fr _) (by decide) ?_
  refine ChangesOnly.step (upMed_fr _ _) (by decide) ?_
  exact ChangesOnly.refl _ _

theorem formBand_fr (s : State) : ChangesOnly [.med] s (formBand s) := by
  unfold formBand
  try dsimp only
  refine ChangesOnly.ite ?_ ?_
  · exact ChangesOnly.refl _ _
  · split
    · exact ChangesOnly.refl _ _
    · refine ChangesOnly.step (upMed_fr _ _) (by decide) ?_
      exact ChangesOnly.refl _ _

theorem eraseBand_fr (s : State) (band : Nat) (x : Machine.Band) (failed : List Nat) (n : Nat) : ChangesOnly [.flt, .tsk, .med, .sec, .pair, .mesh, .free] s (eraseBand s band x failed n) := by
  unfold eraseBand
  try dsimp only
  refine ChangesOnly.ite ?_ ?_
  · refine ChangesOnly.step (upMed_fr _ _) (by decide) ?_
    refine ChangesOnly.step (journal_fr _ _) (by decide) ?_
    refine ChangesOnly.step (setBand_fr _ _ _) (by decide) ?_
    refine ChangesOnly.step (upMesh_fr _ _) (by decide) ?_
    refine ChangesOnly.step (bandMod_fr _ _ _) (by decide) ?_
    refine ChangesOnly.step (upMed_fr _ _) (by decide) ?_
    exact ChangesOnly.refl _ _
  · refine ChangesOnly.step (formBand_fr _) (by decide) ?_
    refine ChangesOnly.foldl (fun _ _ => ?_) ?_
    · refine ChangesOnly.step (retireBlock_fr _ _) (by decide) ?_
      exact ChangesOnly.refl _ _
    · refine ChangesOnly.step (upMed_fr _ _) (by decide) ?_
      refine ChangesOnly.step (journal_fr _ _) (by decide) ?_
      refine ChangesOnly.step (setBand_fr _ _ _) (by decide) ?_
      refine ChangesOnly.step (upMesh_fr _ _) (by decide) ?_
      refine ChangesOnly.step (bandMod_fr _ _ _) (by decide) ?_
      refine ChangesOnly.step (upMed_fr _ _) (by decide) ?_
      exact ChangesOnly.refl _ _

theorem execEraseComplete_fr (band : Nat) (failed : List Nat) (s : State) : OutFrame [.flt, .tsk, .med, .sec, .pair, .mesh, .free] s (execEraseComplete band failed s) := by
  unfold execEraseComplete
  try dsimp only
  split
  · refine OutFrame.next ?_
    exact ChangesOnly.refl _ _
  · refine OutFrame.ite ?_ ?_
    · refine OutFrame.next ?_
      exact ChangesOnly.refl _ _
    · refine OutFrame.ite ?_ ?_
      · refine OutFrame.next ?_
        refine ChangesOnly.step (jStall_fr _) (by decide) ?_
        exact ChangesOnly.refl _ _
      · refine OutFrame.next ?_
        refine ChangesOnly.step (eraseBand_fr _ _ _ _ _) (by decide) ?_
        exact ChangesOnly.refl _ _

theorem endPatrolPass_fr (s : State) (b : Nat) : ChangesOnly [.med] s (endPatrolPass s b) := by
  unfold endPatrolPass
  try dsimp only
  refine ChangesOnly.step (bandMod_fr _ _ _) (by decide) ?_
  exact ChangesOnly.refl _ _

theorem settlePatrol_fr (s : State) : ChangesOnly [.med] s (settlePatrol s) := by
  unfold settlePatrol
  try dsimp only
  refine ChangesOnly.foldl (fun _ _ => ?_) ?_
  · refine ChangesOnly.step (endPatrolPass_fr _ _) (by decide) ?_
    exact ChangesOnly.refl _ _
  · exact ChangesOnly.refl _ _

theorem execPatrolRead_fr (cw : Nat) (level : Nat) (s : State) : OutFrame [.flt, .med, .sec, .mesh, .free] s (execPatrolRead cw level s) := by
  unfold execPatrolRead
  try dsimp only
  refine OutFrame.ite ?_ ?_
  · refine OutFrame.next ?_
    exact ChangesOnly.refl _ _
  · split
    · refine OutFrame.next ?_
      refine ChangesOnly.step (settlePatrol_fr _) (by decide) ?_
      exact ChangesOnly.refl _ _
    · refine OutFrame.ite ?_ ?_
      · refine OutFrame.next ?_
        refine ChangesOnly.step (settlePatrol_fr _) (by decide) ?_
        exact ChangesOnly.refl _ _
      · refine OutFrame.next ?_
        refine ChangesOnly.step (settlePatrol_fr _) (by decide) ?_
        refine ChangesOnly.ite ?_ ?_
        · refine ChangesOnly.step (upMed_fr _ _) (by decide) ?_
          refine ChangesOnly.step (bandMod_fr _ _ _) (by decide) ?_
          refine ChangesOnly.ite ?_ ?_
          · refine ChangesOnly.step (raise_fr _ _) (by decide) ?_
            refine ChangesOnly.step (startRecon_fr _ _ _ _ _ _) (by decide) ?_
            refine ChangesOnly.ite ?_ ?_
            · refine ChangesOnly.step (queueReloc_fr _ _) (by decide) ?_
              refine ChangesOnly.step (upMed_fr _ _) (by decide) ?_
              refine ChangesOnly.step (settlePatrol_fr _) (by decide) ?_
              exact ChangesOnly.refl _ _
            · refine ChangesOnly.step (upMed_fr _ _) (by decide) ?_
              refine ChangesOnly.step (settlePatrol_fr _) (by decide) ?_
              exact ChangesOnly.refl _ _
          · refine ChangesOnly.ite ?_ ?_
            · refine ChangesOnly.step (queueReloc_fr _ _) (by decide) ?_
              refine ChangesOnly.step (upMed_fr _ _) (by decide) ?_
              refine ChangesOnly.step (settlePatrol_fr _) (by decide) ?_
              exact ChangesOnly.refl _ _
            · refine ChangesOnly.step (upMed_fr _ _) (by decide) ?_
              refine ChangesOnly.step (settlePatrol_fr _) (by decide) ?_
              exact ChangesOnly.refl _ _
        · refine ChangesOnly.step (bandMod_fr _ _ _) (by decide) ?_
          refine ChangesOnly.ite ?_ ?_
          · refine ChangesOnly.step (raise_fr _ _) (by decide) ?_
            refine ChangesOnly.step (startRecon_fr _ _ _ _ _ _) (by decide) ?_
            refine ChangesOnly.ite ?_ ?_
            · refine ChangesOnly.step (queueReloc_fr _ _) (by decide) ?_
              refine ChangesOnly.step (upMed_fr _ _) (by decide) ?_
              refine ChangesOnly.step (settlePatrol_fr _) (by decide) ?_
              exact ChangesOnly.refl _ _
            · refine ChangesOnly.step (upMed_fr _ _) (by decide) ?_
              refine ChangesOnly.step (settlePatrol_fr _) (by decide) ?_
              exact ChangesOnly.refl _ _
          · refine ChangesOnly.ite ?_ ?_
            · refine ChangesOnly.step (queueReloc_fr _ _) (by decide) ?_
              refine ChangesOnly.step (upMed_fr _ _) (by decide) ?_
              refine ChangesOnly.step (settlePatrol_fr _) (by decide) ?_
              exact ChangesOnly.refl _ _
            · refine ChangesOnly.step (upMed_fr _ _) (by decide) ?_
              refine ChangesOnly.step (settlePatrol_fr _) (by decide) ?_
              exact ChangesOnly.refl _ _

theorem execPatrolOverdue_fr (band : Nat) (s : State) : OutFrame [.flt, .med] s (execPatrolOverdue band s) := by
  unfold execPatrolOverdue
  try dsimp only
  split
  · refine OutFrame.ite ?_ ?_
    · refine OutFrame.next ?_
      refine ChangesOnly.step (raise_fr _ _) (by decide) ?_
      refine ChangesOnly.step (bandMod_fr _ _ _) (by decide) ?_
      exact ChangesOnly.refl _ _
    · refine OutFrame.next ?_
      exact ChangesOnly.refl _ _
  · refine OutFrame.next ?_
    exact ChangesOnly.refl _ _

theorem execJournalLineFlush_fr (s : State) : OutFrame [.med, .sec, .pair, .mesh, .free] s (execJournalLineFlush s) := by
  unfold execJournalLineFlush
  try dsimp only
  refine OutFrame.ite ?_ ?_
  · refine OutFrame.next ?_
    exact ChangesOnly.refl _ _
  · refine OutFrame.ite ?_ ?_
    · refine OutFrame.next ?_
      refine ChangesOnly.step (jStall_fr _) (by decide) ?_
      exact ChangesOnly.refl _ _
    · refine OutFrame.next ?_
      refine ChangesOnly.step (flushLine_fr _) (by decide) ?_
      exact ChangesOnly.refl _ _

theorem startCkpt_fr (s : State) : ChangesOnly [.med, .sec, .pair, .mesh, .free] s (startCkpt s) := by
  unfold startCkpt
  try dsimp only
  refine ChangesOnly.step (writePieces_fr _) (by decide) ?_
  refine ChangesOnly.step (upMed_fr _ _) (by decide) ?_
  refine ChangesOnly.foldl (fun _ _ => ?_) ?_
  · refine ChangesOnly.step (writePage_fr _ _) (by decide) ?_
    exact ChangesOnly.refl _ _
  · refine ChangesOnly.step (ringStraight_fr _ _) (by decide) ?_
    refine ChangesOnly.ite ?_ ?_
    · refine ChangesOnly.step (flushAll_fr _) (by decide) ?_
      exact ChangesOnly.refl _ _
    · exact ChangesOnly.refl _ _

theorem execCheckpointStart_fr (s : State) : OutFrame [.med, .sec, .pair, .mesh, .free] s (execCheckpointStart s) := by
  unfold execCheckpointStart
  try dsimp only
  refine OutFrame.ite ?_ ?_
  · refine OutFrame.next ?_
    exact ChangesOnly.refl _ _
  · refine OutFrame.next ?_
    refine ChangesOnly.step (startCkpt_fr _) (by decide) ?_
    exact ChangesOnly.refl _ _

theorem moveTail_fr (s : State) : ChangesOnly [.med] s (moveTail s) := by
  unfold moveTail
  try dsimp only
  split
  · exact ChangesOnly.refl _ _
  · refine ChangesOnly.step (upMed_fr _ _) (by decide) ?_
    exact ChangesOnly.refl _ _

theorem putRoot_fr (s : State) (r : Machine.Root) : ChangesOnly [.med] s (putRoot s r) := by
  unfold putRoot
  try dsimp only
  refine ChangesOnly.step (upMed_fr _ _) (by decide) ?_
  exact ChangesOnly.refl _ _

theorem dropPieces_fr (s : State) (old : List Nat) : ChangesOnly [.med, .sec, .pair, .mesh, .free] s (dropPieces s old) := by
  unfold dropPieces
  try dsimp only
  refine ChangesOnly.step (journalDrain_fr _ _ _) (by decide) ?_
  refine ChangesOnly.foldl (fun _ _ => ?_) ?_
  · refine ChangesOnly.step (subRun_fr _ _) (by decide) ?_
    exact ChangesOnly.refl _ _
  · exact ChangesOnly.refl _ _

theorem execCheckpointRootWrite_fr (s : State) : OutFrame [.med, .sec, .pair, .mesh, .free] s (execCheckpointRootWrite s) := by
  unfold execCheckpointRootWrite
  try dsimp only
  refine OutFrame.ite ?_ ?_
  · refine OutFrame.next ?_
    exact ChangesOnly.refl _ _
  · split
    · refine OutFrame.next ?_
      refine ChangesOnly.step (writePieces_fr _) (by decide) ?_
      exact ChangesOnly.refl _ _
    · refine OutFrame.ite ?_ ?_
      · refine OutFrame.next ?_
        refine ChangesOnly.step (writePieces_fr _) (by decide) ?_
        exact ChangesOnly.refl _ _
      · refine OutFrame.next ?_
        refine ChangesOnly.step (moveTail_fr _) (by decide) ?_
        refine ChangesOnly.ite ?_ ?_
        · refine ChangesOnly.step (sendT_fr _ _) (by decide) ?_
          refine ChangesOnly.step (dropPieces_fr _ _) (by decide) ?_
          refine ChangesOnly.step (upMed_fr _ _) (by decide) ?_
          refine ChangesOnly.step (putRoot_fr _ _) (by decide) ?_
          refine ChangesOnly.step (writePieces_fr _) (by decide) ?_
          exact ChangesOnly.refl _ _
        · refine ChangesOnly.step (dropPieces_fr _ _) (by decide) ?_
          refine ChangesOnly.step (upMed_fr _ _) (by decide) ?_
          refine ChangesOnly.step (putRoot_fr _ _) (by decide) ?_
          refine ChangesOnly.step (writePieces_fr _) (by decide) ?_
          exact ChangesOnly.refl _ _

theorem blankPjm_fr (s : State) (share : Nat) : ChangesOnly [.flt, .tsk, .med, .sec, .pair, .mesh] s (blankPjm s share) := by
  unfold blankPjm
  try dsimp only
  refine ChangesOnly.step (spareStep_fr _) (by decide) ?_
  refine ChangesOnly.step (putRoot_fr _ _) (by decide) ?_
  refine ChangesOnly.foldl (fun _ _ => ?_) ?_
  · refine ChangesOnly.step (formBand_fr _) (by decide) ?_
    exact ChangesOnly.refl _ _
  · refine ChangesOnly.step (upMesh_fr _ _) (by decide) ?_
    refine ChangesOnly.step (soloAgain_fr _) (by decide) ?_
    refine ChangesOnly.step (upMed_fr _ _) (by decide) ?_
    refine ChangesOnly.step (freshKey_fr _) (by decide) ?_
    refine ChangesOnly.step (freshKey_fr _) (by decide) ?_
    exact ChangesOnly.refl _ _


/-! ### Mesh -/

theorem modGroup_fr (s : State) (id : Nat) (f : Machine.Group → Machine.Group) : ChangesOnly [.mesh] s (modGroup s id f) := by
  unfold modGroup
  try dsimp only
  refine ChangesOnly.step (upMesh_fr _ _) (by decide) ?_
  exact ChangesOnly.refl _ _

theorem sendOthers_fr (s : State) (g : Machine.Group) (b : Machine.MBody) : ChangesOnly [.sec, .mesh, .free] s (sendOthers s g b) := by
  unfold sendOthers
  try dsimp only
  refine ChangesOnly.foldl (fun _ _ => ?_) ?_
  · refine ChangesOnly.step (sendM_fr _ _ _ _) (by decide) ?_
    exact ChangesOnly.refl _ _
  · exact ChangesOnly.refl _ _

theorem groupLog_fr (s : State) (id : Nat) (event : Nat) (value : Nat) : ChangesOnly [.pair] s (groupLog s id event value) := by
  unfold groupLog
  try dsimp only
  split
  · refine ChangesOnly.step (pairLog_fr _ _ _ _) (by decide) ?_
    exact ChangesOnly.refl _ _
  · exact ChangesOnly.refl _ _

theorem modStripe_fr (s : State) (group : Nat) (num : Nat) (f : Machine.Stripe → Machine.Stripe) : ChangesOnly [.mesh] s (modStripe s group num f) := by
  unfold modStripe
  try dsimp only
  refine ChangesOnly.step (upMesh_fr _ _) (by decide) ?_
  exact ChangesOnly.refl _ _

theorem holdStripe_fr (s : State) (group : Nat) (num : Nat) : ChangesOnly [.mesh] s (holdStripe s group num) := by
  unfold holdStripe
  try dsimp only
  refine ChangesOnly.ite ?_ ?_
  · exact ChangesOnly.refl _ _
  · refine ChangesOnly.step (upMesh_fr _ _) (by decide) ?_
    exact ChangesOnly.refl _ _

theorem allot_fr (s : State) (group : Nat) (num : Nat) : OptFrame [.mesh] s (allot s group num) := by
  unfold allot
  try dsimp only
  split
  · exact OptFrame.none
  · refine OptFrame.ite ?_ ?_
    · refine OptFrame.some ?_
      exact ChangesOnly.refl _ _
    · refine OptFrame.ite ?_ ?_
      · exact OptFrame.none
      · refine OptFrame.some ?_
        refine ChangesOnly.step (upMesh_fr _ _) (by decide) ?_
        refine ChangesOnly.step (modStripe_fr _ _ _ _) (by decide) ?_
        exact ChangesOnly.refl _ _

theorem fixStripe_fr (s : State) (g : Machine.Group) (x : Machine.Stripe) (l : List (Nat × Nat × Nat)) : ChangesOnly [.sec, .mesh, .free] s (fixStripe s g x l) := by
  unfold fixStripe
  try dsimp only
  refine ChangesOnly.step (sendOthers_fr _ _ _) (by decide) ?_
  refine ChangesOnly.step (upMesh_fr _ _) (by decide) ?_
  refine ChangesOnly.step (modStripe_fr _ _ _ _) (by decide) ?_
  exact ChangesOnly.refl _ _

theorem contribute_fr (s : State) (g : Machine.Group) (o : Machine.OwnSeg) (rows : List Nat) : ChangesOnly [.sec, .mesh, .free] s (contribute s g o rows) := by
  unfold contribute
  try dsimp only
  refine ChangesOnly.foldl (fun _ _ => ?_) ?_
  · refine ChangesOnly.foldl (fun _ _ => ?_) ?_
    · refine ChangesOnly.step (sendM_fr _ _ _ _) (by decide) ?_
      exact ChangesOnly.refl _ _
    · exact ChangesOnly.refl _ _
  · exact ChangesOnly.refl _ _

theorem abandonAcc_fr (s : State) (g : Machine.Group) (num : Nat) (keep : List (Nat × Nat × Nat)) : ChangesOnly [.sec, .mesh, .free] s (abandonAcc s g num keep) := by
  unfold abandonAcc
  try dsimp only
  refine ChangesOnly.foldl (fun _ _ => ?_) ?_
  · refine ChangesOnly.step (sendM_fr _ _ _ _) (by decide) ?_
    exact ChangesOnly.refl _ _
  · refine ChangesOnly.step (upMesh_fr _ _) (by decide) ?_
    refine ChangesOnly.step (modStripe_fr _ _ _ _) (by decide) ?_
    exact ChangesOnly.refl _ _

theorem wholeSegBand_fr (s : State) (t : Machine.Stream) : Opt2Frame [.med, .sec, .pair, .mesh, .free] s (wholeSegBand s t) := by
  unfold wholeSegBand
  try dsimp only
  refine Opt2Frame.step (bandFor_fr _ _) (by decide) ?_
  split
  · refine ChangesOnly.step (padSegment_fr _ _) (by decide) ?_
    exact ChangesOnly.refl _ _
  · exact ChangesOnly.refl _ _

theorem putSegment_fr (s : State) (b : Nat) (l : List Machine.Codeword) : ChangesOnly [.med] s (putSegment s b l).2 := by
  unfold putSegment
  try dsimp only
  split
  · try dsimp only
    exact ChangesOnly.refl _ _
  · try dsimp only
    refine ChangesOnly.step (countSeal_fr _ _) (by decide) ?_
    refine ChangesOnly.step (bandMod_fr _ _ _) (by decide) ?_
    refine ChangesOnly.foldl (fun _ _ => ?_) ?_
    · refine ChangesOnly.step (upMed_fr _ _) (by decide) ?_
      exact ChangesOnly.refl _ _
    · exact ChangesOnly.refl _ _

theorem putRecords_fr (s : State) (b : Nat) : ChangesOnly [.med, .sec, .pair, .mesh, .free] s (putRecords s b) := by
  unfold putRecords
  try dsimp only
  split
  · exact ChangesOnly.refl _ _
  · refine ChangesOnly.ite ?_ ?_
    · exact ChangesOnly.refl _ _
    · refine ChangesOnly.step (closeFull_fr _ _) (by decide) ?_
      refine ChangesOnly.step (putSegment_fr _ _ _) (by decide) ?_
      exact ChangesOnly.refl _ _

theorem putParity_fr (s : State) (r : Machine.StripeRec) (x : Nat → Machine.Coded) : Opt2Frame [.med, .sec, .pair, .mesh, .free] s (putParity s r x) := by
  unfold putParity
  try dsimp only
  split
  · exact Opt2Frame.none
  · split
    · exact Opt2Frame.none
    · refine Opt2Frame.some ?_
      try dsimp only
      refine ChangesOnly.step (putRecords_fr _ _) (by decide) ?_
      refine ChangesOnly.step (addUnits_fr _ _ _) (by decide) ?_
      refine ChangesOnly.step (holdSeg_fr _ _ _) (by decide) ?_
      refine ChangesOnly.step (putSegment_fr _ _ _) (by decide) ?_
      refine ChangesOnly.step (Opt2Frame.of (wholeSegBand_fr _ _) (by assumption)) (by decide) ?_
      exact ChangesOnly.refl _ _

theorem rowDone_fr (s : State) (g : Machine.Group) (t : Nat) (j : Nat) : ChangesOnly [.mesh] s (rowDone s g t j) := by
  unfold rowDone
  try dsimp only
  split
  · exact ChangesOnly.refl _ _
  · refine ChangesOnly.ite ?_ ?_
    · refine ChangesOnly.step (upMesh_fr _ _) (by decide) ?_
      refine ChangesOnly.step (modGroup_fr _ _ _) (by decide) ?_
      refine ChangesOnly.step (modStripe_fr _ _ _ _) (by decide) ?_
      exact ChangesOnly.refl _ _
    · refine ChangesOnly.step (modStripe_fr _ _ _ _) (by decide) ?_
      exact ChangesOnly.refl _ _

theorem segSettled_fr (s : State) (band : Nat) (seg : Nat) : ChangesOnly [.sec, .pair, .mesh, .free] s (segSettled s band seg) := by
  unfold segSettled
  try dsimp only
  refine ChangesOnly.step (releaseMirror_fr _) (by decide) ?_
  refine ChangesOnly.step (upPair_fr _ _) (by decide) ?_
  exact ChangesOnly.refl _ _

theorem ownRows_fr (s : State) (g : Machine.Group) (o : Machine.OwnSeg) (rows : List Nat) : ChangesOnly [.sec, .pair, .mesh, .free] s (ownRows s g o rows) := by
  unfold ownRows
  try dsimp only
  refine ChangesOnly.ite ?_ ?_
  · refine ChangesOnly.step (segSettled_fr _ _ _) (by decide) ?_
    refine ChangesOnly.step (modOwn_fr _ _ _ _) (by decide) ?_
    exact ChangesOnly.refl _ _
  · refine ChangesOnly.step (modOwn_fr _ _ _ _) (by decide) ?_
    exact ChangesOnly.refl _ _

theorem releaseSeg_fr (s : State) (band : Nat) (seg : Nat) (group : Nat) : ChangesOnly [.med, .sec, .pair, .mesh, .free] s (releaseSeg s band seg group) := by
  unfold releaseSeg
  try dsimp only
  refine ChangesOnly.step (journal_fr _ _) (by decide) ?_
  refine ChangesOnly.step (bandMod_fr _ _ _) (by decide) ?_
  exact ChangesOnly.refl _ _

theorem endReplaced_fr (s : State) (band : Nat) (seg : Nat) : ChangesOnly [.med, .sec, .pair, .mesh, .free] s (endReplaced s band seg) := by
  unfold endReplaced
  try dsimp only
  refine ChangesOnly.ite ?_ ?_
  · refine ChangesOnly.step (journalDrain_fr _ _ _) (by decide) ?_
    refine ChangesOnly.step (subUnits_fr _ _ _) (by decide) ?_
    refine ChangesOnly.step (upMesh_fr _ _) (by decide) ?_
    exact ChangesOnly.refl _ _
  · exact ChangesOnly.refl _ _

theorem releaseHere_fr (s : State) (group : Nat) (t : Nat) : ChangesOnly [.med, .sec, .pair, .mesh, .free] s (releaseHere s group t) := by
  unfold releaseHere
  try dsimp only
  split
  · refine ChangesOnly.foldl (fun _ _ => ?_) ?_
    · refine ChangesOnly.step (segSettled_fr _ _ _) (by decide) ?_
      refine ChangesOnly.step (upMesh_fr _ _) (by decide) ?_
      refine ChangesOnly.step (endReplaced_fr _ _ _) (by decide) ?_
      refine ChangesOnly.step (releaseSeg_fr _ _ _ _) (by decide) ?_
      exact ChangesOnly.refl _ _
    · exact ChangesOnly.refl _ _
  · refine ChangesOnly.step (modStripe_fr _ _ _ _) (by decide) ?_
    split
    · refine ChangesOnly.ite ?_ ?_
      · refine ChangesOnly.foldl (fun _ _ => ?_) ?_
        · refine ChangesOnly.step (segSettled_fr _ _ _) (by decide) ?_
          refine ChangesOnly.step (upMesh_fr _ _) (by decide) ?_
          refine ChangesOnly.step (endReplaced_fr _ _ _) (by decide) ?_
          refine ChangesOnly.step (releaseSeg_fr _ _ _ _) (by decide) ?_
          exact ChangesOnly.refl _ _
        · exact ChangesOnly.refl _ _
      · refine ChangesOnly.step (journalDrain_fr _ _ _) (by decide) ?_
        refine ChangesOnly.step (subUnits_fr _ _ _) (by decide) ?_
        refine ChangesOnly.step (releaseSeg_fr _ _ _ _) (by decide) ?_
        refine ChangesOnly.foldl (fun _ _ => ?_) ?_
        · refine ChangesOnly.step (segSettled_fr _ _ _) (by decide) ?_
          refine ChangesOnly.step (upMesh_fr _ _) (by decide) ?_
          refine ChangesOnly.step (endReplaced_fr _ _ _) (by decide) ?_
          refine ChangesOnly.step (releaseSeg_fr _ _ _ _) (by decide) ?_
          exact ChangesOnly.refl _ _
        · exact ChangesOnly.refl _ _
    · refine ChangesOnly.foldl (fun _ _ => ?_) ?_
      · refine ChangesOnly.step (segSettled_fr _ _ _) (by decide) ?_
        refine ChangesOnly.step (upMesh_fr _ _) (by decide) ?_
        refine ChangesOnly.step (endReplaced_fr _ _ _) (by decide) ?_
        refine ChangesOnly.step (releaseSeg_fr _ _ _ _) (by decide) ?_
        exact ChangesOnly.refl _ _
      · exact ChangesOnly.refl _ _

theorem tryRelease_fr (s : State) (g : Machine.Group) (t : Nat) : ChangesOnly [.med, .sec, .pair, .mesh, .free] s (tryRelease s g t) := by
  unfold tryRelease
  try dsimp only
  split
  · refine ChangesOnly.ite ?_ ?_
    · refine ChangesOnly.step (releaseHere_fr _ _ _) (by decide) ?_
      refine ChangesOnly.step (sendOthers_fr _ _ _) (by decide) ?_
      exact ChangesOnly.refl _ _
    · exact ChangesOnly.refl _ _
  · exact ChangesOnly.refl _ _

theorem execMeshConfig_fr (tag : Nat) (s : State) : OutFrame [.tsk, .mesh] s (execMeshConfig tag s) := by
  unfold execMeshConfig
  try dsimp only
  split
  · refine OutFrame.next ?_
    exact ChangesOnly.refl _ _
  · split
    · refine OutFrame.next ?_
      refine ChangesOnly.step (finish_fr _ _ _) (by decide) ?_
      exact ChangesOnly.refl _ _
    · refine OutFrame.next ?_
      refine ChangesOnly.step (finish_fr _ _ _) (by decide) ?_
      refine ChangesOnly.step (rePartition_fr _) (by decide) ?_
      refine ChangesOnly.step (upMesh_fr _ _) (by decide) ?_
      exact ChangesOnly.refl _ _


/-! ### Links -/

theorem rekeyLink_fr (s : State) (link : Nat) : ChangesOnly [.sec] s (rekeyLink s link) := by
  unfold rekeyLink
  try dsimp only
  refine ChangesOnly.step (upSec_fr _ _) (by decide) ?_
  exact ChangesOnly.refl _ _

theorem adoptNext_fr (s : State) (link : Nat) : ChangesOnly [.sec] s (adoptNext s link) := by
  unfold adoptNext
  try dsimp only
  refine ChangesOnly.step (upSec_fr _ _) (by decide) ?_
  exact ChangesOnly.refl _ _

theorem badMessage_fr (s : State) : ChangesOnly [.flt, .pair] s (badMessage s) := by
  unfold badMessage
  try dsimp only
  refine ChangesOnly.step (raise_fr _ _) (by decide) ?_
  refine ChangesOnly.step (upPair_fr _ _) (by decide) ?_
  exact ChangesOnly.refl _ _

theorem setPart_fr (s : State) (vc : Nat) (b : Option (List Byte)) : ChangesOnly [.pair] s (setPart s vc b) := by
  unfold setPart
  try dsimp only
  refine ChangesOnly.step (upPair_fr _ _) (by decide) ?_
  exact ChangesOnly.refl _ _

theorem takePayload_fr (s : State) (f : TetherFlit) : ChangesOnly [.flt, .pair] s (takePayload s f) := by
  unfold takePayload
  try dsimp only
  refine ChangesOnly.ite ?_ ?_
  · refine ChangesOnly.step (badMessage_fr _) (by decide) ?_
    refine ChangesOnly.step (setPart_fr _ _ _) (by decide) ?_
    exact ChangesOnly.refl _ _
  · refine ChangesOnly.ite ?_ ?_
    · refine ChangesOnly.ite ?_ ?_
      · refine ChangesOnly.step (badMessage_fr _) (by decide) ?_
        refine ChangesOnly.ite ?_ ?_
        · refine ChangesOnly.step (badMessage_fr _) (by decide) ?_
          exact ChangesOnly.refl _ _
        · exact ChangesOnly.refl _ _
      · refine ChangesOnly.ite ?_ ?_
        · refine ChangesOnly.step (badMessage_fr _) (by decide) ?_
          exact ChangesOnly.refl _ _
        · exact ChangesOnly.refl _ _
    · refine ChangesOnly.ite ?_ ?_
      · refine ChangesOnly.step (setPart_fr _ _ _) (by decide) ?_
        refine ChangesOnly.ite ?_ ?_
        · refine ChangesOnly.step (badMessage_fr _) (by decide) ?_
          exact ChangesOnly.refl _ _
        · exact ChangesOnly.refl _ _
      · refine ChangesOnly.ite ?_ ?_
        · refine ChangesOnly.step (setPart_fr _ _ _) (by decide) ?_
          refine ChangesOnly.ite ?_ ?_
          · refine ChangesOnly.step (badMessage_fr _) (by decide) ?_
            exact ChangesOnly.refl _ _
          · exact ChangesOnly.refl _ _
        · refine ChangesOnly.step (badMessage_fr _) (by decide) ?_
          refine ChangesOnly.step (setPart_fr _ _ _) (by decide) ?_
          refine ChangesOnly.ite ?_ ?_
          · refine ChangesOnly.step (badMessage_fr _) (by decide) ?_
            exact ChangesOnly.refl _ _
          · exact ChangesOnly.refl _ _

theorem replayTether_fr (s : State) : ChangesOnly [.pair] s (replayTether s) := by
  unfold replayTether
  try dsimp only
  refine ChangesOnly.ite ?_ ?_
  · exact ChangesOnly.refl _ _
  · refine ChangesOnly.step (upPair_fr _ _) (by decide) ?_
    exact ChangesOnly.refl _ _

theorem takeTetherHeader_fr (s : State) (f : TetherFlit) : ChangesOnly [.sec, .pair] s (takeTetherHeader s f) := by
  unfold takeTetherHeader
  try dsimp only
  refine ChangesOnly.step (pumpTether_fr _) (by decide) ?_
  refine ChangesOnly.ite ?_ ?_
  · refine ChangesOnly.step (replayTether_fr _) (by decide) ?_
    refine ChangesOnly.step (upPair_fr _ _) (by decide) ?_
    exact ChangesOnly.refl _ _
  · refine ChangesOnly.step (upPair_fr _ _) (by decide) ?_
    exact ChangesOnly.refl _ _

theorem nakTether_fr (s : State) : ChangesOnly [.pair] s (nakTether s) := by
  unfold nakTether
  try dsimp only
  refine ChangesOnly.step (upPair_fr _ _) (by decide) ?_
  exact ChangesOnly.refl _ _

theorem execTetherFlitReceive_fr (f : TetherFlit) (s : State) : OutFrame [.flt, .sec, .pair] s (execTetherFlitReceive f s) := by
  unfold execTetherFlitReceive
  try dsimp only
  refine OutFrame.ite ?_ ?_
  · refine OutFrame.next ?_
    exact ChangesOnly.refl _ _
  · refine OutFrame.ite ?_ ?_
    · refine OutFrame.next ?_
      exact ChangesOnly.refl _ _
    · refine OutFrame.ite ?_ ?_
      · refine OutFrame.next ?_
        refine ChangesOnly.step (nakTether_fr _) (by decide) ?_
        exact ChangesOnly.refl _ _
      · refine OutFrame.ite ?_ ?_
        · refine OutFrame.next ?_
          refine ChangesOnly.step (takeTetherHeader_fr _ _) (by decide) ?_
          exact ChangesOnly.refl _ _
        · refine OutFrame.ite ?_ ?_
          · refine OutFrame.next ?_
            refine ChangesOnly.step (nakTether_fr _) (by decide) ?_
            exact ChangesOnly.refl _ _
          · refine OutFrame.ite ?_ ?_
            · refine OutFrame.next ?_
              refine ChangesOnly.step (nakTether_fr _) (by decide) ?_
              refine ChangesOnly.step (upPair_fr _ _) (by decide) ?_
              exact ChangesOnly.refl _ _
            · refine OutFrame.next ?_
              refine ChangesOnly.step (takeTetherHeader_fr _ _) (by decide) ?_
              refine ChangesOnly.step (takePayload_fr _ _) (by decide) ?_
              refine ChangesOnly.step (upPair_fr _ _) (by decide) ?_
              refine ChangesOnly.ite ?_ ?_
              · exact ChangesOnly.refl _ _
              · refine ChangesOnly.step (adoptNext_fr _ _) (by decide) ?_
                exact ChangesOnly.refl _ _

theorem execTetherReplayTimeout_fr (s : State) : OutFrame [.pair] s (execTetherReplayTimeout s) := by
  unfold execTetherReplayTimeout
  try dsimp only
  refine OutFrame.ite ?_ ?_
  · refine OutFrame.next ?_
    exact ChangesOnly.refl _ _
  · refine OutFrame.ite ?_ ?_
    · refine OutFrame.next ?_
      refine ChangesOnly.step (replayTether_fr _) (by decide) ?_
      exact ChangesOnly.refl _ _
    · refine OutFrame.next ?_
      exact ChangesOnly.refl _ _

theorem tetherReset_fr (s : State) : ChangesOnly [.flt, .sec, .pair] s (tetherReset s) := by
  unfold tetherReset
  try dsimp only
  refine ChangesOnly.step (raise_fr _ _) (by decide) ?_
  refine ChangesOnly.step (rekeyLink_fr _ _) (by decide) ?_
  refine ChangesOnly.step (upPair_fr _ _) (by decide) ?_
  exact ChangesOnly.refl _ _

theorem execTetherLinkReset_fr (speed : Nat) (width : Nat) (s : State) : OutFrame [.flt, .sec, .pair] s (execTetherLinkReset speed width s) := by
  unfold execTetherLinkReset
  try dsimp only
  refine OutFrame.ite ?_ ?_
  · refine OutFrame.next ?_
    exact ChangesOnly.refl _ _
  · refine OutFrame.ite ?_ ?_
    · refine OutFrame.next ?_
      exact ChangesOnly.refl _ _
    · refine OutFrame.ite ?_ ?_
      · refine OutFrame.next ?_
        refine ChangesOnly.step (pumpTether_fr _) (by decide) ?_
        refine ChangesOnly.step (upPair_fr _ _) (by decide) ?_
        refine ChangesOnly.ite ?_ ?_
        · refine ChangesOnly.step (tetherReset_fr _) (by decide) ?_
          exact ChangesOnly.refl _ _
        · exact ChangesOnly.refl _ _
      · refine OutFrame.next ?_
        refine ChangesOnly.ite ?_ ?_
        · refine ChangesOnly.step (tetherReset_fr _) (by decide) ?_
          exact ChangesOnly.refl _ _
        · exact ChangesOnly.refl _ _

theorem reroute_fr (s : State) (p : Machine.MPkt) : ChangesOnly [.sec, .mesh, .free] s (reroute s p) := by
  unfold reroute
  try dsimp only
  split
  · refine ChangesOnly.step (OptFrame.of (routed_fr _ _ _) (by assumption)) (by decide) ?_
    exact ChangesOnly.refl _ _
  · refine ChangesOnly.ite ?_ ?_
    · exact ChangesOnly.refl _ _
    · refine ChangesOnly.step (sendM_fr _ _ _ _) (by decide) ?_
      exact ChangesOnly.refl _ _

theorem toNeighbours_fr (s : State) (src : Nat) (b : Machine.MBody) : ChangesOnly [.sec, .mesh] s (toNeighbours s src b) := by
  unfold toNeighbours
  try dsimp only
  refine ChangesOnly.foldl (fun _ _ => ?_) ?_
  · split
    · refine ChangesOnly.step (putPort_fr _ _ _ _ _) (by decide) ?_
      exact ChangesOnly.refl _ _
    · exact ChangesOnly.refl _ _
  · exact ChangesOnly.refl _ _

theorem floodOwn_fr (s : State) : ChangesOnly [.sec, .mesh] s (floodOwn s) := by
  unfold floodOwn
  try dsimp only
  refine ChangesOnly.step (toNeighbours_fr _ _ _) (by decide) ?_
  refine ChangesOnly.step (upMesh_fr _ _) (by decide) ?_
  exact ChangesOnly.refl _ _

theorem failPort_fr (s : State) (b : Nat) : ChangesOnly [.sec, .mesh, .free] s (failPort s b) := by
  unfold failPort
  try dsimp only
  refine ChangesOnly.ite ?_ ?_
  · exact ChangesOnly.refl _ _
  · refine ChangesOnly.foldl (fun _ _ => ?_) ?_
    · refine ChangesOnly.step (reroute_fr _ _) (by decide) ?_
      exact ChangesOnly.refl _ _
    · refine ChangesOnly.step (floodOwn_fr _) (by decide) ?_
      refine ChangesOnly.step (rePartition_fr _) (by decide) ?_
      refine ChangesOnly.step (upMesh_fr _ _) (by decide) ?_
      refine ChangesOnly.step (modPort_fr _ _ _) (by decide) ?_
      exact ChangesOnly.refl _ _

theorem execPortFailed_fr (port : Nat) (s : State) : OutFrame [.sec, .mesh, .free] s (execPortFailed port s) := by
  unfold execPortFailed
  try dsimp only
  refine OutFrame.ite ?_ ?_
  · refine OutFrame.next ?_
    exact ChangesOnly.refl _ _
  · refine OutFrame.ite ?_ ?_
    · refine OutFrame.next ?_
      exact ChangesOnly.refl _ _
    · refine OutFrame.next ?_
      refine ChangesOnly.step (failPort_fr _ _) (by decide) ?_
      exact ChangesOnly.refl _ _

theorem trailReset_fr (s : State) (b : Nat) : ChangesOnly [.flt, .sec, .mesh, .free] s (trailReset s b) := by
  unfold trailReset
  try dsimp only
  refine ChangesOnly.ite ?_ ?_
  · refine ChangesOnly.step (failPort_fr _ _) (by decide) ?_
    refine ChangesOnly.step (raise_fr _ _) (by decide) ?_
    refine ChangesOnly.step (rekeyLink_fr _ _) (by decide) ?_
    refine ChangesOnly.step (upMesh_fr _ _) (by decide) ?_
    refine ChangesOnly.step (modPort_fr _ _ _) (by decide) ?_
    exact ChangesOnly.refl _ _
  · refine ChangesOnly.step (raise_fr _ _) (by decide) ?_
    refine ChangesOnly.step (rekeyLink_fr _ _) (by decide) ?_
    refine ChangesOnly.step (upMesh_fr _ _) (by decide) ?_
    refine ChangesOnly.step (modPort_fr _ _ _) (by decide) ?_
    exact ChangesOnly.refl _ _

theorem replayTrail_fr (s : State) (b : Nat) : ChangesOnly [.flt, .sec, .mesh, .free] s (replayTrail s b) := by
  unfold replayTrail
  try dsimp only
  refine ChangesOnly.ite ?_ ?_
  · exact ChangesOnly.refl _ _
  · refine ChangesOnly.ite ?_ ?_
    · refine ChangesOnly.step (trailReset_fr _ _) (by decide) ?_
      refine ChangesOnly.step (upMesh_fr _ _) (by decide) ?_
      refine ChangesOnly.step (modPort_fr _ _ _) (by decide) ?_
      exact ChangesOnly.refl _ _
    · refine ChangesOnly.step (upMesh_fr _ _) (by decide) ?_
      refine ChangesOnly.step (modPort_fr _ _ _) (by decide) ?_
      exact ChangesOnly.refl _ _

theorem execTrailReplayTimeout_fr (port : Nat) (s : State) : OutFrame [.flt, .sec, .mesh, .free] s (execTrailReplayTimeout port s) := by
  unfold execTrailReplayTimeout
  try dsimp only
  refine OutFrame.ite ?_ ?_
  · refine OutFrame.next ?_
    exact ChangesOnly.refl _ _
  · refine OutFrame.ite ?_ ?_
    · refine OutFrame.next ?_
      refine ChangesOnly.step (replayTrail_fr _ _) (by decide) ?_
      exact ChangesOnly.refl _ _
    · refine OutFrame.next ?_
      exact ChangesOnly.refl _ _

theorem badPacket_fr (s : State) (b : Nat) : ChangesOnly [.flt, .mesh] s (badPacket s b) := by
  unfold badPacket
  try dsimp only
  refine ChangesOnly.step (raise_fr _ _) (by decide) ?_
  refine ChangesOnly.step (upMesh_fr _ _) (by decide) ?_
  exact ChangesOnly.refl _ _

theorem takeTrailHeader_fr (s : State) (b : Nat) (f : TrailFlit) : ChangesOnly [.flt, .sec, .mesh, .free] s (takeTrailHeader s b f) := by
  unfold takeTrailHeader
  try dsimp only
  refine ChangesOnly.step (pumpPort_fr _ _) (by decide) ?_
  refine ChangesOnly.ite ?_ ?_
  · refine ChangesOnly.step (replayTrail_fr _ _) (by decide) ?_
    refine ChangesOnly.step (modPort_fr _ _ _) (by decide) ?_
    exact ChangesOnly.refl _ _
  · refine ChangesOnly.step (modPort_fr _ _ _) (by decide) ?_
    exact ChangesOnly.refl _ _

theorem nakTrail_fr (s : State) (b : Nat) : ChangesOnly [.mesh] s (nakTrail s b) := by
  unfold nakTrail
  try dsimp only
  refine ChangesOnly.step (modPort_fr _ _ _) (by decide) ?_
  exact ChangesOnly.refl _ _

theorem takePacket_fr (s : State) (b : Nat) (f : TrailFlit) : ChangesOnly [.flt, .sec, .mesh, .free] s (takePacket s b f) := by
  unfold takePacket
  try dsimp only
  refine ChangesOnly.ite ?_ ?_
  · refine ChangesOnly.step (badPacket_fr _ _) (by decide) ?_
    exact ChangesOnly.refl _ _
  · refine ChangesOnly.ite ?_ ?_
    · exact ChangesOnly.refl _ _
    · refine ChangesOnly.step (forwardM_fr _ _ _ _ _) (by decide) ?_
      exact ChangesOnly.refl _ _

theorem execTrailFlitReceive_fr (port : Nat) (f : TrailFlit) (s : State) : OutFrame [.flt, .sec, .mesh, .free] s (execTrailFlitReceive port f s) := by
  unfold execTrailFlitReceive
  try dsimp only
  refine OutFrame.ite ?_ ?_
  · refine OutFrame.next ?_
    exact ChangesOnly.refl _ _
  · refine OutFrame.ite ?_ ?_
    · refine OutFrame.next ?_
      exact ChangesOnly.refl _ _
    · refine OutFrame.ite ?_ ?_
      · refine OutFrame.next ?_
        refine ChangesOnly.step (nakTrail_fr _ _) (by decide) ?_
        exact ChangesOnly.refl _ _
      · refine OutFrame.ite ?_ ?_
        · refine OutFrame.next ?_
          refine ChangesOnly.step (takeTrailHeader_fr _ _ _) (by decide) ?_
          exact ChangesOnly.refl _ _
        · refine OutFrame.ite ?_ ?_
          · refine OutFrame.next ?_
            refine ChangesOnly.step (nakTrail_fr _ _) (by decide) ?_
            exact ChangesOnly.refl _ _
          · refine OutFrame.ite ?_ ?_
            · refine OutFrame.next ?_
              refine ChangesOnly.step (nakTrail_fr _ _) (by decide) ?_
              refine ChangesOnly.step (upMesh_fr _ _) (by decide) ?_
              exact ChangesOnly.refl _ _
            · refine OutFrame.next ?_
              refine ChangesOnly.step (takeTrailHeader_fr _ _ _) (by decide) ?_
              refine ChangesOnly.step (takePacket_fr _ _ _) (by decide) ?_
              refine ChangesOnly.step (modPort_fr _ _ _) (by decide) ?_
              refine ChangesOnly.ite ?_ ?_
              · exact ChangesOnly.refl _ _
              · refine ChangesOnly.step (adoptNext_fr _ _) (by decide) ?_
                exact ChangesOnly.refl _ _

theorem execLinkHello_fr (port : Nat) (_serial : Nat) (node : Nat) (shape : Nat) (pub : List Byte) (verified : Bool) (s : State) : OutFrame [.flt, .sec, .mesh, .free] s (execLinkHello port _serial node shape pub verified s) := by
  unfold execLinkHello
  try dsimp only
  refine OutFrame.ite ?_ ?_
  · refine OutFrame.next ?_
    exact ChangesOnly.refl _ _
  · refine OutFrame.ite ?_ ?_
    · refine OutFrame.next ?_
      exact ChangesOnly.refl _ _
    · refine OutFrame.ite ?_ ?_
      · refine OutFrame.next ?_
        refine ChangesOnly.step (raise_fr _ _) (by decide) ?_
        refine ChangesOnly.step (failPort_fr _ _) (by decide) ?_
        exact ChangesOnly.refl _ _
      · refine OutFrame.next ?_
        refine ChangesOnly.step (putPort_fr _ _ _ _ _) (by decide) ?_
        refine ChangesOnly.step (modPort_fr _ _ _) (by decide) ?_
        refine ChangesOnly.step (upSec_fr _ _) (by decide) ?_
        refine ChangesOnly.step (freeBytes_fr _ _) (by decide) ?_
        refine ChangesOnly.step (freshKey_fr _) (by decide) ?_
        exact ChangesOnly.refl _ _

theorem execLinkState_fr (src : Nat) (seq : Nat) (failed : List (Nat × Nat)) (s : State) : OutFrame [.sec, .mesh] s (execLinkState src seq failed s) := by
  unfold execLinkState
  try dsimp only
  refine OutFrame.ite ?_ ?_
  · refine OutFrame.next ?_
    exact ChangesOnly.refl _ _
  · refine OutFrame.ite ?_ ?_
    · refine OutFrame.next ?_
      exact ChangesOnly.refl _ _
    · refine OutFrame.next ?_
      refine ChangesOnly.step (toNeighbours_fr _ _ _) (by decide) ?_
      refine ChangesOnly.step (rePartition_fr _) (by decide) ?_
      refine ChangesOnly.step (upMesh_fr _ _) (by decide) ?_
      exact ChangesOnly.refl _ _

theorem execUnreachable_fr (src : Nat) (id : Nat) (typ : Nat) (s : State) : OutFrame [.med, .sec, .mesh, .free] s (execUnreachable src id typ s) := by
  unfold execUnreachable
  try dsimp only
  refine OutFrame.ite ?_ ?_
  · refine OutFrame.next ?_
    exact ChangesOnly.refl _ _
  · split
    · refine OutFrame.next ?_
      exact ChangesOnly.refl _ _
    · split
      · refine OutFrame.next ?_
        exact ChangesOnly.refl _ _
      · refine OutFrame.ite ?_ ?_
        · refine OutFrame.next ?_
          exact ChangesOnly.refl _ _
        · refine OutFrame.next ?_
          refine ChangesOnly.step (askUnits_fr _ _) (by decide) ?_
          refine ChangesOnly.step (modRecon_fr _ _ _) (by decide) ?_
          refine ChangesOnly.step (upMesh_fr _ _) (by decide) ?_
          exact ChangesOnly.refl _ _


/-! ### Compression -/

theorem execPipeGrant_fr (decomp : Bool) (s : State) : OutFrame [.cmp] s (execPipeGrant decomp s) := by
  unfold execPipeGrant
  try dsimp only
  split
  · refine OutFrame.next ?_
    refine ChangesOnly.step (setPipes_fr _ _ _) (by decide) ?_
    refine ChangesOnly.ite ?_ ?_
    · refine ChangesOnly.step (upCmp_fr _ _) (by decide) ?_
      exact ChangesOnly.refl _ _
    · refine ChangesOnly.step (upCmp_fr _ _) (by decide) ?_
      refine ChangesOnly.step (upCmp_fr _ _) (by decide) ?_
      exact ChangesOnly.refl _ _
  · refine OutFrame.next ?_
    exact ChangesOnly.refl _ _

theorem verifyFailed_fr (s : State) : ChangesOnly [.flt, .cmp] s (verifyFailed s) := by
  unfold verifyFailed
  try dsimp only
  refine ChangesOnly.step (raise_fr _ _) (by decide) ?_
  refine ChangesOnly.step (upCmp_fr _ _) (by decide) ?_
  exact ChangesOnly.refl _ _

theorem flipDest_fr (s : State) (o : Machine.Op) (n : Nat) : ChangesOnly [.hst, .tsk] s (flipDest s o n) := by
  unfold flipDest
  try dsimp only
  refine ChangesOnly.ite ?_ ?_
  · refine ChangesOnly.step (flipToDevice_fr _ _ _ _) (by decide) ?_
    exact ChangesOnly.refl _ _
  · exact ChangesOnly.refl _ _

theorem cryptEnds_fr (s : State) (o : Machine.Op) : ChangesOnly [.hst, .tsk, .med, .drc, .cmp, .sec, .pair, .hostMem, .arena, .free] s (cryptEnds s o) := by
  unfold cryptEnds
  try dsimp only
  refine ChangesOnly.step (finish_fr _ _ _) (by decide) ?_
  refine ChangesOnly.step (abandon_fr _ _) (by decide) ?_
  exact ChangesOnly.refl _ _

theorem execCompress_fr (tag : Nat) (host : HostRead) (checker : Checker) (s : State) : OutFrame [.flt, .hst, .tsk, .med, .drc, .cmp, .sec, .pair, .hostMem, .arena, .free] s (execCompress tag host checker s) := by
  unfold execCompress
  try dsimp only
  split
  · refine OutFrame.next ?_
    exact ChangesOnly.refl _ _
  · refine OutFrame.ite ?_ ?_
    · refine OutFrame.next ?_
      refine ChangesOnly.step (cryptEnds_fr _ _) (by decide) ?_
      exact ChangesOnly.refl _ _
    · refine OutFrame.ite ?_ ?_
      · refine OutFrame.next ?_
        refine ChangesOnly.step (askPipe_fr _ _) (by decide) ?_
        exact ChangesOnly.refl _ _
      · refine OutFrame.ite ?_ ?_
        · refine OutFrame.next ?_
          exact ChangesOnly.refl _ _
        · split
          · refine OutFrame.next ?_
            exact ChangesOnly.refl _ _
          · refine OutFrame.next ?_
            refine ChangesOnly.step (finish_fr _ _ _) (by decide) ?_
            refine ChangesOnly.step (abandon_fr _ _) (by decide) ?_
            exact ChangesOnly.refl _ _
          · split
            · refine OutFrame.next ?_
              refine ChangesOnly.step (finish_fr _ _ _) (by decide) ?_
              refine ChangesOnly.step (deliverAddr_fr _ _ _) (by decide) ?_
              refine ChangesOnly.step (upCmp_fr _ _) (by decide) ?_
              refine ChangesOnly.step (upCmp_fr _ _) (by decide) ?_
              refine ChangesOnly.step (flipDest_fr _ _ _) (by decide) ?_
              refine ChangesOnly.step (leavePipe_fr _ _) (by decide) ?_
              exact ChangesOnly.refl _ _
            · refine OutFrame.next ?_
              refine ChangesOnly.step (finish_fr _ _ _) (by decide) ?_
              refine ChangesOnly.step (deliverAddr_fr _ _ _) (by decide) ?_
              refine ChangesOnly.step (upCmp_fr _ _) (by decide) ?_
              refine ChangesOnly.step (upCmp_fr _ _) (by decide) ?_
              refine ChangesOnly.step (upCmp_fr _ _) (by decide) ?_
              refine ChangesOnly.step (flipDest_fr _ _ _) (by decide) ?_
              refine ChangesOnly.step (leavePipe_fr _ _) (by decide) ?_
              exact ChangesOnly.refl _ _
            · refine OutFrame.next ?_
              refine ChangesOnly.step (finish_fr _ _ _) (by decide) ?_
              refine ChangesOnly.step (spoil_fr _ _) (by decide) ?_
              refine ChangesOnly.step (upCmp_fr _ _) (by decide) ?_
              refine ChangesOnly.step (upCmp_fr _ _) (by decide) ?_
              refine ChangesOnly.step (flipDest_fr _ _ _) (by decide) ?_
              refine ChangesOnly.step (leavePipe_fr _ _) (by decide) ?_
              exact ChangesOnly.refl _ _
            · refine OutFrame.next ?_
              refine ChangesOnly.step (finish_fr _ _ _) (by decide) ?_
              refine ChangesOnly.step (spoil_fr _ _) (by decide) ?_
              refine ChangesOnly.step (verifyFailed_fr _) (by decide) ?_
              refine ChangesOnly.step (upCmp_fr _ _) (by decide) ?_
              refine ChangesOnly.step (flipDest_fr _ _ _) (by decide) ?_
              refine ChangesOnly.step (leavePipe_fr _ _) (by decide) ?_
              exact ChangesOnly.refl _ _

theorem execDecompress_fr (tag : Nat) (host : HostRead) (s : State) : OutFrame [.hst, .tsk, .med, .drc, .cmp, .sec, .pair, .hostMem, .arena, .free] s (execDecompress tag host s) := by
  unfold execDecompress
  try dsimp only
  split
  · refine OutFrame.next ?_
    exact ChangesOnly.refl _ _
  · refine OutFrame.ite ?_ ?_
    · refine OutFrame.next ?_
      refine ChangesOnly.step (cryptEnds_fr _ _) (by decide) ?_
      exact ChangesOnly.refl _ _
    · refine OutFrame.ite ?_ ?_
      · refine OutFrame.next ?_
        refine ChangesOnly.step (askPipe_fr _ _) (by decide) ?_
        exact ChangesOnly.refl _ _
      · refine OutFrame.ite ?_ ?_
        · refine OutFrame.next ?_
          exact ChangesOnly.refl _ _
        · split
          · refine OutFrame.next ?_
            exact ChangesOnly.refl _ _
          · refine OutFrame.next ?_
            refine ChangesOnly.step (finish_fr _ _ _) (by decide) ?_
            refine ChangesOnly.step (abandon_fr _ _) (by decide) ?_
            exact ChangesOnly.refl _ _
          · split
            · refine OutFrame.next ?_
              refine ChangesOnly.step (finish_fr _ _ _) (by decide) ?_
              refine ChangesOnly.step (deliverAddr_fr _ _ _) (by decide) ?_
              refine ChangesOnly.step (upCmp_fr _ _) (by decide) ?_
              refine ChangesOnly.step (flipDest_fr _ _ _) (by decide) ?_
              refine ChangesOnly.step (leavePipe_fr _ _) (by decide) ?_
              exact ChangesOnly.refl _ _
            · refine OutFrame.next ?_
              refine ChangesOnly.step (finish_fr _ _ _) (by decide) ?_
              refine ChangesOnly.step (spoil_fr _ _) (by decide) ?_
              refine ChangesOnly.step (flipDest_fr _ _ _) (by decide) ?_
              refine ChangesOnly.step (leavePipe_fr _ _) (by decide) ?_
              exact ChangesOnly.refl _ _
            · refine OutFrame.next ?_
              refine ChangesOnly.step (finish_fr _ _ _) (by decide) ?_
              refine ChangesOnly.step (spoil_fr _ _) (by decide) ?_
              refine ChangesOnly.step (upCmp_fr _ _) (by decide) ?_
              refine ChangesOnly.step (flipDest_fr _ _ _) (by decide) ?_
              refine ChangesOnly.step (leavePipe_fr _ _) (by decide) ?_
              exact ChangesOnly.refl _ _

theorem execInlineCompress_fr (vol : Nat) (lba : Nat) (checker : Checker) (s : State) : OutFrame [.flt, .med, .cmp] s (execInlineCompress vol lba checker s) := by
  unfold execInlineCompress
  try dsimp only
  split
  · refine OutFrame.ite ?_ ?_
    · refine OutFrame.next ?_
      exact ChangesOnly.refl _ _
    · refine OutFrame.ite ?_ ?_
      · refine OutFrame.next ?_
        refine ChangesOnly.step (askPipe_fr _ _) (by decide) ?_
        exact ChangesOnly.refl _ _
      · refine OutFrame.next ?_
        refine ChangesOnly.step (upMed_fr _ _) (by decide) ?_
        refine ChangesOnly.step (upCmp_fr _ _) (by decide) ?_
        refine ChangesOnly.ite ?_ ?_
        · refine ChangesOnly.step (verifyFailed_fr _) (by decide) ?_
          refine ChangesOnly.step (leavePipe_fr _ _) (by decide) ?_
          exact ChangesOnly.refl _ _
        · refine ChangesOnly.step (leavePipe_fr _ _) (by decide) ?_
          exact ChangesOnly.refl _ _
  · refine OutFrame.next ?_
    exact ChangesOnly.refl _ _


/-! ### DigestCmds -/

theorem fetchPart_fr (s : State) (o : Machine.Op) (host : HostRead) (expected : HostRead) : ChangesOnly [.hst, .tsk, .med, .drc, .kite, .cmp, .sec, .pair, .hostMem, .arena, .free] s (fetchPart s o host expected) := by
  unfold fetchPart
  try dsimp only
  refine ChangesOnly.ite ?_ ?_
  · refine ChangesOnly.step (cryptEnds_fr _ _) (by decide) ?_
    exact ChangesOnly.refl _ _
  · split
    · exact ChangesOnly.refl _ _
    · refine ChangesOnly.ite ?_ ?_
      · exact ChangesOnly.refl _ _
      · split
        · refine ChangesOnly.ite ?_ ?_
          · refine ChangesOnly.step (finish_fr _ _ _) (by decide) ?_
            refine ChangesOnly.step (abandon_fr _ _) (by decide) ?_
            exact ChangesOnly.refl _ _
          · refine ChangesOnly.step (zeroise_fr _ _) (by decide) ?_
            exact ChangesOnly.refl _ _
        · refine ChangesOnly.step (modOp_fr _ _ _) (by decide) ?_
          exact ChangesOnly.refl _ _
        · refine ChangesOnly.step (modOp_fr _ _ _) (by decide) ?_
          exact ChangesOnly.refl _ _
        · exact ChangesOnly.refl _ _

theorem execDigest_fr (tag : Nat) (host : HostRead) (s : State) : OutFrame [.hst, .tsk, .med, .drc, .kite, .cmp, .sec, .pair, .hostMem, .arena, .free] s (execDigest tag host s) := by
  unfold execDigest
  try dsimp only
  split
  · refine OutFrame.next ?_
    exact ChangesOnly.refl _ _
  · refine OutFrame.next ?_
    refine ChangesOnly.step (fetchPart_fr _ _ _ _) (by decide) ?_
    exact ChangesOnly.refl _ _

theorem execDigestVerify_fr (tag : Nat) (host : HostRead) (expected : HostRead) (s : State) : OutFrame [.hst, .tsk, .med, .drc, .kite, .cmp, .sec, .pair, .hostMem, .arena, .free] s (execDigestVerify tag host expected s) := by
  unfold execDigestVerify
  try dsimp only
  split
  · refine OutFrame.next ?_
    exact ChangesOnly.refl _ _
  · refine OutFrame.next ?_
    refine ChangesOnly.step (fetchPart_fr _ _ _ _) (by decide) ?_
    exact ChangesOnly.refl _ _

theorem endPart_fr (s : State) (o : Machine.Op) (n : Nat) (c : Machine.DigestCtx) (data : List Byte) (expected : List Byte) : ChangesOnly [.glb, .hst, .tsk, .drc, .sec, .hostMem, .arena] s (endPart s o n c data expected) := by
  unfold endPart
  try dsimp only
  refine ChangesOnly.ite ?_ ?_
  · refine ChangesOnly.step (complete_fr _ _ _) (by decide) ?_
    refine ChangesOnly.ite ?_ ?_
    · refine ChangesOnly.step (clearCtx_fr _ _ _) (by decide) ?_
      exact ChangesOnly.refl _ _
    · refine ChangesOnly.step (upSec_fr _ _) (by decide) ?_
      exact ChangesOnly.refl _ _
  · refine ChangesOnly.ite ?_ ?_
    · refine ChangesOnly.ite ?_ ?_
      · refine ChangesOnly.step (complete_fr _ _ _) (by decide) ?_
        refine ChangesOnly.step (clearCtx_fr _ _ _) (by decide) ?_
        exact ChangesOnly.refl _ _
      · refine ChangesOnly.step (complete_fr _ _ _) (by decide) ?_
        refine ChangesOnly.step (clearCtx_fr _ _ _) (by decide) ?_
        exact ChangesOnly.refl _ _
    · refine ChangesOnly.ite ?_ ?_
      · refine ChangesOnly.step (complete_fr _ _ _) (by decide) ?_
        refine ChangesOnly.step (deliverAddr_fr _ _ _) (by decide) ?_
        refine ChangesOnly.step (flipDest_fr _ _ _) (by decide) ?_
        refine ChangesOnly.step (clearCtx_fr _ _ _) (by decide) ?_
        exact ChangesOnly.refl _ _
      · refine ChangesOnly.step (complete_fr _ _ _) (by decide) ?_
        split
        · refine ChangesOnly.step (extendMs_fr _ _ _) (by decide) ?_
          refine ChangesOnly.step (deliverAddr_fr _ _ _) (by decide) ?_
          refine ChangesOnly.step (flipDest_fr _ _ _) (by decide) ?_
          refine ChangesOnly.step (clearCtx_fr _ _ _) (by decide) ?_
          exact ChangesOnly.refl _ _
        · refine ChangesOnly.step (deliverAddr_fr _ _ _) (by decide) ?_
          refine ChangesOnly.step (flipDest_fr _ _ _) (by decide) ?_
          refine ChangesOnly.step (clearCtx_fr _ _ _) (by decide) ?_
          exact ChangesOnly.refl _ _

theorem execDigestQuantum_fr (s : State) : OutFrame [.glb, .hst, .tsk, .drc, .kite, .sec, .hostMem, .arena, .free] s (execDigestQuantum s) := by
  unfold execDigestQuantum
  try dsimp only
  split
  · refine OutFrame.next ?_
    exact ChangesOnly.refl _ _
  · split
    · split
      · refine OutFrame.next ?_
        refine ChangesOnly.step (modInst_fr _ _ _ _) (by decide) ?_
        refine ChangesOnly.step (upSec_fr _ _) (by decide) ?_
        refine ChangesOnly.step (sourceNow_fr _ _ _ _) (by decide) ?_
        refine ChangesOnly.step (upSec_fr _ _) (by decide) ?_
        exact ChangesOnly.refl _ _
      · refine OutFrame.next ?_
        refine ChangesOnly.step (upSec_fr _ _) (by decide) ?_
        exact ChangesOnly.refl _ _
    · split
      · refine OutFrame.next ?_
        refine ChangesOnly.step (upSec_fr _ _) (by decide) ?_
        exact ChangesOnly.refl _ _
      · refine OutFrame.ite ?_ ?_
        · refine OutFrame.next ?_
          refine ChangesOnly.step (endPart_fr _ _ _ _ _ _) (by decide) ?_
          refine ChangesOnly.step (upSec_fr _ _) (by decide) ?_
          exact ChangesOnly.refl _ _
        · refine OutFrame.next ?_
          refine ChangesOnly.step (modOp_fr _ _ _) (by decide) ?_
          refine ChangesOnly.step (upSec_fr _ _) (by decide) ?_
          refine ChangesOnly.step (upSec_fr _ _) (by decide) ?_
          exact ChangesOnly.refl _ _

theorem execDgIdleTimeout_fr (context : Nat) (s : State) : OutFrame [.sec] s (execDgIdleTimeout context s) := by
  unfold execDgIdleTimeout
  try dsimp only
  split
  · refine OutFrame.ite ?_ ?_
    · refine OutFrame.next ?_
      refine ChangesOnly.step (upSec_fr _ _) (by decide) ?_
      exact ChangesOnly.refl _ _
    · refine OutFrame.next ?_
      exact ChangesOnly.refl _ _
  · refine OutFrame.next ?_
    exact ChangesOnly.refl _ _


/-! ### Waymark -/

theorem unitRestore_fr (s : State) (n : Nat) : ChangesOnly [.way] s (unitRestore s n) := by
  unfold unitRestore
  try dsimp only
  refine ChangesOnly.step (upWay_fr _ _) (by decide) ?_
  exact ChangesOnly.refl _ _

theorem unitWrite_fr (s : State) (n : Nat) (value : Nat) (mask : Nat) (result : Nat) (valid : Bool) : ChangesOnly [.way] s (unitWrite s n value mask result valid) := by
  unfold unitWrite
  try dsimp only
  refine ChangesOnly.step (upWay_fr _ _) (by decide) ?_
  exact ChangesOnly.refl _ _

theorem entryWrite_fr (s : State) (t : Machine.WTable) (e : Nat) (result : Nat) (valid : Bool) (units : List (Nat × Nat)) : ChangesOnly [.way] s (entryWrite s t e result valid units) := by
  unfold entryWrite
  try dsimp only
  refine ChangesOnly.foldl (fun _ _ => ?_) ?_
  · refine ChangesOnly.foldl (fun _ _ => ?_) ?_
    · refine ChangesOnly.step (unitWrite_fr _ _ _ _ _ _) (by decide) ?_
      exact ChangesOnly.refl _ _
    · exact ChangesOnly.refl _ _
  · exact ChangesOnly.refl _ _

theorem loseEntry_fr (s : State) (n : Nat) : ChangesOnly [.flt, .way] s (loseEntry s n) := by
  unfold loseEntry
  try dsimp only
  refine ChangesOnly.step (raise_fr _ _) (by decide) ?_
  refine ChangesOnly.step (upWay_fr _ _) (by decide) ?_
  split
  · refine ChangesOnly.foldl (fun _ _ => ?_) ?_
    · refine ChangesOnly.foldl (fun _ _ => ?_) ?_
      · refine ChangesOnly.step (unitWrite_fr _ _ _ _ _ _) (by decide) ?_
        exact ChangesOnly.refl _ _
      · exact ChangesOnly.refl _ _
    · exact ChangesOnly.refl _ _
  · refine ChangesOnly.step (unitWrite_fr _ _ _ _ _ _) (by decide) ?_
    exact ChangesOnly.refl _ _

theorem shadowDram_fr (s : State) : ChangesOnly [.flt, .drc, .free] s (shadowDram s) := by
  unfold shadowDram
  try dsimp only
  refine ChangesOnly.step (raise_fr _ _) (by decide) ?_
  refine ChangesOnly.step (upDrc_fr _ _) (by decide) ?_
  refine ChangesOnly.step (freeBelow_fr _ _) (by decide) ?_
  exact ChangesOnly.refl _ _

theorem shadowRefill_fr (s : State) (n : Nat) : ChangesOnly [.way] s (shadowRefill s n) := by
  unfold shadowRefill
  try dsimp only
  refine ChangesOnly.foldl (fun _ _ => ?_) ?_
  · refine ChangesOnly.step (upWay_fr _ _) (by decide) ?_
    exact ChangesOnly.refl _ _
  · exact ChangesOnly.refl _ _

theorem sweepRepair_fr (s : State) (n : Nat) : ChangesOnly [.flt, .way] s (sweepRepair s n) := by
  unfold sweepRepair
  try dsimp only
  refine ChangesOnly.step (raise_fr _ _) (by decide) ?_
  refine ChangesOnly.step (upWay_fr _ _) (by decide) ?_
  refine ChangesOnly.step (unitRestore_fr _ _) (by decide) ?_
  exact ChangesOnly.refl _ _

theorem wayDamage_fr (s : State) (c : WayCheck) : ChangesOnly [.flt, .drc, .way, .free] s (wayDamage s c) := by
  unfold wayDamage
  try dsimp only
  refine ChangesOnly.foldl (fun _ _ => ?_) ?_
  · refine ChangesOnly.step (sweepRepair_fr _ _) (by decide) ?_
    exact ChangesOnly.refl _ _
  · refine ChangesOnly.foldl (fun _ _ => ?_) ?_
    · refine ChangesOnly.ite ?_ ?_
      · refine ChangesOnly.step (loseEntry_fr _ _) (by decide) ?_
        refine ChangesOnly.step (shadowDram_fr _) (by decide) ?_
        exact ChangesOnly.refl _ _
      · refine ChangesOnly.step (shadowRefill_fr _ _) (by decide) ?_
        refine ChangesOnly.step (shadowDram_fr _) (by decide) ?_
        exact ChangesOnly.refl _ _
    · refine ChangesOnly.foldl (fun _ _ => ?_) ?_
      · refine ChangesOnly.step (loseEntry_fr _ _) (by decide) ?_
        exact ChangesOnly.refl _ _
      · exact ChangesOnly.refl _ _

theorem searchDamage_fr (s : State) (c : WayCheck) : ChangesOnly [.flt, .drc, .way, .free] s (searchDamage s c) := by
  unfold searchDamage
  try dsimp only
  refine ChangesOnly.step (wayDamage_fr _ _) (by decide) ?_
  exact ChangesOnly.refl _ _

theorem searchCheck_fr (s : State) (t : Machine.WTable) (key : List Nat) (repairs : Nat) : ChangesOnly [.flt, .way] s (searchCheck s t key repairs).2 := by
  unfold searchCheck
  try dsimp only
  split
  · try dsimp only
    exact ChangesOnly.refl _ _
  · refine ChangesOnly.ite2 ?_ ?_
    · try dsimp only
      exact ChangesOnly.refl _ _
    · split
      · try dsimp only
        exact ChangesOnly.refl _ _
      · refine ChangesOnly.ite2 ?_ ?_
        · try dsimp only
          refine ChangesOnly.step (raise_fr _ _) (by decide) ?_
          refine ChangesOnly.step (upWay_fr _ _) (by decide) ?_
          refine ChangesOnly.foldl (fun _ _ => ?_) ?_
          · refine ChangesOnly.step (unitRestore_fr _ _) (by decide) ?_
            exact ChangesOnly.refl _ _
          · exact ChangesOnly.refl _ _
        · refine ChangesOnly.step (searchCheck_fr _ _ _ _) (by decide) ?_
          refine ChangesOnly.step (raise_fr _ _) (by decide) ?_
          refine ChangesOnly.step (upWay_fr _ _) (by decide) ?_
          refine ChangesOnly.foldl (fun _ _ => ?_) ?_
          · refine ChangesOnly.step (unitRestore_fr _ _) (by decide) ?_
            exact ChangesOnly.refl _ _
          · exact ChangesOnly.refl _ _

theorem search_fr (s : State) (t : Machine.WTable) (key : List Nat) : ChangesOnly [.flt, .way] s (search s t key).2 := by
  unfold search
  try dsimp only
  refine ChangesOnly.step (upWay_fr _ _) (by decide) ?_
  refine ChangesOnly.ite2 ?_ ?_
  · refine ChangesOnly.step (searchCheck_fr _ _ _ _) (by decide) ?_
    exact ChangesOnly.refl _ _
  · try dsimp only
    exact ChangesOnly.refl _ _

theorem searchNoTable_fr (s : State) : ChangesOnly [.way] s (searchNoTable s).2 := by
  unfold searchNoTable
  try dsimp only
  refine ChangesOnly.step (upWay_fr _ _) (by decide) ?_
  exact ChangesOnly.refl _ _

theorem searchAll_fr (s : State) (t : Machine.WTable) (b : List Byte) (n : Nat) : ChangesOnly [.flt, .way] s (searchAll s t b n).2 := by
  unfold searchAll
  try dsimp only
  split
  · try dsimp only
    exact ChangesOnly.refl _ _
  · try dsimp only
    refine ChangesOnly.step (searchAll_fr _ _ _ _) (by decide) ?_
    refine ChangesOnly.ite2 ?_ ?_
    · refine ChangesOnly.step (search_fr _ _ _) (by decide) ?_
      exact ChangesOnly.refl _ _
    · refine ChangesOnly.step (searchNoTable_fr _) (by decide) ?_
      exact ChangesOnly.refl _ _

theorem execWaymarkSearch_fr (tag : Nat) (host : HostRead) (check : WayCheck) (s : State) : OutFrame [.flt, .glb, .hst, .tsk, .med, .drc, .way, .cmp, .sec, .pair, .hostMem, .arena, .free] s (execWaymarkSearch tag host check s) := by
  unfold execWaymarkSearch
  try dsimp only
  split
  · refine OutFrame.next ?_
    exact ChangesOnly.refl _ _
  · refine OutFrame.ite ?_ ?_
    · refine OutFrame.next ?_
      exact ChangesOnly.refl _ _
    · split
      · refine OutFrame.next ?_
        exact ChangesOnly.refl _ _
      · refine OutFrame.next ?_
        refine ChangesOnly.step (finish_fr _ _ _) (by decide) ?_
        refine ChangesOnly.step (abandon_fr _ _) (by decide) ?_
        exact ChangesOnly.refl _ _
      · refine OutFrame.next ?_
        refine ChangesOnly.step (complete_fr _ _ _) (by decide) ?_
        refine ChangesOnly.step (deliverAddr_fr _ _ _) (by decide) ?_
        refine ChangesOnly.step (flipDest_fr _ _ _) (by decide) ?_
        refine ChangesOnly.step (searchAll_fr _ _ _ _) (by decide) ?_
        refine ChangesOnly.step (searchDamage_fr _ _) (by decide) ?_
        exact ChangesOnly.refl _ _

theorem serveSearch_fr (s : State) (q : Machine.WSearch) : ChangesOnly [.flt, .kite, .way] s (serveSearch s q) := by
  unfold serveSearch
  try dsimp only
  refine ChangesOnly.step (latchEvent_fr _ _ _ _) (by decide) ?_
  refine ChangesOnly.step (modInst_fr _ _ _ _) (by decide) ?_
  refine ChangesOnly.ite2 ?_ ?_
  · refine ChangesOnly.step (search_fr _ _ _) (by decide) ?_
    refine ChangesOnly.step (upWay_fr _ _) (by decide) ?_
    exact ChangesOnly.refl _ _
  · refine ChangesOnly.step (searchNoTable_fr _) (by decide) ?_
    refine ChangesOnly.step (upWay_fr _ _) (by decide) ?_
    exact ChangesOnly.refl _ _

theorem execWaymarkSearchQueue_fr (table : Nat) (check : WayCheck) (s : State) : OutFrame [.flt, .drc, .kite, .way, .free] s (execWaymarkSearchQueue table check s) := by
  unfold execWaymarkSearchQueue
  try dsimp only
  split
  · refine OutFrame.next ?_
    exact ChangesOnly.refl _ _
  · refine OutFrame.ite ?_ ?_
    · refine OutFrame.next ?_
      exact ChangesOnly.refl _ _
    · refine OutFrame.next ?_
      refine ChangesOnly.step (serveSearch_fr _ _) (by decide) ?_
      refine ChangesOnly.step (searchDamage_fr _ _) (by decide) ?_
      exact ChangesOnly.refl _ _

theorem loadRecords_fr (s : State) (t : Machine.WTable) (e : Nat) (i : Nat) (b : List Byte) (n : Nat) : ChangesOnly [.way] s (loadRecords s t e i b n).2 := by
  unfold loadRecords
  try dsimp only
  split
  · try dsimp only
    exact ChangesOnly.refl _ _
  · refine ChangesOnly.ite2 ?_ ?_
    · refine ChangesOnly.step (loadRecords_fr _ _ _ _ _ _) (by decide) ?_
      refine ChangesOnly.step (entryWrite_fr _ _ _ _ _ _) (by decide) ?_
      exact ChangesOnly.refl _ _
    · try dsimp only
      exact ChangesOnly.refl _ _

theorem execWaymarkLoad_fr (tag : Nat) (host : HostRead) (s : State) : OutFrame [.glb, .hst, .tsk, .med, .drc, .way, .cmp, .sec, .pair, .hostMem, .arena, .free] s (execWaymarkLoad tag host s) := by
  unfold execWaymarkLoad
  try dsimp only
  split
  · refine OutFrame.next ?_
    exact ChangesOnly.refl _ _
  · refine OutFrame.ite ?_ ?_
    · refine OutFrame.next ?_
      refine ChangesOnly.step (cryptEnds_fr _ _) (by decide) ?_
      exact ChangesOnly.refl _ _
    · refine OutFrame.ite ?_ ?_
      · refine OutFrame.next ?_
        exact ChangesOnly.refl _ _
      · refine OutFrame.ite ?_ ?_
        · refine OutFrame.next ?_
          refine ChangesOnly.step (finish_fr _ _ _) (by decide) ?_
          exact ChangesOnly.refl _ _
        · split
          · refine OutFrame.next ?_
            exact ChangesOnly.refl _ _
          · refine OutFrame.next ?_
            refine ChangesOnly.step (finish_fr _ _ _) (by decide) ?_
            refine ChangesOnly.step (abandon_fr _ _) (by decide) ?_
            exact ChangesOnly.refl _ _
          · split
            · refine OutFrame.next ?_
              refine ChangesOnly.step (finish_fr _ _ _) (by decide) ?_
              refine ChangesOnly.step (ChangesOnly.of2 (loadRecords_fr _ _ _ _ _ _) (by assumption)) (by decide) ?_
              exact ChangesOnly.refl _ _
            · refine OutFrame.next ?_
              refine ChangesOnly.step (complete_fr _ _ _) (by decide) ?_
              refine ChangesOnly.step (extendMs_fr _ _ _) (by decide) ?_
              refine ChangesOnly.step (ChangesOnly.of2 (loadRecords_fr _ _ _ _ _ _) (by assumption)) (by decide) ?_
              exact ChangesOnly.refl _ _

theorem execWaymarkRead_fr (tag : Nat) (check : WayCheck) (s : State) : OutFrame [.flt, .glb, .hst, .tsk, .drc, .way, .hostMem, .arena, .free] s (execWaymarkRead tag check s) := by
  unfold execWaymarkRead
  try dsimp only
  split
  · refine OutFrame.next ?_
    exact ChangesOnly.refl _ _
  · refine OutFrame.ite ?_ ?_
    · refine OutFrame.next ?_
      refine ChangesOnly.step (finish_fr _ _ _) (by decide) ?_
      exact ChangesOnly.refl _ _
    · refine OutFrame.ite ?_ ?_
      · refine OutFrame.next ?_
        exact ChangesOnly.refl _ _
      · refine OutFrame.ite ?_ ?_
        · refine OutFrame.next ?_
          refine ChangesOnly.step (finish_fr _ _ _) (by decide) ?_
          refine ChangesOnly.step (spoil_fr _ _) (by decide) ?_
          refine ChangesOnly.step (flipDest_fr _ _ _) (by decide) ?_
          exact ChangesOnly.refl _ _
        · refine OutFrame.next ?_
          refine ChangesOnly.step (complete_fr _ _ _) (by decide) ?_
          refine ChangesOnly.step (deliverAddr_fr _ _ _) (by decide) ?_
          refine ChangesOnly.step (flipDest_fr _ _ _) (by decide) ?_
          refine ChangesOnly.step (wayDamage_fr _ _) (by decide) ?_
          exact ChangesOnly.refl _ _

theorem execTableReady_fr (table : Nat) (s : State) : OutFrame [.way] s (execTableReady table s) := by
  unfold execTableReady
  try dsimp only
  refine OutFrame.ite ?_ ?_
  · refine OutFrame.next ?_
    refine ChangesOnly.step (upWay_fr _ _) (by decide) ?_
    exact ChangesOnly.refl _ _
  · refine OutFrame.next ?_
    exact ChangesOnly.refl _ _

theorem execSweepStep_fr (forced : Bool) (upset : List (Nat × Machine.WUnit)) (arrayBad : Bool) (shadowBad : Bool) (s : State) : OutFrame [.flt, .drc, .way, .free] s (execSweepStep forced upset arrayBad shadowBad s) := by
  unfold execSweepStep
  try dsimp only
  refine OutFrame.ite ?_ ?_
  · refine OutFrame.next ?_
    exact ChangesOnly.refl _ _
  · refine OutFrame.next ?_
    refine ChangesOnly.step (upWay_fr _ _) (by decide) ?_
    refine ChangesOnly.ite ?_ ?_
    · refine ChangesOnly.step (wayDamage_fr _ _) (by decide) ?_
      refine ChangesOnly.foldl (fun _ _ => ?_) ?_
      · refine ChangesOnly.step (upWay_fr _ _) (by decide) ?_
        exact ChangesOnly.refl _ _
      · exact ChangesOnly.refl _ _
    · refine ChangesOnly.step (sweepRepair_fr _ _) (by decide) ?_
      refine ChangesOnly.step (wayDamage_fr _ _) (by decide) ?_
      refine ChangesOnly.foldl (fun _ _ => ?_) ?_
      · refine ChangesOnly.step (upWay_fr _ _) (by decide) ?_
        exact ChangesOnly.refl _ _
      · exact ChangesOnly.refl _ _


/-! ### Programs -/

theorem execProgramLoad_fr (tag : Nat) (host : HostRead) (s : State) : OutFrame [.hst, .tsk, .med, .drc, .kite, .cmp, .sec, .pair, .hostMem, .arena, .free] s (execProgramLoad tag host s) := by
  unfold execProgramLoad
  try dsimp only
  split
  · refine OutFrame.next ?_
    exact ChangesOnly.refl _ _
  · refine OutFrame.ite ?_ ?_
    · refine OutFrame.next ?_
      exact ChangesOnly.refl _ _
    · split
      · refine OutFrame.next ?_
        exact ChangesOnly.refl _ _
      · refine OutFrame.next ?_
        refine ChangesOnly.step (finish_fr _ _ _) (by decide) ?_
        refine ChangesOnly.step (abandon_fr _ _) (by decide) ?_
        exact ChangesOnly.refl _ _
      · split
        · refine OutFrame.next ?_
          refine ChangesOnly.step (finish_fr _ _ _) (by decide) ?_
          exact ChangesOnly.refl _ _
        · refine OutFrame.next ?_
          refine ChangesOnly.step (finish_fr _ _ _) (by decide) ?_
          refine ChangesOnly.step (upKite_fr _ _) (by decide) ?_
          refine ChangesOnly.step (extendMs_fr _ _ _) (by decide) ?_
          exact ChangesOnly.refl _ _

theorem execProgramUnload_fr (tag : Nat) (s : State) : OutFrame [.tsk, .kite] s (execProgramUnload tag s) := by
  unfold execProgramUnload
  try dsimp only
  split
  · refine OutFrame.next ?_
    exact ChangesOnly.refl _ _
  · refine OutFrame.ite ?_ ?_
    · refine OutFrame.next ?_
      refine ChangesOnly.step (running_fr _ _) (by decide) ?_
      exact ChangesOnly.refl _ _
    · refine OutFrame.next ?_
      refine ChangesOnly.step (finish_fr _ _ _) (by decide) ?_
      refine ChangesOnly.step (upKite_fr _ _) (by decide) ?_
      exact ChangesOnly.refl _ _

theorem placeAreas_fr (s : State) (r : Machine.Run) : ChangesOnly [.kite] s (placeAreas s r) := by
  unfold placeAreas
  try dsimp only
  refine ChangesOnly.foldl (fun _ _ => ?_) ?_
  · refine ChangesOnly.ite ?_ ?_
    · exact ChangesOnly.refl _ _
    · refine ChangesOnly.step (modRun_fr _ _ _) (by decide) ?_
      refine ChangesOnly.step (modCluster_fr _ _ _) (by decide) ?_
      exact ChangesOnly.refl _ _
  · exact ChangesOnly.refl _ _

theorem startInsts_fr (s : State) (tag : Nat) : ChangesOnly [.kite] s (startInsts s tag) := by
  unfold startInsts
  try dsimp only
  split
  · exact ChangesOnly.refl _ _
  · refine ChangesOnly.ite ?_ ?_
    · exact ChangesOnly.refl _ _
    · split
      · exact ChangesOnly.refl _ _
      · refine ChangesOnly.step (modRun_fr _ _ _) (by decide) ?_
        refine ChangesOnly.step (upKite_fr _ _) (by decide) ?_
        exact ChangesOnly.refl _ _

theorem beginRun_fr (s : State) (o : Machine.Op) (params : List Byte) : ChangesOnly [.hst, .tsk, .kite] s (beginRun s o params) := by
  unfold beginRun
  try dsimp only
  refine ChangesOnly.step (startInsts_fr _ _) (by decide) ?_
  refine ChangesOnly.step (placeAreas_fr _ _) (by decide) ?_
  refine ChangesOnly.step (running_fr _ _) (by decide) ?_
  refine ChangesOnly.step (upKite_fr _ _) (by decide) ?_
  refine ChangesOnly.ite ?_ ?_
  · refine ChangesOnly.step (flipToDevice_fr _ _ _ _) (by decide) ?_
    exact ChangesOnly.refl _ _
  · exact ChangesOnly.refl _ _

theorem execScanRun_fr (tag : Nat) (params : HostRead) (s : State) : OutFrame [.hst, .tsk, .kite, .sec] s (execScanRun tag params s) := by
  unfold execScanRun
  try dsimp only
  split
  · refine OutFrame.next ?_
    exact ChangesOnly.refl _ _
  · refine OutFrame.ite ?_ ?_
    · refine OutFrame.next ?_
      exact ChangesOnly.refl _ _
    · refine OutFrame.ite ?_ ?_
      · refine OutFrame.ite ?_ ?_
        · refine OutFrame.next ?_
          refine ChangesOnly.step (beginRun_fr _ _ _) (by decide) ?_
          exact ChangesOnly.refl _ _
        · refine OutFrame.next ?_
          exact ChangesOnly.refl _ _
      · refine OutFrame.ite ?_ ?_
        · refine OutFrame.next ?_
          exact ChangesOnly.refl _ _
        · split
          · refine OutFrame.next ?_
            refine ChangesOnly.step (failEarly_fr _ _ _) (by decide) ?_
            exact ChangesOnly.refl _ _
          · refine OutFrame.ite ?_ ?_
            · refine OutFrame.next ?_
              exact ChangesOnly.refl _ _
            · refine OutFrame.ite ?_ ?_
              · refine OutFrame.next ?_
                refine ChangesOnly.step (modOp_fr _ _ _) (by decide) ?_
                refine ChangesOnly.ite ?_ ?_
                · exact ChangesOnly.refl _ _
                · refine ChangesOnly.step (issue_fr _ _) (by decide) ?_
                  exact ChangesOnly.refl _ _
              · refine OutFrame.next ?_
                refine ChangesOnly.step (beginRun_fr _ _ _) (by decide) ?_
                refine ChangesOnly.ite ?_ ?_
                · exact ChangesOnly.refl _ _
                · refine ChangesOnly.step (issue_fr _ _) (by decide) ?_
                  exact ChangesOnly.refl _ _

theorem execScanAreaPlace_fr (tag : Nat) (s : State) : OutFrame [.kite] s (execScanAreaPlace tag s) := by
  unfold execScanAreaPlace
  try dsimp only
  split
  · refine OutFrame.next ?_
    exact ChangesOnly.refl _ _
  · refine OutFrame.ite ?_ ?_
    · refine OutFrame.next ?_
      exact ChangesOnly.refl _ _
    · refine OutFrame.next ?_
      refine ChangesOnly.step (startInsts_fr _ _) (by decide) ?_
      refine ChangesOnly.step (placeAreas_fr _ _) (by decide) ?_
      exact ChangesOnly.refl _ _

theorem stopRun_fr (s : State) (tag : Nat) (r : Machine.Reply) : ChangesOnly [.hst, .tsk, .med, .drc, .kite, .cmp, .sec, .pair, .hostMem, .arena, .free] s (stopRun s tag r) := by
  unfold stopRun
  try dsimp only
  split
  · refine ChangesOnly.step (endRun_fr _ _ _) (by decide) ?_
    exact ChangesOnly.refl _ _
  · refine ChangesOnly.step (finish_fr _ _ _) (by decide) ?_
    refine ChangesOnly.step (abandon_fr _ _) (by decide) ?_
    exact ChangesOnly.refl _ _
  · exact ChangesOnly.refl _ _

theorem execScanStop_fr (tag : Nat) (s : State) : OutFrame [.hst, .tsk, .med, .drc, .kite, .cmp, .sec, .pair, .hostMem, .arena, .free] s (execScanStop tag s) := by
  unfold execScanStop
  try dsimp only
  split
  · refine OutFrame.next ?_
    exact ChangesOnly.refl _ _
  · refine OutFrame.ite ?_ ?_
    · refine OutFrame.next ?_
      refine ChangesOnly.step (finish_fr _ _ _) (by decide) ?_
      exact ChangesOnly.refl _ _
    · refine OutFrame.next ?_
      refine ChangesOnly.step (finish_fr _ _ _) (by decide) ?_
      refine ChangesOnly.step (stopRun_fr _ _ _) (by decide) ?_
      exact ChangesOnly.refl _ _

theorem execScanQuery_fr (tag : Nat) (s : State) : OutFrame [.tsk] s (execScanQuery tag s) := by
  unfold execScanQuery
  try dsimp only
  split
  · refine OutFrame.next ?_
    exact ChangesOnly.refl _ _
  · refine OutFrame.next ?_
    refine ChangesOnly.step (finish_fr _ _ _) (by decide) ?_
    exact ChangesOnly.refl _ _

theorem execScanRunEnd_fr (tag : Nat) (s : State) : OutFrame [.glb, .hst, .tsk, .kite] s (execScanRunEnd tag s) := by
  unfold execScanRunEnd
  try dsimp only
  split
  · refine OutFrame.next ?_
    exact ChangesOnly.refl _ _
  · refine OutFrame.ite ?_ ?_
    · refine OutFrame.next ?_
      exact ChangesOnly.refl _ _
    · refine OutFrame.next ?_
      refine ChangesOnly.step (complete_fr _ _ _) (by decide) ?_
      refine ChangesOnly.foldl (fun _ _ => ?_) ?_
      · refine ChangesOnly.step (settleRing_fr _ _) (by decide) ?_
        exact ChangesOnly.refl _ _
      · refine ChangesOnly.step (upKite_fr _ _) (by decide) ?_
        exact ChangesOnly.refl _ _


end Sys2Proof.Machine
end

