-- ==== Sys2Proof/Laws/FrameKite.lean ====
section
/-! SUPPORT. Frames of the Kite core's operations and of its runtime commands. -/

namespace Sys2Proof.Machine
open Sys2Proof

/-! ### KitePorts -/

theorem modPorts_fr (s : State) (i : Machine.Instance) (f : Machine.Ports → Machine.Ports) : ChangesOnly [.kite] s (modPorts s i f) := by
  unfold modPorts
  try dsimp only
  refine ChangesOnly.step (modInst_fr _ _ _ _) (by decide) ?_
  exact ChangesOnly.refl _ _

theorem lanePass_fr (s : State) (i : Machine.Instance) (n : Nat) : OptFrame [.kite] s (lanePass s i n) := by
  unfold lanePass
  try dsimp only
  refine OptFrame.ite ?_ ?_
  · refine OptFrame.some ?_
    refine ChangesOnly.step (modInst_fr _ _ _ _) (by decide) ?_
    exact ChangesOnly.refl _ _
  · exact OptFrame.none

theorem scanRead_fr (s : State) (i : Machine.Instance) (n : Nat) : PFrame [.kite] s (scanRead s i n) := by
  unfold scanRead
  try dsimp only
  split
  · refine PFrame.done ?_
    refine ChangesOnly.step (OptFrame.of (lanePass_fr _ _ _) (by assumption)) (by decide) ?_
    exact ChangesOnly.refl _ _
  · refine PFrame.stall ?_
    exact ChangesOnly.refl _ _

theorem scanBlock_fr (s : State) (i : Machine.Instance) (f : Machine.LaneBlock → Nat) : PFrame [.free] s (scanBlock s i f) := by
  unfold scanBlock
  try dsimp only
  split
  · refine PFrame.done ?_
    exact ChangesOnly.refl _ _
  · refine PFrame.done ?_
    refine ChangesOnly.step (freeBelow_fr _ _) (by decide) ?_
    exact ChangesOnly.refl _ _

theorem resultPort_fr (s : State) (busy : Bool) (v : Nat) : PFrame [] s (resultPort s busy v) := by
  unfold resultPort
  try dsimp only
  refine PFrame.ite ?_ ?_
  · refine PFrame.stall ?_
    exact ChangesOnly.refl _ _
  · refine PFrame.done ?_
    exact ChangesOnly.refl _ _

theorem timerRead_fr (s : State) (i : Machine.Instance) (n : Nat) : PFrame [.kite, .free] s (timerRead s i n) := by
  unfold timerRead
  try dsimp only
  refine PFrame.ite ?_ ?_
  · refine PFrame.done ?_
    exact ChangesOnly.refl _ _
  · refine PFrame.done ?_
    refine ChangesOnly.step (modInst_fr _ _ _ _) (by decide) ?_
    refine ChangesOnly.step (freeBelow_fr _ _) (by decide) ?_
    exact ChangesOnly.refl _ _

theorem mboxTake_fr (s : State) (i : Machine.Instance) : PFrame [.kite] s (mboxTake s i) := by
  unfold mboxTake
  try dsimp only
  split
  · refine PFrame.done ?_
    refine ChangesOnly.step (modInst_fr _ _ _ _) (by decide) ?_
    exact ChangesOnly.refl _ _
  · refine PFrame.stall ?_
    exact ChangesOnly.refl _ _

def OptPFrame (ps : List Part) (s : State) (x : Option PortRes) : Prop := ∀ r, x = some r → PFrame ps s r
theorem OptPFrame.some {ps s r} (h : PFrame ps s r) : OptPFrame ps s (some r) := by intro u e; cases e; exact h
theorem OptPFrame.none {ps s} : OptPFrame ps s none := by intro u e; cases e
theorem OptPFrame.getD {ps s x} (c : Nat) (h : OptPFrame ps s x) : PFrame ps s (x.getD (.fault c)) := by
  cases x with
  | none => exact PFrame.fault c
  | some r => exact h r rfl
theorem portRead_fr (s : State) (i : Instance) (core : Nat) (port : Nat) (n : Nat) : OptPFrame [.kite, .free] s (portRead s i core port n) := by
  unfold portRead
  dsimp only
  split <;> first
    | exact OptPFrame.some (PFrame.done (ChangesOnly.refl _ _))
    | exact OptPFrame.some (PFrame.step (scanRead_fr _ _ _) (by decide) (ChangesOnly.refl _ _))
    | exact OptPFrame.some (PFrame.step (scanBlock_fr _ _ _) (by decide) (ChangesOnly.refl _ _))
    | exact OptPFrame.some (PFrame.step (resultPort_fr _ _ _) (by decide) (ChangesOnly.refl _ _))
    | exact OptPFrame.some (PFrame.step (timerRead_fr _ _ _) (by decide) (ChangesOnly.refl _ _))
    | exact OptPFrame.some (PFrame.step (mboxTake_fr _ _) (by decide) (ChangesOnly.refl _ _))
    | skip
  all_goals (repeat' split)
  all_goals first
    | exact OptPFrame.some (PFrame.done (ChangesOnly.refl _ _))
    | exact OptPFrame.some (PFrame.step (resultPort_fr _ _ _) (by decide) (ChangesOnly.refl _ _))
    | exact OptPFrame.none

theorem portIn_fr (s : State) (i : Instance) (core : Nat) (reg : Word) (n : Nat) : PFrame [.kite, .free] s (portIn s i core reg n) := by
  unfold portIn
  exact PFrame.ite (PFrame.fault _) (OptPFrame.getD _ (portRead_fr s i core _ n))

theorem wmStart_fr (s : State) (i : Machine.Instance) : PFrame [.kite, .way] s (wmStart s i) := by
  unfold wmStart
  try dsimp only
  refine PFrame.ite ?_ ?_
  · refine PFrame.stall ?_
    exact ChangesOnly.refl _ _
  · refine PFrame.done ?_
    refine ChangesOnly.step (modPorts_fr _ _ _) (by decide) ?_
    refine ChangesOnly.step (upWay_fr _ _) (by decide) ?_
    exact ChangesOnly.refl _ _

theorem dgDrop_fr (s : State) (i : Machine.Instance) : ChangesOnly [.kite, .sec] s (dgDrop s i) := by
  unfold dgDrop
  try dsimp only
  refine ChangesOnly.step (modPorts_fr _ _ _) (by decide) ?_
  refine ChangesOnly.step (upSec_fr _ _) (by decide) ?_
  exact ChangesOnly.refl _ _

theorem dgOpenPort_fr (s : State) (i : Machine.Instance) (v : Nat) : PFrame [.kite, .sec] s (dgOpenPort s i v) := by
  unfold dgOpenPort
  try dsimp only
  refine PFrame.ite ?_ ?_
  · refine PFrame.stall ?_
    exact ChangesOnly.refl _ _
  · refine PFrame.ite ?_ ?_
    · refine PFrame.done ?_
      refine ChangesOnly.step (modPorts_fr _ _ _) (by decide) ?_
      refine ChangesOnly.step (modPorts_fr _ _ _) (by decide) ?_
      refine ChangesOnly.step (dgDrop_fr _ _) (by decide) ?_
      exact ChangesOnly.refl _ _
    · refine PFrame.ite ?_ ?_
      · refine PFrame.done ?_
        refine ChangesOnly.step (modPorts_fr _ _ _) (by decide) ?_
        refine ChangesOnly.step (modPorts_fr _ _ _) (by decide) ?_
        refine ChangesOnly.step (dgDrop_fr _ _) (by decide) ?_
        exact ChangesOnly.refl _ _
      · split
        · refine PFrame.done ?_
          refine ChangesOnly.step (modPorts_fr _ _ _) (by decide) ?_
          refine ChangesOnly.step (upSec_fr _ _) (by decide) ?_
          refine ChangesOnly.step (modPorts_fr _ _ _) (by decide) ?_
          refine ChangesOnly.step (dgDrop_fr _ _) (by decide) ?_
          exact ChangesOnly.refl _ _
        · refine PFrame.done ?_
          refine ChangesOnly.step (modPorts_fr _ _ _) (by decide) ?_
          refine ChangesOnly.step (upSec_fr _ _) (by decide) ?_
          refine ChangesOnly.step (modPorts_fr _ _ _) (by decide) ?_
          refine ChangesOnly.step (dgDrop_fr _ _) (by decide) ?_
          exact ChangesOnly.refl _ _

theorem dgFeedPort_fr (s : State) (i : Machine.Instance) (n : Nat) : PFrame [.kite, .sec, .free] s (dgFeedPort s i n) := by
  unfold dgFeedPort
  try dsimp only
  refine PFrame.ite ?_ ?_
  · refine PFrame.stall ?_
    exact ChangesOnly.refl _ _
  · refine PFrame.ite ?_ ?_
    · refine PFrame.done ?_
      refine ChangesOnly.step (modPorts_fr _ _ _) (by decide) ?_
      exact ChangesOnly.refl _ _
    · refine PFrame.ite ?_ ?_
      · refine PFrame.done ?_
        refine ChangesOnly.step (modPorts_fr _ _ _) (by decide) ?_
        refine ChangesOnly.step (dgDrop_fr _ _) (by decide) ?_
        exact ChangesOnly.refl _ _
      · split
        · exact PFrame.fault _
        · refine PFrame.done ?_
          refine ChangesOnly.step (modPorts_fr _ _ _) (by decide) ?_
          refine ChangesOnly.step (Opt2Frame.of (dataTake_fr _ _ _ _) (by assumption)) (by decide) ?_
          exact ChangesOnly.refl _ _

theorem dgFinalPort_fr (s : State) (i : Machine.Instance) : PFrame [.kite] s (dgFinalPort s i) := by
  unfold dgFinalPort
  try dsimp only
  refine PFrame.ite ?_ ?_
  · refine PFrame.stall ?_
    exact ChangesOnly.refl _ _
  · refine PFrame.ite ?_ ?_
    · refine PFrame.done ?_
      refine ChangesOnly.step (modPorts_fr _ _ _) (by decide) ?_
      exact ChangesOnly.refl _ _
    · refine PFrame.done ?_
      refine ChangesOnly.step (modPorts_fr _ _ _) (by decide) ?_
      exact ChangesOnly.refl _ _

theorem cpStart_fr (s : State) (i : Machine.Instance) : PFrame [.kite, .cmp, .free] s (cpStart s i) := by
  unfold cpStart
  try dsimp only
  refine PFrame.ite ?_ ?_
  · refine PFrame.stall ?_
    exact ChangesOnly.refl _ _
  · split
    · refine PFrame.done ?_
      refine ChangesOnly.step (latchEvent_fr _ _ _ _) (by decide) ?_
      refine ChangesOnly.step (modPorts_fr _ _ _) (by decide) ?_
      exact ChangesOnly.refl _ _
    · split
      · split
        · exact PFrame.fault _
        · refine PFrame.done ?_
          refine ChangesOnly.step (askPipe_fr _ _) (by decide) ?_
          refine ChangesOnly.step (modPorts_fr _ _ _) (by decide) ?_
          refine ChangesOnly.step (Opt2Frame.of (dataTake_fr _ _ _ _) (by assumption)) (by decide) ?_
          exact ChangesOnly.refl _ _
      · exact PFrame.fault _

theorem dmaStart_fr (s : State) (i : Machine.Instance) (append : Bool) : PFrame [.kite, .free] s (dmaStart s i append) := by
  unfold dmaStart
  try dsimp only
  refine PFrame.ite ?_ ?_
  · refine PFrame.stall ?_
    exact ChangesOnly.refl _ _
  · refine PFrame.ite ?_ ?_
    · exact PFrame.fault _
    · split
      · refine PFrame.ite ?_ ?_
        · refine PFrame.done ?_
          refine ChangesOnly.step (modPorts_fr _ _ _) (by decide) ?_
          refine ChangesOnly.step (Opt2Frame.of (dataTake_fr _ _ _ _) (by assumption)) (by decide) ?_
          exact ChangesOnly.refl _ _
        · refine PFrame.done ?_
          refine ChangesOnly.step (modPorts_fr _ _ _) (by decide) ?_
          refine ChangesOnly.ite ?_ ?_
          · refine ChangesOnly.step (modRun_fr _ _ _) (by decide) ?_
            refine ChangesOnly.step (Opt2Frame.of (dataTake_fr _ _ _ _) (by assumption)) (by decide) ?_
            exact ChangesOnly.refl _ _
          · refine ChangesOnly.step (Opt2Frame.of (dataTake_fr _ _ _ _) (by assumption)) (by decide) ?_
            exact ChangesOnly.refl _ _
      · exact PFrame.fault _

theorem scanReleasePort_fr (s : State) (i : Machine.Instance) (v : Nat) : PFrame [.kite] s (scanReleasePort s i v) := by
  unfold scanReleasePort
  try dsimp only
  split
  · refine PFrame.done ?_
    refine ChangesOnly.step (OptFrame.of (lanePass_fr _ _ _) (by assumption)) (by decide) ?_
    exact ChangesOnly.refl _ _
  · refine PFrame.stall ?_
    exact ChangesOnly.refl _ _

theorem mboxPost_fr (s : State) (i : Machine.Instance) (w : Word) : PFrame [.kite] s (mboxPost s i w) := by
  unfold mboxPost
  try dsimp only
  refine PFrame.ite ?_ ?_
  · refine PFrame.stall ?_
    exact ChangesOnly.refl _ _
  · refine PFrame.done ?_
    refine ChangesOnly.step (modInst_fr _ _ _ _) (by decide) ?_
    exact ChangesOnly.refl _ _

theorem portWrite_fr (s : State) (i : Instance) (port : Nat) (w : Word) : OptPFrame [.kite, .way, .cmp, .sec, .free] s (portWrite s i port w) := by
  unfold portWrite
  dsimp only
  split <;> first
    | exact OptPFrame.some (PFrame.done (ChangesOnly.step (modPorts_fr _ _ _) (by decide) (ChangesOnly.refl _ _)))
    | exact OptPFrame.some (PFrame.done (ChangesOnly.step (modInst_fr _ _ _ _) (by decide) (ChangesOnly.refl _ _)))
    | exact OptPFrame.some (PFrame.step (scanReleasePort_fr _ _ _) (by decide) (ChangesOnly.refl _ _))
    | exact OptPFrame.some (PFrame.step (wmStart_fr _ _) (by decide) (ChangesOnly.refl _ _))
    | exact OptPFrame.some (PFrame.step (dgOpenPort_fr _ _ _) (by decide) (ChangesOnly.refl _ _))
    | exact OptPFrame.some (PFrame.step (dgFeedPort_fr _ _ _) (by decide) (ChangesOnly.refl _ _))
    | exact OptPFrame.some (PFrame.step (dgFinalPort_fr _ _) (by decide) (ChangesOnly.refl _ _))
    | exact OptPFrame.some (PFrame.step (cpStart_fr _ _) (by decide) (ChangesOnly.refl _ _))
    | exact OptPFrame.some (PFrame.step (mboxPost_fr _ _ _) (by decide) (ChangesOnly.refl _ _))
    | exact OptPFrame.some (PFrame.step (dmaStart_fr _ _ _) (by decide) (ChangesOnly.refl _ _))
    | skip
  all_goals (repeat' split)
  all_goals first
    | exact OptPFrame.some (PFrame.done (ChangesOnly.step (modPorts_fr _ _ _) (by decide) (ChangesOnly.refl _ _)))
    | exact OptPFrame.none

theorem portOut_fr (s : State) (i : Instance) (reg : Word) (w : Word) : PFrame [.kite, .way, .cmp, .sec, .free] s (portOut s i reg w) := by
  unfold portOut
  exact PFrame.ite (PFrame.fault _) (OptPFrame.getD _ (portWrite_fr s i _ w))


/-! ### KiteExec -/

theorem cyclesOf_fr (s : State) (waits : Nat) (stalled : Bool) (cost : Nat) : ChangesOnly [.free] s (cyclesOf s waits stalled cost).2 := by
  unfold cyclesOf
  try dsimp only
  refine ChangesOnly.step (freeBelow_fr _ _) (by decide) ?_
  refine ChangesOnly.step (freeBelow_fr _ _) (by decide) ?_
  exact ChangesOnly.refl _ _

theorem kiteFault_fr (s : State) (core : Nat) (i : Machine.Instance) (code : Nat) (pc : Nat) : ChangesOnly [.med, .kite, .sec] s (kiteFault s core i code pc) := by
  unfold kiteFault
  try dsimp only
  refine ChangesOnly.step (endRun_fr _ _ _) (by decide) ?_
  refine ChangesOnly.step (modCluster_fr _ _ _) (by decide) ?_
  exact ChangesOnly.refl _ _

theorem kiteDone_fr {ps : List Part} {s : State} (core : Nat) (i : Instance) (n : Nat) (r : KRes)
    (k : (([.med, .kite, .sec, .free] : List Part).all fun p => ps.contains p) = true) (h : KFrame ps s r) : ChangesOnly ps s (kiteDone core i n r) := by
  have up : ∀ u t, ChangesOnly [.med, .kite, .sec, .free] u t → ChangesOnly ps s u → ChangesOnly ps s t := fun u t e h => ChangesOnly.step e k h
  unfold kiteDone
  split
  · rename_i e
    dsimp only
    have a : ∀ f x y z, ChangesOnly [.med, .kite, .sec, .free] e.s (modInst (cyclesOf e.s x y z).2 i.run i.num f) := by
      intro f x y z
      refine ChangesOnly.step (modInst_fr _ _ _ _) (by decide) ?_
      refine ChangesOnly.step (cyclesOf_fr _ _ _ _) (by decide) ?_
      exact ChangesOnly.refl _ _
    refine ChangesOnly.ite ?_ ?_
    · exact up _ _ (ChangesOnly.step (modCore_fr _ _ _) (by decide) (a _ _ _ _)) h
    · exact up _ _ (a _ _ _ _) h
  · exact up _ _ (ChangesOnly.step (modCore_fr _ _ _) (by decide) (ChangesOnly.refl _ _)) h
  · exact up _ _ (ChangesOnly.step (kiteFault_fr _ _ _ _ _) (by decide) (ChangesOnly.refl _ _)) h

theorem kiteRun_fr {ps : List Part} (core : CoreId) (s : State) (f : Instance → KOp → Nat → Option KRes)
    (k : (([.med, .kite, .sec, .free] : List Part).all fun p => ps.contains p) = true) (h : ∀ i op n r, f i op n = some r → KFrame ps s r) :
    OutFrame ps s (kiteRun core s f) := by
  unfold kiteRun
  split
  · exact OutFrame.next (ChangesOnly.refl _ _)
  · split
    · exact OutFrame.next (ChangesOnly.refl _ _)
    · split
      · exact OutFrame.next (kiteDone_fr _ _ _ _ k (h _ _ _ _ (by assumption)))
      · exact OutFrame.next (ChangesOnly.refl _ _)

theorem modArea_fr (s : State) (i : Machine.Instance) (f : Machine.Area → Machine.Area) : ChangesOnly [.kite] s (modArea s i f) := by
  unfold modArea
  try dsimp only
  refine ChangesOnly.step (modCluster_fr _ _ _) (by decide) ?_
  exact ChangesOnly.refl _ _

theorem poisonAt_fr (s : State) (i : Machine.Instance) (a : Nat) : ChangesOnly [.kite] s (poisonAt s i a) := by
  unfold poisonAt
  try dsimp only
  split
  · refine ChangesOnly.step (modArea_fr _ _ _) (by decide) ?_
    exact ChangesOnly.refl _ _
  · refine ChangesOnly.step (modInst_fr _ _ _ _) (by decide) ?_
    exact ChangesOnly.refl _ _
  · exact ChangesOnly.refl _ _

theorem replaceLine_fr (s : State) (i : Machine.Instance) (a : Nat) (delta : List Byte) : ChangesOnly [.kite] s (replaceLine s i a delta) := by
  unfold replaceLine
  try dsimp only
  split
  · refine ChangesOnly.step (modInst_fr _ _ _ _) (by decide) ?_
    exact ChangesOnly.refl _ _
  · refine ChangesOnly.step (modArea_fr _ _ _) (by decide) ?_
    exact ChangesOnly.refl _ _
  · refine ChangesOnly.step (modInst_fr _ _ _ _) (by decide) ?_
    exact ChangesOnly.refl _ _
  · exact ChangesOnly.refl _ _

theorem lineFault_fr (s : State) (i : Machine.Instance) (v : Machine.Verdict) : ChangesOnly [.flt] s (lineFault s i v) := by
  unfold lineFault
  try dsimp only
  split
  · exact ChangesOnly.refl _ _
  · refine ChangesOnly.step (raise_fr _ _) (by decide) ?_
    exact ChangesOnly.refl _ _
  · refine ChangesOnly.step (raise_fr _ _) (by decide) ?_
    exact ChangesOnly.refl _ _
  · refine ChangesOnly.step (raise_fr _ _) (by decide) ?_
    exact ChangesOnly.refl _ _

theorem checkLine_fr (s : State) (i : Machine.Instance) (a : Nat) (check : LineCheck) : ChangesOnly [.flt, .kite] s (checkLine s i a check) := by
  unfold checkLine
  try dsimp only
  refine ChangesOnly.ite ?_ ?_
  · exact ChangesOnly.refl _ _
  · split
    · refine ChangesOnly.step (poisonAt_fr _ _ _) (by decide) ?_
      refine ChangesOnly.step (lineFault_fr _ _ _) (by decide) ?_
      exact ChangesOnly.refl _ _
    · refine ChangesOnly.step (replaceLine_fr _ _ _ _) (by decide) ?_
      refine ChangesOnly.step (lineFault_fr _ _ _) (by decide) ?_
      exact ChangesOnly.refl _ _
    · refine ChangesOnly.step (lineFault_fr _ _ _) (by decide) ?_
      exact ChangesOnly.refl _ _

theorem checkRange_fr (s : State) (i : Machine.Instance) (a : Nat) (n : Nat) (check : LineCheck) : ChangesOnly [.flt, .kite, .free] s (checkRange s i a n check) := by
  unfold checkRange
  try dsimp only
  refine ChangesOnly.ite ?_ ?_
  · exact ChangesOnly.refl _ _
  · refine ChangesOnly.step (checkLine_fr _ _ _ _) (by decide) ?_
    refine ChangesOnly.step (freeBelow_fr _ _) (by decide) ?_
    exact ChangesOnly.refl _ _

theorem runAlu_fr (s : State) (i : Machine.Instance) (op : Machine.AluOp) (a : Reg) (b : Reg) : KFrame [] s (runAlu s i op a b) := by
  unfold runAlu
  try dsimp only
  refine KFrame.ends ?_
  exact ChangesOnly.refl _ _

theorem runImm_fr (s : State) (i : Machine.Instance) (op : Machine.ImmOp) (exts : List Nat) (a : Reg) (imm : Nat) : KFrame [] s (runImm s i op exts a imm) := by
  unfold runImm
  try dsimp only
  refine KFrame.ends ?_
  exact ChangesOnly.refl _ _

theorem runBranch_fr (s : State) (i : Machine.Instance) (c : Machine.Cond) (off : Nat) : KFrame [] s (runBranch s i c off) := by
  unfold runBranch
  try dsimp only
  refine KFrame.ite ?_ ?_
  · refine KFrame.ends ?_
    exact ChangesOnly.refl _ _
  · refine KFrame.ends ?_
    exact ChangesOnly.refl _ _

theorem runLoad_fr (s : State) (i : Machine.Instance) (op : Machine.MemOp) (a : Reg) (b : Reg) (check : LineCheck) : KFrame [.flt, .kite, .free] s (runLoad s i op a b check) := by
  unfold runLoad
  try dsimp only
  refine KFrame.ite ?_ ?_
  · refine KFrame.faults ?_
    exact ChangesOnly.refl _ _
  · refine KFrame.ite ?_ ?_
    · refine KFrame.faults ?_
      refine ChangesOnly.step (checkLine_fr _ _ _ _) (by decide) ?_
      exact ChangesOnly.refl _ _
    · split
      · refine KFrame.ends ?_
        refine ChangesOnly.step (Opt2Frame.of (dataTake_fr _ _ _ _) (by assumption)) (by decide) ?_
        refine ChangesOnly.step (checkLine_fr _ _ _ _) (by decide) ?_
        exact ChangesOnly.refl _ _
      · refine KFrame.faults ?_
        refine ChangesOnly.step (checkLine_fr _ _ _ _) (by decide) ?_
        exact ChangesOnly.refl _ _

theorem runStore_fr (s : State) (i : Machine.Instance) (op : Machine.MemOp) (a : Reg) (b : Reg) (check : LineCheck) : KFrame [.flt, .kite] s (runStore s i op a b check) := by
  unfold runStore
  try dsimp only
  refine KFrame.ite ?_ ?_
  · refine KFrame.faults ?_
    exact ChangesOnly.refl _ _
  · refine KFrame.ite ?_ ?_
    · refine KFrame.faults ?_
      refine ChangesOnly.step (checkLine_fr _ _ _ _) (by decide) ?_
      exact ChangesOnly.refl _ _
    · split
      · refine KFrame.ends ?_
        refine ChangesOnly.step (OptFrame.of (dataWrite_fr _ _ _ _) (by assumption)) (by decide) ?_
        refine ChangesOnly.step (checkLine_fr _ _ _ _) (by decide) ?_
        exact ChangesOnly.refl _ _
      · refine KFrame.faults ?_
        refine ChangesOnly.step (checkLine_fr _ _ _ _) (by decide) ?_
        exact ChangesOnly.refl _ _

theorem checkScan_fr (s : State) (i : Machine.Instance) (check : LineCheck) : ChangesOnly [.flt, .kite] s (checkScan s i check) := by
  unfold checkScan
  try dsimp only
  refine ChangesOnly.ite ?_ ?_
  · exact ChangesOnly.refl _ _
  · refine ChangesOnly.step (checkLine_fr _ _ _ _) (by decide) ?_
    exact ChangesOnly.refl _ _

theorem runIn_fr (s : State) (i : Machine.Instance) (core : Nat) (a : Reg) (b : Reg) (check : LineCheck) : KFrame [.flt, .kite, .free] s (runIn s i core a b check) := by
  unfold runIn
  try dsimp only
  split
  · refine KFrame.faults ?_
    exact ChangesOnly.refl _ _
  · refine KFrame.stalls ?_
    first | refine ChangesOnly.step (PFrame.ofDone (portIn_fr _ _ _ _ _) (by assumption)) (by decide) ?_ | refine ChangesOnly.step (PFrame.ofStall (portIn_fr _ _ _ _ _) (by assumption)) (by decide) ?_
    exact ChangesOnly.refl _ _
  · refine KFrame.ite ?_ ?_
    · refine KFrame.ends ?_
      first | refine ChangesOnly.step (PFrame.ofDone (portIn_fr _ _ _ _ _) (by assumption)) (by decide) ?_ | refine ChangesOnly.step (PFrame.ofStall (portIn_fr _ _ _ _ _) (by assumption)) (by decide) ?_
      exact ChangesOnly.refl _ _
    · refine KFrame.ite ?_ ?_
      · refine KFrame.faults ?_
        refine ChangesOnly.step (checkScan_fr _ _ _) (by decide) ?_
        exact ChangesOnly.refl _ _
      · split
        · refine KFrame.ends ?_
          first | refine ChangesOnly.step (PFrame.ofDone (portIn_fr _ _ _ _ _) (by assumption)) (by decide) ?_ | refine ChangesOnly.step (PFrame.ofStall (portIn_fr _ _ _ _ _) (by assumption)) (by decide) ?_
          refine ChangesOnly.step (checkScan_fr _ _ _) (by decide) ?_
          exact ChangesOnly.refl _ _
        · refine KFrame.stalls ?_
          first | refine ChangesOnly.step (PFrame.ofDone (portIn_fr _ _ _ _ _) (by assumption)) (by decide) ?_ | refine ChangesOnly.step (PFrame.ofStall (portIn_fr _ _ _ _ _) (by assumption)) (by decide) ?_
          refine ChangesOnly.step (checkScan_fr _ _ _) (by decide) ?_
          exact ChangesOnly.refl _ _
        · refine KFrame.faults ?_
          refine ChangesOnly.step (checkScan_fr _ _ _) (by decide) ?_
          exact ChangesOnly.refl _ _

theorem runOut_fr (s : State) (i : Machine.Instance) (a : Reg) (b : Reg) : KFrame [.kite, .way, .cmp, .sec, .free] s (runOut s i a b) := by
  unfold runOut
  try dsimp only
  split
  · refine KFrame.ends ?_
    first | refine ChangesOnly.step (PFrame.ofDone (portOut_fr _ _ _ _) (by assumption)) (by decide) ?_ | refine ChangesOnly.step (PFrame.ofStall (portOut_fr _ _ _ _) (by assumption)) (by decide) ?_
    exact ChangesOnly.refl _ _
  · refine KFrame.stalls ?_
    first | refine ChangesOnly.step (PFrame.ofDone (portOut_fr _ _ _ _) (by assumption)) (by decide) ?_ | refine ChangesOnly.step (PFrame.ofStall (portOut_fr _ _ _ _) (by assumption)) (by decide) ?_
    exact ChangesOnly.refl _ _
  · refine KFrame.faults ?_
    exact ChangesOnly.refl _ _

theorem movsrWrite_fr (s : State) (r : Machine.Regs) (w : Word) (number : Nat) : KFrame [] s (movsrWrite s r w number) := by
  unfold movsrWrite
  try dsimp only
  split
  · refine KFrame.ends ?_
    exact ChangesOnly.refl _ _
  · refine KFrame.ends ?_
    exact ChangesOnly.refl _ _
  · refine KFrame.faults ?_
    exact ChangesOnly.refl _ _

theorem movsrRead_fr (s : State) (r : Machine.Regs) (a : Reg) (number : Nat) : KFrame [] s (movsrRead s r a number) := by
  unfold movsrRead
  try dsimp only
  split
  · refine KFrame.ends ?_
    exact ChangesOnly.refl _ _
  · refine KFrame.ends ?_
    exact ChangesOnly.refl _ _
  · refine KFrame.ends ?_
    exact ChangesOnly.refl _ _
  · refine KFrame.ends ?_
    exact ChangesOnly.refl _ _
  · refine KFrame.ends ?_
    exact ChangesOnly.refl _ _
  · refine KFrame.ends ?_
    exact ChangesOnly.refl _ _
  · refine KFrame.ends ?_
    exact ChangesOnly.refl _ _
  · refine KFrame.faults ?_
    exact ChangesOnly.refl _ _

theorem runMovsr_fr (s : State) (i : Machine.Instance) (a : Reg) (toSpecial : Bool) (number : Nat) : KFrame [] s (runMovsr s i a toSpecial number) := by
  unfold runMovsr
  try dsimp only
  refine KFrame.ite ?_ ?_
  · refine KFrame.step (movsrWrite_fr _ _ _ _) (by decide) ?_
    exact ChangesOnly.refl _ _
  · refine KFrame.step (movsrRead_fr _ _ _ _) (by decide) ?_
    exact ChangesOnly.refl _ _

theorem checkCode_fr (s : State) (i : Machine.Instance) (core : Nat) (pc : Nat) (check : LineCheck) : ChangesOnly [.flt, .kite] s (checkCode s i core pc check) := by
  unfold checkCode
  try dsimp only
  refine ChangesOnly.ite ?_ ?_
  · exact ChangesOnly.refl _ _
  · refine ChangesOnly.ite ?_ ?_
    · refine ChangesOnly.step (modCore_fr _ _ _) (by decide) ?_
      refine ChangesOnly.step (lineFault_fr _ _ _) (by decide) ?_
      exact ChangesOnly.refl _ _
    · refine ChangesOnly.step (lineFault_fr _ _ _) (by decide) ?_
      exact ChangesOnly.refl _ _

theorem runLdpw_fr (s : State) (i : Machine.Instance) (core : Nat) (a : Reg) (b : Reg) (check : LineCheck) : KFrame [.flt, .kite] s (runLdpw s i core a b check) := by
  unfold runLdpw
  try dsimp only
  refine KFrame.ite ?_ ?_
  · refine KFrame.faults ?_
    exact ChangesOnly.refl _ _
  · refine KFrame.ite ?_ ?_
    · refine KFrame.faults ?_
      refine ChangesOnly.step (checkCode_fr _ _ _ _ _) (by decide) ?_
      exact ChangesOnly.refl _ _
    · refine KFrame.ends ?_
      refine ChangesOnly.step (checkCode_fr _ _ _ _ _) (by decide) ?_
      exact ChangesOnly.refl _ _

theorem runBrpt_fr (s : State) (i : Machine.Instance) (n : Nat) : KFrame [] s (runBrpt s i n) := by
  unfold runBrpt
  try dsimp only
  refine KFrame.ite ?_ ?_
  · refine KFrame.faults ?_
    exact ChangesOnly.refl _ _
  · refine KFrame.ite ?_ ?_
    · refine KFrame.faults ?_
      exact ChangesOnly.refl _ _
    · refine KFrame.ite ?_ ?_
      · refine KFrame.ends ?_
        exact ChangesOnly.refl _ _
      · refine KFrame.ends ?_
        exact ChangesOnly.refl _ _

theorem strElem_fr (s : State) (i : Instance) (core : Nat) (regs : Regs) (op : StrOp) (e : Nat) (r : Reg) :
    EFrame [.kite, .way, .cmp, .sec, .free] s (strElem s i core regs op e r) := by
  have up : ∀ n, ChangesOnly [.kite, .way, .cmp, .sec, .free] s { s with free := n } :=
    fun n => ChangesOnly.set_free (by decide) (ChangesOnly.refl _ _)
  have fault : ∀ n code, EFrame [.kite, .way, .cmp, .sec, .free] s (.fault { s with free := n } code) := fun n _ => EFrame.fault (up n)
  have fault' : ∀ code, EFrame [.kite, .way, .cmp, .sec, .free] s (.fault s code) := fun _ => EFrame.fault (ChangesOnly.refl _ _)
  have store : ∀ (t : State) (d : List Byte) (x : Regs) (b : Bool) (k : Nat) (c : Bool) (c5 c7 : Nat), ChangesOnly [.kite, .way, .cmp, .sec, .free] s t →
      EFrame [.kite, .way, .cmp, .sec, .free] s (match (if c = true then dataWrite t i k d else none) with
        | none => .fault s c5
        | some u => if b = true then .fault s c7 else ElemRes.done u x) := by
    intro t d x b k c c5 c7 h
    split
    · exact fault' c5
    · rename_i u hu
      refine EFrame.ite (fault' c7) (EFrame.done ?_)
      cases c with
      | false => simp at hu
      | true =>
        simp only [if_true] at hu
        exact ChangesOnly.step (OptFrame.of (dataWrite_fr _ _ _ _) hu) (by decide) h
  have store' : ∀ (t : State) (d : List Byte) (x : Regs) (b : Bool) (k : Nat) (c : Prop) [Decidable c] (c5 c7 : Nat), ChangesOnly [.kite, .way, .cmp, .sec, .free] s t →
      EFrame [.kite, .way, .cmp, .sec, .free] s (match (if c then dataWrite t i k d else none) with
        | none => .fault s c5
        | some u => if b = true then .fault s c7 else ElemRes.done u x) := by
    intro t d x b k c _ c5 c7 h
    have := store t d x b k (decide c) c5 c7 h
    simpa using this
  unfold strElem
  dsimp only
  split
  · split
    · exact fault' _
    · exact store' _ _ _ _ _ _ _ _ (up _)
  · split
    · rename_i x y t h1 h2
      refine EFrame.ite (fault' _) (EFrame.ite (EFrame.done ?_) (EFrame.stopped _ _))
      split at h2
      · exact ChangesOnly.step (Opt2Frame.of (dataTake_fr _ _ _ _) h2) (by decide) (up _)
      · cases h2
    · exact fault' _
  · split
    · exact fault' _
    · exact EFrame.ite (fault' _) (EFrame.ite (EFrame.stopped _ _) (EFrame.done (up _)))
  · refine EFrame.ite (fault' _) (EFrame.ite ?_ ?_)
    · split
      · exact fault' _
      · exact fault' _
    · split
      · exact fault' _
      · exact EFrame.stall (ChangesOnly.step (PFrame.ofStall (portIn_fr _ _ _ _ _) (by assumption)) (by decide) (up _))
      · exact store' _ _ _ _ _ _ _ _ (ChangesOnly.step (PFrame.ofDone (portIn_fr _ _ _ _ _) (by assumption)) (by decide) (up _))
  · split
    · exact fault' _
    · refine EFrame.ite (fault' _) (EFrame.ite (fault' _) ?_)
      split
      · exact EFrame.stall (ChangesOnly.step (PFrame.ofStall (portOut_fr _ _ _ _) (by assumption)) (by decide) (up _))
      · exact EFrame.done (ChangesOnly.step (PFrame.ofDone (portOut_fr _ _ _ _) (by assumption)) (by decide) (up _))
      · exact fault' _
  · exact store' _ _ _ _ _ _ _ _ (up _)

theorem checkElem_fr (s : State) (i : Machine.Instance) (core : Nat) (op : Machine.StrOp) (e : Nat) (r : Reg) (check : LineCheck) : ChangesOnly [.flt, .kite, .way, .cmp, .sec, .free] s (checkElem s i core op e r check) := by
  unfold checkElem
  try dsimp only
  split
  · exact ChangesOnly.refl _ _
  · exact ChangesOnly.refl _ _
  · split
    · refine ChangesOnly.step (checkLine_fr _ _ _ _) (by decide) ?_
      exact ChangesOnly.refl _ _
    · refine ChangesOnly.ite ?_ ?_
      · refine ChangesOnly.step (checkScan_fr _ _ _) (by decide) ?_
        exact ChangesOnly.refl _ _
      · refine ChangesOnly.step (checkLine_fr _ _ _ _) (by decide) ?_
        exact ChangesOnly.refl _ _
    · refine ChangesOnly.step (checkLine_fr _ _ _ _) (by decide) ?_
      exact ChangesOnly.refl _ _

theorem repLoop_fr (s : State) (run k core : Nat) (regs : Regs) (op : StrOp) (e : Nat) (r : Reg) (n ran : Nat) :
    ChangesOnly [.kite, .way, .cmp, .sec, .free] s (repLoop s run k core regs op e r n ran).s := by
  induction n generalizing s regs ran with
  | zero => exact ChangesOnly.refl _ _
  | succ n ih =>
    unfold repLoop
    split
    · exact ChangesOnly.refl _ _
    · split
      · exact ChangesOnly.refl _ _
      · split
        · rename_i t x h
          exact ChangesOnly.trans (EFrame.ofDone (strElem_fr _ _ _ _ _ _ _) h) (ih _ _ _)
        · exact ChangesOnly.refl _ _
        · exact EFrame.ofStall (strElem_fr _ _ _ _ _ _ _) (by assumption)
        · exact EFrame.ofFault (strElem_fr _ _ _ _ _ _ _) (by assumption)

theorem repBreak_fr (s : State) (i : Machine.Instance) (regs : Machine.Regs) (cost : Nat) (waits : Nat) : ChangesOnly [.kite, .free] s (repBreak s i regs cost waits) := by
  unfold repBreak
  try dsimp only
  refine ChangesOnly.step (modInst_fr _ _ _ _) (by decide) ?_
  refine ChangesOnly.step (cyclesOf_fr _ _ _ _) (by decide) ?_
  exact ChangesOnly.refl _ _

theorem runStr_fr (s : State) (i : Machine.Instance) (core : Nat) (wide : Bool) (op : Machine.StrOp) (r : Reg) (check : LineCheck) : KFrame [.flt, .kite, .way, .cmp, .sec, .free] s (runStr s i core wide op r check) := by
  unfold runStr
  try dsimp only
  split
  · refine KFrame.ends ?_
    first | refine ChangesOnly.step (EFrame.ofDone (strElem_fr _ _ _ _ _ _ _) (by assumption)) (by decide) ?_ | refine ChangesOnly.step (EFrame.ofStall (strElem_fr _ _ _ _ _ _ _) (by assumption)) (by decide) ?_ | refine ChangesOnly.step (EFrame.ofFault (strElem_fr _ _ _ _ _ _ _) (by assumption)) (by decide) ?_
    refine ChangesOnly.step (checkElem_fr _ _ _ _ _ _ _) (by decide) ?_
    exact ChangesOnly.refl _ _
  · refine KFrame.ends ?_
    refine ChangesOnly.step (checkElem_fr _ _ _ _ _ _ _) (by decide) ?_
    exact ChangesOnly.refl _ _
  · refine KFrame.stalls ?_
    first | refine ChangesOnly.step (EFrame.ofDone (strElem_fr _ _ _ _ _ _ _) (by assumption)) (by decide) ?_ | refine ChangesOnly.step (EFrame.ofStall (strElem_fr _ _ _ _ _ _ _) (by assumption)) (by decide) ?_ | refine ChangesOnly.step (EFrame.ofFault (strElem_fr _ _ _ _ _ _ _) (by assumption)) (by decide) ?_
    refine ChangesOnly.step (checkElem_fr _ _ _ _ _ _ _) (by decide) ?_
    exact ChangesOnly.refl _ _
  · refine KFrame.faults ?_
    first | refine ChangesOnly.step (EFrame.ofDone (strElem_fr _ _ _ _ _ _ _) (by assumption)) (by decide) ?_ | refine ChangesOnly.step (EFrame.ofStall (strElem_fr _ _ _ _ _ _ _) (by assumption)) (by decide) ?_ | refine ChangesOnly.step (EFrame.ofFault (strElem_fr _ _ _ _ _ _ _) (by assumption)) (by decide) ?_
    refine ChangesOnly.step (checkElem_fr _ _ _ _ _ _ _) (by decide) ?_
    exact ChangesOnly.refl _ _


/-! ### DramOps -/

theorem countDevice_fr (s : State) (line : Nat) (device : Option Nat) : ChangesOnly [.flt, .drc] s (countDevice s line device) := by
  unfold countDevice
  try dsimp only
  split
  · exact ChangesOnly.refl _ _
  · refine ChangesOnly.ite ?_ ?_
    · refine ChangesOnly.step (upDrc_fr _ _) (by decide) ?_
      exact ChangesOnly.refl _ _
    · refine ChangesOnly.ite ?_ ?_
      · refine ChangesOnly.step (upDrc_fr _ _) (by decide) ?_
        refine ChangesOnly.step (upDrc_fr _ _) (by decide) ?_
        exact ChangesOnly.refl _ _
      · refine ChangesOnly.step (raise_fr _ _) (by decide) ?_
        refine ChangesOnly.step (upDrc_fr _ _) (by decide) ?_
        refine ChangesOnly.step (upDrc_fr _ _) (by decide) ?_
        exact ChangesOnly.refl _ _

theorem dramCorrected_fr (s : State) (line : Nat) (check : LineCheck) : ChangesOnly [.flt, .drc] s (dramCorrected s line check) := by
  unfold dramCorrected
  try dsimp only
  refine ChangesOnly.step (countDevice_fr _ _ _) (by decide) ?_
  refine ChangesOnly.step (raise_fr _ _) (by decide) ?_
  refine ChangesOnly.step (upDrc_fr _ _) (by decide) ?_
  exact ChangesOnly.refl _ _

theorem dramBad_fr (s : State) (line : Nat) (level : Option Nat) : ChangesOnly [.flt, .drc] s (dramBad s line level) := by
  unfold dramBad
  try dsimp only
  refine ChangesOnly.step (raiseAt_fr _ _ _ _ _) (by decide) ?_
  refine ChangesOnly.step (upDrc_fr _ _) (by decide) ?_
  exact ChangesOnly.refl _ _


/-! ### KiteRun -/

theorem powerCluster_fr (s : State) (n : Nat) : ChangesOnly [.kite] s (powerCluster s n) := by
  unfold powerCluster
  try dsimp only
  refine ChangesOnly.ite ?_ ?_
  · exact ChangesOnly.refl _ _
  · refine ChangesOnly.foldl (fun _ _ => ?_) ?_
    · refine ChangesOnly.ite ?_ ?_
      · refine ChangesOnly.step (modCore_fr _ _ _) (by decide) ?_
        exact ChangesOnly.refl _ _
      · exact ChangesOnly.refl _ _
    · refine ChangesOnly.step (modCluster_fr _ _ _) (by decide) ?_
      exact ChangesOnly.refl _ _

theorem stopKiteTest_fr (s : State) (n : Nat) : ChangesOnly [.kite, .hlt] s (stopKiteTest s n) := by
  unfold stopKiteTest
  try dsimp only
  refine ChangesOnly.ite ?_ ?_
  · exact ChangesOnly.refl _ _
  · refine ChangesOnly.ite ?_ ?_
    · refine ChangesOnly.step (upHlt_fr _ _) (by decide) ?_
      refine ChangesOnly.step (upKite_fr _ _) (by decide) ?_
      refine ChangesOnly.step (modCluster_fr _ _ _) (by decide) ?_
      exact ChangesOnly.refl _ _
    · refine ChangesOnly.step (upKite_fr _ _) (by decide) ?_
      refine ChangesOnly.step (modCluster_fr _ _ _) (by decide) ?_
      exact ChangesOnly.refl _ _

theorem execInstanceDispatch_fr (core : CoreId) (s : State) : OutFrame [.med, .kite, .sec, .hlt] s (execInstanceDispatch core s) := by
  unfold execInstanceDispatch
  try dsimp only
  split
  · refine OutFrame.next ?_
    exact ChangesOnly.refl _ _
  · refine OutFrame.ite ?_ ?_
    · refine OutFrame.next ?_
      exact ChangesOnly.refl _ _
    · refine OutFrame.ite ?_ ?_
      · refine OutFrame.next ?_
        refine ChangesOnly.step (powerCluster_fr _ _) (by decide) ?_
        refine ChangesOnly.step (stopKiteTest_fr _ _) (by decide) ?_
        exact ChangesOnly.refl _ _
      · refine OutFrame.ite ?_ ?_
        · refine OutFrame.next ?_
          refine ChangesOnly.step (kiteFault_fr _ _ _ _ _) (by decide) ?_
          refine ChangesOnly.step (modCore_fr _ _ _) (by decide) ?_
          refine ChangesOnly.step (upKite_fr _ _) (by decide) ?_
          refine ChangesOnly.step (modInst_fr _ _ _ _) (by decide) ?_
          refine ChangesOnly.step (powerCluster_fr _ _) (by decide) ?_
          refine ChangesOnly.step (stopKiteTest_fr _ _) (by decide) ?_
          exact ChangesOnly.refl _ _
        · refine OutFrame.next ?_
          refine ChangesOnly.step (modCore_fr _ _ _) (by decide) ?_
          refine ChangesOnly.step (upKite_fr _ _) (by decide) ?_
          refine ChangesOnly.step (modInst_fr _ _ _ _) (by decide) ?_
          refine ChangesOnly.step (powerCluster_fr _ _) (by decide) ?_
          refine ChangesOnly.step (stopKiteTest_fr _ _) (by decide) ?_
          exact ChangesOnly.refl _ _

theorem preempt_fr (s : State) (core : Nat) : ChangesOnly [.kite, .free] s (preempt s core) := by
  unfold preempt
  try dsimp only
  refine ChangesOnly.ite ?_ ?_
  · exact ChangesOnly.refl _ _
  · refine ChangesOnly.ite ?_ ?_
    · refine ChangesOnly.step (modCluster_fr _ _ _) (by decide) ?_
      exact ChangesOnly.refl _ _
    · refine ChangesOnly.step (modCore_fr _ _ _) (by decide) ?_
      split
      · refine ChangesOnly.step (modInst_fr _ _ _ _) (by decide) ?_
        refine ChangesOnly.step (cyclesOf_fr _ _ _ _) (by decide) ?_
        exact ChangesOnly.refl _ _
      · exact ChangesOnly.refl _ _

theorem execQuantumExpiry_fr (core : CoreId) (s : State) : OutFrame [.kite, .free] s (execQuantumExpiry core s) := by
  unfold execQuantumExpiry
  try dsimp only
  refine OutFrame.ite ?_ ?_
  · refine OutFrame.next ?_
    refine ChangesOnly.step (preempt_fr _ _) (by decide) ?_
    exact ChangesOnly.refl _ _
  · refine OutFrame.next ?_
    exact ChangesOnly.refl _ _

theorem execWaitPreempt_fr (core : CoreId) (s : State) : OutFrame [.kite, .free] s (execWaitPreempt core s) := by
  unfold execWaitPreempt
  try dsimp only
  refine OutFrame.ite ?_ ?_
  · refine OutFrame.next ?_
    refine ChangesOnly.step (preempt_fr _ _) (by decide) ?_
    exact ChangesOnly.refl _ _
  · refine OutFrame.next ?_
    exact ChangesOnly.refl _ _

theorem execContextSaveDone_fr (core : CoreId) (s : State) : OutFrame [.med, .drc, .kite] s (execContextSaveDone core s) := by
  unfold execContextSaveDone
  try dsimp only
  split
  · refine OutFrame.next ?_
    exact ChangesOnly.refl _ _
  · refine OutFrame.ite ?_ ?_
    · refine OutFrame.next ?_
      exact ChangesOnly.refl _ _
    · refine OutFrame.next ?_
      refine ChangesOnly.step (modCore_fr _ _ _) (by decide) ?_
      refine ChangesOnly.step (modCluster_fr _ _ _) (by decide) ?_
      refine ChangesOnly.step (upKite_fr _ _) (by decide) ?_
      refine ChangesOnly.step (upDrc_fr _ _) (by decide) ?_
      refine ChangesOnly.step (modInst_fr _ _ _ _) (by decide) ?_
      refine ChangesOnly.foldl (fun _ _ => ?_) ?_
      · refine ChangesOnly.step (bandRead_fr _ _) (by decide) ?_
        exact ChangesOnly.refl _ _
      · exact ChangesOnly.refl _ _

theorem laneBlock_fr (s : State) (v : Nat) (lba : Nat) : ChangesOnly [.med, .sec, .mesh, .free] s (laneBlock s v lba).2 := by
  unfold laneBlock
  try dsimp only
  split
  · try dsimp only
    refine ChangesOnly.step (resolve_fr _ _ _) (by decide) ?_
    exact ChangesOnly.refl _ _
  · try dsimp only
    refine ChangesOnly.step (resolve_fr _ _ _) (by decide) ?_
    exact ChangesOnly.refl _ _
  · try dsimp only
    refine ChangesOnly.step (resolve_fr _ _ _) (by decide) ?_
    exact ChangesOnly.refl _ _
  · refine ChangesOnly.ite2 ?_ ?_
    · try dsimp only
      refine ChangesOnly.step (resolve_fr _ _ _) (by decide) ?_
      exact ChangesOnly.refl _ _
    · try dsimp only
      split
      · refine ChangesOnly.step (bandMod_fr _ _ _) (by decide) ?_
        refine ChangesOnly.step (leafHit_fr _ _ _) (by decide) ?_
        refine ChangesOnly.step (resolve_fr _ _ _) (by decide) ?_
        exact ChangesOnly.refl _ _
      · refine ChangesOnly.step (leafHit_fr _ _ _) (by decide) ?_
        refine ChangesOnly.step (resolve_fr _ _ _) (by decide) ?_
        exact ChangesOnly.refl _ _

theorem assignHub_fr (s : State) (tag : Nat) (rel : Nat) : ChangesOnly [.med, .kite, .sec, .mesh, .free] s (assignHub s tag rel).2 := by
  unfold assignHub
  try dsimp only
  split
  · try dsimp only
    exact ChangesOnly.refl _ _
  · split
    · try dsimp only
      exact ChangesOnly.refl _ _
    · split
      · try dsimp only
        refine ChangesOnly.step (laneBlock_fr _ _ _) (by decide) ?_
        exact ChangesOnly.refl _ _
      · split
        · try dsimp only
          refine ChangesOnly.step (modRun_fr _ _ _) (by decide) ?_
          refine ChangesOnly.step (laneBlock_fr _ _ _) (by decide) ?_
          exact ChangesOnly.refl _ _
        · try dsimp only
          refine ChangesOnly.step (modRun_fr _ _ _) (by decide) ?_
          refine ChangesOnly.step (laneBlock_fr _ _ _) (by decide) ?_
          exact ChangesOnly.refl _ _
        · split
          · try dsimp only
            refine ChangesOnly.step (modRun_fr _ _ _) (by decide) ?_
            refine ChangesOnly.step (ChangesOnly.of2 (assignHub_fr _ _ _) (by assumption)) (by decide) ?_
            refine ChangesOnly.step (laneBlock_fr _ _ _) (by decide) ?_
            exact ChangesOnly.refl _ _
          · try dsimp only
            refine ChangesOnly.step (bandRead_fr _ _) (by decide) ?_
            refine ChangesOnly.step (ChangesOnly.of2 (assignHub_fr _ _ _) (by assumption)) (by decide) ?_
            refine ChangesOnly.step (laneBlock_fr _ _ _) (by decide) ?_
            exact ChangesOnly.refl _ _

theorem takeBlock_fr (s : State) (r : Machine.Run) (rel : Nat) : ChangesOnly [.med, .kite, .sec, .mesh, .free] s (takeBlock s r rel).2 := by
  unfold takeBlock
  try dsimp only
  split
  · try dsimp only
    refine ChangesOnly.step (modRun_fr _ _ _) (by decide) ?_
    exact ChangesOnly.refl _ _
  · refine ChangesOnly.step (laneBlock_fr _ _ _) (by decide) ?_
    exact ChangesOnly.refl _ _

def Pair2Frame (ps : List Part) (s : State) (x : Option State × State) : Prop := (∀ t, x.1 = some t → ChangesOnly ps s t) ∧ ChangesOnly ps s x.2
theorem extendOne_fr (s : State) (tag k : Nat) : Pair2Frame [.med, .kite, .sec, .mesh, .free] s (extendOne s tag k) := by
  have n : ∀ t, ChangesOnly [.med, .kite, .sec, .mesh, .free] s t → Pair2Frame [.med, .kite, .sec, .mesh, .free] s (none, t) :=
    fun t h => ⟨(by intro u e; cases e), h⟩
  have m : ∀ (t : State) (f : Instance → Instance), ChangesOnly [.med, .kite, .sec, .mesh, .free] s t → Pair2Frame [.med, .kite, .sec, .mesh, .free] s (some (modInst t tag k f), t) :=
    fun t f h => ⟨(by intro u e; cases e; exact ChangesOnly.step (modInst_fr _ _ _ _) (by decide) h), h⟩
  unfold extendOne
  dsimp only
  split
  · split
    · exact n _ (ChangesOnly.refl _ _)
    · split
      · exact n _ (ChangesOnly.step (ChangesOnly.of2 (assignHub_fr _ _ _) (by assumption)) (by decide) (ChangesOnly.refl _ _))
      · have a := ChangesOnly.step (ps := [.med, .kite, .sec, .mesh, .free]) (ChangesOnly.of2 (assignHub_fr _ _ _) (by assumption)) (by decide) (ChangesOnly.refl _ s)
        split
        · exact m _ _ a
        · split
          · rename_i h
            obtain ⟨r, _, e⟩ := Option.map_eq_some_iff.1 h
            exact m _ _ (ChangesOnly.step (ChangesOnly.of2 (takeBlock_fr _ _ _) e) (by decide) a)
          · rename_i h
            obtain ⟨r, _, e⟩ := Option.map_eq_some_iff.1 h
            exact n _ (ChangesOnly.step (ChangesOnly.of2 (takeBlock_fr _ _ _) e) (by decide) a)
          · exact n _ a
  · exact n _ (ChangesOnly.refl _ _)

theorem extendList_fr (s : State) (tag k n : Nat) : ChangesOnly [.med, .kite, .sec, .mesh, .free] s (extendList s tag k n) := by
  induction n generalizing s with
  | zero => exact ChangesOnly.refl _ _
  | succ n ih =>
    unfold extendList
    split
    · rename_i h
      exact ((extendOne_fr s tag k).1 _ (by rw [h])).trans (ih _)
    · rename_i h
      have := (extendOne_fr s tag k).2
      rw [h] at this
      exact this

theorem execWorklistExtend_fr (run : Nat) (num : Nat) (s : State) : OutFrame [.med, .kite, .sec, .mesh, .free] s (execWorklistExtend run num s) := by
  unfold execWorklistExtend
  try dsimp only
  split
  · refine OutFrame.next ?_
    exact ChangesOnly.refl _ _
  · split
    · refine OutFrame.next ?_
      refine ChangesOnly.step (rouse_fr _ _ _) (by decide) ?_
      refine ChangesOnly.step (extendList_fr _ _ _ _) (by decide) ?_
      exact ChangesOnly.refl _ _
    · refine OutFrame.next ?_
      exact ChangesOnly.refl _ _

theorem publish_fr (s : State) (i : Machine.Instance) (b : Machine.LaneBlock) : ChangesOnly [.med, .kite] s (publish s i b) := by
  unfold publish
  try dsimp only
  refine ChangesOnly.step (rouse_fr _ _ _) (by decide) ?_
  refine ChangesOnly.step (modCluster_fr _ _ _) (by decide) ?_
  refine ChangesOnly.step (modRun_fr _ _ _) (by decide) ?_
  refine ChangesOnly.step (modInst_fr _ _ _ _) (by decide) ?_
  refine ChangesOnly.step (bandRead_fr _ _) (by decide) ?_
  exact ChangesOnly.refl _ _

theorem laneRead_fr (s : State) (i : Machine.Instance) (b : Machine.LaneBlock) (m : MediaIn) : ChangesOnly [.flt, .med, .drc, .kite, .cmp, .sec, .pair, .mesh, .free] s (laneRead s i b m) := by
  unfold laneRead
  try dsimp only
  split
  · refine ChangesOnly.ite ?_ ?_
    · refine ChangesOnly.step (publish_fr _ _ _) (by decide) ?_
      refine ChangesOnly.step (stagedBad_fr _ _ _) (by decide) ?_
      exact ChangesOnly.refl _ _
    · refine ChangesOnly.step (publish_fr _ _ _) (by decide) ?_
      exact ChangesOnly.refl _ _
  · refine ChangesOnly.ite ?_ ?_
    · refine ChangesOnly.step (publish_fr _ _ _) (by decide) ?_
      exact ChangesOnly.refl _ _
    · split
      · refine ChangesOnly.step (fetchEntry_fr _ _ _ _ _ _) (by decide) ?_
        exact ChangesOnly.refl _ _
      · refine ChangesOnly.step (publish_fr _ _ _) (by decide) ?_
        refine ChangesOnly.step (entryEffects_fr _ _ _ _ _) (by decide) ?_
        refine ChangesOnly.step (fetchEntry_fr _ _ _ _ _ _) (by decide) ?_
        exact ChangesOnly.refl _ _
      · refine ChangesOnly.step (publish_fr _ _ _) (by decide) ?_
        refine ChangesOnly.step (entryEffects_fr _ _ _ _ _) (by decide) ?_
        refine ChangesOnly.step (fetchEntry_fr _ _ _ _ _ _) (by decide) ?_
        exact ChangesOnly.refl _ _
      · split
        · refine ChangesOnly.step (publish_fr _ _ _) (by decide) ?_
          refine ChangesOnly.step (entryEffects_fr _ _ _ _ _) (by decide) ?_
          refine ChangesOnly.step (fetchEntry_fr _ _ _ _ _ _) (by decide) ?_
          exact ChangesOnly.refl _ _
        · refine ChangesOnly.step (modInst_fr _ _ _ _) (by decide) ?_
          refine ChangesOnly.step (raise_fr _ _) (by decide) ?_
          refine ChangesOnly.step (upCmp_fr _ _) (by decide) ?_
          refine ChangesOnly.step (fetchEntry_fr _ _ _ _ _ _) (by decide) ?_
          exact ChangesOnly.refl _ _

theorem execLaneBlockVisible_fr (run : Nat) (num : Nat) (media : MediaIn) (s : State) : OutFrame [.flt, .med, .drc, .kite, .cmp, .sec, .pair, .mesh, .free] s (execLaneBlockVisible run num media s) := by
  unfold execLaneBlockVisible
  try dsimp only
  split
  · refine OutFrame.next ?_
    exact ChangesOnly.refl _ _
  · split
    · refine OutFrame.ite ?_ ?_
      · refine OutFrame.next ?_
        exact ChangesOnly.refl _ _
      · refine OutFrame.next ?_
        refine ChangesOnly.step (laneRead_fr _ _ _ _) (by decide) ?_
        exact ChangesOnly.refl _ _
    · refine OutFrame.next ?_
      exact ChangesOnly.refl _ _

theorem execTimerExpiry_fr (run : Nat) (num : Nat) (timer : Nat) (s : State) : OutFrame [.kite] s (execTimerExpiry run num timer s) := by
  unfold execTimerExpiry
  try dsimp only
  split
  · refine OutFrame.next ?_
    exact ChangesOnly.refl _ _
  · refine OutFrame.ite ?_ ?_
    · refine OutFrame.next ?_
      exact ChangesOnly.refl _ _
    · refine OutFrame.next ?_
      refine ChangesOnly.step (latchEvent_fr _ _ _ _) (by decide) ?_
      refine ChangesOnly.step (modInst_fr _ _ _ _) (by decide) ?_
      exact ChangesOnly.refl _ _

theorem mailTo_fr (s : State) (run : Nat) (sender : Nat) (dest : Nat) (w : Word) : OptFrame [.kite] s (mailTo s run sender dest w) := by
  unfold mailTo
  try dsimp only
  split
  · refine OptFrame.some ?_
    exact ChangesOnly.refl _ _
  · refine OptFrame.ite ?_ ?_
    · refine OptFrame.some ?_
      exact ChangesOnly.refl _ _
    · refine OptFrame.ite ?_ ?_
      · exact OptFrame.none
      · refine OptFrame.some ?_
        refine ChangesOnly.step (rouse_fr _ _ _) (by decide) ?_
        refine ChangesOnly.step (modInst_fr _ _ _ _) (by decide) ?_
        exact ChangesOnly.refl _ _

theorem execMboxDeliver_fr (run : Nat) (sender : Nat) (dest : Nat) (s : State) : OutFrame [.kite] s (execMboxDeliver run sender dest s) := by
  unfold execMboxDeliver
  try dsimp only
  split
  · refine OutFrame.ite ?_ ?_
    · refine OutFrame.next ?_
      exact ChangesOnly.refl _ _
    · split
      · refine OutFrame.next ?_
        refine ChangesOnly.step (upKite_fr _ _) (by decide) ?_
        refine ChangesOnly.step (OptFrame.of (mailTo_fr _ _ _ _ _) (by assumption)) (by decide) ?_
        exact ChangesOnly.refl _ _
      · refine OutFrame.next ?_
        exact ChangesOnly.refl _ _
  · split
    · split
      · refine OutFrame.ite ?_ ?_
        · refine OutFrame.next ?_
          exact ChangesOnly.refl _ _
        · split
          · refine OutFrame.next ?_
            refine ChangesOnly.step (modInst_fr _ _ _ _) (by decide) ?_
            refine ChangesOnly.step (OptFrame.of (mailTo_fr _ _ _ _ _) (by assumption)) (by decide) ?_
            exact ChangesOnly.refl _ _
          · refine OutFrame.next ?_
            exact ChangesOnly.refl _ _
      · refine OutFrame.next ?_
        exact ChangesOnly.refl _ _
    · refine OutFrame.next ?_
      exact ChangesOnly.refl _ _

theorem dropEnded_fr (s : State) (i : Machine.Instance) : ChangesOnly [.kite, .sec] s (dropEnded s i) := by
  unfold dropEnded
  try dsimp only
  refine ChangesOnly.ite ?_ ?_
  · refine ChangesOnly.step (dgDrop_fr _ _) (by decide) ?_
    exact ChangesOnly.refl _ _
  · exact ChangesOnly.refl _ _

theorem digestDone_fr (s : State) (i : Machine.Instance) (check : LineCheck) : ChangesOnly [.flt, .tsk, .kite, .sec, .free] s (digestDone s i check) := by
  unfold digestDone
  try dsimp only
  split
  · exact ChangesOnly.refl _ _
  · refine ChangesOnly.ite ?_ ?_
    · exact ChangesOnly.refl _ _
    · split
      · refine ChangesOnly.ite ?_ ?_
        · refine ChangesOnly.step (zeroise_fr _ _) (by decide) ?_
          refine ChangesOnly.step (checkRange_fr _ _ _ _ _) (by decide) ?_
          exact ChangesOnly.refl _ _
        · refine ChangesOnly.step (dropEnded_fr _ _) (by decide) ?_
          refine ChangesOnly.step (latchEvent_fr _ _ _ _) (by decide) ?_
          refine ChangesOnly.step (modPorts_fr _ _ _) (by decide) ?_
          refine ChangesOnly.step (upSec_fr _ _) (by decide) ?_
          refine ChangesOnly.step (sourceNow_fr _ _ _ _) (by decide) ?_
          refine ChangesOnly.step (checkRange_fr _ _ _ _ _) (by decide) ?_
          exact ChangesOnly.refl _ _
      · refine ChangesOnly.step (latchEvent_fr _ _ _ _) (by decide) ?_
        refine ChangesOnly.step (modPorts_fr _ _ _) (by decide) ?_
        refine ChangesOnly.step (upSec_fr _ _) (by decide) ?_
        exact ChangesOnly.refl _ _

theorem cpEnd_fr (s : State) (i : Machine.Instance) (status : Nat) (detail : Nat) (len : Nat) : ChangesOnly [.kite] s (cpEnd s i status detail len) := by
  unfold cpEnd
  try dsimp only
  refine ChangesOnly.step (latchEvent_fr _ _ _ _) (by decide) ?_
  refine ChangesOnly.step (modPorts_fr _ _ _) (by decide) ?_
  exact ChangesOnly.refl _ _

theorem compressDone_fr (s : State) (i : Machine.Instance) (check : LineCheck) (checker : Checker) : ChangesOnly [.flt, .kite, .cmp, .free] s (compressDone s i check checker) := by
  unfold compressDone
  try dsimp only
  split
  · exact ChangesOnly.refl _ _
  · refine ChangesOnly.ite ?_ ?_
    · refine ChangesOnly.step (askPipe_fr _ _) (by decide) ?_
      exact ChangesOnly.refl _ _
    · refine ChangesOnly.ite ?_ ?_
      · refine ChangesOnly.step (cpEnd_fr _ _ _ _ _) (by decide) ?_
        refine OptFrame.getD ?_ ?_
        · refine OptFrame.step (dataWrite_fr _ _ _ _) (by decide) ?_
          refine ChangesOnly.step (freeBytes_fr _ _) (by decide) ?_
          refine ChangesOnly.step (checkRange_fr _ _ _ _ _) (by decide) ?_
          refine ChangesOnly.step (leavePipe_fr _ _) (by decide) ?_
          exact ChangesOnly.refl _ _
        · refine ChangesOnly.step (freeBytes_fr _ _) (by decide) ?_
          refine ChangesOnly.step (checkRange_fr _ _ _ _ _) (by decide) ?_
          refine ChangesOnly.step (leavePipe_fr _ _) (by decide) ?_
          exact ChangesOnly.refl _ _
      · refine ChangesOnly.ite ?_ ?_
        · split
          · refine ChangesOnly.step (cpEnd_fr _ _ _ _ _) (by decide) ?_
            refine OptFrame.getD ?_ ?_
            · refine OptFrame.step (dataWrite_fr _ _ _ _) (by decide) ?_
              refine ChangesOnly.step (upCmp_fr _ _) (by decide) ?_
              refine ChangesOnly.step (sourceNow_fr _ _ _ _) (by decide) ?_
              refine ChangesOnly.step (checkRange_fr _ _ _ _ _) (by decide) ?_
              refine ChangesOnly.step (leavePipe_fr _ _) (by decide) ?_
              exact ChangesOnly.refl _ _
            · refine ChangesOnly.step (upCmp_fr _ _) (by decide) ?_
              refine ChangesOnly.step (sourceNow_fr _ _ _ _) (by decide) ?_
              refine ChangesOnly.step (checkRange_fr _ _ _ _ _) (by decide) ?_
              refine ChangesOnly.step (leavePipe_fr _ _) (by decide) ?_
              exact ChangesOnly.refl _ _
          · refine ChangesOnly.step (cpEnd_fr _ _ _ _ _) (by decide) ?_
            refine OptFrame.getD ?_ ?_
            · refine OptFrame.step (dataWrite_fr _ _ _ _) (by decide) ?_
              refine ChangesOnly.step (freeBytes_fr _ _) (by decide) ?_
              refine ChangesOnly.step (sourceNow_fr _ _ _ _) (by decide) ?_
              refine ChangesOnly.step (checkRange_fr _ _ _ _ _) (by decide) ?_
              refine ChangesOnly.step (leavePipe_fr _ _) (by decide) ?_
              exact ChangesOnly.refl _ _
            · refine ChangesOnly.step (freeBytes_fr _ _) (by decide) ?_
              refine ChangesOnly.step (sourceNow_fr _ _ _ _) (by decide) ?_
              refine ChangesOnly.step (checkRange_fr _ _ _ _ _) (by decide) ?_
              refine ChangesOnly.step (leavePipe_fr _ _) (by decide) ?_
              exact ChangesOnly.refl _ _
          · refine ChangesOnly.step (cpEnd_fr _ _ _ _ _) (by decide) ?_
            refine OptFrame.getD ?_ ?_
            · refine OptFrame.step (dataWrite_fr _ _ _ _) (by decide) ?_
              refine ChangesOnly.step (freeBytes_fr _ _) (by decide) ?_
              refine ChangesOnly.step (upCmp_fr _ _) (by decide) ?_
              refine ChangesOnly.step (sourceNow_fr _ _ _ _) (by decide) ?_
              refine ChangesOnly.step (checkRange_fr _ _ _ _ _) (by decide) ?_
              refine ChangesOnly.step (leavePipe_fr _ _) (by decide) ?_
              exact ChangesOnly.refl _ _
            · refine ChangesOnly.step (freeBytes_fr _ _) (by decide) ?_
              refine ChangesOnly.step (upCmp_fr _ _) (by decide) ?_
              refine ChangesOnly.step (sourceNow_fr _ _ _ _) (by decide) ?_
              refine ChangesOnly.step (checkRange_fr _ _ _ _ _) (by decide) ?_
              refine ChangesOnly.step (leavePipe_fr _ _) (by decide) ?_
              exact ChangesOnly.refl _ _
        · split
          · refine ChangesOnly.step (cpEnd_fr _ _ _ _ _) (by decide) ?_
            refine OptFrame.getD ?_ ?_
            · refine OptFrame.step (dataWrite_fr _ _ _ _) (by decide) ?_
              refine ChangesOnly.step (upCmp_fr _ _) (by decide) ?_
              refine ChangesOnly.step (upCmp_fr _ _) (by decide) ?_
              refine ChangesOnly.step (sourceNow_fr _ _ _ _) (by decide) ?_
              refine ChangesOnly.step (checkRange_fr _ _ _ _ _) (by decide) ?_
              refine ChangesOnly.step (leavePipe_fr _ _) (by decide) ?_
              exact ChangesOnly.refl _ _
            · refine ChangesOnly.step (upCmp_fr _ _) (by decide) ?_
              refine ChangesOnly.step (upCmp_fr _ _) (by decide) ?_
              refine ChangesOnly.step (sourceNow_fr _ _ _ _) (by decide) ?_
              refine ChangesOnly.step (checkRange_fr _ _ _ _ _) (by decide) ?_
              refine ChangesOnly.step (leavePipe_fr _ _) (by decide) ?_
              exact ChangesOnly.refl _ _
          · refine ChangesOnly.step (cpEnd_fr _ _ _ _ _) (by decide) ?_
            refine OptFrame.getD ?_ ?_
            · refine OptFrame.step (dataWrite_fr _ _ _ _) (by decide) ?_
              refine ChangesOnly.step (freeBytes_fr _ _) (by decide) ?_
              refine ChangesOnly.step (upCmp_fr _ _) (by decide) ?_
              refine ChangesOnly.step (sourceNow_fr _ _ _ _) (by decide) ?_
              refine ChangesOnly.step (checkRange_fr _ _ _ _ _) (by decide) ?_
              refine ChangesOnly.step (leavePipe_fr _ _) (by decide) ?_
              exact ChangesOnly.refl _ _
            · refine ChangesOnly.step (freeBytes_fr _ _) (by decide) ?_
              refine ChangesOnly.step (upCmp_fr _ _) (by decide) ?_
              refine ChangesOnly.step (sourceNow_fr _ _ _ _) (by decide) ?_
              refine ChangesOnly.step (checkRange_fr _ _ _ _ _) (by decide) ?_
              refine ChangesOnly.step (leavePipe_fr _ _) (by decide) ?_
              exact ChangesOnly.refl _ _
          · refine ChangesOnly.step (cpEnd_fr _ _ _ _ _) (by decide) ?_
            refine OptFrame.getD ?_ ?_
            · refine OptFrame.step (dataWrite_fr _ _ _ _) (by decide) ?_
              refine ChangesOnly.step (freeBytes_fr _ _) (by decide) ?_
              refine ChangesOnly.step (upCmp_fr _ _) (by decide) ?_
              refine ChangesOnly.step (upCmp_fr _ _) (by decide) ?_
              refine ChangesOnly.step (sourceNow_fr _ _ _ _) (by decide) ?_
              refine ChangesOnly.step (checkRange_fr _ _ _ _ _) (by decide) ?_
              refine ChangesOnly.step (leavePipe_fr _ _) (by decide) ?_
              exact ChangesOnly.refl _ _
            · refine ChangesOnly.step (freeBytes_fr _ _) (by decide) ?_
              refine ChangesOnly.step (upCmp_fr _ _) (by decide) ?_
              refine ChangesOnly.step (upCmp_fr _ _) (by decide) ?_
              refine ChangesOnly.step (sourceNow_fr _ _ _ _) (by decide) ?_
              refine ChangesOnly.step (checkRange_fr _ _ _ _ _) (by decide) ?_
              refine ChangesOnly.step (leavePipe_fr _ _) (by decide) ?_
              exact ChangesOnly.refl _ _
          · refine ChangesOnly.step (cpEnd_fr _ _ _ _ _) (by decide) ?_
            refine OptFrame.getD ?_ ?_
            · refine OptFrame.step (dataWrite_fr _ _ _ _) (by decide) ?_
              refine ChangesOnly.step (freeBytes_fr _ _) (by decide) ?_
              refine ChangesOnly.step (verifyFailed_fr _) (by decide) ?_
              refine ChangesOnly.step (upCmp_fr _ _) (by decide) ?_
              refine ChangesOnly.step (sourceNow_fr _ _ _ _) (by decide) ?_
              refine ChangesOnly.step (checkRange_fr _ _ _ _ _) (by decide) ?_
              refine ChangesOnly.step (leavePipe_fr _ _) (by decide) ?_
              exact ChangesOnly.refl _ _
            · refine ChangesOnly.step (freeBytes_fr _ _) (by decide) ?_
              refine ChangesOnly.step (verifyFailed_fr _) (by decide) ?_
              refine ChangesOnly.step (upCmp_fr _ _) (by decide) ?_
              refine ChangesOnly.step (sourceNow_fr _ _ _ _) (by decide) ?_
              refine ChangesOnly.step (checkRange_fr _ _ _ _ _) (by decide) ?_
              refine ChangesOnly.step (leavePipe_fr _ _) (by decide) ?_
              exact ChangesOnly.refl _ _

theorem deliverRun_fr (s : State) (o : Machine.Op) (off : Nat) (b : List Byte) : ChangesOnly [.hst, .tsk, .drc, .hostMem, .arena] s (deliverRun s o off b) := by
  unfold deliverRun
  try dsimp only
  refine ChangesOnly.ite ?_ ?_
  · refine ChangesOnly.step (arenaWrite_fr _ _ _) (by decide) ?_
    exact ChangesOnly.refl _ _
  · refine ChangesOnly.step (deliver_fr _ _ _ _) (by decide) ?_
    exact ChangesOnly.refl _ _

theorem checkMerge_fr (s : State) (a : Nat) (n : Nat) (check : LineCheck) : ChangesOnly [.flt, .drc, .arena, .free] s (checkMerge s a n check) := by
  unfold checkMerge
  try dsimp only
  refine ChangesOnly.ite ?_ ?_
  · exact ChangesOnly.refl _ _
  · split
    · refine ChangesOnly.step (freeBelow_fr _ _) (by decide) ?_
      exact ChangesOnly.refl _ _
    · refine ChangesOnly.step (dramBad_fr _ _ _) (by decide) ?_
      refine ChangesOnly.step (freeBelow_fr _ _) (by decide) ?_
      exact ChangesOnly.refl _ _
    · refine ChangesOnly.set_arena (by decide) ?_
      refine ChangesOnly.step (dramCorrected_fr _ _ _) (by decide) ?_
      refine ChangesOnly.step (freeBelow_fr _ _) (by decide) ?_
      exact ChangesOnly.refl _ _

theorem sourceBytes_fr (s : State) (i : Machine.Instance) (a : Nat) (b : List Byte) : ChangesOnly [.free] s (sourceBytes s i a b).2 := by
  unfold sourceBytes
  try dsimp only
  refine ChangesOnly.ite2 ?_ ?_
  · refine ChangesOnly.step (sourceNow_fr _ _ _ _) (by decide) ?_
    exact ChangesOnly.refl _ _
  · try dsimp only
    refine ChangesOnly.step (freeBytes_fr _ _) (by decide) ?_
    refine ChangesOnly.step (sourceNow_fr _ _ _ _) (by decide) ?_
    exact ChangesOnly.refl _ _

theorem dmaDone_fr (s : State) (i : Machine.Instance) (check : LineCheck) : ChangesOnly [.flt, .hst, .tsk, .med, .drc, .kite, .sec, .hostMem, .arena, .free] s (dmaDone s i check) := by
  unfold dmaDone
  try dsimp only
  split
  · refine ChangesOnly.ite ?_ ?_
    · exact ChangesOnly.refl _ _
    · refine ChangesOnly.ite ?_ ?_
      · refine ChangesOnly.step (endRun_fr _ _ _) (by decide) ?_
        refine ChangesOnly.step (latchEvent_fr _ _ _ _) (by decide) ?_
        refine ChangesOnly.step (modPorts_fr _ _ _) (by decide) ?_
        refine ChangesOnly.ite ?_ ?_
        · refine ChangesOnly.step (modRun_fr _ _ _) (by decide) ?_
          refine ChangesOnly.step (deliverRun_fr _ _ _ _) (by decide) ?_
          refine ChangesOnly.step (sourceBytes_fr _ _ _ _) (by decide) ?_
          refine ChangesOnly.ite ?_ ?_
          · refine ChangesOnly.step (checkMerge_fr _ _ _ _) (by decide) ?_
            exact ChangesOnly.refl _ _
          · refine ChangesOnly.step (checkRange_fr _ _ _ _ _) (by decide) ?_
            exact ChangesOnly.refl _ _
        · refine ChangesOnly.step (deliverRun_fr _ _ _ _) (by decide) ?_
          refine ChangesOnly.step (sourceBytes_fr _ _ _ _) (by decide) ?_
          refine ChangesOnly.ite ?_ ?_
          · refine ChangesOnly.step (checkMerge_fr _ _ _ _) (by decide) ?_
            exact ChangesOnly.refl _ _
          · refine ChangesOnly.step (checkRange_fr _ _ _ _ _) (by decide) ?_
            exact ChangesOnly.refl _ _
      · refine ChangesOnly.step (latchEvent_fr _ _ _ _) (by decide) ?_
        refine ChangesOnly.step (modPorts_fr _ _ _) (by decide) ?_
        refine ChangesOnly.ite ?_ ?_
        · refine ChangesOnly.step (modRun_fr _ _ _) (by decide) ?_
          refine ChangesOnly.step (deliverRun_fr _ _ _ _) (by decide) ?_
          refine ChangesOnly.step (sourceBytes_fr _ _ _ _) (by decide) ?_
          refine ChangesOnly.ite ?_ ?_
          · refine ChangesOnly.step (checkMerge_fr _ _ _ _) (by decide) ?_
            exact ChangesOnly.refl _ _
          · refine ChangesOnly.step (checkRange_fr _ _ _ _ _) (by decide) ?_
            exact ChangesOnly.refl _ _
        · refine ChangesOnly.step (deliverRun_fr _ _ _ _) (by decide) ?_
          refine ChangesOnly.step (sourceBytes_fr _ _ _ _) (by decide) ?_
          refine ChangesOnly.ite ?_ ?_
          · refine ChangesOnly.step (checkMerge_fr _ _ _ _) (by decide) ?_
            exact ChangesOnly.refl _ _
          · refine ChangesOnly.step (checkRange_fr _ _ _ _ _) (by decide) ?_
            exact ChangesOnly.refl _ _
  · refine ChangesOnly.step (latchEvent_fr _ _ _ _) (by decide) ?_
    refine ChangesOnly.step (modPorts_fr _ _ _) (by decide) ?_
    exact ChangesOnly.refl _ _

theorem execEngineRequestDone_fr (run : Nat) (num : Nat) (engine : EngineId) (check : LineCheck) (checker : Checker) (s : State) : OutFrame [.flt, .hst, .tsk, .med, .drc, .kite, .way, .cmp, .sec, .hostMem, .arena, .free] s (execEngineRequestDone run num engine check checker s) := by
  unfold execEngineRequestDone
  try dsimp only
  split
  · refine OutFrame.next ?_
    exact ChangesOnly.refl _ _
  · split
    · split
      · refine OutFrame.ite ?_ ?_
        · refine OutFrame.ite ?_ ?_
          · refine OutFrame.next ?_
            exact ChangesOnly.refl _ _
          · refine OutFrame.next ?_
            refine ChangesOnly.step (serveSearch_fr _ _) (by decide) ?_
            exact ChangesOnly.refl _ _
        · refine OutFrame.next ?_
          exact ChangesOnly.refl _ _
      · refine OutFrame.next ?_
        exact ChangesOnly.refl _ _
    · refine OutFrame.ite ?_ ?_
      · refine OutFrame.next ?_
        refine ChangesOnly.step (digestDone_fr _ _ _) (by decide) ?_
        exact ChangesOnly.refl _ _
      · refine OutFrame.next ?_
        exact ChangesOnly.refl _ _
    · refine OutFrame.ite ?_ ?_
      · refine OutFrame.next ?_
        refine ChangesOnly.step (compressDone_fr _ _ _ _) (by decide) ?_
        exact ChangesOnly.refl _ _
      · refine OutFrame.next ?_
        exact ChangesOnly.refl _ _
    · refine OutFrame.ite ?_ ?_
      · refine OutFrame.next ?_
        refine ChangesOnly.step (dmaDone_fr _ _ _) (by decide) ?_
        exact ChangesOnly.refl _ _
      · refine OutFrame.next ?_
        exact ChangesOnly.refl _ _


end Sys2Proof.Machine
end

