-- ==== Sys2Proof/Laws/FrameHealth.lean ====
section
/-! SUPPORT. Frames of the health, fault and dump commands. -/

namespace Sys2Proof.Machine
open Sys2Proof

/-! ### Health -/

theorem execHealthQuery_fr (tag : Nat) (s : State) : OutFrame [.hst, .tsk, .hostMem] s (execHealthQuery tag s) := by
  unfold execHealthQuery
  try dsimp only
  split
  · refine OutFrame.next ?_
    exact ChangesOnly.refl _ _
  · refine OutFrame.ite ?_ ?_
    · refine OutFrame.next ?_
      exact ChangesOnly.refl _ _
    · refine OutFrame.next ?_
      refine ChangesOnly.step (finish_fr _ _ _) (by decide) ?_
      refine ChangesOnly.step (deliver_fr _ _ _ _) (by decide) ?_
      exact ChangesOnly.refl _ _

theorem setRail_fr (s : State) : ChangesOnly [.hlt] s (setRail s) := by
  unfold setRail
  try dsimp only
  refine ChangesOnly.ite ?_ ?_
  · exact ChangesOnly.refl _ _
  · refine ChangesOnly.step (upHlt_fr _ _) (by decide) ?_
    exact ChangesOnly.refl _ _

theorem override_fr (s : State) (i : Nat) : ChangesOnly [.flt, .hlt] s (override s i) := by
  unfold override
  try dsimp only
  refine ChangesOnly.step (raise_fr _ _) (by decide) ?_
  refine ChangesOnly.step (upHlt_fr _ _) (by decide) ?_
  exact ChangesOnly.refl _ _

theorem execLoopAction_fr (island : Nat) (slack : Nat) (s : State) : OutFrame [.flt, .hlt] s (execLoopAction island slack s) := by
  unfold execLoopAction
  try dsimp only
  refine OutFrame.ite ?_ ?_
  · refine OutFrame.next ?_
    exact ChangesOnly.refl _ _
  · split
    · refine OutFrame.next ?_
      refine ChangesOnly.step (modIsland_fr _ _ _) (by decide) ?_
      exact ChangesOnly.refl _ _
    · refine OutFrame.next ?_
      refine ChangesOnly.ite ?_ ?_
      · refine ChangesOnly.step (override_fr _ _) (by decide) ?_
        refine ChangesOnly.step (setRail_fr _) (by decide) ?_
        refine ChangesOnly.step (modIsland_fr _ _ _) (by decide) ?_
        refine ChangesOnly.step (modIsland_fr _ _ _) (by decide) ?_
        exact ChangesOnly.refl _ _
      · refine ChangesOnly.step (setRail_fr _) (by decide) ?_
        refine ChangesOnly.step (modIsland_fr _ _ _) (by decide) ?_
        refine ChangesOnly.step (modIsland_fr _ _ _) (by decide) ?_
        exact ChangesOnly.refl _ _

theorem execLoopUndo_fr (island : Nat) (slack : Nat) (s : State) : OutFrame [.hlt] s (execLoopUndo island slack s) := by
  unfold execLoopUndo
  try dsimp only
  refine OutFrame.ite ?_ ?_
  · refine OutFrame.next ?_
    exact ChangesOnly.refl _ _
  · refine OutFrame.next ?_
    refine ChangesOnly.step (setRail_fr _) (by decide) ?_
    refine ChangesOnly.step (modIsland_fr _ _ _) (by decide) ?_
    exact ChangesOnly.refl _ _

theorem execDegradationMeasure_fr (island : Nat) (degradation : Nat) (s : State) : OutFrame [.hlt] s (execDegradationMeasure island degradation s) := by
  unfold execDegradationMeasure
  try dsimp only
  refine OutFrame.ite ?_ ?_
  · refine OutFrame.next ?_
    exact ChangesOnly.refl _ _
  · refine OutFrame.next ?_
    refine ChangesOnly.step (modIsland_fr _ _ _) (by decide) ?_
    exact ChangesOnly.refl _ _

theorem execThermalThrottle_fr (readings : List Int) (s : State) : OutFrame [.flt, .glb, .hlt] s (execThermalThrottle readings s) := by
  unfold execThermalThrottle
  try dsimp only
  refine OutFrame.ite ?_ ?_
  · refine OutFrame.next ?_
    exact ChangesOnly.refl _ _
  · refine OutFrame.next ?_
    refine ChangesOnly.ite ?_ ?_
    · refine ChangesOnly.step (raise_fr _ _) (by decide) ?_
      refine ChangesOnly.ite ?_ ?_
      · refine ChangesOnly.step (raise_fr _ _) (by decide) ?_
        refine ChangesOnly.step (thermalMove_fr _) (by decide) ?_
        refine ChangesOnly.step (upHlt_fr _ _) (by decide) ?_
        refine ChangesOnly.step (upGlb_fr _ _) (by decide) ?_
        refine ChangesOnly.step (upHlt_fr _ _) (by decide) ?_
        exact ChangesOnly.refl _ _
      · refine ChangesOnly.step (thermalStep_fr _) (by decide) ?_
        refine ChangesOnly.step (upHlt_fr _ _) (by decide) ?_
        refine ChangesOnly.step (upGlb_fr _ _) (by decide) ?_
        refine ChangesOnly.step (upHlt_fr _ _) (by decide) ?_
        exact ChangesOnly.refl _ _
    · refine ChangesOnly.ite ?_ ?_
      · refine ChangesOnly.step (raise_fr _ _) (by decide) ?_
        refine ChangesOnly.step (thermalMove_fr _) (by decide) ?_
        refine ChangesOnly.step (upHlt_fr _ _) (by decide) ?_
        refine ChangesOnly.step (upGlb_fr _ _) (by decide) ?_
        refine ChangesOnly.step (upHlt_fr _ _) (by decide) ?_
        exact ChangesOnly.refl _ _
      · refine ChangesOnly.step (thermalStep_fr _) (by decide) ?_
        refine ChangesOnly.step (upHlt_fr _ _) (by decide) ?_
        refine ChangesOnly.step (upGlb_fr _ _) (by decide) ?_
        refine ChangesOnly.step (upHlt_fr _ _) (by decide) ?_
        exact ChangesOnly.refl _ _

theorem execAvsWriteFail_fr (s : State) : OutFrame [.flt, .hlt] s (execAvsWriteFail s) := by
  unfold execAvsWriteFail
  try dsimp only
  refine OutFrame.next ?_
  refine ChangesOnly.ite ?_ ?_
  · refine ChangesOnly.step (raise_fr _ _) (by decide) ?_
    refine ChangesOnly.step (upHlt_fr _ _) (by decide) ?_
    exact ChangesOnly.refl _ _
  · refine ChangesOnly.step (upHlt_fr _ _) (by decide) ?_
    exact ChangesOnly.refl _ _

theorem wakeFor_fr (s : State) (i : Nat) : ChangesOnly [.pwr] s (wakeFor s i) := by
  unfold wakeFor
  try dsimp only
  refine ChangesOnly.step (upPwr_fr _ _) (by decide) ?_
  exact ChangesOnly.refl _ _

theorem backToGlide_fr (s : State) (i : Nat) : ChangesOnly [.pwr] s (backToGlide s i) := by
  unfold backToGlide
  try dsimp only
  refine ChangesOnly.ite ?_ ?_
  · refine ChangesOnly.step (upPwr_fr _ _) (by decide) ?_
    exact ChangesOnly.refl _ _
  · exact ChangesOnly.refl _ _

theorem endSlice_fr (s : State) (i : Nat) : ChangesOnly [.pwr, .kite, .hlt] s (endSlice s i) := by
  unfold endSlice
  try dsimp only
  split
  · refine ChangesOnly.step (backToGlide_fr _ _) (by decide) ?_
    refine ChangesOnly.step (upHlt_fr _ _) (by decide) ?_
    exact ChangesOnly.refl _ _
  · refine ChangesOnly.step (settleRing_fr _ _) (by decide) ?_
    refine ChangesOnly.foldl (fun _ _ => ?_) ?_
    · refine ChangesOnly.step (modCore_fr _ _ _) (by decide) ?_
      exact ChangesOnly.refl _ _
    · refine ChangesOnly.step (modCluster_fr _ _ _) (by decide) ?_
      refine ChangesOnly.step (backToGlide_fr _ _) (by decide) ?_
      refine ChangesOnly.step (upHlt_fr _ _) (by decide) ?_
      exact ChangesOnly.refl _ _

theorem startPlan_fr (s : State) : ChangesOnly [.hlt] s (startPlan s) := by
  unfold startPlan
  try dsimp only
  refine ChangesOnly.step (upHlt_fr _ _) (by decide) ?_
  exact ChangesOnly.refl _ _

theorem applyIsland_fr (s : State) (bands : Nat × Nat × Nat × Nat) (p : Machine.PlanIsland) : ChangesOnly [.flt, .hlt] s (applyIsland s bands p) := by
  unfold applyIsland
  try dsimp only
  refine ChangesOnly.ite ?_ ?_
  · refine ChangesOnly.step (override_fr _ _) (by decide) ?_
    refine ChangesOnly.step (modIsland_fr _ _ _) (by decide) ?_
    exact ChangesOnly.refl _ _
  · refine ChangesOnly.step (modIsland_fr _ _ _) (by decide) ?_
    exact ChangesOnly.refl _ _

theorem applyBand_fr (s : State) (p : Machine.PlanBand) : ChangesOnly [.hlt] s (applyBand s p) := by
  unfold applyBand
  try dsimp only
  split
  · exact ChangesOnly.refl _ _
  · refine ChangesOnly.ite ?_ ?_
    · exact ChangesOnly.refl _ _
    · refine ChangesOnly.step (upHlt_fr _ _) (by decide) ?_
      exact ChangesOnly.refl _ _

theorem finishPlan_fr (s : State) (part : Bool) : ChangesOnly [.flt, .tsk, .hlt] s (finishPlan s part) := by
  unfold finishPlan
  try dsimp only
  split
  · exact ChangesOnly.refl _ _
  · refine ChangesOnly.foldl (fun _ _ => ?_) ?_
    · refine ChangesOnly.step (finish_fr _ _ _) (by decide) ?_
      exact ChangesOnly.refl _ _
    · refine ChangesOnly.step (upHlt_fr _ _) (by decide) ?_
      refine ChangesOnly.step (upHlt_fr _ _) (by decide) ?_
      refine ChangesOnly.step (setRail_fr _) (by decide) ?_
      refine ChangesOnly.foldl (fun _ _ => ?_) ?_
      · refine ChangesOnly.step (applyBand_fr _ _) (by decide) ?_
        exact ChangesOnly.refl _ _
      · refine ChangesOnly.foldl (fun _ _ => ?_) ?_
        · refine ChangesOnly.step (applyIsland_fr _ _ _) (by decide) ?_
          exact ChangesOnly.refl _ _
        · exact ChangesOnly.refl _ _

theorem startMeasure_fr (s : State) (i : Nat) : ChangesOnly [.pwr, .kite, .hlt] s (startMeasure s i) := by
  unfold startMeasure
  try dsimp only
  split
  · refine ChangesOnly.step (modCluster_fr _ _ _) (by decide) ?_
    refine ChangesOnly.step (wakeFor_fr _ _) (by decide) ?_
    refine ChangesOnly.step (upHlt_fr _ _) (by decide) ?_
    exact ChangesOnly.refl _ _
  · refine ChangesOnly.step (wakeFor_fr _ _) (by decide) ?_
    refine ChangesOnly.step (upHlt_fr _ _) (by decide) ?_
    exact ChangesOnly.refl _ _

theorem endMeasure_fr (s : State) (i : Nat) (found : Machine.PlanFound) : ChangesOnly [.pwr, .flt, .tsk, .kite, .hlt] s (endMeasure s i found) := by
  unfold endMeasure
  try dsimp only
  refine ChangesOnly.ite ?_ ?_
  · refine ChangesOnly.step (finishPlan_fr _ _) (by decide) ?_
    refine ChangesOnly.step (upHlt_fr _ _) (by decide) ?_
    refine ChangesOnly.step (endSlice_fr _ _) (by decide) ?_
    refine ChangesOnly.step (upHlt_fr _ _) (by decide) ?_
    exact ChangesOnly.refl _ _
  · refine ChangesOnly.step (upHlt_fr _ _) (by decide) ?_
    refine ChangesOnly.step (endSlice_fr _ _) (by decide) ?_
    refine ChangesOnly.step (upHlt_fr _ _) (by decide) ?_
    exact ChangesOnly.refl _ _

theorem execPlannerRun_fr (island : Nat) (found : Machine.PlanFound) (s : State) : OutFrame [.pwr, .flt, .tsk, .kite, .hlt] s (execPlannerRun island found s) := by
  unfold execPlannerRun
  try dsimp only
  refine OutFrame.ite ?_ ?_
  · refine OutFrame.next ?_
    exact ChangesOnly.refl _ _
  · refine OutFrame.ite ?_ ?_
    · refine OutFrame.ite ?_ ?_
      · refine OutFrame.next ?_
        refine ChangesOnly.step (endMeasure_fr _ _ _) (by decide) ?_
        refine ChangesOnly.ite ?_ ?_
        · exact ChangesOnly.refl _ _
        · refine ChangesOnly.step (startPlan_fr _) (by decide) ?_
          exact ChangesOnly.refl _ _
      · refine OutFrame.next ?_
        refine ChangesOnly.ite ?_ ?_
        · exact ChangesOnly.refl _ _
        · refine ChangesOnly.step (startPlan_fr _) (by decide) ?_
          exact ChangesOnly.refl _ _
    · refine OutFrame.ite ?_ ?_
      · refine OutFrame.next ?_
        refine ChangesOnly.step (startMeasure_fr _ _) (by decide) ?_
        refine ChangesOnly.ite ?_ ?_
        · exact ChangesOnly.refl _ _
        · refine ChangesOnly.step (startPlan_fr _) (by decide) ?_
          exact ChangesOnly.refl _ _
      · refine OutFrame.next ?_
        refine ChangesOnly.ite ?_ ?_
        · exact ChangesOnly.refl _ _
        · refine ChangesOnly.step (startPlan_fr _) (by decide) ?_
          exact ChangesOnly.refl _ _

theorem dropMeasure_fr (s : State) : ChangesOnly [.pwr, .kite, .hlt] s (dropMeasure s) := by
  unfold dropMeasure
  try dsimp only
  split
  · refine ChangesOnly.ite ?_ ?_
    · refine ChangesOnly.step (endSlice_fr _ _) (by decide) ?_
      exact ChangesOnly.refl _ _
    · exact ChangesOnly.refl _ _
  · exact ChangesOnly.refl _ _

theorem execPlanTimeout_fr (s : State) : OutFrame [.pwr, .flt, .tsk, .kite, .hlt] s (execPlanTimeout s) := by
  unfold execPlanTimeout
  try dsimp only
  refine OutFrame.ite ?_ ?_
  · refine OutFrame.next ?_
    refine ChangesOnly.step (finishPlan_fr _ _) (by decide) ?_
    refine ChangesOnly.step (dropMeasure_fr _) (by decide) ?_
    exact ChangesOnly.refl _ _
  · refine OutFrame.next ?_
    exact ChangesOnly.refl _ _

theorem execMarginPlan_fr (tag : Nat) (s : State) : OutFrame [.tsk, .hlt] s (execMarginPlan tag s) := by
  unfold execMarginPlan
  try dsimp only
  split
  · refine OutFrame.next ?_
    exact ChangesOnly.refl _ _
  · refine OutFrame.ite ?_ ?_
    · refine OutFrame.next ?_
      exact ChangesOnly.refl _ _
    · refine OutFrame.ite ?_ ?_
      · refine OutFrame.next ?_
        refine ChangesOnly.step (finish_fr _ _ _) (by decide) ?_
        exact ChangesOnly.refl _ _
      · refine OutFrame.next ?_
        refine ChangesOnly.step (running_fr _ _) (by decide) ?_
        refine ChangesOnly.step (upHlt_fr _ _) (by decide) ?_
        refine ChangesOnly.ite ?_ ?_
        · exact ChangesOnly.refl _ _
        · refine ChangesOnly.step (startPlan_fr _) (by decide) ?_
          exact ChangesOnly.refl _ _

theorem newSet_fr (s : State) (i : Nat) : ChangesOnly [.hlt, .free] s (newSet s i) := by
  unfold newSet
  try dsimp only
  refine ChangesOnly.step (modIsland_fr _ _ _) (by decide) ?_
  refine ChangesOnly.step (freeBelow_fr _ _) (by decide) ?_
  exact ChangesOnly.refl _ _

theorem needSet_fr (s : State) (i : Nat) : ChangesOnly [.hlt, .free] s (needSet s i) := by
  unfold needSet
  try dsimp only
  refine ChangesOnly.ite ?_ ?_
  · refine ChangesOnly.step (newSet_fr _ _) (by decide) ?_
    exact ChangesOnly.refl _ _
  · exact ChangesOnly.refl _ _

theorem testCluster_fr (s : State) (i : Nat) : ChangesOnly [.kite, .free] s (testCluster s i) := by
  unfold testCluster
  try dsimp only
  split
  · exact ChangesOnly.refl _ _
  · refine ChangesOnly.ite ?_ ?_
    · refine ChangesOnly.step (modCore_fr _ _ _) (by decide) ?_
      refine ChangesOnly.step (freeBelow_fr _ _) (by decide) ?_
      refine ChangesOnly.step (modCluster_fr _ _ _) (by decide) ?_
      exact ChangesOnly.refl _ _
    · refine ChangesOnly.step (freeBelow_fr _ _) (by decide) ?_
      refine ChangesOnly.step (modCluster_fr _ _ _) (by decide) ?_
      exact ChangesOnly.refl _ _

theorem execTestSliceStart_fr (island : Nat) (s : State) : OutFrame [.pwr, .kite, .hlt, .free] s (execTestSliceStart island s) := by
  unfold execTestSliceStart
  try dsimp only
  refine OutFrame.ite ?_ ?_
  · refine OutFrame.next ?_
    exact ChangesOnly.refl _ _
  · refine OutFrame.next ?_
    refine ChangesOnly.step (testCluster_fr _ _) (by decide) ?_
    refine ChangesOnly.step (needSet_fr _ _) (by decide) ?_
    refine ChangesOnly.step (wakeFor_fr _ _) (by decide) ?_
    refine ChangesOnly.step (upHlt_fr _ _) (by decide) ?_
    exact ChangesOnly.refl _ _

theorem execTestSliceAbort_fr (island : Nat) (s : State) : OutFrame [.pwr, .kite, .hlt] s (execTestSliceAbort island s) := by
  unfold execTestSliceAbort
  try dsimp only
  refine OutFrame.ite ?_ ?_
  · refine OutFrame.next ?_
    refine ChangesOnly.step (endSlice_fr _ _) (by decide) ?_
    refine ChangesOnly.step (upHlt_fr _ _) (by decide) ?_
    exact ChangesOnly.refl _ _
  · refine OutFrame.next ?_
    exact ChangesOnly.refl _ _

theorem testFails_fr (s : State) (i : Nat) (crypto : Bool) : ChangesOnly [.flt, .glb, .tsk, .kite, .sec, .hlt, .free] s (testFails s i crypto) := by
  unfold testFails
  try dsimp only
  refine ChangesOnly.ite ?_ ?_
  · refine ChangesOnly.step (enterError_fr _) (by decide) ?_
    refine ChangesOnly.step (raise_fr _ _) (by decide) ?_
    refine ChangesOnly.step (modIsland_fr _ _ _) (by decide) ?_
    refine ChangesOnly.step (newSet_fr _ _) (by decide) ?_
    exact ChangesOnly.refl _ _
  · refine ChangesOnly.step (raise_fr _ _) (by decide) ?_
    refine ChangesOnly.step (modIsland_fr _ _ _) (by decide) ?_
    refine ChangesOnly.step (newSet_fr _ _) (by decide) ?_
    exact ChangesOnly.refl _ _

theorem execTestSliceDone_fr (island : Nat) (ok : Bool) (crypto : Bool) (s : State) : OutFrame [.pwr, .flt, .glb, .tsk, .kite, .sec, .hlt, .free] s (execTestSliceDone island ok crypto s) := by
  unfold execTestSliceDone
  try dsimp only
  refine OutFrame.ite ?_ ?_
  · refine OutFrame.next ?_
    exact ChangesOnly.refl _ _
  · refine OutFrame.ite ?_ ?_
    · refine OutFrame.next ?_
      refine ChangesOnly.step (testFails_fr _ _ _) (by decide) ?_
      refine ChangesOnly.step (endSlice_fr _ _) (by decide) ?_
      refine ChangesOnly.step (upHlt_fr _ _) (by decide) ?_
      exact ChangesOnly.refl _ _
    · refine OutFrame.next ?_
      refine ChangesOnly.step (modIsland_fr _ _ _) (by decide) ?_
      refine ChangesOnly.step (endSlice_fr _ _) (by decide) ?_
      refine ChangesOnly.step (upHlt_fr _ _) (by decide) ?_
      exact ChangesOnly.refl _ _

theorem execForcedWindowAnnounce_fr (island : Nat) (s : State) : OutFrame [.hlt] s (execForcedWindowAnnounce island s) := by
  unfold execForcedWindowAnnounce
  try dsimp only
  refine OutFrame.ite ?_ ?_
  · refine OutFrame.next ?_
    exact ChangesOnly.refl _ _
  · refine OutFrame.next ?_
    refine ChangesOnly.step (upHlt_fr _ _) (by decide) ?_
    exact ChangesOnly.refl _ _

theorem execForcedWindow_fr (island : Nat) (ok : Bool) (crypto : Bool) (s : State) : OutFrame [.flt, .glb, .tsk, .kite, .sec, .hlt, .free] s (execForcedWindow island ok crypto s) := by
  unfold execForcedWindow
  try dsimp only
  refine OutFrame.ite ?_ ?_
  · refine OutFrame.next ?_
    exact ChangesOnly.refl _ _
  · split
    · refine OutFrame.ite ?_ ?_
      · refine OutFrame.next ?_
        refine ChangesOnly.step (finish_fr _ _ _) (by decide) ?_
        refine ChangesOnly.step (upHlt_fr _ _) (by decide) ?_
        refine ChangesOnly.ite ?_ ?_
        · refine ChangesOnly.step (upHlt_fr _ _) (by decide) ?_
          refine ChangesOnly.ite ?_ ?_
          · refine ChangesOnly.step (modIsland_fr _ _ _) (by decide) ?_
            refine ChangesOnly.step (upHlt_fr _ _) (by decide) ?_
            refine ChangesOnly.ite ?_ ?_
            · refine ChangesOnly.step (newSet_fr _ _) (by decide) ?_
              exact ChangesOnly.refl _ _
            · refine ChangesOnly.step (needSet_fr _ _) (by decide) ?_
              exact ChangesOnly.refl _ _
          · refine ChangesOnly.step (testFails_fr _ _ _) (by decide) ?_
            refine ChangesOnly.step (upHlt_fr _ _) (by decide) ?_
            refine ChangesOnly.ite ?_ ?_
            · refine ChangesOnly.step (newSet_fr _ _) (by decide) ?_
              exact ChangesOnly.refl _ _
            · refine ChangesOnly.step (needSet_fr _ _) (by decide) ?_
              exact ChangesOnly.refl _ _
        · refine ChangesOnly.ite ?_ ?_
          · refine ChangesOnly.step (modIsland_fr _ _ _) (by decide) ?_
            refine ChangesOnly.step (upHlt_fr _ _) (by decide) ?_
            refine ChangesOnly.ite ?_ ?_
            · refine ChangesOnly.step (newSet_fr _ _) (by decide) ?_
              exact ChangesOnly.refl _ _
            · refine ChangesOnly.step (needSet_fr _ _) (by decide) ?_
              exact ChangesOnly.refl _ _
          · refine ChangesOnly.step (testFails_fr _ _ _) (by decide) ?_
            refine ChangesOnly.step (upHlt_fr _ _) (by decide) ?_
            refine ChangesOnly.ite ?_ ?_
            · refine ChangesOnly.step (newSet_fr _ _) (by decide) ?_
              exact ChangesOnly.refl _ _
            · refine ChangesOnly.step (needSet_fr _ _) (by decide) ?_
              exact ChangesOnly.refl _ _
      · refine OutFrame.next ?_
        refine ChangesOnly.ite ?_ ?_
        · refine ChangesOnly.step (upHlt_fr _ _) (by decide) ?_
          refine ChangesOnly.ite ?_ ?_
          · refine ChangesOnly.step (modIsland_fr _ _ _) (by decide) ?_
            refine ChangesOnly.step (upHlt_fr _ _) (by decide) ?_
            refine ChangesOnly.ite ?_ ?_
            · refine ChangesOnly.step (newSet_fr _ _) (by decide) ?_
              exact ChangesOnly.refl _ _
            · refine ChangesOnly.step (needSet_fr _ _) (by decide) ?_
              exact ChangesOnly.refl _ _
          · refine ChangesOnly.step (testFails_fr _ _ _) (by decide) ?_
            refine ChangesOnly.step (upHlt_fr _ _) (by decide) ?_
            refine ChangesOnly.ite ?_ ?_
            · refine ChangesOnly.step (newSet_fr _ _) (by decide) ?_
              exact ChangesOnly.refl _ _
            · refine ChangesOnly.step (needSet_fr _ _) (by decide) ?_
              exact ChangesOnly.refl _ _
        · refine ChangesOnly.ite ?_ ?_
          · refine ChangesOnly.step (modIsland_fr _ _ _) (by decide) ?_
            refine ChangesOnly.step (upHlt_fr _ _) (by decide) ?_
            refine ChangesOnly.ite ?_ ?_
            · refine ChangesOnly.step (newSet_fr _ _) (by decide) ?_
              exact ChangesOnly.refl _ _
            · refine ChangesOnly.step (needSet_fr _ _) (by decide) ?_
              exact ChangesOnly.refl _ _
          · refine ChangesOnly.step (testFails_fr _ _ _) (by decide) ?_
            refine ChangesOnly.step (upHlt_fr _ _) (by decide) ?_
            refine ChangesOnly.ite ?_ ?_
            · refine ChangesOnly.step (newSet_fr _ _) (by decide) ?_
              exact ChangesOnly.refl _ _
            · refine ChangesOnly.step (needSet_fr _ _) (by decide) ?_
              exact ChangesOnly.refl _ _
    · refine OutFrame.next ?_
      refine ChangesOnly.ite ?_ ?_
      · refine ChangesOnly.step (upHlt_fr _ _) (by decide) ?_
        refine ChangesOnly.ite ?_ ?_
        · refine ChangesOnly.step (modIsland_fr _ _ _) (by decide) ?_
          refine ChangesOnly.step (upHlt_fr _ _) (by decide) ?_
          refine ChangesOnly.ite ?_ ?_
          · refine ChangesOnly.step (newSet_fr _ _) (by decide) ?_
            exact ChangesOnly.refl _ _
          · refine ChangesOnly.step (needSet_fr _ _) (by decide) ?_
            exact ChangesOnly.refl _ _
        · refine ChangesOnly.step (testFails_fr _ _ _) (by decide) ?_
          refine ChangesOnly.step (upHlt_fr _ _) (by decide) ?_
          refine ChangesOnly.ite ?_ ?_
          · refine ChangesOnly.step (newSet_fr _ _) (by decide) ?_
            exact ChangesOnly.refl _ _
          · refine ChangesOnly.step (needSet_fr _ _) (by decide) ?_
            exact ChangesOnly.refl _ _
      · refine ChangesOnly.ite ?_ ?_
        · refine ChangesOnly.step (modIsland_fr _ _ _) (by decide) ?_
          refine ChangesOnly.step (upHlt_fr _ _) (by decide) ?_
          refine ChangesOnly.ite ?_ ?_
          · refine ChangesOnly.step (newSet_fr _ _) (by decide) ?_
            exact ChangesOnly.refl _ _
          · refine ChangesOnly.step (needSet_fr _ _) (by decide) ?_
            exact ChangesOnly.refl _ _
        · refine ChangesOnly.step (testFails_fr _ _ _) (by decide) ?_
          refine ChangesOnly.step (upHlt_fr _ _) (by decide) ?_
          refine ChangesOnly.ite ?_ ?_
          · refine ChangesOnly.step (newSet_fr _ _) (by decide) ?_
            exact ChangesOnly.refl _ _
          · refine ChangesOnly.step (needSet_fr _ _) (by decide) ?_
            exact ChangesOnly.refl _ _

theorem execTestControl_fr (tag : Nat) (s : State) : OutFrame [.tsk, .hlt] s (execTestControl tag s) := by
  unfold execTestControl
  try dsimp only
  split
  · refine OutFrame.next ?_
    exact ChangesOnly.refl _ _
  · refine OutFrame.ite ?_ ?_
    · refine OutFrame.next ?_
      exact ChangesOnly.refl _ _
    · refine OutFrame.ite ?_ ?_
      · refine OutFrame.next ?_
        refine ChangesOnly.step (finish_fr _ _ _) (by decide) ?_
        refine ChangesOnly.step (upHlt_fr _ _) (by decide) ?_
        exact ChangesOnly.refl _ _
      · refine OutFrame.ite ?_ ?_
        · refine OutFrame.next ?_
          refine ChangesOnly.step (finish_fr _ _ _) (by decide) ?_
          refine ChangesOnly.step (upHlt_fr _ _) (by decide) ?_
          exact ChangesOnly.refl _ _
        · refine OutFrame.ite ?_ ?_
          · refine OutFrame.next ?_
            exact ChangesOnly.refl _ _
          · refine OutFrame.next ?_
            refine ChangesOnly.step (running_fr _ _) (by decide) ?_
            refine ChangesOnly.step (upHlt_fr _ _) (by decide) ?_
            exact ChangesOnly.refl _ _


/-! ### Faults -/

theorem containKite_fr (s : State) (n : Nat) : ChangesOnly [.med, .kite, .sec] s (containKite s n) := by
  unfold containKite
  try dsimp only
  refine ChangesOnly.step (settleRing_fr _ _) (by decide) ?_
  refine ChangesOnly.step (modCluster_fr _ _ _) (by decide) ?_
  refine ChangesOnly.foldl (fun _ _ => ?_) ?_
  · refine ChangesOnly.step (modCore_fr _ _ _) (by decide) ?_
    exact ChangesOnly.refl _ _
  · refine ChangesOnly.foldl (fun _ _ => ?_) ?_
    · refine ChangesOnly.step (endRun_fr _ _ _) (by decide) ?_
      exact ChangesOnly.refl _ _
    · exact ChangesOnly.refl _ _

theorem containWork_fr (s : State) (i : Nat) : ChangesOnly [.flt, .tsk, .med, .kite, .sec, .pair, .mesh, .free] s (containWork s i) := by
  unfold containWork
  try dsimp only
  refine ChangesOnly.ite ?_ ?_
  · refine ChangesOnly.ite ?_ ?_
    · refine ChangesOnly.step (tetherReset_fr _) (by decide) ?_
      exact ChangesOnly.refl _ _
    · exact ChangesOnly.refl _ _
  · refine ChangesOnly.ite ?_ ?_
    · refine ChangesOnly.ite ?_ ?_
      · refine ChangesOnly.step (modPort_fr _ _ _) (by decide) ?_
        refine ChangesOnly.step (trailReset_fr _ _) (by decide) ?_
        exact ChangesOnly.refl _ _
      · exact ChangesOnly.refl _ _
    · refine ChangesOnly.ite ?_ ?_
      · refine ChangesOnly.step (zeroise_fr _ _) (by decide) ?_
        exact ChangesOnly.refl _ _
      · refine ChangesOnly.ite ?_ ?_
        · refine ChangesOnly.step (containKite_fr _ _) (by decide) ?_
          exact ChangesOnly.refl _ _
        · exact ChangesOnly.refl _ _

theorem contain_fr (s : State) (i : Nat) : ChangesOnly [.pwr, .flt, .tsk, .med, .kite, .sec, .hlt, .pair, .mesh, .free] s (contain s i) := by
  unfold contain
  try dsimp only
  refine ChangesOnly.ite ?_ ?_
  · exact ChangesOnly.refl _ _
  · refine ChangesOnly.step (containWork_fr _ _) (by decide) ?_
    refine ChangesOnly.step (upFlt_fr _ _) (by decide) ?_
    refine ChangesOnly.step (upPwr_fr _ _) (by decide) ?_
    refine ChangesOnly.ite ?_ ?_
    · refine ChangesOnly.step (endSlice_fr _ _) (by decide) ?_
      exact ChangesOnly.refl _ _
    · exact ChangesOnly.refl _ _

theorem execContainReady_fr (island : Nat) (s : State) : OutFrame [.flt, .hst, .sec, .mesh] s (execContainReady island s) := by
  unfold execContainReady
  try dsimp only
  refine OutFrame.ite ?_ ?_
  · refine OutFrame.next ?_
    exact ChangesOnly.refl _ _
  · refine OutFrame.ite ?_ ?_
    · refine OutFrame.next ?_
      refine ChangesOnly.step (msixFlush_fr _) (by decide) ?_
      refine ChangesOnly.step (upFlt_fr _ _) (by decide) ?_
      exact ChangesOnly.refl _ _
    · refine OutFrame.ite ?_ ?_
      · refine OutFrame.ite ?_ ?_
        · refine OutFrame.next ?_
          refine ChangesOnly.step (pumpPort_fr _ _) (by decide) ?_
          refine ChangesOnly.step (modPort_fr _ _ _) (by decide) ?_
          refine ChangesOnly.step (upFlt_fr _ _) (by decide) ?_
          exact ChangesOnly.refl _ _
        · refine OutFrame.next ?_
          refine ChangesOnly.step (upFlt_fr _ _) (by decide) ?_
          exact ChangesOnly.refl _ _
      · refine OutFrame.next ?_
        refine ChangesOnly.step (upFlt_fr _ _) (by decide) ?_
        exact ChangesOnly.refl _ _

theorem execShadowWindowEnd_fr (island : Nat) (s : State) : OutFrame [.flt] s (execShadowWindowEnd island s) := by
  unfold execShadowWindowEnd
  try dsimp only
  refine OutFrame.next ?_
  refine ChangesOnly.step (upFlt_fr _ _) (by decide) ?_
  exact ChangesOnly.refl _ _

theorem failOver_fr (s : State) (r : Machine.FaultRecord) : ChangesOnly [.pwr, .flt, .glb, .hst, .tsk, .med, .drc, .kite, .way, .cmp, .sec, .hlt, .pair, .mesh, .hostMem, .arena, .free] s (failOver s r) := by
  unfold failOver
  try dsimp only
  refine ChangesOnly.ite ?_ ?_
  · refine ChangesOnly.step (deviceReset_fr _ _) (by decide) ?_
    refine ChangesOnly.step (upFlt_fr _ _) (by decide) ?_
    refine ChangesOnly.step (shadowQueue_fr _) (by decide) ?_
    refine ChangesOnly.step (dropCommands_fr _) (by decide) ?_
    refine ChangesOnly.ite ?_ ?_
    · refine ChangesOnly.step (sendT_fr _ _) (by decide) ?_
      exact ChangesOnly.refl _ _
    · exact ChangesOnly.refl _ _
  · refine ChangesOnly.step (startDump_fr _ _) (by decide) ?_
    refine ChangesOnly.step (upGlb_fr _ _) (by decide) ?_
    refine ChangesOnly.step (upFlt_fr _ _) (by decide) ?_
    refine ChangesOnly.step (shadowQueue_fr _) (by decide) ?_
    refine ChangesOnly.step (dropCommands_fr _) (by decide) ?_
    refine ChangesOnly.ite ?_ ?_
    · refine ChangesOnly.step (sendT_fr _ _) (by decide) ?_
      exact ChangesOnly.refl _ _
    · exact ChangesOnly.refl _ _

theorem haltDone_fr (s : State) : ChangesOnly [.flt, .glb, .kite, .pair, .mesh] s (haltDone s) := by
  unfold haltDone
  try dsimp only
  refine ChangesOnly.step (upMesh_fr _ _) (by decide) ?_
  refine ChangesOnly.step (upGlb_fr _ _) (by decide) ?_
  refine ChangesOnly.step (upPair_fr _ _) (by decide) ?_
  refine ChangesOnly.step (upKite_fr _ _) (by decide) ?_
  refine ChangesOnly.step (upFlt_fr _ _) (by decide) ?_
  exact ChangesOnly.refl _ _

theorem halt_fr (s : State) : ChangesOnly [.flt, .glb, .hst, .tsk, .med, .drc, .kite, .cmp, .sec, .pair, .mesh, .hostMem, .arena, .free] s (halt s) := by
  unfold halt
  try dsimp only
  refine ChangesOnly.ite ?_ ?_
  · refine ChangesOnly.step (haltDone_fr _) (by decide) ?_
    refine ChangesOnly.step (upFlt_fr _ _) (by decide) ?_
    refine ChangesOnly.step (shadowQueue_fr _) (by decide) ?_
    refine ChangesOnly.step (dropCommands_fr _) (by decide) ?_
    refine ChangesOnly.ite ?_ ?_
    · refine ChangesOnly.step (sendT_fr _ _) (by decide) ?_
      refine ChangesOnly.step (upHst_fr _ _) (by decide) ?_
      exact ChangesOnly.refl _ _
    · refine ChangesOnly.step (upHst_fr _ _) (by decide) ?_
      exact ChangesOnly.refl _ _
  · refine ChangesOnly.step (startDump_fr _ _) (by decide) ?_
    refine ChangesOnly.step (upFlt_fr _ _) (by decide) ?_
    refine ChangesOnly.step (shadowQueue_fr _) (by decide) ?_
    refine ChangesOnly.step (dropCommands_fr _) (by decide) ?_
    refine ChangesOnly.ite ?_ ?_
    · refine ChangesOnly.step (sendT_fr _ _) (by decide) ?_
      refine ChangesOnly.step (upHst_fr _ _) (by decide) ?_
      exact ChangesOnly.refl _ _
    · refine ChangesOnly.step (upHst_fr _ _) (by decide) ?_
      exact ChangesOnly.refl _ _

theorem react_fr (s : State) (f : Machine.PendingFault) : ChangesOnly [.pwr, .flt, .glb, .hst, .tsk, .med, .drc, .kite, .way, .cmp, .sec, .hlt, .pair, .mesh, .hostMem, .arena, .free] s (react s f) := by
  unfold react
  try dsimp only
  refine ChangesOnly.ite ?_ ?_
  · refine ChangesOnly.step (failOver_fr _ _) (by decide) ?_
    refine ChangesOnly.step (setLast_fr _ _ _ _ _) (by decide) ?_
    refine ChangesOnly.ite ?_ ?_
    · refine ChangesOnly.step (addHistory_fr _ _ _ _ _ _) (by decide) ?_
      refine ChangesOnly.step (upFlt_fr _ _) (by decide) ?_
      exact ChangesOnly.refl _ _
    · refine ChangesOnly.step (upFlt_fr _ _) (by decide) ?_
      exact ChangesOnly.refl _ _
  · refine ChangesOnly.ite ?_ ?_
    · refine ChangesOnly.step (halt_fr _) (by decide) ?_
      refine ChangesOnly.ite ?_ ?_
      · refine ChangesOnly.step (postEvent_fr _ _ _ _ _) (by decide) ?_
        refine ChangesOnly.step (setLast_fr _ _ _ _ _) (by decide) ?_
        refine ChangesOnly.ite ?_ ?_
        · refine ChangesOnly.step (addHistory_fr _ _ _ _ _ _) (by decide) ?_
          refine ChangesOnly.step (upFlt_fr _ _) (by decide) ?_
          exact ChangesOnly.refl _ _
        · refine ChangesOnly.step (upFlt_fr _ _) (by decide) ?_
          exact ChangesOnly.refl _ _
      · refine ChangesOnly.step (setLast_fr _ _ _ _ _) (by decide) ?_
        refine ChangesOnly.ite ?_ ?_
        · refine ChangesOnly.step (addHistory_fr _ _ _ _ _ _) (by decide) ?_
          refine ChangesOnly.step (upFlt_fr _ _) (by decide) ?_
          exact ChangesOnly.refl _ _
        · refine ChangesOnly.step (upFlt_fr _ _) (by decide) ?_
          exact ChangesOnly.refl _ _
    · refine ChangesOnly.ite ?_ ?_
      · refine ChangesOnly.step (contain_fr _ _) (by decide) ?_
        refine ChangesOnly.ite ?_ ?_
        · refine ChangesOnly.step (postEvent_fr _ _ _ _ _) (by decide) ?_
          refine ChangesOnly.step (setLast_fr _ _ _ _ _) (by decide) ?_
          refine ChangesOnly.ite ?_ ?_
          · refine ChangesOnly.step (addHistory_fr _ _ _ _ _ _) (by decide) ?_
            refine ChangesOnly.step (upFlt_fr _ _) (by decide) ?_
            exact ChangesOnly.refl _ _
          · refine ChangesOnly.step (upFlt_fr _ _) (by decide) ?_
            exact ChangesOnly.refl _ _
        · refine ChangesOnly.step (setLast_fr _ _ _ _ _) (by decide) ?_
          refine ChangesOnly.ite ?_ ?_
          · refine ChangesOnly.step (addHistory_fr _ _ _ _ _ _) (by decide) ?_
            refine ChangesOnly.step (upFlt_fr _ _) (by decide) ?_
            exact ChangesOnly.refl _ _
          · refine ChangesOnly.step (upFlt_fr _ _) (by decide) ?_
            exact ChangesOnly.refl _ _
      · refine ChangesOnly.ite ?_ ?_
        · refine ChangesOnly.step (postEvent_fr _ _ _ _ _) (by decide) ?_
          refine ChangesOnly.step (setLast_fr _ _ _ _ _) (by decide) ?_
          refine ChangesOnly.ite ?_ ?_
          · refine ChangesOnly.step (addHistory_fr _ _ _ _ _ _) (by decide) ?_
            refine ChangesOnly.step (upFlt_fr _ _) (by decide) ?_
            exact ChangesOnly.refl _ _
          · refine ChangesOnly.step (upFlt_fr _ _) (by decide) ?_
            exact ChangesOnly.refl _ _
        · refine ChangesOnly.step (setLast_fr _ _ _ _ _) (by decide) ?_
          refine ChangesOnly.ite ?_ ?_
          · refine ChangesOnly.step (addHistory_fr _ _ _ _ _ _) (by decide) ?_
            refine ChangesOnly.step (upFlt_fr _ _) (by decide) ?_
            exact ChangesOnly.refl _ _
          · refine ChangesOnly.step (upFlt_fr _ _) (by decide) ?_
            exact ChangesOnly.refl _ _

theorem execFaultReaction_fr (s : State) : OutFrame [.pwr, .flt, .glb, .hst, .tsk, .med, .drc, .kite, .way, .cmp, .sec, .hlt, .pair, .mesh, .hostMem, .arena, .free] s (execFaultReaction s) := by
  unfold execFaultReaction
  try dsimp only
  split
  · refine OutFrame.next ?_
    exact ChangesOnly.refl _ _
  · refine OutFrame.ite ?_ ?_
    · refine OutFrame.next ?_
      exact ChangesOnly.refl _ _
    · refine OutFrame.next ?_
      refine ChangesOnly.step (react_fr _ _) (by decide) ?_
      refine ChangesOnly.step (upFlt_fr _ _) (by decide) ?_
      exact ChangesOnly.refl _ _

theorem execFaultRaise_fr (src : Nat) (level : Option Nat) (s : State) : OutFrame [.flt] s (execFaultRaise src level s) := by
  unfold execFaultRaise
  try dsimp only
  refine OutFrame.ite ?_ ?_
  · refine OutFrame.next ?_
    exact ChangesOnly.refl _ _
  · refine OutFrame.next ?_
    refine ChangesOnly.step (raiseAt_fr _ _ _ _ _) (by decide) ?_
    exact ChangesOnly.refl _ _

theorem execQuietPeriodEnd_fr (s : State) : OutFrame [.flt] s (execQuietPeriodEnd s) := by
  unfold execQuietPeriodEnd
  try dsimp only
  refine OutFrame.ite ?_ ?_
  · refine OutFrame.next ?_
    exact ChangesOnly.refl _ _
  · refine OutFrame.next ?_
    refine ChangesOnly.step (upFlt_fr _ _) (by decide) ?_
    refine ChangesOnly.foldl (fun _ _ => ?_) ?_
    · refine ChangesOnly.step (addHistory_fr _ _ _ _ _ _) (by decide) ?_
      exact ChangesOnly.refl _ _
    · exact ChangesOnly.refl _ _


/-! ### Dump -/

theorem stopWork_fr (s : State) : ChangesOnly [.pwr, .kite, .hlt] s (stopWork s) := by
  unfold stopWork
  try dsimp only
  refine ChangesOnly.step (upPwr_fr _ _) (by decide) ?_
  split
  · refine ChangesOnly.step (endSlice_fr _ _) (by decide) ?_
    refine ChangesOnly.step (upHlt_fr _ _) (by decide) ?_
    exact ChangesOnly.refl _ _
  · exact ChangesOnly.refl _ _

theorem execPwrFailAssert_fr (s : State) : OutFrame [.pwr, .glb, .hst, .tsk, .med, .drc, .kite, .cmp, .sec, .hlt, .pair, .mesh, .hostMem, .arena, .free] s (execPwrFailAssert s) := by
  unfold execPwrFailAssert
  try dsimp only
  refine OutFrame.ite ?_ ?_
  · refine OutFrame.next ?_
    exact ChangesOnly.refl _ _
  · refine OutFrame.ite ?_ ?_
    · refine OutFrame.next ?_
      refine ChangesOnly.step (upPwr_fr _ _) (by decide) ?_
      exact ChangesOnly.refl _ _
    · refine OutFrame.next ?_
      refine ChangesOnly.step (startDump_fr _ _) (by decide) ?_
      refine ChangesOnly.step (stopWork_fr _) (by decide) ?_
      refine ChangesOnly.step (failIncomplete_fr _) (by decide) ?_
      refine ChangesOnly.step (upPwr_fr _ _) (by decide) ?_
      exact ChangesOnly.refl _ _

theorem execPwrFailDeassert_fr (s : State) : OutFrame [.pwr] s (execPwrFailDeassert s) := by
  unfold execPwrFailDeassert
  try dsimp only
  refine OutFrame.next ?_
  refine ChangesOnly.step (upPwr_fr _ _) (by decide) ?_
  exact ChangesOnly.refl _ _

theorem markDump_fr (s : State) (us : Nat) : ChangesOnly [.med] s (markDump s us) := by
  unfold markDump
  try dsimp only
  refine ChangesOnly.step (upMed_fr _ _) (by decide) ?_
  exact ChangesOnly.refl _ _

theorem finishReset_fr (s : State) : ChangesOnly [.pwr, .flt, .glb, .hst, .tsk, .med, .drc, .kite, .way, .cmp, .sec, .hlt, .pair, .mesh, .arena] s (finishReset s) := by
  unfold finishReset
  try dsimp only
  refine ChangesOnly.step (upGlb_fr _ _) (by decide) ?_
  refine ChangesOnly.set_hst (by decide) ?_
  refine ChangesOnly.step (deviceReset_fr _ _) (by decide) ?_
  exact ChangesOnly.refl _ _

theorem execDumpComplete_fr (us : Nat) (s : State) : OutFrame [.pwr, .flt, .glb, .hst, .tsk, .med, .drc, .kite, .way, .cmp, .sec, .hlt, .pair, .mesh, .arena] s (execDumpComplete us s) := by
  unfold execDumpComplete
  try dsimp only
  refine OutFrame.ite ?_ ?_
  · refine OutFrame.next ?_
    exact ChangesOnly.refl _ _
  · split
    · refine OutFrame.next ?_
      refine ChangesOnly.step (upPwr_fr _ _) (by decide) ?_
      refine ChangesOnly.step (upMed_fr _ _) (by decide) ?_
      refine ChangesOnly.step (markDump_fr _ _) (by decide) ?_
      exact ChangesOnly.refl _ _
    · refine OutFrame.next ?_
      refine ChangesOnly.step (deviceReset_fr _ _) (by decide) ?_
      refine ChangesOnly.step (markDump_fr _ _) (by decide) ?_
      exact ChangesOnly.refl _ _
    · refine OutFrame.next ?_
      refine ChangesOnly.step (haltDone_fr _) (by decide) ?_
      refine ChangesOnly.step (markDump_fr _ _) (by decide) ?_
      exact ChangesOnly.refl _ _
    · refine OutFrame.next ?_
      refine ChangesOnly.step (finishReset_fr _) (by decide) ?_
      refine ChangesOnly.step (markDump_fr _ _) (by decide) ?_
      exact ChangesOnly.refl _ _

theorem closeOpen_fr (s : State) (b : Nat) : ChangesOnly [.med, .sec, .pair, .mesh, .free] s (closeOpen s b) := by
  unfold closeOpen
  try dsimp only
  refine ChangesOnly.step (journalDrain_fr _ _ _) (by decide) ?_
  refine ChangesOnly.step (bandMod_fr _ _ _) (by decide) ?_
  exact ChangesOnly.refl _ _

theorem takeBackDump_fr (s : State) : ChangesOnly [.med, .sec, .pair, .mesh, .free] s (takeBackDump s) := by
  unfold takeBackDump
  try dsimp only
  refine ChangesOnly.step (upMed_fr _ _) (by decide) ?_
  refine ChangesOnly.foldl (fun _ _ => ?_) ?_
  · refine ChangesOnly.step (closeOpen_fr _ _) (by decide) ?_
    exact ChangesOnly.refl _ _
  · refine ChangesOnly.step (flushAll_fr _) (by decide) ?_
    exact ChangesOnly.refl _ _

theorem resetIslands_fr (s : State) : ChangesOnly [.kite, .way, .cmp, .sec, .pair, .mesh] s (resetIslands s) := by
  unfold resetIslands
  try dsimp only
  refine ChangesOnly.step (upMesh_fr _ _) (by decide) ?_
  refine ChangesOnly.foldl (fun _ _ => ?_) ?_
  · refine ChangesOnly.step (modPort_fr _ _ _) (by decide) ?_
    refine ChangesOnly.step (rekeyLink_fr _ _) (by decide) ?_
    exact ChangesOnly.refl _ _
  · refine ChangesOnly.step (upPair_fr _ _) (by decide) ?_
    refine ChangesOnly.step (rekeyLink_fr _ _) (by decide) ?_
    refine ChangesOnly.step (upSec_fr _ _) (by decide) ?_
    refine ChangesOnly.step (upCmp_fr _ _) (by decide) ?_
    refine ChangesOnly.step (upWay_fr _ _) (by decide) ?_
    refine ChangesOnly.step (upKite_fr _ _) (by decide) ?_
    exact ChangesOnly.refl _ _

theorem warmRestart_fr (s : State) : ChangesOnly [.glb, .med, .drc, .kite, .way, .cmp, .sec, .pair, .mesh, .free] s (warmRestart s) := by
  unfold warmRestart
  try dsimp only
  refine ChangesOnly.step (upGlb_fr _ _) (by decide) ?_
  refine ChangesOnly.step (upDrc_fr _ _) (by decide) ?_
  refine ChangesOnly.step (takeBackDump_fr _) (by decide) ?_
  refine ChangesOnly.step (resetIslands_fr _) (by decide) ?_
  exact ChangesOnly.refl _ _

theorem execWarmRestart_fr (s : State) : OutFrame [.pwr, .glb, .med, .drc, .kite, .way, .cmp, .sec, .pair, .mesh, .free] s (execWarmRestart s) := by
  unfold execWarmRestart
  try dsimp only
  refine OutFrame.ite ?_ ?_
  · refine OutFrame.next ?_
    exact ChangesOnly.refl _ _
  · refine OutFrame.next ?_
    refine ChangesOnly.step (warmRestart_fr _) (by decide) ?_
    refine ChangesOnly.step (upPwr_fr _ _) (by decide) ?_
    exact ChangesOnly.refl _ _

theorem execHoldupSenseStuck_fr (s : State) : OutFrame [.pwr, .flt, .glb, .tsk, .med, .drc, .kite, .way, .cmp, .sec, .pair, .mesh, .free] s (execHoldupSenseStuck s) := by
  unfold execHoldupSenseStuck
  try dsimp only
  refine OutFrame.ite ?_ ?_
  · refine OutFrame.next ?_
    exact ChangesOnly.refl _ _
  · refine OutFrame.ite ?_ ?_
    · refine OutFrame.next ?_
      refine ChangesOnly.step (holdupStuck_fr _) (by decide) ?_
      refine ChangesOnly.step (warmRestart_fr _) (by decide) ?_
      exact ChangesOnly.refl _ _
    · refine OutFrame.ite ?_ ?_
      · refine OutFrame.next ?_
        refine ChangesOnly.step (upPwr_fr _ _) (by decide) ?_
        exact ChangesOnly.refl _ _
      · refine OutFrame.next ?_
        exact ChangesOnly.refl _ _

theorem execRailLoss_fr (s : State) : OutFrame [.pwr, .flt, .glb, .hst, .tsk, .med, .drc, .kite, .way, .cmp, .sec, .hlt, .pair, .mesh, .arena] s (execRailLoss s) := by
  unfold execRailLoss
  try dsimp only
  refine OutFrame.ite ?_ ?_
  · refine OutFrame.next ?_
    exact ChangesOnly.refl _ _
  · refine OutFrame.next ?_
    refine ChangesOnly.step (upPwr_fr _ _) (by decide) ?_
    refine ChangesOnly.step (upGlb_fr _ _) (by decide) ?_
    refine ChangesOnly.step (loseAon_fr _) (by decide) ?_
    refine ChangesOnly.step (deviceReset_fr _ _) (by decide) ?_
    exact ChangesOnly.refl _ _


end Sys2Proof.Machine
end

