-- ==== Sys2Proof/Laws/FramePair.lean ====
section
/-! SUPPORT. Frames of the Tether and Trail commands. -/

namespace Sys2Proof.Machine
open Sys2Proof

/-! ### PairMsgs -/

theorem sendHello_fr (s : State) (token : List Byte) : ChangesOnly [.sec, .pair, .mesh, .free] s (sendHello s token) := by
  unfold sendHello
  try dsimp only
  refine ChangesOnly.step (sendT_fr _ _) (by decide) ?_
  refine ChangesOnly.step (upPair_fr _ _) (by decide) ?_
  refine ChangesOnly.step (freshKey_fr _) (by decide) ?_
  exact ChangesOnly.refl _ _

theorem pairSession_fr (s : State) (serial : Nat) (node : Nat) (pub : List Byte) : ChangesOnly [.sec, .pair] s (pairSession s serial node pub) := by
  unfold pairSession
  try dsimp only
  refine ChangesOnly.step (upPair_fr _ _) (by decide) ?_
  refine ChangesOnly.step (upSec_fr _ _) (by decide) ?_
  exact ChangesOnly.refl _ _

theorem sendKeys_fr (s : State) (l : List (Nat × Machine.Volume)) : ChangesOnly [.sec, .pair, .mesh, .free] s (sendKeys s l) := by
  unfold sendKeys
  try dsimp only
  refine ChangesOnly.foldl (fun _ _ => ?_) ?_
  · refine ChangesOnly.step (sendKey_fr _ _ _ _ _ _) (by decide) ?_
    exact ChangesOnly.refl _ _
  · exact ChangesOnly.refl _ _

theorem refusePair_fr (s : State) (r : Machine.Reply) : ChangesOnly [.tsk, .med, .sec, .pair] s (refusePair s r) := by
  unfold refusePair
  try dsimp only
  split
  · exact ChangesOnly.refl _ _
  · refine ChangesOnly.ite ?_ ?_
    · refine ChangesOnly.step (soloAgain_fr _) (by decide) ?_
      refine ChangesOnly.step (finish_fr _ _ _) (by decide) ?_
      exact ChangesOnly.refl _ _
    · refine ChangesOnly.step (upPair_fr _ _) (by decide) ?_
      refine ChangesOnly.step (finish_fr _ _ _) (by decide) ?_
      exact ChangesOnly.refl _ _

theorem startHandback_fr (s : State) (delta : Bool) : ChangesOnly [.sec, .pair, .mesh, .free] s (startHandback s delta) := by
  unfold startHandback
  try dsimp only
  refine ChangesOnly.step (upPair_fr _ _) (by decide) ?_
  refine ChangesOnly.step (sendKeys_fr _ _) (by decide) ?_
  exact ChangesOnly.refl _ _

theorem agreePair_fr (s : State) (p : Machine.Pairing) (serial : Nat) (node : Nat) (pub : List Byte) : ChangesOnly [.med, .sec, .pair, .mesh, .free] s (agreePair s p serial node pub) := by
  unfold agreePair
  try dsimp only
  refine ChangesOnly.ite ?_ ?_
  · refine ChangesOnly.step (sendKeys_fr _ _) (by decide) ?_
    refine ChangesOnly.ite ?_ ?_
    · refine ChangesOnly.step (startCkpt_fr _) (by decide) ?_
      refine ChangesOnly.step (upPair_fr _ _) (by decide) ?_
      refine ChangesOnly.step (pairSession_fr _ _ _ _) (by decide) ?_
      exact ChangesOnly.refl _ _
    · refine ChangesOnly.step (upPair_fr _ _) (by decide) ?_
      refine ChangesOnly.step (pairSession_fr _ _ _ _) (by decide) ?_
      exact ChangesOnly.refl _ _
  · refine ChangesOnly.step (startHandback_fr _ _) (by decide) ?_
    refine ChangesOnly.step (upPair_fr _ _) (by decide) ?_
    refine ChangesOnly.step (pairSession_fr _ _ _ _) (by decide) ?_
    exact ChangesOnly.refl _ _

theorem judgeHello_fr (s : State) (m : Machine.TMsg) : ChangesOnly [.tsk, .med, .sec, .pair, .mesh, .free] s (judgeHello s m) := by
  unfold judgeHello
  try dsimp only
  split
  · refine ChangesOnly.ite ?_ ?_
    · exact ChangesOnly.refl _ _
    · split
      · refine ChangesOnly.step (refusePair_fr _ _) (by decide) ?_
        exact ChangesOnly.refl _ _
      · refine ChangesOnly.step (agreePair_fr _ _ _ _ _) (by decide) ?_
        exact ChangesOnly.refl _ _
  · exact ChangesOnly.refl _ _

theorem onHello_fr (s : State) (m : Machine.TMsg) : ChangesOnly [.tsk, .med, .sec, .pair, .mesh, .free] s (onHello s m) := by
  unfold onHello
  try dsimp only
  split
  · refine ChangesOnly.ite ?_ ?_
    · refine ChangesOnly.step (judgeHello_fr _ _) (by decide) ?_
      exact ChangesOnly.refl _ _
    · refine ChangesOnly.ite ?_ ?_
      · refine ChangesOnly.step (upPair_fr _ _) (by decide) ?_
        exact ChangesOnly.refl _ _
      · refine ChangesOnly.ite ?_ ?_
        · refine ChangesOnly.step (pairSession_fr _ _ _ _) (by decide) ?_
          refine ChangesOnly.ite ?_ ?_
          · refine ChangesOnly.step (sendHello_fr _ _) (by decide) ?_
            exact ChangesOnly.refl _ _
          · exact ChangesOnly.refl _ _
        · exact ChangesOnly.refl _ _
  · exact ChangesOnly.refl _ _

theorem onKeyTransfer_fr (s : State) (vol : Nat) (install : Bool) (capacity : Nat) (attrs : Nat) : ChangesOnly [.tsk, .med, .sec, .pair, .mesh, .free] s (onKeyTransfer s vol install capacity attrs) := by
  unfold onKeyTransfer
  try dsimp only
  refine ChangesOnly.ite ?_ ?_
  · exact ChangesOnly.refl _ _
  · refine ChangesOnly.ite ?_ ?_
    · refine ChangesOnly.step (upSec_fr _ _) (by decide) ?_
      exact ChangesOnly.refl _ _
    · refine ChangesOnly.ite ?_ ?_
      · refine ChangesOnly.ite ?_ ?_
        · refine ChangesOnly.step (refusePair_fr _ _) (by decide) ?_
          exact ChangesOnly.refl _ _
        · refine ChangesOnly.step (putKey_fr _ _) (by decide) ?_
          refine ChangesOnly.step (freshKey_fr _) (by decide) ?_
          exact ChangesOnly.refl _ _
      · refine ChangesOnly.ite ?_ ?_
        · refine ChangesOnly.ite ?_ ?_
          · exact ChangesOnly.refl _ _
          · refine ChangesOnly.step (addVolume_fr _ _ _ _ _ _) (by decide) ?_
            refine ChangesOnly.step (putKey_fr _ _) (by decide) ?_
            refine ChangesOnly.step (freshKey_fr _) (by decide) ?_
            exact ChangesOnly.refl _ _
        · refine ChangesOnly.ite ?_ ?_
          · exact ChangesOnly.refl _ _
          · refine ChangesOnly.step (putKey_fr _ _) (by decide) ?_
            refine ChangesOnly.step (freshKey_fr _) (by decide) ?_
            exact ChangesOnly.refl _ _

theorem onMirrorWrite_fr (s : State) (seq : Nat) (vol : Nat) (op : Nat) (lba : Nat) (blocks : Nat) (data : List Byte) : ChangesOnly [.flt, .sec, .pair, .mesh, .free] s (onMirrorWrite s seq vol op lba blocks data) := by
  unfold onMirrorWrite
  try dsimp only
  refine ChangesOnly.ite ?_ ?_
  · exact ChangesOnly.refl _ _
  · refine ChangesOnly.ite ?_ ?_
    · refine ChangesOnly.step (badMessage_fr _) (by decide) ?_
      exact ChangesOnly.refl _ _
    · refine ChangesOnly.step (sendT_fr _ _) (by decide) ?_
      refine ChangesOnly.step (upPair_fr _ _) (by decide) ?_
      exact ChangesOnly.refl _ _

theorem onMirrorRelease_fr (s : State) (seq : Nat) : ChangesOnly [.pair] s (onMirrorRelease s seq) := by
  unfold onMirrorRelease
  try dsimp only
  refine ChangesOnly.step (upPair_fr _ _) (by decide) ?_
  exact ChangesOnly.refl _ _

theorem onMirrorConfirm_fr (s : State) (seq : Nat) : ChangesOnly [.tsk, .sec, .pair, .mesh, .free] s (onMirrorConfirm s seq) := by
  unfold onMirrorConfirm
  try dsimp only
  refine ChangesOnly.step (releaseMirror_fr _) (by decide) ?_
  refine ChangesOnly.step (upTsk_fr _ _) (by decide) ?_
  refine ChangesOnly.step (modEntry_fr _ _ _) (by decide) ?_
  exact ChangesOnly.refl _ _

theorem dropSpills_fr (s : State) (gone : Machine.Spill → Bool) : ChangesOnly [.med, .sec, .pair, .mesh, .free] s (dropSpills s gone) := by
  unfold dropSpills
  try dsimp only
  refine ChangesOnly.step (journalDrain_fr _ _ _) (by decide) ?_
  refine ChangesOnly.foldl (fun _ _ => ?_) ?_
  · refine ChangesOnly.step (subRun_fr _ _) (by decide) ?_
    exact ChangesOnly.refl _ _
  · refine ChangesOnly.step (upMed_fr _ _) (by decide) ?_
    exact ChangesOnly.refl _ _

theorem spillRing_fr (s : State) (fuel : Nat) : ChangesOnly [.med, .sec, .pair, .mesh, .free] s (spillRing s fuel) := by
  unfold spillRing
  try dsimp only
  split
  · exact ChangesOnly.refl _ _
  · refine ChangesOnly.ite ?_ ?_
    · exact ChangesOnly.refl _ _
    · refine ChangesOnly.ite ?_ ?_
      · refine ChangesOnly.step (spillRing_fr _ _) (by decide) ?_
        refine ChangesOnly.step (upMed_fr _ _) (by decide) ?_
        exact ChangesOnly.refl _ _
      · split
        · exact ChangesOnly.refl _ _
        · refine ChangesOnly.step (spillRing_fr _ _) (by decide) ?_
          refine ChangesOnly.step (upMed_fr _ _) (by decide) ?_
          refine ChangesOnly.step (upMed_fr _ _) (by decide) ?_
          refine ChangesOnly.step (Opt2Frame.of (writeRun_fr _ _) (by assumption)) (by decide) ?_
          exact ChangesOnly.refl _ _

theorem onJournal_fr (s : State) (first : Nat) (recs : List Machine.JRec) : ChangesOnly [.flt, .med, .sec, .pair, .mesh, .free] s (onJournal s first recs) := by
  unfold onJournal
  try dsimp only
  refine ChangesOnly.ite ?_ ?_
  · exact ChangesOnly.refl _ _
  · refine ChangesOnly.ite ?_ ?_
    · refine ChangesOnly.step (badMessage_fr _) (by decide) ?_
      exact ChangesOnly.refl _ _
    · refine ChangesOnly.ite ?_ ?_
      · exact ChangesOnly.refl _ _
      · refine ChangesOnly.step (sendT_fr _ _) (by decide) ?_
        refine ChangesOnly.step (spillRing_fr _ _) (by decide) ?_
        refine ChangesOnly.ite ?_ ?_
        · refine ChangesOnly.step (upMed_fr _ _) (by decide) ?_
          exact ChangesOnly.refl _ _
        · refine ChangesOnly.step (upMed_fr _ _) (by decide) ?_
          exact ChangesOnly.refl _ _

theorem onJournalConfirm_fr (s : State) (last : Nat) : ChangesOnly [.med, .sec, .pair, .mesh, .free] s (onJournalConfirm s last) := by
  unfold onJournalConfirm
  try dsimp only
  refine ChangesOnly.ite ?_ ?_
  · refine ChangesOnly.step (releaseMirror_fr _) (by decide) ?_
    refine ChangesOnly.step (moveTail_fr _) (by decide) ?_
    refine ChangesOnly.step (upPair_fr _ _) (by decide) ?_
    exact ChangesOnly.refl _ _
  · exact ChangesOnly.refl _ _

theorem storeRoot_fr (s : State) (r : Machine.Root) : ChangesOnly [.med, .sec, .pair, .mesh, .free] s (storeRoot s r) := by
  unfold storeRoot
  try dsimp only
  refine ChangesOnly.step (upMed_fr _ _) (by decide) ?_
  refine ChangesOnly.step (dropSpills_fr _ _) (by decide) ?_
  exact ChangesOnly.refl _ _

theorem onRoot_fr (s : State) (no : Nat) (r : Machine.Root) : ChangesOnly [.med, .sec, .pair, .mesh, .free] s (onRoot s no r) := by
  unfold onRoot
  try dsimp only
  refine ChangesOnly.ite ?_ ?_
  · exact ChangesOnly.refl _ _
  · refine ChangesOnly.ite ?_ ?_
    · refine ChangesOnly.ite ?_ ?_
      · refine ChangesOnly.step (startHandback_fr _ _) (by decide) ?_
        exact ChangesOnly.refl _ _
      · exact ChangesOnly.refl _ _
    · refine ChangesOnly.ite ?_ ?_
      · refine ChangesOnly.step (storeRoot_fr _ _) (by decide) ?_
        exact ChangesOnly.refl _ _
      · exact ChangesOnly.refl _ _

theorem resendEntries_fr (s : State) (l : List Machine.MirrorOut) : ChangesOnly [.sec, .pair, .mesh, .free] s (resendEntries s l) := by
  unfold resendEntries
  try dsimp only
  refine ChangesOnly.foldl (fun _ _ => ?_) ?_
  · refine ChangesOnly.step (sendT_fr _ _) (by decide) ?_
    exact ChangesOnly.refl _ _
  · exact ChangesOnly.refl _ _

theorem sendJournal_fr (s : State) (from_ : Nat) (fuel : Nat) : ChangesOnly [.sec, .pair, .mesh, .free] s (sendJournal s from_ fuel) := by
  unfold sendJournal
  try dsimp only
  split
  · exact ChangesOnly.refl _ _
  · refine ChangesOnly.ite ?_ ?_
    · exact ChangesOnly.refl _ _
    · refine ChangesOnly.step (sendJournal_fr _ _ _) (by decide) ?_
      refine ChangesOnly.step (sendT_fr _ _) (by decide) ?_
      exact ChangesOnly.refl _ _

theorem resendJournal_fr (s : State) : ChangesOnly [.sec, .pair, .mesh, .free] s (resendJournal s) := by
  unfold resendJournal
  try dsimp only
  split
  · exact ChangesOnly.refl _ _
  · refine ChangesOnly.step (sendJournal_fr _ _ _) (by decide) ?_
    refine ChangesOnly.step (upPair_fr _ _) (by decide) ?_
    refine ChangesOnly.step (sendT_fr _ _) (by decide) ?_
    exact ChangesOnly.refl _ _

theorem resendAll_fr (s : State) : ChangesOnly [.sec, .pair, .mesh, .free] s (resendAll s) := by
  unfold resendAll
  try dsimp only
  refine ChangesOnly.step (resendJournal_fr _) (by decide) ?_
  refine ChangesOnly.step (resendEntries_fr _ _) (by decide) ?_
  exact ChangesOnly.refl _ _

theorem separate_fr (s : State) : ChangesOnly [.tsk, .med, .sec, .pair, .mesh, .free] s (separate s) := by
  unfold separate
  try dsimp only
  split
  · refine ChangesOnly.step (finish_fr _ _ _) (by decide) ?_
    refine ChangesOnly.step (pairLog_fr _ _ _ _) (by decide) ?_
    refine ChangesOnly.step (upPair_fr _ _) (by decide) ?_
    refine ChangesOnly.step (upMed_fr _ _) (by decide) ?_
    refine ChangesOnly.step (upSec_fr _ _) (by decide) ?_
    refine ChangesOnly.step (dropSpills_fr _ _) (by decide) ?_
    exact ChangesOnly.refl _ _
  · refine ChangesOnly.step (pairLog_fr _ _ _ _) (by decide) ?_
    refine ChangesOnly.step (upPair_fr _ _) (by decide) ?_
    refine ChangesOnly.step (upMed_fr _ _) (by decide) ?_
    refine ChangesOnly.step (upSec_fr _ _) (by decide) ?_
    refine ChangesOnly.step (dropSpills_fr _ _) (by decide) ?_
    exact ChangesOnly.refl _ _

theorem trySeparate_fr (s : State) : ChangesOnly [.tsk, .med, .sec, .pair, .mesh, .free] s (trySeparate s) := by
  unfold trySeparate
  try dsimp only
  refine ChangesOnly.ite ?_ ?_
  · exact ChangesOnly.refl _ _
  · refine ChangesOnly.ite ?_ ?_
    · refine ChangesOnly.ite ?_ ?_
      · exact ChangesOnly.refl _ _
      · refine ChangesOnly.step (separate_fr _) (by decide) ?_
        exact ChangesOnly.refl _ _
    · refine ChangesOnly.ite ?_ ?_
      · exact ChangesOnly.refl _ _
      · refine ChangesOnly.ite ?_ ?_
        · refine ChangesOnly.step (separate_fr _) (by decide) ?_
          refine ChangesOnly.ite ?_ ?_
          · refine ChangesOnly.step (sendT_fr _ _) (by decide) ?_
            refine ChangesOnly.step (upPair_fr _ _) (by decide) ?_
            exact ChangesOnly.refl _ _
          · exact ChangesOnly.refl _ _
        · refine ChangesOnly.ite ?_ ?_
          · refine ChangesOnly.step (sendT_fr _ _) (by decide) ?_
            refine ChangesOnly.step (upPair_fr _ _) (by decide) ?_
            exact ChangesOnly.refl _ _
          · exact ChangesOnly.refl _ _

theorem onUnpair_fr (s : State) : ChangesOnly [.tsk, .med, .sec, .pair, .mesh, .free] s (onUnpair s) := by
  unfold onUnpair
  try dsimp only
  refine ChangesOnly.ite ?_ ?_
  · exact ChangesOnly.refl _ _
  · refine ChangesOnly.step (trySeparate_fr _) (by decide) ?_
    refine ChangesOnly.step (upPair_fr _ _) (by decide) ?_
    exact ChangesOnly.refl _ _

theorem onBlockRead_fr (s : State) (req : Nat) (vol : Nat) (lba : Nat) (blocks : Nat) (m : MediaIn) : ChangesOnly [.sec, .pair, .mesh, .free] s (onBlockRead s req vol lba blocks m) := by
  unfold onBlockRead
  try dsimp only
  refine ChangesOnly.ite ?_ ?_
  · exact ChangesOnly.refl _ _
  · split
    · refine ChangesOnly.step (sendT_fr _ _) (by decide) ?_
      exact ChangesOnly.refl _ _
    · split
      · refine ChangesOnly.step (sendT_fr _ _) (by decide) ?_
        exact ChangesOnly.refl _ _
      · refine ChangesOnly.step (sendT_fr _ _) (by decide) ?_
        exact ChangesOnly.refl _ _

theorem onBlockData_fr (s : State) (req : Nat) (status : Nat) (data : List Byte) : ChangesOnly [.pair] s (onBlockData s req status data) := by
  unfold onBlockData
  try dsimp only
  split
  · exact ChangesOnly.refl _ _
  · refine ChangesOnly.step (upPair_fr _ _) (by decide) ?_
    exact ChangesOnly.refl _ _

theorem onHandback_fr (s : State) (wseq : Nat) (vol : Nat) (form : Nat) (lba : Nat) (data : List Byte) : ChangesOnly [.flt, .med, .pair] s (onHandback s wseq vol form lba data) := by
  unfold onHandback
  try dsimp only
  split
  · exact ChangesOnly.refl _ _
  · refine ChangesOnly.ite ?_ ?_
    · exact ChangesOnly.refl _ _
    · refine ChangesOnly.ite ?_ ?_
      · refine ChangesOnly.step (badMessage_fr _) (by decide) ?_
        exact ChangesOnly.refl _ _
      · refine ChangesOnly.step (upPair_fr _ _) (by decide) ?_
        refine ChangesOnly.step (stageBlock_fr _ _ _ _) (by decide) ?_
        exact ChangesOnly.refl _ _

theorem onCutover_fr (s : State) : ChangesOnly [.tsk, .med, .sec, .pair, .mesh, .free] s (onCutover s) := by
  unfold onCutover
  try dsimp only
  refine ChangesOnly.ite ?_ ?_
  · exact ChangesOnly.refl _ _
  · split
    · refine ChangesOnly.step (finish_fr _ _ _) (by decide) ?_
      refine ChangesOnly.step (upPair_fr _ _) (by decide) ?_
      refine ChangesOnly.step (sendKeys_fr _ _) (by decide) ?_
      refine ChangesOnly.step (resendJournal_fr _) (by decide) ?_
      refine ChangesOnly.foldl (fun _ _ => ?_) ?_
      · refine ChangesOnly.step (endReplaced_fr _ _ _) (by decide) ?_
        exact ChangesOnly.refl _ _
      · refine ChangesOnly.step (upPair_fr _ _) (by decide) ?_
        exact ChangesOnly.refl _ _
    · refine ChangesOnly.step (resendJournal_fr _) (by decide) ?_
      refine ChangesOnly.foldl (fun _ _ => ?_) ?_
      · refine ChangesOnly.step (endReplaced_fr _ _ _) (by decide) ?_
        exact ChangesOnly.refl _ _
      · refine ChangesOnly.step (upPair_fr _ _) (by decide) ?_
        exact ChangesOnly.refl _ _


/-! ### PairRun -/

theorem sendPair_fr (s : State) (dst : Nat) (pairId : Nat) (b : Machine.MBody) : ChangesOnly [.sec, .mesh, .free] s (sendPair s dst pairId b) := by
  unfold sendPair
  try dsimp only
  refine OptFrame.getD ?_ ?_
  · refine OptFrame.step (routed_fr _ _ _) (by decide) ?_
    exact ChangesOnly.refl _ _
  · exact ChangesOnly.refl _ _

theorem sendClaim_fr (s : State) (l : List Nat) (number : Nat) (release : Bool) : ChangesOnly [.sec, .mesh, .free] s (sendClaim s l number release) := by
  unfold sendClaim
  try dsimp only
  refine ChangesOnly.foldl (fun _ _ => ?_) ?_
  · refine ChangesOnly.step (sendPair_fr _ _ _ _) (by decide) ?_
    exact ChangesOnly.refl _ _
  · exact ChangesOnly.refl _ _

theorem suspectPartner_fr (s : State) : ChangesOnly [.pair] s (suspectPartner s) := by
  unfold suspectPartner
  try dsimp only
  refine ChangesOnly.ite ?_ ?_
  · refine ChangesOnly.step (upPair_fr _ _) (by decide) ?_
    exact ChangesOnly.refl _ _
  · refine ChangesOnly.step (pairLog_fr _ _ _ _) (by decide) ?_
    refine ChangesOnly.step (upPair_fr _ _) (by decide) ?_
    refine ChangesOnly.step (upPair_fr _ _) (by decide) ?_
    exact ChangesOnly.refl _ _

theorem hearPartner_fr (s : State) : ChangesOnly [.sec, .pair, .mesh, .free] s (hearPartner s) := by
  unfold hearPartner
  try dsimp only
  refine ChangesOnly.step (upPair_fr _ _) (by decide) ?_
  split
  · refine ChangesOnly.step (sendClaim_fr _ _ _ _) (by decide) ?_
    exact ChangesOnly.refl _ _
  · exact ChangesOnly.refl _ _

theorem enterRejoin_fr (s : State) : ChangesOnly [.pair] s (enterRejoin s) := by
  unfold enterRejoin
  try dsimp only
  refine ChangesOnly.step (pairLog_fr _ _ _ _) (by decide) ?_
  refine ChangesOnly.step (upPair_fr _ _) (by decide) ?_
  exact ChangesOnly.refl _ _

theorem becomeReplacement_fr (s : State) : ChangesOnly [.med, .sec, .pair, .mesh, .free] s (becomeReplacement s) := by
  unfold becomeReplacement
  try dsimp only
  refine ChangesOnly.step (enterRejoin_fr _) (by decide) ?_
  refine ChangesOnly.foldl (fun _ _ => ?_) ?_
  · refine ChangesOnly.ite ?_ ?_
    · exact ChangesOnly.refl _ _
    · refine ChangesOnly.step (addVolume_fr _ _ _ _ _ _) (by decide) ?_
      exact ChangesOnly.refl _ _
  · refine ChangesOnly.step (upSec_fr _ _) (by decide) ?_
    exact ChangesOnly.refl _ _

theorem fosterPartner_fr (s : State) (byCommand : Bool) : ChangesOnly [.med, .sec, .pair, .mesh, .free] s (fosterPartner s byCommand) := by
  unfold fosterPartner
  try dsimp only
  refine ChangesOnly.step (upPair_fr _ _) (by decide) ?_
  refine ChangesOnly.step (upPair_fr _ _) (by decide) ?_
  refine ChangesOnly.foldl (fun _ _ => ?_) ?_
  · refine ChangesOnly.ite ?_ ?_
    · exact ChangesOnly.refl _ _
    · refine ChangesOnly.step (addVolume_fr _ _ _ _ _ _) (by decide) ?_
      exact ChangesOnly.refl _ _
  · exact ChangesOnly.refl _ _

theorem winClaim_fr (s : State) (grants : Nat) (byCommand : Bool) : ChangesOnly [.tsk, .med, .sec, .pair, .mesh, .free] s (winClaim s grants byCommand) := by
  unfold winClaim
  try dsimp only
  refine ChangesOnly.step (trySeparate_fr _) (by decide) ?_
  refine ChangesOnly.step (replayMirror_fr _) (by decide) ?_
  refine ChangesOnly.step (fosterPartner_fr _ _) (by decide) ?_
  refine ChangesOnly.step (upTsk_fr _ _) (by decide) ?_
  refine ChangesOnly.step (upMed_fr _ _) (by decide) ?_
  refine ChangesOnly.step (postEvent_fr _ _ _ _ _) (by decide) ?_
  refine ChangesOnly.step (upPair_fr _ _) (by decide) ?_
  refine ChangesOnly.step (pairLog_fr _ _ _ _) (by decide) ?_
  exact ChangesOnly.refl _ _

theorem loseClaim_fr (s : State) (refusals : Nat) : ChangesOnly [.hst, .tsk, .med, .drc, .cmp, .sec, .pair, .mesh, .hostMem, .arena, .free] s (loseClaim s refusals) := by
  unfold loseClaim
  try dsimp only
  refine ChangesOnly.foldl (fun _ _ => ?_) ?_
  · refine ChangesOnly.step (finish_fr _ _ _) (by decide) ?_
    exact ChangesOnly.refl _ _
  · refine ChangesOnly.step (upPair_fr _ _) (by decide) ?_
    refine ChangesOnly.foldl (fun _ _ => ?_) ?_
    · refine ChangesOnly.step (dropWrite_fr _ _ _) (by decide) ?_
      exact ChangesOnly.refl _ _
    · refine ChangesOnly.step (upPair_fr _ _) (by decide) ?_
      refine ChangesOnly.step (pairLog_fr _ _ _ _) (by decide) ?_
      refine ChangesOnly.step (upPair_fr _ _) (by decide) ?_
      exact ChangesOnly.refl _ _

theorem startClaim_fr (s : State) : ChangesOnly [.tsk, .med, .sec, .pair, .mesh, .free] s (startClaim s) := by
  unfold startClaim
  try dsimp only
  refine ChangesOnly.ite ?_ ?_
  · exact ChangesOnly.refl _ _
  · refine ChangesOnly.ite ?_ ?_
    · refine ChangesOnly.step (winClaim_fr _ _ _) (by decide) ?_
      refine ChangesOnly.step (upPair_fr _ _) (by decide) ?_
      exact ChangesOnly.refl _ _
    · refine ChangesOnly.step (sendClaim_fr _ _ _ _) (by decide) ?_
      refine ChangesOnly.step (upPair_fr _ _) (by decide) ?_
      refine ChangesOnly.step (upPair_fr _ _) (by decide) ?_
      exact ChangesOnly.refl _ _

theorem probeNext_fr (s : State) : ChangesOnly [.tsk, .med, .sec, .pair, .mesh, .free] s (probeNext s) := by
  unfold probeNext
  try dsimp only
  refine ChangesOnly.ite ?_ ?_
  · refine ChangesOnly.step (sendPair_fr _ _ _ _) (by decide) ?_
    exact ChangesOnly.refl _ _
  · refine ChangesOnly.ite ?_ ?_
    · refine ChangesOnly.step (sendPair_fr _ _ _ _) (by decide) ?_
      refine ChangesOnly.step (upPair_fr _ _) (by decide) ?_
      exact ChangesOnly.refl _ _
    · refine ChangesOnly.step (startClaim_fr _) (by decide) ?_
      exact ChangesOnly.refl _ _

theorem rejoinPartner_fr (s : State) : ChangesOnly [.sec, .pair, .mesh, .free] s (rejoinPartner s) := by
  unfold rejoinPartner
  try dsimp only
  refine ChangesOnly.step (upPair_fr _ _) (by decide) ?_
  refine ChangesOnly.step (resendAll_fr _) (by decide) ?_
  refine ChangesOnly.step (upPair_fr _ _) (by decide) ?_
  exact ChangesOnly.refl _ _

theorem meetPartner_fr (s : State) (st : Nat) (status : Nat) (readOnly : Bool) : ChangesOnly [.tsk, .med, .sec, .pair, .mesh, .free] s (meetPartner s st status readOnly) := by
  unfold meetPartner
  try dsimp only
  refine ChangesOnly.ite ?_ ?_
  · refine ChangesOnly.ite ?_ ?_
    · refine ChangesOnly.step (becomeReplacement_fr _) (by decide) ?_
      refine ChangesOnly.step (hearPartner_fr _) (by decide) ?_
      exact ChangesOnly.refl _ _
    · refine ChangesOnly.step (hearPartner_fr _) (by decide) ?_
      exact ChangesOnly.refl _ _
  · refine ChangesOnly.ite ?_ ?_
    · refine ChangesOnly.step (enterRejoin_fr _) (by decide) ?_
      refine ChangesOnly.step (hearPartner_fr _) (by decide) ?_
      exact ChangesOnly.refl _ _
    · refine ChangesOnly.ite ?_ ?_
      · refine ChangesOnly.ite ?_ ?_
        · refine ChangesOnly.step (hearPartner_fr _) (by decide) ?_
          exact ChangesOnly.refl _ _
        · refine ChangesOnly.ite ?_ ?_
          · refine ChangesOnly.ite ?_ ?_
            · refine ChangesOnly.step (hearPartner_fr _) (by decide) ?_
              exact ChangesOnly.refl _ _
            · split
              · refine ChangesOnly.step (sendT_fr _ _) (by decide) ?_
                refine ChangesOnly.step (sendHello_fr _ _) (by decide) ?_
                refine ChangesOnly.step (upPair_fr _ _) (by decide) ?_
                refine ChangesOnly.step (hearPartner_fr _) (by decide) ?_
                exact ChangesOnly.refl _ _
              · refine ChangesOnly.step (sendHello_fr _ _) (by decide) ?_
                refine ChangesOnly.step (upPair_fr _ _) (by decide) ?_
                refine ChangesOnly.step (hearPartner_fr _) (by decide) ?_
                exact ChangesOnly.refl _ _
          · refine ChangesOnly.ite ?_ ?_
            · refine ChangesOnly.step (upPair_fr _ _) (by decide) ?_
              refine ChangesOnly.step (hearPartner_fr _) (by decide) ?_
              exact ChangesOnly.refl _ _
            · refine ChangesOnly.step (rejoinPartner_fr _) (by decide) ?_
              refine ChangesOnly.step (hearPartner_fr _) (by decide) ?_
              exact ChangesOnly.refl _ _
      · refine ChangesOnly.ite ?_ ?_
        · refine ChangesOnly.ite ?_ ?_
          · refine ChangesOnly.step (hearPartner_fr _) (by decide) ?_
            exact ChangesOnly.refl _ _
          · refine ChangesOnly.step (resendAll_fr _) (by decide) ?_
            refine ChangesOnly.step (upPair_fr _ _) (by decide) ?_
            refine ChangesOnly.step (hearPartner_fr _) (by decide) ?_
            exact ChangesOnly.refl _ _
        · refine ChangesOnly.ite ?_ ?_
          · refine ChangesOnly.step (replayMirror_fr _) (by decide) ?_
            refine ChangesOnly.step (fosterPartner_fr _ _) (by decide) ?_
            refine ChangesOnly.step (upPair_fr _ _) (by decide) ?_
            refine ChangesOnly.step (upPair_fr _ _) (by decide) ?_
            refine ChangesOnly.step (hearPartner_fr _) (by decide) ?_
            exact ChangesOnly.refl _ _
          · refine ChangesOnly.step (upPair_fr _ _) (by decide) ?_
            refine ChangesOnly.step (hearPartner_fr _) (by decide) ?_
            exact ChangesOnly.refl _ _

theorem execTetherPair_fr (tag : Nat) (host : HostRead) (s : State) : OutFrame [.tsk, .med, .sec, .pair, .mesh, .free] s (execTetherPair tag host s) := by
  unfold execTetherPair
  try dsimp only
  split
  · refine OutFrame.next ?_
    exact ChangesOnly.refl _ _
  · refine OutFrame.ite ?_ ?_
    · split
      · refine OutFrame.next ?_
        exact ChangesOnly.refl _ _
      · refine OutFrame.ite ?_ ?_
        · refine OutFrame.next ?_
          exact ChangesOnly.refl _ _
        · refine OutFrame.ite ?_ ?_
          · refine OutFrame.next ?_
            refine ChangesOnly.step (startCkpt_fr _) (by decide) ?_
            exact ChangesOnly.refl _ _
          · refine OutFrame.ite ?_ ?_
            · refine OutFrame.next ?_
              refine ChangesOnly.step (finish_fr _ _ _) (by decide) ?_
              refine ChangesOnly.step (pairLog_fr _ _ _ _) (by decide) ?_
              refine ChangesOnly.step (upPair_fr _ _) (by decide) ?_
              exact ChangesOnly.refl _ _
            · refine OutFrame.next ?_
              exact ChangesOnly.refl _ _
    · refine OutFrame.ite ?_ ?_
      · refine OutFrame.next ?_
        refine ChangesOnly.step (finish_fr _ _ _) (by decide) ?_
        exact ChangesOnly.refl _ _
      · split
        · refine OutFrame.next ?_
          exact ChangesOnly.refl _ _
        · refine OutFrame.next ?_
          refine ChangesOnly.step (finish_fr _ _ _) (by decide) ?_
          exact ChangesOnly.refl _ _
        · split
          · refine OutFrame.next ?_
            refine ChangesOnly.step (judgeHello_fr _ _) (by decide) ?_
            refine ChangesOnly.step (upPair_fr _ _) (by decide) ?_
            refine ChangesOnly.step (sendHello_fr _ _) (by decide) ?_
            refine ChangesOnly.step (upPair_fr _ _) (by decide) ?_
            refine ChangesOnly.step (running_fr _ _) (by decide) ?_
            exact ChangesOnly.refl _ _
          · refine OutFrame.next ?_
            refine ChangesOnly.step (sendHello_fr _ _) (by decide) ?_
            refine ChangesOnly.step (upPair_fr _ _) (by decide) ?_
            refine ChangesOnly.step (running_fr _ _) (by decide) ?_
            exact ChangesOnly.refl _ _

theorem execPairHelloTimeout_fr (s : State) : OutFrame [.tsk, .med, .sec, .pair] s (execPairHelloTimeout s) := by
  unfold execPairHelloTimeout
  try dsimp only
  split
  · refine OutFrame.ite ?_ ?_
    · refine OutFrame.next ?_
      exact ChangesOnly.refl _ _
    · refine OutFrame.next ?_
      refine ChangesOnly.step (refusePair_fr _ _) (by decide) ?_
      exact ChangesOnly.refl _ _
  · refine OutFrame.next ?_
    exact ChangesOnly.refl _ _

theorem execTetherUnpair_fr (tag : Nat) (s : State) : OutFrame [.tsk, .med, .sec, .pair, .mesh, .free] s (execTetherUnpair tag s) := by
  unfold execTetherUnpair
  try dsimp only
  split
  · refine OutFrame.next ?_
    exact ChangesOnly.refl _ _
  · refine OutFrame.ite ?_ ?_
    · refine OutFrame.next ?_
      refine ChangesOnly.step (trySeparate_fr _) (by decide) ?_
      exact ChangesOnly.refl _ _
    · refine OutFrame.ite ?_ ?_
      · refine OutFrame.next ?_
        refine ChangesOnly.step (finish_fr _ _ _) (by decide) ?_
        exact ChangesOnly.refl _ _
      · refine OutFrame.next ?_
        refine ChangesOnly.step (trySeparate_fr _) (by decide) ?_
        refine ChangesOnly.step (upPair_fr _ _) (by decide) ?_
        refine ChangesOnly.step (running_fr _ _) (by decide) ?_
        exact ChangesOnly.refl _ _

theorem execUnpair_fr (s : State) : OutFrame [.tsk, .med, .sec, .pair, .mesh, .free] s (execUnpair s) := by
  unfold execUnpair
  try dsimp only
  refine OutFrame.ite ?_ ?_
  · refine OutFrame.next ?_
    exact ChangesOnly.refl _ _
  · refine OutFrame.next ?_
    refine ChangesOnly.step (onUnpair_fr _) (by decide) ?_
    exact ChangesOnly.refl _ _

theorem execHello_fr (m : Machine.TMsg) (s : State) : OutFrame [.tsk, .med, .sec, .pair, .mesh, .free] s (execHello m s) := by
  unfold execHello
  try dsimp only
  refine OutFrame.ite ?_ ?_
  · refine OutFrame.next ?_
    exact ChangesOnly.refl _ _
  · refine OutFrame.next ?_
    refine ChangesOnly.step (onHello_fr _ _) (by decide) ?_
    exact ChangesOnly.refl _ _

theorem execKeyTransfer_fr (vol : Nat) (install : Bool) (capacity : Nat) (attrs : Nat) (s : State) : OutFrame [.tsk, .med, .sec, .pair, .mesh, .free] s (execKeyTransfer vol install capacity attrs s) := by
  unfold execKeyTransfer
  try dsimp only
  refine OutFrame.ite ?_ ?_
  · refine OutFrame.next ?_
    exact ChangesOnly.refl _ _
  · refine OutFrame.next ?_
    refine ChangesOnly.step (onKeyTransfer_fr _ _ _ _ _) (by decide) ?_
    exact ChangesOnly.refl _ _

theorem execMirrorWrite_fr (seq : Nat) (vol : Nat) (op : Nat) (lba : Nat) (blocks : Nat) (data : List Byte) (s : State) : OutFrame [.flt, .sec, .pair, .mesh, .free] s (execMirrorWrite seq vol op lba blocks data s) := by
  unfold execMirrorWrite
  try dsimp only
  refine OutFrame.ite ?_ ?_
  · refine OutFrame.next ?_
    exact ChangesOnly.refl _ _
  · refine OutFrame.next ?_
    refine ChangesOnly.step (onMirrorWrite_fr _ _ _ _ _ _ _) (by decide) ?_
    exact ChangesOnly.refl _ _

theorem execMirrorConfirm_fr (seq : Nat) (s : State) : OutFrame [.tsk, .sec, .pair, .mesh, .free] s (execMirrorConfirm seq s) := by
  unfold execMirrorConfirm
  try dsimp only
  refine OutFrame.ite ?_ ?_
  · refine OutFrame.next ?_
    exact ChangesOnly.refl _ _
  · refine OutFrame.next ?_
    refine ChangesOnly.step (onMirrorConfirm_fr _ _) (by decide) ?_
    exact ChangesOnly.refl _ _

theorem execMirrorRelease_fr (seq : Nat) (s : State) : OutFrame [.pair] s (execMirrorRelease seq s) := by
  unfold execMirrorRelease
  try dsimp only
  refine OutFrame.ite ?_ ?_
  · refine OutFrame.next ?_
    exact ChangesOnly.refl _ _
  · refine OutFrame.next ?_
    refine ChangesOnly.step (onMirrorRelease_fr _ _) (by decide) ?_
    exact ChangesOnly.refl _ _

theorem execJournal_fr (first : Nat) (recs : List Machine.JRec) (s : State) : OutFrame [.flt, .med, .sec, .pair, .mesh, .free] s (execJournal first recs s) := by
  unfold execJournal
  try dsimp only
  refine OutFrame.ite ?_ ?_
  · refine OutFrame.next ?_
    exact ChangesOnly.refl _ _
  · refine OutFrame.next ?_
    refine ChangesOnly.step (onJournal_fr _ _ _) (by decide) ?_
    exact ChangesOnly.refl _ _

theorem execJournalConfirm_fr (last : Nat) (s : State) : OutFrame [.med, .sec, .pair, .mesh, .free] s (execJournalConfirm last s) := by
  unfold execJournalConfirm
  try dsimp only
  refine OutFrame.ite ?_ ?_
  · refine OutFrame.next ?_
    exact ChangesOnly.refl _ _
  · refine OutFrame.next ?_
    refine ChangesOnly.step (onJournalConfirm_fr _ _) (by decide) ?_
    exact ChangesOnly.refl _ _

theorem execRoot_fr (no : Nat) (r : Machine.Root) (s : State) : OutFrame [.med, .sec, .pair, .mesh, .free] s (execRoot no r s) := by
  unfold execRoot
  try dsimp only
  refine OutFrame.ite ?_ ?_
  · refine OutFrame.next ?_
    exact ChangesOnly.refl _ _
  · refine OutFrame.next ?_
    refine ChangesOnly.step (onRoot_fr _ _ _) (by decide) ?_
    exact ChangesOnly.refl _ _

theorem execHeartbeat_fr (count : Nat) (state : Nat) (status : Nat) (readOnly : Bool) (s : State) : OutFrame [.tsk, .med, .sec, .pair, .mesh, .free] s (execHeartbeat count state status readOnly s) := by
  unfold execHeartbeat
  try dsimp only
  refine OutFrame.ite ?_ ?_
  · refine OutFrame.next ?_
    exact ChangesOnly.refl _ _
  · refine OutFrame.ite ?_ ?_
    · refine OutFrame.next ?_
      exact ChangesOnly.refl _ _
    · refine OutFrame.next ?_
      refine ChangesOnly.step (meetPartner_fr _ _ _ _) (by decide) ?_
      exact ChangesOnly.refl _ _

theorem execHeartbeatSend_fr (s : State) : OutFrame [.tsk, .med, .sec, .pair, .mesh, .free] s (execHeartbeatSend s) := by
  unfold execHeartbeatSend
  try dsimp only
  refine OutFrame.ite ?_ ?_
  · refine OutFrame.next ?_
    exact ChangesOnly.refl _ _
  · refine OutFrame.ite ?_ ?_
    · refine OutFrame.next ?_
      exact ChangesOnly.refl _ _
    · refine OutFrame.ite ?_ ?_
      · refine OutFrame.next ?_
        refine ChangesOnly.step (trySeparate_fr _) (by decide) ?_
        exact ChangesOnly.refl _ _
      · refine OutFrame.next ?_
        refine ChangesOnly.step (trySeparate_fr _) (by decide) ?_
        refine ChangesOnly.step (sendT_fr _ _) (by decide) ?_
        refine ChangesOnly.step (upPair_fr _ _) (by decide) ?_
        exact ChangesOnly.refl _ _

theorem execHeartbeatTimeout_fr (s : State) : OutFrame [.pair] s (execHeartbeatTimeout s) := by
  unfold execHeartbeatTimeout
  try dsimp only
  refine OutFrame.ite ?_ ?_
  · refine OutFrame.next ?_
    exact ChangesOnly.refl _ _
  · refine OutFrame.ite ?_ ?_
    · refine OutFrame.next ?_
      exact ChangesOnly.refl _ _
    · refine OutFrame.ite ?_ ?_
      · refine OutFrame.next ?_
        refine ChangesOnly.step (suspectPartner_fr _) (by decide) ?_
        exact ChangesOnly.refl _ _
      · refine OutFrame.next ?_
        refine ChangesOnly.step (upPair_fr _ _) (by decide) ?_
        exact ChangesOnly.refl _ _

theorem execProbeTimer_fr (s : State) : OutFrame [.tsk, .med, .sec, .pair, .mesh, .free] s (execProbeTimer s) := by
  unfold execProbeTimer
  try dsimp only
  refine OutFrame.ite ?_ ?_
  · refine OutFrame.next ?_
    exact ChangesOnly.refl _ _
  · refine OutFrame.ite ?_ ?_
    · refine OutFrame.next ?_
      exact ChangesOnly.refl _ _
    · refine OutFrame.next ?_
      refine ChangesOnly.step (probeNext_fr _) (by decide) ?_
      exact ChangesOnly.refl _ _

theorem execClaimRetry_fr (s : State) : OutFrame [.sec, .pair, .mesh, .free] s (execClaimRetry s) := by
  unfold execClaimRetry
  try dsimp only
  refine OutFrame.ite ?_ ?_
  · refine OutFrame.next ?_
    exact ChangesOnly.refl _ _
  · split
    · refine OutFrame.next ?_
      exact ChangesOnly.refl _ _
    · refine OutFrame.ite ?_ ?_
      · refine OutFrame.next ?_
        exact ChangesOnly.refl _ _
      · refine OutFrame.next ?_
        refine ChangesOnly.step (sendClaim_fr _ _ _ _) (by decide) ?_
        refine ChangesOnly.step (upPair_fr _ _) (by decide) ?_
        exact ChangesOnly.refl _ _

theorem execProbe_fr (src : Nat) (pairId : Nat) (sender : Nat) (target : Nat) (number : Nat) (s : State) : OutFrame [.sec, .mesh, .free] s (execProbe src pairId sender target number s) := by
  unfold execProbe
  try dsimp only
  refine OutFrame.ite ?_ ?_
  · refine OutFrame.next ?_
    exact ChangesOnly.refl _ _
  · refine OutFrame.ite ?_ ?_
    · refine OutFrame.next ?_
      exact ChangesOnly.refl _ _
    · refine OutFrame.next ?_
      refine ChangesOnly.step (sendPair_fr _ _ _ _) (by decide) ?_
      exact ChangesOnly.refl _ _

theorem execProbeAck_fr (src : Nat) (pairId : Nat) (sender : Nat) (target : Nat) (number : Nat) (state : Nat) (status : Nat) (s : State) : OutFrame [.tsk, .med, .sec, .pair, .mesh, .free] s (execProbeAck src pairId sender target number state status s) := by
  unfold execProbeAck
  try dsimp only
  refine OutFrame.ite ?_ ?_
  · refine OutFrame.next ?_
    exact ChangesOnly.refl _ _
  · refine OutFrame.ite ?_ ?_
    · refine OutFrame.next ?_
      exact ChangesOnly.refl _ _
    · refine OutFrame.ite ?_ ?_
      · refine OutFrame.next ?_
        refine ChangesOnly.step (hearPartner_fr _) (by decide) ?_
        exact ChangesOnly.refl _ _
      · refine OutFrame.ite ?_ ?_
        · refine OutFrame.next ?_
          refine ChangesOnly.step (meetPartner_fr _ _ _ _) (by decide) ?_
          refine ChangesOnly.step (upPair_fr _ _) (by decide) ?_
          refine ChangesOnly.step (pairLog_fr _ _ _ _) (by decide) ?_
          exact ChangesOnly.refl _ _
        · refine OutFrame.next ?_
          refine ChangesOnly.step (sendJournal_fr _ _ _) (by decide) ?_
          refine ChangesOnly.step (resendEntries_fr _ _) (by decide) ?_
          refine ChangesOnly.foldl (fun _ _ => ?_) ?_
          · refine ChangesOnly.step (sendT_fr _ _) (by decide) ?_
            exact ChangesOnly.refl _ _
          · refine ChangesOnly.step (hearPartner_fr _) (by decide) ?_
            refine ChangesOnly.step (upPair_fr _ _) (by decide) ?_
            refine ChangesOnly.step (upPair_fr _ _) (by decide) ?_
            refine ChangesOnly.step (pairLog_fr _ _ _ _) (by decide) ?_
            exact ChangesOnly.refl _ _

theorem execClaim_fr (src : Nat) (pairId : Nat) (claimant : Nat) (partner : Nat) (number : Nat) (release : Bool) (s : State) : OutFrame [.sec, .pair, .mesh, .free] s (execClaim src pairId claimant partner number release s) := by
  unfold execClaim
  try dsimp only
  refine OutFrame.ite ?_ ?_
  · refine OutFrame.next ?_
    exact ChangesOnly.refl _ _
  · refine OutFrame.ite ?_ ?_
    · refine OutFrame.next ?_
      refine ChangesOnly.step (sendPair_fr _ _ _ _) (by decide) ?_
      refine ChangesOnly.ite ?_ ?_
      · refine ChangesOnly.step (upPair_fr _ _) (by decide) ?_
        exact ChangesOnly.refl _ _
      · exact ChangesOnly.refl _ _
    · split
      · refine OutFrame.next ?_
        refine ChangesOnly.step (sendPair_fr _ _ _ _) (by decide) ?_
        refine ChangesOnly.step (upPair_fr _ _) (by decide) ?_
        exact ChangesOnly.refl _ _
      · refine OutFrame.ite ?_ ?_
        · refine OutFrame.next ?_
          refine ChangesOnly.step (sendPair_fr _ _ _ _) (by decide) ?_
          exact ChangesOnly.refl _ _
        · refine OutFrame.next ?_
          refine ChangesOnly.step (sendPair_fr _ _ _ _) (by decide) ?_
          exact ChangesOnly.refl _ _

theorem execClaimGrant_fr (src : Nat) (pairId : Nat) (claimant : Nat) (partner : Nat) (number : Nat) (release : Bool) (s : State) : OutFrame [.tsk, .med, .sec, .pair, .mesh, .free] s (execClaimGrant src pairId claimant partner number release s) := by
  unfold execClaimGrant
  try dsimp only
  refine OutFrame.ite ?_ ?_
  · refine OutFrame.next ?_
    exact ChangesOnly.refl _ _
  · split
    · refine OutFrame.next ?_
      exact ChangesOnly.refl _ _
    · refine OutFrame.ite ?_ ?_
      · refine OutFrame.next ?_
        refine ChangesOnly.step (winClaim_fr _ _ _) (by decide) ?_
        refine ChangesOnly.step (upPair_fr _ _) (by decide) ?_
        exact ChangesOnly.refl _ _
      · refine OutFrame.next ?_
        refine ChangesOnly.step (upPair_fr _ _) (by decide) ?_
        exact ChangesOnly.refl _ _

theorem execClaimRefuse_fr (src : Nat) (pairId : Nat) (claimant : Nat) (partner : Nat) (number : Nat) (holder : Nat) (s : State) : OutFrame [.hst, .tsk, .med, .drc, .cmp, .sec, .pair, .mesh, .hostMem, .arena, .free] s (execClaimRefuse src pairId claimant partner number holder s) := by
  unfold execClaimRefuse
  try dsimp only
  refine OutFrame.ite ?_ ?_
  · refine OutFrame.next ?_
    exact ChangesOnly.refl _ _
  · split
    · refine OutFrame.next ?_
      exact ChangesOnly.refl _ _
    · refine OutFrame.ite ?_ ?_
      · refine OutFrame.next ?_
        refine ChangesOnly.step (loseClaim_fr _ _) (by decide) ?_
        refine ChangesOnly.step (upPair_fr _ _) (by decide) ?_
        exact ChangesOnly.refl _ _
      · refine OutFrame.next ?_
        refine ChangesOnly.step (upPair_fr _ _) (by decide) ?_
        exact ChangesOnly.refl _ _

theorem onYield_fr (s : State) : ChangesOnly [.tsk, .med, .sec, .pair, .mesh, .free] s (onYield s) := by
  unfold onYield
  try dsimp only
  refine ChangesOnly.ite ?_ ?_
  · refine ChangesOnly.step (startClaim_fr _) (by decide) ?_
    refine ChangesOnly.step (upPair_fr _ _) (by decide) ?_
    refine ChangesOnly.step (suspectPartner_fr _) (by decide) ?_
    exact ChangesOnly.refl _ _
  · exact ChangesOnly.refl _ _

theorem execYieldMsg_fr (s : State) : OutFrame [.tsk, .med, .sec, .pair, .mesh, .free] s (execYieldMsg s) := by
  unfold execYieldMsg
  try dsimp only
  refine OutFrame.ite ?_ ?_
  · refine OutFrame.next ?_
    exact ChangesOnly.refl _ _
  · refine OutFrame.next ?_
    refine ChangesOnly.step (onYield_fr _) (by decide) ?_
    exact ChangesOnly.refl _ _

theorem execTakeover_fr (tag : Nat) (s : State) : OutFrame [.tsk, .med, .sec, .pair, .mesh, .free] s (execTakeover tag s) := by
  unfold execTakeover
  try dsimp only
  split
  · refine OutFrame.next ?_
    exact ChangesOnly.refl _ _
  · refine OutFrame.ite ?_ ?_
    · refine OutFrame.next ?_
      exact ChangesOnly.refl _ _
    · refine OutFrame.ite ?_ ?_
      · refine OutFrame.next ?_
        refine ChangesOnly.step (finish_fr _ _ _) (by decide) ?_
        exact ChangesOnly.refl _ _
      · refine OutFrame.ite ?_ ?_
        · refine OutFrame.next ?_
          refine ChangesOnly.step (finish_fr _ _ _) (by decide) ?_
          exact ChangesOnly.refl _ _
        · refine OutFrame.ite ?_ ?_
          · refine OutFrame.next ?_
            refine ChangesOnly.step (winClaim_fr _ _ _) (by decide) ?_
            refine ChangesOnly.step (upPair_fr _ _) (by decide) ?_
            refine ChangesOnly.step (running_fr _ _) (by decide) ?_
            exact ChangesOnly.refl _ _
          · refine OutFrame.ite ?_ ?_
            · refine OutFrame.next ?_
              refine ChangesOnly.step (suspectPartner_fr _) (by decide) ?_
              refine ChangesOnly.step (upPair_fr _ _) (by decide) ?_
              refine ChangesOnly.step (running_fr _ _) (by decide) ?_
              exact ChangesOnly.refl _ _
            · refine OutFrame.ite ?_ ?_
              · refine OutFrame.next ?_
                refine ChangesOnly.step (probeNext_fr _) (by decide) ?_
                refine ChangesOnly.step (suspectPartner_fr _) (by decide) ?_
                refine ChangesOnly.step (upPair_fr _ _) (by decide) ?_
                refine ChangesOnly.step (running_fr _ _) (by decide) ?_
                exact ChangesOnly.refl _ _
              · refine OutFrame.next ?_
                refine ChangesOnly.step (startClaim_fr _) (by decide) ?_
                refine ChangesOnly.step (suspectPartner_fr _) (by decide) ?_
                refine ChangesOnly.step (upPair_fr _ _) (by decide) ?_
                refine ChangesOnly.step (running_fr _ _) (by decide) ?_
                exact ChangesOnly.refl _ _

theorem execTetherStable_fr (s : State) : OutFrame [.pair] s (execTetherStable s) := by
  unfold execTetherStable
  try dsimp only
  refine OutFrame.ite ?_ ?_
  · refine OutFrame.next ?_
    exact ChangesOnly.refl _ _
  · refine OutFrame.ite ?_ ?_
    · refine OutFrame.next ?_
      exact ChangesOnly.refl _ _
    · refine OutFrame.next ?_
      refine ChangesOnly.step (upPair_fr _ _) (by decide) ?_
      exact ChangesOnly.refl _ _

theorem execPartnerDirectoryRebuild_fr (found : Bool) (s : State) : OutFrame [.pair] s (execPartnerDirectoryRebuild found s) := by
  unfold execPartnerDirectoryRebuild
  try dsimp only
  refine OutFrame.ite ?_ ?_
  · refine OutFrame.next ?_
    exact ChangesOnly.refl _ _
  · refine OutFrame.ite ?_ ?_
    · refine OutFrame.next ?_
      exact ChangesOnly.refl _ _
    · split
      · refine OutFrame.next ?_
        refine ChangesOnly.step (upPair_fr _ _) (by decide) ?_
        exact ChangesOnly.refl _ _
      · refine OutFrame.next ?_
        refine ChangesOnly.step (upPair_fr _ _) (by decide) ?_
        exact ChangesOnly.refl _ _

theorem execBlockRead_fr (req : Nat) (vol : Nat) (lba : Nat) (blocks : Nat) (media : MediaIn) (s : State) : OutFrame [.sec, .pair, .mesh, .free] s (execBlockRead req vol lba blocks media s) := by
  unfold execBlockRead
  try dsimp only
  refine OutFrame.ite ?_ ?_
  · refine OutFrame.next ?_
    exact ChangesOnly.refl _ _
  · refine OutFrame.next ?_
    refine ChangesOnly.step (onBlockRead_fr _ _ _ _ _ _) (by decide) ?_
    exact ChangesOnly.refl _ _

theorem execBlockData_fr (req : Nat) (status : Nat) (data : List Byte) (s : State) : OutFrame [.pair] s (execBlockData req status data s) := by
  unfold execBlockData
  try dsimp only
  refine OutFrame.ite ?_ ?_
  · refine OutFrame.next ?_
    exact ChangesOnly.refl _ _
  · refine OutFrame.next ?_
    refine ChangesOnly.step (onBlockData_fr _ _ _ _) (by decide) ?_
    exact ChangesOnly.refl _ _

theorem execHandback_fr (wseq : Nat) (vol : Nat) (form : Nat) (lba : Nat) (data : List Byte) (s : State) : OutFrame [.flt, .med, .pair] s (execHandback wseq vol form lba data s) := by
  unfold execHandback
  try dsimp only
  refine OutFrame.ite ?_ ?_
  · refine OutFrame.next ?_
    exact ChangesOnly.refl _ _
  · refine OutFrame.next ?_
    refine ChangesOnly.step (onHandback_fr _ _ _ _ _ _) (by decide) ?_
    exact ChangesOnly.refl _ _

def Pair3Frame {α : Type} (ps : List Part) (s : State) (x : Option (α × State) × State) : Prop := (∀ a t, x.1 = some (a, t) → ChangesOnly ps s t) ∧ ChangesOnly ps s x.2
theorem handOne_fr (s : State) (m : MediaIn) (v lba : Nat) : Pair3Frame [.flt, .med, .sec, .pair, .mesh, .free] s (handOne s m v lba) := by
  have r := ChangesOnly.step (ps := [.flt, .med, .sec, .pair, .mesh, .free]) (resolve_fr s v lba) (by decide) (ChangesOnly.refl _ _)
  have n : ∀ t, ChangesOnly [.flt, .med, .sec, .pair, .mesh, .free] s t → Pair3Frame (α := Bool) [.flt, .med, .sec, .pair, .mesh, .free] s (none, t) :=
    fun t h => ⟨(by intro a u e; cases e), h⟩
  have m' : ∀ (t u : State) (b : Bool), ChangesOnly [.flt, .med, .sec, .pair, .mesh, .free] s t → ChangesOnly [.flt, .med, .sec, .pair, .mesh, .free] s u →
      Pair3Frame [.flt, .med, .sec, .pair, .mesh, .free] s (some (b, u), t) :=
    fun t u b h k => ⟨(by intro a u' e; cases e; exact k), h⟩
  have g := fun e => ChangesOnly.step (ps := [.flt, .med, .sec, .pair, .mesh, .free]) (fetchEntry_fr (resolve s v lba).2 m v lba e false) (by decide) r
  have snd : ∀ (t : State) (e : MapEntry) (b : List Byte), ChangesOnly [.flt, .med, .sec, .pair, .mesh, .free] s t →
      ChangesOnly [.flt, .med, .sec, .pair, .mesh, .free] s (match e.form with
    | .zero => sendT t (.handback (entryWseq t e) v 1 lba [])
    | .remote _ _ _ =>
      sendT (freeBelow t (max 1 t.pair.takeoverMark)).2 (.handback (freeBelow t (max 1 t.pair.takeoverMark)).1 v 0 lba b)
    | _ => sendT t (.handback (entryWseq t e) v 0 lba b)) := by
    intro t e b h
    split
    · exact ChangesOnly.step (sendT_fr _ _) (by decide) h
    · exact ChangesOnly.step (sendT_fr _ _) (by decide) (ChangesOnly.step (freeBelow_fr _ _) (by decide) h)
    · exact ChangesOnly.step (sendT_fr _ _) (by decide) h
  unfold handOne
  dsimp only
  split
  · exact n _ r
  · rename_i e _
    split
    · exact n _ (g e)
    · exact m' _ _ _ (g e) (g e)
    · exact m' _ _ _ (g e) (snd _ _ _ (g e))
    · split
      · exact m' _ _ _ (g e) (snd _ _ _ (g e))
      · exact m' _ _ _ (g e) (g e)
  · exact m' _ _ _ r r

theorem handRound_fr (s : State) (m : MediaIn) (l : List (Nat × Nat)) : ChangesOnly [.flt, .med, .sec, .pair, .mesh, .free] s (handRound s m l).1 := by
  unfold handRound
  refine ChangesOnly.foldl1 (fun a x => ?_) (ChangesOnly.refl _ _)
  have := handOne_fr a.1 m x.1 x.2
  split
  · rename_i h
    rw [h] at this
    exact this.2
  · rename_i h
    rw [h] at this
    exact this.1 _ _ rfl

theorem sendCutover_fr (s : State) (h : Machine.Handback) : ChangesOnly [.tsk, .med, .sec, .pair, .mesh, .free] s (sendCutover s h) := by
  unfold sendCutover
  try dsimp only
  split
  · refine ChangesOnly.step (finish_fr _ _ _) (by decide) ?_
    refine ChangesOnly.step (upPair_fr _ _) (by decide) ?_
    refine ChangesOnly.step (sendKeys_fr _ _) (by decide) ?_
    refine ChangesOnly.step (resendJournal_fr _) (by decide) ?_
    refine ChangesOnly.step (upPair_fr _ _) (by decide) ?_
    refine ChangesOnly.step (upMed_fr _ _) (by decide) ?_
    refine ChangesOnly.step (pairLog_fr _ _ _ _) (by decide) ?_
    refine ChangesOnly.step (upPair_fr _ _) (by decide) ?_
    refine ChangesOnly.step (sendClaim_fr _ _ _ _) (by decide) ?_
    refine ChangesOnly.step (upSec_fr _ _) (by decide) ?_
    refine ChangesOnly.foldl (fun _ _ => ?_) ?_
    · refine ChangesOnly.step (removeVolume_fr _ _) (by decide) ?_
      exact ChangesOnly.refl _ _
    · refine ChangesOnly.step (sendT_fr _ _) (by decide) ?_
      exact ChangesOnly.refl _ _
  · refine ChangesOnly.step (sendKeys_fr _ _) (by decide) ?_
    refine ChangesOnly.step (resendJournal_fr _) (by decide) ?_
    refine ChangesOnly.step (upPair_fr _ _) (by decide) ?_
    refine ChangesOnly.step (upMed_fr _ _) (by decide) ?_
    refine ChangesOnly.step (pairLog_fr _ _ _ _) (by decide) ?_
    refine ChangesOnly.step (upPair_fr _ _) (by decide) ?_
    refine ChangesOnly.step (sendClaim_fr _ _ _ _) (by decide) ?_
    refine ChangesOnly.step (upSec_fr _ _) (by decide) ?_
    refine ChangesOnly.foldl (fun _ _ => ?_) ?_
    · refine ChangesOnly.step (removeVolume_fr _ _) (by decide) ?_
      exact ChangesOnly.refl _ _
    · refine ChangesOnly.step (sendT_fr _ _) (by decide) ?_
      exact ChangesOnly.refl _ _

theorem endPass_fr (s : State) (h : Machine.Handback) : ChangesOnly [.tsk, .med, .sec, .pair, .mesh, .free] s (endPass s h) := by
  unfold endPass
  try dsimp only
  refine ChangesOnly.ite ?_ ?_
  · refine ChangesOnly.step (sendCutover_fr _ _) (by decide) ?_
    exact ChangesOnly.refl _ _
  · refine ChangesOnly.ite ?_ ?_
    · refine ChangesOnly.ite ?_ ?_
      · refine ChangesOnly.step (upPair_fr _ _) (by decide) ?_
        exact ChangesOnly.refl _ _
      · refine ChangesOnly.step (upPair_fr _ _) (by decide) ?_
        exact ChangesOnly.refl _ _
    · refine ChangesOnly.step (upPair_fr _ _) (by decide) ?_
      exact ChangesOnly.refl _ _

theorem execHandbackPass_fr (media : MediaIn) (s : State) : OutFrame [.flt, .tsk, .med, .sec, .pair, .mesh, .free] s (execHandbackPass media s) := by
  unfold execHandbackPass
  try dsimp only
  refine OutFrame.ite ?_ ?_
  · refine OutFrame.next ?_
    exact ChangesOnly.refl _ _
  · split
    · refine OutFrame.next ?_
      exact ChangesOnly.refl _ _
    · refine OutFrame.ite ?_ ?_
      · refine OutFrame.next ?_
        refine ChangesOnly.step (endPass_fr _ _) (by decide) ?_
        refine ChangesOnly.step (upPair_fr _ _) (by decide) ?_
        refine ChangesOnly.step (handRound_fr _ _ _) (by decide) ?_
        exact ChangesOnly.refl _ _
      · refine OutFrame.next ?_
        refine ChangesOnly.step (upPair_fr _ _) (by decide) ?_
        refine ChangesOnly.step (handRound_fr _ _ _) (by decide) ?_
        exact ChangesOnly.refl _ _

theorem execCutover_fr (s : State) : OutFrame [.tsk, .med, .sec, .pair, .mesh, .free] s (execCutover s) := by
  unfold execCutover
  try dsimp only
  refine OutFrame.ite ?_ ?_
  · refine OutFrame.next ?_
    exact ChangesOnly.refl _ _
  · refine OutFrame.next ?_
    refine ChangesOnly.step (onCutover_fr _) (by decide) ?_
    exact ChangesOnly.refl _ _

theorem execTunnel_fr (src : Nat) (m : Machine.TMsg) (s : State) : OutFrame [.flt, .tsk, .med, .sec, .pair, .mesh, .free] s (execTunnel src m s) := by
  unfold execTunnel
  try dsimp only
  refine OutFrame.ite ?_ ?_
  · refine OutFrame.next ?_
    exact ChangesOnly.refl _ _
  · refine OutFrame.ite ?_ ?_
    · refine OutFrame.next ?_
      exact ChangesOnly.refl _ _
    · split
      · refine OutFrame.next ?_
        refine ChangesOnly.step (onHello_fr _ _) (by decide) ?_
        exact ChangesOnly.refl _ _
      · refine OutFrame.next ?_
        refine ChangesOnly.step (onKeyTransfer_fr _ _ _ _ _) (by decide) ?_
        exact ChangesOnly.refl _ _
      · refine OutFrame.next ?_
        refine ChangesOnly.step (onMirrorWrite_fr _ _ _ _ _ _ _) (by decide) ?_
        exact ChangesOnly.refl _ _
      · refine OutFrame.next ?_
        refine ChangesOnly.step (onMirrorConfirm_fr _ _) (by decide) ?_
        exact ChangesOnly.refl _ _
      · refine OutFrame.next ?_
        refine ChangesOnly.step (onMirrorRelease_fr _ _) (by decide) ?_
        exact ChangesOnly.refl _ _
      · refine OutFrame.next ?_
        refine ChangesOnly.step (onJournal_fr _ _ _) (by decide) ?_
        exact ChangesOnly.refl _ _
      · refine OutFrame.next ?_
        refine ChangesOnly.step (onJournalConfirm_fr _ _) (by decide) ?_
        exact ChangesOnly.refl _ _
      · refine OutFrame.next ?_
        refine ChangesOnly.step (onRoot_fr _ _ _) (by decide) ?_
        exact ChangesOnly.refl _ _
      · refine OutFrame.next ?_
        refine ChangesOnly.step (meetPartner_fr _ _ _ _) (by decide) ?_
        exact ChangesOnly.refl _ _
      · refine OutFrame.next ?_
        refine ChangesOnly.step (onBlockRead_fr _ _ _ _ _ _) (by decide) ?_
        exact ChangesOnly.refl _ _
      · refine OutFrame.next ?_
        refine ChangesOnly.step (onBlockData_fr _ _ _ _) (by decide) ?_
        exact ChangesOnly.refl _ _
      · refine OutFrame.next ?_
        refine ChangesOnly.step (onHandback_fr _ _ _ _ _ _) (by decide) ?_
        exact ChangesOnly.refl _ _
      · refine OutFrame.next ?_
        refine ChangesOnly.step (onCutover_fr _) (by decide) ?_
        exact ChangesOnly.refl _ _
      · refine OutFrame.next ?_
        refine ChangesOnly.step (onYield_fr _) (by decide) ?_
        exact ChangesOnly.refl _ _
      · refine OutFrame.next ?_
        refine ChangesOnly.step (onUnpair_fr _) (by decide) ?_
        exact ChangesOnly.refl _ _


/-! ### Stripes -/

theorem tryActive_fr (s : State) (id : Nat) : ChangesOnly [.tsk, .pair, .mesh] s (tryActive s id) := by
  unfold tryActive
  try dsimp only
  split
  · exact ChangesOnly.refl _ _
  · refine ChangesOnly.ite ?_ ?_
    · split
      · refine ChangesOnly.step (finish_fr _ _ _) (by decide) ?_
        refine ChangesOnly.step (groupLog_fr _ _ _ _) (by decide) ?_
        refine ChangesOnly.step (modGroup_fr _ _ _) (by decide) ?_
        exact ChangesOnly.refl _ _
      · refine ChangesOnly.step (groupLog_fr _ _ _ _) (by decide) ?_
        refine ChangesOnly.step (modGroup_fr _ _ _) (by decide) ?_
        exact ChangesOnly.refl _ _
    · exact ChangesOnly.refl _ _

theorem countHello_fr (s : State) (src : Nat) (id : Nat) (k : Nat) (m : Nat) (index : Nat) (digest : List Byte) : ChangesOnly [.tsk, .pair, .mesh] s (countHello s src id k m index digest) := by
  unfold countHello
  try dsimp only
  split
  · exact ChangesOnly.refl _ _
  · refine ChangesOnly.ite ?_ ?_
    · refine ChangesOnly.step (tryActive_fr _ _) (by decide) ?_
      refine ChangesOnly.step (modGroup_fr _ _ _) (by decide) ?_
      exact ChangesOnly.refl _ _
    · exact ChangesOnly.refl _ _

theorem tryDissolve_fr (s : State) (id : Nat) : ChangesOnly [.tsk, .med, .sec, .pair, .mesh, .free] s (tryDissolve s id) := by
  unfold tryDissolve
  try dsimp only
  split
  · exact ChangesOnly.refl _ _
  · refine ChangesOnly.ite ?_ ?_
    · split
      · refine ChangesOnly.step (finish_fr _ _ _) (by decide) ?_
        refine ChangesOnly.step (upMesh_fr _ _) (by decide) ?_
        refine ChangesOnly.step (groupLog_fr _ _ _ _) (by decide) ?_
        refine ChangesOnly.foldl (fun _ _ => ?_) ?_
        · refine ChangesOnly.step (segSettled_fr _ _ _) (by decide) ?_
          refine ChangesOnly.step (releaseSeg_fr _ _ _ _) (by decide) ?_
          exact ChangesOnly.refl _ _
        · refine ChangesOnly.foldl (fun _ _ => ?_) ?_
          · refine ChangesOnly.step (releaseHere_fr _ _ _) (by decide) ?_
            exact ChangesOnly.refl _ _
          · exact ChangesOnly.refl _ _
      · refine ChangesOnly.step (upMesh_fr _ _) (by decide) ?_
        refine ChangesOnly.step (groupLog_fr _ _ _ _) (by decide) ?_
        refine ChangesOnly.foldl (fun _ _ => ?_) ?_
        · refine ChangesOnly.step (segSettled_fr _ _ _) (by decide) ?_
          refine ChangesOnly.step (releaseSeg_fr _ _ _ _) (by decide) ?_
          exact ChangesOnly.refl _ _
        · refine ChangesOnly.foldl (fun _ _ => ?_) ?_
          · refine ChangesOnly.step (releaseHere_fr _ _ _) (by decide) ?_
            exact ChangesOnly.refl _ _
          · exact ChangesOnly.refl _ _
    · exact ChangesOnly.refl _ _

theorem execStripeGroupJoin_fr (tag : Nat) (host : HostRead) (s : State) : OutFrame [.tsk, .sec, .pair, .mesh, .free] s (execStripeGroupJoin tag host s) := by
  unfold execStripeGroupJoin
  try dsimp only
  split
  · refine OutFrame.next ?_
    exact ChangesOnly.refl _ _
  · refine OutFrame.ite ?_ ?_
    · refine OutFrame.next ?_
      exact ChangesOnly.refl _ _
    · split
      · refine OutFrame.next ?_
        refine ChangesOnly.step (finish_fr _ _ _) (by decide) ?_
        exact ChangesOnly.refl _ _
      · split
        · refine OutFrame.next ?_
          exact ChangesOnly.refl _ _
        · refine OutFrame.next ?_
          refine ChangesOnly.step (finish_fr _ _ _) (by decide) ?_
          exact ChangesOnly.refl _ _
        · refine OutFrame.ite ?_ ?_
          · refine OutFrame.next ?_
            refine ChangesOnly.step (finish_fr _ _ _) (by decide) ?_
            exact ChangesOnly.refl _ _
          · refine OutFrame.next ?_
            refine ChangesOnly.step (tryActive_fr _ _) (by decide) ?_
            refine ChangesOnly.foldl (fun _ _ => ?_) ?_
            · refine ChangesOnly.step (countHello_fr _ _ _ _ _ _ _) (by decide) ?_
              exact ChangesOnly.refl _ _
            · refine ChangesOnly.step (sendOthers_fr _ _ _) (by decide) ?_
              refine ChangesOnly.step (upMesh_fr _ _) (by decide) ?_
              refine ChangesOnly.step (running_fr _ _) (by decide) ?_
              exact ChangesOnly.refl _ _

theorem formedHello_fr (s : State) (g : Machine.Group) (src : Nat) (k : Nat) (m : Nat) (index : Nat) (digest : List Byte) : ChangesOnly [.tsk, .med, .sec, .pair, .mesh, .free] s (formedHello s g src k m index digest) := by
  unfold formedHello
  try dsimp only
  refine ChangesOnly.ite ?_ ?_
  · exact ChangesOnly.refl _ _
  · refine ChangesOnly.ite ?_ ?_
    · split
      · refine ChangesOnly.step (sendM_fr _ _ _ _) (by decide) ?_
        refine ChangesOnly.step (modGroup_fr _ _ _) (by decide) ?_
        exact ChangesOnly.refl _ _
      · refine ChangesOnly.step (modGroup_fr _ _ _) (by decide) ?_
        exact ChangesOnly.refl _ _
    · refine ChangesOnly.ite ?_ ?_
      · refine ChangesOnly.step (tryDissolve_fr _ _) (by decide) ?_
        refine ChangesOnly.step (modGroup_fr _ _ _) (by decide) ?_
        exact ChangesOnly.refl _ _
      · exact ChangesOnly.refl _ _

theorem execGroupHello_fr (src : Nat) (group : Nat) (k : Nat) (m : Nat) (index : Nat) (digest : List Byte) (s : State) : OutFrame [.tsk, .med, .sec, .pair, .mesh, .free] s (execGroupHello src group k m index digest s) := by
  unfold execGroupHello
  try dsimp only
  refine OutFrame.ite ?_ ?_
  · refine OutFrame.next ?_
    exact ChangesOnly.refl _ _
  · split
    · refine OutFrame.next ?_
      refine ChangesOnly.step (upMesh_fr _ _) (by decide) ?_
      exact ChangesOnly.refl _ _
    · refine OutFrame.next ?_
      refine ChangesOnly.ite ?_ ?_
      · refine ChangesOnly.step (countHello_fr _ _ _ _ _ _ _) (by decide) ?_
        exact ChangesOnly.refl _ _
      · refine ChangesOnly.step (formedHello_fr _ _ _ _ _ _ _) (by decide) ?_
        exact ChangesOnly.refl _ _

theorem execGroupHelloTimeout_fr (group : Nat) (s : State) : OutFrame [.tsk, .mesh] s (execGroupHelloTimeout group s) := by
  unfold execGroupHelloTimeout
  try dsimp only
  split
  · refine OutFrame.next ?_
    exact ChangesOnly.refl _ _
  · refine OutFrame.ite ?_ ?_
    · refine OutFrame.next ?_
      exact ChangesOnly.refl _ _
    · split
      · refine OutFrame.next ?_
        refine ChangesOnly.step (finish_fr _ _ _) (by decide) ?_
        refine ChangesOnly.step (upMesh_fr _ _) (by decide) ?_
        exact ChangesOnly.refl _ _
      · refine OutFrame.next ?_
        refine ChangesOnly.step (upMesh_fr _ _) (by decide) ?_
        exact ChangesOnly.refl _ _

theorem execStripeGroupLeave_fr (tag : Nat) (s : State) : OutFrame [.tsk, .med, .sec, .pair, .mesh, .free] s (execStripeGroupLeave tag s) := by
  unfold execStripeGroupLeave
  try dsimp only
  split
  · refine OutFrame.next ?_
    exact ChangesOnly.refl _ _
  · refine OutFrame.ite ?_ ?_
    · refine OutFrame.next ?_
      exact ChangesOnly.refl _ _
    · split
      · refine OutFrame.next ?_
        refine ChangesOnly.step (finish_fr _ _ _) (by decide) ?_
        exact ChangesOnly.refl _ _
      · refine OutFrame.ite ?_ ?_
        · refine OutFrame.next ?_
          refine ChangesOnly.step (finish_fr _ _ _) (by decide) ?_
          exact ChangesOnly.refl _ _
        · refine OutFrame.next ?_
          refine ChangesOnly.step (tryDissolve_fr _ _) (by decide) ?_
          refine ChangesOnly.step (sendOthers_fr _ _ _) (by decide) ?_
          refine ChangesOnly.step (modGroup_fr _ _ _) (by decide) ?_
          refine ChangesOnly.step (running_fr _ _) (by decide) ?_
          exact ChangesOnly.refl _ _

theorem answerIntent_fr (s : State) (g : Machine.Group) (src : Nat) (i : Nat) (t : Nat) (answer : Nat) : ChangesOnly [.sec, .mesh, .free] s (answerIntent s g src i t answer) := by
  unfold answerIntent
  try dsimp only
  refine ChangesOnly.step (sendM_fr _ _ _ _) (by decide) ?_
  exact ChangesOnly.refl _ _

theorem execIntent_fr (src : Nat) (group : Nat) (stripe : Nat) (d : Nat) (band : Nat) (seg : Nat) (s : State) : OutFrame [.sec, .mesh, .free] s (execIntent src group stripe d band seg s) := by
  unfold execIntent
  try dsimp only
  refine OutFrame.ite ?_ ?_
  · refine OutFrame.next ?_
    exact ChangesOnly.refl _ _
  · split
    · refine OutFrame.next ?_
      exact ChangesOnly.refl _ _
    · split
      · refine OutFrame.next ?_
        exact ChangesOnly.refl _ _
      · refine OutFrame.ite ?_ ?_
        · refine OutFrame.next ?_
          exact ChangesOnly.refl _ _
        · refine OutFrame.ite ?_ ?_
          · refine OutFrame.next ?_
            refine ChangesOnly.step (answerIntent_fr _ _ _ _ _ _) (by decide) ?_
            exact ChangesOnly.refl _ _
          · refine OutFrame.ite ?_ ?_
            · refine OutFrame.next ?_
              refine ChangesOnly.step (answerIntent_fr _ _ _ _ _ _) (by decide) ?_
              exact ChangesOnly.refl _ _
            · refine OutFrame.ite ?_ ?_
              · refine OutFrame.next ?_
                refine ChangesOnly.step (answerIntent_fr _ _ _ _ _ _) (by decide) ?_
                exact ChangesOnly.refl _ _
              · split
                · refine OutFrame.next ?_
                  exact ChangesOnly.refl _ _
                · refine OutFrame.next ?_
                  refine ChangesOnly.ite ?_ ?_
                  · refine ChangesOnly.step (fixStripe_fr _ _ _ _) (by decide) ?_
                    refine ChangesOnly.step (answerIntent_fr _ _ _ _ _ _) (by decide) ?_
                    refine ChangesOnly.step (modStripe_fr _ _ _ _) (by decide) ?_
                    refine ChangesOnly.step (OptFrame.of (allot_fr _ _ _) (by assumption)) (by decide) ?_
                    refine ChangesOnly.step (holdStripe_fr _ _ _) (by decide) ?_
                    exact ChangesOnly.refl _ _
                  · refine ChangesOnly.step (answerIntent_fr _ _ _ _ _ _) (by decide) ?_
                    refine ChangesOnly.step (modStripe_fr _ _ _ _) (by decide) ?_
                    refine ChangesOnly.step (OptFrame.of (allot_fr _ _ _) (by assumption)) (by decide) ?_
                    refine ChangesOnly.step (holdStripe_fr _ _ _) (by decide) ?_
                    exact ChangesOnly.refl _ _

theorem execIntentReply_fr (src : Nat) (group : Nat) (stripe : Nat) (answer : Nat) (lowest : Nat) (s : State) : OutFrame [.sec, .mesh, .free] s (execIntentReply src group stripe answer lowest s) := by
  unfold execIntentReply
  try dsimp only
  refine OutFrame.ite ?_ ?_
  · refine OutFrame.next ?_
    exact ChangesOnly.refl _ _
  · split
    · refine OutFrame.ite ?_ ?_
      · refine OutFrame.next ?_
        exact ChangesOnly.refl _ _
      · refine OutFrame.ite ?_ ?_
        · refine OutFrame.next ?_
          refine ChangesOnly.step (offerNext_fr _ _) (by decide) ?_
          refine ChangesOnly.step (contribute_fr _ _ _ _) (by decide) ?_
          refine ChangesOnly.step (modGroup_fr _ _ _) (by decide) ?_
          refine ChangesOnly.step (modOwn_fr _ _ _ _) (by decide) ?_
          exact ChangesOnly.refl _ _
        · refine OutFrame.ite ?_ ?_
          · refine OutFrame.next ?_
            refine ChangesOnly.step (offerSeg_fr _ _ _ _ _) (by decide) ?_
            refine ChangesOnly.step (upMesh_fr _ _) (by decide) ?_
            exact ChangesOnly.refl _ _
          · refine OutFrame.next ?_
            refine ChangesOnly.step (offerSeg_fr _ _ _ _ _) (by decide) ?_
            exact ChangesOnly.refl _ _
    · refine OutFrame.next ?_
      exact ChangesOnly.refl _ _

theorem execStripeDeadline_fr (group : Nat) (stripe : Nat) (s : State) : OutFrame [.sec, .mesh, .free] s (execStripeDeadline group stripe s) := by
  unfold execStripeDeadline
  try dsimp only
  refine OutFrame.ite ?_ ?_
  · refine OutFrame.next ?_
    exact ChangesOnly.refl _ _
  · split
    · refine OutFrame.ite ?_ ?_
      · refine OutFrame.next ?_
        exact ChangesOnly.refl _ _
      · refine OutFrame.next ?_
        refine ChangesOnly.step (fixStripe_fr _ _ _ _) (by decide) ?_
        exact ChangesOnly.refl _ _
    · refine OutFrame.next ?_
      exact ChangesOnly.refl _ _

theorem closeHolder_fr (s : State) (g : Machine.Group) (t : Nat) (r : Machine.StripeRec) : ChangesOnly [.sec, .mesh, .free] s (closeHolder s g t r) := by
  unfold closeHolder
  try dsimp only
  split
  · refine ChangesOnly.step (holdStripe_fr _ _ _) (by decide) ?_
    exact ChangesOnly.refl _ _
  · refine ChangesOnly.ite ?_ ?_
    · refine ChangesOnly.step (holdStripe_fr _ _ _) (by decide) ?_
      exact ChangesOnly.refl _ _
    · refine ChangesOnly.ite ?_ ?_
      · refine ChangesOnly.step (abandonAcc_fr _ _ _ _) (by decide) ?_
        refine ChangesOnly.step (modStripe_fr _ _ _ _) (by decide) ?_
        refine ChangesOnly.step (holdStripe_fr _ _ _) (by decide) ?_
        exact ChangesOnly.refl _ _
      · refine ChangesOnly.step (modStripe_fr _ _ _ _) (by decide) ?_
        refine ChangesOnly.step (holdStripe_fr _ _ _) (by decide) ?_
        exact ChangesOnly.refl _ _

theorem closeMember_fr (s : State) (g : Machine.Group) (t : Nat) (d : Nat) (r : Machine.StripeRec) : ChangesOnly [.sec, .mesh, .free] s (closeMember s g t d r) := by
  unfold closeMember
  try dsimp only
  split
  · refine ChangesOnly.ite ?_ ?_
    · refine ChangesOnly.step (modGroup_fr _ _ _) (by decide) ?_
      exact ChangesOnly.refl _ _
    · exact ChangesOnly.refl _ _
  · refine ChangesOnly.ite ?_ ?_
    · refine ChangesOnly.ite ?_ ?_
      · refine ChangesOnly.step (offerNext_fr _ _) (by decide) ?_
        refine ChangesOnly.step (modOwn_fr _ _ _ _) (by decide) ?_
        refine ChangesOnly.ite ?_ ?_
        · refine ChangesOnly.step (modGroup_fr _ _ _) (by decide) ?_
          exact ChangesOnly.refl _ _
        · exact ChangesOnly.refl _ _
      · refine ChangesOnly.ite ?_ ?_
        · refine ChangesOnly.step (modGroup_fr _ _ _) (by decide) ?_
          exact ChangesOnly.refl _ _
        · exact ChangesOnly.refl _ _
    · refine ChangesOnly.ite ?_ ?_
      · refine ChangesOnly.step (modOwn_fr _ _ _ _) (by decide) ?_
        refine ChangesOnly.ite ?_ ?_
        · refine ChangesOnly.step (modGroup_fr _ _ _) (by decide) ?_
          exact ChangesOnly.refl _ _
        · exact ChangesOnly.refl _ _
      · refine ChangesOnly.ite ?_ ?_
        · refine ChangesOnly.step (modGroup_fr _ _ _) (by decide) ?_
          exact ChangesOnly.refl _ _
        · exact ChangesOnly.refl _ _

theorem execClose_fr (src : Nat) (group : Nat) (stripe : Nat) (r : Machine.StripeRec) (s : State) : OutFrame [.sec, .mesh, .free] s (execClose src group stripe r s) := by
  unfold execClose
  try dsimp only
  refine OutFrame.ite ?_ ?_
  · refine OutFrame.next ?_
    exact ChangesOnly.refl _ _
  · split
    · refine OutFrame.next ?_
      exact ChangesOnly.refl _ _
    · refine OutFrame.ite ?_ ?_
      · refine OutFrame.next ?_
        exact ChangesOnly.refl _ _
      · split
        · refine OutFrame.next ?_
          refine ChangesOnly.step (closeHolder_fr _ _ _ _) (by decide) ?_
          exact ChangesOnly.refl _ _
        · refine OutFrame.next ?_
          refine ChangesOnly.step (closeMember_fr _ _ _ _ _) (by decide) ?_
          exact ChangesOnly.refl _ _
        · refine OutFrame.next ?_
          exact ChangesOnly.refl _ _

theorem execContrib_fr (src : Nat) (group : Nat) (stripe : Nat) (p : Nat) (d : Nat) (j : Nat) (x : Machine.Coded) (s : State) : OutFrame [.mesh] s (execContrib src group stripe p d j x s) := by
  unfold execContrib
  try dsimp only
  refine OutFrame.ite ?_ ?_
  · refine OutFrame.next ?_
    exact ChangesOnly.refl _ _
  · split
    · refine OutFrame.next ?_
      exact ChangesOnly.refl _ _
    · refine OutFrame.ite ?_ ?_
      · refine OutFrame.next ?_
        exact ChangesOnly.refl _ _
      · split
        · refine OutFrame.next ?_
          exact ChangesOnly.refl _ _
        · refine OutFrame.ite ?_ ?_
          · refine OutFrame.next ?_
            exact ChangesOnly.refl _ _
          · split
            · refine OutFrame.next ?_
              exact ChangesOnly.refl _ _
            · refine OutFrame.next ?_
              refine ChangesOnly.step (modStripe_fr _ _ _ _) (by decide) ?_
              refine ChangesOnly.step (OptFrame.of (allot_fr _ _ _) (by assumption)) (by decide) ?_
              refine ChangesOnly.step (holdStripe_fr _ _ _) (by decide) ?_
              exact ChangesOnly.refl _ _

theorem rowProgrammed_fr (s : State) (g : Machine.Group) (t : Nat) (j : Nat) (place : Nat × Nat) : ChangesOnly [.sec, .mesh, .free] s (rowProgrammed s g t j place) := by
  unfold rowProgrammed
  try dsimp only
  refine ChangesOnly.step (rowDone_fr _ _ _ _) (by decide) ?_
  refine ChangesOnly.step (sendOthers_fr _ _ _) (by decide) ?_
  refine ChangesOnly.step (modStripe_fr _ _ _ _) (by decide) ?_
  exact ChangesOnly.refl _ _

theorem execParityProgram_fr (group : Nat) (stripe : Nat) (s : State) : OutFrame [.med, .sec, .pair, .mesh, .free] s (execParityProgram group stripe s) := by
  unfold execParityProgram
  try dsimp only
  refine OutFrame.ite ?_ ?_
  · refine OutFrame.next ?_
    exact ChangesOnly.refl _ _
  · split
    · split
      · refine OutFrame.ite ?_ ?_
        · refine OutFrame.next ?_
          exact ChangesOnly.refl _ _
        · split
          · refine OutFrame.next ?_
            exact ChangesOnly.refl _ _
          · refine OutFrame.next ?_
            refine ChangesOnly.step (tryRelease_fr _ _ _) (by decide) ?_
            refine ChangesOnly.step (rowProgrammed_fr _ _ _ _ _) (by decide) ?_
            refine ChangesOnly.step (Opt2Frame.of (putParity_fr _ _ _) (by assumption)) (by decide) ?_
            exact ChangesOnly.refl _ _
      · refine OutFrame.next ?_
        exact ChangesOnly.refl _ _
    · refine OutFrame.next ?_
      exact ChangesOnly.refl _ _

theorem execParityDone_fr (src : Nat) (group : Nat) (stripe : Nat) (j : Nat) (s : State) : OutFrame [.sec, .pair, .mesh, .free] s (execParityDone src group stripe j s) := by
  unfold execParityDone
  try dsimp only
  refine OutFrame.ite ?_ ?_
  · refine OutFrame.next ?_
    exact ChangesOnly.refl _ _
  · split
    · refine OutFrame.next ?_
      exact ChangesOnly.refl _ _
    · refine OutFrame.ite ?_ ?_
      · refine OutFrame.next ?_
        exact ChangesOnly.refl _ _
      · split
        · refine OutFrame.next ?_
          refine ChangesOnly.ite ?_ ?_
          · refine ChangesOnly.step (ownRows_fr _ _ _ _) (by decide) ?_
            exact ChangesOnly.refl _ _
          · exact ChangesOnly.refl _ _
        · refine OutFrame.next ?_
          refine ChangesOnly.step (rowDone_fr _ _ _ _) (by decide) ?_
          exact ChangesOnly.refl _ _

theorem execResend_fr (src : Nat) (group : Nat) (stripe : Nat) (d : Nat) (s : State) : OutFrame [.sec, .mesh, .free] s (execResend src group stripe d s) := by
  unfold execResend
  try dsimp only
  refine OutFrame.ite ?_ ?_
  · refine OutFrame.next ?_
    exact ChangesOnly.refl _ _
  · split
    · split
      · refine OutFrame.next ?_
        refine ChangesOnly.ite ?_ ?_
        · refine ChangesOnly.step (contribute_fr _ _ _ _) (by decide) ?_
          exact ChangesOnly.refl _ _
        · exact ChangesOnly.refl _ _
      · refine OutFrame.next ?_
        exact ChangesOnly.refl _ _
    · refine OutFrame.next ?_
      exact ChangesOnly.refl _ _

theorem answerLocate_fr (s : State) (src : Nat) (group : Nat) (request : Nat) (member : Nat) (band : Nat) (seg : Nat) : ChangesOnly [.sec, .mesh, .free] s (answerLocate s src group request member band seg) := by
  unfold answerLocate
  try dsimp only
  split
  · exact ChangesOnly.refl _ _
  · refine ChangesOnly.ite ?_ ?_
    · refine ChangesOnly.step (upMesh_fr _ _) (by decide) ?_
      exact ChangesOnly.refl _ _
    · refine ChangesOnly.ite ?_ ?_
      · refine ChangesOnly.step (sendM_fr _ _ _ _) (by decide) ?_
        exact ChangesOnly.refl _ _
      · exact ChangesOnly.refl _ _

theorem execLocate_fr (src : Nat) (group : Nat) (request : Nat) (member : Nat) (band : Nat) (seg : Nat) (s : State) : OutFrame [.sec, .mesh, .free] s (execLocate src group request member band seg s) := by
  unfold execLocate
  try dsimp only
  refine OutFrame.ite ?_ ?_
  · refine OutFrame.next ?_
    exact ChangesOnly.refl _ _
  · refine OutFrame.next ?_
    refine ChangesOnly.step (answerLocate_fr _ _ _ _ _ _ _) (by decide) ?_
    exact ChangesOnly.refl _ _

theorem execStripeIndexReady_fr (s : State) : OutFrame [.sec, .mesh, .free] s (execStripeIndexReady s) := by
  unfold execStripeIndexReady
  try dsimp only
  refine OutFrame.ite ?_ ?_
  · refine OutFrame.next ?_
    exact ChangesOnly.refl _ _
  · refine OutFrame.ite ?_ ?_
    · refine OutFrame.next ?_
      exact ChangesOnly.refl _ _
    · refine OutFrame.next ?_
      refine ChangesOnly.foldl (fun _ _ => ?_) ?_
      · refine ChangesOnly.step (answerLocate_fr _ _ _ _ _ _ _) (by decide) ?_
        exact ChangesOnly.refl _ _
      · refine ChangesOnly.step (upMesh_fr _ _) (by decide) ?_
        exact ChangesOnly.refl _ _

theorem execGossipSend_fr (s : State) : OutFrame [.sec, .mesh, .free] s (execGossipSend s) := by
  unfold execGossipSend
  try dsimp only
  refine OutFrame.ite ?_ ?_
  · refine OutFrame.next ?_
    exact ChangesOnly.refl _ _
  · refine OutFrame.next ?_
    refine ChangesOnly.foldl (fun _ _ => ?_) ?_
    · refine ChangesOnly.ite ?_ ?_
      · exact ChangesOnly.refl _ _
      · refine ChangesOnly.step (sendOthers_fr _ _ _) (by decide) ?_
        refine ChangesOnly.foldl (fun _ _ => ?_) ?_
        · refine ChangesOnly.step (modOwn_fr _ _ _ _) (by decide) ?_
          exact ChangesOnly.refl _ _
        · exact ChangesOnly.refl _ _
    · refine ChangesOnly.step (upMesh_fr _ _) (by decide) ?_
      exact ChangesOnly.refl _ _

theorem markDead_fr (s : State) (g : Machine.Group) (t : Nat) (d : Nat) : ChangesOnly [.mesh] s (markDead s g t d) := by
  unfold markDead
  try dsimp only
  refine ChangesOnly.step (upMesh_fr _ _) (by decide) ?_
  refine ChangesOnly.step (modStripe_fr _ _ _ _) (by decide) ?_
  exact ChangesOnly.refl _ _

theorem execGossip_fr (src : Nat) (group : Nat) (dead : List (Nat × Nat)) (s : State) : OutFrame [.med, .sec, .pair, .mesh, .free] s (execGossip src group dead s) := by
  unfold execGossip
  try dsimp only
  refine OutFrame.ite ?_ ?_
  · refine OutFrame.next ?_
    exact ChangesOnly.refl _ _
  · split
    · refine OutFrame.next ?_
      exact ChangesOnly.refl _ _
    · refine OutFrame.ite ?_ ?_
      · refine OutFrame.next ?_
        refine ChangesOnly.step (jStall_fr _) (by decide) ?_
        exact ChangesOnly.refl _ _
      · refine OutFrame.next ?_
        refine ChangesOnly.foldl (fun _ _ => ?_) ?_
        · refine ChangesOnly.step (tryRelease_fr _ _ _) (by decide) ?_
          refine ChangesOnly.step (markDead_fr _ _ _ _) (by decide) ?_
          exact ChangesOnly.refl _ _
        · exact ChangesOnly.refl _ _

theorem execRelease_fr (src : Nat) (group : Nat) (stripe : Nat) (s : State) : OutFrame [.med, .sec, .pair, .mesh, .free] s (execRelease src group stripe s) := by
  unfold execRelease
  try dsimp only
  refine OutFrame.ite ?_ ?_
  · refine OutFrame.next ?_
    exact ChangesOnly.refl _ _
  · split
    · refine OutFrame.next ?_
      exact ChangesOnly.refl _ _
    · refine OutFrame.ite ?_ ?_
      · refine OutFrame.next ?_
        exact ChangesOnly.refl _ _
      · refine OutFrame.ite ?_ ?_
        · refine OutFrame.next ?_
          refine ChangesOnly.step (jStall_fr _) (by decide) ?_
          exact ChangesOnly.refl _ _
        · refine OutFrame.next ?_
          refine ChangesOnly.step (releaseHere_fr _ _ _) (by decide) ?_
          exact ChangesOnly.refl _ _


/-! ### Rebuild -/

theorem checkFaults_fr (s : State) (m : MediaIn) (cws : List Nat) : ChangesOnly [.flt] s (checkFaults s m cws) := by
  unfold checkFaults
  try dsimp only
  refine ChangesOnly.foldl (fun _ _ => ?_) ?_
  · refine ChangesOnly.ite ?_ ?_
    · refine ChangesOnly.step (raise_fr _ _) (by decide) ?_
      exact ChangesOnly.refl _ _
    · exact ChangesOnly.refl _ _
  · exact ChangesOnly.refl _ _

theorem execReconReq_fr (src : Nat) (group : Nat) (request : Nat) (stripe : Nat) (weight : Nat) (p : Nat) (n : Nat) (d : Nat) (row : Bool) (media : MediaIn) (s : State) : OutFrame [.flt, .sec, .mesh, .free] s (execReconReq src group request stripe weight p n d row media s) := by
  unfold execReconReq
  try dsimp only
  refine OutFrame.ite ?_ ?_
  · refine OutFrame.next ?_
    exact ChangesOnly.refl _ _
  · refine OutFrame.ite ?_ ?_
    · refine OutFrame.next ?_
      exact ChangesOnly.refl _ _
    · refine OutFrame.next ?_
      refine ChangesOnly.step (upMesh_fr _ _) (by decide) ?_
      refine ChangesOnly.foldl (fun _ _ => ?_) ?_
      · refine ChangesOnly.step (sendM_fr _ _ _ _) (by decide) ?_
        exact ChangesOnly.refl _ _
      · refine ChangesOnly.step (checkFaults_fr _ _ _) (by decide) ?_
        exact ChangesOnly.refl _ _

theorem execReconSlice_fr (src : Nat) (request : Nat) (p : Nat) (d : Nat) (row : Bool) (x : Machine.Coded) (s : State) : OutFrame [.med, .sec, .mesh, .free] s (execReconSlice src request p d row x s) := by
  unfold execReconSlice
  try dsimp only
  refine OutFrame.ite ?_ ?_
  · refine OutFrame.next ?_
    exact ChangesOnly.refl _ _
  · split
    · refine OutFrame.next ?_
      exact ChangesOnly.refl _ _
    · refine OutFrame.ite ?_ ?_
      · refine OutFrame.next ?_
        exact ChangesOnly.refl _ _
      · refine OutFrame.ite ?_ ?_
        · split
          · refine OutFrame.next ?_
            refine ChangesOnly.step (askUnits_fr _ _) (by decide) ?_
            refine ChangesOnly.step (upMesh_fr _ _) (by decide) ?_
            refine ChangesOnly.step (modRecon_fr _ _ _) (by decide) ?_
            exact ChangesOnly.refl _ _
          · refine OutFrame.next ?_
            refine ChangesOnly.step (upMesh_fr _ _) (by decide) ?_
            refine ChangesOnly.step (modRecon_fr _ _ _) (by decide) ?_
            exact ChangesOnly.refl _ _
        · refine OutFrame.next ?_
          refine ChangesOnly.step (settleRecon_fr _ _) (by decide) ?_
          refine ChangesOnly.step (modRecon_fr _ _ _) (by decide) ?_
          exact ChangesOnly.refl _ _

theorem modRebuild_fr (s : State) (f : Machine.Rebuild → Machine.Rebuild) : ChangesOnly [.mesh] s (modRebuild s f) := by
  unfold modRebuild
  try dsimp only
  refine ChangesOnly.step (upMesh_fr _ _) (by decide) ?_
  exact ChangesOnly.refl _ _

theorem putData_fr (s : State) (r : Machine.StripeRec) (d : Nat) (x : Nat → Machine.Coded) : Opt2Frame [.med, .sec, .pair, .mesh, .free] s (putData s r d x) := by
  unfold putData
  try dsimp only
  split
  · exact Opt2Frame.none
  · split
    · exact Opt2Frame.none
    · refine Opt2Frame.some ?_
      try dsimp only
      refine ChangesOnly.step (closeFull_fr _ _) (by decide) ?_
      refine ChangesOnly.ite ?_ ?_
      · refine ChangesOnly.step (holdSeg_fr _ _ _) (by decide) ?_
        refine ChangesOnly.step (upMesh_fr _ _) (by decide) ?_
        refine ChangesOnly.step (putSegment_fr _ _ _) (by decide) ?_
        refine ChangesOnly.step (Opt2Frame.of (wholeSegBand_fr _ _) (by assumption)) (by decide) ?_
        exact ChangesOnly.refl _ _
      · refine ChangesOnly.step (upMesh_fr _ _) (by decide) ?_
        refine ChangesOnly.step (addUnits_fr _ _ _) (by decide) ?_
        refine ChangesOnly.step (holdSeg_fr _ _ _) (by decide) ?_
        refine ChangesOnly.step (upMesh_fr _ _) (by decide) ?_
        refine ChangesOnly.step (putSegment_fr _ _ _) (by decide) ?_
        refine ChangesOnly.step (Opt2Frame.of (wholeSegBand_fr _ _) (by assumption)) (by decide) ?_
        exact ChangesOnly.refl _ _

theorem programUnit_fr (s : State) (g : Group) (r : StripeRec) (u : Unit2) (x : Nat → Coded) : OptFrame [.med, .sec, .pair, .mesh, .free] s (programUnit s g r u x) := by
  have fin : ∀ (t : State) (n : List Nat) (h : Nat → MBody) (f : Rebuild → Rebuild), ChangesOnly [.med, .sec, .pair, .mesh, .free] s t →
      ChangesOnly [.med, .sec, .pair, .mesh, .free] s (n.foldl (fun s i => sendM s (memberNode g i) g.id (h i)) (modRebuild t f)) := by
    intro t n h f k
    refine ChangesOnly.foldl (fun _ _ => ?_) ?_
    · exact ChangesOnly.step (sendM_fr _ _ _ _) (by decide) (ChangesOnly.refl _ _)
    · exact ChangesOnly.step (modRebuild_fr _ _) (by decide) k
  intro t e
  unfold programUnit at e
  dsimp only at e
  split at e
  · cases p : putParity s (r.moved u (0, 0)) x with
    | none => simp [p] at e
    | some y =>
      simp only [p, Option.map_some, Option.some.injEq] at e
      rw [← e]
      refine fin _ _ _ _ ?_
      refine ChangesOnly.step (rowProgrammed_fr _ _ _ _ _) (by decide) ?_
      refine ChangesOnly.step (modStripe_fr _ _ _ _) (by decide) ?_
      refine ChangesOnly.step (holdStripe_fr _ _ _) (by decide) ?_
      exact ChangesOnly.step (putParity_fr s (r.moved u (0, 0)) x y.1 y.2 p) (by decide) (ChangesOnly.refl _ _)
  · cases p : putData s r u.1 x with
    | none => simp [p] at e
    | some y =>
      simp only [p, Option.map_some, Option.some.injEq] at e
      rw [← e]
      refine fin _ _ _ _ ?_
      exact ChangesOnly.step (putData_fr s r u.1 x y.1 y.2 p) (by decide) (ChangesOnly.refl _ _)

theorem endRebuild_fr (s : State) : ChangesOnly [.tsk, .sec, .pair, .mesh, .free] s (endRebuild s) := by
  unfold endRebuild
  try dsimp only
  split
  · exact ChangesOnly.refl _ _
  · split
    · refine ChangesOnly.step (sendOthers_fr _ _ _) (by decide) ?_
      refine ChangesOnly.ite ?_ ?_
      · refine ChangesOnly.step (groupLog_fr _ _ _ _) (by decide) ?_
        refine ChangesOnly.step (postEvent_fr _ _ _ _ _) (by decide) ?_
        refine ChangesOnly.step (modGroup_fr _ _ _) (by decide) ?_
        refine ChangesOnly.step (upMesh_fr _ _) (by decide) ?_
        exact ChangesOnly.refl _ _
      · refine ChangesOnly.step (groupLog_fr _ _ _ _) (by decide) ?_
        refine ChangesOnly.step (postEvent_fr _ _ _ _ _) (by decide) ?_
        refine ChangesOnly.step (modGroup_fr _ _ _) (by decide) ?_
        refine ChangesOnly.step (upMesh_fr _ _) (by decide) ?_
        exact ChangesOnly.refl _ _
    · refine ChangesOnly.ite ?_ ?_
      · refine ChangesOnly.step (groupLog_fr _ _ _ _) (by decide) ?_
        refine ChangesOnly.step (postEvent_fr _ _ _ _ _) (by decide) ?_
        refine ChangesOnly.step (modGroup_fr _ _ _) (by decide) ?_
        refine ChangesOnly.step (upMesh_fr _ _) (by decide) ?_
        exact ChangesOnly.refl _ _
      · refine ChangesOnly.step (groupLog_fr _ _ _ _) (by decide) ?_
        refine ChangesOnly.step (postEvent_fr _ _ _ _ _) (by decide) ?_
        refine ChangesOnly.step (modGroup_fr _ _ _) (by decide) ?_
        refine ChangesOnly.step (upMesh_fr _ _) (by decide) ?_
        exact ChangesOnly.refl _ _

theorem planStripe_fr (s : State) (g : Machine.Group) (r : Machine.StripeRec) (unread : List Machine.Unit2) : ChangesOnly [.med, .sec, .pair, .mesh, .free] s (planStripe s g r unread).2 := by
  unfold planStripe
  try dsimp only
  split
  · try dsimp only
    exact ChangesOnly.refl _ _
  · refine ChangesOnly.ite2 ?_ ?_
    · try dsimp only
      exact ChangesOnly.refl _ _
    · split
      · try dsimp only
        refine ChangesOnly.step (modRebuild_fr _ _) (by decide) ?_
        exact ChangesOnly.refl _ _
      · try dsimp only
        refine OptFrame.getD ?_ ?_
        · refine OptFrame.step (programUnit_fr _ _ _ _ _) (by decide) ?_
          exact ChangesOnly.refl _ _
        · refine ChangesOnly.step (modRebuild_fr _ _) (by decide) ?_
          exact ChangesOnly.refl _ _
      · try dsimp only
        refine ChangesOnly.foldl (fun _ _ => ?_) ?_
        · refine ChangesOnly.step (sendM_fr _ _ _ _) (by decide) ?_
          exact ChangesOnly.refl _ _
        · refine ChangesOnly.step (modRebuild_fr _ _) (by decide) ?_
          exact ChangesOnly.refl _ _

theorem planFrom_fr (s : State) (g : Machine.Group) (l : List Machine.StripeRec) : ChangesOnly [.tsk, .med, .sec, .pair, .mesh, .free] s (planFrom s g l) := by
  unfold planFrom
  try dsimp only
  split
  · refine ChangesOnly.step (endRebuild_fr _) (by decide) ?_
    refine ChangesOnly.step (modRebuild_fr _ _) (by decide) ?_
    exact ChangesOnly.refl _ _
  · refine ChangesOnly.ite ?_ ?_
    · refine ChangesOnly.step (planFrom_fr _ _ _) (by decide) ?_
      refine ChangesOnly.step (planStripe_fr _ _ _ _) (by decide) ?_
      refine ChangesOnly.step (modRebuild_fr _ _) (by decide) ?_
      exact ChangesOnly.refl _ _
    · refine ChangesOnly.step (planStripe_fr _ _ _ _) (by decide) ?_
      refine ChangesOnly.step (modRebuild_fr _ _) (by decide) ?_
      exact ChangesOnly.refl _ _

theorem gatherDone_fr (s : State) (g : Machine.Group) : ChangesOnly [.tsk, .med, .sec, .pair, .mesh, .free] s (gatherDone s g) := by
  unfold gatherDone
  try dsimp only
  split
  · exact ChangesOnly.refl _ _
  · refine ChangesOnly.ite ?_ ?_
    · exact ChangesOnly.refl _ _
    · refine ChangesOnly.step (planFrom_fr _ _ _) (by decide) ?_
      refine ChangesOnly.step (modRebuild_fr _ _) (by decide) ?_
      exact ChangesOnly.refl _ _

theorem execRebuildStart_fr (tag : Nat) (s : State) : OutFrame [.tsk, .med, .sec, .pair, .mesh, .free] s (execRebuildStart tag s) := by
  unfold execRebuildStart
  try dsimp only
  split
  · refine OutFrame.next ?_
    exact ChangesOnly.refl _ _
  · split
    · refine OutFrame.next ?_
      refine ChangesOnly.step (finish_fr _ _ _) (by decide) ?_
      exact ChangesOnly.refl _ _
    · refine OutFrame.next ?_
      refine ChangesOnly.step (finish_fr _ _ _) (by decide) ?_
      exact ChangesOnly.refl _ _
    · refine OutFrame.ite ?_ ?_
      · refine OutFrame.next ?_
        refine ChangesOnly.step (finish_fr _ _ _) (by decide) ?_
        exact ChangesOnly.refl _ _
      · refine OutFrame.ite ?_ ?_
        · refine OutFrame.next ?_
          refine ChangesOnly.step (finish_fr _ _ _) (by decide) ?_
          exact ChangesOnly.refl _ _
        · refine OutFrame.next ?_
          refine ChangesOnly.step (gatherDone_fr _ _) (by decide) ?_
          refine ChangesOnly.step (sendOthers_fr _ _ _) (by decide) ?_
          refine ChangesOnly.step (upMesh_fr _ _) (by decide) ?_
          refine ChangesOnly.step (modGroup_fr _ _ _) (by decide) ?_
          refine ChangesOnly.step (finish_fr _ _ _) (by decide) ?_
          exact ChangesOnly.refl _ _

theorem execRebuildStatus_fr (tag : Nat) (s : State) : OutFrame [.tsk] s (execRebuildStatus tag s) := by
  unfold execRebuildStatus
  try dsimp only
  split
  · refine OutFrame.next ?_
    exact ChangesOnly.refl _ _
  · refine OutFrame.ite ?_ ?_
    · refine OutFrame.next ?_
      refine ChangesOnly.step (finish_fr _ _ _) (by decide) ?_
      exact ChangesOnly.refl _ _
    · split
      · refine OutFrame.next ?_
        refine ChangesOnly.step (finish_fr _ _ _) (by decide) ?_
        exact ChangesOnly.refl _ _
      · refine OutFrame.next ?_
        refine ChangesOnly.step (finish_fr _ _ _) (by decide) ?_
        exact ChangesOnly.refl _ _

theorem execLocateAns_fr (src : Nat) (request : Nat) (recs : List Machine.StripeRec) (s : State) : OutFrame [.tsk, .med, .sec, .pair, .mesh, .free] s (execLocateAns src request recs s) := by
  unfold execLocateAns
  try dsimp only
  refine OutFrame.ite ?_ ?_
  · refine OutFrame.next ?_
    exact ChangesOnly.refl _ _
  · split
    · split
      · refine OutFrame.next ?_
        refine ChangesOnly.step (upMesh_fr _ _) (by decide) ?_
        exact ChangesOnly.refl _ _
      · split
        · refine OutFrame.next ?_
          refine ChangesOnly.step (upMesh_fr _ _) (by decide) ?_
          exact ChangesOnly.refl _ _
        · refine OutFrame.next ?_
          refine ChangesOnly.step (gatherDone_fr _ _) (by decide) ?_
          refine ChangesOnly.step (modRebuild_fr _ _) (by decide) ?_
          refine ChangesOnly.step (upMesh_fr _ _) (by decide) ?_
          exact ChangesOnly.refl _ _
    · split
      · refine OutFrame.next ?_
        refine ChangesOnly.foldl (fun _ _ => ?_) ?_
        · split
          · refine ChangesOnly.ite ?_ ?_
            · refine ChangesOnly.step (ownRows_fr _ _ _ _) (by decide) ?_
              exact ChangesOnly.refl _ _
            · exact ChangesOnly.refl _ _
          · exact ChangesOnly.refl _ _
        · refine ChangesOnly.step (upMesh_fr _ _) (by decide) ?_
          exact ChangesOnly.refl _ _
      · split
        · refine OutFrame.next ?_
          refine ChangesOnly.step (upMesh_fr _ _) (by decide) ?_
          exact ChangesOnly.refl _ _
        · refine OutFrame.ite ?_ ?_
          · refine OutFrame.next ?_
            refine ChangesOnly.step (upMesh_fr _ _) (by decide) ?_
            exact ChangesOnly.refl _ _
          · split
            · refine OutFrame.next ?_
              refine ChangesOnly.step (upMesh_fr _ _) (by decide) ?_
              exact ChangesOnly.refl _ _
            · refine OutFrame.next ?_
              refine ChangesOnly.step (askUnits_fr _ _) (by decide) ?_
              refine ChangesOnly.step (modRecon_fr _ _ _) (by decide) ?_
              refine ChangesOnly.step (upMesh_fr _ _) (by decide) ?_
              exact ChangesOnly.refl _ _

theorem modChain_fr (s : State) (group : Nat) (stripe : Nat) (f : Machine.Chain → Machine.Chain) : ChangesOnly [.mesh] s (modChain s group stripe f) := by
  unfold modChain
  try dsimp only
  refine ChangesOnly.step (upMesh_fr _ _) (by decide) ?_
  exact ChangesOnly.refl _ _

theorem passPart_fr (s : State) (c : Machine.Chain) (p : Nat) (d : Nat) (row : Bool) (x : Machine.Coded) : ChangesOnly [.sec, .mesh, .free] s (passPart s c p d row x) := by
  unfold passPart
  try dsimp only
  refine ChangesOnly.ite ?_ ?_
  · exact ChangesOnly.refl _ _
  · refine ChangesOnly.ite ?_ ?_
    · refine ChangesOnly.step (sendM_fr _ _ _ _) (by decide) ?_
      refine ChangesOnly.step (modChain_fr _ _ _ _) (by decide) ?_
      exact ChangesOnly.refl _ _
    · refine ChangesOnly.ite ?_ ?_
      · refine ChangesOnly.step (sendM_fr _ _ _ _) (by decide) ?_
        refine ChangesOnly.step (modChain_fr _ _ _ _) (by decide) ?_
        exact ChangesOnly.refl _ _
      · split
        · refine ChangesOnly.step (sendM_fr _ _ _ _) (by decide) ?_
          refine ChangesOnly.step (modChain_fr _ _ _ _) (by decide) ?_
          exact ChangesOnly.refl _ _
        · refine ChangesOnly.step (sendM_fr _ _ _ _) (by decide) ?_
          refine ChangesOnly.step (modChain_fr _ _ _ _) (by decide) ?_
          exact ChangesOnly.refl _ _

theorem execRebuildPlan_fr (src : Nat) (group : Nat) (stripe : Nat) (chain : List (Nat × Nat)) (media : MediaIn) (s : State) : OutFrame [.flt, .sec, .mesh, .free] s (execRebuildPlan src group stripe chain media s) := by
  unfold execRebuildPlan
  try dsimp only
  refine OutFrame.ite ?_ ?_
  · refine OutFrame.next ?_
    exact ChangesOnly.refl _ _
  · split
    · split
      · refine OutFrame.ite ?_ ?_
        · refine OutFrame.next ?_
          refine ChangesOnly.foldl (fun _ _ => ?_) ?_
          · refine ChangesOnly.step (passPart_fr _ _ _ _ _ _) (by decide) ?_
            exact ChangesOnly.refl _ _
          · refine ChangesOnly.step (upMesh_fr _ _) (by decide) ?_
            refine ChangesOnly.step (checkFaults_fr _ _ _) (by decide) ?_
            exact ChangesOnly.refl _ _
        · refine OutFrame.next ?_
          refine ChangesOnly.step (upMesh_fr _ _) (by decide) ?_
          refine ChangesOnly.step (checkFaults_fr _ _ _) (by decide) ?_
          exact ChangesOnly.refl _ _
      · refine OutFrame.next ?_
        exact ChangesOnly.refl _ _
    · refine OutFrame.next ?_
      exact ChangesOnly.refl _ _

theorem takePart_fr (s : State) (g : Group) (b : Rebuild) (r : StripeRec) (p : Nat) (d : Nat) (row : Bool) (x : Coded) : OptFrame [.tsk, .med, .sec, .pair, .mesh, .free] s (takePart s g b r p d row x) := by
  unfold takePart
  dsimp only
  refine OptFrame.ite ?_ ?_
  · refine OptFrame.some (ChangesOnly.ite ?_ ?_)
    · refine ChangesOnly.step (planFrom_fr _ _ _) (by decide) ?_
      exact ChangesOnly.step (planStripe_fr _ _ _ _) (by decide) (ChangesOnly.refl _ _)
    · exact ChangesOnly.step (planStripe_fr _ _ _ _) (by decide) (ChangesOnly.refl _ _)
  · refine OptFrame.ite ?_ ?_
    · exact OptFrame.some (ChangesOnly.step (modRebuild_fr _ _) (by decide) (ChangesOnly.refl _ _))
    · refine OptFrame.ite OptFrame.none ?_
      split
      · exact OptFrame.none
      · rename_i u _
        intro t e
        cases q : programUnit s g r u (fun p' => mgetD (mset b.part p x) p' Coded.zero) with
        | none => simp [q] at e
        | some y =>
          simp only [q, Option.map_some, Option.some.injEq] at e
          rw [← e]
          refine ChangesOnly.step (planFrom_fr _ _ _) (by decide) ?_
          exact ChangesOnly.step (programUnit_fr s g r u _ y q) (by decide) (ChangesOnly.refl _ _)

theorem execRebuildPart_fr (src : Nat) (group : Nat) (stripe : Nat) (p : Nat) (d : Nat) (row : Bool) (x : Machine.Coded) (s : State) : OutFrame [.tsk, .med, .sec, .pair, .mesh, .free] s (execRebuildPart src group stripe p d row x s) := by
  unfold execRebuildPart
  try dsimp only
  refine OutFrame.ite ?_ ?_
  · refine OutFrame.next ?_
    exact ChangesOnly.refl _ _
  · split
    · refine OutFrame.next ?_
      exact ChangesOnly.refl _ _
    · refine OutFrame.ite ?_ ?_
      · refine OutFrame.next ?_
        exact ChangesOnly.refl _ _
      · split
        · refine OutFrame.ite ?_ ?_
          · refine OutFrame.ite ?_ ?_
            · refine OutFrame.next ?_
              exact ChangesOnly.refl _ _
            · refine OutFrame.next ?_
              refine OptFrame.getD ?_ ?_
              · refine OptFrame.step (takePart_fr _ _ _ _ _ _ _ _) (by decide) ?_
                exact ChangesOnly.refl _ _
              · exact ChangesOnly.refl _ _
          · refine OutFrame.next ?_
            exact ChangesOnly.refl _ _
        · split
          · refine OutFrame.next ?_
            refine ChangesOnly.step (passPart_fr _ _ _ _ _ _) (by decide) ?_
            exact ChangesOnly.refl _ _
          · refine OutFrame.next ?_
            exact ChangesOnly.refl _ _

theorem execMemberUpdate_fr (src : Nat) (group : Nat) (u : MemberChange) (s : State) : OutFrame [.sec, .mesh, .free] s (execMemberUpdate src group u s) := by
  unfold execMemberUpdate
  try dsimp only
  refine OutFrame.ite ?_ ?_
  · refine OutFrame.next ?_
    exact ChangesOnly.refl _ _
  · split
    · refine OutFrame.next ?_
      exact ChangesOnly.refl _ _
    · split
      · refine OutFrame.ite ?_ ?_
        · refine OutFrame.next ?_
          exact ChangesOnly.refl _ _
        · refine OutFrame.next ?_
          refine ChangesOnly.step (offerNext_fr _ _) (by decide) ?_
          refine ChangesOnly.step (modGroup_fr _ _ _) (by decide) ?_
          exact ChangesOnly.refl _ _
      · refine OutFrame.ite ?_ ?_
        · refine OutFrame.next ?_
          exact ChangesOnly.refl _ _
        · refine OutFrame.next ?_
          refine ChangesOnly.step (upMesh_fr _ _) (by decide) ?_
          exact ChangesOnly.refl _ _

theorem loseData_fr (s : State) (g : Machine.Group) (x : Machine.Stripe) (d : Nat) : ChangesOnly [.sec, .mesh, .free] s (loseData s g x d) := by
  unfold loseData
  try dsimp only
  refine ChangesOnly.ite ?_ ?_
  · exact ChangesOnly.refl _ _
  · refine ChangesOnly.step (abandonAcc_fr _ _ _ _) (by decide) ?_
    refine ChangesOnly.ite ?_ ?_
    · refine ChangesOnly.step (fixStripe_fr _ _ _ _) (by decide) ?_
      exact ChangesOnly.refl _ _
    · refine ChangesOnly.step (modStripe_fr _ _ _ _) (by decide) ?_
      exact ChangesOnly.refl _ _

theorem reIntent_fr (s : State) (g : Machine.Group) (o : Machine.OwnSeg) : ChangesOnly [.sec, .mesh, .free] s (reIntent s g o) := by
  unfold reIntent
  try dsimp only
  split
  · refine ChangesOnly.step (sendM_fr _ _ _ _) (by decide) ?_
    refine ChangesOnly.step (modOwn_fr _ _ _ _) (by decide) ?_
    exact ChangesOnly.refl _ _
  · refine ChangesOnly.step (offerSeg_fr _ _ _ _ _) (by decide) ?_
    exact ChangesOnly.refl _ _

theorem loseMember_fr (s : State) (group : Nat) (index : Nat) : ChangesOnly [.flt, .tsk, .med, .sec, .pair, .mesh, .free] s (loseMember s group index) := by
  unfold loseMember
  try dsimp only
  split
  · refine ChangesOnly.step (groupLog_fr _ _ _ _) (by decide) ?_
    refine ChangesOnly.step (raise_fr _ _) (by decide) ?_
    refine ChangesOnly.step (modGroup_fr _ _ _) (by decide) ?_
    exact ChangesOnly.refl _ _
  · refine ChangesOnly.step (tryDissolve_fr _ _) (by decide) ?_
    split
    · refine ChangesOnly.ite ?_ ?_
      · refine ChangesOnly.foldl (fun _ _ => ?_) ?_
        · split
          · refine ChangesOnly.ite ?_ ?_
            · refine ChangesOnly.step (askUnits_fr _ _) (by decide) ?_
              exact ChangesOnly.refl _ _
            · exact ChangesOnly.refl _ _
          · exact ChangesOnly.refl _ _
        · refine ChangesOnly.foldl (fun _ _ => ?_) ?_
          · refine ChangesOnly.step (tryRelease_fr _ _ _) (by decide) ?_
            exact ChangesOnly.refl _ _
          · refine ChangesOnly.foldl (fun _ _ => ?_) ?_
            · refine ChangesOnly.step (reIntent_fr _ _ _) (by decide) ?_
              exact ChangesOnly.refl _ _
            · refine ChangesOnly.foldl (fun _ _ => ?_) ?_
              · split
                · refine ChangesOnly.step (loseData_fr _ _ _ _) (by decide) ?_
                  exact ChangesOnly.refl _ _
                · exact ChangesOnly.refl _ _
              · refine ChangesOnly.step (groupLog_fr _ _ _ _) (by decide) ?_
                refine ChangesOnly.step (raise_fr _ _) (by decide) ?_
                refine ChangesOnly.step (modGroup_fr _ _ _) (by decide) ?_
                exact ChangesOnly.refl _ _
      · refine ChangesOnly.ite ?_ ?_
        · refine ChangesOnly.step (gatherDone_fr _ _) (by decide) ?_
          refine ChangesOnly.foldl (fun _ _ => ?_) ?_
          · split
            · refine ChangesOnly.ite ?_ ?_
              · refine ChangesOnly.step (askUnits_fr _ _) (by decide) ?_
                exact ChangesOnly.refl _ _
              · exact ChangesOnly.refl _ _
            · exact ChangesOnly.refl _ _
          · refine ChangesOnly.foldl (fun _ _ => ?_) ?_
            · refine ChangesOnly.step (tryRelease_fr _ _ _) (by decide) ?_
              exact ChangesOnly.refl _ _
            · refine ChangesOnly.foldl (fun _ _ => ?_) ?_
              · refine ChangesOnly.step (reIntent_fr _ _ _) (by decide) ?_
                exact ChangesOnly.refl _ _
              · refine ChangesOnly.foldl (fun _ _ => ?_) ?_
                · split
                  · refine ChangesOnly.step (loseData_fr _ _ _ _) (by decide) ?_
                    exact ChangesOnly.refl _ _
                  · exact ChangesOnly.refl _ _
                · refine ChangesOnly.step (groupLog_fr _ _ _ _) (by decide) ?_
                  refine ChangesOnly.step (raise_fr _ _) (by decide) ?_
                  refine ChangesOnly.step (modGroup_fr _ _ _) (by decide) ?_
                  exact ChangesOnly.refl _ _
        · split
          · refine ChangesOnly.ite ?_ ?_
            · refine ChangesOnly.step (planFrom_fr _ _ _) (by decide) ?_
              refine ChangesOnly.step (planStripe_fr _ _ _ _) (by decide) ?_
              refine ChangesOnly.foldl (fun _ _ => ?_) ?_
              · split
                · refine ChangesOnly.ite ?_ ?_
                  · refine ChangesOnly.step (askUnits_fr _ _) (by decide) ?_
                    exact ChangesOnly.refl _ _
                  · exact ChangesOnly.refl _ _
                · exact ChangesOnly.refl _ _
              · refine ChangesOnly.foldl (fun _ _ => ?_) ?_
                · refine ChangesOnly.step (tryRelease_fr _ _ _) (by decide) ?_
                  exact ChangesOnly.refl _ _
                · refine ChangesOnly.foldl (fun _ _ => ?_) ?_
                  · refine ChangesOnly.step (reIntent_fr _ _ _) (by decide) ?_
                    exact ChangesOnly.refl _ _
                  · refine ChangesOnly.foldl (fun _ _ => ?_) ?_
                    · split
                      · refine ChangesOnly.step (loseData_fr _ _ _ _) (by decide) ?_
                        exact ChangesOnly.refl _ _
                      · exact ChangesOnly.refl _ _
                    · refine ChangesOnly.step (groupLog_fr _ _ _ _) (by decide) ?_
                      refine ChangesOnly.step (raise_fr _ _) (by decide) ?_
                      refine ChangesOnly.step (modGroup_fr _ _ _) (by decide) ?_
                      exact ChangesOnly.refl _ _
            · refine ChangesOnly.step (planStripe_fr _ _ _ _) (by decide) ?_
              refine ChangesOnly.foldl (fun _ _ => ?_) ?_
              · split
                · refine ChangesOnly.ite ?_ ?_
                  · refine ChangesOnly.step (askUnits_fr _ _) (by decide) ?_
                    exact ChangesOnly.refl _ _
                  · exact ChangesOnly.refl _ _
                · exact ChangesOnly.refl _ _
              · refine ChangesOnly.foldl (fun _ _ => ?_) ?_
                · refine ChangesOnly.step (tryRelease_fr _ _ _) (by decide) ?_
                  exact ChangesOnly.refl _ _
                · refine ChangesOnly.foldl (fun _ _ => ?_) ?_
                  · refine ChangesOnly.step (reIntent_fr _ _ _) (by decide) ?_
                    exact ChangesOnly.refl _ _
                  · refine ChangesOnly.foldl (fun _ _ => ?_) ?_
                    · split
                      · refine ChangesOnly.step (loseData_fr _ _ _ _) (by decide) ?_
                        exact ChangesOnly.refl _ _
                      · exact ChangesOnly.refl _ _
                    · refine ChangesOnly.step (groupLog_fr _ _ _ _) (by decide) ?_
                      refine ChangesOnly.step (raise_fr _ _) (by decide) ?_
                      refine ChangesOnly.step (modGroup_fr _ _ _) (by decide) ?_
                      exact ChangesOnly.refl _ _
          · refine ChangesOnly.foldl (fun _ _ => ?_) ?_
            · split
              · refine ChangesOnly.ite ?_ ?_
                · refine ChangesOnly.step (askUnits_fr _ _) (by decide) ?_
                  exact ChangesOnly.refl _ _
                · exact ChangesOnly.refl _ _
              · exact ChangesOnly.refl _ _
            · refine ChangesOnly.foldl (fun _ _ => ?_) ?_
              · refine ChangesOnly.step (tryRelease_fr _ _ _) (by decide) ?_
                exact ChangesOnly.refl _ _
              · refine ChangesOnly.foldl (fun _ _ => ?_) ?_
                · refine ChangesOnly.step (reIntent_fr _ _ _) (by decide) ?_
                  exact ChangesOnly.refl _ _
                · refine ChangesOnly.foldl (fun _ _ => ?_) ?_
                  · split
                    · refine ChangesOnly.step (loseData_fr _ _ _ _) (by decide) ?_
                      exact ChangesOnly.refl _ _
                    · exact ChangesOnly.refl _ _
                  · refine ChangesOnly.step (groupLog_fr _ _ _ _) (by decide) ?_
                    refine ChangesOnly.step (raise_fr _ _) (by decide) ?_
                    refine ChangesOnly.step (modGroup_fr _ _ _) (by decide) ?_
                    exact ChangesOnly.refl _ _
    · refine ChangesOnly.foldl (fun _ _ => ?_) ?_
      · split
        · refine ChangesOnly.ite ?_ ?_
          · refine ChangesOnly.step (askUnits_fr _ _) (by decide) ?_
            exact ChangesOnly.refl _ _
          · exact ChangesOnly.refl _ _
        · exact ChangesOnly.refl _ _
      · refine ChangesOnly.foldl (fun _ _ => ?_) ?_
        · refine ChangesOnly.step (tryRelease_fr _ _ _) (by decide) ?_
          exact ChangesOnly.refl _ _
        · refine ChangesOnly.foldl (fun _ _ => ?_) ?_
          · refine ChangesOnly.step (reIntent_fr _ _ _) (by decide) ?_
            exact ChangesOnly.refl _ _
          · refine ChangesOnly.foldl (fun _ _ => ?_) ?_
            · split
              · refine ChangesOnly.step (loseData_fr _ _ _ _) (by decide) ?_
                exact ChangesOnly.refl _ _
              · exact ChangesOnly.refl _ _
            · refine ChangesOnly.step (groupLog_fr _ _ _ _) (by decide) ?_
              refine ChangesOnly.step (raise_fr _ _) (by decide) ?_
              refine ChangesOnly.step (modGroup_fr _ _ _) (by decide) ?_
              exact ChangesOnly.refl _ _

theorem execMemberLost_fr (group : Nat) (index : Nat) (s : State) : OutFrame [.flt, .tsk, .med, .sec, .pair, .mesh, .free] s (execMemberLost group index s) := by
  unfold execMemberLost
  try dsimp only
  refine OutFrame.ite ?_ ?_
  · refine OutFrame.next ?_
    exact ChangesOnly.refl _ _
  · split
    · refine OutFrame.next ?_
      exact ChangesOnly.refl _ _
    · refine OutFrame.ite ?_ ?_
      · refine OutFrame.next ?_
        exact ChangesOnly.refl _ _
      · refine OutFrame.next ?_
        refine ChangesOnly.step (loseMember_fr _ _ _) (by decide) ?_
        exact ChangesOnly.refl _ _


end Sys2Proof.Machine
end

