-- ==== Sys2Proof/Laws/FrameBoot.lean ====
section
/-! SUPPORT. Frames of recovery, boot, slots, control and DRAM. -/

namespace Sys2Proof.Machine
open Sys2Proof

/-! ### Recovery -/

theorem replayBand_fr (s : State) (b : Nat) (state : Nat) (stream : Nat) : ChangesOnly [.med] s (replayBand s b state stream) := by
  unfold replayBand
  try dsimp only
  split
  · refine ChangesOnly.step (upMed_fr _ _) (by decide) ?_
    exact ChangesOnly.refl _ _
  · refine ChangesOnly.step (upMed_fr _ _) (by decide) ?_
    exact ChangesOnly.refl _ _
  · refine ChangesOnly.step (bandMod_fr _ _ _) (by decide) ?_
    exact ChangesOnly.refl _ _
  · refine ChangesOnly.step (setBand_fr _ _ _) (by decide) ?_
    exact ChangesOnly.refl _ _

theorem replayDir_fr (s : State) (v : Nat) (st : Nat) (d : Machine.DirEntry) : ChangesOnly [.med] s (replayDir s v st d) := by
  unfold replayDir
  try dsimp only
  split
  · refine ChangesOnly.step (ensurePage_fr _ _ _) (by decide) ?_
    exact ChangesOnly.refl _ _
  · refine ChangesOnly.step (setDir_fr _ _ _ _) (by decide) ?_
    refine ChangesOnly.step (dropPage_fr _ _ _) (by decide) ?_
    exact ChangesOnly.refl _ _

theorem replayVol_fr (s : State) (vol : Nat) (capacity : Nat) (attrs : Nat) (delete : Bool) : ChangesOnly [.med] s (replayVol s vol capacity attrs delete) := by
  unfold replayVol
  try dsimp only
  refine ChangesOnly.ite ?_ ?_
  · refine ChangesOnly.step (upMed_fr _ _) (by decide) ?_
    exact ChangesOnly.refl _ _
  · refine ChangesOnly.step (upMed_fr _ _) (by decide) ?_
    exact ChangesOnly.refl _ _

theorem replayRecord_fr (x : Option Nat × State) (r : Record) : ChangesOnly [.med] x.2 (replayRecord x r).2 := by
  unfold replayRecord
  repeat' first
    | exact ChangesOnly.refl _ _
    | with_reducible refine ChangesOnly.step (applyEntry_fr _ _ _ _) (by decide) ?_
    | with_reducible refine ChangesOnly.step (replayDir_fr _ _ _ _) (by decide) ?_
    | with_reducible refine ChangesOnly.step (replayVol_fr _ _ _ _ _) (by decide) ?_
    | with_reducible refine ChangesOnly.step (volMod_fr _ _ _) (by decide) ?_
    | with_reducible refine ChangesOnly.step (replayBand_fr _ _ _ _) (by decide) ?_
    | with_reducible refine ChangesOnly.step (bandMod_fr _ _ _) (by decide) ?_
    | with_reducible refine ChangesOnly.foldl (fun _ _ => ?_) ?_
    | dsimp only
    | split

theorem replayGroup_fr (s : State) (l : List Record) : ChangesOnly [.med] s (replayGroup s l) := by
  unfold replayGroup
  exact ChangesOnly.foldl2 (u := (none, s)) (fun a x => replayRecord_fr a x) (ChangesOnly.refl _ _)

theorem takeBlocks_fr (s : State) (b : Nat) : ChangesOnly [.med] s (takeBlocks s b) := by
  unfold takeBlocks
  try dsimp only
  split
  · exact ChangesOnly.refl _ _
  · refine ChangesOnly.ite ?_ ?_
    · exact ChangesOnly.refl _ _
    · refine ChangesOnly.step (upMed_fr _ _) (by decide) ?_
      refine ChangesOnly.step (bandMod_fr _ _ _) (by decide) ?_
      exact ChangesOnly.refl _ _

theorem settleBand_fr (s : State) (b : Nat) : ChangesOnly [.med] s (settleBand s b) := by
  unfold settleBand
  try dsimp only
  refine ChangesOnly.step (takeBlocks_fr _ _) (by decide) ?_
  refine ChangesOnly.step (bandMod_fr _ _ _) (by decide) ?_
  exact ChangesOnly.refl _ _

theorem replayCws_fr (s : State) (m : MediaIn) (l : List Nat) : ChangesOnly [.med, .sec, .pair, .mesh, .free] s (replayCws s m l) := by
  unfold replayCws
  try dsimp only
  split
  · exact ChangesOnly.refl _ _
  · split
    · exact ChangesOnly.refl _ _
    · refine ChangesOnly.ite ?_ ?_
      · exact ChangesOnly.refl _ _
      · refine ChangesOnly.ite ?_ ?_
        · refine ChangesOnly.step (replayCws_fr _ _ _) (by decide) ?_
          exact ChangesOnly.refl _ _
        · refine ChangesOnly.step (replayCws_fr _ _ _) (by decide) ?_
          refine ChangesOnly.foldl (fun _ _ => ?_) ?_
          · refine ChangesOnly.step (journal_fr _ _) (by decide) ?_
            refine ChangesOnly.step (replayGroup_fr _ _) (by decide) ?_
            exact ChangesOnly.refl _ _
          · exact ChangesOnly.refl _ _

theorem replayOpen_fr (s : State) (m : MediaIn) (r : Machine.Root) (recs : List Machine.Record) (b : Nat) : ChangesOnly [.med, .sec, .pair, .mesh, .free] s (replayOpen s m r recs b) := by
  unfold replayOpen
  try dsimp only
  refine ChangesOnly.step (journal_fr _ _) (by decide) ?_
  refine ChangesOnly.step (bandMod_fr _ _ _) (by decide) ?_
  refine ChangesOnly.step (replayCws_fr _ _ _) (by decide) ?_
  exact ChangesOnly.refl _ _

theorem settleBands_fr (s : State) : ChangesOnly [.med] s (settleBands s) := by
  unfold settleBands
  try dsimp only
  refine ChangesOnly.foldl (fun _ _ => ?_) ?_
  · refine ChangesOnly.step (settleBand_fr _ _) (by decide) ?_
    exact ChangesOnly.refl _ _
  · refine ChangesOnly.step (upMed_fr _ _) (by decide) ?_
    refine ChangesOnly.step (upMed_fr _ _) (by decide) ?_
    exact ChangesOnly.refl _ _

theorem formAll_fr (s : State) : ChangesOnly [.med] s (formAll s) := by
  unfold formAll
  try dsimp only
  refine ChangesOnly.foldl (fun _ _ => ?_) ?_
  · refine ChangesOnly.step (formBand_fr _) (by decide) ?_
    exact ChangesOnly.refl _ _
  · exact ChangesOnly.refl _ _

theorem dumpLost_fr (s : State) (mirror : List (Nat × Nat × List Byte)) : ChangesOnly [.flt, .med] s (dumpLost s mirror) := by
  unfold dumpLost
  try dsimp only
  refine ChangesOnly.ite ?_ ?_
  · refine ChangesOnly.foldl (fun _ _ => ?_) ?_
    · refine ChangesOnly.ite ?_ ?_
      · refine ChangesOnly.step (stageBlock_fr _ _ _ _) (by decide) ?_
        exact ChangesOnly.refl _ _
      · exact ChangesOnly.refl _ _
    · refine ChangesOnly.step (raise_fr _ _) (by decide) ?_
      refine ChangesOnly.step (upMed_fr _ _) (by decide) ?_
      exact ChangesOnly.refl _ _
  · refine ChangesOnly.step (raise_fr _ _) (by decide) ?_
    refine ChangesOnly.step (upMed_fr _ _) (by decide) ?_
    exact ChangesOnly.refl _ _

theorem restoreStaging_fr (s : State) (l : List Machine.Staged) : ChangesOnly [.med, .pair] s (restoreStaging s l) := by
  unfold restoreStaging
  try dsimp only
  refine ChangesOnly.ite ?_ ?_
  · refine ChangesOnly.step (upMed_fr _ _) (by decide) ?_
    exact ChangesOnly.refl _ _
  · refine ChangesOnly.step (upPair_fr _ _) (by decide) ?_
    refine ChangesOnly.step (upMed_fr _ _) (by decide) ?_
    exact ChangesOnly.refl _ _

theorem takeDumps_fr (s : State) (unreadable : Bool) (mirror : List (Nat × Nat × List Byte)) : ChangesOnly [.flt, .med, .pair] s (takeDumps s unreadable mirror) := by
  unfold takeDumps
  try dsimp only
  refine ChangesOnly.step (upMed_fr _ _) (by decide) ?_
  refine ChangesOnly.ite ?_ ?_
  · refine ChangesOnly.step (dumpLost_fr _ _) (by decide) ?_
    split
    · refine ChangesOnly.ite ?_ ?_
      · exact ChangesOnly.refl _ _
      · refine ChangesOnly.step (restoreStaging_fr _ _) (by decide) ?_
        exact ChangesOnly.refl _ _
    · exact ChangesOnly.refl _ _
  · split
    · refine ChangesOnly.ite ?_ ?_
      · exact ChangesOnly.refl _ _
      · refine ChangesOnly.step (restoreStaging_fr _ _) (by decide) ?_
        exact ChangesOnly.refl _ _
    · exact ChangesOnly.refl _ _

theorem settleFormats_fr (s : State) : ChangesOnly [.med] s (settleFormats s) := by
  unfold settleFormats
  try dsimp only
  refine ChangesOnly.foldl (fun _ _ => ?_) ?_
  · refine ChangesOnly.step (volMod_fr _ _ _) (by decide) ?_
    exact ChangesOnly.refl _ _
  · refine ChangesOnly.step (upMed_fr _ _) (by decide) ?_
    exact ChangesOnly.refl _ _

theorem resumeStripes_fr (s : State) : ChangesOnly [.sec, .mesh, .free] s (resumeStripes s) := by
  unfold resumeStripes
  try dsimp only
  refine ChangesOnly.foldl (fun _ _ => ?_) ?_
  · split
    · refine ChangesOnly.foldl (fun _ _ => ?_) ?_
      · refine ChangesOnly.step (sendM_fr _ _ _ _) (by decide) ?_
        exact ChangesOnly.refl _ _
      · refine ChangesOnly.step (OptFrame.of (allot_fr _ _ _) (by assumption)) (by decide) ?_
        exact ChangesOnly.refl _ _
    · exact ChangesOnly.refl _ _
  · exact ChangesOnly.refl _ _

theorem resumeSegs_fr (s : State) : ChangesOnly [.sec, .mesh, .free] s (resumeSegs s) := by
  unfold resumeSegs
  try dsimp only
  refine ChangesOnly.foldl (fun _ _ => ?_) ?_
  · refine ChangesOnly.step (offerNext_fr _ _) (by decide) ?_
    exact ChangesOnly.refl _ _
  · refine ChangesOnly.step (upMesh_fr _ _) (by decide) ?_
    refine ChangesOnly.foldl (fun _ _ => ?_) ?_
    · split
      · exact ChangesOnly.refl _ _
      · refine ChangesOnly.step (contribute_fr _ _ _ _) (by decide) ?_
        refine ChangesOnly.step (sendOthers_fr _ _ _) (by decide) ?_
        refine ChangesOnly.step (upMesh_fr _ _) (by decide) ?_
        exact ChangesOnly.refl _ _
    · exact ChangesOnly.refl _ _

theorem settleKeys_fr (s : State) : ChangesOnly [.med] s (settleKeys s) := by
  unfold settleKeys
  try dsimp only
  refine ChangesOnly.step (upMed_fr _ _) (by decide) ?_
  exact ChangesOnly.refl _ _

theorem dropRoots_fr (s : State) (slots : List Nat) : ChangesOnly [.med] s (dropRoots s slots) := by
  unfold dropRoots
  try dsimp only
  refine ChangesOnly.step (upMed_fr _ _) (by decide) ?_
  exact ChangesOnly.refl _ _

theorem recoverFrom_fr (s : State) (r : Machine.Root) (unreadable : Bool) (mirror : List (Nat × Nat × List Byte)) (media : MediaIn) : ChangesOnly [.flt, .med, .sec, .pair, .mesh, .free] s (recoverFrom s r unreadable mirror media) := by
  unfold recoverFrom
  try dsimp only
  refine ChangesOnly.step (resumeSegs_fr _) (by decide) ?_
  refine ChangesOnly.step (resumeStripes_fr _) (by decide) ?_
  refine ChangesOnly.ite ?_ ?_
  · refine ChangesOnly.step (flushAll_fr _) (by decide) ?_
    refine ChangesOnly.step (journalDrain_fr _ _ _) (by decide) ?_
    refine ChangesOnly.step (formAll_fr _) (by decide) ?_
    refine ChangesOnly.step (recount_fr _) (by decide) ?_
    refine ChangesOnly.step (settleFormats_fr _) (by decide) ?_
    refine ChangesOnly.step (upMed_fr _ _) (by decide) ?_
    refine ChangesOnly.step (takeDumps_fr _ _ _) (by decide) ?_
    refine ChangesOnly.foldl (fun _ _ => ?_) ?_
    · refine ChangesOnly.step (replayOpen_fr _ _ _ _ _) (by decide) ?_
      exact ChangesOnly.refl _ _
    · refine ChangesOnly.step (upPair_fr _ _) (by decide) ?_
      refine ChangesOnly.step (settleKeys_fr _) (by decide) ?_
      refine ChangesOnly.step (upMed_fr _ _) (by decide) ?_
      refine ChangesOnly.step (settleBands_fr _) (by decide) ?_
      refine ChangesOnly.foldl (fun _ _ => ?_) ?_
      · refine ChangesOnly.step (replayGroup_fr _ _) (by decide) ?_
        exact ChangesOnly.refl _ _
      · refine ChangesOnly.step (upMed_fr _ _) (by decide) ?_
        exact ChangesOnly.refl _ _
  · refine ChangesOnly.step (enterRejoin_fr _) (by decide) ?_
    refine ChangesOnly.step (flushAll_fr _) (by decide) ?_
    refine ChangesOnly.step (journalDrain_fr _ _ _) (by decide) ?_
    refine ChangesOnly.step (formAll_fr _) (by decide) ?_
    refine ChangesOnly.step (recount_fr _) (by decide) ?_
    refine ChangesOnly.step (settleFormats_fr _) (by decide) ?_
    refine ChangesOnly.step (upMed_fr _ _) (by decide) ?_
    refine ChangesOnly.step (takeDumps_fr _ _ _) (by decide) ?_
    refine ChangesOnly.foldl (fun _ _ => ?_) ?_
    · refine ChangesOnly.step (replayOpen_fr _ _ _ _ _) (by decide) ?_
      exact ChangesOnly.refl _ _
    · refine ChangesOnly.step (upPair_fr _ _) (by decide) ?_
      refine ChangesOnly.step (settleKeys_fr _) (by decide) ?_
      refine ChangesOnly.step (upMed_fr _ _) (by decide) ?_
      refine ChangesOnly.step (settleBands_fr _) (by decide) ?_
      refine ChangesOnly.foldl (fun _ _ => ?_) ?_
      · refine ChangesOnly.step (replayGroup_fr _ _) (by decide) ?_
        exact ChangesOnly.refl _ _
      · refine ChangesOnly.step (upMed_fr _ _) (by decide) ?_
        exact ChangesOnly.refl _ _

theorem recoverState_fr (s : State) (share : Nat) (uncorrectable : Bool) (unreadable : Bool) (mirror : List (Nat × Nat × List Byte)) (media : MediaIn) : OptFrame [.flt, .tsk, .med, .sec, .pair, .mesh, .free] s (recoverState s share uncorrectable unreadable mirror media) := by
  unfold recoverState
  try dsimp only
  refine OptFrame.ite ?_ ?_
  · refine OptFrame.some ?_
    refine ChangesOnly.step (blankPjm_fr _ _) (by decide) ?_
    exact ChangesOnly.refl _ _
  · split
    · exact OptFrame.none
    · refine OptFrame.ite ?_ ?_
      · exact OptFrame.none
      · refine OptFrame.some ?_
        refine ChangesOnly.step (recoverFrom_fr _ _ _ _ _) (by decide) ?_
        exact ChangesOnly.refl _ _


/-! ### Boot -/

theorem readSlots_fr (s : State) : ChangesOnly [.glb] s (readSlots s) := by
  unfold readSlots
  try dsimp only
  refine ChangesOnly.step (upGlb_fr _ _) (by decide) ?_
  exact ChangesOnly.refl _ _

theorem romRecovery_fr (s : State) : ChangesOnly [.glb] s (romRecovery s) := by
  unfold romRecovery
  try dsimp only
  refine ChangesOnly.step (upGlb_fr _ _) (by decide) ?_
  exact ChangesOnly.refl _ _

theorem startImage_fr (s : State) (golden : Bool) : ChangesOnly [.glb, .sec] s (startImage s golden) := by
  unfold startImage
  try dsimp only
  refine ChangesOnly.step (extendMs_fr _ _ _) (by decide) ?_
  refine ChangesOnly.step (extendMs_fr _ _ _) (by decide) ?_
  refine ChangesOnly.step (extendMs_fr _ _ _) (by decide) ?_
  refine ChangesOnly.step (upSec_fr _ _) (by decide) ?_
  refine ChangesOnly.step (upGlb_fr _ _) (by decide) ?_
  refine ChangesOnly.step (upGlb_fr _ _) (by decide) ?_
  exact ChangesOnly.refl _ _

theorem powerUpTests_fr (s : State) (failed : Nat) : ChangesOnly [.flt, .glb, .tsk, .kite, .sec] s (powerUpTests s failed) := by
  unfold powerUpTests
  try dsimp only
  refine ChangesOnly.ite ?_ ?_
  · refine ChangesOnly.step (reApprove_fr _) (by decide) ?_
    refine ChangesOnly.step (upSec_fr _ _) (by decide) ?_
    exact ChangesOnly.refl _ _
  · refine ChangesOnly.step (enterError_fr _) (by decide) ?_
    refine ChangesOnly.step (upSec_fr _ _) (by decide) ?_
    exact ChangesOnly.refl _ _

theorem startFault_fr (s : State) (src : Nat) : ChangesOnly [.flt] s (startFault s src) := by
  unfold startFault
  try dsimp only
  refine ChangesOnly.step (raiseAt_fr _ _ _ _ _) (by decide) ?_
  exact ChangesOnly.refl _ _

theorem trainDram_fr (s : State) (b : BoardIn) : ChangesOnly [.hst, .med, .drc, .kite] s (trainDram s b) := by
  unfold trainDram
  try dsimp only
  refine ChangesOnly.step (upDrc_fr _ _) (by decide) ?_
  refine ChangesOnly.step (upKite_fr _ _) (by decide) ?_
  refine ChangesOnly.step (upMed_fr _ _) (by decide) ?_
  refine ChangesOnly.step (upHst_fr _ _) (by decide) ?_
  exact ChangesOnly.refl _ _

theorem takeFlash_fr (s : State) (b : BoardIn) : ChangesOnly [.med] s (takeFlash s b) := by
  unfold takeFlash
  try dsimp only
  refine ChangesOnly.ite ?_ ?_
  · refine ChangesOnly.step (upMed_fr _ _) (by decide) ?_
    refine ChangesOnly.step (upMed_fr _ _) (by decide) ?_
    exact ChangesOnly.refl _ _
  · refine ChangesOnly.step (upMed_fr _ _) (by decide) ?_
    exact ChangesOnly.refl _ _

theorem endHoldup_fr (s : State) : ChangesOnly [.med] s (endHoldup s) := by
  unfold endHoldup
  try dsimp only
  refine ChangesOnly.ite ?_ ?_
  · refine ChangesOnly.step (upMed_fr _ _) (by decide) ?_
    exact ChangesOnly.refl _ _
  · exact ChangesOnly.refl _ _

theorem bootDone_fr (s : State) (ms : Nat) : ChangesOnly [.flt, .glb] s (bootDone s ms) := by
  unfold bootDone
  try dsimp only
  refine ChangesOnly.ite ?_ ?_
  · refine ChangesOnly.step (upGlb_fr _ _) (by decide) ?_
    exact ChangesOnly.refl _ _
  · refine ChangesOnly.step (upFlt_fr _ _) (by decide) ?_
    refine ChangesOnly.step (upGlb_fr _ _) (by decide) ?_
    refine ChangesOnly.step (upGlb_fr _ _) (by decide) ?_
    exact ChangesOnly.refl _ _

theorem bootRecover_fr (s : State) (found : BootIn) : ChangesOnly [.flt, .glb, .tsk, .med, .sec, .pair, .mesh, .free] s (bootRecover s found) := by
  unfold bootRecover
  try dsimp only
  split
  · refine ChangesOnly.step (bootDone_fr _ _) (by decide) ?_
    refine ChangesOnly.step (endHoldup_fr _) (by decide) ?_
    refine ChangesOnly.step (OptFrame.of (recoverState_fr _ _ _ _ _ _) (by assumption)) (by decide) ?_
    refine ChangesOnly.step (dropRoots_fr _ _) (by decide) ?_
    exact ChangesOnly.refl _ _
  · refine ChangesOnly.ite ?_ ?_
    · refine ChangesOnly.step (bootDone_fr _ _) (by decide) ?_
      refine ChangesOnly.step (startFault_fr _ _) (by decide) ?_
      refine ChangesOnly.step (upMed_fr _ _) (by decide) ?_
      exact ChangesOnly.refl _ _
    · refine ChangesOnly.step (startFault_fr _ _) (by decide) ?_
      refine ChangesOnly.step (upMed_fr _ _) (by decide) ?_
      exact ChangesOnly.refl _ _

theorem bootFlash_fr (s : State) (golden : Bool) (found : BootIn) : ChangesOnly [.flt, .glb, .tsk, .med, .sec, .pair, .mesh, .free] s (bootFlash s golden found) := by
  unfold bootFlash
  try dsimp only
  refine ChangesOnly.ite ?_ ?_
  · refine ChangesOnly.ite ?_ ?_
    · refine ChangesOnly.step (romRecovery_fr _) (by decide) ?_
      refine ChangesOnly.step (upGlb_fr _ _) (by decide) ?_
      exact ChangesOnly.refl _ _
    · refine ChangesOnly.step (upGlb_fr _ _) (by decide) ?_
      exact ChangesOnly.refl _ _
  · refine ChangesOnly.ite ?_ ?_
    · refine ChangesOnly.ite ?_ ?_
      · refine ChangesOnly.step (bootDone_fr _ _) (by decide) ?_
        refine ChangesOnly.step (startFault_fr _ _) (by decide) ?_
        refine ChangesOnly.step (upMed_fr _ _) (by decide) ?_
        exact ChangesOnly.refl _ _
      · refine ChangesOnly.step (startFault_fr _ _) (by decide) ?_
        refine ChangesOnly.step (upMed_fr _ _) (by decide) ?_
        exact ChangesOnly.refl _ _
    · refine ChangesOnly.ite ?_ ?_
      · refine ChangesOnly.step (bootRecover_fr _ _) (by decide) ?_
        refine ChangesOnly.step (takeFlash_fr _ _) (by decide) ?_
        exact ChangesOnly.refl _ _
      · refine ChangesOnly.step (bootDone_fr _ _) (by decide) ?_
        refine ChangesOnly.step (takeFlash_fr _ _) (by decide) ?_
        exact ChangesOnly.refl _ _

theorem execBoot_fr (found : BootIn) (s : State) : OutFrame [.flt, .glb, .hst, .tsk, .med, .drc, .kite, .sec, .pair, .mesh, .free] s (execBoot found s) := by
  unfold execBoot
  try dsimp only
  refine OutFrame.ite ?_ ?_
  · refine OutFrame.next ?_
    exact ChangesOnly.refl _ _
  · split
    · refine OutFrame.next ?_
      refine ChangesOnly.step (romRecovery_fr _) (by decide) ?_
      refine ChangesOnly.step (readSlots_fr _) (by decide) ?_
      refine ChangesOnly.step (upGlb_fr _ _) (by decide) ?_
      exact ChangesOnly.refl _ _
    · refine OutFrame.ite ?_ ?_
      · refine OutFrame.next ?_
        refine ChangesOnly.step (powerUpTests_fr _ _) (by decide) ?_
        refine ChangesOnly.step (startImage_fr _ _) (by decide) ?_
        refine ChangesOnly.step (readSlots_fr _) (by decide) ?_
        refine ChangesOnly.step (upGlb_fr _ _) (by decide) ?_
        exact ChangesOnly.refl _ _
      · refine OutFrame.ite ?_ ?_
        · refine OutFrame.next ?_
          refine ChangesOnly.step (bootFlash_fr _ _ _) (by decide) ?_
          refine ChangesOnly.step (trainDram_fr _ _) (by decide) ?_
          refine ChangesOnly.step (powerUpTests_fr _ _) (by decide) ?_
          refine ChangesOnly.step (startImage_fr _ _) (by decide) ?_
          refine ChangesOnly.step (readSlots_fr _) (by decide) ?_
          refine ChangesOnly.step (upGlb_fr _ _) (by decide) ?_
          exact ChangesOnly.refl _ _
        · refine OutFrame.ite ?_ ?_
          · refine OutFrame.next ?_
            refine ChangesOnly.step (bootFlash_fr _ _ _) (by decide) ?_
            refine ChangesOnly.step (startFault_fr _ _) (by decide) ?_
            refine ChangesOnly.step (powerUpTests_fr _ _) (by decide) ?_
            refine ChangesOnly.step (startImage_fr _ _) (by decide) ?_
            refine ChangesOnly.step (readSlots_fr _) (by decide) ?_
            refine ChangesOnly.step (upGlb_fr _ _) (by decide) ?_
            exact ChangesOnly.refl _ _
          · refine OutFrame.next ?_
            refine ChangesOnly.step (startFault_fr _ _) (by decide) ?_
            refine ChangesOnly.step (powerUpTests_fr _ _) (by decide) ?_
            refine ChangesOnly.step (startImage_fr _ _) (by decide) ?_
            refine ChangesOnly.step (readSlots_fr _) (by decide) ?_
            refine ChangesOnly.step (upGlb_fr _ _) (by decide) ?_
            exact ChangesOnly.refl _ _


/-! ### Slots -/

theorem tagless_fr (s : State) (q : Nat) (ring : Nat) (status : Nat) (detail : Nat) (r0 : Nat) (p : Machine.Packet) : ChangesOnly [.tsk] s (tagless s q ring status detail r0 p) := by
  unfold tagless
  try dsimp only
  refine ChangesOnly.step (postTagless_fr _ _ _) (by decide) ?_
  exact ChangesOnly.refl _ _

theorem slotWriteOne_fr (s : State) (q : Nat) (b : List Byte) : ChangesOnly [.tsk] s (slotWriteOne s q b) := by
  unfold slotWriteOne
  try dsimp only
  split
  · refine ChangesOnly.step (upTsk_fr _ _) (by decide) ?_
    exact ChangesOnly.refl _ _
  · refine ChangesOnly.ite ?_ ?_
    · refine ChangesOnly.step (tagless_fr _ _ _ _ _ _ _) (by decide) ?_
      refine ChangesOnly.step (upTsk_fr _ _) (by decide) ?_
      exact ChangesOnly.refl _ _
    · refine ChangesOnly.ite ?_ ?_
      · refine ChangesOnly.step (tagless_fr _ _ _ _ _ _ _) (by decide) ?_
        refine ChangesOnly.step (upTsk_fr _ _) (by decide) ?_
        exact ChangesOnly.refl _ _
      · refine ChangesOnly.ite ?_ ?_
        · refine ChangesOnly.step (upTsk_fr _ _) (by decide) ?_
          exact ChangesOnly.refl _ _
        · refine ChangesOnly.step (tagless_fr _ _ _ _ _ _ _) (by decide) ?_
          refine ChangesOnly.step (upTsk_fr _ _) (by decide) ?_
          exact ChangesOnly.refl _ _

theorem slotWrites_fr (s : State) (q : Nat) (b : List Byte) (n : Nat) : ChangesOnly [.tsk] s (slotWrites s q b n) := by
  unfold slotWrites
  try dsimp only
  split
  · exact ChangesOnly.refl _ _
  · refine ChangesOnly.step (slotWrites_fr _ _ _ _) (by decide) ?_
    refine ChangesOnly.step (slotWriteOne_fr _ _ _) (by decide) ?_
    exact ChangesOnly.refl _ _

theorem execSlotWrite_fr (addr : Nat) (data : List Byte) (enables : Bool) (poisoned : Bool) (idePassed : Bool) (s : State) : OutFrame [.hst, .tsk] s (execSlotWrite addr data enables poisoned idePassed s) := by
  unfold execSlotWrite
  try dsimp only
  refine OutFrame.ite ?_ ?_
  · refine OutFrame.next ?_
    exact ChangesOnly.refl _ _
  · refine OutFrame.ite ?_ ?_
    · refine OutFrame.next ?_
      refine ChangesOnly.step (slotWrites_fr _ _ _ _) (by decide) ?_
      exact ChangesOnly.refl _ _
    · refine OutFrame.next ?_
      refine ChangesOnly.step (upHst_fr _ _) (by decide) ?_
      exact ChangesOnly.refl _ _

theorem admitDigest_fr (s : State) (o : Machine.Op) : ChangesOnly [.tsk, .sec] s (admitDigest s o) := by
  unfold admitDigest
  try dsimp only
  refine ChangesOnly.ite ?_ ?_
  · refine ChangesOnly.step (modOp_fr _ _ _) (by decide) ?_
    refine ChangesOnly.step (upSec_fr _ _) (by decide) ?_
    exact ChangesOnly.refl _ _
  · split
    · exact ChangesOnly.refl _ _
    · refine ChangesOnly.step (modOp_fr _ _ _) (by decide) ?_
      refine ChangesOnly.step (upSec_fr _ _) (by decide) ?_
      exact ChangesOnly.refl _ _

theorem admitLock_fr (s : State) (o : Machine.Op) (l : Machine.Lock) : ChangesOnly [.tsk] s (admitLock s o l) := by
  unfold admitLock
  try dsimp only
  refine ChangesOnly.ite ?_ ?_
  · refine ChangesOnly.step (modOp_fr _ _ _) (by decide) ?_
    refine ChangesOnly.step (upTsk_fr _ _) (by decide) ?_
    exact ChangesOnly.refl _ _
  · refine ChangesOnly.step (modOp_fr _ _ _) (by decide) ?_
    exact ChangesOnly.refl _ _

theorem admitDelete_fr (s : State) (o : Machine.Op) : ChangesOnly [.tsk] s (admitDelete s o) := by
  unfold admitDelete
  try dsimp only
  split
  · exact ChangesOnly.refl _ _
  · refine ChangesOnly.foldl (fun _ _ => ?_) ?_
    · refine ChangesOnly.step (tagless_fr _ _ _ _ _ _ _) (by decide) ?_
      exact ChangesOnly.refl _ _
    · refine ChangesOnly.step (upTsk_fr _ _) (by decide) ?_
      exact ChangesOnly.refl _ _

theorem takeIn_fr (s : State) (o : Machine.Op) : ChangesOnly [.tsk, .kite, .sec] s (takeIn s o) := by
  unfold takeIn
  try dsimp only
  split
  · refine ChangesOnly.step (modOp_fr _ _ _) (by decide) ?_
    split
    · refine ChangesOnly.step (admitDelete_fr _ _) (by decide) ?_
      exact ChangesOnly.refl _ _
    · refine ChangesOnly.step (admitDigest_fr _ _) (by decide) ?_
      exact ChangesOnly.refl _ _
    · refine ChangesOnly.step (admitDigest_fr _ _) (by decide) ?_
      exact ChangesOnly.refl _ _
    · refine ChangesOnly.step (upKite_fr _ _) (by decide) ?_
      exact ChangesOnly.refl _ _
    · exact ChangesOnly.refl _ _
  · refine ChangesOnly.ite ?_ ?_
    · split
      · refine ChangesOnly.step (modOp_fr _ _ _) (by decide) ?_
        refine ChangesOnly.step (upTsk_fr _ _) (by decide) ?_
        refine ChangesOnly.step (modOp_fr _ _ _) (by decide) ?_
        split
        · refine ChangesOnly.step (admitDelete_fr _ _) (by decide) ?_
          exact ChangesOnly.refl _ _
        · refine ChangesOnly.step (admitDigest_fr _ _) (by decide) ?_
          exact ChangesOnly.refl _ _
        · refine ChangesOnly.step (admitDigest_fr _ _) (by decide) ?_
          exact ChangesOnly.refl _ _
        · refine ChangesOnly.step (upKite_fr _ _) (by decide) ?_
          exact ChangesOnly.refl _ _
        · exact ChangesOnly.refl _ _
      · refine ChangesOnly.step (admitLock_fr _ _ _) (by decide) ?_
        refine ChangesOnly.step (upTsk_fr _ _) (by decide) ?_
        refine ChangesOnly.step (modOp_fr _ _ _) (by decide) ?_
        split
        · refine ChangesOnly.step (admitDelete_fr _ _) (by decide) ?_
          exact ChangesOnly.refl _ _
        · refine ChangesOnly.step (admitDigest_fr _ _) (by decide) ?_
          exact ChangesOnly.refl _ _
        · refine ChangesOnly.step (admitDigest_fr _ _) (by decide) ?_
          exact ChangesOnly.refl _ _
        · refine ChangesOnly.step (upKite_fr _ _) (by decide) ?_
          exact ChangesOnly.refl _ _
        · exact ChangesOnly.refl _ _
    · refine ChangesOnly.step (admitLock_fr _ _ _) (by decide) ?_
      refine ChangesOnly.step (modOp_fr _ _ _) (by decide) ?_
      split
      · refine ChangesOnly.step (admitDelete_fr _ _) (by decide) ?_
        exact ChangesOnly.refl _ _
      · refine ChangesOnly.step (admitDigest_fr _ _) (by decide) ?_
        exact ChangesOnly.refl _ _
      · refine ChangesOnly.step (admitDigest_fr _ _) (by decide) ?_
        exact ChangesOnly.refl _ _
      · refine ChangesOnly.step (upKite_fr _ _) (by decide) ?_
        exact ChangesOnly.refl _ _
      · exact ChangesOnly.refl _ _

theorem acceptPacket_fr (s : State) (src : Machine.Source) (p : Machine.Packet) (tag : Nat) : ChangesOnly [.pwr, .glb, .tsk, .kite, .sec] s (acceptPacket s src p tag) := by
  unfold acceptPacket
  try dsimp only
  split
  · refine ChangesOnly.step (finish_fr _ _ _) (by decide) ?_
    refine ChangesOnly.ite ?_ ?_
    · refine ChangesOnly.step (upSec_fr _ _) (by decide) ?_
      refine ChangesOnly.step (upPwr_fr _ _) (by decide) ?_
      split
      · refine ChangesOnly.step (reApprove_fr _) (by decide) ?_
        refine ChangesOnly.step (upSec_fr _ _) (by decide) ?_
        refine ChangesOnly.step (upGlb_fr _ _) (by decide) ?_
        refine ChangesOnly.step (upTsk_fr _ _) (by decide) ?_
        refine ChangesOnly.step (takeTag_fr _) (by decide) ?_
        exact ChangesOnly.refl _ _
      · refine ChangesOnly.step (upTsk_fr _ _) (by decide) ?_
        refine ChangesOnly.step (takeTag_fr _) (by decide) ?_
        exact ChangesOnly.refl _ _
    · refine ChangesOnly.step (upPwr_fr _ _) (by decide) ?_
      split
      · refine ChangesOnly.step (reApprove_fr _) (by decide) ?_
        refine ChangesOnly.step (upSec_fr _ _) (by decide) ?_
        refine ChangesOnly.step (upGlb_fr _ _) (by decide) ?_
        refine ChangesOnly.step (upTsk_fr _ _) (by decide) ?_
        refine ChangesOnly.step (takeTag_fr _) (by decide) ?_
        exact ChangesOnly.refl _ _
      · refine ChangesOnly.step (upTsk_fr _ _) (by decide) ?_
        refine ChangesOnly.step (takeTag_fr _) (by decide) ?_
        exact ChangesOnly.refl _ _
  · refine ChangesOnly.step (takeIn_fr _ _) (by decide) ?_
    refine ChangesOnly.step (powerAccept_fr _ _) (by decide) ?_
    refine ChangesOnly.step (roleCheck_fr _ _ _) (by decide) ?_
    refine ChangesOnly.step (upPwr_fr _ _) (by decide) ?_
    split
    · refine ChangesOnly.step (reApprove_fr _) (by decide) ?_
      refine ChangesOnly.step (upSec_fr _ _) (by decide) ?_
      refine ChangesOnly.step (upGlb_fr _ _) (by decide) ?_
      refine ChangesOnly.step (upTsk_fr _ _) (by decide) ?_
      refine ChangesOnly.step (takeTag_fr _) (by decide) ?_
      exact ChangesOnly.refl _ _
    · refine ChangesOnly.step (upTsk_fr _ _) (by decide) ?_
      refine ChangesOnly.step (takeTag_fr _) (by decide) ?_
      exact ChangesOnly.refl _ _

theorem acceptFootpath_fr (s : State) (p : Machine.Packet) : ChangesOnly [.pwr, .glb, .tsk, .kite, .sec] s (acceptFootpath s p) := by
  unfold acceptFootpath
  try dsimp only
  refine ChangesOnly.ite ?_ ?_
  · refine ChangesOnly.step (upGlb_fr _ _) (by decide) ?_
    exact ChangesOnly.refl _ _
  · split
    · refine ChangesOnly.step (acceptPacket_fr _ _ _ _) (by decide) ?_
      refine ChangesOnly.step (upGlb_fr _ _) (by decide) ?_
      exact ChangesOnly.refl _ _
    · refine ChangesOnly.step (upGlb_fr _ _) (by decide) ?_
      exact ChangesOnly.refl _ _

theorem execIntakeAccept_fr (s : State) : OutFrame [.pwr, .glb, .tsk, .kite, .sec] s (execIntakeAccept s) := by
  unfold execIntakeAccept
  try dsimp only
  refine OutFrame.ite ?_ ?_
  · refine OutFrame.next ?_
    exact ChangesOnly.refl _ _
  · split
    · refine OutFrame.next ?_
      refine ChangesOnly.step (acceptFootpath_fr _ _) (by decide) ?_
      exact ChangesOnly.refl _ _
    · refine OutFrame.next ?_
      refine ChangesOnly.step (acceptPacket_fr _ _ _ _) (by decide) ?_
      refine ChangesOnly.step (upTsk_fr _ _) (by decide) ?_
      exact ChangesOnly.refl _ _
    · refine OutFrame.next ?_
      exact ChangesOnly.refl _ _

theorem execLockGrant_fr (tag : Nat) (s : State) : OutFrame [.tsk, .sec] s (execLockGrant tag s) := by
  unfold execLockGrant
  try dsimp only
  split
  · refine OutFrame.ite ?_ ?_
    · refine OutFrame.next ?_
      exact ChangesOnly.refl _ _
    · refine OutFrame.ite ?_ ?_
      · refine OutFrame.next ?_
        refine ChangesOnly.step (failEarly_fr _ _ _) (by decide) ?_
        exact ChangesOnly.refl _ _
      · refine OutFrame.next ?_
        refine ChangesOnly.step (modOp_fr _ _ _) (by decide) ?_
        refine ChangesOnly.step (upTsk_fr _ _) (by decide) ?_
        exact ChangesOnly.refl _ _
  · refine OutFrame.next ?_
    exact ChangesOnly.refl _ _

theorem execLockEntryFree_fr (s : State) : OutFrame [.tsk] s (execLockEntryFree s) := by
  unfold execLockEntryFree
  try dsimp only
  refine OutFrame.ite ?_ ?_
  · refine OutFrame.next ?_
    exact ChangesOnly.refl _ _
  · split
    · refine OutFrame.next ?_
      exact ChangesOnly.refl _ _
    · split
      · refine OutFrame.next ?_
        exact ChangesOnly.refl _ _
      · refine OutFrame.next ?_
        refine ChangesOnly.step (modOp_fr _ _ _) (by decide) ?_
        refine ChangesOnly.step (upTsk_fr _ _) (by decide) ?_
        exact ChangesOnly.refl _ _

theorem execStagingAdmit_fr (s : State) : OutFrame [.tsk] s (execStagingAdmit s) := by
  unfold execStagingAdmit
  try dsimp only
  split
  · refine OutFrame.next ?_
    exact ChangesOnly.refl _ _
  · refine OutFrame.ite ?_ ?_
    · refine OutFrame.next ?_
      refine ChangesOnly.step (modOp_fr _ _ _) (by decide) ?_
      exact ChangesOnly.refl _ _
    · refine OutFrame.next ?_
      exact ChangesOnly.refl _ _

theorem execFragmentListRead_fr (tag : Nat) (host : HostRead) (s : State) : OutFrame [.hst, .tsk, .sec] s (execFragmentListRead tag host s) := by
  unfold execFragmentListRead
  try dsimp only
  split
  · refine OutFrame.next ?_
    exact ChangesOnly.refl _ _
  · refine OutFrame.ite ?_ ?_
    · refine OutFrame.next ?_
      exact ChangesOnly.refl _ _
    · split
      · refine OutFrame.next ?_
        refine ChangesOnly.step (failEarly_fr _ _ _) (by decide) ?_
        exact ChangesOnly.refl _ _
      · refine OutFrame.ite ?_ ?_
        · refine OutFrame.next ?_
          exact ChangesOnly.refl _ _
        · split
          · refine OutFrame.next ?_
            refine ChangesOnly.step (failEarly_fr _ _ _) (by decide) ?_
            refine ChangesOnly.step (issue_fr _ _) (by decide) ?_
            exact ChangesOnly.refl _ _
          · refine OutFrame.ite ?_ ?_
            · refine OutFrame.next ?_
              refine ChangesOnly.step (failEarly_fr _ _ _) (by decide) ?_
              refine ChangesOnly.step (issue_fr _ _) (by decide) ?_
              exact ChangesOnly.refl _ _
            · refine OutFrame.ite ?_ ?_
              · refine OutFrame.next ?_
                refine ChangesOnly.step (failEarly_fr _ _ _) (by decide) ?_
                refine ChangesOnly.step (issue_fr _ _) (by decide) ?_
                exact ChangesOnly.refl _ _
              · refine OutFrame.next ?_
                refine ChangesOnly.step (modOp_fr _ _ _) (by decide) ?_
                refine ChangesOnly.step (issue_fr _ _) (by decide) ?_
                exact ChangesOnly.refl _ _

theorem execCommandComplete_fr (tag : Nat) (s : State) : OutFrame [.glb, .hst, .tsk] s (execCommandComplete tag s) := by
  unfold execCommandComplete
  try dsimp only
  split
  · refine OutFrame.next ?_
    exact ChangesOnly.refl _ _
  · split
    · refine OutFrame.ite ?_ ?_
      · refine OutFrame.next ?_
        exact ChangesOnly.refl _ _
      · refine OutFrame.next ?_
        refine ChangesOnly.step (handOver_fr _ _ _) (by decide) ?_
        exact ChangesOnly.refl _ _
    · refine OutFrame.next ?_
      exact ChangesOnly.refl _ _

theorem signal_fr (s : State) (n : Nat) (r : Machine.Ring) : ChangesOnly [.hst, .tsk] s (signal s n r) := by
  unfold signal
  try dsimp only
  refine ChangesOnly.ite ?_ ?_
  · exact ChangesOnly.refl _ _
  · refine ChangesOnly.step (msixSend_fr _ _) (by decide) ?_
    refine ChangesOnly.step (upTsk_fr _ _) (by decide) ?_
    exact ChangesOnly.refl _ _

theorem writeEntry_fr (s : State) (n : Nat) (r : Machine.Ring) (e : Machine.Entry) (landed : Bool) : ChangesOnly [.hst, .tsk, .hostMem] s (writeEntry s n r e landed) := by
  unfold writeEntry
  try dsimp only
  refine ChangesOnly.ite ?_ ?_
  · refine ChangesOnly.step (signal_fr _ _ _) (by decide) ?_
    refine ChangesOnly.step (upTsk_fr _ _) (by decide) ?_
    refine ChangesOnly.ite ?_ ?_
    · refine ChangesOnly.set_hostMem (by decide) ?_
      refine ChangesOnly.ite ?_ ?_
      · refine ChangesOnly.step (issue_fr _ _) (by decide) ?_
        exact ChangesOnly.refl _ _
      · exact ChangesOnly.refl _ _
    · refine ChangesOnly.ite ?_ ?_
      · refine ChangesOnly.step (issue_fr _ _) (by decide) ?_
        exact ChangesOnly.refl _ _
      · exact ChangesOnly.refl _ _
  · refine ChangesOnly.step (upTsk_fr _ _) (by decide) ?_
    refine ChangesOnly.ite ?_ ?_
    · refine ChangesOnly.set_hostMem (by decide) ?_
      refine ChangesOnly.ite ?_ ?_
      · refine ChangesOnly.step (issue_fr _ _) (by decide) ?_
        exact ChangesOnly.refl _ _
      · exact ChangesOnly.refl _ _
    · refine ChangesOnly.ite ?_ ?_
      · refine ChangesOnly.step (issue_fr _ _) (by decide) ?_
        exact ChangesOnly.refl _ _
      · exact ChangesOnly.refl _ _

theorem writeReply_fr (s : State) (n : Nat) (src : ReplySrc) (landed : Bool) : OptFrame [.hst, .tsk, .hostMem] s (writeReply s n src landed) := by
  unfold writeReply
  try dsimp only
  split
  · exact OptFrame.none
  · refine OptFrame.ite ?_ ?_
    · exact OptFrame.none
    · split
      · split
        · exact OptFrame.none
        · refine OptFrame.some ?_
          refine ChangesOnly.step (dropOp_fr _ _) (by decide) ?_
          refine ChangesOnly.step (writeEntry_fr _ _ _ _ _) (by decide) ?_
          exact ChangesOnly.refl _ _
      · split
        · exact OptFrame.none
        · refine OptFrame.some ?_
          refine ChangesOnly.step (writeEntry_fr _ _ _ _ _) (by decide) ?_
          refine ChangesOnly.step (upTsk_fr _ _) (by decide) ?_
          exact ChangesOnly.refl _ _
      · split
        · exact OptFrame.none
        · refine OptFrame.ite ?_ ?_
          · exact OptFrame.none
          · refine OptFrame.some ?_
            refine ChangesOnly.step (writeEntry_fr _ _ _ _ _) (by decide) ?_
            refine ChangesOnly.step (upTsk_fr _ _) (by decide) ?_
            exact ChangesOnly.refl _ _

theorem execReplyWrite_fr (ring : Nat) (src : ReplySrc) (s : State) : OutFrame [.hst, .tsk, .hostMem] s (execReplyWrite ring src s) := by
  unfold execReplyWrite
  try dsimp only
  refine OutFrame.next ?_
  refine OptFrame.getD ?_ ?_
  · refine OptFrame.step (writeReply_fr _ _ _ _) (by decide) ?_
    exact ChangesOnly.refl _ _
  · exact ChangesOnly.refl _ _

theorem execReplyWriteError_fr (ring : Nat) (src : ReplySrc) (s : State) : OutFrame [.flt, .hst, .tsk, .hostMem] s (execReplyWriteError ring src s) := by
  unfold execReplyWriteError
  try dsimp only
  refine OutFrame.ite ?_ ?_
  · refine OutFrame.next ?_
    exact ChangesOnly.refl _ _
  · split
    · refine OutFrame.next ?_
      exact ChangesOnly.refl _ _
    · refine OutFrame.next ?_
      refine ChangesOnly.step (raiseAt_fr _ _ _ _ _) (by decide) ?_
      refine ChangesOnly.step (OptFrame.of (writeReply_fr _ _ _ _) (by assumption)) (by decide) ?_
      exact ChangesOnly.refl _ _

theorem execRingFullNotice_fr (ring : Nat) (s : State) : OutFrame [.tsk] s (execRingFullNotice ring s) := by
  unfold execRingFullNotice
  try dsimp only
  split
  · refine OutFrame.next ?_
    exact ChangesOnly.refl _ _
  · refine OutFrame.ite ?_ ?_
    · refine OutFrame.next ?_
      exact ChangesOnly.refl _ _
    · refine OutFrame.next ?_
      refine ChangesOnly.step (postEvent_fr _ _ _ _ _) (by decide) ?_
      refine ChangesOnly.step (upTsk_fr _ _) (by decide) ?_
      exact ChangesOnly.refl _ _

theorem execCoalesceTimeout_fr (ring : Nat) (s : State) : OutFrame [.hst, .tsk] s (execCoalesceTimeout ring s) := by
  unfold execCoalesceTimeout
  try dsimp only
  split
  · refine OutFrame.next ?_
    exact ChangesOnly.refl _ _
  · refine OutFrame.ite ?_ ?_
    · refine OutFrame.next ?_
      exact ChangesOnly.refl _ _
    · refine OutFrame.next ?_
      refine ChangesOnly.step (signal_fr _ _ _) (by decide) ?_
      exact ChangesOnly.refl _ _

theorem execMsixUnmask_fr (w : MsixWrite) (s : State) : OutFrame [.hst] s (execMsixUnmask w s) := by
  unfold execMsixUnmask
  try dsimp only
  refine OutFrame.ite ?_ ?_
  · refine OutFrame.next ?_
    exact ChangesOnly.refl _ _
  · split
    · refine OutFrame.ite ?_ ?_
      · refine OutFrame.next ?_
        exact ChangesOnly.refl _ _
      · refine OutFrame.next ?_
        refine ChangesOnly.step (msixFlush_fr _) (by decide) ?_
        refine ChangesOnly.step (upHst_fr _ _) (by decide) ?_
        exact ChangesOnly.refl _ _
    · refine OutFrame.ite ?_ ?_
      · refine OutFrame.next ?_
        exact ChangesOnly.refl _ _
      · refine OutFrame.next ?_
        refine ChangesOnly.step (msixFlush_fr _) (by decide) ?_
        refine ChangesOnly.step (upHst_fr _ _) (by decide) ?_
        exact ChangesOnly.refl _ _
    · refine OutFrame.next ?_
      refine ChangesOnly.step (msixFlush_fr _) (by decide) ?_
      refine ChangesOnly.step (upHst_fr _ _) (by decide) ?_
      exact ChangesOnly.refl _ _
    · refine OutFrame.next ?_
      refine ChangesOnly.step (msixFlush_fr _) (by decide) ?_
      refine ChangesOnly.step (upHst_fr _ _) (by decide) ?_
      exact ChangesOnly.refl _ _
    · refine OutFrame.next ?_
      refine ChangesOnly.step (upHst_fr _ _) (by decide) ?_
      exact ChangesOnly.refl _ _
    · refine OutFrame.next ?_
      refine ChangesOnly.step (upHst_fr _ _) (by decide) ?_
      exact ChangesOnly.refl _ _
    · refine OutFrame.next ?_
      refine ChangesOnly.step (upHst_fr _ _) (by decide) ?_
      exact ChangesOnly.refl _ _
    · refine OutFrame.next ?_
      refine ChangesOnly.step (upHst_fr _ _) (by decide) ?_
      exact ChangesOnly.refl _ _
    · refine OutFrame.next ?_
      refine ChangesOnly.step (upHst_fr _ _) (by decide) ?_
      exact ChangesOnly.refl _ _
    · refine OutFrame.next ?_
      refine ChangesOnly.step (upHst_fr _ _) (by decide) ?_
      exact ChangesOnly.refl _ _


/-! ### Control -/

theorem abortOp_fr (s : State) (o : Machine.Op) : ChangesOnly [.hst, .tsk, .med, .drc, .kite, .cmp, .sec, .pair, .hostMem, .arena, .free] s (abortOp s o) := by
  unfold abortOp
  try dsimp only
  refine ChangesOnly.step (modOp_fr _ _ _) (by decide) ?_
  refine ChangesOnly.ite ?_ ?_
  · refine ChangesOnly.step (stopRun_fr _ _ _) (by decide) ?_
    exact ChangesOnly.refl _ _
  · refine ChangesOnly.step (finish_fr _ _ _) (by decide) ?_
    refine ChangesOnly.step (abandon_fr _ _) (by decide) ?_
    exact ChangesOnly.refl _ _

theorem abortNamed_fr (s : State) (tag : Nat) (o : Machine.Op) : ChangesOnly [.hst, .tsk, .med, .drc, .kite, .cmp, .sec, .pair, .hostMem, .arena, .free] s (abortNamed s tag o) := by
  unfold abortNamed
  try dsimp only
  refine ChangesOnly.ite ?_ ?_
  · refine ChangesOnly.step (finish_fr _ _ _) (by decide) ?_
    exact ChangesOnly.refl _ _
  · refine ChangesOnly.step (modOp_fr _ _ _) (by decide) ?_
    refine ChangesOnly.step (finish_fr _ _ _) (by decide) ?_
    refine ChangesOnly.step (abortOp_fr _ _) (by decide) ?_
    exact ChangesOnly.refl _ _

theorem execAbort_fr (tag : Nat) (s : State) : OutFrame [.hst, .tsk, .med, .drc, .kite, .cmp, .sec, .pair, .hostMem, .arena, .free] s (execAbort tag s) := by
  unfold execAbort
  try dsimp only
  split
  · refine OutFrame.next ?_
    exact ChangesOnly.refl _ _
  · refine OutFrame.ite ?_ ?_
    · refine OutFrame.next ?_
      exact ChangesOnly.refl _ _
    · split
      · refine OutFrame.next ?_
        refine ChangesOnly.step (abortNamed_fr _ _ _) (by decide) ?_
        exact ChangesOnly.refl _ _
      · refine OutFrame.next ?_
        refine ChangesOnly.step (finish_fr _ _ _) (by decide) ?_
        refine ChangesOnly.step (tagless_fr _ _ _ _ _ _ _) (by decide) ?_
        refine ChangesOnly.step (upTsk_fr _ _) (by decide) ?_
        exact ChangesOnly.refl _ _
      · refine OutFrame.next ?_
        refine ChangesOnly.step (finish_fr _ _ _) (by decide) ?_
        exact ChangesOnly.refl _ _
      · refine OutFrame.next ?_
        refine ChangesOnly.step (finish_fr _ _ _) (by decide) ?_
        exact ChangesOnly.refl _ _

theorem execNop_fr (tag : Nat) (s : State) : OutFrame [.tsk] s (execNop tag s) := by
  unfold execNop
  try dsimp only
  split
  · refine OutFrame.next ?_
    exact ChangesOnly.refl _ _
  · refine OutFrame.next ?_
    refine ChangesOnly.step (finish_fr _ _ _) (by decide) ?_
    exact ChangesOnly.refl _ _


/-! ### Dram -/

theorem anyOf_fr {α : Type} (s : State) (l : List α) : ChangesOnly [.free] s (anyOf s l).2 := by
  unfold anyOf
  dsimp only
  split
  · exact ChangesOnly.refl _ _
  · exact freeBelow_fr s l.length

theorem unpoison_fr (s : State) (line : Nat) : ChangesOnly [.drc] s (unpoison s line) := by
  unfold unpoison
  try dsimp only
  refine ChangesOnly.step (upDrc_fr _ _) (by decide) ?_
  exact ChangesOnly.refl _ _

theorem loseLeafLine_fr (s : State) : ChangesOnly [.med, .free] s (loseLeafLine s) := by
  unfold loseLeafLine
  try dsimp only
  split
  · refine ChangesOnly.ite ?_ ?_
    · refine ChangesOnly.step (anyOf_fr _ _) (by decide) ?_
      exact ChangesOnly.refl _ _
    · refine ChangesOnly.step (dropPage_fr _ _ _) (by decide) ?_
      refine ChangesOnly.step (anyOf_fr _ _) (by decide) ?_
      exact ChangesOnly.refl _ _
  · refine ChangesOnly.step (anyOf_fr _ _) (by decide) ?_
    exact ChangesOnly.refl _ _

theorem loseStagedLine_fr (s : State) (line : Nat) : ChangesOnly [.flt, .med, .free] s (loseStagedLine s line) := by
  unfold loseStagedLine
  try dsimp only
  refine ChangesOnly.ite ?_ ?_
  · exact ChangesOnly.refl _ _
  · split
    · refine ChangesOnly.step (anyOf_fr _ _) (by decide) ?_
      exact ChangesOnly.refl _ _
    · refine ChangesOnly.step (raise_fr _ _) (by decide) ?_
      refine ChangesOnly.step (upMed_fr _ _) (by decide) ?_
      refine ChangesOnly.step (anyOf_fr _ _) (by decide) ?_
      exact ChangesOnly.refl _ _

theorem loseAccLine_fr (s : State) : ChangesOnly [.sec, .mesh, .free] s (loseAccLine s) := by
  unfold loseAccLine
  try dsimp only
  split
  · refine ChangesOnly.step (anyOf_fr _ _) (by decide) ?_
    exact ChangesOnly.refl _ _
  · split
    · refine ChangesOnly.step (abandonAcc_fr _ _ _ _) (by decide) ?_
      refine ChangesOnly.step (anyOf_fr _ _) (by decide) ?_
      exact ChangesOnly.refl _ _
    · refine ChangesOnly.step (anyOf_fr _ _) (by decide) ?_
      exact ChangesOnly.refl _ _

theorem dramRecover_fr (s : State) (line : Nat) : ChangesOnly [.flt, .med, .drc, .sec, .mesh, .free] s (dramRecover s line) := by
  unfold dramRecover
  try dsimp only
  split
  · refine ChangesOnly.step (unpoison_fr _ _) (by decide) ?_
    refine ChangesOnly.step (dramBad_fr _ _ _) (by decide) ?_
    refine ChangesOnly.step (freeBelow_fr _ _) (by decide) ?_
    exact ChangesOnly.refl _ _
  · refine ChangesOnly.step (unpoison_fr _ _) (by decide) ?_
    refine ChangesOnly.step (loseStagedLine_fr _ _) (by decide) ?_
    refine ChangesOnly.step (dramBad_fr _ _ _) (by decide) ?_
    exact ChangesOnly.refl _ _
  · refine ChangesOnly.step (unpoison_fr _ _) (by decide) ?_
    refine ChangesOnly.step (loseAccLine_fr _) (by decide) ?_
    refine ChangesOnly.step (dramBad_fr _ _ _) (by decide) ?_
    exact ChangesOnly.refl _ _
  · refine ChangesOnly.step (unpoison_fr _ _) (by decide) ?_
    refine ChangesOnly.step (loseLeafLine_fr _) (by decide) ?_
    refine ChangesOnly.step (dramBad_fr _ _ _) (by decide) ?_
    exact ChangesOnly.refl _ _
  · refine ChangesOnly.step (unpoison_fr _ _) (by decide) ?_
    refine ChangesOnly.step (dramBad_fr _ _ _) (by decide) ?_
    exact ChangesOnly.refl _ _
  · refine ChangesOnly.step (unpoison_fr _ _) (by decide) ?_
    refine ChangesOnly.step (dramBad_fr _ _ _) (by decide) ?_
    exact ChangesOnly.refl _ _
  · refine ChangesOnly.step (unpoison_fr _ _) (by decide) ?_
    refine ChangesOnly.step (dramBad_fr _ _ _) (by decide) ?_
    exact ChangesOnly.refl _ _
  · refine ChangesOnly.step (dramBad_fr _ _ _) (by decide) ?_
    exact ChangesOnly.refl _ _
  · refine ChangesOnly.step (dramBad_fr _ _ _) (by decide) ?_
    exact ChangesOnly.refl _ _
  · refine ChangesOnly.step (dramBad_fr _ _ _) (by decide) ?_
    exact ChangesOnly.refl _ _
  · refine ChangesOnly.step (dramBad_fr _ _ _) (by decide) ?_
    exact ChangesOnly.refl _ _

theorem lineRead_fr (s : State) (line : Nat) (check : LineCheck) : ChangesOnly [.flt, .med, .drc, .sec, .mesh, .free] s (lineRead s line check) := by
  unfold lineRead
  try dsimp only
  split
  · exact ChangesOnly.refl _ _
  · refine ChangesOnly.step (dramRecover_fr _ _) (by decide) ?_
    exact ChangesOnly.refl _ _
  · refine ChangesOnly.step (dramCorrected_fr _ _ _) (by decide) ?_
    exact ChangesOnly.refl _ _

theorem lineBytes_fr (s : State) (line : Nat) : ChangesOnly [.free] s (lineBytes s line).2 := by
  unfold lineBytes
  try dsimp only
  split
  · try dsimp only
    exact ChangesOnly.refl _ _
  · split
    · try dsimp only
      exact ChangesOnly.refl _ _
    · refine ChangesOnly.step (freeBytes_fr _ _) (by decide) ?_
      exact ChangesOnly.refl _ _

theorem setLine_fr (s : State) (line : Nat) (b : List Byte) : ChangesOnly [.drc, .arena] s (setLine s line b) := by
  unfold setLine
  try dsimp only
  split
  · refine ChangesOnly.set_arena (by decide) ?_
    refine ChangesOnly.step (unpoison_fr _ _) (by decide) ?_
    exact ChangesOnly.refl _ _
  · refine ChangesOnly.step (upDrc_fr _ _) (by decide) ?_
    refine ChangesOnly.step (unpoison_fr _ _) (by decide) ?_
    exact ChangesOnly.refl _ _

theorem writeLine_fr (s : State) (line : Nat) (data : List (Option Byte)) (check : LineCheck) : ChangesOnly [.flt, .med, .drc, .sec, .mesh, .arena, .free] s (writeLine s line data check) := by
  unfold writeLine
  try dsimp only
  refine ChangesOnly.ite ?_ ?_
  · exact ChangesOnly.refl _ _
  · refine ChangesOnly.ite ?_ ?_
    · refine ChangesOnly.step (setLine_fr _ _ _) (by decide) ?_
      exact ChangesOnly.refl _ _
    · refine ChangesOnly.ite ?_ ?_
      · exact ChangesOnly.refl _ _
      · refine ChangesOnly.ite ?_ ?_
        · refine ChangesOnly.step (lineRead_fr _ _ _) (by decide) ?_
          exact ChangesOnly.refl _ _
        · refine ChangesOnly.step (setLine_fr _ _ _) (by decide) ?_
          refine ChangesOnly.step (lineBytes_fr _ _) (by decide) ?_
          refine ChangesOnly.step (lineRead_fr _ _ _) (by decide) ?_
          exact ChangesOnly.refl _ _

theorem readLine_fr (s : State) (line : Nat) (check : LineCheck) : ChangesOnly [.flt, .med, .drc, .sec, .mesh, .free] s (readLine s line check) := by
  unfold readLine
  try dsimp only
  refine ChangesOnly.step (upDrc_fr _ _) (by decide) ?_
  refine ChangesOnly.ite ?_ ?_
  · refine ChangesOnly.step (lineBytes_fr _ _) (by decide) ?_
    exact ChangesOnly.refl _ _
  · refine ChangesOnly.step (lineRead_fr _ _ _) (by decide) ?_
    refine ChangesOnly.step (lineBytes_fr _ _) (by decide) ?_
    exact ChangesOnly.refl _ _

theorem modSub_fr (s : State) (sub : Nat) (f : Machine.SubChannel → Machine.SubChannel) : ChangesOnly [.drc] s (modSub s sub f) := by
  unfold modSub
  try dsimp only
  refine ChangesOnly.step (upDrc_fr _ _) (by decide) ?_
  exact ChangesOnly.refl _ _

theorem modBank_fr (s : State) (sub : Nat) (b : Nat) (f : Machine.DramBank → Machine.DramBank) : ChangesOnly [.drc] s (modBank s sub b f) := by
  unfold modBank
  try dsimp only
  refine ChangesOnly.step (modSub_fr _ _ _) (by decide) ?_
  exact ChangesOnly.refl _ _

theorem enterInOrder_fr (s : State) (sub : Nat) (b : Nat) : ChangesOnly [.drc] s (enterInOrder s sub b) := by
  unfold enterInOrder
  try dsimp only
  refine ChangesOnly.ite ?_ ?_
  · exact ChangesOnly.refl _ _
  · split
    · exact ChangesOnly.refl _ _
    · refine ChangesOnly.step (upDrc_fr _ _) (by decide) ?_
      refine ChangesOnly.step (modBank_fr _ _ _ _) (by decide) ?_
      exact ChangesOnly.refl _ _

theorem actRow_fr (s : State) (sub : Nat) (b : Nat) (row : Nat) : ChangesOnly [.drc] s (actRow s sub b row) := by
  unfold actRow
  try dsimp only
  refine ChangesOnly.step (upDrc_fr _ _) (by decide) ?_
  refine ChangesOnly.step (modBank_fr _ _ _ _) (by decide) ?_
  exact ChangesOnly.refl _ _

theorem actNear_fr (s : State) (sub : Nat) (b : Nat) : ChangesOnly [.drc] s (actNear s sub b) := by
  unfold actNear
  try dsimp only
  refine ChangesOnly.step (upDrc_fr _ _) (by decide) ?_
  refine ChangesOnly.foldl (fun _ _ => ?_) ?_
  · refine ChangesOnly.step (actRow_fr _ _ _ _) (by decide) ?_
    exact ChangesOnly.refl _ _
  · refine ChangesOnly.step (modBank_fr _ _ _ _) (by decide) ?_
    exact ChangesOnly.refl _ _

theorem closeRow_fr (s : State) (sub : Nat) (b : Nat) : ChangesOnly [.drc] s (closeRow s sub b) := by
  unfold closeRow
  try dsimp only
  refine ChangesOnly.step (actNear_fr _ _ _) (by decide) ?_
  refine ChangesOnly.step (modBank_fr _ _ _ _) (by decide) ?_
  exact ChangesOnly.refl _ _

theorem activate_fr (s : State) (sub : Nat) (b : Nat) (row : Nat) : ChangesOnly [.drc, .free] s (activate s sub b row) := by
  unfold activate
  try dsimp only
  refine ChangesOnly.step (modBank_fr _ _ _ _) (by decide) ?_
  refine ChangesOnly.step (upDrc_fr _ _) (by decide) ?_
  refine ChangesOnly.step (freeBelow_fr _ _) (by decide) ?_
  refine ChangesOnly.step (actRow_fr _ _ _ _) (by decide) ?_
  refine ChangesOnly.step (closeRow_fr _ _ _) (by decide) ?_
  exact ChangesOnly.refl _ _

theorem issueReq_fr (s : State) (sub : Nat) (r : Machine.DramReq) : ChangesOnly [.drc, .free] s (issueReq s sub r) := by
  unfold issueReq
  try dsimp only
  refine ChangesOnly.step (enterInOrder_fr _ _ _) (by decide) ?_
  refine ChangesOnly.step (modBank_fr _ _ _ _) (by decide) ?_
  refine ChangesOnly.ite ?_ ?_
  · refine ChangesOnly.step (closeRow_fr _ _ _) (by decide) ?_
    refine ChangesOnly.ite ?_ ?_
    · refine ChangesOnly.step (modSub_fr _ _ _) (by decide) ?_
      exact ChangesOnly.refl _ _
    · refine ChangesOnly.step (activate_fr _ _ _ _) (by decide) ?_
      refine ChangesOnly.step (modSub_fr _ _ _) (by decide) ?_
      exact ChangesOnly.refl _ _
  · refine ChangesOnly.ite ?_ ?_
    · refine ChangesOnly.step (modSub_fr _ _ _) (by decide) ?_
      exact ChangesOnly.refl _ _
    · refine ChangesOnly.step (activate_fr _ _ _ _) (by decide) ?_
      refine ChangesOnly.step (modSub_fr _ _ _) (by decide) ?_
      exact ChangesOnly.refl _ _

theorem execDramRequest_fr (r : DramOp) (s : State) : OutFrame [.flt, .med, .drc, .sec, .mesh, .arena, .free] s (execDramRequest r s) := by
  unfold execDramRequest
  try dsimp only
  refine OutFrame.ite ?_ ?_
  · refine OutFrame.next ?_
    exact ChangesOnly.refl _ _
  · split
    · refine OutFrame.ite ?_ ?_
      · refine OutFrame.next ?_
        exact ChangesOnly.refl _ _
      · refine OutFrame.next ?_
        refine ChangesOnly.step (enterInOrder_fr _ _ _) (by decide) ?_
        refine ChangesOnly.step (modSub_fr _ _ _) (by decide) ?_
        exact ChangesOnly.refl _ _
    · refine OutFrame.ite ?_ ?_
      · refine OutFrame.next ?_
        exact ChangesOnly.refl _ _
      · split
        · refine OutFrame.next ?_
          exact ChangesOnly.refl _ _
        · refine OutFrame.next ?_
          refine ChangesOnly.ite ?_ ?_
          · refine ChangesOnly.step (writeLine_fr _ _ _ _) (by decide) ?_
            refine ChangesOnly.step (issueReq_fr _ _ _) (by decide) ?_
            refine ChangesOnly.step (anyOf_fr _ _) (by decide) ?_
            exact ChangesOnly.refl _ _
          · refine ChangesOnly.step (readLine_fr _ _ _) (by decide) ?_
            refine ChangesOnly.step (issueReq_fr _ _ _) (by decide) ?_
            refine ChangesOnly.step (anyOf_fr _ _) (by decide) ?_
            exact ChangesOnly.refl _ _

theorem execRowIdleTimeout_fr (sub : Nat) (bank : Nat) (s : State) : OutFrame [.drc] s (execRowIdleTimeout sub bank s) := by
  unfold execRowIdleTimeout
  try dsimp only
  refine OutFrame.ite ?_ ?_
  · refine OutFrame.next ?_
    exact ChangesOnly.refl _ _
  · refine OutFrame.next ?_
    refine ChangesOnly.step (closeRow_fr _ _ _) (by decide) ?_
    exact ChangesOnly.refl _ _

theorem execNrReseed_fr (channel : Nat) (s : State) : OutFrame [.drc, .free] s (execNrReseed channel s) := by
  unfold execNrReseed
  try dsimp only
  refine OutFrame.ite ?_ ?_
  · refine OutFrame.next ?_
    exact ChangesOnly.refl _ _
  · refine OutFrame.next ?_
    refine ChangesOnly.step (upDrc_fr _ _) (by decide) ?_
    refine ChangesOnly.step (freeBelow_fr _ _) (by decide) ?_
    exact ChangesOnly.refl _ _

theorem refreshBank_fr (s : State) (sub : Nat) (b : Nat) (n : Nat) : ChangesOnly [.drc] s (refreshBank s sub b n) := by
  unfold refreshBank
  try dsimp only
  refine ChangesOnly.step (closeRow_fr _ _ _) (by decide) ?_
  refine ChangesOnly.step (modBank_fr _ _ _ _) (by decide) ?_
  exact ChangesOnly.refl _ _

theorem refresh_fr (s : State) (rank : Nat) (n : Nat) : ChangesOnly [.drc] s (refresh s rank n) := by
  unfold refresh
  try dsimp only
  refine ChangesOnly.step (upDrc_fr _ _) (by decide) ?_
  refine ChangesOnly.ite ?_ ?_
  · exact ChangesOnly.refl _ _
  · refine ChangesOnly.foldl (fun _ _ => ?_) ?_
    · refine ChangesOnly.foldl (fun _ _ => ?_) ?_
      · refine ChangesOnly.step (refreshBank_fr _ _ _ _) (by decide) ?_
        exact ChangesOnly.refl _ _
      · exact ChangesOnly.refl _ _
    · exact ChangesOnly.refl _ _

theorem execRefreshDue_fr (rank : Nat) (postpone : Bool) (s : State) : OutFrame [.drc] s (execRefreshDue rank postpone s) := by
  unfold execRefreshDue
  try dsimp only
  refine OutFrame.ite ?_ ?_
  · refine OutFrame.next ?_
    exact ChangesOnly.refl _ _
  · refine OutFrame.ite ?_ ?_
    · refine OutFrame.next ?_
      refine ChangesOnly.step (upDrc_fr _ _) (by decide) ?_
      refine ChangesOnly.ite ?_ ?_
      · refine ChangesOnly.step (upDrc_fr _ _) (by decide) ?_
        refine ChangesOnly.step (refresh_fr _ _ _) (by decide) ?_
        exact ChangesOnly.refl _ _
      · exact ChangesOnly.refl _ _
    · refine OutFrame.next ?_
      refine ChangesOnly.step (upDrc_fr _ _) (by decide) ?_
      refine ChangesOnly.step (refresh_fr _ _ _) (by decide) ?_
      exact ChangesOnly.refl _ _

theorem goTwice_fr (s : State) (rank : Nat) : ChangesOnly [.drc] s (goTwice s rank) := by
  unfold goTwice
  try dsimp only
  refine ChangesOnly.ite ?_ ?_
  · exact ChangesOnly.refl _ _
  · refine ChangesOnly.step (refresh_fr _ _ _) (by decide) ?_
    refine ChangesOnly.step (upDrc_fr _ _) (by decide) ?_
    exact ChangesOnly.refl _ _

theorem goOnce_fr (s : State) (rank : Nat) : ChangesOnly [.drc] s (goOnce s rank) := by
  unfold goOnce
  try dsimp only
  refine ChangesOnly.ite ?_ ?_
  · exact ChangesOnly.refl _ _
  · refine ChangesOnly.ite ?_ ?_
    · refine ChangesOnly.step (upDrc_fr _ _) (by decide) ?_
      exact ChangesOnly.refl _ _
    · refine ChangesOnly.step (upDrc_fr _ _) (by decide) ?_
      exact ChangesOnly.refl _ _

theorem execMr4Poll_fr (rank : Nat) (field : Nat) (s : State) : OutFrame [.flt, .drc] s (execMr4Poll rank field s) := by
  unfold execMr4Poll
  try dsimp only
  refine OutFrame.ite ?_ ?_
  · refine OutFrame.next ?_
    exact ChangesOnly.refl _ _
  · refine OutFrame.ite ?_ ?_
    · refine OutFrame.ite ?_ ?_
      · refine OutFrame.next ?_
        refine ChangesOnly.ite ?_ ?_
        · refine ChangesOnly.step (goOnce_fr _ _) (by decide) ?_
          refine ChangesOnly.step (upDrc_fr _ _) (by decide) ?_
          exact ChangesOnly.refl _ _
        · refine ChangesOnly.step (goTwice_fr _ _) (by decide) ?_
          refine ChangesOnly.step (upDrc_fr _ _) (by decide) ?_
          refine ChangesOnly.step (upDrc_fr _ _) (by decide) ?_
          exact ChangesOnly.refl _ _
      · refine OutFrame.next ?_
        refine ChangesOnly.step (raise_fr _ _) (by decide) ?_
        refine ChangesOnly.step (upDrc_fr _ _) (by decide) ?_
        refine ChangesOnly.ite ?_ ?_
        · refine ChangesOnly.step (goOnce_fr _ _) (by decide) ?_
          refine ChangesOnly.step (upDrc_fr _ _) (by decide) ?_
          exact ChangesOnly.refl _ _
        · refine ChangesOnly.step (goTwice_fr _ _) (by decide) ?_
          refine ChangesOnly.step (upDrc_fr _ _) (by decide) ?_
          refine ChangesOnly.step (upDrc_fr _ _) (by decide) ?_
          exact ChangesOnly.refl _ _
    · refine OutFrame.next ?_
      refine ChangesOnly.step (upDrc_fr _ _) (by decide) ?_
      refine ChangesOnly.ite ?_ ?_
      · refine ChangesOnly.step (goOnce_fr _ _) (by decide) ?_
        refine ChangesOnly.step (upDrc_fr _ _) (by decide) ?_
        exact ChangesOnly.refl _ _
      · refine ChangesOnly.step (goTwice_fr _ _) (by decide) ?_
        refine ChangesOnly.step (upDrc_fr _ _) (by decide) ?_
        refine ChangesOnly.step (upDrc_fr _ _) (by decide) ?_
        exact ChangesOnly.refl _ _

theorem writeBack_fr (s : State) (line : Nat) : ChangesOnly [.drc] s (writeBack s line) := by
  unfold writeBack
  try dsimp only
  refine ChangesOnly.ite ?_ ?_
  · exact ChangesOnly.refl _ _
  · refine ChangesOnly.step (enterInOrder_fr _ _ _) (by decide) ?_
    refine ChangesOnly.step (modSub_fr _ _ _) (by decide) ?_
    exact ChangesOnly.refl _ _

theorem execScrub_fr (line : Nat) (check : LineCheck) (s : State) : OutFrame [.flt, .med, .drc, .sec, .mesh, .free] s (execScrub line check s) := by
  unfold execScrub
  try dsimp only
  refine OutFrame.ite ?_ ?_
  · refine OutFrame.next ?_
    exact ChangesOnly.refl _ _
  · refine OutFrame.next ?_
    refine ChangesOnly.step (upDrc_fr _ _) (by decide) ?_
    refine ChangesOnly.ite ?_ ?_
    · refine ChangesOnly.step (writeBack_fr _ _) (by decide) ?_
      refine ChangesOnly.step (lineRead_fr _ _ _) (by decide) ?_
      exact ChangesOnly.refl _ _
    · refine ChangesOnly.step (lineRead_fr _ _ _) (by decide) ?_
      exact ChangesOnly.refl _ _

theorem execDqsRetrack_fr (rank : Nat) (moved : Bool) (s : State) : OutFrame [.drc] s (execDqsRetrack rank moved s) := by
  unfold execDqsRetrack
  try dsimp only
  refine OutFrame.ite ?_ ?_
  · refine OutFrame.next ?_
    exact ChangesOnly.refl _ _
  · refine OutFrame.next ?_
    refine ChangesOnly.step (upDrc_fr _ _) (by decide) ?_
    exact ChangesOnly.refl _ _

theorem execDramFullRetrain_fr (channel : Nat) (clean : List Nat) (s : State) : OutFrame [.drc] s (execDramFullRetrain channel clean s) := by
  unfold execDramFullRetrain
  try dsimp only
  refine OutFrame.ite ?_ ?_
  · refine OutFrame.next ?_
    exact ChangesOnly.refl _ _
  · refine OutFrame.ite ?_ ?_
    · refine OutFrame.next ?_
      refine ChangesOnly.step (upDrc_fr _ _) (by decide) ?_
      exact ChangesOnly.refl _ _
    · refine OutFrame.ite ?_ ?_
      · refine OutFrame.next ?_
        refine ChangesOnly.step (upDrc_fr _ _) (by decide) ?_
        exact ChangesOnly.refl _ _
      · refine OutFrame.next ?_
        exact ChangesOnly.refl _ _


end Sys2Proof.Machine
end

