-- ==== Sys2Proof/Laws/FrameLinks.lean ====
section
/-! SUPPORT. Frames of the Footpath, Kite, link, power and security commands and of the tick. -/

namespace Sys2Proof.Machine
open Sys2Proof

/-! ### Footpath -/

theorem fpSend_fr (s : State) (p : Machine.FpPacket) : ChangesOnly [.glb, .tsk] s (fpSend s p) := by
  unfold fpSend
  try dsimp only
  refine ChangesOnly.step (fpPump_fr _) (by decide) ?_
  refine ChangesOnly.step (upGlb_fr _ _) (by decide) ?_
  exact ChangesOnly.refl _ _

theorem fpNak_fr (s : State) (reason : Nat) (expect : Nat) : ChangesOnly [.glb, .tsk] s (fpNak s reason expect) := by
  unfold fpNak
  try dsimp only
  refine ChangesOnly.step (fpSend_fr _ _) (by decide) ?_
  refine ChangesOnly.step (upGlb_fr _ _) (by decide) ?_
  exact ChangesOnly.refl _ _

theorem fpSeen_fr (s : State) : ChangesOnly [.glb] s (fpSeen s) := by
  unfold fpSeen
  try dsimp only
  refine ChangesOnly.step (upGlb_fr _ _) (by decide) ?_
  exact ChangesOnly.refl _ _

theorem fpOverrun_fr (s : State) : ChangesOnly [.glb, .tsk] s (fpOverrun s) := by
  unfold fpOverrun
  try dsimp only
  refine ChangesOnly.ite ?_ ?_
  · refine ChangesOnly.step (fpNak_fr _ _ _) (by decide) ?_
    refine ChangesOnly.step (upGlb_fr _ _) (by decide) ?_
    exact ChangesOnly.refl _ _
  · exact ChangesOnly.refl _ _

theorem fpWrongLength_fr (s : State) (o : Machine.Op) (status : Nat) : ChangesOnly [.tsk, .sec] s (fpWrongLength s o status) := by
  unfold fpWrongLength
  try dsimp only
  refine ChangesOnly.step (failEarly_fr _ _ _) (by decide) ?_
  exact ChangesOnly.refl _ _

theorem fpCut_fr (s : State) : ChangesOnly [.tsk, .sec] s (fpCut s) := by
  unfold fpCut
  try dsimp only
  split
  · refine ChangesOnly.step (fpWrongLength_fr _ _ _) (by decide) ?_
    exact ChangesOnly.refl _ _
  · exact ChangesOnly.refl _ _

theorem execFootpathCommand_fr (bytes : List Byte) (crc : Nat) (s : State) : OutFrame [.pwr, .glb, .tsk, .kite, .sec] s (execFootpathCommand bytes crc s) := by
  unfold execFootpathCommand
  try dsimp only
  refine OutFrame.ite ?_ ?_
  · refine OutFrame.next ?_
    refine ChangesOnly.step (fpOverrun_fr _) (by decide) ?_
    exact ChangesOnly.refl _ _
  · split
    · refine OutFrame.next ?_
      refine ChangesOnly.step (fpNak_fr _ _ _) (by decide) ?_
      exact ChangesOnly.refl _ _
    · refine OutFrame.ite ?_ ?_
      · refine OutFrame.next ?_
        refine ChangesOnly.step (acceptFootpath_fr _ _) (by decide) ?_
        refine ChangesOnly.step (fpCut_fr _) (by decide) ?_
        refine ChangesOnly.step (fpSeen_fr _) (by decide) ?_
        exact ChangesOnly.refl _ _
      · refine OutFrame.next ?_
        refine ChangesOnly.step (fpSend_fr _ _) (by decide) ?_
        refine ChangesOnly.step (fpCut_fr _) (by decide) ?_
        refine ChangesOnly.step (fpSeen_fr _) (by decide) ?_
        exact ChangesOnly.refl _ _

theorem fpTake_fr (s : State) (o : Machine.Op) (last : Bool) (data : List Byte) : ChangesOnly [.tsk, .sec] s (fpTake s o last data) := by
  unfold fpTake
  try dsimp only
  refine ChangesOnly.ite ?_ ?_
  · refine ChangesOnly.step (fpWrongLength_fr _ _ _) (by decide) ?_
    refine ChangesOnly.step (modOp_fr _ _ _) (by decide) ?_
    exact ChangesOnly.refl _ _
  · refine ChangesOnly.ite ?_ ?_
    · refine ChangesOnly.step (modOp_fr _ _ _) (by decide) ?_
      exact ChangesOnly.refl _ _
    · refine ChangesOnly.ite ?_ ?_
      · refine ChangesOnly.step (fpWrongLength_fr _ _ _) (by decide) ?_
        refine ChangesOnly.step (modOp_fr _ _ _) (by decide) ?_
        exact ChangesOnly.refl _ _
      · refine ChangesOnly.step (modOp_fr _ _ _) (by decide) ?_
        refine ChangesOnly.step (modOp_fr _ _ _) (by decide) ?_
        exact ChangesOnly.refl _ _

theorem execFootpathData_fr (bytes : List Byte) (crc : Nat) (s : State) : OutFrame [.glb, .tsk, .sec] s (execFootpathData bytes crc s) := by
  unfold execFootpathData
  try dsimp only
  refine OutFrame.ite ?_ ?_
  · refine OutFrame.next ?_
    refine ChangesOnly.step (fpOverrun_fr _) (by decide) ?_
    exact ChangesOnly.refl _ _
  · split
    · refine OutFrame.next ?_
      refine ChangesOnly.step (fpNak_fr _ _ _) (by decide) ?_
      exact ChangesOnly.refl _ _
    · split
      · refine OutFrame.next ?_
        refine ChangesOnly.step (fpNak_fr _ _ _) (by decide) ?_
        exact ChangesOnly.refl _ _
      · refine OutFrame.ite ?_ ?_
        · refine OutFrame.next ?_
          refine ChangesOnly.step (fpNak_fr _ _ _) (by decide) ?_
          exact ChangesOnly.refl _ _
        · refine OutFrame.next ?_
          refine ChangesOnly.step (fpTake_fr _ _ _ _) (by decide) ?_
          refine ChangesOnly.step (fpSeen_fr _) (by decide) ?_
          exact ChangesOnly.refl _ _

theorem execFootpathNak_fr (bytes : List Byte) (crc : Nat) (s : State) : OutFrame [.glb, .tsk] s (execFootpathNak bytes crc s) := by
  unfold execFootpathNak
  try dsimp only
  refine OutFrame.ite ?_ ?_
  · refine OutFrame.next ?_
    refine ChangesOnly.step (fpOverrun_fr _) (by decide) ?_
    exact ChangesOnly.refl _ _
  · refine OutFrame.ite ?_ ?_
    · refine OutFrame.next ?_
      refine ChangesOnly.step (fpNak_fr _ _ _) (by decide) ?_
      exact ChangesOnly.refl _ _
    · refine OutFrame.ite ?_ ?_
      · refine OutFrame.next ?_
        refine ChangesOnly.step (fpNak_fr _ _ _) (by decide) ?_
        exact ChangesOnly.refl _ _
      · split
        · refine OutFrame.next ?_
          refine ChangesOnly.step (upGlb_fr _ _) (by decide) ?_
          refine ChangesOnly.step (fpSeen_fr _) (by decide) ?_
          exact ChangesOnly.refl _ _
        · refine OutFrame.ite ?_ ?_
          · refine OutFrame.next ?_
            refine ChangesOnly.step (upGlb_fr _ _) (by decide) ?_
            refine ChangesOnly.step (upGlb_fr _ _) (by decide) ?_
            refine ChangesOnly.step (fpSeen_fr _) (by decide) ?_
            exact ChangesOnly.refl _ _
          · refine OutFrame.next ?_
            refine ChangesOnly.step (upGlb_fr _ _) (by decide) ?_
            refine ChangesOnly.step (upGlb_fr _ _) (by decide) ?_
            refine ChangesOnly.step (fpSeen_fr _) (by decide) ?_
            exact ChangesOnly.refl _ _

theorem execFootpathBaud_fr (bytes : List Byte) (crc : Nat) (s : State) : OutFrame [.glb, .tsk] s (execFootpathBaud bytes crc s) := by
  unfold execFootpathBaud
  try dsimp only
  refine OutFrame.ite ?_ ?_
  · refine OutFrame.next ?_
    refine ChangesOnly.step (fpOverrun_fr _) (by decide) ?_
    exact ChangesOnly.refl _ _
  · split
    · refine OutFrame.next ?_
      refine ChangesOnly.step (fpNak_fr _ _ _) (by decide) ?_
      exact ChangesOnly.refl _ _
    · refine OutFrame.ite ?_ ?_
      · refine OutFrame.next ?_
        exact ChangesOnly.refl _ _
      · refine OutFrame.next ?_
        refine ChangesOnly.step (fpSend_fr _ _) (by decide) ?_
        refine ChangesOnly.step (fpSeen_fr _) (by decide) ?_
        exact ChangesOnly.refl _ _

theorem execFootpathBreak_fr (s : State) : OutFrame [.glb, .tsk, .sec] s (execFootpathBreak s) := by
  unfold execFootpathBreak
  try dsimp only
  refine OutFrame.ite ?_ ?_
  · refine OutFrame.next ?_
    exact ChangesOnly.refl _ _
  · refine OutFrame.next ?_
    refine ChangesOnly.step (upGlb_fr _ _) (by decide) ?_
    refine ChangesOnly.step (fpCut_fr _) (by decide) ?_
    exact ChangesOnly.refl _ _

theorem execPacketIdleTimeout_fr (s : State) : OutFrame [.glb, .tsk] s (execPacketIdleTimeout s) := by
  unfold execPacketIdleTimeout
  try dsimp only
  refine OutFrame.ite ?_ ?_
  · refine OutFrame.next ?_
    refine ChangesOnly.step (fpNak_fr _ _ _) (by decide) ?_
    exact ChangesOnly.refl _ _
  · refine OutFrame.next ?_
    exact ChangesOnly.refl _ _

theorem execDataChunkTimeout_fr (s : State) : OutFrame [.tsk, .sec] s (execDataChunkTimeout s) := by
  unfold execDataChunkTimeout
  try dsimp only
  split
  · refine OutFrame.ite ?_ ?_
    · refine OutFrame.next ?_
      exact ChangesOnly.refl _ _
    · refine OutFrame.next ?_
      refine ChangesOnly.step (fpCut_fr _) (by decide) ?_
      exact ChangesOnly.refl _ _
  · refine OutFrame.next ?_
    exact ChangesOnly.refl _ _

theorem execFootpathBadKind_fr (kind : Nat) (s : State) : OutFrame [.glb, .tsk] s (execFootpathBadKind kind s) := by
  unfold execFootpathBadKind
  try dsimp only
  refine OutFrame.ite ?_ ?_
  · refine OutFrame.next ?_
    exact ChangesOnly.refl _ _
  · refine OutFrame.ite ?_ ?_
    · refine OutFrame.next ?_
      refine ChangesOnly.step (fpOverrun_fr _) (by decide) ?_
      exact ChangesOnly.refl _ _
    · refine OutFrame.next ?_
      refine ChangesOnly.step (fpNak_fr _ _ _) (by decide) ?_
      exact ChangesOnly.refl _ _


/-! ### Kite -/

theorem kiteOp_fr {ps : List Part} (core : CoreId) (op : KOp) (s : State) (f : Instance → KRes)
    (k : (([.med, .kite, .sec, .free] : List Part).all fun p => ps.contains p) = true) (h : ∀ i, KFrame ps s (f i)) :
    OutFrame ps s (kiteOp core op s f) := by
  unfold kiteOp
  refine kiteRun_fr core s _ k ?_
  intro i o n r e
  split at e
  · cases e; exact h i
  · cases e

theorem execKAdd_fr (core : CoreId) (a : Reg) (b : Reg) (s : State) : OutFrame [.med, .kite, .sec, .free] s (execKAdd core a b s) := by
  unfold execKAdd
  try dsimp only
  refine kiteOp_fr _ _ _ _ (by decide) (fun _ => ?_)
  refine KFrame.step (runAlu_fr _ _ _ _ _) (by decide) ?_
  exact ChangesOnly.refl _ _

theorem execKSub_fr (core : CoreId) (a : Reg) (b : Reg) (s : State) : OutFrame [.med, .kite, .sec, .free] s (execKSub core a b s) := by
  unfold execKSub
  try dsimp only
  refine kiteOp_fr _ _ _ _ (by decide) (fun _ => ?_)
  refine KFrame.step (runAlu_fr _ _ _ _ _) (by decide) ?_
  exact ChangesOnly.refl _ _

theorem execKAdc_fr (core : CoreId) (a : Reg) (b : Reg) (s : State) : OutFrame [.med, .kite, .sec, .free] s (execKAdc core a b s) := by
  unfold execKAdc
  try dsimp only
  refine kiteOp_fr _ _ _ _ (by decide) (fun _ => ?_)
  refine KFrame.step (runAlu_fr _ _ _ _ _) (by decide) ?_
  exact ChangesOnly.refl _ _

theorem execKSbc_fr (core : CoreId) (a : Reg) (b : Reg) (s : State) : OutFrame [.med, .kite, .sec, .free] s (execKSbc core a b s) := by
  unfold execKSbc
  try dsimp only
  refine kiteOp_fr _ _ _ _ (by decide) (fun _ => ?_)
  refine KFrame.step (runAlu_fr _ _ _ _ _) (by decide) ?_
  exact ChangesOnly.refl _ _

theorem execKAnd_fr (core : CoreId) (a : Reg) (b : Reg) (s : State) : OutFrame [.med, .kite, .sec, .free] s (execKAnd core a b s) := by
  unfold execKAnd
  try dsimp only
  refine kiteOp_fr _ _ _ _ (by decide) (fun _ => ?_)
  refine KFrame.step (runAlu_fr _ _ _ _ _) (by decide) ?_
  exact ChangesOnly.refl _ _

theorem execKOr_fr (core : CoreId) (a : Reg) (b : Reg) (s : State) : OutFrame [.med, .kite, .sec, .free] s (execKOr core a b s) := by
  unfold execKOr
  try dsimp only
  refine kiteOp_fr _ _ _ _ (by decide) (fun _ => ?_)
  refine KFrame.step (runAlu_fr _ _ _ _ _) (by decide) ?_
  exact ChangesOnly.refl _ _

theorem execKXor_fr (core : CoreId) (a : Reg) (b : Reg) (s : State) : OutFrame [.med, .kite, .sec, .free] s (execKXor core a b s) := by
  unfold execKXor
  try dsimp only
  refine kiteOp_fr _ _ _ _ (by decide) (fun _ => ?_)
  refine KFrame.step (runAlu_fr _ _ _ _ _) (by decide) ?_
  exact ChangesOnly.refl _ _

theorem execKMov_fr (core : CoreId) (a : Reg) (b : Reg) (s : State) : OutFrame [.med, .kite, .sec, .free] s (execKMov core a b s) := by
  unfold execKMov
  try dsimp only
  refine kiteOp_fr _ _ _ _ (by decide) (fun _ => ?_)
  refine KFrame.step (runAlu_fr _ _ _ _ _) (by decide) ?_
  exact ChangesOnly.refl _ _

theorem execKCmp_fr (core : CoreId) (a : Reg) (b : Reg) (s : State) : OutFrame [.med, .kite, .sec, .free] s (execKCmp core a b s) := by
  unfold execKCmp
  try dsimp only
  refine kiteOp_fr _ _ _ _ (by decide) (fun _ => ?_)
  refine KFrame.step (runAlu_fr _ _ _ _ _) (by decide) ?_
  exact ChangesOnly.refl _ _

theorem execKTst_fr (core : CoreId) (a : Reg) (b : Reg) (s : State) : OutFrame [.med, .kite, .sec, .free] s (execKTst core a b s) := by
  unfold execKTst
  try dsimp only
  refine kiteOp_fr _ _ _ _ (by decide) (fun _ => ?_)
  refine KFrame.step (runAlu_fr _ _ _ _ _) (by decide) ?_
  exact ChangesOnly.refl _ _

theorem execKShl_fr (core : CoreId) (a : Reg) (b : Reg) (s : State) : OutFrame [.med, .kite, .sec, .free] s (execKShl core a b s) := by
  unfold execKShl
  try dsimp only
  refine kiteOp_fr _ _ _ _ (by decide) (fun _ => ?_)
  refine KFrame.step (runAlu_fr _ _ _ _ _) (by decide) ?_
  exact ChangesOnly.refl _ _

theorem execKShr_fr (core : CoreId) (a : Reg) (b : Reg) (s : State) : OutFrame [.med, .kite, .sec, .free] s (execKShr core a b s) := by
  unfold execKShr
  try dsimp only
  refine kiteOp_fr _ _ _ _ (by decide) (fun _ => ?_)
  refine KFrame.step (runAlu_fr _ _ _ _ _) (by decide) ?_
  exact ChangesOnly.refl _ _

theorem execKSar_fr (core : CoreId) (a : Reg) (b : Reg) (s : State) : OutFrame [.med, .kite, .sec, .free] s (execKSar core a b s) := by
  unfold execKSar
  try dsimp only
  refine kiteOp_fr _ _ _ _ (by decide) (fun _ => ?_)
  refine KFrame.step (runAlu_fr _ _ _ _ _) (by decide) ?_
  exact ChangesOnly.refl _ _

theorem execKRol_fr (core : CoreId) (a : Reg) (b : Reg) (s : State) : OutFrame [.med, .kite, .sec, .free] s (execKRol core a b s) := by
  unfold execKRol
  try dsimp only
  refine kiteOp_fr _ _ _ _ (by decide) (fun _ => ?_)
  refine KFrame.step (runAlu_fr _ _ _ _ _) (by decide) ?_
  exact ChangesOnly.refl _ _

theorem execKMul_fr (core : CoreId) (a : Reg) (b : Reg) (s : State) : OutFrame [.med, .kite, .sec, .free] s (execKMul core a b s) := by
  unfold execKMul
  try dsimp only
  refine kiteOp_fr _ _ _ _ (by decide) (fun _ => ?_)
  refine KFrame.step (runAlu_fr _ _ _ _ _) (by decide) ?_
  exact ChangesOnly.refl _ _

theorem execKMulh_fr (core : CoreId) (a : Reg) (b : Reg) (s : State) : OutFrame [.med, .kite, .sec, .free] s (execKMulh core a b s) := by
  unfold execKMulh
  try dsimp only
  refine kiteOp_fr _ _ _ _ (by decide) (fun _ => ?_)
  refine KFrame.step (runAlu_fr _ _ _ _ _) (by decide) ?_
  exact ChangesOnly.refl _ _

theorem execKAddi_fr (core : CoreId) (exts : List Nat) (a : Reg) (imm : Nat) (s : State) : OutFrame [.med, .kite, .sec, .free] s (execKAddi core exts a imm s) := by
  unfold execKAddi
  try dsimp only
  refine kiteOp_fr _ _ _ _ (by decide) (fun _ => ?_)
  refine KFrame.step (runImm_fr _ _ _ _ _ _) (by decide) ?_
  exact ChangesOnly.refl _ _

theorem execKCmpi_fr (core : CoreId) (exts : List Nat) (a : Reg) (imm : Nat) (s : State) : OutFrame [.med, .kite, .sec, .free] s (execKCmpi core exts a imm s) := by
  unfold execKCmpi
  try dsimp only
  refine kiteOp_fr _ _ _ _ (by decide) (fun _ => ?_)
  refine KFrame.step (runImm_fr _ _ _ _ _ _) (by decide) ?_
  exact ChangesOnly.refl _ _

theorem execKMovi_fr (core : CoreId) (exts : List Nat) (a : Reg) (imm : Nat) (s : State) : OutFrame [.med, .kite, .sec, .free] s (execKMovi core exts a imm s) := by
  unfold execKMovi
  try dsimp only
  refine kiteOp_fr _ _ _ _ (by decide) (fun _ => ?_)
  refine KFrame.step (runImm_fr _ _ _ _ _ _) (by decide) ?_
  exact ChangesOnly.refl _ _

theorem execKBeq_fr (core : CoreId) (off : Nat) (s : State) : OutFrame [.med, .kite, .sec, .free] s (execKBeq core off s) := by
  unfold execKBeq
  try dsimp only
  refine kiteOp_fr _ _ _ _ (by decide) (fun _ => ?_)
  refine KFrame.step (runBranch_fr _ _ _ _) (by decide) ?_
  exact ChangesOnly.refl _ _

theorem execKBne_fr (core : CoreId) (off : Nat) (s : State) : OutFrame [.med, .kite, .sec, .free] s (execKBne core off s) := by
  unfold execKBne
  try dsimp only
  refine kiteOp_fr _ _ _ _ (by decide) (fun _ => ?_)
  refine KFrame.step (runBranch_fr _ _ _ _) (by decide) ?_
  exact ChangesOnly.refl _ _

theorem execKBcs_fr (core : CoreId) (off : Nat) (s : State) : OutFrame [.med, .kite, .sec, .free] s (execKBcs core off s) := by
  unfold execKBcs
  try dsimp only
  refine kiteOp_fr _ _ _ _ (by decide) (fun _ => ?_)
  refine KFrame.step (runBranch_fr _ _ _ _) (by decide) ?_
  exact ChangesOnly.refl _ _

theorem execKBcc_fr (core : CoreId) (off : Nat) (s : State) : OutFrame [.med, .kite, .sec, .free] s (execKBcc core off s) := by
  unfold execKBcc
  try dsimp only
  refine kiteOp_fr _ _ _ _ (by decide) (fun _ => ?_)
  refine KFrame.step (runBranch_fr _ _ _ _) (by decide) ?_
  exact ChangesOnly.refl _ _

theorem execKBmi_fr (core : CoreId) (off : Nat) (s : State) : OutFrame [.med, .kite, .sec, .free] s (execKBmi core off s) := by
  unfold execKBmi
  try dsimp only
  refine kiteOp_fr _ _ _ _ (by decide) (fun _ => ?_)
  refine KFrame.step (runBranch_fr _ _ _ _) (by decide) ?_
  exact ChangesOnly.refl _ _

theorem execKBpl_fr (core : CoreId) (off : Nat) (s : State) : OutFrame [.med, .kite, .sec, .free] s (execKBpl core off s) := by
  unfold execKBpl
  try dsimp only
  refine kiteOp_fr _ _ _ _ (by decide) (fun _ => ?_)
  refine KFrame.step (runBranch_fr _ _ _ _) (by decide) ?_
  exact ChangesOnly.refl _ _

theorem execKBms_fr (core : CoreId) (off : Nat) (s : State) : OutFrame [.med, .kite, .sec, .free] s (execKBms core off s) := by
  unfold execKBms
  try dsimp only
  refine kiteOp_fr _ _ _ _ (by decide) (fun _ => ?_)
  refine KFrame.step (runBranch_fr _ _ _ _) (by decide) ?_
  exact ChangesOnly.refl _ _

theorem execKBmc_fr (core : CoreId) (off : Nat) (s : State) : OutFrame [.med, .kite, .sec, .free] s (execKBmc core off s) := by
  unfold execKBmc
  try dsimp only
  refine kiteOp_fr _ _ _ _ (by decide) (fun _ => ?_)
  refine KFrame.step (runBranch_fr _ _ _ _) (by decide) ?_
  exact ChangesOnly.refl _ _

theorem execKBhi_fr (core : CoreId) (off : Nat) (s : State) : OutFrame [.med, .kite, .sec, .free] s (execKBhi core off s) := by
  unfold execKBhi
  try dsimp only
  refine kiteOp_fr _ _ _ _ (by decide) (fun _ => ?_)
  refine KFrame.step (runBranch_fr _ _ _ _) (by decide) ?_
  exact ChangesOnly.refl _ _

theorem execKBls_fr (core : CoreId) (off : Nat) (s : State) : OutFrame [.med, .kite, .sec, .free] s (execKBls core off s) := by
  unfold execKBls
  try dsimp only
  refine kiteOp_fr _ _ _ _ (by decide) (fun _ => ?_)
  refine KFrame.step (runBranch_fr _ _ _ _) (by decide) ?_
  exact ChangesOnly.refl _ _

theorem execKBge_fr (core : CoreId) (off : Nat) (s : State) : OutFrame [.med, .kite, .sec, .free] s (execKBge core off s) := by
  unfold execKBge
  try dsimp only
  refine kiteOp_fr _ _ _ _ (by decide) (fun _ => ?_)
  refine KFrame.step (runBranch_fr _ _ _ _) (by decide) ?_
  exact ChangesOnly.refl _ _

theorem execKBlt_fr (core : CoreId) (off : Nat) (s : State) : OutFrame [.med, .kite, .sec, .free] s (execKBlt core off s) := by
  unfold execKBlt
  try dsimp only
  refine kiteOp_fr _ _ _ _ (by decide) (fun _ => ?_)
  refine KFrame.step (runBranch_fr _ _ _ _) (by decide) ?_
  exact ChangesOnly.refl _ _

theorem execKBgt_fr (core : CoreId) (off : Nat) (s : State) : OutFrame [.med, .kite, .sec, .free] s (execKBgt core off s) := by
  unfold execKBgt
  try dsimp only
  refine kiteOp_fr _ _ _ _ (by decide) (fun _ => ?_)
  refine KFrame.step (runBranch_fr _ _ _ _) (by decide) ?_
  exact ChangesOnly.refl _ _

theorem execKBle_fr (core : CoreId) (off : Nat) (s : State) : OutFrame [.med, .kite, .sec, .free] s (execKBle core off s) := by
  unfold execKBle
  try dsimp only
  refine kiteOp_fr _ _ _ _ (by decide) (fun _ => ?_)
  refine KFrame.step (runBranch_fr _ _ _ _) (by decide) ?_
  exact ChangesOnly.refl _ _

theorem execKBal_fr (core : CoreId) (off : Nat) (s : State) : OutFrame [.med, .kite, .sec, .free] s (execKBal core off s) := by
  unfold execKBal
  try dsimp only
  refine kiteOp_fr _ _ _ _ (by decide) (fun _ => ?_)
  refine KFrame.step (runBranch_fr _ _ _ _) (by decide) ?_
  exact ChangesOnly.refl _ _

theorem execKBvs_fr (core : CoreId) (off : Nat) (s : State) : OutFrame [.med, .kite, .sec, .free] s (execKBvs core off s) := by
  unfold execKBvs
  try dsimp only
  refine kiteOp_fr _ _ _ _ (by decide) (fun _ => ?_)
  refine KFrame.step (runBranch_fr _ _ _ _) (by decide) ?_
  exact ChangesOnly.refl _ _

theorem execKLd_fr (core : CoreId) (a : Reg) (b : Reg) (check : LineCheck) (s : State) : OutFrame [.flt, .med, .kite, .sec, .free] s (execKLd core a b check s) := by
  unfold execKLd
  try dsimp only
  refine kiteOp_fr _ _ _ _ (by decide) (fun _ => ?_)
  refine KFrame.step (runLoad_fr _ _ _ _ _ _) (by decide) ?_
  exact ChangesOnly.refl _ _

theorem execKSt_fr (core : CoreId) (a : Reg) (b : Reg) (check : LineCheck) (s : State) : OutFrame [.flt, .med, .kite, .sec, .free] s (execKSt core a b check s) := by
  unfold execKSt
  try dsimp only
  refine kiteOp_fr _ _ _ _ (by decide) (fun _ => ?_)
  refine KFrame.step (runStore_fr _ _ _ _ _ _) (by decide) ?_
  exact ChangesOnly.refl _ _

theorem execKLdb_fr (core : CoreId) (a : Reg) (b : Reg) (check : LineCheck) (s : State) : OutFrame [.flt, .med, .kite, .sec, .free] s (execKLdb core a b check s) := by
  unfold execKLdb
  try dsimp only
  refine kiteOp_fr _ _ _ _ (by decide) (fun _ => ?_)
  refine KFrame.step (runLoad_fr _ _ _ _ _ _) (by decide) ?_
  exact ChangesOnly.refl _ _

theorem execKStb_fr (core : CoreId) (a : Reg) (b : Reg) (check : LineCheck) (s : State) : OutFrame [.flt, .med, .kite, .sec, .free] s (execKStb core a b check s) := by
  unfold execKStb
  try dsimp only
  refine kiteOp_fr _ _ _ _ (by decide) (fun _ => ?_)
  refine KFrame.step (runStore_fr _ _ _ _ _ _) (by decide) ?_
  exact ChangesOnly.refl _ _

theorem execKIn_fr (core : CoreId) (a : Reg) (b : Reg) (check : LineCheck) (s : State) : OutFrame [.flt, .med, .kite, .sec, .free] s (execKIn core a b check s) := by
  unfold execKIn
  try dsimp only
  refine kiteOp_fr _ _ _ _ (by decide) (fun _ => ?_)
  refine KFrame.step (runIn_fr _ _ _ _ _ _) (by decide) ?_
  exact ChangesOnly.refl _ _

theorem execKOut_fr (core : CoreId) (a : Reg) (b : Reg) (s : State) : OutFrame [.med, .kite, .way, .cmp, .sec, .free] s (execKOut core a b s) := by
  unfold execKOut
  try dsimp only
  refine kiteOp_fr _ _ _ _ (by decide) (fun _ => ?_)
  refine KFrame.step (runOut_fr _ _ _ _) (by decide) ?_
  exact ChangesOnly.refl _ _

theorem kitePort_fr {ps : List Part} (core : CoreId) (op : MemOp) (a b : Reg) (port : Nat → Bool) (s : State) (f : Instance → KRes)
    (k : (([.med, .kite, .sec, .free] : List Part).all fun p => ps.contains p) = true) (h : ∀ i, KFrame ps s (f i)) :
    OutFrame ps s (kitePort core op a b port s f) := by
  unfold kitePort
  refine kiteRun_fr core s _ k ?_
  intro i o n r e
  split at e
  · cases e; exact h i
  · cases e

theorem execScanData_fr (core : CoreId) (a : Reg) (b : Reg) (check : LineCheck) (s : State) : OutFrame [.flt, .med, .kite, .sec, .free] s (execScanData core a b check s) := by
  unfold execScanData
  try dsimp only
  refine kitePort_fr _ _ _ _ _ _ _ (by decide) (fun _ => ?_)
  refine KFrame.step (runIn_fr _ _ _ _ _ _) (by decide) ?_
  exact ChangesOnly.refl _ _

theorem execScanRelease_fr (core : CoreId) (a : Reg) (b : Reg) (s : State) : OutFrame [.med, .kite, .way, .cmp, .sec, .free] s (execScanRelease core a b s) := by
  unfold execScanRelease
  try dsimp only
  refine kitePort_fr _ _ _ _ _ _ _ (by decide) (fun _ => ?_)
  refine KFrame.step (runOut_fr _ _ _ _) (by decide) ?_
  exact ChangesOnly.refl _ _

theorem execEvClear_fr (core : CoreId) (a : Reg) (b : Reg) (s : State) : OutFrame [.med, .kite, .way, .cmp, .sec, .free] s (execEvClear core a b s) := by
  unfold execEvClear
  try dsimp only
  refine kitePort_fr _ _ _ _ _ _ _ (by decide) (fun _ => ?_)
  refine KFrame.step (runOut_fr _ _ _ _) (by decide) ?_
  exact ChangesOnly.refl _ _

theorem execTimerLoad_fr (core : CoreId) (a : Reg) (b : Reg) (s : State) : OutFrame [.med, .kite, .way, .cmp, .sec, .free] s (execTimerLoad core a b s) := by
  unfold execTimerLoad
  try dsimp only
  refine kitePort_fr _ _ _ _ _ _ _ (by decide) (fun _ => ?_)
  refine KFrame.step (runOut_fr _ _ _ _) (by decide) ?_
  exact ChangesOnly.refl _ _

theorem execMboxRecv_fr (core : CoreId) (a : Reg) (b : Reg) (s : State) : OutFrame [.flt, .med, .kite, .sec, .free] s (execMboxRecv core a b s) := by
  unfold execMboxRecv
  try dsimp only
  refine kitePort_fr _ _ _ _ _ _ _ (by decide) (fun _ => ?_)
  refine KFrame.step (runIn_fr _ _ _ _ _ _) (by decide) ?_
  exact ChangesOnly.refl _ _

theorem execMboxSend_fr (core : CoreId) (a : Reg) (b : Reg) (s : State) : OutFrame [.med, .kite, .way, .cmp, .sec, .free] s (execMboxSend core a b s) := by
  unfold execMboxSend
  try dsimp only
  refine kitePort_fr _ _ _ _ _ _ _ (by decide) (fun _ => ?_)
  refine KFrame.step (runOut_fr _ _ _ _) (by decide) ?_
  exact ChangesOnly.refl _ _

theorem execWmGo_fr (core : CoreId) (a : Reg) (b : Reg) (s : State) : OutFrame [.med, .kite, .way, .cmp, .sec, .free] s (execWmGo core a b s) := by
  unfold execWmGo
  try dsimp only
  refine kitePort_fr _ _ _ _ _ _ _ (by decide) (fun _ => ?_)
  refine KFrame.step (runOut_fr _ _ _ _) (by decide) ?_
  exact ChangesOnly.refl _ _

theorem execDgOpen_fr (core : CoreId) (a : Reg) (b : Reg) (s : State) : OutFrame [.med, .kite, .way, .cmp, .sec, .free] s (execDgOpen core a b s) := by
  unfold execDgOpen
  try dsimp only
  refine kitePort_fr _ _ _ _ _ _ _ (by decide) (fun _ => ?_)
  refine KFrame.step (runOut_fr _ _ _ _) (by decide) ?_
  exact ChangesOnly.refl _ _

theorem execDgFeed_fr (core : CoreId) (a : Reg) (b : Reg) (s : State) : OutFrame [.med, .kite, .way, .cmp, .sec, .free] s (execDgFeed core a b s) := by
  unfold execDgFeed
  try dsimp only
  refine kitePort_fr _ _ _ _ _ _ _ (by decide) (fun _ => ?_)
  refine KFrame.step (runOut_fr _ _ _ _) (by decide) ?_
  exact ChangesOnly.refl _ _

theorem execDgFinal_fr (core : CoreId) (a : Reg) (b : Reg) (s : State) : OutFrame [.med, .kite, .way, .cmp, .sec, .free] s (execDgFinal core a b s) := by
  unfold execDgFinal
  try dsimp only
  refine kitePort_fr _ _ _ _ _ _ _ (by decide) (fun _ => ?_)
  refine KFrame.step (runOut_fr _ _ _ _) (by decide) ?_
  exact ChangesOnly.refl _ _

theorem execCpGo_fr (core : CoreId) (a : Reg) (b : Reg) (s : State) : OutFrame [.med, .kite, .way, .cmp, .sec, .free] s (execCpGo core a b s) := by
  unfold execCpGo
  try dsimp only
  refine kitePort_fr _ _ _ _ _ _ _ (by decide) (fun _ => ?_)
  refine KFrame.step (runOut_fr _ _ _ _) (by decide) ?_
  exact ChangesOnly.refl _ _

theorem execDmaPut_fr (core : CoreId) (a : Reg) (b : Reg) (s : State) : OutFrame [.med, .kite, .way, .cmp, .sec, .free] s (execDmaPut core a b s) := by
  unfold execDmaPut
  try dsimp only
  refine kitePort_fr _ _ _ _ _ _ _ (by decide) (fun _ => ?_)
  refine KFrame.step (runOut_fr _ _ _ _) (by decide) ?_
  exact ChangesOnly.refl _ _

theorem execDmaAppend_fr (core : CoreId) (a : Reg) (b : Reg) (s : State) : OutFrame [.med, .kite, .way, .cmp, .sec, .free] s (execDmaAppend core a b s) := by
  unfold execDmaAppend
  try dsimp only
  refine kitePort_fr _ _ _ _ _ _ _ (by decide) (fun _ => ?_)
  refine KFrame.step (runOut_fr _ _ _ _) (by decide) ?_
  exact ChangesOnly.refl _ _

theorem execKJmp_fr (core : CoreId) (a : Reg) (s : State) : OutFrame [.med, .kite, .sec, .free] s (execKJmp core a s) := by
  unfold execKJmp
  try dsimp only
  refine kiteOp_fr _ _ _ _ (by decide) (fun _ => ?_)
  refine KFrame.ends ?_
  exact ChangesOnly.refl _ _

theorem execKCall_fr (core : CoreId) (a : Reg) (s : State) : OutFrame [.med, .kite, .sec, .free] s (execKCall core a s) := by
  unfold execKCall
  try dsimp only
  refine kiteOp_fr _ _ _ _ (by decide) (fun _ => ?_)
  refine KFrame.ends ?_
  exact ChangesOnly.refl _ _

theorem execKRet_fr (core : CoreId) (s : State) : OutFrame [.med, .kite, .sec, .free] s (execKRet core s) := by
  unfold execKRet
  try dsimp only
  refine kiteOp_fr _ _ _ _ (by decide) (fun _ => ?_)
  refine KFrame.ends ?_
  exact ChangesOnly.refl _ _

def SFrame (ps : List Part) (s : State) (x : KRes ⊕ State) : Prop := match x with
  | .inl r => KFrame ps s r
  | .inr t => ChangesOnly ps s t
theorem repEnd_fr (s : State) (i : Instance) (core : Nat) (op : StrOp) (more : Bool) (cost waits : Nat) (x : RepEnd)
    (h : ChangesOnly [.flt, .med, .kite, .way, .cmp, .sec, .free] s x.s) :
    SFrame [.flt, .med, .kite, .way, .cmp, .sec, .free] s (repEnd i core op more cost waits x) := by
  have bk := ChangesOnly.step (repBreak_fr x.s i x.regs cost waits) (by decide) h
  unfold repEnd
  split
  · exact ChangesOnly.step (modCore_fr _ _ _) (by decide) bk
  · exact bk
  · split
    · exact bk
    · exact h
theorem runRep_fr (s : State) (i : Instance) (core most : Nat) (check : LineCheck) :
    SFrame [.flt, .med, .kite, .way, .cmp, .sec, .free] s (runRep s i core most check) := by
  unfold runRep
  dsimp only
  split
  · exact ChangesOnly.refl _ _
  · split
    · exact ChangesOnly.refl _ _
    · split
      · split
        · exact ChangesOnly.refl _ _
        · refine repEnd_fr _ _ _ _ _ _ _ _ (ChangesOnly.step (repLoop_fr _ _ _ _ _ _ _ _ _ _) (by decide) ?_)
          refine ChangesOnly.ite (ChangesOnly.refl _ _) ?_
          exact ChangesOnly.step (checkElem_fr _ _ _ _ _ _ _) (by decide) (ChangesOnly.refl _ _)
      · exact ChangesOnly.refl _ _
theorem execKRep_fr (core : CoreId) (most : Nat) (check : LineCheck) (s : State) : OutFrame [.flt, .med, .kite, .way, .cmp, .sec, .free] s (execKRep core most check s) := by
  unfold execKRep
  split
  · exact OutFrame.next (ChangesOnly.refl _ _)
  · rename_i i hi
    split
    · split
      · rename_i r hr
        have h := runRep_fr s i core.val most check
        rw [hr] at h
        exact OutFrame.next (kiteDone_fr _ _ _ _ (by decide) h)
      · rename_i r hr
        have h := runRep_fr s i core.val most check
        rw [hr] at h
        exact OutFrame.next h
    · exact OutFrame.next (ChangesOnly.refl _ _)

theorem execKBrpt_fr (core : CoreId) (n : Nat) (s : State) : OutFrame [.med, .kite, .sec, .free] s (execKBrpt core n s) := by
  unfold execKBrpt
  try dsimp only
  refine kiteOp_fr _ _ _ _ (by decide) (fun _ => ?_)
  refine KFrame.step (runBrpt_fr _ _ _) (by decide) ?_
  exact ChangesOnly.refl _ _

theorem execKCopy_fr (core : CoreId) (wide : Bool) (check : LineCheck) (s : State) : OutFrame [.flt, .med, .kite, .way, .cmp, .sec, .free] s (execKCopy core wide check s) := by
  unfold execKCopy
  try dsimp only
  refine kiteOp_fr _ _ _ _ (by decide) (fun _ => ?_)
  refine KFrame.step (runStr_fr _ _ _ _ _ _ _) (by decide) ?_
  exact ChangesOnly.refl _ _

theorem execKMatch_fr (core : CoreId) (wide : Bool) (r : Reg) (check : LineCheck) (s : State) : OutFrame [.flt, .med, .kite, .way, .cmp, .sec, .free] s (execKMatch core wide r check s) := by
  unfold execKMatch
  try dsimp only
  refine kiteOp_fr _ _ _ _ (by decide) (fun _ => ?_)
  refine KFrame.step (runStr_fr _ _ _ _ _ _ _) (by decide) ?_
  exact ChangesOnly.refl _ _

theorem execKSeek_fr (core : CoreId) (wide : Bool) (r : Reg) (check : LineCheck) (s : State) : OutFrame [.flt, .med, .kite, .way, .cmp, .sec, .free] s (execKSeek core wide r check s) := by
  unfold execKSeek
  try dsimp only
  refine kiteOp_fr _ _ _ _ (by decide) (fun _ => ?_)
  refine KFrame.step (runStr_fr _ _ _ _ _ _ _) (by decide) ?_
  exact ChangesOnly.refl _ _

theorem execKPull_fr (core : CoreId) (wide : Bool) (r : Reg) (check : LineCheck) (s : State) : OutFrame [.flt, .med, .kite, .way, .cmp, .sec, .free] s (execKPull core wide r check s) := by
  unfold execKPull
  try dsimp only
  refine kiteOp_fr _ _ _ _ (by decide) (fun _ => ?_)
  refine KFrame.step (runStr_fr _ _ _ _ _ _ _) (by decide) ?_
  exact ChangesOnly.refl _ _

theorem execKPush_fr (core : CoreId) (wide : Bool) (r : Reg) (check : LineCheck) (s : State) : OutFrame [.flt, .med, .kite, .way, .cmp, .sec, .free] s (execKPush core wide r check s) := by
  unfold execKPush
  try dsimp only
  refine kiteOp_fr _ _ _ _ (by decide) (fun _ => ?_)
  refine KFrame.step (runStr_fr _ _ _ _ _ _ _) (by decide) ?_
  exact ChangesOnly.refl _ _

theorem execKFill_fr (core : CoreId) (wide : Bool) (r : Reg) (check : LineCheck) (s : State) : OutFrame [.flt, .med, .kite, .way, .cmp, .sec, .free] s (execKFill core wide r check s) := by
  unfold execKFill
  try dsimp only
  refine kiteOp_fr _ _ _ _ (by decide) (fun _ => ?_)
  refine KFrame.step (runStr_fr _ _ _ _ _ _ _) (by decide) ?_
  exact ChangesOnly.refl _ _

theorem execKiteNop_fr (core : CoreId) (s : State) : OutFrame [.med, .kite, .sec, .free] s (execKiteNop core s) := by
  unfold execKiteNop
  try dsimp only
  refine kiteOp_fr _ _ _ _ (by decide) (fun _ => ?_)
  refine KFrame.ends ?_
  exact ChangesOnly.refl _ _

theorem execKWait_fr (core : CoreId) (s : State) : OutFrame [.med, .kite, .sec, .free] s (execKWait core s) := by
  unfold execKWait
  split
  · exact OutFrame.next (ChangesOnly.refl _ _)
  · split
    · split
      · exact OutFrame.next (kiteDone_fr _ _ _ _ (by decide) (KFrame.ends (ChangesOnly.refl _ _)))
      · dsimp only
        refine OutFrame.next ?_
        refine ChangesOnly.step (modCore_fr _ _ _) (by decide) ?_
        refine ChangesOnly.step (modInst_fr _ _ _ _) (by decide) ?_
        refine ChangesOnly.step (cyclesOf_fr _ _ _ _) (by decide) ?_
        exact ChangesOnly.refl _ _
    · exact OutFrame.next (ChangesOnly.refl _ _)

theorem execKHalt_fr (core : CoreId) (s : State) : OutFrame [.med, .kite, .sec] s (execKHalt core s) := by
  unfold execKHalt
  try dsimp only
  split
  · refine OutFrame.next ?_
    exact ChangesOnly.refl _ _
  · split
    · refine OutFrame.next ?_
      refine ChangesOnly.step (settleRing_fr _ _) (by decide) ?_
      refine ChangesOnly.step (endInst_fr _ _ _) (by decide) ?_
      refine ChangesOnly.step (upKite_fr _ _) (by decide) ?_
      exact ChangesOnly.refl _ _
    · refine OutFrame.next ?_
      exact ChangesOnly.refl _ _

theorem execKTrap_fr (core : CoreId) (s : State) : OutFrame [.med, .kite, .sec, .free] s (execKTrap core s) := by
  unfold execKTrap
  try dsimp only
  refine kiteOp_fr _ _ _ _ (by decide) (fun _ => ?_)
  refine KFrame.faults ?_
  exact ChangesOnly.refl _ _

theorem execKMovsr_fr (core : CoreId) (a : Reg) (toSpecial : Bool) (number : Fin 8) (s : State) : OutFrame [.med, .kite, .sec, .free] s (execKMovsr core a toSpecial number s) := by
  unfold execKMovsr
  try dsimp only
  refine kiteOp_fr _ _ _ _ (by decide) (fun _ => ?_)
  refine KFrame.step (runMovsr_fr _ _ _ _ _) (by decide) ?_
  exact ChangesOnly.refl _ _

theorem execKLdpw_fr (core : CoreId) (a : Reg) (b : Reg) (check : LineCheck) (s : State) : OutFrame [.flt, .med, .kite, .sec, .free] s (execKLdpw core a b check s) := by
  unfold execKLdpw
  try dsimp only
  refine kiteOp_fr _ _ _ _ (by decide) (fun _ => ?_)
  refine KFrame.step (runLdpw_fr _ _ _ _ _ _) (by decide) ?_
  exact ChangesOnly.refl _ _

theorem execIllegalInstruction_fr (core : CoreId) (check : LineCheck) (s : State) : OutFrame [.flt, .med, .kite, .sec] s (execIllegalInstruction core check s) := by
  unfold execIllegalInstruction
  try dsimp only
  split
  · refine OutFrame.next ?_
    exact ChangesOnly.refl _ _
  · refine OutFrame.ite ?_ ?_
    · refine OutFrame.next ?_
      refine ChangesOnly.step (kiteFault_fr _ _ _ _ _) (by decide) ?_
      refine ChangesOnly.step (checkCode_fr _ _ _ _ _) (by decide) ?_
      exact ChangesOnly.refl _ _
    · split
      · refine OutFrame.next ?_
        refine ChangesOnly.step (kiteFault_fr _ _ _ _ _) (by decide) ?_
        refine ChangesOnly.step (checkCode_fr _ _ _ _ _) (by decide) ?_
        exact ChangesOnly.refl _ _
      · refine OutFrame.next ?_
        refine ChangesOnly.step (checkCode_fr _ _ _ _ _) (by decide) ?_
        exact ChangesOnly.refl _ _


/-! ### Link -/

theorem logRas_fr (s : State) (n : Nat) (addr : Nat) : ChangesOnly [.hst] s (logRas s n addr) := by
  unfold logRas
  try dsimp only
  refine ChangesOnly.step (upHst_fr _ _) (by decide) ?_
  exact ChangesOnly.refl _ _

theorem execLinkTraining_fr (speed : Nat) (width : Nat) (alternate : Bool) (reversed : Bool) (s : State) : OutFrame [.glb, .hst] s (execLinkTraining speed width alternate reversed s) := by
  unfold execLinkTraining
  try dsimp only
  refine OutFrame.ite ?_ ?_
  · refine OutFrame.next ?_
    exact ChangesOnly.refl _ _
  · refine OutFrame.next ?_
    refine ChangesOnly.step (upGlb_fr _ _) (by decide) ?_
    refine ChangesOnly.step (upHst_fr _ _) (by decide) ?_
    exact ChangesOnly.refl _ _

theorem execLinkDowntrain_fr (speed : Nat) (width : Nat) (s : State) : OutFrame [.flt, .hst] s (execLinkDowntrain speed width s) := by
  unfold execLinkDowntrain
  try dsimp only
  refine OutFrame.ite ?_ ?_
  · refine OutFrame.next ?_
    exact ChangesOnly.refl _ _
  · refine OutFrame.next ?_
    refine ChangesOnly.step (raise_fr _ _) (by decide) ?_
    refine ChangesOnly.step (upHst_fr _ _) (by decide) ?_
    exact ChangesOnly.refl _ _

theorem execIdeCheckFail_fr (cm : Bool) (s : State) : OutFrame [.flt, .hst, .sec] s (execIdeCheckFail cm s) := by
  unfold execIdeCheckFail
  try dsimp only
  refine OutFrame.ite ?_ ?_
  · refine OutFrame.next ?_
    exact ChangesOnly.refl _ _
  · refine OutFrame.next ?_
    refine ChangesOnly.step (reApprove_fr _) (by decide) ?_
    refine ChangesOnly.step (raise_fr _ _) (by decide) ?_
    refine ChangesOnly.step (logRas_fr _ _ _) (by decide) ?_
    refine ChangesOnly.step (upHst_fr _ _) (by decide) ?_
    exact ChangesOnly.refl _ _

theorem ideSecure_fr (s : State) (cm : Bool) : ChangesOnly [.hst, .sec] s (ideSecure s cm) := by
  unfold ideSecure
  try dsimp only
  refine ChangesOnly.step (reApprove_fr _) (by decide) ?_
  refine ChangesOnly.step (msixFlush_fr _) (by decide) ?_
  refine ChangesOnly.step (upHst_fr _ _) (by decide) ?_
  exact ChangesOnly.refl _ _

theorem execIdeKeyRefresh_fr (cm : Bool) (s : State) : OutFrame [.hst, .sec] s (execIdeKeyRefresh cm s) := by
  unfold execIdeKeyRefresh
  try dsimp only
  refine OutFrame.ite ?_ ?_
  · refine OutFrame.next ?_
    exact ChangesOnly.refl _ _
  · refine OutFrame.next ?_
    refine ChangesOnly.step (ideSecure_fr _ _) (by decide) ?_
    exact ChangesOnly.refl _ _

theorem execDoeMessage_fr (m : DoeMsg) (s : State) : OutFrame [.hst, .sec, .free] s (execDoeMessage m s) := by
  unfold execDoeMessage
  try dsimp only
  refine OutFrame.ite ?_ ?_
  · refine OutFrame.next ?_
    exact ChangesOnly.refl _ _
  · split
    · refine OutFrame.ite ?_ ?_
      · refine OutFrame.next ?_
        exact ChangesOnly.refl _ _
      · refine OutFrame.next ?_
        refine ChangesOnly.step (reApprove_fr _) (by decide) ?_
        refine ChangesOnly.step (upHst_fr _ _) (by decide) ?_
        refine ChangesOnly.step (freeBytes_fr _ _) (by decide) ?_
        exact ChangesOnly.refl _ _
    · refine OutFrame.next ?_
      refine ChangesOnly.step (reApprove_fr _) (by decide) ?_
      refine ChangesOnly.step (upHst_fr _ _) (by decide) ?_
      exact ChangesOnly.refl _ _
    · refine OutFrame.ite ?_ ?_
      · refine OutFrame.next ?_
        exact ChangesOnly.refl _ _
      · refine OutFrame.next ?_
        refine ChangesOnly.step (ideSecure_fr _ _) (by decide) ?_
        exact ChangesOnly.refl _ _

theorem drainKind_fr (s : State) (ring : Nat) (src : ReplySrc) (fuel : Nat) : ChangesOnly [.hst, .tsk, .hostMem] s (drainKind s ring src fuel) := by
  unfold drainKind
  try dsimp only
  split
  · exact ChangesOnly.refl _ _
  · split
    · refine ChangesOnly.step (drainKind_fr _ _ _ _) (by decide) ?_
      refine ChangesOnly.step (OptFrame.of (writeReply_fr _ _ _ _) (by assumption)) (by decide) ?_
      exact ChangesOnly.refl _ _
    · exact ChangesOnly.refl _ _

theorem drainRing_fr (s : State) (ring : Nat) : ChangesOnly [.hst, .tsk, .hostMem] s (drainRing s ring) := by
  unfold drainRing
  try dsimp only
  refine ChangesOnly.step (drainKind_fr _ _ _ _) (by decide) ?_
  refine ChangesOnly.step (drainKind_fr _ _ _ _) (by decide) ?_
  refine ChangesOnly.step (drainKind_fr _ _ _ _) (by decide) ?_
  exact ChangesOnly.refl _ _

theorem execGpfPhase1_fr (s : State) : OutFrame [.hst, .tsk, .hostMem] s (execGpfPhase1 s) := by
  unfold execGpfPhase1
  try dsimp only
  refine OutFrame.ite ?_ ?_
  · refine OutFrame.next ?_
    exact ChangesOnly.refl _ _
  · refine OutFrame.next ?_
    refine ChangesOnly.step (upHst_fr _ _) (by decide) ?_
    refine ChangesOnly.foldl (fun _ _ => ?_) ?_
    · refine ChangesOnly.step (drainRing_fr _ _) (by decide) ?_
      exact ChangesOnly.refl _ _
    · exact ChangesOnly.refl _ _

theorem execGpfPhase2_fr (s : State) : OutFrame [.hst] s (execGpfPhase2 s) := by
  unfold execGpfPhase2
  try dsimp only
  refine OutFrame.ite ?_ ?_
  · refine OutFrame.next ?_
    exact ChangesOnly.refl _ _
  · refine OutFrame.next ?_
    refine ChangesOnly.step (upHst_fr _ _) (by decide) ?_
    exact ChangesOnly.refl _ _

theorem biasConflict_fr (s : State) (a : Nat) : ChangesOnly [.hst] s (biasConflict s a) := by
  unfold biasConflict
  try dsimp only
  refine ChangesOnly.ite ?_ ?_
  · refine ChangesOnly.step (upHst_fr _ _) (by decide) ?_
    exact ChangesOnly.refl _ _
  · exact ChangesOnly.refl _ _

theorem answerMem_fr (s : State) (a : Nat) (b : List Byte) (poison : Bool) : ChangesOnly [.hst] s (answerMem s a b poison) := by
  unfold answerMem
  try dsimp only
  refine ChangesOnly.step (upHst_fr _ _) (by decide) ?_
  exact ChangesOnly.refl _ _

theorem serveRead_fr (s : State) (addr : Nat) (a : Nat) (check : LineCheck) : ChangesOnly [.flt, .hst, .drc] s (serveRead s addr a check) := by
  unfold serveRead
  try dsimp only
  refine ChangesOnly.ite ?_ ?_
  · refine ChangesOnly.step (answerMem_fr _ _ _ _) (by decide) ?_
    refine ChangesOnly.step (raise_fr _ _) (by decide) ?_
    refine ChangesOnly.step (logRas_fr _ _ _) (by decide) ?_
    exact ChangesOnly.refl _ _
  · split
    · refine ChangesOnly.step (answerMem_fr _ _ _ _) (by decide) ?_
      exact ChangesOnly.refl _ _
    · refine ChangesOnly.step (answerMem_fr _ _ _ _) (by decide) ?_
      refine ChangesOnly.step (dramBad_fr _ _ _) (by decide) ?_
      refine ChangesOnly.step (logRas_fr _ _ _) (by decide) ?_
      exact ChangesOnly.refl _ _
    · refine ChangesOnly.step (answerMem_fr _ _ _ _) (by decide) ?_
      refine ChangesOnly.step (dramCorrected_fr _ _ _) (by decide) ?_
      refine ChangesOnly.step (logRas_fr _ _ _) (by decide) ?_
      exact ChangesOnly.refl _ _

theorem execCxlMemRead_fr (addr : Nat) (check : LineCheck) (s : State) : OutFrame [.flt, .hst, .drc] s (execCxlMemRead addr check s) := by
  unfold execCxlMemRead
  try dsimp only
  refine OutFrame.ite ?_ ?_
  · refine OutFrame.next ?_
    exact ChangesOnly.refl _ _
  · split
    · refine OutFrame.next ?_
      refine ChangesOnly.step (answerMem_fr _ _ _ _) (by decide) ?_
      refine ChangesOnly.step (logRas_fr _ _ _) (by decide) ?_
      exact ChangesOnly.refl _ _
    · refine OutFrame.ite ?_ ?_
      · refine OutFrame.next ?_
        exact ChangesOnly.refl _ _
      · refine OutFrame.next ?_
        refine ChangesOnly.step (serveRead_fr _ _ _ _) (by decide) ?_
        refine ChangesOnly.step (biasConflict_fr _ _) (by decide) ?_
        exact ChangesOnly.refl _ _

theorem serveWrite_fr (s : State) (addr : Nat) (a : Nat) (data : List (Option Byte)) (check : LineCheck) : ChangesOnly [.flt, .hst, .drc, .arena] s (serveWrite s addr a data check) := by
  unfold serveWrite
  try dsimp only
  refine ChangesOnly.ite ?_ ?_
  · refine ChangesOnly.set_arena (by decide) ?_
    refine ChangesOnly.step (upDrc_fr _ _) (by decide) ?_
    exact ChangesOnly.refl _ _
  · refine ChangesOnly.ite ?_ ?_
    · exact ChangesOnly.refl _ _
    · split
      · refine ChangesOnly.set_arena (by decide) ?_
        exact ChangesOnly.refl _ _
      · refine ChangesOnly.step (dramBad_fr _ _ _) (by decide) ?_
        exact ChangesOnly.refl _ _
      · refine ChangesOnly.set_arena (by decide) ?_
        refine ChangesOnly.step (dramCorrected_fr _ _ _) (by decide) ?_
        refine ChangesOnly.step (logRas_fr _ _ _) (by decide) ?_
        exact ChangesOnly.refl _ _

theorem execCxlMemWrite_fr (addr : Nat) (data : List (Option Byte)) (check : LineCheck) (s : State) : OutFrame [.flt, .hst, .drc, .arena] s (execCxlMemWrite addr data check s) := by
  unfold execCxlMemWrite
  try dsimp only
  refine OutFrame.ite ?_ ?_
  · refine OutFrame.next ?_
    exact ChangesOnly.refl _ _
  · split
    · refine OutFrame.next ?_
      refine ChangesOnly.step (logRas_fr _ _ _) (by decide) ?_
      exact ChangesOnly.refl _ _
    · refine OutFrame.ite ?_ ?_
      · refine OutFrame.next ?_
        exact ChangesOnly.refl _ _
      · refine OutFrame.next ?_
        refine ChangesOnly.step (serveWrite_fr _ _ _ _ _) (by decide) ?_
        refine ChangesOnly.step (biasConflict_fr _ _) (by decide) ?_
        exact ChangesOnly.refl _ _

theorem execHdmDecoderCommit_fr (index : Nat) (base : Nat) (size : Nat) (ways : Nat) (gran : Nat) (pos : Nat) (s : State) : OutFrame [.hst] s (execHdmDecoderCommit index base size ways gran pos s) := by
  unfold execHdmDecoderCommit
  try dsimp only
  refine OutFrame.ite ?_ ?_
  · refine OutFrame.next ?_
    exact ChangesOnly.refl _ _
  · refine OutFrame.ite ?_ ?_
    · refine OutFrame.next ?_
      refine ChangesOnly.step (upHst_fr _ _) (by decide) ?_
      exact ChangesOnly.refl _ _
    · refine OutFrame.ite ?_ ?_
      · refine OutFrame.next ?_
        refine ChangesOnly.step (upHst_fr _ _) (by decide) ?_
        exact ChangesOnly.refl _ _
      · refine OutFrame.next ?_
        exact ChangesOnly.refl _ _

theorem flrOp_fr (s : State) (o : Machine.Op) : ChangesOnly [.hst, .tsk, .med, .drc, .kite, .cmp, .sec, .pair, .hostMem, .arena, .free] s (flrOp s o) := by
  unfold flrOp
  try dsimp only
  refine ChangesOnly.ite ?_ ?_
  · refine ChangesOnly.step (dropOp_fr _ _) (by decide) ?_
    exact ChangesOnly.refl _ _
  · refine ChangesOnly.ite ?_ ?_
    · refine ChangesOnly.step (modOp_fr _ _ _) (by decide) ?_
      exact ChangesOnly.refl _ _
    · refine ChangesOnly.ite ?_ ?_
      · refine ChangesOnly.step (dropOp_fr _ _) (by decide) ?_
        exact ChangesOnly.refl _ _
      · refine ChangesOnly.ite ?_ ?_
        · refine ChangesOnly.step (stopRun_fr _ _ _) (by decide) ?_
          refine ChangesOnly.step (modOp_fr _ _ _) (by decide) ?_
          exact ChangesOnly.refl _ _
        · refine ChangesOnly.step (modOp_fr _ _ _) (by decide) ?_
          exact ChangesOnly.refl _ _

theorem execFlr_fr (s : State) : OutFrame [.hst, .tsk, .med, .drc, .kite, .cmp, .sec, .pair, .hostMem, .arena, .free] s (execFlr s) := by
  unfold execFlr
  try dsimp only
  refine OutFrame.ite ?_ ?_
  · refine OutFrame.next ?_
    exact ChangesOnly.refl _ _
  · refine OutFrame.next ?_
    refine ChangesOnly.step (reApprove_fr _) (by decide) ?_
    refine ChangesOnly.step (flrContexts_fr _) (by decide) ?_
    refine ChangesOnly.step (upHst_fr _ _) (by decide) ?_
    refine ChangesOnly.step (dropQueues_fr _) (by decide) ?_
    refine ChangesOnly.foldl (fun _ _ => ?_) ?_
    · refine ChangesOnly.step (flrOp_fr _ _) (by decide) ?_
      exact ChangesOnly.refl _ _
    · exact ChangesOnly.refl _ _

theorem execConventionalReset_fr (kind : Nat) (s : State) : OutFrame [.pwr, .flt, .glb, .hst, .tsk, .med, .drc, .kite, .way, .cmp, .sec, .hlt, .pair, .mesh, .hostMem, .arena, .free] s (execConventionalReset kind s) := by
  unfold execConventionalReset
  try dsimp only
  refine OutFrame.ite ?_ ?_
  · refine OutFrame.next ?_
    exact ChangesOnly.refl _ _
  · refine OutFrame.ite ?_ ?_
    · refine OutFrame.ite ?_ ?_
      · refine OutFrame.next ?_
        exact ChangesOnly.refl _ _
      · refine OutFrame.next ?_
        refine ChangesOnly.step (beginReset_fr _ _) (by decide) ?_
        refine ChangesOnly.step (tapFollow_fr _) (by decide) ?_
        refine ChangesOnly.step (upPwr_fr _ _) (by decide) ?_
        exact ChangesOnly.refl _ _
    · refine OutFrame.ite ?_ ?_
      · refine OutFrame.next ?_
        refine ChangesOnly.step (beginReset_fr _ _) (by decide) ?_
        exact ChangesOnly.refl _ _
      · refine OutFrame.next ?_
        exact ChangesOnly.refl _ _

theorem execPerstDeassert_fr (s : State) : OutFrame [.pwr, .glb] s (execPerstDeassert s) := by
  unfold execPerstDeassert
  try dsimp only
  refine OutFrame.ite ?_ ?_
  · refine OutFrame.next ?_
    exact ChangesOnly.refl _ _
  · refine OutFrame.next ?_
    refine ChangesOnly.step (tapFollow_fr _) (by decide) ?_
    refine ChangesOnly.step (upGlb_fr _ _) (by decide) ?_
    refine ChangesOnly.step (upPwr_fr _ _) (by decide) ?_
    exact ChangesOnly.refl _ _

theorem execPowerOn_fr (s : State) : OutFrame [.pwr, .flt, .glb, .hst, .tsk, .med, .drc, .kite, .way, .cmp, .sec, .hlt, .pair, .mesh, .arena] s (execPowerOn s) := by
  unfold execPowerOn
  try dsimp only
  refine OutFrame.ite ?_ ?_
  · refine OutFrame.next ?_
    refine ChangesOnly.step (upPwr_fr _ _) (by decide) ?_
    exact ChangesOnly.refl _ _
  · refine OutFrame.next ?_
    refine ChangesOnly.step (upHlt_fr _ _) (by decide) ?_
    refine ChangesOnly.step (upGlb_fr _ _) (by decide) ?_
    refine ChangesOnly.step (deviceReset_fr _ _) (by decide) ?_
    refine ChangesOnly.step (upPwr_fr _ _) (by decide) ?_
    exact ChangesOnly.refl _ _

theorem execHandshakeTimeout_fr (island : Nat) (sender : Nat) (s : State) : OutFrame [.flt] s (execHandshakeTimeout island sender s) := by
  unfold execHandshakeTimeout
  try dsimp only
  refine OutFrame.ite ?_ ?_
  · refine OutFrame.next ?_
    exact ChangesOnly.refl _ _
  · refine OutFrame.next ?_
    refine ChangesOnly.step (raiseAt_fr _ _ _ _ _) (by decide) ?_
    exact ChangesOnly.refl _ _

theorem execIslandIdleGate_fr (island : Nat) (s : State) : OutFrame [.pwr] s (execIslandIdleGate island s) := by
  unfold execIslandIdleGate
  try dsimp only
  refine OutFrame.ite ?_ ?_
  · refine OutFrame.next ?_
    exact ChangesOnly.refl _ _
  · refine OutFrame.next ?_
    refine ChangesOnly.step (upPwr_fr _ _) (by decide) ?_
    exact ChangesOnly.refl _ _

theorem execIslandWake_fr (island : Nat) (banksLost : Bool) (s : State) : OutFrame [.pwr, .flt, .kite, .way, .hlt] s (execIslandWake island banksLost s) := by
  unfold execIslandWake
  try dsimp only
  refine OutFrame.ite ?_ ?_
  · refine OutFrame.next ?_
    exact ChangesOnly.refl _ _
  · refine OutFrame.ite ?_ ?_
    · refine OutFrame.next ?_
      refine ChangesOnly.step (upPwr_fr _ _) (by decide) ?_
      exact ChangesOnly.refl _ _
    · refine OutFrame.next ?_
      refine ChangesOnly.ite ?_ ?_
      · refine ChangesOnly.step (bankLoss_fr _ _) (by decide) ?_
        refine ChangesOnly.step (upHlt_fr _ _) (by decide) ?_
        refine ChangesOnly.step (upPwr_fr _ _) (by decide) ?_
        exact ChangesOnly.refl _ _
      · refine ChangesOnly.step (upHlt_fr _ _) (by decide) ?_
        refine ChangesOnly.step (upPwr_fr _ _) (by decide) ?_
        exact ChangesOnly.refl _ _

theorem execTapInstruction_fr (code : Nat) (s : State) : OutFrame [.glb] s (execTapInstruction code s) := by
  unfold execTapInstruction
  try dsimp only
  refine OutFrame.next ?_
  refine ChangesOnly.step (tapFollow_fr _) (by decide) ?_
  refine ChangesOnly.step (upGlb_fr _ _) (by decide) ?_
  exact ChangesOnly.refl _ _

theorem execTapReset_fr (s : State) : OutFrame [.glb] s (execTapReset s) := by
  unfold execTapReset
  try dsimp only
  refine OutFrame.next ?_
  refine ChangesOnly.step (tapFollow_fr _) (by decide) ?_
  refine ChangesOnly.step (upGlb_fr _ _) (by decide) ?_
  exact ChangesOnly.refl _ _


/-! ### Power -/

theorem execPowerSet_fr (tag : Nat) (s : State) : OutFrame [.pwr, .tsk] s (execPowerSet tag s) := by
  unfold execPowerSet
  try dsimp only
  split
  · refine OutFrame.next ?_
    exact ChangesOnly.refl _ _
  · refine OutFrame.ite ?_ ?_
    · refine OutFrame.ite ?_ ?_
      · refine OutFrame.next ?_
        refine ChangesOnly.step (startEntry_fr _ _) (by decide) ?_
        refine ChangesOnly.step (upPwr_fr _ _) (by decide) ?_
        exact ChangesOnly.refl _ _
      · refine OutFrame.next ?_
        exact ChangesOnly.refl _ _
    · refine OutFrame.ite ?_ ?_
      · refine OutFrame.next ?_
        refine ChangesOnly.step (upPwr_fr _ _) (by decide) ?_
        split
        · refine ChangesOnly.step (replyPower_fr _ _ _) (by decide) ?_
          refine ChangesOnly.ite ?_ ?_
          · refine ChangesOnly.step (running_fr _ _) (by decide) ?_
            exact ChangesOnly.refl _ _
          · refine ChangesOnly.step (powerRecord_fr _ _ _ _ _) (by decide) ?_
            refine ChangesOnly.step (running_fr _ _) (by decide) ?_
            exact ChangesOnly.refl _ _
        · refine ChangesOnly.step (running_fr _ _) (by decide) ?_
          exact ChangesOnly.refl _ _
      · refine OutFrame.next ?_
        refine ChangesOnly.step (beginPower_fr _ _) (by decide) ?_
        refine ChangesOnly.step (running_fr _ _) (by decide) ?_
        exact ChangesOnly.refl _ _

theorem execPowerQuery_fr (tag : Nat) (s : State) : OutFrame [.tsk] s (execPowerQuery tag s) := by
  unfold execPowerQuery
  try dsimp only
  split
  · refine OutFrame.next ?_
    exact ChangesOnly.refl _ _
  · refine OutFrame.next ?_
    refine ChangesOnly.step (finish_fr _ _ _) (by decide) ?_
    exact ChangesOnly.refl _ _

theorem autoEntry_fr (s : State) (target : Nat) (bitNo : Nat) (ms : Nat) : ChangesOnly [.pwr, .tsk] s (autoEntry s target bitNo ms) := by
  unfold autoEntry
  try dsimp only
  refine ChangesOnly.ite ?_ ?_
  · refine ChangesOnly.step (startEntry_fr _ _) (by decide) ?_
    exact ChangesOnly.refl _ _
  · exact ChangesOnly.refl _ _

theorem execGlideIdleEntry_fr (s : State) : OutFrame [.pwr, .tsk] s (execGlideIdleEntry s) := by
  unfold execGlideIdleEntry
  try dsimp only
  refine OutFrame.next ?_
  refine ChangesOnly.ite ?_ ?_
  · refine ChangesOnly.step (upPwr_fr _ _) (by decide) ?_
    refine ChangesOnly.step (autoEntry_fr _ _ _ _) (by decide) ?_
    exact ChangesOnly.refl _ _
  · refine ChangesOnly.step (autoEntry_fr _ _ _ _) (by decide) ?_
    exact ChangesOnly.refl _ _

theorem execMooredIdleEntry_fr (s : State) : OutFrame [.pwr, .tsk] s (execMooredIdleEntry s) := by
  unfold execMooredIdleEntry
  try dsimp only
  refine OutFrame.next ?_
  refine ChangesOnly.ite ?_ ?_
  · refine ChangesOnly.step (upPwr_fr _ _) (by decide) ?_
    refine ChangesOnly.step (autoEntry_fr _ _ _ _) (by decide) ?_
    exact ChangesOnly.refl _ _
  · refine ChangesOnly.step (autoEntry_fr _ _ _ _) (by decide) ?_
    exact ChangesOnly.refl _ _

theorem execTransitionPhaseEnd_fr (imageOk : Bool) (lost : List Nat) (s : State) : OutFrame [.pwr, .flt, .glb, .hst, .tsk, .med, .drc, .kite, .way, .cmp, .sec, .hlt, .pair, .mesh, .arena, .free] s (execTransitionPhaseEnd imageOk lost s) := by
  unfold execTransitionPhaseEnd
  try dsimp only
  split
  · refine OutFrame.next ?_
    exact ChangesOnly.refl _ _
  · refine OutFrame.next ?_
    refine ChangesOnly.step (phaseEnd_fr _ _ _ _) (by decide) ?_
    exact ChangesOnly.refl _ _

theorem execCommandedEntryTimeout_fr (s : State) : OutFrame [.pwr, .tsk] s (execCommandedEntryTimeout s) := by
  unfold execCommandedEntryTimeout
  try dsimp only
  split
  · refine OutFrame.next ?_
    exact ChangesOnly.refl _ _
  · refine OutFrame.ite ?_ ?_
    · refine OutFrame.next ?_
      exact ChangesOnly.refl _ _
    · refine OutFrame.next ?_
      refine ChangesOnly.step (nextPower_fr _) (by decide) ?_
      refine ChangesOnly.step (refusePower_fr _ _ _) (by decide) ?_
      refine ChangesOnly.step (upPwr_fr _ _) (by decide) ?_
      exact ChangesOnly.refl _ _

theorem execLinkL2Entry_fr (s : State) : OutFrame [.pwr] s (execLinkL2Entry s) := by
  unfold execLinkL2Entry
  try dsimp only
  refine OutFrame.ite ?_ ?_
  · refine OutFrame.next ?_
    exact ChangesOnly.refl _ _
  · refine OutFrame.ite ?_ ?_
    · refine OutFrame.next ?_
      refine ChangesOnly.step (enterBallast_fr _) (by decide) ?_
      refine ChangesOnly.step (upPwr_fr _ _) (by decide) ?_
      exact ChangesOnly.refl _ _
    · refine OutFrame.next ?_
      refine ChangesOnly.step (upPwr_fr _ _) (by decide) ?_
      exact ChangesOnly.refl _ _

theorem execBallastArmExpiry_fr (s : State) : OutFrame [.pwr] s (execBallastArmExpiry s) := by
  unfold execBallastArmExpiry
  try dsimp only
  refine OutFrame.ite ?_ ?_
  · refine OutFrame.next ?_
    refine ChangesOnly.step (endArming_fr _ _) (by decide) ?_
    exact ChangesOnly.refl _ _
  · refine OutFrame.next ?_
    exact ChangesOnly.refl _ _

theorem execMooredWake_fr (cause : Nat) (s : State) : OutFrame [.pwr] s (execMooredWake cause s) := by
  unfold execMooredWake
  try dsimp only
  refine OutFrame.ite ?_ ?_
  · refine OutFrame.next ?_
    exact ChangesOnly.refl _ _
  · split
    · refine OutFrame.ite ?_ ?_
      · refine OutFrame.next ?_
        refine ChangesOnly.step (wake_fr _) (by decide) ?_
        refine ChangesOnly.step (upPwr_fr _ _) (by decide) ?_
        exact ChangesOnly.refl _ _
      · refine OutFrame.next ?_
        exact ChangesOnly.refl _ _
    · refine OutFrame.next ?_
      refine ChangesOnly.step (wake_fr _) (by decide) ?_
      exact ChangesOnly.refl _ _
    · refine OutFrame.ite ?_ ?_
      · refine OutFrame.next ?_
        refine ChangesOnly.step (wake_fr _) (by decide) ?_
        exact ChangesOnly.refl _ _
      · refine OutFrame.next ?_
        exact ChangesOnly.refl _ _
    · refine OutFrame.ite ?_ ?_
      · refine OutFrame.next ?_
        refine ChangesOnly.step (wake_fr _) (by decide) ?_
        exact ChangesOnly.refl _ _
      · refine OutFrame.next ?_
        exact ChangesOnly.refl _ _
    · refine OutFrame.next ?_
      exact ChangesOnly.refl _ _

theorem ballastExit_fr (s : State) : ChangesOnly [.pwr] s (ballastExit s) := by
  unfold ballastExit
  try dsimp only
  refine ChangesOnly.step (upPwr_fr _ _) (by decide) ?_
  exact ChangesOnly.refl _ _

theorem execWakeNAssert_fr (s : State) : OutFrame [.pwr] s (execWakeNAssert s) := by
  unfold execWakeNAssert
  try dsimp only
  refine OutFrame.ite ?_ ?_
  · refine OutFrame.next ?_
    exact ChangesOnly.refl _ _
  · refine OutFrame.ite ?_ ?_
    · refine OutFrame.next ?_
      refine ChangesOnly.step (ballastExit_fr _) (by decide) ?_
      refine ChangesOnly.step (upPwr_fr _ _) (by decide) ?_
      refine ChangesOnly.step (upPwr_fr _ _) (by decide) ?_
      exact ChangesOnly.refl _ _
    · refine OutFrame.next ?_
      refine ChangesOnly.step (upPwr_fr _ _) (by decide) ?_
      exact ChangesOnly.refl _ _

theorem execWakeStuck_fr (s : State) : OutFrame [.pwr, .flt] s (execWakeStuck s) := by
  unfold execWakeStuck
  try dsimp only
  refine OutFrame.ite ?_ ?_
  · refine OutFrame.next ?_
    exact ChangesOnly.refl _ _
  · refine OutFrame.next ?_
    refine ChangesOnly.step (raise_fr _ _) (by decide) ?_
    refine ChangesOnly.step (upPwr_fr _ _) (by decide) ?_
    exact ChangesOnly.refl _ _

theorem execWakeNRelease_fr (s : State) : OutFrame [.pwr] s (execWakeNRelease s) := by
  unfold execWakeNRelease
  try dsimp only
  refine OutFrame.ite ?_ ?_
  · refine OutFrame.next ?_
    exact ChangesOnly.refl _ _
  · refine OutFrame.next ?_
    refine ChangesOnly.step (upPwr_fr _ _) (by decide) ?_
    exact ChangesOnly.refl _ _

theorem execBrownOut_fr (s : State) : OutFrame [.pwr, .flt] s (execBrownOut s) := by
  unfold execBrownOut
  try dsimp only
  refine OutFrame.ite ?_ ?_
  · refine OutFrame.ite ?_ ?_
    · refine OutFrame.next ?_
      refine ChangesOnly.step (raise_fr _ _) (by decide) ?_
      refine ChangesOnly.step (upPwr_fr _ _) (by decide) ?_
      exact ChangesOnly.refl _ _
    · refine OutFrame.next ?_
      refine ChangesOnly.step (ballastExit_fr _) (by decide) ?_
      refine ChangesOnly.step (upPwr_fr _ _) (by decide) ?_
      refine ChangesOnly.step (raise_fr _ _) (by decide) ?_
      refine ChangesOnly.step (upPwr_fr _ _) (by decide) ?_
      exact ChangesOnly.refl _ _
  · refine OutFrame.next ?_
    refine ChangesOnly.step (raise_fr _ _) (by decide) ?_
    exact ChangesOnly.refl _ _

theorem execInputGlitch_fr (input : FilteredInput) (s : State) : OutFrame [.pwr] s (execInputGlitch input s) := by
  unfold execInputGlitch
  try dsimp only
  refine OutFrame.next ?_
  refine ChangesOnly.step (upPwr_fr _ _) (by decide) ?_
  exact ChangesOnly.refl _ _

theorem execFpRdyInChange_fr (level : Bool) (s : State) : OutFrame [.pwr, .glb, .tsk] s (execFpRdyInChange level s) := by
  unfold execFpRdyInChange
  try dsimp only
  refine OutFrame.next ?_
  refine ChangesOnly.step (fpPump_fr _) (by decide) ?_
  refine ChangesOnly.step (upPwr_fr _ _) (by decide) ?_
  exact ChangesOnly.refl _ _

theorem execFpRxdWake_fr (s : State) : OutFrame [.pwr] s (execFpRxdWake s) := by
  unfold execFpRxdWake
  try dsimp only
  refine OutFrame.ite ?_ ?_
  · refine OutFrame.next ?_
    refine ChangesOnly.step (wake_fr _) (by decide) ?_
    exact ChangesOnly.refl _ _
  · refine OutFrame.next ?_
    exact ChangesOnly.refl _ _

theorem execBallastExit_fr (s : State) : OutFrame [.pwr, .glb, .hst, .tsk] s (execBallastExit s) := by
  unfold execBallastExit
  try dsimp only
  refine OutFrame.ite ?_ ?_
  · refine OutFrame.next ?_
    exact ChangesOnly.refl _ _
  · refine OutFrame.ite ?_ ?_
    · refine OutFrame.next ?_
      refine ChangesOnly.step (ballastExit_fr _) (by decide) ?_
      refine ChangesOnly.step (tapFollow_fr _) (by decide) ?_
      refine ChangesOnly.step (upPwr_fr _ _) (by decide) ?_
      refine ChangesOnly.step (upGlb_fr _ _) (by decide) ?_
      refine ChangesOnly.step (dropQueues_fr _) (by decide) ?_
      refine ChangesOnly.step (hostDown_fr _) (by decide) ?_
      exact ChangesOnly.refl _ _
    · refine OutFrame.next ?_
      refine ChangesOnly.step (tapFollow_fr _) (by decide) ?_
      refine ChangesOnly.step (upPwr_fr _ _) (by decide) ?_
      refine ChangesOnly.step (upGlb_fr _ _) (by decide) ?_
      refine ChangesOnly.step (dropQueues_fr _) (by decide) ?_
      refine ChangesOnly.step (hostDown_fr _) (by decide) ?_
      exact ChangesOnly.refl _ _


/-! ### Security -/

theorem execKeyImport_fr (tag : Nat) (host : HostRead) (s : State) : OutFrame [.hst, .tsk, .med, .drc, .cmp, .sec, .pair, .hostMem, .arena, .free] s (execKeyImport tag host s) := by
  unfold execKeyImport
  try dsimp only
  split
  · refine OutFrame.next ?_
    exact ChangesOnly.refl _ _
  · split
    · refine OutFrame.next ?_
      exact ChangesOnly.refl _ _
    · refine OutFrame.next ?_
      refine ChangesOnly.step (finish_fr _ _ _) (by decide) ?_
      refine ChangesOnly.step (abandon_fr _ _) (by decide) ?_
      exact ChangesOnly.refl _ _
    · split
      · refine OutFrame.next ?_
        refine ChangesOnly.step (finish_fr _ _ _) (by decide) ?_
        exact ChangesOnly.refl _ _
      · refine OutFrame.ite ?_ ?_
        · refine OutFrame.next ?_
          refine ChangesOnly.step (finish_fr _ _ _) (by decide) ?_
          refine ChangesOnly.step (extendMs_fr _ _ _) (by decide) ?_
          refine ChangesOnly.step (putKey_fr _ _) (by decide) ?_
          refine ChangesOnly.step (freshKey_fr _) (by decide) ?_
          exact ChangesOnly.refl _ _
        · refine OutFrame.next ?_
          refine ChangesOnly.step (finish_fr _ _ _) (by decide) ?_
          refine ChangesOnly.step (extendMs_fr _ _ _) (by decide) ?_
          refine ChangesOnly.step (upSec_fr _ _) (by decide) ?_
          exact ChangesOnly.refl _ _

theorem execKeyDestroy_fr (tag : Nat) (s : State) : OutFrame [.tsk, .sec] s (execKeyDestroy tag s) := by
  unfold execKeyDestroy
  try dsimp only
  split
  · refine OutFrame.next ?_
    exact ChangesOnly.refl _ _
  · refine OutFrame.ite ?_ ?_
    · refine OutFrame.next ?_
      refine ChangesOnly.step (finish_fr _ _ _) (by decide) ?_
      refine ChangesOnly.step (extendMs_fr _ _ _) (by decide) ?_
      refine ChangesOnly.step (upSec_fr _ _) (by decide) ?_
      exact ChangesOnly.refl _ _
    · refine OutFrame.next ?_
      refine ChangesOnly.step (finish_fr _ _ _) (by decide) ?_
      refine ChangesOnly.step (extendMs_fr _ _ _) (by decide) ?_
      refine ChangesOnly.step (upSec_fr _ _) (by decide) ?_
      exact ChangesOnly.refl _ _

theorem execExtend_fr (tag : Nat) (host : HostRead) (s : State) : OutFrame [.hst, .tsk, .med, .drc, .cmp, .sec, .pair, .hostMem, .arena, .free] s (execExtend tag host s) := by
  unfold execExtend
  try dsimp only
  split
  · refine OutFrame.next ?_
    exact ChangesOnly.refl _ _
  · refine OutFrame.ite ?_ ?_
    · refine OutFrame.next ?_
      exact ChangesOnly.refl _ _
    · split
      · refine OutFrame.next ?_
        exact ChangesOnly.refl _ _
      · refine OutFrame.next ?_
        refine ChangesOnly.step (finish_fr _ _ _) (by decide) ?_
        refine ChangesOnly.step (abandon_fr _ _) (by decide) ?_
        exact ChangesOnly.refl _ _
      · refine OutFrame.next ?_
        refine ChangesOnly.step (finish_fr _ _ _) (by decide) ?_
        refine ChangesOnly.step (extendMs_fr _ _ _) (by decide) ?_
        exact ChangesOnly.refl _ _

theorem execAttest_fr (tag : Nat) (host : HostRead) (s : State) : OutFrame [.hst, .tsk, .med, .drc, .cmp, .sec, .pair, .hostMem, .arena, .free] s (execAttest tag host s) := by
  unfold execAttest
  try dsimp only
  split
  · refine OutFrame.next ?_
    exact ChangesOnly.refl _ _
  · refine OutFrame.ite ?_ ?_
    · refine OutFrame.next ?_
      refine ChangesOnly.step (cryptEnds_fr _ _) (by decide) ?_
      exact ChangesOnly.refl _ _
    · refine OutFrame.ite ?_ ?_
      · refine OutFrame.next ?_
        exact ChangesOnly.refl _ _
      · split
        · refine OutFrame.next ?_
          exact ChangesOnly.refl _ _
        · refine OutFrame.next ?_
          refine ChangesOnly.step (finish_fr _ _ _) (by decide) ?_
          refine ChangesOnly.step (abandon_fr _ _) (by decide) ?_
          exact ChangesOnly.refl _ _
        · refine OutFrame.ite ?_ ?_
          · refine OutFrame.next ?_
            refine ChangesOnly.step (finish_fr _ _ _) (by decide) ?_
            refine ChangesOnly.step (spoil_fr _ _) (by decide) ?_
            exact ChangesOnly.refl _ _
          · refine OutFrame.next ?_
            refine ChangesOnly.step (finish_fr _ _ _) (by decide) ?_
            refine ChangesOnly.step (deliverAddr_fr _ _ _) (by decide) ?_
            refine ChangesOnly.step (freeBytes_fr _ _) (by decide) ?_
            exact ChangesOnly.refl _ _

theorem testsEnd_fr (s : State) (sel : Nat) (failed : Nat) : ChangesOnly [.flt, .glb, .tsk, .kite, .sec] s (testsEnd s sel failed) := by
  unfold testsEnd
  try dsimp only
  refine ChangesOnly.ite ?_ ?_
  · refine ChangesOnly.foldl (fun _ _ => ?_) ?_
    · refine ChangesOnly.ite ?_ ?_
      · refine ChangesOnly.step (raise_fr _ _) (by decide) ?_
        exact ChangesOnly.refl _ _
      · exact ChangesOnly.refl _ _
    · refine ChangesOnly.step (upSec_fr _ _) (by decide) ?_
      exact ChangesOnly.refl _ _
  · refine ChangesOnly.step (enterError_fr _) (by decide) ?_
    refine ChangesOnly.foldl (fun _ _ => ?_) ?_
    · refine ChangesOnly.ite ?_ ?_
      · refine ChangesOnly.step (raise_fr _ _) (by decide) ?_
        exact ChangesOnly.refl _ _
      · exact ChangesOnly.refl _ _
    · refine ChangesOnly.step (upSec_fr _ _) (by decide) ?_
      exact ChangesOnly.refl _ _

theorem execSelfTest_fr (tag : Nat) (failed : Nat) (s : State) : OutFrame [.flt, .glb, .tsk, .kite, .sec] s (execSelfTest tag failed s) := by
  unfold execSelfTest
  try dsimp only
  split
  · refine OutFrame.next ?_
    exact ChangesOnly.refl _ _
  · refine OutFrame.ite ?_ ?_
    · refine OutFrame.next ?_
      refine ChangesOnly.step (running_fr _ _) (by decide) ?_
      exact ChangesOnly.refl _ _
    · refine OutFrame.next ?_
      refine ChangesOnly.step (finish_fr _ _ _) (by decide) ?_
      refine ChangesOnly.step (testsEnd_fr _ _ _) (by decide) ?_
      exact ChangesOnly.refl _ _

theorem execPeriodicSelftest_fr (failed : Nat) (s : State) : OutFrame [.flt, .glb, .tsk, .kite, .sec] s (execPeriodicSelftest failed s) := by
  unfold execPeriodicSelftest
  try dsimp only
  refine OutFrame.ite ?_ ?_
  · refine OutFrame.next ?_
    refine ChangesOnly.step (testsEnd_fr _ _ _) (by decide) ?_
    exact ChangesOnly.refl _ _
  · refine OutFrame.next ?_
    exact ChangesOnly.refl _ _

theorem execSecurityAlarm_fr (cause : Nat) (s : State) : OutFrame [.flt, .tsk, .kite, .sec] s (execSecurityAlarm cause s) := by
  unfold execSecurityAlarm
  try dsimp only
  refine OutFrame.ite ?_ ?_
  · refine OutFrame.next ?_
    exact ChangesOnly.refl _ _
  · refine OutFrame.next ?_
    refine ChangesOnly.step (raise_fr _ _) (by decide) ?_
    refine ChangesOnly.step (zeroise_fr _ _) (by decide) ?_
    refine ChangesOnly.step (upSec_fr _ _) (by decide) ?_
    exact ChangesOnly.refl _ _

theorem execLinkRekey_fr (link : Nat) (s : State) : OutFrame [.sec] s (execLinkRekey link s) := by
  unfold execLinkRekey
  try dsimp only
  refine OutFrame.next ?_
  refine ChangesOnly.step (upSec_fr _ _) (by decide) ?_
  exact ChangesOnly.refl _ _

theorem execSanitise_fr (tag : Nat) (s : State) : OutFrame [.tsk] s (execSanitise tag s) := by
  unfold execSanitise
  try dsimp only
  split
  · refine OutFrame.next ?_
    exact ChangesOnly.refl _ _
  · refine OutFrame.next ?_
    refine ChangesOnly.step (running_fr _ _) (by decide) ?_
    exact ChangesOnly.refl _ _

theorem renewKeys_fr (s : State) (l : List (Nat × Machine.Volume)) : ChangesOnly [.med, .sec] s (renewKeys s l) := by
  unfold renewKeys
  try dsimp only
  refine ChangesOnly.foldl (fun _ _ => ?_) ?_
  · refine ChangesOnly.step (volMod_fr _ _ _) (by decide) ?_
    refine ChangesOnly.step (putKey_fr _ _) (by decide) ?_
    refine ChangesOnly.step (freshKey_fr _) (by decide) ?_
    exact ChangesOnly.refl _ _
  · exact ChangesOnly.refl _ _

theorem keyStep_fr (s : State) : ChangesOnly [.med, .sec, .pair, .mesh, .free] s (keyStep s) := by
  unfold keyStep
  try dsimp only
  refine ChangesOnly.step (releaseMirror_fr _) (by decide) ?_
  refine ChangesOnly.step (journalMany_fr _ _) (by decide) ?_
  refine ChangesOnly.step (upMed_fr _ _) (by decide) ?_
  refine ChangesOnly.step (freshKey_fr _) (by decide) ?_
  refine ChangesOnly.step (freshKey_fr _) (by decide) ?_
  refine ChangesOnly.step (renewKeys_fr _ _) (by decide) ?_
  refine ChangesOnly.step (upSec_fr _ _) (by decide) ?_
  exact ChangesOnly.refl _ _

theorem endSanitise_fr (s : State) : ChangesOnly [.tsk, .med] s (endSanitise s) := by
  unfold endSanitise
  try dsimp only
  refine ChangesOnly.foldl (fun _ _ => ?_) ?_
  · refine ChangesOnly.step (postEvent_fr _ _ _ _ _) (by decide) ?_
    refine ChangesOnly.step (volMod_fr _ _ _) (by decide) ?_
    exact ChangesOnly.refl _ _
  · refine ChangesOnly.step (postEvent_fr _ _ _ _ _) (by decide) ?_
    refine ChangesOnly.step (upMed_fr _ _) (by decide) ?_
    exact ChangesOnly.refl _ _

theorem sanitiseKeys_fr (s : State) : ChangesOnly [.tsk, .med, .sec, .pair, .mesh, .free] s (sanitiseKeys s) := by
  unfold sanitiseKeys
  try dsimp only
  refine ChangesOnly.ite ?_ ?_
  · refine ChangesOnly.step (endSanitise_fr _) (by decide) ?_
    refine ChangesOnly.step (upMed_fr _ _) (by decide) ?_
    refine ChangesOnly.step (keyStep_fr _) (by decide) ?_
    exact ChangesOnly.refl _ _
  · refine ChangesOnly.step (upMed_fr _ _) (by decide) ?_
    refine ChangesOnly.step (keyStep_fr _) (by decide) ?_
    exact ChangesOnly.refl _ _

theorem execSanitiseStart_fr (s : State) : OutFrame [.flt, .tsk, .med, .sec, .pair, .mesh, .free] s (execSanitiseStart s) := by
  unfold execSanitiseStart
  try dsimp only
  split
  · refine OutFrame.next ?_
    exact ChangesOnly.refl _ _
  · refine OutFrame.ite ?_ ?_
    · refine OutFrame.next ?_
      exact ChangesOnly.refl _ _
    · refine OutFrame.next ?_
      refine ChangesOnly.step (sanitiseKeys_fr _) (by decide) ?_
      refine ChangesOnly.step (finish_fr _ _ _) (by decide) ?_
      refine ChangesOnly.step (upMed_fr _ _) (by decide) ?_
      refine ChangesOnly.ite ?_ ?_
      · refine ChangesOnly.step (blankPjm_fr _ _) (by decide) ?_
        exact ChangesOnly.refl _ _
      · exact ChangesOnly.refl _ _

theorem eraseSpares_fr (s : State) (failed : List (Nat × Nat)) (n : Nat) : ChangesOnly [.flt, .tsk, .med] s (eraseSpares s failed n) := by
  unfold eraseSpares
  try dsimp only
  refine ChangesOnly.foldl (fun _ _ => ?_) ?_
  · refine ChangesOnly.step (retireBlock_fr _ _) (by decide) ?_
    exact ChangesOnly.refl _ _
  · refine ChangesOnly.step (upMed_fr _ _) (by decide) ?_
    exact ChangesOnly.refl _ _

theorem sanitiseUnit_fr (s : State) (failed : List (Nat × Nat)) : ChangesOnly [.flt, .tsk, .med, .sec, .pair, .mesh, .free] s (sanitiseUnit s failed) := by
  unfold sanitiseUnit
  try dsimp only
  refine ChangesOnly.ite ?_ ?_
  · refine ChangesOnly.step (endSanitise_fr _) (by decide) ?_
    refine ChangesOnly.step (upMed_fr _ _) (by decide) ?_
    split
    · split
      · exact ChangesOnly.refl _ _
      · refine ChangesOnly.ite ?_ ?_
        · exact ChangesOnly.refl _ _
        · refine ChangesOnly.step (eraseBand_fr _ _ _ _ _) (by decide) ?_
          exact ChangesOnly.refl _ _
    · refine ChangesOnly.step (eraseSpares_fr _ _ _) (by decide) ?_
      exact ChangesOnly.refl _ _
  · refine ChangesOnly.step (upMed_fr _ _) (by decide) ?_
    split
    · split
      · exact ChangesOnly.refl _ _
      · refine ChangesOnly.ite ?_ ?_
        · exact ChangesOnly.refl _ _
        · refine ChangesOnly.step (eraseBand_fr _ _ _ _ _) (by decide) ?_
          exact ChangesOnly.refl _ _
    · refine ChangesOnly.step (eraseSpares_fr _ _ _) (by decide) ?_
      exact ChangesOnly.refl _ _

theorem execSanitiseUnitDone_fr (failed : List (Nat × Nat)) (s : State) : OutFrame [.flt, .tsk, .med, .sec, .pair, .mesh, .free] s (execSanitiseUnitDone failed s) := by
  unfold execSanitiseUnitDone
  try dsimp only
  refine OutFrame.ite ?_ ?_
  · refine OutFrame.next ?_
    exact ChangesOnly.refl _ _
  · refine OutFrame.ite ?_ ?_
    · refine OutFrame.ite ?_ ?_
      · refine OutFrame.next ?_
        exact ChangesOnly.refl _ _
      · refine OutFrame.ite ?_ ?_
        · refine OutFrame.next ?_
          refine ChangesOnly.step (sanitiseUnit_fr _ _) (by decide) ?_
          exact ChangesOnly.refl _ _
        · refine OutFrame.next ?_
          refine ChangesOnly.step (sanitiseKeys_fr _) (by decide) ?_
          exact ChangesOnly.refl _ _
    · refine OutFrame.ite ?_ ?_
      · split
        · refine OutFrame.next ?_
          refine ChangesOnly.step (endFormat_fr _) (by decide) ?_
          exact ChangesOnly.refl _ _
        · refine OutFrame.next ?_
          refine ChangesOnly.ite ?_ ?_
          · refine ChangesOnly.step (endFormat_fr _) (by decide) ?_
            refine ChangesOnly.step (upMed_fr _ _) (by decide) ?_
            refine ChangesOnly.step (walkBand_fr _ _) (by decide) ?_
            exact ChangesOnly.refl _ _
          · refine ChangesOnly.step (upMed_fr _ _) (by decide) ?_
            refine ChangesOnly.step (walkBand_fr _ _) (by decide) ?_
            exact ChangesOnly.refl _ _
      · refine OutFrame.next ?_
        exact ChangesOnly.refl _ _

theorem execSanitiseStatus_fr (tag : Nat) (s : State) : OutFrame [.tsk] s (execSanitiseStatus tag s) := by
  unfold execSanitiseStatus
  try dsimp only
  split
  · refine OutFrame.next ?_
    exact ChangesOnly.refl _ _
  · refine OutFrame.next ?_
    refine ChangesOnly.step (finish_fr _ _ _) (by decide) ?_
    exact ChangesOnly.refl _ _


/-! ### Tick -/

theorem tickMs_fr (s : State) : ChangesOnly [.pwr, .flt, .glb, .kite, .mesh] s (tickMs s) := by
  unfold tickMs
  try dsimp only
  exact ⟨rfl, fun p hp => by cases p <;> first | rfl | exact absurd hp (by decide)⟩

theorem tickAges_fr (s : State) : ChangesOnly [.sec, .hlt] s (tickAges s) := by
  unfold tickAges
  try dsimp only
  exact ⟨rfl, fun p hp => by cases p <;> first | rfl | exact absurd hp (by decide)⟩

theorem tick_fr (s : State) : ChangesOnly [.pwr, .flt, .glb, .kite, .sec, .hlt, .mesh] s (tick s) := by
  unfold tick
  try dsimp only
  refine ChangesOnly.ite ?_ ?_
  · exact ChangesOnly.refl _ _
  · refine ChangesOnly.ite ?_ ?_
    · refine ChangesOnly.step (tickAges_fr _) (by decide) ?_
      refine ChangesOnly.step (thermalStep_fr _) (by decide) ?_
      refine ChangesOnly.step (tickMs_fr _) (by decide) ?_
      exact ChangesOnly.refl _ _
    · refine ChangesOnly.step (thermalStep_fr _) (by decide) ?_
      refine ChangesOnly.step (tickMs_fr _) (by decide) ?_
      exact ChangesOnly.refl _ _


end Sys2Proof.Machine
end

