-- ==== Sys2Proof/Laws/Memory.lean ====
section
/-! SUPPORT. The memory operations keep the canonical forms. -/

namespace Sys2Proof.Machine
open Sys2Proof

theorem rising_iff (m : List Host.Cell) : Memory.rising m = true ↔ m.Pairwise (fun a b => a.1 < b.1) := by
  induction m with
  | nil => simp [Memory.rising]
  | cons c rest ih => simp [Memory.rising, ih]

theorem wf_iff (m : List Host.Cell) :
    Memory.wf m = true ↔ m.Pairwise (fun a b => a.1 < b.1) ∧ ∀ c ∈ m, c.2 ≠ 0 := by
  induction m with
  | nil => simp [Memory.wf]
  | cons c rest ih =>
    simp only [Memory.wf, Bool.and_eq_true, ih, List.pairwise_cons, List.all_eq_true, decide_eq_true_eq, bne_iff_ne,
      List.forall_mem_cons]
    exact ⟨fun ⟨⟨a, b⟩, c, d⟩ => ⟨⟨b, c⟩, a, d⟩, fun ⟨⟨b, c⟩, a, d⟩ => ⟨⟨a, b⟩, c, d⟩⟩

theorem cellsOf_mem (a : Nat) (b : List Byte) (c : Host.Cell) (h : c ∈ cellsOf a b) : a ≤ c.1 ∧ c.1 < a + b.length := by
  induction b generalizing a with
  | nil => simp [cellsOf] at h
  | cons x xs ih =>
    simp only [cellsOf, List.mem_cons] at h
    rcases h with rfl | h
    · simp
    · have := ih (a + 1) h
      simp only [List.length_cons]
      omega

theorem cellsOf_rising (a : Nat) (b : List Byte) : (cellsOf a b).Pairwise (fun x y => x.1 < y.1) := by
  induction b generalizing a with
  | nil => exact .nil
  | cons x xs ih =>
    refine List.pairwise_cons.2 ⟨fun c hc => ?_, ih (a + 1)⟩
    have := cellsOf_mem (a + 1) xs c hc
    simp only
    omega

theorem pieces_rising (m n : List Host.Cell) (a k : Nat) (hm : m.Pairwise (fun x y => x.1 < y.1))
    (hn : n.Pairwise (fun x y => x.1 < y.1)) (h : ∀ c ∈ n, a ≤ c.1 ∧ c.1 < a + k) :
    (m.filter (fun c => decide (c.1 < a)) ++ n ++ m.filter (fun c => decide (a + k ≤ c.1))).Pairwise (fun x y => x.1 < y.1) := by
  rw [List.append_assoc, List.pairwise_append, List.pairwise_append]
  refine ⟨hm.filter _, ⟨hn, hm.filter _, fun x hx y hy => ?_⟩, fun x hx y hy => ?_⟩
  · have := h x hx
    have := (List.mem_filter.1 hy).2
    simp at this
    omega
  · have hx' := (List.mem_filter.1 hx).2
    simp at hx'
    rcases List.mem_append.1 hy with hy | hy
    · have := h y hy
      omega
    · have := (List.mem_filter.1 hy).2
      simp at this
      omega

/-- A write to a memory that lists every written byte keeps its addresses rising. -/
theorem storeAll_rising (m : List Host.Cell) (a : Nat) (b : List Byte) (h : Memory.rising m = true) :
    Memory.rising (storeAll m a b) = true := by
  rw [rising_iff] at *
  exact pieces_rising m _ a b.length h (cellsOf_rising a b) (cellsOf_mem a b)

/-- A write to a memory whose unlisted bytes read zero keeps the canonical form. -/
theorem storeNonzero_wf (m : List Host.Cell) (a : Nat) (b : List Byte) (h : Memory.wf m = true) :
    Memory.wf (storeNonzero m a b) = true := by
  rw [wf_iff] at *
  refine ⟨pieces_rising m _ a b.length h.1 ((cellsOf_rising a b).filter _)
    (fun c hc => cellsOf_mem a b c (List.mem_filter.1 hc).1), fun c hc => ?_⟩
  simp only [storeNonzero, List.mem_append, List.mem_filter, bne_iff_ne] at hc
  rcases hc with (hc | hc) | hc
  · exact h.2 c hc.1
  · exact hc.2
  · exact h.2 c hc.1

/-- Writes of a fragment stream keep the addresses rising. -/
theorem writeFrags_rising (m : List Host.Cell) (l : List (Nat × Nat)) (off : Nat) (b : List Byte) (h : Memory.rising m = true) :
    Memory.rising (writeFrags m l off b) = true := by
  induction l generalizing m off b with
  | nil => exact h
  | cons x xs ih =>
    obtain ⟨a, n⟩ := x
    unfold writeFrags
    split
    · exact ih _ _ _ h
    · dsimp only
      split
      · exact ih _ _ _ h
      · exact ih _ _ _ (storeAll_rising _ _ _ h)

end Sys2Proof.Machine
end

