-- ==== Sys2Proof/Laws/Invariant.lean ====
section
/-! SUPPORT. Every operation that writes a memory keeps the invariant. -/

namespace Sys2Proof.Machine
open Sys2Proof

/-- A change of the state keeps the invariant. -/
def Kept (s t : State) : Prop := Inv s → Inv t
/-- Every next state of an outcome keeps the invariant. -/
def OutKept (s : State) (x : Out) : Prop := ∀ t, x = .next t → Kept s t
/-- A state that may be absent keeps the invariant. -/
def OptKept (s : State) (x : Option State) : Prop := ∀ t, x = some t → Kept s t
theorem Kept.refl (s : State) : Kept s s := id
theorem Kept.trans {s t u : State} (h : Kept s t) (k : Kept t u) : Kept s u := fun i => k (h i)
theorem Kept.ite {s a b} {c : Prop} [Decidable c] (h : Kept s a) (k : Kept s b) : Kept s (if c then a else b) := by split <;> assumption
theorem Kept.foldl {α : Type} {s u : State} {f : State → α → State} {l : List α} (k : ∀ a x, Kept a (f a x)) (h : Kept s u) : Kept s (l.foldl f u) := by
  induction l generalizing u with
  | nil => exact h
  | cons x xs ih => exact ih (h.trans (k u x))
theorem Kept.of2 {α : Type} {u t} {x : α × State} {a : α} (h : Kept u x.2) (e : x = (a, t)) : Kept u t := by subst e; exact h
theorem Kept.of1 {α : Type} {u t} {x : State × α} {a : α} (h : Kept u x.1) (e : x = (t, a)) : Kept u t := by subst e; exact h
/-- What touches neither memory keeps the invariant. -/
theorem ChangesOnly.keptInv {ps : List Part} {s t : State} (h : ChangesOnly ps s t) (k : (ps.contains .arena || ps.contains .hostMem) = false) : Kept s t := by
  simp only [Bool.or_eq_false_iff, List.contains_eq_mem, decide_eq_false_iff_not] at k
  have a := h.2 .arena k.1
  have b := h.2 .hostMem k.2
  simp only [Part.kept] at a b
  intro i
  exact ⟨a ▸ i.1, b ▸ i.2⟩
theorem OutFrame.keptInv {ps : List Part} {s : State} {x : Out} (h : OutFrame ps s x) (k : (ps.contains .arena || ps.contains .hostMem) = false) : OutKept s x :=
  fun t e => (h t e).keptInv k
theorem OptFrame.keptInv {ps : List Part} {s : State} {x : Option State} (h : OptFrame ps s x) (k : (ps.contains .arena || ps.contains .hostMem) = false) : OptKept s x :=
  fun t e => (h t e).keptInv k
theorem OutKept.next {s t} (h : Kept s t) : OutKept s (.next t) := by intro u e; cases e; exact h
theorem OutKept.ite {s a b} {c : Prop} [Decidable c] (h : OutKept s a) (k : OutKept s b) : OutKept s (if c then a else b) := by split <;> assumption
theorem OutKept.trans {s u} {x : Out} (h : Kept s u) (k : OutKept u x) : OutKept s x := fun t e => h.trans (k t e)
theorem OptKept.some {s t} (h : Kept s t) : OptKept s (some t) := by intro u e; cases e; exact h
theorem OptKept.none {s} : OptKept s none := by intro u e; cases e
theorem OptKept.ite {s a b} {c : Prop} [Decidable c] (h : OptKept s a) (k : OptKept s b) : OptKept s (if c then a else b) := by split <;> assumption
theorem OptKept.trans {s u} {x : Option State} (h : Kept s u) (k : OptKept u x) : OptKept s x := fun t e => h.trans (k t e)
theorem OptKept.of {s x t} (h : OptKept s x) (e : x = Option.some t) : Kept s t := h t e
theorem OptKept.getD {s x u} (h : OptKept s x) (k : Kept s u) : Kept s (x.getD u) := by
  cases x with
  | none => exact k
  | some t => exact h t rfl
theorem Kept.storeArena {s u : State} {a : Nat} {b : List Byte} (h : Kept s u) : Kept s { u with arena := storeNonzero u.arena a b } :=
  fun i => ⟨storeNonzero_wf _ _ _ (h i).1, (h i).2⟩
theorem Kept.clearArena {s u : State} (k : Kept s u) : Kept s { u with arena := [] } := fun i => ⟨rfl, (k i).2⟩
theorem Kept.storeHost {s u : State} {a : Nat} {b : List Byte} (h : Kept s u) : Kept s { u with hostMem := storeAll u.hostMem a b } :=
  fun i => ⟨(h i).1, storeAll_rising _ _ _ (h i).2⟩
theorem Kept.writeHost {s u : State} {l : List (Nat × Nat)} {a : Nat} {b : List Byte} (h : Kept s u) : Kept s { u with hostMem := writeFrags u.hostMem l a b } :=
  fun i => ⟨(h i).1, writeFrags_rising _ _ _ _ (h i).2⟩

theorem arenaWrite_wf (s : State) (a : Nat) (b : List Byte) : Kept s (arenaWrite s a b) := by
  unfold arenaWrite
  try dsimp only
  refine Kept.ite ?_ ?_
  · first | refine Kept.storeArena ?_ | refine Kept.clearArena ?_
    exact Kept.refl _
  · refine Kept.trans ?_ (ChangesOnly.keptInv (upDrc_fr _ _) (by decide))
    first | refine Kept.storeArena ?_ | refine Kept.clearArena ?_
    exact Kept.refl _

theorem deliver_wf (s : State) (o : Machine.Op) (off : Nat) (b : List Byte) : Kept s (deliver s o off b) := by
  unfold deliver
  try dsimp only
  refine Kept.ite ?_ ?_
  · refine Kept.trans ?_ (ChangesOnly.keptInv (modOp_fr _ _ _) (by decide))
    exact Kept.refl _
  · refine Kept.ite ?_ ?_
    · exact Kept.refl _
    · refine Kept.trans ?_ (ChangesOnly.keptInv (issue_fr _ _) (by decide))
      first | refine Kept.storeHost ?_ | refine Kept.writeHost ?_
      exact Kept.refl _

theorem deliverAddr_wf (s : State) (o : Machine.Op) (b : List Byte) : Kept s (deliverAddr s o b) := by
  unfold deliverAddr
  try dsimp only
  refine Kept.ite ?_ ?_
  · refine Kept.trans ?_ (arenaWrite_wf _ _ _)
    exact Kept.refl _
  · refine Kept.ite ?_ ?_
    · refine Kept.trans ?_ (ChangesOnly.keptInv (modOp_fr _ _ _) (by decide))
      exact Kept.refl _
    · refine Kept.ite ?_ ?_
      · exact Kept.refl _
      · refine Kept.trans ?_ (ChangesOnly.keptInv (issue_fr _ _) (by decide))
        first | refine Kept.storeHost ?_ | refine Kept.writeHost ?_
        exact Kept.refl _

theorem spoil_wf (s : State) (o : Machine.Op) : Kept s (spoil s o) := by
  unfold spoil
  try dsimp only
  refine Kept.ite ?_ ?_
  · exact Kept.refl _
  · refine Kept.trans ?_ (deliverAddr_wf _ _ _)
    refine Kept.trans ?_ (ChangesOnly.keptInv (freeBytes_fr _ _) (by decide))
    exact Kept.refl _

theorem abandon_wf (s : State) (o : Machine.Op) : Kept s (abandon s o) := by
  unfold abandon
  try dsimp only
  refine Kept.trans ?_ (ChangesOnly.keptInv (flipBack_fr _ _) (by decide))
  refine Kept.ite ?_ ?_
  · refine Kept.trans ?_ (arenaWrite_wf _ _ _)
    refine Kept.trans ?_ (ChangesOnly.keptInv (freeBytes_fr _ _) (by decide))
    refine Kept.trans ?_ (ChangesOnly.keptInv (modOp_fr _ _ _) (by decide))
    refine Kept.ite ?_ ?_
    · refine Kept.trans ?_ (deliver_wf _ _ _ _)
      refine Kept.trans ?_ (ChangesOnly.keptInv (freeBytes_fr _ _) (by decide))
      refine Kept.trans ?_ (ChangesOnly.keptInv (failPart_fr _ _) (by decide))
      refine Kept.trans ?_ (ChangesOnly.keptInv (freeMirror_fr _ _) (by decide))
      refine Kept.trans ?_ (ChangesOnly.keptInv (upMed_fr _ _) (by decide))
      refine Kept.trans ?_ (ChangesOnly.keptInv (dropPipes_fr _ _) (by decide))
      refine Kept.trans ?_ (ChangesOnly.keptInv (releaseLock_fr _ _) (by decide))
      exact Kept.refl _
    · refine Kept.trans ?_ (ChangesOnly.keptInv (failPart_fr _ _) (by decide))
      refine Kept.trans ?_ (ChangesOnly.keptInv (freeMirror_fr _ _) (by decide))
      refine Kept.trans ?_ (ChangesOnly.keptInv (upMed_fr _ _) (by decide))
      refine Kept.trans ?_ (ChangesOnly.keptInv (dropPipes_fr _ _) (by decide))
      refine Kept.trans ?_ (ChangesOnly.keptInv (releaseLock_fr _ _) (by decide))
      exact Kept.refl _
  · refine Kept.ite ?_ ?_
    · refine Kept.trans ?_ (spoil_wf _ _)
      refine Kept.trans ?_ (ChangesOnly.keptInv (modOp_fr _ _ _) (by decide))
      refine Kept.ite ?_ ?_
      · refine Kept.trans ?_ (deliver_wf _ _ _ _)
        refine Kept.trans ?_ (ChangesOnly.keptInv (freeBytes_fr _ _) (by decide))
        refine Kept.trans ?_ (ChangesOnly.keptInv (failPart_fr _ _) (by decide))
        refine Kept.trans ?_ (ChangesOnly.keptInv (freeMirror_fr _ _) (by decide))
        refine Kept.trans ?_ (ChangesOnly.keptInv (upMed_fr _ _) (by decide))
        refine Kept.trans ?_ (ChangesOnly.keptInv (dropPipes_fr _ _) (by decide))
        refine Kept.trans ?_ (ChangesOnly.keptInv (releaseLock_fr _ _) (by decide))
        exact Kept.refl _
      · refine Kept.trans ?_ (ChangesOnly.keptInv (failPart_fr _ _) (by decide))
        refine Kept.trans ?_ (ChangesOnly.keptInv (freeMirror_fr _ _) (by decide))
        refine Kept.trans ?_ (ChangesOnly.keptInv (upMed_fr _ _) (by decide))
        refine Kept.trans ?_ (ChangesOnly.keptInv (dropPipes_fr _ _) (by decide))
        refine Kept.trans ?_ (ChangesOnly.keptInv (releaseLock_fr _ _) (by decide))
        exact Kept.refl _
    · refine Kept.trans ?_ (ChangesOnly.keptInv (modOp_fr _ _ _) (by decide))
      refine Kept.ite ?_ ?_
      · refine Kept.trans ?_ (deliver_wf _ _ _ _)
        refine Kept.trans ?_ (ChangesOnly.keptInv (freeBytes_fr _ _) (by decide))
        refine Kept.trans ?_ (ChangesOnly.keptInv (failPart_fr _ _) (by decide))
        refine Kept.trans ?_ (ChangesOnly.keptInv (freeMirror_fr _ _) (by decide))
        refine Kept.trans ?_ (ChangesOnly.keptInv (upMed_fr _ _) (by decide))
        refine Kept.trans ?_ (ChangesOnly.keptInv (dropPipes_fr _ _) (by decide))
        refine Kept.trans ?_ (ChangesOnly.keptInv (releaseLock_fr _ _) (by decide))
        exact Kept.refl _
      · refine Kept.trans ?_ (ChangesOnly.keptInv (failPart_fr _ _) (by decide))
        refine Kept.trans ?_ (ChangesOnly.keptInv (freeMirror_fr _ _) (by decide))
        refine Kept.trans ?_ (ChangesOnly.keptInv (upMed_fr _ _) (by decide))
        refine Kept.trans ?_ (ChangesOnly.keptInv (dropPipes_fr _ _) (by decide))
        refine Kept.trans ?_ (ChangesOnly.keptInv (releaseLock_fr _ _) (by decide))
        exact Kept.refl _

theorem failIncomplete_wf (s : State) : Kept s (failIncomplete s) := by
  unfold failIncomplete
  try dsimp only
  refine Kept.foldl (fun _ _ => ?_) ?_
  · refine Kept.trans ?_ (ChangesOnly.keptInv (settleRing_fr _ _) (by decide))
    exact Kept.refl _
  · refine Kept.trans ?_ (ChangesOnly.keptInv (upKite_fr _ _) (by decide))
    refine Kept.foldl (fun _ _ => ?_) ?_
    · refine Kept.trans ?_ (ChangesOnly.keptInv (endInst_fr _ _ _) (by decide))
      exact Kept.refl _
    · refine Kept.trans ?_ (ChangesOnly.keptInv (dropJoins_fr _) (by decide))
      refine Kept.trans ?_ (ChangesOnly.keptInv (dropPairing_fr _) (by decide))
      refine Kept.foldl (fun _ _ => ?_) ?_
      · refine Kept.trans ?_ (ChangesOnly.keptInv (finish_fr _ _ _) (by decide))
        refine Kept.trans ?_ (abandon_wf _ _)
        exact Kept.refl _
      · refine Kept.trans ?_ (ChangesOnly.keptInv (upGlb_fr _ _) (by decide))
        exact Kept.refl _

theorem dropCommands_wf (s : State) : Kept s (dropCommands s) := by
  unfold dropCommands
  try dsimp only
  refine Kept.trans ?_ (ChangesOnly.keptInv (upTsk_fr _ _) (by decide))
  refine Kept.trans ?_ (failIncomplete_wf _)
  exact Kept.refl _

theorem deviceReset_wf (s : State) (cause : Nat) : Kept s (deviceReset s cause) := by
  unfold deviceReset
  try dsimp only
  exact fun i => ⟨rfl, i.2⟩

theorem beginReset_wf (s : State) (cause : Nat) : Kept s (beginReset s cause) := by
  unfold beginReset
  try dsimp only
  refine Kept.ite ?_ ?_
  · refine Kept.trans ?_ (deviceReset_wf _ _)
    refine Kept.trans ?_ (ChangesOnly.keptInv (upFlt_fr _ _) (by decide))
    refine Kept.trans ?_ (ChangesOnly.keptInv (shadowQueue_fr _) (by decide))
    refine Kept.trans ?_ (dropCommands_wf _)
    refine Kept.ite ?_ ?_
    · refine Kept.trans ?_ (ChangesOnly.keptInv (sendT_fr _ _) (by decide))
      refine Kept.trans ?_ (ChangesOnly.keptInv (hostDown_fr _) (by decide))
      exact Kept.refl _
    · refine Kept.trans ?_ (ChangesOnly.keptInv (hostDown_fr _) (by decide))
      exact Kept.refl _
  · refine Kept.trans ?_ (ChangesOnly.keptInv (startDump_fr _ _) (by decide))
    refine Kept.trans ?_ (ChangesOnly.keptInv (upGlb_fr _ _) (by decide))
    refine Kept.trans ?_ (ChangesOnly.keptInv (upFlt_fr _ _) (by decide))
    refine Kept.trans ?_ (ChangesOnly.keptInv (shadowQueue_fr _) (by decide))
    refine Kept.trans ?_ (dropCommands_wf _)
    refine Kept.ite ?_ ?_
    · refine Kept.trans ?_ (ChangesOnly.keptInv (sendT_fr _ _) (by decide))
      refine Kept.trans ?_ (ChangesOnly.keptInv (hostDown_fr _) (by decide))
      exact Kept.refl _
    · refine Kept.trans ?_ (ChangesOnly.keptInv (hostDown_fr _) (by decide))
      exact Kept.refl _

theorem entryPhase_wf (s : State) (target : Nat) (phase : Nat) : Kept s (entryPhase s target phase) := by
  unfold entryPhase
  try dsimp only
  refine Kept.ite ?_ ?_
  · refine Kept.ite ?_ ?_
    · first | refine Kept.storeArena ?_ | refine Kept.clearArena ?_
      refine Kept.trans ?_ (ChangesOnly.keptInv (upWay_fr _ _) (by decide))
      exact Kept.refl _
    · refine Kept.ite ?_ ?_
      · refine Kept.trans ?_ (ChangesOnly.keptInv (upPwr_fr _ _) (by decide))
        exact Kept.refl _
      · exact Kept.refl _
  · split
    · refine Kept.trans ?_ (ChangesOnly.keptInv (upPwr_fr _ _) (by decide))
      exact Kept.refl _
    · refine Kept.trans ?_ (ChangesOnly.keptInv (upPwr_fr _ _) (by decide))
      exact Kept.refl _
    · refine Kept.foldl (fun _ _ => ?_) ?_
      · refine Kept.trans ?_ (ChangesOnly.keptInv (clusterOff_fr _ _) (by decide))
        exact Kept.refl _
      · exact Kept.refl _
    · refine Kept.trans ?_ (ChangesOnly.keptInv (flushAll_fr _) (by decide))
      exact Kept.refl _
    · refine Kept.trans ?_ (ChangesOnly.keptInv (upPwr_fr _ _) (by decide))
      exact Kept.refl _
    · exact Kept.refl _

theorem phaseEnd_wf (s : State) (t : Machine.Transition) (imageOk : Bool) (lost : List Nat) : Kept s (phaseEnd s t imageOk lost) := by
  unfold phaseEnd
  try dsimp only
  refine Kept.ite ?_ ?_
  · refine Kept.ite ?_ ?_
    · refine Kept.trans ?_ (deviceReset_wf _ _)
      exact Kept.refl _
    · refine Kept.ite ?_ ?_
      · refine Kept.trans ?_ (ChangesOnly.keptInv (reachMoored_fr _) (by decide))
        refine Kept.ite ?_ ?_
        · refine Kept.trans ?_ (ChangesOnly.keptInv (upPwr_fr _ _) (by decide))
          exact Kept.refl _
        · exact Kept.refl _
      · refine Kept.trans ?_ (ChangesOnly.keptInv (upPwr_fr _ _) (by decide))
        refine Kept.ite ?_ ?_
        · refine Kept.trans ?_ (ChangesOnly.keptInv (upPwr_fr _ _) (by decide))
          exact Kept.refl _
        · exact Kept.refl _
  · refine Kept.ite ?_ ?_
    · split
      · refine Kept.ite ?_ ?_
        · refine Kept.trans ?_ (ChangesOnly.keptInv (endAbort_fr _ _ _) (by decide))
          refine Kept.trans ?_ (ChangesOnly.keptInv (exitPhase_fr _ _ _) (by decide))
          exact Kept.refl _
        · refine Kept.trans ?_ (ChangesOnly.keptInv (upPwr_fr _ _) (by decide))
          refine Kept.trans ?_ (ChangesOnly.keptInv (exitPhase_fr _ _ _) (by decide))
          exact Kept.refl _
      · refine Kept.ite ?_ ?_
        · refine Kept.trans ?_ (ChangesOnly.keptInv (completeExit_fr _ _) (by decide))
          refine Kept.trans ?_ (ChangesOnly.keptInv (exitPhase_fr _ _ _) (by decide))
          exact Kept.refl _
        · refine Kept.trans ?_ (ChangesOnly.keptInv (upPwr_fr _ _) (by decide))
          refine Kept.trans ?_ (ChangesOnly.keptInv (exitPhase_fr _ _ _) (by decide))
          exact Kept.refl _
    · refine Kept.ite ?_ ?_
      · refine Kept.trans ?_ (ChangesOnly.keptInv (completeEntry_fr _ _) (by decide))
        refine Kept.trans ?_ (entryPhase_wf _ _ _)
        exact Kept.refl _
      · split
        · refine Kept.trans ?_ (ChangesOnly.keptInv (upPwr_fr _ _) (by decide))
          refine Kept.trans ?_ (entryPhase_wf _ _ _)
          exact Kept.refl _
        · refine Kept.ite ?_ ?_
          · refine Kept.trans ?_ (ChangesOnly.keptInv (upPwr_fr _ _) (by decide))
            refine Kept.trans ?_ (ChangesOnly.keptInv (upPwr_fr _ _) (by decide))
            refine Kept.trans ?_ (ChangesOnly.keptInv (powerRecord_fr _ _ _ _ _) (by decide))
            refine Kept.trans ?_ (ChangesOnly.keptInv (countRefuser_fr _ _ _) (by decide))
            refine Kept.trans ?_ (entryPhase_wf _ _ _)
            exact Kept.refl _
          · refine Kept.trans ?_ (ChangesOnly.keptInv (upPwr_fr _ _) (by decide))
            refine Kept.trans ?_ (entryPhase_wf _ _ _)
            exact Kept.refl _

theorem execActivationReset_wf (s : State) : OutKept s (execActivationReset s) := by
  unfold execActivationReset
  try dsimp only
  split
  · refine OutKept.next ?_
    exact Kept.refl _
  · refine OutKept.ite ?_ ?_
    · refine OutKept.next ?_
      exact Kept.refl _
    · refine OutKept.next ?_
      refine Kept.trans ?_ (beginReset_wf _ _)
      refine Kept.trans ?_ (ChangesOnly.keptInv (upGlb_fr _ _) (by decide))
      exact Kept.refl _

theorem execIdentify_wf (tag : Nat) (s : State) : OutKept s (execIdentify tag s) := by
  unfold execIdentify
  try dsimp only
  split
  · refine OutKept.next ?_
    exact Kept.refl _
  · refine OutKept.ite ?_ ?_
    · refine OutKept.next ?_
      exact Kept.refl _
    · refine OutKept.ite ?_ ?_
      · refine OutKept.next ?_
        refine Kept.trans ?_ (ChangesOnly.keptInv (finish_fr _ _ _) (by decide))
        refine Kept.trans ?_ (deliver_wf _ _ _ _)
        exact Kept.refl _
      · refine OutKept.next ?_
        refine Kept.trans ?_ (ChangesOnly.keptInv (finish_fr _ _ _) (by decide))
        refine Kept.trans ?_ (deliver_wf _ _ _ _)
        exact Kept.refl _

theorem execGetLog_wf (tag : Nat) (s : State) : OutKept s (execGetLog tag s) := by
  unfold execGetLog
  try dsimp only
  split
  · refine OutKept.next ?_
    exact Kept.refl _
  · refine OutKept.ite ?_ ?_
    · refine OutKept.next ?_
      exact Kept.refl _
    · refine OutKept.next ?_
      refine Kept.trans ?_ (ChangesOnly.keptInv (finish_fr _ _ _) (by decide))
      refine Kept.trans ?_ (deliver_wf _ _ _ _)
      exact Kept.refl _

theorem execRead_wf (tag : Nat) (media : MediaIn) (s : State) : OutKept s (execRead tag media s) := by
  unfold execRead
  try dsimp only
  split
  · refine OutKept.next ?_
    exact Kept.refl _
  · refine OutKept.ite ?_ ?_
    · refine OutKept.next ?_
      refine Kept.trans ?_ (ChangesOnly.keptInv (failEarly_fr _ _ _) (by decide))
      exact Kept.refl _
    · refine OutKept.ite ?_ ?_
      · refine OutKept.next ?_
        exact Kept.refl _
      · split
        · refine OutKept.next ?_
          refine Kept.trans ?_ (ChangesOnly.keptInv (ChangesOnly.of2 (readAll_fr _ _ _) (by assumption)) (by decide))
          exact Kept.refl _
        · refine OutKept.next ?_
          refine Kept.trans ?_ (ChangesOnly.keptInv (finish_fr _ _ _) (by decide))
          refine Kept.trans ?_ (deliver_wf _ _ _ _)
          refine Kept.trans ?_ (ChangesOnly.keptInv (gotBytes_fr _ _) (by decide))
          refine Kept.trans ?_ (ChangesOnly.keptInv (readMarks_fr _ _ _) (by decide))
          refine Kept.trans ?_ (ChangesOnly.keptInv (ChangesOnly.of2 (readAll_fr _ _ _) (by assumption)) (by decide))
          exact Kept.refl _

theorem execReadToArena_wf (tag : Nat) (media : MediaIn) (s : State) : OutKept s (execReadToArena tag media s) := by
  unfold execReadToArena
  try dsimp only
  split
  · refine OutKept.next ?_
    exact Kept.refl _
  · refine OutKept.ite ?_ ?_
    · refine OutKept.next ?_
      refine Kept.trans ?_ (ChangesOnly.keptInv (failEarly_fr _ _ _) (by decide))
      exact Kept.refl _
    · refine OutKept.ite ?_ ?_
      · refine OutKept.next ?_
        exact Kept.refl _
      · split
        · refine OutKept.next ?_
          refine Kept.trans ?_ (ChangesOnly.keptInv (ChangesOnly.of2 (readAll_fr _ _ _) (by assumption)) (by decide))
          exact Kept.refl _
        · refine OutKept.next ?_
          refine Kept.trans ?_ (ChangesOnly.keptInv (finish_fr _ _ _) (by decide))
          refine Kept.trans ?_ (arenaWrite_wf _ _ _)
          refine Kept.trans ?_ (ChangesOnly.keptInv (flipToDevice_fr _ _ _ _) (by decide))
          refine Kept.trans ?_ (ChangesOnly.keptInv (gotBytes_fr _ _) (by decide))
          refine Kept.trans ?_ (ChangesOnly.keptInv (readMarks_fr _ _ _) (by decide))
          refine Kept.trans ?_ (ChangesOnly.keptInv (ChangesOnly.of2 (readAll_fr _ _ _) (by assumption)) (by decide))
          exact Kept.refl _

theorem execCompare_wf (tag : Nat) (host : HostRead) (media : MediaIn) (s : State) : OutKept s (execCompare tag host media s) := by
  unfold execCompare
  try dsimp only
  split
  · refine OutKept.next ?_
    exact Kept.refl _
  · refine OutKept.ite ?_ ?_
    · refine OutKept.next ?_
      refine Kept.trans ?_ (ChangesOnly.keptInv (failEarly_fr _ _ _) (by decide))
      exact Kept.refl _
    · refine OutKept.ite ?_ ?_
      · refine OutKept.next ?_
        exact Kept.refl _
      · split
        · refine OutKept.next ?_
          exact Kept.refl _
        · refine OutKept.next ?_
          refine Kept.trans ?_ (ChangesOnly.keptInv (finish_fr _ _ _) (by decide))
          refine Kept.trans ?_ (abandon_wf _ _)
          exact Kept.refl _
        · split
          · refine OutKept.next ?_
            refine Kept.trans ?_ (ChangesOnly.keptInv (ChangesOnly.of2 (readAll_fr _ _ _) (by assumption)) (by decide))
            exact Kept.refl _
          · refine OutKept.ite ?_ ?_
            · refine OutKept.next ?_
              refine Kept.trans ?_ (ChangesOnly.keptInv (finish_fr _ _ _) (by decide))
              refine Kept.trans ?_ (ChangesOnly.keptInv (readMarks_fr _ _ _) (by decide))
              refine Kept.trans ?_ (ChangesOnly.keptInv (ChangesOnly.of2 (readAll_fr _ _ _) (by assumption)) (by decide))
              exact Kept.refl _
            · split
              · refine OutKept.next ?_
                refine Kept.trans ?_ (ChangesOnly.keptInv (finish_fr _ _ _) (by decide))
                refine Kept.trans ?_ (ChangesOnly.keptInv (readMarks_fr _ _ _) (by decide))
                refine Kept.trans ?_ (ChangesOnly.keptInv (ChangesOnly.of2 (readAll_fr _ _ _) (by assumption)) (by decide))
                exact Kept.refl _
              · refine OutKept.next ?_
                refine Kept.trans ?_ (ChangesOnly.keptInv (finish_fr _ _ _) (by decide))
                refine Kept.trans ?_ (ChangesOnly.keptInv (readMarks_fr _ _ _) (by decide))
                refine Kept.trans ?_ (ChangesOnly.keptInv (ChangesOnly.of2 (readAll_fr _ _ _) (by assumption)) (by decide))
                exact Kept.refl _

theorem dropWrite_wf (s : State) (o : Machine.Op) (r : Machine.Reply) : Kept s (dropWrite s o r) := by
  unfold dropWrite
  try dsimp only
  refine Kept.trans ?_ (ChangesOnly.keptInv (releaseMirror_fr _) (by decide))
  refine Kept.trans ?_ (ChangesOnly.keptInv (finish_fr _ _ _) (by decide))
  refine Kept.trans ?_ (abandon_wf _ _)
  exact Kept.refl _

theorem execWrite_wf (tag : Nat) (host : HostRead) (s : State) : OutKept s (execWrite tag host s) := by
  unfold execWrite
  try dsimp only
  split
  · refine OutKept.next ?_
    exact Kept.refl _
  · refine OutKept.ite ?_ ?_
    · refine OutKept.next ?_
      refine Kept.trans ?_ (dropWrite_wf _ _ _)
      exact Kept.refl _
    · refine OutKept.ite ?_ ?_
      · refine OutKept.next ?_
        refine Kept.trans ?_ (dropWrite_wf _ _ _)
        exact Kept.refl _
      · refine OutKept.ite ?_ ?_
        · refine OutKept.ite ?_ ?_
          · refine OutKept.next ?_
            exact Kept.refl _
          · refine OutKept.next ?_
            refine Kept.trans ?_ (ChangesOnly.keptInv (complete_fr _ _ _) (by decide))
            refine Kept.trans ?_ (ChangesOnly.keptInv (settleStaged_fr _ _) (by decide))
            exact Kept.refl _
        · refine OutKept.ite ?_ ?_
          · refine OutKept.next ?_
            exact Kept.refl _
          · refine OutKept.ite ?_ ?_
            · refine OutKept.next ?_
              refine Kept.trans ?_ (ChangesOnly.keptInv (waitForRoom_fr _ _) (by decide))
              exact Kept.refl _
            · split
              · refine OutKept.next ?_
                exact Kept.refl _
              · refine OutKept.next ?_
                refine Kept.trans ?_ (dropWrite_wf _ _ _)
                exact Kept.refl _
              · refine OutKept.ite ?_ ?_
                · refine OutKept.next ?_
                  refine Kept.trans ?_ (ChangesOnly.keptInv (sendMirror_fr _ _ _ _ _) (by decide))
                  refine Kept.trans ?_ (ChangesOnly.keptInv (landWrite_fr _ _ _ _) (by decide))
                  exact Kept.refl _
                · refine OutKept.next ?_
                  refine Kept.trans ?_ (ChangesOnly.keptInv (complete_fr _ _ _) (by decide))
                  refine Kept.trans ?_ (ChangesOnly.keptInv (settleStaged_fr _ _) (by decide))
                  refine Kept.trans ?_ (ChangesOnly.keptInv (landWrite_fr _ _ _ _) (by decide))
                  exact Kept.refl _

theorem zeroCommand_wf (s : State) (o : Machine.Op) (op : Nat) : Kept s (zeroCommand s o op) := by
  unfold zeroCommand
  try dsimp only
  refine Kept.ite ?_ ?_
  · refine Kept.trans ?_ (dropWrite_wf _ _ _)
    exact Kept.refl _
  · refine Kept.ite ?_ ?_
    · refine Kept.trans ?_ (dropWrite_wf _ _ _)
      exact Kept.refl _
    · refine Kept.ite ?_ ?_
      · refine Kept.ite ?_ ?_
        · exact Kept.refl _
        · refine Kept.ite ?_ ?_
          · refine Kept.trans ?_ (ChangesOnly.keptInv (pagesReady_fr _ _ _) (by decide))
            exact Kept.refl _
          · refine Kept.ite ?_ ?_
            · refine Kept.trans ?_ (ChangesOnly.keptInv (jStall_fr _) (by decide))
              refine Kept.trans ?_ (ChangesOnly.keptInv (pagesReady_fr _ _ _) (by decide))
              exact Kept.refl _
            · refine Kept.trans ?_ (ChangesOnly.keptInv (complete_fr _ _ _) (by decide))
              refine Kept.trans ?_ (ChangesOnly.keptInv (releaseMirror_fr _) (by decide))
              refine Kept.trans ?_ (ChangesOnly.keptInv (upPair_fr _ _) (by decide))
              refine Kept.trans ?_ (ChangesOnly.keptInv (unstageRange_fr _ _ _ _ _) (by decide))
              refine Kept.trans ?_ (ChangesOnly.keptInv (zeroRange_fr _ _ _ _) (by decide))
              refine Kept.trans ?_ (ChangesOnly.keptInv (pagesReady_fr _ _ _) (by decide))
              exact Kept.refl _
      · refine Kept.ite ?_ ?_
        · exact Kept.refl _
        · refine Kept.ite ?_ ?_
          · refine Kept.trans ?_ (ChangesOnly.keptInv (waitForRoom_fr _ _) (by decide))
            exact Kept.refl _
          · refine Kept.ite ?_ ?_
            · refine Kept.trans ?_ (ChangesOnly.keptInv (sendMirror_fr _ _ _ _ _) (by decide))
              exact Kept.refl _
            · refine Kept.ite ?_ ?_
              · refine Kept.trans ?_ (ChangesOnly.keptInv (pagesReady_fr _ _ _) (by decide))
                refine Kept.trans ?_ (ChangesOnly.keptInv (running_fr _ _) (by decide))
                exact Kept.refl _
              · refine Kept.ite ?_ ?_
                · refine Kept.trans ?_ (ChangesOnly.keptInv (jStall_fr _) (by decide))
                  refine Kept.trans ?_ (ChangesOnly.keptInv (pagesReady_fr _ _ _) (by decide))
                  refine Kept.trans ?_ (ChangesOnly.keptInv (running_fr _ _) (by decide))
                  exact Kept.refl _
                · refine Kept.trans ?_ (ChangesOnly.keptInv (complete_fr _ _ _) (by decide))
                  refine Kept.trans ?_ (ChangesOnly.keptInv (releaseMirror_fr _) (by decide))
                  refine Kept.trans ?_ (ChangesOnly.keptInv (upPair_fr _ _) (by decide))
                  refine Kept.trans ?_ (ChangesOnly.keptInv (unstageRange_fr _ _ _ _ _) (by decide))
                  refine Kept.trans ?_ (ChangesOnly.keptInv (zeroRange_fr _ _ _ _) (by decide))
                  refine Kept.trans ?_ (ChangesOnly.keptInv (pagesReady_fr _ _ _) (by decide))
                  refine Kept.trans ?_ (ChangesOnly.keptInv (running_fr _ _) (by decide))
                  exact Kept.refl _

theorem execTrim_wf (tag : Nat) (s : State) : OutKept s (execTrim tag s) := by
  unfold execTrim
  try dsimp only
  split
  · refine OutKept.next ?_
    exact Kept.refl _
  · refine OutKept.next ?_
    refine Kept.trans ?_ (zeroCommand_wf _ _ _)
    exact Kept.refl _

theorem execWriteZeroes_wf (tag : Nat) (s : State) : OutKept s (execWriteZeroes tag s) := by
  unfold execWriteZeroes
  try dsimp only
  split
  · refine OutKept.next ?_
    exact Kept.refl _
  · refine OutKept.next ?_
    refine Kept.trans ?_ (zeroCommand_wf _ _ _)
    exact Kept.refl _

theorem cryptEnds_wf (s : State) (o : Machine.Op) : Kept s (cryptEnds s o) := by
  unfold cryptEnds
  try dsimp only
  refine Kept.trans ?_ (ChangesOnly.keptInv (finish_fr _ _ _) (by decide))
  refine Kept.trans ?_ (abandon_wf _ _)
  exact Kept.refl _

theorem execCompress_wf (tag : Nat) (host : HostRead) (checker : Checker) (s : State) : OutKept s (execCompress tag host checker s) := by
  unfold execCompress
  try dsimp only
  split
  · refine OutKept.next ?_
    exact Kept.refl _
  · refine OutKept.ite ?_ ?_
    · refine OutKept.next ?_
      refine Kept.trans ?_ (cryptEnds_wf _ _)
      exact Kept.refl _
    · refine OutKept.ite ?_ ?_
      · refine OutKept.next ?_
        refine Kept.trans ?_ (ChangesOnly.keptInv (askPipe_fr _ _) (by decide))
        exact Kept.refl _
      · refine OutKept.ite ?_ ?_
        · refine OutKept.next ?_
          exact Kept.refl _
        · split
          · refine OutKept.next ?_
            exact Kept.refl _
          · refine OutKept.next ?_
            refine Kept.trans ?_ (ChangesOnly.keptInv (finish_fr _ _ _) (by decide))
            refine Kept.trans ?_ (abandon_wf _ _)
            exact Kept.refl _
          · split
            · refine OutKept.next ?_
              refine Kept.trans ?_ (ChangesOnly.keptInv (finish_fr _ _ _) (by decide))
              refine Kept.trans ?_ (deliverAddr_wf _ _ _)
              refine Kept.trans ?_ (ChangesOnly.keptInv (upCmp_fr _ _) (by decide))
              refine Kept.trans ?_ (ChangesOnly.keptInv (upCmp_fr _ _) (by decide))
              refine Kept.trans ?_ (ChangesOnly.keptInv (flipDest_fr _ _ _) (by decide))
              refine Kept.trans ?_ (ChangesOnly.keptInv (leavePipe_fr _ _) (by decide))
              exact Kept.refl _
            · refine OutKept.next ?_
              refine Kept.trans ?_ (ChangesOnly.keptInv (finish_fr _ _ _) (by decide))
              refine Kept.trans ?_ (deliverAddr_wf _ _ _)
              refine Kept.trans ?_ (ChangesOnly.keptInv (upCmp_fr _ _) (by decide))
              refine Kept.trans ?_ (ChangesOnly.keptInv (upCmp_fr _ _) (by decide))
              refine Kept.trans ?_ (ChangesOnly.keptInv (upCmp_fr _ _) (by decide))
              refine Kept.trans ?_ (ChangesOnly.keptInv (flipDest_fr _ _ _) (by decide))
              refine Kept.trans ?_ (ChangesOnly.keptInv (leavePipe_fr _ _) (by decide))
              exact Kept.refl _
            · refine OutKept.next ?_
              refine Kept.trans ?_ (ChangesOnly.keptInv (finish_fr _ _ _) (by decide))
              refine Kept.trans ?_ (spoil_wf _ _)
              refine Kept.trans ?_ (ChangesOnly.keptInv (upCmp_fr _ _) (by decide))
              refine Kept.trans ?_ (ChangesOnly.keptInv (upCmp_fr _ _) (by decide))
              refine Kept.trans ?_ (ChangesOnly.keptInv (flipDest_fr _ _ _) (by decide))
              refine Kept.trans ?_ (ChangesOnly.keptInv (leavePipe_fr _ _) (by decide))
              exact Kept.refl _
            · refine OutKept.next ?_
              refine Kept.trans ?_ (ChangesOnly.keptInv (finish_fr _ _ _) (by decide))
              refine Kept.trans ?_ (spoil_wf _ _)
              refine Kept.trans ?_ (ChangesOnly.keptInv (verifyFailed_fr _) (by decide))
              refine Kept.trans ?_ (ChangesOnly.keptInv (upCmp_fr _ _) (by decide))
              refine Kept.trans ?_ (ChangesOnly.keptInv (flipDest_fr _ _ _) (by decide))
              refine Kept.trans ?_ (ChangesOnly.keptInv (leavePipe_fr _ _) (by decide))
              exact Kept.refl _

theorem execDecompress_wf (tag : Nat) (host : HostRead) (s : State) : OutKept s (execDecompress tag host s) := by
  unfold execDecompress
  try dsimp only
  split
  · refine OutKept.next ?_
    exact Kept.refl _
  · refine OutKept.ite ?_ ?_
    · refine OutKept.next ?_
      refine Kept.trans ?_ (cryptEnds_wf _ _)
      exact Kept.refl _
    · refine OutKept.ite ?_ ?_
      · refine OutKept.next ?_
        refine Kept.trans ?_ (ChangesOnly.keptInv (askPipe_fr _ _) (by decide))
        exact Kept.refl _
      · refine OutKept.ite ?_ ?_
        · refine OutKept.next ?_
          exact Kept.refl _
        · split
          · refine OutKept.next ?_
            exact Kept.refl _
          · refine OutKept.next ?_
            refine Kept.trans ?_ (ChangesOnly.keptInv (finish_fr _ _ _) (by decide))
            refine Kept.trans ?_ (abandon_wf _ _)
            exact Kept.refl _
          · split
            · refine OutKept.next ?_
              refine Kept.trans ?_ (ChangesOnly.keptInv (finish_fr _ _ _) (by decide))
              refine Kept.trans ?_ (deliverAddr_wf _ _ _)
              refine Kept.trans ?_ (ChangesOnly.keptInv (upCmp_fr _ _) (by decide))
              refine Kept.trans ?_ (ChangesOnly.keptInv (flipDest_fr _ _ _) (by decide))
              refine Kept.trans ?_ (ChangesOnly.keptInv (leavePipe_fr _ _) (by decide))
              exact Kept.refl _
            · refine OutKept.next ?_
              refine Kept.trans ?_ (ChangesOnly.keptInv (finish_fr _ _ _) (by decide))
              refine Kept.trans ?_ (spoil_wf _ _)
              refine Kept.trans ?_ (ChangesOnly.keptInv (flipDest_fr _ _ _) (by decide))
              refine Kept.trans ?_ (ChangesOnly.keptInv (leavePipe_fr _ _) (by decide))
              exact Kept.refl _
            · refine OutKept.next ?_
              refine Kept.trans ?_ (ChangesOnly.keptInv (finish_fr _ _ _) (by decide))
              refine Kept.trans ?_ (spoil_wf _ _)
              refine Kept.trans ?_ (ChangesOnly.keptInv (upCmp_fr _ _) (by decide))
              refine Kept.trans ?_ (ChangesOnly.keptInv (flipDest_fr _ _ _) (by decide))
              refine Kept.trans ?_ (ChangesOnly.keptInv (leavePipe_fr _ _) (by decide))
              exact Kept.refl _

theorem fetchPart_wf (s : State) (o : Machine.Op) (host : HostRead) (expected : HostRead) : Kept s (fetchPart s o host expected) := by
  unfold fetchPart
  try dsimp only
  refine Kept.ite ?_ ?_
  · refine Kept.trans ?_ (cryptEnds_wf _ _)
    exact Kept.refl _
  · split
    · exact Kept.refl _
    · refine Kept.ite ?_ ?_
      · exact Kept.refl _
      · split
        · refine Kept.ite ?_ ?_
          · refine Kept.trans ?_ (ChangesOnly.keptInv (finish_fr _ _ _) (by decide))
            refine Kept.trans ?_ (abandon_wf _ _)
            exact Kept.refl _
          · refine Kept.trans ?_ (ChangesOnly.keptInv (zeroise_fr _ _) (by decide))
            exact Kept.refl _
        · refine Kept.trans ?_ (ChangesOnly.keptInv (modOp_fr _ _ _) (by decide))
          exact Kept.refl _
        · refine Kept.trans ?_ (ChangesOnly.keptInv (modOp_fr _ _ _) (by decide))
          exact Kept.refl _
        · exact Kept.refl _

theorem execDigest_wf (tag : Nat) (host : HostRead) (s : State) : OutKept s (execDigest tag host s) := by
  unfold execDigest
  try dsimp only
  split
  · refine OutKept.next ?_
    exact Kept.refl _
  · refine OutKept.next ?_
    refine Kept.trans ?_ (fetchPart_wf _ _ _ _)
    exact Kept.refl _

theorem execDigestVerify_wf (tag : Nat) (host : HostRead) (expected : HostRead) (s : State) : OutKept s (execDigestVerify tag host expected s) := by
  unfold execDigestVerify
  try dsimp only
  split
  · refine OutKept.next ?_
    exact Kept.refl _
  · refine OutKept.next ?_
    refine Kept.trans ?_ (fetchPart_wf _ _ _ _)
    exact Kept.refl _

theorem endPart_wf (s : State) (o : Machine.Op) (n : Nat) (c : Machine.DigestCtx) (data : List Byte) (expected : List Byte) : Kept s (endPart s o n c data expected) := by
  unfold endPart
  try dsimp only
  refine Kept.ite ?_ ?_
  · refine Kept.trans ?_ (ChangesOnly.keptInv (complete_fr _ _ _) (by decide))
    refine Kept.ite ?_ ?_
    · refine Kept.trans ?_ (ChangesOnly.keptInv (clearCtx_fr _ _ _) (by decide))
      exact Kept.refl _
    · refine Kept.trans ?_ (ChangesOnly.keptInv (upSec_fr _ _) (by decide))
      exact Kept.refl _
  · refine Kept.ite ?_ ?_
    · refine Kept.ite ?_ ?_
      · refine Kept.trans ?_ (ChangesOnly.keptInv (complete_fr _ _ _) (by decide))
        refine Kept.trans ?_ (ChangesOnly.keptInv (clearCtx_fr _ _ _) (by decide))
        exact Kept.refl _
      · refine Kept.trans ?_ (ChangesOnly.keptInv (complete_fr _ _ _) (by decide))
        refine Kept.trans ?_ (ChangesOnly.keptInv (clearCtx_fr _ _ _) (by decide))
        exact Kept.refl _
    · refine Kept.ite ?_ ?_
      · refine Kept.trans ?_ (ChangesOnly.keptInv (complete_fr _ _ _) (by decide))
        refine Kept.trans ?_ (deliverAddr_wf _ _ _)
        refine Kept.trans ?_ (ChangesOnly.keptInv (flipDest_fr _ _ _) (by decide))
        refine Kept.trans ?_ (ChangesOnly.keptInv (clearCtx_fr _ _ _) (by decide))
        exact Kept.refl _
      · refine Kept.trans ?_ (ChangesOnly.keptInv (complete_fr _ _ _) (by decide))
        split
        · refine Kept.trans ?_ (ChangesOnly.keptInv (extendMs_fr _ _ _) (by decide))
          refine Kept.trans ?_ (deliverAddr_wf _ _ _)
          refine Kept.trans ?_ (ChangesOnly.keptInv (flipDest_fr _ _ _) (by decide))
          refine Kept.trans ?_ (ChangesOnly.keptInv (clearCtx_fr _ _ _) (by decide))
          exact Kept.refl _
        · refine Kept.trans ?_ (deliverAddr_wf _ _ _)
          refine Kept.trans ?_ (ChangesOnly.keptInv (flipDest_fr _ _ _) (by decide))
          refine Kept.trans ?_ (ChangesOnly.keptInv (clearCtx_fr _ _ _) (by decide))
          exact Kept.refl _

theorem execDigestQuantum_wf (s : State) : OutKept s (execDigestQuantum s) := by
  unfold execDigestQuantum
  try dsimp only
  split
  · refine OutKept.next ?_
    exact Kept.refl _
  · split
    · split
      · refine OutKept.next ?_
        refine Kept.trans ?_ (ChangesOnly.keptInv (modInst_fr _ _ _ _) (by decide))
        refine Kept.trans ?_ (ChangesOnly.keptInv (upSec_fr _ _) (by decide))
        refine Kept.trans ?_ (ChangesOnly.keptInv (sourceNow_fr _ _ _ _) (by decide))
        refine Kept.trans ?_ (ChangesOnly.keptInv (upSec_fr _ _) (by decide))
        exact Kept.refl _
      · refine OutKept.next ?_
        refine Kept.trans ?_ (ChangesOnly.keptInv (upSec_fr _ _) (by decide))
        exact Kept.refl _
    · split
      · refine OutKept.next ?_
        refine Kept.trans ?_ (ChangesOnly.keptInv (upSec_fr _ _) (by decide))
        exact Kept.refl _
      · refine OutKept.ite ?_ ?_
        · refine OutKept.next ?_
          refine Kept.trans ?_ (endPart_wf _ _ _ _ _ _)
          refine Kept.trans ?_ (ChangesOnly.keptInv (upSec_fr _ _) (by decide))
          exact Kept.refl _
        · refine OutKept.next ?_
          refine Kept.trans ?_ (ChangesOnly.keptInv (modOp_fr _ _ _) (by decide))
          refine Kept.trans ?_ (ChangesOnly.keptInv (upSec_fr _ _) (by decide))
          refine Kept.trans ?_ (ChangesOnly.keptInv (upSec_fr _ _) (by decide))
          exact Kept.refl _

theorem execWaymarkSearch_wf (tag : Nat) (host : HostRead) (check : WayCheck) (s : State) : OutKept s (execWaymarkSearch tag host check s) := by
  unfold execWaymarkSearch
  try dsimp only
  split
  · refine OutKept.next ?_
    exact Kept.refl _
  · refine OutKept.ite ?_ ?_
    · refine OutKept.next ?_
      exact Kept.refl _
    · split
      · refine OutKept.next ?_
        exact Kept.refl _
      · refine OutKept.next ?_
        refine Kept.trans ?_ (ChangesOnly.keptInv (finish_fr _ _ _) (by decide))
        refine Kept.trans ?_ (abandon_wf _ _)
        exact Kept.refl _
      · refine OutKept.next ?_
        refine Kept.trans ?_ (ChangesOnly.keptInv (complete_fr _ _ _) (by decide))
        refine Kept.trans ?_ (deliverAddr_wf _ _ _)
        refine Kept.trans ?_ (ChangesOnly.keptInv (flipDest_fr _ _ _) (by decide))
        refine Kept.trans ?_ (ChangesOnly.keptInv (searchAll_fr _ _ _ _) (by decide))
        refine Kept.trans ?_ (ChangesOnly.keptInv (searchDamage_fr _ _) (by decide))
        exact Kept.refl _

theorem execWaymarkLoad_wf (tag : Nat) (host : HostRead) (s : State) : OutKept s (execWaymarkLoad tag host s) := by
  unfold execWaymarkLoad
  try dsimp only
  split
  · refine OutKept.next ?_
    exact Kept.refl _
  · refine OutKept.ite ?_ ?_
    · refine OutKept.next ?_
      refine Kept.trans ?_ (cryptEnds_wf _ _)
      exact Kept.refl _
    · refine OutKept.ite ?_ ?_
      · refine OutKept.next ?_
        exact Kept.refl _
      · refine OutKept.ite ?_ ?_
        · refine OutKept.next ?_
          refine Kept.trans ?_ (ChangesOnly.keptInv (finish_fr _ _ _) (by decide))
          exact Kept.refl _
        · split
          · refine OutKept.next ?_
            exact Kept.refl _
          · refine OutKept.next ?_
            refine Kept.trans ?_ (ChangesOnly.keptInv (finish_fr _ _ _) (by decide))
            refine Kept.trans ?_ (abandon_wf _ _)
            exact Kept.refl _
          · split
            · refine OutKept.next ?_
              refine Kept.trans ?_ (ChangesOnly.keptInv (finish_fr _ _ _) (by decide))
              refine Kept.trans ?_ (ChangesOnly.keptInv (ChangesOnly.of2 (loadRecords_fr _ _ _ _ _ _) (by assumption)) (by decide))
              exact Kept.refl _
            · refine OutKept.next ?_
              refine Kept.trans ?_ (ChangesOnly.keptInv (complete_fr _ _ _) (by decide))
              refine Kept.trans ?_ (ChangesOnly.keptInv (extendMs_fr _ _ _) (by decide))
              refine Kept.trans ?_ (ChangesOnly.keptInv (ChangesOnly.of2 (loadRecords_fr _ _ _ _ _ _) (by assumption)) (by decide))
              exact Kept.refl _

theorem execWaymarkRead_wf (tag : Nat) (check : WayCheck) (s : State) : OutKept s (execWaymarkRead tag check s) := by
  unfold execWaymarkRead
  try dsimp only
  split
  · refine OutKept.next ?_
    exact Kept.refl _
  · refine OutKept.ite ?_ ?_
    · refine OutKept.next ?_
      refine Kept.trans ?_ (ChangesOnly.keptInv (finish_fr _ _ _) (by decide))
      exact Kept.refl _
    · refine OutKept.ite ?_ ?_
      · refine OutKept.next ?_
        exact Kept.refl _
      · refine OutKept.ite ?_ ?_
        · refine OutKept.next ?_
          refine Kept.trans ?_ (ChangesOnly.keptInv (finish_fr _ _ _) (by decide))
          refine Kept.trans ?_ (spoil_wf _ _)
          refine Kept.trans ?_ (ChangesOnly.keptInv (flipDest_fr _ _ _) (by decide))
          exact Kept.refl _
        · refine OutKept.next ?_
          refine Kept.trans ?_ (ChangesOnly.keptInv (complete_fr _ _ _) (by decide))
          refine Kept.trans ?_ (deliverAddr_wf _ _ _)
          refine Kept.trans ?_ (ChangesOnly.keptInv (flipDest_fr _ _ _) (by decide))
          refine Kept.trans ?_ (ChangesOnly.keptInv (wayDamage_fr _ _) (by decide))
          exact Kept.refl _

theorem execProgramLoad_wf (tag : Nat) (host : HostRead) (s : State) : OutKept s (execProgramLoad tag host s) := by
  unfold execProgramLoad
  try dsimp only
  split
  · refine OutKept.next ?_
    exact Kept.refl _
  · refine OutKept.ite ?_ ?_
    · refine OutKept.next ?_
      exact Kept.refl _
    · split
      · refine OutKept.next ?_
        exact Kept.refl _
      · refine OutKept.next ?_
        refine Kept.trans ?_ (ChangesOnly.keptInv (finish_fr _ _ _) (by decide))
        refine Kept.trans ?_ (abandon_wf _ _)
        exact Kept.refl _
      · split
        · refine OutKept.next ?_
          refine Kept.trans ?_ (ChangesOnly.keptInv (finish_fr _ _ _) (by decide))
          exact Kept.refl _
        · refine OutKept.next ?_
          refine Kept.trans ?_ (ChangesOnly.keptInv (finish_fr _ _ _) (by decide))
          refine Kept.trans ?_ (ChangesOnly.keptInv (upKite_fr _ _) (by decide))
          refine Kept.trans ?_ (ChangesOnly.keptInv (extendMs_fr _ _ _) (by decide))
          exact Kept.refl _

theorem stopRun_wf (s : State) (tag : Nat) (r : Machine.Reply) : Kept s (stopRun s tag r) := by
  unfold stopRun
  try dsimp only
  split
  · refine Kept.trans ?_ (ChangesOnly.keptInv (endRun_fr _ _ _) (by decide))
    exact Kept.refl _
  · refine Kept.trans ?_ (ChangesOnly.keptInv (finish_fr _ _ _) (by decide))
    refine Kept.trans ?_ (abandon_wf _ _)
    exact Kept.refl _
  · exact Kept.refl _

theorem execScanStop_wf (tag : Nat) (s : State) : OutKept s (execScanStop tag s) := by
  unfold execScanStop
  try dsimp only
  split
  · refine OutKept.next ?_
    exact Kept.refl _
  · refine OutKept.ite ?_ ?_
    · refine OutKept.next ?_
      refine Kept.trans ?_ (ChangesOnly.keptInv (finish_fr _ _ _) (by decide))
      exact Kept.refl _
    · refine OutKept.next ?_
      refine Kept.trans ?_ (ChangesOnly.keptInv (finish_fr _ _ _) (by decide))
      refine Kept.trans ?_ (stopRun_wf _ _ _)
      exact Kept.refl _

theorem deliverRun_wf (s : State) (o : Machine.Op) (off : Nat) (b : List Byte) : Kept s (deliverRun s o off b) := by
  unfold deliverRun
  try dsimp only
  refine Kept.ite ?_ ?_
  · refine Kept.trans ?_ (arenaWrite_wf _ _ _)
    exact Kept.refl _
  · refine Kept.trans ?_ (deliver_wf _ _ _ _)
    exact Kept.refl _

theorem checkMerge_wf (s : State) (a : Nat) (n : Nat) (check : LineCheck) : Kept s (checkMerge s a n check) := by
  unfold checkMerge
  try dsimp only
  refine Kept.ite ?_ ?_
  · exact Kept.refl _
  · split
    · refine Kept.trans ?_ (ChangesOnly.keptInv (freeBelow_fr _ _) (by decide))
      exact Kept.refl _
    · refine Kept.trans ?_ (ChangesOnly.keptInv (dramBad_fr _ _ _) (by decide))
      refine Kept.trans ?_ (ChangesOnly.keptInv (freeBelow_fr _ _) (by decide))
      exact Kept.refl _
    · first | refine Kept.storeArena ?_ | refine Kept.clearArena ?_
      refine Kept.trans ?_ (ChangesOnly.keptInv (dramCorrected_fr _ _ _) (by decide))
      refine Kept.trans ?_ (ChangesOnly.keptInv (freeBelow_fr _ _) (by decide))
      exact Kept.refl _

theorem dmaDone_wf (s : State) (i : Machine.Instance) (check : LineCheck) : Kept s (dmaDone s i check) := by
  unfold dmaDone
  try dsimp only
  split
  · refine Kept.ite ?_ ?_
    · exact Kept.refl _
    · refine Kept.ite ?_ ?_
      · refine Kept.trans ?_ (ChangesOnly.keptInv (endRun_fr _ _ _) (by decide))
        refine Kept.trans ?_ (ChangesOnly.keptInv (latchEvent_fr _ _ _ _) (by decide))
        refine Kept.trans ?_ (ChangesOnly.keptInv (modPorts_fr _ _ _) (by decide))
        refine Kept.ite ?_ ?_
        · refine Kept.trans ?_ (ChangesOnly.keptInv (modRun_fr _ _ _) (by decide))
          refine Kept.trans ?_ (deliverRun_wf _ _ _ _)
          refine Kept.trans ?_ (ChangesOnly.keptInv (sourceBytes_fr _ _ _ _) (by decide))
          refine Kept.ite ?_ ?_
          · refine Kept.trans ?_ (checkMerge_wf _ _ _ _)
            exact Kept.refl _
          · refine Kept.trans ?_ (ChangesOnly.keptInv (checkRange_fr _ _ _ _ _) (by decide))
            exact Kept.refl _
        · refine Kept.trans ?_ (deliverRun_wf _ _ _ _)
          refine Kept.trans ?_ (ChangesOnly.keptInv (sourceBytes_fr _ _ _ _) (by decide))
          refine Kept.ite ?_ ?_
          · refine Kept.trans ?_ (checkMerge_wf _ _ _ _)
            exact Kept.refl _
          · refine Kept.trans ?_ (ChangesOnly.keptInv (checkRange_fr _ _ _ _ _) (by decide))
            exact Kept.refl _
      · refine Kept.trans ?_ (ChangesOnly.keptInv (latchEvent_fr _ _ _ _) (by decide))
        refine Kept.trans ?_ (ChangesOnly.keptInv (modPorts_fr _ _ _) (by decide))
        refine Kept.ite ?_ ?_
        · refine Kept.trans ?_ (ChangesOnly.keptInv (modRun_fr _ _ _) (by decide))
          refine Kept.trans ?_ (deliverRun_wf _ _ _ _)
          refine Kept.trans ?_ (ChangesOnly.keptInv (sourceBytes_fr _ _ _ _) (by decide))
          refine Kept.ite ?_ ?_
          · refine Kept.trans ?_ (checkMerge_wf _ _ _ _)
            exact Kept.refl _
          · refine Kept.trans ?_ (ChangesOnly.keptInv (checkRange_fr _ _ _ _ _) (by decide))
            exact Kept.refl _
        · refine Kept.trans ?_ (deliverRun_wf _ _ _ _)
          refine Kept.trans ?_ (ChangesOnly.keptInv (sourceBytes_fr _ _ _ _) (by decide))
          refine Kept.ite ?_ ?_
          · refine Kept.trans ?_ (checkMerge_wf _ _ _ _)
            exact Kept.refl _
          · refine Kept.trans ?_ (ChangesOnly.keptInv (checkRange_fr _ _ _ _ _) (by decide))
            exact Kept.refl _
  · refine Kept.trans ?_ (ChangesOnly.keptInv (latchEvent_fr _ _ _ _) (by decide))
    refine Kept.trans ?_ (ChangesOnly.keptInv (modPorts_fr _ _ _) (by decide))
    exact Kept.refl _

theorem execEngineRequestDone_wf (run : Nat) (num : Nat) (engine : EngineId) (check : LineCheck) (checker : Checker) (s : State) : OutKept s (execEngineRequestDone run num engine check checker s) := by
  unfold execEngineRequestDone
  try dsimp only
  split
  · refine OutKept.next ?_
    exact Kept.refl _
  · split
    · split
      · refine OutKept.ite ?_ ?_
        · refine OutKept.ite ?_ ?_
          · refine OutKept.next ?_
            exact Kept.refl _
          · refine OutKept.next ?_
            refine Kept.trans ?_ (ChangesOnly.keptInv (serveSearch_fr _ _) (by decide))
            exact Kept.refl _
        · refine OutKept.next ?_
          exact Kept.refl _
      · refine OutKept.next ?_
        exact Kept.refl _
    · refine OutKept.ite ?_ ?_
      · refine OutKept.next ?_
        refine Kept.trans ?_ (ChangesOnly.keptInv (digestDone_fr _ _ _) (by decide))
        exact Kept.refl _
      · refine OutKept.next ?_
        exact Kept.refl _
    · refine OutKept.ite ?_ ?_
      · refine OutKept.next ?_
        refine Kept.trans ?_ (ChangesOnly.keptInv (compressDone_fr _ _ _ _) (by decide))
        exact Kept.refl _
      · refine OutKept.next ?_
        exact Kept.refl _
    · refine OutKept.ite ?_ ?_
      · refine OutKept.next ?_
        refine Kept.trans ?_ (dmaDone_wf _ _ _)
        exact Kept.refl _
      · refine OutKept.next ?_
        exact Kept.refl _

theorem execHealthQuery_wf (tag : Nat) (s : State) : OutKept s (execHealthQuery tag s) := by
  unfold execHealthQuery
  try dsimp only
  split
  · refine OutKept.next ?_
    exact Kept.refl _
  · refine OutKept.ite ?_ ?_
    · refine OutKept.next ?_
      exact Kept.refl _
    · refine OutKept.next ?_
      refine Kept.trans ?_ (ChangesOnly.keptInv (finish_fr _ _ _) (by decide))
      refine Kept.trans ?_ (deliver_wf _ _ _ _)
      exact Kept.refl _

theorem failOver_wf (s : State) (r : Machine.FaultRecord) : Kept s (failOver s r) := by
  unfold failOver
  try dsimp only
  refine Kept.ite ?_ ?_
  · refine Kept.trans ?_ (deviceReset_wf _ _)
    refine Kept.trans ?_ (ChangesOnly.keptInv (upFlt_fr _ _) (by decide))
    refine Kept.trans ?_ (ChangesOnly.keptInv (shadowQueue_fr _) (by decide))
    refine Kept.trans ?_ (dropCommands_wf _)
    refine Kept.ite ?_ ?_
    · refine Kept.trans ?_ (ChangesOnly.keptInv (sendT_fr _ _) (by decide))
      exact Kept.refl _
    · exact Kept.refl _
  · refine Kept.trans ?_ (ChangesOnly.keptInv (startDump_fr _ _) (by decide))
    refine Kept.trans ?_ (ChangesOnly.keptInv (upGlb_fr _ _) (by decide))
    refine Kept.trans ?_ (ChangesOnly.keptInv (upFlt_fr _ _) (by decide))
    refine Kept.trans ?_ (ChangesOnly.keptInv (shadowQueue_fr _) (by decide))
    refine Kept.trans ?_ (dropCommands_wf _)
    refine Kept.ite ?_ ?_
    · refine Kept.trans ?_ (ChangesOnly.keptInv (sendT_fr _ _) (by decide))
      exact Kept.refl _
    · exact Kept.refl _

theorem halt_wf (s : State) : Kept s (halt s) := by
  unfold halt
  try dsimp only
  refine Kept.ite ?_ ?_
  · refine Kept.trans ?_ (ChangesOnly.keptInv (haltDone_fr _) (by decide))
    refine Kept.trans ?_ (ChangesOnly.keptInv (upFlt_fr _ _) (by decide))
    refine Kept.trans ?_ (ChangesOnly.keptInv (shadowQueue_fr _) (by decide))
    refine Kept.trans ?_ (dropCommands_wf _)
    refine Kept.ite ?_ ?_
    · refine Kept.trans ?_ (ChangesOnly.keptInv (sendT_fr _ _) (by decide))
      refine Kept.trans ?_ (ChangesOnly.keptInv (upHst_fr _ _) (by decide))
      exact Kept.refl _
    · refine Kept.trans ?_ (ChangesOnly.keptInv (upHst_fr _ _) (by decide))
      exact Kept.refl _
  · refine Kept.trans ?_ (ChangesOnly.keptInv (startDump_fr _ _) (by decide))
    refine Kept.trans ?_ (ChangesOnly.keptInv (upFlt_fr _ _) (by decide))
    refine Kept.trans ?_ (ChangesOnly.keptInv (shadowQueue_fr _) (by decide))
    refine Kept.trans ?_ (dropCommands_wf _)
    refine Kept.ite ?_ ?_
    · refine Kept.trans ?_ (ChangesOnly.keptInv (sendT_fr _ _) (by decide))
      refine Kept.trans ?_ (ChangesOnly.keptInv (upHst_fr _ _) (by decide))
      exact Kept.refl _
    · refine Kept.trans ?_ (ChangesOnly.keptInv (upHst_fr _ _) (by decide))
      exact Kept.refl _

theorem react_wf (s : State) (f : Machine.PendingFault) : Kept s (react s f) := by
  unfold react
  try dsimp only
  refine Kept.ite ?_ ?_
  · refine Kept.trans ?_ (failOver_wf _ _)
    refine Kept.trans ?_ (ChangesOnly.keptInv (setLast_fr _ _ _ _ _) (by decide))
    refine Kept.ite ?_ ?_
    · refine Kept.trans ?_ (ChangesOnly.keptInv (addHistory_fr _ _ _ _ _ _) (by decide))
      refine Kept.trans ?_ (ChangesOnly.keptInv (upFlt_fr _ _) (by decide))
      exact Kept.refl _
    · refine Kept.trans ?_ (ChangesOnly.keptInv (upFlt_fr _ _) (by decide))
      exact Kept.refl _
  · refine Kept.ite ?_ ?_
    · refine Kept.trans ?_ (halt_wf _)
      refine Kept.ite ?_ ?_
      · refine Kept.trans ?_ (ChangesOnly.keptInv (postEvent_fr _ _ _ _ _) (by decide))
        refine Kept.trans ?_ (ChangesOnly.keptInv (setLast_fr _ _ _ _ _) (by decide))
        refine Kept.ite ?_ ?_
        · refine Kept.trans ?_ (ChangesOnly.keptInv (addHistory_fr _ _ _ _ _ _) (by decide))
          refine Kept.trans ?_ (ChangesOnly.keptInv (upFlt_fr _ _) (by decide))
          exact Kept.refl _
        · refine Kept.trans ?_ (ChangesOnly.keptInv (upFlt_fr _ _) (by decide))
          exact Kept.refl _
      · refine Kept.trans ?_ (ChangesOnly.keptInv (setLast_fr _ _ _ _ _) (by decide))
        refine Kept.ite ?_ ?_
        · refine Kept.trans ?_ (ChangesOnly.keptInv (addHistory_fr _ _ _ _ _ _) (by decide))
          refine Kept.trans ?_ (ChangesOnly.keptInv (upFlt_fr _ _) (by decide))
          exact Kept.refl _
        · refine Kept.trans ?_ (ChangesOnly.keptInv (upFlt_fr _ _) (by decide))
          exact Kept.refl _
    · refine Kept.ite ?_ ?_
      · refine Kept.trans ?_ (ChangesOnly.keptInv (contain_fr _ _) (by decide))
        refine Kept.ite ?_ ?_
        · refine Kept.trans ?_ (ChangesOnly.keptInv (postEvent_fr _ _ _ _ _) (by decide))
          refine Kept.trans ?_ (ChangesOnly.keptInv (setLast_fr _ _ _ _ _) (by decide))
          refine Kept.ite ?_ ?_
          · refine Kept.trans ?_ (ChangesOnly.keptInv (addHistory_fr _ _ _ _ _ _) (by decide))
            refine Kept.trans ?_ (ChangesOnly.keptInv (upFlt_fr _ _) (by decide))
            exact Kept.refl _
          · refine Kept.trans ?_ (ChangesOnly.keptInv (upFlt_fr _ _) (by decide))
            exact Kept.refl _
        · refine Kept.trans ?_ (ChangesOnly.keptInv (setLast_fr _ _ _ _ _) (by decide))
          refine Kept.ite ?_ ?_
          · refine Kept.trans ?_ (ChangesOnly.keptInv (addHistory_fr _ _ _ _ _ _) (by decide))
            refine Kept.trans ?_ (ChangesOnly.keptInv (upFlt_fr _ _) (by decide))
            exact Kept.refl _
          · refine Kept.trans ?_ (ChangesOnly.keptInv (upFlt_fr _ _) (by decide))
            exact Kept.refl _
      · refine Kept.ite ?_ ?_
        · refine Kept.trans ?_ (ChangesOnly.keptInv (postEvent_fr _ _ _ _ _) (by decide))
          refine Kept.trans ?_ (ChangesOnly.keptInv (setLast_fr _ _ _ _ _) (by decide))
          refine Kept.ite ?_ ?_
          · refine Kept.trans ?_ (ChangesOnly.keptInv (addHistory_fr _ _ _ _ _ _) (by decide))
            refine Kept.trans ?_ (ChangesOnly.keptInv (upFlt_fr _ _) (by decide))
            exact Kept.refl _
          · refine Kept.trans ?_ (ChangesOnly.keptInv (upFlt_fr _ _) (by decide))
            exact Kept.refl _
        · refine Kept.trans ?_ (ChangesOnly.keptInv (setLast_fr _ _ _ _ _) (by decide))
          refine Kept.ite ?_ ?_
          · refine Kept.trans ?_ (ChangesOnly.keptInv (addHistory_fr _ _ _ _ _ _) (by decide))
            refine Kept.trans ?_ (ChangesOnly.keptInv (upFlt_fr _ _) (by decide))
            exact Kept.refl _
          · refine Kept.trans ?_ (ChangesOnly.keptInv (upFlt_fr _ _) (by decide))
            exact Kept.refl _

theorem execFaultReaction_wf (s : State) : OutKept s (execFaultReaction s) := by
  unfold execFaultReaction
  try dsimp only
  split
  · refine OutKept.next ?_
    exact Kept.refl _
  · refine OutKept.ite ?_ ?_
    · refine OutKept.next ?_
      exact Kept.refl _
    · refine OutKept.next ?_
      refine Kept.trans ?_ (react_wf _ _)
      refine Kept.trans ?_ (ChangesOnly.keptInv (upFlt_fr _ _) (by decide))
      exact Kept.refl _

theorem execPwrFailAssert_wf (s : State) : OutKept s (execPwrFailAssert s) := by
  unfold execPwrFailAssert
  try dsimp only
  refine OutKept.ite ?_ ?_
  · refine OutKept.next ?_
    exact Kept.refl _
  · refine OutKept.ite ?_ ?_
    · refine OutKept.next ?_
      refine Kept.trans ?_ (ChangesOnly.keptInv (upPwr_fr _ _) (by decide))
      exact Kept.refl _
    · refine OutKept.next ?_
      refine Kept.trans ?_ (ChangesOnly.keptInv (startDump_fr _ _) (by decide))
      refine Kept.trans ?_ (ChangesOnly.keptInv (stopWork_fr _) (by decide))
      refine Kept.trans ?_ (failIncomplete_wf _)
      refine Kept.trans ?_ (ChangesOnly.keptInv (upPwr_fr _ _) (by decide))
      exact Kept.refl _

theorem finishReset_wf (s : State) : Kept s (finishReset s) := by
  unfold finishReset
  try dsimp only
  refine Kept.trans ?_ (ChangesOnly.keptInv (upGlb_fr _ _) (by decide))
  refine Kept.trans ?_ (ChangesOnly.keptInv (ChangesOnly.set_hst (ps := [.hst]) (by decide) (ChangesOnly.refl _ _)) (by decide))
  refine Kept.trans ?_ (deviceReset_wf _ _)
  exact Kept.refl _

theorem execDumpComplete_wf (us : Nat) (s : State) : OutKept s (execDumpComplete us s) := by
  unfold execDumpComplete
  try dsimp only
  refine OutKept.ite ?_ ?_
  · refine OutKept.next ?_
    exact Kept.refl _
  · split
    · refine OutKept.next ?_
      refine Kept.trans ?_ (ChangesOnly.keptInv (upPwr_fr _ _) (by decide))
      refine Kept.trans ?_ (ChangesOnly.keptInv (upMed_fr _ _) (by decide))
      refine Kept.trans ?_ (ChangesOnly.keptInv (markDump_fr _ _) (by decide))
      exact Kept.refl _
    · refine OutKept.next ?_
      refine Kept.trans ?_ (deviceReset_wf _ _)
      refine Kept.trans ?_ (ChangesOnly.keptInv (markDump_fr _ _) (by decide))
      exact Kept.refl _
    · refine OutKept.next ?_
      refine Kept.trans ?_ (ChangesOnly.keptInv (haltDone_fr _) (by decide))
      refine Kept.trans ?_ (ChangesOnly.keptInv (markDump_fr _ _) (by decide))
      exact Kept.refl _
    · refine OutKept.next ?_
      refine Kept.trans ?_ (finishReset_wf _)
      refine Kept.trans ?_ (ChangesOnly.keptInv (markDump_fr _ _) (by decide))
      exact Kept.refl _

theorem execRailLoss_wf (s : State) : OutKept s (execRailLoss s) := by
  unfold execRailLoss
  try dsimp only
  refine OutKept.ite ?_ ?_
  · refine OutKept.next ?_
    exact Kept.refl _
  · refine OutKept.next ?_
    refine Kept.trans ?_ (ChangesOnly.keptInv (upPwr_fr _ _) (by decide))
    refine Kept.trans ?_ (ChangesOnly.keptInv (upGlb_fr _ _) (by decide))
    refine Kept.trans ?_ (ChangesOnly.keptInv (loseAon_fr _) (by decide))
    refine Kept.trans ?_ (deviceReset_wf _ _)
    exact Kept.refl _

theorem loseClaim_wf (s : State) (refusals : Nat) : Kept s (loseClaim s refusals) := by
  unfold loseClaim
  try dsimp only
  refine Kept.foldl (fun _ _ => ?_) ?_
  · refine Kept.trans ?_ (ChangesOnly.keptInv (finish_fr _ _ _) (by decide))
    exact Kept.refl _
  · refine Kept.trans ?_ (ChangesOnly.keptInv (upPair_fr _ _) (by decide))
    refine Kept.foldl (fun _ _ => ?_) ?_
    · refine Kept.trans ?_ (dropWrite_wf _ _ _)
      exact Kept.refl _
    · refine Kept.trans ?_ (ChangesOnly.keptInv (upPair_fr _ _) (by decide))
      refine Kept.trans ?_ (ChangesOnly.keptInv (pairLog_fr _ _ _ _) (by decide))
      refine Kept.trans ?_ (ChangesOnly.keptInv (upPair_fr _ _) (by decide))
      exact Kept.refl _

theorem execClaimRefuse_wf (src : Nat) (pairId : Nat) (claimant : Nat) (partner : Nat) (number : Nat) (holder : Nat) (s : State) : OutKept s (execClaimRefuse src pairId claimant partner number holder s) := by
  unfold execClaimRefuse
  try dsimp only
  refine OutKept.ite ?_ ?_
  · refine OutKept.next ?_
    exact Kept.refl _
  · split
    · refine OutKept.next ?_
      exact Kept.refl _
    · refine OutKept.ite ?_ ?_
      · refine OutKept.next ?_
        refine Kept.trans ?_ (loseClaim_wf _ _)
        refine Kept.trans ?_ (ChangesOnly.keptInv (upPair_fr _ _) (by decide))
        exact Kept.refl _
      · refine OutKept.next ?_
        refine Kept.trans ?_ (ChangesOnly.keptInv (upPair_fr _ _) (by decide))
        exact Kept.refl _

theorem writeEntry_wf (s : State) (n : Nat) (r : Machine.Ring) (e : Machine.Entry) (landed : Bool) : Kept s (writeEntry s n r e landed) := by
  unfold writeEntry
  try dsimp only
  refine Kept.ite ?_ ?_
  · refine Kept.trans ?_ (ChangesOnly.keptInv (signal_fr _ _ _) (by decide))
    refine Kept.trans ?_ (ChangesOnly.keptInv (upTsk_fr _ _) (by decide))
    refine Kept.ite ?_ ?_
    · first | refine Kept.storeHost ?_ | refine Kept.writeHost ?_
      refine Kept.ite ?_ ?_
      · refine Kept.trans ?_ (ChangesOnly.keptInv (issue_fr _ _) (by decide))
        exact Kept.refl _
      · exact Kept.refl _
    · refine Kept.ite ?_ ?_
      · refine Kept.trans ?_ (ChangesOnly.keptInv (issue_fr _ _) (by decide))
        exact Kept.refl _
      · exact Kept.refl _
  · refine Kept.trans ?_ (ChangesOnly.keptInv (upTsk_fr _ _) (by decide))
    refine Kept.ite ?_ ?_
    · first | refine Kept.storeHost ?_ | refine Kept.writeHost ?_
      refine Kept.ite ?_ ?_
      · refine Kept.trans ?_ (ChangesOnly.keptInv (issue_fr _ _) (by decide))
        exact Kept.refl _
      · exact Kept.refl _
    · refine Kept.ite ?_ ?_
      · refine Kept.trans ?_ (ChangesOnly.keptInv (issue_fr _ _) (by decide))
        exact Kept.refl _
      · exact Kept.refl _

theorem writeReply_wf (s : State) (n : Nat) (src : ReplySrc) (landed : Bool) : OptKept s (writeReply s n src landed) := by
  unfold writeReply
  try dsimp only
  split
  · exact OptKept.none
  · refine OptKept.ite ?_ ?_
    · exact OptKept.none
    · split
      · split
        · exact OptKept.none
        · refine OptKept.some ?_
          refine Kept.trans ?_ (ChangesOnly.keptInv (dropOp_fr _ _) (by decide))
          refine Kept.trans ?_ (writeEntry_wf _ _ _ _ _)
          exact Kept.refl _
      · split
        · exact OptKept.none
        · refine OptKept.some ?_
          refine Kept.trans ?_ (writeEntry_wf _ _ _ _ _)
          refine Kept.trans ?_ (ChangesOnly.keptInv (upTsk_fr _ _) (by decide))
          exact Kept.refl _
      · split
        · exact OptKept.none
        · refine OptKept.ite ?_ ?_
          · exact OptKept.none
          · refine OptKept.some ?_
            refine Kept.trans ?_ (writeEntry_wf _ _ _ _ _)
            refine Kept.trans ?_ (ChangesOnly.keptInv (upTsk_fr _ _) (by decide))
            exact Kept.refl _

theorem execReplyWrite_wf (ring : Nat) (src : ReplySrc) (s : State) : OutKept s (execReplyWrite ring src s) := by
  unfold execReplyWrite
  try dsimp only
  refine OutKept.next ?_
  refine OptKept.getD ?_ ?_
  · refine OptKept.trans ?_ (writeReply_wf _ _ _ _)
    exact Kept.refl _
  · exact Kept.refl _

theorem execReplyWriteError_wf (ring : Nat) (src : ReplySrc) (s : State) : OutKept s (execReplyWriteError ring src s) := by
  unfold execReplyWriteError
  try dsimp only
  refine OutKept.ite ?_ ?_
  · refine OutKept.next ?_
    exact Kept.refl _
  · split
    · refine OutKept.next ?_
      exact Kept.refl _
    · refine OutKept.next ?_
      refine Kept.trans ?_ (ChangesOnly.keptInv (raiseAt_fr _ _ _ _ _) (by decide))
      refine Kept.trans ?_ (OptKept.of (writeReply_wf _ _ _ _) (by assumption))
      exact Kept.refl _

theorem abortOp_wf (s : State) (o : Machine.Op) : Kept s (abortOp s o) := by
  unfold abortOp
  try dsimp only
  refine Kept.trans ?_ (ChangesOnly.keptInv (modOp_fr _ _ _) (by decide))
  refine Kept.ite ?_ ?_
  · refine Kept.trans ?_ (stopRun_wf _ _ _)
    exact Kept.refl _
  · refine Kept.trans ?_ (ChangesOnly.keptInv (finish_fr _ _ _) (by decide))
    refine Kept.trans ?_ (abandon_wf _ _)
    exact Kept.refl _

theorem abortNamed_wf (s : State) (tag : Nat) (o : Machine.Op) : Kept s (abortNamed s tag o) := by
  unfold abortNamed
  try dsimp only
  refine Kept.ite ?_ ?_
  · refine Kept.trans ?_ (ChangesOnly.keptInv (finish_fr _ _ _) (by decide))
    exact Kept.refl _
  · refine Kept.trans ?_ (ChangesOnly.keptInv (modOp_fr _ _ _) (by decide))
    refine Kept.trans ?_ (ChangesOnly.keptInv (finish_fr _ _ _) (by decide))
    refine Kept.trans ?_ (abortOp_wf _ _)
    exact Kept.refl _

theorem execAbort_wf (tag : Nat) (s : State) : OutKept s (execAbort tag s) := by
  unfold execAbort
  try dsimp only
  split
  · refine OutKept.next ?_
    exact Kept.refl _
  · refine OutKept.ite ?_ ?_
    · refine OutKept.next ?_
      exact Kept.refl _
    · split
      · refine OutKept.next ?_
        refine Kept.trans ?_ (abortNamed_wf _ _ _)
        exact Kept.refl _
      · refine OutKept.next ?_
        refine Kept.trans ?_ (ChangesOnly.keptInv (finish_fr _ _ _) (by decide))
        refine Kept.trans ?_ (ChangesOnly.keptInv (tagless_fr _ _ _ _ _ _ _) (by decide))
        refine Kept.trans ?_ (ChangesOnly.keptInv (upTsk_fr _ _) (by decide))
        exact Kept.refl _
      · refine OutKept.next ?_
        refine Kept.trans ?_ (ChangesOnly.keptInv (finish_fr _ _ _) (by decide))
        exact Kept.refl _
      · refine OutKept.next ?_
        refine Kept.trans ?_ (ChangesOnly.keptInv (finish_fr _ _ _) (by decide))
        exact Kept.refl _

theorem setLine_wf (s : State) (line : Nat) (b : List Byte) : Kept s (setLine s line b) := by
  unfold setLine
  try dsimp only
  split
  · first | refine Kept.storeArena ?_ | refine Kept.clearArena ?_
    refine Kept.trans ?_ (ChangesOnly.keptInv (unpoison_fr _ _) (by decide))
    exact Kept.refl _
  · refine Kept.trans ?_ (ChangesOnly.keptInv (upDrc_fr _ _) (by decide))
    refine Kept.trans ?_ (ChangesOnly.keptInv (unpoison_fr _ _) (by decide))
    exact Kept.refl _

theorem writeLine_wf (s : State) (line : Nat) (data : List (Option Byte)) (check : LineCheck) : Kept s (writeLine s line data check) := by
  unfold writeLine
  try dsimp only
  refine Kept.ite ?_ ?_
  · exact Kept.refl _
  · refine Kept.ite ?_ ?_
    · refine Kept.trans ?_ (setLine_wf _ _ _)
      exact Kept.refl _
    · refine Kept.ite ?_ ?_
      · exact Kept.refl _
      · refine Kept.ite ?_ ?_
        · refine Kept.trans ?_ (ChangesOnly.keptInv (lineRead_fr _ _ _) (by decide))
          exact Kept.refl _
        · refine Kept.trans ?_ (setLine_wf _ _ _)
          refine Kept.trans ?_ (ChangesOnly.keptInv (lineBytes_fr _ _) (by decide))
          refine Kept.trans ?_ (ChangesOnly.keptInv (lineRead_fr _ _ _) (by decide))
          exact Kept.refl _

theorem execDramRequest_wf (r : DramOp) (s : State) : OutKept s (execDramRequest r s) := by
  unfold execDramRequest
  try dsimp only
  refine OutKept.ite ?_ ?_
  · refine OutKept.next ?_
    exact Kept.refl _
  · split
    · refine OutKept.ite ?_ ?_
      · refine OutKept.next ?_
        exact Kept.refl _
      · refine OutKept.next ?_
        refine Kept.trans ?_ (ChangesOnly.keptInv (enterInOrder_fr _ _ _) (by decide))
        refine Kept.trans ?_ (ChangesOnly.keptInv (modSub_fr _ _ _) (by decide))
        exact Kept.refl _
    · refine OutKept.ite ?_ ?_
      · refine OutKept.next ?_
        exact Kept.refl _
      · split
        · refine OutKept.next ?_
          exact Kept.refl _
        · refine OutKept.next ?_
          refine Kept.ite ?_ ?_
          · refine Kept.trans ?_ (writeLine_wf _ _ _ _)
            refine Kept.trans ?_ (ChangesOnly.keptInv (issueReq_fr _ _ _) (by decide))
            refine Kept.trans ?_ (ChangesOnly.keptInv (anyOf_fr _ _) (by decide))
            exact Kept.refl _
          · refine Kept.trans ?_ (ChangesOnly.keptInv (readLine_fr _ _ _) (by decide))
            refine Kept.trans ?_ (ChangesOnly.keptInv (issueReq_fr _ _ _) (by decide))
            refine Kept.trans ?_ (ChangesOnly.keptInv (anyOf_fr _ _) (by decide))
            exact Kept.refl _

theorem drainKind_wf (s : State) (ring : Nat) (src : ReplySrc) (fuel : Nat) : Kept s (drainKind s ring src fuel) := by
  unfold drainKind
  try dsimp only
  split
  · exact Kept.refl _
  · split
    · refine Kept.trans ?_ (drainKind_wf _ _ _ _)
      refine Kept.trans ?_ (OptKept.of (writeReply_wf _ _ _ _) (by assumption))
      exact Kept.refl _
    · exact Kept.refl _

theorem drainRing_wf (s : State) (ring : Nat) : Kept s (drainRing s ring) := by
  unfold drainRing
  try dsimp only
  refine Kept.trans ?_ (drainKind_wf _ _ _ _)
  refine Kept.trans ?_ (drainKind_wf _ _ _ _)
  refine Kept.trans ?_ (drainKind_wf _ _ _ _)
  exact Kept.refl _

theorem execGpfPhase1_wf (s : State) : OutKept s (execGpfPhase1 s) := by
  unfold execGpfPhase1
  try dsimp only
  refine OutKept.ite ?_ ?_
  · refine OutKept.next ?_
    exact Kept.refl _
  · refine OutKept.next ?_
    refine Kept.trans ?_ (ChangesOnly.keptInv (upHst_fr _ _) (by decide))
    refine Kept.foldl (fun _ _ => ?_) ?_
    · refine Kept.trans ?_ (drainRing_wf _ _)
      exact Kept.refl _
    · exact Kept.refl _

theorem serveWrite_wf (s : State) (addr : Nat) (a : Nat) (data : List (Option Byte)) (check : LineCheck) : Kept s (serveWrite s addr a data check) := by
  unfold serveWrite
  try dsimp only
  refine Kept.ite ?_ ?_
  · first | refine Kept.storeArena ?_ | refine Kept.clearArena ?_
    refine Kept.trans ?_ (ChangesOnly.keptInv (upDrc_fr _ _) (by decide))
    exact Kept.refl _
  · refine Kept.ite ?_ ?_
    · exact Kept.refl _
    · split
      · first | refine Kept.storeArena ?_ | refine Kept.clearArena ?_
        exact Kept.refl _
      · refine Kept.trans ?_ (ChangesOnly.keptInv (dramBad_fr _ _ _) (by decide))
        exact Kept.refl _
      · first | refine Kept.storeArena ?_ | refine Kept.clearArena ?_
        refine Kept.trans ?_ (ChangesOnly.keptInv (dramCorrected_fr _ _ _) (by decide))
        refine Kept.trans ?_ (ChangesOnly.keptInv (logRas_fr _ _ _) (by decide))
        exact Kept.refl _

theorem execCxlMemWrite_wf (addr : Nat) (data : List (Option Byte)) (check : LineCheck) (s : State) : OutKept s (execCxlMemWrite addr data check s) := by
  unfold execCxlMemWrite
  try dsimp only
  refine OutKept.ite ?_ ?_
  · refine OutKept.next ?_
    exact Kept.refl _
  · split
    · refine OutKept.next ?_
      refine Kept.trans ?_ (ChangesOnly.keptInv (logRas_fr _ _ _) (by decide))
      exact Kept.refl _
    · refine OutKept.ite ?_ ?_
      · refine OutKept.next ?_
        exact Kept.refl _
      · refine OutKept.next ?_
        refine Kept.trans ?_ (serveWrite_wf _ _ _ _ _)
        refine Kept.trans ?_ (ChangesOnly.keptInv (biasConflict_fr _ _) (by decide))
        exact Kept.refl _

theorem flrOp_wf (s : State) (o : Machine.Op) : Kept s (flrOp s o) := by
  unfold flrOp
  try dsimp only
  refine Kept.ite ?_ ?_
  · refine Kept.trans ?_ (ChangesOnly.keptInv (dropOp_fr _ _) (by decide))
    exact Kept.refl _
  · refine Kept.ite ?_ ?_
    · refine Kept.trans ?_ (ChangesOnly.keptInv (modOp_fr _ _ _) (by decide))
      exact Kept.refl _
    · refine Kept.ite ?_ ?_
      · refine Kept.trans ?_ (ChangesOnly.keptInv (dropOp_fr _ _) (by decide))
        exact Kept.refl _
      · refine Kept.ite ?_ ?_
        · refine Kept.trans ?_ (stopRun_wf _ _ _)
          refine Kept.trans ?_ (ChangesOnly.keptInv (modOp_fr _ _ _) (by decide))
          exact Kept.refl _
        · refine Kept.trans ?_ (ChangesOnly.keptInv (modOp_fr _ _ _) (by decide))
          exact Kept.refl _

theorem execFlr_wf (s : State) : OutKept s (execFlr s) := by
  unfold execFlr
  try dsimp only
  refine OutKept.ite ?_ ?_
  · refine OutKept.next ?_
    exact Kept.refl _
  · refine OutKept.next ?_
    refine Kept.trans ?_ (ChangesOnly.keptInv (reApprove_fr _) (by decide))
    refine Kept.trans ?_ (ChangesOnly.keptInv (flrContexts_fr _) (by decide))
    refine Kept.trans ?_ (ChangesOnly.keptInv (upHst_fr _ _) (by decide))
    refine Kept.trans ?_ (ChangesOnly.keptInv (dropQueues_fr _) (by decide))
    refine Kept.foldl (fun _ _ => ?_) ?_
    · refine Kept.trans ?_ (flrOp_wf _ _)
      exact Kept.refl _
    · exact Kept.refl _

theorem execConventionalReset_wf (kind : Nat) (s : State) : OutKept s (execConventionalReset kind s) := by
  unfold execConventionalReset
  try dsimp only
  refine OutKept.ite ?_ ?_
  · refine OutKept.next ?_
    exact Kept.refl _
  · refine OutKept.ite ?_ ?_
    · refine OutKept.ite ?_ ?_
      · refine OutKept.next ?_
        exact Kept.refl _
      · refine OutKept.next ?_
        refine Kept.trans ?_ (beginReset_wf _ _)
        refine Kept.trans ?_ (ChangesOnly.keptInv (tapFollow_fr _) (by decide))
        refine Kept.trans ?_ (ChangesOnly.keptInv (upPwr_fr _ _) (by decide))
        exact Kept.refl _
    · refine OutKept.ite ?_ ?_
      · refine OutKept.next ?_
        refine Kept.trans ?_ (beginReset_wf _ _)
        exact Kept.refl _
      · refine OutKept.next ?_
        exact Kept.refl _

theorem execPowerOn_wf (s : State) : OutKept s (execPowerOn s) := by
  unfold execPowerOn
  try dsimp only
  refine OutKept.ite ?_ ?_
  · refine OutKept.next ?_
    refine Kept.trans ?_ (ChangesOnly.keptInv (upPwr_fr _ _) (by decide))
    exact Kept.refl _
  · refine OutKept.next ?_
    refine Kept.trans ?_ (ChangesOnly.keptInv (upHlt_fr _ _) (by decide))
    refine Kept.trans ?_ (ChangesOnly.keptInv (upGlb_fr _ _) (by decide))
    refine Kept.trans ?_ (deviceReset_wf _ _)
    refine Kept.trans ?_ (ChangesOnly.keptInv (upPwr_fr _ _) (by decide))
    exact Kept.refl _

theorem execTransitionPhaseEnd_wf (imageOk : Bool) (lost : List Nat) (s : State) : OutKept s (execTransitionPhaseEnd imageOk lost s) := by
  unfold execTransitionPhaseEnd
  try dsimp only
  split
  · refine OutKept.next ?_
    exact Kept.refl _
  · refine OutKept.next ?_
    refine Kept.trans ?_ (phaseEnd_wf _ _ _ _)
    exact Kept.refl _

theorem execKeyImport_wf (tag : Nat) (host : HostRead) (s : State) : OutKept s (execKeyImport tag host s) := by
  unfold execKeyImport
  try dsimp only
  split
  · refine OutKept.next ?_
    exact Kept.refl _
  · split
    · refine OutKept.next ?_
      exact Kept.refl _
    · refine OutKept.next ?_
      refine Kept.trans ?_ (ChangesOnly.keptInv (finish_fr _ _ _) (by decide))
      refine Kept.trans ?_ (abandon_wf _ _)
      exact Kept.refl _
    · split
      · refine OutKept.next ?_
        refine Kept.trans ?_ (ChangesOnly.keptInv (finish_fr _ _ _) (by decide))
        exact Kept.refl _
      · refine OutKept.ite ?_ ?_
        · refine OutKept.next ?_
          refine Kept.trans ?_ (ChangesOnly.keptInv (finish_fr _ _ _) (by decide))
          refine Kept.trans ?_ (ChangesOnly.keptInv (extendMs_fr _ _ _) (by decide))
          refine Kept.trans ?_ (ChangesOnly.keptInv (putKey_fr _ _) (by decide))
          refine Kept.trans ?_ (ChangesOnly.keptInv (freshKey_fr _) (by decide))
          exact Kept.refl _
        · refine OutKept.next ?_
          refine Kept.trans ?_ (ChangesOnly.keptInv (finish_fr _ _ _) (by decide))
          refine Kept.trans ?_ (ChangesOnly.keptInv (extendMs_fr _ _ _) (by decide))
          refine Kept.trans ?_ (ChangesOnly.keptInv (upSec_fr _ _) (by decide))
          exact Kept.refl _

theorem execExtend_wf (tag : Nat) (host : HostRead) (s : State) : OutKept s (execExtend tag host s) := by
  unfold execExtend
  try dsimp only
  split
  · refine OutKept.next ?_
    exact Kept.refl _
  · refine OutKept.ite ?_ ?_
    · refine OutKept.next ?_
      exact Kept.refl _
    · split
      · refine OutKept.next ?_
        exact Kept.refl _
      · refine OutKept.next ?_
        refine Kept.trans ?_ (ChangesOnly.keptInv (finish_fr _ _ _) (by decide))
        refine Kept.trans ?_ (abandon_wf _ _)
        exact Kept.refl _
      · refine OutKept.next ?_
        refine Kept.trans ?_ (ChangesOnly.keptInv (finish_fr _ _ _) (by decide))
        refine Kept.trans ?_ (ChangesOnly.keptInv (extendMs_fr _ _ _) (by decide))
        exact Kept.refl _

theorem execAttest_wf (tag : Nat) (host : HostRead) (s : State) : OutKept s (execAttest tag host s) := by
  unfold execAttest
  try dsimp only
  split
  · refine OutKept.next ?_
    exact Kept.refl _
  · refine OutKept.ite ?_ ?_
    · refine OutKept.next ?_
      refine Kept.trans ?_ (cryptEnds_wf _ _)
      exact Kept.refl _
    · refine OutKept.ite ?_ ?_
      · refine OutKept.next ?_
        exact Kept.refl _
      · split
        · refine OutKept.next ?_
          exact Kept.refl _
        · refine OutKept.next ?_
          refine Kept.trans ?_ (ChangesOnly.keptInv (finish_fr _ _ _) (by decide))
          refine Kept.trans ?_ (abandon_wf _ _)
          exact Kept.refl _
        · refine OutKept.ite ?_ ?_
          · refine OutKept.next ?_
            refine Kept.trans ?_ (ChangesOnly.keptInv (finish_fr _ _ _) (by decide))
            refine Kept.trans ?_ (spoil_wf _ _)
            exact Kept.refl _
          · refine OutKept.next ?_
            refine Kept.trans ?_ (ChangesOnly.keptInv (finish_fr _ _ _) (by decide))
            refine Kept.trans ?_ (deliverAddr_wf _ _ _)
            refine Kept.trans ?_ (ChangesOnly.keptInv (freeBytes_fr _ _) (by decide))
            exact Kept.refl _

end Sys2Proof.Machine
end

