-- ==== Sys2Proof/Machine/HostViews.lean ====
section
/-! DEFINITION. What host reads return: configuration space (R4, R32, R33), and the three BARs (R34, R36, R47). Reads change nothing. -/

namespace Sys2Proof.Machine

open Sys2Proof

/-! ### Configuration space (Tables 2.3 and 2.5) -/

/-- The 24-bit class code: mass storage controller, other (Table 2.3). -/
def classCode : Nat := 0x018000

/-- An aligned 32-bit read of the identity registers of the type 0 header, at their PCI Express offsets (Table 2.3; log entry 75):
vendor and device ID, class code with Revision ID, header type, subsystem IDs, and the interrupt pin. None at another offset: its register
is a capability's or a BAR's. -/
def readConfig (s : State) (off : Nat) : Option Nat :=
  match off with
  | 0x00 => some (0x1F7D + 65536 * 0x8640)
  | 0x08 => some (deviceRevision + 256 * classCode)
  | 0x0C => some 0
  | 0x2C => some (s.glb.subsysVendor + 65536 * s.glb.subsysId)
  | 0x3C => some 0
  | _ => none

/-- A memory BAR: its size, and whether it is prefetchable (Table 2.5). -/
structure BarInfo where
  size : Nat
  prefetchable : Bool
  deriving DecidableEq, Repr

/-- The three 64-bit memory BARs, by number; BARs 1, 3 and 5 are their upper halves (R33, Table 2.5). -/
def barInfo (n : Nat) : Option BarInfo :=
  match n with
  | 0 => some { size := 0x200000, prefetchable := false }
  | 2 => some { size := 0x4000000, prefetchable := true }
  | 4 => some { size := 0x20000, prefetchable := false }
  | _ => none

/-! ### BAR0 (R34) -/

/-- A read of BAR0: 4 or 8 bytes aligned to their size; an 8-byte read takes both halves at one instant. Any other read returns zero. -/
def readBar0 (s : State) (off size : Nat) : Nat :=
  if 0x200000 < off + size then 0
  else if size = 4 ∧ off % 4 = 0 then read32 s off
  else if size = 8 ∧ off % 8 = 0 then read32 s off + 2 ^ 32 * read32 s (off + 4)
  else 0

/-! ### BAR2 (R36) -/

/-- A read of BAR2 returns zero, whatever its offset and size. -/
def readBar2 (_s : State) (_off _size : Nat) : Nat := 0

/-! ### BAR4 (R33, R47) -/

/-- The four words of an MSI-X table entry (R47). -/
def msixEntryWord (e : MsixEntry) (word : Nat) : Nat :=
  match word with
  | 0 => e.addr % 2 ^ 32
  | 1 => e.addr / 2 ^ 32
  | 2 => e.data
  | _ => b2n e.mask

/-- A 64-bit word of the pending bit array: vector v is bit (v mod 64) of word ⌊v / 64⌋ (R47). -/
def pbaWord (s : State) (n : Nat) : Nat := ((s.hst.msixPending.filter (fun v => v / 64 == n)).eraseDups.map (fun v => 2 ^ (v % 64))).sum

/-- An aligned 32-bit read of BAR4 from the MSI-X table on; none in the component registers, whose layout is the CXL 2.0 standard's (log
entry 75). -/
def readBar4 (s : State) (off : Nat) : Option Nat :=
  if off < 0x10000 ∨ 0x20000 ≤ off then none
  else if off % 4 ≠ 0 then some 0
  else if off < 0x18000 then some (msixEntryWord (msixEntry s ((off - 0x10000) / 16)) (off % 16 / 4))
  else if off < 0x18100 then some (pbaWord s ((off - 0x18000) / 8) / 2 ^ (8 * (off % 8)) % 2 ^ 32)
  else some 0

end Sys2Proof.Machine
end

