-- ==== Sys2Proof/Machine/Pins.lean ====
section
/-! DEFINITION. The package and its pins as far as the manual numbers them: balls, regions, rails, power by state and the TAP (R477 to R479,
R482, R483, R485, R495, R497). Nothing here is changed by a command. -/

namespace Sys2Proof.Machine

open Sys2Proof

/-! ### Balls (R477 to R479) -/

/-- The letters of a row's last position (R477). -/
def rowLetters : List String := ["A", "B", "C", "D", "E", "F", "G", "H", "J", "K", "L", "M", "N", "P", "T", "U", "V", "W", "Y"]

/-- The name of row 0 to 54: one letter, then AA to AY, then BA to BV (R477). -/
def rowName (r : Nat) : Option String :=
  if 55 ≤ r then none
  else (rowLetters[r % 19]?).map (fun l => (if r < 19 then "" else if r < 38 then "A" else "B") ++ l)

/-- The name of the ball in a row and a column 1 to 55 (R477). -/
def ballName (r c : Nat) : Option String := if c = 0 ∨ 55 < c then none else (rowName r).map (fun n => n ++ toString c)

/-- What lies in a region of the ball array (Table 20.2). -/
inductive BallRegion where
  | flashLow | flashHigh | dramLow | dramHigh | cxlTether | trail | service
  deriving DecidableEq, Repr

/-- The region of a ball (R478, Table 20.2). -/
def ballRegion (r c : Nat) : BallRegion :=
  if r < 8 then .flashLow
  else if 47 ≤ r then .flashHigh
  else if c ≤ 10 then .dramLow
  else if 46 ≤ c then .dramHigh
  else if r < 13 then .cxlTether
  else if 41 ≤ r then .trail
  else .service

/-- Ball counts of Table 20.3, group by group. -/
def ballCounts : List (String × Nat) :=
  [("CXL, REFCLK, PERST#, WAKE_N", 36), ("Tether", 32), ("Trail, TREFCLK", 98), ("DRAM", 652), ("Flash", 780), ("Boot SPI", 7),
   ("Footpath, PWR_FAIL_N, FAULT_N", 6), ("AVSBus, VDD_CORE sense", 5), ("JTAG", 5), ("Thermal diodes, XTAL, TEST_MODE", 7),
   ("VDD_CORE", 300), ("VDD_SRAM", 40), ("VDD_SERDES", 60)] ++
  [("VDDQ_DDR", 90), ("VCCQ_FL", 100), ("VDD_IO", 16), ("VDDA_PLL", 8), ("VSS", 760), ("Reserved", 23)]

/-- A service or board signal: its row, its column, and whether its domain is AON, which stays powered in every state (R479, Table
20.4). -/
def serviceBalls : List (String × Nat × Nat × Bool) :=
  [("XTAL_IN", 13, 11, true), ("XTAL_OUT", 13, 12, true), ("FP_TXD", 13, 14, true), ("FP_RXD", 13, 15, true),
   ("FP_RDY_OUT", 13, 16, true), ("FP_RDY_IN", 13, 17, true), ("PWR_FAIL_N", 13, 19, true), ("FAULT_N", 13, 20, true),
   ("PERST#", 13, 22, true), ("WAKE_N", 13, 23, true), ("TEST_MODE", 13, 38, true)] ++
  [("AVS_CLK", 13, 25, false), ("AVS_MDATA", 13, 26, false), ("AVS_SDATA", 13, 27, false), ("VDD_CORE_SENSE_P", 13, 29, false),
   ("VDD_CORE_SENSE_N", 13, 30, false), ("TCK", 13, 32, false), ("TMS", 13, 33, false), ("TDI", 13, 34, false),
   ("TDO", 13, 35, false), ("TRST_N", 13, 36, false)] ++
  [("SPI_CLK", 14, 14, false), ("SPI_CS_N", 14, 15, false), ("SPI_IO0", 14, 16, false), ("SPI_IO1", 14, 17, false),
   ("SPI_IO2", 14, 18, false), ("SPI_IO3", 14, 19, false), ("SPI_RESET_N", 14, 20, false), ("THERM0_A", 14, 11, false),
   ("THERM0_K", 14, 12, false), ("THERM1_A", 14, 44, false), ("THERM1_K", 14, 45, false)] ++
  [("REFCLK_P", 10, 28, false), ("REFCLK_N", 10, 29, false), ("TREFCLK_P", 43, 28, false), ("TREFCLK_N", 43, 29, false)]

/-! ### Rails (R482, R483, R485) -/

/-- The rails of Table 20.7. -/
inductive Rail where
  | core | sram | serdes | ddr | flash | io | pll
  deriving DecidableEq, Repr

/-- The operating range of a rail in mV; VDD_CORE's is its set point by 3 % either way (R483, Table 20.7). -/
def Rail.range (r : Rail) (set : Nat) : Nat × Nat :=
  match r with
  | .core => ((97 * set + 99) / 100, 103 * set / 100)
  | .sram => (727, 773)
  | .serdes => (776, 824)
  | .ddr => (1067, 1133)
  | .flash => (1140, 1260)
  | .io => (1710, 1890)
  | .pll => (1710, 1890)

/-- The most current a rail draws, in mA (Table 20.7). -/
def Rail.current (r : Rail) : Nat :=
  match r with
  | .core => 85000
  | .sram => 6000
  | .serdes => 11000
  | .ddr => 5000
  | .flash => 7000
  | .io => 400
  | .pll => 150

/-- The absolute maximum of a rail in mV; the minimum of every rail is -300 mV (R482, Table 20.6). -/
def Rail.absMax (r : Rail) : Nat :=
  match r with
  | .core => 1000
  | .sram => 950
  | .serdes => 1000
  | .ddr => 1400
  | .flash => 1500
  | .io => 2200
  | .pll => 2200

/-- The group in which a rail ramps at power-up (R485). -/
def Rail.group (r : Rail) : Nat :=
  match r with
  | .io => 1
  | .pll => 1
  | .core => 2
  | .sram => 2
  | .serdes => 2
  | .ddr => 3
  | .flash => 3

/-- Rail voltages in mV lie within operating conditions, VDD_CORE about the set point the device commands (R483). -/
def railsWithin (s : State) (mv : Rail → Nat) : Bool :=
  [Rail.core, .sram, .serdes, .ddr, .flash, .io, .pll].all (fun r =>
    decide ((r.range s.hlt.rail).1 ≤ mv r) && decide (mv r ≤ (r.range s.hlt.rail).2))

/-! ### Power by state (R495, Table 20.15) -/

/-- The most power the device draws from all its rails, in mW. -/
def powerLimit (s : State) : Nat :=
  if !s.glb.poweredOn then 0
  else if s.med.dumpActive then 34000
  else if s.flt.halted then 6000
  else if s.med.dumpHeld then 8000
  else if s.glb.booting then 45000
  else
    match s.pwr.state with
    | 0 => 88000
    | 1 => 24000
    | 2 => if s.pwr.linkPm = 0 then 8500 else 7000
    | _ => 1100

/-! ### The TAP (R497) -/

/-- What a TAP instruction does (Table 20.17). -/
inductive TapAction where
  | extest | sample | idcode | clamp | highz | bypass
  deriving DecidableEq, Repr

/-- What the TAP's instruction does now: EXTEST, CLAMP and HIGHZ act as SAMPLE/PRELOAD but while PERST# is asserted, and every other code as
BYPASS. -/
def tapAction (s : State) : TapAction :=
  match s.glb.tapIr with
  | 0x00 => if s.pwr.perstN then .sample else .extest
  | 0x01 => .sample
  | 0x02 => .idcode
  | 0x03 => if s.pwr.perstN then .sample else .clamp
  | 0x04 => if s.pwr.perstN then .sample else .highz
  | _ => .bypass

/-- The value that IDCODE shifts out: version 1, part 0x8640, manufacturer 0x5D3, and 1 (Table 20.17). -/
def tapIdCode : Nat := 0x10000000 + 0x8640 * 4096 + 0x5D3 * 2 + 1

/-- Cells between TDI and TDO: the boundary register, the identity register, or the bypass bit. -/
def tapLength (s : State) : Nat :=
  match tapAction s with
  | .extest => 2912
  | .sample => 2912
  | .idcode => 32
  | _ => 1

end Sys2Proof.Machine
end

