-- ==== Sys2Proof/WellFormed.lean ====
section
/-! DEFINITION. Which commands are well formed: every operand that names an object or a field lies in the range its rule
gives it. Ranges of packet fields and register values are checked by the device itself (R91, R34) and not here. -/

namespace Sys2Proof

/-- Every operand of a command within the range of what it names. -/
def Instr.wf : Instr → Bool
  | .slotWrite addr _ _ _ _ => decide (addr < 0x4000000)
  | .intakeAccept => true
  | .lockGrant tag => decide (tag < 32768)
  | .lockEntryFree => true
  | .stagingAdmit => true
  | .fragmentListRead tag _ => decide (tag < 32768)
  | .commandComplete tag => decide (tag < 32768)
  | .replyWrite ring _ => decide (ring < 4096)
  | .replyWriteError ring _ => decide (ring < 4096)
  | .ringFullNotice ring => decide (ring < 4096)
  | .coalesceTimeout ring => decide (ring < 4096)
  | .msixUnmask _ => true
  | .rrhHeadWrite ring value => decide (ring < 4096) && decide (value < 0x100000000)
  | .rrhIntMaskClear ring value => decide (ring < 4096) && decide (value < 0x100000000)
  | .tskRing0CtrlWrite value => decide (value < 0x100000000)
  | .hstBiasFlipGo value => decide (value < 0x100000000)
  | .fltAckWrite value => decide (value < 0x100000000)
  | .fltSrcWrite value => decide (value < 0x100000000)
  | .fltCeLimitWrite value => decide (value < 0x100000000)
  | .fpLockWrite value => decide (value < 0x100000000)
  | .medGcCtrlWrite value => decide (value < 0x100000000)
  | .medSealTimerWrite value => decide (value < 0x100000000)
  | .medPatrolCtrlWrite value => decide (value < 0x100000000)
  | .kclCfgWrite cluster value => decide (cluster < 8) && decide (value < 0x100000000)
  | .waycTableEnable table value => decide (table < 8) && decide (value < 0x100000000)
  | .waycTableDisable table value => decide (table < 8) && decide (value < 0x100000000)
  | .hltPolicyWrite _ value => decide (value < 0x100000000)
  | .pairWitnessWrite index value => decide (index < 3) && decide (value < 0x100000000)
  | .meshRebuildCtrlWrite value => decide (value < 0x100000000)
  | .secDgCtrlWrite value => decide (value < 0x100000000)
  | .registerWrite offset size value => decide (offset < 0x200000) && decide (size < 9) && decide (value < 0x10000000000000000)
  | .identify tag => decide (tag < 32768)
  | .getLog tag => decide (tag < 32768)
  | .setFeature tag => decide (tag < 32768)
  | .getFeature tag => decide (tag < 32768)
  | .fwDownload tag _ => decide (tag < 32768)
  | .fwActivate tag _ => decide (tag < 32768)
  | .activationReset => true
  | .queueCreate tag => decide (tag < 32768)
  | .queueDelete tag => decide (tag < 32768)
  | .ringCreate tag => decide (tag < 32768)
  | .ringDelete tag => decide (tag < 32768)
  | .queueQuery tag => decide (tag < 32768)
  | .volumeCreate tag => decide (tag < 32768)
  | .volumeDelete tag => decide (tag < 32768)
  | .volumeQuery tag => decide (tag < 32768)
  | .format tag => decide (tag < 32768)
  | .formatWalk => true
  | .read tag _ => decide (tag < 32768)
  | .write tag _ => decide (tag < 32768)
  | .trim tag => decide (tag < 32768)
  | .flush tag => decide (tag < 32768)
  | .compare tag _ _ => decide (tag < 32768)
  | .writeZeroes tag => decide (tag < 32768)
  | .readToArena tag _ => decide (tag < 32768)
  | .compress tag _ _ => decide (tag < 32768)
  | .decompress tag _ => decide (tag < 32768)
  | .digest tag _ => decide (tag < 32768)
  | .digestVerify tag _ _ => decide (tag < 32768)
  | .waymarkLoad tag _ => decide (tag < 32768)
  | .waymarkSearch tag _ _ => decide (tag < 32768)
  | .waymarkRead tag _ => decide (tag < 32768)
  | .programLoad tag _ => decide (tag < 32768)
  | .programUnload tag => decide (tag < 32768)
  | .scanRun tag _ => decide (tag < 32768)
  | .scanAreaPlace tag => decide (tag < 32768)
  | .scanStop tag => decide (tag < 32768)
  | .scanQuery tag => decide (tag < 32768)
  | .scanRunEnd tag => decide (tag < 32768)
  | .keyImport tag _ => decide (tag < 32768)
  | .keyDestroy tag => decide (tag < 32768)
  | .extend tag _ => decide (tag < 32768)
  | .attest tag _ => decide (tag < 32768)
  | .selfTest tag failed => decide (tag < 32768) && decide (failed < 0x1000000)
  | .sanitise tag => decide (tag < 32768)
  | .sanitiseStart => true
  | .sanitiseUnitDone _ => true
  | .sanitiseStatus tag => decide (tag < 32768)
  | .tetherPair tag _ => decide (tag < 32768)
  | .pairHelloTimeout => true
  | .tetherUnpair tag => decide (tag < 32768)
  | .takeover tag => decide (tag < 32768)
  | .meshConfig tag => decide (tag < 32768)
  | .stripeGroupJoin tag _ => decide (tag < 32768)
  | .stripeGroupLeave tag => decide (tag < 32768)
  | .rebuildStart tag => decide (tag < 32768)
  | .rebuildStatus tag => decide (tag < 32768)
  | .powerSet tag => decide (tag < 32768)
  | .powerQuery tag => decide (tag < 32768)
  | .healthQuery tag => decide (tag < 32768)
  | .marginPlan tag => decide (tag < 32768)
  | .testControl tag => decide (tag < 32768)
  | .abort tag => decide (tag < 32768)
  | .nop tag => decide (tag < 32768)
  | .conventionalReset kind => decide (kind < 256)
  | .perstDeassert => true
  | .flr => true
  | .powerOn => true
  | .boot _ => true
  | .linkTraining speed width _ _ => decide (speed < 6) && decide (width < 9)
  | .linkDowntrain speed width => decide (speed < 6) && decide (width < 9)
  | .ideCheckFail _ => true
  | .ideKeyRefresh _ => true
  | .gpfPhase1 => true
  | .gpfPhase2 => true
  | .cxlMemRead addr _ => decide (addr < 0x10000000000000000)
  | .cxlMemWrite addr _ _ => decide (addr < 0x10000000000000000)
  | .hdmDecoderCommit index base size ways gran pos => decide (index < 2) && decide (base < 0x10000000000000000) && decide (size < 0x10000000000000000) && decide (ways < 9) && decide (gran < 16385) && decide (pos < 8)
  | .handshakeTimeout island sender => decide (island < 45) && decide (sender < 64)
  | .islandIdleGate island => decide (island < 45)
  | .islandWake island _ => decide (island < 45)
  | .programComplete _ => true
  | .segmentSealTimeout band => decide (band < 0x400000)
  | .programFail band channel => decide (band < 0x400000) && decide (channel < 32)
  | .eraseComplete band _ => decide (band < 0x400000)
  | .journalLineFlush => true
  | .checkpointStart => true
  | .checkpointRootWrite => true
  | .leafFetchComplete vol stretch level => decide (vol < 65536) && decide (stretch < 0x20000000) && decide (level < 5)
  | .pageOut vol stretch => decide (vol < 65536) && decide (stretch < 0x20000000)
  | .gcRun => true
  | .gcCommit vol lba => decide (vol < 65536) && decide (lba < 0x4000000000)
  | .bandErase band => decide (band < 0x400000)
  | .patrolRead cw level => decide (cw < 0x10000000000) && decide (level < 5)
  | .patrolOverdue band => decide (band < 0x400000)
  | .relocation vol lba => decide (vol < 65536) && decide (lba < 0x4000000000)
  | .pwrFailAssert => true
  | .dumpComplete us => decide (us < 0x100000000)
  | .warmRestart => true
  | .holdupSenseStuck => true
  | .refreshDue rank _ => decide (rank < 8)
  | .mr4Poll rank field => decide (rank < 8) && decide (field < 16)
  | .dqsRetrack rank _ => decide (rank < 8)
  | .dramFullRetrain channel _ => decide (channel < 32)
  | .scrub line _ => decide (line < 0x80000000)
  | .dramRequest _ => true
  | .rowIdleTimeout sub bank => decide (sub < 8) && decide (bank < 32)
  | .nrReseed channel => decide (channel < 32)
  | .instanceDispatch _ => true
  | .quantumExpiry _ => true
  | .waitPreempt _ => true
  | .contextSaveDone _ => true
  | .laneBlockVisible run num _ => decide (run < 32768) && decide (num < 64)
  | .worklistExtend run num => decide (run < 32768) && decide (num < 64)
  | .timerExpiry run num timer => decide (run < 32768) && decide (num < 64) && decide (timer < 2)
  | .mboxDeliver run sender dest => decide (run < 32768) && decide (sender < 64) && decide (dest < 64)
  | .engineRequestDone run num _ _ _ => decide (run < 32768) && decide (num < 64)
  | .kAdd _ _ _ => true
  | .kSub _ _ _ => true
  | .kAdc _ _ _ => true
  | .kSbc _ _ _ => true
  | .kAnd _ _ _ => true
  | .kOr _ _ _ => true
  | .kXor _ _ _ => true
  | .kMov _ _ _ => true
  | .kCmp _ _ _ => true
  | .kTst _ _ _ => true
  | .kShl _ _ _ => true
  | .kShr _ _ _ => true
  | .kSar _ _ _ => true
  | .kRol _ _ _ => true
  | .kMul _ _ _ => true
  | .kMulh _ _ _ => true
  | .kAddi _ exts _ imm => exts.length ≤ 3 && exts.all (fun e => decide (e < 1024)) && decide (imm < 64)
  | .kCmpi _ exts _ imm => exts.length ≤ 3 && exts.all (fun e => decide (e < 1024)) && decide (imm < 64)
  | .kMovi _ exts _ imm => exts.length ≤ 3 && exts.all (fun e => decide (e < 1024)) && decide (imm < 64)
  | .kBeq _ off => decide (off < 256)
  | .kBne _ off => decide (off < 256)
  | .kBcs _ off => decide (off < 256)
  | .kBcc _ off => decide (off < 256)
  | .kBmi _ off => decide (off < 256)
  | .kBpl _ off => decide (off < 256)
  | .kBms _ off => decide (off < 256)
  | .kBmc _ off => decide (off < 256)
  | .kBhi _ off => decide (off < 256)
  | .kBls _ off => decide (off < 256)
  | .kBge _ off => decide (off < 256)
  | .kBlt _ off => decide (off < 256)
  | .kBgt _ off => decide (off < 256)
  | .kBle _ off => decide (off < 256)
  | .kBal _ off => decide (off < 256)
  | .kBvs _ off => decide (off < 256)
  | .kLd _ _ _ _ => true
  | .kSt _ _ _ _ => true
  | .kLdb _ _ _ _ => true
  | .kStb _ _ _ _ => true
  | .kIn _ _ _ _ => true
  | .kOut _ _ _ => true
  | .kJmp _ _ => true
  | .kCall _ _ => true
  | .kRet _ => true
  | .kRep _ _ _ => true
  | .kBrpt _ n => decide (n < 256)
  | .kCopy _ _ _ => true
  | .kMatch _ _ _ _ => true
  | .kSeek _ _ _ _ => true
  | .kPull _ _ _ _ => true
  | .kPush _ _ _ _ => true
  | .kFill _ _ _ _ => true
  | .kiteNop _ => true
  | .kWait _ => true
  | .kHalt _ => true
  | .kTrap _ => true
  | .kMovsr _ _ _ _ => true
  | .kLdpw _ _ _ _ => true
  | .scanData _ _ _ _ => true
  | .scanRelease _ _ _ => true
  | .evClear _ _ _ => true
  | .timerLoad _ _ _ => true
  | .mboxRecv _ _ _ => true
  | .mboxSend _ _ _ => true
  | .wmGo _ _ _ => true
  | .dgOpen _ _ _ => true
  | .dgFeed _ _ _ => true
  | .dgFinal _ _ _ => true
  | .cpGo _ _ _ => true
  | .dmaPut _ _ _ => true
  | .dmaAppend _ _ _ => true
  | .waymarkSearchQueue table _ => decide (table < 8)
  | .sweepStep _ _ _ _ => true
  | .tableReady table => decide (table < 8)
  | .pipeGrant _ => true
  | .inlineCompress vol lba _ => decide (vol < 65536) && decide (lba < 0x4000000000)
  | .inlineInflate tag lba _ => decide (tag < 32768) && decide (lba < 0x4000000000)
  | .digestQuantum => true
  | .dgIdleTimeout context => decide (context < 64)
  | .securityAlarm cause => decide (cause < 16)
  | .periodicSelftest failed => decide (failed < 0x1000000)
  | .keyUnwrap vol => decide (vol < 65536)
  | .linkRekey link => decide (link < 7)
  | .tetherFlitReceive _ => true
  | .tetherReplayTimeout => true
  | .tetherLinkReset speed width => decide (speed < 6) && decide (width < 9)
  | .hello _ => true
  | .keyTransfer vol _ capacity attrs => decide (vol < 65536) && decide (capacity < 0x8000000000) && decide (attrs < 8)
  | .mirrorWrite seq vol op lba blocks _ => decide (seq < 0x10000000000000000) && decide (vol < 65536) && decide (op < 3) && decide (lba < 0x4000000000) && decide (blocks < 0x100000000)
  | .mirrorConfirm seq => decide (seq < 0x10000000000000000)
  | .mirrorRelease seq => decide (seq < 0x10000000000000000)
  | .journal first _ => decide (first < 0x10000000000000000)
  | .journalConfirm last => decide (last < 0x10000000000000000)
  | .root no _ => decide (no < 0x10000000000000000)
  | .heartbeat count state status _ => decide (count < 0x10000000000000000) && decide (state < 8) && decide (status < 32)
  | .heartbeatSend => true
  | .heartbeatTimeout => true
  | .probeTimer => true
  | .claimRetry => true
  | .partnerDirectoryRebuild _ => true
  | .blockRead req vol lba blocks _ => decide (req < 0x10000000000000000) && decide (vol < 65536) && decide (lba < 0x4000000000) && decide (blocks < 0x100000000)
  | .blockData req status _ => decide (req < 0x10000000000000000) && decide (status < 65536)
  | .handback wseq vol form lba _ => decide (wseq < 0x10000000000000000) && decide (vol < 65536) && decide (form < 2) && decide (lba < 0x4000000000)
  | .handbackPass _ => true
  | .cutover => true
  | .yieldMsg => true
  | .unpair => true
  | .tetherStable => true
  | .trailFlitReceive port _ => decide (port < 6)
  | .trailReplayTimeout port => decide (port < 6)
  | .portFailed port => decide (port < 6)
  | .linkHello port serial node shape _ _ => decide (port < 6) && decide (serial < 0x10000000000000000) && decide (node < 2048) && decide (shape < 16384)
  | .linkState src seq _ => decide (src < 2048) && decide (seq < 0x10000000000000000)
  | .unreachable src id typ => decide (src < 2048) && decide (id < 0x10000000000000000) && decide (typ < 256)
  | .probe src pairId sender target number => decide (src < 2048) && decide (pairId < 0x10000000000000000) && decide (sender < 0x10000000000000000) && decide (target < 0x10000000000000000) && decide (number < 0x100000000)
  | .probeAck src pairId sender target number state status => decide (src < 2048) && decide (pairId < 0x10000000000000000) && decide (sender < 0x10000000000000000) && decide (target < 0x10000000000000000) && decide (number < 0x100000000) && decide (state < 8) && decide (status < 32)
  | .claim src pairId claimant partner number _ => decide (src < 2048) && decide (pairId < 0x10000000000000000) && decide (claimant < 0x10000000000000000) && decide (partner < 0x10000000000000000) && decide (number < 0x100000000)
  | .claimGrant src pairId claimant partner number _ => decide (src < 2048) && decide (pairId < 0x10000000000000000) && decide (claimant < 0x10000000000000000) && decide (partner < 0x10000000000000000) && decide (number < 0x100000000)
  | .claimRefuse src pairId claimant partner number holder => decide (src < 2048) && decide (pairId < 0x10000000000000000) && decide (claimant < 0x10000000000000000) && decide (partner < 0x10000000000000000) && decide (number < 0x100000000) && decide (holder < 0x10000000000000000)
  | .tunnel src _ => decide (src < 2048)
  | .groupHello src group k m index _ => decide (src < 2048) && decide (group < 4096) && decide (k < 256) && decide (m < 256) && decide (index < 24)
  | .intent src group stripe d band seg => decide (src < 2048) && decide (group < 4096) && decide (stripe < 0x10000000000000000) && decide (d < 20) && decide (band < 0x400000) && decide (seg < 1024)
  | .intentReply src group stripe answer lowest => decide (src < 2048) && decide (group < 4096) && decide (stripe < 0x10000000000000000) && decide (answer < 3) && decide (lowest < 0x10000000000000000)
  | .stripeDeadline group stripe => decide (group < 4096) && decide (stripe < 0x10000000000000000)
  | .contrib src group stripe p d j _ => decide (src < 2048) && decide (group < 4096) && decide (stripe < 0x10000000000000000) && decide (p < 256) && decide (d < 20) && decide (j < 4)
  | .close src group stripe _ => decide (src < 2048) && decide (group < 4096) && decide (stripe < 0x10000000000000000)
  | .parityProgram group stripe => decide (group < 4096) && decide (stripe < 0x10000000000000000)
  | .parityDone src group stripe j => decide (src < 2048) && decide (group < 4096) && decide (stripe < 0x10000000000000000) && decide (j < 4)
  | .gossip src group _ => decide (src < 2048) && decide (group < 4096)
  | .gossipSend => true
  | .release src group stripe => decide (src < 2048) && decide (group < 4096) && decide (stripe < 0x10000000000000000)
  | .resend src group stripe d => decide (src < 2048) && decide (group < 4096) && decide (stripe < 0x10000000000000000) && decide (d < 20)
  | .locate src group request member band seg => decide (src < 2048) && decide (group < 4096) && decide (request < 0x10000000000000000) && decide (member < 2048) && decide (band < 0x100000000) && decide (seg < 1024)
  | .locateAns src request _ => decide (src < 2048) && decide (request < 0x10000000000000000)
  | .reconReq src group request stripe weight p n d _ _ => decide (src < 2048) && decide (group < 4096) && decide (request < 0x10000000000000000) && decide (stripe < 0x10000000000000000) && decide (weight < 256) && decide (p < 256) && decide (n < 17) && decide (d < 20)
  | .reconSlice src request p d _ _ => decide (src < 2048) && decide (request < 0x10000000000000000) && decide (p < 256) && decide (d < 20)
  | .rebuildPlan src group stripe _ _ => decide (src < 2048) && decide (group < 4096) && decide (stripe < 0x10000000000000000)
  | .rebuildPart src group stripe p d _ _ => decide (src < 2048) && decide (group < 4096) && decide (stripe < 0x10000000000000000) && decide (p < 256) && decide (d < 20)
  | .memberUpdate src group _ => decide (src < 2048) && decide (group < 4096)
  | .memberLost group index => decide (group < 4096) && decide (index < 24)
  | .stripeIndexReady => true
  | .glideIdleEntry => true
  | .mooredIdleEntry => true
  | .transitionPhaseEnd _ _ => true
  | .commandedEntryTimeout => true
  | .linkL2Entry => true
  | .ballastArmExpiry => true
  | .mooredWake cause => decide (cause < 16)
  | .wakeNAssert => true
  | .wakeStuck => true
  | .brownOut => true
  | .inputGlitch _ => true
  | .fpRdyInChange _ => true
  | .faultRaise src _ => decide (src < 512)
  | .faultReaction => true
  | .quietPeriodEnd => true
  | .containReady island => decide (island < 45)
  | .shadowWindowEnd island => decide (island < 45)
  | .loopAction island slack => decide (island < 45) && decide (slack < 9)
  | .loopUndo island slack => decide (island < 45) && decide (slack < 9)
  | .degradationMeasure island degradation => decide (island < 45) && decide (degradation < 0x1000000)
  | .thermalThrottle _ => true
  | .avsWriteFail => true
  | .plannerRun island _ => decide (island < 45)
  | .planTimeout => true
  | .testSliceStart island => decide (island < 45)
  | .testSliceAbort island => decide (island < 45)
  | .testSliceDone island _ _ => decide (island < 45)
  | .forcedWindowAnnounce island => decide (island < 45)
  | .forcedWindow island _ _ => decide (island < 45)
  | .footpathCommand _ _ => true
  | .footpathData _ _ => true
  | .footpathNak _ _ => true
  | .footpathBaud _ _ => true
  | .footpathBreak => true
  | .packetIdleTimeout => true
  | .dataChunkTimeout => true
  | .fpRxdWake => true
  | .ballastExit => true
  | .pwrFailDeassert => true
  | .wakeNRelease => true
  | .railLoss => true
  | .doeMessage _ => true
  | .illegalInstruction _ _ => true
  | .tapInstruction code => decide (code < 64)
  | .tapReset => true
  | .footpathBadKind kind => decide (kind < 256)
  | .groupHelloTimeout group => decide (group < 4096)

end Sys2Proof
end

