-- ==== Sys2Proof/Tests/Slice0.lean ====
section
/-! SUPPORT. Small tests of the model, and the states that show each statement's hypotheses can be met. -/

namespace Sys2Proof.Tests
set_option Elab.async false
open Sys2Proof Sys2Proof.Machine

/-- A packet of an opcode with every other field zero. -/
def pk (opc : Nat) : Packet :=
  { opc, flags := 0, cookie := 0, dlen := 0, vol := 0, addr := 0, dptr := 0, p0 := 0, p1 := 0, p2 := 0, p3 := 0, p4 := 0, p5 := 0,
    rsv := 0, chk := 0 }

/-- An accepted command that may carry out its effect: tag 5, from queue 0. -/
def op (p : Packet) : Op :=
  { tag := 5, seq := 9, src := .queue 0, ring := 0, pkt := p, classF := false, covered := false, stage := .ready, volGen := none,
    frags := [], rx := [], rxSeq := 0, tx := [], pins := [], inflated := [], inflateBad := [], moving := false, mirror := none,
    waitStaging := false, granules := [], ctx := none, reply := none, aborted := false, discard := false, after := none, aux := 0 }

/-- The reset state with the host link in CXL mode. -/
def up : State := upHst State.reset (fun h => { h with mode := 2 })

/-- The state `up` with one accepted command. -/
def run (o : Op) : State := upTsk up (fun t => { t with ops := [o] })

/-- A full-size packet slot's 64 bytes: zeros with a right CHK. -/
def slotBytes64 : List Byte := zeros 60 ++ le 4 (crc32c (zeros 60))

/-- Ring 0 enabled, with more rings and waiting replies as a test needs. -/
def ring : Ring := { Ring.zero with sizeLog2 := 6, count := 4 }

/-- A reply entry. -/
def entry : Entry := { cookie := 0, qid := 0, status := 0, detail := 0, tag := 0, r0 := 0, r1 := 0 }

/-- The state `up` with ring 0 enabled and holding `r`, and events waiting. -/
def withRing (r : Ring) (l : List Entry) : State := upTsk up (fun t => { t with rings := [(0, r)], ring0En := true, events := l })

/-- A running device whose register window answers. -/
def barS : State := upGlb up (fun g => { g with ready := true, booting := false })

/-- The state an outcome goes on to. -/
def after (x : Host.Outcome State Fault Refusal) : State :=
  match x with
  | .next t => t
  | _ => State.reset

/-- A small volume. -/
def vol2 : Volume :=
  { capacity := 16, comp := false, cold := false, imported := false, keyId := 1, gen := 3, foster := false, dirBase := 0, dir := [],
    formatting := false }

/-- A COMPARE of block 1 of volume 2. -/
def compareO : Op := { op { pk 0x0405 with vol := 2, addr := 1, dlen := 4096 } with volGen := some 3 }

/-- A device that holds that command, and the block in staging. -/
def compareS : State :=
  upMed (run compareO) (fun m => { m with
    volumes := [(2, vol2)],
    staging := [{ vol := 2, lba := 1, data := [7], seq := 1, done := true, comp := none, lost := false, mirror := none }] })

/-- A band with nothing in it. -/
def band0 (st : BandState) (x : Stream) : Band :=
  { state := st, stream := x, blocks := [], frontier := 0, segsSealed := 0, segValid := [], copies := 0, reads := 0, unreleased := [],
    failed := [], reloc := 0, overdue := false, deadline := 0, patrolAt := 0 }

/-- 4,096 zero bytes as one fixed-code stream, made with another implementation of the format. -/
def zeroBlock : List Byte :=
  [99, 96, 24, 5, 163, 96, 20, 140, 130, 81, 48, 10, 70, 193, 40, 24, 5, 163, 96, 20, 140, 130, 81, 48, 10, 70, 193, 112, 7, 0]

theorem test_inflate_zero_block : (inflateBlock zeroBlock).isSome = true := by decide +kernel

/-- A codeword that holds one stored block. -/
def cw1 (kind lba : Nat) (b : StoredBlock) : Codeword :=
  { vol := 2, kind, used := b.len, starts := 1, gcCopy := false, foster := false, lba, wseq := 0, group := 0xFFF, seg := 0, blocks := [b],
    entries := [], raw := [] }

/-- The state of a command on volume 2, whose block 1 is stored compressed in codeword 0; its key is cached. -/
def packedS (o : Op) : State :=
  upSec (upMed (run o) (fun m => { m with
    volumes := [(2, { vol2 with dir := [(0, .leaf none)] })],
    leafCache := [{ vol := 2, stretch := 0, entries := [(1, { form := .comp 0 0, epoch := 0 })], dirty := true }],
    flash := [(0, cw1 1 1 { unit := 0, len := 1, c := true, data := zeroBlock, keyId := 1 })] })) (fun e => { e with keyCache := [2] })

/-- A READ of block 1 of volume 2. -/
def readO : Op := { op { pk 0x0401 with vol := 2, addr := 1, dlen := 4096 } with volGen := some 3 }

/-- Block 1 of volume 2 in staging. -/
def stg : Staged := { vol := 2, lba := 1, data := [7], seq := 1, done := true, comp := none, lost := false, mirror := none }

/-- A scan run that has started. -/
def run1 : Run :=
  { tag := 5, seq := 9, vol := 2, first := 0, count := 4, slot := 0, m := 2, params := [], dlen := 0, nextFree := 0, extent := 0, hubs := [],
    recon := [], unrec := [], unplaced := [], started := true, ending := none }

/-- A program without a shared area. -/
def prog1 : Program := { load := 1, entry := 0, units := 0, perm := 0, code := [], data := [], unloading := false }

/-- The first 60 bytes of a program image of one word. -/
def imageHead : List Byte :=
  le 4 0x4554494B ++ le 2 1 ++ le 2 0 ++ le 2 1 ++ le 2 0 ++ le 4 0 ++ zeros 40 ++ le 4 (crc32c (le 2 0))

/-- A sound program image of one word. -/
def imageBytes : List Byte := imageHead ++ le 4 (crc32c imageHead) ++ le 2 0

/-- An active stripe group of two members. -/
def grp1 : Group :=
  { id := 7, k := 1, m := 1, index := 0, state := 2, lost := [], members := [0, 1], hello := [], leaving := [], next := 0, tag := none, since := 0,
    closed := 0, rebuilds := 0, failedStripes := 0 }

/-- A rebuild that has begun. -/
def reb1 : Rebuild :=
  { group := 7, request := 0, answers := [], todo := [], bad := [], part := [], rebuilt := 0, since := 0, failed := 0, gathered := false }

/-- A transition from Run to Glide. -/
def tr1 : Transition :=
  { req := { tag := none, target := 1, source := 0 }, origin := 0, phase := 1, abort := none, exit := false }

/-- A checkpoint root with nothing in it. -/
def root1 : Root := { ckptNo := 1, jstart := 0, wseqCeil := 0, time := 0, volumes := [], bands := [] }

/-- A board of 16 channels with no blocks and the smallest DRAM. -/
def board0 : BoardIn :=
  { channels := 16, luns := 1, planes := 1, blockMib := 4, rawBytes := 0, page := List.replicate 32 0xFF, profileOk := true, blocks := List.replicate 16 [], rate := 1,
    x4 := false, twoRanks := false, density := 0, dramGib := 32, trainOk := true }

/-- A start-up that finds it. -/
def found0 : BootIn :=
  { board := board0, hashMismatch := false, selftestFailed := 0, service := false, pjmUncorrectable := false, dumpUnreadable := false,
    ms := 100, mirror := [], media := {} }

/-- A slot whose flash profile, at offset 0x80 of its configuration block, names that board's flash. -/
def flashSlot : SlotBytes :=
  slotPut (slotPut [] (cfgOff + 0x10) (le 4 0x80)) (cfgOff + 0x80 + 0x20) (le 2 800 ++ [16, 1, 1, 1, 4, 8] ++ zeros 12 ++ le 4 13500)

/-- A device with trained DRAM that booted from that slot. -/
def flashS : State :=
  upDrc (upGlb State.reset (fun g => { g with primary := { g.primary with bytes := flashSlot } })) (fun d => { d with trained := true })

/-- A device that serves CXL.mem through decoder 0. -/
def memS : State :=
  upDrc (upHst up (fun h => { h with
    arenaCur := 1, hdm0 := { base := 0, size := 0x10000000, ways := 1, gran := 256, pos := 0, committed := true, error := false } }))
    (fun d => { d with trained := true })


/-- The reset state with one band of the flash. -/
def bandS (b : Nat) (x : Band) : State := upMed State.reset (fun m => { m with bands := [(b, x)] })

/-- A copy of block 1 of volume 2 that waits. -/
def gc1 : GcCopy := { vol := 2, lba := 1, srcPa := 0, epoch := 0, dstPa := 2 ^ 22, reloc := false }

/-- A device whose DRAM runs. -/
def dramS : State := upDrc up (fun d => { d with trained := true, capacity := 1 })

/-- Volume 2 with one leaf page, which lies in codeword 0. -/
def leafCw : Codeword := { cw1 2 0 { unit := 0, len := 16, c := false, data := [], keyId := 1 } with blocks := [] }

/-- A device that fetches that page. -/
def leafS : State :=
  upMed up (fun m => { m with
    volumes := [(2, { vol2 with dir := [(0, .leaf (some 0))] })], flash := [(0, leafCw)], leafFetch := [(2, 0)], relocLevel := 2 })

/-- A device with a copy of block 1 of volume 2 whose source the map still names. -/
def moveS : State := upMed (packedS readO) (fun m => { m with copies := [gc1] })

/-- The same block in the relocation queue. -/
def relocS : State := upMed (packedS readO) (fun m => { m with relocQueue := [gc1] })

/-- An open band under patrol with one sealed segment. -/
def patrolB : Band := { band0 .opened .hot with segsSealed := 1, deadline := 5 }

/-- A ready device that patrols it. -/
def patrolS : State :=
  upMed barS (fun m => { m with
    bands := [(0, patrolB)], relocLevel := 2, bandLimit := 1,
    volumes := [(2, { vol2 with dir := [(0, .leaf none)] })],
    leafCache := [{ vol := 2, stretch := 0, entries := [(1, { form := .comp 0 0, epoch := 0 })], dirty := true }],
    flash := [(0, cw1 1 1 { unit := 0, len := 1, c := true, data := zeroBlock, keyId := 1 })] })

/-- A plan whose window opens at once. -/
def planLog0 : PlanLog :=
  { no := 1, partialPlan := false, time := 0, duration := 0, life := 0, worst := 0, headroom := 0, bandsMoved := 0, bandsShort := 0,
    overrides := 0, window := 0, islands := [], measured := [] }

/-- An instance dispatched on core 0, every register zero. -/
def inst1 : Instance :=
  { run := 5, num := 0, cluster := 0, state := .dispatched 0, resumed := false,
    regs := { g := List.replicate 16 0, pc := 0, fl := flagsOf 0, bs := 0, be := 0, active := false, ev := 0, cycles := 0, cyHold := 0 },
    localMem := [], lane := { work := [], next := 0, stop := 0, ring := [], used := 0, offset := 0, mem := [], passed := 0 },
    ports := Ports.zero, latched := 0, timer0 := 0, timer1 := 0, inbox := [], outbox := [] }

/-- A device whose core 0 runs an instance on the words given. -/
def kiteI (code : List Nat) (i : Instance) : State :=
  upKite State.reset (fun k => { k with
    cores := [{ state := 2, image := some 1, inst := some (5, 0) }], insts := [i], runs := [run1],
    programs := [(0, { prog1 with code, perm := 2 ^ 256 - 1 })] })

/-- The same with every register zero. -/
def kiteS (code : List Nat) : State := kiteI code inst1

/-- The same instance with one register set. -/
def regI (r : Reg) (w : Word) : Instance := { inst1 with regs := inst1.regs.put r w }

/-- The same instance with a byte at address 4, which ad names. -/
def matchI : Instance := { regI 13 4 with localMem := [(4, 1)] }

/-- A block of volume 2 in staging or a ring. -/
def laneB : LaneBlock :=
  { vol := 2, lba := 1, zero := false, recon := false, unrec := false, staging := false, data := zeros 4, entry := none, band := none }

/-- An instance whose lane shows one block. -/
def laneI : Instance := { inst1 with lane := { inst1.lane with ring := [{ laneB with data := zeros 8 }] } }

/-- An instance whose lane is to read one block. -/
def laneWorkI : Instance := { inst1 with lane := { inst1.lane with work := [laneB], stop := 1, next := 1 } }

/-- A digest message in progress. -/
def ctx1 : DigestCtx := { alg := 0, hmac := none, data := [], kite := some (5, 0), parts := [], doomed := false }

/-- Every digest context taken by commands. -/
def fullCtx : SMap DigestCtx := (List.range 64).map (fun n => (n, { ctx1 with kite := none }))

/-- An instance that holds a message and names a digest port and a value. -/
def feedI (port v : Word) : Instance := { regI 2 port with regs := (regI 2 port).regs.put 1 v, ports := { Ports.zero with dgCtx := some 0 } }

/-- An instance whose digest request runs. -/
def digI : Instance := { inst1 with ports := { Ports.zero with dgCtx := some 0, dgBusy := true, dgFeed := some [0] } }

/-- An instance with a legal compression request latched. -/
def cpI : Instance := { regI 2 0x305 with ports := { Ports.zero with cpMode := 1, cpSrcLen := 1, cpDstCap := 16 } }

/-- An instance with a legal DMA request latched. -/
def dmaI (port : Word) : Instance := { regI 2 port with ports := { Ports.zero with dmaLen := 1 } }

/-- Its device, whose run has a buffer of 64 bytes. -/
def dmaS (i : Instance) : State := upKite (kiteI [0x3512] i) (fun k => { k with runs := [{ run1 with dlen := 64 }] })

/-- An instance whose DMA request runs. -/
def dmaDoneI : Instance := { inst1 with ports := { Ports.zero with dmaBusy := true, dmaReq := some (0, [0]) } }

/-- A device with an idle core and an instance that waits. -/
def waitS : State :=
  upKite (kiteI [] { inst1 with state := .ready }) (fun k => { k with
    cores := [{ state := 0, image := none, inst := none }], readyQ := [(5, 0)],
    clusters := [{ Cluster.reset with powered := true }] })

/-- A device whose core 0 is in a state, with another instance waiting. -/
def busyS (st : Nat) : State :=
  upKite (kiteI [] inst1) (fun k => { k with
    cores := [{ state := st, image := some 1, inst := some (5, 0) }], insts := [inst1, { inst1 with num := 1, state := .ready }],
    readyQ := [(5, 1)], spillSlots := 4, clusters := [{ Cluster.reset with preempt := true }] })

/-- A device whose Tether link is up. -/
def linkS : State := upPair State.reset (fun p => { p with linkUp := true, rate := 3, width := 8 })

/-- A Tether flit with one byte. -/
def flit1 : TetherFlit :=
  { fseq := 0, ackseq := 4095, nak := false, idle := false, cred := [0, 0, 0], vc := 2, som := true, eom := false, len := 1,
    payload := [0], tag := [], crc := 0, tagOk := true, tagOkNext := false }

/-- A Tether flit with its CRC. -/
def goodFlit (f : TetherFlit) : TetherFlit := { f with crc := crc32 (tetherCovered f) }

theorem goodFlit_ok (f : TetherFlit) : tetherCrcOk (goodFlit f) = true := by
  simp [tetherCrcOk, goodFlit, tetherCovered, tetherHead]

/-- A TETHER_PAIR that waits for the partner's HELLO. -/
def pairing1 : Pairing := { tag := 5, token := [], agreed := false, base := 0, since := 0 }

/-- A hand-back with nothing left to send. -/
def hand1 : Handback := { delta := false, pass := 1, mark := 0, sent := 0, last := false, final := false, todo := [] }

/-- A Trail port that is up. -/
def port1 : Port := { Port.reset with enabled := true, up := true, neighbour := some 1 }

/-- A device with that port. -/
def portS : State := upMesh State.reset (fun m => { m with ports := [port1] })

/-- A Trail flit. -/
def tflit1 : TrailFlit :=
  { fseq := 0, ackseq := 4095, nak := false, idle := false, credCh := 0, cred := 0, cls := 0, esc := false, dl := false, typ := 0x18, len := 0,
    reserved := 0, pkt := { dst := 0, src := 1, group := 7, pairId := 0, body := .release 0 }, tag := [], crc := 0, tagOk := true,
    tagOkNext := false }

/-- A Trail flit with its CRC. -/
def goodTrail (f : TrailFlit) : TrailFlit := { f with crc := crc32 (trailCovered f) }

theorem goodTrail_ok (f : TrailFlit) : trailCrcOk (goodTrail f) = true := by
  simp [trailCrcOk, goodTrail, trailCovered, trailHead]

/-- A device in a group. -/
def grpS (g : Group) : State := upMesh State.reset (fun m => { m with node := 0, groups := [(0, g)] })

/-- The record of stripe 0 of that group: the other member's segment 0 of band 3. -/
def rec1 : StripeRec := { stripe := 0, group := 7, k := 1, m := 1, zero := 0, rebuilt := 0, seg := [(3, 0)], orig := [(3, 0)] }

/-- A reconstruction of that segment that waits for it. -/
def recon1 : Recon :=
  { request := 9, node := 1, band := 3, seg := 0, p := 0, record := some rec1, waits := [(0, false)], bad := [], acc := Coded.zero, done := false,
    exhausted := false }

/-- A device with that reconstruction. -/
def reconS : State := upMesh (grpS grp1) (fun m => { m with recons := [recon1] })

/-- A segment of this device in stripe 1, accepted. -/
def own1 : OwnSeg :=
  { band := 3, seg := 0, group := 7, stripe := 1, d := 0, stage := 2, fixed := false, rows := [], dead := [], gossiped := false, zero := 0 }

/-- A device with that segment. -/
def ownS (o : OwnSeg) : State := upMesh (grpS grp1) (fun m => { m with own := [o] })

/-- A device that holds a stripe's parity. -/
def stripeS (x : Stripe) : State := upMesh (grpS grp1) (fun m => { m with stripes := [x] })

/-- A record with a zero position, so that its parity needs no contribution. -/
def rec0 : StripeRec := { rec1 with zero := 1 }

/-- A device that holds that stripe, with a band open for parity. -/
def parityS : State :=
  upMed (stripeS { newStripe 7 0 with record := some rec0 }) (fun m => { m with bands := [(0, band0 .opened .parity)], channels := 16, blockMib := 4 })

/-- A device whose index names a record. -/
def locateS : State := upMesh (stripeS { newStripe 7 0 with record := some rec1, parity := some (5, 0) }) (fun m => { m with indexReady := true })

/-- A part of a chain. -/
def chain1 : Chain := { group := 7, stripe := 0, unit := (0, true), next := 1, weight := 1, bad := [], left := [] }

/-- A device with a claim under way and one witness, at node 3. -/
def claimS : State :=
  upPair State.reset (fun p => { p with
    suspect := true, state := 2, witness := [(3, true)], claim := some { grants := [], refusals := [], number := 1, askedAt := 0 } })

theorem claimS_answer : claimAnswer claimS 3 0 Config.serial 1 = some (0, { grants := [], refusals := [], number := 1, askedAt := 0 }) := by
  unfold claimAnswer
  rw [show claimS.pair.claim = some { grants := [], refusals := [], number := 1, askedAt := 0 } from rfl]
  refine (if_neg ?_).trans ?_
  · simp [show claimS.pair.pairId = 0 from rfl]
  · rfl

/-- A running, idle device with the automatic entries on. -/
def idleS : State := upGlb barS (fun g => { g with poweredOn := true, features := [(8, 3)] })

/-- The same device at 100 °C. -/
def hotS : State := upGlb idleS (fun g => { g with junction := 100 })

/-- An entry to Glide in its first phase, and a device in a transition. -/
def trG : Transition :=
  { req := { tag := none, target := 1, source := 0 }, origin := 0, phase := 0, abort := none, exit := false }
def trx : Transition :=
  { req := { tag := none, target := 0, source := 0 }, origin := 1, phase := 4, abort := none, exit := true }
def transS (t : Transition) : State := upPwr idleS (fun p => { p with trans := some t })

/-- A power request, and a command that keeps the device from idleness. -/
def glideReq : PowerReq := { tag := none, target := 1, source := 0 }
def op0 : Op := op (pk 0)

/-- A device with power, and a fault that waits to react. -/
def pwS : State := upGlb up (fun g => { g with poweredOn := true })
def fault1 : PendingFault := { src := 9, level := none, fresh := true, asks := false, count := 1 }

/-- What a plan has found with every island measured. -/
def allFound : PlanFound :=
  { PlanFound.none with islands := (List.range 45).map (fun i => { island := i, degradation := 0, sweep := [], life := 1 }) }

/-- A forced window of island 20 that is due. -/
def dueS : State :=
  upHlt (modIsland idleS 20 (fun m => { m with coverAge := 168, outstanding := 3 })) (fun h => { h with
    forced := true, forcedIsland := 20, forcedAt := 0 })

/-- A device whose Footpath port listens, and one with a command that awaits data. -/
def fpS : State := upGlb idleS (fun g => { g with fpHeld := none, fpLock := false })
def fpDataO : Op := { op { pk 0x0402 with dlen := 4096 } with src := .footpath, stage := .waitData }
def fpDataS : State := upTsk fpS (fun t => { t with ops := [fpDataO] })

/-- A WRITE of block 1 of volume 2, and a device that holds it. -/
def wOp : Op := { op { pk 0x0402 with vol := 2, addr := 1, dlen := 4096 } with volGen := some 3 }
def wState : State := upMed (run wOp) (fun m => { m with volumes := [(2, vol2)] })
/-- Ill-formed commands, one for each check, which the check refuses. -/
theorem test_wf_refuses_1 :
    ([.slotWrite 0x4000000 [] false false false,
      .lockGrant 32768,
      .ringFullNotice 4096,
      .tskRing0CtrlWrite 0x100000000,
      .kclCfgWrite 8 0,
      .tableReady 8,
      .pairWitnessWrite 3 0,
      .registerWrite 0x200000 0 0,
      .registerWrite 0 9 0,
      .registerWrite 0 0 0x10000000000000000,
      .periodicSelftest 0x1000000,
      .conventionalReset 256,
      .linkDowntrain 6 0,
      .linkDowntrain 0 9,
      .cxlMemRead 0x10000000000000000 [],
      .hdmDecoderCommit 2 0 0 0 0 0,
      .hdmDecoderCommit 0 0x10000000000000000 0 0 0 0,
      .hdmDecoderCommit 0 0 0x10000000000000000 0 0 0,
      .hdmDecoderCommit 0 0 0 9 0 0,
      .hdmDecoderCommit 0 0 0 0 16385 0] : List Instr).all (fun c => !c.wf) = true := by decide

/-- Ill-formed commands, one for each check, which the check refuses. -/
theorem test_wf_refuses_2 :
    ([.hdmDecoderCommit 0 0 0 0 0 8,
      .islandIdleGate 45,
      .handshakeTimeout 0 64,
      .segmentSealTimeout 0x400000,
      .nrReseed 32,
      .keyUnwrap 65536,
      .pageOut 0 0x20000000,
      .patrolRead 0 5,
      .gcCommit 0 0x4000000000,
      .patrolRead 0x10000000000 0,
      .dumpComplete 0x100000000,
      .refreshDue 8 false,
      .mr4Poll 0 16,
      .scrub 0x80000000 [],
      .rowIdleTimeout 8 0,
      .rowIdleTimeout 0 32,
      .worklistExtend 32768 0,
      .worklistExtend 0 64,
      .timerExpiry 0 0 2,
      .mboxDeliver 0 0 64] : List Instr).all (fun c => !c.wf) = true := by decide

/-- Ill-formed commands, one for each check, which the check refuses. -/
theorem test_wf_refuses_3 :
    ([.kAddi 0 [0, 0, 0, 0] 0 0,
      .kAddi 0 [1024] 0 0,
      .kAddi 0 [] 0 64,
      .kBeq 0 256,
      .kBrpt 0 256,
      .dgIdleTimeout 64,
      .securityAlarm 16,
      .linkRekey 7,
      .keyTransfer 0 false 0x8000000000 0,
      .keyTransfer 0 false 0 8,
      .mirrorConfirm 0x10000000000000000,
      .mirrorWrite 0 0 3 0 0 [],
      .blockRead 0 0 0 0x100000000 { },
      .journal 0x10000000000000000 [],
      .journalConfirm 0x10000000000000000,
      .root 0x10000000000000000 { ckptNo := 0, jstart := 0, wseqCeil := 0, time := 0, volumes := [], bands := [] },
      .heartbeat 0x10000000000000000 0 0 false,
      .heartbeat 0 8 0 false,
      .heartbeat 0 0 32 false,
      .blockData 0x10000000000000000 0 []] : List Instr).all (fun c => !c.wf) = true := by decide

/-- Ill-formed commands, one for each check, which the check refuses. -/
theorem test_wf_refuses_4 :
    ([.blockData 0 65536 [],
      .handback 0x10000000000000000 0 0 0 [],
      .handback 0 0 2 0 [],
      .trailReplayTimeout 6,
      .linkHello 0 0x10000000000000000 0 0 [] false,
      .linkHello 0 0 2048 0 [] false,
      .linkHello 0 0 0 16384 [] false,
      .linkState 2048 0 [],
      .unreachable 0 0x10000000000000000 0,
      .unreachable 0 0 256,
      .probe 0 0x10000000000000000 0 0 0,
      .probe 0 0 0x10000000000000000 0 0,
      .probe 0 0 0 0x10000000000000000 0,
      .probe 0 0 0 0 0x100000000,
      .claim 0 0 0x10000000000000000 0 0 false,
      .claim 0 0 0 0x10000000000000000 0 false,
      .claimRefuse 0 0 0 0 0 0x10000000000000000,
      .groupHelloTimeout 4096,
      .groupHello 0 0 256 0 0 [],
      .groupHello 0 0 0 256 0 []] : List Instr).all (fun c => !c.wf) = true := by decide

/-- Ill-formed commands, one for each check, which the check refuses. -/
theorem test_wf_refuses_5 :
    ([.memberLost 0 24,
      .stripeDeadline 0 0x10000000000000000,
      .resend 0 0 0 20,
      .intent 0 0 0 0 0 1024,
      .intentReply 0 0 0 3 0,
      .intentReply 0 0 0 0 0x10000000000000000,
      .parityDone 0 0 0 4,
      .locateAns 0 0x10000000000000000 [],
      .locate 0 0 0 2048 0 0,
      .locate 0 0 0 0 0x100000000 0,
      .reconReq 0 0 0 0 256 0 0 0 false { },
      .reconReq 0 0 0 0 0 256 0 0 false { },
      .reconReq 0 0 0 0 0 0 17 0 false { },
      .faultRaise 512 none,
      .loopAction 0 9,
      .degradationMeasure 0 0x1000000,
      .tapInstruction 64] : List Instr).all (fun c => !c.wf) = true := by decide

theorem test_wf_accepts : ([.intakeAccept, .lockGrant 32767, .kBrpt 63 255, .faultRaise 511 none] : List Instr).all Instr.wf = true := by decide

/-- The constant load of R234's example and words of Table 9.13, as the manual lists them. -/
theorem test_kite_movi_1000 : kiteDecode [0x1C0F, 0x1BA8] = some (.imm .movi [0xF] 14 0x28, 2) := by decide

theorem test_kite_listing :
    ((kiteDecode [0x3900], kiteDecode [0x3B10]), (kiteDecode [0x2603], kiteDecode [0x1800])) =
      ((some (.rep, 1), some (.str false .matchOp 0, 1)), (some (.br .ms 3, 1), some (.imm .movi [] 0 0, 1))) := by decide

/-- The check value of CRC-32C over the digits 1 to 9 (the standard's own). -/
theorem test_crc32c_digits : crc32c [49, 50, 51, 52, 53, 54, 55, 56, 57] = 0xE3069283 := by decide +kernel

/-- The check value of CRC-32 over the digits 1 to 9. -/
theorem test_crc32_digits : crc32 [49, 50, 51, 52, 53, 54, 55, 56, 57] = 0xCBF43926 := by decide +kernel

/-- FIPS 180-4: SHA-256 of "abc" begins ba7816bf. -/
theorem test_sha256_abc : (hashAlg 0 [97, 98, 99]).take 4 = [0xBA, 0x78, 0x16, 0xBF] := by decide +kernel

/-- FIPS 180-4: SHA-384 of "abc" begins cb00753f. -/
theorem test_sha384_abc : (sha384 [97, 98, 99]).take 4 = [0xCB, 0x00, 0x75, 0x3F] := by decide +kernel

theorem test_meets_IntakeAndLocksComplete_1 :
    ∃ (s : State) (q : Nat) (x : Queue) (b : List Byte),
      (q < 0x100000) ∧
      (queueAt s q = some x) ∧
      (x.deleting = none) ∧
      ((q = 0 → s.tsk.ring0En = true)) ∧
      (slotHeld s q = false) ∧
      (b.length = 64) ∧
      (chkOk b = true) ∧
      (s.hst.mode = 2) ∧
      (s.hst.ioHeld = false) ∧
      (s.pwr.linkPm ≠ 2) ∧
      (s.flt.containing.contains islHost = false) :=
    ⟨upTsk up (fun t => { t with ring0En := true }),
    0,
    queueZero,
    slotBytes64,
    by decide +kernel⟩

theorem test_meets_IntakeAndLocksComplete_2 :
    ∃ (s : State) (q : Nat) (x : Queue) (b : List Byte),
      (q < 0x100000) ∧
      (queueAt s q = some x) ∧
      (x.deleting = none) ∧
      ((q = 0 → s.tsk.ring0En = true)) ∧
      (slotHeld s q = true) ∧
      (b.length = 64) ∧
      (s.hst.mode = 2) ∧
      (s.hst.ioHeld = false) ∧
      (s.pwr.linkPm ≠ 2) ∧
      (s.flt.containing.contains islHost = false) :=
    ⟨upTsk up (fun t => { t with ring0En := true, held := [(0, pk 0x0F02)] }),
    0,
    queueZero,
    zeros 64,
    by decide +kernel⟩

theorem test_meets_IntakeAndLocksComplete_3 :
    ∃ (s : State) (q tag : Nat) (p : Packet),
      (intakeOpen s = true) ∧
      (s.glb.fpHeld = none) ∧
      (nextTag s = some tag) ∧
      (nextHeld s = some (q, p)) :=
    ⟨upGlb (upTsk up (fun t => { t with ring0En := true, held := [(0, pk 0x0F02)] })) (fun g => { g with ready := true, booting := false }),
    0,
    0,
    pk 0x0F02,
    by decide +kernel⟩

theorem test_meets_IntakeAndLocksComplete_4 :
    ∃ (s : State) (tag : Nat) (o : Op) (l : Lock),
      (findOp s tag = some o) ∧
      (s.tsk.locks.find? (fun l => l.tag == tag && !l.granted) = some l) ∧
      (o.stage = .waitLock) ∧
      (grantable s l = true) ∧
      ((mget s.med.volumes o.pkt.vol).map (fun v => v.gen) = o.volGen) :=
    ⟨upTsk (run { op (pk 0x0401) with stage := .waitLock }) (fun t => { t with locks := [{ tag := 5, seq := 9, vol := 0, first := 0, count := 1, excl := false, granted := false }] }),
    5,
    { op (pk 0x0401) with stage := .waitLock },
    { tag := 5, seq := 9, vol := 0, first := 0, count := 1, excl := false, granted := false },
    by decide +kernel⟩

theorem test_meets_IntakeAndLocksComplete_5 :
    ∃ (s : State) (o : Op) (l : Lock),
      (s.tsk.locks.length < 16384) ∧
      (s.tsk.ops.find? (fun o => o.stage == .waitEntry) = some o) ∧
      (lockEntry o = some l) :=
    ⟨run { op { pk 0x0401 with p0 := 1 } with stage := .waitEntry },
    { op { pk 0x0401 with p0 := 1 } with stage := .waitEntry },
    (lockEntry (op { pk 0x0401 with p0 := 1 })).getD { tag := 0, seq := 0, vol := 0, first := 0, count := 0, excl := false, granted := false },
    by decide +kernel⟩

theorem test_meets_IntakeAndLocksComplete_6 :
    ∃ (s : State) (o : Op),
      (s.tsk.ops.find? (fun o => o.waitStaging) = some o) ∧
      (hasRoom s o.pkt = true) :=
    ⟨run { op { pk 0x0402 with p0 := 1 } with waitStaging := true },
    { op { pk 0x0402 with p0 := 1 } with waitStaging := true },
    by decide +kernel⟩

theorem test_meets_IntakeAndLocksComplete_7 :
    ∃ (s : State) (tag : Nat) (o : Op) (b : List Byte) (l : List (Nat × Nat)),
      (findOp s tag = some o) ∧
      (o.stage = .waitFrags) ∧
      (entryUp s = true) ∧
      ((o.pkt.opc = 0x0603 → o.aux ≠ 0)) ∧
      (parseFrags 4096 b = some l) ∧
      (fragSum l = o.pkt.dlen) :=
    ⟨run { op { pk 0x0401 with dlen := 4096, flags := 1 } with stage := .waitFrags },
    5,
    { op { pk 0x0401 with dlen := 4096, flags := 1 } with stage := .waitFrags },
    (le 8 0x1000 ++ le 4 4096 ++ le 4 1),
    [(0x1000, 4096)],
    by decide +kernel⟩

theorem test_meets_IntakeAndLocksComplete_8 :
    ∃ (s : State) (tag : Nat) (o : Op) (r : Reply) (x : Ring),
      (findOp s tag = some o) ∧
      (o.stage = .finished) ∧
      (o.reply = some r) ∧
      (fromFootpath o = false) ∧
      (o.discard = false) ∧
      ((o.pkt.opc = 0x0402 → r.status = stSuccess)) ∧
      (mget s.tsk.rings o.ring = some x) :=
    ⟨upTsk (run { op (pk 0x0F02) with stage := .finished, reply := some (ok 0 0) }) (fun t => { t with rings := [(0, ring)] }),
    5,
    { op (pk 0x0F02) with stage := .finished, reply := some (ok 0 0) },
    ok 0 0,
    ring,
    by decide +kernel⟩

theorem test_meets_RepliesComplete_1 :
    ∃ (s : State) (n : Nat) (r : Ring) (w : Waiting),
      (mget s.tsk.rings n = some r) ∧
      (ringActive s n = true) ∧
      (ringFull r = false) ∧
      (entryUp s = true) ∧
      (r.waiting.find? (fun w => replyGone s w.after) = some w) ∧
      (r.unsignalled + 1 < r.count) :=
    ⟨withRing { ring with waiting := [{ tag := 5, entry := entry, after := none }] } [],
    0,
    { ring with waiting := [{ tag := 5, entry := entry, after := none }] },
    { tag := 5, entry := entry, after := none },
    by decide +kernel⟩

theorem test_meets_RepliesComplete_2 :
    ∃ (s : State) (r : Ring) (e : Entry) (rest : List Entry),
      (mget s.tsk.rings 0 = some r) ∧
      (ringActive s 0 = true) ∧
      (ringFull r = false) ∧
      (entryUp s = true) ∧
      (s.tsk.events = e :: rest) ∧
      (r.unsignalled + 1 < r.count) :=
    ⟨withRing ring [entry],
    ring,
    entry,
    [],
    by decide +kernel⟩

theorem test_meets_RepliesComplete_3 :
    ∃ (s : State) (r : Ring) (e : Entry) (rest : List Entry),
      (mget s.tsk.rings 0 = some r) ∧
      (ringActive s 0 = true) ∧
      (ringFull r = false) ∧
      (entryUp s = true) ∧
      (s.hst.mode = 2) ∧
      (s.tsk.events = e :: rest) ∧
      (r.unsignalled + 1 < r.count) :=
    ⟨withRing ring [entry],
    ring,
    entry,
    [],
    by decide +kernel⟩

theorem test_meets_RepliesComplete_4 :
    ∃ (s : State) (n : Nat) (r : Ring),
      (mget s.tsk.rings n = some r) ∧
      (n ≠ 0) ∧
      (ringFull r = true) ∧
      ((r.waiting ≠ [] ∨ s.tsk.overrun.any (fun x => x.1 == n) = true)) ∧
      (r.noticed = false) ∧
      (r.fullAt + 100 ≤ s.glb.lifetime) :=
    ⟨upGlb (upTsk up (fun t => { t with rings := [(3, { ring with tail := 0, tailWrap := true, waiting := [{ tag := 5, entry := entry, after := none }] })] })) (fun g => { g with lifetime := 100 }),
    3,
    { ring with tail := 0, tailWrap := true, waiting := [{ tag := 5, entry := entry, after := none }] },
    by decide +kernel⟩

theorem test_meets_RepliesComplete_5 :
    ∃ (s : State) (n : Nat) (r : Ring),
      (mget s.tsk.rings n = some r) ∧
      (r.time ≠ 0) ∧
      (r.intMask = false) ∧
      (r.unsignalled ≠ 0) :=
    ⟨upTsk up (fun t => { t with rings := [(3, { ring with time := 10, unsignalled := 2, intMask := false })] }),
    3,
    { ring with time := 10, unsignalled := 2, intMask := false },
    by decide +kernel⟩

theorem test_meets_RepliesComplete_6 :
    ∃ (s : State) (v : Nat),
      (v < 2048) ∧
      (s.hst.msixEn = true) ∧
      (s.hst.msixFmask = false) ∧
      (s.hst.msixPending = [v]) ∧
      (ioUp s = true) :=
    ⟨upHst up (fun h => { h with msixEn := true, msixFmask := false, msixPending := [7] }),
    7,
    by decide +kernel⟩

theorem test_meets_RepliesComplete_7 :
    ∃ (s : State) (n v : Nat) (r : Ring),
      (barUp s = true) ∧
      (mget s.tsk.rings n = some r) ∧
      (bits v 15 0 < ringSize r) ∧
      ((ringPos r (bits v 15 0) (bit v 16) + 2 * ringSize r - ringPos r r.head r.headWrap) % (2 * ringSize r) ≤ ringUsed r) :=
    ⟨upTsk barS (fun t => { t with rings := [(0, { ring with tail := 5 })] }),
    0,
    5,
    { ring with tail := 5 },
    by decide +kernel⟩

theorem test_meets_RepliesComplete_8 :
    ∃ (s : State) (n v : Nat) (r : Ring),
      (barUp s = true) ∧
      (mget s.tsk.rings n = some r) ∧
      (ringSize r ≤ bits v 15 0) :=
    ⟨upTsk barS (fun t => { t with rings := [(0, ring)] }),
    0,
    64,
    ring,
    by decide +kernel⟩

theorem test_meets_RepliesComplete_9 :
    ∃ (s : State) (n v : Nat) (r : Ring),
      (barUp s = true) ∧
      (mget s.tsk.rings n = some r) ∧
      (r.intMask = true) ∧
      (bit v 3 = false) ∧
      (r.unsignalled ≠ 0) :=
    ⟨upTsk barS (fun t => { t with rings := [(0, { ring with intMask := true, unsignalled := 1 })] }),
    0,
    0,
    { ring with intMask := true, unsignalled := 1 },
    by decide +kernel⟩

theorem test_meets_RepliesComplete_10 :
    ∃ (s : State) (v : Nat),
      (barUp s = true) ∧
      (s.tsk.ring0En = false) ∧
      (bit v 31 = true) ∧
      (6 ≤ bits v 4 0) ∧
      (bits v 4 0 ≤ 16) ∧
      (s.flt.failoverEvent = none) :=
    ⟨barS,
    0x80000006,
    by decide +kernel⟩

theorem test_meets_RepliesComplete_11 :
    ∃ (s : State),
      (s.hst.mode ≠ 0) ∧
      (s.hst.ioHeld = false) :=
    ⟨upHst State.reset (fun h => { h with mode := 2 }),
    by decide +kernel⟩

theorem test_meets_RegisterWritesComplete_1 :
    ∃ (s : State) (v : Nat),
      (barUp s = true) ∧
      (s.hst.flipBusy = false) ∧
      (bit v 31 = true) ∧
      (bit v 30 = true) ∧
      (bits v 19 0 ≠ 0) ∧
      (s.hst.flipStart + bits v 19 0 ≤ s.hst.arenaCur * 4096) :=
    ⟨upHst barS (fun h => { h with arenaCur := 1 }),
    0xC0000001,
    by decide +kernel⟩

theorem test_meets_RegisterWritesComplete_2 :
    ∃ (s : State),
      (barUp s = true) :=
    ⟨barS,
    by decide⟩

theorem test_meets_RegisterWritesComplete_3 :
    ∃ (s : State) (v : Nat),
      (barUp s = true) ∧
      (srcImplemented s.flt.sel = true) ∧
      (srcFixed s.flt.sel = false) ∧
      ((classRange (srcClass s.flt.sel)).1 ≤ bits v 7 5) ∧
      (bits v 7 5 ≤ (classRange (srcClass s.flt.sel)).2) :=
    ⟨upFlt barS (fun f => { f with sel := unit islHost 3 }),
    32 * (classRange (srcClass (unit islHost 3))).1,
    by decide +kernel⟩

theorem test_meets_RegisterWritesComplete_4 :
    ∃ (s : State) (v : Nat),
      (barUp s = true) ∧
      ((srcImplemented s.flt.sel = false ∨ srcFixed s.flt.sel = true ∨ bits v 7 5 < (classRange (srcClass s.flt.sel)).1 ∨
        (classRange (srcClass s.flt.sel)).2 < bits v 7 5)) :=
    ⟨upFlt barS (fun f => { f with sel := 0xFFFF }),
    0,
    by decide +kernel⟩

theorem test_meets_RegisterWritesComplete_5 :
    ∃ (s : State),
      (barUp s = true) :=
    ⟨barS,
    by decide⟩

theorem test_meets_RegisterWritesComplete_6 :
    ∃ (s : State),
      (barUp s = true) :=
    ⟨barS,
    by decide⟩

theorem test_meets_RegisterWritesComplete_7 :
    ∃ (s : State),
      (barUp s = true) :=
    ⟨barS,
    by decide⟩

theorem test_meets_RegisterWritesComplete_8 :
    ∃ (s : State),
      (barUp s = true) :=
    ⟨barS,
    by decide⟩

theorem test_meets_RegisterWritesComplete_9 :
    ∃ (s : State),
      (barUp s = true) :=
    ⟨barS,
    by decide⟩

theorem test_meets_RegisterWritesComplete_10 :
    ∃ (s : State),
      (barUp s = true) :=
    ⟨barS,
    by decide⟩

theorem test_meets_RegisterWritesComplete_11 :
    ∃ (s : State),
      (barUp s = true) :=
    ⟨barS,
    by decide⟩

theorem test_meets_RegisterWritesComplete_12 :
    ∃ (s : State),
      (barUp s = true) :=
    ⟨barS,
    by decide⟩

theorem test_meets_RegisterWritesComplete_13 :
    ∃ (s : State),
      (barUp s = true) :=
    ⟨barS,
    by decide⟩

theorem test_meets_TableAndClusterWritesComplete_1 :
    ∃ (s : State) (n v : Nat) (c : Cluster),
      (barUp s = true) ∧
      (s.kite.clusters[n]? = some c) ∧
      (clusterBusy s n = false) ∧
      (bits v 1 0 ≠ 3) ∧
      (bits v 15 8 ≠ 0) :=
    ⟨upKite barS (fun k => { k with clusters := [Cluster.reset] }),
    0,
    0x100,
    Cluster.reset,
    by decide +kernel⟩

theorem test_meets_TableAndClusterWritesComplete_2 :
    ∃ (s : State) (n v : Nat) (c : Cluster),
      (barUp s = true) ∧
      (s.kite.clusters[n]? = some c) ∧
      (bits v 1 0 = 3) :=
    ⟨upKite barS (fun k => { k with clusters := [Cluster.reset] }),
    0,
    3,
    Cluster.reset,
    by decide +kernel⟩

theorem test_meets_TableAndClusterWritesComplete_3 :
    ∃ (s : State) (i v : Nat),
      (barUp s = true) ∧
      ((wTable s i).en = false) ∧
      (bit v 31 = true) ∧
      (bits v 5 4 ≠ 3) ∧
      (bits v 10 6 ≠ 0) ∧
      (bits v 10 6 ≤ 16) ∧
      (bits v 3 0 + wUnits (bits v 5 4) * bits v 10 6 ≤ 16) ∧
      ((span (bits v 3 0) (wUnits (bits v 5 4) * bits v 10 6)).any (bankTaken s i) = false) :=
    ⟨barS,
    0,
    0x80000040,
    by decide +kernel⟩

theorem test_meets_TableAndClusterWritesComplete_4 :
    ∃ (s : State) (i v : Nat),
      (barUp s = true) ∧
      ((wTable s i).en = true) ∧
      (bit v 31 = false) :=
    ⟨upWay barS (fun w => { w with tables := w.tables.map (fun t => { t with en := true }) }),
    0,
    0,
    by decide +kernel⟩

theorem test_meets_TableAndClusterWritesComplete_5 :
    ∃ (s : State),
      (barUp s = true) :=
    ⟨barS,
    by decide⟩

theorem test_meets_TableAndClusterWritesComplete_6 :
    ∃ (s : State),
      (barUp s = true) :=
    ⟨barS,
    by decide⟩

theorem test_meets_TableAndClusterWritesComplete_7 :
    ∃ (s u t : State) (off v : Nat),
      (exec (.registerWrite off 4 (v % 2 ^ 32)) s = .next u) ∧
      (exec (.registerWrite (off + 4) 4 (v / 2 ^ 32)) u = .next t) ∧
      (barUp s = true) ∧
      (off % 8 = 0) ∧
      (off + 8 ≤ 0x200000) ∧
      (v < 2 ^ 64) ∧
      (barUp u = true) :=
    ⟨barS,
    after (exec (.registerWrite 0 4 0) barS),
    after (exec (.registerWrite 4 4 0) (after (exec (.registerWrite 0 4 0) barS))),
    0,
    0,
    rfl,
    rfl,
    by decide +kernel⟩

theorem test_meets_TableAndClusterWritesComplete_8 :
    ∃ (s : State),
      (barUp s = false) :=
    ⟨State.reset,
    by decide⟩

theorem test_meets_AdminCommandsComplete_1 :
    ∃ (s : State) (tag : Nat) (o : Op),
      (opFor s tag 0x0101 = some o) ∧
      (outUp s o = true) ∧
      (o.pkt.p0 = 0) :=
    ⟨run (op (pk 0x0101)),
    5,
    op (pk 0x0101),
    by decide +kernel⟩

theorem test_meets_AdminCommandsComplete_2 :
    ∃ (s : State) (tag : Nat) (o : Op),
      (opFor s tag 0x0101 = some o) ∧
      (outUp s o = true) ∧
      (o.pkt.p0 ≠ 0) :=
    ⟨run (op { pk 0x0101 with p0 := 1 }),
    5,
    op { pk 0x0101 with p0 := 1 },
    by decide +kernel⟩

theorem test_meets_AdminCommandsComplete_3 :
    ∃ (s : State) (tag : Nat) (o : Op),
      (opFor s tag 0x0102 = some o) ∧
      (outUp s o = true) :=
    ⟨run (op { pk 0x0102 with p0 := 3 }),
    5,
    op { pk 0x0102 with p0 := 3 },
    by decide +kernel⟩

theorem test_meets_AdminCommandsComplete_4 :
    ∃ (s : State) (tag : Nat) (o : Op),
      (opFor s tag 0x0103 = some o) ∧
      (earlierOp s o.seq (fun q => q.opc == 0x0103 && q.p0 == o.pkt.p0) = false) :=
    ⟨run (op { pk 0x0103 with p0 := 2 }),
    5,
    op { pk 0x0103 with p0 := 2 },
    by decide +kernel⟩

theorem test_meets_AdminCommandsComplete_5 :
    ∃ (s : State) (tag : Nat) (o : Op),
      (opFor s tag 0x0104 = some o) :=
    ⟨run (op { pk 0x0104 with p0 := 2 }),
    5,
    op { pk 0x0104 with p0 := 2 },
    by decide⟩

theorem test_meets_AdminCommandsComplete_6 :
    ∃ (s : State) (tag : Nat) (o : Op),
      (opFor s tag 0x0201 = some o) ∧
      (checkObjects s o.pkt = none) :=
    ⟨run (op { pk 0x0201 with p0 := 4, p2 := 1 }),
    5,
    op { pk 0x0201 with p0 := 4, p2 := 1 },
    by decide +kernel⟩

theorem test_meets_AdminCommandsComplete_7 :
    ∃ (s : State) (tag : Nat) (o : Op),
      (opFor s tag 0x0202 = some o) ∧
      (s.tsk.ops.any (fun x => x.src == .queue o.pkt.p0 && x.tag != tag) = false) ∧
      (s.tsk.overrun.any (fun x => x.2.qid == o.pkt.p0) = false) :=
    ⟨run (op { pk 0x0202 with p0 := 4 }),
    5,
    op { pk 0x0202 with p0 := 4 },
    by decide +kernel⟩

theorem test_meets_AdminCommandsComplete_8 :
    ∃ (s : State) (tag : Nat) (o : Op),
      (opFor s tag 0x0202 = some o) ∧
      (s.tsk.ops.any (fun x => x.src == .queue o.pkt.p0 && x.tag != tag) = true) :=
    ⟨upTsk (run (op { pk 0x0202 with p0 := 0 })) (fun t => { t with ops := t.ops ++ [{ op (pk 0x0F02) with tag := 6 }] }),
    5,
    op { pk 0x0202 with p0 := 0 },
    by decide +kernel⟩

theorem test_meets_AdminCommandsComplete_9 :
    ∃ (s : State) (tag : Nat) (o : Op),
      (opFor s tag 0x0203 = some o) ∧
      (checkObjects s o.pkt = none) :=
    ⟨run (op { pk 0x0203 with p0 := 4, p1 := 6 }),
    5,
    op { pk 0x0203 with p0 := 4, p1 := 6 },
    by decide +kernel⟩

theorem test_meets_AdminCommandsComplete_10 :
    ∃ (s : State) (tag : Nat) (o : Op),
      (opFor s tag 0x0204 = some o) ∧
      (checkObjects s o.pkt = none) ∧
      (ringOwed s o.pkt.p0 tag = false) :=
    ⟨upTsk (run (op { pk 0x0204 with p0 := 4 })) (fun t => { t with rings := [(4, ring)] }),
    5,
    op { pk 0x0204 with p0 := 4 },
    by decide +kernel⟩

theorem test_meets_AdminCommandsComplete_11 :
    ∃ (s : State) (tag : Nat) (o : Op) (x : Queue),
      (opFor s tag 0x0205 = some o) ∧
      (queueAt s o.pkt.p0 = some x) :=
    ⟨run (op { pk 0x0205 with p0 := 0 }),
    5,
    op { pk 0x0205 with p0 := 0 },
    queueZero,
    by decide +kernel⟩

theorem test_meets_AdminCommandsComplete_12 :
    ∃ (s : State) (tag : Nat) (a o : Op),
      (findOp s tag = some a) ∧
      (a.pkt.opc = 0x0F01) ∧
      (a.stage = .ready) ∧
      ((namedOps s a.pkt).find? (fun o => o.stage != .completed) = some o) ∧
      (o.stage ≠ .completed) ∧
      (o.aborted = false) ∧
      (abortable o.pkt.opc = true) ∧
      (o.pkt.opc ≠ 0x0603) :=
    ⟨upTsk (run (op { pk 0x0F01 with p2 := 3 })) (fun t => { t with ops := t.ops ++ [{ op { pk 0x0401 with cookie := 3 } with tag := 6 }] }),
    5,
    op { pk 0x0F01 with p2 := 3 },
    { op { pk 0x0401 with cookie := 3 } with tag := 6 },
    by decide +kernel⟩

theorem test_meets_AdminCommandsComplete_13 :
    ∃ (s : State) (tag : Nat) (a : Op),
      (findOp s tag = some a) ∧
      (a.pkt.opc = 0x0F01) ∧
      (a.stage = .ready) ∧
      (namedOps s a.pkt = []) ∧
      (namedHeld s a.pkt = none) :=
    ⟨run (op { pk 0x0F01 with p2 := 3 }),
    5,
    op { pk 0x0F01 with p2 := 3 },
    by decide +kernel⟩

theorem test_meets_AdminCommandsComplete_14 :
    ∃ (s : State) (tag : Nat) (o : Op),
      (opFor s tag 0x0F02 = some o) :=
    ⟨run (op (pk 0x0F02)),
    5,
    op (pk 0x0F02),
    by decide⟩

theorem test_meets_FirmwareCommandsComplete_1 :
    ∃ (s : State) (tag : Nat) (o : Op) (host : HostRead) (d : List Byte),
      (opFor s tag 0x0105 = some o) ∧
      (norDirect s = false) ∧
      (input s o host o.pkt.dlen = some (.data d)) :=
    ⟨run (op { pk 0x0105 with dlen := 4 }),
    5,
    op { pk 0x0105 with dlen := 4 },
    .data [1, 2, 3, 4],
    [1, 2, 3, 4],
    by decide +kernel⟩

theorem test_meets_FirmwareCommandsComplete_2 :
    ∃ (s : State) (tag : Nat) (o : Op) (host : HostRead) (d : List Byte),
      (opFor s tag 0x0105 = some o) ∧
      (norDirect s = true) ∧
      (input s o host o.pkt.dlen = some (.data d)) :=
    ⟨upGlb (run (op { pk 0x0105 with dlen := 4 })) (fun g => { g with romRecovery := true }),
    5,
    op { pk 0x0105 with dlen := 4 },
    .data [1, 2, 3, 4],
    [1, 2, 3, 4],
    by decide +kernel⟩

theorem test_meets_FirmwareCommandsComplete_3 
    (h : ∃ b k, slotState b k = 0) : ∃ (s : State) (tag : Nat) (o : Op),
      (opFor s tag 0x0106 = some o) ∧ (o.stage ≠ .running) ∧ (norDirect s = false) ∧ (s.glb.stagedTarget = some o.pkt.p0) ∧
      (o.pkt.p0 = 0) ∧ (slotState s.glb.staged s.glb.keyDigest = 0) ∧ (s.glb.programming = none) := by
    obtain ⟨b, k, h⟩ := h
    exact ⟨upGlb (run (op (pk 0x0106))) (fun g => { g with stagedTarget := some 0, staged := b, keyDigest := k }), 5,
      op (pk 0x0106), rfl, by decide, rfl, rfl, rfl, h, rfl⟩

theorem test_meets_FirmwareCommandsComplete_4 :
    ∃ (s : State) (tag : Nat) (o : Op) (b : SlotBytes),
      (opFor s tag 0x0106 = some o) ∧
      (o.stage = .running) ∧
      (s.glb.programming = some b) ∧
      (o.pkt.p0 = 0) ∧
      (o.pkt.p1 = 0) ∧
      (o.tag = tag) :=
    ⟨upGlb (run { op (pk 0x0106) with stage := .running }) (fun g => { g with programming := some [] }),
    5,
    { op (pk 0x0106) with stage := .running },
    [],
    by decide +kernel⟩

theorem test_meets_FirmwareCommandsComplete_5 :
    ∃ (s : State) (tag : Nat) (o : Op) (b : SlotBytes),
      (opFor s tag 0x0106 = some o) ∧
      (o.stage = .running) ∧
      (s.glb.programming = some b) ∧
      (o.pkt.p0 = 0) ∧
      (o.pkt.p1 = 1) ∧
      (o.tag = tag) :=
    ⟨upGlb (run { op { pk 0x0106 with p1 := 1 } with stage := .running }) (fun g => { g with programming := some [] }),
    5,
    { op { pk 0x0106 with p1 := 1 } with stage := .running },
    [],
    by decide +kernel⟩

theorem test_meets_FirmwareCommandsComplete_6 :
    ∃ (s : State) (tag : Nat) (o : Op),
      (opFor s tag 0x0106 = some o) ∧
      (o.stage ≠ .running) ∧
      (norDirect s = false) ∧
      (s.glb.stagedTarget = some o.pkt.p0) ∧
      (o.pkt.p0 = 0) ∧
      (slotState s.glb.staged s.glb.keyDigest ≠ 0) ∧
      (slotState s.glb.staged s.glb.keyDigest ≠ 3) :=
    ⟨upGlb (run (op (pk 0x0106))) (fun g => { g with stagedTarget := some 0 }),
    5,
    op (pk 0x0106),
    by decide +kernel⟩

theorem test_meets_FirmwareCommandsComplete_7 :
    ∃ (s : State) (tag : Nat),
      (s.glb.activation = some tag) ∧
      (findOp s tag = none) :=
    ⟨upGlb State.reset (fun g => { g with activation := some 3 }),
    3,
    by decide +kernel⟩

theorem test_meets_VolumeCommandsComplete_1 :
    ∃ (s : State) (tag : Nat) (o : Op),
      (opFor s tag 0x0301 = some o) ∧
      (o.stage ≠ .running) ∧
      (readOnly s = false) ∧
      (checkObjects s o.pkt = none) ∧
      (jRoom s 8 = true) ∧
      (pendingKey s o.pkt.vol = none) ∧
      (partnered s = false) :=
    ⟨upDrc (run (op { pk 0x0301 with vol := 2, addr := 16 })) (fun d => { d with directory := 1 }),
    5,
    op { pk 0x0301 with vol := 2, addr := 16 },
    by decide +kernel⟩

theorem test_meets_VolumeCommandsComplete_2 :
    ∃ (s : State) (tag : Nat) (o : Op),
      (opFor s tag 0x0302 = some o) ∧
      (o.stage ≠ .running) ∧
      (sameVolume s o = true) ∧
      (jRoom s 8 = true) ∧
      ((partnered s && !isFoster s o.pkt.vol) = false) :=
    ⟨upMed (run ({ op { pk 0x0302 with vol := 2 } with volGen := some 3 })) (fun m => { m with volumes := [(2, vol2)] }),
    5,
    { op { pk 0x0302 with vol := 2 } with volGen := some 3 },
    by decide +kernel⟩

theorem test_meets_VolumeCommandsComplete_3 :
    ∃ (s : State) (tag : Nat) (o : Op) (v : Volume),
      (opFor s tag 0x0303 = some o) ∧
      (volAt s o.pkt.vol = some v) :=
    ⟨upMed (run ({ op { pk 0x0303 with vol := 2 } with volGen := some 3 })) (fun m => { m with volumes := [(2, vol2)] }),
    5,
    { op { pk 0x0303 with vol := 2 } with volGen := some 3 },
    vol2,
    by decide +kernel⟩

theorem test_meets_VolumeCommandsComplete_4 :
    ∃ (s : State) (tag : Nat) (o : Op) (v : Volume),
      (opFor s tag 0x0304 = some o) ∧
      (o.stage ≠ .running) ∧
      (readOnly s = false) ∧
      (sameVolume s o = true) ∧
      (jRoom s 1 = true) ∧
      (mget s.med.volumes o.pkt.vol = some v) ∧
      (bit o.pkt.p0 0 = false) :=
    ⟨upMed (run ({ op { pk 0x0304 with vol := 2 } with volGen := some 3 })) (fun m => { m with volumes := [(2, vol2)] }),
    5,
    { op { pk 0x0304 with vol := 2 } with volGen := some 3 },
    vol2,
    by decide +kernel⟩

theorem test_meets_VolumeCommandsComplete_5 :
    ∃ (s : State) (f : FormatWait) (rest : List FormatWait),
      (s.glb.ready = true) ∧
      (s.med.progress.state = 0) ∧
      (s.med.formats = f :: rest) ∧
      (walkBands s ≠ []) :=
    ⟨upGlb (upMed up (fun m => { m with formats := [{ vol := 2, mode := 0, mark := 1, old := [] }], bands := [(0, band0 .closed .hot)] })) (fun g => { g with ready := true }),
    { vol := 2, mode := 0, mark := 1, old := [] },
    [],
    by decide +kernel⟩

theorem test_meets_VolumeCommandsComplete_6 :
    ∃ (s : State) (b : Nat),
      (s.glb.ready = true) ∧
      (s.med.progress.state = 2) ∧
      (s.med.progress.units[s.med.progress.done]? = some b) ∧
      (s.med.progress.done + 1 < s.med.progress.total) :=
    ⟨upGlb (upMed up (fun m => { m with progress := { m.progress with state := 2, units := [4, 5], total := 2, done := 0 } })) (fun g => { g with ready := true }),
    4,
    by decide +kernel⟩

theorem test_meets_VolumeCommandsComplete_7 :
    ∃ (s : State) (vol : Nat) (l : List Nat),
      ((mget s.med.volumes vol).isSome = true) ∧
      (s.sec.keyCache.contains vol = false) ∧
      (s.sec.errorState = false) ∧
      (inReset s islCrypt = false) ∧
      (keyRoom s = some l) :=
    ⟨upMed up (fun m => { m with volumes := [(2, vol2)] }),
    2,
    [],
    by decide +kernel⟩

theorem test_meets_ReadCommandsComplete_1 :
    ∃ (s : State) (tag : Nat) (o : Op) (media : MediaIn) (l : List (Nat × Got)) (t : State),
      (opFor s tag 0x0401 = some o) ∧
      (sameVolume s o = true) ∧
      (fosterWaits s o.pkt.vol = false) ∧
      (ioUp s = true) ∧
      (readAll s o media = (some l, t)) :=
    ⟨upMed (run ({ op { pk 0x0401 with vol := 2 } with volGen := some 3 })) (fun m => { m with volumes := [(2, vol2)] }),
    5,
    { op { pk 0x0401 with vol := 2 } with volGen := some 3 },
    {},
    [],
    upMed (run ({ op { pk 0x0401 with vol := 2 } with volGen := some 3 })) (fun m => { m with volumes := [(2, vol2)] }),
    by decide +kernel⟩

theorem test_meets_ReadCommandsComplete_2 :
    ∃ (s : State) (m : MediaIn) (v lba : Nat) (x : Staged),
      (stagedAt s v lba = some x) ∧
      (x.lost = false) ∧
      (m.badStaged.contains (v, lba) = false) :=
    ⟨upMed up (fun m => { m with staging := [{ vol := 2, lba := 1, data := [7], seq := 1, done := true, comp := none, lost := false, mirror := none }] }),
    {},
    2,
    1,
    { vol := 2, lba := 1, data := [7], seq := 1, done := true, comp := none, lost := false, mirror := none },
    by decide +kernel⟩

theorem test_meets_ReadCommandsComplete_3 :
    ∃ (s : State) (tag : Nat) (o : Op) (media : MediaIn) (t : State),
      (opFor s tag 0x0401 = some o) ∧
      (sameVolume s o = true) ∧
      (fosterWaits s o.pkt.vol = false) ∧
      (ioUp s = true) ∧
      (readAll s o media = (none, t)) :=
    ⟨upSec (packedS readO) (fun e => { e with keyCache := [] }),
    5,
    readO,
    {},
    upSec (packedS readO) (fun e => { e with keyCache := [] }),
    by decide +kernel⟩

theorem test_meets_ReadCommandsComplete_4 :
    ∃ (s : State) (tag : Nat) (o : Op) (media : MediaIn) (l : List (Nat × Got)) (t : State),
      (opFor s tag 0x0407 = some o) ∧
      (sameVolume s o = true) ∧
      (fosterWaits s o.pkt.vol = false) ∧
      (readAll s o media = (some l, t)) :=
    ⟨upMed (run ({ op { pk 0x0407 with vol := 2 } with volGen := some 3 })) (fun m => { m with volumes := [(2, vol2)] }),
    5,
    { op { pk 0x0407 with vol := 2 } with volGen := some 3 },
    {},
    [],
    upMed (run ({ op { pk 0x0407 with vol := 2 } with volGen := some 3 })) (fun m => { m with volumes := [(2, vol2)] }),
    by decide +kernel⟩

theorem test_meets_ReadCommandsComplete_5 :
    ∃ (s : State) (tag : Nat) (o : Op) (host : HostRead) (media : MediaIn) (given : List Byte) (l : List (Nat × Got)) (t : State),
      (opFor s tag 0x0405 = some o) ∧
      (sameVolume s o = true) ∧
      (fosterWaits s o.pkt.vol = false) ∧
      (input s o host o.pkt.dlen = some (.data given)) ∧
      (readAll s o media = (some l, t)) ∧
      (failedLbas l = []) ∧
      (firstDiff 0 given (gotBytes (readMarks t o media) l).1 = none) :=
    ⟨upMed (run ({ op { pk 0x0405 with vol := 2 } with volGen := some 3 })) (fun m => { m with volumes := [(2, vol2)] }),
    5,
    { op { pk 0x0405 with vol := 2 } with volGen := some 3 },
    .data [],
    {},
    [],
    [],
    upMed (run ({ op { pk 0x0405 with vol := 2 } with volGen := some 3 })) (fun m => { m with volumes := [(2, vol2)] }),
    by decide +kernel⟩

theorem test_meets_ReadCommandsComplete_6 
    : ∃ (s : State) (o : Op) (b : List Byte) (l : List (Nat × Got)),
      opFor s 5 0x0405 = some o ∧ sameVolume s o = true ∧ fosterWaits s o.pkt.vol = false ∧ input s o (.data b) o.pkt.dlen = some (.data b) ∧
      readAll s o {} = (some l, s) ∧ failedLbas l = [] ∧ firstDiff 0 b (gotBytes (readMarks s o {}) l).1 = some 0 := by
    refine ⟨compareS, compareO, List.replicate 4096 9, [(1, .data [7] false)], rfl, rfl, rfl, ?_, rfl, rfl, rfl⟩
    simp only [input, show compareO.pkt.dlen = 4096 from rfl, List.length_replicate, if_true]
    rfl

theorem test_meets_ReadCommandsComplete_7 
    : ∃ (s : State) (o : Op) (b : List Byte), findOp s 5 = some o ∧ isRead o.pkt.opc = true ∧
      o.stage = .ready ∧ o.pkt.addr ≤ 1 ∧ 1 < o.pkt.addr + o.pkt.blocks ∧ o.inflated.contains 1 = false ∧ o.inflateBad.contains 1 = false ∧
      (getBlock s {} o.pkt.vol 1 false).1 = .packed zeroBlock ∧
      onPipe s { cls := .inlineC, tag := 5, num := 1, decomp := true } = true ∧ inflateBlock zeroBlock = some b := by
    obtain ⟨b, h⟩ := Option.isSome_iff_exists.mp test_inflate_zero_block
    exact ⟨upCmp (packedS readO) (fun c => { c with decomp := [(0, { cls := .inlineC, tag := 5, num := 1, decomp := true })] }), readO, b,
      rfl, rfl, rfl, by decide, by decide, rfl, rfl, rfl, by decide, h⟩

theorem test_meets_WriteCommandsComplete_1 :
    ∃ (s : State) (tag : Nat) (o : Op) (host : HostRead) (b : List Byte),
      (opFor s tag 0x0402 = some o) ∧
      (readOnly s = false) ∧
      (sameVolume s o = true) ∧
      (o.stage ≠ .running) ∧
      (fosterWaits s o.pkt.vol = false) ∧
      (admitted s o = true) ∧
      (input s o host o.pkt.dlen = some (.data b)) ∧
      (mirroring s = false) :=
    ⟨upMed (run ({ op { pk 0x0402 with vol := 2 } with volGen := some 3 })) (fun m => { m with volumes := [(2, vol2)] }),
    5,
    { op { pk 0x0402 with vol := 2 } with volGen := some 3 },
    .data [],
    [],
    by decide +kernel⟩

theorem test_meets_WriteCommandsComplete_2 :
    ∃ (s : State) (tag : Nat) (o : Op) (host : HostRead) (b : List Byte),
      (opFor s tag 0x0402 = some o) ∧
      (readOnly s = false) ∧
      (sameVolume s o = true) ∧
      (o.stage ≠ .running) ∧
      (fosterWaits s o.pkt.vol = false) ∧
      (admitted s o = true) ∧
      (input s o host o.pkt.dlen = some (.data b)) ∧
      (mirroring s = true) ∧
      (isFoster s o.pkt.vol = false) :=
    ⟨upPair (upMed (run ({ op { pk 0x0402 with vol := 2 } with volGen := some 3 })) (fun m => { m with volumes := [(2, vol2)] })) (fun p => { p with state := 2 }),
    5,
    { op { pk 0x0402 with vol := 2 } with volGen := some 3 },
    .data [],
    [],
    by decide +kernel⟩

theorem test_meets_WriteCommandsComplete_3 :
    ∃ (s : State) (tag : Nat) (o : Op),
      (opFor s tag 0x0402 = some o) ∧
      (readOnly s = false) ∧
      (sameVolume s o = true) ∧
      (o.stage = .running) ∧
      (o.mirror = none) :=
    ⟨upMed (run ({ op { pk 0x0402 with vol := 2 } with volGen := some 3, stage := .running })) (fun m => { m with volumes := [(2, vol2)] }),
    5,
    { op { pk 0x0402 with vol := 2 } with volGen := some 3, stage := .running },
    by decide +kernel⟩

theorem test_meets_WriteCommandsComplete_4 :
    ∃ (s : State) (tag : Nat) (o : Op),
      (opFor s tag 0x0402 = some o) ∧
      (readOnly s = true) :=
    ⟨upMed (run ({ op { pk 0x0402 with vol := 2 } with volGen := some 3 })) (fun m => { m with holdupRo := true }),
    5,
    { op { pk 0x0402 with vol := 2 } with volGen := some 3 },
    by decide +kernel⟩

theorem test_meets_WriteCommandsComplete_5 :
    ∃ (s : State) (tag : Nat) (o : Op) (u : State),
      (opFor s tag 0x0403 = some o) ∧
      (readOnly s = false) ∧
      (sameVolume s o = true) ∧
      (o.stage ≠ .running) ∧
      (fosterWaits s o.pkt.vol = false) ∧
      (admitted s o = true) ∧
      (mirroring s = false) ∧
      (pagesReady (running s tag) o.pkt.vol (rangeStretches o.pkt.addr o.pkt.blocks) = (true, u)) ∧
      (jRoom u ((rangeStretches o.pkt.addr o.pkt.blocks).length + 2) = true) ∧
      (o.tag = tag) :=
    ⟨upMed (run ({ op { pk 0x0403 with vol := 2 } with volGen := some 3 })) (fun m => { m with volumes := [(2, vol2)] }),
    5,
    { op { pk 0x0403 with vol := 2 } with volGen := some 3 },
    running (upMed (run ({ op { pk 0x0403 with vol := 2 } with volGen := some 3 })) (fun m => { m with volumes := [(2, vol2)] })) 5,
    by decide +kernel⟩

theorem test_meets_WriteCommandsComplete_6 :
    ∃ (s : State) (tag : Nat) (o : Op) (u : State),
      (opFor s tag 0x0406 = some o) ∧
      (readOnly s = false) ∧
      (sameVolume s o = true) ∧
      (o.stage ≠ .running) ∧
      (fosterWaits s o.pkt.vol = false) ∧
      (admitted s o = true) ∧
      (mirroring s = false) ∧
      (pagesReady (running s tag) o.pkt.vol (rangeStretches o.pkt.addr o.pkt.blocks) = (true, u)) ∧
      (jRoom u ((rangeStretches o.pkt.addr o.pkt.blocks).length + 2) = true) ∧
      (o.tag = tag) :=
    ⟨upMed (run ({ op { pk 0x0406 with vol := 2 } with volGen := some 3 })) (fun m => { m with volumes := [(2, vol2)] }),
    5,
    { op { pk 0x0406 with vol := 2 } with volGen := some 3 },
    running (upMed (run ({ op { pk 0x0406 with vol := 2 } with volGen := some 3 })) (fun m => { m with volumes := [(2, vol2)] })) 5,
    by decide +kernel⟩

theorem test_meets_WriteCommandsComplete_7 :
    ∃ (s : State) (tag : Nat) (o : Op),
      (opFor s tag 0x0404 = some o) ∧
      (sameVolume s o = true) ∧
      (writesEnded s o.pkt.vol o.seq = true) :=
    ⟨upMed (run ({ op { pk 0x0404 with vol := 2 } with volGen := some 3 })) (fun m => { m with volumes := [(2, vol2)] }),
    5,
    { op { pk 0x0404 with vol := 2 } with volGen := some 3 },
    by decide +kernel⟩

theorem test_meets_WriteCommandsComplete_8 :
    ∃ (s : State) (tag : Nat) (o : Op),
      (opFor s tag 0x0404 = some o) ∧
      (sameVolume s o = true) ∧
      (writesEnded s o.pkt.vol o.seq = false) :=
    ⟨upTsk (upMed (run ({ op { pk 0x0404 with vol := 2 } with volGen := some 3 })) (fun m => { m with volumes := [(2, vol2)] })) (fun t => { t with ops := t.ops ++ [{ op { pk 0x0402 with vol := 2 } with volGen := some 3, tag := 6, seq := 1 }] }),
    5,
    { op { pk 0x0404 with vol := 2 } with volGen := some 3 },
    by decide +kernel⟩

theorem test_meets_CompressionCommandsComplete_1 :
    ∃ (s : State) (n : Nat) (r : PipeReq),
      (freePipe s false = some n) ∧
      (nextRequest s false s.cmp.lastComp = some r) :=
    ⟨upCmp up (fun c => { c with waiting := [{ cls := .command, tag := 5, num := 0, decomp := false }] }),
    0,
    { cls := .command, tag := 5, num := 0, decomp := false },
    by decide +kernel⟩

theorem test_meets_CompressionCommandsComplete_2 :
    ∃ (s : State) (n : Nat) (r : PipeReq),
      (freePipe s true = some n) ∧
      (nextRequest s true s.cmp.lastDecomp = some r) :=
    ⟨upCmp up (fun c => { c with waiting := [{ cls := .command, tag := 5, num := 0, decomp := true }] }),
    0,
    { cls := .command, tag := 5, num := 0, decomp := true },
    by decide +kernel⟩

theorem test_meets_CompressionCommandsComplete_3 :
    ∃ (s : State) (tag : Nat) (o : Op) (host : HostRead) (checker : Checker) (b out : List Byte),
      (opFor s tag 0x0501 = some o) ∧
      (s.sec.errorState = false) ∧
      (onPipe s (cmdPipe tag false) = true) ∧
      (addrUp s o = true) ∧
      (input s o host o.pkt.dlen = some (.data b)) ∧
      (compressReq (bits o.pkt.p1 1 0) (bit o.pkt.p1 2) (bit o.pkt.p1 3) o.pkt.flag8 (gainOf s (cmdPipe tag false) o.pkt.p2) o.pkt.p0 b checker = .success out) :=
    ⟨upCmp (run (op { pk 0x0501 with p0 := 100, dlen := 40 })) (fun x => { x with comp := [(0, cmdPipe 5 false)] }),
    5,
    op { pk 0x0501 with p0 := 100, dlen := 40 },
    .data [1, 1, 1, 1, 1, 1, 1, 1, 1, 1, 1, 1, 1, 1, 1, 1, 1, 1, 1, 1, 1, 1, 1, 1, 1, 1, 1, 1, 1, 1, 1, 1, 1, 1, 1, 1, 1, 1, 1, 1],
    .agrees,
    [1, 1, 1, 1, 1, 1, 1, 1, 1, 1, 1, 1, 1, 1, 1, 1, 1, 1, 1, 1, 1, 1, 1, 1, 1, 1, 1, 1, 1, 1, 1, 1, 1, 1, 1, 1, 1, 1, 1, 1],
    [0x63, 0x24, 0x12, 0x00, 0x00],
    by decide +kernel⟩

theorem test_meets_CompressionCommandsComplete_4 :
    ∃ (s : State) (tag : Nat) (o : Op) (host : HostRead) (checker : Checker) (b out : List Byte),
      (opFor s tag 0x0501 = some o) ∧
      (s.sec.errorState = false) ∧
      (onPipe s (cmdPipe tag false) = true) ∧
      (addrUp s o = true) ∧
      (input s o host o.pkt.dlen = some (.data b)) ∧
      (compressReq (bits o.pkt.p1 1 0) (bit o.pkt.p1 2) (bit o.pkt.p1 3) o.pkt.flag8 (gainOf s (cmdPipe tag false) o.pkt.p2) o.pkt.p0 b checker = .stored out) :=
    ⟨upCmp (run (op { pk 0x0501 with p0 := 100, dlen := 0, flags := 0x100 })) (fun x => { x with comp := [(0, cmdPipe 5 false)] }),
    5,
    op { pk 0x0501 with p0 := 100, dlen := 0, flags := 0x100 },
    .data [],
    .agrees,
    [],
    [1, 0, 0, 0xff, 0xff],
    by decide +kernel⟩

theorem test_meets_CompressionCommandsComplete_5 :
    ∃ (s : State) (tag : Nat) (o : Op) (host : HostRead) (checker : Checker) (b : List Byte),
      (opFor s tag 0x0501 = some o) ∧
      (s.sec.errorState = false) ∧
      (onPipe s (cmdPipe tag false) = true) ∧
      (addrUp s o = true) ∧
      (input s o host o.pkt.dlen = some (.data b)) ∧
      (compressReq (bits o.pkt.p1 1 0) (bit o.pkt.p1 2) (bit o.pkt.p1 3) o.pkt.flag8 (gainOf s (cmdPipe tag false) o.pkt.p2) o.pkt.p0 b checker = .noGain) :=
    ⟨upCmp (run (op { pk 0x0501 with p0 := 100, dlen := 0 })) (fun x => { x with comp := [(0, cmdPipe 5 false)] }),
    5,
    op { pk 0x0501 with p0 := 100, dlen := 0 },
    .data [],
    .agrees,
    [],
    by decide +kernel⟩

theorem test_meets_CompressionCommandsComplete_6 :
    ∃ (s : State) (tag : Nat) (o : Op) (host : HostRead) (b out : List Byte),
      (inflate (bits o.pkt.p1 1 0) b o.pkt.p0 = .ok out) ∧
      (opFor s tag 0x0502 = some o) ∧
      (s.sec.errorState = false) ∧
      (onPipe s (cmdPipe tag true) = true) ∧
      (addrUp s o = true) ∧
      (input s o host o.pkt.dlen = some (.data b)) :=
    ⟨upCmp (run (op { pk 0x0502 with p0 := 0, dlen := 5 })) (fun x => { x with decomp := [(0, cmdPipe 5 true)] }),
    5,
    op { pk 0x0502 with p0 := 0, dlen := 5 },
    .data [1, 0, 0, 255, 255],
    [1, 0, 0, 255, 255],
    [],
    rfl,
    by decide +kernel⟩

theorem test_meets_CompressionCommandsComplete_7 :
    ∃ (s : State) (tag : Nat) (o : Op) (host : HostRead) (b : List Byte),
      (inflate (bits o.pkt.p1 1 0) b o.pkt.p0 = .error .overflow) ∧
      (opFor s tag 0x0502 = some o) ∧
      (s.sec.errorState = false) ∧
      (onPipe s (cmdPipe tag true) = true) ∧
      (addrUp s o = true) ∧
      (input s o host o.pkt.dlen = some (.data b)) :=
    ⟨upCmp (run (op { pk 0x0502 with p0 := 0, dlen := 6 })) (fun x => { x with decomp := [(0, cmdPipe 5 true)] }),
    5,
    op { pk 0x0502 with p0 := 0, dlen := 6 },
    .data [1, 1, 0, 254, 255, 7],
    [1, 1, 0, 254, 255, 7],
    rfl,
    by decide +kernel⟩

theorem test_meets_CompressionCommandsComplete_8 :
    ∃ (s : State) (tag : Nat) (o : Op) (host : HostRead) (b : List Byte) (d off : Nat),
      (inflate (bits o.pkt.p1 1 0) b o.pkt.p0 = .error (.malformed d off)) ∧
      (opFor s tag 0x0502 = some o) ∧
      (s.sec.errorState = false) ∧
      (onPipe s (cmdPipe tag true) = true) ∧
      (addrUp s o = true) ∧
      (input s o host o.pkt.dlen = some (.data b)) :=
    ⟨upCmp (run (op { pk 0x0502 with p0 := 0, dlen := 1 })) (fun x => { x with decomp := [(0, cmdPipe 5 true)] }),
    5,
    op { pk 0x0502 with p0 := 0, dlen := 1 },
    .data [255],
    [255],
    2,
    0,
    rfl,
    by decide +kernel⟩

theorem test_meets_CompressionCommandsComplete_9 :
    ∃ (s : State) (vol lba : Nat) (v : Volume) (x : Staged),
      (mget s.med.volumes vol = some v) ∧
      (stagedAt s vol lba = some x) ∧
      (v.comp = true) ∧
      (x.comp = none) ∧
      (x.lost = false) ∧
      (onPipe s { cls := .inlineC, tag := vol, num := lba, decomp := false } = true) :=
    ⟨upCmp (upMed up (fun m => { m with volumes := [(2, { vol2 with comp := true })], staging := [stg] })) (fun c => { c with comp := [(0, { cls := .inlineC, tag := 2, num := 1, decomp := false })] }),
    2,
    1,
    { vol2 with comp := true },
    stg,
    by decide +kernel⟩

theorem test_meets_DigestCommandsComplete_1 :
    ∃ (s : State) (tag : Nat) (o : Op) (host : HostRead) (n : Nat) (c : DigestCtx) (b : List Byte),
      (opFor s tag 0x0503 = some o) ∧
      (s.sec.errorState = false) ∧
      (ctxOfTag s o.tag = some (n, c)) ∧
      (c.parts.head? = some o.tag) ∧
      (o.stage = .ready) ∧
      (o.pkt.dlen ≠ 0) ∧
      (input s o host o.pkt.dlen = some (.data b)) ∧
      (expectedOf s o (.data []) = some (.data [])) :=
    ⟨upSec (run (op { pk 0x0503 with p4 := 2, flags := 0x200, dlen := 2 })) (fun e => { e with contexts := [(0, { alg := 2, hmac := none, data := [], kite := none, parts := [5], doomed := false })] }),
    5,
    op { pk 0x0503 with p4 := 2, flags := 0x200, dlen := 2 },
    .data [1, 2],
    0,
    { alg := 2, hmac := none, data := [], kite := none, parts := [5], doomed := false },
    [1, 2],
    by decide +kernel⟩

theorem test_meets_DigestCommandsComplete_2 :
    ∃ (s : State) (tag : Nat) (o : Op) (host expected : HostRead) (n : Nat) (c : DigestCtx) (b e : List Byte),
      (opFor s tag 0x0504 = some o) ∧
      (s.sec.errorState = false) ∧
      (ctxOfTag s o.tag = some (n, c)) ∧
      (c.parts.head? = some o.tag) ∧
      (o.stage = .ready) ∧
      (o.pkt.dlen ≠ 0) ∧
      (input s o host o.pkt.dlen = some (.data b)) ∧
      (expectedOf s o expected = some (.data e)) :=
    ⟨upSec (run (op { pk 0x0504 with p4 := 2, flags := 0x200, dlen := 2 })) (fun e => { e with contexts := [(0, { alg := 2, hmac := none, data := [], kite := none, parts := [5], doomed := false })] }),
    5,
    op { pk 0x0504 with p4 := 2, flags := 0x200, dlen := 2 },
    .data [1, 2],
    .data [],
    0,
    { alg := 2, hmac := none, data := [], kite := none, parts := [5], doomed := false },
    [1, 2],
    [],
    by decide +kernel⟩

theorem test_meets_DigestCommandsComplete_3 :
    ∃ (s : State) (n : Nat) (c : DigestCtx) (o : Op),
      (nextContext s = some (n, c)) ∧
      (c.kite = none) ∧
      (c.parts.head?.bind (findOp s) = some o) ∧
      (o.rx.length - expectedLen o ≤ 65536) :=
    ⟨upSec (run ({ op { pk 0x0503 with p4 := 2, flags := 0x200, dlen := 2 } with stage := .running, rx := [1, 2] })) (fun e => { e with contexts := [(0, { alg := 2, hmac := none, data := [], kite := none, parts := [5], doomed := false })] }),
    0,
    { alg := 2, hmac := none, data := [], kite := none, parts := [5], doomed := false },
    { op { pk 0x0503 with p4 := 2, flags := 0x200, dlen := 2 } with stage := .running, rx := [1, 2] },
    by decide +kernel⟩

theorem test_meets_DigestCommandsComplete_4 :
    ∃ (o : Op) (c : DigestCtx),
      (o.pkt.more = true) ∧
      (c.doomed = false) :=
    ⟨op { pk 0x0503 with flags := 0x200 },
    { alg := 2, hmac := none, data := [], kite := none, parts := [5], doomed := false },
    by decide +kernel⟩

theorem test_meets_DigestCommandsComplete_5 :
    ∃ (o : Op) (c : DigestCtx),
      (o.pkt.more = false) ∧
      (o.pkt.opc = 0x0504) ∧
      (o.aux ≠ 1) ∧
      (c.hmac = none) :=
    ⟨op (pk 0x0504),
    { alg := 2, hmac := none, data := [], kite := none, parts := [5], doomed := false },
    by decide +kernel⟩

theorem test_meets_DigestCommandsComplete_6 :
    ∃ (s : State) (n : Nat) (c : DigestCtx),
      (inReset s islCrypt = false) ∧
      (mget s.sec.contexts n = some c) ∧
      (c.kite = none) ∧
      (c.parts = []) ∧
      (c.since + 1000 * s.sec.idleS ≤ s.glb.lifetime) :=
    ⟨upGlb (upSec (run (op { pk 0x0503 with p4 := 2 })) (fun e => { e with contexts := [(0, { alg := 2, hmac := none, data := [], kite := none, parts := [], doomed := false })] })) (fun g => { g with lifetime := 4000000 }),
    0,
    { alg := 2, hmac := none, data := [], kite := none, parts := [], doomed := false },
    by decide +kernel⟩

theorem test_meets_WaymarkCommandsComplete_1 :
    ∃ (s : State) (tag : Nat) (o : Op) (host : HostRead) (b : List Byte),
      (opFor s tag 0x0506 = some o) ∧
      ((wTable s o.pkt.p1).en = true) ∧
      ((wTable s o.pkt.p1).ready = true) ∧
      (addrUp s o = true) ∧
      (input s o host o.pkt.dlen = some (.data b)) :=
    ⟨upWay (run (op (pk 0x0506))) (fun w => { w with tables := lmod w.tables 0 (fun t => { t with en := true, ready := true }) }),
    5,
    op (pk 0x0506),
    .data [],
    [],
    by decide +kernel⟩

theorem test_meets_WaymarkCommandsComplete_2 :
    ∃ (s : State) (table : Nat) (q : WSearch),
      (inReset s islWay = false) ∧
      (s.way.queue.find? (fun q => q.table == table) = some q) ∧
      ((wTable s table).en = true) ∧
      ((wTable s table).ready = true) :=
    ⟨upWay (upWay (up) (fun w => { w with tables := lmod w.tables 0 (fun t => { t with en := true, ready := true }) })) (fun w => { w with queue := [{ table := 0, run := 5, num := 0, key := [] }] }),
    0,
    { table := 0, run := 5, num := 0, key := [] },
    by decide +kernel⟩

theorem test_meets_WaymarkCommandsComplete_3 :
    ∃ (s : State) (tag : Nat) (o : Op) (host : HostRead) (b : List Byte) (u : State),
      (opFor s tag 0x0505 = some o) ∧
      (s.sec.errorState = false) ∧
      (earlierOp s o.seq (fun q => q.opc == 0x0505) = false) ∧
      ((wTable s o.pkt.p0).en = true) ∧
      ((wTable s o.pkt.p0).ready = true) ∧
      (input s o host o.pkt.dlen = some (.data b)) ∧
      (loadRecords s (wTable s o.pkt.p0) o.pkt.p1 0 b (o.pkt.dlen / recBytes (wTable s o.pkt.p0).width) = (none, u)) :=
    ⟨upWay (run (op (pk 0x0505))) (fun w => { w with tables := lmod w.tables 0 (fun t => { t with en := true, ready := true }) }),
    5,
    op (pk 0x0505),
    .data [],
    [],
    upWay (run (op (pk 0x0505))) (fun w => { w with tables := lmod w.tables 0 (fun t => { t with en := true, ready := true }) }),
    by decide +kernel⟩

theorem test_meets_WaymarkCommandsComplete_4 :
    ∃ (s : State) (tag : Nat) (o : Op) (host : HostRead) (b : List Byte) (u : State) (i : Nat),
      (loadRecords s (wTable s o.pkt.p0) o.pkt.p1 0 b (o.pkt.dlen / recBytes (wTable s o.pkt.p0).width) = (some i, u)) ∧
      (opFor s tag 0x0505 = some o) ∧
      (s.sec.errorState = false) ∧
      (earlierOp s o.seq (fun q => q.opc == 0x0505) = false) ∧
      ((wTable s o.pkt.p0).en = true) ∧
      ((wTable s o.pkt.p0).ready = true) ∧
      (input s o host o.pkt.dlen = some (.data b)) :=
    ⟨upWay (run (op { pk 0x0505 with dlen := 32 })) (fun w => { w with tables := lmod w.tables 0 (fun t => { t with en := true, ready := true }) }),
    5,
    op { pk 0x0505 with dlen := 32 },
    .data (List.replicate 32 255),
    List.replicate 32 255,
    (loadRecords (upWay (run (op { pk 0x0505 with dlen := 32 })) (fun w => { w with tables := lmod w.tables 0 (fun t => { t with en := true, ready := true }) })) (wTable (upWay (run (op { pk 0x0505 with dlen := 32 })) (fun w => { w with tables := lmod w.tables 0 (fun t => { t with en := true, ready := true }) })) 0) 0 0 (List.replicate 32 255) 1).2,
    0,
    rfl,
    by decide +kernel⟩

theorem test_meets_WaymarkCommandsComplete_5 :
    ∃ (s : State) (tag : Nat) (o : Op),
      (opFor s tag 0x0507 = some o) ∧
      ((wTable s o.pkt.p1).en = true) ∧
      ((wTable s o.pkt.p1).ready = true) ∧
      (addrUp s o = true) ∧
      (o.pkt.p3 * recBytes (wTable s o.pkt.p1).width ≤ o.pkt.p0) :=
    ⟨upWay (run (op { pk 0x0507 with p0 := 32, p3 := 1 })) (fun w => { w with tables := lmod w.tables 0 (fun t => { t with en := true, ready := true }) }),
    5,
    op { pk 0x0507 with p0 := 32, p3 := 1 },
    by decide +kernel⟩

theorem test_meets_WaymarkCommandsComplete_6 :
    ∃ (s : State) (tag : Nat) (o : Op),
      (opFor s tag 0x0507 = some o) ∧
      ((wTable s o.pkt.p1).en = true) ∧
      ((wTable s o.pkt.p1).ready = true) ∧
      (addrUp s o = true) ∧
      (o.pkt.p0 < o.pkt.p3 * recBytes (wTable s o.pkt.p1).width) :=
    ⟨upWay (run (op { pk 0x0507 with p0 := 31, p3 := 1 })) (fun w => { w with tables := lmod w.tables 0 (fun t => { t with en := true, ready := true }) }),
    5,
    op { pk 0x0507 with p0 := 31, p3 := 1 },
    by decide +kernel⟩

theorem test_meets_WaymarkCommandsComplete_7 :
    ∃ (s : State) (table : Nat),
      (inReset s islWay = false) ∧
      ((wTable s table).en = true) ∧
      ((wTable s table).clearing = true) :=
    ⟨upWay up (fun w => { w with tables := lmod w.tables 0 (fun t => { t with en := true, clearing := true }) }),
    0,
    by decide +kernel⟩

theorem test_meets_WaymarkCommandsComplete_8 :
    ∃ (s : State),
      (inReset s islWay = false) ∧
      (unitAgrees s s.way.sweepAt = true) ∧
      (s.way.sweepAt ≠ 65535) :=
    ⟨up,
    by decide +kernel⟩

theorem test_meets_WaymarkCommandsComplete_9 :
    ∃ (s : State),
      (inReset s islWay = false) ∧
      (unitAgrees s s.way.sweepAt = false) ∧
      (s.way.sweepAt ≠ 65535) :=
    ⟨upWay up (fun w => { w with shadow := [(0, { value := 1, mask := 1, result := 0, valid := true })] }),
    by decide +kernel⟩

theorem test_meets_ProgramCommandsComplete_1 :
    ∃ (s : State) (tag : Nat) (o : Op) (host : HostRead) (b : List Byte),
      (opFor s tag 0x0601 = some o) ∧
      (earlierOp s o.seq (fun q => q.opc == 0x0601) = false) ∧
      (input s o host o.pkt.dlen = some (.data b)) ∧
      (imageFault b o.pkt.dlen = none) :=
    ⟨run (op { pk 0x0601 with dlen := imageBytes.length }),
    5,
    op { pk 0x0601 with dlen := imageBytes.length },
    .data imageBytes,
    imageBytes,
    by decide +kernel⟩

theorem test_meets_ProgramCommandsComplete_2 :
    ∃ (s : State) (tag : Nat) (o : Op) (host : HostRead) (b : List Byte) (r : Reply),
      (opFor s tag 0x0601 = some o) ∧
      (earlierOp s o.seq (fun q => q.opc == 0x0601) = false) ∧
      (input s o host o.pkt.dlen = some (.data b)) ∧
      (imageFault b o.pkt.dlen = some r) :=
    ⟨run (op { pk 0x0601 with dlen := 64 }),
    5,
    op { pk 0x0601 with dlen := 64 },
    .data (zeros 64),
    zeros 64,
    (imageFault (zeros 64) 64).getD (ok 0 0),
    by decide +kernel⟩

theorem test_meets_ProgramCommandsComplete_3 :
    ∃ (s : State) (tag : Nat) (o : Op),
      (opFor s tag 0x0602 = some o) ∧
      (earlierOp s o.seq (fun q => q.opc == 0x0603 && q.p1 == o.pkt.p0) = false) :=
    ⟨run (op (pk 0x0602)),
    5,
    op (pk 0x0602),
    by decide +kernel⟩

theorem test_meets_ProgramCommandsComplete_4 :
    ∃ (s : State) (tag : Nat) (o : Op) (b : List Byte),
      (findOp s tag = some o) ∧
      (o.pkt.opc = 0x0603) ∧
      (awake s 0x0603 = true) ∧
      (o.stage = .ready) ∧
      (o.aux ≠ 1) ∧
      (entryUp s = true) ∧
      (o.pkt.p5 = b.length) ∧
      (b ≠ []) :=
    ⟨run (op { pk 0x0603 with p5 := 2 }),
    5,
    op { pk 0x0603 with p5 := 2 },
    [1, 2],
    by decide +kernel⟩

theorem test_meets_ProgramCommandsComplete_5 :
    ∃ (s : State) (tag : Nat) (r : Run) (g : Program),
      (findRun s tag = some r) ∧
      (r.started = false) ∧
      (r.unplaced = []) ∧
      (r.ending = none) ∧
      (mget s.kite.programs r.slot = some g) :=
    ⟨upKite up (fun k => { k with runs := [{ run1 with started := false }], programs := [(0, prog1)] }),
    5,
    { run1 with started := false },
    prog1,
    by decide +kernel⟩

theorem test_meets_ProgramCommandsComplete_6 :
    ∃ (s : State) (tag : Nat) (r : Run),
      (findRun s tag = some r) ∧
      (r.ending = none) :=
    ⟨upKite up (fun k => { k with runs := [{ run1 with started := false }] }),
    5,
    { run1 with started := false },
    by decide +kernel⟩

theorem test_meets_ProgramCommandsComplete_7 :
    ∃ (s : State) (tag : Nat) (o : Op),
      (opFor s tag 0x0604 = some o) ∧
      (runDecided s o.pkt.p0 = false) :=
    ⟨upKite (upTsk up (fun t => { t with ops := [op { pk 0x0604 with p0 := 6 }, { op (pk 0x0603) with tag := 6, stage := .running }] })) (fun k => { k with runs := [{ run1 with tag := 6 }] }),
    5,
    op { pk 0x0604 with p0 := 6 },
    by decide +kernel⟩

theorem test_meets_ProgramCommandsComplete_8 :
    ∃ (s : State) (tag : Nat) (o : Op),
      (opFor s tag 0x0604 = some o) ∧
      (runDecided s o.pkt.p0 = true) :=
    ⟨run (op { pk 0x0604 with p0 := 6 }),
    5,
    op { pk 0x0604 with p0 := 6 },
    by decide +kernel⟩

theorem test_meets_ProgramCommandsComplete_9 :
    ∃ (s : State) (tag : Nat) (o : Op),
      (opFor s tag 0x0605 = some o) :=
    ⟨run (op (pk 0x0605)),
    5,
    op (pk 0x0605),
    by decide⟩

theorem test_meets_ProgramCommandsComplete_10 :
    ∃ (s : State) (tag : Nat) (r : Run),
      (findRun s tag = some r) ∧
      (r.started = true) ∧
      ((s.kite.insts.filter (fun i => i.run == tag)).any (fun i => i.state != .ended || i.ports.busy) = false) :=
    ⟨upKite up (fun k => { k with runs := [run1] }),
    5,
    run1,
    by decide +kernel⟩

theorem test_meets_SecurityCommandsComplete_1 
    (h : ∃ b k, Config.unwrapKey b = some k) : ∃ (s : State) (tag : Nat) (o : Op) (host : HostRead) (b k : List Byte),
      opFor s tag 0x0701 = some o ∧ input s o host o.pkt.dlen = some (.data b) ∧ Config.unwrapKey b = some k ∧ o.pkt.p0 = 0 := by
    obtain ⟨b, k, h⟩ := h
    refine ⟨run (op { pk 0x0701 with dlen := b.length }), 5, op { pk 0x0701 with dlen := b.length }, .data b, b, k, rfl, ?_, h, rfl⟩
    simp [input, op, fromFootpath]
    rfl

theorem test_meets_SecurityCommandsComplete_2 
    (h : ∃ b k, Config.unwrapKey b = some k) : ∃ (s : State) (tag : Nat) (o : Op) (host : HostRead) (b k : List Byte),
      opFor s tag 0x0701 = some o ∧ input s o host o.pkt.dlen = some (.data b) ∧ Config.unwrapKey b = some k ∧ o.pkt.p0 = 1 := by
    obtain ⟨b, k, h⟩ := h
    refine ⟨run (op { pk 0x0701 with p0 := 1, dlen := b.length }), 5, op { pk 0x0701 with p0 := 1, dlen := b.length }, .data b, b, k, rfl, ?_, h, rfl⟩
    simp [input, op, fromFootpath]
    rfl

theorem test_meets_SecurityCommandsComplete_3 :
    ∃ (s : State) (tag : Nat) (o : Op),
      (opFor s tag 0x0702 = some o) ∧
      (o.pkt.p0 = 0) :=
    ⟨run (op (pk 0x0702)),
    5,
    op (pk 0x0702),
    by decide +kernel⟩

theorem test_meets_SecurityCommandsComplete_4 :
    ∃ (s : State) (tag : Nat) (o : Op),
      (opFor s tag 0x0702 = some o) ∧
      (o.pkt.p0 = 1) :=
    ⟨run (op { pk 0x0702 with p0 := 1 }),
    5,
    op { pk 0x0702 with p0 := 1 },
    by decide +kernel⟩

theorem test_meets_SecurityCommandsComplete_5 :
    ∃ (s : State) (tag : Nat) (o : Op) (host : HostRead) (b : List Byte),
      (opFor s tag 0x0703 = some o) ∧
      (turnOf s o = true) ∧
      (input s o host o.pkt.dlen = some (.data b)) :=
    ⟨run (op { pk 0x0703 with p0 := 5, dlen := 2 }),
    5,
    op { pk 0x0703 with p0 := 5, dlen := 2 },
    .data [1, 2],
    [1, 2],
    by decide +kernel⟩

theorem test_meets_SecurityCommandsComplete_6 :
    ∃ n m : Nat, m ≠ n := ⟨0, 1, by decide⟩

theorem test_meets_SecurityCommandsComplete_7 :
    ∃ (s : State) (tag : Nat) (o : Op) (host : HostRead) (b : List Byte),
      (opFor s tag 0x0704 = some o) ∧
      (s.sec.errorState = false) ∧
      (earlierOp s o.seq extending = false) ∧
      (addrUp s o = true) ∧
      (input s o host o.pkt.dlen = some (.data b)) ∧
      (1920 ≤ o.pkt.p0) :=
    ⟨run (op { pk 0x0704 with p0 := 1920, dlen := 2 }),
    5,
    op { pk 0x0704 with p0 := 1920, dlen := 2 },
    .data [1, 2],
    [1, 2],
    by decide +kernel⟩

theorem test_meets_SecurityCommandsComplete_8 :
    ∃ (s : State) (tag : Nat) (o : Op),
      (opFor s tag 0x0705 = some o) ∧
      (o.stage = .running) :=
    ⟨run { op (pk 0x0705) with stage := .running },
    5,
    { op (pk 0x0705) with stage := .running },
    by decide +kernel⟩

theorem test_meets_SecurityCommandsComplete_9 :
    ∃ (s : State) (tag : Nat) (o : Op),
      (opFor s tag 0x0705 = some o) ∧
      (o.stage = .ready) :=
    ⟨run (op (pk 0x0705)),
    5,
    op (pk 0x0705),
    by decide +kernel⟩

theorem test_meets_SecurityCommandsComplete_10 :
    ∃ (s : State),
      (s.sec.powerupDone = true) ∧
      (inReset s islCrypt = false) ∧
      (s.sec.testedAt + 86400000 ≤ s.glb.lifetime) :=
    ⟨upGlb (upSec up (fun e => { e with powerupDone := true })) (fun g => { g with lifetime := 86400000 }),
    by decide +kernel⟩

theorem test_meets_SecurityCommandsComplete_12 :
    ∃ (cause : Nat),
      (cause ≤ 3) :=
    ⟨2,
    by decide⟩

theorem test_meets_SecurityCommandsComplete_14 :
    ∃ (s : State),
      (inReset s islCrypt = false) :=
    ⟨upGlb up (fun g => { g with booting := false }),
    by decide⟩

theorem test_meets_SanitiseCommandsComplete_1 :
    ∃ (s : State) (tag : Nat) (o : Op),
      (opFor s tag 0x0706 = some o) :=
    ⟨run (op (pk 0x0706)),
    5,
    op (pk 0x0706),
    by decide⟩

theorem test_meets_SanitiseCommandsComplete_2 :
    ∃ (s : State) (o : Op),
      (s.tsk.ops.find? (fun o => o.pkt.opc == 0x0706 && o.stage == .running) = some o) ∧
      (earlierOp s o.seq (fun _ => true) = false) ∧
      (s.sec.errorState = false) ∧
      (s.glb.serviceStart = false) :=
    ⟨run { op (pk 0x0706) with stage := .running },
    { op (pk 0x0706) with stage := .running },
    by decide +kernel⟩

theorem test_meets_SanitiseCommandsComplete_4 :
    ∃ (s : State),
      (s.glb.ready = true) ∧
      (s.med.dumpActive = false) ∧
      (s.med.dumpHeld = false) ∧
      (s.med.progress.state = 1) ∧
      (s.sec.errorState = false) ∧
      (s.med.progress.keyStep = true) :=
    ⟨upGlb (upMed up (fun m => { m with progress := { m.progress with state := 1, keyStep := true } })) (fun g => { g with ready := true }),
    by decide +kernel⟩

theorem test_meets_SanitiseCommandsComplete_5 :
    ∃ (s : State) (tag : Nat) (o : Op),
      (opFor s tag 0x0707 = some o) :=
    ⟨run (op (pk 0x0707)),
    5,
    op (pk 0x0707),
    by decide⟩

theorem test_meets_PairCommandsComplete_1 :
    ∃ (s : State) (tag : Nat) (o : Op) (host : HostRead) (token : List Byte),
      (opFor s tag 0x0801 = some o) ∧
      (o.stage ≠ .running) ∧
      (s.pair.state = 0) ∧
      (s.pair.pairing = none) ∧
      (input s o host o.pkt.dlen = some (.data token)) ∧
      (s.pair.helloIn = none) :=
    ⟨run (op { pk 0x0801 with dlen := 2 }),
    5,
    op { pk 0x0801 with dlen := 2 },
    .data [1, 2],
    [1, 2],
    by decide +kernel⟩

theorem test_meets_PairCommandsComplete_2 :
    ∃ (s : State) (tag : Nat) (o : Op) (p : Pairing),
      (opFor s tag 0x0801 = some o) ∧
      (o.stage = .running) ∧
      (s.pair.pairing = some p) ∧
      (s.pair.state = 1) ∧
      ((p.agreed && s.med.ckpt.isNone && decide (newestRootNo s < p.base)) = false) ∧
      (copyDone s p = true) :=
    ⟨upMed (upPair (run { op (pk 0x0801) with stage := .running }) (fun p => { p with state := 1, pairing := some { tag := 5, token := [], agreed := true, base := 0, since := 0 } })) (fun m => { m with partnerRoot0 := some root1 }),
    5,
    { op (pk 0x0801) with stage := .running },
    { tag := 5, token := [], agreed := true, base := 0, since := 0 },
    by decide +kernel⟩

theorem test_meets_PairCommandsComplete_3 :
    ∃ (s : State) (p : Pairing),
      (s.pair.pairing = some p) ∧
      (p.agreed = false) ∧
      (p.since + 10000 ≤ s.glb.lifetime) :=
    ⟨upGlb (upPair up (fun p => { p with pairing := some { tag := 5, token := [], agreed := false, base := 0, since := 0 } })) (fun g => { g with lifetime := 10000 }),
    { tag := 5, token := [], agreed := false, base := 0, since := 0 },
    by decide +kernel⟩

theorem test_meets_PairCommandsComplete_4 :
    ∃ (s : State) (tag : Nat) (o : Op),
      (opFor s tag 0x0802 = some o) ∧
      (o.stage ≠ .running) ∧
      (s.pair.state = 0) :=
    ⟨run (op (pk 0x0802)),
    5,
    op (pk 0x0802),
    by decide +kernel⟩

theorem test_meets_PairCommandsComplete_5 :
    ∃ (s : State) (tag : Nat) (o : Op),
      (opFor s tag 0x0802 = some o) ∧
      (o.stage ≠ .running) ∧
      (s.pair.state ≠ 0) ∧
      (s.pair.fostering = false) :=
    ⟨upPair (run (op (pk 0x0802))) (fun p => { p with state := 2 }),
    5,
    op (pk 0x0802),
    by decide +kernel⟩

theorem test_meets_PairCommandsComplete_6 :
    ∃ (s : State) (tag : Nat) (o : Op),
      (opFor s tag 0x0803 = some o) ∧
      (o.stage ≠ .running) ∧
      (2 ≤ s.pair.state) ∧
      (s.pair.beating = false) ∧
      (s.pair.fostering = false) ∧
      (bit o.pkt.p0 0 = true) :=
    ⟨upPair (run (op { pk 0x0803 with p0 := 1 })) (fun p => { p with state := 2, beating := false }),
    5,
    op { pk 0x0803 with p0 := 1 },
    by decide +kernel⟩

theorem test_meets_PairCommandsComplete_7 :
    ∃ (s : State) (tag : Nat) (o : Op),
      (opFor s tag 0x0803 = some o) ∧
      (o.stage ≠ .running) ∧
      (s.pair.beating = true) :=
    ⟨upPair (run (op (pk 0x0803))) (fun p => { p with beating := true }),
    5,
    op (pk 0x0803),
    by decide +kernel⟩

theorem test_meets_MeshCommandsComplete_1 :
    ∃ (s : State) (tag : Nat) (o : Op),
      (opFor s tag 0x0804 = some o) ∧
      (checkObjects s o.pkt = none) :=
    ⟨run (op { pk 0x0804 with p1 := 0x111 }),
    5,
    op { pk 0x0804 with p1 := 0x111 },
    by decide +kernel⟩

theorem test_meets_MeshCommandsComplete_2 :
    ∃ (s : State) (tag : Nat) (o : Op) (host : HostRead) (b : List Byte) (l : List Nat) (slot : Nat) (g : Group),
      (g = { id := o.pkt.p0, k := bits o.pkt.p1 4 0, m := bits o.pkt.p1 10 8, index := bits o.pkt.p1 20 16, state := 1, lost := [], members := l, hello := [], leaving := [], next := 0, tag := some tag, since := s.glb.lifetime, closed := 0, rebuilds := 0, failedStripes := 0 }) ∧
      (opFor s tag 0x0805 = some o) ∧
      (o.stage ≠ .running) ∧
      (checkObjects s o.pkt = none) ∧
      (input s o host o.pkt.dlen = some (.data b)) ∧
      (l = (List.range (bits o.pkt.p1 4 0 + bits o.pkt.p1 10 8)).map (fun i => num b (2 * i) 2)) ∧
      (l.eraseDups.length = bits o.pkt.p1 4 0 + bits o.pkt.p1 10 8) ∧
      (l.any (fun n => decide (2048 ≤ n)) = false) ∧
      (l[bits o.pkt.p1 20 16]? = some s.mesh.node) ∧
      ((List.range 8).find? (fun i => (mget s.mesh.groups i).isNone) = some slot) :=
    ⟨upMesh (run (op { pk 0x0805 with p0 := 7, p1 := 0x101, dlen := 4 })) (fun m => { m with configured := true }),
    5,
    op { pk 0x0805 with p0 := 7, p1 := 0x101, dlen := 4 },
    .data [0, 0, 1, 0],
    [0, 0, 1, 0],
    [0, 1],
    0,
    { id := 7, k := 1, m := 1, index := 0, state := 1, lost := [], members := [0, 1], hello := [], leaving := [], next := 0, tag := some 5, since := 0, closed := 0, rebuilds := 0, failedStripes := 0 },
    rfl,
    by decide +kernel⟩

theorem test_meets_MeshCommandsComplete_3 :
    ∃ (s : State) (tag : Nat) (o : Op) (g : Group),
      (opFor s tag 0x0806 = some o) ∧
      (o.stage ≠ .running) ∧
      (groupAt s o.pkt.p0 = some g) ∧
      (g.state ≠ 1) ∧
      (g.state ≠ 5) :=
    ⟨upMesh (run (op { pk 0x0806 with p0 := 7 })) (fun m => { m with groups := [(0, grp1)] }),
    5,
    op { pk 0x0806 with p0 := 7 },
    grp1,
    by decide +kernel⟩

theorem test_meets_MeshCommandsComplete_4 :
    ∃ (s : State) (tag : Nat) (o : Op) (g : Group),
      (opFor s tag 0x0807 = some o) ∧
      (checkObjects s o.pkt = none) ∧
      (groupAt s o.pkt.p0 = some g) ∧
      (g.formed = true) ∧
      (s.mesh.rebuild = none) :=
    ⟨upMesh (run (op { pk 0x0807 with p0 := 7 })) (fun m => { m with groups := [(0, grp1)], configured := true }),
    5,
    op { pk 0x0807 with p0 := 7 },
    grp1,
    by decide +kernel⟩

theorem test_meets_MeshCommandsComplete_5 :
    ∃ (s : State) (tag : Nat) (o : Op) (b : Rebuild),
      (opFor s tag 0x0808 = some o) ∧
      ((groupAt s o.pkt.p0).isSome = true) ∧
      (s.mesh.rebuild = some b) ∧
      (b.group = o.pkt.p0) :=
    ⟨upMesh (run (op { pk 0x0808 with p0 := 7 })) (fun m => { m with groups := [(0, grp1)], rebuild := some reb1 }),
    5,
    op { pk 0x0808 with p0 := 7 },
    reb1,
    by decide +kernel⟩

theorem test_meets_PowerAndHealthCommandsComplete_1 :
    ∃ (s : State) (tag : Nat) (o : Op),
      (opFor s tag 0x0901 = some o) ∧
      (o.stage ≠ .running) ∧
      (s.pwr.trans = none) ∧
      (s.pwr.waitIdle = none) :=
    ⟨run (op { pk 0x0901 with p0 := 1 }),
    5,
    op { pk 0x0901 with p0 := 1 },
    by decide +kernel⟩

theorem test_meets_PowerAndHealthCommandsComplete_2 :
    ∃ (s : State) (tag : Nat) (o : Op) (t : Transition),
      (opFor s tag 0x0901 = some o) ∧
      (o.stage ≠ .running) ∧
      (s.pwr.trans = some t) ∧
      (s.pwr.queued = none) :=
    ⟨upPwr (run (op { pk 0x0901 with p0 := 1 })) (fun p => { p with trans := some tr1 }),
    5,
    op { pk 0x0901 with p0 := 1 },
    tr1,
    by decide +kernel⟩

theorem test_meets_PowerAndHealthCommandsComplete_3 :
    ∃ (s : State) (tag : Nat) (o : Op),
      (opFor s tag 0x0902 = some o) ∧
      (s.pwr.trans = none) ∧
      (s.pwr.queued = none) :=
    ⟨run (op (pk 0x0902)),
    5,
    op (pk 0x0902),
    by decide +kernel⟩

theorem test_meets_PowerAndHealthCommandsComplete_4 :
    ∃ (s : State) (tag : Nat) (o : Op),
      (opFor s tag 0x0903 = some o) ∧
      (outUp s o = true) :=
    ⟨run (op (pk 0x0903)),
    5,
    op (pk 0x0903),
    by decide +kernel⟩

theorem test_meets_PowerAndHealthCommandsComplete_5 :
    ∃ (s : State) (tag : Nat) (o : Op),
      (opFor s tag 0x0904 = some o) ∧
      (o.stage ≠ .running) ∧
      (bit o.pkt.p0 0 = false) ∧
      (s.hlt.planRunning = false) :=
    ⟨run (op (pk 0x0904)),
    5,
    op (pk 0x0904),
    by decide +kernel⟩

theorem test_meets_PowerAndHealthCommandsComplete_6 :
    ∃ (s : State) (tag : Nat) (o : Op),
      (opFor s tag 0x0904 = some o) ∧
      (o.stage ≠ .running) ∧
      (bit o.pkt.p0 0 = true) :=
    ⟨run (op { pk 0x0904 with p0 := 1 }),
    5,
    op { pk 0x0904 with p0 := 1 },
    by decide +kernel⟩

theorem test_meets_PowerAndHealthCommandsComplete_7 :
    ∃ (s : State) (tag : Nat) (o : Op),
      (opFor s tag 0x0905 = some o) ∧
      (o.stage ≠ .running) ∧
      (o.pkt.p0 = 0) :=
    ⟨run (op (pk 0x0905)),
    5,
    op (pk 0x0905),
    by decide +kernel⟩

theorem test_meets_PowerAndHealthCommandsComplete_8 :
    ∃ (s : State) (tag : Nat) (o : Op),
      (opFor s tag 0x0905 = some o) ∧
      (o.stage ≠ .running) ∧
      (o.pkt.p0 = 1) :=
    ⟨run (op { pk 0x0905 with p0 := 1 }),
    5,
    op { pk 0x0905 with p0 := 1 },
    by decide +kernel⟩

theorem test_meets_PowerAndHealthCommandsComplete_9 :
    ∃ (s : State) (tag : Nat) (o : Op),
      (opFor s tag 0x0905 = some o) ∧
      (o.stage ≠ .running) ∧
      (o.pkt.p0 = 2) ∧
      (s.hlt.testRun = none) :=
    ⟨run (op { pk 0x0905 with p0 := 2 }),
    5,
    op { pk 0x0905 with p0 := 2 },
    by decide +kernel⟩

theorem test_meets_ResetsAndBootComplete_1 :
    ∃ (s : State),
      (s.glb.poweredOn = true) ∧
      (inBallast s = false) ∧
      (s.pwr.perstN = true) :=
    ⟨upPwr up (fun p => { p with perstN := true }),
    by decide +kernel⟩

theorem test_meets_ResetsAndBootComplete_2 :
    ∃ (s : State) (k : Nat),
      (k = 2 ∨ k = 3) ∧
      (s.glb.poweredOn = true) ∧
      (inBallast s = false) ∧
      (s.hst.mode ≠ 0) ∧
      (s.pwr.linkPm ≠ 2) :=
    ⟨up,
    2,
    by decide +kernel⟩

theorem test_meets_ResetsAndBootComplete_4 :
    ∃ (s : State),
      (s.pwr.perstN = false) :=
    ⟨upPwr up (fun p => { p with perstN := false }),
    by decide⟩

theorem test_meets_ResetsAndBootComplete_5 :
    ∃ (s : State),
      (s.hst.mode ≠ 0) ∧
      (s.glb.configReady = true) ∧
      (s.pwr.linkPm ≠ 2) ∧
      (s.flt.containing.contains islHost = false) :=
    ⟨upGlb up (fun g => { g with configReady := true }),
    by decide +kernel⟩

theorem test_meets_ResetsAndBootComplete_6 :
    ∃ (s : State),
      (s.glb.poweredOn = false) :=
    ⟨upGlb up (fun g => { g with poweredOn := false }),
    by decide⟩

theorem test_meets_ResetsAndBootComplete_7 :
    ∃ (s : State) (found : BootIn),
      (bootable s = true) ∧
      (bootChoice (readSlots (upGlb s (fun g => { g with serviceStart := found.service, fpRxdLow := found.service }))) = none) :=
    ⟨upPwr State.reset (fun p => { p with railsGood := true, perstN := true, pwrFailN := true }),
    found0,
    by decide +kernel⟩

theorem test_meets_ResetsAndBootComplete_8 
    (h : ∃ b k, slotState b k = 0 ∧ slotNum b (cfgOff + slotNum b (cfgOff + 0x18) 4) 2 = 4800 ∧ slotNum b (cfgOff + slotNum b (cfgOff + 0x18) 4 + 2) 1 = 8 ∧
        slotNum b (cfgOff + slotNum b (cfgOff + 0x18) 4 + 3) 1 = 1 ∧ slotNum b (cfgOff + slotNum b (cfgOff + 0x18) 4 + 4) 1 = 8) :
      ∃ (s : State) (found : BootIn) (golden : Bool) (u : State), bootable s = true ∧
        bootChoice (readSlots (upGlb s (fun g => { g with serviceStart := found.service, fpRxdLow := found.service }))) = some golden ∧
        u = powerUpTests (startImage (readSlots (upGlb s (fun g => { g with serviceStart := found.service, fpRxdLow := found.service }))) golden) found.selftestFailed ∧
        u.sec.errorState = false ∧ dramAgrees u found.board = true ∧ found.board.trainOk = true := by
    obtain ⟨b, k, h, a1, a2, a3, a4⟩ := h
    refine ⟨upGlb (upPwr State.reset (fun p => { p with railsGood := true, perstN := true, pwrFailN := true })) (fun g => { g with
      primary := { g.primary with bytes := b }, keyDigest := k }), found0, false, _, rfl, ?_, rfl, rfl, ?_, rfl⟩
    · simp [bootChoice, readSlots, slotOf, upGlb, upPwr, h]
      exact ⟨rfl, by decide⟩
    · have e : ∀ off n, cfgField b 1 off n = slotNum b (cfgOff + slotNum b (cfgOff + 0x18) 4 + off) n := fun _ _ => rfl
      have f : ∀ off n, cfgField b 1 off n = cfgField (bootSlot (powerUpTests (startImage (readSlots (upGlb (upGlb (upPwr State.reset (fun p => { p with railsGood := true, perstN := true, pwrFailN := true })) (fun g => { g with
          primary := { g.primary with bytes := b }, keyDigest := k })) (fun g => { g with serviceStart := found0.service, fpRxdLow := found0.service }))) false) found0.selftestFailed)) 1 off n := fun _ _ => rfl
      simp only [dramAgrees, ← f, e, a2, a3, a4, Nat.add_zero, a1]
      rfl

theorem test_meets_ResetsAndBootComplete_9 :
    ∃ (s : State) (found : BootIn),
      (s.drc.trained = true) ∧
      (found.hashMismatch = false) ∧
      (flashAgrees s found.board = true) :=
    ⟨flashS,
    found0,
    by decide +kernel⟩

theorem test_meets_ResetsAndBootComplete_10 :
    ∃ (s u : State) (found : BootIn),
      (recoverState (dropRoots s found.badRoots) (spareShare s) found.pjmUncorrectable found.dumpUnreadable found.mirror found.media = some u) ∧
      ((endHoldup u).glb.serviceStart = false) :=
    ⟨State.reset,
    (recoverState (dropRoots State.reset []) (spareShare State.reset) false false [] {}).getD State.reset,
    found0,
    rfl,
    rfl⟩

theorem test_meets_LinkCommandsComplete_1 :
    ∃ (s : State) (speed width : Nat),
      (1 ≤ speed) ∧
      (speed ≤ 5) ∧
      (width = 1 ∨ width = 2 ∨ width = 4 ∨ width = 8) ∧
      (s.hst.mode = 0) ∧
      (s.glb.poweredOn = true) ∧
      (s.pwr.perstN = true) ∧
      (s.pwr.state ≠ 3) ∧
      (s.flt.containing.contains islHost = false) :=
    ⟨upPwr State.reset (fun p => { p with perstN := true }),
    5,
    8,
    by decide +kernel⟩

theorem test_meets_LinkCommandsComplete_2 :
    ∃ (s : State) (speed width : Nat),
      (s.hst.mode ≠ 0) ∧
      (1 ≤ speed) ∧
      (speed ≤ 5) ∧
      (s.hst.mode = 1 ∨ 3 ≤ speed) ∧
      (speed < s.hst.speed ∨ width < s.hst.width) ∧
      (width = 1 ∨ width = 2 ∨ width = 4 ∨ width = 8) :=
    ⟨upHst up (fun h => { h with speed := 5, width := 8 }),
    3,
    8,
    by decide +kernel⟩

theorem test_meets_LinkCommandsComplete_3 :
    ∃ (s : State),
      (s.hst.mode ≠ 0) ∧
      (s.hst.ideCm = true) :=
    ⟨upHst up (fun h => { h with ideCm := true }),
    by decide +kernel⟩

theorem test_meets_LinkCommandsComplete_4 :
    ∃ (s : State),
      (s.hst.session ≠ 0) ∧
      (s.sec.errorState = false) ∧
      (s.hst.cmHeld = true) :=
    ⟨upHst up (fun h => { h with session := 1, cmHeld := true }),
    by decide +kernel⟩

theorem test_meets_LinkCommandsComplete_5 :
    ∃ (s : State),
      (cacheUp s = true) :=
    ⟨up,
    by decide⟩

theorem test_meets_LinkCommandsComplete_6 :
    ∃ (s : State),
      (s.hst.mode = 2) :=
    ⟨up,
    by decide⟩

theorem test_meets_LinkCommandsComplete_7 :
    ∃ (s : State) (addr a : Nat) (check : LineCheck),
      (memUp s = true) ∧
      (addr % 64 = 0) ∧
      (hdmDecode s addr = some a) ∧
      (s.drc.retraining.contains (lineChannel s (arenaLine s a)) = false) ∧
      (s.hst.deviceBias.contains (a / 65536) = false) ∧
      (s.drc.poisoned.contains (arenaLine s a) = false) ∧
      (lineVerdict s (arenaLine s a) check = .clean) :=
    ⟨memS,
    0,
    0,
    [],
    by decide +kernel⟩

theorem test_meets_LinkCommandsComplete_8 :
    ∃ (s : State) (addr : Nat),
      (memUp s = true) ∧
      (addr % 64 = 0) ∧
      (hdmDecode s addr = none) :=
    ⟨memS,
    0x80000000,
    by decide +kernel⟩

theorem test_meets_LinkCommandsComplete_9 :
    ∃ (s : State) (addr a : Nat) (data : List (Option Byte)),
      (memUp s = true) ∧
      (addr % 64 = 0) ∧
      (data.length = 64) ∧
      (hdmDecode s addr = some a) ∧
      (s.drc.retraining.contains (lineChannel s (arenaLine s a)) = false) ∧
      (s.hst.deviceBias.contains (a / 65536) = false) ∧
      (data.all (fun b => b.isSome) = true) :=
    ⟨memS,
    0,
    0,
    List.replicate 64 (some 7),
    by decide +kernel⟩

theorem test_meets_LinkCommandsComplete_10 :
    ∃ (s : State) (base size gran : Nat),
      (s.hst.mode ≠ 0) ∧
      (s.glb.configReady = true) ∧
      (s.hst.ioHeld = false) ∧
      (base % 0x10000000 = 0) ∧
      (size % 0x10000000 = 0) ∧
      (gran = 256 ∨ gran = 4096) ∧
      (0 < arenaBytes s) ∧
      (size ≤ arenaBytes s) ∧
      (s.hst.hdm1.committed = false) :=
    ⟨upGlb (upHst up (fun h => { h with arenaCur := 1 })) (fun g => { g with configReady := true }),
    0,
    0x10000000,
    256,
    by decide +kernel⟩

theorem test_meets_LinkCommandsComplete_11 :
    ∃ (s : State) (base : Nat),
      (s.hst.mode ≠ 0) ∧
      (s.glb.configReady = true) ∧
      (s.hst.ioHeld = false) ∧
      (base % 0x10000000 ≠ 0) :=
    ⟨upGlb up (fun g => { g with configReady := true }),
    1,
    by decide +kernel⟩

theorem test_meets_LinkCommandsComplete_12 :
    ∃ (s : State) (island sender : Nat),
      (island < 45) ∧
      (bridged island sender = true) ∧
      (s.pwr.gated.contains island = false) ∧
      (s.pwr.retained.contains island = false) ∧
      (inReset s island = false) ∧
      (heldInReset s island = false) ∧
      (s.drc.retraining.any (fun c => islDram c == island) = false) :=
    ⟨upPwr idleS (fun p => { p with perstN := true }),
    islHost,
    (islandHubs islHost).headD 0,
    by decide +kernel⟩

theorem test_meets_LinkCommandsComplete_13 :
    ∃ (s : State) (i : Nat),
      (2 ≤ i) ∧
      (i < 45) ∧
      (s.pwr.state = 0) ∧
      (s.pwr.trans = none) ∧
      (islandBusy s i = false) ∧
      (s.hlt.slice ≠ some i) :=
    ⟨up,
    44,
    by decide +kernel⟩

theorem test_meets_LinkCommandsComplete_14 :
    ∃ (s : State) (i : Nat),
      (s.pwr.gated.contains i = true) ∧
      (s.pwr.retained.contains i = false) :=
    ⟨upPwr up (fun p => { p with gated := [7] }),
    7,
    by decide +kernel⟩

theorem test_meets_MediaCommandsComplete_1 :
    ∃ (s : State) (v lba : Nat) (y : Staged) (x : Volume),
      (mediaStopped s = false) ∧
      (s.sec.errorState = false) ∧
      ((pagesReady s v [lba / 512]).1 = true) ∧
      (jRoom s 42 = true) ∧
      (toPlace s v lba = some y) ∧
      (mget s.med.volumes v = some x) ∧
      (allZero y.data = true) :=
    ⟨upMed State.reset (fun m => { m with volumes := [(2, vol2)], staging := [{ stg with data := [0] }] }),
    2,
    1,
    { stg with data := [0] },
    vol2,
    by decide +kernel⟩

theorem test_meets_MediaCommandsComplete_2 :
    ∃ (s : State),
      (mediaStopped s = false) ∧
      (s.sec.errorState = false) :=
    ⟨State.reset,
    by decide +kernel⟩

theorem test_meets_MediaCommandsComplete_3 :
    ∃ (s u : State) (b : Nat) (list : List (Nat × Nat)) (media : MediaIn) (h : Nat × Nat) (l : List (GcCopy × ToPlace)),
      (s.med.victim = some b) ∧
      (list.head? = some h) ∧
      (copySources s media list = (some l, u)) ∧
      (mediaStopped s = false) ∧
      (s.sec.errorState = false) ∧
      ((victimNext s b).take list.length = list) ∧
      (list.all (fun x => x.1 == h.1) = true) :=
    ⟨upMed (packedS readO) (fun m => { m with victim := some 0 }),
    _,
    0,
    [(2, 1)],
    { },
    (2, 1),
    _,
    rfl,
    rfl,
    rfl,
    by decide +kernel⟩

theorem test_meets_MediaCommandsComplete_4 :
    ∃ (s : State) (b : Nat) (x : Band),
      (mget s.med.bands b = some x) ∧
      (x.state = .opened) ∧
      (mediaStopped s = false) ∧
      (x.firstAt + s.med.sealMs ≤ s.glb.lifetime) ∧
      (jRoom s 4 = true) :=
    ⟨upGlb (bandS 0 (band0 .opened .hot)) (fun g => { g with lifetime := 1000 }),
    0,
    band0 .opened .hot,
    by decide +kernel⟩

theorem test_meets_MediaCommandsComplete_5 :
    ∃ (s : State) (b c : Nat) (x : Band),
      (mget s.med.bands b = some x) ∧
      (x.state = .opened) ∧
      ((chanList s).contains c = true) ∧
      (mediaStopped s = false) ∧
      (jRoom s 2 = true) :=
    ⟨upMed (bandS 0 (band0 .opened .hot)) (fun m => { m with channels := 16 }),
    0,
    3,
    band0 .opened .hot,
    by decide +kernel⟩

theorem test_meets_MediaCommandsComplete_6 :
    ∃ (s : State) (b : Nat) (x : Band),
      (mget s.med.bands b = some x) ∧
      (x.state = .erasing) ∧
      (mediaStopped s = false) ∧
      (jRoom s 1 = true) :=
    ⟨bandS 0 (band0 .erasing .hot),
    0,
    band0 .erasing .hot,
    by decide +kernel⟩

theorem test_meets_MediaCommandsComplete_7 :
    ∃ (s : State),
      (s.med.jbuf.isEmpty = false) ∧
      (mediaStopped s = false) ∧
      (s.med.ring.length + 4 ≤ ringCap) :=
    ⟨upMed State.reset (fun m => { m with jbuf := [{ body := .ckpt 1, more := false }] }),
    by decide +kernel⟩

theorem test_meets_MediaCommandsComplete_8 :
    ∃ (s : State),
      (s.med.ckpt = none) ∧
      (s.glb.ready = true) ∧
      (s.med.dumpActive = false) ∧
      (s.sec.errorState = false) ∧
      (ckptDue s = true) ∧
      (s.med.ring.length < ringCap) :=
    ⟨upGlb (upMed barS (fun m => { m with recSince := true })) (fun g => { g with lifetime := 30000 }),
    by decide +kernel⟩

theorem test_meets_MediaCommandsComplete_9 :
    ∃ (s u : State) (c : Checkpoint),
      (u = writePieces s) ∧
      (mediaStopped s = false) ∧
      (u.med.ckpt = some c) ∧
      (piecesDone u = true) :=
    ⟨upMed State.reset (fun m => { m with ckpt := some { no := 1, jstart := 0, volumes := [], bands := [] } }),
    _,
    { no := 1, jstart := 0, volumes := [], bands := [] },
    rfl,
    by decide +kernel⟩

theorem test_meets_MediaCommandsComplete_10 :
    ∃ (s u : State) (v st level pa : Nat) (c : Codeword),
      (leafRoom s v st = some u) ∧
      (c.kind = 2) ∧
      (c.vol = v) ∧
      (c.lba = 512 * st) ∧
      (epochsWithin c.entries = true) ∧
      (s.med.leafFetch.contains (v, st) = true) ∧
      (dirAt s v st = .leaf (some pa)) ∧
      (mget u.med.flash (paCw pa) = some c) ∧
      (mediaHeld u (paCw pa) = false) ∧
      (level ≤ 3) ∧
      (level < (ensurePage u v st).med.relocLevel) :=
    ⟨leafS,
    leafS,
    2,
    0,
    0,
    0,
    leafCw,
    rfl,
    rfl,
    rfl,
    rfl,
    rfl,
    by decide +kernel⟩

theorem test_meets_MediaCommandsComplete_11 :
    ∃ (s : State) (v st : Nat) (p q : LeafPage),
      (pageAt s v st = some p) ∧
      (p.dirty = true) ∧
      (mediaStopped s = false) ∧
      (jRoom s 4 = true) ∧
      (s.med.leafCap < 2 * (dirtyPages s.med.leafCache).length) ∧
      ((dirtyPages s.med.leafCache).getLast? = some q) ∧
      (q.is v st = true) :=
    ⟨upMed State.reset (fun m => { m with leafCap := 1, leafCache := [{ vol := 2, stretch := 0, entries := [], dirty := true }] }),
    2,
    0,
    { vol := 2, stretch := 0, entries := [], dirty := true },
    { vol := 2, stretch := 0, entries := [], dirty := true },
    by decide +kernel⟩

theorem test_meets_MediaCommandsComplete_12 :
    ∃ (s : State) (b : Nat),
      (s.glb.ready = true) ∧
      (s.med.dumpActive = false) ∧
      (bandToHave s = true) ∧
      (flashOff s = false) ∧
      (s.med.victim = none) ∧
      (s.med.nextVictims = []) ∧
      (belowShare s s.med.gcStart = true) ∧
      (bestVictim s = some b) :=
    ⟨upMed (bandS 0 { band0 .closed .hot with segValid := [(0, 1)] }) (fun m => { m with gcStart := 50 }) |> fun s => upGlb s (fun g => { g with ready := true }),
    0,
    by decide +kernel⟩

theorem test_meets_MediaCommandsComplete_13 :
    ∃ (s : State) (v lba : Nat) (g : GcCopy) (e : MapEntry),
      (s.med.copies.find? (fun g => g.vol == v && g.lba == lba) = some g) ∧
      (mapOf s v lba = some e) ∧
      (jRoom s 4 = true) ∧
      ((leafRoom s v (lba / 512)).isNone = false) ∧
      (e.epoch ≠ g.epoch) :=
    ⟨upMed State.reset (fun m => { m with copies := [gc1], volumes := [(2, { vol2 with dir := [(0, .leaf none)] })], leafCache := [{ vol := 2, stretch := 0, entries := [(1, { form := .zero, epoch := 3 })], dirty := true }] }),
    2,
    1,
    gc1,
    { form := .zero, epoch := 3 },
    by decide +kernel⟩

theorem test_meets_MediaCommandsComplete_14 :
    ∃ (s u : State) (v lba : Nat) (g : GcCopy) (e : MapEntry) (pa : Option Nat) (n : Nat) (x : Volume),
      (u = applyEntry (bandMod (upMed s (fun m => { m with copies := m.copies.erase g })) (paBand g.srcPa) (fun x => { x with copies := x.copies - 1 })) v lba { e with form := e.form.moved g.dstPa }) ∧
      (s.med.copies.find? (fun g => g.vol == v && g.lba == lba) = some g) ∧
      (mapOf s v lba = some e) ∧
      (jRoom s 4 = true) ∧
      ((leafRoom s v (lba / 512)).isNone = false) ∧
      (mget s.med.volumes v = some x) ∧
      (e.form.place = some (g.srcPa, n)) ∧
      (e.epoch = g.epoch) ∧
      (dirAt s v (lba / 512) = .leaf pa) ∧
      (g.reloc = false) :=
    ⟨moveS,
    _,
    2,
    1,
    gc1,
    { form := .comp 0 0, epoch := 0 },
    none,
    1,
    { vol2 with dir := [(0, .leaf none)] },
    rfl,
    by decide +kernel⟩

theorem test_meets_MediaCommandsComplete_15 :
    ∃ (s : State) (b : Nat) (x : Band),
      (mget s.med.bands b = some x) ∧
      (x.state = .drained) ∧
      (x.copies = 0) ∧
      (x.reads = 0) ∧
      (x.unreleased = []) ∧
      (mediaStopped s = false) ∧
      (jRoom s 1 = true) :=
    ⟨bandS 0 (band0 .drained .hot),
    0,
    band0 .drained .hot,
    by decide +kernel⟩

theorem test_meets_PatrolAndDumpCommandsComplete_1 :
    ∃ (s : State) (b cw level : Nat) (x : Band),
      (s.med.patrolPause = false) ∧
      (s.glb.ready = true) ∧
      (s.med.dumpActive = false) ∧
      (bandToHave s = true) ∧
      (mediaHeld s cw = false) ∧
      (flashOff s = false) ∧
      (patrolBand (settlePatrol s) = some (b, x)) ∧
      ((patrolLeft (settlePatrol s) b x).head? = some cw) ∧
      (level < (settlePatrol s).med.relocLevel) ∧
      (level < 4) ∧
      (x.state = .opened) :=
    ⟨patrolS,
    0,
    0,
    0,
    patrolB,
    by decide +kernel⟩

theorem test_meets_PatrolAndDumpCommandsComplete_2 :
    ∃ (s : State) (b : Nat) (x : Band),
      (mget s.med.bands b = some x) ∧
      (x.deadline ≠ 0) ∧
      (x.deadline ≤ s.glb.lifetime) ∧
      (x.overdue = false) ∧
      (x.state = .closed ∨ x.state = .opened) :=
    ⟨upGlb (bandS 0 { band0 .closed .hot with deadline := 1 }) (fun g => { g with lifetime := 1 }),
    0,
    { band0 .closed .hot with deadline := 1 },
    by decide +kernel⟩

theorem test_meets_PatrolAndDumpCommandsComplete_3 :
    ∃ (s u : State) (v lba n : Nat) (g : GcCopy) (t : ToPlace),
      ((mapFull s v lba).form.place = some (g.srcPa, n)) ∧
      ((mapFull s v lba).epoch = g.epoch) ∧
      (copySource s { } v lba (mapFull s v lba) = (.got t, u)) ∧
      (s.med.relocQueue.find? (fun g => g.vol == v && g.lba == lba) = some g) ∧
      (mediaStopped s = false) ∧
      (flashOff s = false) :=
    ⟨relocS,
    _,
    2,
    1,
    1,
    gc1,
    { lba := 1, wseq := 0, c := true, data := zeroBlock, keyId := 1 },
    rfl,
    rfl,
    rfl,
    by decide +kernel⟩

theorem test_meets_PatrolAndDumpCommandsComplete_4 :
    ∃ (s u : State),
      (u = upPwr s (fun p => { p with pwrFailN := false, failFrom := s.glb.lifetime })) ∧
      (s.pwr.pwrFailN = true) ∧
      (s.glb.poweredOn = true) ∧
      (s.pwr.pwrFailIgnored = false) ∧
      (dumpable s = true) ∧
      (s.pwr.state ≠ 3) :=
    ⟨upGlb (upPwr barS (fun p => { p with pwrFailN := true })) (fun g => { g with poweredOn := true }),
    _,
    rfl,
    by decide +kernel⟩

theorem test_meets_PatrolAndDumpCommandsComplete_5 :
    ∃ (s : State),
      (s.med.dumpActive = false) :=
    ⟨State.reset,
    by decide⟩

theorem test_meets_PatrolAndDumpCommandsComplete_6 :
    ∃ (s : State),
      (s.med.dumpActive = true) ∧
      (s.med.dumpThen = 0) ∧
      (s.sec.errorState = false) :=
    ⟨upMed State.reset (fun m => { m with dumpActive := true }),
    by decide +kernel⟩

theorem test_meets_PatrolAndDumpCommandsComplete_7 :
    ∃ (s : State),
      (s.med.dumpHeld = true) ∧
      (s.pwr.railsGood = true) ∧
      ((takeBackDump (resetIslands (upPwr s (fun p => { p with pwrFailN := true })))).sec.errorState = false) :=
    ⟨upPwr (upMed State.reset (fun m => { m with dumpHeld := true })) (fun p => { p with railsGood := true }),
    by decide +kernel⟩

theorem test_meets_PatrolAndDumpCommandsComplete_8 :
    ∃ (s : State),
      (s.pwr.pwrFailN = false) ∧
      (s.pwr.railsGood = true) ∧
      (s.glb.poweredOn = true) ∧
      (s.pwr.pwrFailIgnored = false) ∧
      (s.pwr.failFrom + 1000 < s.glb.lifetime) ∧
      (s.med.dumpHeld = true) :=
    ⟨upGlb (upPwr (upMed State.reset (fun m => { m with dumpHeld := true })) (fun p => { p with railsGood := true, pwrFailN := false })) (fun g => { g with poweredOn := true, lifetime := 1001 }),
    by decide +kernel⟩

theorem test_meets_DramCommandsComplete_1 :
    ∃ (s : State) (rank : Nat),
      (dramRuns s = true) ∧
      (rankThere s rank = true) :=
    ⟨dramS,
    0,
    by decide +kernel⟩

theorem test_meets_DramCommandsComplete_2 :
    ∃ (s : State) (rank : Nat),
      (dramRuns s = true) ∧
      (rankThere s rank = true) ∧
      (rankBusy s rank = true) ∧
      (s.drc.rate2x.contains rank = false) ∧
      (owedOf s rank ≠ 4) :=
    ⟨upDrc dramS (fun d => { d with subs := [(0, { SubChannel.idle with queue := [{ line := 0, write := false, data := [], passed := 0 }] })] }),
    0,
    by decide +kernel⟩

theorem test_meets_DramCommandsComplete_3 :
    ∃ (s : State) (rank field : Nat),
      (dramRuns s = true) ∧
      (rankThere s rank = true) ∧
      (mr4Calls field ≠ 0) ∧
      (channelHot (goTwice (upDrc s (fun d => { d with temp := mset d.temp rank (field % 16), calls1x := mset d.calls1x rank 0 })) rank) (rank / 2) = false) :=
    ⟨dramS,
    0,
    3,
    by decide +kernel⟩

theorem test_meets_DramCommandsComplete_4 :
    ∃ (s u : State) (rank field : Nat),
      (u = goTwice (upDrc s (fun d => { d with temp := mset d.temp rank (field % 16), calls1x := mset d.calls1x rank 0 })) rank) ∧
      (dramRuns s = true) ∧
      (rankThere s rank = true) ∧
      (mr4Calls field = 2) ∧
      (channelHot u (rank / 2) = true) ∧
      (u.drc.throttled.contains (rank / 2) = false) :=
    ⟨dramS,
    _,
    0,
    5,
    rfl,
    by decide +kernel⟩

theorem test_meets_DramCommandsComplete_5 :
    ∃ (s : State) (rank : Nat),
      (dramRuns s = true) ∧
      (rankThere s rank = true) :=
    ⟨dramS,
    0,
    by decide +kernel⟩

theorem test_meets_DramCommandsComplete_6 :
    ∃ (s : State) (c : Nat),
      (dramRuns s = true) ∧
      (c < 4) ∧
      (s.drc.retraining = []) ∧
      ((inRetrainWindow s = true ∧ idleFor s 2 = true) ∨ retrainForced s c = true) :=
    ⟨upPwr (upHlt dramS (fun h => { h with planLog := some planLog0 })) (fun p => { p with idleMs := 2 }),
    0,
    by decide +kernel⟩

theorem test_meets_DramCommandsComplete_7 :
    ∃ (s : State) (c : Nat),
      (dramRuns s = true) ∧
      (c < 4) ∧
      (s.drc.retraining.contains c = true) :=
    ⟨upDrc dramS (fun d => { d with retraining := [0] }),
    0,
    by decide +kernel⟩

theorem test_meets_DramCommandsComplete_8 :
    ∃ (s : State) (line : Nat) (check : LineCheck),
      (dramRuns s = true) ∧
      (line = s.drc.scrubLine) ∧
      (line < dramLines s) ∧
      (lineWaits s line = false) ∧
      (lineVerdict s line check = .clean) :=
    ⟨dramS,
    0,
    [],
    by decide +kernel⟩

theorem test_meets_DramCommandsComplete_9 :
    ∃ (s u : State) (line : Nat) (check : LineCheck),
      (u = writeBack (lineRead s line check) line) ∧
      (dramRuns s = true) ∧
      (line = s.drc.scrubLine) ∧
      (line < dramLines s) ∧
      (lineWaits s line = false) ∧
      ((lineVerdict s line check).isCorrected = true) ∧
      (writesIn (subAt s (lineSub s line)) < 64) :=
    ⟨dramS,
    _,
    0,
    [(0, 1)],
    rfl,
    by decide +kernel⟩

theorem test_meets_DramCommandsComplete_10 :
    ∃ (s : State) (sub line : Nat) (w : Bool) (data : List (Option Byte)),
      (dramRuns s = true) ∧
      (line < dramLines s) ∧
      (lineSub s line = sub) ∧
      ((w = true → data.length = 64)) ∧
      (((subAt s sub).queue.filter (fun q => q.write == w)).length < 64) :=
    ⟨dramS,
    0,
    0,
    false,
    [],
    by decide +kernel⟩

theorem test_meets_DramCommandsComplete_11 :
    ∃ (s u : State) (sub : Nat) (q : DramReq),
      (anyOf s (offers s (subAt s sub)) = (some q, u)) ∧
      (dramRuns s = true) ∧
      (sub < 8) ∧
      (s.drc.retraining.contains (sub / 2) = false) :=
    ⟨upDrc dramS (fun d => { d with subs := [(0, { SubChannel.idle with queue := [{ line := 0, write := false, data := [], passed := 0 }] })] }),
    _,
    0,
    { line := 0, write := false, data := [], passed := 0 },
    (by
          simp only [anyOf]
          rw [show offers _ _ = [{ line := 0, write := false, data := [], passed := 0 }] from by decide +kernel]
          exact Prod.ext (by simp [freeBelow, Nat.mod_one]) rfl),
    by decide +kernel⟩

theorem test_meets_DramCommandsComplete_12 :
    ∃ (s : State) (sub bank : Nat),
      (((subAt s sub).bank bank).openRow.isNone = false) ∧
      ((bankQueue s (subAt s sub) bank).any (fun r => ((subAt s sub).bank bank).openRow == some (lineRow s r.line)) = false) :=
    ⟨upDrc dramS (fun d => { d with subs := [(0, { SubChannel.idle with banks := [(0, { openRow := some 3, inOrder := none, raa := 0, near := [] })] })] }),
    0,
    0,
    by decide +kernel⟩

theorem test_meets_DramCommandsComplete_13 :
    ∃ (c : Nat),
      (c < 4) :=
    ⟨0,
    by decide⟩

theorem test_meets_KiteArithmetic_1 :
    ∃ (s : State) (core : CoreId) (i : Instance) (n : Nat) (a b : Reg),
      (Executes s core i (.alu .add a b) n) :=
    ⟨kiteS [18],
    0,
    inst1,
    1,
    1,
    2,
    by decide⟩

theorem test_meets_KiteArithmetic_2 :
    ∃ (s : State) (core : CoreId) (i : Instance) (n : Nat) (a b : Reg),
      (Executes s core i (.alu .sub a b) n) :=
    ⟨kiteS [274],
    0,
    inst1,
    1,
    1,
    2,
    by decide⟩

theorem test_meets_KiteArithmetic_3 :
    ∃ (s : State) (core : CoreId) (i : Instance) (n : Nat) (a b : Reg),
      (Executes s core i (.alu .adc a b) n) :=
    ⟨kiteS [530],
    0,
    inst1,
    1,
    1,
    2,
    by decide⟩

theorem test_meets_KiteArithmetic_4 :
    ∃ (s : State) (core : CoreId) (i : Instance) (n : Nat) (a b : Reg),
      (Executes s core i (.alu .sbc a b) n) :=
    ⟨kiteS [786],
    0,
    inst1,
    1,
    1,
    2,
    by decide⟩

theorem test_meets_KiteArithmetic_5 :
    ∃ (s : State) (core : CoreId) (i : Instance) (n : Nat) (a b : Reg),
      (Executes s core i (.alu .and a b) n) :=
    ⟨kiteS [1042],
    0,
    inst1,
    1,
    1,
    2,
    by decide⟩

theorem test_meets_KiteArithmetic_6 :
    ∃ (s : State) (core : CoreId) (i : Instance) (n : Nat) (a b : Reg),
      (Executes s core i (.alu .or a b) n) :=
    ⟨kiteS [1298],
    0,
    inst1,
    1,
    1,
    2,
    by decide⟩

theorem test_meets_KiteArithmetic_7 :
    ∃ (s : State) (core : CoreId) (i : Instance) (n : Nat) (a b : Reg),
      (Executes s core i (.alu .xor a b) n) :=
    ⟨kiteS [1554],
    0,
    inst1,
    1,
    1,
    2,
    by decide⟩

theorem test_meets_KiteArithmetic_8 :
    ∃ (s : State) (core : CoreId) (i : Instance) (n : Nat) (a b : Reg),
      (Executes s core i (.alu .mov a b) n) :=
    ⟨kiteS [1810],
    0,
    inst1,
    1,
    1,
    2,
    by decide⟩

theorem test_meets_KiteArithmetic_9 :
    ∃ (s : State) (core : CoreId) (i : Instance) (n : Nat) (a b : Reg),
      (Executes s core i (.alu .cmp a b) n) :=
    ⟨kiteS [2066],
    0,
    inst1,
    1,
    1,
    2,
    by decide⟩

theorem test_meets_KiteArithmetic_10 :
    ∃ (s : State) (core : CoreId) (i : Instance) (n : Nat) (a b : Reg),
      (Executes s core i (.alu .tst a b) n) :=
    ⟨kiteS [2322],
    0,
    inst1,
    1,
    1,
    2,
    by decide⟩

theorem test_meets_KiteArithmetic_11 :
    ∃ (s : State) (core : CoreId) (i : Instance) (n : Nat) (a b : Reg),
      (Executes s core i (.alu .shl a b) n) :=
    ⟨kiteS [2578],
    0,
    inst1,
    1,
    1,
    2,
    by decide⟩

theorem test_meets_KiteArithmetic_12 :
    ∃ (s : State) (core : CoreId) (i : Instance) (n : Nat) (a b : Reg),
      (Executes s core i (.alu .shr a b) n) :=
    ⟨kiteS [2834],
    0,
    inst1,
    1,
    1,
    2,
    by decide⟩

theorem test_meets_KiteArithmetic_13 :
    ∃ (s : State) (core : CoreId) (i : Instance) (n : Nat) (a b : Reg),
      (Executes s core i (.alu .sar a b) n) :=
    ⟨kiteS [3090],
    0,
    inst1,
    1,
    1,
    2,
    by decide⟩

theorem test_meets_KiteArithmetic_14 :
    ∃ (s : State) (core : CoreId) (i : Instance) (n : Nat) (a b : Reg),
      (Executes s core i (.alu .rol a b) n) :=
    ⟨kiteS [3346],
    0,
    inst1,
    1,
    1,
    2,
    by decide⟩

theorem test_meets_KiteArithmetic_15 :
    ∃ (s : State) (core : CoreId) (i : Instance) (n : Nat) (a b : Reg),
      (Executes s core i (.alu .mul a b) n) :=
    ⟨kiteS [3602],
    0,
    inst1,
    1,
    1,
    2,
    by decide⟩

theorem test_meets_KiteArithmetic_16 :
    ∃ (s : State) (core : CoreId) (i : Instance) (n : Nat) (a b : Reg),
      (Executes s core i (.alu .mulh a b) n) :=
    ⟨kiteS [3858],
    0,
    inst1,
    1,
    1,
    2,
    by decide⟩

theorem test_meets_KiteArithmetic_17 :
    ∃ (core : Nat) (e : KEnd),
      ((coreAt e.s core).state = 2) ∧
      (e.waits = 0) ∧
      (e.jump = none) ∧
      (e.regs.active = false) :=
    ⟨0,
    { s := kiteS [0], regs := inst1.regs },
    by decide +kernel⟩

theorem test_meets_KiteImmediates_1 :
    ∃ (s : State) (core : CoreId) (i : Instance) (n : Nat) (exts : List Nat) (a : Reg) (imm : Nat),
      (Executes s core i (.imm .addi exts a imm) n) :=
    ⟨kiteS [4163],
    0,
    inst1,
    1,
    [],
    1,
    3,
    by decide⟩

theorem test_meets_KiteImmediates_2 :
    ∃ (s : State) (core : CoreId) (i : Instance) (n : Nat) (exts : List Nat) (a : Reg) (imm : Nat),
      (Executes s core i (.imm .cmpi exts a imm) n) :=
    ⟨kiteS [5187],
    0,
    inst1,
    1,
    [],
    1,
    3,
    by decide⟩

theorem test_meets_KiteImmediates_3 :
    ∃ (s : State) (core : CoreId) (i : Instance) (n : Nat) (exts : List Nat) (a : Reg) (imm : Nat),
      (Executes s core i (.imm .movi exts a imm) n) :=
    ⟨kiteS [6211],
    0,
    inst1,
    1,
    [],
    1,
    3,
    by decide⟩

theorem test_meets_KiteImmediates_4 :
    ∃ (m : Nat),
      (m < 64) :=
    ⟨63,
    by decide⟩

theorem test_meets_KiteImmediates_5 :
    ∃ (e m : Nat),
      (e < 1024) ∧
      (m < 64) :=
    ⟨1023,
    63,
    by decide +kernel⟩

theorem test_meets_KiteImmediates_6 :
    ∃ (e f m : Nat),
      (e < 1024) ∧
      (f < 1024) ∧
      (m < 64) :=
    ⟨1023,
    5,
    63,
    by decide +kernel⟩

theorem test_meets_KiteImmediates_7 :
    ∃ (e f g m : Nat),
      (e < 64) ∧
      (f < 1024) ∧
      (g < 1024) ∧
      (m < 64) :=
    ⟨63,
    5,
    6,
    63,
    by decide +kernel⟩

theorem test_meets_KiteBranches_1 :
    ∃ (s : State) (core : CoreId) (i : Instance) (n off : Nat),
      (Executes s core i (.br .eq off) n) :=
    ⟨kiteS [8197],
    0,
    inst1,
    1,
    5,
    by decide⟩

theorem test_meets_KiteBranches_2 :
    ∃ (s : State) (core : CoreId) (i : Instance) (n off : Nat),
      (Executes s core i (.br .ne off) n) :=
    ⟨kiteS [8453],
    0,
    inst1,
    1,
    5,
    by decide⟩

theorem test_meets_KiteBranches_3 :
    ∃ (s : State) (core : CoreId) (i : Instance) (n off : Nat),
      (Executes s core i (.br .cs off) n) :=
    ⟨kiteS [8709],
    0,
    inst1,
    1,
    5,
    by decide⟩

theorem test_meets_KiteBranches_4 :
    ∃ (s : State) (core : CoreId) (i : Instance) (n off : Nat),
      (Executes s core i (.br .cc off) n) :=
    ⟨kiteS [8965],
    0,
    inst1,
    1,
    5,
    by decide⟩

theorem test_meets_KiteBranches_5 :
    ∃ (s : State) (core : CoreId) (i : Instance) (n off : Nat),
      (Executes s core i (.br .mi off) n) :=
    ⟨kiteS [9221],
    0,
    inst1,
    1,
    5,
    by decide⟩

theorem test_meets_KiteBranches_6 :
    ∃ (s : State) (core : CoreId) (i : Instance) (n off : Nat),
      (Executes s core i (.br .pl off) n) :=
    ⟨kiteS [9477],
    0,
    inst1,
    1,
    5,
    by decide⟩

theorem test_meets_KiteBranches_7 :
    ∃ (s : State) (core : CoreId) (i : Instance) (n off : Nat),
      (Executes s core i (.br .ms off) n) :=
    ⟨kiteS [9733],
    0,
    inst1,
    1,
    5,
    by decide⟩

theorem test_meets_KiteBranches_8 :
    ∃ (s : State) (core : CoreId) (i : Instance) (n off : Nat),
      (Executes s core i (.br .mc off) n) :=
    ⟨kiteS [9989],
    0,
    inst1,
    1,
    5,
    by decide⟩

theorem test_meets_KiteBranches_9 :
    ∃ (s : State) (core : CoreId) (i : Instance) (n off : Nat),
      (Executes s core i (.br .hi off) n) :=
    ⟨kiteS [10245],
    0,
    inst1,
    1,
    5,
    by decide⟩

theorem test_meets_KiteBranches_10 :
    ∃ (s : State) (core : CoreId) (i : Instance) (n off : Nat),
      (Executes s core i (.br .ls off) n) :=
    ⟨kiteS [10501],
    0,
    inst1,
    1,
    5,
    by decide⟩

theorem test_meets_KiteBranches_11 :
    ∃ (s : State) (core : CoreId) (i : Instance) (n off : Nat),
      (Executes s core i (.br .ge off) n) :=
    ⟨kiteS [10757],
    0,
    inst1,
    1,
    5,
    by decide⟩

theorem test_meets_KiteBranches_12 :
    ∃ (s : State) (core : CoreId) (i : Instance) (n off : Nat),
      (Executes s core i (.br .lt off) n) :=
    ⟨kiteS [11013],
    0,
    inst1,
    1,
    5,
    by decide⟩

theorem test_meets_KiteBranches_13 :
    ∃ (s : State) (core : CoreId) (i : Instance) (n off : Nat),
      (Executes s core i (.br .gt off) n) :=
    ⟨kiteS [11269],
    0,
    inst1,
    1,
    5,
    by decide⟩

theorem test_meets_KiteBranches_14 :
    ∃ (s : State) (core : CoreId) (i : Instance) (n off : Nat),
      (Executes s core i (.br .le off) n) :=
    ⟨kiteS [11525],
    0,
    inst1,
    1,
    5,
    by decide⟩

theorem test_meets_KiteBranches_15 :
    ∃ (s : State) (core : CoreId) (i : Instance) (n off : Nat),
      (Executes s core i (.br .al off) n) :=
    ⟨kiteS [11781],
    0,
    inst1,
    1,
    5,
    by decide⟩

theorem test_meets_KiteBranches_16 :
    ∃ (s : State) (core : CoreId) (i : Instance) (n off : Nat),
      (Executes s core i (.br .vs off) n) :=
    ⟨kiteS [12037],
    0,
    inst1,
    1,
    5,
    by decide⟩

theorem test_meets_KiteTransfersComplete_1 :
    ∃ (s : State) (core : CoreId) (i : Instance) (n : Nat) (a b : Reg) (check : LineCheck) (r : Region) (d : List Byte) (t : State) (u : State),
      (Executes s core i (.mem .ld a b) n) ∧
      ((region s i (i.regs.get b).toNat 4).isNone = false) ∧
      (u = checkLine s i (i.regs.get b).toNat check) ∧
      (dataTake u (instNow u i) (i.regs.get b).toNat 4 = some (d, t)) ∧
      ((i.regs.get b).toNat % 4 = 0) ∧
      (poisonedAt u (instNow u i) (i.regs.get b).toNat = false) ∧
      (region u (instNow u i) (i.regs.get b).toNat 4 = some r) :=
    ⟨kiteI [0x3012] inst1,
    0,
    inst1,
    1,
    1,
    2,
    [],
    .localData,
    [0, 0, 0, 0],
    _,
    _,
    ⟨rfl, rfl⟩,
    rfl,
    rfl,
    rfl,
    by decide +kernel⟩

theorem test_meets_KiteTransfersComplete_2 :
    ∃ (s : State) (core : CoreId) (i : Instance) (n : Nat) (a b : Reg) (check : LineCheck) (r : Region) (d : List Byte) (t : State) (u : State),
      (Executes s core i (.mem .ldb a b) n) ∧
      ((region s i (i.regs.get b).toNat 1).isNone = false) ∧
      (u = checkLine s i (i.regs.get b).toNat check) ∧
      (dataTake u (instNow u i) (i.regs.get b).toNat 1 = some (d, t)) ∧
      (poisonedAt u (instNow u i) (i.regs.get b).toNat = false) ∧
      (region u (instNow u i) (i.regs.get b).toNat 1 = some r) :=
    ⟨kiteI [0x3212] inst1,
    0,
    inst1,
    1,
    1,
    2,
    [],
    .localData,
    [0],
    _,
    _,
    ⟨rfl, rfl⟩,
    rfl,
    rfl,
    rfl,
    by decide +kernel⟩

theorem test_meets_KiteTransfersComplete_3 :
    ∃ (s : State) (core : CoreId) (i : Instance) (n : Nat) (a b : Reg) (check : LineCheck) (r : Region) (t : State) (u : State),
      (Executes s core i (.mem .st a b) n) ∧
      ((dataWrite s i (i.regs.get b).toNat (le 4 (i.regs.get a).toNat)).isNone = false) ∧
      (u = checkLine s i (i.regs.get b).toNat check) ∧
      (dataWrite u (instNow u i) (i.regs.get b).toNat (le 4 (i.regs.get a).toNat) = some t) ∧
      ((i.regs.get b).toNat % 4 = 0) ∧
      (poisonedAt u (instNow u i) (i.regs.get b).toNat = false) ∧
      (region u (instNow u i) (i.regs.get b).toNat 4 = some r) :=
    ⟨kiteI [0x3112] inst1,
    0,
    inst1,
    1,
    1,
    2,
    [],
    .localData,
    _,
    _,
    ⟨rfl, rfl⟩,
    rfl,
    rfl,
    rfl,
    by decide +kernel⟩

theorem test_meets_KiteTransfersComplete_4 :
    ∃ (s : State) (core : CoreId) (i : Instance) (n : Nat) (a b : Reg) (check : LineCheck) (r : Region) (t : State) (u : State),
      (Executes s core i (.mem .stb a b) n) ∧
      ((dataWrite s i (i.regs.get b).toNat (le 1 (i.regs.get a).toNat)).isNone = false) ∧
      (u = checkLine s i (i.regs.get b).toNat check) ∧
      (dataWrite u (instNow u i) (i.regs.get b).toNat (le 1 (i.regs.get a).toNat) = some t) ∧
      (poisonedAt u (instNow u i) (i.regs.get b).toNat = false) ∧
      (region u (instNow u i) (i.regs.get b).toNat 1 = some r) :=
    ⟨kiteI [0x3312] inst1,
    0,
    inst1,
    1,
    1,
    2,
    [],
    .localData,
    _,
    _,
    ⟨rfl, rfl⟩,
    rfl,
    rfl,
    rfl,
    by decide +kernel⟩

theorem test_meets_KiteTransfersComplete_5 :
    ∃ (s : State) (core : CoreId) (i : Instance) (n : Nat) (a b : Reg) (check : LineCheck) (u : State),
      (Executes s core i (.mem .ld a b) n) ∧
      (u = checkLine s i (i.regs.get b).toNat check) ∧
      ((i.regs.get b).toNat % 4 = 0) ∧
      ((region s i (i.regs.get b).toNat 4).isNone = false) ∧
      (poisonedAt u (instNow u i) (i.regs.get b).toNat = true) :=
    ⟨kiteI [0x3012] { inst1 with poison := [0] },
    0,
    { inst1 with poison := [0] },
    1,
    1,
    2,
    [],
    _,
    ⟨rfl, rfl⟩,
    rfl,
    by decide +kernel⟩

theorem test_meets_KiteTransfersComplete_6 :
    ∃ (s : State) (core : CoreId) (i : Instance) (n : Nat) (a b : Reg),
      (Executes s core i (.mem .ld a b) n) ∧
      ((i.regs.get b).toNat % 4 ≠ 0) :=
    ⟨kiteI [0x3012] (regI 2 1),
    0,
    (regI 2 1),
    1,
    1,
    2,
    by decide +kernel⟩

theorem test_meets_KiteTransfersComplete_7 :
    ∃ (s : State) (core : CoreId) (i : Instance) (n : Nat) (a b : Reg) (v : Word) (t : State),
      (Executes s core i (.mem .inp a b) n) ∧
      (portIn s i core.val (i.regs.get b) 4 = .done v t) ∧
      (i.regs.get b ≠ 0) :=
    ⟨kiteI [0x3412] (regI 2 0x430),
    0,
    (regI 2 0x430),
    1,
    1,
    2,
    0,
    _,
    ⟨rfl, rfl⟩,
    rfl,
    by decide⟩

theorem test_meets_KiteTransfersComplete_8 :
    ∃ (s : State) (core : CoreId) (i : Instance) (n : Nat) (a b : Reg) (check : LineCheck) (v0 v : Word) (t0 u t : State),
      (Executes s core i (.mem .inp a b) n) ∧
      (portIn s i core.val 0 4 = .done v0 t0) ∧
      (u = checkScan s i check) ∧
      (portIn u (instNow u i) core.val 0 4 = .done v t) ∧
      (i.regs.get b = 0) ∧
      (scanPoisoned u (instNow u i) 4 = false) :=
    ⟨kiteI [0x3412] laneI,
    0,
    laneI,
    1,
    1,
    2,
    [],
    0,
    0,
    _,
    _,
    _,
    ⟨rfl, rfl⟩,
    rfl,
    rfl,
    rfl,
    by decide +kernel⟩

theorem test_meets_KiteTransfersComplete_9 :
    ∃ (s : State) (core : CoreId) (i : Instance) (n : Nat) (a b : Reg) (v : Word) (t : State),
      (Executes s core i (.mem .outp a b) n) ∧
      (portOut s i (i.regs.get b) (i.regs.get a) = .done v t) :=
    ⟨kiteI [0x3512] (regI 2 0x100),
    0,
    (regI 2 0x100),
    1,
    1,
    2,
    0,
    _,
    ⟨rfl, rfl⟩,
    rfl⟩

theorem test_meets_KiteTransfersComplete_10 :
    ∃ (s : State) (core : CoreId) (i : Instance) (n : Nat) (a b : Reg),
      (Executes s core i (.mem .inp a b) n) ∧
      (4096 ≤ (i.regs.get b).toNat) :=
    ⟨kiteI [0x3412] (regI 2 4096),
    0,
    (regI 2 4096),
    1,
    1,
    2,
    by decide +kernel⟩

theorem test_meets_KiteTransfersComplete_11 :
    ∃ (s : State) (core : CoreId) (i : Instance) (n : Nat) (a : Reg),
      (Executes s core i (.jmp a) n) :=
    ⟨kiteI [0x3610] inst1,
    0,
    inst1,
    1,
    1,
    by decide⟩

theorem test_meets_KiteTransfersComplete_12 :
    ∃ (s : State) (core : CoreId) (i : Instance) (n : Nat) (a : Reg),
      (Executes s core i (.call a) n) :=
    ⟨kiteI [0x3710] inst1,
    0,
    inst1,
    1,
    1,
    by decide⟩

theorem test_meets_KiteTransfersComplete_13 :
    ∃ (s : State) (core : CoreId) (i : Instance) (n : Nat),
      (Executes s core i .ret n) :=
    ⟨kiteI [0x3800] inst1,
    0,
    inst1,
    1,
    by decide⟩

theorem test_meets_KiteTransfersComplete_14 :
    ∃ (s : State) (core : CoreId) (i : Instance) (n : Nat),
      (Executes s core i .nop n) :=
    ⟨kiteI [0x3C00] inst1,
    0,
    inst1,
    1,
    by decide⟩

theorem test_meets_KiteTransfersComplete_15 :
    ∃ (s : State) (core : CoreId) (i : Instance) (n : Nat) (a b : Reg) (check : LineCheck) (u : State) (v : Nat),
      (Executes s core i (.ldpw a b) n) ∧
      (u = checkCode s i core.val (i.regs.get b).toNat check) ∧
      ((i.regs.get b).toNat ≤ 16383) ∧
      (codePoisoned u core.val (i.regs.get b).toNat = false) ∧
      (v = (match onChip check with | .wrong delta => codeWord u core.val (i.regs.get b).toNat ^^^ num delta (2 * ((i.regs.get b).toNat % 32)) 2 | _ => codeWord u core.val (i.regs.get b).toNat)) :=
    ⟨kiteI [0x3E12] inst1,
    0,
    inst1,
    1,
    1,
    2,
    [],
    _,
    0x3E12,
    ⟨rfl, rfl⟩,
    rfl,
    by decide +kernel⟩

theorem test_meets_KiteTransfersComplete_16 :
    ∃ (s : State) (core : CoreId) (i : Instance) (n : Nat) (a b : Reg),
      (Executes s core i (.ldpw a b) n) ∧
      (16383 < (i.regs.get b).toNat) :=
    ⟨kiteI [0x3E12] (regI 2 16384),
    0,
    (regI 2 16384),
    1,
    1,
    2,
    by decide +kernel⟩

theorem test_meets_KiteTransfersComplete_17 :
    ∃ (s : State) (core : CoreId) (i : Instance) (n : Nat),
      (Executes s core i .trap n) :=
    ⟨kiteI [0x3C30] inst1,
    0,
    inst1,
    1,
    by decide⟩

theorem test_meets_KiteTransfersComplete_18 :
    ∃ (s : State) (core : CoreId) (i : Instance) (n : Nat) (a : Reg),
      (Executes s core i (.movsr a false 0) n) :=
    ⟨kiteI [0x3D10] inst1,
    0,
    inst1,
    1,
    1,
    by decide⟩

theorem test_meets_KiteTransfersComplete_19 :
    ∃ (s : State) (core : CoreId) (i : Instance) (n : Nat) (a : Reg),
      (Executes s core i (.movsr a true 1) n) :=
    ⟨kiteI [0x3D19] inst1,
    0,
    inst1,
    1,
    1,
    by decide⟩

theorem test_meets_KiteTransfersComplete_20 :
    ∃ (s : State) (core : CoreId) (i : Instance) (n : Nat) (a : Reg),
      (Executes s core i (.movsr a false 5) n) :=
    ⟨kiteI [0x3D15] inst1,
    0,
    inst1,
    1,
    1,
    by decide⟩

theorem test_meets_KiteTransfersComplete_21 :
    ∃ (s : State) (core : CoreId) (i : Instance) (n : Nat) (a : Reg) (w : Bool),
      (Executes s core i (.movsr a w 7) n) :=
    ⟨kiteI [0x3D17] inst1,
    0,
    inst1,
    1,
    1,
    false,
    by decide⟩

theorem test_meets_KiteTransfersComplete_22 :
    ∃ (core t : Nat) (e : KEnd),
      ((coreAt e.s core).state = 2) ∧
      (e.waits = 0) ∧
      (e.jump = some t) ∧
      (e.regs.active = false) :=
    ⟨0,
    7,
    { s := kiteS [0], regs := inst1.regs, jump := some 7 },
    by decide +kernel⟩

theorem test_meets_KiteRepeatsComplete_1 :
    ∃ (s : State) (core : CoreId) (i : Instance) (n m : Nat),
      (Executes s core i (.brpt m) n) ∧
      (i.regs.pc + m ≤ 16383) ∧
      (i.regs.active = false) ∧
      (i.regs.get 14 ≠ 0) :=
    ⟨kiteI [0x3A02] (regI 14 1),
    0,
    (regI 14 1),
    1,
    2,
    by decide +kernel⟩

theorem test_meets_KiteRepeatsComplete_2 :
    ∃ (s : State) (core : CoreId) (i : Instance) (n m : Nat),
      (Executes s core i (.brpt m) n) ∧
      (i.regs.pc + m ≤ 16383) ∧
      (i.regs.active = false) ∧
      (i.regs.get 14 = 0) :=
    ⟨kiteI [0x3A02] inst1,
    0,
    inst1,
    1,
    2,
    by decide +kernel⟩

theorem test_meets_KiteRepeatsComplete_3 :
    ∃ (s : State) (core : CoreId) (i : Instance) (n m : Nat),
      (Executes s core i (.brpt m) n) ∧
      (i.regs.pc + m ≤ 16383) ∧
      (i.regs.active = true) :=
    ⟨kiteI [0x3A02] { inst1 with regs := { inst1.regs with active := true, be := 9 } },
    0,
    { inst1 with regs := { inst1.regs with active := true, be := 9 } },
    1,
    2,
    by decide +kernel⟩

theorem test_meets_KiteRepeatsComplete_4 :
    ∃ (r : Regs) (n : Nat),
      (r.active = true) ∧
      (r.pc + n = r.be + 1) ∧
      (1 < (r.get 14).toNat) :=
    ⟨{ (regI 14 2).regs with active := true, pc := 4, be := 4, bs := 2 },
    1,
    by decide +kernel⟩

theorem test_meets_KiteRepeatsComplete_5 :
    ∃ (r : Regs) (n : Nat),
      (r.active = true) ∧
      (r.pc + n = r.be + 1) ∧
      ((r.get 14).toNat ≤ 1) :=
    ⟨{ (regI 14 1).regs with active := true, pc := 4, be := 4, bs := 2 },
    1,
    by decide +kernel⟩

theorem test_meets_KiteRepeatsComplete_6 :
    ∃ (r : Regs),
      (r.active = true) :=
    ⟨{ inst1.regs with active := true },
    by decide⟩

theorem test_meets_KiteRepeatsComplete_7 :
    ∃ (s : State) (core : CoreId) (i : Instance) (n : Nat),
      (Executes s core i .wait n) ∧
      (pendingEvents i &&& i.regs.ev ≠ 0) :=
    ⟨kiteI [0x3C10] { inst1 with latched := 8, regs := { inst1.regs with ev := 8 } },
    0,
    { inst1 with latched := 8, regs := { inst1.regs with ev := 8 } },
    1,
    by decide +kernel⟩

theorem test_meets_KiteRepeatsComplete_8 :
    ∃ (s : State) (core : CoreId) (i : Instance) (n : Nat),
      (Executes s core i .wait n) ∧
      (pendingEvents i &&& i.regs.ev = 0) :=
    ⟨kiteI [0x3C10] inst1,
    0,
    inst1,
    1,
    by decide +kernel⟩

theorem test_meets_KiteRepeatsComplete_9 :
    ∃ (s : State) (core : CoreId) (i : Instance) (n : Nat),
      (Executes s core i .halt n) :=
    ⟨kiteI [0x3C20] inst1,
    0,
    inst1,
    1,
    by decide⟩

theorem test_meets_KiteRepeatsComplete_10 :
    ∃ (s : State) (core : CoreId) (i : Instance),
      (Executes s core i .rep 1) ∧
      (codePoisoned s core.val ((i.regs.pc + 1) % 16384) = false) ∧
      (codeWord s core.val ((i.regs.pc + 1) % 16384) / 256 ≠ 0x3B) :=
    ⟨kiteI [0x3900, 0x3C00] inst1,
    0,
    inst1,
    by decide +kernel⟩

theorem test_meets_KiteRepeatsComplete_11 :
    ∃ (s : State) (core : CoreId) (i : Instance) (w : Bool) (op : StrOp) (r : Reg),
      (Executes s core i .rep 1) ∧
      ((i.regs.active = true ∧ i.regs.pc = i.regs.be) = False) ∧
      (codePoisoned s core.val ((i.regs.pc + 1) % 16384) = false) ∧
      (codeWord s core.val ((i.regs.pc + 1) % 16384) / 256 = 0x3B) ∧
      (decodeWord (codeWord s core.val ((i.regs.pc + 1) % 16384)) = some (.str w op r)) ∧
      (op ≠ .copy) ∧
      (r = 12 ∨ r = 13 ∨ r = 14) :=
    ⟨kiteI [0x3900, 0x3B1C] inst1,
    0,
    inst1,
    false,
    .matchOp,
    12,
    ⟨rfl, rfl⟩,
    by simp [inst1],
    by decide +kernel⟩

theorem test_meets_KiteRepeatsComplete_12 :
    ∃ (s : State) (core : CoreId) (i : Instance) (most : Nat) (check : LineCheck) (w : Bool) (op : StrOp) (r : Reg) (u : State) (x : RepEnd),
      (Executes s core i .rep 1) ∧
      ((i.regs.active = true ∧ i.regs.pc = i.regs.be) = False) ∧
      (u = (if (i.regs.get 14).toNat = 0 then s else checkElem s i core.val op (if w then 4 else 1) r check)) ∧
      (repLoop u i.run i.num core.val i.regs op (if w then 4 else 1) r (i.regs.get 14).toNat 0 = x) ∧
      (codePoisoned s core.val ((i.regs.pc + 1) % 16384) = false) ∧
      (codeWord s core.val ((i.regs.pc + 1) % 16384) / 256 = 0x3B) ∧
      (decodeWord (codeWord s core.val ((i.regs.pc + 1) % 16384)) = some (.str w op r)) ∧
      (repConflict op r = false) ∧
      ((i.regs.get 14).toNat ≤ repGroups (if w then 4 else 1) most) ∧
      (x.broken = none) :=
    ⟨kiteI [0x3900, 0x3B80] inst1,
    0,
    inst1,
    0,
    [],
    true,
    .copy,
    0,
    _,
    _,
    ⟨rfl, rfl⟩,
    by simp [inst1],
    rfl,
    rfl,
    by decide +kernel⟩

theorem test_meets_KiteRepeatsComplete_13 :
    ∃ (s : State) (core : CoreId) (i : Instance) (n : Nat) (w : Bool) (check : LineCheck) (u t : State) (x : Regs),
      (Executes s core i (.str w .copy 0) n) ∧
      (u = checkElem s i core.val .copy (if w then 4 else 1) 0 check) ∧
      (strElem u (instNow u i) core.val (instNow u i).regs .copy (if w then 4 else 1) 0 = .done t x) :=
    ⟨kiteI [0x3B00] inst1,
    0,
    inst1,
    1,
    false,
    [],
    _,
    _,
    _,
    ⟨rfl, rfl⟩,
    rfl,
    rfl⟩

theorem test_meets_KiteRepeatsComplete_14 :
    ∃ (s : State) (core : CoreId) (i : Instance) (n : Nat) (w : Bool) (r : Reg) (check : LineCheck) (u t : State) (x : Regs),
      (Executes s core i (.str w .matchOp r) n) ∧
      (u = checkElem s i core.val .matchOp (if w then 4 else 1) r check) ∧
      (strElem u (instNow u i) core.val (instNow u i).regs .matchOp (if w then 4 else 1) r = .done t x) :=
    ⟨kiteI [0x3B13] inst1,
    0,
    inst1,
    1,
    false,
    3,
    [],
    _,
    _,
    _,
    ⟨rfl, rfl⟩,
    rfl,
    rfl⟩

theorem test_meets_KiteRepeatsComplete_15 :
    ∃ (s : State) (core : CoreId) (i : Instance) (n : Nat) (w : Bool) (r : Reg) (check : LineCheck) (u t : State) (x : Regs),
      (Executes s core i (.str w .seek r) n) ∧
      (u = checkElem s i core.val .seek (if w then 4 else 1) r check) ∧
      (strElem u (instNow u i) core.val (instNow u i).regs .seek (if w then 4 else 1) r = .done t x) :=
    ⟨kiteI [0x3B23] (regI 3 1),
    0,
    (regI 3 1),
    1,
    false,
    3,
    [],
    _,
    _,
    _,
    ⟨rfl, rfl⟩,
    rfl,
    rfl⟩

theorem test_meets_KiteRepeatsComplete_16 :
    ∃ (s : State) (core : CoreId) (i : Instance) (n : Nat) (w : Bool) (r : Reg) (check : LineCheck) (u t : State) (x : Regs),
      (Executes s core i (.str w .pull r) n) ∧
      (u = checkElem s i core.val .pull (if w then 4 else 1) r check) ∧
      (strElem u (instNow u i) core.val (instNow u i).regs .pull (if w then 4 else 1) r = .done t x) :=
    ⟨kiteI [0x3B33] (regI 3 0x430),
    0,
    (regI 3 0x430),
    1,
    false,
    3,
    [],
    _,
    _,
    _,
    ⟨rfl, rfl⟩,
    rfl,
    rfl⟩

theorem test_meets_KiteRepeatsComplete_17 :
    ∃ (s : State) (core : CoreId) (i : Instance) (n : Nat) (w : Bool) (r : Reg) (check : LineCheck) (u t : State) (x : Regs),
      (Executes s core i (.str w .push r) n) ∧
      (u = checkElem s i core.val .push (if w then 4 else 1) r check) ∧
      (strElem u (instNow u i) core.val (instNow u i).regs .push (if w then 4 else 1) r = .done t x) :=
    ⟨kiteI [0x3B43] (regI 3 0x100),
    0,
    (regI 3 0x100),
    1,
    false,
    3,
    [],
    _,
    _,
    _,
    ⟨rfl, rfl⟩,
    rfl,
    rfl⟩

theorem test_meets_KiteRepeatsComplete_18 :
    ∃ (s : State) (core : CoreId) (i : Instance) (n : Nat) (w : Bool) (r : Reg) (check : LineCheck) (u t : State) (x : Regs),
      (Executes s core i (.str w .fill r) n) ∧
      (u = checkElem s i core.val .fill (if w then 4 else 1) r check) ∧
      (strElem u (instNow u i) core.val (instNow u i).regs .fill (if w then 4 else 1) r = .done t x) :=
    ⟨kiteI [0x3B53] inst1,
    0,
    inst1,
    1,
    false,
    3,
    [],
    _,
    _,
    _,
    ⟨rfl, rfl⟩,
    rfl,
    rfl⟩

theorem test_meets_KiteStringElements_1 :
    ∃ (s : State) (i : Instance) (e : Nat) (regs : Regs) (d : List Byte) (t : State),
      (dataRead s i (regs.get 12).toNat e = some d) ∧
      (dataWrite { s with free := s.free + e } i (regs.get 13).toNat d = some t) ∧
      ((regs.get 12).toNat % e = 0) ∧
      ((regs.get 13).toNat % e = 0) ∧
      (poisonedAt s i (regs.get 12).toNat = false) ∧
      (poisonedAt s i (regs.get 13).toNat = false) :=
    ⟨kiteS [],
    inst1,
    1,
    inst1.regs,
    [0],
    _,
    rfl,
    rfl,
    by decide +kernel⟩

theorem test_meets_KiteStringElements_2 :
    ∃ (s : State) (i : Instance) (e : Nat) (regs : Regs) (d : List Byte) (t : State),
      (dataRead s i (regs.get 12).toNat e = some d) ∧
      (dataTake { s with free := s.free + e } i (regs.get 13).toNat e = some (d, t)) ∧
      ((regs.get 12).toNat % e = 0) ∧
      ((regs.get 13).toNat % e = 0) ∧
      (poisonedAt s i (regs.get 12).toNat = false) ∧
      (poisonedAt s i (regs.get 13).toNat = false) :=
    ⟨kiteS [],
    inst1,
    1,
    inst1.regs,
    [0],
    _,
    rfl,
    rfl,
    by decide +kernel⟩

theorem test_meets_KiteStringElements_3 :
    ∃ (s : State) (i : Instance) (e : Nat) (regs : Regs) (d f : List Byte) (t : State),
      (dataRead s i (regs.get 12).toNat e = some d) ∧
      (dataTake { s with free := s.free + e } i (regs.get 13).toNat e = some (f, t)) ∧
      ((regs.get 12).toNat % e = 0) ∧
      ((regs.get 13).toNat % e = 0) ∧
      (poisonedAt s i (regs.get 12).toNat = false) ∧
      (poisonedAt s i (regs.get 13).toNat = false) ∧
      (d ≠ f) :=
    ⟨kiteS [],
    matchI,
    1,
    matchI.regs,
    [0],
    [1],
    _,
    rfl,
    rfl,
    by decide +kernel⟩

theorem test_meets_KiteStringElements_4 :
    ∃ (s : State) (i : Instance) (e : Nat) (regs : Regs) (d : List Byte),
      (dataRead s i (regs.get 12).toNat e = some d) ∧
      ((regs.get 12).toNat % e = 0) ∧
      (poisonedAt s i (regs.get 12).toNat = false) :=
    ⟨kiteS [],
    inst1,
    1,
    inst1.regs,
    [0],
    rfl,
    by decide +kernel⟩

theorem test_meets_KiteStringElements_5 :
    ∃ (s : State) (i : Instance) (core e : Nat) (regs : Regs) (r : Reg) (v : Word) (u t : State),
      (portIn { s with free := s.free + e } i core (regs.get r) e = .done v u) ∧
      (dataWrite u i (regs.get 13).toNat (le e v.toNat) = some t) ∧
      ((regs.get r).toNat < 4096) ∧
      (permitted s i (regs.get r).toNat = true) ∧
      ((regs.get 13).toNat % e = 0) ∧
      ((dataWrite { s with free := s.free + e } i (regs.get 13).toNat (zeros e)).isNone = false) ∧
      (poisonedAt s i (regs.get 13).toNat = false) ∧
      (((regs.get r).toNat == 0 && scanPoisoned { s with free := s.free + e } i e) = false) :=
    ⟨kiteS [],
    regI 3 0x430,
    0,
    1,
    (regI 3 0x430).regs,
    3,
    0,
    _,
    _,
    rfl,
    rfl,
    by decide +kernel⟩

theorem test_meets_KiteStringElements_6 :
    ∃ (s : State) (i : Instance) (e : Nat) (regs : Regs) (r : Reg) (d : List Byte) (v : Word) (t : State),
      (dataRead s i (regs.get 12).toNat e = some d) ∧
      (portOut { s with free := s.free + e } i (regs.get r) (word (unle d)) = .done v t) ∧
      ((regs.get 12).toNat % e = 0) ∧
      (poisonedAt s i (regs.get 12).toNat = false) :=
    ⟨kiteS [],
    regI 3 0x100,
    1,
    (regI 3 0x100).regs,
    3,
    [0],
    0,
    _,
    rfl,
    rfl,
    by decide +kernel⟩

theorem test_meets_KiteStringElements_7 :
    ∃ (s : State) (i : Instance) (e : Nat) (regs : Regs) (r : Reg) (t : State),
      (dataWrite { s with free := s.free + e } i (regs.get 13).toNat (le e (regs.get r).toNat) = some t) ∧
      ((regs.get 13).toNat % e = 0) ∧
      (poisonedAt s i (regs.get 13).toNat = false) :=
    ⟨kiteS [],
    inst1,
    1,
    inst1.regs,
    0,
    _,
    rfl,
    by decide +kernel⟩

theorem test_meets_KitePortsComplete_1 :
    ∃ (s : State) (core : CoreId) (i : Instance) (n : Nat) (a b : Reg) (check : LineCheck) (u : State) (j : Instance),
      (Executes s core i (.mem .inp a b) n) ∧
      (u = checkScan s i check) ∧
      (j = instNow u i) ∧
      ((i.regs.get b).toNat = 0x000) ∧
      (permitted s i 0x000 = true) ∧
      (4 ≤ i.lane.avail) ∧
      (scanPoisoned u j 4 = false) ∧
      (permitted u j 0 = true) ∧
      (4 ≤ j.lane.avail) :=
    ⟨kiteI [0x3412] laneI,
    0,
    laneI,
    1,
    1,
    2,
    [],
    _,
    _,
    ⟨rfl, rfl⟩,
    rfl,
    rfl,
    by decide +kernel⟩

theorem test_meets_KitePortsComplete_2 :
    ∃ (s : State) (core : CoreId) (i : Instance) (n : Nat) (a b : Reg),
      (Executes s core i (.mem .inp a b) n) ∧
      ((i.regs.get b).toNat = 0x000) ∧
      (permitted s i 0x000 = true) ∧
      (i.lane.avail < 4) ∧
      (i.lane.drained = false) :=
    ⟨kiteI [0x3412] { inst1 with lane := { inst1.lane with stop := 1 } },
    0,
    { inst1 with lane := { inst1.lane with stop := 1 } },
    1,
    1,
    2,
    ⟨rfl, rfl⟩,
    by decide +kernel⟩

theorem test_meets_KitePortsComplete_3 :
    ∃ (s : State) (core : CoreId) (i : Instance) (n : Nat) (a b : Reg),
      (Executes s core i (.mem .outp a b) n) ∧
      ((i.regs.get b).toNat = 0x003) ∧
      (permitted s i 0x003 = true) ∧
      ((i.regs.get a).toNat / 4 * 4 ≤ i.lane.avail) :=
    ⟨kiteI [0x3512] (regI 2 3),
    0,
    (regI 2 3),
    1,
    1,
    2,
    ⟨rfl, rfl⟩,
    by decide +kernel⟩

theorem test_meets_KitePortsComplete_4 :
    ∃ (s : State) (core : CoreId) (i : Instance) (n : Nat) (a b : Reg),
      (Executes s core i (.mem .outp a b) n) ∧
      ((i.regs.get b).toNat = 0x401) ∧
      (permitted s i 0x401 = true) :=
    ⟨kiteI [0x3512] (regI 2 0x401),
    0,
    (regI 2 0x401),
    1,
    1,
    2,
    ⟨rfl, rfl⟩,
    by decide +kernel⟩

theorem test_meets_KitePortsComplete_5 :
    ∃ (s : State) (core : CoreId) (i : Instance) (n : Nat) (a b : Reg),
      (Executes s core i (.mem .outp a b) n) ∧
      ((i.regs.get b).toNat = 0x410) ∧
      (permitted s i 0x410 = true) :=
    ⟨kiteI [0x3512] (regI 2 0x410),
    0,
    (regI 2 0x410),
    1,
    1,
    2,
    ⟨rfl, rfl⟩,
    by decide +kernel⟩

theorem test_meets_KitePortsComplete_6 :
    ∃ (s : State) (core : CoreId) (i : Instance) (n : Nat) (a b : Reg),
      (Executes s core i (.mem .outp a b) n) ∧
      ((i.regs.get b).toNat = 0x411) ∧
      (permitted s i 0x411 = true) :=
    ⟨kiteI [0x3512] (regI 2 0x411),
    0,
    (regI 2 0x411),
    1,
    1,
    2,
    ⟨rfl, rfl⟩,
    by decide +kernel⟩

theorem test_meets_KitePortsComplete_7 :
    ∃ (s : State) (core : CoreId) (i : Instance) (n : Nat) (a b : Reg) (w : Word) (rest : List Word),
      (Executes s core i (.mem .inp a b) n) ∧
      (i.inbox = w :: rest) ∧
      ((i.regs.get b).toNat = 0x420) ∧
      (permitted s i 0x420 = true) :=
    ⟨kiteI [0x3412] { regI 2 0x420 with inbox := [9] },
    0,
    { regI 2 0x420 with inbox := [9] },
    1,
    1,
    2,
    9,
    [],
    ⟨rfl, rfl⟩,
    rfl,
    by decide +kernel⟩

theorem test_meets_KitePortsComplete_8 :
    ∃ (s : State) (core : CoreId) (i : Instance) (n : Nat) (a b : Reg),
      (Executes s core i (.mem .inp a b) n) ∧
      (i.inbox = []) ∧
      ((i.regs.get b).toNat = 0x420) ∧
      (permitted s i 0x420 = true) :=
    ⟨kiteI [0x3412] (regI 2 0x420),
    0,
    (regI 2 0x420),
    1,
    1,
    2,
    ⟨rfl, rfl⟩,
    rfl,
    by decide +kernel⟩

theorem test_meets_KitePortsComplete_9 :
    ∃ (s : State) (core : CoreId) (i : Instance) (n : Nat) (a b : Reg),
      (Executes s core i (.mem .outp a b) n) ∧
      ((i.regs.get b).toNat = 0x422) ∧
      (permitted s i 0x422 = true) ∧
      (i.outbox.length < 8) :=
    ⟨kiteI [0x3512] (regI 2 0x422),
    0,
    (regI 2 0x422),
    1,
    1,
    2,
    ⟨rfl, rfl⟩,
    by decide +kernel⟩

theorem test_meets_KitePortsComplete_10 :
    ∃ (s : State) (core : CoreId) (i : Instance) (n : Nat) (a b : Reg),
      (Executes s core i (.mem .outp a b) n) ∧
      (i.ports.wmBusy = false) ∧
      ((i.regs.get b).toNat = 0x110) ∧
      (permitted s i 0x110 = true) ∧
      ((s.way.queue.filter (fun q => q.table == i.ports.wmTable)).length < 64) :=
    ⟨kiteI [0x3512] (regI 2 0x110),
    0,
    (regI 2 0x110),
    1,
    1,
    2,
    ⟨rfl, rfl⟩,
    rfl,
    by decide +kernel⟩

theorem test_meets_KitePortsComplete_11 :
    ∃ (s : State) (core : CoreId) (i : Instance) (n : Nat) (a b : Reg),
      (Executes s core i (.mem .outp a b) n) ∧
      (i.ports.dgBusy = false) ∧
      (s.sec.errorState = false) ∧
      ((i.regs.get b).toNat = 0x200) ∧
      (permitted s i 0x200 = true) ∧
      (algValid ((i.regs.get a).toNat % 16) = true) ∧
      ((i.regs.get a).toNat % 16 < 8) ∧
      (freeContext (modPorts (dgDrop s i) i (fun p => { p with dgExhausted := false, dgCleared := false, dgDone := false, dgNoMessage := false, dgOut := [] })) = none) :=
    ⟨upSec (kiteI [0x3512] (regI 2 0x200)) (fun e => { e with contexts := fullCtx }),
    0,
    (regI 2 0x200),
    1,
    1,
    2,
    ⟨rfl, rfl⟩,
    rfl,
    rfl,
    by decide +kernel⟩

theorem test_meets_KitePortsComplete_12 :
    ∃ (s : State) (core : CoreId) (i : Instance) (n : Nat) (a b : Reg) (u : State) (c : Nat),
      (Executes s core i (.mem .outp a b) n) ∧
      (i.ports.dgBusy = false) ∧
      (s.sec.errorState = false) ∧
      (u = modPorts (dgDrop s i) i (fun p => { p with dgExhausted := false, dgCleared := false, dgDone := false, dgNoMessage := false, dgOut := [] })) ∧
      ((i.regs.get b).toNat = 0x200) ∧
      (permitted s i 0x200 = true) ∧
      (algValid ((i.regs.get a).toNat % 16) = true) ∧
      ((i.regs.get a).toNat % 16 < 8) ∧
      (freeContext u = some c) :=
    ⟨kiteI [0x3512] (regI 2 0x200),
    0,
    (regI 2 0x200),
    1,
    1,
    2,
    _,
    0,
    ⟨rfl, rfl⟩,
    rfl,
    rfl,
    rfl,
    by decide +kernel⟩

theorem test_meets_KitePortsComplete_13 :
    ∃ (s : State) (core : CoreId) (i : Instance) (n : Nat) (a b : Reg) (d : List Byte) (t : State),
      (Executes s core i (.mem .outp a b) n) ∧
      (i.ports.dgBusy = false) ∧
      (i.ports.dgCtx.isNone = false) ∧
      (dataTake s i i.ports.dgAddr (i.regs.get a).toNat = some (d, t)) ∧
      ((i.regs.get b).toNat = 0x202) ∧
      (permitted s i 0x202 = true) ∧
      (1 ≤ (i.regs.get a).toNat) ∧
      ((i.regs.get a).toNat ≤ 1048576) :=
    ⟨kiteI [0x3512] (feedI 0x202 1),
    0,
    feedI 0x202 1,
    1,
    1,
    2,
    [0],
    _,
    ⟨rfl, rfl⟩,
    rfl,
    rfl,
    rfl,
    by decide +kernel⟩

theorem test_meets_KitePortsComplete_14 :
    ∃ (s : State) (core : CoreId) (i : Instance) (n : Nat) (a b : Reg),
      (Executes s core i (.mem .outp a b) n) ∧
      (i.ports.dgBusy = false) ∧
      (i.ports.dgCtx.isNone = false) ∧
      ((i.regs.get b).toNat = 0x203) ∧
      (permitted s i 0x203 = true) :=
    ⟨kiteI [0x3512] (feedI 0x203 0),
    0,
    feedI 0x203 0,
    1,
    1,
    2,
    ⟨rfl, rfl⟩,
    rfl,
    rfl,
    by decide +kernel⟩

theorem test_meets_KitePortsComplete_15 :
    ∃ (s : State) (core : CoreId) (i : Instance) (n : Nat) (a b : Reg) (d : List Byte) (t : State),
      (Executes s core i (.mem .outp a b) n) ∧
      (i.ports.cpBusy = false) ∧
      (dataTake s i i.ports.cpSrc i.ports.cpSrcLen = some (d, t)) ∧
      ((i.regs.get b).toNat = 0x305) ∧
      (permitted s i 0x305 = true) ∧
      (cpBad i.ports = none) ∧
      (region s i i.ports.cpDst i.ports.cpDstCap = some .localData) :=
    ⟨kiteI [0x3512] cpI,
    0,
    cpI,
    1,
    1,
    2,
    [0],
    _,
    ⟨rfl, rfl⟩,
    rfl,
    rfl,
    by decide +kernel⟩

theorem test_meets_KitePortsComplete_16 :
    ∃ (s : State) (core : CoreId) (i : Instance) (n : Nat) (a b : Reg) (port : Nat),
      (Executes s core i (.mem .outp a b) n) ∧
      (i.ports.cpBusy = false) ∧
      ((i.regs.get b).toNat = 0x305) ∧
      (permitted s i 0x305 = true) ∧
      (cpBad i.ports = some port) :=
    ⟨kiteI [0x3512] (regI 2 0x305),
    0,
    (regI 2 0x305),
    1,
    1,
    2,
    0x302,
    ⟨rfl, rfl⟩,
    rfl,
    by decide +kernel⟩

theorem test_meets_KitePortsComplete_17 :
    ∃ (s : State) (core : CoreId) (i : Instance) (n : Nat) (a b : Reg) (d : List Byte) (t : State) (q : Run),
      (Executes s core i (.mem .outp a b) n) ∧
      (i.ports.dmaBusy = false) ∧
      (dataTake s i i.ports.dmaSrc i.ports.dmaLen = some (d, t)) ∧
      (findRun t i.run = some q) ∧
      ((i.regs.get b).toNat = 0x504) ∧
      (permitted s i 0x504 = true) ∧
      (1 ≤ i.ports.dmaLen) ∧
      (i.ports.dmaLen ≤ 1048576) ∧
      (i.ports.dmaDstLo + i.ports.dmaDstHi * 2 ^ 32 + i.ports.dmaLen ≤ q.dlen) :=
    ⟨dmaS (dmaI 0x504),
    0,
    dmaI 0x504,
    1,
    1,
    2,
    [0],
    _,
    { run1 with dlen := 64 },
    ⟨rfl, rfl⟩,
    rfl,
    rfl,
    rfl,
    by decide +kernel⟩

theorem test_meets_KitePortsComplete_18 :
    ∃ (s : State) (core : CoreId) (i : Instance) (n : Nat) (a b : Reg) (d : List Byte) (t : State) (q : Run),
      (Executes s core i (.mem .outp a b) n) ∧
      (i.ports.dmaBusy = false) ∧
      (dataTake s i i.ports.dmaSrc i.ports.dmaLen = some (d, t)) ∧
      (findRun t i.run = some q) ∧
      ((i.regs.get b).toNat = 0x505) ∧
      (permitted s i 0x505 = true) ∧
      (1 ≤ i.ports.dmaLen) ∧
      (i.ports.dmaLen ≤ 1048576) ∧
      (q.nextFree + i.ports.dmaLen ≤ q.dlen) :=
    ⟨dmaS (dmaI 0x505),
    0,
    dmaI 0x505,
    1,
    1,
    2,
    [0],
    _,
    { run1 with dlen := 64 },
    ⟨rfl, rfl⟩,
    rfl,
    rfl,
    rfl,
    by decide +kernel⟩

theorem test_meets_KiteRuntimeComplete_1 :
    ∃ (s u v : State) (core : CoreId) (i : Instance) (img : Option Nat),
      (u = powerCluster (stopKiteTest s (core.val / 8)) (core.val / 8)) ∧
      (img = ((findRun u i.run).bind (fun r => mget u.kite.programs r.slot)).map (fun g => g.load)) ∧
      (v = modCore (upKite (modInst u i.run i.num (fun x => { x with state := .dispatched core.val, since := u.glb.lifetime, spill := none }))
        (fun k => { k with readyQ := k.readyQ.erase (i.run, i.num) })) core.val
        (fun c => { state := 2, image := img, inst := some (i.run, i.num), poison := if c.image = img then c.poison else [] })) ∧
      (waitingInst s (core.val / 8) = some i) ∧
      (s.flt.containing.contains (islKc (core.val / 8)) = false) ∧
      ((coreAt u core.val).state = 0) :=
    ⟨waitS,
    _,
    _,
    0,
    { inst1 with state := .ready },
    _,
    rfl,
    rfl,
    rfl,
    by decide +kernel⟩

theorem test_meets_KiteRuntimeComplete_2 :
    ∃ (s : State) (core : CoreId) (i : Instance),
      (quantumOver s core.val = true) ∧
      ((coreAt s core.val).state = 2 ∨ (coreAt s core.val).state = 3) ∧
      ((clusterAt s (core.val / 8)).preempt = true) ∧
      (waitingInst s (core.val / 8) = some i) ∧
      (spillUsed s (core.val / 8 / 2) < s.kite.spillSlots) :=
    ⟨upGlb (busyS 2) (fun g => { g with lifetime := 100000 }),
    0,
    { inst1 with num := 1, state := .ready },
    by decide +kernel⟩

theorem test_meets_KiteRuntimeComplete_3 :
    ∃ (s u : State) (core : CoreId) (i j : Instance) (n : Nat),
      (cyclesOf s 0 true 0 = (n, u)) ∧
      (quantumOver s core.val = true) ∧
      ((coreAt s core.val).state = 4) ∧
      ((clusterAt s (core.val / 8)).preempt = true) ∧
      (waitingInst s (core.val / 8) = some i) ∧
      (spillUsed s (core.val / 8 / 2) < s.kite.spillSlots) ∧
      (executing s core.val = some j) :=
    ⟨upGlb (busyS 4) (fun g => { g with lifetime := 100000 }),
    _,
    0,
    { inst1 with num := 1, state := .ready },
    inst1,
    _,
    rfl,
    by decide +kernel⟩

theorem test_meets_KiteRuntimeComplete_4 :
    ∃ (s : State) (core : CoreId) (i : Instance),
      (quantumOver s core.val = true) ∧
      ((coreAt s core.val).state = 2 ∨ (coreAt s core.val).state = 3 ∨ (coreAt s core.val).state = 4) ∧
      ((clusterAt s (core.val / 8)).preempt = true) ∧
      (waitingInst s (core.val / 8) = some i) ∧
      (s.kite.spillSlots ≤ spillUsed s (core.val / 8 / 2)) :=
    ⟨upGlb (upKite (busyS 2) (fun k => { k with spillSlots := 0 })) (fun g => { g with lifetime := 100000 }),
    0,
    { inst1 with num := 1, state := .ready },
    by decide +kernel⟩

theorem test_meets_KiteRuntimeComplete_5 :
    ∃ (s : State) (core : CoreId) (i : Instance),
      ((coreAt s core.val).inst.isSome = true) ∧
      ((coreAt s core.val).state = 3) ∧
      ((clusterAt s (core.val / 8)).preempt = true) ∧
      (waitingInst s (core.val / 8) = some i) ∧
      (spillUsed s (core.val / 8 / 2) < s.kite.spillSlots) :=
    ⟨busyS 3,
    0,
    { inst1 with num := 1, state := .ready },
    by decide +kernel⟩

theorem test_meets_KiteRuntimeComplete_6 :
    ∃ (s : State) (core : CoreId) (i : Instance) (r : Run) (k : Nat),
      ((coreAt s core.val).inst.bind (fun x => findInst s x.1 x.2) = some i) ∧
      ((coreAt s core.val).state = 5) ∧
      (i.ports.busy = false) ∧
      (findRun s i.run = some r) ∧
      (i.lane.ring = []) ∧
      (i.lane.work = []) ∧
      (freeSlot s (i.cluster / 2) = some k) :=
    ⟨busyS 5,
    0,
    inst1,
    run1,
    0,
    by decide +kernel⟩

theorem test_meets_KiteRuntimeComplete_7 :
    ∃ (s : State) (run num c : Nat) (i : Instance) (b : LaneBlock) (l : List LaneBlock),
      (findInst s run num = some i) ∧
      (i.state = .dispatched c) ∧
      (i.lane.work = b :: l) ∧
      ((coreAt s c).state ≠ 5) ∧
      (4096 * i.lane.ring.length < ringOf s i) ∧
      (b.entry = none) ∧
      (b.staging = false) :=
    ⟨kiteI [] laneWorkI,
    5,
    0,
    0,
    laneWorkI,
    laneB,
    [],
    by decide +kernel⟩

theorem test_meets_KiteRuntimeComplete_8 :
    ∃ (s : State) (run num c : Nat) (i : Instance),
      (findInst s run num = some i) ∧
      (i.state = .dispatched c) :=
    ⟨kiteI [] inst1,
    5,
    0,
    0,
    inst1,
    by decide +kernel⟩

theorem test_meets_KiteRuntimeComplete_9 :
    ∃ (s : State) (run num : Nat) (i : Instance),
      (findInst s run num = some i) ∧
      (i.state ≠ .ended) ∧
      (i.timer1 ≠ 0) :=
    ⟨kiteI [] { inst1 with timer1 := 3 },
    5,
    0,
    { inst1 with timer1 := 3 },
    by decide +kernel⟩

theorem test_meets_KiteRuntimeComplete_10 :
    ∃ (s : State) (run sender dest : Nat) (i d : Instance) (w : Word) (rest : List Word),
      (s.kite.mail.find? (fun m => m.1 == run && m.2.1 == sender) = none) ∧
      (findInst s run sender = some i) ∧
      (i.outbox = w :: rest) ∧
      (w.toNat / 2 ^ 26 = dest) ∧
      (findInst s run dest = some d) ∧
      (d.state ≠ .ended) ∧
      (d.inbox.length < 8) :=
    ⟨kiteI [] { inst1 with outbox := [7] },
    5,
    0,
    0,
    { inst1 with outbox := [7] },
    { inst1 with outbox := [7] },
    7,
    [],
    by decide +kernel⟩

theorem test_meets_KiteRuntimeComplete_11 :
    ∃ (s u t : State) (run num n : Nat) (i : Instance) (c : DigestCtx) (b d : List Byte) (check : LineCheck),
      (u = checkRange s i i.ports.dgFrom b.length check) ∧
      (sourceNow u (instNow u i) i.ports.dgFrom b = (d, t)) ∧
      (findInst s run num = some i) ∧
      (i.ports.dgBusy = true) ∧
      (inReset s islCrypt = false) ∧
      (i.ports.dgCtx = some n) ∧
      (mget s.sec.contexts n = some c) ∧
      (i.ports.dgFeed = some b) ∧
      (poisonedIn u (instNow u i) i.ports.dgFrom b.length = false) :=
    ⟨upSec (kiteI [] digI) (fun e => { e with contexts := [(0, ctx1)] }),
    _,
    _,
    5,
    0,
    0,
    digI,
    ctx1,
    [0],
    [0],
    [],
    rfl,
    rfl,
    by decide +kernel⟩

theorem test_meets_KiteRuntimeComplete_12 :
    ∃ (s u t : State) (run num off : Nat) (i : Instance) (o : Op) (b d : List Byte) (check : LineCheck),
      (u = (if o.pkt.arena = true ∧ partialLines (o.pkt.dptr + off) b.length ≠ [] then checkMerge s (o.pkt.dptr + off) b.length check else checkRange s i i.ports.dmaFrom b.length check)) ∧
      (sourceBytes u (instNow u i) i.ports.dmaFrom b = (d, t)) ∧
      (findInst s run num = some i) ∧
      (i.ports.dmaBusy = true) ∧
      (i.ports.dmaReq = some (off, b)) ∧
      (findOp s i.run = some o) ∧
      (o.pkt.arena = true ∨ ioUp s = true) ∧
      (b ≠ []) ∧
      (poisonedParts u (o.pkt.dptr + off) b.length = []) :=
    ⟨upTsk (kiteI [] dmaDoneI) (fun t => { t with ops := [op { pk 0x0603 with flags := 4 }] }),
    _,
    _,
    5,
    0,
    0,
    dmaDoneI,
    op { pk 0x0603 with flags := 4 },
    [0],
    [0],
    [],
    rfl,
    rfl,
    by decide +kernel⟩

theorem test_meets_KiteRuntimeComplete_13 :
    ∃ (s u : State) (core : CoreId) (i : Instance) (check : LineCheck),
      (u = checkCode s i core.val i.regs.pc check) ∧
      (executing s core.val = some i) ∧
      (fetchPoisoned u core.val i.regs.pc = false) ∧
      (kiteFetch u core.val i = none) :=
    ⟨kiteI [0x3FFF] inst1,
    _,
    0,
    inst1,
    [],
    rfl,
    by decide +kernel⟩

theorem test_meets_TetherLinkCommandsComplete_1 :
    ∃ (s : State) (f : TetherFlit),
      (s.pair.linkUp = true) ∧
      (tetherCrcOk f = false) ∧
      (inReset s islTether = false) :=
    ⟨linkS,
    { flit1 with crc := 0 },
    by decide +kernel⟩

theorem test_meets_TetherLinkCommandsComplete_2 :
    ∃ (s : State) (f : TetherFlit),
      (tetherCrcOk f = true) ∧
      (s.pair.linkUp = true) ∧
      (f.idle = false) ∧
      (f.fseq ≠ s.pair.link.rxCount % 4096) ∧
      (inReset s islTether = false) :=
    ⟨linkS,
    goodFlit { flit1 with fseq := 3 },
    goodFlit_ok _,
    by decide +kernel⟩

theorem test_meets_TetherLinkCommandsComplete_3 :
    ∃ (s : State) (f : TetherFlit),
      (tetherCrcOk f = true) ∧
      (s.pair.linkUp = true) ∧
      (f.idle = false) ∧
      (f.fseq = s.pair.link.rxCount % 4096) ∧
      (f.tagOk = true) ∧
      (inReset s islTether = false) :=
    ⟨linkS,
    goodFlit flit1,
    goodFlit_ok _,
    by decide +kernel⟩

theorem test_meets_TetherLinkCommandsComplete_4 :
    ∃ (s : State),
      (s.pair.linkUp = true) ∧
      (s.pair.link.unacked ≠ 0) ∧
      (s.pair.link.replays < 4) ∧
      (inReset s islTether = false) :=
    ⟨upPair linkS (fun p => { p with link := { p.link with txCount := 2 } }),
    by decide +kernel⟩

theorem test_meets_TetherLinkCommandsComplete_5 :
    ∃ (s : State) (speed width : Nat),
      (tetherOn s = true) ∧
      (s.pair.linkUp = false) ∧
      (speed = 2 ∨ speed = 3) ∧
      (width = 4 ∨ width = 8) ∧
      (inReset s islTether = false) :=
    ⟨upGlb State.reset (fun g => { g with poweredOn := true }),
    3,
    8,
    by decide +kernel⟩

theorem test_meets_TetherLinkCommandsComplete_6 :
    ∃ (s : State) (speed width : Nat),
      (tetherOn s = true) ∧
      (s.pair.linkUp = true) ∧
      (4 ≤ s.pair.link.replays) ∧
      (speed = 3) ∧
      (width = 8) ∧
      (inReset s islTether = false) :=
    ⟨upGlb (upPair linkS (fun p => { p with link := { p.link with replays := 4 } })) (fun g => { g with poweredOn := true }),
    3,
    8,
    by decide +kernel⟩

theorem test_meets_TetherCommandsComplete_1 :
    ∃ (s : State),
      (s.pair.pairing = none) ∧
      (s.pair.state = 0) ∧
      (inReset s islTether = false) :=
    ⟨State.reset,
    by decide +kernel⟩

theorem test_meets_TetherCommandsComplete_2 :
    ∃ (s : State) (p : Pairing),
      (s.pair.pairing = some p) ∧
      (p.agreed = false) ∧
      (inReset s islTether = false) :=
    ⟨upPair State.reset (fun p => { p with pairing := some pairing1 }),
    pairing1,
    by decide +kernel⟩

theorem test_meets_TetherCommandsComplete_3 :
    ∃ (s : State),
      (s.pair.state = 2) ∧
      (s.pair.fostering = false) ∧
      (inReset s islTether = false) :=
    ⟨upPair State.reset (fun p => { p with state := 2 }),
    by decide +kernel⟩

theorem test_meets_TetherCommandsComplete_4 :
    ∃ (s : State),
      (s.pair.state ≠ 0) ∧
      (inReset s islTether = false) :=
    ⟨upPair State.reset (fun p => { p with state := 2 }),
    by decide +kernel⟩

theorem test_meets_TetherCommandsComplete_5 :
    ∃ (s : State) (blocks : Nat) (data : List Byte),
      (storesForPartner s = true) ∧
      (data.length = 4096 * blocks) ∧
      (inReset s islTether = false) :=
    ⟨upPair State.reset (fun p => { p with state := 2 }),
    0,
    [],
    by decide +kernel⟩

theorem test_meets_TetherCommandsComplete_6 :
    ∃ (s : State),
      (inReset s islTether = false) :=
    ⟨State.reset,
    by decide⟩

theorem test_meets_TetherCommandsComplete_7 :
    ∃ (s : State),
      (inReset s islTether = false) :=
    ⟨State.reset,
    by decide⟩

theorem test_meets_TetherCommandsComplete_8 :
    ∃ (s : State) (first : Nat) (recs : List JRec),
      (storesForPartner s = true) ∧
      (1 ≤ recs.length) ∧
      (recs.length ≤ 256) ∧
      (s.med.partnerRing.isEmpty = false) ∧
      (first = s.med.partnerStart + s.med.partnerRing.length) ∧
      (inReset s islTether = false) :=
    ⟨upMed (upPair State.reset (fun p => { p with state := 2 })) (fun m => { m with partnerRing := [{ body := .ckpt 1, more := false }] }),
    1,
    [{ body := .ckpt 2, more := false }],
    by decide +kernel⟩

theorem test_meets_TetherCommandsComplete_9 :
    ∃ (s : State) (last : Nat),
      (last < jHead s) ∧
      (inReset s islTether = false) :=
    ⟨upMed State.reset (fun m => { m with ring := [{ body := .ckpt 1, more := false }] }),
    0,
    by decide +kernel⟩

theorem test_meets_TetherCommandsComplete_10 :
    ∃ (s : State) (r : Root),
      (r.ckptNo ≠ 0) ∧
      (s.pair.fostering = false) ∧
      (storesForPartner s = true) ∧
      (inReset s islTether = false) :=
    ⟨upPair State.reset (fun p => { p with state := 2 }),
    root1,
    by decide +kernel⟩

theorem test_meets_TetherCommandsComplete_11 :
    ∃ (s u : State),
      (u = hearPartner s) ∧
      (s.pair.state = 2) ∧
      (u.pair.state = 2) ∧
      (u.pair.fenced = false) ∧
      (inReset s islTether = false) :=
    ⟨upPair State.reset (fun p => { p with state := 2 }),
    _,
    rfl,
    by decide +kernel⟩

theorem test_meets_TetherCommandsComplete_13 :
    ∃ (s : State),
      (s.pair.state ≠ 0) ∧
      (s.pair.linkUp = true ∨ s.pair.meshMirror = true) ∧
      (s.flt.halted = false) ∧
      (s.med.dumpHeld = false) ∧
      (inReset s islTether = false) :=
    ⟨upPair linkS (fun p => { p with state := 2 }),
    by decide +kernel⟩

theorem test_meets_TetherCommandsComplete_14 :
    ∃ (s : State),
      (partnered s = true) ∧
      (s.pair.suspect = false) ∧
      (s.pair.heardAt + 5 ≤ s.glb.lifetime) ∧
      (inReset s islTether = false) :=
    ⟨upGlb (upPair State.reset (fun p => { p with state := 2 })) (fun g => { g with lifetime := 5 }),
    by decide +kernel⟩

theorem test_meets_TetherCommandsComplete_15 :
    ∃ (s : State),
      (s.pair.suspect = true) ∧
      (s.mesh.configured = true) ∧
      (s.pair.claim = none) ∧
      (s.pair.fenced = false) ∧
      (s.pair.probes < 4) ∧
      (inReset s islTether = false) :=
    ⟨upMesh (upPair State.reset (fun p => { p with state := 2, suspect := true })) (fun m => { m with configured := true }),
    by decide +kernel⟩

theorem test_meets_TetherCommandsComplete_16 :
    ∃ (s : State),
      (s.pair.suspect = true) ∧
      (s.mesh.configured = true) ∧
      (s.pair.claim = none) ∧
      (s.pair.fenced = false) ∧
      (4 ≤ s.pair.probes) ∧
      (inReset s islTether = false) :=
    ⟨upMesh (upPair State.reset (fun p => { p with state := 2, suspect := true, probes := 4 })) (fun m => { m with configured := true }),
    by decide +kernel⟩

theorem test_meets_TetherCommandsComplete_17 :
    ∃ (s : State) (c : ClaimState),
      (s.pair.claim = some c) ∧
      (c.askedAt + 10 ≤ s.glb.lifetime) ∧
      (inReset s islTether = false) :=
    ⟨upGlb (upPair State.reset (fun p => { p with claim := some { grants := [], refusals := [], number := 1, askedAt := 0 } })) (fun g => { g with lifetime := 10 }),
    { grants := [], refusals := [], number := 1, askedAt := 0 },
    by decide +kernel⟩

theorem test_meets_TetherCommandsComplete_18 :
    ∃ (s : State),
      (s.pair.fostering = true) ∧
      (s.pair.partnerDirReady = false) ∧
      (inReset s islTether = false) :=
    ⟨upPair State.reset (fun p => { p with fostering := true }),
    by decide +kernel⟩

theorem test_meets_TetherCommandsComplete_19 :
    ∃ (s : State) (r : Root) (b : PartnerBuild),
      (b = (partnerRecords s r.jstart).foldl PartnerBuild.apply { dir := r.volumes.flatMap (fun v => v.2.dir.map (fun d => (v.1, d.1, d.2))), map := [] }) ∧
      (s.pair.fostering = true) ∧
      (s.pair.partnerDirReady = false) ∧
      (partnerNewest s = some r) ∧
      (inReset s islTether = false) :=
    ⟨upMed (upPair State.reset (fun p => { p with fostering := true })) (fun m => { m with partnerRoot0 := some root1 }),
    root1,
    _,
    rfl,
    by decide +kernel⟩

theorem test_meets_PairRecoveryCommandsComplete_1 :
    ∃ (s : State) (vol lba blocks : Nat) (m : MediaIn) (v : Volume) (l : List (List Byte)),
      (s.pair.state ≠ 0) ∧
      (mget s.med.volumes vol = some v) ∧
      (lba + blocks ≤ v.capacity) ∧
      ((span lba blocks).mapM (partnerBlock s m vol) = some l) ∧
      (inReset s islTether = false) :=
    ⟨upMed (upPair State.reset (fun p => { p with state := 2 })) (fun m => { m with volumes := [(2, vol2)], staging := [stg] }),
    2,
    1,
    1,
    {},
    vol2,
    [[7]],
    by decide +kernel⟩

theorem test_meets_PairRecoveryCommandsComplete_2 :
    ∃ (s : State) (vol : Nat),
      (s.pair.state ≠ 0) ∧
      (mget s.med.volumes vol = none) ∧
      (inReset s islTether = false) :=
    ⟨upPair State.reset (fun p => { p with state := 2 }),
    2,
    by decide +kernel⟩

theorem test_meets_PairRecoveryCommandsComplete_3 :
    ∃ (s : State) (req v lba : Nat),
      (s.pair.reads.find? (fun x => x.1 == req) = some (req, v, lba)) ∧
      (inReset s islTether = false) :=
    ⟨upPair State.reset (fun p => { p with reads := [(9, 2, 1)] }),
    9,
    2,
    1,
    by decide +kernel⟩

theorem test_meets_PairRecoveryCommandsComplete_4 :
    ∃ (s : State) (w vol lba : Nat) (v : Volume) (data : List Byte),
      (data.length = 4096) ∧
      (mget s.med.volumes vol = some v) ∧
      (s.pair.state = 4) ∧
      (v.foster = false) ∧
      (lba < v.capacity) ∧
      (s.pair.handed.any (fun h => h.1 == vol && h.2.1 == lba && decide (w ≤ h.2.2)) = false) ∧
      (inReset s islTether = false) :=
    ⟨upMed (upPair State.reset (fun p => { p with state := 4 })) (fun m => { m with volumes := [(2, vol2)] }),
    9,
    2,
    1,
    vol2,
    zeros 4096,
    List.length_replicate,
    by decide +kernel⟩

theorem test_meets_PairRecoveryCommandsComplete_5 :
    ∃ (s u : State) (h : Handback) (m : MediaIn) (n : Nat),
      (handRound s m h.todo = (u, [], n)) ∧
      (s.pair.handback = some h) ∧
      (inReset s islTether = false) :=
    ⟨upPair State.reset (fun p => { p with handback := some hand1 }),
    _,
    hand1,
    {},
    0,
    rfl,
    by decide +kernel⟩

theorem test_meets_PairRecoveryCommandsComplete_6 :
    ∃ (s : State),
      (s.pair.state = 4) ∧
      (s.pair.pairing = none) ∧
      (s.mesh.replaced = []) ∧
      (s.pair.meshMirror = false) ∧
      (inReset s islTether = false) :=
    ⟨upPair State.reset (fun p => { p with state := 4 }),
    by decide +kernel⟩

theorem test_meets_PairRecoveryCommandsComplete_7 :
    ∃ (s : State),
      (partnered s = true) ∧
      (inReset s islTether = false) :=
    ⟨upPair State.reset (fun p => { p with state := 2 }),
    by decide +kernel⟩

theorem test_meets_PairRecoveryCommandsComplete_8 :
    ∃ (s : State),
      (s.pair.claim = none) ∧
      (s.pair.state = 2) ∧
      (s.pair.fenced = false) ∧
      (validWitnesses s = []) :=
    ⟨upPair State.reset (fun p => { p with state := 2 }),
    by decide +kernel⟩

theorem test_meets_PairRecoveryCommandsComplete_9 :
    ∃ (s : State),
      (s.pair.state ≠ 0) ∧
      (inReset s islTether = false) :=
    ⟨upPair State.reset (fun p => { p with state := 2 }),
    by decide +kernel⟩

theorem test_meets_PairRecoveryCommandsComplete_10 :
    ∃ (s : State),
      (s.pair.draining = true) ∧
      (partnered s = true) ∧
      (s.pair.entriesOut = []) ∧
      (s.pair.unpairSent = true) ∧
      (s.pair.unpairSeen = true) ∧
      (s.pair.unpairing = none) ∧
      (s.pair.fostering = false) :=
    ⟨upPair State.reset (fun p => { p with state := 2, draining := true, unpairSent := true, unpairSeen := true }),
    by decide +kernel⟩

theorem test_meets_PairRecoveryCommandsComplete_11 :
    ∃ (s : State),
      (s.pair.meshMirror = true) ∧
      (s.pair.linkUp = true) ∧
      (s.pair.state = 3) ∧
      (s.pair.fostering = false) ∧
      (s.pair.fenced = false) ∧
      (s.pair.upAt + 1000 ≤ s.glb.lifetime) ∧
      (inReset s islTether = false) :=
    ⟨upGlb (upPair linkS (fun p => { p with meshMirror := true, state := 3 })) (fun g => { g with lifetime := 1000 }),
    by decide +kernel⟩

theorem test_meets_TrailCommandsComplete_1 :
    ∃ (s : State) (port : Nat) (f : TrailFlit),
      (trailCrcOk f = true) ∧
      ((portAt s port).up = true) ∧
      ((portAt s port).failed = false) ∧
      (f.idle = false) ∧
      (f.fseq = (portAt s port).link.rxCount % 4096) ∧
      (f.tagOk = true) ∧
      (inReset s (islTrail port) = false) :=
    ⟨portS,
    0,
    goodTrail tflit1,
    goodTrail_ok _,
    by decide +kernel⟩

theorem test_meets_TrailCommandsComplete_2 :
    ∃ (s : State) (port : Nat) (f : TrailFlit),
      ((portAt s port).up = true) ∧
      ((portAt s port).failed = false) ∧
      (trailCrcOk f = false) ∧
      (inReset s (islTrail port) = false) :=
    ⟨portS,
    0,
    tflit1,
    by decide +kernel⟩

theorem test_meets_TrailCommandsComplete_3 :
    ∃ (s u : State) (port : Nat),
      (u = upMesh (modPort s port (fun p => { p with link := { p.link with replays := p.link.replays + 1 } })) (fun m => { m with replays := satAdd m.replays (portAt s port).link.unacked })) ∧
      ((portAt s port).up = true) ∧
      ((portAt s port).failed = false) ∧
      ((portAt s port).link.unacked ≠ 0) ∧
      ((portAt u port).link.replays < 4) ∧
      (inReset s (islTrail port) = false) :=
    ⟨upMesh portS (fun m => { m with ports := [{ port1 with link := { port1.link with txCount := 2 } }] }),
    _,
    0,
    rfl,
    by decide +kernel⟩

theorem test_meets_TrailCommandsComplete_4 :
    ∃ (s : State) (port : Nat),
      (port < 6) ∧
      ((portAt s port).enabled = true) ∧
      ((portAt s port).failed = false) ∧
      (inReset s (islTrail port) = false) :=
    ⟨portS,
    0,
    by decide +kernel⟩

theorem test_meets_TrailCommandsComplete_5 :
    ∃ (s u : State) (port node shape : Nat) (pub : List Byte),
      (u = modPort (upSec (freeBytes (freshKey s).2 96).2 (fun e => { e with links := mset e.links (1 + port) { secret := some (Config.sharedSecret (secret (freshKey s).1 97) pub), counter := 0, rxCounter := 0, packets := 0, since := s.glb.lifetime } })) port (fun p => { p with up := true, neighbour := some node })) ∧
      (port < 6) ∧
      (s.mesh.configured = true) ∧
      ((portAt s port).enabled = true) ∧
      ((portAt s port).failed = false) ∧
      ((portAt s port).up = false) ∧
      (s.sec.errorState = false) ∧
      (s.flt.containing.contains (islTrail port) = false) ∧
      (shape = meshShape s) ∧
      (neighbourOf s s.mesh.node port = some node) ∧
      (inReset s (islTrail port) = false) :=
    ⟨upMesh portS (fun m => { m with configured := true, xs := 1, ports := [{ port1 with up := false }] }),
    _,
    0,
    1,
    1,
    [],
    rfl,
    by decide +kernel⟩

theorem test_meets_TrailCommandsComplete_6 :
    ∃ (s : State) (port : Nat),
      (port < 6) ∧
      (s.mesh.configured = true) ∧
      ((portAt s port).enabled = true) ∧
      ((portAt s port).failed = false) ∧
      ((portAt s port).up = false) ∧
      (s.sec.errorState = false) ∧
      (s.flt.containing.contains (islTrail port) = false) ∧
      (inReset s (islTrail port) = false) :=
    ⟨upMesh portS (fun m => { m with configured := true, ports := [{ port1 with up := false }] }),
    0,
    by decide +kernel⟩

theorem test_meets_TrailCommandsComplete_7 :
    ∃ (s : State) (src : Nat),
      (s.mesh.configured = true) ∧
      (src ≠ s.mesh.node) ∧
      (mget s.mesh.floods src = none) ∧
      (inReset s islStripe = false) :=
    ⟨upMesh portS (fun m => { m with configured := true }),
    1,
    by decide +kernel⟩

theorem test_meets_TrailCommandsComplete_8 :
    ∃ (s : State) (src id : Nat) (r : Recon) (rc : StripeRec) (g : Group),
      (s.mesh.recons.find? (fun r => r.request == id) = some r) ∧
      (r.record = some rc) ∧
      (r.done = false) ∧
      (r.exhausted = false) ∧
      (groupAt s rc.group = some g) ∧
      ((r.waits.filter (fun u => !(reachable s).contains (unitNode g rc.stripe u))).isEmpty = false) ∧
      (src ≠ s.mesh.node) ∧
      (inReset s islStripe = false) :=
    ⟨reconS,
    5,
    9,
    recon1,
    rec1,
    grp1,
    rfl,
    rfl,
    rfl,
    rfl,
    by decide +kernel⟩

theorem test_meets_TrailCommandsComplete_9 :
    ∃ (s : State) (target : Nat),
      (target = Config.serial) ∧
      (inReset s islStripe = false) :=
    ⟨State.reset,
    Config.serial,
    rfl,
    by decide +kernel⟩

theorem test_meets_TrailCommandsComplete_10 :
    ∃ (s : State) (pairId sender target : Nat),
      (pairId = s.pair.pairId) ∧
      (sender = Config.serial) ∧
      (target = s.pair.partner) ∧
      (s.pair.suspect = true) ∧
      (s.pair.meshMirror = true) ∧
      (inReset s islStripe = false) :=
    ⟨upPair State.reset (fun p => { p with suspect := true, meshMirror := true }),
    0,
    Config.serial,
    0,
    rfl,
    rfl,
    rfl,
    rfl,
    rfl,
    by decide +kernel⟩

theorem test_meets_TrailCommandsComplete_11 :
    ∃ (s u : State) (pairId sender target state : Nat),
      (pairId = s.pair.pairId) ∧
      (sender = Config.serial) ∧
      (target = s.pair.partner) ∧
      (s.pair.suspect = true) ∧
      (s.pair.meshMirror = false) ∧
      (s.pair.state = 2) ∧
      (s.pair.fenced = false) ∧
      (u = s.pair.out.foldl (fun s m => sendT s m.msg) (hearPartner (upPair (pairLog s 4 0xFF 0) (fun p => { p with meshMirror := true, out := [], state := 3 })))) ∧
      (inReset s islStripe = false) :=
    ⟨upPair State.reset (fun p => { p with suspect := true, state := 2 }),
    _,
    0,
    Config.serial,
    0,
    2,
    rfl,
    rfl,
    rfl,
    rfl,
    rfl,
    rfl,
    rfl,
    rfl,
    by decide +kernel⟩

theorem test_meets_TrailCommandsComplete_12 :
    ∃ (s : State) (pairId : Nat),
      ((s.pair.records.find? (fun r => r.1 == pairId)) = none) ∧
      (inReset s islStripe = false) :=
    ⟨State.reset,
    1,
    by decide +kernel⟩

theorem test_meets_TrailCommandsComplete_13 :
    ∃ (s : State) (pairId claimant holder : Nat),
      (s.pair.records.find? (fun r => r.1 == pairId) = some (pairId, holder)) ∧
      (holder ≠ claimant) ∧
      (inReset s islStripe = false) :=
    ⟨upPair State.reset (fun p => { p with records := [(1, 7)] }),
    1,
    2,
    7,
    by decide +kernel⟩

theorem test_meets_TrailCommandsComplete_14 :
    ∃ (s : State) (src pairId claimant number i : Nat) (c : ClaimState),
      (claimAnswer s src pairId claimant number = some (i, c)) ∧
      ((validWitnesses s).length < 2 * (linsert c.grants i).length) ∧
      (inReset s islStripe = false) :=
    ⟨claimS,
    3,
    0,
    Config.serial,
    1,
    0,
    { grants := [], refusals := [], number := 1, askedAt := 0 },
    claimS_answer,
    by decide +kernel⟩

theorem test_meets_TrailCommandsComplete_15 :
    ∃ (s : State) (src pairId claimant number i : Nat) (c : ClaimState),
      (claimAnswer s src pairId claimant number = some (i, c)) ∧
      ((validWitnesses s).length < 2 * (linsert c.refusals i).length) ∧
      (inReset s islStripe = false) :=
    ⟨claimS,
    3,
    0,
    Config.serial,
    1,
    0,
    { grants := [], refusals := [], number := 1, askedAt := 0 },
    claimS_answer,
    by decide +kernel⟩

theorem test_meets_TrailCommandsComplete_16 :
    ∃ (s : State) (src : Nat),
      (src = s.pair.partnerNode) ∧
      (s.pair.state ≠ 0) ∧
      (inReset s islTether = false) ∧
      (inReset s islStripe = false) :=
    ⟨upPair State.reset (fun p => { p with state := 2, partnerNode := 3 }),
    3,
    by decide +kernel⟩

theorem test_meets_TrailCommandsComplete_17 :
    ∃ (s : State) (src : Nat),
      (src = s.pair.partnerNode) ∧
      (s.pair.state ≠ 0) ∧
      (inReset s islTether = false) ∧
      (inReset s islStripe = false) :=
    ⟨upPair State.reset (fun p => { p with state := 2 }),
    0xFFFF,
    by decide +kernel⟩

theorem test_meets_StripeCommandsComplete_1 :
    ∃ (s : State) (group : Nat),
      (groupAt s group = none) ∧
      (inReset s islStripe = false) :=
    ⟨State.reset,
    7,
    by decide +kernel⟩

theorem test_meets_StripeCommandsComplete_2 :
    ∃ (s : State) (src group k m index : Nat) (g : Group),
      (groupAt s group = some g) ∧
      (g.state = 1) ∧
      (g.k = k) ∧
      (g.m = m) ∧
      (g.members[index]? = some src) ∧
      (index ≠ g.index) ∧
      (inReset s islStripe = false) :=
    ⟨grpS { grp1 with state := 1 },
    1,
    7,
    1,
    1,
    1,
    { grp1 with state := 1 },
    by decide +kernel⟩

theorem test_meets_StripeCommandsComplete_3 :
    ∃ (s : State) (group tag : Nat) (g : Group),
      (groupAt s group = some g) ∧
      (g.state = 1) ∧
      (g.tag = some tag) ∧
      (g.since + 10000 ≤ s.glb.lifetime) :=
    ⟨upGlb (grpS { grp1 with state := 1, tag := some 5 }) (fun g => { g with lifetime := 10000 }),
    7,
    5,
    { grp1 with state := 1, tag := some 5 },
    by decide +kernel⟩

theorem test_meets_StripeCommandsComplete_4 :
    ∃ (s u : State) (src group stripe d i : Nat) (g : Group) (x : Stripe),
      (allot (holdStripe s group stripe) group stripe = some u) ∧
      (groupAt s group = some g) ∧
      (memberIdx g src = some i) ∧
      (g.formed = true) ∧
      (posOf g stripe i = some d) ∧
      (primaryOf g stripe = some g.index) ∧
      ((stripeAt s group stripe).getD (newStripe group stripe) = x) ∧
      (x.isFixed = false) ∧
      (x.accepted.any (fun a => a.1 == d) = false) ∧
      (inReset s islStripe = false) :=
    ⟨grpS grp1,
    _,
    1,
    7,
    0,
    0,
    1,
    grp1,
    newStripe 7 0,
    rfl,
    by decide +kernel⟩

theorem test_meets_StripeCommandsComplete_5 :
    ∃ (s : State) (src group stripe : Nat) (g : Group) (o : OwnSeg),
      (groupAt s group = some g) ∧
      (ownIn s group stripe = some o) ∧
      (o.stage = 1) ∧
      ((memberIdx g src).isNone = false) ∧
      (inReset s islStripe = false) :=
    ⟨ownS { own1 with stage := 1 },
    1,
    7,
    1,
    grp1,
    { own1 with stage := 1 },
    by decide +kernel⟩

theorem test_meets_StripeCommandsComplete_6 :
    ∃ (s : State) (src group stripe : Nat) (g : Group) (o : OwnSeg),
      (groupAt s group = some g) ∧
      (ownIn s group stripe = some o) ∧
      (o.stage = 1) ∧
      ((memberIdx g src).isNone = false) ∧
      (inReset s islStripe = false) :=
    ⟨ownS { own1 with stage := 1 },
    1,
    7,
    1,
    grp1,
    { own1 with stage := 1 },
    by decide +kernel⟩

theorem test_meets_StripeCommandsComplete_7 :
    ∃ (s : State) (group stripe ms : Nat) (g : Group) (x : Stripe),
      (groupAt s group = some g) ∧
      (stripeAt s group stripe = some x) ∧
      (x.opened = some ms) ∧
      (x.openedAt + ms ≤ s.glb.lifetime) ∧
      (x.isFixed = false) ∧
      (primaryOf g stripe = some g.index) ∧
      (inReset s islStripe = false) :=
    ⟨upGlb (stripeS { newStripe 7 0 with opened := some 5 }) (fun g => { g with lifetime := 5 }),
    7,
    0,
    5,
    grp1,
    { newStripe 7 0 with opened := some 5 },
    by decide +kernel⟩

theorem test_meets_StripeCommandsComplete_8 :
    ∃ (x : Stripe),
      (x.record = none) :=
    ⟨newStripe 7 0,
    by decide⟩

theorem test_meets_StripeCommandsComplete_9 :
    ∃ (s u : State) (src group stripe p d j : Nat) (g : Group) (y : Stripe),
      (allot (holdStripe s group stripe) group stripe = some u) ∧
      (groupAt s group = some g) ∧
      (g.formed = true) ∧
      ((memberIdx g src).bind (posOf g stripe) = some d) ∧
      (rowOf g stripe g.index = some j) ∧
      (p < 256) ∧
      (stripeAt (holdStripe s group stripe) group stripe = some y) ∧
      ((y.record.map (fun r => bit r.zero d)).getD false = false) ∧
      (y.parity = none) ∧
      (y.released = false) ∧
      (y.got.contains (d, p) = false) ∧
      (inReset s islStripe = false) :=
    ⟨grpS grp1,
    _,
    1,
    7,
    0,
    0,
    0,
    0,
    grp1,
    newStripe 7 0,
    rfl,
    by decide +kernel⟩

theorem test_meets_StripeCommandsComplete_10 :
    ∃ (s : State) (src group stripe d : Nat) (row : Bool) (g : Group),
      (groupAt s group = some g) ∧
      ((memberIdx g src).isNone = false) ∧
      (g.formed = true) ∧
      (unitOfMember g stripe g.index = some (d, row)) ∧
      (inReset s islStripe = false) :=
    ⟨grpS grp1,
    1,
    7,
    0,
    0,
    true,
    grp1,
    by decide +kernel⟩

theorem test_meets_StripeCommandsComplete_11 :
      ∃ (s u : State) (g : Group) (x : Stripe) (r : StripeRec) (place : Nat × Nat), groupAt s 7 = some g ∧ stripeAt s 7 0 = some x ∧ x.record = some r ∧
        rowOf g 0 g.index = some 0 ∧ x.parity = none ∧ x.released = false ∧ x.full r = true ∧ putParity s r (fun p => mgetD x.acc p Coded.zero) = some (place, u) := by
    have w : wholeSegBand parityS .parity = some (0, parityS) := rfl
    obtain ⟨y, hy⟩ : ∃ y, putParity parityS rec0 (fun p => mgetD [] p Coded.zero) = some y := ⟨_, by unfold putParity; rw [w]; rfl⟩
    exact ⟨parityS, y.2, grp1, { newStripe 7 0 with record := some rec0 }, rec0, y.1, by decide, by decide, by decide, by decide +kernel, by decide, by decide, by decide +kernel, hy⟩

theorem test_meets_StripeCommandsComplete_12 :
    ∃ (s : State) (src group stripe j : Nat) (g : Group) (o : OwnSeg),
      (groupAt s group = some g) ∧
      ((memberIdx g src).bind (rowOf g stripe) = some j) ∧
      (ownIn s group stripe = some o) ∧
      (o.stage = 2) ∧
      (inReset s islStripe = false) :=
    ⟨ownS own1,
    1,
    7,
    1,
    0,
    grp1,
    own1,
    by decide +kernel⟩

theorem test_meets_StripeCommandsComplete_13 :
    ∃ (s : State) (src group : Nat) (l : List (Nat × Nat)) (g : Group),
      (groupAt s group = some g) ∧
      (l.all (fun x => (memberIdx g src).bind (posOf g x.1) == some x.2) = true) ∧
      (jRoom s 1 = true) ∧
      (inReset s islStripe = false) :=
    ⟨grpS grp1,
    1,
    7,
    [(0, 0)],
    grp1,
    by decide +kernel⟩

theorem test_meets_StripeCommandsComplete_14 :
    ∃ (s : State) (n : Nat) (g : Group),
      (s.mesh.groups = [(n, g)]) ∧
      ((newlyDead s g.id).isEmpty = false) ∧
      (s.mesh.gossipAt + 100 ≤ s.glb.lifetime) ∧
      (inReset s islStripe = false) :=
    ⟨upGlb (ownS own1) (fun g => { g with lifetime := 100 }),
    0,
    grp1,
    by decide +kernel⟩

theorem test_meets_StripeCommandsComplete_15 :
    ∃ (s : State) (src group : Nat) (g : Group),
      (groupAt s group = some g) ∧
      ((memberIdx g src).isNone = false) ∧
      (jRoom s 1 = true) ∧
      (inReset s islStripe = false) :=
    ⟨grpS grp1,
    1,
    7,
    grp1,
    by decide +kernel⟩

theorem test_meets_StripeCommandsComplete_16 :
    ∃ (s : State) (src group stripe j : Nat) (g : Group) (o : OwnSeg),
      (groupAt s group = some g) ∧
      (ownIn s group stripe = some o) ∧
      ((memberIdx g src).bind (rowOf g stripe) = some j) ∧
      (2 ≤ o.stage) ∧
      (inReset s islStripe = false) :=
    ⟨ownS own1,
    1,
    7,
    1,
    0,
    grp1,
    own1,
    by decide +kernel⟩

theorem test_meets_LookupAndRebuildCommandsComplete_1 :
    ∃ (s : State) (group member band seg : Nat) (g : Group),
      (groupAt s group = some g) ∧
      (s.mesh.indexReady = true) ∧
      (band ≠ 0xFFFFFFFF) ∧
      (((indexRecs s group).filter (fun r => (unitOf s r member band seg).isSome)).isEmpty = false) ∧
      (inReset s islStripe = false) :=
    ⟨locateS,
    7,
    1,
    3,
    0,
    grp1,
    by decide +kernel⟩

theorem test_meets_LookupAndRebuildCommandsComplete_2 :
    ∃ (s u : State) (request : Nat) (l : List StripeRec) (r : Recon) (q : StripeRec),
      (u.mesh.recons.find? (fun r => r.request == request) = some r) ∧
      (r.record = none) ∧
      (u = upMesh s (fun m => { m with cache := l.filter (fun r => !m.cache.any (fun q => q.group == r.group && q.stripe == r.stripe)) ++ m.cache })) ∧
      (u.mesh.rebuild = none) ∧
      (u.mesh.lookups = []) ∧
      (l.find? (fun q => (unitOf u q r.node r.band r.seg).isSome) = some q) ∧
      (inReset s islStripe = false) :=
    ⟨upMesh (grpS grp1) (fun m => { m with recons := [{ recon1 with record := none }] }),
    _,
    9,
    [rec1],
    { recon1 with record := none },
    rec1,
    rfl,
    rfl,
    rfl,
    by decide +kernel⟩

theorem test_meets_LookupAndRebuildCommandsComplete_3 :
    ∃ (s : State) (group stripe d : Nat) (row : Bool),
      ((groupAt s group).isNone = false) ∧
      (unitPlace s group stripe (d, row) = none) ∧
      (inReset s islStripe = false) :=
    ⟨grpS grp1,
    7,
    0,
    0,
    true,
    by decide +kernel⟩

theorem test_meets_LookupAndRebuildCommandsComplete_4 :
    ∃ (s : State) (src request p d : Nat) (row : Bool) (x : Coded) (r : Recon) (rc : StripeRec) (g : Group),
      (s.mesh.recons.find? (fun r => r.request == request) = some r) ∧
      (r.record = some rc) ∧
      (r.p = p) ∧
      (groupAt s rc.group = some g) ∧
      (unitNode g rc.stripe (d, row) = src) ∧
      (r.waits.contains (d, row) = true) ∧
      (x.data.isEmpty = false) ∧
      (inReset s islStripe = false) :=
    ⟨reconS,
    1,
    9,
    0,
    0,
    false,
    { data := [1], desc := [] },
    recon1,
    rec1,
    grp1,
    rfl,
    rfl,
    rfl,
    by decide +kernel⟩

theorem test_meets_LookupAndRebuildCommandsComplete_5 :
    ∃ (s : State) (src group stripe i t1 d : Nat) (t2 row : Bool) (chain : List (Nat × Nat)) (g : Group),
      (groupAt s group = some g) ∧
      (chain.findIdx? (fun x => x.1 == s.mesh.node) = some i) ∧
      (i ≠ 0) ∧
      (unitOfMember g stripe g.index = some (d, row)) ∧
      ((memberIdx g src).bind (unitOfMember g stripe) = some (t1, t2)) ∧
      (unitPlace s group stripe (d, row) = none) ∧
      (inReset s islStripe = false) :=
    ⟨grpS grp1,
    1,
    7,
    0,
    1,
    0,
    0,
    false,
    true,
    [(5, 1), (0, 2)],
    grp1,
    by decide +kernel⟩

theorem test_meets_LookupAndRebuildCommandsComplete_6 :
    ∃ (s : State) (src group stripe p : Nat) (g : Group) (c : Chain),
      (groupAt s group = some g) ∧
      ((memberIdx g src).isNone = false) ∧
      (p < 256) ∧
      (s.mesh.rebuild = none) ∧
      (s.mesh.chains.find? (fun c => c.group == group && c.stripe == stripe) = some c) ∧
      (inReset s islStripe = false) :=
    ⟨upMesh (grpS grp1) (fun m => { m with chains := [chain1] }),
    1,
    7,
    0,
    0,
    grp1,
    chain1,
    by decide +kernel⟩

theorem test_meets_LookupAndRebuildCommandsComplete_7 :
    ∃ (s : State) (group index : Nat) (g : Group),
      (groupAt s group = some g) ∧
      (index ≠ g.index) ∧
      (index < g.k + g.m) ∧
      (inReset s islStripe = false) :=
    ⟨grpS grp1,
    7,
    1,
    grp1,
    by decide +kernel⟩

theorem test_meets_LookupAndRebuildCommandsComplete_8 :
    ∃ (s : State) (group index : Nat) (g : Group),
      (groupAt s group = some g) ∧
      (g.formed = true) ∧
      (index ≠ g.index) ∧
      (index < g.k + g.m) ∧
      (g.lost.contains index = false) ∧
      (inReset s islStripe = false) :=
    ⟨grpS grp1,
    7,
    1,
    grp1,
    by decide +kernel⟩

theorem test_meets_LookupAndRebuildCommandsComplete_9 :
    ∃ (s u : State) (group index : Nat) (g : Group),
      (u = groupLog (raise (modGroup s group (fun g => { g with lost := linsert g.lost index, state := if g.state = 2 then 3 else g.state })) (unit islStripe 3)) group 12 index) ∧
      (groupAt u group = some g) ∧
      (u.mesh.stripes = []) ∧
      (u.mesh.own = []) ∧
      (u.mesh.recons = []) ∧
      (u.mesh.rebuild = none) :=
    ⟨grpS grp1,
    _,
    7,
    1,
    _,
    rfl,
    rfl,
    rfl,
    rfl,
    rfl,
    rfl⟩

theorem test_meets_LookupAndRebuildCommandsComplete_10 :
    ∃ (s : State),
      (s.glb.ready = true) ∧
      (s.mesh.indexReady = false) ∧
      (inReset s islStripe = false) :=
    ⟨barS,
    by decide +kernel⟩

theorem test_meets_PowerTransitionsComplete_1 :
    ∃ (s : State),
      (bit (feature s 8) 0 = true) ∧
      (idleFor s (s.pwr.glideFrom + 2) = true) ∧
      (s.pwr.trans = none) ∧
      (s.pwr.queued = none) ∧
      (s.pwr.waitIdle = none) ∧
      (s.glb.ready = true) ∧
      (s.pwr.state < 1) ∧
      (refuser s 1 = none) :=
    ⟨upPwr idleS (fun p => { p with idleMs := 600 }),
    by decide +kernel⟩

theorem test_meets_PowerTransitionsComplete_2 :
    ∃ (s : State) (c : Nat),
      (bit (feature s 8) 0 = true) ∧
      (idleFor s (s.pwr.glideFrom + 2) = true) ∧
      (s.pwr.trans = none) ∧
      (s.pwr.queued = none) ∧
      (s.pwr.waitIdle = none) ∧
      (s.glb.ready = true) ∧
      (s.pwr.state < 1) ∧
      (refuser s 1 = some c) :=
    ⟨upPwr hotS (fun p => { p with idleMs := 600 }),
    6,
    by decide +kernel⟩

theorem test_meets_PowerTransitionsComplete_3 :
    ∃ (s : State),
      (bit (feature s 8) 1 = true) ∧
      (idleFor s (s.pwr.mooredFrom + 500) = true) ∧
      (s.pwr.trans = none) ∧
      (s.pwr.queued = none) ∧
      (s.pwr.waitIdle = none) ∧
      (s.glb.ready = true) ∧
      (s.pwr.state < 2) ∧
      (refuser s 2 = none) :=
    ⟨upPwr idleS (fun p => { p with idleMs := 600 }),
    by decide +kernel⟩

theorem test_meets_PowerTransitionsComplete_4 :
    ∃ (s : State) (c : Nat),
      (bit (feature s 8) 1 = true) ∧
      (idleFor s (s.pwr.mooredFrom + 500) = true) ∧
      (s.pwr.trans = none) ∧
      (s.pwr.queued = none) ∧
      (s.pwr.waitIdle = none) ∧
      (s.glb.ready = true) ∧
      (s.pwr.state < 2) ∧
      (refuser s 2 = some c) :=
    ⟨upPwr hotS (fun p => { p with idleMs := 600 }),
    6,
    by decide +kernel⟩

theorem test_meets_PowerTransitionsComplete_5 :
    ∃ (s : State) (r : PowerReq) (c : Nat),
      (refuser s r.target = some c) :=
    ⟨hotS,
    { tag := none, target := 2, source := 0 },
    6,
    by decide⟩

theorem test_meets_PowerTransitionsComplete_6 :
    ∃ (s u : State) (t : Transition),
      (u = entryPhase s t.req.target (t.phase + 1)) ∧
      (s.pwr.trans = some t) ∧
      (t.origin ≠ 3) ∧
      (t.exit = false) ∧
      (t.abort = none) ∧
      (refuser u t.req.target = none) ∧
      (t.phase + 1 ≠ (if t.req.target = 3 then 3 else phasesOf t.req.target)) :=
    ⟨transS trG,
    _,
    trG,
    rfl,
    by decide +kernel⟩

theorem test_meets_PowerTransitionsComplete_7 :
    ∃ (s : State) (t : Transition),
      (s.pwr.trans = some t) ∧
      (t.origin ≠ 3) ∧
      (t.exit = false) ∧
      (t.abort = none) ∧
      (t.phase + 1 = (if t.req.target = 3 then 3 else phasesOf t.req.target)) :=
    ⟨transS { trG with phase := 3 },
    { trG with phase := 3 },
    by decide +kernel⟩

theorem test_meets_PowerTransitionsComplete_8 :
    ∃ (s : State) (t : Transition) (c : Nat),
      (s.pwr.trans = some t) ∧
      (t.origin ≠ 3) ∧
      (t.exit = false) ∧
      (t.req.target ≠ 3) ∧
      (t.abort = some c) :=
    ⟨transS { trG with abort := some 0 },
    { trG with abort := some 0 },
    0,
    by decide +kernel⟩

theorem test_meets_PowerTransitionsComplete_9 :
    ∃ (s u : State) (t : Transition) (c : Nat),
      (u = entryPhase s t.req.target (t.phase + 1)) ∧
      (s.pwr.trans = some t) ∧
      (t.origin ≠ 3) ∧
      (t.exit = false) ∧
      (t.req.target ≠ 3) ∧
      (t.abort = none) ∧
      (t.phase + 1 ≠ phasesOf t.req.target) ∧
      (refuser u t.req.target = some c) :=
    ⟨upGlb (transS trG) (fun g => { g with junction := 100 }),
    _,
    trG,
    6,
    rfl,
    by decide +kernel⟩

theorem test_meets_PowerTransitionsComplete_10 :
    ∃ (s u : State) (t : Transition) (c : Nat),
      (u = entryPhase s 3 (t.phase + 1)) ∧
      (s.pwr.trans = some t) ∧
      (t.origin ≠ 3) ∧
      (t.exit = false) ∧
      (t.req.target = 3) ∧
      (t.abort = none) ∧
      (t.phase + 1 ≠ 3) ∧
      (refuser u 3 = some c) :=
    ⟨upGlb (transS { trG with req := { tag := none, target := 3, source := 1 }, origin := 2 }) (fun g => { g with junction := 100 }),
    _,
    { trG with req := { tag := none, target := 3, source := 1 }, origin := 2 },
    6,
    rfl,
    by decide +kernel⟩

theorem test_meets_PowerTransitionsComplete_11 :
    ∃ (s : State) (t : Transition),
      (s.pwr.trans = some t) ∧
      (t.origin ≠ 3) ∧
      (t.exit = true) ∧
      (t.req.target ≠ 3) ∧
      (t.abort = none) ∧
      (phasesOf t.req.target < t.phase - 1) :=
    ⟨transS trx,
    trx,
    by decide +kernel⟩

theorem test_meets_PowerTransitionsComplete_12 :
    ∃ (s : State) (t : Transition),
      (s.pwr.trans = some t) ∧
      (t.origin ≠ 3) ∧
      (t.exit = true) ∧
      (t.req.target ≠ 3) ∧
      (t.abort = none) ∧
      (t.phase - 1 ≤ phasesOf t.req.target) :=
    ⟨transS { trx with phase := 1 },
    { trx with phase := 1 },
    by decide +kernel⟩

theorem test_meets_PowerTransitionsComplete_13 :
    ∃ (s : State) (t : Transition) (c : Nat),
      (s.pwr.trans = some t) ∧
      (t.origin ≠ 3) ∧
      (t.exit = true) ∧
      (t.req.target ≠ 3) ∧
      (t.abort = some c) ∧
      (t.phase - 1 = 0) :=
    ⟨transS { trx with phase := 1, abort := some 0 },
    { trx with phase := 1, abort := some 0 },
    0,
    by decide +kernel⟩

theorem test_meets_PowerTransitionsComplete_14 :
    ∃ (s : State) (t : Transition),
      (s.pwr.trans = some t) ∧
      (t.origin = 3 ∨ (t.exit = true ∧ t.req.target = 3)) ∧
      (t.phase = 0) :=
    ⟨transS { trx with origin := 3, phase := 0 },
    { trx with origin := 3, phase := 0 },
    by decide +kernel⟩

theorem test_meets_PowerTransitionsComplete_15 :
    ∃ (s : State) (t : Transition),
      (s.pwr.trans = some t) ∧
      (t.origin = 3 ∨ (t.exit = true ∧ t.req.target = 3)) ∧
      (t.phase = 4) :=
    ⟨transS { trx with origin := 3, phase := 4 },
    { trx with origin := 3, phase := 4 },
    by decide +kernel⟩

theorem test_meets_PowerTransitionsComplete_16 :
    ∃ (s : State) (t : Transition),
      (s.pwr.trans = some t) ∧
      (t.origin = 3 ∨ (t.exit = true ∧ t.req.target = 3)) ∧
      (t.phase = 2) :=
    ⟨transS { trx with origin := 3, phase := 2 },
    { trx with origin := 3, phase := 2 },
    by decide +kernel⟩

theorem test_meets_PowerTransitionsComplete_17 :
    ∃ (s : State) (t : Transition) (ok : Bool),
      (s.pwr.trans = some t) ∧
      (t.origin = 3 ∨ (t.exit = true ∧ t.req.target = 3)) ∧
      (t.phase = 1 ∨ (t.phase = 2 ∧ ok = true) ∨ t.phase = 3) :=
    ⟨transS { trx with origin := 3, phase := 1 },
    { trx with origin := 3, phase := 1 },
    true,
    by decide +kernel⟩

theorem test_meets_PowerTransitionsComplete_18 :
    ∃ (s : State) (r : PowerReq),
      (s.pwr.waitIdle = some r) ∧
      (deviceIdle s = false) ∧
      (s.pwr.waitFrom + 10 ≤ s.glb.lifetime) :=
    ⟨upGlb (upPwr (run op0) (fun p => { p with waitIdle := some glideReq })) (fun g => { g with lifetime := 10 }),
    glideReq,
    by decide +kernel⟩

theorem test_meets_PowerTransitionsComplete_19 :
    ∃ (s : State),
      (s.hst.mode ≠ 0) ∧
      (s.pwr.linkPm ≠ 2) ∧
      (s.pwr.armed = false) :=
    ⟨up,
    by decide +kernel⟩

theorem test_meets_PowerTransitionsComplete_20 :
    ∃ (s : State),
      (s.hst.mode ≠ 0) ∧
      (s.pwr.linkPm ≠ 2) ∧
      (s.pwr.armed = true) ∧
      (s.pwr.state = 2) ∧
      (s.pwr.trans = none) :=
    ⟨upPwr up (fun p => { p with armed := true, state := 2 }),
    by decide +kernel⟩

theorem test_meets_PowerTransitionsComplete_21 :
    ∃ (s : State),
      (s.pwr.armed = true) ∧
      (s.pwr.linkPm ≠ 2) ∧
      (s.pwr.armedAt + 10000 ≤ s.glb.lifetime) :=
    ⟨upGlb (upPwr up (fun p => { p with armed := true })) (fun g => { g with lifetime := 10000 }),
    by decide +kernel⟩

theorem test_meets_WakesAndPinsComplete_1 :
    ∃ (s : State),
      (s.pwr.state = 2) ∧
      (s.pwr.trans = none) ∧
      (s.pwr.linkPm = 1) :=
    ⟨upPwr up (fun p => { p with state := 2, linkPm := 1 }),
    by decide +kernel⟩

theorem test_meets_WakesAndPinsComplete_2 :
    ∃ (s : State) (k : Nat),
      (s.pwr.state = 2) ∧
      (s.pwr.trans = none) ∧
      (k = 1 ∨ (k = 3 ∧ retrainOpen s = true)) :=
    ⟨upPwr up (fun p => { p with state := 2, linkPm := 1 }),
    1,
    by decide +kernel⟩

theorem test_meets_WakesAndPinsComplete_3 :
    ∃ (s : State),
      (s.pwr.state = 2) ∧
      (s.pwr.trans = none) ∧
      (s.med.bands.any (fun b => b.2.deadline != 0 && decide (b.2.deadline ≤ s.glb.lifetime)) = true) :=
    ⟨upGlb (upMed (upPwr up (fun p => { p with state := 2, linkPm := 1 })) (fun m => { m with bands := [(0, { band0 .closed .hot with deadline := 5 })] })) (fun g => { g with lifetime := 9 }),
    by decide +kernel⟩

theorem test_meets_WakesAndPinsComplete_4 :
    ∃ (s : State),
      (s.pwr.trans = none) ∧
      (s.pwr.state = 1 ∨ s.pwr.state = 2) :=
    ⟨upPwr up (fun p => { p with state := 2 }),
    by decide +kernel⟩

theorem test_meets_WakesAndPinsComplete_5 :
    ∃ (s : State),
      (s.pwr.wakeN = true) ∧
      (s.pwr.state = 3) ∧
      (s.pwr.trans = none) ∧
      (s.pwr.wakeDriven = false) ∧
      (s.pwr.wakeIgnored = false) :=
    ⟨upPwr up (fun p => { p with state := 3, wakeN := true }),
    by decide +kernel⟩

theorem test_meets_WakesAndPinsComplete_6 :
    ∃ (s : State),
      (s.pwr.wakeN = true) ∧
      (s.pwr.state ≠ 3) :=
    ⟨upPwr up (fun p => { p with wakeN := true }),
    by decide +kernel⟩

theorem test_meets_WakesAndPinsComplete_7 :
    ∃ (s : State),
      (s.pwr.state ≠ 3) ∧
      (s.pwr.wakeN = false) ∧
      (s.pwr.wakeDriven = false) ∧
      (s.pwr.wakeIgnored = false) ∧
      (s.pwr.wakeAt + 100 < s.glb.lifetime) :=
    ⟨upGlb (upPwr up (fun p => { p with wakeN := false })) (fun g => { g with lifetime := 101 }),
    by decide +kernel⟩

theorem test_meets_WakesAndPinsComplete_8 :
    ∃ (s : State),
      (s.pwr.wakeN = false) :=
    ⟨upPwr up (fun p => { p with wakeN := false }),
    by decide⟩

theorem test_meets_WakesAndPinsComplete_9 :
    ∃ (s : State),
      (s.pwr.lowPower = false) ∧
      (s.pwr.trans = none) :=
    ⟨up,
    by decide +kernel⟩

theorem test_meets_WakesAndPinsComplete_10 :
    ∃ (s u : State),
      (u = raise (upPwr s (fun p => { p with lowPower := false, evBrownout := true, brownouts := satInc p.brownouts, lifeBrownouts := p.lifeBrownouts + 1 })) srcBrownout) ∧
      (s.pwr.lowPower = true) ∧
      (u.pwr.trans = none) :=
    ⟨upPwr up (fun p => { p with state := 3, lowPower := true }),
    _,
    rfl,
    by decide +kernel⟩

theorem test_meets_WakesAndPinsComplete_13 :
    ∃ (s : State),
      (s.pwr.state = 2) :=
    ⟨upPwr up (fun p => { p with state := 2, linkPm := 1 }),
    by decide⟩

theorem test_meets_WakesAndPinsComplete_14 :
    ∃ (s u : State),
      (u = tapFollow (upPwr (upGlb (dropQueues (hostDown s)) (fun g => { g with configReady := false })) (fun p => { p with perstN := false, wakeDriven := false, exitPerst := true, linkPm := 0 }))) ∧
      (s.pwr.state = 3) ∧
      (s.pwr.perstN = true) ∧
      (s.pwr.trans = none) ∧
      (u.pwr.state = 3) ∧
      (u.pwr.trans = none) :=
    ⟨upPwr up (fun p => { p with state := 3, perstN := true }),
    _,
    rfl,
    by decide +kernel⟩

theorem test_meets_WakesAndPinsComplete_16 :
    ∃ (s : State),
      (s.pwr.pwrFailN = false) ∧
      (s.glb.poweredOn = true) :=
    ⟨upPwr (upGlb up (fun g => { g with poweredOn := true })) (fun p => { p with pwrFailN := false }),
    by decide +kernel⟩

theorem test_meets_WakesAndPinsComplete_17 :
    ∃ (s : State) (role : Nat),
      (s.hst.mode ≠ 0) ∧
      (s.glb.configReady = true) ∧
      (s.sec.errorState = false) ∧
      (s.pwr.linkPm ≠ 2) ∧
      (1 ≤ role) ∧
      (role ≤ 3) :=
    ⟨upGlb up (fun g => { g with configReady := true }),
    1,
    by decide +kernel⟩

theorem test_meets_WakesAndPinsComplete_18 :
    ∃ (s : State),
      (s.hst.mode ≠ 0) ∧
      (s.glb.configReady = true) ∧
      (s.sec.errorState = false) ∧
      (s.pwr.linkPm ≠ 2) :=
    ⟨upGlb up (fun g => { g with configReady := true }),
    by decide +kernel⟩

theorem test_meets_WakesAndPinsComplete_19 :
    ∃ (s : State),
      (s.hst.mode ≠ 0) ∧
      (s.glb.configReady = true) ∧
      (s.sec.errorState = false) ∧
      (s.pwr.linkPm ≠ 2) ∧
      (s.hst.session ≠ 0) :=
    ⟨upHst (upGlb up (fun g => { g with configReady := true })) (fun h => { h with session := 1 }),
    by decide +kernel⟩

theorem test_meets_FaultCommandsComplete_1 :
    ∃ (s : State) (src : Nat) (level : Option Nat),
      (srcImplemented src = true) ∧
      (s.glb.poweredOn = true) ∧
      (level.getD 0 ≤ 4) :=
    ⟨pwS,
    9,
    none,
    by decide +kernel⟩

theorem test_meets_FaultCommandsComplete_2 :
    ∃ (s : State) (f : PendingFault) (rest : List PendingFault),
      (s.flt.queue = f :: rest) ∧
      (s.med.dumpActive = false) :=
    ⟨upFlt pwS (fun f => { f with queue := [fault1] }),
    fault1,
    [],
    by decide +kernel⟩

theorem test_meets_FaultCommandsComplete_3 :
    ∃ (s : State),
      (s.flt.unack.isEmpty = false) ∧
      (s.flt.remain = 0) ∧
      (s.flt.halted = false) ∧
      (s.flt.failover = false) :=
    ⟨upFlt pwS (fun f => { f with unack := [(1, 1)] }),
    by decide +kernel⟩

theorem test_meets_FaultCommandsComplete_4 :
    ∃ (s : State) (i : Nat),
      (s.flt.containing.contains i = true) ∧
      (i ≠ islHost) ∧
      (i < 8 ∨ 13 < i) :=
    ⟨upFlt pwS (fun f => { f with containing := [20] }),
    20,
    by decide +kernel⟩

theorem test_meets_FaultCommandsComplete_5 :
    ∃ (s : State),
      (s.flt.containing.contains islHost = true) :=
    ⟨upFlt pwS (fun f => { f with containing := [islHost] }),
    by decide⟩

theorem test_meets_FaultCommandsComplete_6 :
    ∃ (s : State) (i : Nat) (u : State),
      (u = upFlt s (fun f => { f with containing := f.containing.filter (· != i), windows := linsert f.windows i })) ∧
      (s.flt.containing.contains i = true) ∧
      (8 ≤ i) ∧
      (i ≤ 13) ∧
      (i ≠ islHost) ∧
      ((portAt u (i - 8)).enabled = true) ∧
      ((portAt u (i - 8)).failed = false) ∧
      ((portAt u (i - 8)).neighbour.isSome = true) :=
    ⟨upFlt portS (fun f => { f with containing := [8] }),
    8,
    _,
    rfl,
    by decide +kernel⟩

theorem test_meets_HealthCommandsComplete_1 :
    ∃ (s u : State) (i slack : Nat),
      (u = modIsland s i (fun m => { m with slack := slack })) ∧
      (i < 45) ∧
      (slack < 2) ∧
      (s.hlt.slice ≠ some i) ∧
      (s.pwr.state ≠ 3) ∧
      (nextAction u i = some (.volt, false)) :=
    ⟨upHlt idleS (fun h => { h with vmax := 900 }),
    _,
    2,
    1,
    rfl,
    by decide +kernel⟩

theorem test_meets_HealthCommandsComplete_2 :
    ∃ (s u : State) (i slack : Nat),
      (u = modIsland s i (fun m => { m with slack := slack })) ∧
      (i < 45) ∧
      (slack < 2) ∧
      (s.hlt.slice ≠ some i) ∧
      (s.pwr.state ≠ 3) ∧
      (nextAction u i = some (.clock, false)) :=
    ⟨upHlt idleS (fun h => { h with vmax := 0, floor := 0 }),
    _,
    2,
    1,
    rfl,
    by decide +kernel⟩

theorem test_meets_HealthCommandsComplete_3 :
    ∃ (s u : State) (i slack : Nat),
      (u = modIsland s i (fun m => { m with slack := slack })) ∧
      (i < 45) ∧
      (slack < 2) ∧
      (s.hlt.slice ≠ some i) ∧
      (s.pwr.state ≠ 3) ∧
      (nextAction u i = some (.volt, true)) :=
    ⟨upHlt (modIsland idleS 2 (fun m => { m with vNow := 700 })) (fun h => { h with vmax := 0, floor := 200 }),
    _,
    2,
    1,
    rfl,
    by decide +kernel⟩

theorem test_meets_HealthCommandsComplete_4 :
    ∃ (s u : State) (i slack : Nat),
      (u = modIsland s i (fun m => { m with slack := slack })) ∧
      (i < 45) ∧
      (slack < 2) ∧
      (s.hlt.slice ≠ some i) ∧
      (s.pwr.state ≠ 3) ∧
      (nextAction u i = some (.clock, true)) :=
    ⟨upHlt idleS (fun h => { h with vmax := 0, floor := 200, avsTries := 3 }),
    _,
    2,
    1,
    rfl,
    by decide +kernel⟩

theorem test_meets_HealthCommandsComplete_5 :
    ∃ (s : State) (i slack : Nat),
      (i < 45) ∧
      (slack ≤ 8) ∧
      (s.hlt.slackTarget + 2 ≤ slack) ∧
      (s.hlt.slice ≠ some i) ∧
      (s.pwr.state ≠ 3) ∧
      ((margin s i).actedAt + 100 ≤ s.glb.lifetime) ∧
      (avsStuck s = false) :=
    ⟨upGlb (upHlt idleS (fun h => { h with slackTarget := 3 })) (fun g => { g with lifetime := 100 }),
    2,
    8,
    by decide +kernel⟩

theorem test_meets_HealthCommandsComplete_6 :
    ∃ (s : State) (i : Nat),
      ((margin s i).measuredAt + 3600000 ≤ s.glb.lifetime) :=
    ⟨upGlb idleS (fun g => { g with lifetime := 3600000 }),
    2,
    by decide +kernel⟩

theorem test_meets_HealthCommandsComplete_7 :
    ∃ (s : State) (l : List Int) (top : Int) (acts : Bool),
      (top = l.foldl max (l.headD 0)) ∧
      (acts = (decide (1000 ≤ top) || (s.hlt.throttling && decide (980 ≤ top)))) ∧
      (l.length = 45) :=
    ⟨idleS,
    List.replicate 45 300,
    _,
    _,
    rfl,
    rfl,
    by decide⟩

theorem test_meets_HealthCommandsComplete_8 :
    ∃ (s u : State) (l : List Int) (top : Int),
      (top = l.foldl max (l.headD 0)) ∧
      (u = upHlt (upGlb (upHlt s (fun h => { h with islands := (h.islands.zip l).map (fun x => { x.1 with temperature := x.2 }) })) (fun g => { g with junction := top / 10 })) (fun h => { h with throttling := true })) ∧
      (l.length = 45) ∧
      (1000 ≤ top) ∧
      (top < 1150) ∧
      (s.hlt.throttling = false) :=
    ⟨idleS,
    _,
    List.replicate 45 1000,
    _,
    rfl,
    rfl,
    by decide +kernel⟩

theorem test_meets_HealthCommandsComplete_9 :
    ∃ (s : State),
      (s.hlt.avsTries ≠ 2) :=
    ⟨idleS,
    by decide⟩

theorem test_meets_HealthCommandsComplete_10 :
    ∃ (s : State),
      (s.hlt.avsTries = 2) :=
    ⟨upHlt idleS (fun h => { h with avsTries := 2 }),
    by decide⟩

theorem test_meets_HealthCommandsComplete_11 :
    ∃ (s u : State) (i : Nat),
      (u = startPlan s) ∧
      (i < 45) ∧
      (s.hlt.throttling = false) ∧
      (s.hlt.planRunning = false) ∧
      (planDue s = true) ∧
      (u.hlt.measuring = false) ∧
      (sliceFree u i = true) :=
    ⟨upHlt idleS (fun h => { h with coldDue := true }),
    _,
    20,
    rfl,
    by decide +kernel⟩

theorem test_meets_HealthCommandsComplete_12 :
    ∃ (s u : State) (i : Nat),
      (u = s) ∧
      (i < 45) ∧
      (s.hlt.throttling = false) ∧
      (s.hlt.planRunning = true) ∧
      (u.hlt.measuring = false) ∧
      (sliceFree u i = true) :=
    ⟨startPlan idleS,
    _,
    20,
    rfl,
    by decide +kernel⟩

theorem test_meets_HealthCommandsComplete_13 :
    ∃ (s : State) (i : Nat),
      (i < 45) ∧
      (s.hlt.throttling = false) ∧
      (s.hlt.planRunning = true) ∧
      (s.hlt.measuring = true) ∧
      (s.hlt.slice = some i) :=
    ⟨upHlt (startPlan idleS) (fun h => { h with measuring := true, slice := some 20 }),
    20,
    by decide +kernel⟩

theorem test_meets_HealthCommandsComplete_14 :
    ∃ (s : State),
      (s.hlt.planRunning = true) ∧
      (s.flt.faultN = false) ∧
      (s.hlt.planStart + 7200000 ≤ s.glb.lifetime) :=
    ⟨upGlb (upHlt idleS (fun h => { h with planRunning := true })) (fun g => { g with lifetime := 7200000 }),
    by decide +kernel⟩

theorem test_meets_HealthCommandsComplete_15 :
    ∃ (s : State) (i : Nat),
      (2 ≤ i) ∧
      (i < 45) ∧
      (s.hlt.paused = false) ∧
      (sliceFree s i = true) :=
    ⟨idleS,
    20,
    by decide +kernel⟩

theorem test_meets_HealthCommandsComplete_16 :
    ∃ (s : State) (i : Nat),
      (s.hlt.slice = some i) :=
    ⟨upHlt idleS (fun h => { h with slice := some 20 }),
    20,
    by decide⟩

theorem test_meets_HealthCommandsComplete_17 :
    ∃ (s : State) (i : Nat),
      (s.hlt.slice = some i) ∧
      (s.hlt.measuring = false) :=
    ⟨upHlt idleS (fun h => { h with slice := some 20 }),
    20,
    by decide +kernel⟩

theorem test_meets_HealthCommandsComplete_18 :
    ∃ (s : State) (i : Nat),
      (s.hlt.slice = some i) ∧
      (s.hlt.measuring = false) :=
    ⟨upHlt idleS (fun h => { h with slice := some 20 }),
    20,
    by decide +kernel⟩

theorem test_meets_HealthCommandsComplete_19 :
    ∃ (s : State) (i : Nat),
      (2 ≤ i) ∧
      (i < 45) ∧
      (s.hlt.forced = false) ∧
      (144 ≤ (margin s i).coverAge) :=
    ⟨modIsland idleS 20 (fun m => { m with coverAge := 150 }),
    20,
    by decide +kernel⟩

theorem test_meets_HealthCommandsComplete_20 :
    ∃ (s u : State) (i : Nat),
      (u = needSet s i) ∧
      (s.hlt.testRun = none) ∧
      (s.hlt.forced = true) ∧
      (s.hlt.forcedIsland = i) ∧
      (s.hlt.forcedAt ≤ s.glb.lifetime) ∧
      (s.hlt.forcedWindows = 0 ∨ s.hlt.lastForced + 100 ≤ s.glb.lifetime) ∧
      (s.hlt.slice = none) ∧
      (s.pwr.state < 2) ∧
      (s.pwr.trans = none) ∧
      (s.med.dumpActive = false) ∧
      (inReset s i = false) ∧
      (u.hlt.testRun = none) ∧
      (u.hlt.forced = true) ∧
      (u.hlt.forcedIsland = i) :=
    ⟨dueS,
    _,
    20,
    rfl,
    by decide +kernel⟩

theorem test_meets_FootpathCommandsComplete_1 :
    ∃ (s : State) (b : List Byte) (crc : Nat),
      (crc = fpCrc 1 b) ∧
      (fpListens s = true) ∧
      (s.glb.fpLock = false) ∧
      (b.length = 64) ∧
      (chkOk b = true) :=
    ⟨fpS,
    slotBytes64,
    (fpCrc 1 slotBytes64),
    rfl,
    by decide +kernel⟩

theorem test_meets_FootpathCommandsComplete_2 :
    ∃ (s : State) (b : List Byte) (crc : Nat),
      (crc = fpCrc 1 b) ∧
      (fpListens s = true) ∧
      (s.glb.fpLock = false) ∧
      (b.length = 64) ∧
      (chkOk b = false) :=
    ⟨fpS,
    (zeros 63 ++ [1]),
    (fpCrc 1 (zeros 63 ++ [1])),
    rfl,
    by decide +kernel⟩

theorem test_meets_FootpathCommandsComplete_3 :
    ∃ (s : State),
      (fpListens s = true) :=
    ⟨fpS,
    by decide +kernel⟩

theorem test_meets_FootpathCommandsComplete_4 :
    ∃ (s : State) (b : List Byte) (crc : Nat) (o : Op),
      (crc = fpCrc 3 b) ∧
      (fpListens s = true) ∧
      (s.glb.fpLock = false) ∧
      (5 ≤ b.length) ∧
      (b.length ≤ 1028) ∧
      (fpAwaiting s = some o) ∧
      (num b 2 2 = o.rxSeq) :=
    ⟨fpDataS,
    [0, 0, 0, 0, 7],
    (fpCrc 3 [0, 0, 0, 0, 7]),
    fpDataO,
    rfl,
    by decide +kernel⟩

theorem test_meets_FootpathCommandsComplete_5 :
    ∃ (s : State) (b : List Byte) (crc : Nat),
      (crc = fpCrc 3 b) ∧
      (fpListens s = true) ∧
      (s.glb.fpLock = false) ∧
      (5 ≤ b.length) ∧
      (b.length ≤ 1028) :=
    ⟨fpS,
    [0, 0, 0, 0, 7],
    (fpCrc 3 [0, 0, 0, 0, 7]),
    rfl,
    by decide +kernel⟩

theorem test_meets_FootpathCommandsComplete_6 :
    ∃ (s : State) (b : List Byte) (crc : Nat) (q : FpPacket) (l : List FpPacket),
      (crc = fpCrc 4 b) ∧
      (fpListens s = true) ∧
      (b.length = 4) ∧
      (s.glb.fpSent = q :: l) ∧
      (s.glb.fpNaks < 2) ∧
      (s.pwr.fpRdyIn = true) :=
    ⟨(upPwr (upGlb fpS (fun g => { g with fpSent := [.baud 5] })) (fun p => { p with fpRdyIn := true })),
    [0, 0, 0, 0],
    (fpCrc 4 [0, 0, 0, 0]),
    (.baud 5),
    [],
    rfl,
    by decide +kernel⟩

theorem test_meets_FootpathCommandsComplete_7 :
    ∃ (s : State) (b : List Byte) (crc : Nat) (q : FpPacket) (l : List FpPacket),
      (crc = fpCrc 4 b) ∧
      (fpListens s = true) ∧
      (b.length = 4) ∧
      (s.glb.fpSent = q :: l) ∧
      (2 ≤ s.glb.fpNaks) :=
    ⟨(upGlb fpS (fun g => { g with fpSent := [.baud 5], fpNaks := 2 })),
    [0, 0, 0, 0],
    (fpCrc 4 [0, 0, 0, 0]),
    (.baud 5),
    [],
    rfl,
    by decide +kernel⟩

theorem test_meets_FootpathCommandsComplete_8 :
    ∃ (s : State) (b : List Byte) (crc : Nat),
      (crc = fpCrc 5 b) ∧
      (fpListens s = true) ∧
      (s.glb.fpLock = false) ∧
      (b.length = 4) ∧
      (1 ≤ num b 0 4) ∧
      (num b 0 4 ≤ 25) :=
    ⟨fpS,
    [5, 0, 0, 0],
    (fpCrc 5 [5, 0, 0, 0]),
    rfl,
    by decide +kernel⟩

theorem test_meets_FootpathCommandsComplete_9 :
    ∃ (s : State),
      (s.glb.poweredOn = true) ∧
      (s.pwr.state ≠ 3) ∧
      (s.med.dumpHeld = false) ∧
      (s.flt.halted = false) :=
    ⟨fpS,
    by decide +kernel⟩

theorem test_meets_FootpathCommandsComplete_10 :
    ∃ (s : State),
      (fpListens s = true) :=
    ⟨fpS,
    by decide +kernel⟩

theorem test_meets_FootpathCommandsComplete_11 :
    ∃ (s : State) (o : Op),
      (fpAwaiting s = some o) ∧
      (o.rxAt + 1000 ≤ s.glb.lifetime) :=
    ⟨(upGlb fpDataS (fun g => { g with lifetime := 1000 })),
    fpDataO,
    by decide +kernel⟩

theorem test_meets_FootpathCommandsComplete_12 :
    ∃ (s : State) (k : Nat),
      (fpListens s = true) ∧
      (k ≠ 1) ∧
      (k ≠ 3) ∧
      (k ≠ 4) ∧
      (k ≠ 5) :=
    ⟨fpS,
    2,
    by decide +kernel⟩

theorem test_meets_IdleStepIsATick_1 :
    ∃ (s : State),
      (s.pending = []) :=
    ⟨State.reset,
    rfl⟩

theorem test_meets_IdleStepIsATick_2 :
    ∃ (s : State),
      (s.glb.poweredOn = true) :=
    ⟨pwS,
    by decide⟩

theorem test_meets_IdleStepIsATick_3 :
    ∃ (s : State),
      (s.glb.poweredOn = false) :=
    ⟨upGlb up (fun g => { g with poweredOn := false }),
    by decide⟩

theorem test_meets_FramePerCommand_1 :
    ∃ (c : Instr) (s t : State),
      (exec c s = .next t) :=
    ⟨.tapReset,
    up,
    _,
    rfl⟩

theorem test_meets_MemoriesKeptOutsideTheirFrame_1 :
    ∃ (c : Instr) (s t : State),
      (exec c s = .next t) ∧
      (Part.arena ∉ touches c) ∧
      (Part.hostMem ∉ touches c) :=
    ⟨.tapReset,
    up,
    _,
    rfl,
    by decide +kernel⟩

theorem test_meets_EveryStepKeepsTheInvariant_1 :
    ∃ (s t : State),
      (Inv s) ∧
      (step s = .next t) :=
    ⟨State.reset,
    _,
    ⟨rfl, rfl⟩,
    rfl⟩

theorem test_meets_KiteEncodingRoundTrip_1 :
    ∃ (k : KOp),
      (k.wf = true) :=
    ⟨.nop,
    by decide⟩

theorem test_meets_KiteEncodingRoundTrip_2 :
    ∃ (ws : List Nat) (k : KOp) (n : Nat),
      (kiteDecode ws = some (k, n)) :=
    ⟨[0x3C00],
    .nop,
    1,
    by decide⟩

theorem test_meets_WriteThenRead_1 :
    ∃ (s : State) (tag : Nat) (o : Op) (host : HostRead) (b : List Byte),
      (opFor s tag 0x0402 = some o) ∧
      (o.stage = .ready) ∧
      (input s o host o.pkt.dlen = some (.data b)) ∧
      ((∀ x ∈ s.med.staging, x.seq ≠ o.seq)) ∧
      (readOnly s = false) ∧
      (sameVolume s o = true) ∧
      (fosterWaits s o.pkt.vol = false) ∧
      (admitted s o = true) ∧
      (mirroring s = false) :=
    ⟨wState,
    5,
    wOp,
    .data (zeros 4096),
    zeros 4096,
    rfl,
    rfl,
    (by
        have h : (zeros 4096).length = 4096 := List.length_replicate
        simp only [input, h]
        rfl),
    (fun x hx => by cases hx),
    by decide +kernel⟩

theorem test_meets_HaltedCollector_1 :
    ∃ (s : State),
      (s.flt.halted = true) :=
    ⟨upFlt up (fun f => { f with halted := true }),
    by decide⟩

theorem test_meets_FaultEscalation_1 :
    ∃ (s : State) (f : PendingFault) (held : Nat),
      (srcClass f.src ≠ 0) ∧
      (f.level.getD (srcLevel s f.src) ≠ 0) ∧
      (mget s.flt.unack (srcClass f.src) = some held) :=
    ⟨upFlt up (fun f => { f with unack := [(srcClass 11, 1)] }),
    { fault1 with src := 11, level := some 1 },
    1,
    by decide +kernel⟩

theorem test_meets_FaultEscalation_2 :
    ∃ (s : State) (f : PendingFault),
      (srcClass f.src = 0 ∨ mget s.flt.unack (srcClass f.src) = none) :=
    ⟨up,
    fault1,
    by decide +kernel⟩

theorem test_meets_FaultEscalation_3 :
    ∃ (s : State) (f : PendingFault),
      (escalated s f = 2) ∧
      (containFails f.src = true) :=
    ⟨up,
    { fault1 with src := 8, level := some 2 },
    by decide +kernel⟩

theorem test_meets_TestSliceFailure_1 :
    ∃ (s : State) (i : Nat),
      (s.hlt.slice = some i) ∧
      (s.hlt.measuring = false) ∧
      (i < s.hlt.islands.length) :=
    ⟨upHlt idleS (fun h => { h with slice := some 20 }),
    20,
    by decide +kernel⟩

theorem test_meets_KiteCycleCount_1 :
    ∃ (r : Regs),
      (r.g.length = 16) :=
    ⟨inst1.regs,
    by decide⟩

end Sys2Proof.Tests
end

section
/-! SUPPORT. What a memory lists and reads after a write of bytes, at every address within the write and outside it. -/

namespace Sys2Proof.Machine
open Sys2Proof

theorem mget_append {α : Type} (m n : SMap α) (k : Nat) : mget (m ++ n) k = (mget m k).or (mget n k) := by
  induction m with
  | nil => rfl
  | cons c rest ih =>
    obtain ⟨j, v⟩ := c
    by_cases h : j = k
    · simp [mget, h]
    · simp [mget, h, ih]

theorem mget_eq_none_of_forall_ne {α : Type} (m : SMap α) (k : Nat) (h : ∀ c ∈ m, c.1 ≠ k) : mget m k = none := by
  induction m with
  | nil => rfl
  | cons c rest ih =>
    rw [List.forall_mem_cons] at h
    simp only [mget, if_neg h.1, ih h.2]

/-- Cells kept or dropped by their addresses alone: the kept addresses list what they listed. -/
theorem mget_filter_key {α : Type} (p : Nat → Bool) (m : SMap α) (k : Nat) :
    mget (m.filter (fun c => p c.1)) k = if p k then mget m k else none := by
  induction m with
  | nil => simp [mget]
  | cons c rest ih =>
    obtain ⟨j, v⟩ := c
    by_cases hj : j = k
    · subst hj
      cases hp : p j
      · simpa [hp] using ih
      · simp [mget, hp]
    · cases hp : p j <;> simp [mget, hp, hj, ih]

/-- Cells laid between the cells below `a` and those from `a + k` on, as every write lays them: they answer for the
addresses between, the memory for all others. -/
theorem cellAt_splice (m n : List Host.Cell) (a k x : Nat) (hn : ∀ c ∈ n, a ≤ c.1 ∧ c.1 < a + k) :
    cellAt (m.filter (fun c => decide (c.1 < a)) ++ n ++ m.filter (fun c => decide (a + k ≤ c.1))) x =
      if a ≤ x ∧ x < a + k then cellAt n x else cellAt m x := by
  have below := mget_filter_key (fun i => decide (i < a)) m x
  have above := mget_filter_key (fun i => decide (a + k ≤ i)) m x
  simp only [decide_eq_true_eq] at below above
  simp only [cellAt, mget_append, below, above]
  by_cases hx : a ≤ x ∧ x < a + k
  · have notBelow : ¬ x < a := by omega
    have notAbove : ¬ a + k ≤ x := by omega
    simp [hx, notBelow, notAbove]
  · have absent : mget n x = none := mget_eq_none_of_forall_ne n x fun c hc heq => hx (heq ▸ hn c hc)
    by_cases hlt : x < a
    · have notAbove : ¬ a + k ≤ x := by omega
      simp [hx, hlt, absent, notAbove]
    · have isAbove : a + k ≤ x := by omega
      simp [hx, hlt, absent, isAbove]

theorem cellAt_cellsOf_within (a x : Nat) (b : List Byte) (hx : a ≤ x ∧ x < a + b.length) :
    cellAt (cellsOf a b) x = some (b.getD (x - a) 0) := by
  induction b generalizing a with
  | nil => simp only [List.length_nil] at hx; omega
  | cons y ys ih =>
    by_cases h : a = x
    · simp [cellsOf, cellAt, mget, h]
    · obtain ⟨d, rfl⟩ : ∃ d, x = a + 1 + d := ⟨x - (a + 1), by omega⟩
      have rest := ih (a + 1) (by simp only [List.length_cons] at hx; omega)
      have here : a + 1 + d - a = d + 1 := by omega
      rw [Nat.add_sub_cancel_left] at rest
      rw [here, List.getD_cons_succ, ← rest]
      exact if_neg h

/-- Leaving out the zero bytes of a memory with rising addresses changes no reading in which an unlisted byte is zero. -/
theorem cellAt_filter_nonzero_getD (m : List Host.Cell) (x : Nat) (hm : m.Pairwise (fun c d => c.1 < d.1)) :
    (cellAt (m.filter (fun c => c.2 != 0)) x).getD 0 = (cellAt m x).getD 0 := by
  induction m with
  | nil => rfl
  | cons c rest ih =>
    obtain ⟨j, v⟩ := c
    obtain ⟨hhead, hrest⟩ := List.pairwise_cons.1 hm
    have rest_eq := ih hrest
    simp only [cellAt] at rest_eq
    simp only [cellAt, List.filter_cons]
    by_cases hj : j = x
    · subst hj
      have absent : mget rest j = none := mget_eq_none_of_forall_ne rest j fun d hd => Nat.ne_of_gt (hhead d hd)
      by_cases hv : v = 0
      · subst hv
        simpa [mget, absent] using rest_eq
      · simp only [bne_iff_ne.2 hv, if_true, mget]
    · split <;> simpa only [mget, if_neg hj] using rest_eq

/-- A write to a memory that lists every written byte (the host's memory). -/
theorem cellAt_storeAll (m : List Host.Cell) (a x : Nat) (b : List Byte) :
    cellAt (storeAll m a b) x = if a ≤ x ∧ x < a + b.length then some (b.getD (x - a) 0) else cellAt m x := by
  rw [storeAll, cellAt_splice m _ a b.length x (cellsOf_mem a b)]
  split
  next hx => exact cellAt_cellsOf_within a x b hx
  next => rfl

/-- A write to a memory whose unlisted bytes read zero (the Result Arena, log entry 11). -/
theorem cellAt_storeNonzero_getD (m : List Host.Cell) (a x : Nat) (b : List Byte) :
    (cellAt (storeNonzero m a b) x).getD 0 =
      if a ≤ x ∧ x < a + b.length then b.getD (x - a) 0 else (cellAt m x).getD 0 := by
  have within : ∀ c ∈ (cellsOf a b).filter (fun c => c.2 != 0), a ≤ c.1 ∧ c.1 < a + b.length :=
    fun c hc => cellsOf_mem a b c (List.mem_filter.1 hc).1
  rw [storeNonzero, cellAt_splice m _ a b.length x within]
  split
  next hx => rw [cellAt_filter_nonzero_getD _ x (cellsOf_rising a b), cellAt_cellsOf_within a x b hx, Option.getD_some]
  next => rfl

/-- Settles O50: both writes lay their cells between the memory's cells below and above the written range. -/
theorem memoryReadAfterWrite : Obligations.MemoryReadAfterWrite :=
  ⟨cellAt_storeNonzero_getD, cellAt_storeAll⟩

end Sys2Proof.Machine
end

section
/-! SUPPORT. What every command keeps of the state outside its frame, and that every command, hence every step, goes on. -/

namespace Sys2Proof.Machine
open Sys2Proof

/-- Settles O43: the queue's front is what `step` takes apart. -/
theorem stepRunsTheFrontCommand : Obligations.StepRunsTheFrontCommand := fun _ _ => rfl

/-! ### Frames (R10) -/

/-- Each command changes only what `touches` lists for it. -/
theorem exec_frame (c : Instr) (s : State) : OutFrame (touches c) s (exec c s) :=
  match c with
  | .slotWrite addr data enables poisoned idePassed => execSlotWrite_fr addr data enables poisoned idePassed s
  | .intakeAccept => execIntakeAccept_fr s
  | .lockGrant tag => execLockGrant_fr tag s
  | .lockEntryFree => execLockEntryFree_fr s
  | .stagingAdmit => execStagingAdmit_fr s
  | .fragmentListRead tag host => execFragmentListRead_fr tag host s
  | .commandComplete tag => execCommandComplete_fr tag s
  | .replyWrite ring src => execReplyWrite_fr ring src s
  | .replyWriteError ring src => execReplyWriteError_fr ring src s
  | .ringFullNotice ring => execRingFullNotice_fr ring s
  | .coalesceTimeout ring => execCoalesceTimeout_fr ring s
  | .msixUnmask w => execMsixUnmask_fr w s
  | .rrhHeadWrite ring value => execRrhHeadWrite_fr ring value s
  | .rrhIntMaskClear ring value => execRrhIntMaskClear_fr ring value s
  | .tskRing0CtrlWrite value => execTskRing0CtrlWrite_fr value s
  | .hstBiasFlipGo value => execHstBiasFlipGo_fr value s
  | .fltAckWrite value => execFltAckWrite_fr value s
  | .fltSrcWrite value => execFltSrcWrite_fr value s
  | .fltCeLimitWrite value => execFltCeLimitWrite_fr value s
  | .fpLockWrite value => execFpLockWrite_fr value s
  | .medGcCtrlWrite value => execMedGcCtrlWrite_fr value s
  | .medSealTimerWrite value => execMedSealTimerWrite_fr value s
  | .medPatrolCtrlWrite value => execMedPatrolCtrlWrite_fr value s
  | .kclCfgWrite cluster value => execKclCfgWrite_fr cluster value s
  | .waycTableEnable table value => execWaycTableEnable_fr table value s
  | .waycTableDisable table value => execWaycTableDisable_fr table value s
  | .hltPolicyWrite clk value => execHltPolicyWrite_fr clk value s
  | .pairWitnessWrite index value => execPairWitnessWrite_fr index value s
  | .meshRebuildCtrlWrite value => execMeshRebuildCtrlWrite_fr value s
  | .secDgCtrlWrite value => execSecDgCtrlWrite_fr value s
  | .registerWrite offset size value => execRegisterWrite_fr offset size value s
  | .identify tag => execIdentify_fr tag s
  | .getLog tag => execGetLog_fr tag s
  | .setFeature tag => execSetFeature_fr tag s
  | .getFeature tag => execGetFeature_fr tag s
  | .fwDownload tag host => execFwDownload_fr tag host s
  | .fwActivate tag nor => execFwActivate_fr tag nor s
  | .activationReset => execActivationReset_fr s
  | .queueCreate tag => execQueueCreate_fr tag s
  | .queueDelete tag => execQueueDelete_fr tag s
  | .ringCreate tag => execRingCreate_fr tag s
  | .ringDelete tag => execRingDelete_fr tag s
  | .queueQuery tag => execQueueQuery_fr tag s
  | .volumeCreate tag => execVolumeCreate_fr tag s
  | .volumeDelete tag => execVolumeDelete_fr tag s
  | .volumeQuery tag => execVolumeQuery_fr tag s
  | .format tag => execFormat_fr tag s
  | .formatWalk => execFormatWalk_fr s
  | .read tag media => execRead_fr tag media s
  | .write tag host => execWrite_fr tag host s
  | .trim tag => execTrim_fr tag s
  | .flush tag => execFlush_fr tag s
  | .compare tag host media => execCompare_fr tag host media s
  | .writeZeroes tag => execWriteZeroes_fr tag s
  | .readToArena tag media => execReadToArena_fr tag media s
  | .compress tag host checker => execCompress_fr tag host checker s
  | .decompress tag host => execDecompress_fr tag host s
  | .digest tag host => execDigest_fr tag host s
  | .digestVerify tag host expected => execDigestVerify_fr tag host expected s
  | .waymarkLoad tag host => execWaymarkLoad_fr tag host s
  | .waymarkSearch tag host check => execWaymarkSearch_fr tag host check s
  | .waymarkRead tag check => execWaymarkRead_fr tag check s
  | .programLoad tag host => execProgramLoad_fr tag host s
  | .programUnload tag => execProgramUnload_fr tag s
  | .scanRun tag params => execScanRun_fr tag params s
  | .scanAreaPlace tag => execScanAreaPlace_fr tag s
  | .scanStop tag => execScanStop_fr tag s
  | .scanQuery tag => execScanQuery_fr tag s
  | .scanRunEnd tag => execScanRunEnd_fr tag s
  | .keyImport tag host => execKeyImport_fr tag host s
  | .keyDestroy tag => execKeyDestroy_fr tag s
  | .extend tag host => execExtend_fr tag host s
  | .attest tag host => execAttest_fr tag host s
  | .selfTest tag failed => execSelfTest_fr tag failed s
  | .sanitise tag => execSanitise_fr tag s
  | .sanitiseStart => execSanitiseStart_fr s
  | .sanitiseUnitDone failed => execSanitiseUnitDone_fr failed s
  | .sanitiseStatus tag => execSanitiseStatus_fr tag s
  | .tetherPair tag host => execTetherPair_fr tag host s
  | .pairHelloTimeout => execPairHelloTimeout_fr s
  | .tetherUnpair tag => execTetherUnpair_fr tag s
  | .takeover tag => execTakeover_fr tag s
  | .meshConfig tag => execMeshConfig_fr tag s
  | .stripeGroupJoin tag host => execStripeGroupJoin_fr tag host s
  | .stripeGroupLeave tag => execStripeGroupLeave_fr tag s
  | .rebuildStart tag => execRebuildStart_fr tag s
  | .rebuildStatus tag => execRebuildStatus_fr tag s
  | .powerSet tag => execPowerSet_fr tag s
  | .powerQuery tag => execPowerQuery_fr tag s
  | .healthQuery tag => execHealthQuery_fr tag s
  | .marginPlan tag => execMarginPlan_fr tag s
  | .testControl tag => execTestControl_fr tag s
  | .abort tag => execAbort_fr tag s
  | .nop tag => execNop_fr tag s
  | .conventionalReset kind => execConventionalReset_fr kind s
  | .perstDeassert => execPerstDeassert_fr s
  | .flr => execFlr_fr s
  | .powerOn => execPowerOn_fr s
  | .boot found => execBoot_fr found s
  | .linkTraining speed width alternate reversed => execLinkTraining_fr speed width alternate reversed s
  | .linkDowntrain speed width => execLinkDowntrain_fr speed width s
  | .ideCheckFail cm => execIdeCheckFail_fr cm s
  | .ideKeyRefresh cm => execIdeKeyRefresh_fr cm s
  | .gpfPhase1 => execGpfPhase1_fr s
  | .gpfPhase2 => execGpfPhase2_fr s
  | .cxlMemRead addr check => execCxlMemRead_fr addr check s
  | .cxlMemWrite addr data check => execCxlMemWrite_fr addr data check s
  | .hdmDecoderCommit index base size ways gran pos => execHdmDecoderCommit_fr index base size ways gran pos s
  | .handshakeTimeout island sender => execHandshakeTimeout_fr island sender s
  | .islandIdleGate island => execIslandIdleGate_fr island s
  | .islandWake island banksLost => execIslandWake_fr island banksLost s
  | .programComplete item => execProgramComplete_fr item s
  | .segmentSealTimeout band => execSegmentSealTimeout_fr band s
  | .programFail band channel => execProgramFail_fr band channel s
  | .eraseComplete band failed => execEraseComplete_fr band failed s
  | .journalLineFlush => execJournalLineFlush_fr s
  | .checkpointStart => execCheckpointStart_fr s
  | .checkpointRootWrite => execCheckpointRootWrite_fr s
  | .leafFetchComplete vol stretch level => execLeafFetchComplete_fr vol stretch level s
  | .pageOut vol stretch => execPageOut_fr vol stretch s
  | .gcRun => execGcRun_fr s
  | .gcCommit vol lba => execGcCommit_fr vol lba s
  | .bandErase band => execBandErase_fr band s
  | .patrolRead cw level => execPatrolRead_fr cw level s
  | .patrolOverdue band => execPatrolOverdue_fr band s
  | .relocation vol lba => execRelocation_fr vol lba s
  | .pwrFailAssert => execPwrFailAssert_fr s
  | .dumpComplete us => execDumpComplete_fr us s
  | .warmRestart => execWarmRestart_fr s
  | .holdupSenseStuck => execHoldupSenseStuck_fr s
  | .refreshDue rank postpone => execRefreshDue_fr rank postpone s
  | .mr4Poll rank field => execMr4Poll_fr rank field s
  | .dqsRetrack rank moved => execDqsRetrack_fr rank moved s
  | .dramFullRetrain channel clean => execDramFullRetrain_fr channel clean s
  | .scrub line check => execScrub_fr line check s
  | .dramRequest r => execDramRequest_fr r s
  | .rowIdleTimeout sub bank => execRowIdleTimeout_fr sub bank s
  | .nrReseed channel => execNrReseed_fr channel s
  | .instanceDispatch core => execInstanceDispatch_fr core s
  | .quantumExpiry core => execQuantumExpiry_fr core s
  | .waitPreempt core => execWaitPreempt_fr core s
  | .contextSaveDone core => execContextSaveDone_fr core s
  | .laneBlockVisible run num media => execLaneBlockVisible_fr run num media s
  | .worklistExtend run num => execWorklistExtend_fr run num s
  | .timerExpiry run num timer => execTimerExpiry_fr run num timer s
  | .mboxDeliver run sender dest => execMboxDeliver_fr run sender dest s
  | .engineRequestDone run num engine check checker => execEngineRequestDone_fr run num engine check checker s
  | .kAdd core a b => execKAdd_fr core a b s
  | .kSub core a b => execKSub_fr core a b s
  | .kAdc core a b => execKAdc_fr core a b s
  | .kSbc core a b => execKSbc_fr core a b s
  | .kAnd core a b => execKAnd_fr core a b s
  | .kOr core a b => execKOr_fr core a b s
  | .kXor core a b => execKXor_fr core a b s
  | .kMov core a b => execKMov_fr core a b s
  | .kCmp core a b => execKCmp_fr core a b s
  | .kTst core a b => execKTst_fr core a b s
  | .kShl core a b => execKShl_fr core a b s
  | .kShr core a b => execKShr_fr core a b s
  | .kSar core a b => execKSar_fr core a b s
  | .kRol core a b => execKRol_fr core a b s
  | .kMul core a b => execKMul_fr core a b s
  | .kMulh core a b => execKMulh_fr core a b s
  | .kAddi core exts a imm => execKAddi_fr core exts a imm s
  | .kCmpi core exts a imm => execKCmpi_fr core exts a imm s
  | .kMovi core exts a imm => execKMovi_fr core exts a imm s
  | .kBeq core off => execKBeq_fr core off s
  | .kBne core off => execKBne_fr core off s
  | .kBcs core off => execKBcs_fr core off s
  | .kBcc core off => execKBcc_fr core off s
  | .kBmi core off => execKBmi_fr core off s
  | .kBpl core off => execKBpl_fr core off s
  | .kBms core off => execKBms_fr core off s
  | .kBmc core off => execKBmc_fr core off s
  | .kBhi core off => execKBhi_fr core off s
  | .kBls core off => execKBls_fr core off s
  | .kBge core off => execKBge_fr core off s
  | .kBlt core off => execKBlt_fr core off s
  | .kBgt core off => execKBgt_fr core off s
  | .kBle core off => execKBle_fr core off s
  | .kBal core off => execKBal_fr core off s
  | .kBvs core off => execKBvs_fr core off s
  | .kLd core a b check => execKLd_fr core a b check s
  | .kSt core a b check => execKSt_fr core a b check s
  | .kLdb core a b check => execKLdb_fr core a b check s
  | .kStb core a b check => execKStb_fr core a b check s
  | .kIn core a b check => execKIn_fr core a b check s
  | .kOut core a b => execKOut_fr core a b s
  | .kJmp core a => execKJmp_fr core a s
  | .kCall core a => execKCall_fr core a s
  | .kRet core => execKRet_fr core s
  | .kRep core most check => execKRep_fr core most check s
  | .kBrpt core n => execKBrpt_fr core n s
  | .kCopy core wide check => execKCopy_fr core wide check s
  | .kMatch core wide r check => execKMatch_fr core wide r check s
  | .kSeek core wide r check => execKSeek_fr core wide r check s
  | .kPull core wide r check => execKPull_fr core wide r check s
  | .kPush core wide r check => execKPush_fr core wide r check s
  | .kFill core wide r check => execKFill_fr core wide r check s
  | .kiteNop core => execKiteNop_fr core s
  | .kWait core => execKWait_fr core s
  | .kHalt core => execKHalt_fr core s
  | .kTrap core => execKTrap_fr core s
  | .kMovsr core a toSpecial number => execKMovsr_fr core a toSpecial number s
  | .kLdpw core a b check => execKLdpw_fr core a b check s
  | .scanData core a b check => execScanData_fr core a b check s
  | .scanRelease core a b => execScanRelease_fr core a b s
  | .evClear core a b => execEvClear_fr core a b s
  | .timerLoad core a b => execTimerLoad_fr core a b s
  | .mboxRecv core a b => execMboxRecv_fr core a b s
  | .mboxSend core a b => execMboxSend_fr core a b s
  | .wmGo core a b => execWmGo_fr core a b s
  | .dgOpen core a b => execDgOpen_fr core a b s
  | .dgFeed core a b => execDgFeed_fr core a b s
  | .dgFinal core a b => execDgFinal_fr core a b s
  | .cpGo core a b => execCpGo_fr core a b s
  | .dmaPut core a b => execDmaPut_fr core a b s
  | .dmaAppend core a b => execDmaAppend_fr core a b s
  | .waymarkSearchQueue table check => execWaymarkSearchQueue_fr table check s
  | .sweepStep forced upset arrayBad shadowBad => execSweepStep_fr forced upset arrayBad shadowBad s
  | .tableReady table => execTableReady_fr table s
  | .pipeGrant decomp => execPipeGrant_fr decomp s
  | .inlineCompress vol lba checker => execInlineCompress_fr vol lba checker s
  | .inlineInflate tag lba media => execInlineInflate_fr tag lba media s
  | .digestQuantum => execDigestQuantum_fr s
  | .dgIdleTimeout context => execDgIdleTimeout_fr context s
  | .securityAlarm cause => execSecurityAlarm_fr cause s
  | .periodicSelftest failed => execPeriodicSelftest_fr failed s
  | .keyUnwrap vol => execKeyUnwrap_fr vol s
  | .linkRekey link => execLinkRekey_fr link s
  | .tetherFlitReceive f => execTetherFlitReceive_fr f s
  | .tetherReplayTimeout => execTetherReplayTimeout_fr s
  | .tetherLinkReset speed width => execTetherLinkReset_fr speed width s
  | .hello m => execHello_fr m s
  | .keyTransfer vol install capacity attrs => execKeyTransfer_fr vol install capacity attrs s
  | .mirrorWrite seq vol op lba blocks data => execMirrorWrite_fr seq vol op lba blocks data s
  | .mirrorConfirm seq => execMirrorConfirm_fr seq s
  | .mirrorRelease seq => execMirrorRelease_fr seq s
  | .journal first recs => execJournal_fr first recs s
  | .journalConfirm last => execJournalConfirm_fr last s
  | .root no r => execRoot_fr no r s
  | .heartbeat count state status readOnly => execHeartbeat_fr count state status readOnly s
  | .heartbeatSend => execHeartbeatSend_fr s
  | .heartbeatTimeout => execHeartbeatTimeout_fr s
  | .probeTimer => execProbeTimer_fr s
  | .claimRetry => execClaimRetry_fr s
  | .partnerDirectoryRebuild found => execPartnerDirectoryRebuild_fr found s
  | .blockRead req vol lba blocks media => execBlockRead_fr req vol lba blocks media s
  | .blockData req status data => execBlockData_fr req status data s
  | .handback wseq vol form lba data => execHandback_fr wseq vol form lba data s
  | .handbackPass media => execHandbackPass_fr media s
  | .cutover => execCutover_fr s
  | .yieldMsg => execYieldMsg_fr s
  | .unpair => execUnpair_fr s
  | .tetherStable => execTetherStable_fr s
  | .trailFlitReceive port f => execTrailFlitReceive_fr port f s
  | .trailReplayTimeout port => execTrailReplayTimeout_fr port s
  | .portFailed port => execPortFailed_fr port s
  | .linkHello port serial node shape pub verified => execLinkHello_fr port serial node shape pub verified s
  | .linkState src seq failed => execLinkState_fr src seq failed s
  | .unreachable src id typ => execUnreachable_fr src id typ s
  | .probe src pairId sender target number => execProbe_fr src pairId sender target number s
  | .probeAck src pairId sender target number state status => execProbeAck_fr src pairId sender target number state status s
  | .claim src pairId claimant partner number release => execClaim_fr src pairId claimant partner number release s
  | .claimGrant src pairId claimant partner number release => execClaimGrant_fr src pairId claimant partner number release s
  | .claimRefuse src pairId claimant partner number holder => execClaimRefuse_fr src pairId claimant partner number holder s
  | .tunnel src m => execTunnel_fr src m s
  | .groupHello src group k m index digest => execGroupHello_fr src group k m index digest s
  | .intent src group stripe d band seg => execIntent_fr src group stripe d band seg s
  | .intentReply src group stripe answer lowest => execIntentReply_fr src group stripe answer lowest s
  | .stripeDeadline group stripe => execStripeDeadline_fr group stripe s
  | .contrib src group stripe p d j x => execContrib_fr src group stripe p d j x s
  | .close src group stripe r => execClose_fr src group stripe r s
  | .parityProgram group stripe => execParityProgram_fr group stripe s
  | .parityDone src group stripe j => execParityDone_fr src group stripe j s
  | .gossip src group dead => execGossip_fr src group dead s
  | .gossipSend => execGossipSend_fr s
  | .release src group stripe => execRelease_fr src group stripe s
  | .resend src group stripe d => execResend_fr src group stripe d s
  | .locate src group request member band seg => execLocate_fr src group request member band seg s
  | .locateAns src request recs => execLocateAns_fr src request recs s
  | .reconReq src group request stripe weight p n d row media => execReconReq_fr src group request stripe weight p n d row media s
  | .reconSlice src request p d row x => execReconSlice_fr src request p d row x s
  | .rebuildPlan src group stripe chain media => execRebuildPlan_fr src group stripe chain media s
  | .rebuildPart src group stripe p d row x => execRebuildPart_fr src group stripe p d row x s
  | .memberUpdate src group u => execMemberUpdate_fr src group u s
  | .memberLost group index => execMemberLost_fr group index s
  | .stripeIndexReady => execStripeIndexReady_fr s
  | .glideIdleEntry => execGlideIdleEntry_fr s
  | .mooredIdleEntry => execMooredIdleEntry_fr s
  | .transitionPhaseEnd imageOk lost => execTransitionPhaseEnd_fr imageOk lost s
  | .commandedEntryTimeout => execCommandedEntryTimeout_fr s
  | .linkL2Entry => execLinkL2Entry_fr s
  | .ballastArmExpiry => execBallastArmExpiry_fr s
  | .mooredWake cause => execMooredWake_fr cause s
  | .wakeNAssert => execWakeNAssert_fr s
  | .wakeStuck => execWakeStuck_fr s
  | .brownOut => execBrownOut_fr s
  | .inputGlitch input => execInputGlitch_fr input s
  | .fpRdyInChange level => execFpRdyInChange_fr level s
  | .faultRaise src level => execFaultRaise_fr src level s
  | .faultReaction => execFaultReaction_fr s
  | .quietPeriodEnd => execQuietPeriodEnd_fr s
  | .containReady island => execContainReady_fr island s
  | .shadowWindowEnd island => execShadowWindowEnd_fr island s
  | .loopAction island slack => execLoopAction_fr island slack s
  | .loopUndo island slack => execLoopUndo_fr island slack s
  | .degradationMeasure island degradation => execDegradationMeasure_fr island degradation s
  | .thermalThrottle readings => execThermalThrottle_fr readings s
  | .avsWriteFail => execAvsWriteFail_fr s
  | .plannerRun island found => execPlannerRun_fr island found s
  | .planTimeout => execPlanTimeout_fr s
  | .testSliceStart island => execTestSliceStart_fr island s
  | .testSliceAbort island => execTestSliceAbort_fr island s
  | .testSliceDone island ok crypto => execTestSliceDone_fr island ok crypto s
  | .forcedWindowAnnounce island => execForcedWindowAnnounce_fr island s
  | .forcedWindow island ok crypto => execForcedWindow_fr island ok crypto s
  | .footpathCommand bytes crc => execFootpathCommand_fr bytes crc s
  | .footpathData bytes crc => execFootpathData_fr bytes crc s
  | .footpathNak bytes crc => execFootpathNak_fr bytes crc s
  | .footpathBaud bytes crc => execFootpathBaud_fr bytes crc s
  | .footpathBreak => execFootpathBreak_fr s
  | .packetIdleTimeout => execPacketIdleTimeout_fr s
  | .dataChunkTimeout => execDataChunkTimeout_fr s
  | .fpRxdWake => execFpRxdWake_fr s
  | .ballastExit => execBallastExit_fr s
  | .pwrFailDeassert => execPwrFailDeassert_fr s
  | .wakeNRelease => execWakeNRelease_fr s
  | .railLoss => execRailLoss_fr s
  | .doeMessage m => execDoeMessage_fr m s
  | .illegalInstruction core check => execIllegalInstruction_fr core check s
  | .tapInstruction code => execTapInstruction_fr code s
  | .tapReset => execTapReset_fr s
  | .footpathBadKind kind => execFootpathBadKind_fr kind s
  | .groupHelloTimeout group => execGroupHelloTimeout_fr group s

/-- Settles O45: `exec_frame` says it command by command. -/
theorem framePerCommand : Obligations.FramePerCommand := exec_frame

end Sys2Proof.Machine
end

section
/-! SUPPORT. No command ends a run: a command that cannot occur in the state at hand leaves it as it is (R12; log entry 13). -/

namespace Sys2Proof.Machine
open Sys2Proof

/-- An outcome that is a next state, neither a fault nor a refusal. -/
def GoesOn (x : Out) : Prop := ∃ t, x = .next t

theorem GoesOn.next (t : State) : GoesOn (.next t) := ⟨t, rfl⟩

/-- A core's instruction goes on: it is carried out where it stands at the core's pc, and elsewhere nothing happens. -/
theorem kiteRun_goesOn (core s f) : GoesOn (kiteRun core s f) := by
  fun_cases kiteRun <;> exact .next _

/-! ### Machine/Firmware.lean -/

@[simp] theorem execFwDownload_goesOn (tag host s) : GoesOn (execFwDownload tag host s) := by fun_cases execFwDownload <;> exact .next _
@[simp] theorem execFwActivate_goesOn (tag nor s) : GoesOn (execFwActivate tag nor s) := by fun_cases execFwActivate <;> exact .next _
@[simp] theorem execActivationReset_goesOn (s) : GoesOn (execActivationReset s) := by fun_cases execActivationReset <;> exact .next _

/-! ### Machine/Admin.lean -/

@[simp] theorem execIdentify_goesOn (tag s) : GoesOn (execIdentify tag s) := by fun_cases execIdentify <;> exact .next _
@[simp] theorem execGetLog_goesOn (tag s) : GoesOn (execGetLog tag s) := by fun_cases execGetLog <;> exact .next _
@[simp] theorem execSetFeature_goesOn (tag s) : GoesOn (execSetFeature tag s) := by fun_cases execSetFeature <;> exact .next _
@[simp] theorem execGetFeature_goesOn (tag s) : GoesOn (execGetFeature tag s) := by fun_cases execGetFeature <;> exact .next _
@[simp] theorem execQueueCreate_goesOn (tag s) : GoesOn (execQueueCreate tag s) := by fun_cases execQueueCreate <;> exact .next _
@[simp] theorem execQueueDelete_goesOn (tag s) : GoesOn (execQueueDelete tag s) := by fun_cases execQueueDelete <;> exact .next _
@[simp] theorem execRingCreate_goesOn (tag s) : GoesOn (execRingCreate tag s) := by fun_cases execRingCreate <;> exact .next _
@[simp] theorem execRingDelete_goesOn (tag s) : GoesOn (execRingDelete tag s) := by fun_cases execRingDelete <;> exact .next _
@[simp] theorem execQueueQuery_goesOn (tag s) : GoesOn (execQueueQuery tag s) := by fun_cases execQueueQuery <;> exact .next _

/-! ### Machine/Volumes.lean -/

@[simp] theorem execVolumeCreate_goesOn (tag s) : GoesOn (execVolumeCreate tag s) := by fun_cases execVolumeCreate <;> exact .next _
@[simp] theorem execVolumeDelete_goesOn (tag s) : GoesOn (execVolumeDelete tag s) := by fun_cases execVolumeDelete <;> exact .next _
@[simp] theorem execVolumeQuery_goesOn (tag s) : GoesOn (execVolumeQuery tag s) := by fun_cases execVolumeQuery <;> exact .next _
@[simp] theorem execFormat_goesOn (tag s) : GoesOn (execFormat tag s) := by fun_cases execFormat <;> exact .next _
@[simp] theorem execFormatWalk_goesOn (s) : GoesOn (execFormatWalk s) := by fun_cases execFormatWalk <;> exact .next _
@[simp] theorem execKeyUnwrap_goesOn (vol s) : GoesOn (execKeyUnwrap vol s) := by fun_cases execKeyUnwrap <;> exact .next _

/-! ### Machine/Data.lean -/

@[simp] theorem execRead_goesOn (tag media s) : GoesOn (execRead tag media s) := by fun_cases execRead <;> exact .next _
@[simp] theorem execReadToArena_goesOn (tag media s) : GoesOn (execReadToArena tag media s) := by
  fun_cases execReadToArena <;> exact .next _
@[simp] theorem execCompare_goesOn (tag host media s) : GoesOn (execCompare tag host media s) := by fun_cases execCompare <;> exact .next _
@[simp] theorem execInlineInflate_goesOn (tag lba media s) : GoesOn (execInlineInflate tag lba media s) := by
  fun_cases execInlineInflate <;> exact .next _
@[simp] theorem execWrite_goesOn (tag host s) : GoesOn (execWrite tag host s) := by fun_cases execWrite <;> exact .next _
@[simp] theorem execTrim_goesOn (tag s) : GoesOn (execTrim tag s) := by fun_cases execTrim <;> exact .next _
@[simp] theorem execWriteZeroes_goesOn (tag s) : GoesOn (execWriteZeroes tag s) := by fun_cases execWriteZeroes <;> exact .next _
@[simp] theorem execFlush_goesOn (tag s) : GoesOn (execFlush tag s) := by fun_cases execFlush <;> exact .next _

/-! ### Machine/Compression.lean -/

@[simp] theorem execPipeGrant_goesOn (decomp s) : GoesOn (execPipeGrant decomp s) := by fun_cases execPipeGrant <;> exact .next _
@[simp] theorem execCompress_goesOn (tag host checker s) : GoesOn (execCompress tag host checker s) := by
  fun_cases execCompress <;> exact .next _
@[simp] theorem execDecompress_goesOn (tag host s) : GoesOn (execDecompress tag host s) := by fun_cases execDecompress <;> exact .next _
@[simp] theorem execInlineCompress_goesOn (vol lba checker s) : GoesOn (execInlineCompress vol lba checker s) := by
  fun_cases execInlineCompress <;> exact .next _

/-! ### Machine/DigestCmds.lean -/

@[simp] theorem execDigest_goesOn (tag host s) : GoesOn (execDigest tag host s) := by fun_cases execDigest <;> exact .next _
@[simp] theorem execDigestVerify_goesOn (tag host expected s) : GoesOn (execDigestVerify tag host expected s) := by
  fun_cases execDigestVerify <;> exact .next _
@[simp] theorem execDigestQuantum_goesOn (s) : GoesOn (execDigestQuantum s) := by fun_cases execDigestQuantum <;> exact .next _
@[simp] theorem execDgIdleTimeout_goesOn (context s) : GoesOn (execDgIdleTimeout context s) := by
  fun_cases execDgIdleTimeout <;> exact .next _

/-! ### Machine/Waymark.lean -/

@[simp] theorem execWaymarkSearch_goesOn (tag host check s) : GoesOn (execWaymarkSearch tag host check s) := by
  fun_cases execWaymarkSearch <;> exact .next _
@[simp] theorem execWaymarkSearchQueue_goesOn (table check s) : GoesOn (execWaymarkSearchQueue table check s) := by
  fun_cases execWaymarkSearchQueue <;> exact .next _
@[simp] theorem execWaymarkLoad_goesOn (tag host s) : GoesOn (execWaymarkLoad tag host s) := by fun_cases execWaymarkLoad <;> exact .next _
@[simp] theorem execWaymarkRead_goesOn (tag check s) : GoesOn (execWaymarkRead tag check s) := by
  fun_cases execWaymarkRead <;> exact .next _
@[simp] theorem execTableReady_goesOn (table s) : GoesOn (execTableReady table s) := by fun_cases execTableReady <;> exact .next _
@[simp] theorem execSweepStep_goesOn (forced upset arrayBad shadowBad s) : GoesOn (execSweepStep forced upset arrayBad shadowBad s) := by
  fun_cases execSweepStep <;> exact .next _

/-! ### Machine/Programs.lean -/

@[simp] theorem execProgramLoad_goesOn (tag host s) : GoesOn (execProgramLoad tag host s) := by fun_cases execProgramLoad <;> exact .next _
@[simp] theorem execProgramUnload_goesOn (tag s) : GoesOn (execProgramUnload tag s) := by fun_cases execProgramUnload <;> exact .next _
@[simp] theorem execScanRun_goesOn (tag params s) : GoesOn (execScanRun tag params s) := by fun_cases execScanRun <;> exact .next _
@[simp] theorem execScanAreaPlace_goesOn (tag s) : GoesOn (execScanAreaPlace tag s) := by fun_cases execScanAreaPlace <;> exact .next _
@[simp] theorem execScanStop_goesOn (tag s) : GoesOn (execScanStop tag s) := by fun_cases execScanStop <;> exact .next _
@[simp] theorem execScanQuery_goesOn (tag s) : GoesOn (execScanQuery tag s) := by fun_cases execScanQuery <;> exact .next _
@[simp] theorem execScanRunEnd_goesOn (tag s) : GoesOn (execScanRunEnd tag s) := by fun_cases execScanRunEnd <;> exact .next _

/-! ### Machine/KiteRun.lean -/

@[simp] theorem execInstanceDispatch_goesOn (core s) : GoesOn (execInstanceDispatch core s) := by
  fun_cases execInstanceDispatch <;> exact .next _
@[simp] theorem execQuantumExpiry_goesOn (core s) : GoesOn (execQuantumExpiry core s) := by fun_cases execQuantumExpiry <;> exact .next _
@[simp] theorem execWaitPreempt_goesOn (core s) : GoesOn (execWaitPreempt core s) := by fun_cases execWaitPreempt <;> exact .next _
@[simp] theorem execContextSaveDone_goesOn (core s) : GoesOn (execContextSaveDone core s) := by
  fun_cases execContextSaveDone <;> exact .next _
@[simp] theorem execWorklistExtend_goesOn (run num s) : GoesOn (execWorklistExtend run num s) := by
  fun_cases execWorklistExtend <;> exact .next _
@[simp] theorem execLaneBlockVisible_goesOn (run num media s) : GoesOn (execLaneBlockVisible run num media s) := by
  fun_cases execLaneBlockVisible <;> exact .next _
@[simp] theorem execTimerExpiry_goesOn (run num timer s) : GoesOn (execTimerExpiry run num timer s) := by
  fun_cases execTimerExpiry <;> exact .next _
@[simp] theorem execMboxDeliver_goesOn (run sender dest s) : GoesOn (execMboxDeliver run sender dest s) := by
  fun_cases execMboxDeliver <;> exact .next _
@[simp] theorem execEngineRequestDone_goesOn (run num engine check checker s) :
    GoesOn (execEngineRequestDone run num engine check checker s) := by
  fun_cases execEngineRequestDone <;> exact .next _

/-! ### Machine/Health.lean -/

@[simp] theorem execHealthQuery_goesOn (tag s) : GoesOn (execHealthQuery tag s) := by fun_cases execHealthQuery <;> exact .next _
@[simp] theorem execLoopAction_goesOn (island slack s) : GoesOn (execLoopAction island slack s) := by
  fun_cases execLoopAction <;> exact .next _
@[simp] theorem execLoopUndo_goesOn (island slack s) : GoesOn (execLoopUndo island slack s) := by fun_cases execLoopUndo <;> exact .next _
@[simp] theorem execDegradationMeasure_goesOn (island degradation s) : GoesOn (execDegradationMeasure island degradation s) := by
  fun_cases execDegradationMeasure <;> exact .next _
@[simp] theorem execThermalThrottle_goesOn (readings s) : GoesOn (execThermalThrottle readings s) := by
  fun_cases execThermalThrottle <;> exact .next _
@[simp] theorem execAvsWriteFail_goesOn (s) : GoesOn (execAvsWriteFail s) := by fun_cases execAvsWriteFail; exact .next _
@[simp] theorem execPlannerRun_goesOn (island found s) : GoesOn (execPlannerRun island found s) := by
  fun_cases execPlannerRun <;> exact .next _
@[simp] theorem execPlanTimeout_goesOn (s) : GoesOn (execPlanTimeout s) := by fun_cases execPlanTimeout <;> exact .next _
@[simp] theorem execMarginPlan_goesOn (tag s) : GoesOn (execMarginPlan tag s) := by fun_cases execMarginPlan <;> exact .next _
@[simp] theorem execTestSliceStart_goesOn (island s) : GoesOn (execTestSliceStart island s) := by
  fun_cases execTestSliceStart <;> exact .next _
@[simp] theorem execTestSliceAbort_goesOn (island s) : GoesOn (execTestSliceAbort island s) := by
  fun_cases execTestSliceAbort <;> exact .next _
@[simp] theorem execTestSliceDone_goesOn (island ok crypto s) : GoesOn (execTestSliceDone island ok crypto s) := by
  fun_cases execTestSliceDone <;> exact .next _
@[simp] theorem execForcedWindowAnnounce_goesOn (island s) : GoesOn (execForcedWindowAnnounce island s) := by
  fun_cases execForcedWindowAnnounce <;> exact .next _
@[simp] theorem execForcedWindow_goesOn (island ok crypto s) : GoesOn (execForcedWindow island ok crypto s) := by
  fun_cases execForcedWindow <;> exact .next _
@[simp] theorem execTestControl_goesOn (tag s) : GoesOn (execTestControl tag s) := by fun_cases execTestControl <;> exact .next _

/-! ### Machine/Media.lean -/

@[simp] theorem execLeafFetchComplete_goesOn (vol stretch level s) : GoesOn (execLeafFetchComplete vol stretch level s) := by
  fun_cases execLeafFetchComplete <;> exact .next _
@[simp] theorem execPageOut_goesOn (vol stretch s) : GoesOn (execPageOut vol stretch s) := by fun_cases execPageOut <;> exact .next _
@[simp] theorem execProgramComplete_goesOn (item s) : GoesOn (execProgramComplete item s) := by
  fun_cases execProgramComplete <;> exact .next _
@[simp] theorem execGcRun_goesOn (s) : GoesOn (execGcRun s) := by fun_cases execGcRun <;> exact .next _
@[simp] theorem execGcCommit_goesOn (vol lba s) : GoesOn (execGcCommit vol lba s) := by fun_cases execGcCommit <;> exact .next _
@[simp] theorem execRelocation_goesOn (vol lba s) : GoesOn (execRelocation vol lba s) := by fun_cases execRelocation <;> exact .next _
@[simp] theorem execSegmentSealTimeout_goesOn (band s) : GoesOn (execSegmentSealTimeout band s) := by
  fun_cases execSegmentSealTimeout <;> exact .next _
@[simp] theorem execProgramFail_goesOn (band channel s) : GoesOn (execProgramFail band channel s) := by
  fun_cases execProgramFail <;> exact .next _
@[simp] theorem execBandErase_goesOn (band s) : GoesOn (execBandErase band s) := by fun_cases execBandErase <;> exact .next _
@[simp] theorem execEraseComplete_goesOn (band failed s) : GoesOn (execEraseComplete band failed s) := by
  fun_cases execEraseComplete <;> exact .next _
@[simp] theorem execPatrolRead_goesOn (cw level s) : GoesOn (execPatrolRead cw level s) := by fun_cases execPatrolRead <;> exact .next _
@[simp] theorem execPatrolOverdue_goesOn (band s) : GoesOn (execPatrolOverdue band s) := by fun_cases execPatrolOverdue <;> exact .next _
@[simp] theorem execJournalLineFlush_goesOn (s) : GoesOn (execJournalLineFlush s) := by fun_cases execJournalLineFlush <;> exact .next _
@[simp] theorem execCheckpointStart_goesOn (s) : GoesOn (execCheckpointStart s) := by fun_cases execCheckpointStart <;> exact .next _
@[simp] theorem execCheckpointRootWrite_goesOn (s) : GoesOn (execCheckpointRootWrite s) := by
  fun_cases execCheckpointRootWrite <;> exact .next _

/-! ### Machine/Mesh.lean -/

@[simp] theorem execMeshConfig_goesOn (tag s) : GoesOn (execMeshConfig tag s) := by fun_cases execMeshConfig <;> exact .next _

/-! ### Machine/Links.lean -/

@[simp] theorem execTetherFlitReceive_goesOn (f s) : GoesOn (execTetherFlitReceive f s) := by
  fun_cases execTetherFlitReceive <;> exact .next _
@[simp] theorem execTetherReplayTimeout_goesOn (s) : GoesOn (execTetherReplayTimeout s) := by
  fun_cases execTetherReplayTimeout <;> exact .next _
@[simp] theorem execTetherLinkReset_goesOn (speed width s) : GoesOn (execTetherLinkReset speed width s) := by
  fun_cases execTetherLinkReset <;> exact .next _
@[simp] theorem execPortFailed_goesOn (port s) : GoesOn (execPortFailed port s) := by fun_cases execPortFailed <;> exact .next _
@[simp] theorem execTrailReplayTimeout_goesOn (port s) : GoesOn (execTrailReplayTimeout port s) := by
  fun_cases execTrailReplayTimeout <;> exact .next _
@[simp] theorem execTrailFlitReceive_goesOn (port f s) : GoesOn (execTrailFlitReceive port f s) := by
  fun_cases execTrailFlitReceive <;> exact .next _
@[simp] theorem execLinkHello_goesOn (port serial node shape pub verified s) :
    GoesOn (execLinkHello port serial node shape pub verified s) := by
  fun_cases execLinkHello <;> exact .next _
@[simp] theorem execLinkState_goesOn (src seq failed s) : GoesOn (execLinkState src seq failed s) := by
  fun_cases execLinkState <;> exact .next _
@[simp] theorem execUnreachable_goesOn (src id typ s) : GoesOn (execUnreachable src id typ s) := by
  fun_cases execUnreachable <;> exact .next _

/-! ### Machine/Faults.lean -/

@[simp] theorem execContainReady_goesOn (island s) : GoesOn (execContainReady island s) := by fun_cases execContainReady <;> exact .next _
@[simp] theorem execFaultReaction_goesOn (s) : GoesOn (execFaultReaction s) := by fun_cases execFaultReaction <;> exact .next _
@[simp] theorem execFaultRaise_goesOn (src level s) : GoesOn (execFaultRaise src level s) := by fun_cases execFaultRaise <;> exact .next _
@[simp] theorem execQuietPeriodEnd_goesOn (s) : GoesOn (execQuietPeriodEnd s) := by fun_cases execQuietPeriodEnd <;> exact .next _

/-! ### Machine/Dump.lean -/

@[simp] theorem execPwrFailAssert_goesOn (s) : GoesOn (execPwrFailAssert s) := by fun_cases execPwrFailAssert <;> exact .next _
@[simp] theorem execDumpComplete_goesOn (us s) : GoesOn (execDumpComplete us s) := by fun_cases execDumpComplete <;> exact .next _
@[simp] theorem execWarmRestart_goesOn (s) : GoesOn (execWarmRestart s) := by fun_cases execWarmRestart <;> exact .next _
@[simp] theorem execHoldupSenseStuck_goesOn (s) : GoesOn (execHoldupSenseStuck s) := by fun_cases execHoldupSenseStuck <;> exact .next _
@[simp] theorem execRailLoss_goesOn (s) : GoesOn (execRailLoss s) := by fun_cases execRailLoss <;> exact .next _

/-! ### Machine/PairRun.lean -/

@[simp] theorem execTetherPair_goesOn (tag host s) : GoesOn (execTetherPair tag host s) := by fun_cases execTetherPair <;> exact .next _
@[simp] theorem execPairHelloTimeout_goesOn (s) : GoesOn (execPairHelloTimeout s) := by fun_cases execPairHelloTimeout <;> exact .next _
@[simp] theorem execTetherUnpair_goesOn (tag s) : GoesOn (execTetherUnpair tag s) := by fun_cases execTetherUnpair <;> exact .next _
@[simp] theorem execUnpair_goesOn (s) : GoesOn (execUnpair s) := by fun_cases execUnpair <;> exact .next _
@[simp] theorem execHello_goesOn (m s) : GoesOn (execHello m s) := by fun_cases execHello <;> exact .next _
@[simp] theorem execKeyTransfer_goesOn (vol install capacity attrs s) : GoesOn (execKeyTransfer vol install capacity attrs s) := by
  fun_cases execKeyTransfer <;> exact .next _
@[simp] theorem execMirrorWrite_goesOn (seq vol op lba blocks data s) : GoesOn (execMirrorWrite seq vol op lba blocks data s) := by
  fun_cases execMirrorWrite <;> exact .next _
@[simp] theorem execMirrorConfirm_goesOn (seq s) : GoesOn (execMirrorConfirm seq s) := by fun_cases execMirrorConfirm <;> exact .next _
@[simp] theorem execMirrorRelease_goesOn (seq s) : GoesOn (execMirrorRelease seq s) := by fun_cases execMirrorRelease <;> exact .next _
@[simp] theorem execJournal_goesOn (first recs s) : GoesOn (execJournal first recs s) := by fun_cases execJournal <;> exact .next _
@[simp] theorem execJournalConfirm_goesOn (last s) : GoesOn (execJournalConfirm last s) := by fun_cases execJournalConfirm <;> exact .next _
@[simp] theorem execRoot_goesOn (no r s) : GoesOn (execRoot no r s) := by fun_cases execRoot <;> exact .next _
@[simp] theorem execHeartbeat_goesOn (count state status readOnly s) : GoesOn (execHeartbeat count state status readOnly s) := by
  fun_cases execHeartbeat <;> exact .next _
@[simp] theorem execHeartbeatSend_goesOn (s) : GoesOn (execHeartbeatSend s) := by fun_cases execHeartbeatSend <;> exact .next _
@[simp] theorem execHeartbeatTimeout_goesOn (s) : GoesOn (execHeartbeatTimeout s) := by fun_cases execHeartbeatTimeout <;> exact .next _
@[simp] theorem execProbeTimer_goesOn (s) : GoesOn (execProbeTimer s) := by fun_cases execProbeTimer <;> exact .next _
@[simp] theorem execClaimRetry_goesOn (s) : GoesOn (execClaimRetry s) := by fun_cases execClaimRetry <;> exact .next _
@[simp] theorem execProbe_goesOn (src pairId sender target number s) : GoesOn (execProbe src pairId sender target number s) := by
  fun_cases execProbe <;> exact .next _
@[simp] theorem execProbeAck_goesOn (src pairId sender target number state status s) :
    GoesOn (execProbeAck src pairId sender target number state status s) := by
  fun_cases execProbeAck <;> exact .next _
@[simp] theorem execClaim_goesOn (src pairId claimant partner number release s) :
    GoesOn (execClaim src pairId claimant partner number release s) := by
  fun_cases execClaim <;> exact .next _
@[simp] theorem execClaimGrant_goesOn (src pairId claimant partner number release s) :
    GoesOn (execClaimGrant src pairId claimant partner number release s) := by
  fun_cases execClaimGrant <;> exact .next _
@[simp] theorem execClaimRefuse_goesOn (src pairId claimant partner number holder s) :
    GoesOn (execClaimRefuse src pairId claimant partner number holder s) := by
  fun_cases execClaimRefuse <;> exact .next _
@[simp] theorem execYieldMsg_goesOn (s) : GoesOn (execYieldMsg s) := by fun_cases execYieldMsg <;> exact .next _
@[simp] theorem execTakeover_goesOn (tag s) : GoesOn (execTakeover tag s) := by fun_cases execTakeover <;> exact .next _
@[simp] theorem execTetherStable_goesOn (s) : GoesOn (execTetherStable s) := by fun_cases execTetherStable <;> exact .next _
@[simp] theorem execPartnerDirectoryRebuild_goesOn (found s) : GoesOn (execPartnerDirectoryRebuild found s) := by
  fun_cases execPartnerDirectoryRebuild <;> exact .next _
@[simp] theorem execBlockRead_goesOn (req vol lba blocks media s) : GoesOn (execBlockRead req vol lba blocks media s) := by
  fun_cases execBlockRead <;> exact .next _
@[simp] theorem execBlockData_goesOn (req status data s) : GoesOn (execBlockData req status data s) := by
  fun_cases execBlockData <;> exact .next _
@[simp] theorem execHandback_goesOn (wseq vol form lba data s) : GoesOn (execHandback wseq vol form lba data s) := by
  fun_cases execHandback <;> exact .next _
@[simp] theorem execHandbackPass_goesOn (media s) : GoesOn (execHandbackPass media s) := by fun_cases execHandbackPass <;> exact .next _
@[simp] theorem execCutover_goesOn (s) : GoesOn (execCutover s) := by fun_cases execCutover <;> exact .next _
@[simp] theorem execTunnel_goesOn (src m s) : GoesOn (execTunnel src m s) := by fun_cases execTunnel <;> exact .next _

/-! ### Machine/Stripes.lean -/

@[simp] theorem execStripeGroupJoin_goesOn (tag host s) : GoesOn (execStripeGroupJoin tag host s) := by
  fun_cases execStripeGroupJoin <;> exact .next _
@[simp] theorem execGroupHello_goesOn (src group k m index digest s) : GoesOn (execGroupHello src group k m index digest s) := by
  fun_cases execGroupHello <;> exact .next _
@[simp] theorem execGroupHelloTimeout_goesOn (group s) : GoesOn (execGroupHelloTimeout group s) := by
  fun_cases execGroupHelloTimeout <;> exact .next _
@[simp] theorem execStripeGroupLeave_goesOn (tag s) : GoesOn (execStripeGroupLeave tag s) := by
  fun_cases execStripeGroupLeave <;> exact .next _
@[simp] theorem execIntent_goesOn (src group stripe d band seg s) : GoesOn (execIntent src group stripe d band seg s) := by
  fun_cases execIntent <;> exact .next _
@[simp] theorem execIntentReply_goesOn (src group stripe answer lowest s) : GoesOn (execIntentReply src group stripe answer lowest s) := by
  fun_cases execIntentReply <;> exact .next _
@[simp] theorem execStripeDeadline_goesOn (group stripe s) : GoesOn (execStripeDeadline group stripe s) := by
  fun_cases execStripeDeadline <;> exact .next _
@[simp] theorem execClose_goesOn (src group stripe r s) : GoesOn (execClose src group stripe r s) := by
  fun_cases execClose <;> exact .next _
@[simp] theorem execContrib_goesOn (src group stripe p d j x s) : GoesOn (execContrib src group stripe p d j x s) := by
  fun_cases execContrib <;> exact .next _
@[simp] theorem execParityProgram_goesOn (group stripe s) : GoesOn (execParityProgram group stripe s) := by
  fun_cases execParityProgram <;> exact .next _
@[simp] theorem execParityDone_goesOn (src group stripe j s) : GoesOn (execParityDone src group stripe j s) := by
  fun_cases execParityDone <;> exact .next _
@[simp] theorem execResend_goesOn (src group stripe d s) : GoesOn (execResend src group stripe d s) := by
  fun_cases execResend <;> exact .next _
@[simp] theorem execLocate_goesOn (src group request member band seg s) : GoesOn (execLocate src group request member band seg s) := by
  fun_cases execLocate <;> exact .next _
@[simp] theorem execStripeIndexReady_goesOn (s) : GoesOn (execStripeIndexReady s) := by fun_cases execStripeIndexReady <;> exact .next _
@[simp] theorem execGossipSend_goesOn (s) : GoesOn (execGossipSend s) := by fun_cases execGossipSend <;> exact .next _
@[simp] theorem execGossip_goesOn (src group dead s) : GoesOn (execGossip src group dead s) := by fun_cases execGossip <;> exact .next _
@[simp] theorem execRelease_goesOn (src group stripe s) : GoesOn (execRelease src group stripe s) := by
  fun_cases execRelease <;> exact .next _

/-! ### Machine/Rebuild.lean -/

@[simp] theorem execReconReq_goesOn (src group request stripe weight p n d row media s) :
    GoesOn (execReconReq src group request stripe weight p n d row media s) := by
  fun_cases execReconReq <;> exact .next _
@[simp] theorem execReconSlice_goesOn (src request p d row x s) : GoesOn (execReconSlice src request p d row x s) := by
  fun_cases execReconSlice <;> exact .next _
@[simp] theorem execRebuildStart_goesOn (tag s) : GoesOn (execRebuildStart tag s) := by fun_cases execRebuildStart <;> exact .next _
@[simp] theorem execRebuildStatus_goesOn (tag s) : GoesOn (execRebuildStatus tag s) := by fun_cases execRebuildStatus <;> exact .next _
@[simp] theorem execLocateAns_goesOn (src request recs s) : GoesOn (execLocateAns src request recs s) := by
  fun_cases execLocateAns <;> exact .next _
@[simp] theorem execRebuildPlan_goesOn (src group stripe chain media s) : GoesOn (execRebuildPlan src group stripe chain media s) := by
  fun_cases execRebuildPlan <;> exact .next _
@[simp] theorem execRebuildPart_goesOn (src group stripe p d row x s) : GoesOn (execRebuildPart src group stripe p d row x s) := by
  fun_cases execRebuildPart <;> exact .next _
@[simp] theorem execMemberUpdate_goesOn (src group u s) : GoesOn (execMemberUpdate src group u s) := by
  fun_cases execMemberUpdate <;> exact .next _
@[simp] theorem execMemberLost_goesOn (group index s) : GoesOn (execMemberLost group index s) := by
  fun_cases execMemberLost <;> exact .next _

/-! ### Machine/Boot.lean -/

@[simp] theorem execBoot_goesOn (found s) : GoesOn (execBoot found s) := by fun_cases execBoot <;> exact .next _

/-! ### Machine/Slots.lean -/

@[simp] theorem execSlotWrite_goesOn (addr data enables poisoned idePassed s) :
    GoesOn (execSlotWrite addr data enables poisoned idePassed s) := by
  fun_cases execSlotWrite <;> exact .next _
@[simp] theorem execIntakeAccept_goesOn (s) : GoesOn (execIntakeAccept s) := by fun_cases execIntakeAccept <;> exact .next _
@[simp] theorem execLockGrant_goesOn (tag s) : GoesOn (execLockGrant tag s) := by fun_cases execLockGrant <;> exact .next _
@[simp] theorem execLockEntryFree_goesOn (s) : GoesOn (execLockEntryFree s) := by fun_cases execLockEntryFree <;> exact .next _
@[simp] theorem execStagingAdmit_goesOn (s) : GoesOn (execStagingAdmit s) := by fun_cases execStagingAdmit <;> exact .next _
@[simp] theorem execFragmentListRead_goesOn (tag host s) : GoesOn (execFragmentListRead tag host s) := by
  fun_cases execFragmentListRead <;> exact .next _
@[simp] theorem execCommandComplete_goesOn (tag s) : GoesOn (execCommandComplete tag s) := by
  fun_cases execCommandComplete <;> exact .next _
@[simp] theorem execReplyWriteError_goesOn (ring src s) : GoesOn (execReplyWriteError ring src s) := by
  fun_cases execReplyWriteError <;> exact .next _
@[simp] theorem execRingFullNotice_goesOn (ring s) : GoesOn (execRingFullNotice ring s) := by fun_cases execRingFullNotice <;> exact .next _
@[simp] theorem execCoalesceTimeout_goesOn (ring s) : GoesOn (execCoalesceTimeout ring s) := by
  fun_cases execCoalesceTimeout <;> exact .next _
@[simp] theorem execMsixUnmask_goesOn (w s) : GoesOn (execMsixUnmask w s) := by fun_cases execMsixUnmask <;> exact .next _

/-! ### Machine/Control.lean -/

@[simp] theorem execAbort_goesOn (tag s) : GoesOn (execAbort tag s) := by fun_cases execAbort <;> exact .next _
@[simp] theorem execNop_goesOn (tag s) : GoesOn (execNop tag s) := by fun_cases execNop <;> exact .next _

/-! ### Machine/Dram.lean -/

@[simp] theorem execDramRequest_goesOn (r s) : GoesOn (execDramRequest r s) := by fun_cases execDramRequest <;> exact .next _
@[simp] theorem execRowIdleTimeout_goesOn (sub bank s) : GoesOn (execRowIdleTimeout sub bank s) := by
  fun_cases execRowIdleTimeout <;> exact .next _
@[simp] theorem execNrReseed_goesOn (channel s) : GoesOn (execNrReseed channel s) := by fun_cases execNrReseed <;> exact .next _
@[simp] theorem execRefreshDue_goesOn (rank postpone s) : GoesOn (execRefreshDue rank postpone s) := by
  fun_cases execRefreshDue <;> exact .next _
@[simp] theorem execMr4Poll_goesOn (rank field s) : GoesOn (execMr4Poll rank field s) := by fun_cases execMr4Poll <;> exact .next _
@[simp] theorem execScrub_goesOn (line check s) : GoesOn (execScrub line check s) := by fun_cases execScrub <;> exact .next _
@[simp] theorem execDqsRetrack_goesOn (rank moved s) : GoesOn (execDqsRetrack rank moved s) := by fun_cases execDqsRetrack <;> exact .next _
@[simp] theorem execDramFullRetrain_goesOn (channel clean s) : GoesOn (execDramFullRetrain channel clean s) := by
  fun_cases execDramFullRetrain <;> exact .next _

/-! ### Machine/Footpath.lean -/

@[simp] theorem execFootpathCommand_goesOn (bytes crc s) : GoesOn (execFootpathCommand bytes crc s) := by
  fun_cases execFootpathCommand <;> exact .next _
@[simp] theorem execFootpathData_goesOn (bytes crc s) : GoesOn (execFootpathData bytes crc s) := by
  fun_cases execFootpathData <;> exact .next _
@[simp] theorem execFootpathNak_goesOn (bytes crc s) : GoesOn (execFootpathNak bytes crc s) := by
  fun_cases execFootpathNak <;> exact .next _
@[simp] theorem execFootpathBaud_goesOn (bytes crc s) : GoesOn (execFootpathBaud bytes crc s) := by
  fun_cases execFootpathBaud <;> exact .next _
@[simp] theorem execFootpathBreak_goesOn (s) : GoesOn (execFootpathBreak s) := by fun_cases execFootpathBreak <;> exact .next _
@[simp] theorem execPacketIdleTimeout_goesOn (s) : GoesOn (execPacketIdleTimeout s) := by fun_cases execPacketIdleTimeout <;> exact .next _
@[simp] theorem execDataChunkTimeout_goesOn (s) : GoesOn (execDataChunkTimeout s) := by fun_cases execDataChunkTimeout <;> exact .next _
@[simp] theorem execFootpathBadKind_goesOn (kind s) : GoesOn (execFootpathBadKind kind s) := by
  fun_cases execFootpathBadKind <;> exact .next _

/-! ### Machine/Kite.lean -/

@[simp] theorem execKRep_goesOn (core most check s) : GoesOn (execKRep core most check s) := by fun_cases execKRep <;> exact .next _
@[simp] theorem execKWait_goesOn (core s) : GoesOn (execKWait core s) := by fun_cases execKWait <;> exact .next _
@[simp] theorem execKHalt_goesOn (core s) : GoesOn (execKHalt core s) := by fun_cases execKHalt <;> exact .next _
@[simp] theorem execIllegalInstruction_goesOn (core check s) : GoesOn (execIllegalInstruction core check s) := by
  fun_cases execIllegalInstruction <;> exact .next _

/-! ### Machine/Link.lean -/

@[simp] theorem execLinkTraining_goesOn (speed width alternate reversed s) :
    GoesOn (execLinkTraining speed width alternate reversed s) := by
  fun_cases execLinkTraining <;> exact .next _
@[simp] theorem execLinkDowntrain_goesOn (speed width s) : GoesOn (execLinkDowntrain speed width s) := by
  fun_cases execLinkDowntrain <;> exact .next _
@[simp] theorem execIdeCheckFail_goesOn (cm s) : GoesOn (execIdeCheckFail cm s) := by fun_cases execIdeCheckFail <;> exact .next _
@[simp] theorem execIdeKeyRefresh_goesOn (cm s) : GoesOn (execIdeKeyRefresh cm s) := by fun_cases execIdeKeyRefresh <;> exact .next _
@[simp] theorem execDoeMessage_goesOn (m s) : GoesOn (execDoeMessage m s) := by fun_cases execDoeMessage <;> exact .next _
@[simp] theorem execGpfPhase1_goesOn (s) : GoesOn (execGpfPhase1 s) := by fun_cases execGpfPhase1 <;> exact .next _
@[simp] theorem execGpfPhase2_goesOn (s) : GoesOn (execGpfPhase2 s) := by fun_cases execGpfPhase2 <;> exact .next _
@[simp] theorem execCxlMemRead_goesOn (addr check s) : GoesOn (execCxlMemRead addr check s) := by fun_cases execCxlMemRead <;> exact .next _
@[simp] theorem execCxlMemWrite_goesOn (addr data check s) : GoesOn (execCxlMemWrite addr data check s) := by
  fun_cases execCxlMemWrite <;> exact .next _
@[simp] theorem execHdmDecoderCommit_goesOn (index base size ways gran pos s) :
    GoesOn (execHdmDecoderCommit index base size ways gran pos s) := by
  fun_cases execHdmDecoderCommit <;> exact .next _
@[simp] theorem execFlr_goesOn (s) : GoesOn (execFlr s) := by fun_cases execFlr <;> exact .next _
@[simp] theorem execConventionalReset_goesOn (kind s) : GoesOn (execConventionalReset kind s) := by
  fun_cases execConventionalReset <;> exact .next _
@[simp] theorem execPerstDeassert_goesOn (s) : GoesOn (execPerstDeassert s) := by fun_cases execPerstDeassert <;> exact .next _
@[simp] theorem execPowerOn_goesOn (s) : GoesOn (execPowerOn s) := by fun_cases execPowerOn <;> exact .next _
@[simp] theorem execHandshakeTimeout_goesOn (island sender s) : GoesOn (execHandshakeTimeout island sender s) := by
  fun_cases execHandshakeTimeout <;> exact .next _
@[simp] theorem execIslandIdleGate_goesOn (island s) : GoesOn (execIslandIdleGate island s) := by
  fun_cases execIslandIdleGate <;> exact .next _
@[simp] theorem execIslandWake_goesOn (island banksLost s) : GoesOn (execIslandWake island banksLost s) := by
  fun_cases execIslandWake <;> exact .next _

/-! ### Machine/Power.lean -/

@[simp] theorem execPowerSet_goesOn (tag s) : GoesOn (execPowerSet tag s) := by fun_cases execPowerSet <;> exact .next _
@[simp] theorem execPowerQuery_goesOn (tag s) : GoesOn (execPowerQuery tag s) := by fun_cases execPowerQuery <;> exact .next _
@[simp] theorem execGlideIdleEntry_goesOn (s) : GoesOn (execGlideIdleEntry s) := by fun_cases execGlideIdleEntry; exact .next _
@[simp] theorem execMooredIdleEntry_goesOn (s) : GoesOn (execMooredIdleEntry s) := by fun_cases execMooredIdleEntry; exact .next _
@[simp] theorem execTransitionPhaseEnd_goesOn (imageOk lost s) : GoesOn (execTransitionPhaseEnd imageOk lost s) := by
  fun_cases execTransitionPhaseEnd <;> exact .next _
@[simp] theorem execCommandedEntryTimeout_goesOn (s) : GoesOn (execCommandedEntryTimeout s) := by
  fun_cases execCommandedEntryTimeout <;> exact .next _
@[simp] theorem execLinkL2Entry_goesOn (s) : GoesOn (execLinkL2Entry s) := by fun_cases execLinkL2Entry <;> exact .next _
@[simp] theorem execBallastArmExpiry_goesOn (s) : GoesOn (execBallastArmExpiry s) := by fun_cases execBallastArmExpiry <;> exact .next _
@[simp] theorem execMooredWake_goesOn (cause s) : GoesOn (execMooredWake cause s) := by fun_cases execMooredWake <;> exact .next _
@[simp] theorem execWakeNAssert_goesOn (s) : GoesOn (execWakeNAssert s) := by fun_cases execWakeNAssert <;> exact .next _
@[simp] theorem execWakeStuck_goesOn (s) : GoesOn (execWakeStuck s) := by fun_cases execWakeStuck <;> exact .next _
@[simp] theorem execWakeNRelease_goesOn (s) : GoesOn (execWakeNRelease s) := by fun_cases execWakeNRelease <;> exact .next _
@[simp] theorem execBrownOut_goesOn (s) : GoesOn (execBrownOut s) := by fun_cases execBrownOut <;> exact .next _
@[simp] theorem execFpRxdWake_goesOn (s) : GoesOn (execFpRxdWake s) := by fun_cases execFpRxdWake <;> exact .next _
@[simp] theorem execBallastExit_goesOn (s) : GoesOn (execBallastExit s) := by fun_cases execBallastExit <;> exact .next _

/-! ### Machine/Security.lean -/

@[simp] theorem execKeyImport_goesOn (tag host s) : GoesOn (execKeyImport tag host s) := by fun_cases execKeyImport <;> exact .next _
@[simp] theorem execKeyDestroy_goesOn (tag s) : GoesOn (execKeyDestroy tag s) := by fun_cases execKeyDestroy <;> exact .next _
@[simp] theorem execExtend_goesOn (tag host s) : GoesOn (execExtend tag host s) := by fun_cases execExtend <;> exact .next _
@[simp] theorem execAttest_goesOn (tag host s) : GoesOn (execAttest tag host s) := by fun_cases execAttest <;> exact .next _
@[simp] theorem execSelfTest_goesOn (tag failed s) : GoesOn (execSelfTest tag failed s) := by fun_cases execSelfTest <;> exact .next _
@[simp] theorem execPeriodicSelftest_goesOn (failed s) : GoesOn (execPeriodicSelftest failed s) := by
  fun_cases execPeriodicSelftest <;> exact .next _
@[simp] theorem execSecurityAlarm_goesOn (cause s) : GoesOn (execSecurityAlarm cause s) := by fun_cases execSecurityAlarm <;> exact .next _
@[simp] theorem execSanitise_goesOn (tag s) : GoesOn (execSanitise tag s) := by fun_cases execSanitise <;> exact .next _
@[simp] theorem execSanitiseStart_goesOn (s) : GoesOn (execSanitiseStart s) := by fun_cases execSanitiseStart <;> exact .next _
@[simp] theorem execSanitiseUnitDone_goesOn (failed s) : GoesOn (execSanitiseUnitDone failed s) := by
  fun_cases execSanitiseUnitDone <;> exact .next _
@[simp] theorem execSanitiseStatus_goesOn (tag s) : GoesOn (execSanitiseStatus tag s) := by fun_cases execSanitiseStatus <;> exact .next _

/-! ### Every command -/

/-- Every command goes on: a register write and a few more have one next state, a Kite instruction goes through `kiteRun`, and the
other commands' branches are listed above. -/
theorem exec_goesOn (c : Instr) (s : State) : GoesOn (exec c s) := by
  cases c
  case replyWrite | rrhHeadWrite | rrhIntMaskClear | tskRing0CtrlWrite | hstBiasFlipGo | fltAckWrite | fltSrcWrite | fltCeLimitWrite
      | fpLockWrite | medGcCtrlWrite | medSealTimerWrite | medPatrolCtrlWrite | kclCfgWrite | waycTableEnable | waycTableDisable
      | hltPolicyWrite | pairWitnessWrite | meshRebuildCtrlWrite | secDgCtrlWrite | registerWrite | linkRekey | inputGlitch
      | fpRdyInChange | shadowWindowEnd | pwrFailDeassert | tapInstruction | tapReset =>
    exact .next _
  case kAdd | kSub | kAdc | kSbc | kAnd | kOr | kXor | kMov | kCmp | kTst | kShl | kShr | kSar | kRol | kMul | kMulh | kAddi | kCmpi
      | kMovi | kBeq | kBne | kBcs | kBcc | kBmi | kBpl | kBms | kBmc | kBhi | kBls | kBge | kBlt | kBgt | kBle | kBal | kBvs | kLd
      | kSt | kLdb | kStb | kIn | kOut | kJmp | kCall | kRet | kBrpt | kCopy | kMatch | kSeek | kPull | kPush | kFill | kiteNop
      | kTrap | kMovsr | kLdpw | scanData | scanRelease | evClear | timerLoad | mboxRecv | mboxSend | wmGo | dgOpen | dgFeed
      | dgFinal | cpGo | dmaPut | dmaAppend =>
    exact kiteRun_goesOn _ _ _
  all_goals simp [exec]

theorem step_goesOn (s : State) : GoesOn (step s) := by
  fun_cases step
  · exact .next _
  · exact exec_goesOn _ _

/-- Settles O47: a tick is a next state, and every command goes on. -/
theorem everyStepAnswersANextState : Obligations.EveryStepAnswersANextState := step_goesOn

end Sys2Proof.Machine
end

section
/-! SUPPORT. The commands that change blocks: WRITE, TRIM, WRITE_ZEROES and FLUSH (R24, R76, R104, R131, R343). -/

namespace Sys2Proof.Machine
open Sys2Proof

/-- A WRITE whose checks have passed and whose data has come in lands it in staging; the partner's mirror alone decides how it goes on. -/
theorem execWrite_of_admitted {s : State} {tag : Nat} {o : Op} {host : HostRead} {b : List Byte} (accepted : opFor s tag 0x0402 = some o)
    (writable : readOnly s = false) (volume : sameVolume s o = true) (fresh : o.stage ≠ .running)
    (unheld : fosterWaits s o.pkt.vol = false) (room : admitted s o = true) (data : input s o host o.pkt.dlen = some (.data b)) :
    exec (.write tag host) s =
      if mirroring s && !isFoster s o.pkt.vol then .next (sendMirror (landWrite s o true b) o 0 o.pkt.blocks b)
      else .next (complete (settleStaged (landWrite s o false b) o) tag (ok 0 0)) := by
  change execWrite tag host s = _
  simp only [execWrite, accepted, writable, volume, fresh, unheld, room, data]
  cases mirroring s && !isFoster s o.pkt.vol <;> rfl

/-- A WRITE that the partner has confirmed settles its staged blocks. -/
theorem execWrite_of_confirmed {s : State} {tag : Nat} {o : Op} {host : HostRead} (accepted : opFor s tag 0x0402 = some o)
    (writable : readOnly s = false) (volume : sameVolume s o = true) (began : o.stage = .running) (confirmed : o.mirror = none) :
    exec (.write tag host) s = .next (complete (settleStaged s o) tag (ok 0 0)) := by
  change execWrite tag host s = _
  simp [execWrite, accepted, writable, volume, began, confirmed]

theorem execWrite_of_readOnly {s : State} {tag : Nat} {o : Op} {host : HostRead} (accepted : opFor s tag 0x0402 = some o)
    (unwritable : readOnly s = true) :
    exec (.write tag host) s = .next (dropWrite s o { status := stReadOnly }) := by
  change execWrite tag host s = _
  simp [execWrite, accepted, unwritable]

theorem execTrim_of_opFor {s : State} {tag : Nat} {o : Op} (accepted : opFor s tag 0x0403 = some o) :
    exec (.trim tag) s = .next (zeroCommand s o 1) := by
  change execTrim tag s = _
  simp only [execTrim, accepted]

theorem execWriteZeroes_of_opFor {s : State} {tag : Nat} {o : Op} (accepted : opFor s tag 0x0406 = some o) :
    exec (.writeZeroes tag) s = .next (zeroCommand s o 2) := by
  change execWriteZeroes tag s = _
  simp only [execWriteZeroes, accepted]

/-- TRIM and WRITE_ZEROES without a partner, their map pages resident and the journal with room: the range is zeroed and unstaged, the
mirror's entries alone are marked besides, and the command completes. -/
theorem zeroCommand_of_unmirrored {s u : State} {o : Op} (op : Nat)
    (writable : readOnly s = false) (volume : sameVolume s o = true) (fresh : o.stage ≠ .running)
    (unheld : fosterWaits s o.pkt.vol = false) (room : admitted s o = true) (alone : mirroring s = false)
    (pages : pagesReady (running s o.tag) o.pkt.vol (rangeStretches o.pkt.addr o.pkt.blocks) = (true, u))
    (space : jRoom u ((rangeStretches o.pkt.addr o.pkt.blocks).length + 2) = true) :
    ∃ t, zeroCommand s o op = complete (releaseMirror t) o.tag (ok 0 0) ∧
      ChangesOnly [.pair]
        (unstageRange (zeroRange u o.pkt.vol o.pkt.addr o.pkt.blocks) o.pkt.vol o.pkt.addr o.pkt.blocks o.seq) t := by
  simp only [zeroCommand, writable, volume, fresh, unheld, room, alone, pages, space, Bool.not_true, Bool.false_and, Bool.false_eq_true,
    if_false]
  exact ⟨_, rfl, upPair_fr _ _⟩

theorem execFlush_of_opFor {s : State} {tag : Nat} {o : Op} (accepted : opFor s tag 0x0404 = some o) (volume : sameVolume s o = true) :
    exec (.flush tag) s = .next (if writesEnded s o.pkt.vol o.seq then finish s tag (ok 0 0) else running s tag) := by
  change execFlush tag s = _
  simp only [execFlush, accepted, volume]
  cases writesEnded s o.pkt.vol o.seq <;> rfl

/-- Settles O9: each clause is the branch of its command that the clause's conditions select. -/
theorem writeCommandsComplete : Obligations.WriteCommandsComplete := by
  refine ⟨?_, ?_, ?_, ?_, ?_, ?_, ?_, ?_⟩
  · intro s tag o host b accepted writable volume fresh unheld room data alone
    rw [execWrite_of_admitted accepted writable volume fresh unheld room data, alone]
    rfl
  · intro s tag o host b accepted writable volume fresh unheld room data beside own
    rw [execWrite_of_admitted accepted writable volume fresh unheld room data, beside, own]
    rfl
  · exact fun _ _ _ _ => execWrite_of_confirmed
  · exact fun _ _ _ _ => execWrite_of_readOnly
  · rintro s _ o u accepted writable volume fresh unheld room alone pages space rfl
    obtain ⟨t, zeroed, frame⟩ := zeroCommand_of_unmirrored 1 writable volume fresh unheld room alone pages space
    exact ⟨t, (execTrim_of_opFor accepted).trans (congrArg _ zeroed), frame⟩
  · rintro s _ o u accepted writable volume fresh unheld room alone pages space rfl
    obtain ⟨t, zeroed, frame⟩ := zeroCommand_of_unmirrored 2 writable volume fresh unheld room alone pages space
    exact ⟨t, (execWriteZeroes_of_opFor accepted).trans (congrArg _ zeroed), frame⟩
  · intro s tag o accepted volume ended
    rw [execFlush_of_opFor accepted volume, if_pos ended]
  · intro s tag o accepted volume going
    rw [execFlush_of_opFor accepted volume, if_neg (by simp [going])]

end Sys2Proof.Machine
end

section
/-! SUPPORT. The host link's commands: training, IDE, persistent flush, CXL.mem, the HDM decoders, and the islands' bridges and gates
(R14, R30, R31, R40, R41, R46, R50, R51, R390, R392). -/

namespace Sys2Proof.Machine
open Sys2Proof

/-! ### Training -/

theorem linkTraining_of_down {s : State} {speed width : Nat} {alternate reversed : Bool} (slowest : 1 ≤ speed) (fastest : speed ≤ 5)
    (lanes : width = 1 ∨ width = 2 ∨ width = 4 ∨ width = 8) (down : s.hst.mode = 0) (powered : s.glb.poweredOn = true)
    (perst : s.pwr.perstN = true) (notBallast : s.pwr.state ≠ 3) (serving : s.flt.containing.contains islHost = false) :
    exec (.linkTraining speed width alternate reversed) s = .next { s with
      hst := { s.hst with speed, width, laneReversed := reversed, mode := if alternate && decide (3 ≤ speed) then 2 else 1 }
      glb := { s.glb with configReady := true } } := by
  have lanesOk : (width == 1 || width == 2 || width == 4 || width == 8) = true := by simpa [or_assoc] using lanes
  exact if_neg (by simp [-List.contains_eq_mem, slowest, fastest, lanesOk, down, powered, perst, notBallast, serving])

/-- What LINK_DOWNTRAIN leaves of the link before its source is raised. -/
def downtrained (s : State) (speed width : Nat) : State :=
  upHst s (fun h => { h with
    speed, width, evSpeed := h.evSpeed || decide (speed < h.speed), evWidth := h.evWidth || decide (width < h.width) })

theorem linkDowntrain_of_lower {s : State} {speed width : Nat} (linked : s.hst.mode ≠ 0) (slowest : 1 ≤ speed) (fastest : speed ≤ 5)
    (cxlSpeed : s.hst.mode = 1 ∨ 3 ≤ speed) (lower : speed < s.hst.speed ∨ width < s.hst.width)
    (lanes : width = 1 ∨ width = 2 ∨ width = 4 ∨ width = 8) :
    exec (.linkDowntrain speed width) s = .next (raise (downtrained s speed width) srcDowntrain) := by
  have lanesOk : (width == 1 || width == 2 || width == 4 || width == 8) = true := by simpa [or_assoc] using lanes
  have speedOk : (s.hst.mode == 1 || decide (3 ≤ speed)) = true := by simpa using cxlSpeed
  have lowerOk : (decide (speed < s.hst.speed) || decide (width < s.hst.width)) = true := by simpa using lower
  exact if_neg (by simp [linked, slowest, fastest, lanesOk, speedOk, lowerOk])

/-! ### IDE and GPF -/

theorem ideCheckFail_of_secure {s : State} (linked : s.hst.mode ≠ 0) (secure : s.hst.ideCm = true) :
    exec (.ideCheckFail true) s = .next (reApprove (raise
      (logRas (upHst s (fun h => { h with ideCm := false, cmHeld := true, evIdeCm := true })) rasIde 0) (unit islHost 4))) := by
  exact if_neg (by simp [linked, secure])

theorem ideKeyRefresh_of_held {s : State} (session : s.hst.session ≠ 0) (sound : s.sec.errorState = false)
    (held : s.hst.cmHeld = true) :
    exec (.ideKeyRefresh true) s = .next (reApprove (msixFlush (upHst s (fun h => { h with ideCm := true, cmHeld := false })))) := by
  exact if_neg (by simp [session, sound, held])

theorem gpfPhase1_of_cacheUp {s : State} (cache : cacheUp s = true) :
    exec .gpfPhase1 s = .next (upHst ((s.tsk.rings.map (·.1)).foldl drainRing s) (fun h => { h with hostLines := 0 })) := by
  exact if_neg (by simp [cache])

theorem gpfPhase2_of_cxl {s : State} (cxl : s.hst.mode = 2) :
    exec .gpfPhase2 s = .next { s with hst := { s.hst with gpfCount := wrapInc s.hst.gpfCount } } := by
  exact if_neg (fun notCxl => notCxl cxl)

/-! ### CXL.mem -/

/-- An access to a granule in host bias is no conflict. -/
theorem biasConflict_of_hostBias {s : State} {a : Nat} (hostBias : s.hst.deviceBias.contains (a / 65536) = false) :
    biasConflict s a = s := by
  rw [biasConflict, hostBias]
  rfl

theorem cxlMemRead_of_decoded {s : State} {addr a : Nat} {check : LineCheck} (served : memUp s = true) (aligned : addr % 64 = 0)
    (decoded : hdmDecode s addr = some a) (trained : s.drc.retraining.contains (lineChannel s (arenaLine s a)) = false) :
    exec (.cxlMemRead addr check) s = .next (serveRead (biasConflict s a) addr a check) := by
  change execCxlMemRead addr check s = _
  simp only [execCxlMemRead, served, aligned, decoded, trained]
  rfl

theorem cxlMemRead_of_undecoded {s : State} {addr : Nat} {check : LineCheck} (served : memUp s = true) (aligned : addr % 64 = 0)
    (undecoded : hdmDecode s addr = none) :
    exec (.cxlMemRead addr check) s = .next (answerMem (logRas s rasAddress addr) addr (List.replicate 64 0xFF) true) := by
  change execCxlMemRead addr check s = _
  simp only [execCxlMemRead, served, aligned, undecoded]
  rfl

theorem serveRead_of_clean {s : State} {addr a : Nat} {check : LineCheck} (sound : s.drc.poisoned.contains (arenaLine s a) = false)
    (clean : lineVerdict s (arenaLine s a) check = .clean) :
    serveRead s addr a check = answerMem s addr (loadZero s.arena a 64) false := by
  simp only [serveRead, sound, clean]
  rfl

theorem cxlMemWrite_of_decoded {s : State} {addr a : Nat} {check : LineCheck} {data : List (Option Byte)} (served : memUp s = true)
    (aligned : addr % 64 = 0) (whole : data.length = 64) (decoded : hdmDecode s addr = some a)
    (trained : s.drc.retraining.contains (lineChannel s (arenaLine s a)) = false) :
    exec (.cxlMemWrite addr data check) s = .next (serveWrite (biasConflict s a) addr a data check) := by
  change execCxlMemWrite addr data check s = _
  simp only [execCxlMemWrite, served, aligned, whole, decoded, trained]
  rfl

/-- A write of every byte of a line needs nothing of what stood there, and ends its poison. -/
theorem serveWrite_of_enabled {s : State} {addr a : Nat} {check : LineCheck} {data : List (Option Byte)}
    (enabled : data.all (fun b => b.isSome) = true) :
    serveWrite s addr a data check = { s with
      arena := storeNonzero s.arena a (mergeBytes (loadZero s.arena a 64) data)
      drc := { s.drc with poisoned := s.drc.poisoned.filter (· != arenaLine s a) } } := by
  simp only [serveWrite, enabled]
  rfl

/-! ### The HDM decoders -/

/-- Decoder 0 with one way takes whole multiples of 256 MiB that the Arena holds, at 256-byte or 4-KiB granularity. -/
theorem hdmDecoderCommit_of_legal {s : State} {base size gran : Nat} (linked : s.hst.mode ≠ 0) (ready : s.glb.configReady = true)
    (flowing : s.hst.ioHeld = false) (baseStep : base % 0x10000000 = 0) (sizeStep : size % 0x10000000 = 0)
    (granularity : gran = 256 ∨ gran = 4096) (arena : 0 < arenaBytes s) (fits : size ≤ arenaBytes s)
    (other : s.hst.hdm1.committed = false) :
    exec (.hdmDecoderCommit 0 base size 1 gran 0) s = .next (upHst s (fun h => { h with
      hdm0 := { base, size, ways := 1, gran, pos := 0, committed := true, error := false } })) := by
  change execHdmDecoderCommit 0 base size 1 gran 0 s = _
  have granOk : [256, 512, 1024, 2048, 4096, 8192, 16384].contains gran = true := by
    rcases granularity with rfl | rfl <;> rfl
  simp only [execHdmDecoderCommit, linked, ready, flowing, baseStep, sizeStep, granOk, arena, other, if_true, Bool.false_eq_true,
    if_false, Nat.add_zero, fits]
  rfl

theorem hdmDecoderCommit_of_misaligned {s : State} {base size ways gran pos : Nat} (linked : s.hst.mode ≠ 0)
    (ready : s.glb.configReady = true) (flowing : s.hst.ioHeld = false) (misaligned : base % 0x10000000 ≠ 0) :
    exec (.hdmDecoderCommit 0 base size ways gran pos) s = .next (upHst s (fun h => { h with
      hdm0 := { base, size, ways, gran, pos, committed := false, error := true } })) := by
  change execHdmDecoderCommit 0 base size ways gran pos s = _
  simp [execHdmDecoderCommit, linked, ready, flowing, beq_false_of_ne misaligned]

/-! ### Bridges and gating -/

theorem handshakeTimeout_of_unanswered {s : State} {island sender : Nat} (listed : island < 45) (bridge : bridged island sender = true)
    (ungated : s.pwr.gated.contains island = false) (powered : s.pwr.retained.contains island = false)
    (live : inReset s island = false) (released : heldInReset s island = false)
    (trained : s.drc.retraining.any (fun c => islDram c == island) = false) :
    exec (.handshakeTimeout island sender) s = .next (raiseAt s (unit island 2) none false (some sender)) := by
  exact if_neg (by simp only [Nat.not_le.2 listed, bridge, ungated, powered, live, released, trained, decide_false, Bool.not_true,
    Bool.or_false, Bool.false_eq_true, not_false_eq_true])

theorem islandIdleGate_of_idle {s : State} {i : Nat} (gateable : 2 ≤ i) (listed : i < 45) (run : s.pwr.state = 0)
    (settled : s.pwr.trans = none) (idle : islandBusy s i = false) (untested : s.hlt.slice ≠ some i) :
    exec (.islandIdleGate i) s = .next { s with pwr := { s.pwr with gated := linsert s.pwr.gated i } } := by
  exact if_neg (by simp only [Nat.not_lt.2 gateable, Nat.not_le.2 listed, run, settled, idle, untested, ne_eq, not_true_eq_false,
    Option.isSome_none, Bool.false_eq_true, or_false, not_false_eq_true])

theorem islandWake_of_gated {s : State} {i : Nat} {lost : Bool} (gated : s.pwr.gated.contains i = true)
    (powered : s.pwr.retained.contains i = false) :
    exec (.islandWake i lost) s = .next (upPwr s (fun p => { p with
      gated := p.gated.filter (· != i), retained := p.retained.filter (· != i) })) := by
  change execIslandWake i lost s = _
  simp only [execIslandWake, gated, powered]
  rfl

/-- Settles O20: each clause is the branch of its command that the clause's conditions select. -/
theorem linkCommandsComplete : Obligations.LinkCommandsComplete := by
  refine ⟨?_, ?_, ?_, ?_, ?_, ?_, ?_, ?_, ?_, ?_, ?_, ?_, ?_, ?_⟩
  · exact fun _ _ _ _ _ => linkTraining_of_down
  · intro s speed width linked slowest fastest cxlSpeed lower lanes
    exact ⟨downtrained s speed width, linkDowntrain_of_lower linked slowest fastest cxlSpeed lower lanes, rfl, rfl, rfl, rfl, upHst_fr _ _⟩
  · exact fun _ linked secure => ⟨_, ideCheckFail_of_secure linked secure, rfl⟩
  · exact fun _ => ideKeyRefresh_of_held
  · exact fun _ => gpfPhase1_of_cacheUp
  · exact fun _ => gpfPhase2_of_cxl
  · intro s addr a check served aligned decoded trained hostBias sound clean
    rw [cxlMemRead_of_decoded served aligned decoded trained, biasConflict_of_hostBias hostBias, serveRead_of_clean sound clean]
    rfl
  · exact fun _ _ _ => cxlMemRead_of_undecoded
  · intro s addr a check data served aligned whole decoded trained hostBias enabled
    rw [cxlMemWrite_of_decoded served aligned whole decoded trained, biasConflict_of_hostBias hostBias, serveWrite_of_enabled enabled]
  · exact fun _ _ _ _ => hdmDecoderCommit_of_legal
  · exact fun _ _ _ _ _ _ => hdmDecoderCommit_of_misaligned
  · exact fun _ _ _ => handshakeTimeout_of_unanswered
  · exact fun _ _ => islandIdleGate_of_idle
  · exact fun _ _ _ => islandWake_of_gated

end Sys2Proof.Machine
end

section
/-! SUPPORT. What every step keeps of the Result Arena and of the host's memory: the canonical form of both (log entry 11; R42, R43, R91),
and both as they are where a command lists neither (R42, R44). -/

namespace Sys2Proof.Machine
open Sys2Proof

/-- Settles O48: the reset state lists no byte of either memory. -/
theorem resetHoldsTheInvariant : Obligations.ResetHoldsTheInvariant := ⟨rfl, rfl⟩

/-- The commands named here write a memory, each by writes that keep its canonical form; every other command lists neither memory
in its frame. -/
theorem exec_keptInv (c : Instr) (s : State) : OutKept s (exec c s) := by
  cases c with
  | replyWrite ring src => exact execReplyWrite_wf ring src s
  | replyWriteError ring src => exact execReplyWriteError_wf ring src s
  | identify tag => exact execIdentify_wf tag s
  | getLog tag => exact execGetLog_wf tag s
  | activationReset => exact execActivationReset_wf s
  | read tag media => exact execRead_wf tag media s
  | write tag host => exact execWrite_wf tag host s
  | trim tag => exact execTrim_wf tag s
  | compare tag host media => exact execCompare_wf tag host media s
  | writeZeroes tag => exact execWriteZeroes_wf tag s
  | readToArena tag media => exact execReadToArena_wf tag media s
  | compress tag host checker => exact execCompress_wf tag host checker s
  | decompress tag host => exact execDecompress_wf tag host s
  | digest tag host => exact execDigest_wf tag host s
  | digestVerify tag host expected => exact execDigestVerify_wf tag host expected s
  | waymarkLoad tag host => exact execWaymarkLoad_wf tag host s
  | waymarkSearch tag host check => exact execWaymarkSearch_wf tag host check s
  | waymarkRead tag check => exact execWaymarkRead_wf tag check s
  | programLoad tag host => exact execProgramLoad_wf tag host s
  | scanStop tag => exact execScanStop_wf tag s
  | keyImport tag host => exact execKeyImport_wf tag host s
  | extend tag host => exact execExtend_wf tag host s
  | attest tag host => exact execAttest_wf tag host s
  | healthQuery tag => exact execHealthQuery_wf tag s
  | abort tag => exact execAbort_wf tag s
  | conventionalReset kind => exact execConventionalReset_wf kind s
  | flr => exact execFlr_wf s
  | powerOn => exact execPowerOn_wf s
  | gpfPhase1 => exact execGpfPhase1_wf s
  | cxlMemWrite addr data check => exact execCxlMemWrite_wf addr data check s
  | pwrFailAssert => exact execPwrFailAssert_wf s
  | dumpComplete us => exact execDumpComplete_wf us s
  | dramRequest r => exact execDramRequest_wf r s
  | engineRequestDone run num engine check checker => exact execEngineRequestDone_wf run num engine check checker s
  | digestQuantum => exact execDigestQuantum_wf s
  | claimRefuse src pairId claimant partner number holder => exact execClaimRefuse_wf src pairId claimant partner number holder s
  | transitionPhaseEnd imageOk lost => exact execTransitionPhaseEnd_wf imageOk lost s
  | faultReaction => exact execFaultReaction_wf s
  | railLoss => exact execRailLoss_wf s
  | _ => exact (exec_frame _ s).keptInv rfl

theorem step_keptInv (s : State) : OutKept s (step s) := by
  fun_cases step
  case case1 => exact .next ((tick_fr s).keptInv rfl)
  case case2 c rest _ => exact exec_keptInv c { s with pending := rest }

/-- Settles O49: a tick touches neither memory, and every command keeps the canonical form of both. -/
theorem everyStepKeepsTheInvariant : Obligations.EveryStepKeepsTheInvariant := fun s t held stepped => step_keptInv s t stepped held

/-- Settles O46: the frame of a command keeps the parts that the command does not list. -/
theorem memoriesKeptOutsideTheirFrame : Obligations.MemoriesKeptOutsideTheirFrame := by
  intro c s t a next noArena noHostMem
  obtain ⟨-, kept⟩ := exec_frame c s t next
  have arena : t.arena = s.arena := kept .arena noArena
  have hostMem : t.hostMem = s.hostMem := kept .hostMem noHostMem
  rw [arena, hostMem]
  exact ⟨rfl, rfl⟩

end Sys2Proof.Machine
end

section
/-! SUPPORT. The register writes with rows of their own: bias flips (R43, R45), fault classes and sources (R414, R416, R417, R420), the
Footpath lock (R474), garbage collection, sealing and patrol (R121, R143, R171), policies (R434), the witness (R351) and the rebuild
rate (R387). -/

namespace Sys2Proof.Machine
open Sys2Proof

theorem onBar_of_barUp {s : State} (f : State → State) (up : barUp s = true) : onBar s f = .next (f s) :=
  congrArg _ (if_pos up)

/-! ### Bias flips -/

/-- Transactions issued to the host change nothing of HOST but the list of them. -/
theorem foldl_issue_eq_upHst {α : Type} (s : State) (l : List α) (f : α → HostOp) :
    ∃ bus, l.foldl (fun s x => issue s (f x)) s = upHst s (fun h => { h with bus := bus }) := by
  induction l generalizing s with
  | nil => exact ⟨s.hst.bus, rfl⟩
  | cons x xs ih =>
    obtain ⟨bus, issued⟩ := ih (issue s (f x))
    exact ⟨bus, issued⟩

/-- A flip to device bias changes the bias of its granules and the transactions issued, and nothing else of HOST. -/
theorem toDeviceBias_eq_upHst (s : State) (l : List Nat) :
    ∃ bus, toDeviceBias s l = upHst s (fun h => { h with bus := bus, deviceBias := l.foldl linsert h.deviceBias }) := by
  unfold toDeviceBias
  obtain ⟨bus, issued⟩ := foldl_issue_eq_upHst s (l.filter (fun g => !s.hst.deviceBias.contains g)) .rdOwnNoData
  cases cacheUp s with
  | false => exact ⟨s.hst.bus, rfl⟩
  | true => exact ⟨bus, by rw [if_pos rfl, issued]; rfl⟩

/-- A GO to device bias over granules within the Arena is carried out: a command that holds some of them does not refuse it. -/
theorem writeFlip_of_toDevice {s : State} {v : Nat} (idle : s.hst.flipBusy = false) (go : bit v 31 = true) (toDevice : bit v 30 = true)
    (nonzero : bits v 19 0 ≠ 0) (within : s.hst.flipStart + bits v 19 0 ≤ s.hst.arenaCur * 4096) :
    writeFlip s v = toDeviceBias (upHst s (fun h => { h with flipCount := bits v 19 0, flipToDevice := true, flipDone := true }))
      (span s.hst.flipStart (bits v 19 0)) := by
  simp [writeFlip, upHst, idle, go, toDevice, nonzero, Nat.not_lt.2 within]

/-! ### Faults -/

/-- History records leave the fault collector's other registers. -/
theorem foldl_addHistory_flt {α : Type} (s : State) (l : List α) (cls : α → Nat) (src level configured flags : Nat) :
    ∃ history count, (l.foldl (fun s x => addHistory s src (cls x) level configured flags) s).flt =
      { s.flt with history := history, recordCount := count } := by
  induction l generalizing s with
  | nil => exact ⟨_, _, rfl⟩
  | cons x xs ih =>
    obtain ⟨history, count, rest⟩ := ih (addHistory s src (cls x) level configured flags)
    exact ⟨history, count, rest⟩

theorem writeAck_flt (s : State) (v : Nat) : ∃ history count, (writeAck s v).flt = { s.flt with
    history := history, recordCount := count, unack := s.flt.unack.filter (fun c => !bit v c.1),
    remain := if (s.flt.unack.filter (fun c => !bit v c.1)).isEmpty then 0 else s.flt.remain } := by
  obtain ⟨history, count, recorded⟩ :=
    foldl_addHistory_flt s (s.flt.unack.filter (fun c => bit v c.1)) (fun c => c.1) 0xFFFF 0 0 4
  exact ⟨history, count, by simp only [writeAck, upFlt_flt, recorded]⟩

theorem writeSrc_of_inRange {s : State} {v : Nat} (implemented : srcImplemented s.flt.sel = true) (free : srcFixed s.flt.sel = false)
    (least : (classRange (srcClass s.flt.sel)).1 ≤ bits v 7 5) (most : bits v 7 5 ≤ (classRange (srcClass s.flt.sel)).2) :
    writeSrc s v = upFlt s (fun f => { f with
      reaction := if bits v 7 5 = srcDefault s.flt.sel then mdel f.reaction s.flt.sel else mset f.reaction s.flt.sel (bits v 7 5) }) :=
  if_pos (by simp [implemented, free, least, most])

theorem writeSrc_of_refused {s : State} {v : Nat}
    (refused : srcImplemented s.flt.sel = false ∨ srcFixed s.flt.sel = true ∨ bits v 7 5 < (classRange (srcClass s.flt.sel)).1 ∨
      (classRange (srcClass s.flt.sel)).2 < bits v 7 5) :
    writeSrc s v = upFlt s (fun f => { f with cfgReject := true }) := by
  refine if_neg ?_
  rcases refused with absent | fixed | low | high
  · simp [absent]
  · simp [fixed]
  · simp [Nat.not_le.2 low]
  · simp [Nat.not_le.2 high]

/-! ### Policies and the witness -/

theorem writePolicy_voltage (s : State) (v : Nat) : writePolicy s false v = { s with
    hlt := if 650 ≤ bits v 9 0 ∧ bits v 9 0 ≤ bits v 25 16 ∧ bits v 25 16 ≤ 850 then { s.hlt with vmin := bits v 9 0, vmax := bits v 25 16 }
      else { s.hlt with cfgReject := true } } :=
  (apply_ite (fun h : Hlt => ({ s with hlt := h } : State)) _ _ _).symm

theorem writePolicy_clock (s : State) (v : Nat) : writePolicy s true v = { s with
    hlt := if 50 ≤ bits v 6 0 ∧ bits v 6 0 ≤ 100 ∧ 2 ≤ bits v 11 8 ∧ bits v 11 8 ≤ 6 then
        { s.hlt with floor := bits v 6 0, slackTarget := bits v 11 8 }
      else { s.hlt with cfgReject := true } } :=
  (apply_ite (fun h : Hlt => ({ s with hlt := h } : State)) _ _ _).symm

theorem writeWitness_eq (s : State) (i v : Nat) : writeWitness s i v = { s with
    pair := if s.pair.state = 0 then { s.pair with witness := lmod s.pair.witness i (fun _ => (bits v 10 0, bit v 31)) }
      else { s.pair with events := s.pair.events ||| 1 } } :=
  (apply_ite (fun p : Pair => ({ s with pair := p } : State)) _ _ _).symm

/-- Settles O3: each write reaches its register, whose table decides what it takes. -/
theorem registerWritesComplete : Obligations.RegisterWritesComplete := by
  refine ⟨?_, ?_, ?_, ?_, ?_, ?_, ?_, ?_, ?_, ?_, ?_, ?_, ?_⟩
  · intro s v up idle go toDevice nonzero within
    refine ⟨writeFlip s v, onBar_of_barUp (writeFlip · v) up, ?_⟩
    obtain ⟨bus, flipped⟩ := toDeviceBias_eq_upHst
      (upHst s (fun h => { h with flipCount := bits v 19 0, flipToDevice := true, flipDone := true })) (span s.hst.flipStart (bits v 19 0))
    rw [writeFlip_of_toDevice idle go toDevice nonzero within, flipped]
    exact ⟨rfl, rfl, rfl, rfl, (upHst_fr s _).trans (upHst_fr _ _)⟩
  · intro s v up
    obtain ⟨history, count, acked⟩ := writeAck_flt s v
    refine ⟨writeAck s v, onBar_of_barUp (writeAck · v) up, ?_, fun done => ?_, fun left => ?_, writeAck_fr s v⟩
    · rw [acked]
    · rw [acked] at done ⊢
      exact if_pos (List.isEmpty_iff.2 done)
    · rw [acked] at left ⊢
      exact if_neg (mt List.isEmpty_iff.1 left)
  · intro s v up implemented free least most
    refine ⟨writeSrc s v, onBar_of_barUp (writeSrc · v) up, ?_⟩
    rw [writeSrc_of_inRange implemented free least most]
    exact ⟨rfl, rfl, upFlt_fr s _⟩
  · exact fun s v up refused => (onBar_of_barUp (writeSrc · v) up).trans (congrArg Host.Outcome.next (writeSrc_of_refused refused))
  · exact fun s v up => onBar_of_barUp (writeCeLimit · v) up
  · exact fun s v up => onBar_of_barUp (writeLock · v) up
  · exact fun s v up => onBar_of_barUp (writeGcCtrl · v) up
  · exact fun s v up => onBar_of_barUp (writeSeal · v) up
  · exact fun s v up => onBar_of_barUp (writePatrol · v) up
  · exact fun s v up => (onBar_of_barUp (writePolicy · false v) up).trans (congrArg Host.Outcome.next (writePolicy_voltage s v))
  · exact fun s v up => (onBar_of_barUp (writePolicy · true v) up).trans (congrArg Host.Outcome.next (writePolicy_clock s v))
  · exact fun s i v up => (onBar_of_barUp (writeWitness · i v) up).trans (congrArg Host.Outcome.next (writeWitness_eq s i v))
  · exact fun s v up => onBar_of_barUp (writeRebuildCtrl · v) up

end Sys2Proof.Machine
end

section
/-! SUPPORT. What a WRITE that ends within its step leaves in staging: its own blocks, and the versions of every other block
(R80, R82, R97, R132). -/

namespace Sys2Proof.Machine
open Sys2Proof

/-- Block `i` of a write that the partner does not mirror, as it lands in staging. -/
def landedBlock (o : Op) (b : List Byte) (i : Nat) : Staged :=
  { vol := o.pkt.vol, lba := o.pkt.addr + i, data := fit 4096 (b.drop (4096 * i)), seq := o.seq, done := false, comp := none,
    lost := false, mirror := none }

/-- The same block once its write has completed. -/
def settledBlock (o : Op) (b : List Byte) (i : Nat) : Staged := { landedBlock o b i with done := true }

/-- Block `l` of volume `v` is one of those a command names (Table 4.11). -/
def namesBlock (o : Op) (v l : Nat) : Bool := v == o.pkt.vol && decide (o.pkt.addr ≤ l) && decide (l < o.pkt.addr + o.pkt.blocks)

theorem namesBlock_iff {o : Op} {v l : Nat} :
    namesBlock o v l = true ↔ v = o.pkt.vol ∧ o.pkt.addr ≤ l ∧ l < o.pkt.addr + o.pkt.blocks := by
  simp [namesBlock, and_assoc]

/-! ### Landing and settling -/

theorem cutBlocks_eq_map (a : Nat) (b : List Byte) (n : Nat) :
    cutBlocks a b n = (List.range n).map (fun i => (a + i, fit 4096 (b.drop (4096 * i)))) := by
  induction n generalizing a b with
  | zero => rfl
  | succ n ih =>
    have next : ∀ i, 4096 + 4096 * i = 4096 * (i + 1) := fun i => by omega
    simp [cutBlocks, ih, List.range_succ_eq_map, Function.comp_def, next, Nat.add_comm 1, Nat.add_assoc]

theorem landWrite_staging (s : State) (o : Op) (b : List Byte) :
    (landWrite s o false b).med.staging = s.med.staging ++ (List.range o.pkt.blocks).map (landedBlock o b) := by
  simp only [landWrite, upMed_med, cutBlocks_eq_map, List.map_map]
  rfl

theorem settleStaged_staging (s : State) (o : Op) :
    (settleStaged s o).med.staging =
      (s.med.staging.filter (fun x => x.seq == o.seq || !(x.done &&
        ((s.med.staging.filter (fun x => x.seq == o.seq)).map (fun x => (x.vol, x.lba))).contains (x.vol, x.lba)))).map
        (fun x => if x.seq = o.seq then { x with done := true } else x) :=
  congrArg Med.staging ((releaseMirror_fr _).2 .med (by decide))

theorem landed_contains (o : Op) (b : List Byte) (v l : Nat) :
    (((List.range o.pkt.blocks).map (landedBlock o b)).map (fun x => (x.vol, x.lba))).contains (v, l) = namesBlock o v l := by
  rw [List.map_map, Bool.eq_iff_iff, List.contains_iff_mem, List.mem_map, namesBlock_iff]
  constructor
  · rintro ⟨i, mem, here⟩
    obtain ⟨rfl, rfl⟩ := Prod.mk.inj here
    exact ⟨rfl, Nat.le_add_right _ _, Nat.add_lt_add_left (List.mem_range.1 mem) _⟩
  · rintro ⟨rfl, least, most⟩
    exact ⟨l - o.pkt.addr, List.mem_range.2 (by omega), Prod.ext rfl (Nat.add_sub_cancel' least)⟩

/-- A test that every block of the write's sequence number passes keeps the write's blocks. -/
theorem filter_landed (o : Op) (b : List Byte) (keeps : Staged → Bool) (pass : ∀ x : Staged, x.seq = o.seq → keeps x = true) :
    ((List.range o.pkt.blocks).map (landedBlock o b)).filter keeps = (List.range o.pkt.blocks).map (landedBlock o b) := by
  refine List.filter_eq_self.2 fun x mem => ?_
  obtain ⟨i, -, rfl⟩ := List.mem_map.1 mem
  exact pass _ rfl

/-- A write with a sequence number of its own: its blocks become the newest versions, and of all others only completed versions of the
blocks it names leave staging (R132). -/
theorem settleStaged_landWrite_staging {s : State} {o : Op} (b : List Byte) (own : ∀ x ∈ s.med.staging, x.seq ≠ o.seq) :
    (settleStaged (landWrite s o false b) o).med.staging =
      s.med.staging.filter (fun x => !(x.done && namesBlock o x.vol x.lba)) ++ (List.range o.pkt.blocks).map (settledBlock o b) := by
  have others : s.med.staging.filter (fun x => x.seq == o.seq) = [] :=
    List.filter_eq_nil_iff.2 fun x mem same => own x mem (beq_iff_eq.1 same)
  have landed := filter_landed o b (fun x => x.seq == o.seq) fun x same => beq_iff_eq.2 same
  have kept := filter_landed o b (fun x => x.seq == o.seq || !(x.done && namesBlock o x.vol x.lba)) fun x same => by
    rw [beq_iff_eq.2 same, Bool.true_or]
  rw [settleStaged_staging, landWrite_staging]
  simp only [List.filter_append, others, landed, List.nil_append, landed_contains, kept, List.map_append]
  congr 1
  · have superseded : ∀ x ∈ s.med.staging, (x.seq == o.seq || !(x.done && namesBlock o x.vol x.lba)) =
        !(x.done && namesBlock o x.vol x.lba) := fun x mem => by rw [beq_false_of_ne (own x mem), Bool.false_or]
    rw [List.filter_congr superseded]
    exact (List.map_congr_left fun x mem => if_neg (own x (List.mem_filter.1 mem).1)).trans (List.map_id' _)
  · rw [List.map_map]
    exact List.map_congr_left fun i _ => if_pos rfl

/-! ### The newest version -/

theorem stagedAt_of_staging_eq_append {t : State} {old new : List Staged} (staging : t.med.staging = old ++ new) (v l : Nat) :
    stagedAt t v l = (new.reverse.find? (fun x => x.vol == v && x.lba == l && x.done)).or
      (old.reverse.find? (fun x => x.vol == v && x.lba == l && x.done)) := by
  rw [stagedAt, staging, List.reverse_append, List.find?_append]

/-- A block the write names has the write's data as its newest version. -/
theorem find?_settledBlock_of_named (o : Op) (b : List Byte) {k : Nat} (below : k < o.pkt.blocks) :
    ((List.range o.pkt.blocks).map (settledBlock o b)).reverse.find?
      (fun x => x.vol == o.pkt.vol && x.lba == o.pkt.addr + k && x.done) = some (settledBlock o b k) := by
  obtain ⟨x, found⟩ : ∃ x, ((List.range o.pkt.blocks).map (settledBlock o b)).reverse.find?
      (fun x => x.vol == o.pkt.vol && x.lba == o.pkt.addr + k && x.done) = some x := by
    rw [← Option.isSome_iff_exists, List.find?_isSome]
    exact ⟨settledBlock o b k, by simpa using ⟨k, below, rfl⟩, by simp [settledBlock, landedBlock]⟩
  obtain ⟨i, -, rfl⟩ : ∃ i, i < o.pkt.blocks ∧ settledBlock o b i = x := by simpa using List.mem_of_find?_eq_some found
  have same : i = k := by simpa [settledBlock, landedBlock] using List.find?_some found
  rw [found, same]

theorem find?_settledBlock_of_unnamed (o : Op) (b : List Byte) {v l : Nat} (other : namesBlock o v l = false) :
    ((List.range o.pkt.blocks).map (settledBlock o b)).reverse.find? (fun x => x.vol == v && x.lba == l && x.done) = none := by
  rw [List.find?_eq_none]
  intro x mem found
  obtain ⟨i, below, rfl⟩ : ∃ i, i < o.pkt.blocks ∧ settledBlock o b i = x := by simpa using mem
  obtain ⟨rfl, rfl⟩ : o.pkt.vol = v ∧ o.pkt.addr + i = l := by simpa [settledBlock, landedBlock] using found
  have named : namesBlock o o.pkt.vol (o.pkt.addr + i) = true := namesBlock_iff.2 ⟨rfl, by omega, by omega⟩
  simp [named] at other

/-- The versions of a block that the write does not name all stay. -/
theorem find?_unsuperseded (o : Op) (old : List Staged) {v l : Nat} (other : namesBlock o v l = false) :
    (old.filter (fun x => !(x.done && namesBlock o x.vol x.lba))).reverse.find? (fun x => x.vol == v && x.lba == l && x.done) =
      old.reverse.find? (fun x => x.vol == v && x.lba == l && x.done) := by
  rw [← List.filter_reverse, List.find?_filter]
  congr 1
  funext x
  by_cases here : x.vol = v ∧ x.lba = l
  · obtain ⟨rfl, rfl⟩ := here
    simp [other]
  · have there : (x.vol == v && x.lba == l) = false := by simpa using here
    simp [there]

/-- Settles O52: the write's blocks stand last in staging, completed, behind the versions of all other blocks. -/
theorem writeThenRead : Obligations.WriteThenRead := by
  intro s tag o host b accepted ready writable volume unheld room data alone own
  have fresh : o.stage ≠ .running := by rw [ready]; decide
  have executed := execWrite_of_admitted accepted writable volume fresh unheld room data
  rw [alone, Bool.false_and, if_neg Bool.false_ne_true] at executed
  have staging : (complete (settleStaged (landWrite s o false b) o) tag (ok 0 0)).med.staging = _ :=
    (congrArg Med.staging ((complete_fr _ tag (ok 0 0)).2 .med (by decide))).trans (settleStaged_landWrite_staging b own)
  refine ⟨_, executed, fun k below => ?_, fun v l other => ?_⟩
  · rw [stagedAt_of_staging_eq_append staging, find?_settledBlock_of_named o b below]
    exact ⟨_, rfl, rfl⟩
  · have unnamed : namesBlock o v l = false := by rwa [← Bool.not_eq_true, namesBlock_iff]
    rw [stagedAt_of_staging_eq_append staging, find?_settledBlock_of_unnamed o b unnamed, find?_unsuperseded o _ unnamed]
    rfl

end Sys2Proof.Machine
end

section
/-! SUPPORT. A packet's way in and a command's completion: slot writes, acceptance, range locks, staging admission, fragment lists and
the hand-over of a reply (R61, R62, R67, R77, R78, R83, R92, R96, R503). -/

namespace Sys2Proof.Machine
open Sys2Proof

/-! ### Slot writes (R35, R59, R61, R64) -/

/-- A whole 64-byte write that the link passes on reaches its slot. -/
theorem slotWrite_of_whole {s : State} {q : Nat} {b : List Byte} (index : q < 0x100000) (whole : b.length = 64) (cxl : s.hst.mode = 2)
    (flowing : s.hst.ioHeld = false) (notL2 : s.pwr.linkPm ≠ 2) (serving : s.flt.containing.contains islHost = false) :
    exec (.slotWrite (64 * q) b true false true) s = .next (slotWriteOne s q b) := by
  have inSlots : 64 * q + 64 ≤ 0x4000000 := by omega
  have slot : 64 * q / 64 = q := by omega
  change execSlotWrite (64 * q) b true false true s = _
  rw [execSlotWrite, if_neg (by simp [cxl, notL2])]
  simp only [whole, slot, cxl, flowing, serving]
  rw [if_pos (by simpa using inSlots)]
  exact congrArg (fun d => Host.Outcome.next (slotWriteOne s q d)) (List.take_of_length_le (Nat.le_of_eq whole))

/-- A packet to a queue that takes packets is judged by its slot, then by its CHK (Table 3.3). -/
theorem slotWriteOne_of_queue {s : State} {q : Nat} {x : Queue} (b : List Byte) (exist : queueAt s q = some x) (live : x.deleting = none)
    (enabled : q = 0 → s.tsk.ring0En = true) :
    slotWriteOne s q b =
      if slotHeld s q then
        tagless (upTsk s (fun t => { t with overruns := satInc t.overruns, overrunLastQ := q })) q x.ring stOverrun
          (if chkOk b then 0 else 1) (parsePacket b).opc (parsePacket b)
      else if chkOk b then upTsk s (fun t => { t with held := t.held ++ [(q, parsePacket b)] })
      else tagless (upTsk s (fun t => { t with crcDropped := satInc t.crcDropped })) q x.ring stCrc 0 0 (parsePacket b) := by
  have notDisabled : ¬ (q = 0 ∧ (!s.tsk.ring0En) = true) := fun ⟨zero, off⟩ => by simp [enabled zero] at off
  simp only [slotWriteOne, if_neg notDisabled, exist, live]
  rfl

/-- A tagless reply goes to the overrun buffer, or is counted where the buffer is full, and nothing else changes (R64). -/
theorem tagless_tsk (s : State) (q ring status detail r0 : Nat) (p : Packet) :
    ∃ overrun unreplied, (tagless s q ring status detail r0 p).tsk = { s.tsk with overrun := overrun, overrunUnreplied := unreplied } := by
  rw [tagless, postTagless]
  split
  · exact ⟨_, s.tsk.overrunUnreplied, rfl⟩
  · exact ⟨s.tsk.overrun, _, rfl⟩

theorem slotWriteOne_of_held {s : State} {q : Nat} {x : Queue} (b : List Byte) (exist : queueAt s q = some x) (live : x.deleting = none)
    (enabled : q = 0 → s.tsk.ring0En = true) (holds : slotHeld s q = true) :
    ∃ overrun unreplied, (slotWriteOne s q b).tsk = { s.tsk with
      overruns := satInc s.tsk.overruns, overrunLastQ := q, overrun := overrun, overrunUnreplied := unreplied } := by
  rw [slotWriteOne_of_queue b exist live enabled, if_pos holds]
  exact tagless_tsk _ _ _ _ _ _ _

/-! ### Acceptance (R62, R67, R94, R95) -/

/-- What a command is known by from its acceptance on. -/
def Op.identity (o : Op) : Nat × Nat × Source × Packet := (o.tag, o.seq, o.src, o.pkt)

/-- The same commands hold tags, no packet is newly held, and none is newly accepted. -/
structure KeepsCommands (s t : State) : Prop where
  commands : t.tsk.ops.map Op.identity = s.tsk.ops.map Op.identity
  held : ∀ h ∈ t.tsk.held, h ∈ s.tsk.held
  nextSeq : t.tsk.nextSeq = s.tsk.nextSeq
  accepted : t.tsk.accepted = s.tsk.accepted

theorem KeepsCommands.of_tsk {s t : State} (same : t.tsk = s.tsk) : KeepsCommands s t := by
  constructor <;> simp [same]

theorem KeepsCommands.refl (s : State) : KeepsCommands s s := .of_tsk rfl

theorem KeepsCommands.comp {s t u : State} (second : KeepsCommands t u) (first : KeepsCommands s t) : KeepsCommands s u :=
  ⟨second.commands.trans first.commands, fun h mem => first.held h (second.held h mem), second.nextSeq.trans first.nextSeq,
    second.accepted.trans first.accepted⟩

theorem modOp_keepsCommands (s : State) (tag : Nat) (f : Op → Op) (same : ∀ x, (f x).identity = x.identity) :
    KeepsCommands s (modOp s tag f) := by
  refine ⟨?_, fun _ mem => mem, rfl, rfl⟩
  rw [modOp, List.map_map]
  refine List.map_congr_left fun x _ => ?_
  simp only [Function.comp_apply]
  split
  · exact same x
  · rfl

theorem tagless_keepsCommands (s : State) (q ring status detail r0 : Nat) (p : Packet) :
    KeepsCommands s (tagless s q ring status detail r0 p) := by
  obtain ⟨overrun, unreplied, posted⟩ := tagless_tsk s q ring status detail r0 p
  constructor <;> simp [posted]

theorem foldl_tagless_keepsCommands (l : List (Nat × Packet)) (s : State) (q ring status detail r0 : Nat) :
    KeepsCommands s (l.foldl (fun s h => tagless s q ring status detail r0 h.2) s) := by
  induction l generalizing s with
  | nil => exact .refl s
  | cons h rest ih => exact .comp (ih _) (tagless_keepsCommands s q ring status detail r0 h.2)

theorem admitDelete_keepsCommands (s : State) (o : Op) : KeepsCommands s (admitDelete s o) := by
  unfold admitDelete
  dsimp only
  split
  · exact .refl s
  · exact .comp (foldl_tagless_keepsCommands _ _ _ _ _ _ _) ⟨rfl, fun _ mem => (List.mem_filter.1 mem).1, rfl, rfl⟩

theorem admitDigest_keepsCommands (s : State) (o : Op) : KeepsCommands s (admitDigest s o) := by
  unfold admitDigest
  dsimp only
  split
  · exact .comp (modOp_keepsCommands _ _ _ fun _ => rfl) (.of_tsk rfl)
  · split
    · exact .refl s
    · exact .comp (modOp_keepsCommands _ _ _ fun _ => rfl) (.of_tsk rfl)

theorem admitLock_keepsCommands (s : State) (o : Op) (l : Lock) : KeepsCommands s (admitLock s o l) := by
  unfold admitLock
  split
  · exact .comp (modOp_keepsCommands _ _ _ fun _ => rfl) ⟨rfl, fun _ mem => mem, rfl, rfl⟩
  · exact modOp_keepsCommands _ _ _ fun _ => rfl

/-- What `takeIn` begins by opcode. -/
def takeInOpcode (s : State) (o : Op) : State :=
  match o.pkt.opc with
  | 0x0202 => admitDelete s o
  | 0x0503 => admitDigest s o
  | 0x0504 => admitDigest s o
  | 0x0602 => upKite s (fun k => { k with programs := mmod k.programs o.pkt.p0 (fun g => { g with unloading := true }) })
  | _ => s

/-- What `takeIn` does about the command's range lock. -/
def takeInLock (s : State) (o : Op) : State :=
  match lockEntry o with
  | none => s
  | some l =>
    if o.classF && isRead o.pkt.opc then
      match coverage s o.pkt with
      | some pins =>
        modOp (upTsk s (fun t => { t with fwdHits := wrapInc t.fwdHits })) o.tag (fun x => { x with covered := true, pins })
      | none => admitLock (upTsk s (fun t => { t with fwdFallbacks := wrapInc t.fwdFallbacks })) o l
    else admitLock s o l

theorem takeIn_eq (s : State) (o : Op) :
    takeIn s o = takeInLock (modOp (takeInOpcode s o) o.tag
      (fun x => { x with volGen := (mget (takeInOpcode s o).med.volumes o.pkt.vol).map (fun v => v.gen), stage := afterLock o })) o := rfl

theorem takeInOpcode_keepsCommands (s : State) (o : Op) : KeepsCommands s (takeInOpcode s o) := by
  unfold takeInOpcode
  split
  · exact admitDelete_keepsCommands s o
  · exact admitDigest_keepsCommands s o
  · exact admitDigest_keepsCommands s o
  · exact .of_tsk rfl
  · exact .refl s

theorem takeInLock_keepsCommands (s : State) (o : Op) : KeepsCommands s (takeInLock s o) := by
  unfold takeInLock
  split
  · exact .refl s
  · split
    · split
      · exact .comp (modOp_keepsCommands _ _ _ fun _ => rfl) ⟨rfl, fun _ mem => mem, rfl, rfl⟩
      · exact .comp (admitLock_keepsCommands _ _ _) ⟨rfl, fun _ mem => mem, rfl, rfl⟩
    · exact admitLock_keepsCommands _ _ _

theorem takeIn_keepsCommands (s : State) (o : Op) : KeepsCommands s (takeIn s o) := by
  rw [takeIn_eq]
  exact .comp (takeInLock_keepsCommands _ o) (.comp (modOp_keepsCommands _ _ _ fun _ => rfl) (takeInOpcode_keepsCommands s o))

/-- The command that a packet of a queue's slot becomes (R67, R69). -/
def acceptedOp (s : State) (q : Nat) (p : Packet) (tag : Nat) : Op :=
  { tag, seq := s.tsk.nextSeq, src := .queue q, ring := ((queueAt s q).getD queueZero).ring, pkt := p,
    classF := ((queueAt s q).getD queueZero).classF, covered := false, stage := .ready, volGen := none, frags := [], rx := [],
    rxSeq := 0, rxAt := s.glb.lifetime, tx := [], pins := [], inflated := [], inflateBad := [], moving := false, mirror := none,
    waitStaging := false, granules := [], ctx := none, reply := none, aborted := false, discard := false, after := none, aux := 0 }

/-- The command joins those that hold tags. -/
def register (s : State) (q : Nat) (p : Packet) (tag : Nat) : State :=
  upTsk (takeTag s) (fun t => { t with
    ops := t.ops ++ [acceptedOp s q p tag], nextSeq := t.nextSeq + 1, accepted := wrapInc t.accepted,
    peak := max t.peak (t.ops.length + 1) })

theorem takeTag_tsk (s : State) : ∃ freed fresh, (takeTag s).tsk = { s.tsk with freedTags := freed, freshTag := fresh } := by
  unfold takeTag
  split
  · exact ⟨_, s.tsk.freshTag, rfl⟩
  · exact ⟨s.tsk.freedTags, _, rfl⟩

/-- After registration, the checks and the admission of a packet change what commands are known by for none (R94, R95). -/
theorem acceptPacket_keepsCommands (s : State) (q : Nat) (p : Packet) (tag : Nat) :
    KeepsCommands (register s q p tag) (acceptPacket s (.queue q) p tag) := by
  unfold acceptPacket
  dsimp only
  split
  · refine .comp (modOp_keepsCommands _ _ _ fun _ => rfl) (.of_tsk ?_)
    split <;> rfl
  · refine .comp (takeIn_keepsCommands _ _) (.of_tsk ?_)
    exact ((powerAccept_fr _ _).2 .tsk (by decide)).trans ((roleCheck_fr _ _ _).2 .tsk (by decide))

/-- An accepted packet has one new command, which holds the tag and the next acceptance sequence number (R67, R69). -/
theorem acceptPacket_registers (s : State) (q : Nat) (p : Packet) (tag : Nat) :
    (acceptPacket s (.queue q) p tag).tsk.nextSeq = s.tsk.nextSeq + 1 ∧
      (acceptPacket s (.queue q) p tag).tsk.accepted = wrapInc s.tsk.accepted ∧
      (∃ o ∈ (acceptPacket s (.queue q) p tag).tsk.ops, o.tag = tag ∧ o.seq = s.tsk.nextSeq ∧ o.src = .queue q ∧ o.pkt = p) ∧
      ∀ h ∈ (acceptPacket s (.queue q) p tag).tsk.held, h ∈ s.tsk.held := by
  obtain ⟨commands, held, nextSeq, accepted⟩ := acceptPacket_keepsCommands s q p tag
  obtain ⟨freed, fresh, taken⟩ := takeTag_tsk s
  simp only [register, upTsk_tsk, taken] at commands held nextSeq accepted
  refine ⟨nextSeq, accepted, ?_, held⟩
  have known : (acceptedOp s q p tag).identity ∈ (acceptPacket s (.queue q) p tag).tsk.ops.map Op.identity := by simp [commands]
  obtain ⟨o, mem, same⟩ := List.mem_map.1 known
  obtain ⟨sameTag, sameSeq, sameSrc, samePkt⟩ : o.tag = tag ∧ o.seq = s.tsk.nextSeq ∧ o.src = .queue q ∧ o.pkt = p := by
    simpa [Op.identity, acceptedOp] using same
  exact ⟨o, mem, sameTag, sameSeq, sameSrc, samePkt⟩

/-- A slot gives up its packet. -/
def emptied (s : State) (q : Nat) : State := upTsk s (fun k => { k with held := k.held.filter (fun h => h.1 != q) })

theorem intakeAccept_of_nextHeld {s : State} {q tag : Nat} {p : Packet} (takes : intakeOpen s = true) (noFootpath : s.glb.fpHeld = none)
    (free : nextTag s = some tag) (next : nextHeld s = some (q, p)) :
    exec .intakeAccept s = .next (acceptPacket (emptied s q) (.queue q) p tag) := by
  change execIntakeAccept s = _
  simp only [execIntakeAccept, takes, noFootpath, free, next]
  rfl

/-! ### Locks, staging admission and fragment lists -/

theorem lockGrant_of_grantable {s : State} {tag : Nat} {o : Op} {l : Lock} (holds : findOp s tag = some o)
    (entry : s.tsk.locks.find? (fun l => l.tag == tag && !l.granted) = some l) (waits : o.stage = .waitLock) (grant : grantable s l = true)
    (sameGen : (mget s.med.volumes o.pkt.vol).map (fun v => v.gen) = o.volGen) :
    exec (.lockGrant tag) s = .next { s with tsk := { s.tsk with
      locks := s.tsk.locks.map (fun m => if m.tag = tag then { m with granted := true } else m),
      ops := s.tsk.ops.map (fun x => if x.tag = tag then { x with stage := afterLock o } else x) } } := by
  have ready : ¬ (o.stage ≠ .waitLock ∨ (!grantable s l) = true) := by simp [waits, grant]
  change execLockGrant tag s = _
  simp only [execLockGrant, holds, entry, if_neg ready, if_neg (not_not_intro sameGen)]
  rfl

theorem lockEntryFree_of_room {s : State} {o : Op} {l : Lock} (room : s.tsk.locks.length < 16384)
    (waits : s.tsk.ops.find? (fun o => o.stage == .waitEntry) = some o) (entry : lockEntry o = some l) :
    exec .lockEntryFree s = .next { s with tsk := { s.tsk with
      locks := s.tsk.locks ++ [l],
      ops := s.tsk.ops.map (fun x => if x.tag = o.tag then { x with stage := .waitLock } else x) } } := by
  change execLockEntryFree s = _
  simp only [execLockEntryFree, if_neg (Nat.not_le.2 room), waits, entry]
  rfl

theorem stagingAdmit_of_room {s : State} {o : Op} (waits : s.tsk.ops.find? (fun o => o.waitStaging) = some o)
    (room : hasRoom s o.pkt = true) :
    exec .stagingAdmit s = .next { s with tsk := { s.tsk with
      ops := s.tsk.ops.map (fun x => if x.tag = o.tag then { x with waitStaging := false, aux := 1 } else x) } } := by
  change execStagingAdmit s = _
  simp only [execStagingAdmit, waits, room]
  rfl

/-- A list that is well formed has reached its END. -/
theorem listShort_of_parsed {b : List Byte} {l : List (Nat × Nat)} (parsed : parseFrags 4096 b = some l) : listShort b = false := by
  simp [listShort, parsed]

theorem fragmentListRead_of_parsed {s : State} {tag : Nat} {o : Op} {b : List Byte} {l : List (Nat × Nat)}
    (holds : findOp s tag = some o) (waits : o.stage = .waitFrags) (linked : entryUp s = true) (block : o.pkt.opc = 0x0603 → o.aux ≠ 0)
    (parsed : parseFrags 4096 b = some l) (sum : fragSum l = o.pkt.dlen) :
    exec (.fragmentListRead tag (.data b)) s = .next { s with
      hst := { s.hst with bus := .rdShared o.pkt.dptr :: s.hst.bus },
      tsk := { s.tsk with ops := s.tsk.ops.map (fun x => if x.tag = tag then { x with frags := l, stage := .ready } else x) } } := by
  have due : ¬ (o.stage ≠ .waitFrags ∨ (!entryUp s) = true ∨ (o.pkt.opc = 0x0603 ∧ o.aux = 0)) := by
    rintro (other | down | ⟨scan, unread⟩)
    · exact other waits
    · simp [linked] at down
    · exact block scan unread
  change execFragmentListRead tag (.data b) s = _
  simp only [execFragmentListRead, holds, if_neg due, listShort_of_parsed parsed, parsed, sum, Nat.lt_irrefl, Bool.false_eq_true, if_false]
  rfl

/-! ### Completion (R43, R67, R83) -/

theorem commandComplete_of_finished {s : State} {tag : Nat} {o : Op} {r : Reply} (holds : findOp s tag = some o)
    (finished : o.stage = .finished) (known : o.reply = some r) (queued : fromFootpath o = false) :
    exec (.commandComplete tag) s = .next (handOver s o r) := by
  change execCommandComplete tag s = _
  simp only [execCommandComplete, holds, finished, known, queued]
  rfl

theorem noteFailed_of_success {s : State} {o : Op} {r : Reply} (success : o.pkt.opc = 0x0402 → r.status = stSuccess) :
    noteFailed s o r = s :=
  if_pos (Decidable.not_or_of_imp success)

/-- A queue command's reply goes to its ring once its lock and its granules are given back. -/
theorem handOver_of_queue {s : State} {o : Op} {r : Reply} (success : o.pkt.opc = 0x0402 → r.status = stSuccess)
    (wanted : o.discard = false) (queued : fromFootpath o = false) :
    handOver s o r = toRing (modOp (flipBack (releaseLock s o.tag) o.tag) o.tag (fun p => { p with stage := .completed })) o.ring
      { entry := entryOf o r, tag := o.tag, after := o.after } := by
  simp only [handOver, noteFailed_of_success success, wanted, queued, Bool.false_eq_true, if_false]

theorem findOp_releaseLock {s : State} {tag : Nat} {o : Op} (holds : findOp s tag = some o) :
    findOp (releaseLock s tag) tag = some { o with pins := [] } :=
  findOp_modOp { s with tsk := { s.tsk with locks := s.tsk.locks.filter (fun l => l.tag != tag) } } tag _ o holds fun _ => rfl

theorem findOp_flipBack {s : State} {tag : Nat} {o : Op} (holds : findOp s tag = some o) :
    findOp (flipBack s tag) tag = some { o with granules := [] } := by
  simp only [flipBack, holds]
  exact findOp_modOp s tag _ o holds fun _ => rfl

theorem flipBack_rings (s : State) (tag : Nat) : (flipBack s tag).tsk.rings = s.tsk.rings := by
  unfold flipBack
  split <;> rfl

/-- The hand-over completes the command and changes the tracker and the bias of granules alone (log entry 76). -/
theorem handOver_completes {s : State} {o : Op} {r : Reply} (holds : findOp s o.tag = some o)
    (success : o.pkt.opc = 0x0402 → r.status = stSuccess) (wanted : o.discard = false) (queued : fromFootpath o = false) :
    (handOver s o r).tsk.rings = mmod s.tsk.rings o.ring (fun x => { x with waiting := x.waiting ++
        [{ entry := entryOf o r, tag := o.tag, after := o.after }] }) ∧
      (findOp (handOver s o r) o.tag).map (fun o => o.stage) = some .completed ∧ ChangesOnly [.tsk, .hst] s (handOver s o r) := by
  have returned := findOp_flipBack (findOp_releaseLock holds)
  rw [handOver_of_queue success wanted queued]
  refine ⟨?_, ?_, ?_⟩
  · simp only [toRing, modOp, upTsk_tsk, flipBack_rings]
    rfl
  · exact congrArg (Option.map (fun o => o.stage)) (findOp_modOp _ o.tag (fun p => { p with stage := .completed }) _ returned fun _ => rfl)
  · refine .step (toRing_fr _ _ _) (by decide) (.step (modOp_fr _ _ _) (by decide) ?_)
    exact .step (flipBack_fr _ _) (by decide) (.step (releaseLock_fr _ _) (by decide) (.refl _ _))

/-- Settles O1: each clause is the branch of its command that the clause's conditions select; acceptance and completion also rest on
what admission and the hand-over keep. -/
theorem intakeAndLocksComplete : Obligations.IntakeAndLocksComplete := by
  refine ⟨?_, ?_, ?_, ?_, ?_, ?_, ?_, ?_⟩
  · intro s q x b index exist live enabled empty whole good cxl flowing notL2 serving
    rw [slotWrite_of_whole index whole cxl flowing notL2 serving, slotWriteOne_of_queue b exist live enabled, empty, good]
    rfl
  · intro s q x b index exist live enabled holds whole cxl flowing notL2 serving
    obtain ⟨overrun, unreplied, tracker⟩ := slotWriteOne_of_held b exist live enabled holds
    exact ⟨_, slotWrite_of_whole index whole cxl flowing notL2 serving, by rw [tracker], by rw [tracker], by rw [tracker],
      slotWriteOne_fr s q b⟩
  · intro s q tag p takes noFootpath free next
    obtain ⟨nextSeq, accepted, known, held⟩ := acceptPacket_registers (emptied s q) q p tag
    refine ⟨_, intakeAccept_of_nextHeld takes noFootpath free next, nextSeq, accepted, known, ?_, fun h mem => ?_⟩
    · refine List.any_eq_false.2 fun h mem => ?_
      simpa using (List.mem_filter.1 (held h mem)).2
    · exact (List.mem_filter.1 (held h mem)).1
  · exact fun _ _ _ _ => lockGrant_of_grantable
  · exact fun _ _ _ => lockEntryFree_of_room
  · exact fun _ _ => stagingAdmit_of_room
  · exact fun _ _ _ _ _ => fragmentListRead_of_parsed
  · intro s tag o r x holds finished known queued wanted success ring
    obtain rfl : o.tag = tag := by simpa using List.find?_some holds
    exact ⟨_, commandComplete_of_finished holds finished known queued, handOver_completes holds success wanted queued⟩

end Sys2Proof.Machine
end

section
/-! SUPPORT. The Footpath port: packets it takes and discards, NAKs, breaks and timeouts (R68, R98, R468 to R474). -/

namespace Sys2Proof.Machine
open Sys2Proof

/-! ### Packets that are discarded (R471, R474) -/

theorem fpDiscard_of_length (s : State) (crcOk : Bool) : fpDiscard s false crcOk = some 2 := rfl

theorem fpDiscard_of_crc (s : State) : fpDiscard s true false = some 1 := rfl

theorem fpDiscard_of_locked {s : State} (locked : s.glb.fpLock = true) : fpDiscard s true true = some 5 := by
  simp only [fpDiscard, locked]
  rfl

theorem fpDiscard_of_good {s : State} {lenOk crcOk : Bool} (len : lenOk = true) (crc : crcOk = true) (unlocked : s.glb.fpLock = false) :
    fpDiscard s lenOk crcOk = none := by
  simp only [fpDiscard, len, crc, unlocked]
  rfl

/-! ### COMMAND -/

theorem footpathCommand_of_discard {s : State} {b : List Byte} {crc r : Nat} (listens : fpListens s = true)
    (discarded : fpDiscard s (b.length == 64) (crc == fpCrc 1 b) = some r) : exec (.footpathCommand b crc) s = .next (fpNak s r 0) := by
  change execFootpathCommand b crc s = _
  simp only [execFootpathCommand, listens, discarded]
  rfl

/-- A COMMAND packet that is not discarded ends the command that awaits data, and its CHK decides whether it is accepted. -/
theorem footpathCommand_of_good {s : State} {b : List Byte} {crc : Nat} (listens : fpListens s = true) (unlocked : s.glb.fpLock = false)
    (whole : b.length = 64) (sound : crc = fpCrc 1 b) :
    exec (.footpathCommand b crc) s = if chkOk b then .next (acceptFootpath (fpCut (fpSeen s)) (parsePacket b))
      else .next (fpSend (fpCut (fpSeen s)) (.reply none (entryBytes
        { cookie := (parsePacket b).cookie, qid := 0, status := stCrc, detail := 0, tag := 0xFFFF, r0 := 0, r1 := 0 } false))) := by
  have taken := fpDiscard_of_good (beq_iff_eq.2 whole) (beq_iff_eq.2 sound) unlocked
  change execFootpathCommand b crc s = _
  simp only [execFootpathCommand, listens, taken]
  rfl

/-! ### DATA (R98, R472) -/

/-- A DATA packet that is not discarded is judged by the command that awaits data. -/
theorem footpathData_of_good {s : State} {b : List Byte} {crc : Nat} (listens : fpListens s = true) (unlocked : s.glb.fpLock = false)
    (least : 5 ≤ b.length) (most : b.length ≤ 1028) (sound : crc = fpCrc 3 b) :
    exec (.footpathData b crc) s = match fpAwaiting s with
      | none => .next (fpNak s 4 0)
      | some o => if num b 2 2 ≠ o.rxSeq then .next (fpNak s 4 o.rxSeq)
          else .next (fpTake (fpSeen s) o (bit (num b 0 2) 0) (b.drop 4)) := by
  have taken := fpDiscard_of_good (Bool.and_eq_true_iff.2 ⟨decide_eq_true least, decide_eq_true most⟩) (beq_iff_eq.2 sound) unlocked
  change execFootpathData b crc s = _
  simp only [execFootpathData, listens, taken]
  rfl

/-! ### NAK (R471) -/

/-- What goes out again of a packet sent: a reply frees its tag only once (R67). -/
def resent (q : FpPacket) : FpPacket :=
  match q with
  | .reply _ b => .reply none b
  | q => q

/-- A NAK that is not discarded is counted, and the packet sent last goes out again or, at the third NAK in succession, is dropped. -/
theorem footpathNak_of_good {s : State} {b : List Byte} {crc : Nat} {q : FpPacket} {l : List FpPacket} (listens : fpListens s = true)
    (whole : b.length = 4) (sound : crc = fpCrc 4 b) (sent : s.glb.fpSent = q :: l) :
    exec (.footpathNak b crc) s = if 2 ≤ s.glb.fpNaks then
        .next (upGlb (upGlb (fpSeen s) (fun g => { g with fpNaksReceived := satInc g.fpNaksReceived }))
          (fun g => { g with fpNaks := 0, fpDropped := satInc g.fpDropped }))
      else .next (upGlb (upGlb (fpSeen s) (fun g => { g with fpNaksReceived := satInc g.fpNaksReceived })) (fun g => { g with
        fpNaks := g.fpNaks + 1,
        fpSent := if s.pwr.fpRdyIn then resent q :: g.fpSent else g.fpSent,
        fpOut := if s.pwr.fpRdyIn then g.fpOut else resent q :: g.fpOut })) := by
  have sentStill : (upGlb (fpSeen s) (fun g => { g with fpNaksReceived := satInc g.fpNaksReceived })).glb.fpSent = q :: l := sent
  change execFootpathNak b crc s = _
  rw [execFootpathNak, if_neg (by simp [listens]), if_neg (not_not_intro whole), if_neg (not_not_intro sound)]
  simp only [sentStill]
  rfl

/-! ### Rate changes, breaks and timeouts -/

theorem footpathBaud_of_rate {s : State} {b : List Byte} {crc : Nat} (listens : fpListens s = true) (unlocked : s.glb.fpLock = false)
    (whole : b.length = 4) (sound : crc = fpCrc 5 b) (least : 1 ≤ num b 0 4) (most : num b 0 4 ≤ 25) :
    exec (.footpathBaud b crc) s = .next (fpSend (fpSeen s) (.baud (num b 0 4))) := by
  have taken := fpDiscard_of_good (beq_iff_eq.2 whole) (beq_iff_eq.2 sound) unlocked
  have legal : ¬ (num b 0 4 = 0 ∨ 25 < num b 0 4) := by omega
  change execFootpathBaud b crc s = _
  simp only [execFootpathBaud, listens, taken, if_neg legal]
  rfl

theorem footpathBreak_of_powered {s : State} (powered : s.glb.poweredOn = true) (notBallast : s.pwr.state ≠ 3)
    (undumped : s.med.dumpHeld = false) (live : s.flt.halted = false) :
    exec .footpathBreak s = .next (upGlb (fpCut s) (fun g => { g with baudN := 25 })) :=
  if_neg (by simp [powered, notBallast, undumped, live])

theorem fpCut_of_awaiting {s : State} {o : Op} (awaiting : fpAwaiting s = some o) : fpCut s = fpWrongLength s o stLengthShort := by
  simp only [fpCut, awaiting]

theorem dataChunkTimeout_of_late {s : State} {o : Op} (awaiting : fpAwaiting s = some o) (late : o.rxAt + 1000 ≤ s.glb.lifetime) :
    exec .dataChunkTimeout s = .next (fpCut s) := by
  change execDataChunkTimeout s = _
  simp only [execDataChunkTimeout, awaiting, if_neg (Nat.not_lt.2 late)]

theorem footpathBadKind_of_unknown {s : State} {k : Nat} (listens : fpListens s = true) (notCommand : k ≠ 1) (notData : k ≠ 3)
    (notNak : k ≠ 4) (notBaud : k ≠ 5) : exec (.footpathBadKind k) s = .next (fpNak s 3 0) := by
  change execFootpathBadKind k s = _
  simp [execFootpathBadKind, listens, notCommand, notData, notNak, notBaud]

/-- Settles O42: what discards a packet is judged first; each clause is then the branch of its command that its conditions select. -/
theorem footpathCommandsComplete : Obligations.FootpathCommandsComplete := by
  refine ⟨?_, ?_, ?_, ?_, ?_, ?_, ?_, ?_, ?_, ?_, ?_, ?_⟩
  · intro s b crc listens unlocked whole sound good
    rw [footpathCommand_of_good listens unlocked whole sound, if_pos good]
  · intro s b crc listens unlocked whole sound wrong
    rw [footpathCommand_of_good listens unlocked whole sound, if_neg (by simp [wrong])]
  · intro s b crc listens
    refine ⟨fun short => ?_, fun whole broken => ?_, fun whole sound locked => ?_⟩
    · exact footpathCommand_of_discard listens (by rw [beq_false_of_ne short, fpDiscard_of_length])
    · exact footpathCommand_of_discard listens (by rw [beq_iff_eq.2 whole, beq_false_of_ne broken, fpDiscard_of_crc])
    · exact footpathCommand_of_discard listens (by rw [beq_iff_eq.2 whole, beq_iff_eq.2 sound, fpDiscard_of_locked locked])
  · intro s b crc o listens unlocked least most sound awaiting inOrder
    simp only [footpathData_of_good listens unlocked least most sound, awaiting, inOrder, ne_eq, not_true_eq_false, if_false]
  · intro s b crc listens unlocked least most sound
    refine ⟨fun none => ?_, fun o awaiting outOfOrder => ?_⟩
    · simp only [footpathData_of_good listens unlocked least most sound, none]
    · simp only [footpathData_of_good listens unlocked least most sound, awaiting, if_pos outOfOrder]
  · intro s b crc q l listens whole sound sent earlier ready
    rw [footpathNak_of_good listens whole sound sent, if_neg (Nat.not_le.2 earlier), ready]
    rfl
  · intro s b crc q l listens whole sound sent third
    rw [footpathNak_of_good listens whole sound sent, if_pos third]
    rfl
  · exact fun _ _ _ => footpathBaud_of_rate
  · exact fun _ => footpathBreak_of_powered
  · exact fun _ listens => if_pos listens
  · intro s o awaiting late
    rw [dataChunkTimeout_of_late awaiting late, fpCut_of_awaiting awaiting]
    rfl
  · exact fun _ _ => footpathBadKind_of_unknown

end Sys2Proof.Machine
end

section
/-! SUPPORT. The values of the reset state (R40, R70, R101, R212, R291). -/

namespace Sys2Proof.Machine
open Sys2Proof

/-- A memory that lists no byte reads zero everywhere (log entry 11). -/
theorem loadZero_nil (a n : Nat) : loadZero [] a n = List.replicate n 0 := by
  simp [loadZero, span, cellAt, mget, List.eq_replicate_iff]

/-- Settles O57: the lists of cores and tables repeat one element, and the rest is the reset state's text. -/
theorem resetValues : Obligations.ResetValues := by
  refine ⟨⟨rfl, rfl, rfl, rfl, rfl⟩, loadZero_nil, ⟨?_, List.length_replicate, rfl, ?_⟩, ⟨rfl, rfl, rfl, rfl, rfl, rfl, rfl, rfl, rfl⟩⟩
  · intro c mem
    obtain rfl := List.eq_of_mem_replicate mem
    exact ⟨rfl, rfl, rfl⟩
  · intro t mem
    obtain rfl := List.eq_of_mem_replicate mem
    rfl

end Sys2Proof.Machine
end

section
/-! SUPPORT. The Admin and Queue commands, ABORT and NOP (R58 to R60, R70, R84 to R86, R100 to R102, R108). -/

namespace Sys2Proof.Machine
open Sys2Proof

/-! ### IDENTIFY, logs and features -/

theorem identify_of_outUp {s : State} {tag : Nat} {o : Op} (accepted : opFor s tag 0x0101 = some o) (up : outUp s o = true) :
    exec (.identify tag) s = .next (if o.pkt.p0 = 0 then finish (deliver s o 0 (identifyDevice s)) tag (ok 0 0)
      else finish (deliver s o 0 (identifyVolumes s o.pkt.p1)) tag (ok (listedVolumes s o.pkt.p1).length 0)) := by
  change execIdentify tag s = _
  simp only [execIdentify, accepted, up, Bool.not_true, Bool.false_eq_true, if_false, apply_ite Host.Outcome.next]

theorem getLog_of_outUp {s : State} {tag : Nat} {o : Op} (accepted : opFor s tag 0x0102 = some o) (up : outUp s o = true) :
    exec (.getLog tag) s = .next
      (finish (deliver s o 0 (field (logBytes s o.pkt.p0) o.pkt.p1 o.pkt.dlen)) tag (ok (logBytes s o.pkt.p0).length 0)) := by
  change execGetLog tag s = _
  simp only [execGetLog, accepted, up]
  rfl

/-- The features with feature `n` at `v`: a feature at its default is not listed. -/
def withFeature (s : State) (n v : Nat) : State :=
  upGlb s (fun g => { g with features := if v = featureDefault n then mdel g.features n else mset g.features n v })

theorem feature_withFeature_same (s : State) (n v : Nat) : feature (withFeature s n v) n = v := by
  simp only [feature, withFeature, upGlb_glb, mgetD]
  split
  case isTrue default => rw [mget_mdel_same, Option.getD_none, default]
  case isFalse => rw [mget_mset_same, Option.getD_some]

theorem feature_withFeature_other (s : State) (v : Nat) {n k : Nat} (other : k ≠ n) : feature (withFeature s n v) k = feature s k := by
  simp only [feature, withFeature, upGlb_glb, mgetD]
  split
  case isTrue => rw [mget_mdel_other _ _ _ other]
  case isFalse => rw [mget_mset_other _ _ _ _ other]

theorem setFeature_of_first {s : State} {tag : Nat} {o : Op} (accepted : opFor s tag 0x0103 = some o)
    (first : earlierOp s o.seq (fun q => q.opc == 0x0103 && q.p0 == o.pkt.p0) = false) :
    exec (.setFeature tag) s = .next (finish (withFeature s o.pkt.p0 o.pkt.p1) tag (ok 0 0)) := by
  change execSetFeature tag s = _
  simp only [execSetFeature, accepted, first]
  rfl

theorem getFeature_of_opFor {s : State} {tag : Nat} {o : Op} (accepted : opFor s tag 0x0104 = some o) :
    exec (.getFeature tag) s = .next
      (finish s tag (ok (if o.pkt.p0 = 1 then s.hst.arenaCur else feature s o.pkt.p0) (feature s o.pkt.p0))) := by
  change execGetFeature tag s = _
  simp only [execGetFeature, accepted]

/-! ### Queues and rings -/

theorem queueCreate_of_checked {s : State} {tag : Nat} {o : Op} (accepted : opFor s tag 0x0201 = some o)
    (checked : checkObjects s o.pkt = none) :
    exec (.queueCreate tag) s = .next (finish (upTsk s (fun t => { t with
      queues := mset t.queues o.pkt.p0 (Queue.mk o.pkt.p1 o.pkt.p2 (o.pkt.p3 == 1) none) })) tag (ok 0 0)) := by
  change execQueueCreate tag s = _
  simp only [execQueueCreate, accepted, checked]

/-- QUEUE_DELETE waits for its queue's other commands and for the ABORTED owed to packets of its slot (R59, R67). -/
theorem queueDelete_of_opFor {s : State} {tag : Nat} {o : Op} (accepted : opFor s tag 0x0202 = some o) :
    exec (.queueDelete tag) s = .next
      (if s.tsk.ops.any (fun x => x.src == .queue o.pkt.p0 && x.tag != tag) || s.tsk.overrun.any (fun x => x.2.qid == o.pkt.p0) then
        running s tag
      else finish (upTsk s (fun t => { t with queues := mdel t.queues o.pkt.p0 })) tag (ok 0 0)) := by
  change execQueueDelete tag s = _
  simp only [execQueueDelete, accepted, apply_ite Host.Outcome.next]

theorem ringCreate_of_checked {s : State} {tag : Nat} {o : Op} (accepted : opFor s tag 0x0203 = some o)
    (checked : checkObjects s o.pkt = none) :
    exec (.ringCreate tag) s = .next (finish (upTsk s (fun t => { t with
      rings := mset t.rings o.pkt.p0 { Ring.zero with
        base := o.pkt.addr, sizeLog2 := o.pkt.p1, vector := o.pkt.p2, count := o.pkt.p3, time := o.pkt.p4 } })) tag (ok 0 0)) := by
  change execRingCreate tag s = _
  simp only [execRingCreate, accepted, checked]

theorem ringDelete_of_unowed {s : State} {tag : Nat} {o : Op} (accepted : opFor s tag 0x0204 = some o)
    (checked : checkObjects s o.pkt = none) (unowed : ringOwed s o.pkt.p0 tag = false) :
    exec (.ringDelete tag) s = .next (finish (upTsk s (fun t => { t with rings := mdel t.rings o.pkt.p0 })) tag (ok 0 0)) := by
  change execRingDelete tag s = _
  simp only [execRingDelete, accepted, checked, unowed]
  rfl

theorem queueQuery_of_queue {s : State} {tag : Nat} {o : Op} {x : Queue} (accepted : opFor s tag 0x0205 = some o)
    (present : queueAt s o.pkt.p0 = some x) :
    exec (.queueQuery tag) s = .next (finish s tag (ok s.tsk.nextSeq (x.ring + 4096 * x.limit + 2 ^ 21 * b2n x.classF +
      2 ^ 22 * b2n (s.tsk.held.any (fun h => h.1 == o.pkt.p0)) + 2 ^ 23 * queueTags s o.pkt.p0))) := by
  change execQueueQuery tag s = _
  simp only [execQueueQuery, accepted, present]

/-! ### ABORT and NOP -/

/-- ABORT takes the first incomplete command it names before a HELD packet (R84). -/
theorem abort_of_named {s : State} {tag : Nat} {a o : Op} (found : findOp s tag = some a) (isAbort : a.pkt.opc = 0x0F01)
    (ready : a.stage = .ready) (named : (namedOps s a.pkt).find? (fun o => o.stage != .completed) = some o) :
    exec (.abort tag) s = .next (abortNamed s tag o) := by
  change execAbort tag s = _
  simp only [execAbort, found, isAbort, ready, named]
  rfl

theorem abort_of_unnamed {s : State} {tag : Nat} {a : Op} (found : findOp s tag = some a) (isAbort : a.pkt.opc = 0x0F01)
    (ready : a.stage = .ready) (unnamed : namedOps s a.pkt = []) (unheld : namedHeld s a.pkt = none) :
    exec (.abort tag) s = .next (finish s tag { status := stNotFound }) := by
  change execAbort tag s = _
  simp only [execAbort, found, isAbort, ready, unnamed, unheld]
  rfl

theorem abortNamed_of_abortable {s : State} {tag : Nat} {o : Op} (incomplete : o.stage ≠ .completed) (fresh : o.aborted = false)
    (able : abortable o.pkt.opc = true) (noScan : o.pkt.opc ≠ 0x0603) :
    abortNamed s tag o = modOp (finish (abortOp s o) tag (ok 0 0)) tag (fun x => { x with after := some o.seq }) :=
  if_neg (by simp [incomplete, fresh, able, noScan])

theorem nop_of_opFor {s : State} {tag : Nat} {o : Op} (accepted : opFor s tag 0x0F02 = some o) :
    exec (.nop tag) s = .next (finish s tag (ok o.seq 0)) := by
  change execNop tag s = _
  simp only [execNop, accepted]

/-- Settles O5: each clause is the branch of its command that the clause's conditions select. -/
theorem adminCommandsComplete : Obligations.AdminCommandsComplete := by
  refine ⟨?_, ?_, ?_, ?_, ?_, ?_, ?_, ?_, ?_, ?_, ?_, ?_, ?_, ?_⟩
  · intro s tag o accepted up device
    rw [identify_of_outUp accepted up, if_pos device]
  · intro s tag o accepted up list
    rw [identify_of_outUp accepted up, if_neg list]
  · exact fun _ _ _ => getLog_of_outUp
  · intro s tag o accepted first
    exact ⟨withFeature s o.pkt.p0 o.pkt.p1, setFeature_of_first accepted first, feature_withFeature_same _ _ _,
      fun _ => feature_withFeature_other _ _, upGlb_fr _ _⟩
  · exact fun _ _ _ => getFeature_of_opFor
  · exact fun _ _ _ => queueCreate_of_checked
  · intro s tag o accepted last settled
    rw [queueDelete_of_opFor accepted, last, settled]
    rfl
  · intro s tag o accepted others
    rw [queueDelete_of_opFor accepted, others]
    rfl
  · exact fun _ _ _ => ringCreate_of_checked
  · exact fun _ _ _ => ringDelete_of_unowed
  · exact fun _ _ _ _ => queueQuery_of_queue
  · intro s tag a o found isAbort ready named incomplete fresh able noScan
    rw [abort_of_named found isAbort ready named, abortNamed_of_abortable incomplete fresh able noScan]
  · exact fun _ _ _ => abort_of_unnamed
  · exact fun _ _ _ => nop_of_opFor

end Sys2Proof.Machine
end

section
/-! SUPPORT. The Volume commands, the walk of a format and the key cache (R103, R126, R149, R174, R177 to R179, R324 to R326). -/

namespace Sys2Proof.Machine
open Sys2Proof

/-! ### Volumes -/

theorem volumeCreate_of_unpartnered {s : State} {tag : Nat} {o : Op} (accepted : opFor s tag 0x0301 = some o)
    (fresh : o.stage ≠ .running) (writable : readOnly s = false) (checked : checkObjects s o.pkt = none) (room : jRoom s 8 = true)
    (unpending : pendingKey s o.pkt.vol = none) (alone : partnered s = false) :
    exec (.volumeCreate tag) s = .next (finish (addVolume
      (putKey (freshKey s).2 { vol := o.pkt.vol, keyId := (freshKey s).1, kind := 0, capacity := o.pkt.addr, attrs := o.pkt.p0 })
      o.pkt.vol o.pkt.addr o.pkt.p0 (freshKey s).1 false) tag (ok 0 0)) := by
  change execVolumeCreate tag s = _
  simp only [execVolumeCreate, accepted, fresh, writable, checked, room, unpending, alone]
  rfl

theorem volumeDelete_of_unmirrored {s : State} {tag : Nat} {o : Op} (accepted : opFor s tag 0x0302 = some o)
    (fresh : o.stage ≠ .running) (volume : sameVolume s o = true) (room : jRoom s 8 = true)
    (unmirrored : (partnered s && !isFoster s o.pkt.vol) = false) :
    exec (.volumeDelete tag) s = .next (finish (removeVolume s o.pkt.vol) tag (ok 0 0)) := by
  change execVolumeDelete tag s = _
  simp only [execVolumeDelete, accepted, fresh, volume, room, unmirrored]
  rfl

theorem volumeQuery_of_volume {s : State} {tag : Nat} {o : Op} {v : Volume} (accepted : opFor s tag 0x0303 = some o)
    (volume : volAt s o.pkt.vol = some v) :
    exec (.volumeQuery tag) s = .next (finish s tag (ok v.capacity
      (b2n v.comp + 2 * b2n v.cold + 4 * b2n v.foster + 8 * b2n (readOnly s) + 16 * b2n v.formatting))) := by
  change execVolumeQuery tag s = _
  simp only [execVolumeQuery, accepted, volume]

/-! ### Format -/

/-- A FORMAT without a new key takes nothing of the key log, and the partner is told nothing (R179, R342). -/
theorem format_of_keptKey {s : State} {tag : Nat} {o : Op} {v : Volume} (accepted : opFor s tag 0x0304 = some o)
    (fresh : o.stage ≠ .running) (writable : readOnly s = false) (volume : sameVolume s o = true) (room : jRoom s 1 = true)
    (listed : mget s.med.volumes o.pkt.vol = some v) (keepsKey : bit o.pkt.p0 0 = false) :
    exec (.format tag) s = .next (finish (upMed (unmapFormat (unstageVolume s o.pkt.vol) o.pkt.vol) (fun m => { m with
      formats := m.formats ++ [(⟨o.pkt.vol, o.pkt.p0 % 2, (unmapFormat (unstageVolume s o.pkt.vol) o.pkt.vol).med.wseq,
        v.dir.flatMap (fun d => stretchUnits (unstageVolume s o.pkt.vol) o.pkt.vol d.1)⟩ : FormatWait)] })) tag (ok 0 0)) := by
  change execFormat tag s = _
  simp only [execFormat, accepted, fresh, writable, volume, room, listed, keepsKey]
  rfl

/-- What the walk of format `f` begins with: its progress record, over the bands that are OPEN or CLOSED (R177, R179). -/
def startWalk (s : State) (f : FormatWait) (rest : List FormatWait) : State :=
  upMed s (fun m => { m with
    formats := rest
    progress := { state := 2, mode := f.mode, keyStep := f.mode == 1, failed := false, pattern := 0, vol := f.vol,
                  total := (walkBands s).length, done := 0, wseqMark := f.mark, units := walkBands s } })

theorem formatWalk_of_waiting {s : State} {f : FormatWait} {rest : List FormatWait} (ready : s.glb.ready = true)
    (idle : s.med.progress.state = 0) (waiting : s.med.formats = f :: rest) (bands : walkBands s ≠ []) :
    exec .formatWalk s = .next (startWalk s f rest) := by
  have nonempty : (walkBands s).isEmpty = false := by simpa using bands
  change execFormatWalk s = _
  simp only [execFormatWalk, ready, idle, waiting, nonempty]
  rfl

theorem formatWalk_of_midway {s : State} {b : Nat} (ready : s.glb.ready = true) (walking : s.med.progress.state = 2)
    (next : s.med.progress.units[s.med.progress.done]? = some b) (left : s.med.progress.done + 1 < s.med.progress.total) :
    exec .formatWalk s = .next (upMed (walkBand s b) (fun m => { m with
      progress := { s.med.progress with done := s.med.progress.done + 1 } })) := by
  change execFormatWalk s = _
  simp only [execFormatWalk, ready, walking, next, if_neg (Nat.ne_of_lt left)]
  rfl

/-! ### The key cache -/

theorem keyUnwrap_of_miss {s : State} {vol : Nat} {l : List Nat} (listed : (mget s.med.volumes vol).isSome = true)
    (missing : s.sec.keyCache.contains vol = false) (sound : s.sec.errorState = false) (live : inReset s islCrypt = false)
    (room : keyRoom s = some l) :
    exec (.keyUnwrap vol) s = .next (upSec s (fun e => { e with keyCache := vol :: l, keyMisses := wrapInc e.keyMisses })) := by
  have known : (mget s.med.volumes vol).isNone = false := by simpa using listed
  change execKeyUnwrap vol s = _
  simp only [execKeyUnwrap, known, missing, sound, live, room]
  rfl

/-- Settles O7: each clause is the branch of its command that the clause's conditions select. -/
theorem volumeCommandsComplete : Obligations.VolumeCommandsComplete := by
  refine ⟨?_, ?_, ?_, ?_, ?_, ?_, ?_⟩
  · exact fun _ _ _ => volumeCreate_of_unpartnered
  · exact fun _ _ _ => volumeDelete_of_unmirrored
  · exact fun _ _ _ _ => volumeQuery_of_volume
  · exact fun _ _ _ _ => format_of_keptKey
  · intro s f rest ready idle waiting bands
    exact ⟨startWalk s f rest, formatWalk_of_waiting ready idle waiting bands, rfl, rfl, rfl, rfl, rfl, rfl, upMed_fr _ _⟩
  · exact fun _ _ => formatWalk_of_midway
  · exact fun _ _ _ => keyUnwrap_of_miss

end Sys2Proof.Machine
end

section
/-! SUPPORT. The commands that read blocks and the inline inflation (R43, R80, R104, R109, R132, R137, R294, R305). -/

namespace Sys2Proof.Machine
open Sys2Proof

/-- A block that staging holds is its newest version, and the map is not asked (R132, R137). -/
theorem resolve_of_staged {s : State} {v lba : Nat} {x : Staged} (staged : stagedAt s v lba = some x) :
    resolve s v lba = (.staged x, s) := by
  simp only [resolve, staged]

theorem getBlock_of_staged {s : State} {m : MediaIn} {v lba : Nat} {x : Staged} (bad : Bool) (staged : stagedAt s v lba = some x)
    (kept : x.lost = false) (sound : m.badStaged.contains (v, lba) = false) :
    getBlock s m v lba bad = (.data x.data false, s) := by
  simp only [getBlock, resolve_of_staged staged, kept, sound]
  rfl

theorem read_of_atHand {s t : State} {tag : Nat} {o : Op} {media : MediaIn} {l : List (Nat × Got)}
    (accepted : opFor s tag 0x0401 = some o) (volume : sameVolume s o = true) (unheld : fosterWaits s o.pkt.vol = false)
    (up : ioUp s = true) (atHand : readAll s o media = (some l, t)) :
    exec (.read tag media) s = .next (finish (deliver (gotBytes (readMarks t o media) l).2 o 0 (gotBytes (readMarks t o media) l).1)
      tag (readReply t o.pkt.vol l)) := by
  change execRead tag media s = _
  simp [execRead, accepted, volume, unheld, up, atHand]

theorem read_of_waiting {s t : State} {tag : Nat} {o : Op} {media : MediaIn}
    (accepted : opFor s tag 0x0401 = some o) (volume : sameVolume s o = true) (unheld : fosterWaits s o.pkt.vol = false)
    (up : ioUp s = true) (waiting : readAll s o media = (none, t)) :
    exec (.read tag media) s = .next t := by
  change execRead tag media s = _
  simp [execRead, accepted, volume, unheld, up, waiting]

theorem readToArena_of_atHand {s t : State} {tag : Nat} {o : Op} {media : MediaIn} {l : List (Nat × Got)}
    (accepted : opFor s tag 0x0407 = some o) (volume : sameVolume s o = true) (unheld : fosterWaits s o.pkt.vol = false)
    (atHand : readAll s o media = (some l, t)) :
    exec (.readToArena tag media) s = .next (finish
      (arenaWrite (flipToDevice (gotBytes (readMarks t o media) l).2 o o.pkt.dptr o.pkt.dlen) o.pkt.dptr
        (gotBytes (readMarks t o media) l).1) tag (readReply t o.pkt.vol l)) := by
  change execReadToArena tag media s = _
  simp [execReadToArena, accepted, volume, unheld, atHand]

/-- COMPARE's reply by the first difference, where there is one (Table 4.12). -/
def compareReply (d : Option Nat) : Reply := d.elim (ok 0xFFFFFFFFFFFFFFFF 0) (ok · 1)

theorem compare_of_atHand {s t : State} {tag : Nat} {o : Op} {host : HostRead} {media : MediaIn} {given : List Byte}
    {l : List (Nat × Got)} (accepted : opFor s tag 0x0405 = some o) (volume : sameVolume s o = true)
    (unheld : fosterWaits s o.pkt.vol = false) (data : input s o host o.pkt.dlen = some (.data given))
    (atHand : readAll s o media = (some l, t)) (sound : failedLbas l = []) :
    exec (.compare tag host media) s = .next (finish (readMarks t o media) tag
      (compareReply (firstDiff 0 given (gotBytes (readMarks t o media) l).1))) := by
  change execCompare tag host media s = _
  simp only [execCompare, accepted, volume, unheld, data, atHand, sound]
  cases firstDiff 0 given (gotBytes (readMarks t o media) l).1 <;> simp [compareReply]

/-- The request that a block of a read makes for a pipe of the inline class (R294). -/
def inlineReq (tag lba : Nat) : PipeReq := { cls := .inlineC, tag := tag, num := lba, decomp := true }

theorem inlineInflate_of_onPipe {s : State} {tag lba : Nat} {media : MediaIn} {o : Op} {b d : List Byte}
    (found : findOp s tag = some o) (reads : isRead o.pkt.opc = true) (ready : o.stage = .ready) (least : o.pkt.addr ≤ lba)
    (within : lba < o.pkt.addr + o.pkt.blocks) (once : o.inflated.contains lba = false) (untried : o.inflateBad.contains lba = false)
    (stored : (getBlock s media o.pkt.vol lba false).1 = .packed b) (piped : onPipe s (inlineReq tag lba) = true)
    (inflates : inflateBlock b = some d) :
    exec (.inlineInflate tag lba media) s = .next (modOp
      (upCmp (leavePipe s (inlineReq tag lba)) (fun c => { c with decBytes := (c.decBytes + d.length) % 2 ^ 64 })) tag
      (fun x => { x with inflated := x.inflated ++ [lba] })) := by
  rw [inlineReq] at piped ⊢
  change execInlineInflate tag lba media s = _
  simp only [execInlineInflate, found, reads, ready, least, within, once, untried, stored, piped, inflates, decide_true]
  rfl

/-- Settles O8: each clause is the branch of its command that the clause's conditions select. -/
theorem readCommandsComplete : Obligations.ReadCommandsComplete := by
  refine ⟨?_, ?_, ?_, ?_, ?_, ?_, ?_⟩
  · exact fun _ _ _ _ _ _ => read_of_atHand
  · exact fun _ _ _ _ _ => getBlock_of_staged false
  · exact fun _ _ _ _ _ => read_of_waiting
  · exact fun _ _ _ _ _ _ => readToArena_of_atHand
  · intro s tag o host media given l t accepted volume unheld data atHand sound equal
    rw [compare_of_atHand accepted volume unheld data atHand sound, equal]
    rfl
  · intro s tag o host media given l t n accepted volume unheld data atHand sound differs
    rw [compare_of_atHand accepted volume unheld data atHand sound, differs]
    rfl
  · intro s tag lba media o b d found reads ready least within once untried stored piped inflates
    exact ⟨_, inlineInflate_of_onPipe found reads ready least within once untried stored piped inflates, rfl⟩

end Sys2Proof.Machine
end

section
/-! SUPPORT. Programs, the journal, checkpoints, leaf pages, garbage collection and erasing (R119, R121, R122, R131, R134 to R136,
R139, R141, R143 to R148, R153 to R157). -/

namespace Sys2Proof.Machine
open Sys2Proof

/-! ### Programs -/

/-- A block of zeros is placed without a judgement of its compression, its key or its stream (R131). -/
theorem placeHost_of_zero {s : State} (t : Stream) {v lba : Nat} {y : Staged} {x : Volume}
    (pages : (pagesReady s v [lba / 512]).1 = true) (room : jRoom s 42 = true) (staged : toPlace s v lba = some y)
    (volume : mget s.med.volumes v = some x) (zero : allZero y.data = true) :
    placeHost s t v [lba] = placeZero (pagesReady s v [lba / 512]).2 v y := by
  have stretch : ([lba].map (· / 512)).eraseDups = [lba / 512] := rfl
  have one : [lba].mapM (toPlace s v) = some [y] := by
    simp only [List.mapM_cons, List.mapM_nil, staged, Option.pure_def, Option.bind_eq_bind, Option.bind_some]
  simp only [placeHost, stretch, pages, one, volume, zero, List.length_singleton, room]
  rfl

theorem programComplete_of_host {s : State} (t : Stream) (v : Nat) (lbas : List Nat) (runs : mediaStopped s = false)
    (sound : s.sec.errorState = false) :
    exec (.programComplete (.host t v lbas)) s = .next (replayMirror (placeHost s t v lbas)) := by
  change execProgramComplete (.host t v lbas) s = _
  simp only [execProgramComplete, runs, sound]
  rfl

theorem programComplete_of_extent {s : State} (v st : Nat) (runs : mediaStopped s = false) (sound : s.sec.errorState = false) :
    exec (.programComplete (.extent v st)) s = .next (placeExtent s v st) := by
  change execProgramComplete (.extent v st) s = _
  simp only [execProgramComplete, runs, sound]
  rfl

theorem programComplete_of_sources {s u : State} {b : Nat} {list : List (Nat × Nat)} {media : MediaIn} {h : Nat × Nat}
    {l : List (GcCopy × ToPlace)} (runs : mediaStopped s = false) (sound : s.sec.errorState = false)
    (victim : s.med.victim = some b) (first : list.head? = some h) (next : (victimNext s b).take list.length = list)
    (oneVolume : list.all (fun x => x.1 == h.1) = true) (atHand : copySources s media list = (some l, u)) :
    exec (.programComplete (.copies list media)) s = .next (copyRun u h.1 l) := by
  change execProgramComplete (.copies list media) s = _
  simp only [execProgramComplete, runs, sound, victim, first, next, oneVolume, atHand, Bool.or_self, Bool.false_eq_true, Bool.not_true,
    ne_eq, not_true_eq_false, or_self, ↓reduceIte]

/-! ### Bands -/

theorem segmentSealTimeout_of_expired {s : State} {b : Nat} {x : Band} (band : mget s.med.bands b = some x)
    (opened : x.state = .opened) (runs : mediaStopped s = false) (expired : x.firstAt + s.med.sealMs ≤ s.glb.lifetime)
    (room : jRoom s 4 = true) :
    exec (.segmentSealTimeout b) s = .next (padSegment s b) := by
  change execSegmentSealTimeout b s = _
  simp only [execSegmentSealTimeout, band, opened, runs, expired, room, BEq.rfl, Bool.not_false, and_self, ↓reduceIte]

/-- A band closed early over a channel's failed program, its patrol deadline set where it had none (R122, R169). -/
def closeFailed (s : State) (b c : Nat) : State :=
  bandMod s b (fun x => { x with
    state := .closed, failed := linsert x.failed c,
    deadline := if x.deadline = 0 then s.glb.lifetime + patrolInterval s b else x.deadline })

theorem programFail_of_opened {s : State} {b c : Nat} {x : Band} (band : mget s.med.bands b = some x) (opened : x.state = .opened)
    (channel : (chanList s).contains c = true) (runs : mediaStopped s = false) (room : jRoom s 2 = true) :
    exec (.programFail b c) s = .next (journalDrain (closeFailed s b c) [bandRec b .closed] [b]) := by
  change execProgramFail b c s = _
  simp only [execProgramFail, band, opened, channel, runs, room]
  rfl

theorem bandErase_of_released {s : State} {b : Nat} {x : Band} (band : mget s.med.bands b = some x) (drained : x.state = .drained)
    (uncopied : x.copies = 0) (unread : x.reads = 0) (released : x.unreleased = []) (runs : mediaStopped s = false)
    (room : jRoom s 1 = true) :
    exec (.bandErase b) s = .next (journal (setBand s b .erasing) [bandRec b .erasing]) := by
  change execBandErase b s = _
  simp only [execBandErase, band, drained, uncopied, unread, released, runs, room, BEq.rfl, List.isEmpty_nil, Bool.not_false,
    Bool.not_true, Bool.false_eq_true, and_self, ↓reduceIte]

theorem eraseComplete_of_erasing {s : State} {b : Nat} (failed : List Nat) {x : Band} (band : mget s.med.bands b = some x)
    (erasing : x.state = .erasing) (runs : mediaStopped s = false) (room : jRoom s 1 = true) :
    exec (.eraseComplete b failed) s = .next (eraseBand s b x failed 1) := by
  change execEraseComplete b failed s = _
  simp only [execEraseComplete, band, erasing, runs, room, bne_self_eq_false, Bool.not_true, Bool.false_eq_true, or_self, ↓reduceIte]

/-! ### The journal and checkpoints -/

/-- Where the ring has room for a whole line, nothing cuts the line short (R154). -/
theorem flushLine_of_room {s : State} (room : s.med.ring.length + 4 ≤ ringCap) :
    flushLine s = ringWrite (upMed s (fun m => { m with jbuf := m.jbuf.drop 4 })) (s.med.jbuf.take 4) := by
  have line : min 4 (ringCap - s.med.ring.length) = 4 := by omega
  simp only [flushLine, line]

theorem journalLineFlush_of_room {s : State} (waiting : s.med.jbuf.isEmpty = false) (runs : mediaStopped s = false)
    (room : s.med.ring.length < ringCap) :
    exec .journalLineFlush s = .next (flushLine s) := by
  change execJournalLineFlush s = _
  simp only [execJournalLineFlush, waiting, runs, Nat.not_le.mpr room, Bool.or_self, Bool.false_eq_true, ↓reduceIte]

theorem checkpointStart_of_due {s : State} (idle : s.med.ckpt = none) (ready : s.glb.ready = true)
    (undumped : s.med.dumpActive = false) (sound : s.sec.errorState = false) (due : ckptDue s = true)
    (room : s.med.ring.length < ringCap) :
    exec .checkpointStart s = .next (startCkpt s) := by
  change execCheckpointStart s = _
  simp only [execCheckpointStart, idle, ready, undumped, sound, due, Nat.not_le.mpr room, Option.isSome_none, Bool.not_true,
    Bool.or_self, Bool.false_eq_true, decide_false, ↓reduceIte]

/-- The root that checkpoint `c` ends with (R157). -/
def ckptRoot (s : State) (c : Checkpoint) : Root :=
  { ckptNo := c.no, jstart := c.jstart, wseqCeil := s.med.wseqCeil, time := s.glb.lifetime, volumes := c.volumes, bands := c.bands,
    dirPieces := c.dirPieces, bandPieces := c.bandPieces }

/-- The root `r` stands in its slot, the checkpoint is over and the pieces that `r` supersedes are valid no longer (R145, R156). -/
def enterRoot (s : State) (r : Root) : State :=
  dropPieces (upMed (putRoot s r) (fun m => { m with ckpt := none, lifeCkpts := m.lifeCkpts + 1 }))
    ((rootPieces (newestRoot s)).map (fun p => p.2.2))

theorem checkpointRootWrite_of_piecesDone {s : State} {c : Checkpoint} (runs : mediaStopped s = false)
    (underWay : (writePieces s).med.ckpt = some c) (done : piecesDone (writePieces s) = true) :
    exec .checkpointRootWrite s =
      let r := ckptRoot (writePieces s) c
      let t := enterRoot (writePieces s) r
      .next (moveTail (if journaling t then sendT t (.root c.no r) else t)) := by
  change execCheckpointRootWrite s = _
  simp only [execCheckpointRootWrite, runs, underWay, done]
  rfl

/-! ### Leaf pages -/

/-- A page read at a level below the relocation level stays where it is in flash (R134, R171). -/
theorem leafFetchComplete_of_good {s u : State} {v st level pa : Nat} {c : Codeword} (fetched : s.med.leafFetch.contains (v, st) = true)
    (onFlash : dirAt s v st = .leaf (some pa)) (room : leafRoom s v st = some u) (present : mget u.med.flash (paCw pa) = some c)
    (unheld : mediaHeld u (paCw pa) = false) (readable : level ≤ 3) (calm : level < (ensurePage u v st).med.relocLevel)
    (kind : c.kind = 2) (volume : c.vol = v) (stretch : c.lba = 512 * st) (epochs : epochsWithin c.entries = true) :
    exec (.leafFetchComplete v st level) s =
      .next (upMed (ensurePage u v st) (fun m => { m with leafFetch := m.leafFetch.filter (· != (v, st)) })) := by
  change execLeafFetchComplete v st level s = _
  simp only [execLeafFetchComplete, fetched, onFlash, room, present, unheld, readable, kind, volume, stretch, epochs, upMed_med,
    Nat.not_le.mpr calm, BEq.rfl, decide_true, Bool.and_self, Bool.not_true, Bool.false_eq_true, ↓reduceIte]

theorem pageOut_of_oldest {s : State} {v st : Nat} {p q : LeafPage} (resident : pageAt s v st = some p) (dirty : p.dirty = true)
    (runs : mediaStopped s = false) (room : jRoom s 4 = true) (half : s.med.leafCap < 2 * (dirtyPages s.med.leafCache).length)
    (oldest : (dirtyPages s.med.leafCache).getLast? = some q) (isPage : q.is v st = true) :
    exec (.pageOut v st) s = .next (writePage s p) := by
  change execPageOut v st s = _
  simp only [execPageOut, resident, dirty, runs, room, half, oldest, isPage, Option.map_some, Option.getD_some, decide_true,
    Bool.not_false, Bool.and_self, Bool.true_or, ↓reduceIte]

/-! ### Garbage collection -/

/-- Collection takes band `b` for its victim (R144). -/
def takeVictim (s : State) (b : Nat) : State :=
  upMed s (fun m => { m with victim := some b, gcActive := true, nextVictims := m.nextVictims.filter (· != b) })

theorem gcRun_of_belowShare {s : State} {b : Nat} (ready : s.glb.ready = true) (undumped : s.med.dumpActive = false)
    (band : bandToHave s = true) (powered : flashOff s = false) (idle : s.med.victim = none) (noneDue : s.med.nextVictims = [])
    (below : belowShare s s.med.gcStart = true) (best : bestVictim s = some b) :
    exec .gcRun s = .next (workVictim (wakeGlide (takeVictim s b)) b) := by
  change execGcRun s = _
  simp only [execGcRun, ready, undumped, band, powered, idle, noneDue, below, best, List.find?_nil]
  rfl

/-- Two changes of the media part run together are one, so a state reached by several updates is compared field by field. -/
theorem upMed_upMed (s : State) (f g : Med → Med) : upMed (upMed s f) g = upMed s (fun m => g (f m)) := rfl

/-- A write since the copy was read has given the block another epoch, so the copy is out of date (R147). -/
theorem gcCommit_of_epoch_ne {s : State} {v lba : Nat} {g : GcCopy} {e : MapEntry}
    (copied : s.med.copies.find? (fun g => g.vol == v && g.lba == lba) = some g) (entry : mapOf s v lba = some e)
    (jroom : jRoom s 4 = true) (room : (leafRoom s v (lba / 512)).isNone = false) (rewritten : e.epoch ≠ g.epoch) :
    exec (.gcCommit v lba) s = .next (upMed s (fun m => { m with
      copies := m.copies.erase g, bands := mmod m.bands (paBand g.srcPa) (fun x => { x with copies := x.copies - 1 }),
      gcDiscards := wrapInc m.gcDiscards })) := by
  change execGcCommit v lba s = _
  simp only [execGcCommit, copied, entry, jroom, room, rewritten, bandMod, upMed_upMed, Bool.not_true, Bool.false_eq_true, and_false,
    ↓reduceIte]

/-- A copy leaves those that wait for their commit, and its source band counts one less (R147, R148). -/
def settleCopy (s : State) (g : GcCopy) : State :=
  bandMod (upMed s (fun m => { m with copies := m.copies.erase g })) (paBand g.srcPa) (fun x => { x with copies := x.copies - 1 })

/-- The entry `e` of a block after its copy took effect: only its place is new (R147). -/
def movedEntry (e : MapEntry) (g : GcCopy) : MapEntry := { e with form := e.form.moved g.dstPa }

theorem gcCommit_of_source {s : State} {v lba : Nat} {g : GcCopy} {e : MapEntry} {pa : Option Nat} {n : Nat} {x : Volume}
    (copied : s.med.copies.find? (fun g => g.vol == v && g.lba == lba) = some g) (entry : mapOf s v lba = some e)
    (jroom : jRoom s 4 = true) (room : (leafRoom s v (lba / 512)).isNone = false) (volume : mget s.med.volumes v = some x)
    (source : e.form.place = some (g.srcPa, n)) (epoch : e.epoch = g.epoch) (leaf : dirAt s v (lba / 512) = .leaf pa)
    (collected : g.reloc = false) :
    exec (.gcCommit v lba) s =
      let u := applyEntry (settleCopy s g) v lba (movedEntry e g)
      let dry := drying u [paBand g.srcPa]
      .next (journal (markDrained u dry) ([.mapGc v lba (movedEntry e g)] ++ dry.map (fun b => bandRec b .drained))) := by
  have listed : mget (settleCopy s g).med.volumes v = some x := volume
  have inPage : dirAt (settleCopy s g) v (lba / 512) = .leaf pa := leaf
  rw [settleCopy] at listed inPage
  change execGcCommit v lba s = _
  simp only [execGcCommit, copied, entry, jroom, room, listed, source, epoch, inPage, collected, settleCopy, movedEntry,
    Option.isSome_some, Option.map_some, List.nil_append, Bool.not_true, Bool.false_eq_true, and_self, ↓reduceIte]

/-- Settles O21: each clause is the branch of its command that the clause's conditions select. -/
theorem mediaCommandsComplete : Obligations.MediaCommandsComplete := by
  refine ⟨?_, ?_, ?_, ?_, ?_, ?_, ?_, ?_, ?_, ?_, ?_, ?_, ?_, ?_, ?_⟩
  · intro s t v lba y x runs sound pages room staged volume zero
    rw [programComplete_of_host t v [lba] runs sound, placeHost_of_zero t pages room staged volume zero]
  · exact fun _ => programComplete_of_extent
  · exact fun _ _ _ _ _ _ _ => programComplete_of_sources
  · exact fun _ _ _ => segmentSealTimeout_of_expired
  · exact fun _ _ _ _ => programFail_of_opened
  · exact fun _ _ failed _ => eraseComplete_of_erasing failed
  · intro s waiting runs room
    rw [journalLineFlush_of_room waiting runs (by omega), flushLine_of_room room]
  · exact fun _ => checkpointStart_of_due
  · rintro s u c runs rfl underWay done
    exact ⟨_, _, rfl, rfl, checkpointRootWrite_of_piecesDone runs underWay done⟩
  · exact fun _ _ _ _ _ _ _ => leafFetchComplete_of_good
  · exact fun _ _ _ _ _ => pageOut_of_oldest
  · exact fun _ _ => gcRun_of_belowShare
  · exact fun _ _ _ _ _ => gcCommit_of_epoch_ne
  · rintro s u v lba g e pa n x copied entry jroom room volume source epoch leaf collected rfl
    exact gcCommit_of_source copied entry jroom room volume source epoch leaf collected
  · exact fun _ _ _ => bandErase_of_released

end Sys2Proof.Machine
end

section
/-! SUPPORT. SANITISE, its start, its units and its status (R175 to R180). -/

namespace Sys2Proof.Machine
open Sys2Proof

/-! ### The journal changes neither staging nor the leaf cache -/

/-- The staged blocks and the resident leaf pages: what the key step empties (R175). -/
def Med.caches (m : Med) : List Staged × List LeafPage := (m.staging, m.leafCache)

theorem setJbuf_caches (s : State) (b : Med → List JRec) :
    (upMed s (fun m => { m with jbuf := b m })).med.caches = s.med.caches := rfl

theorem ringWrite_caches (s : State) (l : List JRec) : (ringWrite s l).med.caches = s.med.caches := by
  have same (t : State) (m : TMsg) : (sendT t m).med = t.med := (sendT_fr t m).2 .med (by decide)
  simp only [ringWrite]
  split
  case isTrue => rfl
  case isFalse =>
    split
    case isTrue => rw [same]; rfl
    case isFalse => rfl

theorem flushLine_caches (s : State) : (flushLine s).med.caches = s.med.caches := by
  rw [flushLine, ringWrite_caches, setJbuf_caches]

theorem journal_caches (s : State) (l : List Record) : (journal s l).med.caches = s.med.caches := by
  have flushed (k : List Nat) : (k.foldl (fun t _ => flushLine t) s).med.caches = s.med.caches :=
    List.foldlRecOn (motive := fun t : State => t.med.caches = s.med.caches) k _ rfl
      fun t kept _ _ => (flushLine_caches t).trans kept
  rw [journal, setJbuf_caches, flushed]

theorem journalMany_caches (s : State) (l : List Record) : (journalMany s l).med.caches = s.med.caches := by
  refine List.foldlRecOn (motive := fun t : State => t.med.caches = s.med.caches) l _ rfl fun t kept r _ => ?_
  rw [journal_caches]
  split
  case isTrue => exact kept
  case isFalse => exact (flushLine_caches t).trans kept

/-! ### The commands -/

theorem sanitise_of_opFor {s : State} {tag : Nat} {o : Op} (accepted : opFor s tag 0x0706 = some o) :
    exec (.sanitise tag) s = .next (running s tag) := by
  change execSanitise tag s = _
  simp only [execSanitise, accepted]

/-- The record that the sanitise of `o` starts with, and the formats that end with it (R177, R180, Table 6.10). -/
def startRecord (s : State) (o : Op) : State :=
  upMed s (fun m => { m with
    formats := [],
    absorbed := (if s.med.progress.state = 2 then [s.med.progress.vol] else []) ++ s.med.formats.map (fun f => f.vol),
    progress := { state := 1, mode := o.pkt.p0, keyStep := false, failed := false, pattern := o.pkt.p1, vol := 0, total := 0,
                  done := 0, wseqMark := 0, units := [] } })

theorem sanitiseStart_of_first {s : State} {o : Op}
    (waits : s.tsk.ops.find? (fun o => o.pkt.opc == 0x0706 && o.stage == .running) = some o)
    (first : earlierOp s o.seq (fun _ => true) = false) (sound : s.sec.errorState = false) (started : s.glb.serviceStart = false) :
    exec .sanitiseStart s = .next (sanitiseKeys (finish (startRecord s o) o.tag (ok 0 0))) := by
  change execSanitiseStart s = _
  simp only [execSanitiseStart, waits, first, sound, started]
  rfl

/-- What the key step empties stays empty, since the records of the directory's change only enter the journal (R175). -/
theorem keyStep_caches (s : State) : (keyStep s).med.caches = ([], []) := by
  have same (t : State) : (releaseMirror t).med = t.med := (releaseMirror_fr t).2 .med (by decide)
  rw [keyStep, same]
  exact journalMany_caches _ _

theorem sanitiseUnitDone_of_keyStep {s : State} (failed : List (Nat × Nat)) (ready : s.glb.ready = true)
    (undumped : s.med.dumpActive = false) (unheld : s.med.dumpHeld = false) (sanitising : s.med.progress.state = 1)
    (sound : s.sec.errorState = false) (keyed : s.med.progress.keyStep = true) :
    exec (.sanitiseUnitDone failed) s = .next (sanitiseUnit s failed) := by
  change execSanitiseUnitDone failed s = _
  simp only [execSanitiseUnitDone, ready, undumped, unheld, sanitising, sound, keyed]
  rfl

theorem sanitiseStatus_of_opFor {s : State} {tag : Nat} {o : Op} (accepted : opFor s tag 0x0707 = some o) :
    exec (.sanitiseStatus tag) s = .next (finish s tag (ok (statusOf s o.pkt).1 (statusOf s o.pkt).2)) := by
  change execSanitiseStatus tag s = _
  simp only [execSanitiseStatus, accepted]

/-- Settles O15: each clause is the branch of its command that the clause's conditions select, and the key step's emptiness outlasts its
journalling. -/
theorem sanitiseCommandsComplete : Obligations.SanitiseCommandsComplete := by
  refine ⟨?_, ?_, ?_, ?_, ?_⟩
  · exact fun _ _ _ => sanitise_of_opFor
  · intro s o waits first sound started
    exact ⟨startRecord s o, sanitiseStart_of_first waits first sound started, rfl, rfl, rfl, rfl, rfl, upMed_fr _ _⟩
  · exact fun s => Prod.mk.inj (keyStep_caches s)
  · exact fun _ => sanitiseUnitDone_of_keyStep
  · exact fun _ _ _ => sanitiseStatus_of_opFor

end Sys2Proof.Machine
end

section
/-! SUPPORT. Patrol, relocation, power loss, the hold-up dump and the warm restart (R163 to R165, R169 to R171, R407). -/

namespace Sys2Proof.Machine
open Sys2Proof

/-! ### Patrol and relocation -/

/-- Patrol has read codeword `cw` of band `b`: the read is counted, and the pass goes on behind it (R169, R170). -/
def patrolPast (s : State) (b cw : Nat) : State :=
  bandMod (upMed s (fun m => { m with patrolReads := wrapInc m.patrolReads, lifePatrol := m.lifePatrol + 1 })) b
    (fun x => { x with patrolAt := cw % 2 ^ 18 + 1 })

/-- A read below the relocation level queues nothing, and a band still OPEN is no victim for what it has queued (R171). -/
theorem patrolRead_of_calm {s : State} {b cw level : Nat} {x : Band} (unpaused : s.med.patrolPause = false)
    (ready : s.glb.ready = true) (undumped : s.med.dumpActive = false) (spare : bandToHave s = true) (unheld : mediaHeld s cw = false)
    (powered : flashOff s = false) (earliest : patrolBand (settlePatrol s) = some (b, x))
    (next : (patrolLeft (settlePatrol s) b x).head? = some cw) (calm : level < (settlePatrol s).med.relocLevel) (readable : level < 4)
    (opened : x.state = .opened) :
    exec (.patrolRead cw level) s = .next (settlePatrol (patrolPast (settlePatrol s) b cw)) := by
  have notClosed : (BandState.opened == BandState.closed) = false := rfl
  change execPatrolRead cw level s = _
  simp only [execPatrolRead, unpaused, ready, undumped, spare, unheld, powered, earliest, next, opened, notClosed, upMed_med,
    Nat.not_le.mpr calm, Nat.not_le.mpr readable, decide_false, Bool.false_and, Bool.not_true, Bool.or_self, Bool.false_eq_true,
    ne_eq, not_true_eq_false, false_and, and_false, ↓reduceIte]
  rfl

theorem patrolOverdue_of_late {s : State} {b : Nat} {x : Band} (band : mget s.med.bands b = some x) (due : x.deadline ≠ 0)
    (late : x.deadline ≤ s.glb.lifetime) (unmarked : x.overdue = false) (patrolled : x.state = .closed ∨ x.state = .opened) :
    exec (.patrolOverdue b) s = .next (raise (bandMod s b (fun x => { x with overdue := true })) srcPatrol) := by
  change execPatrolOverdue b s = _
  simp only [execPatrolOverdue, band, beq_iff_eq]
  exact if_pos ⟨due, late, by simp [unmarked], patrolled⟩

theorem relocation_of_source {s u : State} {v lba n : Nat} {g : GcCopy} {t : ToPlace}
    (queued : s.med.relocQueue.find? (fun g => g.vol == v && g.lba == lba) = some g) (runs : mediaStopped s = false)
    (powered : flashOff s = false) (source : (mapFull s v lba).form.place = some (g.srcPa, n)) (epoch : (mapFull s v lba).epoch = g.epoch)
    (atHand : copySource s { } v lba (mapFull s v lba) = (.got t, u)) :
    exec (.relocation v lba) s = .next (copyRun (upMed u (fun m => { m with relocQueue := m.relocQueue.erase g })) v [(g, t)]) := by
  change execRelocation v lba s = _
  simp only [execRelocation, queued, runs, powered, source, epoch, atHand, Option.map_some, Bool.or_self, Bool.false_eq_true, ne_eq,
    not_true_eq_false, or_self, ↓reduceIte]

/-! ### The dump -/

/-- PWR_FAIL_N is low since this moment (R163). -/
def seePowerFail (s : State) : State := upPwr s (fun p => { p with pwrFailN := false, failFrom := s.glb.lifetime })

theorem pwrFailAssert_of_dumpable {s : State} (high : s.pwr.pwrFailN = true) (powered : s.glb.poweredOn = true)
    (heeded : s.pwr.pwrFailIgnored = false) (able : dumpable s = true) (notBallast : s.pwr.state ≠ 3) :
    exec .pwrFailAssert s = .next (startDump (stopWork (failIncomplete (seePowerFail s))) 0) := by
  have stillAble : dumpable (seePowerFail s) = true := able
  rw [seePowerFail] at stillAble
  change execPwrFailAssert s = _
  simp only [execPwrFailAssert, seePowerFail, high, powered, heeded, stillAble, notBallast, upPwr_pwr, beq_iff_eq, Bool.not_true,
    Bool.or_self, Bool.false_or, Bool.false_eq_true, ↓reduceIte]

/-- What a dump of `s` holds: whole staged blocks and the journal not yet in flash, or nothing in the error state (R162, R164). -/
def dumped (s : State) : List Staged × List JRec :=
  if s.sec.errorState then ([], []) else (s.med.staging.filter (fun x => x.done && !x.lost), oldTail s ++ s.med.jbuf)

theorem startDump_ready {s : State} (purpose : Nat) (idle : s.med.dumpActive = false) : (startDump s purpose).glb.ready = false := by
  have kept (t : State) : (dropCkpt t).glb = t.glb := (dropCkpt_fr t).2 .glb (by decide)
  simp only [startDump, idle, kept, upMed_glb, upGlb_glb, Bool.false_eq_true, ↓reduceIte]

theorem startDump_active (s : State) (purpose : Nat) : (startDump s purpose).med.dumpActive = true := by
  rw [startDump]
  split
  case isTrue active => exact active
  case isFalse => rfl

theorem startDump_holds {s : State} (purpose : Nat) (idle : s.med.dumpActive = false) :
    (startDump s purpose).med.dumps.head?.map (fun d => (d.staging, d.tail, d.complete)) =
      some ((dumped s).1, (dumped s).2, false) := by
  simp only [startDump, idle, dumped, upMed_med, Bool.false_eq_true, ↓reduceIte, List.head?_cons, Option.map_some]
  cases s.sec.errorState <;> rfl

theorem dumpComplete_of_powerFail {s : State} (us : Nat) (active : s.med.dumpActive = true) (purpose : s.med.dumpThen = 0)
    (sound : s.sec.errorState = false) :
    exec (.dumpComplete us) s = .next (upPwr (upMed s (fun m => { m with
      dumps := m.dumps.map (fun d => if d.area = m.dumpArea ∧ !d.consumed then { d with complete := true } else d),
      dumpActive := false, dumpUs := us % 2 ^ 32, lifeDumps := m.lifeDumps + 1, dumpHeld := true }))
      (fun p => { p with failFrom := s.glb.lifetime })) := by
  change execDumpComplete us s = _
  simp only [execDumpComplete, markDump, active, purpose, sound, upMed_med, upMed_upMed, upMed_glb]
  rfl

/-! ### The warm restart -/

theorem warmRestart_dumpHeld (s : State) : (warmRestart s).med.dumpHeld = false := rfl

theorem warmRestart_ready (s : State) : (warmRestart s).glb.ready = !(takeBackDump (resetIslands s)).sec.errorState := rfl

theorem warmRestart_of_railsGood {s : State} (held : s.med.dumpHeld = true) (rails : s.pwr.railsGood = true) :
    exec .warmRestart s = .next (warmRestart (upPwr s (fun p => { p with pwrFailN := true }))) := by
  change execWarmRestart s = _
  simp only [execWarmRestart, held, rails]
  rfl

theorem holdupSenseStuck_of_held {s : State} (low : s.pwr.pwrFailN = false) (rails : s.pwr.railsGood = true)
    (powered : s.glb.poweredOn = true) (heeded : s.pwr.pwrFailIgnored = false) (stuck : s.pwr.failFrom + 1000 < s.glb.lifetime)
    (held : s.med.dumpHeld = true) :
    exec .holdupSenseStuck s = .next (holdupStuck (warmRestart s)) := by
  change execHoldupSenseStuck s = _
  simp only [execHoldupSenseStuck, low, rails, powered, heeded, Nat.not_le.mpr stuck, held]
  rfl

/-- Settles O22: each clause is the branch of its command that the clause's conditions select, with what a dump begins and a warm restart
ends read from them. -/
theorem patrolAndDumpCommandsComplete : Obligations.PatrolAndDumpCommandsComplete := by
  refine ⟨?_, ?_, ?_, ?_, ?_, ?_, ?_, ?_⟩
  · exact fun _ _ _ _ _ => patrolRead_of_calm
  · exact fun _ _ _ => patrolOverdue_of_late
  · exact fun _ _ _ _ _ _ _ => relocation_of_source
  · rintro s u high powered heeded able notBallast rfl
    exact pwrFailAssert_of_dumpable high powered heeded able notBallast
  · intro s idle
    refine ⟨startDump_ready 0 idle, startDump_active s 0, ?_⟩
    rw [startDump_holds 0 idle, dumped]
    split <;> rfl
  · exact fun _ => dumpComplete_of_powerFail
  · intro s held rails sound
    exact ⟨warmRestart_of_railsGood held rails, warmRestart_dumpHeld _, by rw [warmRestart_ready, sound, Bool.not_false]⟩
  · exact fun _ => holdupSenseStuck_of_held

end Sys2Proof.Machine
end

section
/-! SUPPORT. The DRAM controllers at work: refresh and its rate, retraining, scrubbing, requests, idle rows and the reseeding of neighbour
refresh (R191, R193 to R200, R202). -/

namespace Sys2Proof.Machine
open Sys2Proof

/-! ### Refresh and its rate (R197 to R199) -/

theorem refreshDue_of_unpostponed {s : State} {rank : Nat} (runs : dramRuns s = true) (there : rankThere s rank = true) :
    exec (.refreshDue rank false) s =
      .next (upDrc (refresh s rank (owedOf s rank + 1)) (fun d => { d with owed := mset d.owed rank 0 })) := by
  change execRefreshDue rank false s = _
  simp only [execRefreshDue, runs, there, Bool.not_true, Bool.or_self, Bool.false_and, Bool.false_eq_true, ↓reduceIte]

theorem refreshDue_of_postponed {s : State} {rank : Nat} (runs : dramRuns s = true) (there : rankThere s rank = true)
    (busy : rankBusy s rank = true) (once : s.drc.rate2x.contains rank = false) (room : owedOf s rank ≠ 4) :
    exec (.refreshDue rank true) s = .next (upDrc s (fun d => { d with owed := mset d.owed rank (owedOf s rank + 1) })) := by
  change execRefreshDue rank true s = _
  simp only [execRefreshDue, runs, there, busy, once, room, Bool.not_true, Bool.not_false, Bool.or_self, Bool.and_self,
    Bool.false_eq_true, ↓reduceIte]

/-- The rank's field is held, a call for 1× before it no longer counts, and the rank refreshes at 2× (R198). -/
def pollTwice (s : State) (rank field : Nat) : State :=
  goTwice (upDrc s (fun d => { d with temp := mset d.temp rank (field % 16), calls1x := mset d.calls1x rank 0 })) rank

/-- A poll that calls for more than 1× goes to 2×, and whether the channel is hot then decides its throttling (R198). -/
theorem mr4Poll_of_calls {s : State} {rank field : Nat} (runs : dramRuns s = true) (there : rankThere s rank = true)
    (calls : mr4Calls field ≠ 0) :
    exec (.mr4Poll rank field) s =
      let u := pollTwice s rank field
      if channelHot u (rank / 2) then
        if u.drc.throttled.contains (rank / 2) then .next u
        else .next (raise (upDrc u (fun d => { d with throttled := linsert d.throttled (rank / 2) })) (unit (islDram (rank / 2)) 3))
      else .next (upDrc u (fun d => { d with throttled := d.throttled.filter (· != rank / 2) })) := by
  change execMr4Poll rank field s = _
  simp only [execMr4Poll, runs, there, calls, Bool.not_true, Bool.or_self, Bool.false_eq_true, ↓reduceIte]
  rfl

/-! ### Retraining (R191, R202) -/

theorem dqsRetrack_of_moved {s : State} {rank : Nat} (runs : dramRuns s = true) (there : rankThere s rank = true) :
    exec (.dqsRetrack rank true) s =
      .next (upDrc s (fun d => { d with retracks := mset d.retracks rank (mgetD d.retracks rank 0 + 1) })) := by
  change execDqsRetrack rank true s = _
  simp only [execDqsRetrack, runs, there, Bool.not_true, Bool.or_self, Bool.false_eq_true, ↓reduceIte]

theorem dramFullRetrain_of_window {s : State} {c : Nat} (clean : List Nat) (runs : dramRuns s = true) (channel : c < 4)
    (idle : s.drc.retraining = []) (window : (inRetrainWindow s = true ∧ idleFor s 2 = true) ∨ retrainForced s c = true) :
    exec (.dramFullRetrain c clean) s = .next (upDrc s (fun d => { d with retraining := [c] })) := by
  have allowed : ((inRetrainWindow s && idleFor s 2) || retrainForced s c) = true := by
    rwa [Bool.or_eq_true, Bool.and_eq_true]
  change execDramFullRetrain c clean s = _
  simp only [execDramFullRetrain, runs, idle, allowed, Nat.not_le.mpr channel, decide_false, List.contains_nil, List.isEmpty_nil,
    Bool.not_true, Bool.or_self, Bool.and_self, Bool.false_eq_true, ↓reduceIte]

theorem dramFullRetrain_of_retraining {s : State} {c : Nat} (clean : List Nat) (runs : dramRuns s = true) (channel : c < 4)
    (begun : s.drc.retraining.contains c = true) :
    exec (.dramFullRetrain c clean) s = .next (upDrc s (fun d => { d with
      retraining := [], lastRetrain := mset d.lastRetrain c s.glb.lifetime,
      marks := d.marks.filter (fun m => !(m.1 / 4 == c && clean.contains m.1)) })) := by
  change execDramFullRetrain c clean s = _
  simp only [execDramFullRetrain, runs, begun, Nat.not_le.mpr channel, decide_false, Bool.not_true, Bool.or_self, Bool.false_eq_true,
    ↓reduceIte]

/-! ### Scrubbing (R193) -/

/-- The scrub goes on behind `line`, and behind the last line a pass is counted and the next one begins at line 0 (R193). -/
def scrubPast (s : State) (line : Nat) : State :=
  upDrc s (fun d => { d with
    scrubLine := if line + 1 = dramLines s then 0 else line + 1,
    scrubPasses := if line + 1 = dramLines s then wrapInc d.scrubPasses else d.scrubPasses })

/-- The scrub's read of the next line, with the write-back that a correction asks for and has room for (R193, R194). -/
theorem scrub_of_next {s : State} {line : Nat} {check : LineCheck} (runs : dramRuns s = true) (next : line = s.drc.scrubLine)
    (installed : line < dramLines s) (online : lineWaits s line = false)
    (room : ((lineVerdict s line check).isCorrected && decide (64 ≤ writesIn (subAt s (lineSub s line)))) = false) :
    exec (.scrub line check) s =
      let u := lineRead s line check
      .next (scrubPast (if (lineVerdict s line check).isCorrected then writeBack u line else u) line) := by
  subst next
  change execScrub s.drc.scrubLine check s = _
  simp only [execScrub, runs, online, room, Nat.not_le.mpr installed, bne_self_eq_false, decide_false, Bool.not_true, Bool.or_self,
    Bool.false_eq_true, ↓reduceIte]
  rfl

theorem scrub_of_clean {s : State} {line : Nat} {check : LineCheck} (runs : dramRuns s = true) (next : line = s.drc.scrubLine)
    (installed : line < dramLines s) (online : lineWaits s line = false) (clean : lineVerdict s line check = .clean) :
    exec (.scrub line check) s = .next (scrubPast s line) := by
  have sound : (lineVerdict s line check).isCorrected = false := by rw [clean]; rfl
  have unchanged : lineRead s line check = s := by simp only [lineRead, clean]
  have room : ((lineVerdict s line check).isCorrected && decide (64 ≤ writesIn (subAt s (lineSub s line)))) = false := by
    rw [sound, Bool.false_and]
  rw [scrub_of_next runs next installed online room, unchanged, sound]
  rfl

theorem scrub_of_corrected {s : State} {line : Nat} {check : LineCheck} (runs : dramRuns s = true) (next : line = s.drc.scrubLine)
    (installed : line < dramLines s) (online : lineWaits s line = false)
    (corrected : (lineVerdict s line check).isCorrected = true) (place : writesIn (subAt s (lineSub s line)) < 64) :
    exec (.scrub line check) s = .next (scrubPast (writeBack (lineRead s line check) line) line) := by
  have room : ((lineVerdict s line check).isCorrected && decide (64 ≤ writesIn (subAt s (lineSub s line)))) = false := by
    rw [decide_eq_false (Nat.not_le.mpr place), Bool.and_false]
  rw [scrub_of_next runs next installed online room, corrected]
  rfl

/-! ### Requests and rows (R194 to R196) -/

/-- A request that has arrived on `sub` stands last in its queue (R194). -/
def enqueue (s : State) (sub : Nat) (q : DramReq) : State := modSub s sub (fun c => setDrain { c with queue := c.queue ++ [q] })

/-- Queues and banks have no part in the address map (R184). -/
theorem lineBank_modSub (s : State) (sub : Nat) (f : SubChannel → SubChannel) (line : Nat) :
    lineBank (modSub s sub f) line = lineBank s line := rfl

theorem dramRequest_of_arrival {s : State} {sub line : Nat} {w : Bool} {data : List (Option Byte)} (runs : dramRuns s = true)
    (installed : line < dramLines s) (own : lineSub s line = sub) (whole : w = true → data.length = 64)
    (place : ((subAt s sub).queue.filter (fun q => q.write == w)).length < 64) :
    exec (.dramRequest (.arrive sub line w data)) s =
      .next (enterInOrder (enqueue s sub { line, write := w, data := if w then data else [], passed := 0 }) sub (lineBank s line)) := by
  have taken : ¬(dramLines s ≤ line ∨ lineSub s line ≠ sub ∨ (w = true ∧ data.length ≠ 64) ∨
      64 ≤ ((subAt s sub).queue.filter (fun q => q.write == w)).length) := by
    rintro (outside | other | ⟨write, short⟩ | full)
    · exact Nat.not_le.mpr installed outside
    · exact other own
    · exact short (whole write)
    · exact Nat.not_le.mpr place full
  change execDramRequest (.arrive sub line w data) s = _
  simp only [execDramRequest, runs, taken, enqueue, lineBank_modSub, Bool.not_true, Bool.false_eq_true, ↓reduceIte]

theorem dramRequest_of_offer {s u : State} {sub : Nat} {check : LineCheck} {q : DramReq} (runs : dramRuns s = true) (there : sub < 8)
    (online : s.drc.retraining.contains (sub / 2) = false) (offered : anyOf s (offers s (subAt s sub)) = (some q, u)) :
    exec (.dramRequest (.serve sub check)) s = .next (if q.write then writeLine (issueReq u sub q) q.line q.data check
      else readLine (issueReq u sub q) q.line check) := by
  change execDramRequest (.serve sub check) s = _
  simp only [execDramRequest, runs, online, offered, Nat.not_le.mpr there, Bool.not_true, Bool.false_eq_true, or_self, ↓reduceIte]

theorem rowIdleTimeout_of_unwanted {s : State} {sub bank : Nat} (opened : ((subAt s sub).bank bank).openRow.isNone = false)
    (unwanted : (bankQueue s (subAt s sub) bank).any (fun r => ((subAt s sub).bank bank).openRow == some (lineRow s r.line)) = false) :
    exec (.rowIdleTimeout sub bank) s = .next (closeRow s sub bank) := by
  change execRowIdleTimeout sub bank s = _
  simp only [execRowIdleTimeout, opened, unwanted, Bool.or_self, Bool.false_eq_true, ↓reduceIte]

/-! ### Neighbour refresh (R200) -/

theorem freeBelow_lt (s : State) {n : Nat} (pos : 0 < n) : (freeBelow s n).1 < n := Nat.mod_lt _ pos

theorem nrReseed_of_channel {s : State} {c : Nat} (channel : c < 4) :
    exec (.nrReseed c) s =
      .next (upDrc (freeBelow s (2 ^ 32)).2 (fun d => { d with gen := mset d.gen c (freeBelow s (2 ^ 32)).1 })) := by
  change execNrReseed c s = _
  simp only [execNrReseed, Nat.not_le.mpr channel, ↓reduceIte]

/-- Settles O23: each clause is the branch of its command that the clause's conditions select. The MR4 fields that call for 2× are those of
log entry 41, and the request a sub-channel serves is a free one of its banks' offers (log entry 40). -/
theorem dramCommandsComplete : Obligations.DramCommandsComplete := by
  refine ⟨?_, ?_, ?_, ?_, ?_, ?_, ?_, ?_, ?_, ?_, ?_, ?_, ?_⟩
  · exact fun _ _ => refreshDue_of_unpostponed
  · exact fun _ _ => refreshDue_of_postponed
  · intro s rank field runs there calls cool
    exact (mr4Poll_of_calls runs there calls).trans (if_neg (Bool.eq_false_iff.mp cool))
  · rintro s u rank field runs there above rfl hot unthrottled
    have calls : mr4Calls field ≠ 0 := by omega
    exact (mr4Poll_of_calls runs there calls).trans ((if_pos hot).trans (if_neg (Bool.eq_false_iff.mp unthrottled)))
  · exact fun _ _ => dqsRetrack_of_moved
  · exact fun _ _ => dramFullRetrain_of_window
  · exact fun _ _ => dramFullRetrain_of_retraining
  · exact fun _ _ _ => scrub_of_clean
  · rintro s u line check runs next installed online corrected place rfl
    exact scrub_of_corrected runs next installed online corrected place
  · exact fun _ _ _ _ _ => dramRequest_of_arrival
  · exact fun _ _ _ _ _ => dramRequest_of_offer
  · exact fun _ _ _ => rowIdleTimeout_of_unwanted
  · exact fun s c channel => ⟨(freeBelow s (2 ^ 32)).1, freeBelow_lt s (Nat.two_pow_pos 32), nrReseed_of_channel channel⟩

end Sys2Proof.Machine
end

section
/-! SUPPORT. The Kite instructions that move data: loads and stores, port accesses, jumps, LDPW, TRAP and MOVSR (R228, R230, R231, R239,
R240, R249). -/

namespace Sys2Proof.Machine
open Sys2Proof

/-! ### The instruction at the pc (R213, R227) -/

/-- The instruction that stands at the pc of what a core executes takes its outcome. -/
theorem kiteOp_of_executes {s : State} {core : CoreId} {i : Instance} {k : KOp} {n : Nat} {f : Instance → KRes} {r : KRes}
    (runs : Executes s core i k n) (outcome : f i = r) : kiteOp core k s f = .next (kiteDone core.val i n r) := by
  obtain ⟨held, fetched⟩ := runs
  simp only [kiteOp, kiteRun, held, fetched, if_true, outcome]

/-! ### Loads and stores (R228, R239, R250) -/

theorem runLoad_of_reads {s u t : State} {i : Instance} {op : MemOp} {a b : Reg} {check : LineCheck} {r : Region} {d : List Byte}
    (aligned : (i.regs.get b).toNat % op.size = 0) (mapped : (region s i (i.regs.get b).toNat op.size).isNone = false)
    (checked : u = checkLine s i (i.regs.get b).toNat check) (sound : poisonedAt u (instNow u i) (i.regs.get b).toNat = false)
    (placed : region u (instNow u i) (i.regs.get b).toNat op.size = some r)
    (taken : dataTake u (instNow u i) (i.regs.get b).toNat op.size = some (d, t)) :
    runLoad s i op a b check = .ends {
      s := t, regs := (instNow u i).regs.put a (word (unle d)), cost := if r.isShared then 3 else 2, waits := b2n r.isShared } := by
  subst checked
  simp only [runLoad, aligned, mapped, sound, placed, taken, ne_eq, not_true_eq_false, Bool.false_eq_true, or_self, if_false]

theorem runLoad_of_poisoned {s u : State} {i : Instance} {op : MemOp} {a b : Reg} {check : LineCheck}
    (aligned : (i.regs.get b).toNat % op.size = 0) (mapped : (region s i (i.regs.get b).toNat op.size).isNone = false)
    (checked : u = checkLine s i (i.regs.get b).toNat check) (bad : poisonedAt u (instNow u i) (i.regs.get b).toNat = true) :
    runLoad s i op a b check = .faults u 7 (instNow u i).regs.pc := by
  subst checked
  simp only [runLoad, aligned, mapped, bad, ne_eq, not_true_eq_false, Bool.false_eq_true, or_self, if_false, if_true]

theorem runLoad_of_misaligned {s : State} {i : Instance} {op : MemOp} {a b : Reg} {check : LineCheck}
    (misaligned : (i.regs.get b).toNat % op.size ≠ 0) : runLoad s i op a b check = .faults s 5 i.regs.pc :=
  if_pos (.inl misaligned)

theorem runStore_of_writes {s u t : State} {i : Instance} {op : MemOp} {a b : Reg} {check : LineCheck} {r : Region}
    (aligned : (i.regs.get b).toNat % op.size = 0)
    (writable : (dataWrite s i (i.regs.get b).toNat (le op.size (i.regs.get a).toNat)).isNone = false)
    (checked : u = checkLine s i (i.regs.get b).toNat check) (sound : poisonedAt u (instNow u i) (i.regs.get b).toNat = false)
    (placed : region u (instNow u i) (i.regs.get b).toNat op.size = some r)
    (written : dataWrite u (instNow u i) (i.regs.get b).toNat (le op.size (i.regs.get a).toNat) = some t) :
    runStore s i op a b check = .ends {
      s := t, regs := (instNow u i).regs, cost := if r.isShared then 2 else 1, waits := b2n r.isShared } := by
  subst checked
  simp only [runStore, aligned, writable, sound, placed, written, ne_eq, not_true_eq_false, Bool.false_eq_true, or_self, if_false]

/-! ### Port accesses (R240) -/

/-- A port register above 0xFFF names no port (R224). -/
theorem portIn_of_beyond {s : State} {i : Instance} {core n : Nat} {reg : Word} (beyond : 4096 ≤ reg.toNat) :
    portIn s i core reg n = .fault 6 := if_pos (.inl beyond)

theorem runIn_of_fault {s : State} {i : Instance} {core code : Nat} {a b : Reg} {check : LineCheck}
    (denied : portIn s i core (i.regs.get b) 4 = .fault code) : runIn s i core a b check = .faults s code i.regs.pc := by
  simp only [runIn, denied]

theorem runIn_of_stall {s t : State} {i : Instance} {core : Nat} {a b : Reg} {check : LineCheck}
    (waits : portIn s i core (i.regs.get b) 4 = .stall t) : runIn s i core a b check = .stalls t := by
  simp only [runIn, waits]

theorem runIn_of_answer {s t : State} {i : Instance} {core : Nat} {a b : Reg} {check : LineCheck} {v : Word}
    (other : i.regs.get b ≠ 0) (answered : portIn s i core (i.regs.get b) 4 = .done v t) :
    runIn s i core a b check = .ends { s := t, regs := i.regs.put a v, cost := 2 } := by
  simp only [runIn, answered, other, ne_eq, not_false_eq_true, if_true]

/-- SCAN_DATA answers once more after its ring line has been checked (R240, R249). -/
theorem runIn_of_scan {s t₀ u t : State} {i : Instance} {core : Nat} {a b : Reg} {check : LineCheck} {v₀ v : Word}
    (scan : i.regs.get b = 0) (ready : portIn s i core 0 4 = .done v₀ t₀) (checked : u = checkScan s i check)
    (sound : scanPoisoned u (instNow u i) 4 = false) (answered : portIn u (instNow u i) core 0 4 = .done v t) :
    runIn s i core a b check = .ends { s := t, regs := (instNow u i).regs.put a v, cost := 2 } := by
  subst checked
  simp only [runIn, scan, ready, sound, answered, ne_eq, not_true_eq_false, Bool.false_eq_true, if_false]

theorem runOut_of_done {s t : State} {i : Instance} {a b : Reg} {v : Word}
    (taken : portOut s i (i.regs.get b) (i.regs.get a) = .done v t) :
    runOut s i a b = .ends { s := t, regs := i.regs, cost := 2 } := by
  simp only [runOut, taken]

/-! ### Program words (R22, R239) -/

theorem runLdpw_of_reads {s u : State} {i : Instance} {core : Nat} {a b : Reg} {check : LineCheck}
    (inside : (i.regs.get b).toNat ≤ 16383) (checked : u = checkCode s i core (i.regs.get b).toNat check)
    (sound : codePoisoned u core (i.regs.get b).toNat = false) :
    runLdpw s i core a b check = .ends { s := u, regs := i.regs.put a (word ((match onChip check with
      | .wrong delta => codeWord u core (i.regs.get b).toNat ^^^ num delta (2 * ((i.regs.get b).toNat % 32)) 2
      | _ => codeWord u core (i.regs.get b).toNat) % 16384)), cost := 2 } := by
  subst checked
  exact (if_neg (Nat.not_lt.mpr inside)).trans (if_neg (Bool.eq_false_iff.mp sound))

theorem runLdpw_of_beyond {s : State} {i : Instance} {core : Nat} {a b : Reg} {check : LineCheck}
    (beyond : 16383 < (i.regs.get b).toNat) : runLdpw s i core a b check = .faults s 5 i.regs.pc := if_pos beyond

/-! ### The end of an instruction (R231, R247) -/

/-- An instruction that reaches no shared memory, on a core that was not STALLED, takes the cycles it costs; the two open values are used up
all the same. -/
theorem cyclesOf_unwaited (s : State) (cost : Nat) : cyclesOf s 0 false cost = (cost, { s with free := s.free + 2 }) := by
  simp only [cyclesOf, freeBelow, Nat.mul_zero, Nat.zero_add, Nat.mod_one, Nat.add_zero, Bool.false_eq_true, if_false]

theorem afterInstr_jump {r : Regs} (n t : Nat) (inside : r.active = true) :
    afterInstr r n (some t) = { r with pc := t, active := decide (r.bs ≤ t ∧ t ≤ r.be) } := by
  simp only [afterInstr, inside, Bool.true_and, Bool.decide_and]

theorem afterInstr_jump_outside {r : Regs} (n t : Nat) (outside : r.active = false) :
    afterInstr r n (some t) = { r with pc := t } := by
  simp only [afterInstr, outside, Bool.false_and]

theorem kiteDone_of_jump {i : Instance} {core t : Nat} {e : KEnd} (n : Nat) (running : (coreAt e.s core).state = 2)
    (unwaited : e.waits = 0) (jumps : e.jump = some t) (outside : e.regs.active = false) :
    kiteDone core i n (.ends e) = modInst { e.s with free := e.s.free + 2 } i.run i.num (fun x => { x with regs := { e.regs with
      pc := t, cycles := (e.regs.cycles + e.cost) % 2 ^ 64 } }) := by
  have unstalled : (coreAt e.s core).state ≠ 4 := by rw [running]; decide
  simp only [kiteDone, beq_eq_false_iff_ne.mpr unstalled, unwaited, jumps, cyclesOf_unwaited, afterInstr_jump_outside n t outside]
  exact if_neg unstalled

/-- Settles O27: each clause is the outcome of its instruction that the clause's conditions select. -/
theorem kiteTransfersComplete : Obligations.KiteTransfersComplete := by
  refine ⟨?_, ?_, ?_, ?_, ?_, ?_, ?_, ?_, ?_, ?_, ?_, ?_, ?_, ?_, ?_, ?_, ?_, ?_, ?_, ?_, ?_, ?_⟩
  · exact fun _ _ _ _ _ _ _ _ _ _ _ runs aligned mapped checked sound placed taken =>
      kiteOp_of_executes runs (runLoad_of_reads (op := .ld) aligned mapped checked sound placed taken)
  · exact fun _ _ _ _ _ _ _ _ _ _ _ runs mapped checked sound placed taken =>
      kiteOp_of_executes runs (runLoad_of_reads (op := .ldb) (Nat.mod_one _) mapped checked sound placed taken)
  · exact fun _ _ _ _ _ _ _ _ _ _ runs aligned writable checked sound placed written =>
      kiteOp_of_executes runs (runStore_of_writes (op := .st) aligned writable checked sound placed written)
  · exact fun _ _ _ _ _ _ _ _ _ _ runs writable checked sound placed written =>
      kiteOp_of_executes runs (runStore_of_writes (op := .stb) (Nat.mod_one _) writable checked sound placed written)
  · exact fun _ _ _ _ _ _ _ _ runs aligned mapped checked bad =>
      kiteOp_of_executes runs (runLoad_of_poisoned aligned mapped checked bad)
  · exact fun _ _ _ _ _ _ _ runs misaligned => kiteOp_of_executes runs (runLoad_of_misaligned misaligned)
  · exact fun _ _ _ _ _ _ _ _ _ runs other answered => kiteOp_of_executes runs (runIn_of_answer other answered)
  · exact fun _ _ _ _ _ _ _ _ _ _ _ _ runs scan ready checked sound answered =>
      kiteOp_of_executes runs (runIn_of_scan scan ready checked sound answered)
  · exact fun _ _ _ _ _ _ _ _ runs taken => kiteOp_of_executes runs (runOut_of_done taken)
  · exact fun _ _ _ _ _ _ _ runs beyond => kiteOp_of_executes runs (runIn_of_fault (portIn_of_beyond beyond))
  · exact fun _ _ _ _ _ runs => kiteOp_of_executes runs rfl
  · exact fun _ _ _ _ _ runs => kiteOp_of_executes runs rfl
  · exact fun _ _ _ _ runs => kiteOp_of_executes runs rfl
  · exact fun _ _ _ _ runs => kiteOp_of_executes runs rfl
  · rintro s core i n a b check u v runs inside checked sound rfl
    exact kiteOp_of_executes runs (runLdpw_of_reads inside checked sound)
  · exact fun _ _ _ _ _ _ _ runs beyond => kiteOp_of_executes runs (runLdpw_of_beyond beyond)
  · exact fun _ _ _ _ runs => kiteOp_of_executes runs rfl
  · exact fun _ _ _ _ _ runs => kiteOp_of_executes runs rfl
  · exact fun _ _ _ _ _ runs => kiteOp_of_executes runs rfl
  · exact fun _ _ _ _ _ runs => kiteOp_of_executes runs rfl
  · intro s core i n a w runs
    exact kiteOp_of_executes runs (by cases w <;> rfl)
  · exact fun _ _ n _ _ => kiteDone_of_jump n

end Sys2Proof.Machine
end

section
/-! SUPPORT. The Kite instructions that repeat, wait and end: BRPT with its block, WAIT, HALT, REP and the string operations (R221, R242 to
R248, R250, R273). -/

namespace Sys2Proof.Machine
open Sys2Proof

/-! ### Block repeats (R247, R248, R250) -/

theorem runBrpt_of_count {s : State} {i : Instance} {m : Nat} (inside : i.regs.pc + m ≤ 16383) (unnested : i.regs.active = false)
    (count : i.regs.get 14 ≠ 0) :
    runBrpt s i m = .ends { s, regs := { i.regs with bs := i.regs.pc + 1, be := i.regs.pc + m, active := true },
                            jump := some (i.regs.pc + 1) } :=
  (if_neg (Nat.not_lt.mpr inside)).trans ((if_neg (Bool.eq_false_iff.mp unnested)).trans (if_neg count))

theorem runBrpt_of_zero {s : State} {i : Instance} {m : Nat} (inside : i.regs.pc + m ≤ 16383) (unnested : i.regs.active = false)
    (zero : i.regs.get 14 = 0) :
    runBrpt s i m = .ends { s, regs := { i.regs with bs := i.regs.pc + 1, be := i.regs.pc + m },
                            jump := some ((i.regs.pc + m + 1) % 16384) } :=
  (if_neg (Nat.not_lt.mpr inside)).trans ((if_neg (Bool.eq_false_iff.mp unnested)).trans (if_pos zero))

theorem runBrpt_of_nested {s : State} {i : Instance} {m : Nat} (inside : i.regs.pc + m ≤ 16383) (nested : i.regs.active = true) :
    runBrpt s i m = .faults s 4 i.regs.pc :=
  (if_neg (Nat.not_lt.mpr inside)).trans (if_pos nested)

/-- At the last instruction of a pass rc alone decides between the next pass and the end of the block. -/
theorem afterInstr_of_passEnd {r : Regs} {n : Nat} (inside : r.active = true) (last : r.pc + n = r.be + 1) :
    afterInstr r n none =
      if 1 < (r.get 14).toNat then { r.put 14 (r.get 14 - 1) with pc := r.bs }
      else { r.put 14 0 with active := false, pc := (r.pc + n) % 16384 } :=
  if_pos (by simp only [inside, last, beq_self_eq_true, Bool.and_self])

/-! ### WAIT and HALT (R221, R269, R273) -/

theorem kWait_of_pending {s : State} {core : CoreId} {i : Instance} {n : Nat} (runs : Executes s core i .wait n)
    (pending : pendingEvents i &&& i.regs.ev ≠ 0) :
    exec (.kWait core) s = .next (kiteDone core.val i n (.ends { s, regs := i.regs })) := by
  obtain ⟨held, fetched⟩ := runs
  change execKWait core s = _
  simp only [execKWait, held, fetched]
  exact if_pos pending

theorem kWait_of_quiet {s : State} {core : CoreId} {i : Instance} {n : Nat} (runs : Executes s core i .wait n)
    (quiet : pendingEvents i &&& i.regs.ev = 0) :
    exec (.kWait core) s = .next (modCore (modInst { s with free := s.free + 2 } i.run i.num (fun x => { x with regs := { x.regs with
      cycles := (x.regs.cycles + (cyclesOf s 0 true 0).1) % 2 ^ 64 } })) core.val (fun c => { c with state := 3 })) := by
  obtain ⟨held, fetched⟩ := runs
  change execKWait core s = _
  simp only [execKWait, held, fetched]
  exact if_neg (fun pending => pending quiet)

theorem kHalt_of_executes {s : State} {core : CoreId} {i : Instance} {n : Nat} (runs : Executes s core i .halt n) :
    exec (.kHalt core) s = .next (settleRing (endInst (upKite s (fun k => { k with
      mail := k.mail ++ i.outbox.map (fun w => (i.run, i.num, w.toNat / 2 ^ 26, w)) })) i.run i.num) (core.val / 8)) := by
  obtain ⟨held, fetched⟩ := runs
  change execKHalt core s = _
  simp only [execKHalt, held, fetched]

/-! ### REP (R244 to R246) -/

theorem kRep_of_outcome {s : State} {core : CoreId} {i : Instance} {n most : Nat} {check : LineCheck} {r : KRes}
    (runs : Executes s core i .rep n) (outcome : runRep s i core.val most check = .inl r) :
    exec (.kRep core most check) s = .next (kiteDone core.val i 2 r) := by
  obtain ⟨held, fetched⟩ := runs
  change execKRep core most check s = _
  simp only [execKRep, held, fetched, outcome]

theorem runRep_of_stray {s : State} {i : Instance} {core : Nat} (most : Nat) (check : LineCheck)
    (sound : codePoisoned s core ((i.regs.pc + 1) % 16384) = false)
    (stray : codeWord s core ((i.regs.pc + 1) % 16384) / 256 ≠ 0x3B) :
    runRep s i core most check = .inl (.faults s 2 i.regs.pc) :=
  (if_neg (Bool.eq_false_iff.mp sound)).trans (if_pos (.inl stray))

/-- Every operation but COPY names a register, which REP keeps from as, ad and rc (R245). -/
theorem repConflict_of_moved {op : StrOp} {r : Reg} (named : op ≠ .copy) (moved : r = 12 ∨ r = 13 ∨ r = 14) :
    repConflict op r = true := by
  rw [repConflict, bne_iff_ne.mpr named, Bool.true_and]
  rcases moved with rfl | rfl | rfl <;> rfl

section
variable {s : State} {i : Instance} {core : Nat} {w : Bool} {op : StrOp} {r : Reg}
  (sound : codePoisoned s core ((i.regs.pc + 1) % 16384) = false)
  (paired : codeWord s core ((i.regs.pc + 1) % 16384) / 256 = 0x3B)
  (together : (i.regs.active = true ∧ i.regs.pc = i.regs.be) = False)
  (decoded : decodeWord (codeWord s core ((i.regs.pc + 1) % 16384)) = some (.str w op r))
include sound paired together decoded

theorem runRep_of_conflict (most : Nat) (check : LineCheck) (conflict : repConflict op r = true) :
    runRep s i core most check = .inl (.faults s 3 i.regs.pc) := by
  simp only [runRep, sound, paired, together, decoded, conflict, ne_eq, not_true_eq_false, Bool.false_eq_true, or_self, if_false, if_true]

/-- A REP that no preemption point cuts short ends as its loop over all of rc's elements does. -/
theorem runRep_of_whole {most : Nat} {check : LineCheck} {u : State} {x : RepEnd} (allowed : repConflict op r = false)
    (whole : (i.regs.get 14).toNat ≤ repGroups (if w then 4 else 1) most)
    (checked : u = if (i.regs.get 14).toNat = 0 then s else checkElem s i core op (if w then 4 else 1) r check)
    (looped : repLoop u i.run i.num core i.regs op (if w then 4 else 1) r (i.regs.get 14).toNat 0 = x) (unbroken : x.broken = none) :
    runRep s i core most check = .inl (.ends {
      s := x.s, regs := { x.regs with fl := strFlags x.regs.fl op x.stopped },
      cost := repCost u i core op (if w then 4 else 1) r x.ran, waits := repLines u i op (if w then 4 else 1) x.ran }) := by
  have count : min (i.regs.get rRc).toNat (repGroups (if w then 4 else 1) most) = (i.regs.get 14).toNat := Nat.min_eq_left whole
  have complete : ¬ repGroups (if w then 4 else 1) most < (i.regs.get rRc).toNat := Nat.not_lt.mpr whole
  simp only [runRep, sound, paired, together, decoded, allowed, count, complete, ← checked, looped, repEnd, unbroken, ne_eq,
    not_true_eq_false, decide_false, Bool.false_eq_true, or_self, and_false, if_false]

end

/-! ### String operations without REP (R242, R244, R246) -/

/-- An element that commits ends its operation, at the base cost of the operation and one cycle for shared lines (Table 9.11). -/
theorem runStr_of_done {s u t : State} {i : Instance} {core base : Nat} {w : Bool} {op : StrOp} {r : Reg} {check : LineCheck} {x : Regs}
    (costs : (if op = .seek ∨ op = .fill then 1 else 2) = base) (checked : u = checkElem s i core op (if w then 4 else 1) r check)
    (committed : strElem u (instNow u i) core (instNow u i).regs op (if w then 4 else 1) r = .done t x) :
    runStr s i core w op r check = .ends {
      s := t, regs := { x with fl := strFlags x.fl op none },
      cost := base + (if repLines s i op (if w then 4 else 1) 1 = 0 then 0 else 1), waits := repLines s i op (if w then 4 else 1) 1 } := by
  subst checked
  simp only [runStr, committed, costs]

/-- Settles O28: each clause is the outcome of its instruction that the clause's conditions select. -/
theorem kiteRepeatsComplete : Obligations.KiteRepeatsComplete := by
  refine ⟨?_, ?_, ?_, ?_, ?_, ?_, ?_, ?_, ?_, ?_, ?_, ?_, ?_, ?_, ?_, ?_, ?_, ?_⟩
  · exact fun _ _ _ _ _ runs inside unnested count => kiteOp_of_executes runs (runBrpt_of_count inside unnested count)
  · exact fun _ _ _ _ _ runs inside unnested zero => kiteOp_of_executes runs (runBrpt_of_zero inside unnested zero)
  · exact fun _ _ _ _ _ runs inside nested => kiteOp_of_executes runs (runBrpt_of_nested inside nested)
  · exact fun _ _ inside last again => (afterInstr_of_passEnd inside last).trans (if_pos again)
  · exact fun _ _ inside last least => (afterInstr_of_passEnd inside last).trans (if_neg (Nat.not_lt.mpr least))
  · exact fun _ => afterInstr_jump
  · exact fun _ _ _ _ => kWait_of_pending
  · exact fun _ _ _ _ runs quiet => ⟨_, kWait_of_quiet runs quiet⟩
  · exact fun _ _ _ _ => kHalt_of_executes
  · exact fun _ _ _ most check runs sound stray => kRep_of_outcome runs (runRep_of_stray most check sound stray)
  · exact fun _ _ _ most check _ _ _ runs sound paired together decoded named moved =>
      kRep_of_outcome runs (runRep_of_conflict sound paired together decoded most check (repConflict_of_moved named moved))
  · exact fun _ _ _ _ _ _ _ _ _ _ runs sound paired together decoded allowed whole checked looped unbroken =>
      kRep_of_outcome runs (runRep_of_whole sound paired together decoded allowed whole checked looped unbroken)
  · exact fun _ _ _ _ _ _ _ _ _ runs checked committed => kiteOp_of_executes runs (runStr_of_done rfl checked committed)
  · exact fun _ _ _ _ _ _ _ _ _ _ runs checked committed => kiteOp_of_executes runs (runStr_of_done rfl checked committed)
  · exact fun _ _ _ _ _ _ _ _ _ _ runs checked committed => kiteOp_of_executes runs (runStr_of_done rfl checked committed)
  · exact fun _ _ _ _ _ _ _ _ _ _ runs checked committed => kiteOp_of_executes runs (runStr_of_done rfl checked committed)
  · exact fun _ _ _ _ _ _ _ _ _ _ runs checked committed => kiteOp_of_executes runs (runStr_of_done rfl checked committed)
  · exact fun _ _ _ _ _ _ _ _ _ _ runs checked committed => kiteOp_of_executes runs (runStr_of_done rfl checked committed)

end Sys2Proof.Machine
end

section
/-! SUPPORT. The ports of a Kite core: the scan stream, events and timers, mailboxes, and the requests to the engines (R209, R210, R220,
R222 to R224, R253 to R258, R270). -/

namespace Sys2Proof.Machine
open Sys2Proof

/-! ### Accesses by port (R223, R224, R253) -/

theorem kitePort_of_executes {s : State} {core : CoreId} {i : Instance} {op : MemOp} {a b : Reg} {n : Nat} {names : Nat → Bool}
    {f : Instance → KRes} {r : KRes} (runs : Executes s core i (.mem op a b) n) (named : names (i.regs.get b).toNat = true)
    (outcome : f i = r) : kitePort core op a b names s f = .next (kiteDone core.val i n r) := by
  obtain ⟨held, fetched⟩ := runs
  simp only [kitePort, kiteRun, held, fetched, named, and_self, if_true, outcome]

theorem portIn_of_permitted {s : State} {i : Instance} {reg : Word} {port : Nat} (core n : Nat) (number : reg.toNat = port)
    (assigned : port < 4096) (allowed : permitted s i port = true) :
    portIn s i core reg n = (portRead s i core port n).getD (.fault 6) := by
  simp only [portIn, number, Nat.not_le.mpr assigned, allowed, Bool.not_true, Bool.false_eq_true, or_self, if_false]

theorem portOut_of_permitted {s : State} {i : Instance} {reg : Word} {port : Nat} (w : Word) (number : reg.toNat = port)
    (assigned : port < 4096) (allowed : permitted s i port = true) :
    portOut s i reg w = (portWrite s i port w).getD (.fault 6) := by
  simp only [portOut, number, Nat.not_le.mpr assigned, allowed, Bool.not_true, Bool.false_eq_true, or_self, if_false]

/-- An OUT that a permitted port takes ends in 2 cycles. -/
theorem kitePort_out_of_named {s t : State} {core : CoreId} {i : Instance} {a b : Reg} {n port : Nat} {names : Nat → Bool} {v : Word}
    (named : names port = true) (runs : Executes s core i (.mem .outp a b) n)
    (number : (i.regs.get b).toNat = port) (allowed : permitted s i port = true)
    (taken : portWrite s i port (i.regs.get a) = some (.done v t)) (assigned : port < 4096 := by decide) :
    kitePort core .outp a b names s (fun i => runOut s i a b) =
      .next (kiteDone core.val i n (.ends { s := t, regs := i.regs, cost := 2 })) := by
  have done : portOut s i (i.regs.get b) (i.regs.get a) = .done v t := by
    rw [portOut_of_permitted _ number assigned allowed, taken, Option.getD_some]
  exact kitePort_of_executes runs (by rw [number, named]) (runOut_of_done done)

/-- An OUT whose row names one port. -/
theorem kitePort_out_of_done {s t : State} {core : CoreId} {i : Instance} {a b : Reg} {n port : Nat} {v : Word}
    (runs : Executes s core i (.mem .outp a b) n) (number : (i.regs.get b).toNat = port) (allowed : permitted s i port = true)
    (taken : portWrite s i port (i.regs.get a) = some (.done v t)) (assigned : port < 4096 := by decide) :
    kitePort core .outp a b (· == port) s (fun i => runOut s i a b) =
      .next (kiteDone core.val i n (.ends { s := t, regs := i.regs, cost := 2 })) :=
  kitePort_out_of_named (beq_self_eq_true port) runs number allowed taken assigned

/-! ### The scan stream (R209, R210) -/

theorem lanePass_of_visible {s : State} {i : Instance} {n : Nat} (visible : n ≤ i.lane.avail) :
    lanePass s i n = some (modInst s i.run i.num (fun x => { x with lane := x.lane.advance (ringOf s i) n })) := by
  simp only [lanePass, visible, true_or, if_true, Nat.min_eq_left visible]

theorem scanRead_of_visible {s : State} {i : Instance} {n : Nat} (visible : n ≤ i.lane.avail) :
    scanRead s i n = .done (word (unle (field (i.lane.front.take n) 0 n)))
      (modInst s i.run i.num (fun x => { x with lane := x.lane.advance (ringOf s i) n })) := by
  simp only [scanRead, lanePass_of_visible visible, Nat.min_eq_left visible]

theorem scanRead_of_awaited {s : State} {i : Instance} {n : Nat} (few : i.lane.avail < n) (more : i.lane.drained = false) :
    scanRead s i n = .stall s := by
  simp only [scanRead, lanePass, Nat.not_le.mpr few, more, Bool.false_eq_true, or_self, if_false]

theorem portIn_scan_of_visible {s : State} {i : Instance} (core : Nat) (allowed : permitted s i 0 = true) (visible : 4 ≤ i.lane.avail) :
    portIn s i core 0 4 = .done (word (unle (field (i.lane.front.take 4) 0 4)))
      (modInst s i.run i.num (fun x => { x with lane := x.lane.advance (ringOf s i) 4 })) :=
  (portIn_of_permitted core 4 rfl (by decide) allowed).trans (scanRead_of_visible visible)

theorem scanReleasePort_of_visible {s : State} {i : Instance} {v : Nat} (visible : v / 4 * 4 ≤ i.lane.avail) :
    scanReleasePort s i v =
      .done 0 (modInst s i.run i.num (fun x => { x with lane := x.lane.advance (ringOf s i) (v / 4 * 4) })) := by
  simp only [scanReleasePort, lanePass_of_visible visible]

/-! ### Mailboxes (R222, R269) -/

theorem mboxTake_of_word {s : State} {i : Instance} {w : Word} {rest : List Word} (waiting : i.inbox = w :: rest) :
    mboxTake s i = .done w (modInst s i.run i.num (fun x => { x with inbox := rest })) := by
  simp only [mboxTake, waiting]

theorem mboxTake_of_empty {s : State} {i : Instance} (empty : i.inbox = []) : mboxTake s i = .stall s := by
  simp only [mboxTake, empty]

theorem mboxPost_of_room {s : State} {i : Instance} (w : Word) (room : i.outbox.length < 8) :
    mboxPost s i w = .done 0 (modInst s i.run i.num (fun x => { x with outbox := x.outbox ++ [w] })) :=
  if_neg (Nat.not_le.mpr room)

/-! ### Waymark (R255, R280) -/

theorem wmStart_of_room {s : State} {i : Instance} (idle : i.ports.wmBusy = false)
    (room : (s.way.queue.filter (fun q => q.table == i.ports.wmTable)).length < 64) :
    wmStart s i = .done 0 (modPorts (upWay s (fun w => { w with
      queue := w.queue ++ [{ table := i.ports.wmTable, run := i.run, num := i.num, key := i.ports.wmKey }] })) i
      (fun p => { p with wmBusy := true })) := by
  simp only [wmStart, idle, Nat.not_le.mpr room, Bool.false_eq_true, or_self, if_false]

/-! ### Digest messages (R256, R308) -/

@[simp] theorem modPorts_sec (s : State) (i : Instance) (f : Ports → Ports) : (modPorts s i f).sec = s.sec := rfl

theorem dgDrop_errorState (s : State) (i : Instance) : (dgDrop s i).sec.errorState = s.sec.errorState := rfl

section
variable {s u : State} {i : Instance} {v : Nat} (idle : i.ports.dgBusy = false) (sound : s.sec.errorState = false)
  (known : algValid (v % 16) = true) (plain : v % 16 < 8)
  (reopened : u = modPorts (dgDrop s i) i (fun p => { p with
    dgExhausted := false, dgCleared := false, dgDone := false, dgNoMessage := false, dgOut := [] }))
include idle sound known plain reopened

/-- DG_OPEN of a plain digest, the held message gone and the marks of earlier ones cleared, finds every context taken. -/
theorem dgOpenPort_of_exhausted (full : freeContext u = none) :
    dgOpenPort s i v = .done 0 (modPorts (upSec u (fun e => { e with exhausted := satInc e.exhausted })) i
      (fun p => { p with dgExhausted := true })) := by
  subst reopened
  simp only [dgOpenPort, idle, modPorts_sec, dgDrop_errorState, sound, known, full, Nat.not_le.mpr plain, decide_false, Bool.not_true,
    Bool.false_and, Bool.or_self, Bool.false_eq_true, if_false]

/-- DG_OPEN of a plain digest, the held message gone and the marks of earlier ones cleared, takes a free context for an empty message. -/
theorem dgOpenPort_of_context {c : Nat} (found : freeContext u = some c) :
    dgOpenPort s i v = .done 0 (modPorts (upSec u (fun e => { e with
      contexts := mset e.contexts c { alg := v % 16, hmac := none, data := [], kite := some (i.run, i.num), parts := [], doomed := false }
      dgPeak := max e.dgPeak (e.contexts.length + 1) })) i (fun p => { p with dgCtx := some c })) := by
  subst reopened
  simp only [dgOpenPort, idle, modPorts_sec, dgDrop_errorState, sound, known, found, Nat.not_le.mpr plain, decide_false, Bool.not_true,
    Bool.false_and, Bool.or_self, Bool.false_eq_true, if_false]

end

theorem dgFeedPort_of_mapped {s t : State} {i : Instance} {n : Nat} {d : List Byte} (idle : i.ports.dgBusy = false)
    (held : i.ports.dgCtx.isNone = false) (least : 1 ≤ n) (most : n ≤ 1048576) (taken : dataTake s i i.ports.dgAddr n = some (d, t)) :
    dgFeedPort s i n = .done 0 (modPorts t i (fun p => { p with
      dgBusy := true, dgFeed := some d, dgFrom := p.dgAddr, dgDone := false })) := by
  have nonempty : n ≠ 0 := Nat.ne_zero_of_lt least
  simp only [dgFeedPort, idle, held, nonempty, Nat.not_lt.mpr most, taken, Bool.false_eq_true, or_self, if_false]

theorem dgFinalPort_of_held {s : State} {i : Instance} (idle : i.ports.dgBusy = false) (held : i.ports.dgCtx.isNone = false) :
    dgFinalPort s i = .done 0 (modPorts s i (fun p => { p with dgBusy := true, dgFeed := none, dgDone := false })) :=
  (if_neg (Bool.eq_false_iff.mp idle)).trans (if_neg (Bool.eq_false_iff.mp held))

/-! ### Compression (R257) -/

theorem cpStart_of_legal {s t : State} {i : Instance} {d : List Byte} (idle : i.ports.cpBusy = false) (legal : cpBad i.ports = none)
    (taken : dataTake s i i.ports.cpSrc i.ports.cpSrcLen = some (d, t))
    (placed : region s i i.ports.cpDst i.ports.cpDstCap = some .localData) :
    cpStart s i = .done 0 (askPipe (modPorts t i (fun p => { p with
      cpBusy := true, cpReq := some (p.cpMode, d, p.cpDst, p.cpDstCap), cpFrom := p.cpSrc })) (kitePipe i (bit i.ports.cpMode 0))) := by
  simp only [cpStart, idle, legal, taken, placed, Bool.false_eq_true, if_false]

theorem cpStart_of_illegal {s : State} {i : Instance} {port : Nat} (idle : i.ports.cpBusy = false) (illegal : cpBad i.ports = some port) :
    cpStart s i = .done 0 (latchEvent (modPorts s i (fun p => { p with
      cpResult := stInvalidField + 65536 * port, cpOutLen := 0 })) i.run i.num 7) := by
  simp only [cpStart, idle, illegal, Bool.false_eq_true, if_false]

/-! ### DMA (R258, R270) -/

/-- A DMA request whose bytes the destination has room for is kept with them; one that appends takes its room at once. -/
theorem dmaStart_of_room {s t : State} {i : Instance} {append : Bool} {d : List Byte} {q : Run} {off : Nat}
    (offset : (if append then q.nextFree else i.ports.dmaDstLo + i.ports.dmaDstHi * 2 ^ 32) = off)
    (idle : i.ports.dmaBusy = false) (least : 1 ≤ i.ports.dmaLen) (most : i.ports.dmaLen ≤ 1048576)
    (taken : dataTake s i i.ports.dmaSrc i.ports.dmaLen = some (d, t)) (run : findRun t i.run = some q)
    (room : off + i.ports.dmaLen ≤ q.dlen) :
    dmaStart s i append = .done 0 (modPorts
      (if append then modRun t i.run (fun r => { r with nextFree := off + i.ports.dmaLen }) else t) i (fun p => { p with
        dmaBusy := true, dmaReq := some (off, d), dmaFrom := p.dmaSrc, dmaFull := false, dmaError := false,
        dmaOffset := if append then off % 2 ^ 32 else p.dmaOffset })) := by
  have nonempty : i.ports.dmaLen ≠ 0 := Nat.ne_zero_of_lt least
  have kite_kept : t.kite = s.kite := (dataTake_fr s i _ _ d t taken).2 .kite (by decide)
  have run_before : findRun s i.run = some q := by rwa [findRun, ← kite_kept]
  simp only [dmaStart, idle, nonempty, Nat.not_lt.mpr most, taken, run_before, offset, Nat.not_lt.mpr room,
    Bool.false_eq_true, or_self, if_false]

/-- Settles O30: each clause is the outcome of its port's access that the clause's conditions select. What DG_OPEN reads of its word, and
that a request keeps its source's bytes, is log entry 28. -/
theorem kitePortsComplete : Obligations.KitePortsComplete := by
  refine ⟨?_, ?_, ?_, ?_, ?_, ?_, ?_, ?_, ?_, ?_, ?_, ?_, ?_, ?_, ?_, ?_, ?_, ?_⟩
  · rintro s core i n a b check u j runs number allowed visible checked rfl sound allowedNow visibleNow
    have scan : i.regs.get b = 0 := BitVec.eq_of_toNat_eq number
    have ready := portIn_scan_of_visible core.val allowed visible
    have answered := portIn_scan_of_visible core.val allowedNow visibleNow
    exact kitePort_of_executes (names := (· == 0x000)) runs (beq_iff_eq.mpr number) (runIn_of_scan scan ready checked sound answered)
  · intro s core i n a b check runs number allowed few more
    have waits := (portIn_of_permitted core.val 4 number (by decide) allowed).trans (scanRead_of_awaited few more)
    exact kitePort_of_executes (names := (· == 0x000)) runs (beq_iff_eq.mpr number) (runIn_of_stall waits)
  · exact fun _ _ _ _ _ _ runs number allowed visible =>
      kitePort_out_of_done runs number allowed (congrArg some (scanReleasePort_of_visible visible))
  · exact fun _ _ _ _ _ _ runs number allowed => kitePort_out_of_done runs number allowed rfl
  · exact fun _ _ _ _ _ _ runs number allowed =>
      kitePort_out_of_named (names := fun p => p == 0x410 || p == 0x411) rfl runs number allowed rfl
  · exact fun _ _ _ _ _ _ runs number allowed =>
      kitePort_out_of_named (names := fun p => p == 0x410 || p == 0x411) rfl runs number allowed rfl
  · intro s core i n a b w rest runs number allowed waiting
    have answered := (portIn_of_permitted core.val 4 number (by decide) allowed).trans (mboxTake_of_word waiting)
    have other : i.regs.get b ≠ 0 := fun zero => absurd (number.symm.trans (congrArg BitVec.toNat zero)) (by decide)
    exact kitePort_of_executes (names := (· == 0x420)) runs (beq_iff_eq.mpr number) (runIn_of_answer other answered)
  · intro s core i n a b runs number allowed empty
    have waits := (portIn_of_permitted core.val 4 number (by decide) allowed).trans (mboxTake_of_empty empty)
    exact kitePort_of_executes (names := (· == 0x420)) runs (beq_iff_eq.mpr number) (runIn_of_stall waits)
  · exact fun _ _ _ _ _ _ runs number allowed room =>
      kitePort_out_of_done runs number allowed (congrArg some (mboxPost_of_room _ room))
  · exact fun _ _ _ _ _ _ runs number allowed idle room =>
      kitePort_out_of_done runs number allowed (congrArg some (wmStart_of_room idle room))
  · exact fun _ _ _ _ _ _ runs number allowed idle sound known plain full =>
      kitePort_out_of_done runs number allowed (congrArg some (dgOpenPort_of_exhausted idle sound known plain rfl full))
  · exact fun _ _ _ _ _ _ _ _ runs number allowed idle sound known plain reopened found =>
      kitePort_out_of_done runs number allowed (congrArg some (dgOpenPort_of_context idle sound known plain reopened found))
  · exact fun _ _ _ _ _ _ _ _ runs number allowed idle held least most taken =>
      kitePort_out_of_done runs number allowed (congrArg some (dgFeedPort_of_mapped idle held least most taken))
  · exact fun _ _ _ _ _ _ runs number allowed idle held =>
      kitePort_out_of_done runs number allowed (congrArg some (dgFinalPort_of_held idle held))
  · exact fun _ _ _ _ _ _ _ _ runs number allowed idle legal taken placed =>
      kitePort_out_of_done runs number allowed (congrArg some (cpStart_of_legal idle legal taken placed))
  · exact fun _ _ _ _ _ _ _ runs number allowed idle illegal =>
      kitePort_out_of_done runs number allowed (congrArg some (cpStart_of_illegal idle illegal))
  · exact fun _ _ _ _ _ _ _ _ _ runs number allowed idle least most taken run room =>
      kitePort_out_of_done runs number allowed (congrArg some (dmaStart_of_room (append := false) rfl idle least most taken run room))
  · exact fun _ _ _ _ _ _ _ _ _ runs number allowed idle least most taken run room =>
      kitePort_out_of_done runs number allowed (congrArg some (dmaStart_of_room (append := true) rfl idle least most taken run room))

end Sys2Proof.Machine
end

section
/-! SUPPORT. What Dwear, the lanes and the engines do for Kite instances: dispatch and preemption, work lists and lane blocks, timers, mail,
the end of engine requests, and words that are no instruction (R206, R208, R213 to R217, R222, R249, R254 to R258, R267, R269). -/

namespace Sys2Proof.Machine
open Sys2Proof

/-! ### Dispatch (R192, R213, R214, R219) -/

theorem instanceDispatch_of_idle {s u v : State} {core : CoreId} {i : Instance} {img : Option Nat}
    (waits : waitingInst s (core.val / 8) = some i) (uncontained : s.flt.containing.contains (islKc (core.val / 8)) = false)
    (powered : u = powerCluster (stopKiteTest s (core.val / 8)) (core.val / 8)) (idle : (coreAt u core.val).state = 0)
    (image : img = ((findRun u i.run).bind (fun r => mget u.kite.programs r.slot)).map (fun g => g.load))
    (placed : v = modCore (upKite (modInst u i.run i.num (fun x => { x with
        state := .dispatched core.val, since := u.glb.lifetime, spill := none }))
      (fun k => { k with readyQ := k.readyQ.erase (i.run, i.num) })) core.val
      (fun c => { state := 2, image := img, inst := some (i.run, i.num), poison := if c.image = img then c.poison else [] })) :
    exec (.instanceDispatch core) s = .next (if spillPoisoned v i then kiteFault v core.val i 7 i.regs.pc else v) := by
  subst powered image placed
  change execInstanceDispatch core s = _
  simp only [execInstanceDispatch, waits, uncontained, idle, ne_eq, not_true_eq_false, Bool.false_eq_true, if_false]
  exact (apply_ite Host.Outcome.next _ _ _).symm

/-! ### Preemption (R214 to R217, R231) -/

section
variable {s : State} {core : Nat} {i : Instance} (enabled : (clusterAt s (core / 8)).preempt = true)
  (waits : waitingInst s (core / 8) = some i)
include enabled waits

/-- A core that is not STALLED goes to SAVING as it stands. -/
theorem preempt_of_unstalled (room : spillUsed s (core / 8 / 2) < s.kite.spillSlots) (unstalled : (coreAt s core).state ≠ 4) :
    preempt s core = modCore s core (fun c => { c with state := 5 }) := by
  simp only [preempt, enabled, waits, Nat.not_le.mpr room, unstalled, Bool.not_true, Option.isNone_some, Bool.or_self,
    Bool.false_eq_true, if_false]

/-- A STALLED core goes to SAVING once the cycles of its stall are in its run time. -/
theorem preempt_of_stalled {u : State} {j : Instance} {n : Nat} (room : spillUsed s (core / 8 / 2) < s.kite.spillSlots)
    (stalled : (coreAt s core).state = 4) (tries : executing s core = some j) (passed : cyclesOf s 0 true 0 = (n, u)) :
    preempt s core = modCore (modInst u j.run j.num (fun x => { x with regs := { x.regs with
      cycles := (x.regs.cycles + n) % 2 ^ 64 } })) core (fun c => { c with state := 5 }) := by
  simp only [preempt, enabled, waits, Nat.not_le.mpr room, stalled, tries, passed, Bool.not_true, Option.isNone_some, Bool.or_self,
    Bool.false_eq_true, if_false, if_true]

theorem preempt_of_full (full : s.kite.spillSlots ≤ spillUsed s (core / 8 / 2)) :
    preempt s core = modCluster s (core / 8) (fun c => { c with skipped := satIncW 8 c.skipped }) := by
  simp only [preempt, enabled, waits, full, Bool.not_true, Option.isNone_some, Bool.or_self, Bool.false_eq_true, if_false, if_true]

end

theorem quantumExpiry_of_over {s : State} {core : CoreId} (expired : quantumOver s core.val = true)
    (held : (coreAt s core.val).state = 2 ∨ (coreAt s core.val).state = 3 ∨ (coreAt s core.val).state = 4) :
    exec (.quantumExpiry core) s = .next (preempt s core.val) :=
  if_pos (by simp only [expired, Bool.true_and, Bool.or_eq_true, beq_iff_eq, or_assoc, held])

theorem waitPreempt_of_waiting {s : State} {core : CoreId} (held : (coreAt s core.val).inst.isSome = true)
    (waiting : (coreAt s core.val).state = 3) : exec (.waitPreempt core) s = .next (preempt s core.val) :=
  if_pos (by simp only [held, waiting, beq_self_eq_true, Bool.and_self])

/-- The context of what runs on a core, its lane holding nothing, goes to a free slot, all of whose lines are written (R192, R215, R217). -/
theorem contextSaveDone_of_emptyLane {s u v : State} {core : CoreId} {i : Instance} {r : Run} {k : Nat}
    (held : (coreAt s core.val).inst.bind (fun x => findInst s x.1 x.2) = some i) (saving : (coreAt s core.val).state = 5)
    (settled : i.ports.busy = false) (run : findRun s i.run = some r) (noRing : i.lane.ring = []) (noWork : i.lane.work = [])
    (slot : freeSlot s (i.cluster / 2) = some k)
    (saved : u = modInst s i.run i.num (fun x => { x with
      state := .saved, resumed := true, spill := some k, lane := x.lane.saved r.first (ringOf s i) }))
    (queued : v = upKite (upDrc u (fun d => { d with
        poisoned := d.poisoned.filter (fun l => !(spillLines u (i.cluster / 2) k).contains l) }))
      (fun k => { k with readyQ := k.readyQ ++ [(i.run, i.num)] })) :
    exec (.contextSaveDone core) s = .next (modCore (modCluster v i.cluster (fun c => { c with preempts := (c.preempts + 1) % 2 ^ 24 }))
      core.val (fun c => { c with state := 0, inst := none })) := by
  subst saved queued
  change execContextSaveDone core s = _
  simp only [execContextSaveDone, held, saving, settled, run, noRing, noWork, slot, List.append_nil, List.foldl_nil, ne_eq,
    not_true_eq_false, Bool.false_eq_true, or_self, if_false]

/-! ### Work lists and lane blocks (R206, R208, R267) -/

theorem laneBlockVisible_of_bytes {s : State} {run num c : Nat} {i : Instance} {b : LaneBlock} {l : List LaneBlock} {m : MediaIn}
    (there : findInst s run num = some i) (dispatched : i.state = .dispatched c) (next : i.lane.work = b :: l)
    (unsaved : (coreAt s c).state ≠ 5) (room : 4096 * i.lane.ring.length < ringOf s i) (unlocated : b.entry = none)
    (unstaged : b.staging = false) : exec (.laneBlockVisible run num m) s = .next (publish s i b) := by
  change execLaneBlockVisible run num m s = _
  simp only [execLaneBlockVisible, there, dispatched, next, unsaved, Nat.not_le.mpr room, laneRead, unlocated, unstaged,
    Bool.false_eq_true, false_and, or_self, if_false]

theorem worklistExtend_of_dispatched {s : State} {run num c : Nat} {i : Instance} (there : findInst s run num = some i)
    (dispatched : i.state = .dispatched c) :
    exec (.worklistExtend run num) s = .next (rouse (extendList s run num (i.lane.stop - i.lane.next)) run num) := by
  change execWorklistExtend run num s = _
  simp only [execWorklistExtend, there, dispatched]

/-! ### Timers and mail (R222, R269) -/

theorem timerExpiry_of_timer1 {s : State} {run num : Nat} {i : Instance} (there : findInst s run num = some i) (live : i.state ≠ .ended)
    (runs : i.timer1 ≠ 0) :
    exec (.timerExpiry run num 1) s = .next (latchEvent (modInst s run num (fun x => { x with timer1 := 0 })) run num 4) := by
  change execTimerExpiry run num 1 s = _
  simp only [execTimerExpiry, there, live, runs, Nat.lt_irrefl, Nat.one_ne_zero, or_self, if_false]

theorem mailTo_of_room {s : State} {run sender dest : Nat} {d : Instance} (w : Word) (there : findInst s run dest = some d)
    (live : d.state ≠ .ended) (room : d.inbox.length < 8) :
    mailTo s run sender dest w =
      some (rouse (modInst s run dest (fun x => { x with inbox := x.inbox ++ [mailWord sender w] })) run dest) := by
  simp only [mailTo, there, live, Nat.not_le.mpr room, if_false]

/-- While no word of a halted sender is left, the head of the sender's own queue goes. -/
theorem mboxDeliver_of_outbox {s t : State} {run sender dest : Nat} {i : Instance} {w : Word} {rest : List Word}
    (noneLeft : s.kite.mail.find? (fun m => m.1 == run && m.2.1 == sender) = none) (there : findInst s run sender = some i)
    (posted : i.outbox = w :: rest) (addressed : w.toNat / 2 ^ 26 = dest) (arrives : mailTo s run sender dest w = some t) :
    exec (.mboxDeliver run sender dest) s = .next (modInst t run sender (fun x => { x with outbox := rest })) := by
  change execMboxDeliver run sender dest s = _
  simp only [execMboxDeliver, noneLeft, there, posted, addressed, arrives, ne_eq, not_true_eq_false, if_false]

/-! ### Engine requests (R254, R256, R258) -/

theorem engineRequestDone_of_digest {s : State} {run num : Nat} {i : Instance} (check : LineCheck) (checker : Checker)
    (there : findInst s run num = some i) (busy : i.ports.dgBusy = true) (runs : inReset s islCrypt = false) :
    exec (.engineRequestDone run num .digest check checker) s = .next (digestDone s i check) := by
  change execEngineRequestDone run num .digest check checker s = _
  simp only [execEngineRequestDone, there, busy, runs, Bool.not_false, Bool.and_self, if_true]

theorem digestDone_of_feed {s u t : State} {i : Instance} {n : Nat} {c : DigestCtx} {b d : List Byte} {check : LineCheck}
    (busy : i.ports.dgBusy = true) (held : i.ports.dgCtx = some n) (context : mget s.sec.contexts n = some c)
    (fed : i.ports.dgFeed = some b) (checked : u = checkRange s i i.ports.dgFrom b.length check)
    (sound : poisonedIn u (instNow u i) i.ports.dgFrom b.length = false)
    (bytes : sourceNow u (instNow u i) i.ports.dgFrom b = (d, t)) :
    digestDone s i check = dropEnded (latchEvent (modPorts
      (upSec t (fun e => { e with contexts := mset e.contexts n { c with data := c.data ++ d } })) i
      (fun p => { p with dgBusy := false, dgFeed := none })) i.run i.num 6) i := by
  subst checked
  simp only [digestDone, busy, held, context, fed, sound, bytes, Option.bind_some, Option.map_some, Bool.not_true, Bool.false_eq_true,
    if_false]

theorem engineRequestDone_of_dma {s : State} {run num : Nat} {i : Instance} (check : LineCheck) (checker : Checker)
    (there : findInst s run num = some i) (busy : i.ports.dmaBusy = true) :
    exec (.engineRequestDone run num .dma check checker) s = .next (dmaDone s i check) := by
  change execEngineRequestDone run num .dma check checker s = _
  simp only [execEngineRequestDone, there, busy, if_true]

/-- A delivery that merges with no poisoned line writes its whole range (R272). -/
theorem writtenSpan_of_sound {s : State} {a n : Nat} (sound : poisonedParts s a n = []) : writtenSpan s a n = (0, n) := by
  simp only [writtenSpan, sound, List.filter_nil, List.map_nil, List.sum_nil, Nat.sub_zero, Nat.zero_min]

theorem dmaDone_of_sound {s u t : State} {i : Instance} {o : Op} {off : Nat} {b d : List Byte} {check : LineCheck}
    (request : i.ports.dmaReq = some (off, b)) (command : findOp s i.run = some o) (reached : o.pkt.arena = true ∨ ioUp s = true)
    (nonempty : b ≠ [])
    (checked : u = if o.pkt.arena = true ∧ partialLines (o.pkt.dptr + off) b.length ≠ [] then
        checkMerge s (o.pkt.dptr + off) b.length check
      else checkRange s i i.ports.dmaFrom b.length check)
    (bytes : sourceBytes u (instNow u i) i.ports.dmaFrom b = (d, t)) (sound : poisonedParts u (o.pkt.dptr + off) b.length = []) :
    dmaDone s i check = latchEvent (modPorts
      (modRun (deliverRun t o off d) i.run (fun r => { r with extent := max r.extent (off + b.length) })) i
      (fun p => { p with dmaBusy := false, dmaReq := none, dmaError := false })) i.run i.num 8 := by
  have linked : (!o.pkt.arena && !ioUp s) = false := by
    rcases reached with arena | up
    · rw [arena, Bool.not_true, Bool.false_and]
    · rw [up, Bool.not_true, Bool.and_false]
  have merges : (o.pkt.arena && !(partialLines (o.pkt.dptr + off) b.length).isEmpty) =
      decide (o.pkt.arena = true ∧ partialLines (o.pkt.dptr + off) b.length ≠ []) := by
    rw [Bool.decide_and, Bool.decide_eq_true]
    cases partialLines (o.pkt.dptr + off) b.length <;> rfl
  have whole : 0 < b.length := List.length_pos_iff.mpr nonempty
  simp only [dmaDone, request, command, linked, merges, decide_eq_true_eq, ← checked, bytes, sound, writtenSpan_of_sound sound, whole,
    ite_self, List.isEmpty_nil, Bool.not_true, Bool.and_false, Bool.false_eq_true, if_false, if_true]

/-! ### Words that are no instruction (R233, R249) -/

theorem illegalInstruction_of_unassigned {s u : State} {core : CoreId} {i : Instance} {check : LineCheck}
    (runs : executing s core.val = some i) (checked : u = checkCode s i core.val i.regs.pc check)
    (sound : fetchPoisoned u core.val i.regs.pc = false) (unassigned : kiteFetch u core.val i = none) :
    exec (.illegalInstruction core check) s = .next (kiteFault u core.val i 1 i.regs.pc) := by
  subst checked
  change execIllegalInstruction core check s = _
  simp only [execIllegalInstruction, runs, sound, unassigned, Bool.false_eq_true, if_false]

/-- Settles O31: each clause is the branch of its command that the clause's conditions select. That a context's lines are those of its slot
is log entry 73, and that a request's source bytes are those it was given, where they still stand, log entry 28. -/
theorem kiteRuntimeComplete : Obligations.KiteRuntimeComplete := by
  refine ⟨?_, ?_, ?_, ?_, ?_, ?_, ?_, ?_, ?_, ?_, ?_, ?_, ?_⟩
  · exact fun _ _ _ _ _ _ => instanceDispatch_of_idle
  · intro s core i expired held enabled waits room
    rw [quantumExpiry_of_over expired (by omega), preempt_of_unstalled enabled waits room (by omega)]
  · intro s u core i j n expired stalled enabled waits room tries passed
    rw [quantumExpiry_of_over expired (.inr (.inr stalled)), preempt_of_stalled enabled waits room stalled tries passed]
  · intro s core i expired held enabled waits full
    rw [quantumExpiry_of_over expired held, preempt_of_full enabled waits full]
  · intro s core i held waiting enabled waits room
    rw [waitPreempt_of_waiting held waiting, preempt_of_unstalled enabled waits room (by omega)]
  · exact fun _ _ _ _ _ held saving settled run noRing noWork slot =>
      ⟨_, _, rfl, rfl, contextSaveDone_of_emptyLane held saving settled run noRing noWork slot rfl rfl⟩
  · exact fun _ _ _ _ _ _ _ _ => laneBlockVisible_of_bytes
  · exact fun _ _ _ _ _ => worklistExtend_of_dispatched
  · exact fun _ _ _ _ => timerExpiry_of_timer1
  · exact fun _ _ _ _ _ _ w _ noneLeft there posted addressed destination live room =>
      mboxDeliver_of_outbox noneLeft there posted addressed (mailTo_of_room w destination live room)
  · exact fun _ _ _ _ _ _ _ _ _ _ check checker there busy runs held context fed checked sound bytes =>
      (engineRequestDone_of_digest check checker there busy runs).trans
        (congrArg _ (digestDone_of_feed busy held context fed checked sound bytes))
  · exact fun _ _ _ _ _ _ _ _ _ _ check checker there busy request command reached nonempty checked bytes sound =>
      (engineRequestDone_of_dma check checker there busy).trans
        (congrArg _ (dmaDone_of_sound request command reached nonempty checked bytes sound))
  · exact fun _ _ _ _ _ => illegalInstruction_of_unassigned

end Sys2Proof.Machine
end

section
/-! SUPPORT. The Kite instruction words: what the decoder makes of the encoder's words, and which words an instruction is decoded from (R232
to R234; Tables 9.4 to 9.11). -/

namespace Sys2Proof.Machine
open Sys2Proof

/-! ### Codes and fields (Tables 9.5, 9.7, 9.9, 9.11) -/

@[simp] theorem aluOf_code (op : AluOp) : aluOf op.code = op := by cases op <;> rfl

@[simp] theorem condOf_code (c : Cond) : condOf c.code = c := by cases c <;> rfl

@[simp] theorem strOf_code (op : StrOp) : strOf op.code = some op := by cases op <;> rfl

theorem AluOp.code_lt (op : AluOp) : op.code < 16 := by cases op <;> decide

theorem Cond.code_lt (c : Cond) : c.code < 16 := by cases c <;> decide

theorem MemOp.code_lt (op : MemOp) : op.code < 6 := by cases op <;> decide

theorem StrOp.code_lt (op : StrOp) : op.code < 6 := by cases op <;> decide

theorem code_aluOf {n : Nat} (assigned : n < 16) : (aluOf n).code = n := by
  have each : ∀ m : Fin 16, (aluOf m.val).code = m.val := by decide
  exact each ⟨n, assigned⟩

theorem code_condOf {n : Nat} (assigned : n < 16) : (condOf n).code = n := by
  have each : ∀ m : Fin 16, (condOf m.val).code = m.val := by decide
  exact each ⟨n, assigned⟩

theorem code_of_strOf {n : Nat} {op : StrOp} (found : strOf n = some op) : op.code = n := by
  revert found
  fun_cases strOf n <;> rintro ⟨⟩ <;> rfl

@[simp] theorem regOf_val (n : Nat) : (regOf n).val = n % 16 := rfl

theorem b2n_lt_two (b : Bool) : b2n b < 2 := by cases b <;> decide

theorem decide_le_b2n_mul {m x : Nat} (d : Bool) (small : x < m) : decide (m ≤ b2n d * m + x) = d := by
  cases d
  · exact decide_eq_false (by simp only [b2n, Bool.false_eq_true, if_false]; omega)
  · exact decide_eq_true (by simp only [b2n, if_true]; omega)

theorem b2n_decide (p : Prop) [Decidable p] : b2n (decide p) = if p then 1 else 0 := by
  simp only [b2n, decide_eq_true_eq]

/-- The words of class 0b01. -/
theorem class1_bounds {w : Nat} (low : 0x1000 ≤ w) (high : w < 0x2000) : ¬ 0x4000 ≤ w ∧ ¬ w < 0x1000 ∧ w < 0x2000 := by omega

/-- The words of class 0b11 and of one op code. -/
theorem class3_bounds (w c : Nat) (code : w / 256 = 0x30 + c) (top : c < 16) :
    ¬ 0x4000 ≤ w ∧ ¬ w < 0x1000 ∧ ¬ w < 0x2000 ∧ ¬ w < 0x3000 ∧ w / 256 % 16 = c := by omega

/-- The two register fields of a word's low byte. -/
theorem regs_of_low (w : Nat) {a b : Reg} (low : w % 256 = a.val * 16 + b.val) : regOf (w / 16) = a ∧ regOf w = b :=
  ⟨Fin.ext (by rw [regOf_val]; omega), Fin.ext (by rw [regOf_val]; omega)⟩

/-! ### What a word of the encoder decodes to (R232, R233) -/

theorem decodeWord_alu {w : Nat} {op : AluOp} {a b : Reg} (word : op.code * 256 + a.val * 16 + b.val = w) :
    decodeWord w = some (.alu op a b) := by
  have known := op.code_lt
  have code : w / 256 = op.code := by omega
  have regs := regs_of_low w (a := a) (b := b) (by omega)
  simp only [decodeWord, show ¬ 0x4000 ≤ w by omega, show w < 0x1000 by omega, code, aluOf_code, regs, if_true, if_false]

theorem decodeWord_imm {w i : Nat} {op : ImmOp} {a : Reg} (small : i < 64) (word : 0x1000 + op.code * 1024 + a.val * 64 + i = w) :
    decodeWord w = some (.imm op [] a i) := by
  have reg : regOf (w / 64) = a := Fin.ext (by rw [regOf_val]; cases op <;> simp only [ImmOp.code] at word <;> omega)
  have imm : w % 64 = i := by omega
  cases op <;> simp only [ImmOp.code] at word
  case addi =>
    simp only [decodeWord, class1_bounds (w := w) (by omega) (by omega), show w < 0x1400 by omega, reg, imm, if_true, if_false]
  case cmpi =>
    simp only [decodeWord, class1_bounds (w := w) (by omega) (by omega), show ¬ w < 0x1400 by omega, show w < 0x1800 by omega,
      reg, imm, if_true, if_false]
  case movi =>
    simp only [decodeWord, class1_bounds (w := w) (by omega) (by omega), show ¬ w < 0x1400 by omega, show ¬ w < 0x1800 by omega,
      show w < 0x1C00 by omega, reg, imm, if_true, if_false]

theorem decodeWord_br {w off : Nat} {c : Cond} (small : off < 256) (word : 0x2000 + c.code * 256 + off = w) :
    decodeWord w = some (.br c off) := by
  have known := c.code_lt
  have code : w / 256 % 16 = c.code := by omega
  have low : w % 256 = off := by omega
  simp only [decodeWord, show ¬ 0x4000 ≤ w by omega, show ¬ w < 0x1000 by omega, show ¬ w < 0x2000 by omega, show w < 0x3000 by omega,
    code, low, condOf_code, if_true, if_false]

theorem decodeWord_mem {w : Nat} {op : MemOp} {a b : Reg} (word : 0x3000 + op.code * 256 + a.val * 16 + b.val = w) :
    decodeWord w = some (.mem op a b) := by
  have known := op.code_lt
  have code := class3_bounds w op.code (by omega) (by omega)
  have regs := regs_of_low w (a := a) (b := b) (by omega)
  cases op <;> simp only [MemOp.code] at code <;> simp only [decodeWord, code, regs, if_false]

theorem decodeWord_jmp {w : Nat} {a : Reg} (word : 0x3600 + a.val * 16 = w) : decodeWord w = some (.jmp a) := by
  simp only [decodeWord, class3_bounds w 6 (by omega) (by omega), show w % 16 = 0 by omega, regs_of_low w (a := a) (b := 0) (by omega),
    if_true, if_false]

theorem decodeWord_call {w : Nat} {a : Reg} (word : 0x3700 + a.val * 16 = w) : decodeWord w = some (.call a) := by
  simp only [decodeWord, class3_bounds w 7 (by omega) (by omega), show w % 16 = 0 by omega, regs_of_low w (a := a) (b := 0) (by omega),
    if_true, if_false]

theorem decodeWord_brpt {w n : Nat} (positive : 1 ≤ n) (small : n < 256) (word : 0x3A00 + n = w) : decodeWord w = some (.brpt n) := by
  simp only [decodeWord, class3_bounds w 10 (by omega) (by omega), show w % 256 = n by omega, show n ≠ 0 by omega, if_false]

theorem decodeWord_str {w : Nat} {wide : Bool} {op : StrOp} {r : Reg} (reserved : op = .copy → r = 0)
    (word : 0x3B00 + b2n wide * 128 + op.code * 16 + r.val = w) : decodeWord w = some (.str wide op r) := by
  have known := op.code_lt
  have widths := b2n_lt_two wide
  have low : w % 256 = b2n wide * 128 + (op.code * 16 + r.val) := by omega
  have code : (b2n wide * 128 + (op.code * 16 + r.val)) / 16 % 8 = op.code := by omega
  have reg : regOf w = r := Fin.ext (by rw [regOf_val]; omega)
  simp only [decodeWord, class3_bounds w 11 (by omega) (by omega), low, code, strOf_code,
    decide_le_b2n_mul wide (show op.code * 16 + r.val < 128 by omega), reg, if_false]
  cases op with
  | copy =>
    obtain rfl := reserved rfl
    exact if_pos (by simp only [StrOp.code, Fin.val_zero]; omega)
  | _ => rfl

theorem decodeWord_movsr {w : Nat} {a : Reg} {d : Bool} {n : Fin 8} (word : 0x3D00 + a.val * 16 + b2n d * 8 + n.val = w) :
    decodeWord w = some (.movsr a d n) := by
  have directions := b2n_lt_two d
  have reg : regOf (w / 16) = a := Fin.ext (by rw [regOf_val]; omega)
  have number : (⟨w % 256 % 8, Nat.mod_lt _ (by decide)⟩ : Fin 8) = n := Fin.ext (by simp only; omega)
  simp only [decodeWord, class3_bounds w 13 (by omega) (by omega), reg, number, show w % 256 % 16 = b2n d * 8 + n.val by omega,
    decide_le_b2n_mul d n.isLt, if_false]

theorem decodeWord_ldpw {w : Nat} {a b : Reg} (word : 0x3E00 + a.val * 16 + b.val = w) : decodeWord w = some (.ldpw a b) := by
  simp only [decodeWord, class3_bounds w 14 (by omega) (by omega), regs_of_low w (a := a) (b := b) (by omega), if_false]

/-- The words of an instruction that no EXT word prefixes: one, which decodes to it. -/
theorem decodeWord_of_encode {k : KOp} {w : Nat} (wf : k.wf = true) (alone : kiteEncode k = [w]) : decodeWord w = some k := by
  cases k <;> simp only [kiteEncode, KOp.wf, List.cons.injEq, and_true, decide_eq_true_eq, Bool.and_eq_true] at alone wf
  case alu => exact decodeWord_alu alone
  case imm op exts a i =>
    obtain ⟨none, word⟩ | ⟨-, empty⟩ := List.append_eq_singleton_iff.mp alone
    · obtain rfl := List.map_eq_nil_iff.mp none
      exact decodeWord_imm wf.1.2 (List.singleton_inj.mp word)
    · cases empty
  case br => exact decodeWord_br wf alone
  case mem => exact decodeWord_mem alone
  case jmp => exact decodeWord_jmp alone
  case call => exact decodeWord_call alone
  case brpt => exact decodeWord_brpt wf.1 wf.2 alone
  case str => exact decodeWord_str (by rintro rfl; exact Fin.ext (beq_iff_eq.mp wf)) alone
  case movsr => exact decodeWord_movsr alone
  case ldpw => exact decodeWord_ldpw alone
  case ret | rep | nop | wait | halt | trap => cases alone; rfl

/-! ### Which word an instruction is decoded from (R233) -/

/-- A decoded word without EXT words is the encoding of what it decodes to. -/
theorem encode_of_decodeWord {w : Nat} {k : KOp} (decoded : decodeWord w = some k) : k.wf = true ∧ kiteEncode k = [w] := by
  revert decoded
  fun_cases decodeWord w
  all_goals intro decoded; cases decoded
  case case2 =>  -- class 0b00
    have code := code_aluOf (n := w / 256) (by omega)
    refine ⟨rfl, ?_⟩
    simp +zetaDelta only [kiteEncode, code, regOf_val, List.cons.injEq, and_true]
    omega
  case case3 | case4 | case5 =>  -- ADDI, CMPI, MOVI
    simp +zetaDelta only [KOp.wf, kiteEncode, ImmOp.code, regOf_val, List.length_nil, List.all_nil, List.map_nil, List.nil_append,
      List.cons.injEq, Nat.zero_le, decide_true, Nat.reduceBNe, Bool.true_and, Bool.true_or, Bool.and_true, decide_eq_true_eq, and_true]
    omega
  case case7 =>  -- branches
    have code := code_condOf (n := w / 256 % 16) (by omega)
    simp +zetaDelta only [KOp.wf, kiteEncode, code, decide_eq_true_eq, List.cons.injEq, and_true]
    omega
  case case24 copies zero =>  -- COPY
    have code := code_of_strOf copies
    refine ⟨rfl, ?_⟩
    simp +zetaDelta only [kiteEncode, b2n_decide, StrOp.code, Fin.val_zero, List.cons.injEq, and_true] at *
    split <;> omega
  case case26 op other found =>  -- string operations with a register
    have code := code_of_strOf found
    have known := op.code_lt
    constructor
    · cases op
      case copy => exact absurd rfl other
      all_goals rfl
    · simp +zetaDelta only [kiteEncode, b2n_decide, regOf_val, List.cons.injEq, and_true]
      split <;> omega
  case case33 =>  -- MOVSR
    refine ⟨rfl, ?_⟩
    simp +zetaDelta only [kiteEncode, b2n_decide, regOf_val, List.cons.injEq, and_true]
    split <;> omega
  all_goals  -- the rest of class 0b11
    simp +zetaDelta only [KOp.wf, kiteEncode, MemOp.code, regOf_val, List.cons.injEq, Bool.and_eq_true, decide_eq_true_eq, and_true,
      true_and]
    omega

/-! ### EXT chains (R234) -/

theorem isExt_of_field {e : Nat} (field : e < 1024) : isExt (0x1C00 + e) = true := by
  simp only [isExt, Bool.and_eq_true, decide_eq_true_eq]
  omega

theorem ext_field {w : Nat} (ext : isExt w = true) : 0x1C00 + w % 1024 = w := by
  simp only [isExt, Bool.and_eq_true, decide_eq_true_eq] at ext
  omega

/-- EXT words alone have no meaning. -/
theorem decodeWord_ext {w : Nat} (ext : isExt w = true) : decodeWord w = none := by
  simp only [isExt, Bool.and_eq_true, decide_eq_true_eq] at ext
  simp only [decodeWord, class1_bounds (w := w) (by omega) ext.2, show ¬ w < 0x1400 by omega, show ¬ w < 0x1800 by omega,
    show ¬ w < 0x1C00 by omega, if_true, if_false]

theorem not_isExt_of_decodeWord {w : Nat} {k : KOp} (decoded : decodeWord w = some k) : isExt w = false := by
  rw [Bool.eq_false_iff]
  intro ext
  cases (decodeWord_ext ext).symm.trans decoded

/-- EXT words are read on until three are. -/
theorem decodeChain_exts {exts : List Nat} {read ws : List Nat} (fields : ∀ e ∈ exts, e < 1024) (most : read.length + exts.length ≤ 3) :
    decodeChain read (exts.map (fun e => 0x1C00 + e) ++ ws) = decodeChain (read ++ exts) ws := by
  induction exts generalizing read with
  | nil => rw [List.map_nil, List.nil_append, List.append_nil]
  | cons e exts ih =>
    simp only [List.length_cons] at most
    have field := fields e (List.mem_cons_self ..)
    have kept : (0x1C00 + e) % 1024 = e := by omega
    have room : read.length < 3 := by omega
    simp only [List.map_cons, List.cons_append, decodeChain, isExt_of_field field, kept, room, if_true]
    rw [ih (fun x h => fields x (List.mem_cons_of_mem _ h)) (by rw [List.length_append, List.length_singleton]; omega),
      List.append_assoc, List.singleton_append]

/-- An ADDI, CMPI or MOVI takes the EXT words read before it. -/
theorem decodeChain_imm {exts rest e : List Nat} {w i : Nat} {op : ImmOp} {a : Reg} (decoded : decodeWord w = some (.imm op e a i))
    (narrow : exts.length = 3 → exts.headD 0 < 64) :
    decodeChain exts (w :: rest) = some (.imm op exts a i, exts.length + 1) := by
  have fits : ¬ (exts.length = 3 ∧ 64 ≤ exts.headD 0) := fun h => absurd (narrow h.1) (by omega)
  simp only [decodeChain, not_isExt_of_decodeWord decoded, decoded, fits, Bool.false_eq_true, if_false]

/-- Every other instruction stands without EXT words. -/
theorem decodeChain_plain {w : Nat} {k : KOp} (rest : List Nat) (decoded : decodeWord w = some k) (plain : ∀ op e a i, k ≠ .imm op e a i) :
    decodeChain [] (w :: rest) = some (k, 1) := by
  simp only [decodeChain, not_isExt_of_decodeWord decoded, decoded, Bool.false_eq_true, if_false]
  cases k
  case imm op e a i => exact absurd rfl (plain op e a i)
  all_goals rfl

theorem kiteEncode_plain {k : KOp} (plain : ∀ op e a i, k ≠ .imm op e a i) : ∃ w, kiteEncode k = [w] := by
  cases k
  case imm op e a i => exact absurd rfl (plain op e a i)
  all_goals exact ⟨_, rfl⟩

/-- A well-formed instruction decodes from its own words. -/
theorem kiteDecode_encode (k : KOp) (rest : List Nat) (wf : k.wf = true) :
    kiteDecode (kiteEncode k ++ rest) = some (k, (kiteEncode k).length) := by
  by_cases plain : ∀ op e a i, k ≠ .imm op e a i
  · obtain ⟨w, alone⟩ := kiteEncode_plain plain
    rw [alone]
    exact decodeChain_plain rest (decodeWord_of_encode wf alone) plain
  · simp only [ne_eq, Classical.not_forall, Classical.not_not] at plain
    obtain ⟨op, exts, a, i, rfl⟩ := plain
    simp only [KOp.wf, Bool.and_eq_true, Bool.or_eq_true, decide_eq_true_eq, List.all_eq_true, bne_iff_ne] at wf
    obtain ⟨⟨⟨most, fields⟩, small⟩, narrow⟩ := wf
    simp only [kiteDecode, kiteEncode, List.append_assoc, List.length_append, List.length_map, List.length_singleton]
    rw [decodeChain_exts fields (by rwa [List.length_nil, Nat.zero_add]), List.nil_append, List.singleton_append,
      decodeChain_imm (decodeWord_imm small rfl) (fun three => narrow.resolve_left (absurd three))]

theorem word_of_decodeWord_imm {e : List Nat} {w i : Nat} {op : ImmOp} {a : Reg} (decoded : decodeWord w = some (.imm op e a i)) :
    i < 64 ∧ 0x1000 + op.code * 1024 + a.val * 64 + i = w := by
  obtain ⟨wf, words⟩ := encode_of_decodeWord decoded
  simp only [KOp.wf, Bool.and_eq_true, decide_eq_true_eq] at wf
  obtain ⟨-, last⟩ := (List.append_singleton_inj (bs := [])).mp words
  exact ⟨wf.1.2, last⟩

/-- What decodes after the EXT words `read` is well formed, and its words are those and the words it takes. -/
theorem encode_of_decodeChain {read ws : List Nat} {k : KOp} {n : Nat} (fields : ∀ e ∈ read, e < 1024) (most : read.length ≤ 3)
    (decoded : decodeChain read ws = some (k, n)) :
    k.wf = true ∧ kiteEncode k = (read.map (fun e => 0x1C00 + e) ++ ws).take n := by
  fun_induction decodeChain read ws
  case case1 | case3 | case4 | case7 | case8 => cases decoded
  case case2 read w rest ext room ih =>
    have grown : ∀ e ∈ read ++ [w % 1024], e < 1024 :=
      List.forall_mem_append.mpr ⟨fields, List.forall_mem_singleton.mpr (Nat.mod_lt _ (by decide))⟩
    obtain ⟨wf, words⟩ := ih grown (by rw [List.length_append, List.length_singleton]; omega) decoded
    refine ⟨wf, words.trans ?_⟩
    rw [List.map_append, List.append_assoc, List.map_singleton, ext_field ext, List.singleton_append]
  case case5 read w rest plain op e a i found narrow =>
    cases decoded
    obtain ⟨small, word⟩ := word_of_decodeWord_imm found
    constructor
    · simp only [KOp.wf, Bool.and_eq_true, Bool.or_eq_true, decide_eq_true_eq, List.all_eq_true, bne_iff_ne]
      exact ⟨⟨⟨most, fields⟩, small⟩, by omega⟩
    · rw [kiteEncode, word, List.take_append, List.take_of_length_le (by rw [List.length_map]; omega), List.length_map,
        Nat.add_sub_cancel_left, List.take_succ_cons, List.take_zero]
  case case6 read w rest plain k' other found empty =>
    cases decoded
    obtain ⟨wf, words⟩ := encode_of_decodeWord found
    obtain rfl := List.isEmpty_iff.mp empty
    exact ⟨wf, words⟩

/-- Settles O51: an instruction's last word decodes by its class and op code, and the words before it are its EXT words. -/
theorem kiteEncodingRoundTrip : Obligations.KiteEncodingRoundTrip :=
  ⟨kiteDecode_encode, fun _ _ _ => encode_of_decodeChain (List.forall_mem_nil _) (Nat.zero_le _)⟩

end Sys2Proof.Machine
end

section
/-! SUPPORT. What one string element of Kite does (R242, R250; Table 9.11). -/

namespace Sys2Proof.Machine
open Sys2Proof

/-- A register moved on by one element. -/
def Regs.advance (x : Regs) (e : Nat) (p : Reg) : Regs := x.put p (x.get p + word e)

section
variable {s : State} {i : Instance} {core e : Nat} {regs : Regs} {r : Reg}

section
variable (src : (regs.get 12).toNat % e = 0) (soundSrc : poisonedAt s i (regs.get 12).toNat = false)
include src soundSrc

theorem strElem_seek_of_read {d : List Byte} (read : dataRead s i (regs.get 12).toNat e = some d) :
    strElem s i core regs .seek e r =
      if unle d = (regs.get r).toNat % 256 ^ e then .stopped (word (unle d)) (word (unle d))
      else .done { s with free := s.free + e } (regs.advance e 12) := by
  simp only [strElem, rAs, src, read, soundSrc, Bool.false_eq_true, if_true, if_false, Regs.advance]

theorem strElem_push_of_taken {d : List Byte} {v : Word} {t : State} (read : dataRead s i (regs.get 12).toNat e = some d)
    (taken : portOut { s with free := s.free + e } i (regs.get r) (word (unle d)) = .done v t) :
    strElem s i core regs .push e r = .done t (regs.advance e 12) := by
  simp only [strElem, rAs, src, read, taken, soundSrc, Option.isNone_some, Bool.false_eq_true, if_true, if_false, Regs.advance]

variable (dst : (regs.get 13).toNat % e = 0) (soundDst : poisonedAt s i (regs.get 13).toNat = false)
include dst soundDst

theorem strElem_copy_of_written {d : List Byte} {t : State} (read : dataRead s i (regs.get 12).toNat e = some d)
    (written : dataWrite { s with free := s.free + e } i (regs.get 13).toNat d = some t) :
    strElem s i core regs .copy e r = .done t ((regs.advance e 12).advance e 13) := by
  simp only [strElem, rAs, rAd, src, dst, read, written, soundSrc, soundDst, Bool.or_self, Bool.false_eq_true, if_true, if_false,
    Regs.advance]

theorem strElem_match_of_read {d f : List Byte} {t : State} (read : dataRead s i (regs.get 12).toNat e = some d)
    (taken : dataTake { s with free := s.free + e } i (regs.get 13).toNat e = some (f, t)) :
    strElem s i core regs .matchOp e r =
      if d = f then .done t (((regs.put r (regs.get r + 1)).advance e 12).advance e 13)
      else .stopped (word (unle d)) (word (unle f)) := by
  simp only [strElem, rAs, rAd, src, dst, read, taken, soundSrc, soundDst, Bool.or_self, Bool.false_eq_true, if_true, if_false,
    Regs.advance]

end

section
variable (dst : (regs.get 13).toNat % e = 0) (soundDst : poisonedAt s i (regs.get 13).toNat = false)
include dst soundDst

theorem strElem_fill_of_written {t : State}
    (written : dataWrite { s with free := s.free + e } i (regs.get 13).toNat (le e (regs.get r).toNat) = some t) :
    strElem s i core regs .fill e r = .done t (regs.advance e 13) := by
  simp only [strElem, rAd, dst, written, soundDst, Bool.or_self, Bool.false_eq_true, if_true, if_false, Regs.advance]

/-- The port is asked only when the destination can be written (R250). -/
theorem strElem_pull_of_written {v : Word} {u t : State} (assigned : (regs.get r).toNat < 4096)
    (allowed : permitted s i (regs.get r).toNat = true)
    (writable : (dataWrite { s with free := s.free + e } i (regs.get 13).toNat (zeros e)).isNone = false)
    (answered : portIn { s with free := s.free + e } i core (regs.get r) e = .done v u)
    (written : dataWrite u i (regs.get 13).toNat (le e v.toNat) = some t)
    (soundRing : ((regs.get r).toNat == 0 && scanPoisoned { s with free := s.free + e } i e) = false) :
    strElem s i core regs .pull e r = .done t (regs.advance e 13) := by
  have allowed' : permitted { s with free := s.free + e } i (regs.get r).toNat = true := allowed
  simp only [strElem, rAd, dst, Nat.not_le.mpr assigned, allowed', writable, answered, written, soundRing, soundDst, ne_eq,
    not_true_eq_false, Bool.not_true, Bool.or_self, Bool.false_eq_true, or_self, if_true, if_false, Regs.advance]

end
end

/-- Settles O29: each clause is the branch of its operation that the clause's conditions select. -/
theorem kiteStringElements : Obligations.KiteStringElements := by
  refine ⟨?_, ?_, ?_, ?_, ?_, ?_, ?_⟩
  · exact fun _ _ _ _ _ _ _ _ src dst read written soundSrc soundDst => strElem_copy_of_written src soundSrc dst soundDst read written
  · exact fun _ _ _ _ _ _ _ _ src dst read taken soundSrc soundDst =>
      (strElem_match_of_read src soundSrc dst soundDst read taken).trans (if_pos rfl)
  · exact fun _ _ _ _ _ _ _ _ _ src dst read taken soundSrc soundDst differ =>
      (strElem_match_of_read src soundSrc dst soundDst read taken).trans (if_neg differ)
  · exact fun _ _ _ _ _ _ _ src read soundSrc => strElem_seek_of_read src soundSrc read
  · exact fun _ _ _ _ _ _ _ _ _ assigned allowed dst writable answered written soundDst soundRing =>
      strElem_pull_of_written dst soundDst assigned allowed writable answered written soundRing
  · exact fun _ _ _ _ _ _ _ _ _ src read taken soundSrc => strElem_push_of_taken src soundSrc read taken
  · exact fun _ _ _ _ _ _ _ dst written soundDst => strElem_fill_of_written dst soundDst written

end Sys2Proof.Machine
end

section
/-! SUPPORT. The results and flags of the Kite arithmetic, the immediates and branch targets, and the cycle count's two halves (R231, R234 to
R238; Tables 9.6 to 9.9). -/

namespace Sys2Proof.Machine
open Sys2Proof

/-! ### Flags (R235) -/

/-- The sign rule for V of an addition with a carry says that the signed sum is not the result's value. -/
theorem signs_overflow_add {a b r : Word} {c : Nat} (carry : c < 2) (sum : r = BitVec.ofNat 32 (a.toNat + b.toNat + c)) :
    (a.msb == b.msb && r.msb != a.msb) = decide (a.toInt + b.toInt + c ≠ r.toInt) := by
  have value : r.toNat = (a.toNat + b.toNat + c) % 2 ^ 32 := by rw [sum, BitVec.toNat_ofNat]
  rw [Bool.eq_iff_iff]
  simp only [Bool.and_eq_true, beq_iff_eq, bne_iff_ne, ne_eq, decide_eq_true_eq, BitVec.msb_eq_decide, BitVec.toInt_eq_toNat_cond,
    decide_eq_decide]
  omega

/-- The sign rule for V of a subtraction with a borrow says that the signed difference is not the result's value. -/
theorem signs_overflow_sub {a b r : Word} {c : Nat} (borrow : c < 2) (difference : r = a - b - BitVec.ofNat 32 c) :
    (a.msb != b.msb && r.msb != a.msb) = decide (a.toInt - b.toInt - c ≠ r.toInt) := by
  have value : r.toNat = (a.toNat + (2 ^ 32 - b.toNat) + (2 ^ 32 - c)) % 2 ^ 32 := by
    rw [difference]
    simp only [BitVec.toNat_sub, BitVec.toNat_ofNat]
    omega
  rw [Bool.eq_iff_iff]
  simp only [Bool.and_eq_true, bne_iff_ne, ne_eq, decide_eq_true_eq, BitVec.msb_eq_decide, BitVec.toInt_eq_toNat_cond, decide_eq_decide]
  omega

theorem addFlags_eq (f : Flags) (a b : Word) (cin : Bool) {r : Word} (sum : r = BitVec.ofNat 32 (a.toNat + b.toNat + b2n cin)) :
    addFlags f a b cin = (r, { f with
      z := r == 0, n := r.msb, c := decide (2 ^ 32 ≤ a.toNat + b.toNat + b2n cin),
      v := decide (a.toInt + b.toInt + b2n cin ≠ r.toInt) }) := by
  simp only [addFlags, Flags.zn, ← sum, signs_overflow_add (b2n_lt_two cin) sum]

theorem subFlags_eq (f : Flags) (a b : Word) (bin : Bool) {r : Word} (difference : r = a - b - BitVec.ofNat 32 (b2n bin)) :
    subFlags f a b bin = (r, { f with
      z := r == 0, n := r.msb, c := decide (b.toNat + b2n bin ≤ a.toNat), v := decide (a.toInt - b.toInt - b2n bin ≠ r.toInt) }) := by
  simp only [subFlags, Flags.zn, ← difference, signs_overflow_sub (b2n_lt_two bin) difference]

theorem addFlags_false (f : Flags) (a b : Word) :
    addFlags f a b false = (a + b, { f with
      z := (a + b) == 0, n := (a + b).msb, c := decide (2 ^ 32 ≤ a.toNat + b.toNat),
      v := decide (a.toInt + b.toInt ≠ (a + b).toInt) }) := by
  have sum : a + b = BitVec.ofNat 32 (a.toNat + b.toNat + b2n false) :=
    BitVec.eq_of_toNat_eq (by simp only [b2n, BitVec.toNat_add, BitVec.toNat_ofNat, Bool.false_eq_true, if_false, Nat.add_zero])
  rw [addFlags_eq f a b false sum]
  simp only [b2n, Bool.false_eq_true, if_false, Nat.add_zero, Int.ofNat_zero, Int.add_zero]

theorem subFlags_false (f : Flags) (a b : Word) :
    subFlags f a b false = (a - b, { f with
      z := (a - b) == 0, n := (a - b).msb, c := decide (b.toNat ≤ a.toNat), v := decide (a.toInt - b.toInt ≠ (a - b).toInt) }) := by
  rw [subFlags_eq f a b false (BitVec.sub_zero (a - b)).symm]
  simp only [b2n, Bool.false_eq_true, if_false, Nat.add_zero, Int.ofNat_zero, Int.sub_zero]

/-! ### Class 0b00 (R236, Table 9.7) -/

theorem runAlu_of_result {s : State} {i : Instance} {op : AluOp} {a b : Reg} {w : Word} {fl : Flags}
    (result : alu op i.regs.fl (i.regs.get a) (i.regs.get b) = (some w, fl)) :
    runAlu s i op a b = .ends { s, regs := ({ i.regs with fl } : Regs).put a w, cost := op.cycles } := by
  simp only [runAlu, result]

theorem runAlu_of_flags {s : State} {i : Instance} {op : AluOp} {a b : Reg} {fl : Flags}
    (result : alu op i.regs.fl (i.regs.get a) (i.regs.get b) = (none, fl)) :
    runAlu s i op a b = .ends { s, regs := { i.regs with fl }, cost := op.cycles } := by
  simp only [runAlu, result]

/-- An instruction outside a block that takes no transfer leads to the next word (R247). -/
theorem kiteDone_of_next {i : Instance} {core : Nat} {e : KEnd} (n : Nat) (running : (coreAt e.s core).state = 2)
    (unwaited : e.waits = 0) (stays : e.jump = none) (outside : e.regs.active = false) :
    kiteDone core i n (.ends e) = modInst { e.s with free := e.s.free + 2 } i.run i.num (fun x => { x with regs := { e.regs with
      pc := (e.regs.pc + n) % 16384, cycles := (e.regs.cycles + e.cost) % 2 ^ 64 } }) := by
  have unstalled : (coreAt e.s core).state ≠ 4 := by rw [running]; decide
  have onward : afterInstr e.regs n none = { e.regs with pc := (e.regs.pc + n) % 16384 } := by
    simp only [afterInstr, outside, Bool.false_and, Bool.false_eq_true, if_false]
  simp only [kiteDone, beq_eq_false_iff_ne.mpr unstalled, unwaited, stays, cyclesOf_unwaited, onward]
  exact if_neg unstalled

/-- Settles O24: ADD, SUB, ADC, SBC and CMP state V by signed values, which their sign rules decide; every other clause is the text of its
operation. -/
theorem kiteArithmetic : Obligations.KiteArithmetic := by
  refine ⟨?_, ?_, ?_, ?_, ?_, ?_, ?_, ?_, ?_, ?_, ?_, ?_, ?_, ?_, ?_, ?_, ?_⟩
  · exact fun _ _ _ _ _ _ runs => kiteOp_of_executes runs (runAlu_of_result (op := .add) (by rw [alu, addFlags_false]))
  · exact fun _ _ _ _ _ _ runs => kiteOp_of_executes runs (runAlu_of_result (op := .sub) (by rw [alu, subFlags_false]))
  · exact fun _ _ _ _ _ _ runs => kiteOp_of_executes runs (runAlu_of_result (op := .adc) (by rw [alu, addFlags_eq _ _ _ _ rfl]))
  · exact fun _ _ _ _ _ _ runs => kiteOp_of_executes runs (runAlu_of_result (op := .sbc) (by rw [alu, subFlags_eq _ _ _ _ rfl]))
  · exact fun _ _ _ _ _ _ runs => kiteOp_of_executes runs (runAlu_of_result (op := .and) rfl)
  · exact fun _ _ _ _ _ _ runs => kiteOp_of_executes runs (runAlu_of_result (op := .or) rfl)
  · exact fun _ _ _ _ _ _ runs => kiteOp_of_executes runs (runAlu_of_result (op := .xor) rfl)
  · exact fun _ _ _ _ _ _ runs => kiteOp_of_executes runs (runAlu_of_result (op := .mov) rfl)
  · exact fun _ _ _ _ _ _ runs => kiteOp_of_executes runs (runAlu_of_flags (op := .cmp) (by rw [alu, subFlags_false]))
  · exact fun _ _ _ _ _ _ runs => kiteOp_of_executes runs (runAlu_of_flags (op := .tst) rfl)
  · exact fun _ _ _ _ _ _ runs => kiteOp_of_executes runs (runAlu_of_result (op := .shl) rfl)
  · exact fun _ _ _ _ _ _ runs => kiteOp_of_executes runs (runAlu_of_result (op := .shr) rfl)
  · exact fun _ _ _ _ _ _ runs => kiteOp_of_executes runs (runAlu_of_result (op := .sar) rfl)
  · exact fun _ _ _ _ _ _ runs => kiteOp_of_executes runs (runAlu_of_result (op := .rol) rfl)
  · exact fun _ _ _ _ _ _ runs => kiteOp_of_executes runs (runAlu_of_result (op := .mul) rfl)
  · exact fun _ _ _ _ _ _ runs => kiteOp_of_executes runs (runAlu_of_result (op := .mulh) rfl)
  · exact fun _ _ n _ => kiteDone_of_next n

/-! ### Class 0b01 (R237, Table 9.8) -/

theorem runImm_of_result {s : State} {i : Instance} {op : ImmOp} {exts : List Nat} {a : Reg} {imm : Nat} {w : Word} {fl : Flags}
    (result : immOp op i.regs.fl (i.regs.get a) (kiteImm exts imm) = (some w, fl)) :
    runImm s i op exts a imm = .ends { s, regs := ({ i.regs with fl } : Regs).put a w, cost := 1 + exts.length } := by
  simp only [runImm, result]

theorem runImm_of_flags {s : State} {i : Instance} {op : ImmOp} {exts : List Nat} {a : Reg} {imm : Nat} {fl : Flags}
    (result : immOp op i.regs.fl (i.regs.get a) (kiteImm exts imm) = (none, fl)) :
    runImm s i op exts a imm = .ends { s, regs := { i.regs with fl }, cost := 1 + exts.length } := by
  simp only [runImm, result]

/-! ### Immediates (R234, Table 9.6) -/

/-- A field of `w` bits, sign-extended to 32: its top bit adds the bits above it. -/
theorem ofNat_signExtend_word {w v : Nat} (positive : 0 < w) (narrow : w ≤ 32) (field : v < 2 ^ w) :
    (if bit v (w - 1) then BitVec.ofNat 32 (v + 2 ^ 32 - 2 ^ w) else BitVec.ofNat 32 v) = (BitVec.ofNat w v).signExtend 32 := by
  have top : (BitVec.ofNat w v).msb = bit v (w - 1) := by
    rw [BitVec.msb_eq_getLsbD_last, BitVec.getLsbD_ofNat, decide_eq_true (by omega), Bool.true_and, Nat.testBit_eq_decide_div_mod_eq]
    rfl
  have range : 2 ^ w ≤ 2 ^ 32 := Nat.pow_le_pow_right (by decide) narrow
  apply BitVec.eq_of_toNat_eq
  rw [BitVec.toNat_signExtend, top, BitVec.toNat_setWidth, BitVec.toNat_ofNat, Nat.mod_eq_of_lt field]
  split
  · rw [BitVec.toNat_ofNat, Nat.mod_eq_of_lt (by omega), Nat.mod_eq_of_lt (by omega)]
    omega
  · rw [BitVec.toNat_ofNat, Nat.add_zero]

/-- Fewer than three EXT words and imm6, the first EXT highest, are one signed field of `w` bits. -/
theorem kiteImm_of_bits {exts : List Nat} {imm v w : Nat} (width : 6 + 10 * exts.length = w) (narrow : w < 32)
    (field : exts.foldl (fun a e => a * 1024 + e % 1024) 0 * 64 + imm % 64 = v) (range : v < 2 ^ w) :
    kiteImm exts imm = (BitVec.ofNat w v).signExtend 32 := by
  rw [← ofNat_signExtend_word (by omega) (Nat.le_of_lt narrow) range]
  simp only [kiteImm, width, field, Nat.not_le.mpr narrow, if_false]

/-- Settles O25: up to two EXT words leave a signed field shorter than 32 bits, and with three the 32 bits stand as they are. -/
theorem kiteImmediates : Obligations.KiteImmediates := by
  refine ⟨?_, ?_, ?_, ?_, ?_, ?_, ?_⟩
  · exact fun _ _ _ _ _ _ _ runs => kiteOp_of_executes runs (runImm_of_result (op := .addi) (by rw [immOp, addFlags_false]))
  · exact fun _ _ _ _ _ _ _ runs => kiteOp_of_executes runs (runImm_of_flags (op := .cmpi) (by rw [immOp, subFlags_false]))
  · exact fun _ _ _ _ _ _ _ runs => kiteOp_of_executes runs (runImm_of_result (op := .movi) rfl)
  · intro m small
    exact kiteImm_of_bits (w := 6) rfl (by decide) (by simp only [List.foldl_nil]; omega) small
  · intro e m _ _
    exact kiteImm_of_bits (w := 16) rfl (by decide) (by simp only [List.foldl_cons, List.foldl_nil]; omega) (by omega)
  · intro e f m _ _ _
    exact kiteImm_of_bits (w := 26) rfl (by decide) (by simp only [List.foldl_cons, List.foldl_nil]; omega) (by omega)
  · intro e f g m _ _ _ _
    have field : (((0 * 1024 + e % 1024) * 1024 + f % 1024) * 1024 + g % 1024) * 64 + m % 64 =
        67108864 * e + 65536 * f + 64 * g + m := by omega
    exact congrArg (BitVec.ofNat 32) field

/-! ### Branch targets (R227, R238) -/

theorem toInt_of_byte {off : Nat} (byte : off < 256) : (BitVec.ofNat 8 off).toInt = if off < 128 then (off : Int) else off - 256 := by
  rw [BitVec.toInt_eq_toNat_cond, BitVec.toNat_ofNat, Nat.mod_eq_of_lt byte]
  split <;> split <;> omega

theorem branchTarget_eq {off : Nat} (pc : Nat) (byte : off < 256) :
    branchTarget pc off = (((pc : Int) + 1 + (BitVec.ofNat 8 off).toInt) % 16384).toNat := by
  rw [branchTarget, toInt_of_byte byte]
  split <;> omega

/-- What a core executes has been decoded, so its fields are those an encoding admits. -/
theorem wf_of_executes {s : State} {core : CoreId} {i : Instance} {k : KOp} {n : Nat} (runs : Executes s core i k n) : k.wf = true := by
  obtain ⟨-, fetched⟩ := runs
  revert fetched
  fun_cases kiteFetch s core.val i <;> intro fetched <;> cases fetched
  case case3 decoded => exact (kiteEncodingRoundTrip.2 _ _ _ decoded).1

/-- How a branch that is taken ends. -/
def branchTaken (s : State) (i : Instance) (off : Nat) : KEnd :=
  { s, regs := i.regs, jump := some (((i.regs.pc : Int) + 1 + (BitVec.ofNat 8 off).toInt) % 16384).toNat, cost := 2 }

/-- A branch's offset, as it has been decoded, is 8 bits. -/
theorem kiteOp_br_of_executes {s : State} {core : CoreId} {i : Instance} {c : Cond} {n off : Nat} {p : Prop} [Decidable p]
    (runs : Executes s core i (.br c off) n) (condition : c.holds i.regs.fl = true ↔ p) :
    kiteOp core (.br c off) s (fun i => runBranch s i c off) =
      .next (kiteDone core.val i n (.ends (if p then branchTaken s i off else { s, regs := i.regs, cost := 1 }))) := by
  have byte : off < 256 := of_decide_eq_true (wf_of_executes runs)
  apply kiteOp_of_executes runs
  simp only [runBranch, branchTarget_eq i.regs.pc byte, condition]
  split <;> rfl

/-- Settles O26: the offset is read as signed because a decoded one has 8 bits; each condition is its row of Table 9.9. -/
theorem kiteBranches : Obligations.KiteBranches := by
  refine ⟨?_, ?_, ?_, ?_, ?_, ?_, ?_, ?_, ?_, ?_, ?_, ?_, ?_, ?_, ?_, ?_⟩
  · exact fun _ _ _ _ _ runs => kiteOp_br_of_executes runs .rfl
  · exact fun _ _ _ _ _ runs => kiteOp_br_of_executes runs (by simp only [Cond.holds, Bool.not_eq_true'])
  · exact fun _ _ _ _ _ runs => kiteOp_br_of_executes runs .rfl
  · exact fun _ _ _ _ _ runs => kiteOp_br_of_executes runs (by simp only [Cond.holds, Bool.not_eq_true'])
  · exact fun _ _ _ _ _ runs => kiteOp_br_of_executes runs .rfl
  · exact fun _ _ _ _ _ runs => kiteOp_br_of_executes runs (by simp only [Cond.holds, Bool.not_eq_true'])
  · exact fun _ _ _ _ _ runs => kiteOp_br_of_executes runs .rfl
  · exact fun _ _ _ _ _ runs => kiteOp_br_of_executes runs (by simp only [Cond.holds, Bool.not_eq_true'])
  · exact fun _ _ _ _ _ runs => kiteOp_br_of_executes runs (by simp only [Cond.holds, Bool.and_eq_true, Bool.not_eq_true'])
  · exact fun _ _ _ _ _ runs => kiteOp_br_of_executes runs (by simp only [Cond.holds, Bool.or_eq_true, Bool.not_eq_true'])
  · exact fun _ _ _ _ _ runs => kiteOp_br_of_executes runs (by simp only [Cond.holds, beq_iff_eq])
  · exact fun _ _ _ _ _ runs => kiteOp_br_of_executes runs (by simp only [Cond.holds, bne_iff_ne])
  · exact fun _ _ _ _ _ runs => kiteOp_br_of_executes runs (by simp only [Cond.holds, Bool.and_eq_true, Bool.not_eq_true', beq_iff_eq])
  · exact fun _ _ _ _ _ runs => kiteOp_br_of_executes runs (by simp only [Cond.holds, Bool.or_eq_true, bne_iff_ne])
  · exact fun _ _ _ _ _ runs => (kiteOp_br_of_executes runs (p := True) (iff_true_intro rfl)).trans (by rw [if_pos trivial]; rfl)
  · exact fun _ _ _ _ _ runs => kiteOp_br_of_executes runs .rfl

/-! ### The cycle count (R231) -/

theorem lmod_getD_self {α : Type} {l : List α} {n : Nat} (inside : n < l.length) (f : α → α) (d : α) :
    (lmod l n f).getD n d = f (l.getD n d) := by
  induction l generalizing n with
  | nil => cases inside
  | cons x xs ih =>
    cases n with
    | zero => rfl
    | succ n => exact ih (Nat.lt_of_succ_lt_succ inside)

theorem Regs.get_put_self {r : Regs} (a : Reg) (w : Word) (sixteen : r.g.length = 16) : (r.put a w).get a = w :=
  lmod_getD_self (by omega) _ _

/-- Settles O56: the read of cyl holds the count's high half, and cyh is read from what is held. -/
theorem kiteCycleCount : Obligations.KiteCycleCount :=
  fun _ _ _ a _ _ sixteen => ⟨_, rfl, Regs.get_put_self a _ sixteen, rfl⟩

end Sys2Proof.Machine
end

section
/-! SUPPORT. Program loads and unloads, and a scan run from its parameter block to its end (R260 to R268, R273 to R275). Log entry 64 says
which path carries a parameter block, log entry 60 how the SCAN_STOP of an ended run replies. -/

namespace Sys2Proof.Machine
open Sys2Proof

/-! ### Programs (R260 to R262) -/

theorem programLoad_of_sound {s : State} {tag : Nat} {o : Op} {host : HostRead} {b : List Byte} (accepted : opFor s tag 0x0601 = some o)
    (first : earlierOp s o.seq (fun q => q.opc == 0x0601) = false) (image : input s o host o.pkt.dlen = some (.data b))
    (sound : imageFault b o.pkt.dlen = none) :
    exec (.programLoad tag host) s = .next (finish (upKite (extendMs s 4 (sha384 b)) (fun k => { k with
      programs := mset k.programs o.pkt.p0 (imageProgram k.nextLoad b), nextLoad := k.nextLoad + 1 })) tag (ok 0 0)) := by
  change execProgramLoad tag host s = _
  simp only [execProgramLoad, accepted, first, image, sound]
  rfl

theorem programLoad_of_faulty {s : State} {tag : Nat} {o : Op} {host : HostRead} {b : List Byte} {r : Reply}
    (accepted : opFor s tag 0x0601 = some o) (first : earlierOp s o.seq (fun q => q.opc == 0x0601) = false)
    (image : input s o host o.pkt.dlen = some (.data b)) (faulty : imageFault b o.pkt.dlen = some r) :
    exec (.programLoad tag host) s = .next (finish s tag r) := by
  change execProgramLoad tag host s = _
  simp only [execProgramLoad, accepted, first, image, faulty]
  rfl

theorem programUnload_of_unused {s : State} {tag : Nat} {o : Op} (accepted : opFor s tag 0x0602 = some o)
    (unused : earlierOp s o.seq (fun q => q.opc == 0x0603 && q.p1 == o.pkt.p0) = false) :
    exec (.programUnload tag) s = .next (finish (upKite s (fun k => { k with programs := mdel k.programs o.pkt.p0 })) tag (ok 0 0)) := by
  change execProgramUnload tag s = _
  simp only [execProgramUnload, accepted, unused]
  rfl

/-! ### The start of a run (R264, R265, R268) -/

theorem scanRun_of_params {s : State} {tag : Nat} {o : Op} {b : List Byte} (found : findOp s tag = some o) (scans : o.pkt.opc = 0x0603)
    (up : awake s 0x0603 = true) (ready : o.stage = .ready) (listless : o.aux ≠ 1) (carried : entryUp s = true)
    (whole : o.pkt.p5 = b.length) (nonempty : b ≠ []) :
    exec (.scanRun tag (.data b)) s = .next (beginRun (issue s (.rdShared (o.pkt.p3 + 2 ^ 32 * o.pkt.p4))) o b) := by
  have bytes : b.length ≠ 0 := mt List.length_eq_zero_iff.1 nonempty
  change execScanRun tag (.data b) s = _
  simp [execScanRun, found, scans, up, ready, listless, carried, whole, bytes]

/-- A start adds the run's instances to the instances and to the ready queue, and marks the run as started (R264 step 5). -/
theorem startInsts_of_placed {s : State} {tag : Nat} {r : Run} {g : Program} (found : findRun s tag = some r)
    (waits : r.started = false) (placed : r.unplaced = []) (undecided : r.ending = none)
    (loaded : mget s.kite.programs r.slot = some g) :
    startInsts s tag = modRun (upKite s (fun k => { k with
      insts := k.insts ++ (List.range r.m).map (newInst r g),
      readyQ := k.readyQ ++ (List.range r.m).map (fun j => (tag, j)) })) tag (fun q => { q with started := true }) := by
  simp only [startInsts, found, waits, placed, undecided, loaded]
  rfl

theorem scanAreaPlace_of_undecided {s : State} {tag : Nat} {r : Run} (found : findRun s tag = some r) (undecided : r.ending = none) :
    exec (.scanAreaPlace tag) s = .next (startInsts (placeAreas s r) tag) := by
  change execScanAreaPlace tag s = _
  simp only [execScanAreaPlace, found, undecided]
  rfl

/-! ### The end of a run (R273 to R275) -/

theorem scanStop_of_opFor {s : State} {tag : Nat} {o : Op} (accepted : opFor s tag 0x0604 = some o) :
    exec (.scanStop tag) s = .next (if runDecided s o.pkt.p0 then finish s tag { status := stTooLate }
      else finish (stopRun s o.pkt.p0 { status := stAborted }) tag (ok 0 0)) := by
  change execScanStop tag s = _
  simp only [execScanStop, accepted, apply_ite Host.Outcome.next]

theorem scanQuery_of_opFor {s : State} {tag : Nat} {o : Op} (accepted : opFor s tag 0x0605 = some o) :
    exec (.scanQuery tag) s = .next (finish s tag (ok
      (((s.kite.insts.filter (fun i => i.run == o.pkt.p0)).map (fun i => i.lane.passed)).sum % 2 ^ 64) (liveInsts s o.pkt.p0))) := by
  change execScanQuery tag s = _
  simp only [execScanQuery, accepted]

theorem scanRunEnd_of_ended {s : State} {tag : Nat} {r : Run} (found : findRun s tag = some r) (started : r.started = true)
    (ended : (s.kite.insts.filter (fun i => i.run == tag)).any (fun i => i.state != .ended || i.ports.busy) = false) :
    exec (.scanRunEnd tag) s = .next (complete ((List.range 8).foldl settleRing (upKite s (fun k => { k with
      runs := k.runs.filter (fun q => q.tag != tag), insts := k.insts.filter (fun i => i.run != tag),
      clusters := k.clusters.map (fun c => { c with areas := c.areas.filter (fun a => a.run != tag) }) }))) tag (runReply r)) := by
  change execScanRunEnd tag s = _
  simp only [execScanRunEnd, found, started, ended]
  rfl

/-- Settles O13: each clause is the branch of its command that the clause's conditions select. -/
theorem programCommandsComplete : Obligations.ProgramCommandsComplete := by
  refine ⟨?_, ?_, ?_, ?_, ?_, ?_, ?_, ?_, ?_, ?_⟩
  · exact fun _ _ _ _ _ accepted first image sound => ⟨_, programLoad_of_sound accepted first image sound, rfl⟩
  · exact fun _ _ _ _ _ _ => programLoad_of_faulty
  · exact fun _ _ _ => programUnload_of_unused
  · exact fun _ _ _ _ => scanRun_of_params
  · intro s tag r g found waits placed undecided loaded
    exact ⟨_, startInsts_of_placed found waits placed undecided loaded, rfl, rfl, fun _ => ⟨rfl, rfl, rfl⟩,
      (upKite_fr s _).trans (upKite_fr _ _)⟩
  · exact fun _ _ _ => scanAreaPlace_of_undecided
  · exact fun _ _ _ accepted undecided => (scanStop_of_opFor accepted).trans (by rw [undecided]; rfl)
  · exact fun _ _ _ accepted decided => (scanStop_of_opFor accepted).trans (by rw [decided]; rfl)
  · exact fun _ _ _ => scanQuery_of_opFor
  · exact fun _ _ _ found started ended => ⟨_, scanRunEnd_of_ended found started ended, rfl⟩

end Sys2Proof.Machine
end

section
/-! SUPPORT. Waymark searches and loads, and the sweep's steps (R280 to R288, R291). Log entries 26 and 55 give the readings of the repairs
and of what the line code finds. -/

namespace Sys2Proof.Machine
open Sys2Proof

/-! ### Searches (R280, R285) -/

theorem waymarkSearch_of_ready {s : State} {tag : Nat} {o : Op} {host : HostRead} {check : WayCheck} {b : List Byte} {r : List Byte × State}
    (accepted : opFor s tag 0x0506 = some o) (enabled : (wTable s o.pkt.p1).en = true) (ready : (wTable s o.pkt.p1).ready = true)
    (up : addrUp s o = true) (keys : input s o host o.pkt.dlen = some (.data b))
    (answers : searchAll (searchDamage s check) (wTable s o.pkt.p1) b (b.length / (8 * wUnits (wTable s o.pkt.p1).width)) = r) :
    exec (.waymarkSearch tag host check) s = .next (complete (deliverAddr (flipDest r.2 o r.1.length) o r.1) tag (ok 0 0)) := by
  change execWaymarkSearch tag host check s = _
  simp only [execWaymarkSearch, accepted, enabled, ready, up, keys, answers]
  rfl

theorem waymarkSearchQueue_of_ready {s : State} {table : Nat} {check : WayCheck} {q : WSearch} (up : inReset s islWay = false)
    (found : s.way.queue.find? (fun q => q.table == table) = some q) (enabled : (wTable s table).en = true)
    (ready : (wTable s table).ready = true) :
    exec (.waymarkSearchQueue table check) s = .next (serveSearch (searchDamage s check) q) := by
  change execWaymarkSearchQueue table check s = _
  simp only [execWaymarkSearchQueue, up, found, enabled, ready]
  rfl

/-! ### Loads and reads (R282 to R284, R286) -/

section
variable {s : State} {tag : Nat} {o : Op} {host : HostRead} {b : List Byte} (accepted : opFor s tag 0x0505 = some o)
  (healthy : s.sec.errorState = false) (first : earlierOp s o.seq (fun q => q.opc == 0x0505) = false)
  (enabled : (wTable s o.pkt.p0).en = true) (ready : (wTable s o.pkt.p0).ready = true)
  (records : input s o host o.pkt.dlen = some (.data b))
include accepted healthy first enabled ready records

theorem waymarkLoad_of_sound {u : State} (loaded : loadRecords s (wTable s o.pkt.p0) o.pkt.p1 0 b
    (o.pkt.dlen / recBytes (wTable s o.pkt.p0).width) = (none, u)) :
    exec (.waymarkLoad tag host) s = .next
      (complete (extendMs u 3 (sha384 (le 1 o.pkt.p0 ++ le 1 (wTable s o.pkt.p0).width ++ le 1 (wTable s o.pkt.p0).copies ++ le 1 0 ++ le
      2 o.pkt.p1 ++ le 2 (o.pkt.dlen / recBytes (wTable s o.pkt.p0).width) ++ b))) tag (ok 0 0)) := by
  change execWaymarkLoad tag host s = _
  simp only [execWaymarkLoad, accepted, healthy, first, enabled, ready, records, loaded]
  rfl

theorem waymarkLoad_of_reserved {u : State} {i : Nat} (loaded : loadRecords s (wTable s o.pkt.p0) o.pkt.p1 0 b
    (o.pkt.dlen / recBytes (wTable s o.pkt.p0).width) = (some i, u)) :
    exec (.waymarkLoad tag host) s = .next (finish u tag { status := stInvalidField, detail := 0x18, r0 := i }) := by
  change execWaymarkLoad tag host s = _
  simp only [execWaymarkLoad, accepted, healthy, first, enabled, ready, records, loaded]
  rfl

end

theorem waymarkRead_of_fitting {s : State} {tag : Nat} {o : Op} {check : WayCheck} {b : List Byte} (accepted : opFor s tag 0x0507 = some o)
    (enabled : (wTable s o.pkt.p1).en = true) (ready : (wTable s o.pkt.p1).ready = true) (up : addrUp s o = true)
    (fits : o.pkt.p3 * recBytes (wTable s o.pkt.p1).width ≤ o.pkt.p0)
    (entries : (span o.pkt.p2 o.pkt.p3).flatMap (entryRecord (wayDamage s check) (wTable s o.pkt.p1)) = b) :
    exec (.waymarkRead tag check) s = .next (complete (deliverAddr (flipDest (wayDamage s check) o b.length) o b) tag (ok 0 0)) := by
  change execWaymarkRead tag check s = _
  simp only [execWaymarkRead, accepted, enabled, ready, up, Nat.not_lt.2 fits, entries]
  rfl

theorem waymarkRead_of_short {s : State} {tag : Nat} {o : Op} {check : WayCheck} (accepted : opFor s tag 0x0507 = some o)
    (enabled : (wTable s o.pkt.p1).en = true) (ready : (wTable s o.pkt.p1).ready = true) (up : addrUp s o = true)
    (short : o.pkt.p0 < o.pkt.p3 * recBytes (wTable s o.pkt.p1).width) :
    exec (.waymarkRead tag check) s = .next (finish (spoil (flipDest s o o.pkt.p0) o) tag {
        status := stLengthLong, detail := 2, r0 := o.pkt.p3 * recBytes (wTable s o.pkt.p1).width, r1 := o.pkt.p0 }) := by
  change execWaymarkRead tag check s = _
  simp only [execWaymarkRead, accepted, enabled, ready, up, short]
  rfl

/-! ### Readiness and the sweep (R288, R291) -/

theorem tableReady_of_clearing {s : State} {table : Nat} (up : inReset s islWay = false) (enabled : (wTable s table).en = true)
    (clearing : (wTable s table).clearing = true) :
    exec (.tableReady table) s = .next
      (upWay s (fun w => { w with tables := lmod w.tables table (fun t => { t with ready := true, clearing := false }) })) := by
  change execTableReady table s = _
  simp only [execTableReady, up, enabled, clearing]
  rfl

/-- A step that finds no line damaged repairs its unit where it differs from its shadow, and moves on. -/
theorem sweepStep_of_undamaged {s : State} (up : inReset s islWay = false) (inside : s.way.sweepAt ≠ 65535) :
    exec (.sweepStep false [] false false) s = .next (upWay (if unitAgrees s s.way.sweepAt then s else sweepRepair s s.way.sweepAt)
      (fun w => { w with sweepAt := (s.way.sweepAt + 1) % 65536 })) := by
  change execSweepStep false [] false false s = _
  simp only [execSweepStep, up, inside, List.foldl_nil, Bool.false_eq_true, if_false]
  rfl

/-- Settles O12: each clause is the branch of its command that the clause's conditions select; the sweep's two clauses are one step,
with and without its repair. -/
theorem waymarkCommandsComplete : Obligations.WaymarkCommandsComplete := by
  refine ⟨?_, ?_, ?_, ?_, ?_, ?_, ?_, ?_, ?_⟩
  · exact fun _ _ _ _ _ _ accepted enabled ready up keys => ⟨_, waymarkSearch_of_ready accepted enabled ready up keys rfl, rfl⟩
  · exact fun _ _ _ _ => waymarkSearchQueue_of_ready
  · exact fun _ _ _ _ _ _ accepted healthy first enabled ready records loaded => waymarkLoad_of_sound accepted healthy first enabled ready
      records loaded
  · exact fun _ _ _ _ _ _ _ accepted healthy first enabled ready records loaded => waymarkLoad_of_reserved accepted healthy first enabled
      ready records loaded
  · exact fun _ _ _ _ accepted enabled ready up fits => ⟨_, waymarkRead_of_fitting accepted enabled ready up fits rfl, rfl⟩
  · exact fun _ _ _ _ => waymarkRead_of_short
  · exact fun _ _ => tableReady_of_clearing
  · exact fun _ up agrees inside => (sweepStep_of_undamaged up inside).trans (by rw [agrees]; rfl)
  · exact fun _ up differs inside => ⟨_, (sweepStep_of_undamaged up inside).trans (by rw [differs]; rfl), rfl⟩

end Sys2Proof.Machine
end

section
/-! SUPPORT. The registers of a cluster (R225, Table 8.14) and of a Waymark table (R291), the digest idle time (R313), and writes to BAR0
at large (R34). Log entry 48 gives the readings of refused fields and of writes that do not arrive. -/

namespace Sys2Proof.Machine
open Sys2Proof

theorem onBar_of_barDown {s : State} (f : State → State) (down : barUp s = false) : onBar s f = .next s := by
  simp only [onBar, down, Bool.false_eq_true, if_false]

/-! ### Clusters (R225) -/

theorem clusterAt_of_getElem? {s : State} {n : Nat} {c : Cluster} (there : s.kite.clusters[n]? = some c) : clusterAt s n = c := by
  rw [clusterAt, List.getD_eq_getElem?_getD, there, Option.getD_some]

theorem clusterAt_modCluster_self {s : State} {n : Nat} (inside : n < s.kite.clusters.length) (f : Cluster → Cluster) :
    clusterAt (modCluster s n f) n = f (clusterAt s n) :=
  lmod_getD_self inside f Cluster.reset

/-- What makes a cluster busy is its areas, its test and what its cores run. -/
theorem clusterBusy_modCluster {s : State} {n : Nat} {f : Cluster → Cluster} (inside : n < s.kite.clusters.length)
    (areas : (f (clusterAt s n)).areas = (clusterAt s n).areas) (test : (f (clusterAt s n)).test = (clusterAt s n).test) :
    clusterBusy (modCluster s n f) n = clusterBusy s n := by
  rw [clusterBusy, clusterAt_modCluster_self inside, areas, test]
  rfl

theorem settleRing_of_idle {s : State} {n : Nat} (idle : clusterBusy s n = false) :
    settleRing s n = modCluster s n (fun c => { c with ringNow := c.ringCfg }) := by
  simp only [settleRing, idle, Bool.false_eq_true, if_false]

/-- A ring size comes into force, or waits for the cluster to be idle; a cluster's other fields stay (R225). -/
theorem clusterAt_settleRing {s : State} {n : Nat} (inside : n < s.kite.clusters.length) :
    ∃ ring, clusterAt (settleRing s n) n = { clusterAt s n with ringNow := ring } := by
  unfold settleRing
  split
  · exact ⟨_, rfl⟩
  · exact ⟨_, clusterAt_modCluster_self inside _⟩

/-- What a write to KCL_CFG takes of a cluster's configuration (R225, Table 8.14). -/
def kclTaken (v : Nat) (c : Cluster) : Cluster := { c with
  ringCfg := if bits v 1 0 = 3 then c.ringCfg else bits v 1 0, quantum := if bits v 15 8 = 0 then c.quantum else bits v 15 8,
  preempt := bit v 16, cfgReject := c.cfgReject || bits v 1 0 == 3 || bits v 15 8 == 0 }

theorem writeKcl_eq (s : State) (n v : Nat) : writeKcl s n v = settleRing (modCluster s n (kclTaken v)) n := rfl

theorem kclTaken_of_valid {v : Nat} (c : Cluster) (ring : bits v 1 0 ≠ 3) (quantum : bits v 15 8 ≠ 0) :
    kclTaken v c = { c with ringCfg := bits v 1 0, quantum := bits v 15 8, preempt := bit v 16 } := by
  simp only [kclTaken, ring, quantum, beq_eq_false_iff_ne.2 ring, beq_eq_false_iff_ne.2 quantum, Bool.or_false, if_false]

theorem kclTaken_of_ring3 {v : Nat} (c : Cluster) (ring : bits v 1 0 = 3) :
    (kclTaken v c).cfgReject = true ∧ (kclTaken v c).ringCfg = c.ringCfg := by
  simp [kclTaken, ring]

theorem length_lmod {α : Type} (l : List α) (n : Nat) (f : α → α) : (lmod l n f).length = l.length := by
  induction l generalizing n with
  | nil => rfl
  | cons x xs ih =>
    cases n with
    | zero => rfl
    | succ n => exact congrArg Nat.succ (ih n)

theorem length_modCluster (s : State) (n : Nat) (f : Cluster → Cluster) :
    (modCluster s n f).kite.clusters.length = s.kite.clusters.length :=
  length_lmod s.kite.clusters n f

theorem clusterAt_writeKcl_of_idle {s : State} {n v : Nat} {c : Cluster} (there : s.kite.clusters[n]? = some c)
    (idle : clusterBusy s n = false) (ring : bits v 1 0 ≠ 3) (quantum : bits v 15 8 ≠ 0) :
    clusterAt (writeKcl s n v) n =
      { c with ringCfg := bits v 1 0, ringNow := bits v 1 0, quantum := bits v 15 8, preempt := bit v 16 } := by
  have inside : n < s.kite.clusters.length := (List.getElem?_eq_some_iff.1 there).1
  have still : clusterBusy (modCluster s n (kclTaken v)) n = false := (clusterBusy_modCluster inside rfl rfl).trans idle
  rw [writeKcl_eq, settleRing_of_idle still, clusterAt_modCluster_self (by rwa [length_modCluster]), clusterAt_modCluster_self inside,
    clusterAt_of_getElem? there, kclTaken_of_valid c ring quantum]

theorem clusterAt_writeKcl_of_ring3 {s : State} {n v : Nat} {c : Cluster} (there : s.kite.clusters[n]? = some c) (ring : bits v 1 0 = 3) :
    (clusterAt (writeKcl s n v) n).cfgReject = true ∧ (clusterAt (writeKcl s n v) n).ringCfg = c.ringCfg := by
  have inside : n < s.kite.clusters.length := (List.getElem?_eq_some_iff.1 there).1
  obtain ⟨now, settled⟩ := clusterAt_settleRing (s := modCluster s n (kclTaken v)) (n := n) (by rwa [length_modCluster])
  rw [writeKcl_eq, settled, clusterAt_modCluster_self inside, clusterAt_of_getElem? there]
  exact kclTaken_of_ring3 c ring

/-- A change of ring size changes nothing of the clusters' cores and of what they run. -/
theorem settleRing_kite (s : State) (n : Nat) : ∃ clusters, (settleRing s n).kite = { s.kite with clusters := clusters } := by
  unfold settleRing
  split
  · exact ⟨_, rfl⟩
  · exact ⟨_, rfl⟩

/-! ### Waymark tables (R291) -/

theorem tableBanks_length (t : WTable) : (tableBanks t).length = wUnits t.width * t.copies := by
  rw [tableBanks, span, List.length_map, List.length_range]

theorem writeTable_of_free {s : State} {i v : Nat} (off : (wTable s i).en = false) (on : bit v 31 = true) (wide : bits v 5 4 ≠ 3)
    (some_ : bits v 10 6 ≠ 0) (most : bits v 10 6 ≤ 16) (fit : bits v 3 0 + wUnits (bits v 5 4) * bits v 10 6 ≤ 16)
    (free : (span (bits v 3 0) (wUnits (bits v 5 4) * bits v 10 6)).any (bankTaken s i) = false) :
    writeTable s i v = { s with way := { s.way with
      tables := lmod s.way.tables i (fun _ => { firstBank := bits v 3 0, width := bits v 5 4, copies := bits v 10 6, en := true,
                                                ready := false, clearing := true }),
      shadow := clearBanks s.way.shadow (span (bits v 3 0) (wUnits (bits v 5 4) * bits v 10 6)),
      array := s.way.array.map (fun x => if (span (bits v 3 0) (wUnits (bits v 5 4) * bits v 10 6)).contains (x.1 / 4096) then
        (x.1, { x.2 with valid := false }) else x) } } := by
  have taken : (tableBanks {
      firstBank := bits v 3 0, width := bits v 5 4, copies := bits v 10 6, en := true, ready := false, clearing := true }).any
        (bankTaken s i) = false := free
  have refused : ¬ (bits v 5 4 = 3 ∨ bits v 10 6 = 0 ∨ 16 < bits v 10 6 ∨ 16 < bits v 3 0 + wUnits (bits v 5 4) * bits v 10 6) := by omega
  simp only [not_or] at refused
  simp only [writeTable, off, on, tableBanks_length, refused, taken, Bool.not_true, Bool.false_eq_true, or_self, if_false]
  rfl

theorem writeTable_of_disabling {s : State} {i v : Nat} (enabled : (wTable s i).en = true) (off : bit v 31 = false) :
    writeTable s i v = { s with way := { s.way with
      tables := lmod s.way.tables i (fun _ => { wTable s i with en := false, ready := false, clearing := false }),
      array := clearBanks s.way.array (tableBanks (wTable s i)), shadow := clearBanks s.way.shadow (tableBanks (wTable s i)) } } := by
  simp only [writeTable, enabled, off]
  rfl

theorem writeDgCtrl_eq (s : State) (v : Nat) : writeDgCtrl s v = { s with
    sec := if bits v 11 0 = 0 ∨ 3600 < bits v 11 0 then s.sec else { s.sec with idleS := bits v 11 0 } } :=
  (apply_ite (fun e : Sec => ({ s with sec := e } : State)) _ _ _).symm

/-! ### BAR0 at large (R34) -/

theorem registerWrite_word {s : State} {off : Nat} (v : Nat) (up : barUp s = true) (aligned : off % 4 = 0) (inside : off + 4 ≤ 0x200000) :
    exec (.registerWrite off 4 v) s = .next (write32 s off (v % 2 ^ 32)) := by
  change execRegisterWrite off 4 v s = _
  rw [execRegisterWrite, onBar_of_barUp _ up, if_neg (Nat.not_lt.2 inside), if_pos ⟨rfl, aligned⟩]

theorem registerWrite_pair {s : State} {off : Nat} (v : Nat) (up : barUp s = true) (aligned : off % 8 = 0) (inside : off + 8 ≤ 0x200000) :
    exec (.registerWrite off 8 v) s = .next (write32 (write32 s off (v % 2 ^ 32)) (off + 4) (v / 2 ^ 32 % 2 ^ 32)) := by
  change execRegisterWrite off 8 v s = _
  rw [execRegisterWrite, onBar_of_barUp _ up, if_neg (Nat.not_lt.2 inside), if_neg (fun four => absurd four.1 (by decide)), if_pos ⟨rfl, aligned⟩]

/-- Settles O4: a cluster's write keeps what makes it busy, so its ring size comes into force at once when it is idle; every other clause is
the branch of its register that the clause's conditions select. -/
theorem tableAndClusterWritesComplete : Obligations.TableAndClusterWritesComplete := by
  refine ⟨?_, ?_, ?_, ?_, ?_, ?_, ?_, ?_⟩
  · intro s n v c up there idle ring quantum
    obtain ⟨clusters, settled⟩ := settleRing_kite (modCluster s n (kclTaken v)) n
    refine ⟨writeKcl s n v, onBar_of_barUp (writeKcl · n v) up, writeKcl_fr s n v, clusterAt_writeKcl_of_idle there idle ring quantum, ?_⟩
    rw [writeKcl_eq, settled]
    exact ⟨rfl, rfl⟩
  · intro s n v c up there ring
    obtain ⟨refused, kept⟩ := clusterAt_writeKcl_of_ring3 there ring
    exact ⟨writeKcl s n v, onBar_of_barUp (writeKcl · n v) up, refused, kept, writeKcl_fr s n v⟩
  · exact fun s i v up off on wide copies most fit free => (onBar_of_barUp (fun s => if bit v 31 then writeTable s i v else s) up).trans
      (congrArg Host.Outcome.next ((if_pos on).trans (writeTable_of_free off on wide copies most fit free)))
  · exact fun s i v up enabled off => (onBar_of_barUp (fun s => if bit v 31 then s else writeTable s i v) up).trans
      (congrArg Host.Outcome.next ((if_neg (Bool.eq_false_iff.1 off)).trans (writeTable_of_disabling enabled off)))
  · exact fun s v up => (onBar_of_barUp (writeDgCtrl · v) up).trans (congrArg Host.Outcome.next (writeDgCtrl_eq s v))
  · exact fun s v up => registerWrite_word v up rfl (by decide)
  · intro s u t off v up aligned inside narrow low upStill high
    rw [registerWrite_word _ up (by omega) (by omega), Nat.mod_mod] at low
    cases low
    rw [registerWrite_word _ upStill (by omega) (by omega)] at high
    rw [registerWrite_pair v up aligned inside, high]
  · exact fun s off n v down => (show execRegisterWrite off n v s = _ from onBar_of_barDown _ down)

end Sys2Proof.Machine
end

section
/-! SUPPORT. The grant of the compression pipes (R294), COMPRESS (R297 to R299), DECOMPRESS (R300 to R302) and inline compression (R303,
R304). Log entry 58 gives the readings of compression, the offset of a malformed stream among them. -/

namespace Sys2Proof.Machine
open Sys2Proof

/-! ### Pipes (R294) -/

theorem pipeGrant_of_compression {s : State} {n : Nat} {r : PipeReq} (free : freePipe s false = some n)
    (next : nextRequest s false s.cmp.lastComp = some r) :
    exec (.pipeGrant false) s = .next
      { s with cmp := { s.cmp with waiting := s.cmp.waiting.filter (· != r), lastComp := r.cls.code,
                                   gains := mset s.cmp.gains n (feature s 4), comp := mset s.cmp.comp n r } } := by
  change execPipeGrant false s = _
  simp only [execPipeGrant, free, next, Bool.false_eq_true, if_false]
  rfl

theorem pipeGrant_of_decompression {s : State} {n : Nat} {r : PipeReq} (free : freePipe s true = some n)
    (next : nextRequest s true s.cmp.lastDecomp = some r) :
    exec (.pipeGrant true) s = .next
      { s with cmp := { s.cmp with waiting := s.cmp.waiting.filter (· != r), lastDecomp := r.cls.code,
                                   decomp := mset s.cmp.decomp n r } } := by
  change execPipeGrant true s = _
  simp only [execPipeGrant, free, next, if_true]
  rfl

/-! ### COMPRESS (R297 to R299) -/

/-- A COMPRESS leaves its pipe: the destination is flipped, and its input counts. -/
def compressing (s : State) (tag : Nat) (o : Op) (b : List Byte) : State :=
  upCmp (flipDest (leavePipe s (cmdPipe tag false)) o o.pkt.p0) (fun c => { c with inBytes := (c.inBytes + b.length) % 2 ^ 64 })

section
variable {s : State} {tag : Nat} {o : Op} {host : HostRead} {b : List Byte} (accepted : opFor s tag 0x0501 = some o)
  (healthy : s.sec.errorState = false) (granted : onPipe s (cmdPipe tag false) = true) (up : addrUp s o = true)
  (source : input s o host o.pkt.dlen = some (.data b))
include accepted healthy granted up source

theorem compress_of_success {checker : Checker} {out : List Byte} (judged : compressReq (bits o.pkt.p1 1 0) (bit o.pkt.p1 2)
    (bit o.pkt.p1 3) o.pkt.flag8 (gainOf s (cmdPipe tag false) o.pkt.p2) o.pkt.p0 b checker = .success out) :
    exec (.compress tag host checker) s = .next
      (finish (deliverAddr (upCmp (compressing s tag o b) (fun c => { c with outBytes := (c.outBytes + out.length) % 2 ^ 64 })) o out) tag
      (ok out.length 0)) := by
  change execCompress tag host checker s = _
  simp only [execCompress, accepted, healthy, granted, up, source, judged]
  rfl

theorem compress_of_stored {checker : Checker} {out : List Byte} (judged : compressReq (bits o.pkt.p1 1 0) (bit o.pkt.p1 2)
    (bit o.pkt.p1 3) o.pkt.flag8 (gainOf s (cmdPipe tag false) o.pkt.p2) o.pkt.p0 b checker = .stored out) :
    exec (.compress tag host checker) s = .next
      (finish (deliverAddr (upCmp (upCmp (compressing s tag o b) (fun c => { c with noGain := wrapInc c.noGain })) (fun c => { c with
        outBytes := (c.outBytes + out.length) % 2 ^ 64 })) o out) tag { status := stStored, r0 := out.length }) := by
  change execCompress tag host checker s = _
  simp only [execCompress, accepted, healthy, granted, up, source, judged]
  rfl

theorem compress_of_noGain {checker : Checker} (judged : compressReq (bits o.pkt.p1 1 0) (bit o.pkt.p1 2) (bit o.pkt.p1 3) o.pkt.flag8
    (gainOf s (cmdPipe tag false) o.pkt.p2) o.pkt.p0 b checker = .noGain) :
    exec (.compress tag host checker) s = .next
      (finish (spoil (upCmp (compressing s tag o b) (fun c => { c with noGain := wrapInc c.noGain })) o) tag { status := stNoGain }) := by
  change execCompress tag host checker s = _
  simp only [execCompress, accepted, healthy, granted, up, source, judged]
  rfl

end

/-! ### DECOMPRESS (R300 to R302) -/

section
variable {s : State} {tag : Nat} {o : Op} {host : HostRead} {b : List Byte} (accepted : opFor s tag 0x0502 = some o)
  (healthy : s.sec.errorState = false) (granted : onPipe s (cmdPipe tag true) = true) (up : addrUp s o = true)
  (source : input s o host o.pkt.dlen = some (.data b))
include accepted healthy granted up source

theorem decompress_of_sound {out : List Byte} (inflated : inflate (bits o.pkt.p1 1 0) b o.pkt.p0 = .ok out) :
    exec (.decompress tag host) s = .next
      (finish (deliverAddr (upCmp (flipDest (leavePipe s (cmdPipe tag true)) o o.pkt.p0) (fun c => { c with
        decBytes := (c.decBytes + out.length) % 2 ^ 64 })) o out) tag (ok out.length 0)) := by
  change execDecompress tag host s = _
  simp only [execDecompress, accepted, healthy, granted, up, source, inflated]
  rfl

theorem decompress_of_overflow (inflated : inflate (bits o.pkt.p1 1 0) b o.pkt.p0 = .error .overflow) :
    exec (.decompress tag host) s = .next (finish (spoil (flipDest (leavePipe s (cmdPipe tag true)) o o.pkt.p0) o) tag {
        status := stLengthLong, detail := 2, r1 := o.pkt.p0 }) := by
  change execDecompress tag host s = _
  simp only [execDecompress, accepted, healthy, granted, up, source, inflated]
  rfl

theorem decompress_of_malformed {d off : Nat} (inflated : inflate (bits o.pkt.p1 1 0) b o.pkt.p0 = .error (.malformed d off)) :
    exec (.decompress tag host) s = .next
      (finish (spoil (upCmp (flipDest (leavePipe s (cmdPipe tag true)) o o.pkt.p0) (fun c => { c with
        formatErrors := satInc c.formatErrors })) o) tag { status := stDecomp, detail := d, r0 := off }) := by
  change execDecompress tag host s = _
  simp only [execDecompress, accepted, healthy, granted, up, source, inflated]
  rfl

end

/-! ### Inline compression (R303, R304) -/

/-- The request for a compression pipe of a staged block. -/
abbrev compressInlineReq (vol lba : Nat) : PipeReq := { cls := .inlineC, tag := vol, num := lba, decomp := false }

/-- What judging a block counts, before its verdict is kept with it. -/
def inlineCounted (s : State) (vol lba : Nat) (j : Nat × Bool) : State :=
  upCmp (if j.2 then verifyFailed (leavePipe s (compressInlineReq vol lba)) else leavePipe s (compressInlineReq vol lba))
    (fun c => if j.1 = 0 then { c with inlineU := wrapInc c.inlineU } else { c with inlineC := wrapInc c.inlineC })

theorem inlineCounted_fr (s : State) (vol lba : Nat) (j : Nat × Bool) : ChangesOnly [.flt, .cmp] s (inlineCounted s vol lba j) := by
  have left : ChangesOnly [.flt, .cmp] s (leavePipe s (compressInlineReq vol lba)) := (leavePipe_fr s _).mono (by decide)
  refine ChangesOnly.trans ?_ ((upCmp_fr _ _).mono (by decide))
  split
  · exact left.trans ((verifyFailed_fr _).mono (by decide))
  · exact left

theorem inlineCompress_of_granted {s : State} {vol lba : Nat} {v : Volume} {x : Staged} {checker : Checker}
    (volume : mget s.med.volumes vol = some v) (staged : stagedAt s vol lba = some x) (compressed : v.comp = true)
    (unjudged : x.comp = none) (kept : x.lost = false) (granted : onPipe s (compressInlineReq vol lba) = true) {j : Nat × Bool}
    (judged : inlineJudge (gainOf s (compressInlineReq vol lba) 0xFF) x.data checker = j) :
    exec (.inlineCompress vol lba checker) s = .next (upMed (inlineCounted s vol lba j) (fun m => { m with
      staging := m.staging.map (fun y => if y.vol = vol ∧ y.lba = lba ∧ y.seq = x.seq then { y with comp := some j.1 } else y) })) := by
  change execInlineCompress vol lba checker s = _
  simp only [execInlineCompress, volume, staged, compressed, unjudged, kept, granted, judged]
  rfl

/-- Settles O10: each clause is the branch of its command that the clause's conditions select; what is counted of an inline block's
verdict leaves staging as it was. -/
theorem compressionCommandsComplete : Obligations.CompressionCommandsComplete := by
  refine ⟨?_, ?_, ?_, ?_, ?_, ?_, ?_, ?_, ?_⟩
  · exact fun _ _ _ => pipeGrant_of_compression
  · exact fun _ _ _ => pipeGrant_of_decompression
  · exact fun _ _ _ _ _ _ _ accepted healthy granted up source judged => ⟨_, compress_of_success accepted healthy granted up source
      judged, rfl⟩
  · exact fun _ _ _ _ _ _ _ accepted healthy granted up source judged => ⟨_, compress_of_stored accepted healthy granted up source judged,
      rfl⟩
  · exact fun _ _ _ _ _ _ accepted healthy granted up source judged => ⟨_, compress_of_noGain accepted healthy granted up source judged,
      rfl⟩
  · exact fun _ _ _ _ _ _ accepted healthy granted up source inflated => ⟨_, decompress_of_sound accepted healthy granted up source
      inflated, rfl⟩
  · exact fun _ _ _ _ _ => decompress_of_overflow
  · exact fun _ _ _ _ _ _ _ accepted healthy granted up source inflated => decompress_of_malformed accepted healthy granted up source
      inflated
  · intro s vol lba v x checker volume staged compressed unjudged kept granted
    have counted := inlineCounted_fr s vol lba (inlineJudge (gainOf s (compressInlineReq vol lba) 0xFF) x.data checker)
    refine ⟨_, inlineCompress_of_granted volume staged compressed unjudged kept granted rfl, ?_,
      (counted.mono (by decide)).trans ((upMed_fr _ _).mono (by decide))⟩
    have med : (inlineCounted s vol lba _).med = s.med := counted.2 .med (by decide)
    rw [upMed_med, med]

end Sys2Proof.Machine
end

section
/-! SUPPORT. The parts of a digest's message, their quanta and results, and idle messages (R309 to R315). Log entry 56 gives the readings of
digests. -/

namespace Sys2Proof.Machine
open Sys2Proof

/-! ### Parts (R309, R314) -/

theorem fetchPart_of_turn {s : State} {o : Op} {host expected : HostRead} {n : Nat} {c : DigestCtx} {b e : List Byte}
    (healthy : s.sec.errorState = false) (context : ctxOfTag s o.tag = some (n, c)) (turn : c.parts.head? = some o.tag)
    (ready : o.stage = .ready) (nonempty : o.pkt.dlen ≠ 0) (message : input s o host o.pkt.dlen = some (.data b))
    (compared : expectedOf s o expected = some (.data e)) :
    fetchPart s o host expected = modOp s o.tag (fun x => { x with stage := .running, rx := b ++ e }) := by
  have due : ¬ (c.parts.head? ≠ some o.tag ∨ o.stage ≠ .ready) := by simp [turn, ready]
  simp only [fetchPart, healthy, context, if_neg due, if_neg nonempty, message, compared]
  rfl

theorem digest_of_turn {s : State} {tag : Nat} {o : Op} {host : HostRead} {n : Nat} {c : DigestCtx} {b : List Byte}
    (accepted : opFor s tag 0x0503 = some o) (healthy : s.sec.errorState = false) (context : ctxOfTag s o.tag = some (n, c))
    (turn : c.parts.head? = some o.tag) (ready : o.stage = .ready) (nonempty : o.pkt.dlen ≠ 0)
    (message : input s o host o.pkt.dlen = some (.data b)) (alone : expectedOf s o (.data []) = some (.data [])) :
    exec (.digest tag host) s = .next (modOp s o.tag (fun x => { x with stage := .running, rx := b })) := by
  change execDigest tag host s = _
  simp only [execDigest, accepted, fetchPart_of_turn healthy context turn ready nonempty message alone, List.append_nil]

theorem digestVerify_of_turn {s : State} {tag : Nat} {o : Op} {host expected : HostRead} {n : Nat} {c : DigestCtx} {b e : List Byte}
    (accepted : opFor s tag 0x0504 = some o) (healthy : s.sec.errorState = false) (context : ctxOfTag s o.tag = some (n, c))
    (turn : c.parts.head? = some o.tag) (ready : o.stage = .ready) (nonempty : o.pkt.dlen ≠ 0)
    (message : input s o host o.pkt.dlen = some (.data b)) (compared : expectedOf s o expected = some (.data e)) :
    exec (.digestVerify tag host expected) s = .next (modOp s o.tag (fun x => { x with stage := .running, rx := b ++ e })) := by
  change execDigestVerify tag host expected s = _
  simp only [execDigestVerify, accepted, fetchPart_of_turn healthy context turn ready nonempty message compared]

/-! ### Quanta and results (R310 to R315) -/

theorem digestQuantum_of_last {s : State} {n : Nat} {c : DigestCtx} {o : Op} (next : nextContext s = some (n, c))
    (command : c.kite = none) (runs : c.parts.head?.bind (findOp s) = some o) (last : o.rx.length - expectedLen o ≤ 65536) :
    exec .digestQuantum s = .next (endPart (upSec s (fun e => { e with dgTurn := (n + 1) % 64 })) o n c
      (c.data ++ o.rx.take (o.rx.length - expectedLen o)) (o.rx.drop (o.rx.length - expectedLen o))) := by
  change execDigestQuantum s = _
  have still : c.parts.head?.bind (findOp (upSec s (fun e => { e with dgTurn := (n + 1) % 64 }))) = some o := runs
  simp only [execDigestQuantum, next, command, still, if_pos last, Nat.min_eq_left last]

theorem endPart_of_more {s : State} {o : Op} {n : Nat} {c : DigestCtx} {data e : List Byte} (more : o.pkt.more = true)
    (sound : c.doomed = false) :
    endPart s o n c data e = complete
      (upSec s (fun x => { x with contexts := mset x.contexts n { c with data, parts := c.parts.tail, since := s.glb.lifetime } })) o.tag
      (ok 0 n) := by
  simp only [endPart, more, sound, Bool.false_eq_true, if_true, if_false]

theorem endPart_of_verified {s : State} {o : Op} {n : Nat} {c : DigestCtx} {data e : List Byte} (final : o.pkt.more = false)
    (verifies : o.pkt.opc = 0x0504) (readable : o.aux ≠ 1) (unkeyed : c.hmac = none) :
    endPart s o n c data e = complete (clearCtx s n o.tag) o.tag
      { status := if digestOf c.alg [] data = e then stSuccess else stDigestMismatch } := by
  simp only [endPart, final, verifies, readable, unkeyed, Bool.false_eq_true, if_true, if_false]

/-! ### Idle messages (R313) -/

theorem dgIdleTimeout_of_idle {s : State} {n : Nat} {c : DigestCtx} (up : inReset s islCrypt = false)
    (context : mget s.sec.contexts n = some c) (command : c.kite = none) (idle : c.parts = [])
    (expired : c.since + 1000 * s.sec.idleS ≤ s.glb.lifetime) :
    exec (.dgIdleTimeout n) s = .next (upSec s (fun e => { e with contexts := mdel e.contexts n, dgTimeouts := satInc e.dgTimeouts }))
      := by
  change execDgIdleTimeout n s = _
  simp only [execDgIdleTimeout, up, context, command, idle, expired]
  rfl

/-- Settles O11: each clause is the branch of its command, or of a part's end, that the clause's conditions select. -/
theorem digestCommandsComplete : Obligations.DigestCommandsComplete := by
  refine ⟨?_, ?_, ?_, ?_, ?_, ?_⟩
  · exact fun _ _ _ _ _ _ _ => digest_of_turn
  · exact fun _ _ _ _ _ _ _ _ _ => digestVerify_of_turn
  · exact fun _ _ _ _ => digestQuantum_of_last
  · exact fun _ _ _ _ _ _ => endPart_of_more
  · exact fun _ _ _ _ _ _ => endPart_of_verified
  · exact fun _ _ _ => dgIdleTimeout_of_idle

end Sys2Proof.Machine
end

section
/-! SUPPORT. Keys (R325 to R327, R500), milestones and attestation (R317 to R321), self-tests (R331), zeroisation (R316) and the link keys
(R328). Log entry 56 gives the readings of attestation, log entry 2 the hours that a self-test counts. -/

namespace Sys2Proof.Machine
open Sys2Proof

/-! ### Keys (R326, R327, R500) -/

section
variable {s : State} {tag : Nat} {o : Op} {host : HostRead} {b k : List Byte} (accepted : opFor s tag 0x0701 = some o)
  (wrapped : input s o host o.pkt.dlen = some (.data b)) (unwraps : Config.unwrapKey b = some k)
include accepted wrapped unwraps

theorem keyImport_of_volume (volume : o.pkt.p0 = 0) :
    exec (.keyImport tag host) s = .next
      (finish (extendMs (putKey (freshKey s).2 { vol := o.pkt.vol, keyId := (freshKey s).1, kind := 2, capacity := 0, attrs := 0 }) 2
      (msRecord 1 0 o.pkt.vol)) tag (ok 0 0)) := by
  change execKeyImport tag host s = _
  simp only [execKeyImport, accepted, wrapped, unwraps, volume]
  rfl

theorem keyImport_of_hmac (hmac : o.pkt.p0 = 1) :
    exec (.keyImport tag host) s = .next
      (finish (extendMs (upSec s (fun e => { e with hmacKeys := mset e.hmacKeys o.pkt.p1 (fit (o.pkt.dlen - 8) k) })) 2
      (msRecord 1 1 o.pkt.p1)) tag (ok 0 0)) := by
  change execKeyImport tag host s = _
  simp only [execKeyImport, accepted, wrapped, unwraps, hmac]
  rfl

end

theorem keyDestroy_of_volume {s : State} {tag : Nat} {o : Op} (accepted : opFor s tag 0x0702 = some o) (volume : o.pkt.p0 = 0) :
    exec (.keyDestroy tag) s = .next
      (finish (extendMs (upSec s (fun e => { e with keyLog := e.keyLog.filter (fun k => !(k.vol == o.pkt.vol && k.kind == 2)) })) 2
      (msRecord 2 0 o.pkt.vol)) tag (ok 0 0)) := by
  change execKeyDestroy tag s = _
  simp only [execKeyDestroy, accepted, volume]
  rfl

theorem keyDestroy_of_hmac {s : State} {tag : Nat} {o : Op} (accepted : opFor s tag 0x0702 = some o) (hmac : o.pkt.p0 = 1) :
    exec (.keyDestroy tag) s = .next
      (finish (extendMs (upSec s (fun e => { e with hmacKeys := mdel e.hmacKeys o.pkt.p1 })) 2 (msRecord 2 1 o.pkt.p1)) tag
      (ok 0 0)) := by
  change execKeyDestroy tag s = _
  simp only [execKeyDestroy, accepted, hmac]
  rfl

/-! ### Milestones and attestation (R317, R318, R320, R321) -/

theorem extend_of_turn {s : State} {tag : Nat} {o : Op} {host : HostRead} {b : List Byte} (accepted : opFor s tag 0x0703 = some o)
    (turn : turnOf s o = true) (bytes : input s o host o.pkt.dlen = some (.data b)) :
    exec (.extend tag host) s = .next (finish (extendMs s o.pkt.p0 b) tag (ok 0 0)) := by
  change execExtend tag host s = _
  simp only [execExtend, accepted, turn, bytes]
  rfl

theorem milestones_extendMs_self (s : State) (n : Nat) (d : List Byte) :
    mgetD (extendMs s n d).sec.milestones n (zeros 48) = sha384 (mgetD s.sec.milestones n (zeros 48) ++ d) := by
  simp only [extendMs, upSec_sec, mgetD, mget_mset_same, Option.getD_some]

theorem milestones_extendMs_other (s : State) (d : List Byte) {n m : Nat} (other : m ≠ n) :
    mgetD (extendMs s n d).sec.milestones m (zeros 48) = mgetD s.sec.milestones m (zeros 48) := by
  simp only [extendMs, upSec_sec, mgetD, mget_mset_other _ n m _ other]

theorem attest_of_turn {s : State} {tag : Nat} {o : Op} {host : HostRead} {b : List Byte} (accepted : opFor s tag 0x0704 = some o)
    (healthy : s.sec.errorState = false) (turn : earlierOp s o.seq extending = false) (up : addrUp s o = true)
    (nonce : input s o host o.pkt.dlen = some (.data b)) (room : 1920 ≤ o.pkt.p0) :
    exec (.attest tag host) s = .next (finish (deliverAddr (freeBytes s 96).2 o (reportBody s o b ++ (freeBytes s 96).1)) tag
      (ok 1920 0)) := by
  change execAttest tag host s = _
  simp only [execAttest, accepted, healthy, turn, up, nonce, Nat.not_lt.2 room]
  rfl

/-! ### Self-tests (R331) -/

theorem selfTest_of_running {s : State} {tag : Nat} {o : Op} {failed : Nat} (accepted : opFor s tag 0x0705 = some o)
    (runs : o.stage = .running) :
    exec (.selfTest tag failed) s = .next (finish (testsEnd s o.pkt.p0 failed) tag (ok (failed &&& testMask o.pkt.p0) 0)) := by
  change execSelfTest tag failed s = _
  simp only [execSelfTest, accepted, runs]
  rfl

theorem selfTest_of_ready {s : State} {tag : Nat} {o : Op} {failed : Nat} (accepted : opFor s tag 0x0705 = some o)
    (ready : o.stage = .ready) :
    exec (.selfTest tag failed) s = .next (running s tag) := by
  change execSelfTest tag failed s = _
  simp only [execSelfTest, accepted, ready]
  rfl

theorem periodicSelftest_of_due {s : State} {failed : Nat} (powered : s.sec.powerupDone = true) (up : inReset s islCrypt = false)
    (due : s.sec.testedAt + 86400000 ≤ s.glb.lifetime) :
    exec (.periodicSelftest failed) s = .next (testsEnd s 0 failed) := by
  change execPeriodicSelftest failed s = _
  simp only [execPeriodicSelftest, powered, up, due]
  rfl

theorem testsEnd_of_passed (s : State) (sel : Nat) : testsEnd s sel 0 = upSec s (fun e => { e with
    ageH := if sel = 0 then 0 else e.ageH, testedAt := if sel = 0 then s.glb.lifetime else e.testedAt }) := by
  simp only [testsEnd, Nat.zero_and, Nat.or_zero]
  rfl

/-! ### Zeroisation and the link keys (R316, R328) -/

theorem securityAlarm_of_known {s : State} {cause : Nat} (known : cause ≤ 3) :
    exec (.securityAlarm cause) s = .next
      (raise (zeroise (upSec s (fun e => { e with alarm := e.alarm ||| 2 ^ cause, alarms := satInc e.alarms })) 2)
      (unit islCrypt 4)) := by
  change execSecurityAlarm cause s = _
  simp only [execSecurityAlarm, Nat.not_lt.2 known, if_false]

/-- Ending the parts and telling the cores changes nothing of SEC beyond what is zeroised. -/
theorem zeroise_sec (s : State) (detail : Nat) : (zeroise s detail).sec = { s.sec with
    contexts := [], keyCache := [], rootGen := s.sec.rootGen + 1, drbgSeeded := false,
    links := rekeyLinks s.glb.lifetime s.sec.links, zeroises := satInc s.sec.zeroises } := by
  unfold zeroise
  refine (ChangesOnly.foldl (ps := [.tsk, .kite]) (fun t h => ?_)
    (ChangesOnly.foldl (fun t _ => (finish_fr t _ _).mono (by decide)) (.refl _ _))).2 .sec (by decide)
  have told := (modInst_fr t h.1 h.2 (fun i => { i with ports := { i.ports with
    dgCtx := none, dgBusy := false, dgFeed := none, dgCleared := true, dgDone := false, dgOut := [] } })).mono (qs := [.tsk, .kite])
      (by decide)
  exact .ite (told.trans ((latchEvent_fr _ _ _ _).mono (by decide))) told

theorem linkRekey_of_up {s : State} {link : Nat} (up : inReset s islCrypt = false) :
    exec (.linkRekey link) s = .next
      (upSec s (fun e => { e with
        links := mmod e.links link (fun k => if k.secret.isSome && (decide (2 ^ 31 ≤ k.packets) || decide
          (k.since + 86400000 ≤ s.glb.lifetime)) then { k with counter := wrapInc k.counter, packets := 0, since := s.glb.lifetime } else
          k) })) := by
  change execLinkRekey link s = _
  simp only [execLinkRekey, up, Bool.not_false, Bool.and_true]

/-- Settles O14: each clause is the branch of its command, or the effect of the operation it names, that the clause's conditions select.
-/
theorem securityCommandsComplete : Obligations.SecurityCommandsComplete := by
  refine ⟨?_, ?_, ?_, ?_, ?_, ?_, ?_, ?_, ?_, ?_, ?_, ?_, ?_, ?_⟩
  · exact fun _ _ _ _ _ _ => keyImport_of_volume
  · exact fun _ _ _ _ _ _ => keyImport_of_hmac
  · exact fun _ _ _ => keyDestroy_of_volume
  · exact fun _ _ _ => keyDestroy_of_hmac
  · exact fun _ _ _ _ _ => extend_of_turn
  · exact fun s n d => ⟨milestones_extendMs_self s n d, fun _ => milestones_extendMs_other s d⟩
  · exact fun _ _ _ _ _ => attest_of_turn
  · exact fun _ _ _ _ => selfTest_of_running
  · exact fun _ _ _ _ => selfTest_of_ready
  · exact fun _ _ => periodicSelftest_of_due
  · exact testsEnd_of_passed
  · exact fun _ _ => securityAlarm_of_known
  · intro s d
    rw [zeroise_sec]
    exact ⟨rfl, rfl⟩
  · exact fun _ _ => linkRekey_of_up

end Sys2Proof.Machine
end

section
/-! SUPPORT. TETHER_PAIR with its timeout, TETHER_UNPAIR and TAKEOVER (R341, R348, R354, R356). Log entries 52 and 60 give the readings of
the twin-pair protocol and of an unpairing in SOLO. -/

namespace Sys2Proof.Machine
open Sys2Proof

/-- A change of the pair is what it makes of the pair at hand. -/
theorem upPair_congr {s : State} {f g : Pair → Pair} (same : f s.pair = g s.pair) : upPair s f = upPair s g := by
  simp only [upPair, same]

/-! ### TETHER_PAIR (R341) -/

theorem tetherPair_of_solo {s : State} {tag : Nat} {o : Op} {host : HostRead} {token : List Byte} (accepted : opFor s tag 0x0801 = some o)
    (fresh : o.stage ≠ .running) (solo : s.pair.state = 0) (unpaired : s.pair.pairing = none)
    (read : input s o host o.pkt.dlen = some (.data token)) (unheard : s.pair.helloIn = none) :
    exec (.tetherPair tag host) s = .next
      (sendHello (upPair (running s tag) (fun p => { p with state := 1, pairing := some {
                                                              tag, token, agreed := false, base := 0, since := s.glb.lifetime } }))
      token) := by
  have solo' : (running s tag).pair.state = 0 := solo
  have begun : upPair (running s tag) (fun p => { p with
      state := if p.state = 0 then 1 else p.state, pairing := some { tag, token, agreed := false, base := 0, since := s.glb.lifetime } }) =
      upPair (running s tag) (fun p => { p with
        state := 1, pairing := some { tag, token, agreed := false, base := 0, since := s.glb.lifetime } }) :=
    upPair_congr (by simp only [solo', if_true])
  change execTetherPair tag host s = _
  simp only [execTetherPair, accepted, fresh, solo, unpaired, read, unheard, begun]
  rfl

theorem tetherPair_of_copied {s : State} {tag : Nat} {o : Op} {host : HostRead} {p : Pairing} (accepted : opFor s tag 0x0801 = some o)
    (runs : o.stage = .running) (pairing : s.pair.pairing = some p) (forming : s.pair.state = 1)
    (checkpointed : (p.agreed && s.med.ckpt.isNone && decide (newestRootNo s < p.base)) = false) (copied : copyDone s p = true) :
    exec (.tetherPair tag host) s = .next
      (finish (pairLog (upPair s (fun q => { q with
        state := 2, pairing := none, pairings := q.pairings + 1, beating := true, heardAt := s.glb.lifetime, called := false })) 1 0xFF
      s.pair.partnerNode) tag (ok 0 2)) := by
  have behind : ¬ (p.agreed = true ∧ s.med.ckpt.isNone = true ∧ newestRootNo s < p.base) := by simpa [and_assoc] using checkpointed
  change execTetherPair tag host s = _
  simp only [execTetherPair, accepted, runs, pairing, forming, behind, copied]
  rfl

theorem pairHelloTimeout_of_unagreed {s : State} {p : Pairing} (pairing : s.pair.pairing = some p) (unagreed : p.agreed = false)
    (expired : p.since + 10000 ≤ s.glb.lifetime) :
    exec .pairHelloTimeout s = .next (refusePair s (bad 0x20)) := by
  have due : ¬ (p.agreed = true ∨ s.glb.lifetime < p.since + 10000) := by simp [unagreed, expired]
  change execPairHelloTimeout s = _
  simp only [execPairHelloTimeout, pairing, if_neg due]

/-! ### TETHER_UNPAIR and TAKEOVER (R348, R354) -/

theorem tetherUnpair_of_solo {s : State} {tag : Nat} {o : Op} (accepted : opFor s tag 0x0802 = some o) (fresh : o.stage ≠ .running)
    (solo : s.pair.state = 0) :
    exec (.tetherUnpair tag) s = .next (finish s tag (ok 0 0)) := by
  change execTetherUnpair tag s = _
  simp only [execTetherUnpair, accepted, fresh, solo]
  rfl

theorem tetherUnpair_of_paired {s : State} {tag : Nat} {o : Op} (accepted : opFor s tag 0x0802 = some o) (fresh : o.stage ≠ .running)
    (paired : s.pair.state ≠ 0) :
    exec (.tetherUnpair tag) s = .next
      (trySeparate (upPair (running s tag) (fun p => { p with unpairing := some tag, draining := true }))) := by
  change execTetherUnpair tag s = _
  simp only [execTetherUnpair, accepted, fresh, paired]
  rfl

theorem takeover_of_forced {s : State} {tag : Nat} {o : Op} (accepted : opFor s tag 0x0803 = some o) (fresh : o.stage ≠ .running)
    (paired : 2 ≤ s.pair.state) (silent : s.pair.beating = false) (alone : s.pair.fostering = false) (forced : bit o.pkt.p0 0 = true) :
    exec (.takeover tag) s = .next (winClaim (upPair (running s tag) (fun p => { p with takeovers := p.takeovers ++ [tag] })) 0
      true) := by
  have lost : ¬ (s.pair.state ≤ 1 ∨ s.pair.beating = true) := by simp [silent]; omega
  change execTakeover tag s = _
  simp only [execTakeover, accepted, if_neg fresh, if_neg lost, alone, forced]
  rfl

theorem takeover_of_beating {s : State} {tag : Nat} {o : Op} (accepted : opFor s tag 0x0803 = some o) (fresh : o.stage ≠ .running)
    (beats : s.pair.beating = true) :
    exec (.takeover tag) s = .next (finish s tag (bad 0x20)) := by
  change execTakeover tag s = _
  simp only [execTakeover, accepted, if_neg fresh, beats, or_true, if_true]

/-- Settles O16: each clause is the branch of its command that the clause's conditions select. -/
theorem pairCommandsComplete : Obligations.PairCommandsComplete := by
  refine ⟨?_, ?_, ?_, ?_, ?_, ?_, ?_⟩
  · exact fun _ _ _ _ _ => tetherPair_of_solo
  · exact fun _ _ _ _ _ => tetherPair_of_copied
  · exact fun _ _ => pairHelloTimeout_of_unagreed
  · exact fun _ _ _ => tetherUnpair_of_solo
  · exact fun _ _ _ accepted fresh paired _ => tetherUnpair_of_paired accepted fresh paired
  · exact fun _ _ _ => takeover_of_forced
  · exact fun _ _ _ => takeover_of_beating

end Sys2Proof.Machine
end

section
/-! SUPPORT. The messages of a pair (R341, R342, R344 to R346, R349), its heartbeats and probes (R349, R350), the claim's retry (R351) and the
partner directory (R357). Log entries 24, 35 and 52 give the readings of keys, of a partner that is READ_ONLY and of the twin-pair protocol. -/

namespace Sys2Proof.Machine
open Sys2Proof

/-- What the Tether link brings is taken unless its island is in reset. -/
theorem tether_of_up {s : State} {x : Out} (up : inReset s islTether = false) : (if inReset s islTether then .next s else x) = x :=
  if_neg (Bool.eq_false_iff.1 up)

theorem tether_next_of_up {s t u : State} (up : inReset s islTether = false) (same : t = u) :
    (if inReset s islTether then .next s else .next t : Out) = .next u :=
  (tether_of_up up).trans (congrArg Host.Outcome.next same)

/-! ### HELLO and keys (R341, R342) -/

section
variable {s : State} {serial node w0 w1 w2 blocks limit : Nat} {pub proof : List Byte}

theorem onHello_of_solo (unpaired : s.pair.pairing = none) (solo : s.pair.state = 0) :
    onHello s (.hello serial node w0 w1 w2 blocks limit pub proof) =
      upPair s (fun p => { p with helloIn := some (.hello serial node w0 w1 w2 blocks limit pub proof) }) := by
  simp only [onHello, unpaired, solo]
  rfl

variable {p : Pairing} (pairing : s.pair.pairing = some p) (unagreed : p.agreed = false)
include pairing unagreed

theorem onHello_of_refused {r : Reply} (refused : helloRefusal s p.token serial [w0, w1, w2] blocks limit pub proof = some r) :
    onHello s (.hello serial node w0 w1 w2 blocks limit pub proof) = refusePair s r := by
  simp only [onHello, judgeHello, pairing, unagreed, refused]
  rfl

theorem onHello_of_agreeing (agrees : helloRefusal s p.token serial [w0, w1, w2] blocks limit pub proof = none) :
    onHello s (.hello serial node w0 w1 w2 blocks limit pub proof) = agreePair s p serial node pub := by
  simp only [onHello, judgeHello, pairing, unagreed, agrees]
  rfl

end

theorem onKeyTransfer_of_install {s : State} (vol capacity attrs : Nat) (paired : s.pair.state = 2) (alone : s.pair.fostering = false) :
    onKeyTransfer s vol true capacity attrs = putKey (freshKey s).2 { vol, keyId := (freshKey s).1, kind := 1, capacity, attrs } := by
  simp only [onKeyTransfer, paired, alone]
  rfl

theorem onKeyTransfer_of_destroy {s : State} (vol capacity attrs : Nat) (paired : s.pair.state ≠ 0) :
    onKeyTransfer s vol false capacity attrs =
      upSec s (fun e => { e with keyLog := e.keyLog.filter (fun k => !(k.vol == vol && k.kind == 1)) }) := by
  simp only [onKeyTransfer, paired]
  rfl

/-! ### The partner's mirror, journal and root (R343 to R346, R158) -/

theorem onMirrorWrite_of_whole {s : State} {seq vol lba blocks : Nat} {data : List Byte} (stores : storesForPartner s = true)
    (whole : data.length = 4096 * blocks) :
    onMirrorWrite s seq vol 0 lba blocks data =
      sendT (upPair s (fun p => { p with entriesIn := insertEntry p.entriesIn { seq, vol, op := 0, lba, blocks, data } }))
        (.mirrorConfirm seq) := by
  have sound : ¬ (2 < 0 ∨ data.length ≠ if 0 = 0 then 4096 * blocks else 0) := by simp [whole]
  rw [onMirrorWrite, stores, Bool.not_true, if_neg Bool.false_ne_true, if_neg sound]

/-- Records that come next join the ring's end. -/
theorem onJournal_of_next {s : State} {first : Nat} {recs : List JRec} (stores : storesForPartner s = true) (some_ : 1 ≤ recs.length)
    (most : recs.length ≤ 256) (nonempty : s.med.partnerRing.isEmpty = false)
    (next : first = s.med.partnerStart + s.med.partnerRing.length) :
    onJournal s first recs = sendT (spillRing (upMed s (fun m => { m with partnerRing := m.partnerRing ++ recs })) 8)
      (.journalConfirm (first + recs.length - 1)) := by
  have whole : ¬ (recs.isEmpty = true ∨ 256 < recs.length) := by
    rw [List.isEmpty_iff_length_eq_zero]
    omega
  have joined : upMed s (fun m => { m with
      partnerRing := m.partnerRing.take (first - s.med.partnerStart) ++ recs.drop (s.med.partnerStart - first) ++
        m.partnerRing.drop (first - s.med.partnerStart + (recs.drop (s.med.partnerStart - first)).length) }) =
      upMed s (fun m => { m with partnerRing := m.partnerRing ++ recs }) := by
    have place : first - s.med.partnerStart = s.med.partnerRing.length := by omega
    have fresh : s.med.partnerStart - first = 0 := by omega
    simp only [upMed, place, fresh, List.drop_zero, List.take_length, List.drop_eq_nil_of_le (Nat.le_add_right _ _), List.append_nil]
  have gapless : ¬ s.med.partnerStart + s.med.partnerRing.length < first := by omega
  simp only [onJournal, stores, if_neg whole, nonempty, Bool.false_and, Bool.not_false, Bool.true_and, Bool.not_true,
    decide_eq_false gapless, Bool.false_eq_true, if_false, joined]

theorem onJournalConfirm_of_written {s : State} {last : Nat} (written : last < jHead s) :
    onJournalConfirm s last = releaseMirror (moveTail (upPair s (fun p => { p with jConfirmed := max p.jConfirmed (last + 1) }))) :=
  if_pos written

theorem onRoot_of_stored {s : State} {r : Root} (numbered : r.ckptNo ≠ 0) (alone : s.pair.fostering = false)
    (stores : storesForPartner s = true) : onRoot s r.ckptNo r = storeRoot s r := by
  simp [onRoot, numbered, alone, stores]

/-! ### Heartbeats, probes and claims (R349 to R351) -/

theorem meetPartner_of_paired {s u : State} (status : Nat) (heard : hearPartner s = u) (paired : u.pair.state = 2)
    (unfenced : u.pair.fenced = false) : meetPartner s 2 status false = upPair u (fun p => { p with called := false }) := by
  simp only [meetPartner, heard, paired, unfenced]
  rfl

theorem heartbeatSend_of_carried {s : State} (paired : s.pair.state ≠ 0) (carried : s.pair.linkUp = true ∨ s.pair.meshMirror = true)
    (runs : s.flt.halted = false) (undumped : s.med.dumpHeld = false) (up : inReset s islTether = false) :
    exec .heartbeatSend s = .next (trySeparate (sendT (upPair s (fun p => { p with beats := p.beats + 1 }))
      (.heartbeat (s.pair.beats + 1) s.pair.state (pairStatusByte (upPair s (fun p => { p with beats := p.beats + 1 })))))) := by
  have path : (s.pair.linkUp || s.pair.meshMirror) = true := by simpa using carried
  change execHeartbeatSend s = _
  simp only [execHeartbeatSend, tether_of_up up, decide_eq_false paired, runs, undumped, path]
  rfl

theorem heartbeatTimeout_of_silent {s : State} (paired : partnered s = true) (unsuspected : s.pair.suspect = false)
    (silent : s.pair.heardAt + 5 ≤ s.glb.lifetime) (up : inReset s islTether = false) :
    exec .heartbeatTimeout s = .next
      (pairLog (upPair s (fun p => { p with beating := false, suspect := true, probes := 0, events := p.events ||| 2 })) 3 0xFF 0) := by
  change execHeartbeatTimeout s = _
  simp only [execHeartbeatTimeout, tether_of_up up, Nat.not_lt.2 silent, paired, suspectPartner, upPair_pair, unsuspected]
  rfl

section
variable {s : State} (suspect : s.pair.suspect = true) (mesh : s.mesh.configured = true) (unclaimed : s.pair.claim = none)
  (up : inReset s islTether = false)
include suspect mesh unclaimed up

theorem probeTimer_of_suspect : exec .probeTimer s = .next (probeNext s) := by
  change execProbeTimer s = _
  simp only [execProbeTimer, tether_of_up up, suspect, mesh, unclaimed]
  rfl

end

theorem probeNext_of_fewer {s : State} (unfenced : s.pair.fenced = false) (fewer : s.pair.probes < 4) :
    probeNext s = sendPair (upPair s (fun p => { p with probes := p.probes + 1 })) s.pair.partnerNode s.pair.pairId
      (.probe Config.serial s.pair.partner (s.pair.probes + 1)) := by
  simp only [probeNext, unfenced, fewer]
  rfl

theorem probeNext_of_unanswered {s : State} (unfenced : s.pair.fenced = false) (four : 4 ≤ s.pair.probes) :
    probeNext s = startClaim s := by
  simp only [probeNext, unfenced, Nat.not_lt.2 four, Bool.false_eq_true, if_false]

theorem claimRetry_of_due {s : State} {c : ClaimState} (claimed : s.pair.claim = some c) (due : c.askedAt + 10 ≤ s.glb.lifetime)
    (up : inReset s islTether = false) :
    exec .claimRetry s = .next (sendClaim (upPair s (fun p => { p with claim := some { c with askedAt := s.glb.lifetime } }))
      ((validWitnesses s).filter (fun i => !c.grants.contains i && !c.refusals.contains i)) c.number false) := by
  change execClaimRetry s = _
  simp only [execClaimRetry, tether_of_up up, claimed, Nat.not_lt.2 due, if_false]
  rfl

/-! ### The partner directory (R357) -/

theorem partnerDirectoryRebuild_of_unfound {s : State} (fosters : s.pair.fostering = true) (unready : s.pair.partnerDirReady = false)
    (up : inReset s islTether = false) :
    exec (.partnerDirectoryRebuild false) s = .next
      (upPair s (fun p => { p with partnerDirReady := true, partnerDirLost := true, partnerDir := [], partnerMap := [] })) := by
  change execPartnerDirectoryRebuild false s = _
  simp only [execPartnerDirectoryRebuild, tether_of_up up, fosters, unready]
  rfl

theorem partnerDirectoryRebuild_of_found {s : State} {r : Root} {b : PartnerBuild} (fosters : s.pair.fostering = true)
    (unready : s.pair.partnerDirReady = false) (newest : partnerNewest s = some r)
    (built : b = (partnerRecords s r.jstart).foldl PartnerBuild.apply {
      dir := r.volumes.flatMap (fun v => v.2.dir.map (fun d => (v.1, d.1, d.2))), map := [] }) (up : inReset s islTether = false) :
    exec (.partnerDirectoryRebuild true) s = .next
      (upPair s (fun p => { p with partnerDirReady := true, partnerDirLost := false, partnerDir := b.dir, partnerMap := b.map })) := by
  change execPartnerDirectoryRebuild true s = _
  simp only [execPartnerDirectoryRebuild, tether_of_up up, fosters, unready, newest, built]
  rfl

/-- Settles O33: each message is taken as its handler takes it, and each clause is the branch that the clause's conditions select; a HELLO
is judged by what refuses it. -/
theorem tetherCommandsComplete : Obligations.TetherCommandsComplete := by
  refine ⟨?_, ?_, ?_, ?_, ?_, ?_, ?_, ?_, ?_, ?_, ?_, ?_, ?_, ?_, ?_, ?_, ?_, ?_, ?_⟩
  · exact fun _ _ _ _ _ _ _ _ _ _ unpaired solo up => tether_next_of_up up (onHello_of_solo unpaired solo)
  · intro s p serial node w0 w1 w2 blocks limit pub proof pairing unagreed up
    cases judged : helloRefusal s p.token serial [w0, w1, w2] blocks limit pub proof with
    | some r => exact tether_next_of_up up (onHello_of_refused pairing unagreed judged)
    | none => exact tether_next_of_up up (onHello_of_agreeing pairing unagreed judged)
  · exact fun _ vol capacity attrs paired alone up => tether_next_of_up up (onKeyTransfer_of_install vol capacity attrs paired alone)
  · exact fun _ vol capacity attrs paired up => tether_next_of_up up (onKeyTransfer_of_destroy vol capacity attrs paired)
  · exact fun _ _ _ _ _ _ stores whole up => tether_next_of_up up (onMirrorWrite_of_whole stores whole)
  · exact fun _ _ up => tether_next_of_up up rfl
  · exact fun _ _ up => tether_next_of_up up rfl
  · exact fun _ _ _ stores some_ most nonempty next up => tether_next_of_up up (onJournal_of_next stores some_ most nonempty next)
  · exact fun _ _ written up => tether_next_of_up up (onJournalConfirm_of_written written)
  · exact fun _ _ numbered alone stores up => tether_next_of_up up (onRoot_of_stored numbered alone stores)
  · intro s u count status solo heard paired unfenced up
    have known : s.pair.state ≠ 0 := by rw [solo]; decide
    exact (tether_of_up up).trans ((if_neg known).trans (congrArg Host.Outcome.next
      (meetPartner_of_paired status heard.symm paired unfenced)))
  · exact fun _ => ⟨rfl, rfl, rfl, rfl⟩
  · exact fun _ => heartbeatSend_of_carried
  · exact fun _ => heartbeatTimeout_of_silent
  · exact fun _ suspect mesh unclaimed unfenced fewer up => (probeTimer_of_suspect suspect mesh unclaimed up).trans
      (congrArg Host.Outcome.next (probeNext_of_fewer unfenced fewer))
  · exact fun _ suspect mesh unclaimed unfenced four up => (probeTimer_of_suspect suspect mesh unclaimed up).trans
      (congrArg Host.Outcome.next (probeNext_of_unanswered unfenced four))
  · exact fun _ _ => claimRetry_of_due
  · exact fun _ => partnerDirectoryRebuild_of_unfound
  · exact fun _ _ _ => partnerDirectoryRebuild_of_found

end Sys2Proof.Machine
end

section
/-! SUPPORT. Blocks read for the partner (R359), the hand-back and its cut-over (R362), a pair's claim by YIELD (R355), its separation (R348)
and its return to the link (Table 14.6). Log entry 52 gives the readings of the twin-pair protocol. -/

namespace Sys2Proof.Machine
open Sys2Proof

/-! ### Blocks for the partner (R359) -/

theorem onBlockRead_of_readable {s : State} {vol lba blocks : Nat} {m : MediaIn} {v : Volume} {l : List (List Byte)} (req : Nat)
    (paired : s.pair.state ≠ 0) (volume : mget s.med.volumes vol = some v) (inside : lba + blocks ≤ v.capacity)
    (readable : (span lba blocks).mapM (partnerBlock s m vol) = some l) :
    onBlockRead s req vol lba blocks m = sendT s (.blockData req stSuccess l.flatten) := by
  simp only [onBlockRead, if_neg paired, volume, if_pos inside, readable]

theorem onBlockRead_of_noVolume {s : State} {vol : Nat} (req lba blocks : Nat) (m : MediaIn) (paired : s.pair.state ≠ 0)
    (absent : mget s.med.volumes vol = none) : onBlockRead s req vol lba blocks m = sendT s (.blockData req stUnrecovered []) := by
  simp only [onBlockRead, if_neg paired, absent]

theorem onBlockData_of_asked {s : State} {req v lba : Nat} (data : List Byte)
    (asked : s.pair.reads.find? (fun x => x.1 == req) = some (req, v, lba)) :
    onBlockData s req 0 data = upPair s (fun p => { p with
      reads := p.reads.filter (fun y => y.1 != req), readData := p.readData ++ [(v, lba, fit 4096 data)] }) := by
  simp only [onBlockData, asked]
  rfl

/-! ### The hand-back and its cut-over (R362) -/

theorem onHandback_of_newer {s : State} {w vol lba : Nat} {v : Volume} {data : List Byte} (volume : mget s.med.volumes vol = some v)
    (rejoins : s.pair.state = 4) (own : v.foster = false) (inside : lba < v.capacity)
    (newer : s.pair.handed.any (fun h => h.1 == vol && h.2.1 == lba && decide (w ≤ h.2.2)) = false) (whole : data.length = 4096) :
    onHandback s w vol 0 lba data = upPair (stageBlock s vol lba data) (fun p => { p with
      handed := p.handed.filter (fun h => !(h.1 == vol && h.2.1 == lba)) ++ [(vol, lba, w)] }) := by
  have taken : ¬ (s.pair.state ≠ 4 ∨ v.foster = true ∨ v.capacity ≤ lba ∨ (!!s.pair.handed.any (fun h =>
      h.1 == vol && h.2.1 == lba && decide (w ≤ h.2.2))) = true) := by
    simp only [rejoins, own, newer, Nat.not_le.2 inside]
    decide
  have sound : ¬ (1 < 0 ∨ data.length ≠ if 0 = 0 then 4096 else 0) := by simp [whole]
  simp only [onHandback, volume]
  exact (if_neg taken).trans (if_neg sound)

theorem handbackPass_of_sent {s u : State} {h : Handback} {m : MediaIn} {n : Nat} (passing : s.pair.handback = some h)
    (sent : handRound s m h.todo = (u, [], n)) (up : inReset s islTether = false) :
    exec (.handbackPass m) s = .next
      (endPass (upPair u (fun p => { p with handback := some { h with todo := [], sent := h.sent + n }, handbackLeft := 0 })) { h with
        todo := [], sent := h.sent + n }) := by
  change execHandbackPass m s = _
  simp only [execHandbackPass, tether_of_up up, passing, sent]
  rfl

theorem onCutover_of_rejoined {s : State} (rejoins : s.pair.state = 4) (unasked : s.pair.pairing = none) (own : s.mesh.replaced = [])
    (link : s.pair.meshMirror = false) :
    onCutover s = resendJournal (upPair s (fun p => { p with
      state := 2, held := false, handed := [], pairing := none, suspect := false, probes := 0, events := p.events ||| 16 })) := by
  have back : upPair s (fun p => { p with
      state := if p.meshMirror then 3 else 2, held := false, handed := [], pairing := none, suspect := false, probes := 0,
      events := p.events ||| 16 }) = upPair s (fun p => { p with
        state := 2, held := false, handed := [], pairing := none, suspect := false, probes := 0, events := p.events ||| 16 }) :=
    upPair_congr (by simp only [link, Bool.false_eq_true, if_false])
  simp only [onCutover, rejoins, unasked, back, upPair_mesh, own]
  rfl

/-! ### Claims (R351, R355) -/

theorem onYield_of_partnered {s : State} (paired : partnered s = true) :
    onYield s = startClaim (upPair (suspectPartner s) (fun p => { p with probes := 4 })) := if_pos paired

theorem startClaim_of_noWitness {s : State} (unclaimed : s.pair.claim = none) (paired : s.pair.state = 2)
    (unfenced : s.pair.fenced = false) (unwitnessed : validWitnesses s = []) :
    startClaim s = winClaim (upPair s (fun p => { p with claimNo := p.claimNo + 1 })) 0 false := by
  have none_ : validWitnesses (upPair s (fun p => { p with claimNo := p.claimNo + 1 })) = [] := unwitnessed
  simp only [startClaim, unclaimed, paired, unfenced, none_]
  rfl

/-! ### Separation and the return to the link (R348, Table 14.6) -/

theorem onUnpair_of_paired {s : State} (paired : s.pair.state ≠ 0) :
    onUnpair s = trySeparate (upPair s (fun p => { p with draining := true, unpairSeen := true })) := if_neg paired

theorem trySeparate_of_exchanged {s : State} (draining : s.pair.draining = true) (paired : partnered s = true)
    (sent : s.pair.unpairSent = true) (seen : s.pair.unpairSeen = true) (alone : s.pair.fostering = false) :
    trySeparate s = separate s := by
  simp [trySeparate, draining, paired, sent, seen, alone]

/-- What a separation leaves of the pair, and of what it held for the partner. -/
theorem separate_of_unasked {s : State} (unasked : s.pair.unpairing = none) :
    (separate s).pair.state = 0 ∧ (separate s).pair.pairId = 0 ∧ (separate s).pair.entriesIn = [] ∧
      (separate s).med.partnerRing = [] ∧ (separate s).med.partnerRoot0 = none ∧
      (separate s).sec.keyLog.all (fun k => k.kind != 1) = true := by
  simp only [separate, unasked]
  exact ⟨rfl, rfl, rfl, rfl, rfl, List.all_eq_true.2 fun k kept => (List.mem_filter.1 kept).2⟩

theorem tetherStable_of_due {s : State} (mesh : s.pair.meshMirror = true) (link_ : s.pair.linkUp = true) (paired : s.pair.state = 3)
    (alone : s.pair.fostering = false) (unfenced : s.pair.fenced = false) (due : s.pair.upAt + 1000 ≤ s.glb.lifetime)
    (up : inReset s islTether = false) :
    exec .tetherStable s = .next { s with pair := { s.pair with meshMirror := false, state := 2 } } := by
  have early : ¬ s.glb.lifetime < s.pair.upAt + 1000 := Nat.not_lt.2 due
  change execTetherStable s = _
  simp only [execTetherStable, tether_of_up up, mesh, link_, early, upPair, paired, alone, unfenced]
  rfl

/-- Settles O34: each message is taken as its handler takes it, and each clause is the branch that the clause's conditions select. -/
theorem pairRecoveryCommandsComplete : Obligations.PairRecoveryCommandsComplete := by
  refine ⟨?_, ?_, ?_, ?_, ?_, ?_, ?_, ?_, ?_, ?_, ?_⟩
  · exact fun _ req _ _ _ _ _ _ paired volume inside readable up =>
      tether_next_of_up up (onBlockRead_of_readable req paired volume inside readable)
  · exact fun _ req _ lba blocks m paired absent up => tether_next_of_up up (onBlockRead_of_noVolume req lba blocks m paired absent)
  · exact fun _ _ _ _ data asked up => tether_next_of_up up (onBlockData_of_asked data asked)
  · exact fun _ _ _ _ _ _ volume rejoins own inside newer whole up =>
      tether_next_of_up up (onHandback_of_newer volume rejoins own inside newer whole)
  · exact fun _ _ _ _ _ => handbackPass_of_sent
  · exact fun _ rejoins unasked own link up => tether_next_of_up up (onCutover_of_rejoined rejoins unasked own link)
  · exact fun _ paired up => tether_next_of_up up (onYield_of_partnered paired)
  · exact fun _ => startClaim_of_noWitness
  · exact fun _ paired up => tether_next_of_up up (onUnpair_of_paired paired)
  · exact fun _ draining paired _ sent seen unasked alone =>
      ⟨trySeparate_of_exchanged draining paired sent seen alone, separate_of_unasked unasked⟩
  · exact fun _ => tetherStable_of_due

end Sys2Proof.Machine
end

section
/-! SUPPORT. Flits, replays and resets of the Tether link (R334 to R339), as the link layer of log entry 31 takes them. -/

namespace Sys2Proof.Machine
open Sys2Proof

/-- A command of an island that is not in reset has its own effect (R51). -/
theorem island_of_up {s : State} {island : Nat} {x : Out} (up : inReset s island = false) :
    (if inReset s island then .next s else x) = x := if_neg (Bool.eq_false_iff.1 up)

theorem replayTether_of_unacked {s : State} (unacked : s.pair.link.unacked ≠ 0) (early : s.pair.link.replays < 4) :
    replayTether s = upPair s (fun p => { p with
      link := { p.link with replays := p.link.replays + 1 }, replays := satAdd p.replays s.pair.link.unacked }) :=
  if_neg (not_or.2 ⟨unacked, Nat.not_le.2 early⟩)

theorem tetherFlitReceive_of_badCrc {s : State} {f : TetherFlit} (linked : s.pair.linkUp = true) (damaged : tetherCrcOk f = false)
    (up : inReset s islTether = false) :
    exec (.tetherFlitReceive f) s = .next { s with pair := { s.pair with link := { s.pair.link with nak := true } } } := by
  change execTetherFlitReceive f s = .next (nakTether s)
  simp only [execTetherFlitReceive, island_of_up up, linked, damaged, Bool.not_true, Bool.not_false, Bool.false_eq_true, if_true, if_false]

theorem tetherFlitReceive_of_disorder {s : State} {f : TetherFlit} (linked : s.pair.linkUp = true) (sound : tetherCrcOk f = true)
    (data : f.idle = false) (disorder : f.fseq ≠ s.pair.link.rxCount % 4096) (up : inReset s islTether = false) :
    exec (.tetherFlitReceive f) s = .next { s with pair := { s.pair with link := { s.pair.link with nak := true } } } := by
  change execTetherFlitReceive f s = .next (nakTether s)
  simp only [execTetherFlitReceive, island_of_up up, linked, sound, data, if_pos disorder, Bool.not_true, Bool.false_eq_true, if_false]

theorem tetherFlitReceive_of_next {s : State} {f : TetherFlit} (linked : s.pair.linkUp = true) (sound : tetherCrcOk f = true)
    (data : f.idle = false) (order : f.fseq = s.pair.link.rxCount % 4096) (tag : f.tagOk = true) (up : inReset s islTether = false) :
    exec (.tetherFlitReceive f) s = .next
      (takeTetherHeader
      (takePayload (upPair s (fun p => { p with
        link := { p.link with rxCount := p.link.rxCount + 1, nak := false,
                              rxFreed := mset p.link.rxFreed f.vc (mgetD p.link.rxFreed f.vc 0 + 1) } })) f) f) := by
  change execTetherFlitReceive f s = _
  simp only [execTetherFlitReceive, island_of_up up, linked, sound, data, order, tag, Bool.false_and, Bool.not_true, 
    Bool.false_eq_true, if_true, if_false, ne_eq, not_true_eq_false]
  rfl

theorem tetherReplayTimeout_of_unacked {s : State} (linked : s.pair.linkUp = true) (unacked : s.pair.link.unacked ≠ 0)
    (early : s.pair.link.replays < 4) (up : inReset s islTether = false) :
    exec .tetherReplayTimeout s = .next
      { s with pair := { s.pair with link := { s.pair.link with replays := s.pair.link.replays + 1 },
                                     replays := satAdd s.pair.replays s.pair.link.unacked } } := by
  change execTetherReplayTimeout s = _
  simp only [execTetherReplayTimeout, island_of_up up, if_pos linked, replayTether_of_unacked unacked early]
  rfl

theorem tetherLinkReset_of_down {s : State} {speed width : Nat} (on : tetherOn s = true) (down : s.pair.linkUp = false)
    (speeds : speed = 2 ∨ speed = 3) (widths : width = 4 ∨ width = 8) (up : inReset s islTether = false) :
    exec (.tetherLinkReset speed width) s = .next
      (pumpTether (upPair s (fun p => { p with linkUp := true, rate := speed, width, upAt := s.glb.lifetime }))) := by
  have trains : ((speed == 2 || speed == 3) && (width == 4 || width == 8)) = true := by simp [speeds, widths]
  change execTetherLinkReset speed width s = _
  simp only [execTetherLinkReset, island_of_up up, on, down, trains]
  rfl

theorem tetherLinkReset_of_stalled {s : State} {speed width : Nat} (on : tetherOn s = true) (linked : s.pair.linkUp = true)
    (stalled : 4 ≤ s.pair.link.replays) (fast : speed = 3) (wide : width = 8) (up : inReset s islTether = false) :
    exec (.tetherLinkReset speed width) s = .next
      (pumpTether (upPair (tetherReset s) (fun p => { p with linkUp := true, rate := speed, width, upAt := s.glb.lifetime }))) := by
  have sameTime : (tetherReset s).glb.lifetime = s.glb.lifetime := by rw [(tetherReset_fr s).2 .glb (by decide)]
  have due : (s.pair.linkUp && decide (s.pair.link.replays < 4)) = false := by simp [Nat.not_lt.2 stalled]
  change execTetherLinkReset speed width s = _
  simp only [execTetherLinkReset, island_of_up up, on, due, if_pos linked, fast, wide, sameTime, Bool.not_true, Bool.or_self,
    Bool.false_eq_true, if_false]
  rfl

/-- Settles O32: each clause is the branch of its command that the clause's conditions select. -/
theorem tetherLinkCommandsComplete : Obligations.TetherLinkCommandsComplete := by
  refine ⟨?_, ?_, ?_, ?_, ?_, ?_⟩
  · exact fun _ _ => tetherFlitReceive_of_badCrc
  · exact fun _ _ => tetherFlitReceive_of_disorder
  · exact fun _ _ => tetherFlitReceive_of_next
  · exact fun _ => tetherReplayTimeout_of_unacked
  · exact fun _ _ _ => tetherLinkReset_of_down
  · exact fun _ _ _ => tetherLinkReset_of_stalled

end Sys2Proof.Machine
end

section
/-! SUPPORT. Flits and replays of the Trail ports, their neighbours and the flooded map (R368 to R373), and the probes, claims and tunnelled
messages of a pair (R350 to R353). Log entry 53 gives the readings of a port that comes up. -/

namespace Sys2Proof.Machine
open Sys2Proof

theorem replayTrail_of_unacked {s u : State} {port : Nat} (unacked : (portAt s port).link.unacked ≠ 0)
    (after : u = upMesh (modPort s port (fun p => { p with link := { p.link with replays := p.link.replays + 1 } }))
      (fun m => { m with replays := satAdd m.replays (portAt s port).link.unacked }))
    (early : (portAt u port).link.replays < 4) : replayTrail s port = u := by
  subst after
  exact (if_neg unacked).trans (if_neg (Nat.not_le.2 early))

theorem trailFlitReceive_of_next {s : State} {port : Nat} {f : TrailFlit} (live : (portAt s port).up = true)
    (sound : (portAt s port).failed = false) (good : trailCrcOk f = true) (data : f.idle = false)
    (order : f.fseq = (portAt s port).link.rxCount % 4096) (tag : f.tagOk = true) (up : inReset s (islTrail port) = false) :
    exec (.trailFlitReceive port f) s = .next
      (takeTrailHeader (takePacket (modPort s port (fun p => { p with link := p.link.accept (flitChannel f) })) port f) port f) := by
  change execTrailFlitReceive port f s = _
  simp only [execTrailFlitReceive, island_of_up up, live, sound, good, if_neg (Bool.eq_false_iff.1 data), if_neg (not_not_intro order),
    tag]
  rfl

theorem trailFlitReceive_of_badCrc {s : State} {port : Nat} {f : TrailFlit} (live : (portAt s port).up = true)
    (sound : (portAt s port).failed = false) (damaged : trailCrcOk f = false) (up : inReset s (islTrail port) = false) :
    exec (.trailFlitReceive port f) s = .next (modPort s port (fun p => { p with link := { p.link with nak := true } })) := by
  change execTrailFlitReceive port f s = _
  simp only [execTrailFlitReceive, live, sound, damaged, up]
  rfl

theorem trailReplayTimeout_of_unacked {s u : State} {port : Nat} (live : (portAt s port).up = true)
    (sound : (portAt s port).failed = false) (unacked : (portAt s port).link.unacked ≠ 0)
    (after : u = upMesh (modPort s port (fun p => { p with link := { p.link with replays := p.link.replays + 1 } })) (fun m => { m with
      replays := satAdd m.replays (portAt s port).link.unacked })) (early : (portAt u port).link.replays < 4)
    (up : inReset s (islTrail port) = false) :
    exec (.trailReplayTimeout port) s = .next u := by
  have replays : ((portAt s port).up && !(portAt s port).failed) = true := by simp only [live, sound]; rfl
  change execTrailReplayTimeout port s = _
  rw [execTrailReplayTimeout, island_of_up up, if_pos replays, replayTrail_of_unacked unacked after early]

theorem portFailed_of_enabled {s : State} {port : Nat} (six : port < 6) (enabled : (portAt s port).enabled = true)
    (sound : (portAt s port).failed = false) (up : inReset s (islTrail port) = false) :
    exec (.portFailed port) s = .next ((heldPackets s port ++ (portAt s port).out.map (·.2.2)).foldl reroute
      (floodOwn (rePartition (upMesh (modPort s port (fun p => { p with failed := true, up := false, out := [] })) (fun m => { m with
        failedLinks := (s.mesh.node, port) :: m.failedLinks }))))) := by
  have fails : ¬ (6 ≤ port || !(portAt s port).enabled || (portAt s port).failed) = true := by simp [Nat.not_le.2 six, enabled, sound]
  change execPortFailed port s = _
  rw [execPortFailed, island_of_up up, if_neg fails, failPort, if_neg (Bool.eq_false_iff.1 sound)]
  rfl

/-- A port at which a neighbour's LINK_HELLO is taken (R368). -/
theorem linkHello_heard {s : State} {port : Nat} (six : port < 6) (configured : s.mesh.configured = true)
    (enabled : (portAt s port).enabled = true) (sound : (portAt s port).failed = false) (untrained : (portAt s port).up = false)
    (healthy : s.sec.errorState = false) (serves : s.flt.containing.contains (islTrail port) = false) :
    ¬ (6 ≤ port || !s.mesh.configured || !(portAt s port).enabled || (portAt s port).failed || (portAt s port).up || s.sec.errorState ||
      s.flt.containing.contains (islTrail port)) = true := by
  simp only [decide_eq_false (Nat.not_le.2 six), configured, enabled, sound, untrained, healthy, serves]
  decide

theorem linkHello_of_neighbour {s u : State} {port serial node shape : Nat} {pub : List Byte} (six : port < 6)
    (configured : s.mesh.configured = true) (enabled : (portAt s port).enabled = true) (sound : (portAt s port).failed = false)
    (untrained : (portAt s port).up = false) (healthy : s.sec.errorState = false)
    (serves : s.flt.containing.contains (islTrail port) = false) (shaped : shape = meshShape s)
    (there : neighbourOf s s.mesh.node port = some node)
    (after : u = modPort (upSec (freeBytes (freshKey s).2 96).2 (fun e => { e with
      links := mset e.links (1 + port)
        { secret := some (Config.sharedSecret (secret (freshKey s).1 97) pub), counter := 0, rxCounter := 0, packets := 0,
          since := s.glb.lifetime } })) port (fun p => { p with up := true, neighbour := some node }))
    (up : inReset s (islTrail port) = false) :
    exec (.linkHello port serial node shape pub true) s = .next
      (putPort u port 0 6 (ownPkt u node 0xFFF (.linkHello Config.serial u.mesh.node (meshShape u) (secret (freshKey s).1 97)
      (freeBytes (freshKey s).2 96).1))) := by
  subst after
  have agrees : ¬ (shape ≠ meshShape s || neighbourOf s s.mesh.node port != some node || !true) = true := by simp [shaped, there]
  change execLinkHello port serial node shape pub true s = _
  rw [execLinkHello, island_of_up up]
  exact (if_neg (linkHello_heard six configured enabled sound untrained healthy serves)).trans (if_neg agrees)

theorem linkHello_of_unverified {s : State} {port serial node shape : Nat} {pub : List Byte} (six : port < 6)
    (configured : s.mesh.configured = true) (enabled : (portAt s port).enabled = true) (sound : (portAt s port).failed = false)
    (untrained : (portAt s port).up = false) (healthy : s.sec.errorState = false)
    (serves : s.flt.containing.contains (islTrail port) = false) (up : inReset s (islTrail port) = false) :
    exec (.linkHello port serial node shape pub false) s = .next (raise (failPort s port) (unit (islTrail port) 3)) := by
  change execLinkHello port serial node shape pub false s = _
  rw [execLinkHello, island_of_up up]
  exact (if_neg (linkHello_heard six configured enabled sound untrained healthy serves)).trans (if_pos (Bool.or_true _))

theorem linkState_of_unheard {s : State} {src seq : Nat} {l : List (Nat × Nat)} (configured : s.mesh.configured = true)
    (other : src ≠ s.mesh.node) (unheard : mget s.mesh.floods src = none) (up : inReset s islStripe = false) :
    exec (.linkState src seq l) s = .next
      (toNeighbours
      (rePartition (upMesh s (fun m => { m with
        floods := mset m.floods src seq, failedLinks := l.filter (fun x => !(s.mesh.failedLinks.filter (fun x => x.1 != src)).contains x)
          ++ s.mesh.failedLinks.filter (fun x => x.1 != src) }))) src (.linkState seq l)) := by
  change execLinkState src seq l s = _
  simp only [execLinkState, island_of_up up, configured, beq_eq_false_iff_ne.2 other, unheard]
  rfl

theorem unreachable_of_dropped {s : State} {src id : Nat} {r : Recon} {rc : StripeRec} {g : Group}
    (asked : s.mesh.recons.find? (fun r => r.request == id) = some r) (named : r.record = some rc) (grouped : groupAt s rc.group = some g)
    (undone : r.done = false) (unexhausted : r.exhausted = false)
    (dropped : (r.waits.filter (fun u => !(reachable s).contains (unitNode g rc.stripe u))).isEmpty = false) (other : src ≠ s.mesh.node)
    (up : inReset s islStripe = false) :
    ∃ l, l = r.waits.filter (fun u => !(reachable s).contains (unitNode g rc.stripe u)) ∧ exec (.unreachable src id 0x22) s = .next
      (askUnits (modRecon (upMesh s (fun m => { m with nextReq := (m.nextReq + 1) % 2 ^ 64 })) id (fun x => { x with
        request := s.mesh.nextReq, bad := x.bad ++ l, waits := [] })) { r with
        request := s.mesh.nextReq, bad := r.bad ++ l, waits := [] }) := by
  refine ⟨_, rfl, ?_⟩
  have lost : ¬ (0x22 ≠ 0x22 || r.done || r.exhausted ||
      (r.waits.filter (fun u => !(reachable s).contains (unitNode g rc.stripe u))).isEmpty || src == s.mesh.node) = true := by
    simp only [undone, unexhausted, dropped, beq_eq_false_iff_ne.2 other]
    decide
  change execUnreachable src id 0x22 s = _
  simp only [execUnreachable, island_of_up up, asked, named, grouped, Option.bind_some, Option.map_some]
  exact if_neg lost

theorem probe_of_own {s : State} {src pairId sender target number : Nat} (own : target = Config.serial)
    (up : inReset s islStripe = false) :
    exec (.probe src pairId sender target number) s = .next
      (sendPair s src pairId (.probeAck sender target number s.pair.state (pairStatusByte s))) := by
  change execProbe src pairId sender target number s = _
  simp only [execProbe, island_of_up up, if_neg (not_not_intro own)]

/-- A PROBE_ACK that answers this device's own probe of its partner, while it waits for one (R350). -/
theorem probeAck_answers {s : State} {pairId sender target : Nat} (pair : pairId = s.pair.pairId) (own : sender = Config.serial)
    (partner : target = s.pair.partner) (suspect : s.pair.suspect = true) :
    ¬ (pairId ≠ s.pair.pairId ∨ sender ≠ Config.serial ∨ target ≠ s.pair.partner ∨
      !(s.pair.suspect || s.pair.fenced || s.pair.state == 4)) := by simp [pair, own, partner, suspect]

theorem probeAck_of_mesh {s : State} {src pairId sender target number state status : Nat} (pair : pairId = s.pair.pairId)
    (own : sender = Config.serial) (partner : target = s.pair.partner) (suspect : s.pair.suspect = true) (mesh : s.pair.meshMirror = true)
    (up : inReset s islStripe = false) :
    exec (.probeAck src pairId sender target number state status) s = .next (hearPartner s) := by
  change execProbeAck src pairId sender target number state status s = _
  simp only [execProbeAck, island_of_up up]
  exact (if_neg (probeAck_answers pair own partner suspect)).trans (if_pos mesh)

theorem probeAck_of_link {s u : State} {src pairId sender target number state status : Nat} (pair : pairId = s.pair.pairId)
    (own : sender = Config.serial) (partner : target = s.pair.partner) (suspect : s.pair.suspect = true)
    (link : s.pair.meshMirror = false) (paired : s.pair.state = 2) (free : s.pair.fenced = false)
    (after : u = s.pair.out.foldl (fun s m => sendT s m.msg)
    (hearPartner (upPair (pairLog s 4 0xFF 0) (fun p => { p with meshMirror := true, out := [], state := 3 }))))
    (up : inReset s islStripe = false) :
    ∃ v, v = resendEntries u (u.pair.entriesOut.filter (fun e => !e.confirmed)) ∧ exec (.probeAck src pairId sender target number state
      status) s = .next (sendJournal v v.pair.jConfirmed (v.med.ring.length / 256 + 1)) := by
  refine ⟨_, rfl, ?_⟩
  have paired' : ¬ (s.pair.state = 4 ∨ s.pair.fenced = true) := by simp [paired, free]
  subst after
  change execProbeAck src pairId sender target number state status s = _
  simp only [execProbeAck, island_of_up up]
  exact (if_neg (probeAck_answers pair own partner suspect)).trans ((if_neg (Bool.eq_false_iff.1 link)).trans (if_neg paired'))

theorem claim_of_unrecorded {s : State} {src pairId claimant partner number : Nat}
    (unrecorded : (s.pair.records.find? (fun r => r.1 == pairId)) = none) (up : inReset s islStripe = false) :
    exec (.claim src pairId claimant partner number false) s = .next
      (sendPair (upPair s (fun p => { p with records := p.records ++ [(pairId, claimant)] })) src pairId
      (.claimGrant claimant partner number false)) := by
  change execClaim src pairId claimant partner number false s = _
  simp only [execClaim, unrecorded, up]
  rfl

theorem claim_of_other {s : State} {src pairId claimant partner number holder : Nat}
    (recorded : s.pair.records.find? (fun r => r.1 == pairId) = some (pairId, holder)) (other : holder ≠ claimant)
    (up : inReset s islStripe = false) :
    exec (.claim src pairId claimant partner number false) s = .next
      (sendPair s src pairId (.claimRefuse claimant partner number false holder)) := by
  change execClaim src pairId claimant partner number false s = _
  simp only [execClaim, island_of_up up, recorded, Option.map_some, Bool.false_eq_true, if_false]
  exact if_neg other

theorem claimGrant_of_majority {s : State} {src pairId claimant partner number i : Nat} {c : ClaimState}
    (answers : claimAnswer s src pairId claimant number = some (i, c))
    (majority : (validWitnesses s).length < 2 * (linsert c.grants i).length) (up : inReset s islStripe = false) :
    exec (.claimGrant src pairId claimant partner number false) s = .next
      (winClaim (upPair s (fun p => { p with
        claim := some { c with grants := linsert c.grants i, refusals := c.refusals.filter (· != i) } })) (linsert c.grants i).length
      false) := by
  change execClaimGrant src pairId claimant partner number false s = _
  simp only [execClaimGrant, island_of_up up, Bool.false_eq_true, if_false, answers]
  exact if_pos majority

theorem claimRefuse_of_majority {s : State} {src pairId claimant partner number holder i : Nat} {c : ClaimState}
    (answers : claimAnswer s src pairId claimant number = some (i, c))
    (majority : (validWitnesses s).length < 2 * (linsert c.refusals i).length) (up : inReset s islStripe = false) :
    exec (.claimRefuse src pairId claimant partner number holder) s = .next
      (loseClaim
      (upPair s (fun p => { p with claim := some { c with refusals := linsert c.refusals i, grants := c.grants.filter (· != i) } }))
      (linsert c.refusals i).length) := by
  change execClaimRefuse src pairId claimant partner number holder s = _
  simp only [execClaimRefuse, island_of_up up, answers]
  exact if_pos majority

/-- What a message that came by TUNNEL does: what the handler of its own type does (R353). -/
def takeTunnelled (s : State) (m : TMsg) : State :=
  match m with
  | .hello .. => onHello s m
  | .keyTransfer vol install capacity attrs _ => onKeyTransfer s vol install capacity attrs
  | .mirrorWrite seq vol op lba blocks data => onMirrorWrite s seq vol op lba blocks data
  | .mirrorConfirm seq => onMirrorConfirm s seq
  | .mirrorRelease seq => onMirrorRelease s seq
  | .journal first recs => onJournal s first recs
  | .journalConfirm last => onJournalConfirm s last
  | .root no r => onRoot s no r
  | .heartbeat _ st status => meetPartner s st status s.pair.partnerReadOnly
  | .blockRead req vol lba blocks => onBlockRead s req vol lba blocks { }
  | .blockData req status data => onBlockData s req status data
  | .handback wseq vol form lba data => onHandback s wseq vol form lba data
  | .cutover => onCutover s
  | .yieldMsg => onYield s
  | .unpair => onUnpair s

theorem tunnel_taken {s : State} {src : Nat} (m : TMsg) (node : src = s.pair.partnerNode) (paired : s.pair.state ≠ 0)
    (up : inReset s islStripe = false) : exec (.tunnel src m) s = .next (takeTunnelled s m) := by
  have taken : ¬ (src ≠ s.pair.partnerNode ∨ s.pair.state = 0) := not_or.2 ⟨not_not_intro node, paired⟩
  change execTunnel src m s = _
  simp only [execTunnel, island_of_up up, if_neg taken]
  cases m <;> rfl

theorem tunnel_of_release {s : State} {src seq : Nat} (node : src = s.pair.partnerNode) (paired : s.pair.state ≠ 0)
    (up : inReset s islStripe = false) :
    exec (.tunnel src (.mirrorRelease seq)) s = .next
      { s with pair := { s.pair with entriesIn := s.pair.entriesIn.filter (fun e => decide (seq < e.seq)) } } :=
  tunnel_taken (.mirrorRelease seq) node paired up

theorem tunnel_of_partner {s : State} {src : Nat} (node : src = s.pair.partnerNode) (paired : s.pair.state ≠ 0)
    (tether : inReset s islTether = false) (up : inReset s islStripe = false) :
    (∀ a b c d e f g h i, exec (.tunnel src (.hello a b c d e f g h i)) s = exec (.hello (.hello a b c d e f g h i)) s) ∧
      (∀ v i c a k, exec (.tunnel src (.keyTransfer v i c a k)) s = exec (.keyTransfer v i c a) s) ∧
      (∀ q v o l n d, exec (.tunnel src (.mirrorWrite q v o l n d)) s = exec (.mirrorWrite q v o l n d) s) ∧
      (∀ q, exec (.tunnel src (.mirrorConfirm q)) s = exec (.mirrorConfirm q) s) ∧ (∀ q, exec (.tunnel src (.mirrorRelease q)) s = exec
      (.mirrorRelease q) s) ∧ (∀ f l, exec (.tunnel src (.journal f l)) s = exec (.journal f l) s) ∧
      (∀ n, exec (.tunnel src (.journalConfirm n)) s = exec (.journalConfirm n) s) ∧ (∀ n r, exec (.tunnel src (.root n r)) s = exec
      (.root n r) s) ∧ (∀ n a b, exec (.tunnel src (.heartbeat n a b)) s = exec (.heartbeat n a b s.pair.partnerReadOnly) s) ∧
      (∀ q v l n, exec (.tunnel src (.blockRead q v l n)) s = exec (.blockRead q v l n { }) s) ∧
      (∀ q a d, exec (.tunnel src (.blockData q a d)) s = exec (.blockData q a d) s) ∧
      (∀ w v f l d, exec (.tunnel src (.handback w v f l d)) s = exec (.handback w v f l d) s) ∧ exec (.tunnel src .cutover) s = exec
      .cutover s ∧ exec (.tunnel src .yieldMsg) s = exec .yieldMsg s ∧ exec (.tunnel src .unpair) s = exec .unpair s := by
  have tunnelled {m : TMsg} {i : Instr} (same : exec i s = if inReset s islTether then .next s else .next (takeTunnelled s m)) :
      exec (.tunnel src m) s = exec i s :=
    (tunnel_taken m node paired up).trans ((tether_of_up tether).symm.trans same.symm)
  have beat (count state status : Nat) : exec (.heartbeat count state status s.pair.partnerReadOnly) s =
      if inReset s islTether then .next s else .next (takeTunnelled s (.heartbeat count state status)) := by
    rw [tether_of_up tether]
    exact (tether_of_up tether).trans (if_neg paired)
  exact ⟨fun _ _ _ _ _ _ _ _ _ => tunnelled rfl, fun _ _ _ _ _ => tunnelled rfl, fun _ _ _ _ _ _ => tunnelled rfl, fun _ => tunnelled rfl,
    fun _ => tunnelled rfl, fun _ _ => tunnelled rfl, fun _ => tunnelled rfl, fun _ _ => tunnelled rfl, fun _ _ _ => tunnelled (beat _ _ _),
    fun _ _ _ _ => tunnelled rfl, fun _ _ _ => tunnelled rfl, fun _ _ _ _ _ => tunnelled rfl, tunnelled rfl, tunnelled rfl, tunnelled rfl⟩

/-- Settles O35: each clause is the branch of its command that the clause's conditions select. -/
theorem trailCommandsComplete : Obligations.TrailCommandsComplete := by
  refine ⟨?_, ?_, ?_, ?_, ?_, ?_, ?_, ?_, ?_, ?_, ?_, ?_, ?_, ?_, ?_, ?_, ?_⟩
  · exact fun _ _ _ => trailFlitReceive_of_next
  · exact fun _ _ _ => trailFlitReceive_of_badCrc
  · exact fun _ _ _ => trailReplayTimeout_of_unacked
  · exact fun _ _ => portFailed_of_enabled
  · exact fun _ _ _ _ _ _ _ => linkHello_of_neighbour
  · exact fun _ _ _ _ _ _ => linkHello_of_unverified
  · exact fun _ _ _ _ => linkState_of_unheard
  · exact fun _ _ _ _ _ _ => unreachable_of_dropped
  · exact fun _ _ _ _ _ _ => probe_of_own
  · exact fun _ _ _ _ _ _ _ _ => probeAck_of_mesh
  · exact fun _ _ _ _ _ _ _ _ _ => probeAck_of_link
  · exact fun _ _ _ _ _ _ => claim_of_unrecorded
  · exact fun _ _ _ _ _ _ _ => claim_of_other
  · exact fun _ _ _ _ _ _ _ _ => claimGrant_of_majority
  · exact fun _ _ _ _ _ _ _ _ _ => claimRefuse_of_majority
  · exact fun _ _ _ node paired _ up => tunnel_of_release node paired up
  · exact fun _ _ => tunnel_of_partner

end Sys2Proof.Machine
end

section
/-! SUPPORT. MESH_CONFIG (R367), the join and leave of a stripe group (R375) and its rebuild (R388, R390). Log entry 36 gives the readings
of joining and leaving. -/

namespace Sys2Proof.Machine
open Sys2Proof

theorem meshConfig_completes {s : State} {tag : Nat} {o : Op} (found : opFor s tag 0x0804 = some o)
    (passed : checkObjects s o.pkt = none) :
    ∃ u, exec (.meshConfig tag) s = .next (finish (rePartition u) tag (ok 0 0)) ∧ u.mesh.configured = true ∧ u.mesh.node = o.pkt.p0 ∧
      u.mesh.xs = bits o.pkt.p1 3 0 ∧ u.mesh.ys = bits o.pkt.p1 7 4 ∧ u.mesh.zs = bits o.pkt.p1 10 8 ∧ u.mesh.wrap = bits o.pkt.p1 13 11 ∧
      u.mesh.ports = (s.mesh.ports.zip (List.range 6)).map (fun x => if bit o.pkt.p2 x.2 then { x.1 with enabled := true } else
      { Port.reset with sat := x.1.sat }) ∧ ChangesOnly [.mesh] s u := by
  refine ⟨upMesh s (fun m => { m with
    node := o.pkt.p0, configured := true, xs := bits o.pkt.p1 3 0, ys := bits o.pkt.p1 7 4, zs := bits o.pkt.p1 10 8,
    wrap := bits o.pkt.p1 13 11, ports := (m.ports.zip (List.range 6)).map (fun x =>
      if bit o.pkt.p2 x.2 then { x.1 with enabled := true } else { Port.reset with sat := x.1.sat }) }),
    ?_, rfl, rfl, rfl, rfl, rfl, rfl, rfl, upMesh_fr _ _⟩
  change execMeshConfig tag s = _
  simp only [execMeshConfig, found, passed]

theorem stripeGroupJoin_of_sound {s : State} {tag : Nat} {o : Op} {host : HostRead} {b : List Byte} {l : List Nat} {slot : Nat}
    {g : Group} (found : opFor s tag 0x0805 = some o) (waiting : o.stage ≠ .running) (passed : checkObjects s o.pkt = none)
    (read : input s o host o.pkt.dlen = some (.data b)) (list : l = (List.range (bits o.pkt.p1 4 0 + bits o.pkt.p1 10 8)).map
    (fun i => num b (2 * i) 2)) (distinct : l.eraseDups.length = bits o.pkt.p1 4 0 + bits o.pkt.p1 10 8)
    (nodes : l.any (fun n => decide (2048 ≤ n)) = false) (place : l[bits o.pkt.p1 20 16]? = some s.mesh.node)
    (free : (List.range 8).find? (fun i => (mget s.mesh.groups i).isNone) = some slot)
    (joined : g = { id := o.pkt.p0, k := bits o.pkt.p1 4 0, m := bits o.pkt.p1 10 8, index := bits o.pkt.p1 20 16, state := 1, lost := [],
                    members := l, hello := [], leaving := [], next := 0, tag := some tag, since := s.glb.lifetime, closed := 0,
                    rebuilds := 0, failedStripes := 0 }) :
    exec (.stripeGroupJoin tag host) s = .next
      (tryActive ((s.mesh.helloSeen.filter (fun h => h.group == o.pkt.p0)).foldl (fun s h => countHello s h.src h.group h.k h.m h.index
      h.digest) (sendOthers (upMesh (running s tag) (fun m => { m with
        groups := mset m.groups slot g, helloSeen := m.helloSeen.filter (fun h => h.group != o.pkt.p0) })) g (helloBody g)))
      o.pkt.p0) := by
  have sound : ¬ (l.eraseDups.length ≠ bits o.pkt.p1 4 0 + bits o.pkt.p1 10 8 || l.any (fun n => decide (2048 ≤ n)) ||
      l[bits o.pkt.p1 20 16]? != some s.mesh.node) = true := by
    simp only [distinct, nodes, place, ne_eq, not_true_eq_false, decide_false, bne_self_eq_false]
    decide
  subst list joined
  change execStripeGroupJoin tag host s = _
  simp only [execStripeGroupJoin, found, waiting, passed, read, free, Option.getD_some, if_false]
  exact if_neg sound

theorem stripeGroupLeave_of_member {s : State} {tag : Nat} {o : Op} {g : Group} (found : opFor s tag 0x0806 = some o)
    (waiting : o.stage ≠ .running) (group : groupAt s o.pkt.p0 = some g) (joined : g.state ≠ 1) (staying : g.state ≠ 5) :
    exec (.stripeGroupLeave tag) s = .next
      (tryDissolve
      (sendOthers (modGroup (running s tag) g.id (fun g => { g with state := 5, tag := some tag, leaving := linsert g.leaving g.index }))
      g (helloBody g)) g.id) := by
  change execStripeGroupLeave tag s = _
  simp only [execStripeGroupLeave, found, waiting, group, joined, staying]
  rfl

theorem rebuildStart_of_formed {s : State} {tag : Nat} {o : Op} {g : Group} (found : opFor s tag 0x0807 = some o)
    (passed : checkObjects s o.pkt = none) (group : groupAt s o.pkt.p0 = some g) (formed : g.formed = true)
    (idle : s.mesh.rebuild = none) :
    exec (.rebuildStart tag) s = .next
      (gatherDone (sendOthers (upMesh (modGroup (finish s tag (ok 0 0)) g.id (fun g => { g with state := 4 })) (fun m => { m with
        nextReq := (m.nextReq + 1) % 2 ^ 64,
        rebuild := some { group := g.id, request := s.mesh.nextReq, answers := [], todo := [], bad := [], part := [], rebuilt := 0,
                          since := s.glb.lifetime, failed := 0, gathered := false } })) g
      (.locate s.mesh.nextReq s.mesh.node 0xFFFFFFFF 0)) g) := by
  change execRebuildStart tag s = _
  simp only [execRebuildStart, found, passed, group, formed, idle]
  rfl

theorem rebuildStatus_of_running {s : State} {tag : Nat} {o : Op} {b : Rebuild} (found : opFor s tag 0x0808 = some o)
    (group : (groupAt s o.pkt.p0).isSome = true) (rebuilds : s.mesh.rebuild = some b) (same : b.group = o.pkt.p0) :
    exec (.rebuildStatus tag) s = .next (finish s tag (ok b.rebuilt b.todo.length)) := by
  have known : ¬ (groupAt s o.pkt.p0).isNone = true := by simp [Option.isNone_eq_false_iff.2 group]
  have shown : (some b).filter (fun b => b.group == o.pkt.p0) = some b := Option.filter_eq_some_iff.2 ⟨rfl, beq_iff_eq.2 same⟩
  change execRebuildStatus tag s = _
  simp only [execRebuildStatus, found, if_neg known, rebuilds, shown]

/-- Settles O17: each clause is the branch of its command that the clause's conditions select. -/
theorem meshCommandsComplete : Obligations.MeshCommandsComplete := by
  refine ⟨?_, ?_, ?_, ?_, ?_⟩
  · exact fun _ _ _ => meshConfig_completes
  · exact fun _ _ _ _ _ _ _ _ => stripeGroupJoin_of_sound
  · exact fun _ _ _ _ => stripeGroupLeave_of_member
  · exact fun _ _ _ _ => rebuildStart_of_formed
  · exact fun _ _ _ _ => rebuildStatus_of_running

end Sys2Proof.Machine
end

section
/-! SUPPORT. The messages, deadlines and parity of a stripe group's members (R375 to R384). Log entry 36 gives the readings of INTENT, of its
repetition and of one that waits. -/

namespace Sys2Proof.Machine
open Sys2Proof

/-- A position that nothing of a stripe has been accepted for holds no segment. -/
theorem accepted_contains_of_free {l : List (Nat × Nat × Nat)} {d : Nat} (free : l.any (fun a => a.1 == d) = false) (band seg : Nat) :
    l.contains (d, band, seg) = false := by
  refine Bool.eq_false_iff.2 fun held => ?_
  have taken : l.any (fun a => a.1 == d) = true :=
    List.any_eq_true.2 ⟨(d, band, seg), List.contains_iff_mem.1 held, beq_self_eq_true d⟩
  exact Bool.false_ne_true (free.symm.trans taken)

theorem groupHello_of_unjoined {s : State} {src group k m index : Nat} {d : List Byte} (unjoined : groupAt s group = none)
    (up : inReset s islStripe = false) :
    exec (.groupHello src group k m index d) s = .next
      (upMesh s (fun x => { x with helloSeen := x.helloSeen.filter (fun h => !(h.src == src && h.group == group)) ++ [{
                                     src, group, k, m, index, digest := d }] })) := by
  change execGroupHello src group k m index d s = _
  simp only [execGroupHello, island_of_up up, unjoined]

theorem groupHello_of_matching {s : State} {src group k m index : Nat} {g : Group} (grouped : groupAt s group = some g)
    (joining : g.state = 1) (sameK : g.k = k) (sameM : g.m = m) (place : g.members[index]? = some src) (other : index ≠ g.index)
    (up : inReset s islStripe = false) :
    exec (.groupHello src group k m index (listDigest g.members)) s = .next
      (tryActive (modGroup s group (fun g => { g with hello := linsert g.hello index })) group) := by
  have matching : (g.k = k && g.m = m && g.members[index]? == some src && index != g.index &&
      listDigest g.members == listDigest g.members) = true := by simp [sameK, sameM, place, other]
  change execGroupHello src group k m index (listDigest g.members) s = _
  simp only [execGroupHello, island_of_up up, grouped, countHello, joining]
  exact congrArg Host.Outcome.next (if_pos matching)

theorem groupHelloTimeout_of_late {s : State} {group tag : Nat} {g : Group} (grouped : groupAt s group = some g) (joining : g.state = 1)
    (command : g.tag = some tag) (late : g.since + 10000 ≤ s.glb.lifetime) :
    exec (.groupHelloTimeout group) s = .next
      (finish (upMesh s (fun m => { m with groups := m.groups.filter (fun x => x.2.id != group) })) tag (bad 0x20)) := by
  change execGroupHelloTimeout group s = _
  simp only [execGroupHelloTimeout, grouped, if_neg (not_or.2 ⟨not_not_intro joining, Nat.not_lt.2 late⟩), command]

theorem intent_of_free {s u : State} {src group stripe d band seg i : Nat} {g : Group} {x : Stripe} (grouped : groupAt s group = some g)
    (member : memberIdx g src = some i) (formed : g.formed = true) (position : posOf g stripe i = some d)
    (primary : primaryOf g stripe = some g.index) (held : (stripeAt s group stripe).getD (newStripe group stripe) = x)
    (unfixed : x.isFixed = false) (free : x.accepted.any (fun a => a.1 == d) = false) (room : allot (holdStripe s group stripe) group
    stripe = some u) (up : inReset s islStripe = false) :
    ∃ v, v = answerIntent
      (modStripe u group stripe (fun x => { x with
        opened := some (x.opened.getD (feature u 5)), openedAt := if x.opened.isSome then x.openedAt else u.glb.lifetime,
        accepted := (((stripeAt s group stripe).getD (newStripe group stripe)).accepted ++ [(d, band, seg)]) })) g src i stripe 0 ∧ exec
      (.intent src group stripe d band seg) s = .next (if (x.accepted ++ [(d, band, seg)]).length = g.k then fixStripe v g x
      (x.accepted ++ [(d, band, seg)]) else v) := by
  refine ⟨_, rfl, ?_⟩
  have asked : ¬ (!g.formed || posOf g stripe i != some d) = true := by simp [formed, position]
  have here : ¬ (primaryOf g stripe != some g.index) = true := by simp [primary]
  have late : ¬ (x.isFixed || x.accepted.any (fun a => a.1 == d)) = true := by simp only [unfixed, free]; decide
  subst held
  change execIntent src group stripe d band seg s = _
  simp only [execIntent, island_of_up up, grouped, member, if_neg asked, if_neg here, accepted_contains_of_free free, Bool.false_and,
    Bool.false_eq_true, if_false, if_neg late, room]

theorem intentReply_of_accept {s : State} {src group stripe lowest : Nat} {g : Group} {o : OwnSeg} (grouped : groupAt s group = some g)
    (own : ownIn s group stripe = some o) (offered : o.stage = 1) (sender : (memberIdx g src).isNone = false)
    (up : inReset s islStripe = false) :
    exec (.intentReply src group stripe 0 lowest) s = .next
      (offerNext (contribute (modGroup (modOwn s o.band o.seg (fun o => { o with stage := 2 })) group (fun g => { g with
        next := max g.next (stripe + 1) })) g o (List.range g.m)) group) := by
  change execIntentReply src group stripe 0 lowest s = _
  simp only [execIntentReply, grouped, own, offered, sender, up]
  rfl

theorem intentReply_of_late {s : State} {src group stripe lowest : Nat} {g : Group} {o : OwnSeg} (grouped : groupAt s group = some g)
    (own : ownIn s group stripe = some o) (offered : o.stage = 1) (sender : (memberIdx g src).isNone = false)
    (up : inReset s islStripe = false) :
    exec (.intentReply src group stripe 1 lowest) s = .next (offerSeg (upMesh s (fun m => { m with late := satInc m.late })) g o.band
      o.seg (max (stripe + 1) lowest)) := by
  change execIntentReply src group stripe 1 lowest s = _
  simp only [execIntentReply, grouped, own, offered, sender, up]
  rfl

theorem stripeDeadline_of_passed {s : State} {group stripe ms : Nat} {g : Group} {x : Stripe} (grouped : groupAt s group = some g)
    (held : stripeAt s group stripe = some x) (opened : x.opened = some ms) (passed : x.openedAt + ms ≤ s.glb.lifetime)
    (unfixed : x.isFixed = false) (primary : primaryOf g stripe = some g.index) (up : inReset s islStripe = false) :
    exec (.stripeDeadline group stripe) s = .next (fixStripe s g x x.accepted) := by
  have fixes : ¬ (decide (s.glb.lifetime < x.openedAt + ms) || x.isFixed || primaryOf g stripe != some g.index) = true := by
    simp [passed, unfixed, primary]
  change execStripeDeadline group stripe s = _
  simp only [execStripeDeadline, island_of_up up, grouped, held, opened, if_neg fixes]

theorem modStripe_congr {s : State} {group num : Nat} {f g : Stripe → Stripe} (same : ∀ y, y.num = num → f y = g y) :
    modStripe s group num f = modStripe s group num g := by
  have each (y : Stripe) : (if y.group = group ∧ y.num = num then f y else y) = if y.group = group ∧ y.num = num then g y else y :=
    ite_congr rfl (fun named => same y named.2) (fun _ => rfl)
  simp only [modStripe, each]

theorem fixStripe_of_open {s : State} {g : Group} {x : Stripe} {l : List (Nat × Nat × Nat)} (open_ : x.record = none) :
    fixStripe s g x l = sendOthers
      (upMesh (modStripe s g.id x.num (fun x => { x with accepted := l, record := some (recordFrom g x.num l) })) (fun m => { m with
        zeroPositions := (m.zeroPositions + (recordFrom g x.num l).zeroCount) % 2 ^ 32 })) g (.close x.num (recordFrom g x.num l)) := by
  have fixed : modStripe s g.id x.num (fun y => { y with accepted := l, record := some (recordFrom g x.num l) }) =
      modStripe s g.id x.num (fun y => { y with accepted := l, record := some (recordFrom g y.num l) }) :=
    modStripe_congr fun y named => by rw [named]
  simp only [fixStripe, open_, Option.map_none, Option.getD_none, Nat.sub_zero, fixed]

theorem contrib_of_new {s u : State} {src group stripe p d j : Nat} {x : Coded} {g : Group} {y : Stripe}
    (grouped : groupAt s group = some g) (formed : g.formed = true) (position : (memberIdx g src).bind (posOf g stripe) = some d)
    (row : rowOf g stripe g.index = some j) (codeword : p < 256) (held : stripeAt (holdStripe s group stripe) group stripe = some y)
    (present : (y.record.map (fun r => bit r.zero d)).getD false = false) (unprogrammed : y.parity = none)
    (unreleased : y.released = false) (new : y.got.contains (d, p) = false) (room : allot (holdStripe s group stripe) group stripe = some
    u) (up : inReset s islStripe = false) :
    exec (.contrib src group stripe p d j x) s = .next
      (modStripe u group stripe (fun y => { y with
        got := y.got ++ [(d, p)], acc := mset y.acc p (match mget y.acc p with | some a => a.add x | none => x) })) := by
  have meant : ¬ (!g.formed || (memberIdx g src).bind (posOf g stripe) != some d || rowOf g stripe g.index != some j ||
      decide (256 ≤ p)) = true := by simp [formed, position, row, codeword]
  have wanted : ¬ (y.parity.isSome || y.released || (y.record.map (fun r => bit r.zero d)).getD false || y.got.contains (d, p)) = true := by
    simp only [unprogrammed, unreleased, present, new]
    decide
  change execContrib src group stripe p d j x s = _
  simp only [execContrib, island_of_up up, grouped, if_neg meant, held, if_neg wanted, room] <;> rfl

theorem close_of_unit {s : State} {src group stripe d : Nat} {row : Bool} {r : StripeRec} {g : Group} (grouped : groupAt s group = some g)
    (sender : (memberIdx g src).isNone = false) (formed : g.formed = true) (unit_ : unitOfMember g stripe g.index = some (d, row))
    (up : inReset s islStripe = false) :
    exec (.close src group stripe r) s = .next (if row then closeHolder s g stripe r else closeMember s g stripe d r) := by
  have meant : ¬ ((memberIdx g src).isNone || !g.formed) = true := by simp only [sender, formed]; decide
  change execClose src group stripe r s = _
  simp only [execClose, island_of_up up, grouped, if_neg meant, unit_]
  cases row <;> rfl

theorem parityProgram_of_full {s u : State} {group stripe j : Nat} {g : Group} {x : Stripe} {r : StripeRec} {place : Nat × Nat}
    (grouped : groupAt s group = some g) (held : stripeAt s group stripe = some x) (record : x.record = some r)
    (row : rowOf g stripe g.index = some j) (unprogrammed : x.parity = none) (unreleased : x.released = false) (full : x.full r = true)
    (room : putParity s r (fun p => mgetD x.acc p Coded.zero) = some (place, u)) (up : inReset s islStripe = false) :
    exec (.parityProgram group stripe) s = .next (tryRelease (rowProgrammed u g stripe j place) g stripe) := by
  change execParityProgram group stripe s = _
  simp only [execParityProgram, grouped, held, record, row, unprogrammed, unreleased, full, room, up]
  rfl

theorem parityDone_of_own {s : State} {src group stripe j : Nat} {g : Group} {o : OwnSeg} (grouped : groupAt s group = some g)
    (row : (memberIdx g src).bind (rowOf g stripe) = some j) (own : ownIn s group stripe = some o) (accepted : o.stage = 2)
    (up : inReset s islStripe = false) :
    exec (.parityDone src group stripe j) s = .next (ownRows s g o (linsert o.rows j)) := by
  change execParityDone src group stripe j s = _
  simp only [execParityDone, island_of_up up, grouped, row, bne_self_eq_false, own, if_pos accepted]
  rfl

theorem gossip_of_positions {s : State} {src group : Nat} {l : List (Nat × Nat)} {g : Group} (grouped : groupAt s group = some g)
    (positions : l.all (fun x => (memberIdx g src).bind (posOf g x.1) == some x.2) = true) (room : jRoom s 1 = true)
    (up : inReset s islStripe = false) :
    exec (.gossip src group l) s = .next (l.foldl (fun s x => tryRelease (markDead s g x.1 x.2) g x.1) s) := by
  have all : l.filter (fun x => (memberIdx g src).bind (posOf g x.1) == some x.2) = l :=
    List.filter_eq_self.2 (List.all_eq_true.1 positions)
  change execGossip src group l s = _
  simp only [execGossip, island_of_up up, grouped, all, room]
  rfl

theorem gossipSend_of_due {s : State} {n : Nat} {g : Group} (groups : s.mesh.groups = [(n, g)])
    (dead : (newlyDead s g.id).isEmpty = false) (due : s.mesh.gossipAt + 100 ≤ s.glb.lifetime) (up : inReset s islStripe = false) :
    exec .gossipSend s = .next
      (sendOthers ((newlyDead s g.id).foldl (fun s o => modOwn s o.band o.seg (fun o => { o with gossiped := true }))
      (upMesh s (fun m => { m with gossipAt := s.glb.lifetime }))) g (.gossip ((newlyDead s g.id).map (fun o => (o.stripe, o.d))))) := by
  have sends : ¬ (inReset s islStripe || decide (s.glb.lifetime < s.mesh.gossipAt + 100)) = true := by simp [up, due]
  change execGossipSend s = _
  simp only [execGossipSend, if_neg sends, upMesh_mesh, groups, List.map_cons, List.map_nil, List.foldl_cons, List.foldl_nil]
  exact congrArg Host.Outcome.next (if_neg (Bool.eq_false_iff.1 dead))

theorem release_of_member {s : State} {src group stripe : Nat} {g : Group} (grouped : groupAt s group = some g)
    (sender : (memberIdx g src).isNone = false) (room : jRoom s 1 = true) (up : inReset s islStripe = false) :
    exec (.release src group stripe) s = .next (releaseHere s group stripe) := by
  change execRelease src group stripe s = _
  simp only [execRelease, grouped, sender, room, up]
  rfl

theorem resend_of_accepted {s : State} {src group stripe j : Nat} {g : Group} {o : OwnSeg} (grouped : groupAt s group = some g)
    (own : ownIn s group stripe = some o) (row : (memberIdx g src).bind (rowOf g stripe) = some j) (accepted : 2 ≤ o.stage)
    (up : inReset s islStripe = false) :
    exec (.resend src group stripe o.d) s = .next (contribute s g o [j]) := by
  change execResend src group stripe o.d s = _
  simp only [execResend, grouped, own, row, accepted, up]
  rfl

/-- Settles O36: each clause is the branch of its command that the clause's conditions select. -/
theorem stripeCommandsComplete : Obligations.StripeCommandsComplete := by
  refine ⟨?_, ?_, ?_, ?_, ?_, ?_, ?_, ?_, ?_, ?_, ?_, ?_, ?_, ?_, ?_, ?_⟩
  · exact fun _ _ _ _ _ _ _ => groupHello_of_unjoined
  · exact fun _ _ _ _ _ _ _ => groupHello_of_matching
  · exact fun _ _ _ _ => groupHelloTimeout_of_late
  · exact fun _ _ _ _ _ _ _ _ _ _ _ => intent_of_free
  · exact fun _ _ _ _ _ _ _ => intentReply_of_accept
  · exact fun _ _ _ _ _ _ _ => intentReply_of_late
  · exact fun _ _ _ _ _ _ => stripeDeadline_of_passed
  · exact fun _ _ _ _ => fixStripe_of_open
  · exact fun _ _ _ _ _ _ _ _ _ _ _ => contrib_of_new
  · exact fun _ _ _ _ _ _ _ _ => close_of_unit
  · exact fun _ _ _ _ _ _ _ _ _ => parityProgram_of_full
  · exact fun _ _ _ _ _ _ _ => parityDone_of_own
  · exact fun _ _ _ _ _ => gossip_of_positions
  · exact fun _ _ _ => gossipSend_of_due
  · exact fun _ _ _ _ _ => release_of_member
  · exact fun _ _ _ _ _ _ _ => resend_of_accepted

end Sys2Proof.Machine
end

section
/-! SUPPORT. Lookups, codewords served, chains of a rebuild and lost members of a stripe group (R381, R385 to R388). Log entries 36, 38 and 39
give the readings of lookups and of empty answers. -/

namespace Sys2Proof.Machine
open Sys2Proof

theorem answerLocate_of_named {s : State} {group member band seg : Nat} {g : Group} (src request : Nat) (grouped : groupAt s group = some g)
    (ready : s.mesh.indexReady = true) (one : band ≠ 0xFFFFFFFF)
    (named : ((indexRecs s group).filter (fun r => (unitOf s r member band seg).isSome)).isEmpty = false) :
    answerLocate s src group request member band seg = sendM s src group
      (.locateAns request ((indexRecs s group).filter (fun r => (unitOf s r member band seg).isSome))) := by
  simp only [answerLocate, grouped, beq_eq_false_iff_ne.2 one, Bool.false_eq_true, if_false, ready, named]
  rfl

theorem locate_of_named {s : State} {src group request member band seg : Nat} {g : Group} (grouped : groupAt s group = some g)
    (ready : s.mesh.indexReady = true) (one : band ≠ 0xFFFFFFFF)
    (named : ((indexRecs s group).filter (fun r => (unitOf s r member band seg).isSome)).isEmpty = false)
    (up : inReset s islStripe = false) :
    exec (.locate src group request member band seg) s = .next
      (sendM s src group (.locateAns request ((indexRecs s group).filter (fun r => (unitOf s r member band seg).isSome)))) := by
  change execLocate src group request member band seg s = _
  simp only [execLocate, island_of_up up, answerLocate_of_named src request grouped ready one named]

theorem locateAns_of_recon {s u : State} {src request : Nat} {l : List StripeRec} {r : Recon} {q : StripeRec}
    (unrebuilding : u.mesh.rebuild = none) (unasked : u.mesh.lookups = [])
    (waiting : u.mesh.recons.find? (fun r => r.request == request) = some r) (unnamed : r.record = none)
    (after : u = upMesh s (fun m => { m with
      cache := l.filter (fun r => !m.cache.any (fun q => q.group == r.group && q.stripe == r.stripe)) ++ m.cache }))
    (names : l.find? (fun q => (unitOf u q r.node r.band r.seg).isSome) = some q) (up : inReset s islStripe = false) :
    exec (.locateAns src request l) s = .next (askUnits (modRecon u request (fun r => { r with record := some q })) { r with
        record := some q }) := by
  subst after
  change execLocateAns src request l s = _
  simp only [execLocateAns, island_of_up up, unrebuilding, unasked, Option.filter_none, List.find?_nil, waiting, unnamed, names]
  rfl

theorem reconReq_of_absent {s : State} {src group request stripe w p d : Nat} {row : Bool} {m : MediaIn}
    (grouped : (groupAt s group).isNone = false) (absent : unitPlace s group stripe (d, row) = none) (up : inReset s islStripe = false) :
    exec (.reconReq src group request stripe w p 1 d row m) s = .next
      (upMesh (sendM s src group (.reconSlice request p d row (weighted s m none p w))) (fun m => { m with
        reconServed := (m.reconServed + 1) % 2 ^ 32 })) := by
  change execReconReq src group request stripe w p 1 d row m s = _
  simp only [execReconReq, grouped, absent, up]
  rfl

theorem reconSlice_of_awaited {s : State} {src request p d : Nat} {row : Bool} {x : Coded} {r : Recon} {rc : StripeRec} {g : Group}
    (running : s.mesh.recons.find? (fun r => r.request == request) = some r) (named : r.record = some rc)
    (grouped : groupAt s rc.group = some g) (sender : unitNode g rc.stripe (d, row) = src) (codeword : r.p = p)
    (awaited : r.waits.contains (d, row) = true) (whole : x.data.isEmpty = false) (up : inReset s islStripe = false) :
    exec (.reconSlice src request p d row x) s = .next
      (settleRecon (modRecon s request (fun r => { r with acc := r.acc.add x, waits := r.waits.filter (· != (d, row)) })) request) := by
  have meant : ¬ (r.p ≠ p ∨ (!r.waits.contains (d, row)) = true ∨ some (unitNode g rc.stripe (d, row)) ≠ some src) := by
    simp only [codeword, awaited, sender]
    simp
  change execReconSlice src request p d row x s = _
  simp only [execReconSlice, island_of_up up, running, named, grouped, Option.map_some]
  exact (if_neg meant).trans (if_neg (Bool.eq_false_iff.1 whole))

theorem rebuildPlan_of_later {s : State} {src group stripe i t1 d : Nat} {t2 row : Bool} {chain : List (Nat × Nat)} {m : MediaIn}
    {g : Group} (grouped : groupAt s group = some g) (place : chain.findIdx? (fun x => x.1 == s.mesh.node) = some i) (later : i ≠ 0)
    (own : unitOfMember g stripe g.index = some (d, row)) (lost : (memberIdx g src).bind (unitOfMember g stripe) = some (t1, t2))
    (absent : unitPlace s group stripe (d, row) = none) (up : inReset s islStripe = false) :
    exec (.rebuildPlan src group stripe chain m) s = .next
      (upMesh s (fun m => { m with chains := m.chains.filter (fun c => !(c.group == group && c.stripe == stripe)) ++ [{
                                     group, stripe, unit := (d, row), next := (chain.getD (i + 1) (src, 0)).1,
                                     weight := (chain.getD i (0, 0)).2, bad := List.range 256, left := List.range 256 }] })) := by
  change execRebuildPlan src group stripe chain m s = _
  simp only [execRebuildPlan, grouped, place, later, own, lost, absent, up]
  rfl

theorem rebuildPart_of_chain {s : State} {src group stripe p d : Nat} {row : Bool} {x : Coded} {g : Group} {c : Chain}
    (grouped : groupAt s group = some g) (sender : (memberIdx g src).isNone = false) (codeword : p < 256)
    (unrebuilding : s.mesh.rebuild = none) (chained : s.mesh.chains.find? (fun c => c.group == group && c.stripe == stripe) = some c)
    (up : inReset s islStripe = false) :
    exec (.rebuildPart src group stripe p d row x) s = .next (passPart s c p d row x) := by
  change execRebuildPart src group stripe p d row x s = _
  simp only [execRebuildPart, island_of_up up, grouped, sender, decide_eq_false (Nat.not_le.2 codeword), unrebuilding, chained]
  rfl

theorem memberUpdate_of_node {s : State} {src group index : Nat} {g : Group} (grouped : groupAt s group = some g)
    (other : index ≠ g.index) (inside : index < g.k + g.m) (up : inReset s islStripe = false) :
    exec (.memberUpdate src group (.node index src)) s = .next
      (offerNext
      (modGroup s group (fun g => { g with
        lost := g.lost.filter (· != index), members := g.members.set index src,
        state := if g.state = 3 ∧ (g.lost.filter (· != index)).isEmpty then 2 else g.state })) group) := by
  have others : ¬ (src ≠ src ∨ index = g.index ∨ g.k + g.m ≤ index) := by simp [other, inside]
  change execMemberUpdate src group (.node index src) s = _
  simp only [execMemberUpdate, island_of_up up, grouped, if_neg others]

theorem memberLost_of_formed {s : State} {group index : Nat} {g : Group} (grouped : groupAt s group = some g) (formed : g.formed = true)
    (other : index ≠ g.index) (inside : index < g.k + g.m) (held : g.lost.contains index = false) (up : inReset s islStripe = false) :
    exec (.memberLost group index) s = .next (loseMember s group index) := by
  have falls : ¬ (!(g.formed || g.state == 5) || index = g.index || g.k + g.m ≤ index || g.lost.contains index) = true := by
    simp only [formed, decide_eq_false other, decide_eq_false (Nat.not_le.2 inside), held, Bool.true_or]
    decide
  change execMemberLost group index s = _
  simp only [execMemberLost, island_of_up up, grouped]
  exact if_neg falls

theorem loseMember_of_quiet {s u : State} {group index : Nat} {g : Group}
    (after : u = groupLog
    (raise (modGroup s group (fun g => { g with lost := linsert g.lost index, state := if g.state = 2 then 3 else g.state }))
    (unit islStripe 3)) group 12 index) (grouped : groupAt u group = some g) (stripes : u.mesh.stripes = []) (own : u.mesh.own = [])
    (recons : u.mesh.recons = []) (unrebuilding : u.mesh.rebuild = none) :
    loseMember s group index = tryDissolve u group := by
  subst after
  simp only [loseMember, grouped, stripes, own, recons, unrebuilding, List.filter_nil, List.foldl_nil]

theorem stripeIndexReady_of_ready {s : State} (ready : s.glb.ready = true) (unready : s.mesh.indexReady = false)
    (up : inReset s islStripe = false) :
    exec .stripeIndexReady s = .next (s.mesh.locates.foldl (fun s x => answerLocate s x.src x.group x.request x.member x.band x.seg)
      (upMesh s (fun m => { m with
        indexReady := true, locates := [], stripes := m.stripes.map (fun x => match x.parity, x.record with
          | some (b, q), none => { x with record := segRecord s b q }
          | _, _ => x) }))) := by
  change execStripeIndexReady s = _
  simp only [execStripeIndexReady, island_of_up up, ready, unready]
  rfl

/-- Settles O37: each clause is the branch of its command that the clause's conditions select. -/
theorem lookupAndRebuildCommandsComplete : Obligations.LookupAndRebuildCommandsComplete := by
  refine ⟨?_, ?_, ?_, ?_, ?_, ?_, ?_, ?_, ?_, ?_⟩
  · exact fun _ _ _ _ _ _ _ _ => locate_of_named
  · exact fun _ _ _ _ _ _ _ => locateAns_of_recon
  · exact fun _ _ _ _ _ _ _ _ _ _ => reconReq_of_absent
  · exact fun _ _ _ _ _ _ _ _ _ _ => reconSlice_of_awaited
  · exact fun _ _ _ _ _ _ _ _ _ _ _ _ => rebuildPlan_of_later
  · exact fun _ _ _ _ _ _ _ _ _ _ => rebuildPart_of_chain
  · exact fun _ _ _ _ _ => memberUpdate_of_node
  · exact fun _ _ _ _ => memberLost_of_formed
  · exact fun _ _ _ _ _ => loseMember_of_quiet
  · exact fun _ => stripeIndexReady_of_ready

end Sys2Proof.Machine
end

section
/-! SUPPORT. POWER_SET and POWER_QUERY (R396, R402) and the commands of the health manager (R440, R446, R450). Log entry 46 says how a POWER_SET
waits and queues. -/

namespace Sys2Proof.Machine
open Sys2Proof

theorem running_pwr (s : State) (tag : Nat) : (running s tag).pwr = s.pwr := (running_fr s tag).2 .pwr (by decide)

theorem powerSet_of_quiet {s : State} {tag : Nat} {o : Op} (found : opFor s tag 0x0901 = some o) (waiting : o.stage ≠ .running)
    (still : s.pwr.trans = none) (unwaited : s.pwr.waitIdle = none) :
    exec (.powerSet tag) s = .next
      (beginPower (running s tag) { tag := some tag, target := o.pkt.p0, source := if fromFootpath o then 2 else 1 }) := by
  change execPowerSet tag s = _
  simp only [execPowerSet, found, if_neg waiting, running_pwr, still, unwaited]
  rfl

theorem powerSet_of_transition {s : State} {tag : Nat} {o : Op} {t : Transition} (found : opFor s tag 0x0901 = some o)
    (waiting : o.stage ≠ .running) (moves : s.pwr.trans = some t) (unqueued : s.pwr.queued = none) :
    exec (.powerSet tag) s = .next
      (upPwr (running s tag) (fun p => { p with
        queued := some { tag := some tag, target := o.pkt.p0, source := if fromFootpath o then 2 else 1 } })) := by
  change execPowerSet tag s = _
  simp only [execPowerSet, found, if_neg waiting, running_pwr, moves, unqueued]
  rfl

theorem powerQuery_of_still {s : State} {tag : Nat} {o : Op} (found : opFor s tag 0x0902 = some o) (still : s.pwr.trans = none)
    (unqueued : s.pwr.queued = none) :
    exec (.powerQuery tag) s = .next (finish s tag (ok 0 (s.pwr.state + 8 * s.pwr.state))) := by
  change execPowerQuery tag s = _
  simp only [execPowerQuery, found, still, unqueued]
  rfl

theorem healthQuery_of_reachable {s : State} {tag : Nat} {o : Op} (found : opFor s tag 0x0903 = some o) (reachable : outUp s o = true) :
    exec (.healthQuery tag) s = .next (finish (deliver s o 0 (healthPage s)) tag (ok 0 (spareReport s))) := by
  change execHealthQuery tag s = _
  simp only [execHealthQuery, found, reachable]
  rfl

theorem marginPlan_starts {s : State} {tag : Nat} {o : Op} (found : opFor s tag 0x0904 = some o) (waiting : o.stage ≠ .running)
    (start : bit o.pkt.p0 0 = false) (idle : s.hlt.planRunning = false) :
    exec (.marginPlan tag) s = .next (running (upHlt (startPlan s) (fun h => { h with planTags := h.planTags ++ [tag] })) tag) := by
  change execMarginPlan tag s = _
  simp only [execMarginPlan, found, waiting, start, idle]
  rfl

theorem marginPlan_of_log {s : State} {tag : Nat} {o : Op} (found : opFor s tag 0x0904 = some o) (waiting : o.stage ≠ .running)
    (log : bit o.pkt.p0 0 = true) :
    exec (.marginPlan tag) s = .next (finish s tag (ok 0 0)) := by
  change execMarginPlan tag s = _
  simp only [execMarginPlan, found, waiting, log]
  rfl

theorem testControl_pauses {s : State} {tag : Nat} {o : Op} (found : opFor s tag 0x0905 = some o) (waiting : o.stage ≠ .running)
    (pause : o.pkt.p0 = 0) :
    exec (.testControl tag) s = .next (finish (upHlt s (fun h => { h with paused := true })) tag (ok 0 0)) := by
  change execTestControl tag s = _
  simp only [execTestControl, found, waiting, pause]
  rfl

theorem testControl_resumes {s : State} {tag : Nat} {o : Op} (found : opFor s tag 0x0905 = some o) (waiting : o.stage ≠ .running)
    (resume : o.pkt.p0 = 1) :
    exec (.testControl tag) s = .next (finish (upHlt s (fun h => { h with paused := false })) tag (ok 0 0)) := by
  change execTestControl tag s = _
  simp only [execTestControl, found, waiting, resume]
  rfl

theorem testControl_runs {s : State} {tag : Nat} {o : Op} (found : opFor s tag 0x0905 = some o) (waiting : o.stage ≠ .running)
    (run : o.pkt.p0 = 2) (idle : s.hlt.testRun = none) :
    exec (.testControl tag) s = .next (running (upHlt s (fun h => { h with testRun := some (tag, o.pkt.p1) })) tag) := by
  change execTestControl tag s = _
  simp only [execTestControl, found, waiting, run, idle]
  rfl

/-- Settles O18: each clause is the branch of its command that the clause's conditions select. -/
theorem powerAndHealthCommandsComplete : Obligations.PowerAndHealthCommandsComplete := by
  refine ⟨?_, ?_, ?_, ?_, ?_, ?_, ?_, ?_, ?_⟩
  · exact fun _ _ _ => powerSet_of_quiet
  · exact fun _ _ _ _ => powerSet_of_transition
  · exact fun _ _ _ => powerQuery_of_still
  · exact fun _ _ _ => healthQuery_of_reachable
  · exact fun _ _ _ => marginPlan_starts
  · exact fun _ _ _ => marginPlan_of_log
  · exact fun _ _ _ => testControl_pauses
  · exact fun _ _ _ => testControl_resumes
  · exact fun _ _ _ => testControl_runs

end Sys2Proof.Machine
end

section
/-! SUPPORT. Entries, exits and reversals of the power states (R395, R396, R400 to R402, Table 16.2). Log entry 46 gives the readings of an
exit's phases and of the refusers checked again at each phase's end. -/

namespace Sys2Proof.Machine
open Sys2Proof

/-! ### Automatic entries (R395) -/

section
variable {s : State} {target bitNo ms : Nat} (enabled : bit (feature s 8) bitNo = true) (idle : idleFor s ms = true)
  (still : s.pwr.trans = none) (unqueued : s.pwr.queued = none) (unwaited : s.pwr.waitIdle = none) (ready : s.glb.ready = true)
  (deeper : s.pwr.state < target)
include enabled idle still unqueued unwaited ready deeper

theorem autoEntry_of_due : autoEntry s target bitNo ms = startEntry s { tag := none, target, source := 0 } := by
  have due : (bit (feature s 8) bitNo && idleFor s ms && s.pwr.trans.isNone && s.pwr.queued.isNone && s.pwr.waitIdle.isNone &&
      decide (s.pwr.state < target) && s.glb.ready) = true := by
    simp [enabled, idle, still, unqueued, unwaited, ready, deeper]
  exact if_pos due

theorem autoEntry_of_unrefused (free : refuser s target = none) : autoEntry s target bitNo ms = upPwr s (fun p => { p with
    trans := some { req := { tag := none, target, source := 0 }, origin := p.state,
                    phase := if target = 3 then 0 else phasesOf p.state, abort := none, exit := false } }) := by
  rw [autoEntry_of_due enabled idle still unqueued unwaited ready deeper]
  simp only [startEntry, free]

theorem autoEntry_of_refused {c : Nat} (refused : refuser s target = some c) :
    autoEntry s target bitNo ms = refusePower s { tag := none, target, source := 0 } c := by
  rw [autoEntry_of_due enabled idle still unqueued unwaited ready deeper]
  simp only [startEntry, refused]
end

/-- A refusal leaves a record and no transition, which is how an automatic entry knows of it. -/
theorem refusePower_recorded {s : State} {target c : Nat} (still : s.pwr.trans = none) :
    ((refusePower s { tag := none, target, source := 0 } c).pwr.trans.isNone &&
      (refusePower s { tag := none, target, source := 0 } c).pwr.recordCount != s.pwr.recordCount) = true := by
  have trans : (refusePower s { tag := none, target, source := 0 } c).pwr.trans = s.pwr.trans := rfl
  have count : (refusePower s { tag := none, target, source := 0 } c).pwr.recordCount = s.pwr.recordCount + 1 := rfl
  simp [trans, count, still]

theorem glideIdleEntry_of_unrefused {s : State} (enabled : bit (feature s 8) 0 = true) (idle : idleFor s (s.pwr.glideFrom + 2) = true)
    (still : s.pwr.trans = none) (unqueued : s.pwr.queued = none) (unwaited : s.pwr.waitIdle = none) (ready : s.glb.ready = true)
    (deeper : s.pwr.state < 1) (free : refuser s 1 = none) :
    exec .glideIdleEntry s = .next
      (upPwr s (fun p => { p with
        trans := some { req := { tag := none, target := 1, source := 0 }, origin := p.state, phase := phasesOf p.state, abort := none,
                        exit := false } })) := by
  change execGlideIdleEntry s = _
  simp only [execGlideIdleEntry, autoEntry_of_unrefused enabled idle still unqueued unwaited ready deeper free]
  rfl

theorem glideIdleEntry_of_refused {s : State} {c : Nat} (enabled : bit (feature s 8) 0 = true)
    (idle : idleFor s (s.pwr.glideFrom + 2) = true) (still : s.pwr.trans = none) (unqueued : s.pwr.queued = none)
    (unwaited : s.pwr.waitIdle = none) (ready : s.glb.ready = true) (deeper : s.pwr.state < 1) (refused : refuser s 1 = some c) :
    exec .glideIdleEntry s = .next (upPwr (refusePower s { tag := none, target := 1, source := 0 } c) (fun p => { p with
        glideFrom := p.idleMs })) := by
  change execGlideIdleEntry s = _
  simp only [execGlideIdleEntry, autoEntry_of_refused enabled idle still unqueued unwaited ready deeper refused]
  exact congrArg Host.Outcome.next (if_pos (refusePower_recorded still))

theorem mooredIdleEntry_of_unrefused {s : State} (enabled : bit (feature s 8) 1 = true) (idle : idleFor s (s.pwr.mooredFrom + 500) = true)
    (still : s.pwr.trans = none) (unqueued : s.pwr.queued = none) (unwaited : s.pwr.waitIdle = none) (ready : s.glb.ready = true)
    (deeper : s.pwr.state < 2) (free : refuser s 2 = none) :
    exec .mooredIdleEntry s = .next
      (upPwr s (fun p => { p with
        trans := some { req := { tag := none, target := 2, source := 0 }, origin := p.state, phase := phasesOf p.state, abort := none,
                        exit := false } })) := by
  change execMooredIdleEntry s = _
  simp only [execMooredIdleEntry, autoEntry_of_unrefused enabled idle still unqueued unwaited ready deeper free]
  rfl

theorem mooredIdleEntry_of_refused {s : State} {c : Nat} (enabled : bit (feature s 8) 1 = true)
    (idle : idleFor s (s.pwr.mooredFrom + 500) = true) (still : s.pwr.trans = none) (unqueued : s.pwr.queued = none)
    (unwaited : s.pwr.waitIdle = none) (ready : s.glb.ready = true) (deeper : s.pwr.state < 2) (refused : refuser s 2 = some c) :
    exec .mooredIdleEntry s = .next (upPwr (refusePower s { tag := none, target := 2, source := 0 } c) (fun p => { p with
        mooredFrom := p.idleMs })) := by
  change execMooredIdleEntry s = _
  simp only [execMooredIdleEntry, autoEntry_of_refused enabled idle still unqueued unwaited ready deeper refused]
  exact congrArg Host.Outcome.next (if_pos (refusePower_recorded still))

theorem startEntry_of_refused {s : State} {r : PowerReq} {c : Nat} (refused : refuser s r.target = some c) :
    startEntry s r = refusePower s r c := by
  simp only [startEntry, refused]

/-! ### Ends of phases (R400, R401, Table 16.2) -/

theorem transitionPhaseEnd_of_running {s : State} {t : Transition} (ok : Bool) (lost : List Nat) (runs : s.pwr.trans = some t) :
    exec (.transitionPhaseEnd ok lost) s = .next (phaseEnd s t ok lost) := by
  change execTransitionPhaseEnd ok lost s = _
  simp only [execTransitionPhaseEnd, runs]

theorem transitionPhaseEnd_goes_on {s u : State} {t : Transition} {ok : Bool} {lost : List Nat} (runs : s.pwr.trans = some t)
    (origin : t.origin ≠ 3) (enters : t.exit = false) (unstopped : t.abort = none) (after : u = entryPhase s t.req.target (t.phase + 1))
    (free : refuser u t.req.target = none) (more : t.phase + 1 ≠ (if t.req.target = 3 then 3 else phasesOf t.req.target)) :
    exec (.transitionPhaseEnd ok lost) s = .next (upPwr u (fun p => { p with trans := some { t with phase := t.phase + 1 } })) := by
  subst after
  rw [transitionPhaseEnd_of_running ok lost runs]
  simp only [phaseEnd, origin, enters, false_and, or_self, if_neg more, unstopped, Option.isNone_none, and_true, free,
    Bool.false_eq_true, if_false]

theorem transitionPhaseEnd_completes_entry {s : State} {t : Transition} {ok : Bool} {lost : List Nat} (runs : s.pwr.trans = some t)
    (origin : t.origin ≠ 3) (enters : t.exit = false) (unstopped : t.abort = none)
    (last_ : t.phase + 1 = (if t.req.target = 3 then 3 else phasesOf t.req.target)) :
    exec (.transitionPhaseEnd ok lost) s = .next (completeEntry (entryPhase s t.req.target (t.phase + 1)) t.req) := by
  rw [transitionPhaseEnd_of_running ok lost runs]
  simp only [phaseEnd, origin, enters, false_and, or_self, unstopped, if_pos last_, Option.isNone_none, Bool.false_eq_true, if_false,
    and_true]

theorem transitionPhaseEnd_of_stopped {s : State} {t : Transition} {ok : Bool} {lost : List Nat} {c : Nat} (runs : s.pwr.trans = some t)
    (origin : t.origin ≠ 3) (enters : t.exit = false) (shallow : t.req.target ≠ 3) (stopped : t.abort = some c) :
    exec (.transitionPhaseEnd ok lost) s = .next (upPwr (entryPhase s t.req.target (t.phase + 1)) (fun p => { p with
        trans := some { t with exit := true, phase := t.phase + 1, abort := some c } })) := by
  rw [transitionPhaseEnd_of_running ok lost runs]
  simp only [phaseEnd, origin, enters, false_and, or_self, if_neg shallow, stopped, Option.isNone_some, Bool.false_eq_true, and_false,
    if_false]

theorem transitionPhaseEnd_of_refused {s u : State} {t : Transition} {ok : Bool} {lost : List Nat} {c : Nat} (runs : s.pwr.trans = some t)
    (origin : t.origin ≠ 3) (enters : t.exit = false) (shallow : t.req.target ≠ 3) (unstopped : t.abort = none)
    (more : t.phase + 1 ≠ phasesOf t.req.target) (after : u = entryPhase s t.req.target (t.phase + 1))
    (refused : refuser u t.req.target = some c) :
    exec (.transitionPhaseEnd ok lost) s = .next
      (upPwr u (fun p => { p with trans := some { t with exit := true, phase := t.phase + 1, abort := some c } })) := by
  subst after
  rw [transitionPhaseEnd_of_running ok lost runs]
  simp only [phaseEnd, origin, enters, false_and, or_self, if_neg shallow, if_neg more, unstopped, refused, Bool.false_eq_true,
    Option.isNone_none, and_true, if_false]

theorem transitionPhaseEnd_of_ballastRefused {s u : State} {t : Transition} {ok : Bool} {lost : List Nat} {c : Nat}
    (runs : s.pwr.trans = some t) (origin : t.origin ≠ 3) (enters : t.exit = false) (deep : t.req.target = 3) (unstopped : t.abort = none)
    (more : t.phase + 1 ≠ 3) (after : u = entryPhase s 3 (t.phase + 1)) (refused : refuser u 3 = some c) :
    exec (.transitionPhaseEnd ok lost) s = .next
      (upPwr (upPwr (powerRecord (countRefuser u 3 c) 3 2 c t.req.source) (fun p => { p with
        aborted := mset p.aborted 2 (satInc (mgetD p.aborted 2 0)), exitPending := true })) (fun p => { p with
        trans := some { t with exit := true, phase := 0, abort := none } })) := by
  subst after
  rw [transitionPhaseEnd_of_running ok lost runs]
  simp only [phaseEnd, origin, enters, or_self, deep, if_neg more, unstopped, refused, Bool.false_eq_true, Option.isNone_none, and_true,
    if_false, if_true]

theorem transitionPhaseEnd_goes_back {s : State} {t : Transition} {ok : Bool} {lost : List Nat} (runs : s.pwr.trans = some t)
    (origin : t.origin ≠ 3) (exits : t.exit = true) (shallow : t.req.target ≠ 3) (unstopped : t.abort = none)
    (more : phasesOf t.req.target < t.phase - 1) :
    exec (.transitionPhaseEnd ok lost) s = .next
      (upPwr (exitPhase s t.phase lost) (fun p => { p with trans := some { t with phase := t.phase - 1 } })) := by
  rw [transitionPhaseEnd_of_running ok lost runs]
  simp only [phaseEnd, origin, exits, shallow, and_false, or_self, if_false, unstopped, if_neg (Nat.not_le.2 more), if_true]

theorem transitionPhaseEnd_completes_exit {s : State} {t : Transition} {ok : Bool} {lost : List Nat} (runs : s.pwr.trans = some t)
    (origin : t.origin ≠ 3) (exits : t.exit = true) (shallow : t.req.target ≠ 3) (unstopped : t.abort = none)
    (last_ : t.phase - 1 ≤ phasesOf t.req.target) :
    exec (.transitionPhaseEnd ok lost) s = .next (completeExit (exitPhase s t.phase lost) t.req) := by
  rw [transitionPhaseEnd_of_running ok lost runs]
  simp only [phaseEnd, origin, exits, shallow, and_false, or_self, if_false, unstopped, if_pos last_, if_true]

theorem transitionPhaseEnd_ends_reversal {s : State} {t : Transition} {ok : Bool} {lost : List Nat} {c : Nat}
    (runs : s.pwr.trans = some t) (origin : t.origin ≠ 3) (exits : t.exit = true) (shallow : t.req.target ≠ 3)
    (stopped : t.abort = some c) (last_ : t.phase - 1 = 0) :
    exec (.transitionPhaseEnd ok lost) s = .next (endAbort (exitPhase s t.phase lost) t.req c) := by
  rw [transitionPhaseEnd_of_running ok lost runs]
  simp only [phaseEnd, origin, exits, shallow, and_false, or_self, if_false, stopped, if_pos last_, if_true]

/-! ### The exit from Ballast (R398, R399) -/

theorem transitionPhaseEnd_of_regulator {s : State} {t : Transition} {ok : Bool} {lost : List Nat} (runs : s.pwr.trans = some t)
    (ballast : t.origin = 3 ∨ (t.exit = true ∧ t.req.target = 3)) (first : t.phase = 0) :
    exec (.transitionPhaseEnd ok lost) s = .next (upPwr (upPwr s (fun p => { p with lowPower := false })) (fun p => { p with
        trans := some { t with phase := 1 } })) := by
  rw [transitionPhaseEnd_of_running ok lost runs]
  simp only [phaseEnd, if_pos ballast, first, Nat.reduceAdd, Nat.reduceEqDiff, false_and, if_false, if_true]

theorem transitionPhaseEnd_reaches_moored {s : State} {t : Transition} {ok : Bool} {lost : List Nat} (runs : s.pwr.trans = some t)
    (ballast : t.origin = 3 ∨ (t.exit = true ∧ t.req.target = 3)) (last_ : t.phase = 4) :
    exec (.transitionPhaseEnd ok lost) s = .next (reachMoored s) := by
  rw [transitionPhaseEnd_of_running ok lost runs]
  simp only [phaseEnd, if_pos ballast, last_, Nat.reduceAdd, Nat.reduceEqDiff, false_and, if_false, if_true, OfNat.ofNat_ne_zero]

theorem transitionPhaseEnd_of_badImage {s : State} {t : Transition} {lost : List Nat} (runs : s.pwr.trans = some t)
    (ballast : t.origin = 3 ∨ (t.exit = true ∧ t.req.target = 3)) (checked : t.phase = 2) :
    exec (.transitionPhaseEnd false lost) s = .next (deviceReset s 0) := by
  rw [transitionPhaseEnd_of_running false lost runs]
  simp only [phaseEnd, if_pos ballast, checked, Nat.reduceAdd, Bool.not_false, and_self, if_true]

theorem transitionPhaseEnd_of_middle {s : State} {t : Transition} {ok : Bool} {lost : List Nat} (runs : s.pwr.trans = some t)
    (ballast : t.origin = 3 ∨ (t.exit = true ∧ t.req.target = 3)) (middle : t.phase = 1 ∨ (t.phase = 2 ∧ ok = true) ∨ t.phase = 3) :
    exec (.transitionPhaseEnd ok lost) s = .next (upPwr s (fun p => { p with trans := some { t with phase := t.phase + 1 } })) := by
  have good : ¬ (t.phase + 1 = 3 ∧ (!ok) = true) := by
    rintro ⟨checked, bad⟩
    rcases middle with islands | ⟨-, sound⟩ | dram
    · omega
    · simp [sound] at bad
    · omega
  have started : t.phase ≠ 0 := by omega
  have unfinished : t.phase + 1 ≠ 5 := by omega
  rw [transitionPhaseEnd_of_running ok lost runs]
  simp only [phaseEnd, if_pos ballast, if_neg good, if_neg started, if_neg unfinished]

/-! ### Commanded entries and the link (R396, R402) -/

theorem commandedEntryTimeout_of_late {s : State} {r : PowerReq} (waiting : s.pwr.waitIdle = some r) (busy : deviceIdle s = false)
    (late : s.pwr.waitFrom + 10 ≤ s.glb.lifetime) :
    exec .commandedEntryTimeout s = .next (nextPower (refusePower (upPwr s (fun p => { p with waitIdle := none })) r 0)) := by
  change execCommandedEntryTimeout s = _
  simp [execCommandedEntryTimeout, waiting, busy, late]

theorem linkL2Entry_of_unarmed {s : State} (linked : s.hst.mode ≠ 0) (awake : s.pwr.linkPm ≠ 2) (unarmed : s.pwr.armed = false) :
    exec .linkL2Entry s = .next (upPwr s (fun p => { p with linkPm := 2 })) := by
  change execLinkL2Entry s = _
  simp [execLinkL2Entry, linked, awake, unarmed]

theorem linkL2Entry_of_armed {s : State} (linked : s.hst.mode ≠ 0) (awake : s.pwr.linkPm ≠ 2) (armed : s.pwr.armed = true)
    (moored : s.pwr.state = 2) (still : s.pwr.trans = none) :
    exec .linkL2Entry s = .next (enterBallast (upPwr s (fun p => { p with linkPm := 2 }))) := by
  change execLinkL2Entry s = _
  simp [execLinkL2Entry, linked, awake, armed, moored, still]

theorem ballastArmExpiry_of_late {s : State} (armed : s.pwr.armed = true) (awake : s.pwr.linkPm ≠ 2)
    (late : s.pwr.armedAt + 10000 ≤ s.glb.lifetime) :
    exec .ballastArmExpiry s = .next (endArming s false) := by
  change execBallastArmExpiry s = _
  simp [execBallastArmExpiry, armed, awake, late]

/-- Settles O38: each clause is the branch of its command that the clause's conditions select. -/
theorem powerTransitionsComplete : Obligations.PowerTransitionsComplete := by
  refine ⟨?_, ?_, ?_, ?_, ?_, ?_, ?_, ?_, ?_, ?_, ?_, ?_, ?_, ?_, ?_, ?_, ?_, ?_, ?_, ?_, ?_⟩
  · exact fun _ => glideIdleEntry_of_unrefused
  · exact fun _ _ => glideIdleEntry_of_refused
  · exact fun _ => mooredIdleEntry_of_unrefused
  · exact fun _ _ => mooredIdleEntry_of_refused
  · exact fun _ _ _ => startEntry_of_refused
  · exact fun _ _ _ _ _ => transitionPhaseEnd_goes_on
  · exact fun _ _ _ _ => transitionPhaseEnd_completes_entry
  · exact fun _ _ _ _ _ => transitionPhaseEnd_of_stopped
  · exact fun _ _ _ _ _ _ => transitionPhaseEnd_of_refused
  · exact fun _ _ _ _ _ _ => transitionPhaseEnd_of_ballastRefused
  · exact fun _ _ _ _ => transitionPhaseEnd_goes_back
  · exact fun _ _ _ _ => transitionPhaseEnd_completes_exit
  · exact fun _ _ _ _ _ => transitionPhaseEnd_ends_reversal
  · exact fun _ _ _ _ => transitionPhaseEnd_of_regulator
  · exact fun _ _ _ _ => transitionPhaseEnd_reaches_moored
  · exact fun _ _ _ => transitionPhaseEnd_of_badImage
  · exact fun _ _ _ _ => transitionPhaseEnd_of_middle
  · exact fun _ _ => commandedEntryTimeout_of_late
  · exact fun _ => linkL2Entry_of_unarmed
  · exact fun _ => linkL2Entry_of_armed
  · exact fun _ => ballastArmExpiry_of_late

end Sys2Proof.Machine
end

section
/-! SUPPORT. Wakes (R394, R399), filtered pins (R405 to R407), brown-outs (R404), the loss of the rails (R408), the DOE mailbox (R49, R330) and
the test access port (R488, R497). Log entry 46 gives the readings of brown-outs and wakes, log entry 62 those of the mailbox. -/

namespace Sys2Proof.Machine
open Sys2Proof

/-! ### Wakes (R394, R399) -/

theorem mooredWake_heeded {s : State} (moored : s.pwr.state = 2) (still : s.pwr.trans = none) :
    ¬ (s.pwr.state ≠ 2 ∨ s.pwr.trans.isSome = true) := by simp [moored, still]

theorem mooredWake_of_host {s : State} (moored : s.pwr.state = 2) (still : s.pwr.trans = none) (l1 : s.pwr.linkPm = 1) :
    exec (.mooredWake 0) s = .next (wake (upPwr s (fun p => { p with linkPm := 0 }))) := by
  change execMooredWake 0 s = _
  simp only [execMooredWake, if_neg (mooredWake_heeded moored still), if_pos l1]

theorem mooredWake_of_link {s : State} {k : Nat} (moored : s.pwr.state = 2) (still : s.pwr.trans = none)
    (cause : k = 1 ∨ (k = 3 ∧ retrainOpen s = true)) :
    exec (.mooredWake k) s = .next (wake s) := by
  change execMooredWake k s = _
  rcases cause with rfl | ⟨rfl, window⟩
  · simp only [execMooredWake, if_neg (mooredWake_heeded moored still)]
  · simp only [execMooredWake, if_neg (mooredWake_heeded moored still), if_pos window]

theorem mooredWake_of_patrol {s : State} (moored : s.pwr.state = 2) (still : s.pwr.trans = none)
    (due : s.med.bands.any (fun b => b.2.deadline != 0 && decide (b.2.deadline ≤ s.glb.lifetime)) = true) :
    exec (.mooredWake 2) s = .next (wake s) := by
  change execMooredWake 2 s = _
  simp only [execMooredWake, if_neg (mooredWake_heeded moored still), if_pos due]

theorem wake_of_shallow {s : State} (still : s.pwr.trans = none) (shallow : s.pwr.state = 1 ∨ s.pwr.state = 2) :
    wake s = startExit s { tag := none, target := 0, source := 0 } :=
  if_pos ⟨by rw [still]; rfl, shallow⟩

theorem wakeNAssert_in_ballast {s : State} (high : s.pwr.wakeN = true) (ballast : s.pwr.state = 3) (still : s.pwr.trans = none)
    (undriven : s.pwr.wakeDriven = false) (heeded : s.pwr.wakeIgnored = false) :
    exec .wakeNAssert s = .next
      (ballastExit (upPwr s (fun p => { p with wakeN := false, wakeAt := s.glb.lifetime, exitPending := true }))) := by
  have leaves : (s.pwr.state = 3 ∧ s.pwr.trans.isNone ∧ (!s.pwr.wakeDriven) = true ∧ (!s.pwr.wakeIgnored) = true) := by
    simp [ballast, still, undriven, heeded]
  change execWakeNAssert s = _
  simp only [execWakeNAssert, high, Bool.not_true, Bool.false_eq_true, if_false]
  exact if_pos leaves

theorem wakeNAssert_elsewhere {s : State} (high : s.pwr.wakeN = true) (elsewhere : s.pwr.state ≠ 3) :
    exec .wakeNAssert s = .next (upPwr s (fun p => { p with wakeN := false, wakeAt := s.glb.lifetime })) := by
  change execWakeNAssert s = _
  simp [execWakeNAssert, high, elsewhere]

theorem wakeStuck_of_held {s : State} (elsewhere : s.pwr.state ≠ 3) (low : s.pwr.wakeN = false) (undriven : s.pwr.wakeDriven = false)
    (heeded : s.pwr.wakeIgnored = false) (late : s.pwr.wakeAt + 100 < s.glb.lifetime) :
    exec .wakeStuck s = .next (raise (upPwr s (fun p => { p with evWakeStuck := true, wakeIgnored := true })) srcWakeStuck) := by
  change execWakeStuck s = _
  simp [execWakeStuck, elsewhere, low, undriven, heeded, late]

theorem wakeNRelease_of_low {s : State} (low : s.pwr.wakeN = false) :
    exec .wakeNRelease s = .next (upPwr s (fun p => { p with wakeN := true, wakeIgnored := false })) := by
  change execWakeNRelease s = _
  simp [execWakeNRelease, low]

/-! ### Brown-outs and pins (R404, R405, R407) -/

theorem brownOut_in_normal {s : State} (normal : s.pwr.lowPower = false) (still : s.pwr.trans = none) :
    exec .brownOut s = .next (raise s srcRail) := by
  change execBrownOut s = _
  simp only [execBrownOut, normal, still]
  rfl

theorem brownOut_in_low {s u : State} (low : s.pwr.lowPower = true)
    (after : u = raise
    (upPwr s (fun p => { p with lowPower := false, evBrownout := true, brownouts := satInc p.brownouts,
                                lifeBrownouts := p.lifeBrownouts + 1 })) srcBrownout) (still : u.pwr.trans = none) :
    exec .brownOut s = .next (ballastExit (upPwr u (fun p => { p with exitPending := true }))) := by
  subst after
  change execBrownOut s = _
  simp only [execBrownOut, low, Bool.true_or, if_true]
  exact if_neg fun leaving => by simp [still] at leaving

theorem inputGlitch_counts {s : State} :
    exec (.inputGlitch .pwrFail) s = .next (upPwr s (fun p => { p with glitchPwrFail := satInc p.glitchPwrFail })) ∧ exec
      (.inputGlitch .perst) s = .next (upPwr s (fun p => { p with glitchPerst := satInc p.glitchPerst })) ∧ exec (.inputGlitch .wake)
      s = .next (upPwr s (fun p => { p with glitchWake := satInc p.glitchWake })) ∧ exec (.inputGlitch .fpRdy) s = .next
      (upPwr s (fun p => { p with glitchFp := satInc p.glitchFp })) :=
  ⟨rfl, rfl, rfl, rfl⟩

theorem fpRdyInChange_sends {s : State} {l : Bool} :
    exec (.fpRdyInChange l) s = .next (fpPump (upPwr s (fun p => { p with fpRdyIn := l }))) := rfl

theorem fpRxdWake_in_moored {s : State} (moored : s.pwr.state = 2) :
    exec .fpRxdWake s = .next (wake s) := by
  change execFpRxdWake s = _
  simp [execFpRxdWake, moored]

theorem ballastExit_of_perst {s u : State} (ballast : s.pwr.state = 3) (high : s.pwr.perstN = true) (still : s.pwr.trans = none)
    (after : u = tapFollow (upPwr (upGlb (dropQueues (hostDown s)) (fun g => { g with configReady := false })) (fun p => { p with
      perstN := false, wakeDriven := false, exitPerst := true, linkPm := 0 }))) (ballast2 : u.pwr.state = 3)
    (still2 : u.pwr.trans = none) :
    exec .ballastExit s = .next (Sys2Proof.Machine.ballastExit u) := by
  have heeded : ¬ (!(s.pwr.state == 3 || false || s.pwr.exitPending) || !s.pwr.perstN) = true := by simp [ballast, high]
  have exits : u.pwr.state = 3 ∧ u.pwr.trans.isNone = true := ⟨ballast2, by rw [still2]; rfl⟩
  subst after
  change execBallastExit s = _
  simp only [execBallastExit, still, if_neg heeded]
  exact if_pos exits

theorem pwrFailDeassert_heeds {s : State} :
    exec .pwrFailDeassert s = .next (upPwr s (fun p => { p with pwrFailN := true, pwrFailIgnored := false })) := rfl

theorem railLoss_of_failed {s : State} (low : s.pwr.pwrFailN = false) (powered : s.glb.poweredOn = true) :
    exec .railLoss s = .next (upPwr (upGlb (loseAon (deviceReset s 0)) (fun g => { g with poweredOn := false })) (fun p => { p with
        railsGood := false })) := by
  change execRailLoss s = _
  simp [execRailLoss, low, powered]

/-! ### The DOE mailbox and the test access port (R49, R330, R488) -/

theorem doeMessage_heeded {s : State} (linked : s.hst.mode ≠ 0) (config : s.glb.configReady = true) (sound : s.sec.errorState = false)
    (awake : s.pwr.linkPm ≠ 2) : ¬ (s.hst.mode = 0 || !s.glb.configReady || s.sec.errorState || s.pwr.linkPm == 2) = true := by
  simp [linked, config, sound, awake]

theorem doeMessage_of_session {s : State} {role : Nat} (linked : s.hst.mode ≠ 0) (config : s.glb.configReady = true)
    (sound : s.sec.errorState = false) (awake : s.pwr.linkPm ≠ 2) (atLeast : 1 ≤ role) (atMost : role ≤ 3) :
    exec (.doeMessage (.session role)) s = .next
      (reApprove (upHst (freeBytes s 96).2 (fun h => { h with
        session := role, doe := (sha384 attestPublic ++ (freeBytes s 96).1) :: h.doe }))) := by
  have one : ¬ (role < 1 ∨ 3 < role) := not_or.2 ⟨Nat.not_lt.2 atLeast, Nat.not_lt.2 atMost⟩
  change execDoeMessage (.session role) s = _
  simp only [execDoeMessage, if_neg (doeMessage_heeded linked config sound awake), if_neg one]

theorem doeMessage_of_end {s : State} (linked : s.hst.mode ≠ 0) (config : s.glb.configReady = true) (sound : s.sec.errorState = false)
    (awake : s.pwr.linkPm ≠ 2) :
    exec (.doeMessage .sessionEnd) s = .next (reApprove (upHst s (fun h => { h with session := 0 }))) := by
  change execDoeMessage .sessionEnd s = _
  simp only [execDoeMessage, if_neg (doeMessage_heeded linked config sound awake)]

theorem doeMessage_of_keys {s : State} {cm : Bool} (linked : s.hst.mode ≠ 0) (config : s.glb.configReady = true)
    (sound : s.sec.errorState = false) (awake : s.pwr.linkPm ≠ 2) (session_ : s.hst.session ≠ 0) :
    exec (.doeMessage (.ideKeys cm)) s = .next (ideSecure s cm) := by
  change execDoeMessage (.ideKeys cm) s = _
  simp only [execDoeMessage, if_neg (doeMessage_heeded linked config sound awake), if_neg session_]

theorem tapInstruction_loads {s : State} {code : Nat} :
    exec (.tapInstruction code) s = .next (tapFollow (upGlb s (fun g => { g with tapIr := code }))) := rfl

theorem tapReset_loads {s : State} :
    exec .tapReset s = .next (tapFollow (upGlb s (fun g => { g with tapIr := 2 }))) := rfl

/-- Settles O39: each clause is the branch of its command that the clause's conditions select. -/
theorem wakesAndPinsComplete : Obligations.WakesAndPinsComplete := by
  refine ⟨?_, ?_, ?_, ?_, ?_, ?_, ?_, ?_, ?_, ?_, ?_, ?_, ?_, ?_, ?_, ?_, ?_, ?_, ?_, ?_, ?_⟩
  · exact fun _ => mooredWake_of_host
  · exact fun _ _ => mooredWake_of_link
  · exact fun _ => mooredWake_of_patrol
  · exact fun _ => wake_of_shallow
  · exact fun _ => wakeNAssert_in_ballast
  · exact fun _ => wakeNAssert_elsewhere
  · exact fun _ => wakeStuck_of_held
  · exact fun _ => wakeNRelease_of_low
  · exact fun _ => brownOut_in_normal
  · exact fun _ _ => brownOut_in_low
  · exact fun _ => inputGlitch_counts
  · exact fun _ _ => fpRdyInChange_sends
  · exact fun _ => fpRxdWake_in_moored
  · exact fun _ _ => ballastExit_of_perst
  · exact fun _ => pwrFailDeassert_heeds
  · exact fun _ => railLoss_of_failed
  · exact fun _ _ => doeMessage_of_session
  · exact fun _ => doeMessage_of_end
  · exact fun _ _ => doeMessage_of_keys
  · exact fun _ _ => tapInstruction_loads
  · exact fun _ => tapReset_loads

end Sys2Proof.Machine
end

section
/-! SUPPORT. Faults raised, their reactions and the recovery from them (R413, R416, R420 to R426). Log entry 47 gives the readings of a reaction's
flags and records, log entry 53 that a port comes up at CONTAIN_READY. -/

namespace Sys2Proof.Machine
open Sys2Proof

theorem faultRaise_of_implemented {s : State} {src : Nat} {level : Option Nat} (implemented : srcImplemented src = true)
    (powered : s.glb.poweredOn = true) (low : level.getD 0 ≤ 4) :
    exec (.faultRaise src level) s = .next (raiseAt s src level false none) := by
  change execFaultRaise src level s = _
  cases level with
  | none =>
    simp only [execFaultRaise, implemented, powered]
    rfl
  | some l =>
    have within : l ≤ 4 := low
    simp only [execFaultRaise, implemented, powered, decide_eq_false (Nat.not_lt.2 within)]
    rfl

theorem faultReaction_of_head {s : State} {f : PendingFault} {rest : List PendingFault} (queued : s.flt.queue = f :: rest)
    (quiet : s.med.dumpActive = false) :
    exec .faultReaction s = .next (react (upFlt s (fun x => { x with queue := rest ++ x.held.take 1, held := x.held.drop 1 })) f) := by
  change execFaultReaction s = _
  simp only [execFaultReaction, queued, quiet]
  rfl

theorem quietPeriodEnd_of_passed {s : State} (classes : s.flt.unack.isEmpty = false) (passed : s.flt.remain = 0)
    (running_ : s.flt.halted = false) (local_ : s.flt.failover = false) :
    exec .quietPeriodEnd s = .next (upFlt (s.flt.unack.foldl (fun s c => addHistory s 0xFFFF c.1 0 0 8) s) (fun f => { f with
        unack := [], remain := 0, recoveries := satInc f.recoveries })) := by
  change execQuietPeriodEnd s = _
  simp only [execQuietPeriodEnd, classes, passed, running_, local_]
  rfl

theorem containReady_of_island {s : State} {i : Nat} (contained : s.flt.containing.contains i = true) (other : i ≠ islHost)
    (inner : i < 8 ∨ 13 < i) :
    exec (.containReady i) s = .next
      (upFlt s (fun f => { f with containing := f.containing.filter (· != i), windows := linsert f.windows i })) := by
  have noPort : ¬ (8 ≤ i ∧ i ≤ 13) := by omega
  change execContainReady i s = _
  simp only [execContainReady, contained, if_neg other, if_neg noPort]
  rfl

theorem containReady_of_host {s : State} (contained : s.flt.containing.contains islHost = true) :
    exec (.containReady islHost) s = .next
      (msixFlush (upFlt s (fun f => { f with containing := f.containing.filter (· != islHost), windows := linsert f.windows islHost })))
      := by
  change execContainReady islHost s = _
  simp only [execContainReady, contained]
  rfl

theorem containReady_of_port {s : State} {i : Nat} {u : State} (contained : s.flt.containing.contains i = true) (first : 8 ≤ i)
    (last_ : i ≤ 13) (other : i ≠ islHost)
    (after : u = upFlt s (fun f => { f with containing := f.containing.filter (· != i), windows := linsert f.windows i }))
    (enabled : (portAt u (i - 8)).enabled = true) (sound : (portAt u (i - 8)).failed = false)
    (known : (portAt u (i - 8)).neighbour.isSome = true) :
    exec (.containReady i) s = .next (pumpPort (modPort u (i - 8) (fun p => { p with up := true })) (i - 8)) := by
  subst after
  change execContainReady i s = _
  simp only [execContainReady, contained, if_neg other, if_pos (And.intro first last_), enabled, sound, known]
  rfl

theorem shadowWindowEnd_ends {s : State} {i : Nat} :
    exec (.shadowWindowEnd i) s = .next (upFlt s (fun f => { f with windows := f.windows.filter (· != i) })) := rfl

/-- Settles O40: each clause is the branch of its command that the clause's conditions select. -/
theorem faultCommandsComplete : Obligations.FaultCommandsComplete := by
  refine ⟨?_, ?_, ?_, ?_, ?_, ?_, ?_⟩
  · exact fun _ _ _ => faultRaise_of_implemented
  · exact fun _ _ _ => faultReaction_of_head
  · exact fun _ => quietPeriodEnd_of_passed
  · exact fun _ _ => containReady_of_island
  · exact fun _ => containReady_of_host
  · exact fun _ _ _ => containReady_of_port
  · exact fun _ _ => shadowWindowEnd_ends

end Sys2Proof.Machine
end

section
/-! SUPPORT. A fault of a halted device (R507) and the level a fault reacts at (R416 to R419). -/

namespace Sys2Proof.Machine
open Sys2Proof

theorem self_mem_linsert (l : List Nat) (n : Nat) : n ∈ linsert l n := by
  induction l with
  | nil => exact List.mem_singleton.2 rfl
  | cons x xs ih =>
    rw [linsert]
    split
    · exact List.mem_cons_self
    · split
      · next same => exact same ▸ List.mem_cons_self
      · exact List.mem_cons_of_mem x ih

/-- A fault of a halted device is counted, left in the history and named by FLT_LAST, and asks for no reaction (R507). -/
theorem raiseOne_of_halted {s : State} (src : Nat) (level : Option Nat) (asks : Bool) (peer : Option Nat) (halted : s.flt.halted = true) :
    raiseOne s src level asks peer =
      setLast (addHistory (countFault s src) src (srcClass src) 0 (level.getD (srcLevel s src)) 0) src (srcClass src) 0 false :=
  if_pos halted

/-- Settles O53: a halted collector counts, records and names the fault, and does nothing else. -/
theorem haltedCollector : Obligations.HaltedCollector := by
  intro s src level asks peer halted
  refine ⟨_, rfl, ?_⟩
  have only := raiseOne_frame s src level asks peer
  rw [raiseOne_of_halted src level asks peer halted] at only ⊢
  have named : (src + srcClass src * 512 + 0 * 4096) % 512 = src % 512 := by omega
  exact ⟨self_mem_linsert _ _, rfl, rfl, rfl, named, rfl, rfl, rfl, halted, rfl, only⟩

/-- Settles O54: the cases of a fault's level, as R416 to R419 distinguish them. -/
theorem faultEscalation : Obligations.FaultEscalation := by
  refine ⟨fun s f held counts level unacked => ?_, fun s f calm => ?_, fun s f two fails => ?_⟩
  · have counting : ¬ (srcClass f.src = 0 ∨ f.level.getD (srcLevel s f.src) = 0) := not_or.2 ⟨counts, level⟩
    simp only [escalated, if_neg counting, unacked]
  · rcases calm with correctable | acknowledged
    · exact if_pos (.inl correctable)
    · simp only [escalated, acknowledged, ite_self]
  · constructor <;> intro seen <;> simp [levelTaken, two, fails, seen]

end Sys2Proof.Machine
end

section
/-! SUPPORT. Resets (R54, R451, R452), power-on, and the steps of the boot (R453 to R461). Log entries 11, 62 and 71 give the readings of a reset's
Arena and of FLR. -/

namespace Sys2Proof.Machine
open Sys2Proof

theorem conventionalReset_of_perst {s : State} (powered : s.glb.poweredOn = true) (awake : inBallast s = false)
    (high : s.pwr.perstN = true) :
    exec (.conventionalReset 1) s = .next (beginReset (tapFollow (upPwr s (fun p => { p with perstN := false }))) 1) := by
  change execConventionalReset 1 s = _
  simp only [execConventionalReset, powered, awake, high]
  rfl

theorem conventionalReset_of_link {s : State} {k : Nat} (kind : k = 2 ∨ k = 3) (powered : s.glb.poweredOn = true)
    (awake : inBallast s = false) (linked : s.hst.mode ≠ 0) (live : s.pwr.linkPm ≠ 2) :
    exec (.conventionalReset k) s = .next (beginReset s k) := by
  have other : k ≠ 1 := by omega
  have begins : (k = 2 ∨ k = 3) ∧ s.hst.mode ≠ 0 ∧ s.pwr.linkPm ≠ 2 := ⟨kind, linked, live⟩
  change execConventionalReset k s = _
  simp only [execConventionalReset, powered, awake, if_neg other, if_pos begins]
  rfl

theorem deviceReset_leaves {s : State} {cause : Nat} :
    (deviceReset s cause).tsk = Tsk.reset ∧ (deviceReset s cause).kite = Kite.reset ∧ (deviceReset s cause).way = Way.reset ∧
      (deviceReset s cause).cmp = Cmp.reset ∧ (deviceReset s cause).arena = [] ∧ (deviceReset s cause).drc = { Drc.reset with
        marks := s.drc.marks, clamped := cause == 4 && s.drc.clamped } ∧ (deviceReset s cause).glb.booting = true ∧
      (deviceReset s cause).glb.ready = false ∧ (deviceReset s cause).glb.lastReset = cause ∧ (deviceReset s cause).med.flash
      = s.med.flash ∧ (deviceReset s cause).med.ring = s.med.ring ∧ (deviceReset s cause).flt.history = s.flt.history ∧
      (deviceReset s cause).glb.lifetime = s.glb.lifetime ∧ (deviceReset s cause).hostMem = s.hostMem :=
  ⟨rfl, rfl, rfl, rfl, rfl, rfl, rfl, rfl, rfl, rfl, rfl, rfl, rfl, rfl⟩

theorem perstDeassert_of_low {s : State} (low : s.pwr.perstN = false) :
    exec .perstDeassert s = .next
      (tapFollow (upGlb (upPwr s (fun p => { p with perstN := true, exitPending := false, exitPerst := false, linkPm := 0 }))
      (fun g => { g with configReady := true }))) := by
  change execPerstDeassert s = _
  simp only [execPerstDeassert, low]
  rfl

theorem flr_of_live {s : State} (linked : s.hst.mode ≠ 0) (config : s.glb.configReady = true) (live : s.pwr.linkPm ≠ 2)
    (serves : s.flt.containing.contains islHost = false) :
    exec .flr s = .next (reApprove (flrContexts (upHst (dropQueues (s.tsk.ops.foldl flrOp s)) Hst.flr))) := by
  have heeded : ¬ (s.hst.mode = 0 || !s.glb.configReady || s.pwr.linkPm == 2 || s.flt.containing.contains islHost) = true := by
    simp only [decide_eq_false linked, config, beq_eq_false_iff_ne.2 live, serves]
    decide
  change execFlr s = _
  simp only [execFlr, if_neg heeded]

theorem powerOn_of_dark {s : State} (dark : s.glb.poweredOn = false) :
    exec .powerOn s = .next (upHlt (upGlb (deviceReset (upPwr s (fun p => { p with railsGood := true })) 0) (fun g => { g with
        poweredOn := true })) (fun h => { h with coldDue := true })) :=
  if_neg (Bool.eq_false_iff.1 dark)

theorem boot_without_slot {s : State} {found : BootIn} (may : bootable s = true)
    (none_ : bootChoice (readSlots (upGlb s (fun g => { g with serviceStart := found.service, fpRxdLow := found.service }))) = none) :
    exec (.boot found) s = .next
      (romRecovery (readSlots (upGlb s (fun g => { g with serviceStart := found.service, fpRxdLow := found.service })))) := by
  change execBoot found s = _
  simp only [execBoot, may, none_]
  rfl

theorem boot_of_slot {s : State} {found : BootIn} {golden : Bool} {u : State} (may : bootable s = true)
    (slot : bootChoice (readSlots (upGlb s (fun g => { g with serviceStart := found.service, fpRxdLow := found.service }))) = some golden)
    (after : u = powerUpTests
    (startImage (readSlots (upGlb s (fun g => { g with serviceStart := found.service, fpRxdLow := found.service }))) golden)
    found.selftestFailed) (sound : u.sec.errorState = false) (dram : dramAgrees u found.board = true)
    (trains : found.board.trainOk = true) :
    exec (.boot found) s = .next (bootFlash (trainDram u found.board) golden found) := by
  subst after
  change execBoot found s = _
  simp only [execBoot, may, slot, sound, dram, trains]
  rfl

theorem bootFlash_of_matching {s : State} {golden : Bool} {found : BootIn} (trained : s.drc.trained = true)
    (matching : found.hashMismatch = false) (agrees : flashAgrees s found.board = true) :
    bootFlash s golden found = bootRecover (takeFlash s found.board) found := by
  have kept : (takeFlash s found.board).drc.trained = true := by rw [(takeFlash_fr s found.board).2 .drc (by decide), trained]
  simp only [bootFlash, trained, matching, agrees, kept]
  rfl

theorem bootRecover_of_recovered {s u : State} {found : BootIn} (recovers : recoverState (dropRoots s found.badRoots) (spareShare s)
    found.pjmUncorrectable found.dumpUnreadable found.mirror found.media = some u) (normal : (endHoldup u).glb.serviceStart = false) :
    (bootRecover s found).glb.ready = true ∧ (bootRecover s found).glb.booting = false ∧ (bootRecover s found).glb.startMs = found.ms %
      65536 := by
  simp only [bootRecover, recovers, bootDone, upGlb_glb, normal]
  exact ⟨rfl, rfl, rfl⟩

/-- Settles O19: each clause is the branch of its command that the clause's conditions select. -/
theorem resetsAndBootComplete : Obligations.ResetsAndBootComplete := by
  refine ⟨?_, ?_, ?_, ?_, ?_, ?_, ?_, ?_, ?_, ?_⟩
  · exact fun _ => conventionalReset_of_perst
  · exact fun _ _ => conventionalReset_of_link
  · exact fun _ _ => deviceReset_leaves
  · exact fun _ => perstDeassert_of_low
  · exact fun _ => flr_of_live
  · exact fun _ dark => ⟨_, powerOn_of_dark dark, rfl⟩
  · exact fun _ _ => boot_without_slot
  · exact fun _ _ _ _ => boot_of_slot
  · exact fun _ _ _ => bootFlash_of_matching
  · exact fun _ _ _ => bootRecover_of_recovered

end Sys2Proof.Machine
end

section
/-! SUPPORT. The control loop, throttling, AVSBus, the margin planner, test slices and forced windows (R431 to R446). Log entries 61 and 89
give the readings of the caps' first step, of an idle island and of the planner's slices. -/

namespace Sys2Proof.Machine
open Sys2Proof

/-! ### The control loop (R433, R435) -/

theorem loopAction_heeded {s : State} {i slack : Nat} (island : i < 45) (low : slack < 2) (untested : s.hlt.slice ≠ some i)
    (powered : s.pwr.state ≠ 3) : ¬ (45 ≤ i ∨ 2 ≤ slack ∨ s.hlt.slice = some i ∨ s.pwr.state = 3) :=
  not_or.2 ⟨Nat.not_le.2 island, not_or.2 ⟨Nat.not_le.2 low, not_or.2 ⟨untested, powered⟩⟩⟩

theorem loopAction_raises_voltage {s u : State} {i slack : Nat} (island : i < 45) (low : slack < 2) (untested : s.hlt.slice ≠ some i)
    (powered : s.pwr.state ≠ 3) (after : u = modIsland s i (fun m => { m with slack := slack }))
    (next : nextAction u i = some (.volt, false)) :
    exec (.loopAction i slack) s = .next
      (setRail (modIsland u i (fun m => { m with vNow := m.vNow + 5, actions := .volt :: m.actions, actedAt := u.glb.lifetime }))) := by
  subst after
  change execLoopAction i slack s = _
  simp only [execLoopAction, if_neg (loopAction_heeded island low untested powered), next]
  rfl

theorem loopAction_lowers_clock {s u : State} {i slack : Nat} (island : i < 45) (low : slack < 2) (untested : s.hlt.slice ≠ some i)
    (powered : s.pwr.state ≠ 3) (after : u = modIsland s i (fun m => { m with slack := slack }))
    (next : nextAction u i = some (.clock, false)) :
    exec (.loopAction i slack) s = .next
      (setRail (modIsland u i (fun m => { m with now := m.now - 1, actions := .clock :: m.actions, actedAt := u.glb.lifetime }))) := by
  subst after
  change execLoopAction i slack s = _
  simp only [execLoopAction, if_neg (loopAction_heeded island low untested powered), next]
  rfl

theorem loopAction_overrides_voltage {s u : State} {i slack : Nat} (island : i < 45) (low : slack < 2) (untested : s.hlt.slice ≠ some i)
    (powered : s.pwr.state ≠ 3) (after : u = modIsland s i (fun m => { m with slack := slack }))
    (next : nextAction u i = some (.volt, true)) :
    exec (.loopAction i slack) s = .next
      (override (setRail (modIsland u i (fun m => { m with
        vNow := m.vNow + 5, actions := .volt :: m.actions, actedAt := u.glb.lifetime }))) i) := by
  subst after
  change execLoopAction i slack s = _
  simp only [execLoopAction, if_neg (loopAction_heeded island low untested powered), next]
  rfl

theorem loopAction_overrides_clock {s u : State} {i slack : Nat} (island : i < 45) (low : slack < 2) (untested : s.hlt.slice ≠ some i)
    (powered : s.pwr.state ≠ 3) (after : u = modIsland s i (fun m => { m with slack := slack }))
    (next : nextAction u i = some (.clock, true)) :
    exec (.loopAction i slack) s = .next
      (override (setRail (modIsland u i (fun m => { m with
        now := m.now - 1, actions := .clock :: m.actions, actedAt := u.glb.lifetime }))) i) := by
  subst after
  change execLoopAction i slack s = _
  simp only [execLoopAction, if_neg (loopAction_heeded island low untested powered), next]
  rfl

theorem loopUndo_of_slack {s : State} {i slack : Nat} (island : i < 45) (top : slack ≤ 8) (slackened : s.hlt.slackTarget + 2 ≤ slack)
    (untested : s.hlt.slice ≠ some i) (powered : s.pwr.state ≠ 3) (late : (margin s i).actedAt + 100 ≤ s.glb.lifetime)
    (free : avsStuck s = false) :
    exec (.loopUndo i slack) s = .next (setRail (modIsland s i (fun m =>
      let n := { m with slack := slack, actedAt := s.glb.lifetime }
      match m.actions with
      | .volt :: l => { n with actions := l, vNow := max m.vTarget (m.vNow - 5) }
      | .clock :: l => { n with actions := l, now := min m.limit (m.now + 1) }
      | [] => if m.vTarget < m.vNow then { n with vNow := max m.vTarget (m.vNow - 5) } else n))) := by
  have acts : ¬ (45 ≤ i ∨ 8 < slack ∨ slack < s.hlt.slackTarget + 2 ∨ s.hlt.slice = some i ∨ s.pwr.state = 3 ∨
      s.glb.lifetime < (margin s i).actedAt + 100) := by
    simp only [not_or, not_le, not_lt]
    exact ⟨island, top, slackened, untested, powered, late⟩
  change execLoopUndo i slack s = _
  simp only [execLoopUndo, if_neg acts, free]
  refine congrArg (fun f => Host.Outcome.next (setRail (modIsland s i f))) (funext fun m => ?_)
  rcases m.actions with _ | ⟨_ | _, rest⟩ <;> rfl

/-! ### Throttling and the regulator (R436, R437) -/

/-- What of a thermal reading the steps of throttling leave as it is: the junction, whether the device throttles, and every sensor. -/
def ReadsSame (s t : State) : Prop :=
  t.glb.junction = s.glb.junction ∧ t.hlt.throttling = s.hlt.throttling ∧
    t.hlt.islands.map (fun m => m.temperature) = s.hlt.islands.map (fun m => m.temperature)

theorem ReadsSame.refl (s : State) : ReadsSame s s := ⟨rfl, rfl, rfl⟩

theorem ReadsSame.trans {s t u : State} (first : ReadsSame s t) (second : ReadsSame t u) : ReadsSame s u := by
  obtain ⟨junction, throttling, sensors⟩ := first
  exact ⟨second.1.trans junction, second.2.1.trans throttling, second.2.2.trans sensors⟩

theorem raise_readsSame (s : State) (src : Nat) : ReadsSame s (raise s src) := by
  have glb : (raise s src).glb = s.glb := (raise_frame s src).2 .glb (by decide)
  have hlt : (raise s src).hlt = s.hlt := (raise_frame s src).2 .hlt (by decide)
  exact ⟨by rw [glb], by rw [hlt], by rw [hlt]⟩

theorem thermalMove_readsSame (s : State) : ReadsSame s (thermalMove s) :=
  ⟨rfl, rfl, List.map_map.trans rfl⟩

theorem ReadsSame.ite {s t u : State} {c : Prop} [Decidable c] (yes : ReadsSame s t) (no : ReadsSame s u) :
    ReadsSame s (if c then t else u) := by
  split
  · exact yes
  · exact no

theorem thermalStep_readsSame (s : State) : ReadsSame s (thermalStep s) :=
  .ite (.ite (thermalMove_readsSame s) (.refl s)) (.ite (thermalMove_readsSame s) (.refl s))

theorem thermalMove_of_throttling {s : State} (throttling : s.hlt.throttling = true) :
    thermalMove s = upHlt s (fun h => { h with
      thermalAt := s.glb.lifetime, islands := h.islands.map (fun m =>
        let n := { m with thermal := min (m.cap - 1) (m.thermal + 1) }
        { n with now := min n.now n.limit }) }) := by
  simp only [thermalMove, throttling, if_true]

/-- A whole reading of the sensors: the junction, the decision to throttle, and the step that follows from it. -/
theorem thermalThrottle_of_readings {s : State} {l : List Int} (whole : l.length = 45) :
    ∃ t, exec (.thermalThrottle l) s = .next t ∧ t.glb.junction = l.foldl max (l.headD 0) / 10 ∧
      t.hlt.throttling = (decide (1000 ≤ l.foldl max (l.headD 0)) || (s.hlt.throttling && decide (980 ≤ l.foldl max (l.headD 0)))) ∧
      t.hlt.islands.map (fun m => m.temperature) =
        ((s.hlt.islands.zip l).map (fun x => { x.1 with temperature := x.2 })).map (fun m => m.temperature) := by
  refine ⟨_, if_neg (not_not_intro whole), ?_⟩
  exact (ReadsSame.trans (.ite ((thermalMove_readsSame _).trans (raise_readsSame _ _)) (thermalStep_readsSame _))
    (.ite (raise_readsSame _ _) (.refl _)))

theorem degradationMeasure_of_hour {s : State} {i d : Nat} (late : (margin s i).measuredAt + 3600000 ≤ s.glb.lifetime) :
    exec (.degradationMeasure i d) s = .next (modIsland s i (fun m => { m with degradation := d, measuredAt := s.glb.lifetime })) := by
  change execDegradationMeasure i d s = _
  simp [execDegradationMeasure, late]

theorem thermalThrottle_begins {s u : State} {l : List Int} (whole : l.length = 45) (hot : 1000 ≤ l.foldl max (l.headD 0))
    (below : l.foldl max (l.headD 0) < 1150) (cool : s.hlt.throttling = false)
    (after : u = upHlt (upGlb (upHlt s (fun h => { h with islands := (h.islands.zip l).map (fun x => { x.1 with temperature := x.2 }) }))
      (fun g => { g with junction := l.foldl max (l.headD 0) / 10 })) (fun h => { h with throttling := true })) :
    exec (.thermalThrottle l) s = .next (raise (thermalMove u) srcThrottle) := by
  subst after
  change execThermalThrottle l s = _
  simp only [execThermalThrottle, if_neg (not_not_intro whole), upGlb_hlt, upHlt_hlt, cool, decide_eq_true hot, Bool.true_or,
    Bool.not_false, Bool.and_self, if_true, if_neg (Int.not_le.2 below)]

theorem avsWriteFail_early {s : State} (early : s.hlt.avsTries ≠ 2) :
    exec .avsWriteFail s = .next (upHlt s (fun h => { h with avsErrors := satInc h.avsErrors, avsTries := min 3 (h.avsTries + 1) })) := by
  change execAvsWriteFail s = _
  simp only [execAvsWriteFail, decide_eq_false early, Bool.or_false, Bool.false_eq_true, if_false]
  rfl

theorem avsWriteFail_third {s : State} (third : s.hlt.avsTries = 2) :
    exec .avsWriteFail s = .next (raise (upHlt s (fun h => { h with avsErrors := satInc h.avsErrors, avsTries := 3, avsFault := true }))
      (unit islAon 3)) := by
  change execAvsWriteFail s = _
  simp only [execAvsWriteFail, third, decide_true, Bool.or_true, if_true]
  rfl

/-! ### The planner (R438, R440, R443) -/

theorem plannerRun_heeded {s : State} {i : Nat} (island : i < 45) (cool : s.hlt.throttling = false)
    (wanted : s.hlt.planRunning = true ∨ planDue s = true) :
    ¬ (45 ≤ i || s.hlt.throttling || (!s.hlt.planRunning && !planDue s)) = true := by
  rcases wanted with runs | due
  · simp [island, cool, runs]
  · simp [island, cool, due]

theorem plannerRun_starts {s u : State} {i : Nat} {f : PlanFound} (island : i < 45) (cool : s.hlt.throttling = false)
    (idle : s.hlt.planRunning = false) (due : planDue s = true) (after : u = startPlan s) (quiet : u.hlt.measuring = false)
    (free : sliceFree u i = true) :
    exec (.plannerRun i f) s = .next (startMeasure u i) := by
  subst after
  change execPlannerRun i f s = _
  simp only [execPlannerRun, if_neg (plannerRun_heeded island cool (.inr due)), if_neg (Bool.eq_false_iff.1 idle), Bool.false_eq_true,
    if_false, quiet, if_pos free]

theorem plannerRun_measures {s u : State} {i : Nat} {f : PlanFound} (island : i < 45) (cool : s.hlt.throttling = false)
    (runs : s.hlt.planRunning = true) (after : u = s) (quiet : u.hlt.measuring = false) (free : sliceFree u i = true) :
    exec (.plannerRun i f) s = .next (startMeasure u i) := by
  subst after
  change execPlannerRun i f u = _
  simp only [execPlannerRun, if_neg (plannerRun_heeded island cool (.inl runs)), if_pos runs, quiet, Bool.false_eq_true, if_false,
    if_pos free]

theorem plannerRun_ends {s : State} {i : Nat} {f : PlanFound} (island : i < 45) (cool : s.hlt.throttling = false)
    (runs : s.hlt.planRunning = true) (measures : s.hlt.measuring = true) (slice : s.hlt.slice = some i) :
    exec (.plannerRun i f) s = .next (endMeasure s i f) := by
  change execPlannerRun i f s = _
  simp only [execPlannerRun, if_neg (plannerRun_heeded island cool (.inl runs)), if_pos runs, if_pos measures, if_pos slice]

theorem planTimeout_of_late {s : State} (runs : s.hlt.planRunning = true) (sound : s.flt.faultN = false)
    (late : s.hlt.planStart + 7200000 ≤ s.glb.lifetime) :
    exec .planTimeout s = .next (finishPlan (dropMeasure s) true) := by
  change execPlanTimeout s = _
  simp [execPlanTimeout, runs, sound, late]

/-! ### Test slices and forced windows (R441 to R446) -/

theorem testSliceStart_of_free {s : State} {i : Nat} (first : 2 ≤ i) (last_ : i < 45) (unpaused : s.hlt.paused = false)
    (free : sliceFree s i = true) :
    exec (.testSliceStart i) s = .next (testCluster (needSet (wakeFor (upHlt s (fun h => { h with slice := some i })) i) i) i) := by
  have starts : ¬ (i < 2 ∨ 45 ≤ i ∨ s.hlt.paused = true ∨ (!sliceFree s i) = true) := by
    simp only [not_or, not_le, not_lt]
    exact ⟨first, last_, by simp [unpaused], by simp [free]⟩
  change execTestSliceStart i s = _
  simp only [execTestSliceStart, if_neg starts]

theorem testSliceAbort_of_slice {s : State} {i : Nat} (slice : s.hlt.slice = some i) :
    exec (.testSliceAbort i) s = .next (endSlice (upHlt s (fun h => { h with slicesAborted := wrapInc h.slicesAborted })) i) := by
  change execTestSliceAbort i s = _
  simp [execTestSliceAbort, slice]

theorem testSliceDone_heeded {s : State} {i : Nat} (slice : s.hlt.slice = some i) (quiet : s.hlt.measuring = false) :
    ¬ (s.hlt.slice ≠ some i ∨ s.hlt.measuring = true) := not_or.2 ⟨not_not_intro slice, Bool.eq_false_iff.1 quiet⟩

theorem testSliceDone_of_success {s : State} {i : Nat} {c : Bool} (slice : s.hlt.slice = some i) (quiet : s.hlt.measuring = false) :
    exec (.testSliceDone i true c) s = .next (modIsland (endSlice (upHlt s (fun h => { h with slicesDone := wrapInc h.slicesDone })) i) i
      (fun m =>
        if m.outstanding ≤ 1 then { m with
          outstanding := m.outstanding - 1, coverAge := 0,
          coveredAt := (endSlice (upHlt s (fun h => { h with slicesDone := wrapInc h.slicesDone })) i).glb.lifetime }
        else { m with outstanding := m.outstanding - 1 })) := by
  change execTestSliceDone i true c s = _
  simp only [execTestSliceDone, if_neg (testSliceDone_heeded slice quiet)]
  rfl

theorem testSliceDone_of_failure {s : State} {i : Nat} {c : Bool} (slice : s.hlt.slice = some i) (quiet : s.hlt.measuring = false) :
    exec (.testSliceDone i false c) s = .next (testFails (endSlice (upHlt s (fun h => { h with slicesDone := wrapInc h.slicesDone })) i) i
      c) := by
  change execTestSliceDone i false c s = _
  simp only [execTestSliceDone, if_neg (testSliceDone_heeded slice quiet)]
  rfl

theorem forcedWindowAnnounce_of_uncovered {s : State} {i : Nat} (first : 2 ≤ i) (last_ : i < 45) (unannounced : s.hlt.forced = false)
    (uncovered : 144 ≤ (margin s i).coverAge) :
    exec (.forcedWindowAnnounce i) s = .next
      (upHlt s (fun h => { h with forced := true, forcedIsland := i,
                                  forcedAt := s.glb.lifetime + (168 - (margin s i).coverAge) * 3600000 })) := by
  have announces : ¬ (i < 2 ∨ 45 ≤ i ∨ s.hlt.forced = true ∨ (margin s i).coverAge < 144) := by
    simp only [not_or, not_le, not_lt]
    exact ⟨first, last_, Bool.eq_false_iff.1 unannounced, uncovered⟩
  change execForcedWindowAnnounce i s = _
  simp only [execForcedWindowAnnounce, if_neg announces]

/-- The announced island's window falls due, apart from the one before it, with the device ready for it. -/
theorem forcedWindow_heeded {s : State} {i : Nat} (forced : s.hlt.forced = true) (announced : s.hlt.forcedIsland = i)
    (due : s.hlt.forcedAt ≤ s.glb.lifetime) (apart : s.hlt.forcedWindows = 0 ∨ s.hlt.lastForced + 100 ≤ s.glb.lifetime)
    (unsliced : s.hlt.slice = none) (shallow : s.pwr.state < 2) (still : s.pwr.trans = none) (undumped : s.med.dumpActive = false)
    (up : inReset s i = false) :
    ¬ (!(false || (s.hlt.forced && s.hlt.forcedIsland == i && decide (s.hlt.forcedAt ≤ s.glb.lifetime))) ||
      !(s.hlt.forcedWindows == 0 || decide (s.hlt.lastForced + 100 ≤ s.glb.lifetime)) || s.hlt.slice.isSome || decide (2 ≤ s.pwr.state) ||
      s.pwr.trans.isSome || s.med.dumpActive || inReset s i) = true := by
  simp [forced, announced, due, unsliced, shallow, still, undumped, up]
  exact apart.resolve_left

theorem forcedWindow_of_announced {s u : State} {i : Nat} {c : Bool} (unnamed : s.hlt.testRun = none) (forced : s.hlt.forced = true)
    (announced : s.hlt.forcedIsland = i) (due : s.hlt.forcedAt ≤ s.glb.lifetime)
    (apart : s.hlt.forcedWindows = 0 ∨ s.hlt.lastForced + 100 ≤ s.glb.lifetime)
    (unsliced : s.hlt.slice = none) (shallow : s.pwr.state < 2) (still : s.pwr.trans = none) (undumped : s.med.dumpActive = false) (up : inReset s i = false) (after : u = needSet s i) (unnamed2 : u.hlt.testRun = none)
    (forced2 : u.hlt.forced = true) (announced2 : u.hlt.forcedIsland = i) :
    exec (.forcedWindow i true c) s = .next
      (upHlt (modIsland (upHlt u (fun h => { h with
        forcedWindows := satInc h.forcedWindows, lastForced := u.glb.lifetime,
        slicesDone := (h.slicesDone + (margin u i).outstanding) % 2 ^ 32 })) i (fun m => { m with
        outstanding := 0, coverAge := 0, coveredAt := u.glb.lifetime })) (fun h => { h with forced := false })) := by
  subst after
  change execForcedWindow i true c s = _
  simp only [execForcedWindow, unnamed, if_neg (forcedWindow_heeded forced announced due apart unsliced shallow still undumped up),
    Bool.false_eq_true, if_false, if_true, modIsland, upHlt_hlt, forced2, announced2, unnamed2, beq_self_eq_true, Bool.and_self]
  rfl

/-- Settles O41: each clause is the branch of its command that the clause's conditions select. -/
theorem healthCommandsComplete : Obligations.HealthCommandsComplete := by
  refine ⟨?_, ?_, ?_, ?_, ?_, ?_, ?_, ?_, ?_, ?_, ?_, ?_, ?_, ?_, ?_, ?_, ?_, ?_, ?_, ?_⟩
  · exact fun _ _ _ _ => loopAction_raises_voltage
  · exact fun _ _ _ _ => loopAction_lowers_clock
  · exact fun _ _ _ _ => loopAction_overrides_voltage
  · exact fun _ _ _ _ => loopAction_overrides_clock
  · exact fun _ _ _ => loopUndo_of_slack
  · exact fun _ _ _ => degradationMeasure_of_hour
  · exact fun s l top acts whole hottest decides => by subst decides hottest; exact thermalThrottle_of_readings whole
  · intro s u l top whole hottest hot below cool after
    subst hottest
    have throttles : u.hlt.throttling = true := by rw [after]; rfl
    rw [thermalThrottle_begins whole hot below cool after, thermalMove_of_throttling throttles, after]
    rfl
  · exact fun _ => avsWriteFail_early
  · exact fun _ => avsWriteFail_third
  · exact fun _ _ _ _ => plannerRun_starts
  · exact fun _ _ _ _ => plannerRun_measures
  · exact fun _ _ _ => plannerRun_ends
  · exact fun _ => planTimeout_of_late
  · exact fun _ _ => testSliceStart_of_free
  · exact fun _ _ => testSliceAbort_of_slice
  · exact fun _ _ _ => testSliceDone_of_success
  · exact fun _ _ _ => testSliceDone_of_failure
  · exact fun _ _ => forcedWindowAnnounce_of_uncovered
  · exact fun _ _ _ _ => forcedWindow_of_announced

end Sys2Proof.Machine
end

section
/-! SUPPORT. A test slice that fails (R445). Log entry 61 fixes the number of slices of a set, 1 to 16. -/

namespace Sys2Proof.Machine
open Sys2Proof

theorem margin_modIsland_self {s : State} {i : Nat} (there : i < s.hlt.islands.length) (f : IslandMargin → IslandMargin) :
    margin (modIsland s i f) i = f (margin s i) := lmod_getD_self there f _

theorem length_islands_modIsland (s : State) (i : Nat) (f : IslandMargin → IslandMargin) :
    (modIsland s i f).hlt.islands.length = s.hlt.islands.length := length_lmod _ i f

theorem length_islands_newSet (s : State) (i : Nat) : (newSet s i).hlt.islands.length = s.hlt.islands.length :=
  length_islands_modIsland _ i _

theorem newSet_outstanding {s : State} {i : Nat} (there : i < s.hlt.islands.length) :
    1 ≤ (margin (newSet s i) i).outstanding ∧ (margin (newSet s i) i).outstanding ≤ 16 := by
  have set_ : (margin (newSet s i) i).outstanding = (freeBelow s 16).1 + 1 :=
    congrArg IslandMargin.outstanding (margin_modIsland_self (s := (freeBelow s 16).2) there _)
  exact set_ ▸ ⟨Nat.le_add_left 1 _, freeBelow_lt s (by decide)⟩

/-- The end of a slice touches nothing of an island but what says that the slice runs. -/
theorem endSlice_after (s : State) (i : Nat) :
    ChangesOnly [.pwr, .kite] (upHlt s (fun h => { h with slice := none, measuring := false })) (endSlice s i) := by
  unfold endSlice
  split
  · exact ChangesOnly.step (backToGlide_fr _ _) (by decide) (ChangesOnly.refl _ _)
  · refine ChangesOnly.step (settleRing_fr _ _) (by decide) (ChangesOnly.foldl (fun _ _ => ?_) ?_)
    · exact ChangesOnly.step (modCore_fr _ _ _) (by decide) (ChangesOnly.refl _ _)
    · exact ChangesOnly.step (modCluster_fr _ _ _) (by decide)
        (ChangesOnly.step (backToGlide_fr _ _) (by decide) (ChangesOnly.refl _ _))

theorem endSlice_islands (s : State) (i : Nat) : (endSlice s i).hlt.islands = s.hlt.islands := by
  rw [(endSlice_after s i).2 .hlt (by decide)]
  rfl

/-- Settles O55: the failed island takes a new set and FAILED before TEST_FAIL is raised. -/
theorem testSliceFailure : Obligations.TestSliceFailure := by
  intro s i crypto slice quiet there
  have ended := endSlice_islands (upHlt s (fun h => { h with slicesDone := wrapInc h.slicesDone })) i
  have still := ended ▸ there
  have again := newSet_outstanding still
  have failed := margin_modIsland_self (length_islands_newSet _ i ▸ still) (fun m => { m with failed := true })
  refine ⟨_, testSliceDone_of_failure slice quiet, ?_⟩
  rw [failed]
  exact ⟨rfl, again⟩

end Sys2Proof.Machine
end

section
/-! SUPPORT. FW_DOWNLOAD, FW_ACTIVATE and the activation reset (R460, R463 to R465). Log entries 23, 45 and 90 give the readings of a slot while it is
programmed and of what is programmed. -/

namespace Sys2Proof.Machine
open Sys2Proof

theorem fwDownload_stages {s : State} {tag : Nat} {o : Op} {host : HostRead} {d : List Byte} (found : opFor s tag 0x0105 = some o)
    (staging : norDirect s = false) (read : input s o host o.pkt.dlen = some (.data d)) :
    exec (.fwDownload tag host) s = .next (finish (stageDownload s o.pkt.p1 o.pkt.p0 d) tag (ok 0 0)) := by
  change execFwDownload tag host s = _
  simp only [execFwDownload, found, staging, read]
  rfl

theorem fwDownload_in_recovery {s : State} {tag : Nat} {o : Op} {host : HostRead} {d : List Byte} (found : opFor s tag 0x0105 = some o)
    (recovery : norDirect s = true) (read : input s o host o.pkt.dlen = some (.data d)) :
    exec (.fwDownload tag host) s = .next (finish (recoveryDownload s o.pkt.p0 d) tag (ok 0 0)) := by
  change execFwDownload tag host s = _
  simp only [execFwDownload, found, recovery, read]
  rfl

theorem fwActivate_begins {s : State} {tag : Nat} {o : Op} {nor : Bool} (found : opFor s tag 0x0106 = some o)
    (waiting : o.stage ≠ .running) (staging : norDirect s = false) (staged : s.glb.stagedTarget = some o.pkt.p0) (target : o.pkt.p0 = 0)
    (sound : slotState s.glb.staged s.glb.keyDigest = 0) (free : s.glb.programming = none) :
    exec (.fwActivate tag nor) s = .next (running (upGlb s (fun g => { g with programming := some g.staged, primary := NorSlot.reset }))
      tag) := by
  have primary : ¬ (o.pkt.p0 = 1 ∧ (s.glb.primary.state ≠ 0 ∨ o.pkt.p1 = 1)) := fun golden => by simp [target] at golden
  change execFwActivate tag nor s = _
  simp only [execFwActivate, found, if_neg waiting, staging, if_neg (not_not_intro staged), if_neg primary, if_neg (not_not_intro sound),
    free]
  simp only [target]
  rfl

theorem fwActivate_of_programmed {s : State} {tag : Nat} {o : Op} (nor : Bool) (found : opFor s tag 0x0106 = some o)
    (programs : o.stage = .running) : exec (.fwActivate tag nor) s = .next (endActivate s o nor) := by
  change execFwActivate tag nor s = _
  simp only [execFwActivate, found, if_pos programs]

/-- The slot for target 0 takes what its programming holds, which changes GLB alone. -/
theorem programSlot_primary {s : State} {b : SlotBytes} (held : s.glb.programming = some b) :
    (programSlot s false true).glb.primary = slotOf b s.glb.keyDigest ∧ (programSlot s false true).glb.programming = none ∧
      (programSlot s false true).glb.golden = s.glb.golden ∧ (programSlot s false true).glb.activations = s.glb.activations ∧
      (programSlot s false true).glb.lifetime = s.glb.lifetime ∧ ChangesOnly [.glb] s (programSlot s false true) := by
  have slot : (programSlot s false true).glb.primary = slotOf (s.glb.programming.getD []) s.glb.keyDigest := rfl
  rw [slot, held]
  exact ⟨rfl, rfl, rfl, rfl, rfl, upGlb_fr _ _⟩

theorem fwActivate_pends {s : State} {tag : Nat} {o : Op} {b : SlotBytes} (found : opFor s tag 0x0106 = some o)
    (programs : o.stage = .running) (held : s.glb.programming = some b) (target : o.pkt.p0 = 0) (later : o.pkt.p1 = 0)
    (same : o.tag = tag) :
    ∃ t, exec (.fwActivate tag true) s = .next (finish t tag (ok 0 s.glb.fwVersion)) ∧ t.glb.primary = slotOf b s.glb.keyDigest ∧
      t.glb.programming = none ∧ t.glb.golden = s.glb.golden ∧ t.glb.activations = s.glb.activations + 1 ∧
      t.glb.lastActivation = s.glb.lifetime ∧ t.glb.activatePending = true ∧ ChangesOnly [.glb] s t := by
  obtain ⟨primary, programming, golden, activations, lifetime, only⟩ := programSlot_primary held
  refine ⟨upGlb (upGlb (programSlot s false true) (fun g => { g with activations := g.activations + 1, lastActivation := g.lifetime }))
    (fun g => { g with activatePending := true }), ?_, primary, programming, golden, congrArg (· + 1) activations, lifetime, rfl,
    only.trans ((upGlb_fr _ _).trans (upGlb_fr _ _))⟩
  rw [fwActivate_of_programmed true found programs]
  simp only [endActivate, target, later, same]
  rfl

theorem fwActivate_resets {s : State} {tag : Nat} {o : Op} {b : SlotBytes} (found : opFor s tag 0x0106 = some o)
    (programs : o.stage = .running) (held : s.glb.programming = some b) (target : o.pkt.p0 = 0) (now : o.pkt.p1 = 1)
    (same : o.tag = tag) :
    ∃ t, exec (.fwActivate tag true) s = .next (finish t tag (ok 0 (slotVersion b))) ∧ t.glb.primary = slotOf b s.glb.keyDigest ∧
      t.glb.programming = none ∧ t.glb.golden = s.glb.golden ∧ t.glb.activations = s.glb.activations + 1 ∧ t.glb.activation = some tag ∧
      ChangesOnly [.glb] s t := by
  obtain ⟨primary, programming, golden, activations, -, only⟩ := programSlot_primary held
  refine ⟨upGlb (upGlb (programSlot s false true) (fun g => { g with activations := g.activations + 1, lastActivation := g.lifetime }))
    (fun g => { g with activation := some tag }), ?_, primary, programming, golden, congrArg (· + 1) activations, rfl,
    only.trans ((upGlb_fr _ _).trans (upGlb_fr _ _))⟩
  rw [fwActivate_of_programmed true found programs]
  simp only [endActivate, target, now, same, held]
  rfl

theorem fwActivate_of_unsound {s : State} {tag : Nat} {o : Op} {nor : Bool} (found : opFor s tag 0x0106 = some o)
    (waiting : o.stage ≠ .running) (staging : norDirect s = false) (staged : s.glb.stagedTarget = some o.pkt.p0) (target : o.pkt.p0 = 0)
    (unsound : slotState s.glb.staged s.glb.keyDigest ≠ 0) (config : slotState s.glb.staged s.glb.keyDigest ≠ 3) :
    exec (.fwActivate tag nor) s = .next (finish s tag (bad 0x18)) := by
  have primary : ¬ (o.pkt.p0 = 1 ∧ (s.glb.primary.state ≠ 0 ∨ o.pkt.p1 = 1)) := fun golden => by simp [target] at golden
  change execFwActivate tag nor s = _
  simp only [execFwActivate, found, if_neg waiting, staging, if_neg (not_not_intro staged), if_neg primary, if_pos unsound, if_neg config]
  rfl

theorem activationReset_of_replied {s : State} {tag : Nat} (pending_ : s.glb.activation = some tag) (replied : findOp s tag = none) :
    exec .activationReset s = .next (beginReset (upGlb s (fun g => { g with activation := none })) 5) := by
  change execActivationReset s = _
  simp only [execActivationReset, pending_, replied]
  rfl

/-- Settles O6: each clause is the branch of its command that the clause's conditions select. -/
theorem firmwareCommandsComplete : Obligations.FirmwareCommandsComplete := by
  refine ⟨?_, ?_, ?_, ?_, ?_, ?_, ?_⟩
  · exact fun _ _ _ _ _ => fwDownload_stages
  · exact fun _ _ _ _ _ => fwDownload_in_recovery
  · exact fun _ _ _ _ => fwActivate_begins
  · exact fun _ _ _ _ => fwActivate_pends
  · exact fun _ _ _ _ => fwActivate_resets
  · exact fun _ _ _ _ => fwActivate_of_unsound
  · exact fun _ _ => activationReset_of_replied

end Sys2Proof.Machine
end

section
/-! SUPPORT. The tick of an empty queue: 1 ms of device lifetime (log entry 2). -/

namespace Sys2Proof.Machine
open Sys2Proof

/-- The steps of a tick after its millisecond is counted leave GLB and PWR, and of SEC all but the age of the self-test. -/
theorem tick_after_tickMs {s : State} (powered : s.glb.poweredOn = true) :
    (tick s).glb = (tickMs s).glb ∧ (tick s).pwr = (tickMs s).pwr ∧ (tick s).sec.errorState = s.sec.errorState := by
  have glb : (thermalStep (tickMs s)).glb = (tickMs s).glb := (thermalStep_fr (tickMs s)).2 .glb (by decide)
  have pwr : (thermalStep (tickMs s)).pwr = (tickMs s).pwr := (thermalStep_fr (tickMs s)).2 .pwr (by decide)
  have sec : (thermalStep (tickMs s)).sec = s.sec := (thermalStep_fr (tickMs s)).2 .sec (by decide)
  have counts : tick s = if (thermalStep (tickMs s)).glb.lifetime % 1000 = 0 then tickAges (thermalStep (tickMs s))
      else thermalStep (tickMs s) := if_neg (by simp [powered])
  have errors : (thermalStep (tickMs s)).sec.errorState = s.sec.errorState := by rw [sec]
  rw [counts]
  split <;> exact ⟨glb, pwr, errors⟩

theorem tickMs_power (s : State) : (tickMs s).pwr.state = s.pwr.state ∧ (tickMs s).pwr.trans = s.pwr.trans := by
  simp only [tickMs]
  split <;> exact ⟨rfl, rfl⟩

/-- Settles O44: the frame of the tick gives what it leaves, and its millisecond what it counts. -/
theorem idleStepIsATick : Obligations.IdleStepIsATick := by
  refine ⟨fun s empty => ?_, fun s powered => ?_, fun s dark => if_pos (by simp [dark])⟩
  · simp only [step, empty]
  · obtain ⟨glb, pwr, errors⟩ := tick_after_tickMs powered
    obtain ⟨state, trans⟩ := tickMs_power s
    obtain ⟨queue, parts⟩ := tick_fr s
    exact ⟨by rw [glb]; rfl, queue, parts .tsk (by decide), parts .med (by decide), parts .pair (by decide), errors, by rw [pwr, state],
      by rw [pwr, trans], parts .hst (by decide), parts .way (by decide), parts .cmp (by decide), parts .hostMem (by decide),
      parts .arena (by decide), parts .free (by decide)⟩

end Sys2Proof.Machine
end
